-- ==== Sys2Proof/Word.lean ====
section
/-! DEFINITION. The byte of the block's memory, and the widths a field can have. -/

namespace Sys2Proof

/-- One byte of memory (R6). -/
abbrev Byte := BitVec 8

/-- `x` fits a field of `w` bits. -/
abbrev fits (x w : Nat) : Prop := x < 2 ^ w

end Sys2Proof
end

