-- ==== Sys2Proof/Syntax.lean ====
section
/-! DEFINITION. The commands the block takes: the operands they carry and the one inductive `Instr` of them, one
constructor per row of the opcode table, in the table's order. -/

namespace Sys2Proof

/-- Completion status codes (R10). -/
inductive Status where
  | ok | okSubst | defer | poison | keyDenied | epochStale | notOwner | conflict | badLength | checkFail
  | tenantBlocked | unsupported | resetDiscard | internal
  deriving DecidableEq, Repr

/-- The two ports the dictionary is reached by (chapter 14). -/
inductive Port where
  | i3c | eth
  deriving DecidableEq, Repr

/-- Where a request came in, and where its completion leaves (R29, R438, R460). -/
inductive Via where
  /-- Adrun link 0 to 15. -/
  | link (n : Nat)
  /-- An Ethernet queue pair. -/
  | eth (qp : Nat)
  /-- A command object of the dictionary, written in a session. -/
  | dap (port : Port) (session : Nat)
  deriving DecidableEq, Repr

/-- The 24-byte request header, field by field (R29); the opcode is the command itself. `reserved` holds every
reserved bit of the header, in any packing: what matters is whether it is zero. -/
structure Hdr where
  via : Via
  cls : Nat
  tag : Nat
  epoch : Nat
  tenant : Nat
  requester : Nat
  key : Nat
  package : Nat
  offset : Nat
  length : Nat
  reserved : Nat
  deriving DecidableEq, Repr

/-- A message of the Dictionary Access Protocol (R456). `count` is the number of bytes that follow the header,
`value` their little-endian number, `secured` says that the message came inside a secured SPDM message of its
session (R584). -/
structure DapMsg where
  port : Port
  session : Nat
  seq : Nat
  actingTenant : Nat
  index : Nat
  sub : Nat
  segOffset : Nat
  totalLength : Nat
  valueLength : Nat
  count : Nat
  version : Nat
  reserved : Nat
  value : Nat
  secured : Bool
  deriving DecidableEq, Repr

/-- What another unit or package answers to an access the block makes: a status and, little-endian, the data. -/
structure Remote where
  status : Status
  data : Nat
  deriving DecidableEq, Repr

/-- The straps sampled at power-up and at the end of a reset hold (R612). -/
structure Straps where
  master : Bool
  i3c : Nat
  deriving DecidableEq, Repr

/-- What verification finds in one firmware slot (R525, R541): whether it holds an image whose layout and digest are
right, whether its signature verifies, its versions, and its digest. Of a staged image the signature and the digest follow from
the bytes staged. -/
structure FwFound where
  present : Bool
  digestOk : Bool
  sigOk : Bool
  version : Nat
  securityVersion : Nat
  digest : Nat
  deriving DecidableEq, Repr

/-- One cause of a self-test step (R530): its code, the die, the unit. -/
structure SelfCause where
  cause : Nat
  die : Nat
  unit : Nat
  deriving DecidableEq, Repr

/-- What flash discovery finds (R532): the bytes of the far tier and the read times. -/
structure FlashFound where
  farBytes : Nat
  farReadNs : Nat
  chamoisReadNs : Nat
  deriving DecidableEq, Repr

/-- A flit that arrives (R383, R386): its link, its 256 bytes as they were sent, and how many of its bytes arrive wrong. -/
structure Flit where
  link : Nat
  image : Nat
  wrong : Nat
  deriving DecidableEq, Repr

/-- The utilisation of one Oryx engine at the end of a shard window, in 1/1,000 (R260). -/
structure EngineLoad where
  pkg : Nat
  slice : Nat
  utilisation : Nat
  space : Nat
  draining : Bool
  deriving DecidableEq, Repr

/-- A row of an Oryx table: the table slot, the version and the row number, and the package that holds the table (R257). -/
structure RowRef where
  slot : Nat
  version : Nat
  row : Nat
  home : Nat
  deriving DecidableEq, Repr

/-- A row operation that the home of a row in another package forwards to this one, where the row lives: the operation,
its flag and learning rate as a request body has them (R244), and the row data or the gradients (R261). -/
structure RowCall where
  row : RowRef
  body : Nat
  value : Nat
  deriving DecidableEq, Repr

/-- What comes to an engine with a row operation (R257): the data of the request's own row as another package answered its
read, the answer of the package where the row lives, the acknowledgements of the writes elsewhere, and the operation where it was
forwarded to this package (R261). -/
structure RowInput where
  data : List Remote
  answer : Remote
  acks : List Status
  guest : Option RowCall
  deriving DecidableEq, Repr

/-- A slot granted to a row (R261): its offset, and the descriptor and the tenant of the row's table. -/
structure HotSlot where
  offset : Nat
  desc : Nat
  tenant : Nat
  deriving DecidableEq, Repr

/-- What other packages acknowledged a query's writes with (R283): the result rows, and the header. -/
structure QueryAcks where
  rows : List Status
  header : Status
  deriving DecidableEq, Repr

/-- A RoCE packet of a SEND: its queue pair's number and its packet number (R436). -/
structure SendPacket where
  qp : Nat
  psn : Nat
  deriving DecidableEq, Repr

/-- What a package that joins a domain gets from the master beside the domain's objects (R569, R574): the member it becomes, none
where the domain takes it in later; the active entries of the member whose place it takes, each with its object number and the
entries that answer to it at the other members; and whether those are rebuilt, or else copied. -/
structure Joining where
  index : Option Nat
  entries : List (Nat × Nat × List Nat)
  rebuild : Bool
  deriving DecidableEq, Repr

/-- What the master sends a member with a new generation (R322 to R324, R349, R567, R569): the agents declared dead; domain
objects, by 256 times the index plus the sub-index; the new partner packages of objects; and what makes a package join. -/
structure DomainNews where
  dead : List Nat
  objects : List (Nat × Nat)
  partners : List (Nat × Nat)
  join : Option Joining
  deriving DecidableEq, Repr

/-- A write that a call made: fabric address, bytes, little-endian data, whether it was computed from poisoned input (R129),
and what another package acknowledged it with (R128). -/
structure CallWrite where
  address : Nat
  bytes : Nat
  data : Nat
  poisoned : Bool
  ack : Status
  deriving DecidableEq, Repr

/-- How a call on a configuration ends (R128): its status, its result word, the writes it made and whether it read
substituted data. -/
structure CallResult where
  status : Status
  result : Nat
  writes : List CallWrite
  subst : Bool
  deriving DecidableEq, Repr

/-- Why a cluster's load failed (R117). -/
inductive LoadFault where
  | digest | readBack | poison
  deriving DecidableEq, Repr

/-- What an engine access does. -/
inductive AccessKind where
  | load | acquireLoad | store | releaseStore | atomic
  deriving DecidableEq, Repr

/-- An access of one of the package's engines (R355, R293): the unit (a die number), the engine within it, the tenant,
the context of an access by virtual address (none: a fabric address), the address, the bytes and, for a store, their
little-endian value. -/
structure EngineAccess where
  die : Nat
  engine : Nat
  tenant : Nat
  context : Option Nat
  address : Nat
  bytes : Nat
  kind : AccessKind
  data : Nat
  deriving DecidableEq, Repr

/-- An Ethernet frame (R428, R429): whether the frame check is right, its bytes from the destination address on, the destination
MAC address, the identifiers of its VLAN tags and its priority; whether its packet is IPv6, the packet's destination, whether
it is a fragment, and its UDP destination port, none for ARP, neighbour solicitation and echo; and of a RoCEv2 packet the queue
pair, the congestion mark, and whether its own check is right. -/
structure EthFrame where
  fcsOk : Bool
  bytes : Nat
  mac : Nat
  tags : List Nat
  priority : Nat
  v6 : Bool
  dest : Nat
  fragment : Bool
  port : Option Nat
  qp : Nat
  ce : Bool
  icrcOk : Bool
  deriving DecidableEq, Repr

/-- A one-sided RoCEv2 request (R433 to R437). -/
structure RdmaReq where
  qp : Nat
  psn : Nat
  address : Nat
  rkey : Nat
  length : Nat
  deriving DecidableEq, Repr

/-- An SPDM request (R581): the port, the DAP or SPDM session it names, its parameters and payload as numbers, and how
many bytes it has. -/
structure SpdmMsg where
  port : Port
  session : Nat
  param : Nat
  payload : Nat
  bytes : Nat
  deriving DecidableEq, Repr

/-- A member's answer to domain_form (R322): its member_index, the digest it holds, and whether the member list entry at
that index is its package_number. -/
structure MemberAnswer where
  index : Nat
  digest : Nat
  listed : Bool
  deriving DecidableEq, Repr

/-- What the memory test of step HBM finds after a full package reset with power present (R531, R553): the lines found
uncorrectable, by offset / 64, and whether a line of the extent maps is. -/
structure WarmCheck where
  lines : List Nat
  mapBad : Bool
  deriving DecidableEq, Repr

/-- The readings that a lifetime-meter update adds (R595). -/
structure LifeReading where
  values : List (Nat × Nat)
  deriving DecidableEq, Repr

/-- An access through the scratchpad window (R51, R52). -/
structure WindowAccess where
  hdr : Hdr
  write : Bool
  data : Nat
  deriving DecidableEq, Repr

/-- What the sequencer generates for a step (R47, R49): the scratchpad addresses of read ports A and B, the constant-store
address, the first accumulator entry presented, 8 bytes of its own, whether the scratchpad write port takes data and at which
address, whether the router output takes data and for which tile of the cluster, and the loop counters after the step. -/
structure Feed where
  a : Nat
  b : Nat
  k : Nat
  entry : Nat
  imm : Nat
  write : Bool
  w : Nat
  send : Bool
  peer : Nat
  loops : List Nat
  deriving DecidableEq, Repr

/-- What the sequencer generates for the two scratchpad read ports (R49): their addresses. -/
structure FeedPads where
  a : Nat
  b : Nat
  deriving DecidableEq, Repr

/-- What the sequencer generates for the other sources (R47, R49): the constant-store address, the accumulator entry presented
and 8 bytes of its own. -/
structure FeedOwn where
  k : Nat
  entry : Nat
  imm : Nat
  deriving DecidableEq, Repr

/-- What the sequencer generates for every source. -/
structure FeedSource where
  pads : FeedPads
  own : FeedOwn
  deriving DecidableEq, Repr

/-- What the sequencer generates for the two sinks that move data away, and its loop counters after the step (R47, R49). -/
structure FeedOut where
  write : Bool
  w : Nat
  send : Bool
  peer : Nat
  loops : List Nat
  deriving DecidableEq, Repr

/-- What the sequencer generates for a step, from its parts. -/
def Feed.of (i : FeedSource) (o : FeedOut) : Feed :=
  ⟨i.pads.a, i.pads.b, i.own.k, i.own.entry, i.own.imm, o.write, o.w, o.send, o.peer, o.loops⟩

/-- The parts of what the sequencer generates for a step. -/
def Feed.pads (f : Feed) : FeedPads := ⟨f.a, f.b⟩
@[inherit_doc Feed.pads]
def Feed.own (f : Feed) : FeedOwn := ⟨f.k, f.entry, f.imm⟩
@[inherit_doc Feed.pads]
def Feed.out (f : Feed) : FeedOut := ⟨f.write, f.w, f.send, f.peer, f.loops⟩

/-- A store of a tile, with what the sequencer generates for its data (R356). -/
structure TileStore where
  access : EngineAccess
  feed : Feed
  deriving DecidableEq, Repr

/-- A matrix-vector step of a tile (R57 to R66): the formats of the matrix and the vector operand, the first accumulator
entry, the elements of the block that the dot product has, the 8 scale bytes of the matrix operand and the vector's, and
whether the accumulators start at zero. -/
structure MvStep where
  wfmt : Nat
  vfmt : Nat
  entry : Nat
  count : Nat
  wscales : Nat
  vscale : Nat
  clear : Bool
  deriving DecidableEq, Repr

/-- A matrix-vector step with what the sequencer generates for it. -/
structure MvRun where
  step : MvStep
  feed : Feed
  deriving DecidableEq, Repr

/-- The vector unit's operations (R75): `select` takes lane a where lane c is not zero, and otherwise lane b. -/
inductive VecOp where
  | add | sub | mul | fma | min | max | cmpLt | cmpEq | select
  deriving DecidableEq, Repr

/-- The vector unit's special functions (R77). -/
inductive SpecialFn where
  | exp2 | exp | log2 | log | recip | divide | rsqrt | sqrt | sigmoid | tanh | silu | geluTanh
  deriving DecidableEq, Repr

/-- The commands of the block, in the order of the opcode table; each constructor cites the rule that names its row. -/
inductive Instr where
  /-- INPUT_STABLE (R500): The input has stood at 54 V or more for 10 ms, so the power die leaves OFF and starts the cold-start path. -/
  | inputStable (mv : Nat)
  /-- PACKAGE_BUS_REGULATED (R524): The 6 V package bus reaches regulation, so the Fumarole domain starts, the time counter starts at zero and the package enters FUMAROLE_ONLY. -/
  | packageBusRegulated (straps : Straps) (ref : Bool)
  /-- INPUT_LOW_WARNING (R500): The input falls below 56 V, and power_event is raised with cause INPUT_LOW. -/
  | inputLowWarning (mv : Nat)
  /-- INPUT_LOSS (R500): The input stays below 54 V or above 80 V for more than 100 µs, so every rail is removed and the package enters OFF. -/
  | inputLoss (mv : Nat)
  /-- ROT_VERIFY_DONE (R525): The root of trust finishes verifying the firmware slots and boots a slot, falls back to the other slot, or holds the management core in reset. -/
  | rotVerifyDone (slotA slotB : FwFound) (logBreak : Option Nat)
  /-- MGMT_CORE_READY (R524): The management core restores the saved image and brings the dictionary live on I3C, so the package enters SELF_TEST and the self-test steps begin. -/
  | mgmtCoreReady
  /-- SELFTEST_STEP_END (R529): A self-test step ends on its dies, and its result word and causes are recorded. -/
  | selftestStepEnd (step : Nat) (causes : List SelfCause) (flash : Option FlashFound) (warm : WarmCheck)
  /-- SELFTEST_STEP_TIMEOUT (R528): A self-test step passes its bound and ends with cause TIMEOUT. -/
  | selftestStepTimeout (step die unit : Nat)
  /-- ENTER_STANDING (R545): A guarded write of 1 to enter_standing sends the package to STANDING with RUNTIME cause COMMANDED. -/
  | enterStanding (d : DapMsg)
  /-- PKG_RESET_N_ASSERT (R612): PKG_RESET_N is sampled low for 1.0 µs, which triggers a full package reset. -/
  | pkgResetNAssert
  /-- PKG_RESET_N_RELEASE (R536): PKG_RESET_N is released after a hold, the reset timeline runs and the straps are sampled. -/
  | pkgResetNRelease (straps : Straps)
  /-- PKG_RESET (R536): A guarded write of 1 to pkg_reset is answered, and the reset is scheduled 100 µs later. -/
  | pkgReset (d : DapMsg)
  /-- PKG_RESET_TRIGGER (R536): The 100 µs after the pkg_reset response expire, and the full package reset begins. -/
  | pkgResetTrigger
  /-- RESET_SHUTDOWN_DONE (R536): At 1 ms into a reset every fast domain is OFF, the package enters FUMAROLE_ONLY, reset_count advances and the root of trust restarts. -/
  | resetShutdownDone
  /-- WATCHDOG_EXPIRY (R527): The management core has not answered its watchdog for 2 s, so it is restarted from the running slot. -/
  | watchdogExpiry
  /-- REFCLK_LOSS (R618): The board reference is lost for more than 10 µs while a fast domain is awake, so the package enters STANDING with DIE_FAULT. -/
  | refclkLoss
  /-- POWER_INTERVAL (R517): The 10 µs power measurement ends, and the burst store is updated. -/
  | powerInterval (powerW inputMa inputMv tempDc tempDie : Nat)
  /-- THERMAL_TRIP (R519): A die has stayed at or above 110 °C for 1 ms, so THERM_TRIP_N is asserted and the package enters STANDING. -/
  | thermalTrip (die : Nat)
  /-- DOMAIN_IDLE_ENTRY (R505): A domain has had no work for 64 cycles, so it gates its clocks and enters IDLE. -/
  | domainIdleEntry (dom : Nat)
  /-- DOMAIN_IDLE_EXIT (R505): Work arrives at an IDLE domain, which ungates its clocks and returns to ACTIVE. -/
  | domainIdleExit (dom : Nat)
  /-- RETAIN_ENTRY (R505): A domain has been idle for retain_after_us and meets the sleep conditions, so it enters RETAIN. -/
  | retainEntry (dom : Nat)
  /-- OFF_ENTRY (R505): A domain has been in RETAIN for off_after_ms and meets the OFF conditions, so it saves its state and enters OFF. -/
  | offEntry (dom : Nat)
  /-- WAKE_REQUEST (R508): A wake request is raised to a sleeping domain, which starts to wake unless it is held. -/
  | wakeRequest (dom : Nat)
  /-- WAKE_COMPLETE (R504): A waking domain has its rails and clocks up and its state restored, and it begins the generation check. -/
  | wakeComplete (dom : Nat)
  /-- GENERATION_CHECK_DONE (R560): A returning die has compared its domain generation, and has done the recovery work if the generations differed, before it accepts traffic. -/
  | generationCheckDone (dom : Nat)
  /-- CLUSTER_RELOAD_AFTER_WAKE (R122): After a fabric die wakes, each cluster that was ARMED or RUNNING is loaded again from its registry entry. -/
  | clusterReloadAfterWake (slice : Nat)
  /-- WAKE_FAILURE (R510): A domain is not ACTIVE within four times its wake time, so power_event WAKE_FAIL is raised. -/
  | wakeFailure (dom : Nat)
  /-- WAKE_RETRY (R510): The 1 ms retry timer of a failed wake expires, and the wake is retried. -/
  | wakeRetry (dom : Nat)
  /-- DIE_FAULT (R557): A die suffers a regulator, lock, repeated-wake or control-logic fault, and is held or sends the package to STANDING. -/
  | dieFault (die : Nat)
  /-- DIE_RETEST (R559): A guarded write of a held die's number powers the die and runs its self-test steps. -/
  | dieRetest (d : DapMsg)
  /-- DIE_RETEST_DONE (R559): A retest ends, and the die is released or stays held, with retest_result written. -/
  | dieRetestDone (causes : List (Nat × SelfCause)) (nandMatches : Bool) (lines : List Nat)
  /-- FLIT_RECEIVE (R386): A flit arrives, is corrected and checked, and is acknowledged, or discarded with nak set. -/
  | flitReceive (f : Flit)
  /-- FLIT_NAK_RECEIVE (R386): A nak arrives from the peer, so the sender replays from the flit after ack_seq. -/
  | flitNakReceive (link ackSeq : Nat)
  /-- LINK_DOWN (R386): A link goes down after 8 replays or 2 µs without acknowledgement, and messages in flight on it are lost. -/
  | linkDown (link : Nat)
  /-- LINK_TRAINED (R384): A link finishes training, and credits of 64 flits are granted on vc 0 to 6. -/
  | linkTrained (link lanes : Nat)
  /-- LINK_RECAL (R561): A write of a link number to link_recal starts that link's recalibration. -/
  | linkRecal (d : DapMsg)
  /-- LINK_RECAL_REQUEST (R561): A recalibration request flit arrives from the peer, and the link enters QUIESCING. -/
  | linkRecalRequest (link : Nat)
  /-- RECAL_THRESHOLD_EXCEEDED (R561): A link's corrected flits exceed recal_threshold in one second, so recalibration begins. -/
  | recalThresholdExceeded (link : Nat)
  /-- LINK_QUIESCED (R562): Every request and message on a quiescing link has completed or been acknowledged, so its flit stream stops for retraining. -/
  | linkQuiesced (link : Nat)
  /-- LINK_RETRAINED (R562): A recalibrating link retrains within 200 µs and returns to UP and to the route masks. -/
  | linkRetrained (link : Nat)
  /-- LINK_RECAL_TIMEOUT (R562): A link has not retrained within 200 µs, so it goes DOWN and rel_event RECAL_FAIL is raised. -/
  | linkRecalTimeout (link : Nat)
  /-- READ (R388): A READ request is checked under R41 and served from the home, with far-tier, shadow and poison outcomes. -/
  | read (h : Hdr) (found : List (Nat × Nat))
  /-- READ_ACQ (R361): An acquire read is performed after every earlier write of the same requester at the package. -/
  | readAcq (h : Hdr) (found : List (Nat × Nat))
  /-- WRITE (R360): A WRITE is performed at its home, with snoops, stale-bit setting and protection copies, before it completes. -/
  | write (h : Hdr) (data : Nat)
  /-- WRITE_REL (R361): A release write is performed only after the requester's earlier writes at the package. -/
  | writeRel (h : Hdr) (data : Nat)
  /-- FLUSH (R362): A FLUSH drops every remote copy that the package holds of the named range. -/
  | flush (h : Hdr) (body : Nat)
  /-- ATOMIC (R391): An ATOMIC performs one indivisible read-modify-write and returns the prior value. -/
  | atomic (h : Hdr) (body : Nat)
  /-- PUBLISH (R393): A PUBLISH compares the version word, marks it busy, writes the data and advances the word. -/
  | publish (h : Hdr) (body data : Nat)
  /-- SYNC_ADD (R369): A SYNC ADD adds its operand to the object's value and records the last signaller. -/
  | syncAdd (h : Hdr) (body : Nat)
  /-- SYNC_SET (R369): A SYNC SET sets the object's value. -/
  | syncSet (h : Hdr) (body : Nat)
  /-- SYNC_CLAIM (R369): A SYNC CLAIM makes an unowned object owned by the request's tenant and sets its value. -/
  | syncClaim (h : Hdr) (body : Nat)
  /-- SYNC_RELEASE (R369): A SYNC RELEASE makes an object without waiters unowned with value zero. -/
  | syncRelease (h : Hdr) (body : Nat)
  /-- SYNC_CANCEL (R369): A SYNC CANCEL removes the requester's waiter that has the given wait_tag. -/
  | syncCancel (h : Hdr) (body : Nat)
  /-- WAIT (R371): A WAIT evaluates its condition against the value and registers a waiter unless the condition already holds. -/
  | wait (h : Hdr) (body : Nat)
  /-- DOORBELL (R493): A DOORBELL appends a notice to a mailbox, or is refused as UNSUPPORTED or, when the mailbox is full, DEFER. -/
  | doorbell (h : Hdr) (body : Nat)
  /-- PROBE (R396): A PROBE completes once every earlier request from its requester has completed or been discarded. -/
  | probe (h : Hdr)
  /-- ATTEND (R155): An ATTEND is checked against the arena and its handles, and is accepted with an acceptance handle. -/
  | attend (h : Hdr) (body : Nat)
  /-- ATTEND_DISPATCH (R157): An accepted ATTEND is dispatched and binds to next_pos and the pending generation, or is held. -/
  | attendDispatch (acc : Nat) (q : Remote)
  /-- ATTEND_BIND_AFTER_HOLD (R157): The condition that held an ATTEND clears, so the ATTEND binds and runs. -/
  | attendBindAfterHold (acc : Nat)
  /-- ATTEND_HOLD_EXPIRED (R157): attn_hold_us elapses on a held ATTEND, which writes a DEFER partial and signals merge_sync. -/
  | attendHoldExpired (acc : Nat)
  /-- PARTIAL_WRITTEN (R161): A member's page stream and combine end, its partial block is written and acknowledged, and merge_sync is signalled. -/
  | partialWritten (acc : Nat) (failed : Bool)
  /-- MERGE_SYNC_REACHED (R164): merge_sync reaches member_count at the merger, which reads the partials, merges them, writes the merged block and signals out_sync. -/
  | mergeSyncReached (acc : Nat)
  /-- MERGE_TIMEOUT (R164): attn_merge_timeout_us elapses before all partials arrive, so the merger writes a DEFER header. -/
  | mergeTimeout (acc : Nat)
  /-- APPEND (R147): An APPEND writes candidate rows into pending slots and completes after they are written. -/
  | append (h : Hdr) (body : Nat)
  /-- COMMIT (R149): A COMMIT is checked and accepted to copy chosen pending slots into permanent positions. -/
  | commit (h : Hdr) (body : Nat)
  /-- COMMIT_PUBLISH (R150): The COMMIT copy ends, next_pos and the pending generation advance in one step, and sync_object is signalled. -/
  | commitPublish (acc : Nat)
  /-- DISCARD (R145): A DISCARD empties all pending slots by advancing the pending generation. -/
  | discard (h : Hdr) (body : Nat)
  /-- ARENA_ACTIVATE (R135): An ARENA activation reads and checks the descriptor and activates the arena with its tenant and initial_len. -/
  | arenaActivate (h : Hdr) (body : Nat)
  /-- ARENA_DEACTIVATE (R144): An ARENA deactivation ends the arena once no ATTEND or COMMIT on it is in flight. -/
  | arenaDeactivate (h : Hdr) (body : Nat)
  /-- GATHER (R251): An Oryx GATHER request is accepted to copy the listed rows to out_address. -/
  | gather (h : Hdr) (body : Nat)
  /-- POOL (R252): An Oryx POOL request is accepted to sum, average or take the maximum of the rows of each bag in FP32. -/
  | pool (h : Hdr) (body : Nat)
  /-- SCATTER (R255): An Oryx SCATTER request is accepted to write whole rows, optionally resetting their state. -/
  | scatter (h : Hdr) (body : Nat)
  /-- UPDATE (R253): An Oryx UPDATE request is accepted to apply optimiser updates to the listed rows. -/
  | update (h : Hdr) (body : Nat)
  /-- ORYX_DELETE (R255): An Oryx DELETE request is accepted to set the deleted bit of the listed rows. -/
  | oryxDelete (h : Hdr) (body : Nat)
  /-- TABLE_ACTIVATE (R240): A TABLE ACTIVATE reads and checks a descriptor and activates the slot with a new version. -/
  | tableActivate (h : Hdr) (body : Nat)
  /-- TABLE_REPLACE (R240): A TABLE REPLACE makes a new version current and starts retiring the old one. -/
  | tableReplace (h : Hdr) (body : Nat)
  /-- TABLE_DEACTIVATE (R240): A TABLE DEACTIVATE refuses new requests and moves the slot to DEACTIVATING. -/
  | tableDeactivate (h : Hdr) (body : Nat)
  /-- ORYX_LIST_READ (R247): The coordinating engine has read the index and bag lists, and checks the bag list before any row operation. -/
  | oryxListRead (acc : Nat) (idx bags : Remote)
  /-- ORYX_ROW_OPERATION (R257): One row operation is applied under the row lock at the lock holder, in acceptance and list order. -/
  | oryxRowOperation (acc : Nat) (input : RowInput)
  /-- ORYX_RESULT_HEADER (R249): After every write of a request is acknowledged, the result header is written and out_sync is signalled. -/
  | oryxResultHeader (acc : Nat) (ack : Status)
  /-- TABLE_VERSION_FREED (R243): A retiring version has drained and its forwarded rows have been written back, so the REPLACE or DEACTIVATE header is written. -/
  | tableVersionFreed (slot : Nat)
  /-- SHARD_WINDOW_END (R260): The shard window ends, the engines exchange utilisation, hot shards start row moves and cool rows start returning. -/
  | shardWindowEnd (utils : List EngineLoad)
  /-- HOT_SLOT_GRANTED (R261): The target grants a hot slot, and the natural home copies the record to it and enters COPYING. -/
  | hotSlotGranted (row : RowRef) (pkg slice : Nat) (slot : HotSlot)
  /-- ROW_COPY_ACKED (R261): The copy of a migrating row is acknowledged, so new operations are held and the commit is sent. -/
  | rowCopyAcked (row : RowRef)
  /-- ROW_COMMIT_ACKED (R261): The commit is acknowledged, so the lock passes to the target and queued operations are forwarded. -/
  | rowCommitAcked (row : RowRef)
  /-- ROW_COMMIT_TIMEOUT (R261): The commit goes unacknowledged for 1.5 µs, so the move aborts and the row stays HOME. -/
  | rowCommitTimeout (row : RowRef)
  /-- ROW_RETURN_ACKED (R261): The copy back to the natural record is acknowledged, so the forwarding record is freed and held operations apply. -/
  | rowReturnAcked (row : RowRef) (record : Nat)
  /-- ROW_FORWARD_LOST (R261): The target resets or a forwarded operation goes unanswered for 4 µs, so the row becomes LOST. -/
  | rowForwardLost (row : RowRef)
  /-- QUERY (R278): A Chamois QUERY is checked and accepted. -/
  | query (h : Hdr) (body : Nat)
  /-- QUERY_DISPATCH (R273): A query is dispatched, takes its snapshot, and runs the graph walk and side scan. -/
  | queryDispatch (acc : Nat) (q : Remote)
  /-- QUERY_COMPLETE (R283): A query has re-ranked and filtered its candidates, and writes its results and header and signals out_sync. -/
  | queryComplete (acc : Nat) (acks : QueryAcks)
  /-- INSERT (R287): A Chamois INSERT takes a free slot, reserves a side-list position and reads the insert body. -/
  | insert (h : Hdr) (body : Nat)
  /-- SIDE_ENTRY_COMMIT (R274): The body write of an entry is acknowledged, so its header is written with commit set and next_seq advances. -/
  | sideEntryCommit (acc : Nat) (data : Remote) (ack : Status)
  /-- SEARCH_DELETE (R287): A Chamois DELETE reserves a position and commits a DELETE entry, or reports already. -/
  | searchDelete (h : Hdr) (body : Nat)
  /-- INDEX_ACTIVATE (R269): An INDEX ACTIVATE checks the descriptor and starts fresh or resumes from the state record. -/
  | indexActivate (h : Hdr) (body : Nat)
  /-- INDEX_DEACTIVATE (R288): An INDEX DEACTIVATE abandons any merge and refuses new operations. -/
  | indexDeactivate (h : Hdr) (body : Nat)
  /-- INDEX_DEACTIVATE_DONE (R288): No operation remains in flight, so the state record and result header are written and the slot becomes INACTIVE. -/
  | indexDeactivateDone (index : Nat)
  /-- INDEX_MERGE (R288): An INDEX MERGE request moves the index to MERGE_WAIT. -/
  | indexMerge (h : Hdr) (body : Nat)
  /-- MERGE_IDLE_TIMER (R288): merge_idle_ms elapses with unmerged entries, so a merge is triggered. -/
  | mergeIdleTimer (index : Nat)
  /-- MERGE_BUILD_START (R288): No query remains bound to generation g−1, so the merge snapshot is taken and the build begins. -/
  | mergeBuildStart (index : Nat)
  /-- MERGE_PUBLISH (R289): The build of generation g+1 completes and is published in one step. -/
  | mergePublish (index : Nat)
  /-- MERGE_ABANDON (R288): A poisoned or unreadable list in the copy abandons the merge. -/
  | mergeAbandon (index : Nat)
  /-- INVOKE (R126): An INVOKE is checked against the handle's interface and dispatched to its current clusters, or deferred. -/
  | invoke (h : Hdr) (body : Nat)
  /-- CALL_COMPLETE (R128): A call finishes, its writes are acknowledged, the call record is written and sync_object is signalled. -/
  | callComplete (acc : Nat) (r : CallResult)
  /-- REGISTER (R103): A REGISTER reserves a registry entry and is accepted. -/
  | register (h : Hdr) (body : Nat)
  /-- REGISTER_DONE (R621): Registration reads and checks the image and signature, and writes its record with the first failing status or OK. -/
  | registerDone (acc : Nat)
  /-- CONFIG_RETIRE (R105): A RETIRE frees a registry entry and drops pending loads of it. -/
  | configRetire (h : Hdr) (body : Nat)
  /-- CONFIG_RETIRE_RECORD (R105): No cluster remains in LOADING from the retired entry, so the RETIRE record is written. -/
  | configRetireRecord (acc : Nat)
  /-- LOAD (R118): A LOAD assigns or stages a cluster for a role of a handle, and drives the cluster and handle state machines. -/
  | load (h : Hdr) (body : Nat)
  /-- UNBIND (R118): An UNBIND stops dispatch, drains the handle's clusters and drops staged loads. -/
  | unbind (h : Hdr) (body : Nat)
  /-- CLUSTER_LOAD_START (R117): A cluster whose pending load can begin enters LOADING. -/
  | clusterLoadStart (cluster : Nat)
  /-- CLUSTER_LOAD_COMPLETE (R117): A load has read and verified the image, seeded the generators, written its record and armed the cluster. -/
  | clusterLoadComplete (cluster : Nat)
  /-- CLUSTER_LOAD_FAIL (R117): A load meets a digest mismatch, a read-back mismatch or poison, so the cluster goes EMPTY with a failing record. -/
  | clusterLoadFail (cluster : Nat) (why : LoadFault)
  /-- CLUSTER_DRAIN_COMPLETE (R117): The last call in flight on a draining cluster completes, and the cluster begins loading or becomes EMPTY. -/
  | clusterDrainComplete (cluster : Nat)
  /-- DRAIN_OVERDUE (R117): drain_overdue_us elapses on a draining cluster, and cfg_event is raised. -/
  | drainOverdue (cluster : Nat)
  /-- TILE_FAILURE (R556): A tile fails its check, so a spare is substituted and the cluster reloads, or the cluster goes OFFLINE. -/
  | tileFailure (cluster index : Nat)
  /-- OBJECT_ACTIVATE (R182): A placement ACTIVATE is accepted to read, check and activate an object entry. -/
  | objectActivate (h : Hdr) (body : Nat)
  /-- OBJECT_DEACTIVATE (R185): A placement DEACTIVATE ends an object's policy, affinity and class. -/
  | objectDeactivate (h : Hdr) (body : Nat)
  /-- SET_POLICY (R176): A SET_POLICY changes an object's placement policy, pinning and filling its extents for PIN_NEAR. -/
  | setPolicy (h : Hdr) (body : Nat)
  /-- MIGRATE (R181): A MIGRATE queues moves of a range of an object's extents toward the near or far tier. -/
  | migrate (h : Hdr) (body : Nat)
  /-- SHADOW_REGISTER (R201): A SHADOW_REGISTER checks a shadow descriptor and registers it with every stale bit set. -/
  | shadowRegister (h : Hdr) (body : Nat)
  /-- SHADOW_RETIRE (R204): A SHADOW_RETIRE waits until no substitution from the shadow is in flight, and then writes its record. -/
  | shadowRetire (h : Hdr) (body : Nat)
  /-- SHADOW_VALIDATE (R202): A SHADOW_VALIDATE clears the stale bits of the named units at its execution. -/
  | shadowValidate (h : Hdr) (body : Nat)
  /-- PLACEMENT_EXECUTE (R180): A queued placement command reaches execution in acceptance order, is rechecked, performed, and its record is written and signalled. -/
  | placementExecute (acc : Nat) (peers : List Nat)
  /-- PROMOTION_START (R187): A queued promotion whose granules are free starts, in demand-first order. -/
  | promotionStart (extent : Nat)
  /-- PROMOTION_COMMIT (R190): A promotion has transferred its shares, so the extent becomes NEAR at every home. -/
  | promotionCommit (extent : Nat) (unreadable : List Nat)
  /-- DEMOTION_START (R188): Free near frames fall below near_free_target or a placement asks for a demotion, so a NEAR extent begins moving down. -/
  | demotionStart (extent : Nat)
  /-- DEMOTION_COMMIT (R191): A demotion copies its last marked chunks, the extent becomes FAR, and its store-cache lines are written back and invalidated. -/
  | demotionCommit (extent : Nat)
  /-- STAGING_PROGRAMMED (R554): An extent's shares are programmed from staging to flash, and it is journaled as FAR. -/
  | stagingProgrammed (extent : Nat)
  /-- STALLED_ACCESS_RESUME (R195): An engine access stalled on a far extent or a sleeping unit resumes once the extent commits or the unit is ACTIVE. -/
  | stalledAccessResume (acc : Nat)
  /-- PROTECTION_ACK_TIMEOUT (R208): A partner or parity member does not acknowledge a write within 1.5 µs, so the object is marked DEGRADED. -/
  | protectionAckTimeout (txn : Nat)
  /-- STREAM_READ (R228): A stream READ is checked at acceptance, including its head. -/
  | streamRead (h : Hdr) (body : Nat)
  /-- STREAM_MAP_CHECK (R229): The block map is read and checked, and the named slots are pinned. -/
  | streamMapCheck (acc : Nat)
  /-- STREAM_BLOCK_WRITE (R230): A decoded block's writes are issued in block order, or a failing block ends the read. -/
  | streamBlockWrite (acc : Nat) (ack : Status)
  /-- STREAM_READ_COMPLETE (R231): Every destination write is acknowledged, so the stream record is written and the signal follows. -/
  | streamReadComplete (acc : Nat)
  /-- TABLE_INSTALL (R223): An INSTALL reads and checks a table image and builds it on all expanders. -/
  | tableInstall (h : Hdr) (body : Nat)
  /-- TABLE_INSTALL_BUILT (R222): All expanders have built the table, so the slot takes a new generation and becomes VALID. -/
  | tableInstallBuilt (slot : Nat)
  /-- TABLE_SLOT_RETIRE (R222): A stream RETIRE frees a VALID slot, or moves it to RETIRING while blocks are queued. -/
  | tableSlotRetire (h : Hdr) (body : Nat)
  /-- SLOT_QUEUED_ZERO (R222): queued_blocks of a RETIRING slot reaches zero, so the RETIRE record is written and the slot becomes FREE. -/
  | slotQueuedZero (slot : Nat)
  /-- INVAL_PAGES (R307): A PAGES invalidation drops the context's cached leaves and walk-cache entries that overlap the range. -/
  | invalPages (h : Hdr) (body : Nat)
  /-- INVAL_CONTEXT (R307): A CONTEXT invalidation drops every cached entry of the context and its descriptor. -/
  | invalContext (h : Hdr) (body : Nat)
  /-- INVAL_TAKES_EFFECT (R309): No access can use a dropped entry and all such accesses are acknowledged, so the collector object is signalled. -/
  | invalTakesEffect (acc : Nat)
  /-- TRANSLATION_WALK_END (R300): A table walk ends with a translation that fills the caches, or with a fault. -/
  | translationWalkEnd (a : EngineAccess)
  /-- FAULT_RECORD_ACKED (R313): A fault record's write is acknowledged, so the Geyser doorbell is sent to fq_notify_address. -/
  | faultRecordAcked (queue seq : Nat) (ack : Status)
  /-- FAULT_DOORBELL_RESEND (R498): 100 µs after a deferred fault doorbell, the doorbell is sent again while its record awaits service. -/
  | faultDoorbellResend (queue seq : Nat)
  /-- XLT_RETRY (R315): An XLT_SERVICE RETRY frees the fault slot and replays every joined access. -/
  | xltRetry (h : Hdr) (value : Nat)
  /-- XLT_ABORT (R315): An XLT_SERVICE ABORT frees the slot and completes every joined access unperformed, reads as poisoned. -/
  | xltAbort (h : Hdr) (value : Nat)
  /-- DMA_COPY (R398): A DMA COPY command is checked and queued on a channel. -/
  | dmaCopy (h : Hdr) (body : Nat)
  /-- DMA_TRANSFER_START (R398): The previous transfer on a channel has ended, so the next transfer starts copying in pieces. -/
  | dmaTransferStart (channel : Nat)
  /-- DMA_TRANSFER_END (R377): A transfer's pieces end or fail, so its record is written and then its signal is raised. -/
  | dmaTransferEnd (channel : Nat) (src : Remote) (ack : Status)
  /-- RD_SHARED (R335): A RD_SHARED obtains a readable copy, with a supplier chosen and the directory entry updated. -/
  | rdShared (h : Hdr)
  /-- RD_OWN (R335): A RD_OWN obtains a writable copy with data, snooping the other holders. -/
  | rdOwn (h : Hdr)
  /-- UPGRADE (R332): An UPGRADE makes a held copy writable, and is performed as RD_OWN for an agent that is not named. -/
  | upgrade (h : Hdr)
  /-- WB_DIRTY (R342): A WB_DIRTY gives up an M line with its data, or is counted as stale. -/
  | wbDirty (h : Hdr) (data : Nat)
  /-- EVICT_CLEAN (R335): An EVICT_CLEAN clears the agent's pointer for a clean copy it dropped. -/
  | evictClean (h : Hdr)
  /-- SNOOP_RESPONSE (R328): An agent's completion of a snoop reaches the home, with any data and acknowledgement of a forwarded grant. -/
  | snoopResponse (seq agent result data : Nat)
  /-- SNOOP_TIMEOUT (R347): A snoop goes unanswered for 2 µs, so the line is poisoned and the agent is made SUSPECT. -/
  | snoopTimeout (seq agent : Nat)
  /-- DIRECTORY_RECALL_DONE (R333): Every snoop of a victim recall has been answered or has timed out, so dirty data is written back and the way is freed. -/
  | directoryRecallDone (line : Nat)
  /-- COMPOSE_SET_ENTRY (R413): A COMPOSE SET_ENTRY creates a composition-table entry or changes its bw_limit. -/
  | composeSetEntry (h : Hdr) (body : Nat)
  /-- COMPOSE_REMOVE_ENTRY (R413): A COMPOSE REMOVE_ENTRY sets an entry draining for 20 µs. -/
  | composeRemoveEntry (h : Hdr) (body : Nat)
  /-- COMPOSE_ADVANCE (R413): A COMPOSE ADVANCE makes the new epoch current and opens the 20 µs drain window. -/
  | composeAdvance (h : Hdr) (body : Nat)
  /-- DRAIN_WINDOW_CLOSE (R414): The 20 µs drain window of the previous epoch ends, and its requests become EPOCH_STALE. -/
  | drainWindowClose (composition : Nat)
  /-- ENTRY_DRAIN_FREE (R413): 20 µs after REMOVE_ENTRY, the draining entry is freed. -/
  | entryDrainFree (requester : Nat)
  /-- OWNER (R418): An OWNER at the master writes an owner record and sends it to the named package. -/
  | owner (h : Hdr) (body : Nat)
  /-- OWNER_RECORD_TAKE_UP (R418): The named package takes up an owner record sent by the master. -/
  | ownerRecordTakeUp (record : Nat) (body : Nat)
  /-- OWNER_TAKE_UP_TIMEOUT (R418): The named package has not taken up the record within 2.5 µs, so the OWNER completes with DEFER. -/
  | ownerTakeUpTimeout (record : Nat)
  /-- METER_PERIOD_END (R422): The meter period ends, records are closed for active compositions, and a signed batch is formed. -/
  | meterPeriodEnd
  /-- REMOTE_COPY_EXPIRE (R354): A remote copy's age exceeds remote_copy_max_us, and it becomes unusable. -/
  | remoteCopyExpire (slice line : Nat)
  /-- COMMAND_SIGNAL (R376): Every write of a command has been acknowledged, so the command's ADD signal is applied at the object's home. -/
  | commandSignal (acc : Nat)
  /-- DEADLOCK_SCAN (R378): The 100 µs scan evaluates each tenant's engines for an unending wait. -/
  | deadlockScan
  /-- SCRUB_PASS_END (R548): A home ends a scrub pass over its granules, having rewritten corrected lines. -/
  | scrubPassEnd (home : Nat) (corrected found : List Nat)
  /-- STRAGGLER_REPORT (R563): straggler_report_us passes without a member's answer, and rel_event STRAGGLER is raised. -/
  | stragglerReport (member : Nat)
  /-- EXPEL_VOTE (R566): A vote is verified and held, and a quorum expels the target package or starts its removal at the master. -/
  | expelVote (d : DapMsg)
  /-- DOMAIN_CHANGE_REBUILD (R569): A REBUILD change configures the spare as the lost member and starts filling its extents. -/
  | domainChangeRebuild (d : DapMsg) (spareReadyAlone : Bool)
  /-- REBUILD_FILL_DONE (R569): The last unrebuilt extent is filled, objects leave DEGRADED and rel_event REBUILD_DONE is raised. -/
  | rebuildFillDone
  /-- DOMAIN_CHANGE_REPLACE (R574): A REPLACE change starts copying a draining member's extents to the new package. -/
  | domainChangeReplace (d : DapMsg) (newReadyAlone : Bool)
  /-- REPLACE_COMMIT (R574): The replacement copy commits, the new package becomes the member and the old one answers NOT_OWNER. -/
  | replaceCommit
  /-- DOMAIN_CHANGE_LEAVE (R575): A LEAVE change removes an empty draining member from the domain. -/
  | domainChangeLeave (d : DapMsg) (memberEmpty : Bool)
  /-- DRAIN_BEGIN (R573): A guarded write of 1 to drain_begin moves a READY package to DRAINING. -/
  | drainBegin (d : DapMsg)
  /-- DOMAIN_FORM (R322): A write of 1 to domain_form at the master compares digests and forms the domain. -/
  | domainForm (d : DapMsg) (answers : List MemberAnswer)
  /-- DOMAIN_FORM_TIMEOUT (R322): A member does not answer within 100 µs, so domain_form completes with DEFER. -/
  | domainFormTimeout
  /-- DOMAIN_DISSOLVE (R322): A write of 0 to domain_form recalls every directory entry and returns the members to ALONE. -/
  | domainDissolve (d : DapMsg)
  /-- GENERATION_TAKE_UP (R323): A member takes up a new domain_generation sent by the master before acting on the change. -/
  | generationTakeUp (generation : Nat) (news : DomainNews)
  /-- DECLARE_AGENT_DEAD (R349): A write of DEAD to an agent's state at the master makes every home poison the agent's E and M lines and clear its pointers. -/
  | declareAgentDead (d : DapMsg)
  /-- AGENT_REACTIVATE (R348): A write of ACTIVE for a SUSPECT agent at the master returns it to ACTIVE. -/
  | agentReactivate (d : DapMsg)
  /-- AGENT_ENTRY_WRITE (R351): A guarded write of an agent entry while the domain is not FORMED sets its identity and NONE or ACTIVE. -/
  | agentEntryWrite (d : DapMsg)
  /-- DATA_SOURCE_WRITE (R324): A write of data_source at the master is distributed to every member and advances the generation. -/
  | dataSourceWrite (d : DapMsg)
  /-- MASTER_CONFIRM_WRITE (R321): A guarded write of 1 to master_confirm confirms the master role on a strapped package. -/
  | masterConfirmWrite (d : DapMsg)
  /-- ETH_FRAME_RECEIVE (R428): An Ethernet frame arrives and is accepted, or dropped and counted. -/
  | ethFrameReceive (f : EthFrame)
  /-- ARP_REQUEST (R429): An ARP request for the port's address is answered. -/
  | arpRequest (target : Nat)
  /-- NEIGHBOUR_SOLICITATION (R429): An IPv6 neighbour solicitation for the port's address is answered. -/
  | neighbourSolicitation (target : Nat)
  /-- ICMP_ECHO_REQUEST (R429): An ICMP or ICMPv6 echo request for the port's address is answered. -/
  | icmpEchoRequest (target : Nat) (v6 : Bool)
  /-- PFC_FRAME_RECEIVE (R441): A received PFC frame pauses or resumes sending on the lossless priorities. -/
  | pfcFrameReceive (xoff xon : Nat)
  /-- PAUSE_FRAME_RECEIVE (R427): A received IEEE 802.3 PAUSE frame is dropped and counted. -/
  | pauseFrameReceive
  /-- CNP_RECEIVE (R442): A received CNP halves the named queue pair's sending rate. -/
  | cnpReceive (qp : Nat)
  /-- CNP_RATE_RECOVERY (R442): 55 µs pass without a CNP, so the queue pair's rate rises by 10 GB/s. -/
  | cnpRateRecovery (qp : Nat)
  /-- ETH_LINK_UP (R427): The Ethernet link trains and comes up. -/
  | ethLinkUp
  /-- ETH_LINK_DOWN (R427): The Ethernet link goes down, which allows the domain to enter RETAIN. -/
  | ethLinkDown
  /-- RDMA_READ (R433): An RDMA READ is checked and returns its response packets in address order, held at far extents. -/
  | rdmaRead (r : RdmaReq) (found : List (Nat × Nat))
  /-- RDMA_WRITE (R436): An RDMA WRITE is performed granule by granule and acknowledged when all are performed. -/
  | rdmaWrite (r : RdmaReq) (data : Nat)
  /-- FETCH_AND_ADD (R433): A RoCEv2 fetch-and-add performs a 64-bit ATOMIC ADD and returns the prior value. -/
  | fetchAndAdd (r : RdmaReq) (operand : Nat)
  /-- COMPARE_AND_SWAP (R433): A RoCEv2 compare-and-swap performs a 64-bit CAS and returns the prior value. -/
  | compareAndSwap (r : RdmaReq) (compare operand : Nat)
  /-- ROCE_SEND_REQUEST (R438): A SEND carrying an Adrun request message is checked and performed, and its completion is sent as a SEND. -/
  | roceSendRequest (packet : SendPacket) (msgBytes opcode : Nat) (h : Hdr) (body data : Nat)
  /-- ROCE_ACK_RECEIVE (R431): The host acknowledges a SEND of the package, releasing it and any mailbox notice it carried. -/
  | roceAckReceive (qp psn : Nat)
  /-- ROCE_NAK_RECEIVE (R431): The host answers a SEND of the package with a NAK or RNR NAK, leading to retry or ERROR. -/
  | roceNakReceive (qp psn : Nat) (rnr : Bool)
  /-- ROCE_ACK_TIMEOUT (R431): The local acknowledgement timer of a SEND expires, so the SEND is retried or the queue pair enters ERROR. -/
  | roceAckTimeout (qp : Nat)
  /-- QP_ENTRY_WRITE (R432): A write of a queue-pair entry is checked, and the entry is taken up, reset or refused. -/
  | qpEntryWrite (d : DapMsg)
  /-- I3C_SETDASA (R461): An I3C SETDASA assigns the package a dynamic address. -/
  | i3cSetdasa (address : Nat)
  /-- I3C_ENTDAA (R461): An I3C ENTDAA assigns the package a dynamic address. -/
  | i3cEntdaa (address : Nat)
  /-- I3C_PRIVATE_READ (R461): An I3C private read returns the oldest ready response or notification. -/
  | i3cPrivateRead
  /-- DAP_OPEN_TENANT (R454): A tenant OPEN checks the requester and key and opens a tenant session. -/
  | dapOpenTenant (d : DapMsg)
  /-- DAP_OPEN_MANAGEMENT (R454): A management OPEN names an attested SPDM session and opens a management session. -/
  | dapOpenManagement (d : DapMsg)
  /-- DAP_CLOSE (R455): A CLOSE ends a DAP session. -/
  | dapClose (d : DapMsg)
  /-- DAP_READ (R468): A DAP READ returns an object's value, or a DOMAIN segment from a snapshot. -/
  | dapRead (d : DapMsg)
  /-- DAP_WRITE (R466): A DAP WRITE checks lengths and applies a value, staging DOMAIN segments until the last. -/
  | dapWrite (d : DapMsg)
  /-- DAP_WRITE_GUARDED (R464): A WRITE_GUARDED checks the complement bytes, applies the value and appends a custody record. -/
  | dapWriteGuarded (d : DapMsg)
  /-- DAP_SUBSCRIBE (R470): A SUBSCRIBE registers the session for an EVENT object's notifications. -/
  | dapSubscribe (d : DapMsg)
  /-- DAP_UNSUBSCRIBE (R470): An UNSUBSCRIBE ends a subscription. -/
  | dapUnsubscribe (d : DapMsg)
  /-- DAP_SESSION_IDLE_TIMEOUT (R455): A session has had no request for dap_idle_s, and it closes. -/
  | dapSessionIdleTimeout (port : Port) (session : Nat)
  /-- SPDM_GET_VERSION (R581): An SPDM GET_VERSION is answered. -/
  | spdmGetVersion (m : SpdmMsg)
  /-- SPDM_GET_CAPABILITIES (R581): An SPDM GET_CAPABILITIES is answered. -/
  | spdmGetCapabilities (m : SpdmMsg)
  /-- SPDM_NEGOTIATE_ALGORITHMS (R581): An SPDM NEGOTIATE_ALGORITHMS selects the algorithms. -/
  | spdmNegotiateAlgorithms (m : SpdmMsg)
  /-- SPDM_GET_DIGESTS (R581): An SPDM GET_DIGESTS returns the certificate digests. -/
  | spdmGetDigests (m : SpdmMsg)
  /-- SPDM_GET_CERTIFICATE (R579): An SPDM GET_CERTIFICATE returns the slot-0 chain. -/
  | spdmGetCertificate (m : SpdmMsg)
  /-- SPDM_CHALLENGE (R581): An SPDM CHALLENGE is answered with a signed response. -/
  | spdmChallenge (m : SpdmMsg)
  /-- SPDM_GET_MEASUREMENTS (R582): An SPDM GET_MEASUREMENTS returns the six measurement blocks, signed. -/
  | spdmGetMeasurements (m : SpdmMsg)
  /-- SPDM_KEY_EXCHANGE (R583): An SPDM KEY_EXCHANGE establishes a session, mutually authenticated once the package is claimed. -/
  | spdmKeyExchange (m : SpdmMsg) (chainKey : Option Nat)
  /-- SPDM_FINISH (R581): An SPDM FINISH completes session establishment. -/
  | spdmFinish (m : SpdmMsg) (verified : Bool)
  /-- SPDM_HEARTBEAT (R581): An SPDM HEARTBEAT keeps a session alive. -/
  | spdmHeartbeat (m : SpdmMsg)
  /-- SPDM_KEY_UPDATE (R581): An SPDM KEY_UPDATE updates the session keys. -/
  | spdmKeyUpdate (m : SpdmMsg)
  /-- SPDM_END_SESSION (R584): An SPDM END_SESSION ends the session and its DAP session. -/
  | spdmEndSession (m : SpdmMsg)
  /-- SPDM_HEARTBEAT_MISSED (R584): Three heartbeats are missed, so the SPDM session and its DAP session end. -/
  | spdmHeartbeatMissed (session : Nat)
  /-- ARITH_COUNTERS_CLEAR (R85): A write of 1 clears the arithmetic counters. -/
  | arithCountersClear (d : DapMsg)
  /-- ATTN_COUNTERS_CLEAR (R168): A write of 1 clears the attention counters. -/
  | attnCountersClear (d : DapMsg)
  /-- TIER_COUNTERS_CLEAR (R209): A write of 1 clears the tier counters. -/
  | tierCountersClear (d : DapMsg)
  /-- STREAM_COUNTERS_CLEAR (R236): A write of 1 clears the stream counters. -/
  | streamCountersClear (d : DapMsg)
  /-- ORYX_COUNTERS_CLEAR (R264): A write of 1 clears the Oryx counters. -/
  | oryxCountersClear (d : DapMsg)
  /-- TABLE_COUNTERS_CLEAR (R264): A write of 1 clears a table slot's drop and poison counters. -/
  | tableCountersClear (d : DapMsg)
  /-- SEARCH_COUNTERS_CLEAR (R292): A write of 1 clears the Chamois counters. -/
  | searchCountersClear (d : DapMsg)
  /-- XLT_COUNTERS_CLEAR (R317): A write of 1 clears the translation counters. -/
  | xltCountersClear (d : DapMsg)
  /-- SYNC_COUNTERS_CLEAR (R381): A write of 1 clears the synchronisation counters. -/
  | syncCountersClear (d : DapMsg)
  /-- ETH_COUNTERS_CLEAR (R446): A write of 1 clears the Ethernet counters. -/
  | ethCountersClear (d : DapMsg)
  /-- DICT_COUNTERS_CLEAR (R473): A write of 1 clears guard_failures and dap_discards. -/
  | dictCountersClear (d : DapMsg)
  /-- REG_COUNTERS_CLEAR (R499): A write of 1 clears the register counters. -/
  | regCountersClear (d : DapMsg)
  /-- SAVE_NOW (R471): A write of 1 captures every running SAVED value and starts writing a new saved image. -/
  | saveNow (d : DapMsg)
  /-- SAVE_COMPLETE (R471): The saved image is written to custody storage, and a SAVE entry is appended. -/
  | saveComplete
  /-- RESTORE_DEFAULTS (R472): A write of 1 sets every SAVED running value to its default. -/
  | restoreDefaults (d : DapMsg)
  /-- CFG_COMMIT (R488): A write of 1 moves every die's configuration check to ADOPT. -/
  | cfgCommit (d : DapMsg)
  /-- CFG_COMMIT_TIMEOUT (R488): A die is still in ADOPT 10 ms after cfg_commit, so the write completes with DEFER. -/
  | cfgCommitTimeout
  /-- CFG_WALK_START (R485): The 1 ms walk timer starts a configuration walk on an enabled, awake die. -/
  | cfgWalkStart (die : Nat)
  /-- CFG_WALK_END (R487): A configuration walk ends, and CFG_CRC is adopted or compared with the reference. -/
  | cfgWalkEnd (die : Nat)
  /-- CFG_PENDING_OVERDUE (R487): A die stays PENDING for cfg_pending_limit_ms, and PENDING_OVERDUE is raised once. -/
  | cfgPendingOverdue (die : Nat)
  /-- FW_STAGE_DATA (R540): A write of 4,096 bytes programs the inactive firmware slot and advances fw_stage_offset. -/
  | fwStageData (d : DapMsg)
  /-- FW_VERIFY (R541): A write of 1 starts verification of the inactive slot. -/
  | fwVerify (d : DapMsg)
  /-- FW_VERIFY_DONE (R541): Verification ends, and the slot becomes VERIFIED or carries its failure. -/
  | fwVerifyDone (f : FwFound)
  /-- FW_HANDOVER (R542): A guarded write of a verified slot marks it TRIAL and restarts the management core from it. -/
  | fwHandover (d : DapMsg)
  /-- FW_ALIVE (R542): The new firmware reports alive, so the marker is committed and the rollback floor raised. -/
  | fwAlive
  /-- FW_HANDOVER_TIMEOUT (R543): The new firmware is not alive within 2 s, so the previous slot is restarted and fw_event REVERTED raised. -/
  | fwHandoverTimeout
  /-- IMAGE_KEY_ENROL (R101): A guarded write of a public key enrols an image key slot. -/
  | imageKeyEnrol (d : DapMsg)
  /-- IMAGE_KEY_REVOKE (R102): A guarded write of zeros revokes an image key slot and retires the entries signed under it. -/
  | imageKeyRevoke (d : DapMsg)
  /-- OWNER_KEY_ENROL (R583): A guarded write enrols an owner key and sets owner_state to CLAIMED. -/
  | ownerKeyEnrol (d : DapMsg)
  /-- OWNER_KEY_REVOKE (R583): A guarded write of zeros revokes an owner key, never the last one. -/
  | ownerKeyRevoke (d : DapMsg)
  /-- FM_KEY_WRITE (R564): A guarded write sets fm_count or a fabric-manager key for expulsion votes. -/
  | fmKeyWrite (d : DapMsg)
  /-- KEY_CREATE (R589): A key_command CREATE generates a tenant key and sets it ACTIVE with a new generation. -/
  | keyCreate (d : DapMsg)
  /-- KEY_DESTROY (R589): A key_command DESTROY zeroises a tenant key and starts sweeping its extents. -/
  | keyDestroy (d : DapMsg)
  /-- KEY_SWEEP_DONE (R589): The homes have marked ZERO every extent under the destroyed key, and the key becomes EMPTY. -/
  | keySweepDone (tenant : Nat)
  /-- HANDOVER (R599): A HANDOVER starts the purge, runs its steps, and ends in a full package reset. -/
  | handover (d : DapMsg)
  /-- HANDOVER_REPORT (R598): A REPORT moves the handover to ATTESTING with no purge. -/
  | handoverReport (d : DapMsg)
  /-- CONDITION_REPORT_SIGN (R601): After READY or STANDING, or on REPORT, the condition report is signed and a CONDITION entry appended. -/
  | conditionReportSign
  /-- LOG_CHECKPOINT (R592): A write of 1 to log_checkpoint appends a signed checkpoint to the custody log. -/
  | logCheckpoint (d : DapMsg)
  /-- LIFETIME_METER_UPDATE (R595): The 60 s timer updates the lifetime meters in custody storage. -/
  | lifetimeMeterUpdate (m : LifeReading)
  /-- METER_SNAPSHOT (R595): meter_snapshot_h of powered time passes, so a METER_SNAPSHOT entry is appended. -/
  | meterSnapshot
  /-- METER_ACK (R603): A write of a batch_seq to meter_ack releases that meter batch. -/
  | meterAck (d : DapMsg)
  /-- METER_BATCH_READ (R603): A read of meter_batch returns the oldest uncollected batch in place, or CHECK_FAIL if it was overwritten. -/
  | meterBatchRead (d : DapMsg)
  /-- SYNC_VIEW_READ (R380): A read of sync_view returns a snapshot of the selected object, taken in one step at its home. -/
  | syncViewRead (d : DapMsg)
  /-- TRUST_MODE_WRITE (R404): A guarded write of trust_mode enters or leaves sender-trusted mode. -/
  | trustModeWrite (d : DapMsg)
  /-- REGION_ENTRY_WRITE (R403): A write of region_entry updates every home's replica of the selected region entry. -/
  | regionEntryWrite (d : DapMsg)
  /-- PACKAGE_NUMBER_WRITE (R28): A guarded write of package_number changes the number outside READY and DRAINING. -/
  | packageNumberWrite (d : DapMsg)
  /-- HELD_READY_MASK_WRITE (R512): A write of held_ready_mask declares homes held-ready, completing once they are awake. -/
  | heldReadyMaskWrite (d : DapMsg)
  /-- DOMAIN_FLOOR_WRITE (R522): A write of a domain's floor takes effect at once and wakes the domain if raised. -/
  | domainFloorWrite (d : DapMsg)
  /-- DICT_OBJECT_WRITE (R448): A write of any other RW object applies its value after the object's own range checks. -/
  | dictObjectWrite (d : DapMsg)
  /-- REG_WRITE (R478): A write of a register without its own row, through the decoder and its alias map. -/
  | regWrite (die offset value : Nat)
  /-- GUARDED_REG_WRITE (R483): A write to a guarded register holds the value and arms the block's guard. -/
  | guardedRegWrite (die offset value : Nat)
  /-- COMPLEMENT_PORT_WRITE (R483): A write to a complement port applies or discards the held guarded value. -/
  | complementPortWrite (die offset value : Nat)
  /-- GUARD_TIMEOUT (R483): The 256-cycle guard timer ends, and the held value is discarded with TIMEOUT. -/
  | guardTimeout (die : Nat)
  /-- REG_LO_READ (R481): A read of a _LO register returns it and loads the read shadow with its _HI word. -/
  | regLoRead (die offset : Nat)
  /-- REG_HI_READ (R481): A read of a _HI register returns the shadow when tagged, or otherwise the live word and a miss. -/
  | regHiRead (die offset : Nat)
  /-- REG_LO_WRITE (R482): A write of a _LO word of an RW pair is held in the write shadow. -/
  | regLoWrite (die offset value : Nat)
  /-- REG_HI_WRITE (R482): A write of a _HI word applies both halves if tagged, or the high half alone. -/
  | regHiWrite (die offset value : Nat)
  /-- RAW_DIE_WRITE (R490): A write of raw_die selects the control block of the raw window. -/
  | rawDieWrite (d : DapMsg)
  /-- RAW_OFFSET_WRITE (R490): A write of raw_offset selects the block offset of the raw window. -/
  | rawOffsetWrite (d : DapMsg)
  /-- RAW_DATA_READ (R489): A read of raw_data reads one word at raw_offset through the decoder. -/
  | rawDataRead (d : DapMsg)
  /-- RAW_DATA_WRITE (R489): A write of raw_data writes one word at raw_offset through the decoder. -/
  | rawDataWrite (d : DapMsg)
  /-- RAW_DATA64_READ (R489): A read of raw_data64 reads a _LO/_HI pair in one step. -/
  | rawData64Read (d : DapMsg)
  /-- RAW_DATA64_WRITE (R489): A write of raw_data64 writes a _LO/_HI pair in one step. -/
  | rawData64Write (d : DapMsg)
  /-- RAW_GUARDED_WRITE (R489): A guarded write of raw_guarded writes a value and its complement with no write between. -/
  | rawGuardedWrite (d : DapMsg)
  /-- MBX_ACK_WRITE (R496): A write of MBX_ACK removes the oldest notice when ack_seq equals head_seq. -/
  | mbxAckWrite (die mailbox value : Nat)
  /-- MBX_HEAD_READ (R497): A die-page read of a head slot returns the mailbox's four words in one step. -/
  | mbxHeadRead (h : Hdr)
  /-- FAB_TILE_SEL_WRITE (R90): A write of FAB_TILE_SEL selects the tile whose flags and seed are read. -/
  | fabTileSelWrite (die value : Nat)
  /-- HOME_DIR_PROBE_WRITE (R352): A write of HOME_DIR_PROBE selects the directory entry that the entry registers return. -/
  | homeDirProbeWrite (die value : Nat)
  /-- SCRATCHPAD_WINDOW_ACCESS (R52): A window access to a tile's scratchpad is served by its bank within 16 cycles of waiting. -/
  | scratchpadWindowAccess (w : WindowAccess)
  /-- MATRIX_VECTOR_STEP (R64): A tile's matrix-vector step forms one block sum per lane and accumulates it with one rounding. -/
  | matrixVectorStep (tile : Nat) (m : MvRun)
  /-- VECTOR_STEP (R75): A tile's vector step performs binary32 arithmetic on 32 lanes and sets flags. -/
  | vectorStep (tile : Nat) (op : VecOp) (pads : FeedPads) (own : FeedOwn) (out : FeedOut)
  /-- CONVERSION (R68): A vector-unit conversion rounds, by nearest-even or stochastically, and applies the overflow rules. -/
  | conversion (tile target : Nat) (src : FeedSource) (out : FeedOut)
  /-- SPECIAL_FUNCTION (R77): A vector-unit special function is evaluated to its stated accuracy. -/
  | specialFunction (tile : Nat) (fn : SpecialFn) (src : FeedSource) (out : FeedOut)
  /-- CROSS_LANE_REDUCE (R76): A cross-lane sum or maximum reduces the 32 lanes by the fixed tree. -/
  | crossLaneReduce (tile : Nat) (maximum : Bool) (f : Feed)
  /-- TILE_PLAIN_LOAD (R354): A tile issues a plain load, served from its home or a usable remote copy. -/
  | tilePlainLoad (a : EngineAccess) (r : Remote)
  /-- TILE_ACQUIRE_LOAD (R356): A tile issues an acquire load from the home, which orders later accesses. -/
  | tileAcquireLoad (a : EngineAccess) (r : Remote)
  /-- TILE_LOAD_RETURN (R82): A tile load's data returns and is presented to the switchbox in issue order. -/
  | tileLoadReturn (tile : Nat)
  /-- TILE_PLAIN_STORE (R356): A tile issues a plain store. -/
  | tilePlainStore (a : TileStore) (ack : Status)
  /-- TILE_RELEASE_STORE (R356): A tile's release store is performed after its earlier stores are acknowledged. -/
  | tileReleaseStore (a : TileStore) (ack : Status)
  /-- TILE_ATOMIC (R356): A tile issues an atomic to its home. -/
  | tileAtomic (a : EngineAccess) (body : Nat) (r : Remote)
  /-- TILE_FENCE (R356): A tile's FENCE waits for its earlier accesses and then acts as an acquire. -/
  | tileFence (tile : Nat)
  /-- TILE_SIGNAL (R374): A tile's SIGNAL step is applied as a release after its earlier stores. -/
  | tileSignal (tile object operand : Nat)
  /-- TILE_WAIT (R374): A tile's WAIT registers an engine waiter and stalls the sequencer. -/
  | tileWait (tile object cond target : Nat)
  /-- REPAIR_SOURCE_TIMEOUT (R552): A mirror or parity source line of a P1 or P2 repair stays unanswered for 1.5 µs, so the line is written poisoned. -/
  | repairSourceTimeout (line : Nat)
  /-- NOTIFICATION_TIMEOUT (R372): A WRITE or DOORBELL notification sent for a satisfied waiter receives no completion in time and is counted in notify_failures. -/
  | notificationTimeout (object : Nat)
  /-- RNR_RETRY_TIMER (R431): The RNR timer after an RNR NAK of the package's SEND expires, so the SEND is retried or rnr_retry is exhausted. -/
  | rnrRetryTimer (qp : Nat)
  /-- LIST_READ_REISSUE (R247): After its retry hint, the Oryx engine re-issues an index or bag list read that completed with DEFER. -/
  | listReadReissue (acc : Nat) (idx bags : Remote)
  /-- NOR_FREE_RELEASE (R615): The NOR program or erase in progress at PKG_RESET_N's fall ends, and the package floats the NOR balls and releases NOR_FREE. -/
  | norFreeRelease
  /-- UNKNOWN_OPCODE (R388): An Adrun request whose opcode is not in the operation table completes with UNSUPPORTED at step 1 of R41. -/
  | unknownOpcode (h : Hdr) (opcode : Nat)
  /-- MESSAGE_DISCARD (R580): A message on I3C or the DAP port whose first byte is not 0x01, 0x05 or 0x06 is discarded, and dap_discards advances. -/
  | messageDiscard (port : Port) (firstByte : Nat)
  /-- SPDM_UNSUPPORTED_REQUEST (R581): An SPDM request outside the supported set is answered with ERROR UnsupportedRequest. -/
  | spdmUnsupportedRequest (m : SpdmMsg) (code : Nat)
  deriving DecidableEq, Repr

end Sys2Proof
end

