-- ==== Sys2Proof/WellFormed.lean ====
section
/-! DEFINITION. When a command's operands fit the fields they stand for: the widths of the spec's layouts and the numbers
of its units. -/

namespace Sys2Proof

/-- The header's fields fit their widths (R29). -/
def Hdr.wf (h : Hdr) : Bool :=
  decide (h.cls < 4 ∧ fits h.tag 12 ∧ fits h.epoch 8 ∧ fits h.tenant 12 ∧ fits h.requester 16 ∧ fits h.key 32 ∧
    fits h.package 12 ∧ fits h.offset 48 ∧ fits h.length 7) &&
  (match h.via with | .link n => decide (n < 16) | .eth q => decide (q < 4096) | .dap _ _ => true)

/-- The message's fields fit their widths (R456). -/
def DapMsg.wf (d : DapMsg) : Bool :=
  decide (fits d.session 32 ∧ fits d.seq 16 ∧ fits d.actingTenant 12 ∧ fits d.index 16 ∧ fits d.sub 8 ∧
    fits d.segOffset 32 ∧ fits d.totalLength 32 ∧ fits d.valueLength 16 ∧ fits d.version 8 ∧ fits d.value (8 * d.count))

/-- An engine access names a die, a context and an address that exist in their fields, and at most a line. -/
def EngineAccess.wf (a : EngineAccess) : Bool :=
  decide (a.die < 32 ∧ a.tenant < 4096 ∧ fits a.address 60 ∧ a.bytes ≤ 4096 ∧ fits a.data (8 * a.bytes)) &&
  (match a.context with | none => true | some c => decide (0 < c ∧ c < 4096))

/-- A window access carries a header that fits. -/
def WindowAccess.wf (w : WindowAccess) : Bool := w.hdr.wf

/-- The fields of a RoCEv2 request fit. -/
def RdmaReq.wf (r : RdmaReq) : Bool :=
  decide (fits r.qp 24 ∧ fits r.psn 24 ∧ fits r.address 64 ∧ fits r.rkey 32 ∧ fits r.length 32)

/-- The fields of an SPDM message fit. -/
def SpdmMsg.wf (m : SpdmMsg) : Bool := decide (fits m.session 32 ∧ fits m.payload (8 * m.bytes))

/-- A flit is 256 bytes, on one of 16 links (R382, R383). -/
def Flit.wf (f : Flit) : Bool := decide (f.link < 16 ∧ fits f.image 2048 ∧ f.wrong ≤ 256)

/-- The fields of a frame fit. -/
def EthFrame.wf (f : EthFrame) : Bool :=
  decide (f.priority < 8 ∧ fits f.qp 24 ∧ fits f.mac 48 ∧ fits f.dest 128) && f.tags.all (fun t => decide (t < 4096)) &&
  (match f.port with | some p => decide (p < 65536) | none => true)

/-- The straps are a bit and three bits (R612). -/
def Straps.wf (x : Straps) : Bool := decide (x.i3c < 8)

/-- A row names a slot and a package that exist. -/
def RowRef.wf (r : RowRef) : Bool := decide (r.slot < 1024 ∧ r.home < 4096)

/-- A forwarded row operation has a body of 64 bytes. -/
def RowCall.wf (c : RowCall) : Bool := c.row.wf && decide (fits c.body 512)

/-- A matrix-vector step has the vector that its weights need. -/
def MvStep.wf (m : MvStep) : Bool :=
  decide (m.wfmt < 16 ∧ m.vfmt < 16 ∧ m.entry < 256 ∧ m.count ≤ 32 ∧ m.wscales < 2 ^ 64 ∧ m.vscale < 256)

/-- What the sequencer generates for a step fits its unit (R47, R49). -/
def Feed.wf (f : Feed) : Bool :=
  decide (f.a < 2 ^ 20 ∧ f.b < 2 ^ 20 ∧ f.k < 8192 ∧ f.entry < 256 ∧ f.imm < 2 ^ 64 ∧ f.w < 2 ^ 20 ∧ f.peer < 16) &&
    f.loops.length == 4 && f.loops.all (fun x => decide (x < 2 ^ 32))

/-- What the master sends is well-formed: object keys and values, member and object numbers, entries of 64 bytes. -/
def DomainNews.wf (n : DomainNews) : Bool :=
  n.dead.all (fun a => decide (a < 32)) &&
  n.objects.all (fun o => decide (o.1 < 2 ^ 24) && decide (fits o.2 (if o.1 = 0x601300 then 12800 else 64))) &&
  n.partners.all (fun p => decide (p.1 < 65536 ∧ p.2 < 4096)) &&
  (match n.join with
    | some j => (match j.index with | some m => decide (m < 8) | none => true) &&
        j.entries.all (fun e => decide (e.1 < 65536) && decide (fits e.2.1 512))
    | none => true)

/-- The operands of a command fit their fields. -/
def Instr.wf : Instr → Bool
  | .inputStable _ => true
  | .packageBusRegulated straps _ => straps.wf
  | .inputLowWarning _ => true
  | .inputLoss _ => true
  | .rotVerifyDone _ _ _ => true
  | .mgmtCoreReady => true
  | .selftestStepEnd step _ _ warm => decide (step < 7) && warm.lines.all (fun l => fits l 42)
  | .selftestStepTimeout step die unit => decide (step < 7) && decide (die < 32) && decide (unit < 256)
  | .enterStanding d => d.wf
  | .pkgResetNAssert => true
  | .pkgResetNRelease straps => straps.wf
  | .pkgReset d => d.wf
  | .pkgResetTrigger => true
  | .resetShutdownDone => true
  | .watchdogExpiry => true
  | .refclkLoss => true
  | .powerInterval _ _ _ _ _ => true
  | .thermalTrip die => decide (die < 32)
  | .domainIdleEntry dom => decide (dom < 28)
  | .domainIdleExit dom => decide (dom < 28)
  | .retainEntry dom => decide (dom < 28)
  | .offEntry dom => decide (dom < 28)
  | .wakeRequest dom => decide (dom < 28)
  | .wakeComplete dom => decide (dom < 28)
  | .generationCheckDone dom => decide (dom < 28)
  | .clusterReloadAfterWake slice => decide (slice < 8)
  | .wakeFailure dom => decide (dom < 28)
  | .wakeRetry dom => decide (dom < 28)
  | .dieFault die => decide (die < 32)
  | .dieRetest d => d.wf
  | .dieRetestDone _ _ lines => lines.all (fun l => fits l 42)
  | .flitReceive f => f.wf
  | .flitNakReceive link ackSeq => decide (link < 16) && decide (ackSeq < 1024)
  | .linkDown link => decide (link < 16)
  | .linkTrained link lanes => decide (link < 16) && decide (lanes < 9)
  | .linkRecal d => d.wf
  | .linkRecalRequest link => decide (link < 16)
  | .recalThresholdExceeded link => decide (link < 16)
  | .linkQuiesced link => decide (link < 16)
  | .linkRetrained link => decide (link < 16)
  | .linkRecalTimeout link => decide (link < 16)
  | .read h _ => h.wf
  | .readAcq h _ => h.wf
  | .write h data => h.wf && decide (fits data 32768)
  | .writeRel h data => h.wf && decide (fits data 32768)
  | .flush h body => h.wf && decide (fits body 128)
  | .atomic h body => h.wf && decide (fits body 256)
  | .publish h body data => h.wf && decide (fits body 512) && decide (fits data 32768)
  | .syncAdd h body => h.wf && decide (fits body 256)
  | .syncSet h body => h.wf && decide (fits body 256)
  | .syncClaim h body => h.wf && decide (fits body 256)
  | .syncRelease h body => h.wf && decide (fits body 256)
  | .syncCancel h body => h.wf && decide (fits body 256)
  | .wait h body => h.wf && decide (fits body 512)
  | .doorbell h body => h.wf && decide (fits body 128)
  | .probe h => h.wf
  | .attend h body => h.wf && decide (fits body 32768)
  | .attendDispatch _ _ => true
  | .attendBindAfterHold _ => true
  | .attendHoldExpired _ => true
  | .partialWritten _ _ => true
  | .mergeSyncReached _ => true
  | .mergeTimeout _ => true
  | .append h body => h.wf && decide (fits body 32768)
  | .commit h body => h.wf && decide (fits body 32768)
  | .commitPublish _ => true
  | .discard h body => h.wf && decide (fits body 32768)
  | .arenaActivate h body => h.wf && decide (fits body 32768)
  | .arenaDeactivate h body => h.wf && decide (fits body 32768)
  | .gather h body => h.wf && decide (fits body 512)
  | .pool h body => h.wf && decide (fits body 512)
  | .scatter h body => h.wf && decide (fits body 512)
  | .update h body => h.wf && decide (fits body 512)
  | .oryxDelete h body => h.wf && decide (fits body 512)
  | .tableActivate h body => h.wf && decide (fits body 512)
  | .tableReplace h body => h.wf && decide (fits body 512)
  | .tableDeactivate h body => h.wf && decide (fits body 512)
  | .oryxListRead _ _ _ => true
  | .oryxRowOperation _ i => (match i.guest with | some g => g.wf | none => true)
  | .oryxResultHeader _ _ => true
  | .tableVersionFreed slot => decide (slot < 1024)
  | .shardWindowEnd _ => true
  | .hotSlotGranted row pkg slice h => row.wf && decide (pkg < 4096 ∧ slice < 8 ∧ h.offset < 2 ^ 48 ∧ fits h.desc 1024 ∧ h.tenant < 4096)
  | .rowCopyAcked row => row.wf
  | .rowCommitAcked row => row.wf
  | .rowCommitTimeout row => row.wf
  | .rowReturnAcked row _ => row.wf
  | .rowForwardLost row => row.wf
  | .query h body => h.wf && decide (fits body 32768)
  | .queryDispatch _ _ => true
  | .queryComplete _ _ => true
  | .insert h body => h.wf && decide (fits body 32768)
  | .sideEntryCommit _ _ _ => true
  | .searchDelete h body => h.wf && decide (fits body 32768)
  | .indexActivate h body => h.wf && decide (fits body 32768)
  | .indexDeactivate h body => h.wf && decide (fits body 32768)
  | .indexDeactivateDone _ => true
  | .indexMerge h body => h.wf && decide (fits body 32768)
  | .mergeIdleTimer _ => true
  | .mergeBuildStart _ => true
  | .mergePublish _ => true
  | .mergeAbandon _ => true
  | .invoke h body => h.wf && decide (fits body 32768)
  | .callComplete _ _ => true
  | .register h body => h.wf && decide (fits body 512)
  | .registerDone _ => true
  | .configRetire h body => h.wf && decide (fits body 512)
  | .configRetireRecord _ => true
  | .load h body => h.wf && decide (fits body 512)
  | .unbind h body => h.wf && decide (fits body 512)
  | .clusterLoadStart cluster => decide (cluster < 128)
  | .clusterLoadComplete cluster => decide (cluster < 128)
  | .clusterLoadFail cluster _ => decide (cluster < 128)
  | .clusterDrainComplete cluster => decide (cluster < 128)
  | .drainOverdue cluster => decide (cluster < 128)
  | .tileFailure cluster _ => decide (cluster < 128)
  | .objectActivate h body => h.wf && decide (fits body 512)
  | .objectDeactivate h body => h.wf && decide (fits body 512)
  | .setPolicy h body => h.wf && decide (fits body 512)
  | .migrate h body => h.wf && decide (fits body 512)
  | .shadowRegister h body => h.wf && decide (fits body 512)
  | .shadowRetire h body => h.wf && decide (fits body 512)
  | .shadowValidate h body => h.wf && decide (fits body 512)
  | .placementExecute _ _ => true
  | .promotionStart extent => decide (extent < 2 ^ 27)
  | .promotionCommit extent _ => decide (extent < 2 ^ 27)
  | .demotionStart extent => decide (extent < 2 ^ 27)
  | .demotionCommit extent => decide (extent < 2 ^ 27)
  | .stagingProgrammed extent => decide (extent < 2 ^ 27)
  | .stalledAccessResume _ => true
  | .protectionAckTimeout _ => true
  | .streamRead h body => h.wf && decide (fits body 512)
  | .streamMapCheck _ => true
  | .streamBlockWrite _ _ => true
  | .streamReadComplete _ => true
  | .tableInstall h body => h.wf && decide (fits body 512)
  | .tableInstallBuilt slot => decide (slot < 1024)
  | .tableSlotRetire h body => h.wf && decide (fits body 512)
  | .slotQueuedZero slot => decide (slot < 1024)
  | .invalPages h body => h.wf && decide (fits body 256)
  | .invalContext h body => h.wf && decide (fits body 256)
  | .invalTakesEffect _ => true
  | .translationWalkEnd a => a.wf
  | .faultRecordAcked queue _ _ => decide (queue < 16)
  | .faultDoorbellResend queue _ => decide (queue < 16)
  | .xltRetry h value => h.wf && decide (value < 2 ^ 64)
  | .xltAbort h value => h.wf && decide (value < 2 ^ 64)
  | .dmaCopy h body => h.wf && decide (fits body 512)
  | .dmaTransferStart channel => decide (channel < 32)
  | .dmaTransferEnd channel _ _ => decide (channel < 32)
  | .rdShared h => h.wf
  | .rdOwn h => h.wf
  | .upgrade h => h.wf
  | .wbDirty h data => h.wf && decide (fits data 512)
  | .evictClean h => h.wf
  | .snoopResponse _ agent _ _ => decide (agent < 32)
  | .snoopTimeout _ agent => decide (agent < 32)
  | .directoryRecallDone line => decide (line < 2 ^ 42)
  | .composeSetEntry h body => h.wf && decide (fits body 256)
  | .composeRemoveEntry h body => h.wf && decide (fits body 256)
  | .composeAdvance h body => h.wf && decide (fits body 256)
  | .drainWindowClose composition => decide (composition < 4096)
  | .entryDrainFree requester => decide (requester < 2 ^ 16)
  | .owner h body => h.wf && decide (fits body 256)
  | .ownerRecordTakeUp record body => decide (record < 1024) && decide (fits body 256)
  | .ownerTakeUpTimeout record => decide (record < 1024)
  | .meterPeriodEnd => true
  | .remoteCopyExpire slice line => decide (slice < 8) && decide (line < 2 ^ 42)
  | .commandSignal _ => true
  | .deadlockScan => true
  | .scrubPassEnd home _ _ => decide (home < 8)
  | .stragglerReport member => decide (member < 8)
  | .expelVote d => d.wf
  | .domainChangeRebuild d _ => d.wf
  | .rebuildFillDone => true
  | .domainChangeReplace d _ => d.wf
  | .replaceCommit => true
  | .domainChangeLeave d _ => d.wf
  | .drainBegin d => d.wf
  | .domainForm d _ => d.wf
  | .domainFormTimeout => true
  | .domainDissolve d => d.wf
  | .generationTakeUp generation news => decide (generation < 2 ^ 32) && news.wf
  | .declareAgentDead d => d.wf
  | .agentReactivate d => d.wf
  | .agentEntryWrite d => d.wf
  | .dataSourceWrite d => d.wf
  | .masterConfirmWrite d => d.wf
  | .ethFrameReceive f => f.wf
  | .arpRequest target => decide (target < 2 ^ 128)
  | .neighbourSolicitation target => decide (target < 2 ^ 128)
  | .icmpEchoRequest target _ => decide (target < 2 ^ 128)
  | .pfcFrameReceive xoff xon => decide (xoff < 256) && decide (xon < 256)
  | .pauseFrameReceive => true
  | .cnpReceive qp => decide (qp < 2 ^ 24)
  | .cnpRateRecovery qp => decide (qp < 2 ^ 24)
  | .ethLinkUp => true
  | .ethLinkDown => true
  | .rdmaRead r _ => r.wf
  | .rdmaWrite r data => r.wf && decide (fits data 8388608)
  | .fetchAndAdd r operand => r.wf && decide (operand < 2 ^ 64)
  | .compareAndSwap r compare operand => r.wf && decide (compare < 2 ^ 64) && decide (operand < 2 ^ 64)
  | .roceSendRequest p msgBytes opcode h body data => decide (p.qp < 2 ^ 24) && decide (p.psn < 2 ^ 24) && decide (msgBytes < 2 ^ 24) && decide (opcode < 256) && h.wf && decide (fits body 32768) && decide (fits data 32768)
  | .roceAckReceive qp psn => decide (qp < 2 ^ 24) && decide (psn < 2 ^ 24)
  | .roceNakReceive qp psn _ => decide (qp < 2 ^ 24) && decide (psn < 2 ^ 24)
  | .roceAckTimeout qp => decide (qp < 2 ^ 24)
  | .qpEntryWrite d => d.wf
  | .i3cSetdasa address => decide (address < 2 ^ 60)
  | .i3cEntdaa address => decide (address < 2 ^ 60)
  | .i3cPrivateRead => true
  | .dapOpenTenant d => d.wf
  | .dapOpenManagement d => d.wf
  | .dapClose d => d.wf
  | .dapRead d => d.wf
  | .dapWrite d => d.wf
  | .dapWriteGuarded d => d.wf
  | .dapSubscribe d => d.wf
  | .dapUnsubscribe d => d.wf
  | .dapSessionIdleTimeout _ _ => true
  | .spdmGetVersion m => m.wf
  | .spdmGetCapabilities m => m.wf
  | .spdmNegotiateAlgorithms m => m.wf
  | .spdmGetDigests m => m.wf
  | .spdmGetCertificate m => m.wf
  | .spdmChallenge m => m.wf
  | .spdmGetMeasurements m => m.wf
  | .spdmKeyExchange m _ => m.wf
  | .spdmFinish m _ => m.wf
  | .spdmHeartbeat m => m.wf
  | .spdmKeyUpdate m => m.wf
  | .spdmEndSession m => m.wf
  | .spdmHeartbeatMissed _ => true
  | .arithCountersClear d => d.wf
  | .attnCountersClear d => d.wf
  | .tierCountersClear d => d.wf
  | .streamCountersClear d => d.wf
  | .oryxCountersClear d => d.wf
  | .tableCountersClear d => d.wf
  | .searchCountersClear d => d.wf
  | .xltCountersClear d => d.wf
  | .syncCountersClear d => d.wf
  | .ethCountersClear d => d.wf
  | .dictCountersClear d => d.wf
  | .regCountersClear d => d.wf
  | .saveNow d => d.wf
  | .saveComplete => true
  | .restoreDefaults d => d.wf
  | .cfgCommit d => d.wf
  | .cfgCommitTimeout => true
  | .cfgWalkStart die => decide (die < 32)
  | .cfgWalkEnd die => decide (die < 32)
  | .cfgPendingOverdue die => decide (die < 32)
  | .fwStageData d => d.wf
  | .fwVerify d => d.wf
  | .fwVerifyDone _ => true
  | .fwHandover d => d.wf
  | .fwAlive => true
  | .fwHandoverTimeout => true
  | .imageKeyEnrol d => d.wf
  | .imageKeyRevoke d => d.wf
  | .ownerKeyEnrol d => d.wf
  | .ownerKeyRevoke d => d.wf
  | .fmKeyWrite d => d.wf
  | .keyCreate d => d.wf
  | .keyDestroy d => d.wf
  | .keySweepDone tenant => decide (tenant < 4096)
  | .handover d => d.wf
  | .handoverReport d => d.wf
  | .conditionReportSign => true
  | .logCheckpoint d => d.wf
  | .lifetimeMeterUpdate _ => true
  | .meterSnapshot => true
  | .meterAck d => d.wf
  | .meterBatchRead d => d.wf
  | .syncViewRead d => d.wf
  | .trustModeWrite d => d.wf
  | .regionEntryWrite d => d.wf
  | .packageNumberWrite d => d.wf
  | .heldReadyMaskWrite d => d.wf
  | .domainFloorWrite d => d.wf
  | .dictObjectWrite d => d.wf
  | .regWrite die offset value => decide (die < 32) && decide (offset < 2 ^ 16) && decide (value < 2 ^ 64)
  | .guardedRegWrite die offset value => decide (die < 32) && decide (offset < 2 ^ 16) && decide (value < 2 ^ 64)
  | .complementPortWrite die offset value => decide (die < 32) && decide (offset < 2 ^ 16) && decide (value < 2 ^ 64)
  | .guardTimeout die => decide (die < 32)
  | .regLoRead die offset => decide (die < 32) && decide (offset < 2 ^ 16)
  | .regHiRead die offset => decide (die < 32) && decide (offset < 2 ^ 16)
  | .regLoWrite die offset value => decide (die < 32) && decide (offset < 2 ^ 16) && decide (value < 2 ^ 64)
  | .regHiWrite die offset value => decide (die < 32) && decide (offset < 2 ^ 16) && decide (value < 2 ^ 64)
  | .rawDieWrite d => d.wf
  | .rawOffsetWrite d => d.wf
  | .rawDataRead d => d.wf
  | .rawDataWrite d => d.wf
  | .rawData64Read d => d.wf
  | .rawData64Write d => d.wf
  | .rawGuardedWrite d => d.wf
  | .mbxAckWrite die mailbox value => decide (die < 32) && decide (mailbox < 16) && decide (value < 2 ^ 64)
  | .mbxHeadRead h => h.wf
  | .fabTileSelWrite die value => decide (die < 32) && decide (value < 2 ^ 64)
  | .homeDirProbeWrite die value => decide (die < 32) && decide (value < 2 ^ 64)
  | .scratchpadWindowAccess w => w.wf
  | .matrixVectorStep tile m => decide (tile < 2048) && m.step.wf && m.feed.wf
  | .vectorStep tile _ pads own out => decide (tile < 2048) && (Feed.of ⟨pads, own⟩ out).wf
  | .conversion tile target src out => decide (tile < 2048) && decide (target ≤ 0xA) && (Feed.of src out).wf
  | .specialFunction tile _ src out => decide (tile < 2048) && (Feed.of src out).wf
  | .crossLaneReduce tile _ f => decide (tile < 2048) && f.wf
  | .tilePlainLoad a _ => a.wf
  | .tileAcquireLoad a _ => a.wf
  | .tileLoadReturn tile => decide (tile < 2048)
  | .tilePlainStore a _ => a.access.wf && a.feed.wf
  | .tileReleaseStore a _ => a.access.wf && a.feed.wf
  | .tileAtomic a body _ => a.wf && decide (fits body 256)
  | .tileFence tile => decide (tile < 2048)
  | .tileSignal tile object operand => decide (tile < 2048) && decide (object < 32768) && decide (operand < 2 ^ 64)
  | .tileWait tile object cond target => decide (tile < 2048) && decide (object < 32768) && decide (cond < 4) && decide (target < 2 ^ 128)
  | .repairSourceTimeout line => decide (line < 2 ^ 42)
  | .notificationTimeout object => decide (object < 32768)
  | .rnrRetryTimer qp => decide (qp < 2 ^ 24)
  | .listReadReissue _ _ _ => true
  | .norFreeRelease => true
  | .unknownOpcode h opcode => h.wf && decide (opcode < 256)
  | .messageDiscard _ firstByte => decide (firstByte < 256)
  | .spdmUnsupportedRequest m code => m.wf && decide (code < 256)

end Sys2Proof
end

