-- ==== Sys2Proof/Config.lean ====
section
/-! DEFINITION. What an implementation fixes and the spec does not state: values set at manufacture, the
cryptographic functions, and the free values. None has a body, so nothing can be proved of a value of one. -/

namespace Sys2Proof.Config

/-- The free values: the n-th value that the model draws where the spec leaves a value open (the counter is
`State.freeCtr`). Log entry 1. -/
opaque free : Nat → Nat

/-- The ML-DSA-65 signature that the device makes with one of its keys: key slot, digest (R579). Log entry 2. -/
opaque sign : Nat → Nat → Nat

/-- The alias key that the running firmware derives, as the 64-byte SHAKE256 digest of its public key: digest of the firmware,
security version (R578, R579). Log entry 2. -/
opaque aliasKey : Nat → Nat → Nat

/-- 0x1000.04 silicon_revision, set at manufacture. Log entry 3. -/
opaque siliconRevision : Nat

/-- 0x1000.05 serial_number, set at manufacture. Log entry 3. -/
opaque serial : Nat

/-- 0x1000.06 manufacture_date, set at manufacture. Log entry 3. -/
opaque date : Nat

/-- 0x1000.09 rot_rom_version, set at manufacture. Log entry 3. -/
opaque rotRom : Nat

/-- 0x7100.02 eth_mac, set at manufacture. Log entry 3. -/
opaque mac : Nat

/-- The default of 0x7031.01 hash_seed and 0x7031.02 hash_seed_active, set at manufacture. Log entry 3. -/
opaque hashSeed : Nat

/-- 0xB010.01 device_id_fingerprint, set at manufacture. Log entry 3. -/
opaque fingerprint : Nat

/-- The certification key in image key slot 0 (R101). Log entry 3. -/
opaque imageKey0 : Nat

/-- The ROM firmware key (R539). Log entry 3. -/
opaque fwKey : Nat

/-- The certificate chain of slot 0 as a number, by the fingerprint of the alias key at its end (R579). Log entry 3. -/
opaque certChain : Nat → Nat

/-- The number of bytes of the certificate chain, by the same. Log entry 3. -/
opaque certChainBytes : Nat → Nat

/-- Measurement block 1: the digest of the root-of-trust ROM (R582). Log entry 3. -/
opaque romDigest : Nat

/-- The type byte of a measurement block in DMTF format, by its index (R582). Log entry 46. -/
opaque measType : Nat → Nat

/-- The digest of a saved image: sequence number, values by object key (R582). Log entry 2. -/
opaque imageDigest : Nat → List (Nat × Nat) → Nat

/-- The package that is a domain's master, as a member that is not knows it (R567): domain_id. Log entry 45. -/
opaque masterPackage : Nat → Nat

/-- A special function's binary32 result where the spec bounds its error and does not state it: the function, the
operand and the divisor (R77). Log entry 4. -/
opaque special : SpecialFn → Nat → Nat → Nat

/-- The scale of a block of binary32 codes that holds an infinity and is converted to MXFP8 with E5M2 elements, where R74 gives
none: a value that the codes determine (R84). Log entry 1. -/
opaque infScale : List Nat → Nat

/-- How the vector unit writes the outcome of a comparison in a lane (R75). Log entry 4. -/
opaque truth : Bool → Nat

/-- The set of the store cache that a line maps to (R170). Log entry 59. -/
opaque storeSet : Nat → Nat

/-- Which of the states of a block's last symbols PACK_STREAM's encoding starts from: the block, the lane (R235, R84). Log entry
62. -/
opaque packState : Nat → Nat → Nat

/-- The material of tenant key 0xFFF from manufacture on, until a purge creates it afresh (R587). Log entry 3. -/
opaque firstKey : Nat

/-- The flash page that holds 4 KiB of a far frame, by its physical address, and which unit of the page it is (R586). Log entry
64. -/
opaque flashPage : Nat → Nat → Nat
opaque flashUnit : Nat → Nat → Nat

end Sys2Proof.Config
end

