-- ==== Sys2Proof/Machine/Bits.lean ====
section
/-! DEFINITION. Bit fields, byte strings, check codes and keyed tables: the plain helpers the machine is built of. -/

namespace Sys2Proof.Machine

/-- Bits `hi` to `lo` of a number. -/
def bits (x hi lo : Nat) : Nat := (x >>> lo) % 2 ^ (hi + 1 - lo)

/-- Bit `n` of a number. -/
def bit (x n : Nat) : Bool := (x >>> n) % 2 == 1

/-- The number 1 or 0 of a truth value. -/
def b2n (b : Bool) : Nat := if b then 1 else 0

/-- `x` with bits `hi` to `lo` replaced by `v`. -/
def setBits (x hi lo v : Nat) : Nat :=
  x - (bits x hi lo) * 2 ^ lo + (v % 2 ^ (hi + 1 - lo)) * 2 ^ lo

/-- Quotient rounded up. -/
def ceilDiv (a b : Nat) : Nat := (a + b - 1) / b

/-- The number of ones among the low `w` bits. -/
def popcount (w x : Nat) : Nat := ((List.range w).filter (fun i => bit x i)).length

/-- The position of the `k`-th one (from 0) among the low `w` bits. -/
def nthOne (w x k : Nat) : Option Nat := ((List.range w).filter (fun i => bit x i))[k]?

/-- The exclusive or of `n` groups of `w` bits. -/
def foldGroups (w : Nat) : Nat → Nat → Nat
  | 0, _ => 0
  | n + 1, x => (x % 2 ^ w) ^^^ foldGroups w n (x >>> w)

/-- The bytes of a little-endian number (R6). -/
def toBytes : Nat → Nat → List Byte
  | 0, _ => []
  | n + 1, x => BitVec.ofNat 8 x :: toBytes n (x / 256)

/-- The little-endian number of bytes (R6). -/
def ofBytes : List Byte → Nat
  | [] => 0
  | b :: bs => b.toNat + 256 * ofBytes bs

/-- The number of bytes up to and including the last that is not zero. -/
def byteLen (x : Nat) : Nat := if x = 0 then 0 else Nat.log2 x / 8 + 1

/-- One step of the reflected Castagnoli code (R214). -/
def crcBit (c : Nat) : Nat := if c % 2 = 1 then (c / 2) ^^^ 0x82F63B78 else c / 2

/-- Eight steps. -/
def crcByte (c b : Nat) : Nat := crcBit (crcBit (crcBit (crcBit (crcBit (crcBit (crcBit (crcBit (c ^^^ b))))))))

/-- The code's register after `n` bytes of a little-endian number. -/
def crcRun : Nat → Nat → Nat → Nat
  | 0, _, c => c
  | n + 1, x, c => crcRun n (x / 256) (crcByte c (x % 256))

/-- CRC-32C of the first `n` bytes of a little-endian number (R214). -/
def crc32c (n x : Nat) : Nat := (crcRun n x 0xFFFFFFFF) ^^^ 0xFFFFFFFF

/-- A 32-bit two's-complement number. -/
def toInt (w x : Nat) : Int := if x % 2 ^ w < 2 ^ (w - 1) then (x % 2 ^ w : Nat) else (x % 2 ^ w : Nat) - (2 ^ w : Nat)

/-- A two's-complement number of `w` bits. -/
def ofInt (w : Nat) (x : Int) : Nat := (x % (2 ^ w : Nat)).toNat

/-- A number that stops at `w` bits of ones. -/
def satInc (w x n : Nat) : Nat := min (x + n) (2 ^ w - 1)

/-- A table: pairs of key and value, the keys rising. -/
abbrev Tab (α : Type) := List (Nat × α)

/-- The value at a key. -/
def tget {α : Type} (t : Tab α) (k : Nat) : Option α :=
  match t with
  | [] => none
  | (k', v) :: r => if k' = k then some v else tget r k

/-- The value at a key, or a default. -/
def tgetD {α : Type} (t : Tab α) (k : Nat) (d : α) : α := (tget t k).getD d

/-- A table without a key. -/
def terase {α : Type} (t : Tab α) (k : Nat) : Tab α :=
  match t with
  | [] => []
  | (k', v) :: r => if k' = k then r else (k', v) :: terase r k

/-- A table with a value at a key. -/
def tset {α : Type} (t : Tab α) (k : Nat) (v : α) : Tab α :=
  match t with
  | [] => [(k, v)]
  | (k', v') :: r => if k' = k then (k, v) :: r else if k < k' then (k, v) :: (k', v') :: r else (k', v') :: tset r k v

/-- The value at a key changed by a function; nothing where there is none. -/
def tmod {α : Type} (t : Tab α) (k : Nat) (f : α → α) : Tab α :=
  match t with
  | [] => []
  | (k', v) :: r => if k' = k then (k, f v) :: r else (k', v) :: tmod r k f

/-- A set of numbers, rising. -/
abbrev NSet := List Nat

/-- A set with an element. -/
def sadd (t : NSet) (k : Nat) : NSet :=
  match t with
  | [] => [k]
  | k' :: r => if k' = k then k' :: r else if k < k' then k :: k' :: r else k' :: sadd r k

/-- A set without an element. -/
def sdel (t : NSet) (k : Nat) : NSet := t.filter (fun k' => k' != k)

/-- The least number below `n` that has no key in a table. -/
def firstFree {α : Type} (t : Tab α) (n : Nat) : Option Nat := (List.range n).find? (fun k => (tget t k).isNone)

end Sys2Proof.Machine
end

