-- ==== Sys2Proof/Machine/Crypto.lean ====
section
/-! DEFINITION. The published algorithms that the spec names: SHAKE128 and SHAKE256 (FIPS 202), the verification of ML-DSA-65
(FIPS 204), AES-256 (FIPS 197) and its XTS mode (IEEE 1619) (R100, R565, R585, R586, R591). Byte strings are numbers, the first
byte in the lowest bits. -/

namespace Sys2Proof.Machine

/-! ## SHAKE -/

/-- A 64-bit lane rotated left. -/
def rotLane (x n : Nat) : Nat := (x <<< n ||| x >>> (64 - n)) % 2 ^ 64

/-- The rotations of the lanes, lane x + 5y. -/
def keccakRot : List Nat :=
  [0, 1, 62, 28, 27, 36, 44, 6, 55, 20, 3, 10, 43, 25, 39, 41, 45, 15, 21, 8, 18, 2, 61, 56, 14]

/-- The round constants. -/
def keccakRc : List Nat :=
  [0x0000000000000001, 0x0000000000008082, 0x800000000000808A, 0x8000000080008000, 0x000000000000808B, 0x0000000080000001,
   0x8000000080008081, 0x8000000000008009, 0x000000000000008A, 0x0000000000000088, 0x0000000080008009, 0x000000008000000A,
   0x000000008000808B, 0x800000000000008B, 0x8000000000008089, 0x8000000000008003, 0x8000000000008002, 0x8000000000000080,
   0x000000000000800A, 0x800000008000000A, 0x8000000080008081, 0x8000000000008080, 0x0000000080000001, 0x8000000080008008]

/-- Element `i` of a list of numbers. -/
def nth (l : List Nat) (i : Nat) : Nat := l[i]?.getD 0

/-- One round of Keccak-f[1600]. -/
def keccakRound (a : List Nat) (rc : Nat) : List Nat :=
  let c := (List.range 5).map (fun x => nth a x ^^^ nth a (x + 5) ^^^ nth a (x + 10) ^^^ nth a (x + 15) ^^^ nth a (x + 20))
  let d := (List.range 5).map (fun x => nth c ((x + 4) % 5) ^^^ rotLane (nth c ((x + 1) % 5)) 1)
  let t := (List.range 25).map (fun i => nth a i ^^^ nth d (i % 5))
  let b := (List.range 25).map (fun i =>
    let j := (i % 5 + 3 * (i / 5)) % 5 + 5 * (i % 5)
    rotLane (nth t j) (nth keccakRot j))
  (List.range 25).map (fun i =>
    let row := i / 5 * 5
    let v := nth b i ^^^ ((2 ^ 64 - 1 - nth b (row + (i + 1) % 5)) &&& nth b (row + (i + 2) % 5))
    if i = 0 then v ^^^ rc else v)

/-- Keccak-f[1600]. -/
def keccak (a : List Nat) : List Nat := keccakRc.foldl keccakRound a

/-- The blocks of a padded message go into the sponge. -/
def absorb (rate m : Nat) : Nat → Nat → List Nat → List Nat
  | 0, _, a => a
  | n + 1, i, a =>
    let block := m >>> (8 * rate * i)
    absorb rate m n (i + 1) (keccak ((List.range 25).map (fun k =>
      if 8 * k < rate then nth a k ^^^ bits block (64 * k + 63) (64 * k) else nth a k)))

/-- Blocks out of the sponge. -/
def squeeze (rate : Nat) : Nat → List Nat → Nat
  | 0, _ => 0
  | n + 1, a => (a.take (rate / 8)).foldr (fun l v => l + v * 2 ^ 64) 0 + squeeze rate n (keccak a) * 2 ^ (8 * rate)

/-- `blocks` blocks of the SHAKE function of a rate, of `n` bytes. -/
def shake (rate n m blocks : Nat) : Nat :=
  let k := n / rate + 1
  squeeze rate blocks (absorb rate (m % 2 ^ (8 * n) + 0x1F * 2 ^ (8 * n) + 0x80 * 2 ^ (8 * (k * rate - 1))) k 0
    (List.replicate 25 0))

/-- The 64-byte SHAKE256 digest of `n` bytes. -/
@[irreducible] def shake256 (n m : Nat) : Nat := shake 136 n m 1 % 2 ^ 512

/-! ## ML-DSA-65 -/

/-- The modulus, γ1, γ2, and the bound γ1 − β of a signature's coefficients. -/
abbrev dsaQ : Nat := 8380417
abbrev dsaGamma1 : Nat := 524288
abbrev dsaGamma2 : Nat := 261888
abbrev dsaBound : Nat := 524092

/-- A power modulo q, by the bits of the exponent from bit `k − 1` down. -/
def dsaPow (b e : Nat) : Nat → Nat
  | 0 => 1
  | k + 1 => let r := dsaPow b (e / 2) k; r * r % dsaQ * (if e % 2 = 1 then b else 1) % dsaQ

/-- The 8 bits of a number reversed. -/
def rev8 (i : Nat) : Nat := ((List.range 8).map (fun k => i / 2 ^ k % 2 * 2 ^ (7 - k))).sum

/-- The points at which the number-theoretic transform evaluates a polynomial, in its order. -/
def dsaPoints : List Nat := (List.range 256).map (fun i => dsaPow 1753 (2 * rev8 i + 1) 9)

/-- The transform of a polynomial of 256 coefficients, and its inverse. -/
def dsaNtt (w : List Nat) : List Nat := dsaPoints.map (fun p => w.foldr (fun c v => (c + p * v) % dsaQ) 0)
def dsaInverse (h : List Nat) : List Nat :=
  let inv := (List.range 256).map (fun i => dsaPow 1753 (512 - (2 * rev8 i + 1)) 9)
  let n := dsaPow 256 (dsaQ - 2) 23
  ((List.range 256).foldl (fun (a : List Nat × List Nat) _ =>
    (a.1 ++ [n * ((List.zipWith (· * ·) h a.2).foldl (fun v c => (v + c) % dsaQ) 0) % dsaQ],
      List.zipWith (fun x p => x * p % dsaQ) a.2 inv)) ([], List.replicate 256 1)).1

/-- `n` unsigned fields of `w` bits. -/
def dsaFields (w v n : Nat) : List Nat := (List.range n).map (fun i => bits v (w * i + w - 1) (w * i))

/-- An entry of the matrix, from its seed: numbers of 23 bits below q. -/
def dsaEntry (rho r s : Nat) : List Nat :=
  let v := shake 168 34 (rho % 2 ^ 256 + s * 2 ^ 256 + r * 2 ^ 264) 16
  ((dsaFields 24 v 896).map (· % 2 ^ 23)).filter (fun z => decide (z < dsaQ)) |>.take 256

/-- The challenge polynomial of 49 coefficients ±1: `i` from 207 up, the bytes of the stream in turn. -/
def dsaBall (signs : Nat) : Nat → Nat → List Nat → List Nat → List Nat
  | 0, _, _, c => c
  | _ + 1, _, [], c => c
  | n + 1, i, j :: js, c =>
    if 256 ≤ i then c
    else if i < j then dsaBall signs n i js c
    else dsaBall signs n (i + 1) js ((c.set i (nth c j)).set j (if bit signs (i - 207) then dsaQ - 1 else 1))

/-- The challenge of a hash of 48 bytes. -/
def dsaChallenge (h : Nat) : List Nat :=
  let v := shake 136 48 h 8
  dsaBall (v % 2 ^ 64) 1080 207 (dsaFields 8 (v >>> 64) 1080) (List.replicate 256 0)

/-- The hints of a polynomial: the positions `y` from `first` to `last`, rising; none where they do not rise. -/
def dsaHint (y : List Nat) (first last : Nat) : Option (List Nat) :=
  let ps := (y.take last).drop first
  if (List.zip ps ps.tail).all (fun p => decide (p.1 < p.2)) then some ps else none

/-- The hints of a signature: 55 positions and 6 ends. -/
def dsaHints (v : Nat) : Option (List (List Nat)) :=
  let y := dsaFields 8 v 61
  let ends := y.drop 55
  let starts := 0 :: ends
  if (List.zip starts ends).all (fun p => decide (p.1 ≤ p.2 ∧ p.2 ≤ 55)) ∧
      ((y.take 55).drop (nth ends 5)).all (fun x => x == 0) then
    (List.range 6).foldr (fun i acc => match acc, dsaHint y (nth starts i) (nth ends i) with
      | some hs, some h => some (h :: hs)
      | _, _ => none) (some [])
  else none

/-- The high part of a coefficient, corrected by its hint. -/
def dsaHigh (r : Nat) (hint : Bool) : Nat :=
  let m := 2 * dsaGamma2
  let low := r % m
  let neg := decide (dsaGamma2 < low)
  let r1 := if neg then (r + m - low) / m else r / m
  let wraps := neg && r + m - low == dsaQ - 1
  let up := !neg && low != 0
  let high := if wraps then 0 else r1
  if !hint then high % 16 else if up && !wraps then (high + 1) % 16 else (high + 15) % 16

/-- ML-DSA-65 verification of a signature of 3,309 bytes over a message of 64 bytes, with an empty context string, under a
public key of 1,952 bytes. -/
@[irreducible] def sigOk (pk message sig : Nat) : Bool :=
  let rho := pk % 2 ^ 256
  let t1 := (List.range 6).map (fun i => (dsaFields 10 (pk >>> (256 + 2560 * i)) 256).map (fun c => c * 8192 % dsaQ))
  let hash := sig % 2 ^ 384
  let zs := (List.range 5).map (fun i => (dsaFields 20 (sig >>> (384 + 5120 * i)) 256).map (fun c => dsaQ + dsaGamma1 - c))
  let small := zs.all (fun z => z.all (fun c =>
    let a := if c < dsaQ then dsaQ - c else c - dsaQ
    decide (a < dsaBound)))
  match dsaHints (bits sig 26471 25984) with
  | none => false
  | some hints =>
    let mu := shake256 130 (shake256 1952 pk + message % 2 ^ 512 * 2 ^ 528)
    let zh := zs.map (fun z => dsaNtt (z.map (· % dsaQ)))
    let ch := dsaNtt (dsaChallenge hash)
    let w1 := (List.range 6).map (fun r =>
      let sum := (List.range 5).foldl (fun acc s =>
        List.zipWith (fun x p => (x + p) % dsaQ) acc (List.zipWith (· * ·) (dsaEntry rho r s) ((zh[s]?).getD [])))
        (List.replicate 256 0)
      let sub := List.zipWith (· * ·) ch (dsaNtt ((t1[r]?).getD []))
      let w := dsaInverse (List.zipWith (fun x p => (x + dsaQ - p % dsaQ) % dsaQ) sum sub)
      let h := (hints[r]?).getD []
      (List.range 256).foldr (fun i v => dsaHigh (nth w i) (h.contains i) + v * 16) 0)
    let packed := w1.foldr (fun p v => p + v * 2 ^ 1024) 0
    small && shake 136 832 (mu + packed * 2 ^ 512) 1 % 2 ^ 384 == hash

/-! ## AES-256 and XTS -/

/-- Twice a byte in the field of AES, and a product of bytes. -/
def aesTwice (b : Nat) : Nat := if 128 ≤ b then (2 * b) ^^^ 0x11B else 2 * b
def aesMul (a b : Nat) : Nat :=
  ((List.range 8).foldl (fun (r : Nat × Nat) i => (if bit b i then r.1 ^^^ r.2 else r.1, aesTwice r.2)) (0, a)).1

/-- A byte's inverse, 0 for 0: its power 254. -/
def aesInv (a : Nat) : Nat :=
  let sq (x : Nat) : Nat := aesMul x x
  let a2 := sq a
  let a3 := aesMul a2 a
  let a12 := sq (sq a3)
  let a15 := aesMul a12 a3
  aesMul (aesMul (sq (sq (sq (sq a15)))) a12) a2

/-- The substitution of a byte. -/
def aesSub (a : Nat) : Nat :=
  let x := aesInv a
  let rot (n : Nat) : Nat := (x <<< n ||| x >>> (8 - n)) % 256
  x ^^^ rot 1 ^^^ rot 2 ^^^ rot 3 ^^^ rot 4 ^^^ 0x63

/-- The words of the key schedule beyond the first eight, as lists of four bytes; `rc` is the next round constant. -/
def aesExpand : Nat → Nat → List (List Nat) → List (List Nat)
  | 0, _, ws => ws
  | n + 1, rc, ws =>
    let i := ws.length
    let last := (ws.getLast?).getD []
    let t := if i % 8 = 0 then
        let r := (last.tail ++ last.take 1).map aesSub
        (nth r 0 ^^^ rc) :: r.tail
      else if i % 8 = 4 then last.map aesSub
      else last
    aesExpand n (if i % 8 = 0 then aesTwice rc else rc) (ws ++ [List.zipWith (· ^^^ ·) ((ws[i - 8]?).getD []) t])

/-- The round keys of a 256-bit key, 15 of 16 bytes. -/
def aesKeys (k : Nat) : List (List Nat) :=
  let b := dsaFields 8 k 32
  let ws := aesExpand 52 1 ((List.range 8).map (fun i => (b.drop (4 * i)).take 4))
  (List.range 15).map (fun r => ((ws.drop (4 * r)).take 4).flatten)

/-- The rows of a state shifted, and one column mixed. -/
def aesShift (b : List Nat) : List Nat := (List.range 16).map (fun i => nth b ((i + 4 * (i % 4)) % 16))
def aesMix (b : List Nat) : List Nat :=
  (List.range 16).map (fun i =>
    let c := i / 4 * 4
    let at_ (k : Nat) : Nat := nth b (c + (i + k) % 4)
    aesTwice (at_ 0) ^^^ aesTwice (at_ 1) ^^^ at_ 1 ^^^ at_ 2 ^^^ at_ 3)

/-- A block encrypted under the round keys that remain. -/
def aesRounds : List (List Nat) → List Nat → List Nat
  | [], b => b
  | [k], b => List.zipWith (· ^^^ ·) (aesShift (b.map aesSub)) k
  | k :: ks, b => aesRounds ks (List.zipWith (· ^^^ ·) (aesMix (aesShift (b.map aesSub))) k)

/-- AES-256 of a block of 16 bytes. -/
def aes256 (key block : Nat) : Nat :=
  match aesKeys key with
  | [] => block
  | k :: ks => (aesRounds ks (List.zipWith (· ^^^ ·) (dsaFields 8 block 16) k)).foldr (fun b v => b + v * 256) 0

/-- The tweak of the next block of a data unit. -/
def xtsNext (t : Nat) : Nat := if bit t 127 then (2 * t % 2 ^ 128) ^^^ 0x87 else 2 * t

/-- The blocks of a data unit encrypted, from the first on, with tweak `t`. -/
def xtsBlocks (key v : Nat) : Nat → Nat → Nat → Nat
  | 0, _, _ => 0
  | n + 1, i, t => (aes256 key (bits v (128 * i + 127) (128 * i) ^^^ t) ^^^ t) + xtsBlocks key v n (i + 1) (xtsNext t) * 2 ^ 128

/-- A data unit of `n` blocks encrypted with AES-256-XTS: the data key in the low 256 bits of the key, the tweak key above, and
the number of the unit. -/
@[irreducible] def xts (key unit n v : Nat) : Nat := xtsBlocks (key % 2 ^ 256) v n 0 (aes256 (key / 2 ^ 256) unit)

end Sys2Proof.Machine
end

