-- ==== Sys2Proof/Machine/ObjTable.lean ====
section
/-! DEFINITION. The object dictionary's listing: every object's type, access code, persistence and default, as the
chapters' listings state them (R447 to R452), one row per object or array of objects. -/

namespace Sys2Proof.Machine

/-- Object types (R447). A DOMAIN carries whether its size is fixed, and its size or largest size in bytes. -/
inductive ObjTy where
  | u8 | u16 | u32 | u64 | i32 | bool | string | event
  | blob (bytes : Nat)
  | domain (fixed : Bool) (bytes : Nat)
  deriving DecidableEq, Repr

/-- Dictionary access codes (R448). -/
inductive ObjAcc where
  | ro | rw | wo | rwg | cmd
  deriving DecidableEq, Repr

/-- Persistence attributes (R449). -/
inductive Persist where
  | volatile | saved | factory
  deriving DecidableEq, Repr

/-- The default of an object: a number, or a value that the variant or the manufacture fixes. -/
inductive Dflt where
  | num (n : Nat)
  | partNumber | partCode | siliconRevision | serial | date | rotRom | mac | seed | fingerprint | imageKey
  | fabricMask | flashMask | tiles | chamois | spares
  deriving DecidableEq, Repr

/-- One row of a listing: the objects it names (keys `256 * index + sub` from `lo` to `hi`) and their attributes. -/
structure ObjRow where
  lo : Nat
  hi : Nat
  ty : ObjTy
  acc : ObjAcc
  pers : Persist
  dflt : Dflt
  deriving DecidableEq, Repr

/-- The key of an object: its index and its sub-index. -/
abbrev okey (index sub : Nat) : Nat := 256 * index + sub

/-- A row for one object whose default is a number. -/
def row (key : Nat) (ty : ObjTy) (acc : ObjAcc) (pers : Persist) (n : Nat) : ObjRow := ⟨key, key, ty, acc, pers, .num n⟩

/-- A row for an array of objects. -/
def rows (lo hi : Nat) (ty : ObjTy) (acc : ObjAcc) (pers : Persist) (n : Nat) : ObjRow := ⟨lo, hi, ty, acc, pers, .num n⟩

/-- Objects 0x1020 to 0x1000 of the listings. -/
def dict1a : List ObjRow :=
  [row 0x102000 .u8 .ro .factory 7,  -- cap_entries
   ⟨0x102001, 0x102001, .u8, .ro, .factory, .fabricMask⟩,  -- fabric_die_mask
   ⟨0x102002, 0x102002, .u8, .ro, .factory, .flashMask⟩,  -- flash_die_mask
   ⟨0x102003, 0x102003, .u16, .ro, .factory, .tiles⟩,  -- active_tiles
   ⟨0x102004, 0x102004, .u8, .ro, .factory, .chamois⟩,  -- chamois_engines
   row 0x102005 .u8 .ro .factory 8,  -- oryx_engines
   row 0x102006 .u64 .ro .volatile 0,  -- far_tier_bytes
   row 0x102007 .u8 .ro .factory 16,  -- stream_expanders
   row 0x102100 .u8 .ro .factory 4,  -- map_entries
   row 0x102101 .u16 .rwg .saved 0,  -- package_number
   row 0x102102 .u64 .ro .volatile 0,  -- mem_range_bytes
   row 0x102103 .u64 .ro .factory 281406257233920,  -- window_base
   row 0x102104 .u64 .ro .factory 281440616972288,  -- die_page_base
   row 0x100000 .u8 .ro .factory 11,  -- identity_entries
   row 0x100001 .string .ro .factory 31078200573587287,  -- vendor_name
   ⟨0x100002, 0x100002, .string, .ro, .factory, .partNumber⟩,  -- part_number
   ⟨0x100003, 0x100003, .u16, .ro, .factory, .partCode⟩,  -- part_code
   ⟨0x100004, 0x100004, .u16, .ro, .factory, .siliconRevision⟩,  -- silicon_revision
   ⟨0x100005, 0x100005, .string, .ro, .factory, .serial⟩,  -- serial_number
   ⟨0x100006, 0x100006, .u32, .ro, .factory, .date⟩,  -- manufacture_date
   row 0x100007 .u32 .ro .volatile 0,  -- mgmt_fw_version
   row 0x100008 .u8 .ro .volatile 0,  -- mgmt_fw_slot
   ⟨0x100009, 0x100009, .u32, .ro, .factory, .rotRom⟩,  -- rot_rom_version
   row 0x10000A .u16 .ro .factory 1]  -- dictionary_version

/-- Objects 0x1000 to 0x1030 of the listings. -/
def dict1b : List ObjRow :=
  [row 0x10000B .u8 .ro .factory 1,  -- dap_version_max
   row 0x101000 .u8 .ro .factory 6,  -- state_entries
   row 0x101001 .u8 .ro .volatile 2,  -- package_state
   row 0x101002 .u64 .ro .volatile 0,  -- state_since
   row 0x101003 .u32 .ro .volatile 0,  -- failure_code
   row 0x101004 .u8 .ro .volatile 255,  -- failure_die
   row 0x101005 .event .ro .volatile 0,  -- state_event
   row 0x101006 .u64 .ro .volatile 0,  -- package_time
   row 0x101100 .u8 .ro .factory 5,  -- save_entries
   row 0x101101 .u8 .cmd .volatile 0,  -- save_now
   row 0x101102 .u8 .cmd .volatile 0,  -- restore_defaults
   row 0x101103 .u32 .ro .volatile 0,  -- image_seq
   row 0x101104 .u8 .ro .volatile 0,  -- image_state
   row 0x101105 .bool .ro .volatile 0,  -- saved_dirty
   row 0x103000 .u8 .ro .factory 9,  -- dict_entries
   row 0x103001 .u8 .ro .factory 32,  -- dap_sessions_max
   row 0x103002 .u8 .ro .volatile 0,  -- dap_sessions_open
   row 0x103003 .u32 .rw .saved 60,  -- dap_idle_s
   row 0x103004 .u64 .ro .volatile 0,  -- guard_failures
   row 0x103005 .u64 .ro .volatile 0,  -- dap_discards
   row 0x103006 .u8 .ro .factory 16,  -- subscriptions_max
   row 0x103007 .event .ro .volatile 0,  -- dict_event
   row 0x103008 .u8 .ro .volatile 88,  -- i3c_static_address
   row 0x103009 .u8 .cmd .volatile 0]  -- dict_counters_clear

/-- Objects 0x1040 to 0x1050 of the listings. -/
def dict1c : List ObjRow :=
  [row 0x104000 .u8 .ro .factory 6,  -- bringup_entries
   row 0x104001 .u8 .rwg .volatile 0,  -- pkg_reset
   row 0x104002 .u8 .rwg .volatile 0,  -- enter_standing
   row 0x104003 .u8 .rw .saved 0,  -- memory_test
   row 0x104004 .u32 .ro .volatile 0,  -- reset_count
   row 0x104005 .u8 .ro .volatile 0,  -- last_reset_cause
   row 0x104006 .u32 .ro .volatile 0,  -- ready_time_ms
   row 0x104100 .u8 .ro .factory 6,  -- step_entries
   rows 0x104101 0x104106 .u32 .ro .volatile 0,  -- step_result
   row 0x105000 .u8 .ro .factory 8,  -- fw_entries
   rows 0x105001 0x105002 .u64 .ro .volatile 0,  -- fw_slot_status
   row 0x105003 .u32 .rw .volatile 0,  -- fw_stage_offset
   row 0x105004 (.domain true 4096) .wo .volatile 0,  -- fw_stage_data
   row 0x105005 .u8 .cmd .volatile 0,  -- fw_verify
   row 0x105006 .u8 .rwg .volatile 0,  -- fw_handover
   row 0x105007 .u16 .ro .volatile 0,  -- rollback_floor
   row 0x105008 .event .ro .volatile 0]  -- fw_event

/-- Objects 0x2000 to 0x2011 of the listings. -/
def dict2a : List ObjRow :=
  [row 0x200000 .u8 .ro .factory 8,  -- power_entries
   row 0x200001 .u32 .ro .volatile 0,  -- input_mv
   row 0x200002 .u32 .ro .volatile 0,  -- input_ma
   row 0x200003 .u16 .ro .volatile 0,  -- package_power_w
   row 0x200004 .u16 .rwg .saved 1350,  -- power_limit_w
   row 0x200005 .u32 .ro .volatile 2500,  -- burst_store_mj
   row 0x200006 .u8 .ro .volatile 0,  -- throttle_level
   row 0x200007 .u64 .ro .volatile 0,  -- throttle_us
   row 0x200008 .event .ro .volatile 0,  -- power_event
   row 0x200100 .u8 .ro .factory 3,  -- clock_entries
   row 0x200101 .u32 .ro .factory 50000000,  -- fumarole_hz
   row 0x200102 .bool .ro .volatile 0,  -- ref_clock_present
   row 0x200103 .u32 .ro .volatile 0,  -- power_cycle_count
   row 0x200200 .u8 .ro .factory 4,  -- thermal_entries
   row 0x200201 .i32 .ro .volatile 0,  -- temp_max_dc
   row 0x200202 .u8 .ro .volatile 255,  -- temp_max_die
   row 0x200203 .u8 .rw .saved 100,  -- throttle_temp_c
   row 0x200204 .u8 .ro .factory 110,  -- trip_temp_c
   row 0x201100 .u8 .ro .factory 1,  -- ready_entries
   row 0x201101 .u8 .rw .saved 0]  -- held_ready_mask

/-- Objects 0x3010 to 0x3020 of the listings. -/
def dict3a : List ObjRow :=
  [row 0x301000 .u8 .ro .factory 10,  -- tier_entries
   row 0x301001 .u64 .ro .factory 549755813888,  -- near_bytes
   row 0x301002 .u64 .ro .volatile 0,  -- near_reserved_bytes
   row 0x301003 .u32 .ro .volatile 0,  -- far_read_latency_ns
   row 0x301004 .u64 .rw .saved 0,  -- obj_table_base
   row 0x301005 .u64 .rw .saved 0,  -- shadow_table_base
   row 0x301006 .u64 .rw .saved 481036337152,  -- pin_limit_bytes
   row 0x301007 .u32 .rw .saved 256,  -- near_free_target
   row 0x301008 .event .ro .volatile 0,  -- tier_event
   row 0x301009 .u32 .ro .volatile 0,  -- near_free_frames
   row 0x30100A .u64 .ro .volatile 0,  -- near_pinned_bytes
   row 0x301100 .u8 .ro .factory 8,  -- tier_count_entries
   row 0x301101 .u64 .ro .volatile 0,  -- far_accesses
   row 0x301102 .u64 .ro .volatile 0,  -- substitutions
   row 0x301103 .u64 .ro .volatile 0,  -- far_defers
   row 0x301104 .u64 .ro .volatile 0,  -- shadow_refusals
   row 0x301105 .u64 .ro .volatile 0,  -- promotions
   row 0x301106 .u64 .ro .volatile 0,  -- demotions
   row 0x301107 .u64 .ro .volatile 0,  -- degraded_writes
   row 0x301108 .u8 .cmd .volatile 0,  -- tier_counters_clear
   row 0x301200 (.domain true 64) .wo .volatile 0,  -- place_command
   row 0x302000 .u8 .ro .factory 9,  -- xlt_entries
   row 0x302001 .u16 .ro .factory 4096,  -- contexts
   row 0x302002 .u64 .rw .saved 0]  -- context_table_base

/-- Objects 0x3020 to 0x3020 of the listings. -/
def dict3b : List ObjRow :=
  [row 0x302003 .u64 .ro .volatile 0,  -- walks
   row 0x302004 .u64 .ro .volatile 0,  -- faults
   row 0x302005 .u64 .ro .volatile 0,  -- faults_coalesced
   row 0x302006 .u64 .ro .volatile 0,  -- invalidations
   row 0x302007 .u64 .ro .volatile 0,  -- service_refused
   row 0x302008 .event .ro .volatile 0,  -- xlt_event
   row 0x302009 .u8 .cmd .volatile 0]  -- xlt_counters_clear

/-- Objects 0x4010 to 0x4023 of the listings. -/
def dict4a : List ObjRow :=
  [row 0x401000 .u8 .ro .factory 7,  -- arith_entries
   row 0x401001 .u32 .ro .factory 2000000,  -- arith_clock_khz
   row 0x401002 .u64 .rw .saved 1,  -- sr_package_seed
   row 0x401003 .u64 .ro .volatile 0,  -- nan_blocks
   row 0x401004 .u64 .ro .volatile 0,  -- saturations
   row 0x401005 .u64 .ro .volatile 0,  -- window_truncations
   row 0x401006 .u64 .ro .volatile 0,  -- int32_saturations
   row 0x401007 .u8 .cmd .volatile 0,  -- arith_counters_clear
   row 0x402000 .u8 .ro .factory 7,  -- cfg_entries
   row 0x402001 .u8 .ro .factory 64,  -- registry_slots
   row 0x402002 .u16 .ro .factory 256,  -- handles
   row 0x402003 .u8 .ro .volatile 0,  -- registered
   row 0x402004 .u32 .rw .saved 1000,  -- drain_overdue_us
   row 0x402005 .event .ro .volatile 0,  -- cfg_event
   row 0x402006 .u64 .ro .volatile 0,  -- load_failures
   row 0x402007 .u64 .ro .volatile 0,  -- calls_deferred
   row 0x402100 .u8 .ro .factory 128,  -- cluster_entries
   rows 0x402101 0x402180 .u32 .ro .volatile 0,  -- cluster_status
   row 0x402200 (.domain true 64) .wo .volatile 0,  -- cfg_command
   row 0x402300 .u8 .ro .factory 8,  -- key_entries
   ⟨0x402301, 0x402301, (.blob 1952), .ro, .factory, .imageKey⟩,  -- image_key_0
   rows 0x402302 0x402308 (.blob 1952) .rwg .volatile 0]  -- image_key_n

/-- Objects 0x5010 to 0x5011 of the listings. -/
def dict5a : List ObjRow :=
  [row 0x501000 .u8 .ro .factory 9,  -- attn_entries
   row 0x501001 .u8 .ro .factory 64,  -- attn_max_query_heads
   row 0x501002 .u8 .ro .factory 64,  -- attn_max_positions
   row 0x501003 .u16 .ro .factory 256,  -- attn_max_head_dim
   row 0x501004 .u8 .ro .factory 16,  -- attn_max_q_per_kv
   row 0x501005 .u32 .rw .saved 8,  -- attn_hold_us
   row 0x501006 .u32 .rw .saved 100,  -- attn_merge_timeout_us
   row 0x501007 .u64 .rw .saved 0,  -- arena_table_base
   row 0x501008 .u16 .ro .factory 4096,  -- arena_slots
   row 0x501009 .u16 .ro .volatile 0,  -- arenas_active
   row 0x501100 .u8 .ro .factory 10,  -- attn_count_entries
   row 0x501101 .u64 .ro .volatile 0,  -- attends
   row 0x501102 .u64 .ro .volatile 0,  -- holds_expired
   row 0x501103 .u64 .ro .volatile 0,  -- appends
   row 0x501104 .u64 .ro .volatile 0,  -- positions_committed
   row 0x501105 .u64 .ro .volatile 0,  -- subst_heads
   row 0x501106 .u64 .ro .volatile 0,  -- poison_heads
   row 0x501107 .u64 .ro .volatile 0,  -- merge_timeouts
   row 0x501108 .u64 .ro .volatile 0,  -- kv_bytes_read
   row 0x501109 .u64 .ro .volatile 0,  -- nan_heads
   row 0x50110A .u8 .cmd .volatile 0]  -- attn_counters_clear

/-- Objects 0x6010 to 0x6014 of the listings. -/
def dict6a : List ObjRow :=
  [row 0x601000 .u8 .ro .factory 12,  -- domain_entries
   row 0x601001 .u16 .rwg .saved 0,  -- domain_id
   row 0x601002 .u8 .rwg .saved 0,  -- member_count
   row 0x601003 .u8 .rwg .saved 0,  -- member_index
   row 0x601004 .bool .ro .volatile 0,  -- master_strap
   row 0x601005 .bool .rwg .saved 0,  -- master_confirm
   row 0x601006 .u8 .rw .saved 0,  -- data_source
   row 0x601007 .u8 .ro .volatile 0,  -- domain_state
   row 0x601008 .u32 .ro .volatile 0,  -- domain_generation
   row 0x601009 .u32 .ro .volatile 0,  -- domain_digest
   row 0x60100A .u8 .cmd .volatile 0,  -- domain_form
   row 0x60100B .event .ro .volatile 0,  -- coh_event
   row 0x60100C .u32 .ro .factory 12,  -- coh_grant_wait_us
   row 0x601100 .u8 .ro .factory 8,  -- member_entries
   rows 0x601101 0x601108 .u16 .rwg .saved 0,  -- member_package
   row 0x601200 .u8 .ro .factory 32,  -- agent_entries
   rows 0x601201 0x601220 .u64 .rwg .saved 0,  -- agent
   row 0x601300 (.domain true 1600) .rwg .saved (2 ^ 12800 - 1),  -- hop_table
   row 0x601400 .u8 .ro .factory 9,  -- coh_count_entries
   row 0x601401 .u64 .ro .volatile 0,  -- caching_reads
   row 0x601402 .u64 .ro .volatile 0,  -- snoops_sent
   row 0x601403 .u64 .ro .volatile 0,  -- snoop_timeouts
   row 0x601404 .u64 .ro .volatile 0,  -- broadcast_snoops
   row 0x601405 .u64 .ro .volatile 0]  -- dir_recalls

/-- Objects 0x6014 to 0x6015 of the listings. -/
def dict6b : List ObjRow :=
  [row 0x601406 .u64 .ro .volatile 0,  -- conflict_defers
   row 0x601407 .u64 .ro .volatile 0,  -- stale_writebacks
   row 0x601408 .u64 .ro .volatile 0,  -- poisoned_by_death
   row 0x601409 .u64 .ro .volatile 0,  -- late_responses
   row 0x602000 .u8 .ro .factory 13,  -- sync_entries
   row 0x602001 .u16 .ro .factory 32768,  -- sync_objects
   row 0x602002 .u8 .ro .factory 64,  -- waiters_max
   row 0x602003 .u32 .rw .saved 20,  -- remote_copy_max_us
   row 0x602004 .u32 .ro .factory 100,  -- deadlock_scan_us
   row 0x602005 .bool .rw .saved 1,  -- deadlock_enable
   row 0x602006 .event .ro .volatile 0,  -- sync_event
   row 0x602007 .event .ro .volatile 0,  -- deadlock_event
   row 0x602008 .u64 .ro .volatile 0,  -- signals
   row 0x602009 .u64 .ro .volatile 0,  -- signals_blocked
   row 0x60200A .u64 .ro .volatile 0,  -- waits_registered
   row 0x60200B .u64 .ro .volatile 0,  -- notify_failures
   row 0x60200C .u64 .ro .volatile 0,  -- deadlocks_reported
   row 0x60200D .u8 .cmd .volatile 0,  -- sync_counters_clear
   row 0x602100 .u8 .ro .factory 3,  -- view_entries
   row 0x602101 .u16 .rw .volatile 0,  -- view_object
   row 0x602102 (.domain false 1088) .ro .volatile 0,  -- sync_view
   row 0x602103 (.domain true 64) .ro .volatile 0,  -- last_deadlock
   row 0x601500 .u8 .ro .factory 3,  -- cascade_entries
   row 0x601501 .u8 .rwg .saved 0]  -- cascade_mode

/-- Objects 0x6015 to 0x6015 of the listings. -/
def dict6c : List ObjRow :=
  [row 0x601502 .u8 .rwg .saved 0,  -- front_count
   row 0x601503 .u64 .rwg .saved 0]  -- front_span

/-- Objects 0x7040 to 0x7020 of the listings. -/
def dict7a : List ObjRow :=
  [row 0x704000 .u8 .ro .factory 4,  -- stream_entries
   row 0x704001 .u8 .ro .factory 8,  -- table_slots
   row 0x704002 .u16 .ro .factory 256,  -- reads_max
   row 0x704003 .u16 .ro .volatile 0,  -- reads_in_flight
   row 0x704004 .event .ro .volatile 0,  -- stream_event
   row 0x704100 .u8 .ro .factory 8,  -- slot_entries
   rows 0x704101 0x704108 .u64 .ro .volatile 0,  -- slot_status
   row 0x704200 .u8 .ro .factory 8,  -- slot_tenant_entries
   rows 0x704201 0x704208 .u16 .ro .volatile 65535,  -- slot_tenant
   row 0x704300 .u8 .ro .factory 7,  -- stream_count_entries
   row 0x704301 .u64 .ro .volatile 0,  -- reads_completed
   row 0x704302 .u64 .ro .volatile 0,  -- blocks_expanded
   row 0x704303 .u64 .ro .volatile 0,  -- bytes_expanded
   row 0x704304 .u64 .ro .volatile 0,  -- check_fails
   row 0x704305 .u64 .ro .volatile 0,  -- length_refusals
   row 0x704306 .u64 .ro .volatile 0,  -- poison_stops
   row 0x704307 .u8 .cmd .volatile 0,  -- stream_counters_clear
   row 0x704400 (.domain true 64) .wo .volatile 0,  -- stream_command
   row 0x701000 .u8 .ro .factory 19,  -- link_entries
   rows 0x701001 0x701010 .u32 .ro .volatile 0,  -- link_status
   row 0x701011 .u64 .ro .volatile 0,  -- fec_corrected
   row 0x701012 .u64 .ro .volatile 0,  -- flit_replays
   row 0x701013 .u64 .ro .volatile 0,  -- links_down
   row 0x702000 .u8 .ro .factory 5]  -- region_entries_count

/-- Objects 0x7020 to 0x7050 of the listings. -/
def dict7b : List ObjRow :=
  [row 0x702001 .u16 .rw .volatile 0,  -- region_select
   row 0x702002 (.blob 32) .rw .volatile 0,  -- region_entry
   row 0x702003 .u8 .rwg .volatile 0,  -- trust_mode
   row 0x702004 .u64 .ro .volatile 0,  -- key_denials
   row 0x702005 .u16 .ro .volatile 0,  -- regions_valid
   row 0x703000 .u8 .ro .factory 7,  -- comp_entries_count
   row 0x703001 .u16 .rw .volatile 0,  -- comp_select
   row 0x703002 (.blob 16) .ro .volatile 0,  -- comp_entry
   row 0x703003 (.domain true 32) .wo .volatile 0,  -- compose_command
   row 0x703004 .u16 .ro .volatile 0,  -- comp_valid
   row 0x703005 .u64 .ro .volatile 0,  -- epoch_stale
   row 0x703006 .event .ro .volatile 0,  -- comp_event
   row 0x703007 .u16 .rwg .saved 0,  -- package_requester
   row 0x703100 .u8 .ro .factory 3,  -- hash_entries
   ⟨0x703101, 0x703101, .u64, .rwg, .saved, .seed⟩,  -- hash_seed
   ⟨0x703102, 0x703102, .u64, .ro, .saved, .seed⟩,  -- hash_seed_active
   row 0x703103 (.domain true 8192) .rw .saved (2 ^ 65536 - 1),  -- route_table
   row 0x703200 .u8 .ro .factory 4,  -- owner_entries_count
   row 0x703201 .u16 .rw .volatile 0,  -- owner_select
   row 0x703202 (.blob 32) .ro .volatile 0,  -- owner_entry
   row 0x703203 (.domain true 32) .wo .volatile 0,  -- owner_command
   row 0x703204 .u64 .ro .volatile 0,  -- not_owner
   row 0x705000 .u8 .ro .factory 5,  -- class_entries
   row 0x705001 .u8 .rw .saved 8]  -- class_weight

/-- Objects 0x7050 to 0x7101 of the listings. -/
def dict7c : List ObjRow :=
  [row 0x705002 .u8 .rw .saved 4,  -- class_weight
   row 0x705003 .u8 .rw .saved 1,  -- class_weight
   row 0x705004 .u64 .ro .volatile 0,  -- c0_demoted
   row 0x705005 .u64 .ro .volatile 0,  -- limit_defers
   row 0x706000 .u8 .ro .factory 2,  -- dma_entries
   row 0x706001 .u8 .ro .factory 32,  -- dma_channels
   row 0x706002 (.domain true 64) .wo .volatile 0,  -- dma_command
   row 0x710000 .u8 .ro .factory 14,  -- eth_entries
   row 0x710001 .u8 .ro .volatile 0,  -- eth_link_state
   ⟨0x710002, 0x710002, .u64, .ro, .factory, .mac⟩,  -- eth_mac
   row 0x710003 .u8 .rw .saved 0,  -- eth_pmd
   row 0x710004 .u32 .rw .saved 0,  -- ipv4_address
   row 0x710005 (.blob 16) .rw .saved 0,  -- ipv6_address
   row 0x710006 .u16 .rw .saved 0,  -- vlan_id
   row 0x710007 .event .ro .volatile 0,  -- eth_event
   row 0x710008 .u8 .rw .saved 6,  -- dap_priority
   row 0x710009 .u16 .rw .saved 7401,  -- dap_udp_port
   row 0x71000A .u8 .rw .saved 8,  -- lossless_mask
   row 0x71000B .u32 .rw .saved 262144,  -- pfc_xoff_bytes
   row 0x71000C .u8 .rw .saved 1,  -- rnr_timer_code
   row 0x71000D .u32 .rw .saved 50,  -- cnp_interval_us
   row 0x71000E .u64 .ro .volatile 0,  -- fec_uncorrected
   row 0x710100 .u8 .ro .factory 9,  -- eth_count_entries
   row 0x710101 .u64 .ro .volatile 0]  -- frames_rx

/-- Objects 0x7101 to 0x7110 of the listings. -/
def dict7d : List ObjRow :=
  [row 0x710102 .u64 .ro .volatile 0,  -- frames_dropped
   row 0x710103 .u64 .ro .volatile 0,  -- roce_dropped
   row 0x710104 .u64 .ro .volatile 0,  -- naks_sent
   row 0x710105 .u64 .ro .volatile 0,  -- rnr_naks_sent
   row 0x710106 .u64 .ro .volatile 0,  -- qp_errors
   row 0x710107 .u64 .ro .volatile 0,  -- pfc_sent
   row 0x710108 .u64 .ro .volatile 0,  -- cnps_sent
   row 0x710109 .u8 .cmd .volatile 0,  -- eth_counters_clear
   row 0x711000 .u8 .ro .factory 4,  -- qp_entries_count
   row 0x711001 .u16 .rw .volatile 0,  -- qp_select
   row 0x711002 (.blob 64) .rw .volatile 0,  -- qp_entry
   row 0x711003 .u8 .ro .volatile 0,  -- qp_last_status
   row 0x711004 .u16 .ro .volatile 0]  -- qps_ready

/-- Objects 0x8010 to 0x8013 of the listings. -/
def dict8a : List ObjRow :=
  [row 0x801000 .u8 .ro .factory 9,  -- oryx_entries
   row 0x801001 .u16 .ro .factory 1024,  -- table_slots
   row 0x801002 .u16 .ro .factory 1024,  -- requests_max
   row 0x801003 .u32 .rw .saved 100,  -- shard_window_us
   row 0x801004 .u32 .rw .saved 20000,  -- shard_hot_ops
   row 0x801005 .u32 .rw .saved 64,  -- row_cool_ops
   row 0x801006 .bool .rw .saved 1,  -- migrate_enable
   row 0x801007 .u32 .ro .factory 65536,  -- forward_entries
   row 0x801008 .u16 .ro .volatile 0,  -- requests_in_flight
   row 0x801009 .event .ro .volatile 0,  -- oryx_event
   row 0x801100 .u8 .ro .factory 8,  -- hot_offset_entries
   rows 0x801101 0x801108 .u64 .rw .saved 0,  -- hot_area_offset
   row 0x801200 .u8 .ro .factory 8,  -- hot_size_entries
   rows 0x801201 0x801208 .u64 .rw .saved 0,  -- hot_area_bytes
   row 0x801300 .u8 .ro .factory 8,  -- oryx_count_entries
   row 0x801301 .u64 .ro .volatile 0,  -- row_lookups
   row 0x801302 .u64 .ro .volatile 0,  -- row_updates
   row 0x801303 .u64 .ro .volatile 0,  -- rows_migrated
   row 0x801304 .u64 .ro .volatile 0,  -- rows_returned
   row 0x801305 .u64 .ro .volatile 0,  -- migrations_aborted
   row 0x801306 .u64 .ro .volatile 0,  -- rows_lost
   row 0x801307 .u64 .ro .volatile 0,  -- hot_area_full
   row 0x801308 .u8 .cmd .volatile 0]  -- oryx_counters_clear

/-- Objects 0x9010 to 0x9011 of the listings. -/
def dict9a : List ObjRow :=
  [row 0x901000 .u8 .ro .factory 7,  -- chamois_entries
   row 0x901001 .u16 .ro .factory 256,  -- index_slots
   row 0x901002 .u16 .ro .factory 1024,  -- queries_max
   row 0x901003 .u16 .rw .saved 64,  -- round_limit
   row 0x901004 .u32 .ro .volatile 0,  -- chamois_read_ns
   row 0x901005 .u32 .rw .saved 1000,  -- merge_idle_ms
   row 0x901006 .u8 .rw .saved 25,  -- merge_share
   row 0x901007 .event .ro .volatile 0,  -- search_event
   row 0x901100 .u8 .ro .factory 8,  -- search_count_entries
   row 0x901101 .u64 .ro .volatile 0,  -- queries
   row 0x901102 .u64 .ro .volatile 0,  -- short_results
   row 0x901103 .u64 .ro .volatile 0,  -- inserts
   row 0x901104 .u64 .ro .volatile 0,  -- deletes
   row 0x901105 .u64 .ro .volatile 0,  -- merges_published
   row 0x901106 .u64 .ro .volatile 0,  -- merges_abandoned
   row 0x901107 .u64 .ro .volatile 0,  -- poisoned_skips
   row 0x901108 .u8 .cmd .volatile 0]  -- search_counters_clear

/-- Objects 0xA010 to 0xA041 of the listings. -/
def dictAa : List ObjRow :=
  [row 0xA01000 .u8 .ro .factory 10,  -- code_entries
   row 0xA01001 .u64 .ro .volatile 0,  -- corrected_lines
   row 0xA01002 .u64 .ro .volatile 0,  -- uncorrectable_lines
   row 0xA01003 .u64 .ro .volatile 0,  -- poisoned_lines
   row 0xA01004 .u64 .ro .volatile 0,  -- repaired_lines
   row 0xA01005 .u32 .rw .saved 24,  -- scrub_period_h
   row 0xA01006 .u64 .ro .volatile 0,  -- scrub_passes
   row 0xA01007 .u32 .ro .volatile 0,  -- granules_retired
   row 0xA01008 .u16 .rw .saved 4,  -- retire_threshold
   row 0xA01009 .u8 .ro .volatile 0,  -- content_state
   row 0xA0100A .u64 .ro .volatile 0,  -- lost_bytes
   row 0xA02000 .u8 .ro .factory 4,  -- die_entries
   row 0xA02001 .u32 .ro .volatile 0,  -- held_mask
   row 0xA02002 .u8 .rwg .volatile 0,  -- die_retest
   row 0xA02003 .u32 .ro .volatile 0,  -- retest_result
   row 0xA02004 .u64 .ro .volatile 0,  -- generation_recoveries
   row 0xA03000 .u8 .ro .factory 3,  -- recal_entries
   row 0xA03001 .u8 .cmd .volatile 0,  -- link_recal
   row 0xA03002 .u32 .rw .saved 100000,  -- recal_threshold
   row 0xA03003 .u64 .ro .volatile 0,  -- recalibrations
   row 0xA04000 .u8 .ro .factory 8,  -- fm_entries
   row 0xA04001 .u8 .rwg .saved 0,  -- fm_count
   rows 0xA04002 0xA04008 (.blob 1952) .rwg .saved 0,  -- fm_key
   row 0xA04100 .u8 .ro .factory 3]  -- vote_entries

/-- Objects 0xA041 to 0xA060 of the listings. -/
def dictAb : List ObjRow :=
  [row 0xA04101 (.domain true 3392) .wo .volatile 0,  -- expel_vote
   row 0xA04102 .u8 .ro .volatile 0,  -- votes_held
   row 0xA04103 .u64 .ro .volatile 0,  -- vote_refusals
   row 0xA05000 .u8 .ro .factory 5,  -- spare_entries
   row 0xA05001 .u16 .rwg .saved 65535,  -- hot_spare
   row 0xA05002 (.domain true 32) .wo .volatile 0,  -- domain_change
   row 0xA05003 .u16 .rw .saved 400,  -- rebuild_rate_gbs
   row 0xA05004 .u64 .ro .volatile 0,  -- rebuild_remaining_bytes
   row 0xA05005 .u32 .rw .saved 100,  -- straggler_report_us
   row 0xA06000 .u8 .ro .factory 2,  -- drain_entries
   row 0xA06001 .u8 .rwg .volatile 0,  -- drain_begin
   row 0xA06002 .event .ro .volatile 0]  -- rel_event

/-- Objects 0xB010 to 0xB050 of the listings. -/
def dictBa : List ObjRow :=
  [row 0xB01000 .u8 .ro .factory 5,  -- attest_entries
   ⟨0xB01001, 0xB01001, (.blob 64), .ro, .factory, .fingerprint⟩,  -- device_id_fingerprint
   row 0xB01002 (.domain false 65536) .ro .volatile 0,  -- cert_chain
   row 0xB01003 (.domain false 65536) .ro .volatile 0,  -- measurements
   row 0xB01004 .u8 .ro .volatile 0,  -- spdm_sessions_open
   row 0xB01005 .event .ro .volatile 0,  -- security_event
   row 0xB02000 .u8 .ro .factory 5,  -- owner_entries
   row 0xB02001 .u8 .ro .volatile 0,  -- owner_state
   rows 0xB02002 0xB02005 (.blob 1952) .rwg .volatile 0,  -- owner_key
   row 0xB03000 .u8 .ro .factory 4,  -- key_entries
   row 0xB03001 .u16 .rw .volatile 0,  -- key_select
   row 0xB03002 .u32 .ro .volatile 0,  -- key_status
   row 0xB03003 .u32 .rwg .volatile 0,  -- key_command
   row 0xB03004 .u16 .ro .volatile 1,  -- keys_active
   row 0xB04000 .u8 .ro .factory 7,  -- log_entries
   row 0xB04001 .u64 .ro .volatile 0,  -- log_next_index
   row 0xB04002 .u64 .rw .volatile 0,  -- log_read_index
   row 0xB04003 (.domain false 8192) .ro .volatile 0,  -- log_read
   row 0xB04004 .u8 .cmd .volatile 0,  -- log_checkpoint
   row 0xB04005 .u64 .ro .factory 2097152,  -- log_capacity
   row 0xB04006 .u64 .ro .volatile 0,  -- log_dropped
   row 0xB04007 .event .ro .volatile 0,  -- custody_event
   row 0xB05000 .u8 .ro .factory 8,  -- lifetime_entries
   rows 0xB05001 0xB05003 .u32 .ro .volatile 0]  -- powered_h, energy_kwh, thermal_cycles

/-- Objects 0xB050 to 0xB070 of the listings. -/
def dictBb : List ObjRow :=
  [rows 0xB05004 0xB05005 .u64 .ro .volatile 0,  -- corrected_lines_total, link_fec_total
   rows 0xB05006 0xB05007 .u16 .ro .volatile 0,  -- flash_pe_avg_permille, flash_pe_max_permille
   row 0xB05008 .u32 .rw .saved 24,  -- meter_snapshot_h
   row 0xB06000 .u8 .ro .factory 5,  -- margin_entries
   ⟨0xB06001, 0xB06001, .u16, .ro, .volatile, .spares⟩,  -- spare_tiles_left
   row 0xB06002 .u8 .ro .volatile 0,  -- clusters_offline
   rows 0xB06003 0xB06005 .u16 .ro .volatile 1000,  -- hbm_spare_permille, flash_spare_permille, margin_permille
   row 0xB07000 .u8 .ro .factory 4,  -- handover_entries
   row 0xB07001 (.domain true 32) .rwg .volatile 0,  -- handover_command
   row 0xB07002 .u8 .ro .volatile 0,  -- handover_state
   row 0xB07003 .u32 .ro .volatile 0,  -- purge_seq
   row 0xB07004 (.domain true 3520) .ro .volatile 0]  -- condition_report

/-- Objects 0xC010 to 0xC011 of the listings. -/
def dictCa : List ObjRow :=
  [row 0xC01000 .u8 .ro .factory 4,  -- meter_entries
   row 0xC01001 .u32 .rw .saved 1000,  -- meter_period_ms
   row 0xC01002 .u16 .rw .volatile 0,  -- meter_select
   row 0xC01003 (.blob 64) .ro .volatile 0,  -- meter_view
   row 0xC01004 .event .ro .volatile 0,  -- meter_event
   row 0xC01100 .u8 .ro .factory 4,  -- batch_entries
   row 0xC01101 (.domain false 265536) .ro .volatile 0,  -- meter_batch
   row 0xC01102 .u64 .cmd .volatile 0,  -- meter_ack
   row 0xC01103 .u32 .ro .volatile 0,  -- batches_pending
   row 0xC01104 .u64 .ro .volatile 0]  -- meter_overruns

/-- Objects 0xF000 to 0xF012 of the listings. -/
def dictFa : List ObjRow :=
  [row 0xF00000 .u8 .ro .factory 5,  -- raw_entries
   row 0xF00001 .u8 .rw .volatile 30,  -- raw_die
   row 0xF00002 .u16 .rw .volatile 4096,  -- raw_offset
   row 0xF00003 .u32 .rw .volatile 0,  -- raw_data
   row 0xF00004 .u64 .rw .volatile 0,  -- raw_data64
   row 0xF00005 .u32 .rwg .volatile 0,  -- raw_guarded
   row 0xF01000 .u8 .ro .factory 6,  -- cfgchk_entries
   row 0xF01001 .bool .rwg .saved 1,  -- cfg_check_enable
   row 0xF01002 .u8 .cmd .volatile 0,  -- cfg_commit
   row 0xF01003 .u32 .rw .saved 100,  -- cfg_pending_limit_ms
   row 0xF01004 .u32 .ro .volatile 0,  -- cfg_mismatch_mask
   row 0xF01005 .u32 .ro .volatile 0,  -- cfg_pending_mask
   row 0xF01006 .event .ro .volatile 0,  -- cfg_integrity_event
   row 0xF01100 .u8 .ro .factory 32,  -- cfg_ref_entries
   rows 0xF01101 0xF01120 .u32 .ro .volatile 0,  -- cfg_reference
   row 0xF01200 .u8 .ro .factory 5,  -- reg_count_entries
   row 0xF01201 .u64 .ro .volatile 0,  -- guard_discards
   row 0xF01202 .u64 .ro .volatile 0,  -- shadow_misses
   row 0xF01203 .u64 .ro .volatile 0,  -- doorbell_full_defers
   row 0xF01204 .u64 .ro .volatile 0,  -- geyser_wakes
   row 0xF01205 .u8 .cmd .volatile 0]  -- reg_counters_clear

/-- Objects 0x2100 + d, of power domain d (R521). -/
def dictDomain : List ObjRow :=
  [row 0 .u8 .ro .factory 6, row 1 .u8 .ro .volatile 3, row 2 .u8 .rw .saved 3, row 3 .u32 .rw .saved 100,
   row 4 .u32 .rw .saved 1000, row 5 .u64 .ro .volatile 0, row 6 .u64 .ro .volatile 0]

/-- The default floor of a power domain (R521). -/
def floorDefault (d : Nat) : Nat := if d = 0 then 0 else if d = 2 then 1 else if d = 3 then 2 else 3

/-- Objects 0x8100 + n, of Oryx table slot n (R264). -/
def dictTable : List ObjRow :=
  [row 0 .u8 .ro .factory 8, row 1 .u8 .ro .volatile 0, row 2 .u32 .ro .volatile 0, row 3 .u32 .ro .volatile 0, row 4 .u64 .ro .volatile 0, row 5 .u64 .ro .volatile 0, row 6 .u32 .ro .volatile 0, row 7 .u64 .ro .volatile 0, row 8 .u8 .cmd .volatile 0]

/-- Objects 0x9100 + n, of Chamois index slot n (R292). -/
def dictIndex : List ObjRow :=
  [row 0 .u8 .ro .factory 5, row 1 .u8 .ro .volatile 0, row 2 .u32 .ro .volatile 0, row 3 .u32 .ro .volatile 0, row 4 .u32 .ro .volatile 0, row 5 .u16 .ro .volatile 0]

/-- Objects 0x3030 + q, of fault queue q (R316). -/
def dictQueue : List ObjRow :=
  [row 0 .u8 .ro .factory 6, row 1 .u64 .rw .saved 0, row 2 .u32 .rw .saved 0, row 3 .u64 .rw .saved 0, row 4 .u32 .rw .saved 0, row 5 .u32 .ro .volatile 0, row 6 .u32 .ro .volatile 0]

/-- The rows of the listings that have an index of their own, by the first hexadecimal digit of the index. -/
def dictGroup (g : Nat) : List ObjRow :=
  match g with
  | 0x1 => dict1a ++ dict1b ++ dict1c
  | 0x2 => dict2a
  | 0x3 => dict3a ++ dict3b
  | 0x4 => dict4a
  | 0x5 => dict5a
  | 0x6 => dict6a ++ dict6b ++ dict6c
  | 0x7 => dict7a ++ dict7b ++ dict7c ++ dict7d
  | 0x8 => dict8a
  | 0x9 => dict9a
  | 0xA => dictAa ++ dictAb
  | 0xB => dictBa ++ dictBb
  | 0xC => dictCa
  | 0xF => dictFa
  | _ => []

/-- The row that lists the object with this index and sub-index; none: the object is not defined (R452). -/
def objRow (index sub : Nat) : Option ObjRow :=
  if 0x2100 ≤ index ∧ index ≤ 0x211B then dictDomain.find? (fun r => r.lo == sub)
  else if 0x3030 ≤ index ∧ index ≤ 0x303F then dictQueue.find? (fun r => r.lo == sub)
  else if 0x8100 ≤ index ∧ index ≤ 0x84FF then dictTable.find? (fun r => r.lo == sub)
  else if 0x9100 ≤ index ∧ index ≤ 0x91FF then dictIndex.find? (fun r => r.lo == sub)
  else (dictGroup (index / 0x1000)).find? (fun r => decide (r.lo ≤ okey index sub ∧ okey index sub ≤ r.hi))

end Sys2Proof.Machine
end

