-- ==== Sys2Proof/Machine/State.lean ====
section
/-! DEFINITION. The state of the block as plain data, chapter by chapter, its stops, and the state at reset. -/

namespace Sys2Proof.Machine

/-! ## What leaves the block -/

/-- A completion (R39). -/
structure Completion where
  via : Via
  tag : Nat
  requester : Nat
  status : Status
  result : Nat
  length : Nat
  hint : Nat
  c0Demoted : Bool
  loadLevel : Nat
  data : Nat
  deriving DecidableEq, Repr

/-- A response of the dictionary protocol (R456 to R459). -/
structure DapReply where
  port : Port
  session : Nat
  seq : Nat
  index : Nat
  sub : Nat
  status : Status
  hint : Nat
  segOffset : Nat
  totalLength : Nat
  valueLength : Nat
  value : Nat
  deriving DecidableEq, Repr

/-- What the block sends or drives, newest first in `State.out`. -/
inductive Out where
  /-- A completion leaves on the link, queue pair or session it belongs to (R35, R39). -/
  | completion (c : Completion)
  /-- A dictionary response leaves (R459). -/
  | dap (r : DapReply)
  /-- A NOTIFY leaves: port, session, notification sequence, object key, raise record (R470). -/
  | notify (port : Port) (session nseq key record : Nat)
  /-- An I3C In-Band Interrupt with its mandatory byte (R461). -/
  | ibi (byte : Nat)
  /-- A snoop leaves for an agent (R328). -/
  | snoop (seq agent line kind target targetTag grant : Nat)
  /-- A GRANT leaves for a requester (R327). -/
  | grant (seq requester tag state : Nat) (status : Status) (length data : Nat)
  /-- An access to another package: kind, fabric address, bytes, data, region key, tenant, class (R398, R416). -/
  | remote (kind : AccessKind) (address bytes data key tenant cls : Nat)
  /-- A DOORBELL that the device sends (R313, R372). -/
  | doorbell (address key value tag : Nat)
  /-- A signal to an object of another package. -/
  | remoteSignal (package object operand tenant : Nat)
  /-- An expanded block leaves through a link's expander (R220): link, fabric address, bytes, data, region key, tenant, class. -/
  | streamWrite (link address bytes data key tenant cls : Nat)
  /-- A change to the bytes of a parity unit at another member, added to them there by XOR: fabric address, bytes, change, tenant,
  class (R207). -/
  | parity (address bytes change tenant cls : Nat)
  /-- Poisoned lines written to another package: fabric address, bytes, region key, tenant (R129, R251). -/
  | remotePoison (address bytes key tenant : Nat)
  /-- A message of those above that the package sends through a link it chose (R387, R406). -/
  | over (link : Nat) (o : Out)
  /-- A control flit: acknowledgement, negative acknowledgement, replay from a sequence number, recalibration request. -/
  | flitAck (link seq : Nat)
  | flitNak (link seq : Nat)
  | flitReplay (link seq : Nat)
  | recalRequest (link : Nat)
  /-- A message to a member of the domain: what is sent, about what, with which value (R322 to R324, R418, R567). -/
  | member (package what item value : Nat)
  /-- Ethernet: a response to ARP, neighbour solicitation or echo (R429). -/
  | ethReply (proto target : Nat)
  /-- Ethernet: a congestion notification packet, a PFC frame (R441, R442). -/
  | cnp (qp : Nat)
  | pfc (xoff xon : Nat)
  /-- RoCEv2: an acknowledgement with its data, a NAK with its code, a SEND of the package (R433 to R440). -/
  | rdmaAck (qp psn bytes data : Nat)
  | rdmaNak (qp psn code : Nat)
  | rdmaSend (qp psn imm bytes data : Nat)
  /-- An SPDM response or error: port, session, code, bytes, payload (R581). -/
  | spdm (port : Port) (session code bytes payload : Nat)
  /-- A register read by management firmware returns: die, block offset, value (R476). -/
  | regRead (die offset value : Nat)
  /-- An output pin changes: 0 THERM_TRIP_N, 1 NOR_FREE, 2 NOR balls floated (R612 to R615). -/
  | pin (pin : Nat) (level : Bool)
  deriving DecidableEq, Repr

/-! ## Chapters 0 and 1 -/

/-- The three parts of the family (R1). -/
inductive Variant where
  | eq3248 | eq3244 | eq3240
  deriving DecidableEq, Repr

/-- Package states (R15). -/
inductive PkgState where
  | off | fumaroleOnly | selfTest | standing | ready | draining | expelled
  deriving DecidableEq, Repr

/-! ## Links (chapter 12; recalibration, chapter 18) -/

/-- Link states (R386, R562). -/
inductive LinkState where
  | down | training | up | quiescing | recalibrating
  deriving DecidableEq, Repr

/-- One Adrun link (R382 to R387, R409, R561). -/
structure Link where
  st : LinkState
  lanes : Nat
  /-- Credits held for sending on vc 0 to 6. -/
  credits : List Nat
  /-- The sequence number of the last flit received in order, and whether flits are being discarded. -/
  lastRecv : Nat
  discarding : Bool
  /-- The sequence number of the next flit sent, the last acknowledged, and the replays of one flit so far. -/
  nextSend : Nat
  acked : Nat
  replays : Nat
  /-- The link's C0 bucket in bytes, and when it was last filled. -/
  bucket : Nat
  bucketAt : Nat
  /-- Corrected flits of the present second (R561). -/
  corrected : Nat
  /-- A recalibration waits for its turn (R561). -/
  recalWaits : Bool
  /-- A QUIESCING link is out of the route masks: every flit sent on it is acknowledged (R562). -/
  cut : Bool
  /-- The second, of the package time counter, that `corrected` counts in. -/
  second : Nat
  deriving DecidableEq, Repr

/-- A link that is down, its C0 bucket full (R409). -/
def Link.idle : Link := ⟨.down, 0, [0, 0, 0, 0, 0, 0, 0], 1023, false, 0, 1023, 0, 8192, 0, 0, false, false, 0⟩

/-! ## Composition, ownership, metering (chapter 12) -/

/-- An entry of the composition table (R411). -/
structure CompEntry where
  draining : Bool
  requester : Nat
  composition : Nat
  tenant : Nat
  bwLimit : Nat
  /-- The bandwidth bucket in bytes, and when it was last filled (R410). -/
  bucket : Nat
  bucketAt : Nat
  deriving DecidableEq, Repr

/-- A composition: its epochs and open meters (R411, R421). -/
structure Comp where
  epoch : Nat
  prev : Nat
  /-- The previous epoch's drain window is open, until this time. -/
  drainOpen : Bool
  drainEnd : Nat
  serviceUs : Nat
  c0Us : Nat
  requests : Nat
  bytesIn : Nat
  bytesOut : Nat
  c0Demoted : Nat
  /-- The latest microsecond counted in serviceUs and in c0Us, plus 1 (R421). -/
  tick : Nat
  c0Tick : Nat
  deriving DecidableEq, Repr

/-- A composition without counts at an epoch. -/
def Comp.fresh (epoch : Nat) : Comp := ⟨epoch, 0, false, 0, 0, 0, 0, 0, 0, 0, 0, 0⟩

/-- A request with everything that came with it: opcode (R388), header, body, data, whether it was demoted from C0
(R34), and the lines that the homes find uncorrectable while serving it (R547). -/
structure Req where
  op : Nat
  hdr : Hdr
  body : Nat
  data : Nat
  found : List (Nat × Nat)
  demoted : Bool
  deriving DecidableEq, Repr

/-- A request accepted and not yet completed (R35, R38, R396), and what it waits for. -/
structure OpenReq where
  req : Req
  /-- Snoops sent for it and not yet answered, by number of the snoop (R341). -/
  snoops : NSet
  /-- The version word a PUBLISH waits for (R394), the owner record an OWNER waits for (R418). -/
  word : Option Nat
  record : Option Nat
  /-- The requests a PROBE waits for (R396). -/
  probed : NSet
  /-- One of its snoops was unanswered (R347), so it completes with POISON. -/
  poisoned : Bool
  /-- Lines that an owner returned for a read without a cache: line and data (R335). -/
  fresh : Tab Nat
  /-- Its status and result, once it is performed and waits for acknowledgements of the copies it wrote, and the objects whose
  copies those are (R205, R208). -/
  answer : Option (Status × Nat)
  objects : NSet
  deriving DecidableEq, Repr

/-- A request that has just opened. -/
def OpenReq.plain (rq : Req) : OpenReq := ⟨rq, [], none, none, [], false, [], none, []⟩

/-- A meter batch that is not collected (R602, R603): its number, bytes and value. -/
structure Batch where
  seq : Nat
  bytes : Nat
  value : Nat
  deriving DecidableEq, Repr

/-- The owner records: those that the master holds, with whether the named package has taken each up, and the copies of
this package (R418). -/
structure Owners where
  master : Tab Nat
  taken : NSet
  here : Tab Nat
  deriving DecidableEq, Repr

/-- A DMA transfer on a channel (R398): its bytes copied so far, and whether an access of it was aborted (R315). -/
structure Dma where
  acc : Nat
  req : Req
  at_ : Nat
  started : Bool
  done : Nat
  aborted : Bool
  /-- A source answered with shadow data (R14). -/
  subst : Bool
  deriving DecidableEq, Repr

/-! ## Tiers and placement (chapter 5), poison (chapter 18) -/

/-- Extent states (R173); ZERO is the state of an extent that the table does not list. -/
inductive ExtState where
  | near | far | movingUp | movingDown | lost
  deriving DecidableEq, Repr

/-- An extent that is not ZERO (R173, R174, R554, R587). -/
structure Extent where
  st : ExtState
  /-- The slice all its granules are on; none: hashed over the eight stacks. -/
  slice : Option Nat
  /-- FAR, and not all shares programmed to flash yet (R553). -/
  staged : Bool
  /-- The key number and generation it is kept under (R587). -/
  key : Nat
  keyGen : Nat
  /-- The access bit of the clock hand, and over how many of its sweeps it has stayed clear (R188). -/
  accessed : Bool
  idle : Nat
  deriving DecidableEq, Repr

/-- A line in the store cache (R170, R177): whether it is dirty, and the bytes that the near tier then still holds of it; those
of a clean line are the line's. -/
structure StoreLine where
  dirty : Bool
  near : Nat
  deriving DecidableEq, Repr

/-- An active object (R175, R182, R205, R208). -/
structure PObject where
  entry : Nat
  tenant : Nat
  policy : Nat
  degraded : Bool
  /-- Writes whose copies are not acknowledged yet (R208). -/
  unacked : Nat
  /-- The entries that pair with it: its partner's for P1, the members' by index for P2 (R205, R207). -/
  peers : List Nat
  deriving DecidableEq, Repr

/-- A registered shadow (R198, R201, R204). -/
structure Shadow where
  desc : Nat
  tenant : Nat
  deriving DecidableEq, Repr

/-- A placement command accepted and not completed (R180): the moves it still waits for, once it executes. -/
structure PlaceCmd where
  acc : Nat
  req : Req
  at_ : Nat
  executed : Bool
  /-- The moves it waits for, as twice the extent, plus 1 for a move up or to another layout. -/
  waits : NSet
  deriving DecidableEq, Repr

/-- A queued or running move of an extent (R187). -/
structure Move where
  extent : Nat
  up : Bool
  demand : Bool
  /-- The move keeps the extent near and changes its layout (R183, R549). -/
  relayout : Bool
  started : Option Nat
  /-- It has waited for granules (R187). -/
  waited : Bool
  /-- The acceptance of the placement command it is made for; 0: none (R187). -/
  acc : Nat
  deriving DecidableEq, Repr

/-! ## Coherence (chapter 10), synchronisation (chapter 11) -/

/-- A directory entry (R330): the state code 1 S, 2 F, 3 E, 4 M, and its way and age within its set. -/
structure DirEntry where
  st : Nat
  broadcast : Bool
  ptrs : List Nat
  way : Nat
  age : Nat
  deriving DecidableEq, Repr

/-- What a snoop is for (R333, R335). -/
inductive SnoopWhy where
  /-- A victim recall, a dissolution or a sleep (R333). -/
  | recalled
  /-- A caching read that gets a HOME GRANT once its snoops are answered: its grant's length. -/
  | home (hdr : Hdr) (length : Nat)
  /-- A caching read that the snooped agent supplies. -/
  | agent (hdr : Hdr) (grant : Nat)
  /-- A request without a cache, by number of the request. -/
  | request (id : Nat)
  /-- An engine of this package, by the number of what it reads for (R267, R335). -/
  | engine (id : Nat)
  deriving DecidableEq, Repr

/-- A snoop sent and not answered (R328, R340). -/
structure Snoop where
  line : Nat
  agent : Nat
  kind : Nat
  /-- The number that its transaction's GRANT carries. -/
  txn : Nat
  why : SnoopWhy
  /-- The timeout runs (R340), and the agent's WB_DIRTY is awaited (R342). -/
  running : Bool
  awaitsWb : Bool
  /-- The data of a WB_DIRTY that crossed the snoop (R342). -/
  wbData : Option Nat
  /-- The bytes of the line written at the home since the snoop was sent: returned data does not replace them. -/
  mask : Nat
  deriving DecidableEq, Repr

/-- Waiters of synchronisation objects (R370, R374). -/
inductive WaiterKind where
  | tile (t : Nat)
  | dma (channel : Nat)
  | write (requester address key tag tenant : Nat)
  | doorbell (requester address key tag tenant : Nat)
  deriving DecidableEq, Repr

/-- A registered waiter (R370, R380): cond 1 GE, 2 EQ. -/
structure Waiter where
  kind : WaiterKind
  cond : Nat
  target : Nat
  since : Nat
  deriving DecidableEq, Repr

/-- A synchronisation object (R367, R369, R380). -/
structure SyncObj where
  value : Nat
  owner : Option Nat
  waiters : List Waiter
  count : Nat
  lastTime : Nat
  lastOperand : Nat
  lastRequester : Nat
  lastTenant : Nat
  lastKind : Nat
  lastUnit : Nat
  /-- A signal came since the previous deadlock scan (R378). -/
  recent : Bool
  deriving DecidableEq, Repr

/-- An object after full package reset (R367). -/
def SyncObj.zero : SyncObj := ⟨0, none, [], 0, 0, 0, 0, 0, 0, 0, false⟩

/-- A remote copy: slice, fabric address of the line, data, fill time (R354), and the draw of free values after which its fill read
left, which orders it among the acquires (R356). -/
structure RemoteCopy where
  slice : Nat
  address : Nat
  data : Nat
  filled : Nat
  stamp : Nat
  deriving DecidableEq, Repr

/-- The detector's memory of a tenant (R379). -/
structure DeadScan where
  scans : Nat
  reported : Bool
  deriving DecidableEq, Repr
/-- A signal that a command owes (R376): the package of the object, the object, operand, requester, tenant. -/
structure OwedSignal where
  package : Nat
  object : Nat
  operand : Nat
  requester : Nat
  tenant : Nat
  deriving DecidableEq, Repr

/-! ## Tiles (chapter 2) -/

/-- A tile load in flight (R82): what was asked, the data once it is back, and whether it is poisoned. -/
structure TileLoad where
  address : Nat
  bytes : Nat
  acquire : Bool
  data : Option Nat
  bad : Bool
  deriving DecidableEq, Repr

/-- A step of one of the tile's arithmetic units (R57 to R77). -/
inductive UnitStep where
  | matrixVector (m : MvStep)
  | vector (op : VecOp)
  | convert (target : Nat)
  | special (f : SpecialFn)
  | reduce (maximum : Bool)
  deriving DecidableEq, Repr

/-- A step of the sequencer (R50, R356, R374). -/
inductive SeqOp where
  | unit (u : UnitStep) (f : Feed)
  | load (a : EngineAccess) (r : Remote)
  | store (a : EngineAccess) (f : Feed) (ack : Status)
  | atomic (a : EngineAccess) (body : Nat) (r : Remote)
  | release (a : EngineAccess) (f : Feed) (ack : Status)
  | fence
  | signal (object operand : Nat)
  | wait (object cond target : Nat)
  deriving DecidableEq, Repr

/-- A loaded tile configuration (R48, R94): the switchbox routes, the arithmetic control word, the masks of the formats of
the matrix and the vector operand, the number of microcode words, the microcode store and the constant store. -/
structure TileCfg where
  routes : Nat
  control : Nat
  matrixFormats : Nat
  vectorFormats : Nat
  words : Nat
  micro : Nat
  consts : Nat
  deriving DecidableEq, Repr

/-- A tile (R47 to R50, R71 to R73, R82, R88, R94, R356, R374). -/
structure Tile where
  /-- The configuration; none: none is loaded. -/
  cfg : Option TileCfg
  /-- The four loop counters of the sequencer (R47). -/
  loops : List Nat
  /-- Data that waits at a sink of the switchbox, by sink code, and whether it is poisoned (R49, R50). -/
  latches : Tab (Nat × Bool)
  /-- The 256 accumulator entries, binary32 or 32-bit integer codes, and those computed from poisoned data. -/
  accs : Tab Nat
  badAccs : NSet
  /-- The 32 lane generators; empty: the tile holds no state (R73). -/
  lanes : List Nat
  /-- The tile seed that the lanes were last set from (R89). -/
  seed : Nat
  /-- The sticky flags (R88). -/
  flags : Nat
  /-- Loads in flight, in issue order. -/
  loads : List TileLoad
  /-- The object that the sequencer is stalled on (R374), and when the latest acquire completed (R356). -/
  waiting : Option Nat
  /-- Steps that the sequencer is stalled before, oldest first (R50, R82, R356). -/
  held : List SeqOp
  /-- The tile's call ends with INTERNAL: it reached for an object of another tenant (R374), or for a format outside its masks
  (R94). -/
  failed : Bool
  /-- The draw of free values at its latest acquire (R356): older remote copies serve it no more. -/
  acquired : Nat
  /-- The vector unit's latest result of 128 bytes, whether it was computed from poisoned data, and the scale byte of a
  microscaled one (R75, R74, R129). -/
  vec : Nat
  vecBad : Bool
  scale : Nat
  deriving DecidableEq, Repr

/-- A tile after reset (log entry 13). -/
def Tile.zero : Tile := ⟨none, [0, 0, 0, 0], [], [], [], [], 0, 0, [], none, [], false, 0, 0, false, 0⟩


/-! ## Jentu configurations (chapter 3) -/

/-- A posted command accepted and not over: its request and when it was accepted (R36). -/
structure Posted where
  req : Req
  at_ : Nat
  deriving DecidableEq, Repr

/-- An image as registered (R91 to R99, R103): the acceptance of its registration, where it stands, and what the device
recorded of it. -/
structure ImageInfo where
  reg : Nat
  offset : Nat
  bytes : Nat
  digest : Nat
  imageId : Nat
  version : Nat
  roles : Nat
  keySlot : Nat
  /-- Interface arguments: kind and max_length (R98). -/
  args : List (Nat × Nat)
  deriving DecidableEq, Repr

/-- A registry entry: registered, with the tenant that did (R103). -/
structure RegEntry where
  image : ImageInfo
  tenant : Nat
  deriving DecidableEq, Repr

/-- Cluster states (R117). -/
inductive ClusterState where
  | empty | draining | loading | armed | running | offline
  deriving DecidableEq, Repr

/-- A LOAD assigned to a cluster and not over (R115 to R118): none when the device reloads by itself (R122, R556). -/
structure LoadJob where
  acc : Option Nat
  slot : Nat
  image : ImageInfo
  zero : Bool
  /-- The tenant and the role of the handle it was accepted for (R112, R97). -/
  tenant : Nat
  role : Nat
  /-- The cluster has entered LOADING; its handle has dropped it (R118). -/
  started : Option Nat
  dropped : Bool
  deriving DecidableEq, Repr

/-- A cluster (R117, R132). -/
structure Cluster where
  st : ClusterState
  /-- The handle and role it is assigned to, staged or reserved for. -/
  handle : Option Nat
  role : Nat
  staged : Bool
  /-- The image it holds, or that it held and is to be reloaded from; its own copy of the bytes, and the slot it was loaded from
  (R105, R122). -/
  info : Option ImageInfo
  copy : Nat
  slot : Nat
  load : Option LoadJob
  lastStatus : Nat
  spares : Nat
  lastTenant : Option Nat
  drainFrom : Nat
  /-- It was ARMED or RUNNING when its die lost power (R122). -/
  reload : Bool
  deriving DecidableEq, Repr

/-- A cluster after full package reset. -/
def Cluster.zero : Cluster := ⟨.empty, none, 0, false, none, 0, 0, none, 0, 0, none, 0, false⟩

/-- Handle states (R118). -/
inductive HandleState where
  | unbound | assembling | active | rebinding | staging
  deriving DecidableEq, Repr

/-- A function handle (R109, R118). -/
structure FnHandle where
  st : HandleState
  image : ImageInfo
  imageTenant : Nat
  tenant : Nat
  context : Nat
  roles : Nat
  /-- The current and the staged cluster of each role. -/
  current : Tab Nat
  staged : Tab Nat
  deriving DecidableEq, Repr

/-- A call accepted and not over (R121, R127): its handle and clusters, the further handles that an attention command runs
on, and whether it read substituted or poisoned data (R129). -/
structure Call where
  posted : Posted
  handle : Nat
  clusters : List Nat
  also : List Nat
  subst : Bool
  poisoned : Bool
  deriving DecidableEq, Repr

/-! ## Translation (chapter 9) -/

/-- A cached table entry (R302, R303): the die whose caches hold it, context, level, the virtual address bits above the
level's index, and the entry. -/
structure XltEntry where
  die : Nat
  context : Nat
  level : Nat
  tag : Nat
  entry : Nat
  deriving DecidableEq, Repr

/-- An access that an engine has issued, with the body of an atomic, how often it was replayed (R311), and whether the data
of a store was computed from poisoned data (R129). -/
structure Issued where
  access : EngineAccess
  body : Nat
  replays : Nat
  bad : Bool
  deriving DecidableEq, Repr

/-- An engine access that waits at its home (R195, R310, R510), with the fabric address it was translated to. -/
structure Stall where
  who : Issued
  address : Nat
  /-- The extent it waits for; the power domain it waits for. -/
  extent : Option Nat
  dom : Option Nat
  /-- It waits for agents' answers to snoops; the lines they returned; one went unanswered (R335, R347). -/
  snooped : Bool
  fresh : Tab Nat
  bad : Bool
  deriving DecidableEq, Repr

/-- A walk in flight; stale when an invalidation was accepted meanwhile (R308). -/
structure Walk where
  who : Issued
  stale : Bool
  /-- Its number as a reader of lines that agents own (R335). -/
  id : Nat
  deriving DecidableEq, Repr

/-- A fault record awaiting service (R311 to R315): 0 held back, 1 written, 2 announced. -/
structure FaultRec where
  id : Nat
  stage : Nat
  code : Nat
  level : Nat
  time : Nat
  joined : List Issued
  deriving DecidableEq, Repr

/-- An invalidation accepted, and the stalled accesses it waits for (R307). -/
structure Inval where
  posted : Posted
  waits : NSet
  deriving DecidableEq, Repr
/-! ## Attention (chapter 4) -/

/-- An active arena (R133, R140): the copy of its descriptor, its tenant, next_pos and the pending generation, the slots
written in it by 4096 * layer + 64 * KV head + slot, and the COMMIT that is copying, with the time it is to end. -/
structure Arena where
  desc : Nat
  tenant : Nat
  nextPos : Nat
  gen : Nat
  slots : NSet
  copying : Option (Nat × Nat)
  deriving DecidableEq, Repr

/-- An ATTEND accepted and not over (R155, R157, R164): 0 accepted, 1 held, 2 bound to next_pos and a generation; its
queries; whether the member failed; whether its partial is written and its merge armed. -/
structure Attend where
  posted : Posted
  st : Nat
  nextPos : Nat
  gen : Nat
  queries : Nat
  failed : Bool
  written : Bool
  armed : Bool
  /-- Its queries are not read yet: their extent was in the far tier at dispatch (R195). -/
  unread : Bool
  deriving DecidableEq, Repr

/-! ## The dictionary (chapter 14) -/

/-- Kinds of session (R453). -/
inductive SessKind where
  | implicit
  | management (spdm : Nat)
  | tenant (requester tenant : Nat)
  deriving DecidableEq, Repr

/-- A DAP session (R453 to R458, R467, R468, R470). -/
structure Session where
  kind : SessKind
  lastSeq : Nat
  last : Option DapReply
  /-- The object whose action the session's request waits for (R459). -/
  busy : Option Nat
  /-- Staged segments of a DOMAIN write: key, bytes, value, total length (R467). -/
  stage : Option (Nat × Nat × Nat × Nat)
  /-- The snapshot of a DOMAIN read: key, bytes, value (R468). -/
  snap : Option (Nat × Nat × Nat)
  subs : NSet
  nseq : Nat
  /-- Unsent NOTIFYs: object key, notification sequence, record (R470). -/
  unsent : Tab (Nat × Nat)
  lastUse : Nat
  deriving DecidableEq, Repr

/-- A session just opened. -/
def Session.fresh (k : SessKind) (now : Nat) : Session := ⟨k, 0, none, none, none, none, [], 0, [], now⟩

/-- A saved image (R471, R472): sequence number, values by object key, and whether its code matches. -/
structure Image where
  seq : Nat
  values : Tab Nat
  good : Bool
  deriving DecidableEq, Repr

/-- The dictionary's own state: sessions on the two ports, the saved images, the image being saved, the I3C address and
the messages waiting on I3C (R451 to R472). -/
structure Dict where
  i3c : Tab Session
  eth : Tab Session
  images : List Image
  saving : Option Image
  i3cAddr : Option Nat
  i3cReplies : List DapReply
  i3cNotes : List (Nat × Nat)
  deriving DecidableEq, Repr

/-! ## Control blocks and mailboxes (chapter 15) -/

/-- Configuration-check states (R487). -/
inductive CfgCheck where
  | unref | adopt | clean | pending | reload
  deriving DecidableEq, Repr

/-- The machinery of one die's control block (R481 to R487). -/
structure Block where
  readShadow : Option (Nat × Nat)
  writeShadow : Option (Nat × Nat)
  guard : Option (Nat × Nat)
  discards : Nat
  reason : Nat
  misses : Nat
  crc : Nat
  walks : Nat
  mismatch : Bool
  check : CfgCheck
  ref : Nat
  walkEnable : Bool
  walking : Bool
  marked : Bool
  overdue : Bool
  deriving DecidableEq, Repr

/-- A control block after full package reset (R484, R487). -/
def Block.zero : Block := ⟨none, none, none, 0, 0, 0, 0, 0, false, .unref, 0, true, false, false, false⟩

/-- A mailbox: its notices (pointer, tag), oldest first (R491, R492). -/
structure Mailbox where
  notices : List (Nat × Nat)
  headSeq : Nat
  enable : Bool
  posted : Nat
  fullDefers : Nat
  wake : Bool
  deriving DecidableEq, Repr

/-- A mailbox after full package reset (R496). -/
def Mailbox.zero : Mailbox := ⟨[], 0, true, 0, 0, false⟩

/-! ## Power (chapter 16) -/

/-- A power domain (R502, R505, R508, R510): state 0 ACTIVE, 1 IDLE, 2 RETAIN, 3 OFF. -/
structure Domain where
  st : Nat
  held : Bool
  waking : Bool
  wakeReq : Bool
  /-- The wake has failed and is being retried, and how often it failed in a row. -/
  failed : Bool
  failures : Nat
  /-- The domain generation last taken up (R560); the generation check is not done yet. -/
  generation : Nat
  checking : Bool
  /-- When the wake in progress began (R509). -/
  wakeAt : Nat
  deriving DecidableEq, Repr

/-- A domain that is off. -/
def Domain.off : Domain := ⟨3, false, false, false, false, 0, 0, false, 0⟩

/-! ## Ethernet (chapter 13) -/

/-- A SEND of the package that is not acknowledged (R431, R440): its number, immediate data, payload, and the mailbox whose
notice it carries. -/
structure RSend where
  psn : Nat
  imm : Option Nat
  bytes : Nat
  data : Nat
  notice : Option Nat
  deriving DecidableEq, Repr

/-- A request of a queue pair that waits for its turn or for the far tier (R435, R436). A READ knows how many bytes it has
returned. -/
inductive EthOp where
  | read (r : RdmaReq) (found : List (Nat × Nat)) (done : Nat)
  | write (r : RdmaReq) (data : Nat)
  | atomic (r : RdmaReq) (body : Nat)
  | send (psn msgBytes opcode : Nat) (h : Hdr) (body data : Nat)
  deriving DecidableEq, Repr

/-- A queue pair (R430, R431, R436, R442): state 0 RESET, 1 READY, 2 ERROR. -/
structure Qp where
  entry : Nat
  st : Nat
  expected : Nat
  send : Nat
  lastStatus : Nat
  sends : List RSend
  queue : List EthOp
  /-- The sending rate in GB/s, and when the last CNP was sent. -/
  rate : Nat
  lastCnp : Option Nat
  /-- Retries and RNR retries of the oldest SEND so far. -/
  retries : Nat
  rnr : Nat
  /-- Results of atomics by packet sequence number (R436). -/
  atomics : Tab Nat
  deriving DecidableEq, Repr

/-- A queue pair after full package reset. -/
def Qp.zero : Qp := ⟨0, 0, 0, 0, 0, [], [], 200, none, 0, 0, []⟩
/-! ## Streams (chapter 6) -/

/-- A table slot (R221, R222): state 0 FREE, 1 LOADING, 2 VALID, 3 RETIRING; the last generation, the tenant, the image's
counts_crc and its 576 bytes once they are read, queued_blocks, and the INSTALL or RETIRE that has no record yet. -/
structure TableSlot where
  st : Nat
  gen : Nat
  tenant : Nat
  crc : Nat
  image : Option Nat
  queued : Nat
  job : Option (Nat × Posted)
  deriving DecidableEq, Repr

/-- A slot that never held a table. -/
def TableSlot.free : TableSlot := ⟨0, 0, 0, 0, none, 0, none⟩

/-- A stream READ accepted and not over (R228 to R231): the map of its blocks once it is checked, the next block and its
offset, and the status, slot and generation that ended it. -/
structure StreamRead where
  posted : Posted
  map : Option Nat
  next : Nat
  at_ : Nat
  fail : Option (Status × Nat × Nat)
  deriving DecidableEq, Repr

/-! ## Oryx (chapter 7) -/

/-- A table slot of the Oryx engines (R240): 0 INACTIVE, 1 ACTIVE, 2 REPLACING, 3 DEACTIVATING; tenant, version counter,
current version, descriptors by version, and the REPLACE and DEACTIVATE that have no header yet. -/
structure OTable where
  st : Nat
  tenant : Nat
  last : Nat
  current : Nat
  versions : Tab Nat
  jobs : List (Nat × Posted)
  deriving DecidableEq, Repr

/-- A slot after full package reset. -/
def OTable.zero : OTable := ⟨0, 0, 0, 0, [], []⟩

/-- An Oryx request accepted and not over (R244 to R250): its lists once they are read, the entries done, its counts, the
bag in progress (number, lanes, rows taken, poisoned), whether its row operations are over, and whether an output write was refused. `retry`: a list read
awaits its retry. -/
structure OReq where
  posted : Posted
  version : Nat
  lists : Option (Nat × Nat)
  retry : Bool
  done : Nat
  droppedRange : Nat
  droppedDeleted : Nat
  forwarded : Nat
  bag : Nat
  sum : List Nat
  taken : Nat
  bad : Bool
  status : Status
  ended : Bool
  refused : Bool
  /-- The last output line that it wrote with poison (R251, R252): fabric address / 64. -/
  spoiled : Option Nat
  deriving DecidableEq, Repr

/-- A row of another package's table that lives, or is about to live, in a hot area of this package: its slice, where it
stands, the descriptor and the tenant of its table, and whether this package holds its lock (R261, R263). -/
structure HotGuest where
  row : RowRef
  slice : Nat
  at_ : Nat
  desc : Nat
  tenant : Nat
  locked : Bool
  deriving DecidableEq, Repr

/-- A migrating row (R261): 0 chosen, 1 COPYING, 2 COMMITTING, 3 FORWARDED, 4 RETURNING, 5 LOST; where it goes, whether it
was written while COPYING, and its operations in the window. -/
structure Forward where
  row : RowRef
  st : Nat
  pkg : Nat
  slice : Nat
  at_ : Nat
  dirty : Bool
  ops : Nat
  deriving DecidableEq, Repr

/-- The operations of a shard at a home in the window, and its sampled rows with their counts (R260). -/
structure ShardLoad where
  home : Nat
  slot : Nat
  version : Nat
  shard : Nat
  ops : Nat
  rows : Tab Nat
  deriving DecidableEq, Repr

/-! ## Chamois (chapter 8) -/

/-- An index slot (R288): 0 INACTIVE, 1 ACTIVE, 2 MERGE_WAIT, 3 MERGE_BUILD, 4 DEACTIVATING; the copy of its descriptor;
its graph; `count` slots live from 0 upward but for `slots`: 0 live, 1 reserved by an INSERT, 2 inserted and not merged, 3
deleted and not merged, 4 free; the merge's snapshot (tail, next_seq, P); the operation that has no header yet. -/
structure SIndex where
  st : Nat
  tenant : Nat
  desc : Nat
  gen : Nat
  merged : Nat
  prev : Nat
  tail : Nat
  nextSeq : Nat
  entry : Nat
  count : Nat
  live : Nat
  slots : Tab Nat
  snap : Option (Nat × Nat × Nat)
  job : Option (Nat × Posted)
  mergeJob : Option (Nat × Posted)
  deriving DecidableEq, Repr

/-- A slot after full package reset. -/
def SIndex.zero : SIndex := ⟨0, 0, 0, 0, 0, 0, 0, 0, 0, 0, 0, [], none, none, none⟩

/-- A QUERY, INSERT or DELETE accepted and not over (R273, R274, R280): its position and slot; its snapshot (generation,
merged_pos, tail, next_seq); its candidates (distance, slot, side-list position); its data; its counts; its status. -/
structure SOp where
  posted : Posted
  pos : Nat
  slot : Nat
  snap : Option (Nat × Nat × Nat × Nat)
  cands : List (Nat × Nat × Option Nat)
  data : Nat
  scored : Nat
  side : Nat
  rounds : Nat
  skipped : Nat
  limit : Bool
  status : Status
  deriving DecidableEq, Repr
/-! ## Bring-up, firmware, reset, purge, identity (chapters 17 to 20) -/

/-- A firmware slot (R539 to R545): 0 EMPTY, 1 STAGING, 2 VERIFIED, 3 CHECK_FAIL, 4 ACTIVE, 5 TRIAL; the versions and the
digest that its verification found; what was staged, by number of 4,096 bytes. -/
structure FwSlot where
  st : Nat
  version : Nat
  security : Nat
  digest : Nat
  staged : Tab Nat
  deriving DecidableEq, Repr

/-- The firmware (R525, R540 to R544): the slots A and B; the slot that runs once one does; the marker; the slot that ran
before a TRIAL; a verification in progress; the management core restarting. -/
structure Firmware where
  a : FwSlot
  b : FwSlot
  running : Option Nat
  marker : Nat
  trial : Option Nat
  verifying : Bool
  restarting : Bool
  deriving DecidableEq, Repr

/-- An empty slot. -/
def FwSlot.zero : FwSlot := ⟨0, 0, 0, 0, []⟩

/-- A full package reset in progress (R536, R612): its cause once triggered; PKG_RESET_N held low; a pkg_reset whose
100 µs run; when it was triggered, or domain 0 started. -/
structure Resetting where
  cause : Option Nat
  held : Bool
  soon : Bool
  since : Nat
  deriving DecidableEq, Repr

/-- A purge or report (R597 to R601): the body, purge_result, near_zero_mask. -/
structure Purge where
  body : Nat
  result : Nat
  mask : Nat
  deriving DecidableEq, Repr

/-- An SPDM session (R581 to R584): its port, whether FINISH established it, whether its requester is authenticated as
R583 asks, and the numbers of its latest key update. -/
structure SpdmSession where
  port : Port
  established : Bool
  attested : Bool
  keyUpdates : Nat
  deriving DecidableEq, Repr

/-- The SPDM responder (R581): how far each port's connection has come (0 nothing, 1 version, 2 capabilities, 3 algorithms;
I3C, Ethernet), and its sessions. -/
structure Spdm where
  i3c : Nat
  eth : Nat
  sessions : Tab SpdmSession
  deriving DecidableEq, Repr

/-- A domain change that runs at the master (R569, R574): 1 REBUILD, 2 REPLACE; the member and the package that joins. -/
structure Change where
  op : Nat
  member : Nat
  package : Nat
  deriving DecidableEq, Repr


/-! ## The state -/

/-- The state of the block: what the spec gives it, the queue of waiting commands, what it has sent, and the counter
that free values are drawn with. -/
structure State where
  /-- The commands that wait, first in first out. -/
  pending : List Instr
  /-- What has left the block, newest first: the model's own field. -/
  out : List Out
  /-- How many free values have been drawn: the model's own field (log entry 1). -/
  freeCtr : Nat
  /-- The variant the part is built as (R1). -/
  variant : Variant
  pkg : PkgState
  /-- The package time counter in ns (R520). -/
  time : Nat
  /-- The values of dictionary objects that differ from their defaults, by `okey` (R447). -/
  objs : Tab Nat
  /-- Memory by offset in the package's range, the windows of the tiles included (R23). -/
  mem : List Host.Cell
  /-- The poisoned lines, by offset / 64 (R546, R550). -/
  poison : NSet
  /-- The last acceptance handle, request number and snoop number given out. -/
  accCtr : Nat
  reqCtr : Nat
  snoopCtr : Nat
  links : Tab Link
  /-- The package's C0 bucket and when it was last filled (R409). -/
  pkgBucket : Nat
  pkgBucketAt : Nat
  compTab : Tab CompEntry
  comps : Tab Comp
  /-- The next meter record's number, and the last close of the meters (R422). -/
  recordSeq : Nat
  meterStart : Nat
  regions : Tab Nat
  owners : Owners
  openReqs : Tab OpenReq
  dma : Tab (List Dma)
  extents : Tab Extent
  placed : Tab PObject
  shadows : Tab Shadow
  placeQ : List PlaceCmd
  moves : List Move
  stalls : Tab Stall
  /-- Retired granules per stack (R549), and free far frames used by extents beyond the near tier. -/
  retired : Tab Nat
  dir : Tab DirEntry
  snoops : Tab Snoop
  sync : Tab SyncObj
  copies : List RemoteCopy
  deadlock : Tab DeadScan
  dict : Dict
  blocks : Tab Block
  /-- Registers of the control blocks that hold what was written, by 65,536 * die + offset. -/
  regs : Tab Nat
  /-- Mailboxes by 16 * die + number, and geyser_events by die. -/
  mbx : Tab Mailbox
  geyser : Tab Nat
  doms : Tab Domain
  /-- The generations of the tenant keys (R587). -/
  keyGens : Tab Nat
  /-- A REPLACE has committed, so the package answers NOT_OWNER for its memory (R574). -/
  replaced : Bool
  /-- The misroute counters of the I/O dies, 0 north and 1 south (R26). -/
  misroutes : Tab Nat
  /-- Lines whose directory entry is being recalled (R333). -/
  recalls : NSet
  /-- Tiles by logical number. -/
  tiles : Tab Tile
  /-- Notifications sent, by object and address (R372). -/
  notified : List (Nat × Nat)
  /-- Signals that commands owe, by acceptance handle (R376). -/
  owed : Tab OwedSignal
  /-- The image registry, and its entries reserved by registrations in progress, by acceptance (R103, R114). -/
  registry : Tab RegEntry
  reserved : Tab Nat
  /-- Configuration commands accepted and not over, by acceptance: REGISTER; RETIRE, with the retired slot; LOAD (R103, R105, R116). -/
  registering : Tab Posted
  retiring : Tab Posted
  loading : Tab Posted
  /-- Clusters and function handles (R117, R118). -/
  clusters : Tab Cluster
  handles : Tab FnHandle
  /-- Calls in flight, by acceptance (R127). -/
  calls : Tab Call
  /-- The translation caches, and the descriptors cached by die and context (R297, R303). -/
  xlt : List XltEntry
  xltDesc : Tab Nat
  /-- Walks in flight. -/
  walks : List Walk
  /-- Fault records awaiting service, by 2^32 times the queue plus seq; accesses stalled for a queue without entries (R312, R313). -/
  faults : Tab FaultRec
  faultNone : List Issued
  /-- The next fault identifier of a die (R311). -/
  faultIds : Tab Nat
  /-- Invalidations not yet in effect, by acceptance (R307). -/
  invals : Tab Inval
  /-- The custody log's units, newest first; the unit of the latest checkpoint, and the entries since (R590 to R594). -/
  log : List Nat
  lastCheck : Nat
  sinceCheck : Nat
  /-- Queue pairs by entry (R430), and the priorities that received PFC frames pause (R441). -/
  qps : Tab Qp
  paused : Nat
  /-- The priorities that the port has sent XOFF for (R441). -/
  xoff : Nat
  /-- Frames of the Ethernet port held back for their paused priority, oldest first (R441). -/
  ethHeld : List (Nat × Out)
  /-- Self-test steps that have ended (R528). -/
  selfDone : NSet
  /-- Active arenas by slot; ATTENDs and COMMITs accepted and not over, by acceptance (R133, R155, R150). -/
  arenas : Tab Arena
  attends : Tab Attend
  commits : Tab Posted
  /-- The states of the tenant keys: 0 EMPTY, 1 ACTIVE, 2 SWEEPING; key 0xFFF is always ACTIVE (R587). -/
  keyStates : Tab Nat
  /-- Table slots of the expanders, by number (R221). -/
  slots : Tab TableSlot
  /-- Stream READs accepted and not over, by acceptance; blocks that PACK_STREAM calls count in a slot, by acceptance: 2^32 times the slot plus the blocks (R234). -/
  streams : Tab StreamRead
  packs : Tab Nat
  /-- Oryx table slots; requests by acceptance; migrating rows; shard loads of the window; row operations so far (R240 to R261). -/
  otables : Tab OTable
  oreqs : Tab OReq
  /-- Rows of other packages in the hot areas of this one (R261, R263). -/
  guests : List HotGuest
  forwards : List Forward
  shards : List ShardLoad
  rowOps : Nat
  /-- Chamois index slots, and their operations by acceptance (R273 to R291). -/
  indexes : Tab SIndex
  sops : Tab SOp
  /-- The mem_range_bytes of the other members of the domain, by member, where one was needed (R423). -/
  memberRanges : Tab Nat
  /-- Meter batches not collected, oldest first, and the next batch's number (R602, R603). -/
  batches : List Batch
  batchSeq : Nat
  /-- The firmware slots and the management core (R525 to R544). -/
  fw : Firmware
  /-- A full package reset in progress (R536). -/
  resetting : Resetting
  /-- The input has stood long enough for the soft-start (R500); domain 0 has just started, so a QUICK memory test writes zeros; memory_test was FULL at the entry into SELF_TEST (R531). -/
  inputOn : Bool
  cold : Bool
  fullTest : Bool
  /-- Pins that the package drives: THERM_TRIP_N asserted, NOR_FREE released (R613, R615). -/
  thermTrip : Bool
  norFree : Bool
  /-- The burst store B in µJ (R517). -/
  burstUj : Nat
  /-- The die under retest (R559). -/
  retest : Option Nat
  /-- Verified votes, by target package and manager (R566); the domain change that runs at the master (R572). -/
  votes : List (Nat × Nat)
  change : Option Change
  /-- The latest purge or report (R599). -/
  purge : Purge
  /-- The SPDM responder (R580 to R584). -/
  spdm : Spdm
  /-- The domain is being dissolved: its directory entries are recalled before it returns to ALONE (R322). -/
  dissolving : Bool
  /-- The store caches of the homes, by line (R170, R177). -/
  store : Tab StoreLine
  /-- Extents of P1 and P2 objects that are being rebuilt here, with the lines that are rebuilt (R569, R570). -/
  unrebuilt : Tab NSet
  /-- The master's copies of the members' active object entries, by 65,536 times the member plus the object (R568). -/
  memberObjects : Tab Nat
  /-- The tenant keys' material, by tenant: two 256-bit XTS keys (R585, R587). -/
  tenantKeys : Tab Nat
  /-- The flash media key: two 256-bit XTS keys; none was generated yet (R586). -/
  mediaKey : Option Nat
  /-- Lines that agents returned for reads of this package's engines, by reader * 2^48 + line: the data, and whether it is poisoned (R267, R335). -/
  peeked : Tab (Nat × Bool)
  /-- domain_state as it was before the formation in progress (R11, R322). -/
  formFrom : Nat
  deriving DecidableEq, Repr

/-- The stops of a run that are not a next state. No meaning of this model ends in one: every command of the table has an
effect that the spec states, or leaves the state as it is. -/
inductive Fault where
  /-- An effect on a unit that the spec gives no behaviour for. Raised by nobody; safe. -/
  | unspecifiedUnit
  deriving DecidableEq, Repr

/-- Why a command has no meaning. -/
inductive Refusal where
  /-- The command's arm of `exec` is not written yet. Raised by such an arm alone; safe. -/
  | notModelled (mnemonic : String)
  deriving DecidableEq, Repr

/-- The block before its input is applied: every register at the reset value of the listings (an object that `objs` does
not list is at its default), everything empty, domain 0 ACTIVE and the other domains OFF as PWR_DOMAIN_STATE resets to
(R523), an EQ-3248 (log entry 5). -/
def State.reset : State where
  pending := []
  out := []
  freeCtr := 0
  variant := .eq3248
  pkg := .off
  time := 0
  objs := []
  mem := []
  poison := []
  accCtr := 0
  reqCtr := 0
  snoopCtr := 0
  links := []
  pkgBucket := 65536
  pkgBucketAt := 0
  compTab := []
  comps := []
  recordSeq := 0
  meterStart := 0
  regions := []
  owners := ⟨[], [], []⟩
  openReqs := []
  dma := []
  extents := []
  placed := []
  shadows := []
  placeQ := []
  moves := []
  stalls := []
  retired := []
  dir := []
  snoops := []
  sync := []
  copies := []
  deadlock := []
  dict := ⟨[(0, Session.fresh .implicit 0)], [], [], none, none, [], []⟩
  blocks := []
  regs := []
  mbx := []
  geyser := []
  doms := [(0, { Domain.off with st := 0 })]
  keyGens := []
  replaced := false
  misroutes := []
  recalls := []
  tiles := []
  notified := []
  owed := []
  registry := []
  reserved := []
  registering := []
  retiring := []
  loading := []
  clusters := []
  handles := []
  calls := []
  xlt := []
  xltDesc := []
  walks := []
  faults := []
  faultNone := []
  faultIds := []
  invals := []
  log := []
  lastCheck := 0
  sinceCheck := 0
  qps := []
  paused := 0
  xoff := 0
  ethHeld := []
  selfDone := []
  arenas := []
  attends := []
  commits := []
  keyStates := []
  slots := []
  streams := []
  packs := []
  otables := []
  oreqs := []
  guests := []
  forwards := []
  shards := []
  rowOps := 0
  indexes := []
  sops := []
  memberRanges := []
  batches := []
  batchSeq := 0
  fw := ⟨FwSlot.zero, FwSlot.zero, none, 0, none, false, false⟩
  resetting := ⟨none, false, false, 0⟩
  inputOn := false
  cold := false
  fullTest := false
  thermTrip := false
  norFree := false
  burstUj := 2500000
  retest := none
  votes := []
  change := none
  purge := ⟨0, 0, 0⟩
  spdm := ⟨0, 0, []⟩
  dissolving := false
  store := []
  unrebuilt := []
  memberObjects := []
  tenantKeys := []
  mediaKey := none
  peeked := []
  formFrom := 0

end Sys2Proof.Machine
end

