-- ==== Sys2Proof/Machine/Ops.lean ====
section
/-! DEFINITION. The named operations every meaning is built of: dictionary values, counters and events, power domains,
what leaves the block, and time. -/

namespace Sys2Proof.Machine

/-! ## Dictionary values (R447 to R449, R1) -/

/-- The default that a listing gives, for a variant (R1, R473). -/
def dfltVal (v : Variant) : Dflt → Nat
  | .num n => n
  | .partNumber => match v with
    | .eq3248 => 0x383432332D5145 | .eq3244 => 0x343432332D5145 | .eq3240 => 0x303432332D5145
  | .partCode => match v with | .eq3248 => 0x3248 | .eq3244 => 0x3244 | .eq3240 => 0x3240
  | .siliconRevision => Config.siliconRevision % 2 ^ 16
  | .serial => Config.serial % 2 ^ 128
  | .date => Config.date % 2 ^ 32
  | .rotRom => Config.rotRom % 2 ^ 32
  | .mac => Config.mac % 2 ^ 48
  | .seed => Config.hashSeed % 2 ^ 64
  | .fingerprint => Config.fingerprint % 2 ^ 512
  | .imageKey => Config.imageKey0 % 2 ^ 15616
  | .fabricMask => match v with | .eq3244 => 0x0F | _ => 0xFF
  | .flashMask => match v with | .eq3240 => 0x00 | _ => 0x0F
  | .tiles => match v with | .eq3244 => 1024 | _ => 2048
  | .chamois => match v with | .eq3240 => 0 | _ => 32
  | .spares => match v with | .eq3244 => 128 | _ => 256

/-- The default of an object (R447, R521). -/
def objDflt (v : Variant) (index sub : Nat) : Nat :=
  if 0x2100 ≤ index ∧ index ≤ 0x211B ∧ sub = 2 then floorDefault (index - 0x2100)
  else match objRow index sub with
    | none => 0
    | some r => dfltVal v r.dflt

/-- The value the dictionary holds for an object. -/
def obj (s : State) (index sub : Nat) : Nat :=
  match tget s.objs (okey index sub) with
  | some v => v
  | none => objDflt s.variant index sub

/-- The state with an object at a value. -/
def setObj (index sub v : Nat) (s : State) : State := { s with objs := tset s.objs (okey index sub) v }

/-- The state with an object back at its default. -/
def resetObj (index sub : Nat) (s : State) : State := { s with objs := terase s.objs (okey index sub) }

/-- The width of a numeric object in bits. -/
def tyBits : ObjTy → Nat
  | .u8 => 8 | .bool => 1 | .u16 => 16 | .u32 => 32 | .i32 => 32 | .u64 => 64 | .event => 128
  | .string => 2048 | .blob n => 8 * n | .domain _ n => 8 * n

/-- The width of an object. -/
def objBits (index sub : Nat) : Nat :=
  match objRow index sub with
  | none => 0
  | some r => tyBits r.ty

/-- A counter that stops at all ones advances by `n` (R85, R473). -/
def bump (index sub n : Nat) (s : State) : State := setObj index sub (satInc (objBits index sub) (obj s index sub) n) s

/-- Several counters are cleared. -/
def clearObjs (index : Nat) (subs : List Nat) (s : State) : State := subs.foldl (fun s sub => setObj index sub 0 s) s

/-! ## What leaves the block -/

/-- Something leaves the block. -/
def emit (o : Out) (s : State) : State := { s with out := o :: s.out }

/-- The next free value (log entry 1). -/
def drawFree (s : State) : Nat × State := (Config.free s.freeCtr, { s with freeCtr := s.freeCtr + 1 })

/-- The next acceptance handle, a sequence number from 1 upward. -/
def nextAcc (s : State) : Nat × State := (s.accCtr + 1, { s with accCtr := s.accCtr + 1 })

/-- A session on a port. -/
def session (s : State) (p : Port) (id : Nat) : Option Session :=
  match p with
  | .i3c => tget s.dict.i3c id
  | .eth => tget s.dict.eth id

/-- A frame leaves the Ethernet port at its priority; one of a priority that a PFC frame paused is held (R441). -/
def ethOut (priority : Nat) (o : Out) (s : State) : State :=
  if bit s.paused priority then { s with ethHeld := s.ethHeld ++ [(priority, o)] } else emit o s

/-- The state with a session at a value. -/
def setSession (p : Port) (id : Nat) (x : Session) (s : State) : State :=
  match p with
  | .i3c => { s with dict := { s.dict with i3c := tset s.dict.i3c id x } }
  | .eth => { s with dict := { s.dict with eth := tset s.dict.eth id x } }

/-- One session is told of a raise: on Ethernet the NOTIFY leaves at once; on I3C it waits for a private read, and a
raise while it waits updates it in place (R461, R470). -/
def notifySession (p : Port) (key record : Nat) (s : State) (e : Nat × Session) : State :=
  if e.2.subs.contains key then
    match p with
    | .eth => ethOut (obj s 0x7100 8) (.notify p e.1 ((e.2.nseq + 1) % 65536) key record)
        (setSession p e.1 { e.2 with nseq := (e.2.nseq + 1) % 65536 } s)
    | .i3c =>
      match tget e.2.unsent key with
      | some (q, _) => setSession p e.1 { e.2 with unsent := tset e.2.unsent key (q, record) } s
      | none =>
        let n := (e.2.nseq + 1) % 65536
        let s := setSession p e.1 { e.2 with nseq := n, unsent := tset e.2.unsent key (n, record) } s
        emit (.ibi 2) { s with dict := { s.dict with i3cNotes := s.dict.i3cNotes ++ [(e.1, key)] } }
  else s

/-- An EVENT object is raised: its record takes the cause and the time, its count advances modulo 2^32 (R469), and each
subscribed session is told (R470). -/
def raiseEvent (index sub cause : Nat) (s : State) : State :=
  let n := (bits (obj s index sub) 31 0 + 1) % 2 ^ 32
  let record := n + cause % 2 ^ 32 * 2 ^ 32 + s.time % 2 ^ 64 * 2 ^ 64
  let s := setObj index sub record s
  let s := s.dict.i3c.foldl (notifySession .i3c (okey index sub) record) s
  s.dict.eth.foldl (notifySession .eth (okey index sub) record) s

/-- The code of a package state (R15). -/
def pkgCode : PkgState → Nat
  | .off => 0 | .fumaroleOnly => 1 | .selfTest => 2 | .standing => 3 | .ready => 4 | .draining => 5 | .expelled => 6

/-- The package enters a state: state_since is taken and state_event raised (R473). -/
def enterState (p : PkgState) (s : State) : State :=
  raiseEvent 0x1010 5 (pkgCode p) (setObj 0x1010 2 s.time { s with pkg := p })

/-- No full package reset has been triggered, or the one triggered has reached FUMAROLE_ONLY (R536). -/
def undisturbed (s : State) : Bool := s.resetting.cause.isNone

/-- The package serves requests on its links (R15), until a reset is triggered (R536). -/
def serving (s : State) : Bool := (s.pkg == .ready || s.pkg == .draining) && undisturbed s

/-- The self-test runs. -/
def selfTesting (s : State) : Bool := s.pkg == .selfTest && undisturbed s

/-- The dictionary answers (R15, R449, R461), but for the time between a reset's trigger and FUMAROLE_ONLY (R536). -/
def dictLive (s : State) : Bool :=
  (match s.pkg with
    | .off => false
    | .fumaroleOnly => false
    | _ => true) && undisturbed s

/-- The code of a completion status (R10). -/
def statusCode : Status → Nat
  | .ok => 0 | .okSubst => 1 | .defer => 2 | .poison => 3 | .keyDenied => 4 | .epochStale => 5 | .notOwner => 6
  | .conflict => 7 | .badLength => 8 | .checkFail => 9 | .tenantBlocked => 10 | .unsupported => 11
  | .resetDiscard => 12 | .internal => 15

/-- The response to a session's request leaves, and is kept for a re-send (R457, R459, R461). -/
def dapReply (p : Port) (id : Nat) (r : DapReply) (s : State) : State :=
  let s := match session s p id with
    | some x => setSession p id { x with last := some r, busy := none } s
    | none => s
  match p with
  | .eth => ethOut (obj s 0x7100 8) (.dap r) s
  | .i3c => emit (.ibi 1) { s with dict := { s.dict with i3cReplies := s.dict.i3cReplies ++ [r] } }

/-- The result of a request that a session is busy with: a status, a hint and a value of `n` bytes (R459). -/
def dapFinish (p : Port) (id : Nat) (st : Status) (hint n v : Nat) (s : State) : State :=
  match session s p id with
  | none => s
  | some x =>
    match x.busy with
    | none => s
    | some key => dapReply p id
        ⟨p, id, x.lastSeq, key / 256, key % 256, st, (if st = .defer then hint else 0), 0, n, n, v⟩ s

/-- Every session that waits for an object's action is answered (R459). -/
def dapFinishKey (key : Nat) (st : Status) (hint : Nat) (s : State) : State :=
  let cmd : Bool := match objRow (key / 256) (key % 256) with | some r => r.acc == .cmd || r.acc == .wo | none => false
  let n := if cmd && decide (st = .ok) then 8 else 0
  let go (p : Port) (s : State) (e : Nat × Session) : State :=
    if e.2.busy = some key then dapFinish p e.1 st hint n 0 s else s
  let s := s.dict.i3c.foldl (go .i3c) s
  s.dict.eth.foldl (go .eth) s

/-- A key of AES-256-XTS, two keys of 256 bits, from the random bit generator of the custody die (R586, R589). -/
def drawKey (s : State) : Nat × State :=
  let (f, s) := drawFree s
  (f % 2 ^ 512, s)

/-! ## The composition of a requester, and its meters (R411, R421) -/

/-- The composition-table slot and entry of a requester. -/
def compOf (s : State) (requester : Nat) : Option (Nat × CompEntry) :=
  s.compTab.find? (fun e => e.2.requester == requester)

/-- A composition's counts change. -/
def meter (c : Nat) (f : Comp → Comp) (s : State) : State := { s with comps := tmod s.comps c f }

/-- Bytes leave on behalf of a requester's composition. -/
def meterOut (requester n : Nat) (s : State) : State :=
  match compOf s requester with
  | none => s
  | some (_, e) => meter e.composition (fun c => { c with bytesOut := c.bytesOut + n }) s

/-! ## Queue pairs as the package answers on them (R431, R437, R440) -/

/-- A queue pair. -/
def qp (s : State) (q : Nat) : Qp := tgetD s.qps q Qp.zero

/-- The state with a queue pair. -/
def setQp (q : Nat) (x : Qp) (s : State) : State := { s with qps := tset s.qps q x }

/-- A frame of a queue pair leaves at its priority (R430, R441). -/
def qpOut (q : Nat) (o : Out) (s : State) : State := ethOut (bits (qp s q).entry 14 12) o s

/-- The bytes of a packet's payload (R430). -/
def pmtuBytes (entry : Nat) : Nat := 128 * 2 ^ bits entry 10 8

/-- Packets of a message. -/
def packetsOf (entry n : Nat) : Nat := max 1 (ceilDiv n (pmtuBytes entry))

/-- qps_ready shows the entries in READY. -/
def countQps (s : State) : State := setObj 0x7110 4 (s.qps.filter (fun e => e.2.st == 1)).length s

/-- A queue pair enters ERROR (R431): its SENDs are dropped, the status is recorded, the entry counted. What its queue holds
stays: the requests among it run on. -/
def qpError (q st : Nat) (s : State) : State :=
  raiseEvent 0x7100 7 0 (countQps (bump 0x7101 6 1
    (setQp q { qp s q with st := 2, lastStatus := st, sends := [] } s)))

/-- A SEND of the package on a READY queue pair (R438, R440); on another one it is dropped. -/
def qpSend (q : Nat) (imm : Option Nat) (bytes data : Nat) (notice : Option Nat) (s : State) : State :=
  let x := qp s q
  if x.st = 1 then
    let r : RSend := ⟨x.send, imm, bytes, data, notice⟩
    qpOut q (.rdmaSend q x.send (imm.getD 0) bytes data)
      (setQp q { x with sends := x.sends ++ [r], send := (x.send + packetsOf x.entry bytes) % 2 ^ 24 } s)
  else s

/-- The transport's code of a NAK for a status (R437, log entry 19): 1 Invalid Request, 2 Remote Access Error, 3 Remote
Operational Error. -/
def nakCode (st : Status) : Nat :=
  match st with
  | .poison => 3 | .internal => 3 | .keyDenied => 2 | .tenantBlocked => 2 | .notOwner => 2 | .epochStale => 2 | _ => 1

/-- A memory operation is answered (R437): its data or an acknowledgement, which its requester's composition counts (R421), or
a NAK and ERROR. -/
def rdmaAnswer (q psn : Nat) (st : Status) (bytes data : Nat) (s : State) : State :=
  if (qp s q).st ≠ 1 then s
  else if st = .ok then qpOut q (.rdmaAck q psn bytes data) (meterOut (bits (qp s q).entry 47 32) bytes s)
  else qpError q (statusCode st) (bump 0x7101 4 1 (qpOut q (.rdmaNak q psn (nakCode st)) s))

/-- The operations of the Ethernet port itself: RDMA READ, RDMA WRITE, and the atomics. -/
abbrev opRdmaRead : Nat := 0xE1
abbrev opRdmaWrite : Nat := 0xE3
abbrev opRdmaAtomic : Nat := 0xE6

/-- load_level of the utilisation, in tenths of a percent, of the most loaded resource of a request's path (R40). -/
def loadLevel (permille : Nat) : Nat := min 6 (8 * permille / 1000)

/-! ## Messages on links (R382 to R387, R406) -/

/-- The package's number. -/
abbrev pkgNo (s : State) : Nat := obj s 0x1021 1

/-- A link is among the trained links of R406: UP, or QUIESCING with flits unacknowledged (R562). -/
def trained (l : Link) : Bool := l.st == .up || (l.st == .quiescing && !l.cut)

/-- The link that a message to package `q` with a fabric address leaves on; none when the package has no trained link to it
(R406). -/
def pathOf (s : State) (q address : Nat) : Option Nat :=
  let up := (s.links.filter (fun e => trained e.2)).foldl (fun m e => m ||| 2 ^ e.1) 0
  let m := bits (obj s 0x7031 3) (16 * q + 15) (16 * q) &&& up
  let h := foldGroups 16 3 (bits address 59 12 ^^^ bits (obj s 0x7031 2) 47 0)
  if m = 0 then none else nthOne 16 m (h % popcount 16 m)

/-- The link to the package that a fabric address names. -/
def pathLink (s : State) (address : Nat) : Option Nat := pathOf s (address / 2 ^ 48) address

/-- A message to a fabric address can leave. -/
def reaches (s : State) (address : Nat) : Bool := (pathLink s address).isSome

/-- A message of so many bytes takes flits of 232 bytes: sequence numbers, and on channels 0 to 6 credits (R384, R385). A message
without credits leaves later; the model shows it leave at once (log entry 10). -/
def sendFlits (n vc bytes : Nat) (s : State) : State :=
  { s with links := tmod s.links n (fun l =>
      let f := ceilDiv bytes 232
      { l with nextSend := (l.nextSend + f) % 1024, credits := l.credits.mapIdx (fun i c => if i = vc then c - f else c) }) }

/-- A message of the package goes to package `q` with a fabric address, on the link of its path; without one it is not sent (R406). -/
def sendTo (q vc bytes address : Nat) (o : Out) (s : State) : State :=
  match pathOf s q address with
  | some n => emit (.over n o) (sendFlits n vc bytes s)
  | none => s

/-- The same to the package that the address names. -/
def send (vc bytes address : Nat) (o : Out) (s : State) : State := sendTo (address / 2 ^ 48) vc bytes address o s

/-- A link can still send: it is not down. -/
def linkSends (s : State) (n : Nat) : Bool :=
  match tget s.links n with
  | some l => l.st != .down
  | none => false

/-- The way of a request whose completion cannot leave any more: its link went down, or its queue pair was reset (R35, R386,
R431). It is a queue pair that no entry stands for. -/
abbrev noWay : Via := .eth 4096

/-- A completion leaves (R35, R39): the status, the result, the data of `len` 64-byte units with OK or OK_SUBST, and a
hint with DEFER. load_level is 7 where the home defers or enforces a limit, and otherwise follows from a utilisation that the
spec leaves to the traffic: a free value (R40, log entry 1). None leaves over a link that is down. A command of the dictionary
is answered in its session instead (R459, R460). -/
def completeWith (rq : Req) (st : Status) (result hint len data : Nat) (load : Option Nat) (s : State) : State :=
  match rq.hdr.via with
  | .dap p id => dapFinish p id st hint (if st = .ok then 8 else 0) (if st = .ok then result else 0) s
  | via =>
    let full := st = .ok ∨ st = .okSubst
    let len := if full then len else 0
    let s := match st with
      | .keyDenied => bump 0x7020 4 1 s
      | .epochStale => bump 0x7030 5 1 s
      | .notOwner => bump 0x7032 4 1 s
      | _ => s
    let (f, s) := drawFree s
    let c : Completion :=
      { via := via, tag := rq.hdr.tag, requester := rq.hdr.requester, status := st, result := result, length := len,
        hint := (if st = .defer then min hint 255 else 0), c0Demoted := rq.demoted,
        loadLevel := (match load with | some l => l | none => loadLevel (f % 1001)), data := (if full then data else 0) }
    match via with
    | .eth q =>
      if rq.op = opRdmaRead then rdmaAnswer q rq.hdr.tag st rq.body data s
      else if rq.op = opRdmaWrite then rdmaAnswer q rq.hdr.tag st 0 0 s
      else if rq.op = opRdmaAtomic then
        rdmaAnswer q rq.hdr.tag st 8 result (setQp q { qp s q with atomics := tset (qp s q).atomics rq.hdr.tag result } s)
      else if (qp s q).st = 1 then
        qpSend q none (16 + 64 * len) c.data none (emit (.completion c) (meterOut rq.hdr.requester (16 + 64 * len) s))
      else s
    | .link n =>
      if linkSends s n then
        emit (.completion c) (sendFlits n 4 (16 + 64 * len) (meterOut rq.hdr.requester (16 + 64 * len) s))
      else s
    | _ => s

/-- A completion with a status and a result alone. -/
def complete (rq : Req) (st : Status) (result : Nat) (s : State) : State := completeWith rq st result 0 0 0 none s

/-- The home defers a request: DEFER, a retry hint, load_level 7 (R40). -/
def deferReq (rq : Req) (hint : Nat) (s : State) : State := completeWith rq .defer 0 hint 0 0 (some 7) s

/-! ## Power domains (R502 to R510) -/

/-- A power domain's record. -/
def dom (s : State) (d : Nat) : Domain := tgetD s.doms d Domain.off

/-- The state with a power domain changed. -/
def setDom (d : Nat) (f : Domain → Domain) (s : State) : State := { s with doms := tset s.doms d (f (dom s d)) }

/-- A domain accepts traffic: it is ACTIVE or IDLE, not waking, and its generation is checked (R511). -/
def awake (s : State) (d : Nat) : Bool :=
  decide ((dom s d).st ≤ 1) && !(dom s d).waking && !(dom s d).checking

/-- A wake request is raised to a domain (R508); a held domain keeps the request asserted (R505). -/
def wake (d : Nat) (s : State) : State :=
  if (dom s d).st ≤ 1 then s
  else setDom d (fun x => { x with
      wakeReq := true, waking := x.waking || !x.held, wakeAt := if x.waking || x.held then x.wakeAt else s.time }) s

/-- The wake time of a domain from its state, in ns (R504). -/
def wakeNs (d st : Nat) : Nat :=
  if st ≤ 1 then 50
  else if d = 1 then (if st = 2 then 20000 else 300000)
  else if d = 3 then 20000
  else if 4 ≤ d ∧ d ≤ 7 then (if st = 2 then 3000 else 30000)
  else if 8 ≤ d ∧ d ≤ 15 then (if st = 2 then 6000 else 50000)
  else if 16 ≤ d ∧ d ≤ 23 then (if st = 2 then 4000 else 25000)
  else (if st = 2 then 10000 else 120000)

/-- What is left of a domain's wake time (R509). -/
def wakeLeft (s : State) (d : Nat) : Nat :=
  wakeNs d (dom s d).st - (if (dom s d).waking then (s.time + 2 ^ 64 - (dom s d).wakeAt) % 2 ^ 64 else 0)

/-- The hint of a DEFER because of a sleeping domain (R509): 0 when it is held. -/
def wakeHint (s : State) (d : Nat) : Nat := if (dom s d).held then 0 else max 1 (ceilDiv (wakeLeft s d) 4000)

/-- The domain of home n, of the fabric die of slice n, of flash die f, of the quadrant of a link (R502). -/
abbrev homeDom (n : Nat) : Nat := 8 + n
abbrev fabricDom (n : Nat) : Nat := 16 + n
abbrev flashDom (f : Nat) : Nat := 24 + f
abbrev quadDom (link : Nat) : Nat := 4 + link / 4

/-- The power domain that a die's pages 0x1 to 0xF are in (R477, R502); an I/O die's are taken to be in its first
quadrant's domain (log entry 6). -/
def dieDom (die : Nat) : Nat :=
  if die < 8 then 8 + die else if die < 16 then 8 + die else if die = 0x18 then 4 else if die = 0x19 then 6
  else if 0x1A ≤ die ∧ die ≤ 0x1D then 24 + (die - 0x1A) else if die = 0x1E then 2 else 0

/-- The receiver domain of a die's mailboxes (R494). -/
def mbxDom (die : Nat) : Nat :=
  if die < 16 then 8 + die else if die = 0x18 then 3 else if die = 0x19 then 6
  else if 0x1A ≤ die ∧ die ≤ 0x1D then 24 + (die - 0x1A) else 2

/-- Fabric dies present, flash dies present (R1, R4). -/
def fabricPresent (s : State) (n : Nat) : Bool := bit (obj s 0x1020 1) n
def flashPresent (s : State) (f : Nat) : Bool := bit (obj s 0x1020 2) f

/-- A die is present on this variant (R18, R1). -/
def diePresent (s : State) (die : Nat) : Bool :=
  if die < 8 then true
  else if die < 16 then fabricPresent s (die - 8)
  else if die < 24 then true
  else if 0x1A ≤ die ∧ die ≤ 0x1D then flashPresent s (die - 0x1A)
  else decide (die < 32)

/-- A die has a control block (R476). -/
def hasBlock (die : Nat) : Bool := decide (die < 0x10 ∨ (0x18 ≤ die ∧ die ≤ 0x1F))

/-! ## Time (R520) -/

/-- The package time counter advances (R445, R514). -/
def advance (ns : Nat) (s : State) : State := { s with time := (s.time + ns) % 2 ^ 64 }

end Sys2Proof.Machine
end

