-- ==== Sys2Proof/Machine/Mem.lean ====
section
/-! DEFINITION. Memory as a list of cells in canonical form, the poison of its lines, the homes of its lines, and the
extents and objects that lie over it. -/

namespace Sys2Proof.Machine

/-! ## Cells -/

/-- What a byte that no cell lists reads as: zero, which is what a ZERO extent reads as (R173) and what cold start writes
(R531); a scratchpad before its first write likewise (log entry 7). -/
abbrev unlisted : Byte := 0

/-- The canonical form: addresses strictly rising, no cell at the unlisted value. -/
abbrev Memory.wf (m : List Host.Cell) : Prop :=
  m.Pairwise (fun a b => a.1 < b.1) ∧ ∀ c ∈ m, c.2 ≠ unlisted

/-- The byte at an address. -/
def readCell (m : List Host.Cell) (a : Nat) : Byte :=
  match m with
  | [] => unlisted
  | (a', b) :: r => if a' = a then b else readCell r a

/-- The memory without a cell at an address. -/
def dropCell (m : List Host.Cell) (a : Nat) : List Host.Cell :=
  match m with
  | [] => []
  | (a', b) :: r => if a' = a then r else (a', b) :: dropCell r a

/-- The memory with a listed byte at an address. -/
def putCell (m : List Host.Cell) (a : Nat) (b : Byte) : List Host.Cell :=
  match m with
  | [] => [(a, b)]
  | (a', b') :: r =>
    if a' = a then (a, b) :: r
    else if a < a' then (a, b) :: (a', b') :: r
    else (a', b') :: putCell r a b

/-- The memory with a byte at an address, in canonical form. -/
def writeCell (m : List Host.Cell) (a : Nat) (b : Byte) : List Host.Cell :=
  if b = unlisted then dropCell m a else putCell m a b

/-- The memory with bytes from an address upward. -/
def writeCells (m : List Host.Cell) (a : Nat) : List Byte → List Host.Cell
  | [] => m
  | b :: bs => writeCells (writeCell m a b) (a + 1) bs

/-- The little-endian number of `n` bytes from an address upward (R6). -/
def readCells (m : List Host.Cell) (a : Nat) : Nat → Nat
  | 0 => 0
  | n + 1 => (readCell m a).toNat + 256 * readCells m (a + 1) n

/-- `n` bytes of memory at an offset (R359). -/
def readMem (s : State) (off n : Nat) : Nat := readCells s.mem off n

/-- `n` little-endian bytes stored at an offset. -/
def writeMem (off n v : Nat) (s : State) : State := { s with mem := writeCells s.mem off (toBytes n v) }

/-! ## Poison (R546, R550) -/

/-- The lines that `n` bytes from an offset touch. -/
def linesOf (off n : Nat) : List Nat :=
  if n = 0 then [] else (List.range ((off + n - 1) / 64 - off / 64 + 1)).map (fun i => off / 64 + i)

/-- A line is poisoned. -/
def poisoned (s : State) (line : Nat) : Bool := s.poison.contains line

/-- Some line of a range is poisoned. -/
def anyPoison (s : State) (off n : Nat) : Bool := (linesOf off n).any (poisoned s)

/-- A line is written poisoned: counted in poisoned_lines (R550, R576). -/
def poisonLine (s : State) (line : Nat) : State := bump 0xA010 3 1 { s with poison := sadd s.poison line }

/-- Lines become good again, by full-line writes. -/
def cleanLines (lines : List Nat) (s : State) : State :=
  { s with poison := s.poison.filter (fun l => !lines.contains l) }

/-! ## Extents (R173, R174) -/

/-- The bytes of an extent. -/
abbrev extentBytes : Nat := 2 ^ 21

/-- The extent of an offset. -/
abbrev extentOf (off : Nat) : Nat := off / 2 ^ 21

/-- The extents that `n` bytes from an offset touch. -/
def extentsOf (off n : Nat) : List Nat :=
  if n = 0 then [] else (List.range (extentOf (off + n - 1) - extentOf off + 1)).map (fun i => extentOf off + i)

/-- mem_range_bytes (R24). -/
def memRange (s : State) : Nat := obj s 0x1021 2

/-- far_tier_bytes is not zero (R172). -/
def hasFar (s : State) : Bool := obj s 0x1020 6 != 0

/-- Fields of an object entry (R175). -/
def entryBase (e : Nat) : Nat := bits e 111 64
def entryCount (e : Nat) : Nat := bits e 159 128
def entryProt (e : Nat) : Nat := bits e 17 16
def entrySlice (e : Nat) : Option Nat := if bit e 23 then some (bits e 22 20) else none
def entryTenant (e : Nat) : Nat := bits e 43 32

/-- The active object that an extent lies in, with its number. -/
def objectAt (s : State) (ext : Nat) : Option (Nat × PObject) :=
  s.placed.find? (fun p => decide (extentOf (entryBase p.2.entry) ≤ ext ∧
    ext < extentOf (entryBase p.2.entry) + entryCount p.2.entry))

/-- The slice whose stack an extent's granules are on, or are to be on; none: hashed (R174, R183). -/
def layoutOf (s : State) (ext : Nat) : Option Nat :=
  match tget s.extents ext with
  | some x => x.slice
  | none => match objectAt s ext with
    | some (_, o) => entrySlice o.entry
    | none => none

/-- The home of a memory offset (R405, R174). -/
def homeOf (s : State) (off : Nat) : Nat :=
  match layoutOf s (extentOf off) with
  | some n => n
  | none =>
    let x := bits off 47 9 ^^^ bits (obj s 0x7031 2) 38 0
    bits off 8 6 ^^^ foldGroups 3 13 x

/-- The homes of the lines of a range, each once. -/
def homesOf (s : State) (off n : Nat) : List Nat :=
  ((linesOf off n).map (fun l => homeOf s (64 * l))).eraseDups

/-- The granules of a stack that extents hold, for one extent (R174). -/
def granules (k : Nat) (x : Extent) : Nat :=
  if x.st = .far ∨ x.st = .lost then 0 else match x.slice with | none => 1 | some n => if n = k then 8 else 0

/-- The granules of a stack in a frame of a layout (R174). -/
def frameGranules (k : Nat) (slice : Option Nat) : Nat := match slice with | none => 1 | some n => if n = k then 8 else 0

/-- The layout that an active object gives its extents (R175, R183). -/
def wantedLayout (s : State) (ext : Nat) : Option Nat := (objectAt s ext).bind (fun p => entrySlice p.2.entry)

/-- The free granules of a stack: 260,096 less those in use, those of the frames that moves between layouts fill, and those
retired (R174, R183, R549). -/
def freeGranules (s : State) (k : Nat) : Nat :=
  260096 - tgetD s.retired k 0 - (s.extents.map (fun e => granules k e.2)).sum -
    ((s.moves.filter (fun m => m.relayout && m.started.isSome)).map (fun m => frameGranules k (wantedLayout s m.extent))).sum

/-- The granules for a frame of this layout are free (R184). -/
def frameFree (s : State) (slice : Option Nat) : Bool :=
  match slice with
  | none => (List.range 8).all (fun k => decide (1 ≤ freeGranules s k))
  | some n => decide (8 ≤ freeGranules s n)

/-- Near frames free: the whole frames that the free granules make (0x3010.09; log entry 8). -/
def nearFree (s : State) : Nat := ((List.range 8).map (freeGranules s)).sum / 8

/-- Far frames in use, and whether one is free (R184). -/
def farFree (s : State) : Bool :=
  decide ((s.extents.filter (fun e => e.2.st == .far || e.2.st == .movingUp || e.2.st == .movingDown)).length < obj s 0x1020 6 / extentBytes)

/-- The tenant key that an extent's first frame is kept under: the tenant of its object, else key 0xFFF (R587). -/
def keyFor (s : State) (ext : Nat) : Nat :=
  match objectAt s ext with
  | some (_, o) => o.tenant
  | none => 0xFFF

/-- The generation of a tenant key (R587). -/
def keyGeneration (s : State) (k : Nat) : Nat := tgetD s.keyGens k 0

/-- An extent takes a near frame and is NEAR (R173). -/
def makeNear (ext : Nat) (s : State) : State :=
  let k := keyFor s ext
  { s with extents := tset s.extents ext ⟨.near, layoutOf s ext, false, k, keyGeneration s k, true, 0⟩ }

/-- The state of an extent; none: ZERO. -/
def extState (s : State) (ext : Nat) : Option ExtState := (tget s.extents ext).map (·.st)

/-- An extent is served from the far tier: FAR or MOVING_UP (R190, R193). -/
def isFar (s : State) (ext : Nat) : Bool := extState s ext == some .far || extState s ext == some .movingUp

/-- Memory lines of a LOST extent read as poisoned (R173). -/
def lineBad (s : State) (line : Nat) : Bool :=
  poisoned s line || (decide (64 * line < memRange s) && extState s (extentOf (64 * line)) == some .lost)

/-- Some line of a range reads as poisoned. -/
def anyBad (s : State) (off n : Nat) : Bool := (linesOf off n).any (lineBad s)

/-- Every line of an extent, but those of a range, becomes poisoned (R173, R184). -/
def poisonExtent (ext : Nat) (keep : List Nat) (s : State) : State :=
  let all := ((List.range 32768).map (fun i => ext * 32768 + i)).filter (fun l => !(keep.contains l))
  { s with poison := s.poison.filter (fun l => decide (l / 32768 < ext)) ++ all
      ++ s.poison.filter (fun l => decide (ext < l / 32768)) }

/-- A placement that the device makes to hold lines it presents poisoned: a near frame where it may take one, else a far frame,
else LOST (R184, R571). -/
def placeLost (ext : Nat) (near : Bool) (s : State) : State :=
  let k := keyFor s ext
  let l := layoutOf s ext
  let put (st : ExtState) : State := { s with extents := tset s.extents ext ⟨st, l, false, k, keyGeneration s k, false, 0⟩ }
  if near && frameFree s l then poisonExtent ext [] (put .near)
  else if hasFar s && farFree s then raiseEvent 0x3010 8 0 (poisonExtent ext [] (put .far))
  else raiseEvent 0x3010 8 0 (put .lost)

/-- The same, a near frame taken wherever one is free. -/
def placePoisoned (ext : Nat) (s : State) : State := placeLost ext true s

/-- A line is presented poisoned: in an extent that holds no frame it takes one first (R184, R347, R349). -/
def writePoison (off : Nat) (s : State) : State :=
  let s := if 0xFFF000000000 ≤ off then s else match extState s (extentOf off) with
    | none => if frameFree s (layoutOf s (extentOf off)) then makeNear (extentOf off) s else placePoisoned (extentOf off) s
    | some _ => s
  poisonLine s (off / 64)

/-! ## The store cache (R170, R177) -/

/-- A line lies in an active object of policy STREAM. -/
def streamLine (s : State) (line : Nat) : Bool :=
  match objectAt s (line / 32768) with
  | some (_, o) => o.policy == 4
  | none => false

/-- The store cache may take up a line: its extent is in the near tier, and its object is not of policy STREAM. -/
def cacheable (s : State) (line : Nat) : Bool :=
  decide (64 * line < memRange s) && (extState s (line / 32768) == some .near || extState s (line / 32768) == some .movingDown) &&
    !streamLine s line

/-- Ways of a line's set that are taken at its home: lines of the range, and remote copies of other packages' lines (R354). A
set can be full only where there are 16 of them. -/
def sameSet (s : State) (line : Nat) : Tab StoreLine :=
  s.store.filter (fun e => homeOf s (64 * e.1) == homeOf s (64 * line) && Config.storeSet e.1 % 49152 == Config.storeSet line % 49152)
def copiesInSet (s : State) (line : Nat) : Nat :=
  (s.copies.filter (fun c => c.slice == homeOf s (64 * line) &&
    Config.storeSet (c.address / 64) % 49152 == Config.storeSet line % 49152)).length

/-- A way of a line's set is free, or is freed: which line leaves is open (log entry 59). A dirty one is written back. -/
def storeRoom (line : Nat) (s : State) : State :=
  if s.store.length + s.copies.length < 16 then s
  else
    let ways := sameSet s line
    if ways.length + copiesInSet s line < 16 then s
    else
      let (f, s) := drawFree s
      match (ways.map (·.1))[f % ways.length]? with
      | some l => { s with store := terase s.store l }
      | none => s

/-- A read of a line allocates it. -/
def storeRead (line : Nat) (s : State) : State :=
  if !cacheable s line ∨ (tget s.store line).isSome then s
  else
    let s := storeRoom line s
    { s with store := tset s.store line ⟨false, 0⟩ }

/-- Before a write of a line: it is allocated and becomes dirty; a line of a STREAM object that is present is written through,
and one that is not is written in the near tier alone. -/
def storeWrite (line : Nat) (s : State) : State :=
  match tget s.store line with
  | some e =>
    if streamLine s line then { s with store := tset s.store line ⟨false, 0⟩ }
    else if e.dirty then s
    else { s with store := tset s.store line ⟨true, readMem s (64 * line) 64⟩ }
  | none =>
    if !cacheable s line then s
    else
      let old := readMem s (64 * line) 64
      let s := storeRoom line s
      { s with store := tset s.store line ⟨true, old⟩ }

/-- Lines are written back and leave the store cache. -/
def flushStore (p : Nat → Bool) (s : State) : State := { s with store := s.store.filter (fun e => !p e.1) }

/-- Dirty lines are written back and stay. -/
def writeBack (p : Nat → Bool) (s : State) : State :=
  { s with store := s.store.map (fun e => if p e.1 then (e.1, ⟨false, 0⟩) else e) }

/-- The 64 bytes of a line as the near tier holds them. -/
def nearLine (s : State) (line : Nat) : Nat :=
  match tget s.store line with
  | some e => if e.dirty then e.near else readMem s (64 * line) 64
  | none => readMem s (64 * line) 64

/-! ## Stores at the homes -/

/-- The bytes of a range that lie in a line, as a mask of 64 bits. -/
def byteMask (line off n : Nat) : Nat :=
  ((List.range 64).filter (fun i => decide (off ≤ 64 * line + i ∧ 64 * line + i < off + n))).foldl (fun m i => m + 2 ^ i) 0

/-- Bytes are stored at their homes; data that a snoop still out returns will not replace them (R335: returned dirty data
is merged before the write is performed; log entry 12). -/
def storeBytes (off n v : Nat) (s : State) : State :=
  let s := (linesOf off n).foldl (fun s l => storeWrite l s) s
  writeMem off n v { s with snoops := s.snoops.map (fun e =>
    (e.1, { e.2 with mask := e.2.mask ||| byteMask e.2.line off n })) }

/-! ## Lines found uncorrectable (R547) -/

/-- HOME_UE_ADDR of a home takes a line's offset (R577). -/
def recordUe (line : Nat) (s : State) : State :=
  let h := homeOf s (64 * line)
  let off := 64 * line
  { s with regs := tset (tset s.regs (65536 * h + 0x5000) (bits off 31 6 * 64 + 1)) (65536 * h + 0x5004) (bits off 47 32) }

/-- A line is found uncorrectable and not repaired: it is written back poisoned, counted and recorded, and rel_event is
raised with cause 0x01 (R547, R576). -/
def foundBad (s : State) (line : Nat) : State :=
  raiseEvent 0xA060 2 1 (recordUe line (bump 0xA010 2 1 (poisonLine s line)))

/-! ## The windows (R20, R23) -/

/-- The first offset of the scratchpad windows, and of the die pages. -/
abbrev windowBase : Nat := 0xFFF000000000
abbrev pageBase : Nat := 0xFFF800000000

/-- An offset in a tile's scratchpad window: the tile. -/
def windowTile (off : Nat) : Option Nat :=
  if windowBase ≤ off ∧ off < windowBase + 2048 * 2 ^ 20 then some ((off - windowBase) / 2 ^ 20) else none

/-- An offset in a die page: the die. -/
def pageDie (off : Nat) : Option Nat :=
  if pageBase ≤ off ∧ off < pageBase + 32 * 2 ^ 16 then some ((off - pageBase) / 2 ^ 16) else none

/-- A tile is present (R22). -/
def tilePresent (s : State) (t : Nat) : Bool := decide (t < 2048) && fabricPresent s (t / 256)

/-- An access to this offset is refused under R25. -/
def badOffset (s : State) (off : Nat) : Bool :=
  if off < memRange s then false
  else match windowTile off with
    | some t => !tilePresent s t
    | none => match pageDie off with
      | some d => !(hasBlock d && diePresent s d)
      | none => true

/-- The end of the memory range, window or page that an offset lies in (R41 step 7). -/
def areaEnd (s : State) (off : Nat) : Nat :=
  if off < memRange s then memRange s
  else match windowTile off with
    | some t => windowBase + (t + 1) * 2 ^ 20
    | none => match pageDie off with
      | some d => pageBase + (d + 1) * 2 ^ 16
      | none => off

end Sys2Proof.Machine
end

