-- ==== Sys2Proof/Machine/Checks.lean ====
section
/-! DEFINITION. What happens to a request from acceptance to step 12 of the checking order: its class, its budget, the
checks of R41 in their order, and its completion when one fails. -/

namespace Sys2Proof.Machine

/-- What a request names, as far as the checks need it (R388, R389, R401). -/
inductive Names where
  /-- Memory or a window: this many bytes from the header's offset. -/
  | range (bytes : Nat)
  /-- A location of this many bytes, checked by the operation itself for alignment (R391). -/
  | location (bytes : Nat)
  /-- A doorbell slot of a die page (R395). -/
  | slot
  /-- The package, by an address with offset zero (R389). -/
  | package
  /-- Whichever package it comes to, by an address with offset zero (R306). -/
  | anyPackage
  deriving DecidableEq, Repr

/-- The permission bit of a region entry that an operation needs (R400); none: step 9 is skipped (R401). -/
abbrev Perm := Option Nat

/-- What the checks of R41 need to know of a request, beside its header. -/
structure Checks where
  /-- Some reserved field of the body is non-zero, or the operation code is unknown (step 1). -/
  badField : Bool
  names : Names
  /-- The largest length field accepted; none: the length field is reserved (R388, R42). -/
  maxLen : Option Nat
  /-- The length field must be 1 (R389). -/
  one : Bool
  /-- The unit named is absent (step 6, R3). -/
  absent : Bool
  /-- The power domains of the target units (step 8). -/
  targets : List Nat
  perm : Perm
  /-- A second range the key must cover, offset and bytes (R401: the version word). -/
  also : Option (Nat × Nat)
  /-- A length, count or size field of the body is refused (step 10). -/
  badBody : Bool
  deriving DecidableEq, Repr

/-- The bytes that a request carries or reads (R409). -/
def sizeOf (c : Checks) (bodyBytes : Nat) : Nat :=
  match c.names with
  | .range n => max 64 n
  | _ => max 64 bodyBytes

/-- The link a request came on is trained and takes requests (R387, R562). -/
def linkTakes (s : State) (n : Nat) : Bool :=
  match tget s.links n with
  | some l => l.st == .up || l.st == .quiescing
  | none => false

/-- The package accepts a request that comes this way: on a trained link, in a state that answers on links (R15). A queue
pair or a session has done its own checks before. -/
def accepts (s : State) (v : Via) : Bool :=
  match v with
  | .link n => linkTakes s n && (serving s || selfTesting s)
  | .eth _ => serving s
  | .dap _ _ => true

/-- A C0 bucket filled to the present at a rate in bytes per ns. -/
def filled (bucket at_ now rate size : Nat) : Nat := min size (bucket + (now - at_) * rate)

/-- A C0 request is charged to the buckets of its link and of the package, or demoted to C1 and counted (R409); one that came
in a SEND has no link, and is charged to the package's (R435, R438, R408). -/
def chargeC0 (rq : Req) (n : Nat) (s : State) : Req × State :=
  match rq.hdr.via with
  | .link k =>
    if rq.hdr.cls = 0 then
      let l := tgetD s.links k Link.idle
      let lb := filled l.bucket l.bucketAt s.time 25 8192
      let pb := filled s.pkgBucket s.pkgBucketAt s.time 200 65536
      if n ≤ lb ∧ n ≤ pb then
        (rq, { s with links := tset s.links k { l with bucket := lb - n, bucketAt := s.time },
                      pkgBucket := pb - n, pkgBucketAt := s.time })
      else ({ rq with demoted := true }, bump 0x7050 4 1 s)
    else (rq, s)
  | .eth _ =>
    if rq.hdr.cls = 0 then
      let pb := filled s.pkgBucket s.pkgBucketAt s.time 200 65536
      if n ≤ pb then (rq, { s with pkgBucket := pb - n, pkgBucketAt := s.time })
      else ({ rq with demoted := true }, bump 0x7050 4 1 s)
    else (rq, s)
  | .dap _ _ => (rq, s)

/-- A composition serves an epoch: it is the current one, or the previous one inside its drain window (R41, R414). -/
def epochServed (c : Comp) (e : Nat) : Bool := e == c.epoch || (c.drainOpen && e == c.prev)

/-- An epoch is newer than the current one (R41). -/
def epochNewer (c : Comp) (e : Nat) : Bool :=
  decide (1 ≤ (e + 256 - c.epoch % 256) % 256 ∧ (e + 256 - c.epoch % 256) % 256 ≤ 128)

/-- A region entry grants a permission for a key, a tenant and ranges (R400, R401). -/
def keyOk (s : State) (key tenant perm : Nat) (ranges : List (Nat × Nat)) : Bool :=
  let e := tgetD s.regions (bits key 13 0) 0
  bit e 4 && bits e 95 78 == bits key 31 14 && bits e 75 64 == tenant && bit e perm &&
    ranges.all (fun r => decide (bits e 239 192 ≤ r.1 ∧ r.1 + r.2 ≤ bits e 239 192 + bits e 175 128))

/-- Composition 0 with a tenant other than 0xFFF: the fabric manager and the operator (R412, R419). -/
def isManager (s : State) (requester : Nat) : Bool :=
  match compOf s requester with
  | some (_, e) => e.composition == 0 && e.tenant != 0xFFF
  | none => false

/-- The owner record of this package that refuses a range: PENDING or RELEASED (R419). -/
def ownerRefuses (s : State) (off n : Nat) : Option Nat :=
  (s.owners.here.find? (fun r =>
    decide (2 ≤ bits r.2 137 136) && decide (bits r.2 255 208 < off + n ∧
      off < bits r.2 255 208 + bits r.2 207 176 * extentBytes))).map (·.2)

/-- The result of a NOT_OWNER completion: the record's epoch and state (R419, R420). -/
def ownerResult (r : Nat) : Nat := bits r 151 144 + bits r 137 136 * 256

/-- The ranges that a request's key must cover (R401). -/
def keyRanges (h : Hdr) (c : Checks) : List (Nat × Nat) :=
  match c.names with
  | .range n => (h.offset, n) :: c.also.toList
  | .location n => (h.offset, n) :: c.also.toList
  | _ => []

/-- The bytes of memory that a request names by its address and length (R419). -/
def namedBytes (c : Checks) : Nat :=
  match c.names with
  | .range n => n
  | .location n => n
  | _ => 0

/-- What the first failing check of R41 answers: a status, a result, a hint, and the domain it wakes. -/
structure Refused where
  status : Status
  result : Nat
  hint : Nat
  wakes : Option Nat
  misroute : Bool
  deriving DecidableEq, Repr

/-- A refusal with a status alone. -/
def Refused.plain (st : Status) : Refused := ⟨st, 0, 0, none, false⟩

/-- Step 1: a reserved field, an unknown operation or a misaligned offset (R7, R30, R388). -/
def step1 (rq : Req) (c : Checks) : Option Refused :=
  let reservedLen : Bool := match c.maxLen with | none => rq.hdr.length != 0 | some _ => false
  let misaligned : Bool := match c.names with | .range _ => rq.hdr.offset % 64 != 0 | _ => false
  if rq.hdr.reserved ≠ 0 ∨ c.badField ∨ reservedLen ∨ misaligned then some (.plain .unsupported) else none

/-- Step 2: the package is in SELF_TEST (R15). -/
def step2 (s : State) : Option Refused := if s.pkg = .selfTest then some (.plain .defer) else none

/-- Steps 3 to 5: the composition table, the epoch and the tenant (R411 to R416); steps 3 and 4 are not applied to a
command of the dictionary (R460), whose tenant is its session's. -/
def step345 (rq : Req) (s : State) : Option Refused :=
  match rq.hdr.via with
  | .dap _ _ => none
  | _ =>
    match compOf s rq.hdr.requester with
    | none => some (.plain .epochStale)
    | some (_, e) =>
      let c := tgetD s.comps e.composition (Comp.fresh 0)
      if epochServed c rq.hdr.epoch then
        if e.tenant ≠ 0xFFF ∧ e.tenant ≠ rq.hdr.tenant then some (.plain .tenantBlocked) else none
      else if epochNewer c rq.hdr.epoch then some ⟨.defer, 0, 1, none, false⟩
      else some (.plain .epochStale)

/-- Step 6: the package number, the offset, an absent unit (R3, R25, R26, R389). -/
def step6 (rq : Req) (c : Checks) (s : State) : Option Refused :=
  if rq.hdr.package ≠ obj s 0x1021 1 ∧ c.names ≠ .anyPackage then some { Refused.plain .unsupported with misroute := true }
  else
    let bad : Bool := match c.names with
      | .package => rq.hdr.offset != 0
      | .anyPackage => rq.hdr.offset != 0
      | _ => badOffset s rq.hdr.offset
    if bad ∨ c.absent then some (.plain .unsupported) else none

/-- Step 7: the header's length (R42). -/
def step7 (rq : Req) (c : Checks) (s : State) : Option Refused :=
  match c.maxLen with
  | none => none
  | some m =>
    let past : Bool := match c.names with
      | .range n => decide (areaEnd s rq.hdr.offset < rq.hdr.offset + n)
      | _ => false
    if rq.hdr.length = 127 ∨ m < rq.hdr.length ∨ (c.one ∧ 1 < rq.hdr.length) ∨ past then some (.plain .badLength)
    else none

/-- Step 8: a target asleep, waking or returning (R508, R509); the wake is raised. -/
def step8 (c : Checks) (s : State) : Option Refused :=
  (c.targets.find? (fun d => !awake s d)).map (fun d => ⟨.defer, 0, wakeHint s d, some d, false⟩)

/-- Step 9: the region key (R401), skipped in sender-trusted mode (R404) and for a command of the dictionary (R460). -/
def step9 (rq : Req) (c : Checks) (s : State) : Option Refused :=
  match rq.hdr.via, c.perm with
  | .dap _ _, _ => none
  | _, none => none
  | _, some p =>
    if obj s 0x7020 3 = 1 then none
    else if keyOk s rq.hdr.key rq.hdr.tenant p (keyRanges rq.hdr c) then none
    else some (.plain .keyDenied)

/-- Step 10: the body's lengths, counts and sizes (R42, R44). -/
def step10 (c : Checks) : Option Refused := if c.badBody then some (.plain .badLength) else none

/-- Step 11: a range that this package does not own (R419). -/
def step11 (rq : Req) (c : Checks) (s : State) : Option Refused :=
  if isManager s rq.hdr.requester ∨ namedBytes c = 0 then none
  else if s.replaced ∧ rq.hdr.offset < memRange s then
    let e := match compOf s rq.hdr.requester with
      | some (_, x) => (tgetD s.comps x.composition (Comp.fresh 0)).epoch
      | none => 0
    some ⟨.notOwner, (e + 1) % 256 + 3 * 256, 0, none, false⟩
  else match ownerRefuses s rq.hdr.offset (namedBytes c) with
    | some r => some ⟨.notOwner, ownerResult r, 0, none, false⟩
    | none => none

/-- The first of two refusals. -/
def orElse (a b : Option Refused) : Option Refused := match a with | some r => some r | none => b

/-- Steps 1 to 3, whose refusals are counted to no composition (R421). -/
def early (rq : Req) (c : Checks) (s : State) : Option Refused := orElse (step1 rq c) (step2 s)

/-- The checks of R41, steps 1 to 11, in their order. -/
def check (rq : Req) (c : Checks) (s : State) : Option Refused :=
  orElse (step1 rq c) (orElse (step2 s) (orElse (step345 rq s) (orElse (step6 rq c s) (orElse (step7 rq c s)
    (orElse (step8 c s) (orElse (step9 rq c s) (orElse (step10 c) (step11 rq c s))))))))

/-- The I/O die that a request comes in at: 0 north, 1 south; the Ethernet port is on the north one (R19, R444). -/
def ioDie : Via → Option Nat
  | .link n => some (n / 8)
  | .eth _ => some 0
  | .dap _ _ => none

/-- A request is refused: the misroute counter of its I/O die, the wake of its target, its completion (R11, R26). -/
def refuse (rq : Req) (r : Refused) (s : State) : State :=
  let s := match r.wakes with | some d => wake d s | none => s
  let s := if r.misroute then
      match ioDie rq.hdr.via with
      | some d => { s with misroutes := tset s.misroutes d (tgetD s.misroutes d 0 + 1) }
      | none => s
    else s
  completeWith rq r.status r.result r.hint 0 0 none s

/-- The bandwidth bucket of a requester is charged (R410): some hint when the charge exceeds it. -/
def chargeBw (rq : Req) (n : Nat) (s : State) : Option Nat × State :=
  match rq.hdr.via with
  | .dap _ _ => (none, s)
  | _ =>
    match compOf s rq.hdr.requester with
    | none => (none, s)
    | some (i, e) =>
      if e.bwLimit = 0 then (none, s)
      else
        let b := filled e.bucket e.bucketAt s.time e.bwLimit (max (e.bwLimit * 10000) 4096)
        if b < n then (some (max 1 (ceilDiv (n - b) (e.bwLimit * 4000))), bump 0x7050 5 1 s)
        else (none, { s with compTab := tset s.compTab i { e with bucket := b - n, bucketAt := s.time } })

/-- The present tick of 1 µs is counted for a composition, once: with a request in service, and with a C0 one (R421). -/
def countTick (c0 : Bool) (now : Nat) (c : Comp) : Comp :=
  let t := now / 1000 + 1
  let c := if c.tick = t then c else { c with serviceUs := c.serviceUs + 1, tick := t }
  if c0 ∧ c.c0Tick ≠ t then { c with c0Us := c.c0Us + 1, c0Tick := t } else c

/-- A request is in service as C0 (R33). -/
def servedC0 (rq : Req) : Bool := rq.hdr.cls == 0 && !rq.demoted

/-- A request is counted to its composition: requests, bytes in, C0 demotions, and the 1 µs tick it is in (R421). -/
def meterIn (rq : Req) (n : Nat) (s : State) : State :=
  match compOf s rq.hdr.requester with
  | none => s
  | some (_, e) => meter e.composition (fun c =>
      let c := countTick (servedC0 rq) s.time c
      { c with requests := c.requests + 1, bytesIn := c.bytesIn + 24 + n,
               c0Demoted := c.c0Demoted + b2n rq.demoted }) s

/-- A request from acceptance on: accepted or not, charged, checked, counted, limited, and then performed (R41). `n` is
the number of body and data bytes, `charge` what R409 and R410 charge. -/
def serve (rq : Req) (c : Checks) (n charge : Nat) (act : Req → State → State) (s : State) : State :=
  if accepts s rq.hdr.via then
    let (rq, s) := chargeC0 rq charge s
    match check rq c s with
    | some r =>
      let s := if (early rq c s).isSome ∨ r.status = .epochStale then s else meterIn rq n s
      refuse rq r s
    | none =>
      let s := meterIn rq n s
      match chargeBw rq charge s with
      | (some hint, s) => completeWith rq .defer 0 hint 0 0 (some 7) s
      | (none, s) => act rq s
  else s

/-- A request held until something happens: it stays open (R35). -/
def hold (o : OpenReq) (s : State) : State :=
  { s with reqCtr := s.reqCtr + 1, openReqs := tset s.openReqs s.reqCtr o }

/-- The requests of a requester that are open. -/
def openOf (s : State) (requester : Nat) : NSet :=
  (s.openReqs.filter (fun e => e.2.req.hdr.requester == requester)).map (·.1)

/-- An open request is closed. -/
def closeReq (id : Nat) (s : State) : State := { s with openReqs := terase s.openReqs id }

/-- The requests in SENDs that a queue pair has accepted and not performed (R438). -/
def queuedSends (q : Nat) (x : Qp) : List Req :=
  x.queue.filterMap (fun o => match o with
    | .send _ _ opcode h body data => some ⟨opcode, { h with via := .eth q }, body, data, [], false⟩
    | _ => none)

/-- Every open request, and every request that waits in a queue pair, receives RESET_DISCARD, as far as it can still leave
(R38). -/
def discardOpen (s : State) : State :=
  let s := s.openReqs.foldl (fun s e => if 0xE0 ≤ e.2.req.op then s else complete e.2.req .resetDiscard 0 s) s
  let s := s.qps.foldl (fun s e => (queuedSends e.1 e.2).foldl (fun s rq => complete rq .resetDiscard 0 s) s) s
  { s with openReqs := [], snoops := [] }

end Sys2Proof.Machine
end

