-- ==== Sys2Proof/Machine/Float.lean ====
section
/-! DEFINITION. Floating-point values as exact dyadic numbers, the element formats, and the arithmetic that rounds once
(chapter 2). -/

namespace Sys2Proof.Machine

/-- A value: NaN, an infinity, or ±m·2^e. -/
inductive Fv where
  | nan
  | inf (neg : Bool)
  | fin (neg : Bool) (m : Nat) (e : Int)
  deriving DecidableEq, Repr

/-- An element format: exponent bits, mantissa bits, bias, whether the top exponent holds infinities and NaNs as in
IEEE 754, and otherwise whether the all-ones code is NaN (E4M3). -/
structure Fmt where
  eb : Nat
  mb : Nat
  bias : Nat
  ieee : Bool
  nanOnes : Bool
  deriving DecidableEq, Repr

def fp32 : Fmt := ⟨8, 23, 127, true, false⟩
def bf16 : Fmt := ⟨8, 7, 127, true, false⟩
def fp16 : Fmt := ⟨5, 10, 15, true, false⟩
def e5m2 : Fmt := ⟨5, 2, 15, true, false⟩
def e4m3 : Fmt := ⟨4, 3, 7, false, true⟩
def e3m2 : Fmt := ⟨3, 2, 3, false, false⟩
def e2m3 : Fmt := ⟨2, 3, 1, false, false⟩
def e2m1 : Fmt := ⟨2, 1, 1, false, false⟩

/-- The width of a format's codes. -/
def Fmt.width (f : Fmt) : Nat := 1 + f.eb + f.mb

/-- The largest finite code, without its sign. -/
def Fmt.maxFinite (f : Fmt) : Nat :=
  if f.ieee then (2 ^ f.eb - 1) * 2 ^ f.mb - 1 else if f.nanOnes then 2 ^ (f.eb + f.mb) - 2 else 2 ^ (f.eb + f.mb) - 1

/-- The canonical NaN of a format, its sign clear (R68, R69); none where the format has no NaN. -/
def Fmt.nan (f : Fmt) : Option Nat :=
  if f = e5m2 then some 0x7F
  else if f.ieee then some ((2 ^ f.eb - 1) * 2 ^ f.mb + 2 ^ (f.mb - 1))
  else if f.nanOnes then some (2 ^ (f.eb + f.mb) - 1) else none

/-- The value of a code (R54). -/
def Fmt.decode (f : Fmt) (c : Nat) : Fv :=
  let neg := bit c (f.eb + f.mb)
  let ex := bits c (f.eb + f.mb - 1) f.mb
  let mn := c % 2 ^ f.mb
  if f.ieee ∧ ex = 2 ^ f.eb - 1 then (if mn = 0 then .inf neg else .nan)
  else if f.nanOnes ∧ c % 2 ^ (f.eb + f.mb) = 2 ^ (f.eb + f.mb) - 1 then .nan
  else if ex = 0 then .fin neg mn (1 - (f.bias : Int) - f.mb)
  else .fin neg (2 ^ f.mb + mn) ((ex : Int) - f.bias - f.mb)

/-- `m / 2^k` rounded to nearest, ties to even. -/
def rne (m k : Nat) : Nat :=
  let q := m / 2 ^ k
  let r := m % 2 ^ k
  if 2 * r > 2 ^ k ∨ (2 * r = 2 ^ k ∧ q % 2 = 1) then q + 1 else q

/-- A magnitude's code in a format, before the overflow rule: what `round` does with the bits below the last kept one.
The code may lie above the largest finite one. -/
def Fmt.magnitude (f : Fmt) (round : Nat → Nat → Nat) (m : Nat) (e : Int) : Nat :=
  if m = 0 then 0
  else
    let top : Int := (Nat.log2 m : Int) + e
    let q : Int := max top (1 - (f.bias : Int)) - f.mb
    let be : Nat := (q + f.mb + f.bias).toNat
    let mant : Nat := if q ≤ e then m * 2 ^ (e - q).toNat else round m (q - e).toNat
    be * 2 ^ f.mb + mant - 2 ^ f.mb

/-- The binary32 code of a value, rounded to nearest even, overflowing to infinity. -/
def enc32 (v : Fv) : Nat :=
  match v with
  | .nan => 0x7FC00000
  | .inf neg => b2n neg * 2 ^ 31 + 0x7F800000
  | .fin neg m e => b2n neg * 2 ^ 31 + min (fp32.magnitude rne m e) 0x7F800000

/-- A finite value as an integer multiple of 2^e. -/
def scaled (neg : Bool) (m : Nat) (e e' : Int) : Int :=
  let x : Int := (m * 2 ^ (e - e').toNat : Nat)
  if neg then -x else x

/-- An exact sum (round to nearest even: a zero sum of opposite signs is +0). -/
def Fv.add (a b : Fv) : Fv :=
  match a, b with
  | .nan, _ => .nan
  | _, .nan => .nan
  | .inf x, .inf y => if x = y then .inf x else .nan
  | .inf x, _ => .inf x
  | _, .inf y => .inf y
  | .fin x m e, .fin y n g =>
    if m = 0 ∧ n = 0 then .fin (x && y) 0 0
    else
      let l := min e g
      let t := scaled x m e l + scaled y n g l
      if t = 0 then .fin false 0 0 else .fin (decide (t < 0)) t.natAbs l

/-- An exact product. -/
def Fv.mul (a b : Fv) : Fv :=
  match a, b with
  | .nan, _ => .nan
  | _, .nan => .nan
  | .inf x, .inf y => .inf (x != y)
  | .inf x, .fin y m _ => if m = 0 then .nan else .inf (x != y)
  | .fin x m _, .inf y => if m = 0 then .nan else .inf (x != y)
  | .fin x m e, .fin y n g => .fin (x != y) (m * n) (e + g)

/-- The negation. -/
def Fv.neg (a : Fv) : Fv :=
  match a with
  | .nan => .nan
  | .inf x => .inf (!x)
  | .fin x m e => .fin (!x) m e

/-- Strictly less; −0 and +0 are equal; false with NaN. -/
def Fv.lt (a b : Fv) : Bool :=
  match a, b with
  | .nan, _ => false
  | _, .nan => false
  | .inf x, .inf y => x && !y
  | .inf x, _ => x
  | _, .inf y => !y
  | .fin x m e, .fin y n g =>
    let l := min e g
    decide (scaled x m e l < scaled y n g l)

/-- Strictly less with −0 below +0 (R75). -/
def Fv.ltTotal (a b : Fv) : Bool :=
  match a, b with
  | .fin x m _, .fin y n _ => if m = 0 ∧ n = 0 then x && !y else a.lt b
  | _, _ => a.lt b

/-- minimum and maximum of binary32 codes: the other operand when one is NaN, the canonical NaN when both are (R75). -/
def min32 (a b : Nat) : Nat :=
  let x := fp32.decode a
  let y := fp32.decode b
  if x = .nan then (if y = .nan then 0x7FC00000 else b) else if y = .nan then a else if y.ltTotal x then b else a

def max32 (a b : Nat) : Nat :=
  let x := fp32.decode a
  let y := fp32.decode b
  if x = .nan then (if y = .nan then 0x7FC00000 else b) else if y = .nan then a else if x.ltTotal y then b else a

/-- binary32 sum, product and fused multiply-add of codes, each rounded once (R75). -/
def add32 (a b : Nat) : Nat := enc32 ((fp32.decode a).add (fp32.decode b))
def mul32 (a b : Nat) : Nat := enc32 ((fp32.decode a).mul (fp32.decode b))
def fma32 (a b c : Nat) : Nat := enc32 (((fp32.decode a).mul (fp32.decode b)).add (fp32.decode c))

/-- A quotient of binary32 codes, rounded once to nearest even (R159, R166). -/
def div32 (a b : Nat) : Nat :=
  match fp32.decode a, fp32.decode b with
  | .nan, _ => enc32 .nan
  | _, .nan => enc32 .nan
  | .inf _, .inf _ => enc32 .nan
  | .inf x, .fin y _ _ => enc32 (.inf (x != y))
  | .fin x _ _, .inf y => enc32 (.fin (x != y) 0 0)
  | .fin x m e, .fin y n g =>
    if n = 0 then (if m = 0 then enc32 .nan else enc32 (.inf (x != y)))
    else
      let q := m * 2 ^ 80 / n
      enc32 (.fin (x != y) (2 * q + b2n (m * 2 ^ 80 % n != 0)) (e - g - 81))

/-- The format of a code of R108 read as an element format, where it is a floating-point one. -/
def fmtOf (code : Nat) : Option Fmt :=
  match code with
  | 0x0 => some fp32 | 0x1 => some bf16 | 0x2 => some fp16 | 0x3 => some e5m2 | 0x4 => some e4m3
  | 0x7 => some e3m2 | 0x8 => some e2m3 | 0x9 => some e2m1 | _ => none

/-- A value's code with round-to-nearest-even and saturation to the largest finite value; none: NaN in a format without
one (R200). -/
def satCode (f : Fmt) (v : Fv) : Option Nat :=
  match v with
  | .nan => f.nan
  | .inf neg => some (b2n neg * 2 ^ (f.eb + f.mb) + f.maxFinite)
  | .fin neg m e => some (b2n neg * 2 ^ (f.eb + f.mb) + min (f.magnitude rne m e) f.maxFinite)

/-- Element `i` of a packed array of codes of `w` bits (R56). -/
def elem (w x i : Nat) : Nat := bits x (w * i + w - 1) (w * i)

/-- The exponent floor(log2 v) of a non-zero finite magnitude. -/
def topExp (m : Nat) (e : Int) : Int := (Nat.log2 m : Int) + e

end Sys2Proof.Machine
end

