-- ==== Sys2Proof/Machine/Tier.lean ====
section
/-! DEFINITION. The far tier as requests meet it: demand promotions and their hints, shadows and their stale bits, the
frames that writes take, and the copies of protected objects (chapter 5). -/

namespace Sys2Proof.Machine

/-! ## Demand promotions (R187, R193, R196) -/

/-- far_read_latency in ns. -/
abbrev farLatency (s : State) : Nat := obj s 0x3010 3

/-- A demand promotion of an extent is queued, or a queued placement promotion becomes one (R187, R193): false when the
queue has no entry free. -/
def queueDemand (ext : Nat) (s : State) : Bool × State :=
  match s.moves.find? (fun m => m.extent == ext && m.up) with
  | some m =>
    if m.demand ∨ m.started.isSome then (true, s)
    else (true, { s with moves := s.moves.filter (fun x => !(x.extent == ext && x.up)) ++ [{ m with demand := true }] })
  | none =>
    if s.moves.length < 4096 then
      (true, { s with moves := s.moves ++ [⟨ext, true, true, false, none, false, 0⟩] })
    else (false, s)

/-- The time until a promotion is expected to commit, in ns (R196, R189). -/
def promotionNs (s : State) (ext : Nat) : Nat :=
  match s.moves.find? (fun m => m.extent == ext && m.up) with
  | none => farLatency s + 20200
  | some m =>
    match m.started with
    | some t => max 4000 (farLatency s + 19200 - (s.time - t))
    | none =>
      let ahead := (s.moves.takeWhile (fun x => !(x.extent == ext && x.up))).filter (fun x => x.demand && x.started.isNone)
      farLatency s + (ahead.length + 1) * 19200 + 1000

/-- The hint of a DEFER on far extents: the largest, 0x10 when some promotion could not be queued (R196). -/
def farHint (s : State) (exts : List Nat) (queued : Bool) : Nat :=
  if queued then min 0xFF ((exts.map (fun e => ceilDiv (promotionNs s e) 4000)).foldl max 0) else 0x10

/-- The far extents of a range. -/
def farExtents (s : State) (off n : Nat) : List Nat := (extentsOf off n).filter (isFar s)

/-- Demand promotions of all these extents are queued (R193); the sleeping flash dies are woken (R508). -/
def queueAll (exts : List Nat) (s : State) : Bool × State :=
  let (ok, s) := exts.foldl (fun (a : Bool × State) e =>
    let (ok, s) := queueDemand e a.2
    (a.1 && ok, s)) (true, s)
  (ok, (List.range 4).foldl (fun s f => if flashPresent s f then wake (flashDom f) s else s) s)

/-- A DEFER because of far extents (R193, R196): counted, with its hint, their promotions queued. -/
def farDeferAll (rq : Req) (exts : List Nat) (s : State) : State :=
  let (ok, s) := queueAll exts (bump 0x3011 1 1 s)
  deferReq rq (farHint s exts ok) (bump 0x3011 3 1 s)

/-- The same for the far extents of a range (R194). -/
def farDefer (rq : Req) (off n : Nat) (s : State) : State := farDeferAll rq (farExtents s off n) s

/-- An engine access meets far extents: it is counted as it queues a promotion (R209), and their promotions are queued. -/
def engineFar (exts : List Nat) (s : State) : State :=
  let known (e : Nat) : Bool := s.moves.any (fun m => m.extent == e && m.up && (m.demand || m.started.isSome))
  (queueAll exts (if exts.all known then s else bump 0x3011 1 1 s)).2

/-! ## Shadows (R198 to R204) -/

def shPrimary (d : Nat) : Nat := bits d 127 112
def shObject (d : Nat) : Nat := bits d 207 192
def shUnitFirst (d : Nat) : Nat := bits d 159 128
def shUnitCount (d : Nat) : Nat := bits d 191 160
def shUnit0 (d : Nat) : Nat := bits d 255 208
def shStale (d : Nat) : Nat := bits d 303 256
def shUnitBytes (d : Nat) : Nat := 4096 * 2 ^ bits d 7 4

/-- A template segment (R198). -/
def shSegs (d : Nat) : List Nat := (List.range (bits d 11 8)).map (fun i => bits d (512 + 64 * i + 63) (512 + 64 * i))

def segBytes (g : Nat) : Nat := bits g 63 32
def segOp (g : Nat) : Nat := bits g 3 0
def segSrc (g : Nat) : Option Fmt := if bits g 11 8 = 9 ∨ bits g 11 8 = 8 ∨ bits g 11 8 = 7 then fmtOf (bits g 11 8) else none
def segDst (g : Nat) : Option Fmt :=
  let c := bits g 15 12
  if c = 1 ∨ c = 2 ∨ c = 3 ∨ c = 4 ∨ c = 8 ∨ c = 7 then fmtOf c else none

/-- The elements of a WIDEN segment (R199). -/
def segElems (g : Nat) : Nat := match segDst g with | some f => 8 * segBytes g / f.width | none => 0

/-- The shadow portion of a segment in bytes (R199). -/
def segPortion (g : Nat) : Nat :=
  if segOp g = 1 then segBytes g
  else if segOp g = 3 then
    match segSrc g with
    | some f => segElems g * f.width / 8 + segElems g / 32
    | none => 0
  else 0

/-- shadow_unit_bytes (R199). -/
def shUnitSize (d : Nat) : Nat := ceilDiv ((shSegs d).map segPortion).sum 64 * 64

/-- The offset of the shadow object, and of a shadow unit. -/
def shBase (s : State) (d : Nat) : Nat :=
  match tget s.placed (shObject d) with
  | some o => entryBase o.entry
  | none => 0
def shUnitAt (s : State) (d u : Nat) : Nat := shBase s d + shUnit0 d + (u - shUnitFirst d) * shUnitSize d

/-- The offset of the byte that holds a unit's stale bit. -/
def staleAt (s : State) (d u : Nat) : Nat := shBase s d + shStale d + (u - shUnitFirst d) / 8

/-- A unit counts as stale (R202): its bit is set, or lies in a poisoned line. -/
def unitStale (s : State) (d u : Nat) : Bool :=
  poisoned s (staleAt s d u / 64) || bit (readMem s (staleAt s d u) 1) ((u - shUnitFirst d) % 8)

/-- One primary byte rebuilt from a shadow unit's portion (R199, R200): its value, none where no NaN can be given; and the
shadow bytes that it needs. `p` is the portion's offset, `j` the byte within the segment. -/
def widenByte (s : State) (g p j : Nat) : Option Nat × List Nat :=
  if segOp g = 1 then (some (readMem s (p + j) 1), [p + j])
  else if segOp g = 2 then (some 0, [])
  else match segSrc g, segDst g with
    | some fs, some fd =>
      let i0 := 8 * j / fd.width
      let is := (List.range ((8 * j + 7) / fd.width - i0 + 1)).map (· + i0)
      let scaleAt (i : Nat) : Nat := p + segElems g * fs.width / 8 + i / 32
      let lo (i : Nat) : Nat := p + fs.width * i / 8
      let code (i : Nat) : Option Nat :=
        let e := bits (readMem s (lo i) 2) (fs.width * i % 8 + fs.width - 1) (fs.width * i % 8)
        let x := readMem s (scaleAt i) 1
        if x = 0xFF then fd.nan
        else match fs.decode e with
          | .fin neg m k => satCode fd (.fin neg m (k + ((x : Int) - 127)))
          | v => satCode fd v
      let all := is.foldr (fun i (acc : Option Nat) => match acc, code i with
        | some a, some c => some (a + c * 2 ^ (fd.width * (i - i0)))
        | _, _ => none) (some 0)
      (all.map (fun v => bits v (8 * j - fd.width * i0 + 7) (8 * j - fd.width * i0)),
        is.foldr (fun i acc => lo i :: (p + (fs.width * i + fs.width - 1) / 8) :: scaleAt i :: acc) [])
    | _, _ => (none, [])

/-- The byte `b` of a unit rebuilt from the segments. -/
def unitByte (s : State) : List Nat → Nat → Nat → Option Nat × List Nat
  | [], _, _ => (none, [])
  | g :: gs, p, b =>
    if b < segBytes g then widenByte s g p b else unitByte s gs (p + segPortion g) (b - segBytes g)

/-- The registered shadow that covers an offset, with the unit. -/
def shadowAt (s : State) (off : Nat) : Option (Shadow × Nat) :=
  match objectAt s (extentOf off) with
  | none => none
  | some (n, o) =>
    let rel := off - entryBase o.entry
    match s.shadows.find? (fun e => shPrimary e.2.desc == n &&
        decide (shUnitFirst e.2.desc ≤ rel / shUnitBytes e.2.desc ∧
          rel / shUnitBytes e.2.desc < shUnitFirst e.2.desc + shUnitCount e.2.desc)) with
    | some e => some (e.2, rel / shUnitBytes e.2.desc)
    | none => none

/-- What a shadow gives for a far line: nothing covers it, or it is refused (stale, poisoned, no NaN), or its data. -/
inductive Subst where
  | uncovered | refused | data (line : Nat)
  deriving DecidableEq, Repr

/-- The 64 bytes of a far line from its shadow (R200, R202, R203). -/
def substLine (s : State) (off : Nat) : Subst :=
  match shadowAt s off with
  | none => .uncovered
  | some (sh, u) =>
    let d := sh.desc
    if unitStale s d u then .refused
    else
      let base := match objectAt s (extentOf off) with | some (_, o) => entryBase o.entry | none => 0
      let b0 := (off - base) % shUnitBytes d
      let one (i : Nat) : Option Nat × List Nat := unitByte s (shSegs d) (shUnitAt s d u) (b0 + i)
      (List.range 64).foldr (fun i acc => match acc, one i with
        | .data v, (some x, needs) => if needs.any (fun a => lineBad s (a / 64)) then .refused else .data (x + 256 * v)
        | _, _ => .refused) (.data 0)

/-- The stale bits of the units that a write touches are set (R202); a bit in a poisoned line stays as it is. -/
def setStale (lines : List Nat) (s : State) : State :=
  lines.foldl (fun s l =>
    match shadowAt s (64 * l) with
    | none => s
    | some (sh, u) =>
      let a := staleAt s sh.desc u
      if poisoned s (a / 64) then s
      else storeBytes a 1 (readMem s a 1 ||| 2 ^ ((u - shUnitFirst sh.desc) % 8)) s) s

/-! ## Writes: frames, ownership of protected copies (R173, R184, R205 to R208) -/

/-- The ZERO and LOST extents of a range of memory, which a write gives frames. -/
def framesNeeded (s : State) (off n : Nat) : List Nat :=
  (extentsOf off n).filter (fun e => decide (e * extentBytes < windowBase) &&
    (extState s e == none || extState s e == some .lost))

/-- The frames that a range needs are free, taken one after another (R184). -/
def framesFree (s : State) (exts : List Nat) : Bool :=
  match exts with
  | [] => true
  | e :: es => frameFree s (layoutOf s e) && framesFree (makeNear e s) es

/-- The extents of a range take their frames: a ZERO extent of zeros, a LOST one with every line poisoned but those that
the write replaces (R173). -/
def takeFrames (off n : Nat) (s : State) : State :=
  (framesNeeded s off n).foldl (fun s e =>
    match extState s e with
    | some .lost => poisonExtent e (linesOf off n) (makeNear e s)
    | _ => makeNear e s) s

/-- The extents of a range are marked accessed by the clock hand, and its lines are in the store cache (R170, R188). -/
def touch (off n : Nat) (s : State) : State :=
  let s := (extentsOf off n).foldl (fun s e => { s with extents := tmod s.extents e (fun x => { x with accessed := true }) }) s
  (linesOf off n).foldl (fun s l => storeRead l s) s

/-- The 4 KiB units that a range touches, each as offset and bytes of its part of the range (R207). -/
def unitParts (off n : Nat) : List (Nat × Nat) :=
  if n = 0 then []
  else (List.range ((off + n - 1) / 4096 - off / 4096 + 1)).map (fun i =>
    let a := max off ((off / 4096 + i) * 4096)
    (a, min (off + n) ((off / 4096 + i + 1) * 4096) - a))

/-- The members other than the two that hold a row's parity, in ascending order: those with its data units (R207). -/
def rowMembers (row : Nat) : List Nat := (List.range 8).filter (fun x => x != row % 8 && x != (row + 1) % 8)

/-- The row of data unit u of member m (R207). -/
def rowOfUnit (m u : Nat) : Nat :=
  8 * (u / 6) + (((List.range 8).filter (fun j => j != m && j != (m + 7) % 8))[u % 6]?).getD 0

/-- Twice an element of GF(2^8) with the polynomial x^8 + x^4 + x^3 + x^2 + 1 (R207). -/
def gfDouble (b : Nat) : Nat := if 128 ≤ b then (2 * b) ^^^ 0x11D else 2 * b

/-- 2^t times each of `n` bytes, in that field. -/
def gfTimes (t n v : Nat) : Nat :=
  ((List.range n).map (fun i => (List.range t).foldl (fun b _ => gfDouble b) (bits v (8 * i + 7) (8 * i)) * 2 ^ (8 * i))).sum

/-- The package of a member (R567). -/
def memberPackage (s : State) (m : Nat) : Nat := obj s 0x6011 (m + 1)

/-- The prot_offset of an entry (R175). -/
def entryProtAt (e : Nat) : Nat := bits e 255 208

/-- One unit's change goes to the mirror, or to both parity units of its row, which take it by XOR (R207, log entry 60). -/
def sendUnit (rq : Req) (o : PObject) (off n old v : Nat) (s : State) : State :=
  let rel := off - entryBase o.entry
  if entryProt o.entry = 1 then
    let to_ := bits o.entry 207 196 * 2 ^ 48 + entryProtAt o.entry + rel
    send rq.hdr.cls (24 + n) to_ (.remote .store to_ n v 0 rq.hdr.tenant rq.hdr.cls) s
  else
    let m := obj s 0x6010 3
    let row := rowOfUnit m (rel / 4096)
    let change := (old ^^^ v) % 2 ^ (8 * n)
    let place := ((rowMembers row).takeWhile (fun x => x != m)).length
    let unit (k q : Nat) : Nat :=
      memberPackage s k * 2 ^ 48 + entryProtAt ((o.peers[k]?).getD 0) + (2 * (row / 8) + q) * 4096 + rel % 4096
    let go (at_ v : Nat) (s : State) : State := send rq.hdr.cls (24 + n) at_ (.parity at_ n v rq.hdr.tenant rq.hdr.cls) s
    go (unit ((row + 1) % 8) 1) (gfTimes place n change) (go (unit (row % 8) 0) change s)

/-- The P1 and P2 objects of a range that are not DEGRADED: a write of it waits for their copies (R205). -/
def copiedObjects (s : State) (off n : Nat) : NSet :=
  (extentsOf off n).foldl (fun t e => match objectAt s e with
    | some (k, o) => if entryProt o.entry ≠ 0 ∧ !o.degraded then sadd t k else t
    | none => t) []

/-- The protection classes' other copies are sent for a write of a range from old bytes to new ones (R205, R207). -/
def sendCopies (rq : Req) (off n old v : Nat) (s : State) : State :=
  let ks := copiedObjects s off n
  if ks.isEmpty then s
  else
    let s := ks.foldl (fun s k => { s with placed := tmod s.placed k (fun o => { o with unacked := o.unacked + 1 }) }) s
    (unitParts off n).foldl (fun s p =>
      match objectAt s (extentOf p.1) with
      | none => s
      | some (_, o) =>
        if o.degraded ∨ entryProt o.entry = 0 then s
        else
          let part (w : Nat) : Nat := bits w (8 * (p.1 - off + p.2) - 1) (8 * (p.1 - off))
          sendUnit rq o p.1 p.2 (part old) (part v) s) s

/-- The request that stands for a home's own write of a line: the tenant of its object, class C1. -/
def homeReq (s : State) (line : Nat) : Req :=
  let t := match objectAt s (line / 32768) with | some (_, o) => o.tenant | none => 0xFFF
  ⟨0x03, ⟨.link 0, 1, 0, 0, t, 0, 0, obj s 0x1021 1, 64 * line, 1, 0⟩, 0, 0, [], false⟩

/-! ## Lines that are not rebuilt yet (R570) -/

/-- The active P2 object whose parity object an extent lies in (R207). -/
def parityOf (s : State) (ext : Nat) : Option PObject :=
  (s.placed.find? (fun e => entryProt e.2.entry == 2 &&
    decide (extentOf (entryProtAt e.2.entry) ≤ ext ∧
      ext < extentOf (entryProtAt e.2.entry) + entryCount e.2.entry / 3))).map (·.2)

/-- The row that a parity unit of member m belongs to: its units are in pairs, P before Q (R207). -/
def rowOfParity (m i : Nat) : Nat := 8 * (i / 2) + (if i % 2 = 0 then m else (m + 7) % 8)

/-- The surviving units of a row are read for a unit that member m lost, at an offset within the unit (R552, R570): the data
units of the others; for a data unit P as well, and Q for what a vacant member leaves missing. -/
def readRow (o : PObject) (row at_ : Nat) (s : State) : State :=
  let m := obj s 0x6010 3
  let present (k : Nat) : Bool := memberPackage s k != 0xFFFF
  let ask (k off : Nat) (s : State) : State :=
    let from_ := memberPackage s k * 2 ^ 48 + off + at_
    send 1 24 from_ (.remote .load from_ 64 0 0 o.tenant 1) s
  let parity (k q : Nat) (s : State) : State := ask k (entryProtAt ((o.peers[k]?).getD 0) + (2 * (row / 8) + q) * 4096) s
  let others := (rowMembers row).filter (fun x => x != m && present x)
  let s := others.foldl (fun s k =>
    let u := ((List.range 6).find? (fun i => rowOfUnit k (6 * (row / 8) + i) == row)).getD 0
    ask k (entryBase ((o.peers[k]?).getD 0) + (6 * (row / 8) + u) * 4096) s) s
  let p := row % 8
  let q := (row + 1) % 8
  let withP : Bool := decide (others.length < 6) && p != m && present p
  let s := if withP then parity p 0 s else s
  if others.length + b2n withP < 6 ∧ q ≠ m ∧ present q then parity q 1 s else s

/-- The sources of a line's reconstruction are read (R552): its mirror line, or the surviving units of its row. -/
def readSources (o : PObject) (line : Nat) (s : State) : State :=
  let rel := 64 * line - entryBase o.entry
  if entryProt o.entry = 1 then
    let from_ := bits o.entry 207 196 * 2 ^ 48 + entryProtAt o.entry + rel
    send 1 24 from_ (.remote .load from_ 64 0 0 o.tenant 1) s
  else readRow o (rowOfUnit (obj s 0x6010 3) (rel / 4096)) (rel % 4096) s

/-- The object whose data or parity a line holds, with what reads the sources of its reconstruction. -/
def sourcesOf (line : Nat) (s : State) : Option State :=
  match objectAt s (line / 32768) with
  | some (_, o) => some (readSources o line s)
  | none => (parityOf s (line / 32768)).map (fun o =>
      let rel := 64 * line - entryProtAt o.entry
      readRow o (rowOfParity (obj s 0x6010 3) (rel / 4096)) (rel % 4096) s)

/-- A line that is not rebuilt yet is reconstructed: what the other members answer is a free value (log entries 1, 15). -/
def rebuildLine (line : Nat) (s : State) : State :=
  match tget s.unrebuilt (line / 32768) with
  | none => s
  | some done =>
    if done.contains line then s
    else match sourcesOf line s with
      | none => s
      | some s =>
        let (f, s) := drawFree s
        let s := bump 0xA010 4 1 { s with unrebuilt := tset s.unrebuilt (line / 32768) (sadd done line) }
        cleanLines [line] (storeBytes (64 * line) 64 (f % 2 ^ 512) s)

/-- The lines of a list are reconstructed where they are not rebuilt yet. -/
def rebuildLines (lines : List Nat) (s : State) : State :=
  if s.unrebuilt.isEmpty then s else lines.foldl (fun s l => rebuildLine l s) s

/-- An offset lies in the mirror of a P1 pair, or in the parity object of an active P2 object (R206). -/
def isMirror (s : State) (ext : Nat) : Bool :=
  (match objectAt s ext with
    | some (_, o) => entryProt o.entry == 1 && bit o.entry 176
    | none => false) ||
  (parityOf s ext).isSome

/-- The member package that a request comes from as a package requester (R416). -/
def fromPackage (s : State) (requester : Nat) : Bool :=
  match compOf s requester with
  | some (_, e) => e.tenant == 0xFFF
  | none => false

end Sys2Proof.Machine
end

