-- ==== Sys2Proof/Machine/Coh.lean ====
section
/-! DEFINITION. The directory, its snoops and grants (chapter 10): the operations that the coherent commands and the
requests without a cache share. -/

namespace Sys2Proof.Machine

/-! ## Agents (R320, R351) -/

def agentEntry (s : State) (a : Nat) : Nat := obj s 0x6012 (a + 1)
/-- 0 NONE, 1 ACTIVE, 2 SUSPECT, 3 DEAD (R350). -/
def agentState (s : State) (a : Nat) : Nat := bits (agentEntry s a) 33 32
def agentRequester (s : State) (a : Nat) : Nat := bits (agentEntry s a) 15 0
def agentPackage (s : State) (a : Nat) : Nat := bits (agentEntry s a) 27 16

/-- The agent that a requester is (R320). -/
def agentOf (s : State) (requester : Nat) : Option Nat :=
  (List.range 32).find? (fun a => agentState s a != 0 && agentRequester s a == requester)

/-- The package that an agent is attached to. -/
def attachOf (s : State) (a : Nat) : Nat := bits (agentEntry s a) 27 16

/-- An agent's state is set. -/
def setAgentState (a v : Nat) (s : State) : State := setObj 0x6012 (a + 1) (setBits (agentEntry s a) 33 32 v) s

/-- The domain is FORMED (R320); this package is its master (R321, R418). -/
def formed (s : State) : Bool := obj s 0x6010 7 == 2 && !s.dissolving
def isMaster (s : State) : Bool := obj s 0x6010 4 == 1 && obj s 0x6010 5 == 1

/-- The entry of the member list that stands for a vacant index: a removed member leaves none behind (R567, log entry 44). -/
abbrev vacantMember : Nat := 0xFFFF

/-- The packages of the other members; an index that a removal left vacant has none. -/
def otherMembers (s : State) : List Nat :=
  (((List.range (obj s 0x6010 2)).filter (fun m => m != obj s 0x6010 3)).map (fun m => obj s 0x6011 (m + 1))).filter
    (fun p => p != vacantMember)

/-- Something is sent to every other member. -/
def tellMembers (what item value : Nat) (s : State) : State :=
  (otherMembers s).foldl (fun s p => emit (.member p what item value) s) s

/-! ## Entries (R329 to R331) -/

/-- The entries of a line's set at its home, by line. -/
def setOf (s : State) (line : Nat) : Tab DirEntry :=
  s.dir.filter (fun e => e.1 % 8192 == line % 8192 && homeOf s (64 * e.1) == homeOf s (64 * line))

/-- A free way of a line's set (R333). -/
def freeWay (s : State) (line : Nat) : Option Nat :=
  (List.range 16).find? (fun w => (setOf s line).all (fun e => e.2.way != w))

/-- A transaction is in flight on a line. -/
def inFlight (s : State) (line : Nat) : Bool := s.snoops.any (fun e => e.2.line == line) || s.recalls.contains line

/-- The victim of a set: S and F first, then E, then M, the oldest of a group, none in flight (R333). -/
def victim (s : State) (line : Nat) : Option Nat :=
  let rank (st : Nat) : Nat := if st ≤ 2 then 0 else st - 2
  let better (a b : Nat × DirEntry) : Bool :=
    decide (rank a.2.st < rank b.2.st ∨ (rank a.2.st = rank b.2.st ∧ a.2.age < b.2.age))
  ((setOf s line).filter (fun e => !inFlight s e.1)).foldl (fun (m : Option (Nat × DirEntry)) e =>
    match m with
    | none => some e
    | some x => if better e x then some e else some x) none |>.map (·.1)

/-- The agents that a snoop of every holder goes to (R331, R349): the pointers, and beyond them, for a broadcast entry,
every ACTIVE or SUSPECT agent. -/
def holders (s : State) (e : DirEntry) (but : Option Nat) : List Nat :=
  let all := if e.broadcast then (List.range 32).filter (fun a => e.ptrs.contains a || agentState s a == 1 || agentState s a == 2)
    else e.ptrs
  all.filter (fun a => some a != but && agentState s a != 3)

/-- A pointer is added: behind the others, or first when the agent becomes the F holder; a fifth sets broadcast (R331,
log entry 11). -/
def addPtr (e : DirEntry) (a : Nat) (first : Bool) : DirEntry :=
  let rest := e.ptrs.filter (fun x => x != a)
  if first then { e with ptrs := (a :: rest).take 4, broadcast := e.broadcast || decide (4 ≤ rest.length) }
  else if rest.length < 4 then { e with ptrs := rest ++ [a] } else { e with broadcast := true }

/-- The state with a line's entry; a recall of the entry as it was is over (R336). -/
def setDir (line : Nat) (e : DirEntry) (s : State) : State :=
  { s with dir := tset s.dir line e, recalls := sdel s.recalls line }

/-- The line's entry is freed. -/
def dropDir (line : Nat) (s : State) : State := 
  { s with dir := terase s.dir line, recalls := sdel s.recalls line }

/-- An agent's grant of a line is not acknowledged yet (R340). -/
def grantPending (s : State) (line a : Nat) : Bool :=
  s.snoops.any (fun e => e.2.line == line && (match e.2.why with
    | .home h _ => agentOf s h.requester == some a
    | .agent h _ => agentOf s h.requester == some a
    | _ => false))

/-! ## Snoops (R328, R340) -/

/-- The key of a snoop: the number of its transaction and its agent. -/
abbrev snoopKey (txn agent : Nat) : Nat := txn * 32 + agent

/-- A snoop is sent: kind 1 SNP_CUR, 2 SNP_SHARE, 3 SNP_INV, 4 SNP_INV_FWD. Its timeout runs at once unless the agent's
grant of the line is pending. -/
def sendSnoop (txn line a kind : Nat) (why : SnoopWhy) (target tag grant : Nat) (s : State) : State :=
  let x : Snoop := ⟨line, a, kind, txn, why, !grantPending s line a, false, none, 0⟩
  sendTo (attachOf s a) 5 40 (pkgNo s * 2 ^ 48 + 64 * line) (.snoop txn a line kind target tag grant)
    (bump 0x6014 2 1 { s with snoops := tset s.snoops (snoopKey txn a) x })

/-- The number of the next transaction. -/
def nextTxn (s : State) : Nat × State := (s.snoopCtr % 65536, { s with snoopCtr := s.snoopCtr + 1 })

/-- Snoops of one kind go to several agents, those beyond the pointers counted as broadcast (R331, R351, R339). -/
def sendSnoops (txn line kind : Nat) (why : SnoopWhy) (as ptrs : List Nat) (s : State) : State :=
  as.foldl (fun s a => (if ptrs.contains a then id else bump 0x6014 4 1) (sendSnoop txn line a kind why 0 0 0 s)) s

/-- The recall of an entry (R333): SNP_INV to every holder; freed at once when it has none. -/
def recallLine (line : Nat) (s : State) : State :=
  match tget s.dir line with
  | none => s
  | some e =>
    let hs := holders s e none
    let s := bump 0x6014 5 1 s
    if hs.isEmpty then dropDir line s
    else
      let (t, s) := nextTxn s
      sendSnoops t line 3 .recalled hs e.ptrs { s with recalls := sadd s.recalls line }

/-- Every entry of a home, or of all homes, is recalled (R346, R322). -/
def recallAll (home : Option Nat) (s : State) : State :=
  ((s.dir.filter (fun e => match home with | some n => homeOf s (64 * e.1) == n | none => true)).map (·.1)).foldl
    (fun s l => recallLine l s) s

/-- The result field of a caching-read completion (R326): mode 0 FINAL, 1 HOME, 2 AGENT. -/
def cohResult (mode supplier txn grant : Nat) : Nat := mode * 2 ^ 62 + supplier * 2 ^ 48 + txn * 2 ^ 32 + grant

/-- The 64 bytes of a line at its home. -/
def lineData (s : State) (line : Nat) : Nat := readMem s (64 * line) 64

/-- The line that a holder returned is merged at its home: bytes written since its snoop was sent stay. -/
def mergeLine (x : Snoop) (v : Nat) (s : State) : State :=
  let old := toBytes 64 (lineData s x.line)
  let new := toBytes 64 v
  let merged := (List.range 64).map (fun i => if bit x.mask i then (old[i]?).getD 0 else (new[i]?).getD 0)
  let s := if x.mask = 0 then cleanLines [x.line] s else s
  let s := writeMem (64 * x.line) 64 (ofBytes merged) (storeWrite x.line (setStale [x.line] s))
  sendCopies (homeReq s x.line) (64 * x.line) 64 (ofBytes old) (ofBytes merged) s

/-- A whole line is written at its home, and is good from then on (R550). -/
def writeLine (line v : Nat) (s : State) : State := cleanLines [line] (storeBytes (64 * line) 64 v s)

/-- The home's GRANT leaves (R343); none to a DEAD agent (R349). -/
def sendGrant (h : Hdr) (txn grant : Nat) (len line : Nat) (bad : Bool) (s : State) : State :=
  match agentOf s h.requester with
  | none => s
  | some a =>
    if agentState s a = 3 then s
    else
      let go (n : Nat) (o : Out) : State := sendTo (attachOf s a) 6 n (attachOf s a * 2 ^ 48) o s
      if bad then go 16 (.grant txn h.requester h.tag 0 .poison 0 0)
      else go (16 + 64 * len) (.grant txn h.requester h.tag grant .ok len (if len = 0 then 0 else lineData s line))

/-- Grants of a line to an agent are acknowledged: the timeouts that waited for it start (R340). -/
def startTimers (line a : Nat) (s : State) : State :=
  { s with snoops := s.snoops.map (fun e =>
      if e.2.line = line ∧ e.2.agent = a ∧ !grantPending s line a then (e.1, { e.2 with running := true }) else e) }

/-- The timeouts that waited for a caching read's grant start, once its snoops are gone (R334). -/
def acknowledge (line : Nat) (h : Hdr) (s : State) : State :=
  match agentOf s h.requester with
  | some a => startTimers line a s
  | none => s

/-! ## Requests without a cache (R335, R341) -/

/-- The snoops that a read of lines needs: of the owners of those in E or M (R344). -/
def readSnoops (s : State) (lines : List Nat) : List (Nat × Nat) :=
  lines.filterMap (fun l => match tget s.dir l with
    | some e => if 3 ≤ e.st then (e.ptrs.head?).map (fun a => (l, a)) else none
    | none => none)

/-- The snoops that a write of lines needs: of every holder. -/
def writeSnoops (s : State) (lines : List Nat) : List (Nat × Nat) :=
  lines.foldr (fun l acc => match tget s.dir l with
    | some e => (holders s e none).map (fun a => (l, a)) ++ acc
    | none => acc) []

/-- The holders of lines that the block itself writes are invalidated, and the entries freed (R335). -/
def invalidateHolders (lines : List Nat) (s : State) : State :=
  lines.foldl (fun s l => match tget s.dir l with
    | none => s
    | some e =>
      let hs := holders s e none
      let (t, s) := nextTxn s
      dropDir l (sendSnoops t l 3 .recalled hs e.ptrs s)) s

/-- Lines that are about to be accessed are put right: one that is not rebuilt yet is reconstructed (R570), and one whose owner
is DEAD is poisoned, and its entry freed (R349). -/
def poisonDead (lines : List Nat) (s : State) : State :=
  let s := rebuildLines lines s
  lines.foldl (fun s l => match tget s.dir l with
    | some e => (match e.ptrs.head? with
      | some a => if 3 ≤ e.st ∧ agentState s a = 3 then bump 0x6014 8 1 (writePoison (64 * l) (dropDir l s)) else s
      | none => s)
    | none => s) s

/-! ## Reads of this package's own engines (R267, R335) -/

/-- The owners that an engine's read of lines is still to snoop. -/
def peekNeed (s : State) (id : Nat) (lines : List Nat) : List (Nat × Nat) :=
  (readSnoops s lines).filter (fun p => (tget s.peeked (id * 2 ^ 48 + p.1)).isNone)

/-- An engine's read meets lines that agents own: SNP_CUR goes to each owner, unless one is on its way or the owner's grant
is not acknowledged yet (R341), and the read waits; none where it can go on. -/
def peekWait (id : Nat) (lines : List Nat) (s : State) : Option State :=
  let need := peekNeed s id lines
  if need.isEmpty then none
  else some ((need.filter (fun p => !grantPending s p.1 p.2 &&
      s.snoops.all (fun e => e.2.line != p.1 || e.2.why != .engine id))).foldl
    (fun s p => let (t, s) := nextTxn s; sendSnoop t p.1 p.2 1 (.engine id) 0 0 0 s) s)

/-- What an agent returned for a line that it still owns. -/
def peekAt (s : State) (id line : Nat) : Option (Nat × Bool) :=
  if (readSnoops s [line]).isEmpty then none else tget s.peeked (id * 2 ^ 48 + line)

/-- The memory as a reader sees it: the home's, with the lines that agents still own as they returned them. -/
def view (id : Nat) (s : State) : State :=
  s.peeked.foldl (fun v e =>
    let l := e.1 % 2 ^ 48
    if e.1 / 2 ^ 48 ≠ id ∨ (peekAt s id l).isNone then v
    else
      let v := writeMem (64 * l) 64 e.2.1 (cleanLines [l] v)
      if e.2.2 then writePoison (64 * l) v else v) s

/-- What agents returned of lines that they still own is written at the homes, where engines that read much of it find it: a
reader that asks for such a line asks its owner, so no other reader sees that. -/
def settleLines (id : Nat) (s : State) : State :=
  (s.peeked.filter (fun e => e.1 / 2 ^ 48 == id)).foldl (fun s e =>
    if (peekAt s id (e.1 % 2 ^ 48)).isNone then s
    else
      let s := writeLine (e.1 % 2 ^ 48) e.2.1 s
      if e.2.2 then writePoison (64 * (e.1 % 2 ^ 48)) s else s) s

/-- A reader is over with what agents returned to it. -/
def unpeek (id : Nat) (s : State) : State := { s with peeked := s.peeked.filter (fun e => e.1 / 2 ^ 48 != id) }

/-- What a request without a cache does about the directory: it goes on at once, is deferred for a conflict (R341), or
is held until its snoops are answered. -/
def withSnoops (rq : Req) (lines : List Nat) (write : Bool) (act : State → State) (s : State) : State :=
  let s := poisonDead lines s
  let need := if write then writeSnoops s lines else readSnoops s lines
  if need.isEmpty then act (if write then lines.foldl (fun s l => dropDir l s) s else s)
  else if need.any (fun p => grantPending s p.1 p.2) then deferReq rq 1 (bump 0x6014 6 1 s)
  else
    let id := s.reqCtr
    let s := hold (OpenReq.plain rq) s
    let s := lines.foldl (fun s l =>
      let mine := (need.filter (fun p => p.1 == l)).map (·.2)
      if mine.isEmpty then s
      else
        let ptrs := match tget s.dir l with | some e => e.ptrs | none => []
        let (t, s) := nextTxn s
        let s := sendSnoops t l (if write then 3 else 1) (.request id) mine ptrs s
        { s with openReqs := tmod s.openReqs id (fun o =>
            { o with snoops := mine.foldl (fun x a => sadd x (snoopKey t a)) o.snoops }) }) s
    if write then lines.foldl (fun s l => dropDir l s) s else s

end Sys2Proof.Machine
end

