-- ==== Sys2Proof/Machine/Mailbox.lean ====
section
/-! DEFINITION. Mailboxes and doorbells: posting a notice, the Geyser wakes, and acknowledgement (R491 to R496, R440). -/

namespace Sys2Proof.Machine

/-- A mailbox, by die and number. -/
def box (s : State) (die m : Nat) : Mailbox := tgetD s.mbx (16 * die + m) Mailbox.zero
def setBox (die m : Nat) (x : Mailbox) (s : State) : State := { s with mbx := tset s.mbx (16 * die + m) x }

/-- The queue pair that is READY and binds a mailbox of the north I/O die (R440). -/
def boundQp (s : State) (die m : Nat) : Option Nat :=
  if die = 0x18 then
    (s.qps.find? (fun e => e.2.st == 1 && bit e.2.entry 388 && bits e.2.entry 387 384 == m)).map (·.1)
  else none

/-- wake_pending of a mailbox (R492, R495): a Geyser wake was raised for it, it holds a notice, and its receiver is not
ACTIVE. -/
def wakePending (s : State) (die m : Nat) : Bool :=
  (box s die m).wake && !(box s die m).notices.isEmpty && (dom s (mbxDom die)).st != 0

/-- A domain that has become ACTIVE has its Geyser wakes taken back (R495). -/
def clearWakes (d : Nat) (s : State) : State :=
  { s with mbx := s.mbx.map (fun e => if mbxDom (e.1 / 16) = d then (e.1, { e.2 with wake := false }) else e) }

/-- A Geyser wake (R495): the receiver's domain is woken and the wake counted. -/
def geyserWake (die m : Nat) (s : State) : State :=
  let s := { s with geyser := tset s.geyser die ((tgetD s.geyser die 0 + 1) % 65536) }
  bump 0xF012 4 1 (wake (mbxDom die) (setBox die m { box s die m with wake := true } s))

/-- The notices of a mailbox that a queue pair binds are sent (R440), from the `n`-th on. -/
def sendNotices (q m : Nat) (ns : List (Nat × Nat)) (s : State) : State :=
  ns.foldl (fun s x => qpSend q (some x.2) 8 x.1 (some m) s) s

/-- A notice is appended (R493): to a mailbox that is enabled and not full. -/
def postNotice (die m ptr tag : Nat) (s : State) : State :=
  let x := box s die m
  let s := setBox die m { x with notices := x.notices ++ [(ptr, tag)], posted := (x.posted + 1) % 2 ^ 32 } s
  let s := if (dom s (mbxDom die)).st ≠ 0 then geyserWake die m s else s
  match boundQp s die m with
  | some q => sendNotices q m [(ptr, tag)] s
  | none => s

/-- A DOORBELL at a mailbox (R493): its status and retry hint. -/
def doorbellAt (off ptr tag : Nat) (s : State) : (Status × Nat) × State :=
  match pageDie off with
  | none => ((.unsupported, 0), s)
  | some die =>
    let o := (off - pageBase) % 65536
    if !hasBlock die ∨ !diePresent s die ∨ o % 64 ≠ 0 ∨ 0x400 ≤ o then ((.unsupported, 0), s)
    else
      let m := o / 64
      let x := box s die m
      if !x.enable then ((.unsupported, 0), s)
      else if 32 ≤ x.notices.length then
        ((.defer, if (dom s (mbxDom die)).st ≤ 1 then 2 else 0),
          bump 0xF012 3 1 (setBox die m { x with fullDefers := satInc 32 x.fullDefers 1 } s))
      else ((.ok, 0), postNotice die m ptr tag s)

/-- The oldest notice leaves its mailbox, and the sequence goes on (R496). -/
def popNotice (die m : Nat) (s : State) : State :=
  let x := box s die m
  setBox die m { x with notices := x.notices.drop 1, headSeq := (x.headSeq + 1) % 65536 } s

/-- A write of MBX_ACK (R496): whether it removed a notice. Its reserved bits are ignored (R8). -/
def mbxAck (die m value : Nat) (s : State) : Bool × State :=
  let x := box s die m
  if value % 65536 = x.headSeq ∧ !x.notices.isEmpty ∧ (boundQp s die m).isNone then
    (true, popNotice die m s)
  else (false, s)

/-- MBX_STATUS (R492). -/
def mbxStatus (s : State) (die m : Nat) : Nat :=
  let x := box s die m
  x.headSeq * 2 ^ 16 + b2n (wakePending s die m) * 2 ^ 11 + (dom s (mbxDom die)).st * 2 ^ 8
    + b2n (decide (32 ≤ x.notices.length)) * 2 ^ 6 + x.notices.length

/-- The head of a mailbox: pointer and tag, zero while it is empty. -/
def headOf (s : State) (die m : Nat) : Nat × Nat := (box s die m).notices.head?.getD (0, 0)

/-- The first 16 bytes of a head slot, in one step. -/
def headSlot (s : State) (die m : Nat) : Nat :=
  (headOf s die m).1 % 2 ^ 64 + (headOf s die m).2 * 2 ^ 64 + mbxStatus s die m * 2 ^ 96

/-- What a read of a line in a die page returns; none: it is refused. -/
def pageRead (s : State) (off : Nat) : Option Nat :=
  match pageDie off with
  | none => none
  | some die =>
    let o := (off - pageBase) % 65536
    if 0x400 ≤ o ∧ o < 0x800 ∧ o % 64 = 0 then some (headSlot s die (o / 64 - 16)) else none

/-- A doorbell that the device sends (R313, R372, R401, R440): to a mailbox of its own die pages after the check of its
key, or to another package in class C1; without a path it times out. -/
def sendDoorbell (address key ptr tag tenant : Nat) (s : State) : Status × State :=
  if address / 2 ^ 48 = obj s 0x1021 1 then
    if obj s 0x7020 3 = 1 ∨ keyOk s key tenant 3 [] then
      let (r, s) := doorbellAt (address % 2 ^ 48) ptr tag s
      (r.1, s)
    else (.keyDenied, s)
  else if reaches s address then (.ok, send 1 40 address (.doorbell address key ptr tag) s)
  else (.internal, s)

end Sys2Proof.Machine
end

