-- ==== Sys2Proof/Machine/MemCore.lean ====
section
/-! DEFINITION. How the homes perform reads, writes, atomics and publishes of memory: at once, or held until snoops or
earlier writes are done (chapters 5, 10, 11, 12). -/

namespace Sys2Proof.Machine

/-! ## Reads (R193, R335, R547, R551, R552) -/

/-- A line found uncorrectable in a read: repaired when its object is P1 or P2 and not DEGRADED (R552), else poisoned. -/
def handleFound (line : Nat) (s : State) : State :=
  if poisoned s line then s
  else match objectAt s (extentOf (64 * line)) with
    | some (_, o) => if entryProt o.entry ≠ 0 ∧ !o.degraded then bump 0xA010 4 1 (readSources o line s) else foundBad s line
    | none => foundBad s line

/-- The lines of a range in the near tier that were read with failed symbols in their codewords, by how many: one or two are
corrected, more are not (R546, R547). -/
def failedIn (s : State) (found : Tab Nat) (off n : Nat) (p : Nat → Bool) : List Nat :=
  (linesOf off n).filter (fun l => p (tgetD found l 0) && extState s (extentOf (64 * l)) != none &&
    !isFar s (extentOf (64 * l)))

/-- The home decodes the lines that a read takes (R547): corrected ones are counted; the others are repaired or poisoned. -/
def decodeLines (found : Tab Nat) (off n : Nat) (s : State) : State :=
  let fixed := (failedIn s found off n (fun k => k == 1 || k == 2)).filter (fun l => !poisoned s l)
  (failedIn s found off n (fun k => decide (2 < k))).foldl (fun s l => handleFound l s) (bump 0xA010 1 fixed.length s)

/-- The data of a line for a reader: an owner's, a shadow's for a far line, the home's. -/
def lineFor (s : State) (fresh : Tab Nat) (line : Nat) : Nat :=
  if isFar s (extentOf (64 * line)) then
    match substLine s (64 * line) with
    | .data v => v
    | _ => 0
  else match tget fresh line with
    | some v => v
    | none => lineData s line

/-- The little-endian data of lines. -/
def linesData (s : State) (fresh : Tab Nat) : List Nat → Nat
  | [] => 0
  | l :: ls => lineFor s fresh l + 2 ^ 512 * linesData s fresh ls

/-- A read's completion once its snoops are answered: POISON, OK_SUBST or OK (R193). -/
def finishRead (rq : Req) (fresh : Tab Nat) (bad : Bool) (s : State) : State :=
  let ls := linesOf rq.hdr.offset (64 * rq.hdr.length)
  let near := ls.filter (fun l => !isFar s (extentOf (64 * l)))
  if bad ∨ near.any (lineBad s) then complete rq .poison 0 s
  else
    let subst := near.length < ls.length
    let s' := touch rq.hdr.offset (64 * rq.hdr.length) (if subst then bump 0x3011 2 1 s else s)
    completeWith rq (if subst then .okSubst else .ok) 0 0 rq.hdr.length (linesData s fresh ls) none s'

/-- A read of memory at step 12 (R193, R335): far lines are substituted for a plain read of C0 or C1 whose every far line
a current shadow covers, and otherwise the read is deferred. -/
def startRead (rq : Req) (s : State) : State :=
  let off := rq.hdr.offset
  let n := 64 * rq.hdr.length
  if n = 0 then complete rq .ok 0 s
  else if pageBase ≤ off then
    match pageRead s off with
    | some v => completeWith rq .ok 0 0 1 v none s
    | none => complete rq .unsupported 0 s
  else
    let ls := linesOf off n
    let far := ls.filter (fun l => isFar s (extentOf (64 * l)))
    let subs := far.map (fun l => substLine s (64 * l))
    let plain := rq.op = 0x01 ∧ rq.hdr.cls ≤ 1
    let covered := subs.all (fun x => match x with | .data _ => true | _ => false)
    let go (s : State) : State :=
      let s := decodeLines rq.found off n s
      withSnoops rq (ls.filter (fun l => !isFar s (extentOf (64 * l)))) false (finishRead rq [] false) s
    if far.isEmpty then go s
    else if plain ∧ covered then
      let (_, s) := queueAll (farExtents s off n) (bump 0x3011 1 1 s)
      go s
    else farDefer rq off n (if plain ∧ subs.contains .refused then bump 0x3011 4 1 s else s)

/-! ## Writes (R184, R202, R206, R335, R360) -/

/-- A refusal for want of a near frame (R184). -/
def noFrame (rq : Req) (s : State) : State := complete rq .badLength 0 (raiseEvent 0x3010 8 0 s)

/-- Bytes of whole lines are written at their home: frames, data, poison cleared, stale bits, copies. -/
def storeLines (rq : Req) (off n v : Nat) (s : State) : State :=
  let s := takeFrames off n s
  let old := readMem s off n
  let s := cleanLines (linesOf off n) (storeBytes off n v s)
  sendCopies rq off n old v (touch off n (setStale (linesOf off n) s))

/-- A performed write completes: at once, or once the copies of these objects are acknowledged (R205, R208). -/
def completeCopied (rq : Req) (st : Status) (result : Nat) (objects : NSet) (s : State) : State :=
  if objects.isEmpty then complete rq st result s
  else hold { OpenReq.plain rq with answer := some (st, result), objects := objects } s

/-- A write's completion once its snoops are answered (R335, R360). -/
def finishWrite (rq : Req) (s : State) : State :=
  let n := 64 * rq.hdr.length
  completeCopied rq .ok 0 (copiedObjects s rq.hdr.offset n) (storeLines rq rq.hdr.offset n rq.data s)

/-- A write of memory at step 12. -/
def startWrite (rq : Req) (s : State) : State :=
  let off := rq.hdr.offset
  let n := 64 * rq.hdr.length
  if n = 0 then complete rq .ok 0 s
  else if pageBase ≤ off then complete rq .unsupported 0 s
  else if (extentsOf off n).any (isMirror s) ∧ !fromPackage s rq.hdr.requester then complete rq .notOwner 0 s
  else if !(farExtents s off n).isEmpty then farDefer rq off n s
  else if !framesFree s (framesNeeded s off n) then noFrame rq s
  else withSnoops rq (linesOf off n) true (finishWrite rq) s

/-! ## Atomics (R390, R391) -/

def atomicOp (body : Nat) : Nat := bits body 139 136
def atomicWide (body : Nat) : Bool := bit body 128
def atomicWidth (body : Nat) : Nat := if atomicWide body then 8 else 4

/-- Reserved fields and operation codes of an ATOMIC body (R390). -/
def atomicBad (body : Nat) : Bool :=
  bits body 255 140 != 0 || bits body 135 129 != 0 ||
  !([1, 2, 3, 4, 5, 6, 8, 9, 0xA].contains (atomicOp body)) ||
  (atomicWide body && decide (8 ≤ atomicOp body)) ||
  (!atomicWide body && (bits body 63 32 != 0 || bits body 127 96 != 0)) ||
  (atomicOp body != 6 && bits body 127 64 != 0)

/-- The new value of a location; none: nothing is written (R391). -/
def atomicNew (body old : Nat) : Option Nat :=
  let w := 8 * atomicWidth body
  let x := bits body 63 0
  let signed (a : Nat) : Int := toInt w a
  match atomicOp body with
  | 1 => some ((old + x) % 2 ^ w)
  | 2 => some (if signed x < signed old then x else old)
  | 3 => some (if signed old < signed x then x else old)
  | 4 => some (if x < old then x else old)
  | 5 => some (if old < x then x else old)
  | 6 => if old = bits body 127 64 then some x else none
  | 8 => some (add32 old x)
  | 9 => some (min32 old x)
  | 0xA => some (max32 old x)
  | _ => none

/-- An atomic once its snoops are answered. -/
def finishAtomic (rq : Req) (s : State) : State :=
  let off := rq.hdr.offset
  let n := atomicWidth rq.body
  if anyBad s off n then complete rq .poison 0 s
  else
    let old := readMem s off n
    match atomicNew rq.body old with
    | none => complete rq .ok old s
    | some v =>
      let s := storeBytes off n v (takeFrames off n s)
      completeCopied rq .ok old (copiedObjects s off n) (sendCopies rq off n old v (touch off n (setStale [off / 64] s)))

/-- An atomic at step 12 (R193, R391). -/
def startAtomic (rq : Req) (s : State) : State :=
  let off := rq.hdr.offset
  let n := atomicWidth rq.body
  if off % n ≠ 0 ∨ windowBase ≤ off then complete rq .unsupported 0 s
  else if isMirror s (extentOf off) ∧ !fromPackage s rq.hdr.requester then complete rq .notOwner 0 s
  else if !(farExtents s off n).isEmpty then farDefer rq off n s
  else if !framesFree s ((framesNeeded s off n).filter (fun e => extState s e == none)) ∧
      (atomicNew rq.body (readMem s off n)).isSome then noFrame rq s
  else withSnoops rq [off / 64] true (finishAtomic rq) s

/-! ## PUBLISH (R392 to R394) -/

def pubVersion (body : Nat) : Nat := bits body 111 64
def pubExpected (body : Nat) : Nat := bits body 63 0

/-- A PUBLISH once it holds its word and its snoops are answered (R393). -/
def finishPublish (rq : Req) (s : State) : State :=
  let off := rq.hdr.offset
  let n := 64 * rq.hdr.length
  let w := pubVersion rq.body
  if anyBad s w 8 then complete rq .poison 0 s
  else
    let old := readMem s w 8
    if old ≠ pubExpected rq.body then complete rq .conflict old s
    else
      let new := (old + 2) % 2 ^ 64
      let s := storeLines rq off n rq.data s
      let s := storeBytes w 8 new (takeFrames w 8 s)
      let ks := (copiedObjects s w 8).foldl sadd (copiedObjects s off n)
      completeCopied rq .ok new ks (sendCopies rq w 8 old new (touch w 8 (setStale [w / 64] s)))

/-- The lines of a PUBLISH: its data and its version word. -/
def pubLines (rq : Req) : List Nat :=
  let ls := linesOf rq.hdr.offset (64 * rq.hdr.length)
  if ls.contains (pubVersion rq.body / 64) then ls else ls ++ [pubVersion rq.body / 64]

/-- The PUBLISHes open on a version word. -/
def pubsOn (s : State) (w : Nat) : NSet := (s.openReqs.filter (fun e => e.2.word == some w)).map (·.1)

/-- A PUBLISH that has its word to itself: its frames, and then its snoops. -/
def runPublish (rq : Req) (s : State) : State :=
  let off := rq.hdr.offset
  let n := 64 * rq.hdr.length
  let w := pubVersion rq.body
  let far := (farExtents s off n ++ farExtents s w 8).eraseDups
  if !far.isEmpty then farDeferAll rq far s
  else if !framesFree s ((framesNeeded s off n ++ (framesNeeded s w 8)).eraseDups) then noFrame rq s
  else
    let id := s.reqCtr
    let s := withSnoops rq (pubLines rq) true (finishPublish rq) s
    { s with openReqs := tmod s.openReqs id (fun o => { o with word := some w }) }

/-- A PUBLISH at step 12 (R394). -/
def startPublish (rq : Req) (s : State) : State :=
  let off := rq.hdr.offset
  let n := 64 * rq.hdr.length
  let w := pubVersion rq.body
  if pageBase ≤ off ∨ w % 8 ≠ 0 ∨ pubExpected rq.body % 2 = 1 ∨ (off < w + 8 ∧ w < off + n) ∨ memRange s < w + 8 then
    complete rq .unsupported 0 s
  else if n = 0 then complete rq .ok 0 s
  else if (extentsOf off n ++ [extentOf w]).any (isMirror s) ∧ !fromPackage s rq.hdr.requester then
    complete rq .notOwner 0 s
  else
    let on := pubsOn s w
    if 5 ≤ on.length then deferReq rq 1 s
    else if on.isEmpty then runPublish rq s
    else hold { OpenReq.plain rq with word := some w } s

/-! ## Writes that the block makes itself -/

/-- The number of the next stall. -/
def nextStall (s : State) : Nat × State := (s.reqCtr, { s with reqCtr := s.reqCtr + 1 })

/-- The die number that stands for the package's own units in an access that stalls; its engine is then the acceptance of the
command it serves, 0 for none. -/
abbrev ownUnits : Nat := 0x1F

/-- A write of the package's own units stalls until an extent is near, or a home awake (R195, R510). -/
def stallWrite (unit : Nat) (rq : Req) (off n v : Nat) (bad : Bool) (ext dom : Option Nat) (s : State) : State :=
  let (k, s) := nextStall s
  let at_ := obj s 0x1021 1 * 2 ^ 48 + off
  let i : Issued := ⟨⟨ownUnits, unit, rq.hdr.tenant, none, at_, n, .store, v⟩, 0, 0, bad⟩
  { s with stalls := tset s.stalls k ⟨i, at_, ext, dom, false, [], false⟩ }

/-- An engine's write of bytes to this package's memory or windows, on behalf of a command, poisoned or not: it stalls for a
far extent or a home that sleeps; holders are invalidated, frames taken, whole lines cleaned. NOT_OWNER in a mirror or parity
object (R206); POISON where a partial write meets a poisoned line, one of a LOST extent among them (R173, R550); INTERNAL when
no frame is free (R184). -/
def engineStore (unit : Nat) (rq : Req) (off n v : Nat) (bad : Bool) (s : State) : Status × State :=
  if n = 0 then (.ok, s)
  else if badOffset s off ∨ areaEnd s off < off + n then (.unsupported, s)
  else if (extentsOf off n).any (isMirror s) then (.notOwner, s)
  else match (if off < memRange s then homesOf s off n else []).find? (fun h => !awake s (homeDom h)) with
    | some h => (.ok, stallWrite unit rq off n v bad none (some (homeDom h)) (wake (homeDom h) s))
    | none =>
      match (farExtents s off n).head? with
      | some e => (.ok, stallWrite unit rq off n v bad (some e) none (engineFar [e] s))
      | none =>
        let ls := linesOf off n
        let s := rebuildLines ls s
        let part := ls.filter (fun l => !(decide (off ≤ 64 * l) && decide (64 * l + 64 ≤ off + n)))
        if part.any (lineBad s) then (.poison, s)
        else if !framesFree s (framesNeeded s off n) then (.internal, raiseEvent 0x3010 8 0 s)
        else
          let s := takeFrames off n (invalidateHolders ls s)
          let old := readMem s off n
          let s := cleanLines (ls.filter (fun l => !part.contains l)) (storeBytes off n v s)
          let s := sendCopies rq off n old v (touch off n (setStale ls s))
          (.ok, if bad then ls.foldl (fun s l => writePoison (64 * l) s) s else s)

/-- The same for data that is good, on behalf of no command whose signal waits for it. -/
def engineWrite (rq : Req) (off n v : Nat) (s : State) : Status × State := engineStore 0 rq off n v false s

/-- A write of the block to a fabric address under a key: to this package after the check of R401 (R402), to another one
as a message, which times out without a path (R406). `unit` numbers the command whose header or signal waits for it; 0: none does. -/
def fabricStore (unit : Nat) (rq : Req) (address n v key : Nat) (s : State) : Status × State :=
  if address / 2 ^ 48 = obj s 0x1021 1 then
    if obj s 0x7020 3 = 1 ∨ keyOk s key rq.hdr.tenant 1 [(address % 2 ^ 48, n)] then
      engineStore unit rq (address % 2 ^ 48) n v false s
    else (.keyDenied, s)
  else if reaches s address then
    (.ok, send rq.hdr.cls (24 + n) address (.remote .store address n v key rq.hdr.tenant rq.hdr.cls) (meterOut rq.hdr.requester n s))
  else (.internal, s)

/-- The same on behalf of no command whose signal waits for it. -/
def fabricWrite (rq : Req) (address n v key : Nat) (s : State) : Status × State := fabricStore 0 rq address n v key s

/-- A write of a command is stalled (R195). -/
def writeStalled (s : State) (acc : Nat) : Bool :=
  s.stalls.any (fun x => x.2.who.access.die == ownUnits && x.2.who.access.engine == acc)

/-! ## Memory operations of the Ethernet port (R433 to R437) -/

/-- An RDMA READ of `rq.body` bytes is answered with them. -/
def finishRdmaRead (rq : Req) (fresh : Tab Nat) (bad : Bool) (s : State) : State :=
  let off := rq.hdr.offset
  let n := rq.body
  let ls := linesOf off n
  if bad ∨ ls.any (lineBad s) then complete rq .poison 0 s
  else completeWith rq .ok 0 0 0 ((linesData s fresh ls >>> (8 * (off % 64))) % 2 ^ (8 * n)) none (touch off n s)

/-- An RDMA WRITE of `rq.body` bytes is performed. -/
def finishRdmaWrite (rq : Req) (s : State) : State :=
  let ks := copiedObjects s rq.hdr.offset rq.body
  let r := engineWrite rq rq.hdr.offset rq.body rq.data s
  if r.1 = .ok then completeCopied rq .ok 0 ks r.2
  else complete rq (if r.1 = .internal then .badLength else r.1) 0 r.2

/-- The ranges of memory that an open request reads or writes: its lines, an atomic's location, the version word of a PUBLISH, the bytes
of an RDMA WRITE. -/
def touched (rq : Req) : List (Nat × Nat) :=
  if rq.op = 0x06 ∨ rq.op = opRdmaAtomic then [(rq.hdr.offset, 8)]
  else if rq.op = 0x07 then [(rq.hdr.offset, 64 * rq.hdr.length), (pubVersion rq.body, 8)]
  else if rq.op = opRdmaWrite ∨ rq.op = opRdmaRead then [(rq.hdr.offset, rq.body)]
  else [(rq.hdr.offset, max 64 (64 * rq.hdr.length))]

/-! ## Order (R361, R393, R396) and what is held -/

/-- A request starts: the operations that can be held for earlier writes. -/
def startOp (rq : Req) (s : State) : State :=
  match rq.op with
  | 0x04 => startWrite rq s
  | 0x07 => startPublish rq s
  | 0x0B => complete rq .ok 0 s
  | _ => startRead rq s

/-- The requester's writes that are accepted and not performed (R361). -/
def openWrites (s : State) (requester : Nat) : NSet :=
  (s.openReqs.filter (fun e => e.2.req.hdr.requester == requester &&
    [0x03, 0x04, 0x06, 0x07].contains e.2.req.op)).map (·.1)

/-- An acquire read, a release write or a PUBLISH is performed after the requester's earlier writes (R361, R393). -/
def orderedStart (rq : Req) (s : State) : State :=
  let ws := openWrites s rq.hdr.requester
  if ws.isEmpty then startOp rq s else hold { OpenReq.plain rq with probed := ws } s

/-- A request whose snoops are answered is finished; the snoops of a stalled engine access are noted on it. -/
def finishOp (o : OpenReq) (s : State) : State :=
  if o.req.op = 0xF0 then
    { s with stalls := tmod s.stalls o.req.body (fun x => { x with snooped := false, fresh := o.fresh, bad := o.poisoned }) }
  else if o.poisoned ∧ !([0x01, 0x02, opRdmaRead].contains o.req.op) then complete o.req .poison 0 s
  else match o.req.op with
    | 0x03 => finishWrite o.req s
    | 0x04 => finishWrite o.req s
    | 0x06 => finishAtomic o.req s
    | 0x07 => finishPublish o.req s
    | 0xE1 => finishRdmaRead o.req o.fresh o.poisoned s
    | 0xE3 => finishRdmaWrite o.req s
    | 0xE6 => finishAtomic o.req s
    | _ => finishRead o.req o.fresh o.poisoned s

/-- The requests that waited for an object's copies go on (R205, R208). -/
def copiesDone (k : Nat) (s : State) : State :=
  s.openReqs.foldl (fun s e =>
    match e.2.answer with
    | none => s
    | some (st, v) =>
      let left := sdel e.2.objects k
      if left.isEmpty then complete e.2.req st v (closeReq e.1 s)
      else { s with openReqs := tmod s.openReqs e.1 (fun o => { o with objects := left }) }) s

/-- An object's copies at other members are DEGRADED: writes go on here alone (R208, R567). -/
def degrade (k : Nat) (s : State) : State :=
  copiesDone k { s with placed := tmod s.placed k (fun o => { o with degraded := true, unacked := 0 }) }

/-- One pass over the requests that waited: a PUBLISH that is now first on its word runs; a request whose earlier ones are
gone starts. -/
def settleOnce (s : State) : State :=
  s.openReqs.foldl (fun s e =>
    let gone := e.2.probed.all (fun i => (tget s.openReqs i).isNone)
    if !e.2.probed.isEmpty ∧ gone then startOp e.2.req (closeReq e.1 s)
    else match e.2.word with
      | some w =>
        if (pubsOn s w).head? = some e.1 ∧
            s.openReqs.all (fun x => x.2.word != some w || x.2.snoops.isEmpty) then runPublish e.2.req (closeReq e.1 s) else s
      | none => s) s

/-- What was held goes on, as far as it can: each pass closes at least one of the requests open at its start, or is the
last one that changes something. -/
def settle (s : State) : State := (List.range (s.openReqs.length + 1)).foldl (fun s _ => settleOnce s) s

/-- A request that stays open for its copies keeps its number, which those behind it wait for. -/
def keepId (id fresh : Nat) (s : State) : State :=
  match tget s.openReqs fresh with
  | some o => if o.answer.isSome then { s with openReqs := tset (terase s.openReqs fresh) id o } else s
  | none => s

/-- An open request is finished and closed, and those behind it go on. -/
def finishOpen (id : Nat) (s : State) : State :=
  match tget s.openReqs id with
  | none => s
  | some o => settle (keepId id s.reqCtr (finishOp o (closeReq id s)))

/-- A snoop of an open request is gone: with its data, or unanswered. -/
def snoopGone (id key : Nat) (fresh : Option (Nat × Nat)) (bad : Bool) (s : State) : State :=
  let s := { s with openReqs := tmod s.openReqs id (fun o =>
    { o with snoops := sdel o.snoops key, poisoned := o.poisoned || bad,
             fresh := (match fresh with | some (l, v) => tset o.fresh l v | none => o.fresh) }) }
  match tget s.openReqs id with
  | some o => if o.snoops.isEmpty then finishOpen id s else s
  | none => s

end Sys2Proof.Machine
end

