-- ==== Sys2Proof/Machine/SyncCore.lean ====
section
/-! DEFINITION. Synchronisation objects: signals, waiters and their notifications (R367 to R376). -/

namespace Sys2Proof.Machine

/-- An object's record. -/
def syncObj (s : State) (n : Nat) : SyncObj := tgetD s.sync n SyncObj.zero

/-- The state with an object's record. -/
def setSync (n : Nat) (o : SyncObj) (s : State) : State := { s with sync := tset s.sync n o }

/-- A waiter's condition (R370). -/
def condHolds (cond value target : Nat) : Bool := if cond = 1 then decide (target ≤ value) else value == target

/-- The 64-byte wake record (R372). -/
def wakeRecord (s : State) (n tag value : Nat) : Nat :=
  tag + value * 2 ^ 64 + s.time % 2 ^ 64 * 2 ^ 128 + n * 2 ^ 192 + obj s 0x1021 1 * 2 ^ 212

/-- The tile's sequencer goes on: its WAIT acts as an acquire (R374). -/
def resumeTile (t : Nat) (s : State) : State :=
  { s with tiles := tset s.tiles t { tgetD s.tiles t Tile.zero with waiting := none, acquired := s.freeCtr } }

/-- A failed notification is counted (R372, R381). -/
def notifyFailed (s : State) : State := raiseEvent 0x6020 6 0 (bump 0x6020 0xB 1 s)

/-- The request that a notification is written for: the waiter's requester and tenant, class C1 of the device. -/
def notifyReq (requester tenant key address : Nat) : Req :=
  ⟨0x03, ⟨.link 0, 1, 0, 0, tenant, requester, key, address / 2 ^ 48, address % 2 ^ 48, 1, 0⟩, 0, 0, [], false⟩

/-- A satisfied waiter is notified (R372, R374). -/
def notify (n value : Nat) (w : Waiter) (s : State) : State :=
  match w.kind with
  | .tile t => resumeTile t s
  | .dma _ => s
  | .write requester address key tag tenant =>
    match fabricWrite (notifyReq requester tenant key address) address 64 (wakeRecord s n tag value) key s with
    | (.ok, s) => { s with notified := (n, address) :: s.notified }
    | (_, s) => notifyFailed s
  | .doorbell _ address key tag tenant =>
    match sendDoorbell address key tag n tenant s with
    | (.ok, s) => { s with notified := (n, address) :: s.notified }
    | (_, s) => notifyFailed s

/-- After a signal every waiter's condition is evaluated; the satisfied ones are removed and notified in the order of
their registration (R372). -/
def wakeWaiters (n : Nat) (s : State) : State :=
  let o := syncObj s n
  let (go, stay) := o.waiters.partition (fun w => condHolds w.cond o.value w.target)
  go.foldl (fun s w => notify n o.value w s) (setSync n { o with waiters := stay } s)

/-- Who signals: requester, tenant, kind (1 link, 2 tile, 3 DMA, 4 COMMAND) and unit (R369, R380). -/
structure Signaller where
  requester : Nat
  tenant : Nat
  kind : Nat
  unit : Nat
  deriving DecidableEq, Repr

/-- A signal is recorded on an object: its new value and owner, the last signaller, the count (R369, R373). -/
def applySignal (n value : Nat) (owner : Option Nat) (operand : Nat) (g : Signaller) (s : State) : State :=
  let o := syncObj s n
  wakeWaiters n (bump 0x6020 8 1 (setSync n
    { o with value := value, owner := owner, count := satInc 64 o.count 1, lastTime := s.time % 2 ^ 64, lastOperand := operand,
             lastRequester := g.requester, lastTenant := g.tenant, lastKind := g.kind, lastUnit := g.unit,
             recent := true } s))

/-- The ADD of the device on behalf of a command, at the object's home (R376, R375): applied when the command's tenant owns the
object, and otherwise blocked and counted; the home is woken if it sleeps. -/
def commandSignal (n operand requester tenant acc : Nat) (s : State) : State :=
  let s := wake (homeDom (n % 8)) s
  let o := syncObj s n
  if o.owner = some tenant then
    applySignal n ((o.value + operand) % 2 ^ 64) o.owner operand ⟨requester, tenant, 4, acc % 65536⟩ s
  else raiseEvent 0x6020 6 0 (bump 0x6020 9 1 s)

/-- A signal that a command owes, applied by COMMAND_SIGNAL once the command's writes are acknowledged (R376). -/
def oweSignal (acc n operand : Nat) (rq : Req) (s : State) : State :=
  { s with owed := tset s.owed acc ⟨obj s 0x1021 1, n, operand, rq.hdr.requester, rq.hdr.tenant⟩ }

/-- A signal that a command owes on an object of another package. -/
def oweRemote (acc package n operand : Nat) (rq : Req) (s : State) : State :=
  { s with owed := tset s.owed acc ⟨package, n, operand, rq.hdr.requester, rq.hdr.tenant⟩ }

/-- An owed signal is sent off: to its home here, or to another package (R376, R161). -/
def settleOwed (acc : Nat) (o : OwedSignal) (s : State) : State :=
  let s := { s with owed := terase s.owed acc }
  if o.package = obj s 0x1021 1 then commandSignal o.object o.operand o.requester o.tenant acc s
  else send 1 56 (o.package * 2 ^ 48) (.remoteSignal o.package o.object o.operand o.tenant) s

end Sys2Proof.Machine
end

