-- ==== Sys2Proof/Machine/Special.lean ====
section
/-! DEFINITION. The special functions of the vector unit (R77, R78): the exact results, and otherwise the binary32 results
within the stated error of a value computed here to many more bits than binary32 has. -/

namespace Sys2Proof.Machine

/-! ## Elementary functions in fixed point

A number in fixed point is an integer in units of 2^-192. A magnitude is a pair `(n, e)`: n · 2^e. -/

/-- The fraction bits of a fixed-point number. -/
abbrev fixBits : Nat := 192

/-- The number 1. -/
abbrev fixOne : Int := 2 ^ 192

/-- A dyadic number in fixed point. -/
def toFix (neg : Bool) (m : Nat) (e : Int) : Int :=
  let s := e + fixBits
  let x : Nat := if 0 ≤ s then m * 2 ^ s.toNat else m / 2 ^ (-s).toNat
  if neg then -(x : Int) else x

/-- A product in fixed point. -/
def fixMul (a b : Int) : Int := a * b / fixOne

/-- The series of the inverse hyperbolic tangent of t: its terms from the power `2i + 1` on, `p` being t to that power. -/
def atanhGo (t2 : Int) : Nat → Nat → Int → Int
  | 0, _, _ => 0
  | n + 1, i, p => p / (2 * i + 1 : Nat) + atanhGo t2 n (i + 1) (fixMul p t2)

/-- The inverse hyperbolic tangent of a number of magnitude at most 1/3. -/
def fixAtanh (t : Int) : Int := atanhGo (fixMul t t) 64 0 t

/-- The natural logarithm of 2. -/
def fixLn2 : Int := 2 * fixAtanh (fixOne / 3)

/-- The exponential series by Horner's rule, from the term `n` down. -/
def expGo (x : Int) : Nat → Int → Int
  | 0, r => r
  | n + 1, r => expGo x n (fixOne + fixMul x r / (n + 1 : Nat))

/-- The exponential of a fixed-point number; beyond ±512, any value that binary32 cannot tell from it. -/
def expOf (x : Int) : Nat × Int :=
  if 512 * fixOne < x then (1, 700)
  else if x < -512 * fixOne then (1, -700)
  else
    let l := fixLn2
    let k := (2 * x + l) / (2 * l)
    ((expGo (x - k * l) 48 fixOne).toNat, k - fixBits)

/-- 2 to the power of a fixed-point number. -/
def exp2Of (x : Int) : Nat × Int :=
  if 512 * fixOne < x then (1, 700)
  else if x < -512 * fixOne then (1, -700)
  else
    let k := (2 * x + fixOne) / (2 * fixOne)
    ((expGo (fixMul (x - k * fixOne) fixLn2) 48 fixOne).toNat, k - fixBits)

/-- The natural logarithm of a positive dyadic number, in fixed point. -/
def lnOf (m : Nat) (e : Int) : Int :=
  let b := Nat.log2 m
  let y := toFix false m (-b)
  let (y, k) : Int × Int := if 3 * fixOne ≤ 2 * y then (y / 2, b + e + 1) else (y, b + e)
  k * fixLn2 + 2 * fixAtanh ((y - fixOne) * fixOne / (y + fixOne))

/-- 1 and a magnitude of at most 1, in fixed point. -/
def onePlus (x : Nat × Int) : Int := fixOne + toFix false x.1 x.2

/-- The logistic function of a fixed-point number. -/
def sigmoidOf (x : Int) : Nat × Int :=
  let t := expOf (-(x.natAbs : Int))
  if 0 ≤ x then ((fixOne * fixOne / onePlus t).toNat, -fixBits)
  else (((t.1 : Int) * fixOne / onePlus t).toNat, t.2)

/-- The magnitude of the hyperbolic tangent of a dyadic magnitude: a short series below 2^-10. -/
def tanhOf (m : Nat) (e : Int) : Nat × Int :=
  if topExp m e < -10 then
    let x := toFix false m e
    let q := fixMul x x
    let f := fixOne - q / 3 + 2 * fixMul q q / 15 - 17 * fixMul q (fixMul q q) / 315
    (m * f.toNat, e - fixBits)
  else
    let t := expOf (-2 * (toFix false m e))
    (((fixOne - toFix false t.1 t.2) * fixOne / onePlus t).toNat, -fixBits)

/-- Twice the argument of tanh in gelu_tanh: 2 · sqrt(2/π) · (x + 0.044715 x³). -/
def geluArg (x : Int) : Int :=
  let c : Int := fixOne * 159576912160573071175978423973752747390343 / 10 ^ 41
  fixMul c (x + fixMul x (fixMul x x) * 44715 / 1000000)

/-- A power of two that makes a quotient of `a` by `b` have more than 160 bits. -/
def quotBits (a b : Nat) : Nat := 160 + Nat.log2 b - min (Nat.log2 a) (Nat.log2 b)

/-- One bit of an integer square root: `r` so far, at bit `n`. -/
def isqrtGo (x : Nat) : Nat → Nat → Nat
  | 0, r => r
  | n + 1, r => let c := r + 2 ^ n; isqrtGo x n (if c * c ≤ x then c else r)

/-- The integer square root of a number below 2^512. -/
def isqrt (x : Nat) : Nat := isqrtGo x 256 0

/-- The magnitude of 1/sqrt(m · 2^e). -/
def rsqrtOf (m : Nat) (e : Int) : Nat × Int :=
  let (m, e) : Nat × Int := if e % 2 = 0 then (m, e) else (2 * m, e - 1)
  (isqrt (2 ^ 360 / m), -180 - e / 2)

/-! ## The results -/

/-- The correctly rounded square root of a positive finite value (R77): 2^60 · m as an integer root, its last bit sticky. -/
def sqrt32 (m : Nat) (e : Int) : Nat :=
  let odd := e % 2 ≠ 0
  let m' := (if odd then 2 * m else m) * 2 ^ 60
  let e' := (if odd then e - 1 else e) - 60
  let r := isqrt m'
  let sticky := if r * r = m' then 0 else 1
  enc32 (.fin false (2 * r + sticky) (e' / 2 - 1))

/-- A finite magnitude that is a power of two: its exponent. -/
def pow2Exp (m : Nat) (e : Int) : Option Int :=
  if m ≠ 0 ∧ m = 2 ^ Nat.log2 m then some (topExp m e) else none

/-- The integer value of a finite number, where it is one and is small. -/
def asSmallInt (neg : Bool) (m : Nat) (e : Int) : Option Int :=
  if m = 0 then some 0
  else if 12 < topExp m e then none
  else if 0 ≤ e then some (scaled neg m e 0)
  else if m % 2 ^ (-e).toNat = 0 then some (if neg then -(m / 2 ^ (-e).toNat : Nat) else (m / 2 ^ (-e).toNat : Nat))
  else none

/-- The value that a number stands for, as a selector of the free values of log entry 4: its binary32 code where it has one. -/
def selectorOf (x : Fv) : Nat :=
  if fp32.decode (enc32 x) = x then enc32 x
  else match x with
    | .fin n m e => 2 ^ 32 + b2n n + 2 * (e + 4096).toNat + 2 ^ 16 * m
    | _ => enc32 x

/-- The exact results of the special functions: the exact cases of R77, the special inputs of R78, and those that IEEE
754-2019 gives a division at zeros and infinities; none where an error bound alone is stated. -/
def specialExact (f : SpecialFn) (x y : Fv) : Option Nat :=
  let inf (neg : Bool) : Option Nat := some (enc32 (.inf neg))
  let zero (neg : Bool) : Option Nat := some (enc32 (.fin neg 0 0))
  let nan : Option Nat := some 0x7FC00000
  match f, x with
  | _, .nan => nan
  | .exp2, .inf n => if n then zero false else inf false
  | .exp2, .fin n m e => (asSmallInt n m e).bind (fun k =>
      if -149 ≤ k ∧ k ≤ 127 then some (enc32 (.fin false 1 k)) else none)
  | .exp, .inf n => if n then zero false else inf false
  | .exp, .fin _ m _ => if m = 0 then some 0x3F800000 else none
  | .log2, .inf n => if n then nan else inf false
  | .log2, .fin n m e =>
    if m = 0 then inf true
    else if n then nan
    else (pow2Exp m e).map (fun k => enc32 (.fin (decide (k < 0)) k.natAbs 0))
  | .log, .inf n => if n then nan else inf false
  | .log, .fin n m e => if m = 0 then inf true else if n then nan else if pow2Exp m e = some 0 then zero false else none
  | .recip, .inf n => zero n
  | .recip, .fin n m e => if m = 0 then inf n else (pow2Exp m e).map (fun k => enc32 (.fin n 1 (-k)))
  | .divide, .inf n => (match y with | .fin k _ _ => inf (n != k) | _ => nan)
  | .divide, .fin n m _ => (match y with
    | .nan => nan
    | .inf k => zero (n != k)
    | .fin k l _ => if l = 0 then (if m = 0 then nan else inf (n != k)) else if m = 0 then zero (n != k) else none)
  | .rsqrt, .inf n => if n then nan else zero false
  | .rsqrt, .fin n m e =>
    if m = 0 then inf n else if n then nan
    else (pow2Exp m e).bind (fun k => if k % 2 = 0 then some (enc32 (.fin false 1 (-(k / 2)))) else none)
  | .sqrt, .inf n => if n then nan else inf false
  | .sqrt, .fin n m e => if m = 0 then zero n else if n then nan else some (sqrt32 m e)
  | .sigmoid, .inf n => if n then zero false else some 0x3F800000
  | .sigmoid, .fin _ m _ => if m = 0 then some 0x3F000000 else none
  | .tanh, .inf n => some (enc32 (.fin n 1 0))
  | .tanh, .fin n m _ => if m = 0 then zero n else none
  | .silu, .inf n => if n then zero true else inf false
  | .silu, .fin n m _ => if m = 0 then zero n else none
  | .geluTanh, .inf n => if n then zero true else inf false
  | .geluTanh, .fin n m _ => if m = 0 then zero n else none

/-- A finite operand's sign and magnitude. -/
def finiteOf (x : Fv) : Bool × Nat × Int := match x with | .fin n m e => (n, m, e) | _ => (false, 0, 0)

/-- The value of a special function at finite operands that no exact case covers: its sign, and its magnitude to more than
100 bits. -/
def specialReal (f : SpecialFn) (x y : Fv) : Bool × Nat × Int :=
  let (n, m, e) := finiteOf x
  let v := toFix n m e
  match f with
  | .exp2 => (false, exp2Of v)
  | .exp => (false, expOf v)
  | .log2 => let l := lnOf m e * fixOne / fixLn2; (decide (l < 0), l.natAbs, -fixBits)
  | .log => let l := lnOf m e; (decide (l < 0), l.natAbs, -fixBits)
  | .recip => (n, 2 ^ quotBits 1 m / m, -e - quotBits 1 m)
  | .divide =>
    let (k, l, g) := finiteOf y
    (n != k, m * 2 ^ quotBits m l / l, e - g - quotBits m l)
  | .rsqrt => (false, rsqrtOf m e)
  | .sqrt => (false, 0, 0)
  | .sigmoid => (false, sigmoidOf v)
  | .tanh => (n, tanhOf m e)
  | .silu => let r := sigmoidOf v; (n, m * r.1, e + r.2)
  | .geluTanh => let r := sigmoidOf (geluArg v); (n, m * r.1, e + r.2)

/-- The maximum error in units in the last place (R77). -/
def specialUlps : SpecialFn → Nat
  | .exp2 => 1 | .exp => 2 | .log2 => 1 | .log => 2 | .recip => 1 | .divide => 2 | .rsqrt => 1 | .sqrt => 0
  | .sigmoid => 2 | .tanh => 2 | .silu => 3 | .geluTanh => 4

/-- A binary32 magnitude lies within `n` units in its last place of a magnitude, give or take what the computation here
loses: 2^-48 of a unit. The code of infinity counts as 2^128. -/
def withinUlps (n code m : Nat) (e : Int) : Bool :=
  let (c, g) : Nat × Int := if code = 0x7F800000 then (1, 128) else
    let r := finiteOf (fp32.decode code); (r.2.1, r.2.2)
  let u : Int := max (bits code 30 23 : Int) 1 - 150
  let q := min (min g e) (u - 48)
  let a : Int := (c * 2 ^ (g - q).toNat : Nat)
  let b : Int := (m * 2 ^ (e - q).toNat : Nat)
  decide ((a - b).natAbs ≤ (n * 2 ^ 48 + 1) * 2 ^ (u - 48 - q).toNat)

/-- The binary32 codes that a special function may give (R77). -/
def specialCodes (f : SpecialFn) (x y : Fv) : List Nat :=
  let (neg, m, e) := specialReal f x y
  let n := specialUlps f
  let mid := min (fp32.magnitude rne m e) 0x7F800000
  let near := ((List.range (4 * n + 3)).map (fun i => mid + i - (2 * n + 1))).filter (fun c =>
    decide (c ≤ 0x7F800000) && withinUlps n c m e)
  (if near.isEmpty then [mid] else near.eraseDups).map (fun c => b2n neg * 2 ^ 31 + c)

/-- A special function's result: exact where the spec states it, and otherwise one of the codes within its error bound, the
same for the same inputs on every tile (R77, R78, log entry 4). -/
def specialOf (f : SpecialFn) (x y : Fv) : Nat :=
  match specialExact f x y with
  | some r => r
  | none =>
    let cs := specialCodes f x y
    (cs[Config.special f (selectorOf x) (selectorOf y) % cs.length]?).getD 0

/-- The same of binary32 codes. -/
def specialValue (f : SpecialFn) (x y : Nat) : Nat := specialOf f (fp32.decode x) (fp32.decode y)

end Sys2Proof.Machine
end

