-- ==== Sys2Proof/Machine/Tiles.lean ====
section
/-! DEFINITION. What the units of a tile compute: block sums and accumulations, vector operations, conversions, special
functions and reductions (chapter 2). -/

namespace Sys2Proof.Machine

/-! ## Tiles (R45, R46, R88) -/

/-- A tile's record. -/
def tile (s : State) (t : Nat) : Tile := tgetD s.tiles t Tile.zero

/-- The state with a tile's record. -/
def setTile (t : Nat) (x : Tile) (s : State) : State := { s with tiles := tset s.tiles t x }

/-- A tile runs: it is present, and its fabric die's clock runs (R46). -/
def tileRuns (s : State) (t : Nat) : Bool := tilePresent s t && awake s (fabricDom (t / 256))

/-- The flags of R88: NaN result, overflow to infinity, saturation, window truncation, clamped accumulation, invalid. -/
abbrev flNan : Nat := 1
abbrev flInf : Nat := 2
abbrev flSat : Nat := 4
abbrev flTrunc : Nat := 8
abbrev flInt : Nat := 16
abbrev flInvalid : Nat := 32

/-- A flag, when an event happened. -/
def flagIf (b : Bool) (f : Nat) : Nat := if b then f else 0

/-! ## The matrix-vector unit (R57 to R66) -/

/-- The value of an element code in a format of R108. -/
def elemValue (fmt code : Nat) : Fv :=
  match fmt with
  | 0x1 => bf16.decode code | 0x2 => fp16.decode code | 0x3 => e5m2.decode code | 0x4 => e4m3.decode code
  | 0x5 => e4m3.decode code | 0x6 => e5m2.decode code | 0x7 => e3m2.decode code | 0x8 => e2m3.decode code
  | 0x9 => e2m1.decode code
  | 0xA => let x := toInt 8 code; .fin (decide (x < 0)) x.natAbs 0
  | _ => .nan

/-- A format is microscaled (R55). -/
def isMx (fmt : Nat) : Bool := decide (5 ≤ fmt ∧ fmt ≤ 9)

/-- The bits of an element of a format of R108 (R53, R55). -/
def codeBits (fmt : Nat) : Nat :=
  match fmt with | 0x0 => 32 | 0x1 => 16 | 0x2 => 16 | 0x7 => 6 | 0x8 => 6 | 0x9 => 4 | _ => 8

/-- Two formats that a matrix-vector step pairs (R57, R58). -/
def mvPair (a b : Nat) : Bool :=
  decide (1 ≤ a ∧ a ≤ 0xA ∧ 1 ≤ b ∧ b ≤ 0xA) && ((a == 0xA) == (b == 0xA))

/-- The row lanes of a format, and of a pair: those of the lower rate (R57, R58). -/
def rowLanes (fmt : Nat) : Nat := match fmt with | 0x9 => 8 | 0x1 => 2 | 0x2 => 2 | _ => 4
def mvLanes (a b : Nat) : Nat := min (rowLanes a) (rowLanes b)

/-- A block's result: what its products come to before scaling, and the flags it raises. -/
structure BlockSum where
  value : Fv
  flags : Nat
  deriving DecidableEq, Repr

/-- The exponent A of R60: that of the largest product; none when all are zero. -/
def blockTop (ps : List Fv) : Option Int :=
  ps.foldl (fun (a : Option Int) p => match p with
    | .fin _ m e => if m = 0 then a else some (match a with | none => topExp m e | some x => max x (topExp m e))
    | _ => a) none

/-- A product truncated toward zero to a multiple of 2^q, in units of 2^q, and whether bits were lost (R60). -/
def truncTo (q : Int) (p : Fv) : Int × Bool :=
  match p with
  | .fin neg m e =>
    let x : Nat := if q ≤ e then m * 2 ^ (e - q).toNat else m / 2 ^ (q - e).toNat
    let lost : Bool := decide (e < q) && m % 2 ^ (q - e).toNat != 0
    (if neg then -(x : Int) else (x : Int), lost)
  | _ => (0, false)

/-- The block sum of R60 to R63 over products. `nanIn` says that an operand or a scale is NaN. -/
def blockSum (nanIn : Bool) (ps : List Fv) : BlockSum :=
  if nanIn then ⟨.nan, flNan⟩
  else if ps.contains .nan then ⟨.nan, flNan + flInvalid⟩
  else if ps.contains (.inf true) ∧ ps.contains (.inf false) then ⟨.nan, flNan + flInvalid⟩
  else if ps.contains (.inf true) then ⟨.inf true, 0⟩
  else if ps.contains (.inf false) then ⟨.inf false, 0⟩
  else match blockTop ps with
    | none => ⟨.fin false 0 0, 0⟩
    | some a =>
      let q := a - 41
      let ts := ps.map (truncTo q)
      let t : Int := (ts.map (·.1)).foldl (· + ·) 0
      ⟨.fin (decide (t < 0)) t.natAbs q, flagIf (ts.any (·.2)) flTrunc⟩

/-- The scaled value of a block (R59). -/
def Fv.scale (v : Fv) (k : Int) : Fv := match v with | .fin n m e => .fin n m (e + k) | v => v

/-- One FP32 accumulation (R64): the new accumulator and the flags. -/
def accFp32 (acc : Nat) (b : BlockSum) (k : Int) : Nat × Nat :=
  let a := fp32.decode acc
  let r := enc32 (a.add (b.value.scale k))
  let rv := fp32.decode r
  let invalid : Bool := decide (rv = .nan ∧ a ≠ .nan ∧ b.value ≠ .nan)
  let ovf : Bool := (match rv with | .inf _ => true | _ => false) &&
    (match a with | .inf _ => false | _ => true) && (match b.value with | .inf _ => false | _ => true)
  (r, b.flags ||| flagIf (rv = .nan) flNan ||| flagIf invalid flInvalid ||| flagIf ovf flInf)

/-- One INT32 accumulation (R65). -/
def accInt32 (acc : Nat) (b : BlockSum) : Nat × Nat :=
  let x : Int := match b.value with
    | .fin n m e => let y : Int := (m * 2 ^ e.toNat / 2 ^ (-e).toNat : Nat); if n then -y else y
    | _ => 0
  let t := toInt 32 acc + x
  let c := max (-(2 ^ 31 : Int)) (min t (2 ^ 31 - 1))
  (ofInt 32 c, b.flags ||| flagIf (c != t) flInt)

/-- A block of a row against the vector's (R59, R63): `n` elements of each as packed codes (R56, R61, R62), the products beyond them
zero, and the two scale bytes. -/
def mvBlock (wfmt vfmt n ws vs xw xv : Nat) : BlockSum × Int :=
  let wv := (List.range (min n 32)).map (fun i => elemValue wfmt (elem (codeBits wfmt) ws i))
  let vv := (List.range (min n 32)).map (fun i => elemValue vfmt (elem (codeBits vfmt) vs i))
  let nanIn : Bool := (isMx wfmt && xw == 255) || (isMx vfmt && xv == 255) || wv.contains .nan || vv.contains .nan
  let k : Int := (if isMx wfmt then (xw : Int) - 127 else 0) + (if isMx vfmt then (xv : Int) - 127 else 0)
  (blockSum nanIn (List.zipWith Fv.mul wv vv), k)

/-- A lane's accumulation of a block (R64, R65): the new accumulator and the flags. -/
def mvAccumulate (int32 : Bool) (acc : Nat) (b : BlockSum × Int) : Nat × Nat :=
  if int32 then accInt32 acc b.1 else accFp32 acc b.1 b.2

/-! ## The vector unit (R75, R76) -/

/-- A binary32 code is a signalling NaN. -/
def isSnan (x : Nat) : Bool := fp32.decode x == .nan && !bit x 22

/-- A code is an infinity. -/
def isInf (x : Nat) : Bool := match fp32.decode x with | .inf _ => true | _ => false

/-- The flags of an arithmetic result from finite, infinite and NaN operands (R75). -/
def arithFlags (r : Nat) (ops : List Nat) : Nat :=
  let nan : Bool := fp32.decode r == .nan
  let nanIn : Bool := ops.any (fun x => fp32.decode x == .nan)
  flagIf nan flNan ||| flagIf ((nan && !nanIn) || ops.any isSnan) flInvalid |||
    flagIf (isInf r && ops.all (fun x => match fp32.decode x with | .fin _ _ _ => true | _ => false)) flInf

/-- One lane of a vector step: its result and flags. A comparison is a quiet one: a signalling NaN alone is invalid to it
(DEDUCED, log entry 4). -/
def vecLane (op : VecOp) (a b c : Nat) : Nat × Nat :=
  let two (r : Nat) : Nat × Nat := (r, arithFlags r [a, b])
  match op with
  | .add => two (add32 a b)
  | .sub => two (enc32 ((fp32.decode a).add (fp32.decode b).neg))
  | .mul => two (mul32 a b)
  | .fma => let r := fma32 a b c; (r, arithFlags r [a, b, c])
  | .min => two (min32 a b)
  | .max => two (max32 a b)
  | .cmpLt => (Config.truth ((fp32.decode a).lt (fp32.decode b)) % 2 ^ 32, flagIf (isSnan a || isSnan b) flInvalid)
  | .cmpEq => (Config.truth (fp32.decode a != .nan && fp32.decode b != .nan &&
      !(fp32.decode a).lt (fp32.decode b) && !(fp32.decode b).lt (fp32.decode a)) % 2 ^ 32,
      flagIf (isSnan a || isSnan b) flInvalid)
  | .select => (if c % 2 ^ 32 ≠ 0 then a % 2 ^ 32 else b % 2 ^ 32, 0)

/-- The 32 lanes of an operand of 128 bytes, and the operand of 32 lanes. -/
def lanesOf (v : Nat) : List Nat := (List.range 32).map (fun i => bits v (32 * i + 31) (32 * i))

/-- Codes of `w` bits packed densely, the first in the lowest bits (R56). -/
def packCodes (w : Nat) (l : List Nat) : Nat := l.foldr (fun c v => c % 2 ^ w + 2 ^ w * v) 0

/-- One level of the tree: lanes 2i and 2i + 1 combine (R76). -/
def treeLevel (maximum : Bool) : List (Nat × Nat) → List (Nat × Nat)
  | a :: b :: r =>
    let v := if maximum then max32 a.1 b.1 else add32 a.1 b.1
    (v, a.2 ||| b.2 ||| arithFlags v [a.1, b.1]) :: treeLevel maximum r
  | r => r

/-- Five levels over 32 lanes. -/
def tree (maximum : Bool) (lanes : List Nat) : List (Nat × Nat) :=
  let l := (List.range 32).map (fun i => (lanes[i]?.getD 0, 0))
  treeLevel maximum (treeLevel maximum (treeLevel maximum (treeLevel maximum (treeLevel maximum l))))

/-! ## Special functions (R77, R78) -/

/-- One lane of a special function: its result and its flags. A result that is infinite at a pole is exact, and no
overflow. -/
def specialLane (f : SpecialFn) (x y : Nat) : Nat × Nat :=
  let r := specialValue f x y
  let pole : Bool := isInf r && (match f, fp32.decode x with
    | .log2, _ => true | .log, _ => true
    | .recip, .fin _ m _ => m == 0 | .rsqrt, .fin _ m _ => m == 0
    | .divide, _ => (match fp32.decode y with | .fin _ m _ => m == 0 | _ => false)
    | _, _ => false)
  (r, if pole then 0 else arithFlags r (if f = .divide then [x, y] else [x]))

/-! ## Rounding generators (R72, R73) -/

/-- One advance of a lane's generator (R72). -/
def xorshift (x : Nat) : Nat :=
  let x := x ^^^ (x * 2 ^ 13 % 2 ^ 64)
  let x := x ^^^ (x / 2 ^ 7)
  x ^^^ (x * 2 ^ 17 % 2 ^ 64)

/-- The lanes' states from a tile seed (R73). -/
def laneStates (seed : Nat) : List Nat :=
  (List.range 32).map (fun l =>
    let x := (seed ^^^ ((l + 1) * 0x9E3779B97F4A7C15 % 2 ^ 64)) % 2 ^ 64
    if x = 0 then 1 else x)

/-- The tile seed of source 1 (R73). -/
def packageSeed (s : State) (t : Nat) : Nat := (obj s 0x4010 2 ^^^ (t * 0xD1B54A32D192ED03 % 2 ^ 64)) % 2 ^ 64

/-- The next value of r of a lane; a free value on a tile that holds no generator state. -/
def drawR (t l : Nat) (s : State) : Nat × State :=
  let x := tile s t
  match x.lanes[l]? with
  | some g => let g := xorshift g; (g / 2 ^ 48, setTile t { x with lanes := x.lanes.set l g } s)
  | none => let (f, s) := drawFree s; (f % 65536, s)

/-! ## Conversions (R67 to R74) -/

/-- Rounding of `m / 2^k` by a value r of the generator (R71). -/
def stochastic (r m k : Nat) : Nat :=
  let d := if k ≤ 16 then m % 2 ^ k * 2 ^ (16 - k) else m % 2 ^ k / 2 ^ (k - 16)
  m / 2 ^ k + b2n (decide (65536 ≤ d + r))

/-- A converted element: its code, its flags (R88), and whether its block becomes NaN. -/
structure Conv where
  code : Nat
  flags : Nat
  blockNan : Bool
  deriving DecidableEq, Repr

/-- The element format of a conversion target of R108. -/
def targetFmt (target : Nat) : Option Fmt :=
  match target with
  | 0x0 => some fp32 | 0x1 => some bf16 | 0x2 => some fp16 | 0x3 => some e5m2 | 0x4 => some e4m3 | 0x5 => some e4m3
  | 0x6 => some e5m2 | 0x7 => some e3m2 | 0x8 => some e2m3 | 0x9 => some e2m1 | _ => none

/-- What a finite value beyond the largest, and an infinity, become in a floating-point format under the control word
(R68): saturate, infinity or NaN. -/
inductive Over where
  | saturate | infinity | nan
  deriving DecidableEq, Repr

/-- The overflow behaviour of a format (R67, R68). -/
def overMode (f : Fmt) (control : Nat) : Over :=
  if f = fp32 then .infinity
  else if f = bf16 then (if bit control 3 then .saturate else .infinity)
  else if f = fp16 then (if bit control 2 then .saturate else .infinity)
  else if f = e5m2 then (if bit control 1 then .infinity else .saturate)
  else if f = e4m3 then (if bit control 0 then .nan else .saturate)
  else .saturate

/-- One conversion to a floating-point format (R68 to R71). -/
def convFloat (f : Fmt) (control : Nat) (round : Nat → Nat → Nat) (v : Fv) : Conv :=
  let sign (n : Bool) : Nat := b2n n * 2 ^ (f.eb + f.mb)
  let infCode : Nat := (2 ^ f.eb - 1) * 2 ^ f.mb
  match v with
  | .nan => match f.nan with | some c => ⟨c, flNan, false⟩ | none => ⟨0, flNan, true⟩
  | .inf n =>
    if f.ieee then ⟨sign n + infCode, 0, false⟩
    else if f = e4m3 then
      (if overMode f control = .nan then ⟨0x7F, flNan, false⟩ else ⟨sign n + f.maxFinite, flSat, false⟩)
    else ⟨0, flNan, true⟩
  | .fin n m e =>
    let c := f.magnitude round m e
    if c ≤ f.maxFinite then ⟨sign n + c, 0, false⟩
    else match overMode f control with
      | .saturate => ⟨sign n + f.maxFinite, flSat, false⟩
      | .infinity => ⟨sign n + infCode, flInf, false⟩
      | .nan => ⟨0x7F, flNan, false⟩

/-- One conversion to INT8 (R68). -/
def convInt8 (round : Nat → Nat → Nat) (v : Fv) : Conv :=
  match v with
  | .nan => ⟨0, flInvalid, false⟩
  | .inf n => ⟨if n then 0x80 else 0x7F, flSat, false⟩
  | .fin n m e =>
    let x : Nat := if 0 ≤ e then m * 2 ^ e.toNat else round m (-e).toNat
    if n then (if 128 < x then ⟨0x80, flSat, false⟩ else ⟨(256 - x) % 256, 0, false⟩)
    else (if 127 < x then ⟨0x7F, flSat, false⟩ else ⟨x, 0, false⟩)

/-- The rounding of one element: nearest even, or by the lane's next value (R71, R72). -/
def roundOf (t l control : Nat) (s : State) : (Nat → Nat → Nat) × State :=
  if bit control 8 then let (r, s) := drawR t l s; (stochastic r, s) else (rne, s)

/-- One element converted (R70). -/
def convOne (t l target control : Nat) (v : Fv) (s : State) : Conv × State :=
  let (round, s) := if target = 0 then (rne, s) else roundOf t l control s
  match targetFmt target with
  | some f => (convFloat f control round v, s)
  | none => (convInt8 round v, s)

/-- Elements converted in increasing order, the lanes in turn (R72). -/
def convList (t target control : Nat) (vs : List Fv) (s : State) : List Conv × State :=
  (List.range vs.length).foldl (fun (a : List Conv × State) i =>
    let (c, s) := convOne t (i % 32) target control (vs[i]?.getD (.fin false 0 0)) a.2
    (a.1 ++ [c], s)) ([], s)

/-- emax of R74. -/
def emaxOf (target : Nat) : Int :=
  match target with | 0x5 => 8 | 0x6 => 15 | 0x7 => 4 | _ => 2

/-- The exponent X of a block of binary32 codes (R74). Of an infinity that the format keeps the rule gives none: it is then
a value that the block's codes determine (R84), free otherwise (log entry 1). -/
def blockScale (target : Nat) (vs : List Nat) : Int :=
  if vs.any isInf then ((Config.infScale vs % 255 : Nat) : Int) - 127
  else match blockTop (vs.map fp32.decode) with
    | none => 0
    | some a => max (-127) (a - emaxOf target)

/-- A block of binary32 codes converted to a microscaled format (R74): the elements and the scale byte. Every lane draws its
value of r for a block that becomes NaN too (R71 says 'every element it converts'; R74 leaves open whether zeroing an element
converts it; DESIGN CHOICE, log entry 52). -/
def convBlock (t target control : Nat) (vs : List Nat) (s : State) : (List Conv × Nat) × State :=
  let keepsInf : Bool := target == 6
  let nanIn : Bool := vs.any (fun v => fp32.decode v == .nan || (isInf v && !keepsInf))
  let x : Int := if nanIn then 0 else blockScale target vs
  let r := convList t target control (vs.map (fun v => (fp32.decode v).scale (-x))) s
  if nanIn then ((r.1.map (fun _ => ⟨0, flNan, false⟩), 255), r.2) else ((r.1, (x + 127).toNat), r.2)

end Sys2Proof.Machine
end

