-- ==== Sys2Proof/Machine/Engine.lean ====
section
/-! DEFINITION. The accesses of the package's engines: translation, its caches and faults, and the access at its home,
with what stalls it (chapters 9 and 11, R195, R510). -/

namespace Sys2Proof.Machine

/-! ## Units -/

/-- The unit of an access: the logical tile of a fabric die's engine, the DMA channel of a home die's. -/
def unitOf (a : EngineAccess) : Nat := if a.die < 8 then 4 * a.die + a.engine else 256 * (a.die - 8) + a.engine

/-- An access is a tile's. -/
def isTile (a : EngineAccess) : Bool := decide (8 ≤ a.die)

/-- An access is this tile's. -/
def ofTile (t : Nat) (a : EngineAccess) : Bool := isTile a && unitOf a == t

/-- The accesses of a tile that are not performed yet: walking, faulted or stalled. -/
def pendingOf (s : State) (t : Nat) : List Issued :=
  ((s.walks.map (·.who)) ++ (s.stalls.map (fun e => e.2.who)) ++ ((s.faults.map (fun e => e.2.joined)).flatten) ++
    s.faultNone).filter (fun i => ofTile t i.access)

/-- A tile's sequencer is stalled by an access of its own that stands at a home or faulted (R195, R310, R510). -/
def seqStalled (s : State) (t : Nat) : Bool :=
  ((s.stalls.map (fun e => e.2.who)) ++ ((s.faults.map (fun e => e.2.joined)).flatten) ++ s.faultNone).any
    (fun i => ofTile t i.access)

/-- The kinds that write (R312). -/
def isWrite (k : AccessKind) : Bool := match k with | .store => true | .releaseStore => true | .atomic => true | _ => false

/-- The kinds that read. -/
def isLoad (k : AccessKind) : Bool := match k with | .load => true | .acquireLoad => true | _ => false

/-- The class of the calls that run on a tile's cluster: the highest of theirs, C1 where none runs. -/
def callClass (s : State) (t : Nat) : Nat :=
  match (s.calls.filter (fun e => e.2.clusters.contains (t / 16))).map (fun e => e.2.posted.req.hdr.cls) with
  | [] => 1
  | c :: cs => cs.foldl min c

/-- The class of an engine's accesses (R296). -/
def engineClass (s : State) (a : EngineAccess) : Nat :=
  if isTile a then callClass s (unitOf a)
  else match tget s.dma (unitOf a) with
    | some (d :: _) => d.req.hdr.cls
    | _ => 1

/-- The tenant and the context that a tile's accesses carry: those of the handle that its cluster serves (R109, R293). -/
def ownAccess (s : State) (a : EngineAccess) : EngineAccess :=
  match tget s.clusters (unitOf a / 16) with
  | some c => (match c.handle with
    | some h => (match tget s.handles h with
      | some x => { a with tenant := x.tenant, context := if x.context = 0 then none else some x.context }
      | none => a)
    | none => a)
  | none => a

/-- The request that an engine access is made as, for its copies and its key checks. -/
def engineReq (s : State) (a : EngineAccess) (key : Nat) : Req :=
  ⟨if isWrite a.kind then 0x03 else 0x01,
    ⟨.link 0, engineClass s a, 0, 0, a.tenant, 0, key, a.address / 2 ^ 48, a.address % 2 ^ 48, 1, 0⟩, 0, a.data, [], false⟩

/-! ## Table entries and descriptors (R296 to R301) -/

/-- The lowest virtual address bit that a level's index takes. -/
def levelShift (l : Nat) : Nat := 39 - 9 * l

/-- An entry's leaf bit and contiguity (R298). -/
def entLeaf (e : Nat) : Bool := bit e 1
def entContig (e : Nat) : Nat := bits e 63 61

/-- A format fault of an entry at a level (R299). -/
def entBad (s : State) (l e : Nat) : Bool :=
  bit e 60 || bits e 11 4 != 0 || (l == 0 && entLeaf e) || (l == 3 && !entLeaf e) ||
  (!entLeaf e && (entContig e != 0 || bit e 2 || bit e 3 || bits e 59 48 != pkgNo s)) ||
  (l == 2 && entLeaf e && bits e 20 12 != 0) || (l == 1 && entLeaf e && bits e 29 12 != 0) || decide (5 ≤ entContig e)

/-- An entry permits an access (R300). -/
def entPermits (e : Nat) (k : AccessKind) : Bool := if isWrite k then bit e 3 else bit e 2

/-- Fields of a context descriptor (R296). -/
def descRoot (d : Nat) : Nat := bits d 47 12 * 4096
def descTenant (d : Nat) : Nat := bits d 75 64
def descQueue (d : Nat) : Nat := bits d 79 76
def descKey (d : Nat) : Nat := bits d 127 96

/-- A descriptor that a walk can use, but for its tenant (R297). -/
def descOk (d : Nat) : Bool := bit d 0 && bits d 11 1 == 0 && bits d 63 48 == 0 && bits d 95 80 == 0

/-- The offset of a context's descriptor, and its 16 bytes as memory has them. -/
def descAt (s : State) (c : Nat) : Nat := obj s 0x3020 2 + 16 * c
def descMem (s : State) (c : Nat) : Nat := readMem s (descAt s c) 16

/-- The descriptor that a walker of a die uses: the cached one, else memory's (R297). -/
def descFor (s : State) (die c : Nat) : Nat := (tget s.xltDesc (4096 * die + c)).getD (descMem s c)

/-- How an address is translated: to a fabric address with the entries used; a fault with its code and level and the entries
read before it, none where the descriptor is not used; or not yet, for a line at a home that sleeps or that an agent owns. -/
inductive Walked where
  | to (address : Nat) (used : List XltEntry)
  | fault (code level : Nat) (used : Option (List XltEntry))
  | wait (line : Nat)
  deriving DecidableEq, Repr

/-- What keeps a reader from an 8-byte entry or a descriptor at an offset: its home sleeps (R510); its line is poisoned, far
(R300), or owned by an agent that has not answered (R335). -/
def tableStop (s : State) (id off l : Nat) (used : Option (List XltEntry)) : Option Walked :=
  let line := off / 64
  if off < memRange s ∧ !awake s (homeDom (homeOf s off)) then some (.wait line)
  else if lineBad s line then some (.fault 5 l used)
  else if isFar s (extentOf off) then some (.fault 6 l used)
  else match (peekNeed s id [line]), peekAt s id line with
    | _ :: _, _ => some (.wait line)
    | [], some (_, true) => some (.fault 5 l used)
    | [], _ => none

/-- The `n` bytes of a table that a reader finds. -/
def tableWord (s : State) (id off n : Nat) : Nat :=
  match peekAt s id (off / 64) with
  | some (v, _) => bits v (8 * (off % 64 + n) - 1) (8 * (off % 64))
  | none => readMem s off n

/-- The non-leaf entry that a walker's cache holds for an address at a level. -/
def cachedTable (s : State) (die c l va : Nat) : Option Nat :=
  (s.xlt.find? (fun x => x.die == die && x.context == c && x.level == l && !entLeaf x.entry &&
    x.tag == va / 2 ^ levelShift l)).map (·.entry)

/-- The walk from a level down (R300): `n` levels are left; `useCache` says whether cached non-leaf entries are used. -/
def walkFrom (s : State) (id die c va : Nat) (k : AccessKind) (useCache : Bool) : Nat → Nat → List XltEntry → Walked
  | 0, _, used => .fault 3 3 (some used)
  | n + 1, table, used =>
    let l := 3 - n
    let off := table + 8 * (va / 2 ^ levelShift l % 512)
    let go (e : Nat) : Walked :=
      if !bit e 0 then .fault 1 l (some used)
      else if entBad s l e then .fault 3 l (some used)
      else
        let x : XltEntry := ⟨die, c, l, va / 2 ^ levelShift l, e⟩
        if entLeaf e then
          if entPermits e k then .to (bits e 59 12 * 4096 + va % 2 ^ levelShift l) (x :: used) else .fault 2 l (some used)
        else walkFrom s id die c va k useCache n (bits e 47 12 * 4096) (x :: used)
    match (if useCache then cachedTable s die c l va else none) with
    | some e => go e
    | none =>
      match tableStop s id off l (some used) with
      | some f => f
      | none => go (tableWord s id off 8)

/-- A walk for an access (R297, R300), as reader `id`. -/
def walk (s : State) (id : Nat) (a : EngineAccess) (c : Nat) (useCache : Bool) : Walked :=
  let cached := tget s.xltDesc (4096 * a.die + c)
  let d := cached.getD (tableWord s id (descAt s c) 16)
  match (if cached.isSome then none else tableStop s id (descAt s c) 0 none) with
  | some f => f
  | none =>
    if !descOk d then .fault 4 0 none
    else if descTenant d ≠ a.tenant then .fault 4 0 (some [])
    else walkFrom s id a.die c (a.address % 2 ^ 48) a.kind useCache 4 (descRoot d) []

/-- A leaf that a die's look-aside buffers hold for an address, a merged group covering all its pages (R301): the fabric
address it gives. -/
def cachedLeaf (s : State) (a : EngineAccess) (c : Nat) : Option Nat :=
  let va := a.address % 2 ^ 48
  (s.xlt.find? (fun x =>
    let g := 2 ^ entContig x.entry
    x.die == a.die && x.context == c && entLeaf x.entry && entPermits x.entry a.kind &&
      va / 2 ^ levelShift x.level / g == x.tag / g)).map (fun x =>
    let p := 2 ^ levelShift x.level
    bits x.entry 59 12 * 4096 + va / p * p - x.tag * p + va % p)

/-- The caches take up the entries of a walk and its descriptor (R302). -/
def fillCaches (a : EngineAccess) (c : Nat) (used : List XltEntry) (s : State) : State :=
  { s with xlt := used ++ s.xlt.filter (fun x => !(used.any (fun y => y.die == x.die && y.context == x.context &&
             y.level == x.level && y.tag == x.tag))),
           xltDesc := tset s.xltDesc (4096 * a.die + c) (descFor s a.die c) }

/-! ## Fault records (R311 to R313) -/

abbrev faultKey (q seq : Nat) : Nat := 2 ^ 32 * q + seq

/-- Objects of a fault queue. -/
def fqBase (s : State) (q : Nat) : Nat := obj s (0x3030 + q) 1
def fqEntries (s : State) (q : Nat) : Nat := obj s (0x3030 + q) 2

/-- The first access of a record. -/
def firstOf (f : FaultRec) : Option Issued := f.joined.head?

/-- The 32 bytes of a fault record (R311). -/
def faultBytes (seq : Nat) (f : FaultRec) : Nat :=
  match f.joined with
  | [] => 0
  | i :: _ =>
    let a := i.access
    let eng := if isTile a then 1 else 2
    f.time % 2 ^ 64 * 2 ^ 192 + a.address % 2 ^ 48 * 2 ^ 144 + f.id * 2 ^ 128 + a.context.getD 0 * 2 ^ 116 + a.tenant * 2 ^ 104
      + min i.replays 255 * 2 ^ 96 + a.die * 2 ^ 88 + unitOf a * 2 ^ 72 + eng * 2 ^ 64 + f.code * 2 ^ 60
      + f.level * 2 ^ 58 + b2n (isWrite a.kind) * 2 ^ 57 + min f.joined.length 0x1FF * 2 ^ 48 + seq

/-- A record is written in its slot. -/
def writeFault (q seq : Nat) (f : FaultRec) (s : State) : State :=
  match f.joined with
  | [] => s
  | i :: _ => (engineWrite (engineReq s i.access 0) (fqBase s q + seq % fqEntries s q * 32) 32 (faultBytes seq f) s).2

/-- The keys of a queue's records. -/
def faultsOf (s : State) (q : Nat) : Tab FaultRec := s.faults.filter (fun e => e.1 / 2 ^ 32 == q)

/-- A record's slot holds another fault that awaits service (R312). -/
def slotBusy (s : State) (q seq : Nat) : Bool :=
  (faultsOf s q).any (fun e => e.1 % 2 ^ 32 != seq && e.2.stage != 0 && fqEntries s q != 0 &&
    e.1 % 2 ^ 32 % fqEntries s q == seq % fqEntries s q)

/-- A record is written, or held back by a full queue (R312). -/
def tryFault (q seq : Nat) (f : FaultRec) (s : State) : State :=
  if slotBusy s q seq then s
  else writeFault q seq f (bump 0x3020 4 1 { s with faults := tset s.faults (faultKey q seq) { f with stage := 1 } })

/-- fq_outstanding of a queue follows its records. -/
def countFaults (q : Nat) (s : State) : State := setObj (0x3030 + q) 5 (faultsOf s q).length s

/-- The next fault identifier of a die that no fault awaiting service has (R311, log entry 14). -/
def nextFaultId (s : State) (die : Nat) : Nat :=
  let used := (s.faults.filter (fun e => match firstOf e.2 with | some i => i.access.die == die | none => false)).map (·.2.id)
  let n := tgetD s.faultIds die 0
  ((List.range (used.length + 1)).map (fun k => (n + k) % 65536)).find? (fun k => !used.contains k) |>.getD n

/-- An access faults: it joins a record of its context, page and direction, or raises one, or stays stalled when its
queue is disabled (R310, R312, R313). -/
def raiseFault (i : Issued) (code level : Nat) (s : State) : State :=
  let a := i.access
  let q := descQueue (descFor s a.die (a.context.getD 0))
  if fqEntries s q = 0 then raiseEvent 0x3020 8 0 { s with faultNone := s.faultNone ++ [i] }
  else
    match (faultsOf s q).find? (fun e => match firstOf e.2 with
      | some j => j.access.context == a.context && j.access.address / 4096 == a.address / 4096 &&
          isWrite j.access.kind == isWrite a.kind
      | none => false) with
    | some (k, f) =>
      let f := { f with joined := f.joined ++ [i] }
      let s := bump 0x3020 5 1 { s with faults := tset s.faults k f }
      if f.stage = 0 then s else writeFault q (k % 2 ^ 32) f s
    | none =>
      let seq := obj s (0x3030 + q) 6
      let id := nextFaultId s a.die
      let f : FaultRec := ⟨id, 0, code, level, s.time, [i]⟩
      let s := setObj (0x3030 + q) 6 ((seq + 1) % 2 ^ 32)
        { s with faults := tset s.faults (faultKey q seq) f, faultIds := tset s.faultIds a.die ((id + 1) % 65536) }
      let s := if slotBusy s q seq then raiseEvent 0x3020 8 0 s else tryFault q seq f s
      countFaults q s

/-! ## Accesses at their homes -/

/-- A tile's load entry that waits for an access takes its data. -/
def fillLoad (a : EngineAccess) (v : Nat) (bad : Bool) (s : State) : State :=
  let x := tile s (unitOf a)
  let rec go : List TileLoad → List TileLoad
    | [] => []
    | l :: ls => if l.data.isNone ∧ l.address = a.address ∧ l.bytes = a.bytes then { l with data := some v, bad := bad } :: ls
        else l :: go ls
  let acq := if a.kind = .acquireLoad then s.freeCtr else x.acquired
  setTile (unitOf a) { x with loads := go x.loads, acquired := acq } s

/-- The oldest call in flight on a tile's cluster: the one that the tile works on (DESIGN CHOICE, log entry 53). -/
def callOf (s : State) (t : Nat) : Option Nat :=
  (s.calls.find? (fun e => e.2.clusters.contains (t / 16))).map (·.1)

/-- The call that a tile works on has read substituted or poisoned data (R129). -/
def markCall (t : Nat) (subst bad : Bool) (s : State) : State :=
  match callOf s t with
  | none => s
  | some k => { s with calls := tmod s.calls k (fun c => { c with subst := c.subst || subst, poisoned := c.poisoned || bad }) }

/-- An access is over: what it read goes to the tile that asked. -/
def accessDone (i : Issued) (v : Nat) (bad : Bool) (s : State) : State :=
  if isTile i.access ∧ (isLoad i.access.kind ∨ i.access.kind = .atomic) then
    fillLoad i.access (v % 2 ^ (8 * i.access.bytes)) bad s
  else s

/-- The bytes of a range from lines, those that an owner returned among them. -/
def rangeData (s : State) (fresh : Tab Nat) (off n : Nat) : Nat :=
  (linesData s fresh (linesOf off n) >>> (8 * (off % 64))) % 2 ^ (8 * n)

/-- An engine access waits for snoops of agents that hold its lines (R335). -/
def snoopFor (i : Issued) (address : Nat) (lines : List Nat) (write : Bool) (need : List (Nat × Nat)) (s : State) : State :=
  let (k, s) := nextStall s
  let id := s.reqCtr
  let rq : Req := ⟨0xF0, { (engineReq s i.access 0).hdr with requester := 65536 }, k, 0, [], false⟩
  let s := hold (OpenReq.plain rq)
    { s with stalls := tset s.stalls k ⟨i, address, none, none, true, [], false⟩ }
  let s := lines.foldl (fun s l =>
    let mine := (need.filter (fun p => p.1 == l)).map (·.2)
    if mine.isEmpty then s
    else
      let ptrs := match tget s.dir l with | some e => e.ptrs | none => []
      let (t, s) := nextTxn s
      let s := sendSnoops t l (if write then 3 else 1) (.request id) mine ptrs s
      { s with openReqs := tmod s.openReqs id (fun o =>
          { o with snoops := mine.foldl (fun x a => sadd x (snoopKey t a)) o.snoops }) }) s
  if write then lines.foldl (fun s l => dropDir l s) s else s

/-- An access is performed at this package, its far extents near, its homes awake and its snoops answered (R195, R391). -/
def performHere (i : Issued) (off : Nat) (fresh : Tab Nat) (s : State) : State :=
  let a := i.access
  let n := a.bytes
  if isLoad a.kind then
    let ls := linesOf off n
    if ls.any (fun l => !isFar s (extentOf (64 * l)) && lineBad s l) then accessDone i (rangeData s fresh off n) true s
    else accessDone i (rangeData s fresh off n) false (touch off n s)
  else if a.kind = .atomic then
    let w := atomicWidth i.body
    if anyBad s off w then accessDone i 0 true s
    else
      let old := readMem s off w
      match atomicNew i.body old with
      | none => accessDone i old false s
      | some v => accessDone i old false (engineWrite (engineReq s a 0) off w v s).2
  else
    (engineStore (if a.die = ownUnits then a.engine else 0) (engineReq s a 0) off n a.data i.bad s).2

/-- Every far line of a load is covered by a current shadow, for a tile whose call is C0 or C1 (R195). -/
def shadowed (s : State) (a : EngineAccess) (off : Nat) : Bool :=
  isTile a && isLoad a.kind && decide (callClass s (unitOf a) ≤ 1) &&
    (linesOf off a.bytes).all (fun l => !isFar s (extentOf (64 * l)) ||
      (match substLine s (64 * l) with | .data _ => true | _ => false))

/-- An access reaches a home of this package: it is performed, or stalls for a far extent, a sleeping home, or snoops. -/
def accessHere (i : Issued) (address : Nat) (s : State) : State :=
  let a := i.access
  let off := address % 2 ^ 48
  let n := if a.kind = .atomic then atomicWidth i.body else a.bytes
  let stall (ext dom : Option Nat) (s : State) : State :=
    let (k, s) := nextStall s
    { s with stalls := tset s.stalls k ⟨i, address, ext, dom, false, [], false⟩ }
  if badOffset s off ∨ areaEnd s off < off + n ∨ pageBase ≤ off ∨ (a.kind = .atomic ∧ (off % n ≠ 0 ∨ windowBase ≤ off)) then
    accessDone i 0 true s
  else
    match (homesOf s off n).find? (fun h => off < memRange s && !awake s (homeDom h)) with
    | some h => stall none (some (homeDom h)) (wake (homeDom h) s)
    | none =>
      match (farExtents s off n).head? with
      | some e =>
        if shadowed s a off then performHere i off [] (markCall (unitOf a) true false (engineFar [e] s))
        else stall (some e) none (engineFar [e] s)
      | none =>
        let lines := linesOf off n
        let s := poisonDead lines s
        let need := if isLoad a.kind then readSnoops s lines else if a.kind = .atomic then writeSnoops s lines else []
        if need.isEmpty then performHere i off [] s
        else snoopFor i address lines (a.kind == .atomic) need s

/-- The remote copy that may serve a tile's plain load (R354, R356): of the line, in the tile's slice, young enough, and
not older than the tile's latest acquire. -/
def usableCopy (s : State) (a : EngineAccess) (address : Nat) : Option RemoteCopy :=
  if isTile a ∧ a.kind = .load ∧ address % 64 + a.bytes ≤ 64 ∧ obj s 0x6020 3 ≠ 0 then
    s.copies.find? (fun c => c.slice + 8 == a.die && c.address == address / 64 * 64 &&
      decide (s.time - c.filled ≤ obj s 0x6020 3 * 1000) && decide ((tile s (unitOf a)).acquired < c.stamp))
  else none

/-- The remote copies of a slice that share a set with an address (R354). -/
def copiesBeside (s : State) (slice address : Nat) : List RemoteCopy :=
  s.copies.filter (fun c => c.slice == slice &&
    Config.storeSet (c.address / 64) % 49152 == Config.storeSet (address / 64) % 49152)

/-- A miss of a tile's plain load fills a remote copy (R354, R355, R358), unless copies are disabled. They take at most 4 ways of a set:
which of four leaves for a fifth is open (log entry 59). -/
def fillCopy (a : EngineAccess) (address v : Nat) (s : State) : State :=
  if isTile a ∧ a.kind = .load ∧ address % 64 = 0 ∧ a.bytes = 64 ∧ address % 2 ^ 48 < windowBase ∧ obj s 0x6020 3 ≠ 0 then
    let s := { s with copies := s.copies.filter (fun x => !(x.slice == a.die - 8 && x.address == address)) }
    let s :=
      if s.copies.length < 4 then s
      else
        let same := copiesBeside s (a.die - 8) address
        if same.length < 4 then s
        else
          let (f, s) := drawFree s
          { s with copies := s.copies.filter (fun c => some c != same[f % same.length]?) }
    { s with copies := ⟨a.die - 8, address, v % 2 ^ 512, s.time, s.freeCtr⟩ :: s.copies }
  else s

/-- An access goes to its fabric address under the key of its context (R296): to this package; or, unless a remote copy
serves it, to another one, with the answer that comes back; where none is given the answer is a free value (log entry
15). -/
def accessAt (i : Issued) (address key : Nat) (r : Option Remote) (s : State) : State :=
  let a := i.access
  if address / 2 ^ 48 = pkgNo s then accessHere i address s
  else
    let (f, s) := drawFree s
    match (if f % 2 = 0 then usableCopy s a address else none) with
    | some c => accessDone i (c.data >>> (8 * (address % 64))) false s
    | none =>
      let cls := engineClass s a
      let n := if isLoad a.kind then 24 else if a.kind = .atomic then 56 else 24 + a.bytes
      if !reaches s address then accessDone i 0 true s
      else
      let s := send cls n address (.remote a.kind address a.bytes a.data key a.tenant cls) s
      let s := if i.bad then send cls n address (.remotePoison address a.bytes key a.tenant) s else s
      match r with
      | some x =>
        let bad : Bool := x.status != .ok && x.status != .okSubst
        let s := if x.status = .okSubst ∧ isTile a then markCall (unitOf a) true false s else s
        accessDone i x.data bad (if bad then s else fillCopy a address x.data s)
      | none => let (g, s) := drawFree s; accessDone i g false (fillCopy a address g s)

/-- A walk starts (R300). -/
def startWalk (i : Issued) (s : State) : State :=
  let (k, s) := nextStall s
  bump 0x3020 3 1 { s with walks := s.walks ++ [⟨i, false, 2 ^ 40 + k⟩] }

/-- An engine access is issued (R293, R294): under context 0 as it stands; else through the look-aside buffers, which may
hold an entry or may have dropped it, or else by a walk. -/
def issue (i : Issued) (r : Option Remote) (s : State) : State :=
  match i.access.context with
  | none => accessAt i i.access.address 0 r s
  | some c =>
    let (f, s) := drawFree s
    match (if f % 2 = 0 then cachedLeaf s i.access c else none) with
    | some t => accessAt i t (descKey (descFor s i.access.die c)) r s
    | none => startWalk i s

/-! ## Walks end, accesses resume (R195, R300, R308, R315) -/

/-- A walk waits for a line: its home wakes, or the agents that own it are asked. -/
def walkWaits (id line : Nat) (s : State) : State :=
  let h := homeDom (homeOf s (64 * line))
  if awake s h then (peekWait id [line] s).getD s else wake h s

/-- The walks in flight on the walker of a die: 16 at most, on a home die's 4; the others wait for it (R303). -/
def walksOf (s : State) (die : Nat) : List Walk :=
  (s.walks.filter (fun w => w.who.access.die == die)).take (if die < 8 then 4 else 16)

/-- A walk in flight ends. One that an invalidation met walks again from the root and has filled no cache (R308). -/
def endWalk (a : EngineAccess) (s : State) : State :=
  match (walksOf s a.die).find? (fun w => w.who.access == a) with
  | none => s
  | some w =>
    let ended (s : State) : State := unpeek w.id { s with walks := s.walks.erase w }
    if w.stale then startWalk w.who (ended s)
    else
      let c := a.context.getD 0
      let (f, s) := drawFree s
      match walk s w.id a c (f % 2 == 0) with
      | .wait line => walkWaits w.id line s
      | .fault code level used => raiseFault w.who code level
          (match used with | some u => fillCaches a c u (ended s) | none => ended s)
      | .to t used =>
        let s := fillCaches a c used (ended s)
        accessAt w.who t (descKey (descFor s a.die c)) none s

/-- A stalled access resumes once what it waits for has come (R195, R510). -/
def resumeStall (k : Nat) (s : State) : State :=
  match tget s.stalls k with
  | none => s
  | some x =>
    let ready := (match x.extent with | some e => !isFar s e | none => true) &&
      (match x.dom with | some d => awake s d | none => true) && !x.snooped
    if ready then
      let s := { s with stalls := terase s.stalls k }
      if x.bad then accessDone x.who 0 true s
      else if x.fresh.isEmpty then accessHere x.who x.address s
      else performHere x.who (x.address % 2 ^ 48) x.fresh s
    else
      match x.extent with
      | some e => (engineFar [e] s)
      | none => s

/-! ## Service (R314, R315) -/

/-- An aborted access returns poison to its tile, whose call completes with POISON (R315); a DMA channel's ends its transfer
(R398). -/
def abortAccess (i : Issued) (s : State) : State :=
  if isTile i.access then markCall (unitOf i.access) false true (accessDone i 0 true s)
  else { s with dma := tmod s.dma (4 * i.access.die + i.access.engine) (fun q => match q with
    | d :: r => { d with aborted := true } :: r
    | [] => []) }

/-- The record that a service write names: its key. -/
def namedFault (s : State) (die id : Nat) : Option (Nat × FaultRec) :=
  s.faults.find? (fun e => e.2.stage != 0 && e.2.id == id &&
    (match firstOf e.2 with | some i => i.access.die == die | none => false))

/-- A record's slot is free: the records of its queue that were held back for it are written. -/
def releaseHeld (q : Nat) (s : State) : State :=
  countFaults q ((faultsOf s q).foldl (fun s e => if e.2.stage = 0 then tryFault q (e.1 % 2 ^ 32) e.2 s else s) s)

/-- A write of XLT_SERVICE of a die; `tenant` is the writer's, where it has one. Reserved bits are ignored (R8). -/
def xltService (die value : Nat) (tenant : Option Nat) (s : State) : Status × State :=
  let refuse (st : Status) : Status × State := (st, bump 0x3020 7 1 s)
  let action := bits value 29 28
  if action = 0 ∨ action = 3 then refuse .unsupported
  else match namedFault s die (bits value 15 0) with
    | none => refuse .unsupported
    | some (k, f) =>
      match firstOf f with
      | none => refuse .unsupported
      | some i =>
        if i.access.context.getD 0 ≠ bits value 27 16 then refuse .unsupported
        else if tenant.isSome ∧ tenant ≠ some i.access.tenant then refuse .tenantBlocked
        else
          let s := releaseHeld (k / 2 ^ 32) { s with faults := terase s.faults k }
          if action = 1 then (.ok, f.joined.foldl (fun s j => startWalk { j with replays := min (j.replays + 1) 255 } s) s)
          else (.ok, f.joined.foldl (fun s j => abortAccess j s) s)

end Sys2Proof.Machine
end

