-- ==== Sys2Proof/Machine/Log.lean ====
section
/-! DEFINITION. The custody log: its entries, their chain, its checkpoints and its reserve (R590 to R594). -/

namespace Sys2Proof.Machine

/-- log_capacity, the reserve, and 90 % of the capacity rounded up. -/
abbrev logCapacity : Nat := 2097152
abbrev logReserve : Nat := 4096
abbrev logWarn : Nat := 1887437

/-- The unit that is programmed next. -/
def logNext (s : State) : Nat := s.log.length

/-- Entry types that may use the reserve (R594): CHECKPOINT, BREAK, BOOT, PURGE, HANDOVER, CONDITION. -/
def logReserved (ty : Nat) : Bool := [0x1, 0x2, 0x10, 0x40, 0x41, 0x42].contains ty

/-- Room for an entry of a type. -/
def logRoom (s : State) (ty : Nat) : Bool :=
  if logReserved ty then decide (logNext s < logCapacity) else decide (logNext s + logReserve < logCapacity)

/-- Bytes 0 to 31 of the digest of the previous unit; zero for unit 0 (R591). -/
def logChain (s : State) : Nat :=
  match s.log with
  | [] => 0
  | u :: _ => shake256 128 u % 2 ^ 256

/-- A unit is programmed; custody_event is raised when 90 % of the log is (R594). -/
def logUnit (u : Nat) (s : State) : State :=
  let n := logNext s
  let s := setObj 0xB040 1 (n + 1) { s with log := u :: s.log }
  if n + 1 = logWarn then raiseEvent 0xB040 7 2 s else s

/-- An entry's unit (R591). -/
def logEntry (s : State) (ty actor tenant payload : Nat) : Nat :=
  ty % 2 ^ 16 + actor % 2 ^ 8 * 2 ^ 24 + tenant % 2 ^ 12 * 2 ^ 32 + logNext s * 2 ^ 64 + obj s 0x2001 3 % 2 ^ 32 * 2 ^ 160
    + s.time % 2 ^ 64 * 2 ^ 192 + logChain s * 2 ^ 256 + payload % 2 ^ 512 * 2 ^ 512

/-- A signature block in the layout of R99 for a digest, by a key slot of the device, with the fingerprint it names. -/
def sigBlock (slot fingerprint digest : Nat) : Nat :=
  slot + 2 ^ 8 + 3309 * 2 ^ 16 + fingerprint % 2 ^ 64 * 2 ^ 32 + Config.sign slot digest % 2 ^ 26472 * 2 ^ 128

/-- A CHECKPOINT entry and the 26 units of its signature (R592). -/
def checkpoint (s : State) : State :=
  if logNext s + 27 ≤ logCapacity then
    let n := logNext s
    let u := logEntry s 1 0 0 s.lastCheck
    let s := logUnit u { s with lastCheck := n, sinceCheck := 0 }
    let b := sigBlock 0xFE (obj s 0xB010 1) (shake256 128 u)
    (List.range 26).foldl (fun s i => logUnit (bits b (1024 * i + 1023) (1024 * i)) s) s
  else bump 0xB040 6 1 s

/-- An entry is appended, or counted in log_dropped when there is no room; a checkpoint follows where R592 asks for one. -/
def appendLog (ty actor tenant payload : Nat) (s : State) : State :=
  if logRoom s ty then
    let s := logUnit (logEntry s ty actor tenant payload) { s with sinceCheck := s.sinceCheck + 1 }
    if 64 ≤ s.sinceCheck ∨ [0x40, 0x41, 0x42].contains ty then checkpoint s else s
  else bump 0xB040 6 1 s

/-- A REPAIR entry: kind, die, unit and result (R591, log entry 18). -/
def logRepair (kind die unit result : Nat) (s : State) : State :=
  appendLog 0x30 0 0 (kind % 256 + die % 256 * 2 ^ 8 + unit % 2 ^ 16 * 2 ^ 16 + result % 2 ^ 32 * 2 ^ 32) s

end Sys2Proof.Machine
end

