-- ==== Sys2Proof/Machine/Posted.lean ====
section
/-! DEFINITION. What posted commands share: their acceptance, their result records and the signals they owe (R36, R116,
R376). -/

namespace Sys2Proof.Machine

/-- The checks of a posted command (R388, R389, R400): the package by offset zero, the command permission. `maxLen` is
none where the length field is reserved. -/
def postedChecks (bad : Bool) (maxLen : Option Nat) (badBody absent : Bool) (targets : List Nat) : Checks :=
  { badField := bad, names := .package, maxLen := maxLen, one := false, absent := absent, targets := targets,
    perm := some 3, also := none, badBody := badBody }

/-- The record of a command, `n` bytes at an offset of this package; where the write is refused the record is not written. -/
def writeRecord (acc : Nat) (rq : Req) (off n v : Nat) (s : State) : State := (engineStore acc rq off n v false s).2

/-- A record may stand at an offset: aligned to its size, in the memory range. -/
def recordAt (s : State) (off n : Nat) : Bool := off % n == 0 && decide (off + n ≤ memRange s)

/-- The end of a command: its record, where enabled, and then its signal, where enabled, which COMMAND_SIGNAL applies. -/
def endPosted (rq : Req) (acc : Nat) (rec : Bool) (recOff n v : Nat) (sig : Bool) (object value : Nat) (s : State) : State :=
  let s := if rec then writeRecord acc rq recOff n v s else s
  if sig then oweSignal acc object value rq s else s

/-- Nanoseconds since a time, stopping at 32 bits of ones. -/
def elapsed (s : State) (at_ : Nat) : Nat := min (s.time - at_) 0xFFFFFFFF

/-- The policy code of PIN_NEAR (R176). -/
abbrev pinNear : Nat := 1

/-- A range lies in one active object of a policy. -/
def inPinned (s : State) (off n : Nat) : Bool :=
  decide (off + n ≤ memRange s) &&
  s.placed.any (fun p => p.2.policy == pinNear && decide (entryBase p.2.entry ≤ off ∧
    off + n ≤ entryBase p.2.entry + entryCount p.2.entry * extentBytes))

/-! ## What engines read and write for their commands (R195, R401, R402) -/

/-- A read by an engine: it waits for the far tier or a sleeping home, or it is answered. -/
inductive Fetched where
  | wait (s : State)
  | got (st : Status) (data : Nat) (s : State)

/-- A read that brought its data: good, or a shadow's, which its command then says (R14). -/
def usable (st : Status) : Bool := st == .ok || st == .okSubst

/-- A range of this package as an engine reads it for what `id` numbers, without a key. -/
def fetchHere (id off n : Nat) (s : State) : Fetched :=
  if badOffset s off ∨ areaEnd s off < off + n then .got .unsupported 0 s
  else
    let asleep := (if off < memRange s then homesOf s off n else []).filter (fun h => !awake s (homeDom h))
    let far := farExtents s off n
    if !asleep.isEmpty then .wait (asleep.foldl (fun s h => wake (homeDom h) s) s)
    else if !far.isEmpty then .wait (engineFar far s)
    else
      let ls := if off < memRange s then linesOf off n else []
      let s := poisonDead ls s
      match peekWait id ls s with
      | some s => .wait s
      | none =>
        if anyBad (view id s) off n then .got .poison 0 (unpeek id s)
        else .got .ok (readMem (view id s) off n) (unpeek id (touch off n s))

/-- A range at a fabric address under a key: of this package; of another one, with the answer that comes back; without a
path to it the access times out (R406). -/
def fetch (id : Nat) (rq : Req) (address n key : Nat) (r : Remote) (s : State) : Fetched :=
  if address / 2 ^ 48 = pkgNo s then
    if obj s 0x7020 3 = 1 ∨ keyOk s key rq.hdr.tenant 0 [(address % 2 ^ 48, n)] then fetchHere id (address % 2 ^ 48) n s
    else .got .keyDenied 0 s
  else if reaches s address then
    .got r.status (r.data % 2 ^ (8 * n)) (send rq.hdr.cls 24 address (.remote .load address n 0 key rq.hdr.tenant rq.hdr.cls) s)
  else .got .internal 0 s

/-- An engine's write of `n` bytes at a fabric address under a key, poisoned or not. -/
def fabricPut (unit : Nat) (rq : Req) (address n v key : Nat) (bad : Bool) (s : State) : Status × State :=
  if address / 2 ^ 48 = pkgNo s ∧ bad then
    if obj s 0x7020 3 = 1 ∨ keyOk s key rq.hdr.tenant 1 [(address % 2 ^ 48, n)] then
      engineStore unit rq (address % 2 ^ 48) n v true s
    else (.keyDenied, s)
  else
    let (st, s) := fabricStore unit rq address n v key s
    (st, if bad then send rq.hdr.cls (24 + n) address (.remotePoison address n key rq.hdr.tenant) s else s)

end Sys2Proof.Machine
end

