-- ==== Sys2Proof/Machine/DapCore.lean ====
section
/-! DEFINITION. The dictionary's protocol: sessions, sequence numbers, the checking order of R462, guarded writes and
segments (R453 to R470). -/

namespace Sys2Proof.Machine

/-! ## Requests as the dictionary takes them -/

/-- The operations of the protocol (R456). -/
abbrev dapRead : Nat := 3
abbrev dapWrite : Nat := 4
abbrev dapGuarded : Nat := 5
abbrev dapSubscribe : Nat := 6
abbrev dapUnsubscribe : Nat := 7

/-- A request that has passed steps 1 to 8: where it came from, whom it acts for, its object, and for a write its whole
value. -/
structure Ctx where
  port : Port
  id : Nat
  op : Nat
  /-- The kind of session, in the codes of a log entry's actor (R591): 1 I3C implicit, 2 management, 3 tenant. -/
  actor : Nat
  tenant : Nat
  requester : Nat
  index : Nat
  sub : Nat
  segOffset : Nat
  bytes : Nat
  value : Nat
  deriving DecidableEq, Repr

/-- A message can arrive: the dictionary answers on I3C, and on Ethernet once the port has trained (R15). -/
def dapArrives (s : State) (p : Port) : Bool :=
  dictLive s && (match p with | .i3c => true | .eth => obj s 0x7100 1 == 2)

/-- A response that leaves the session's last response as it is (R457, R458). -/
def dapEcho (r : DapReply) (s : State) : State :=
  match r.port with
  | .eth => emit (.dap r) s
  | .i3c => emit (.ibi 1) { s with dict := { s.dict with i3cReplies := s.dict.i3cReplies ++ [r] } }

/-- While the management core restarts, the root of trust answers every request with DEFER and retry_hint 0xFF (R542). -/
def restartReply (m : DapMsg) (s : State) : State :=
  dapEcho ⟨m.port, m.session, m.seq, m.index, m.sub, .defer, 0xFF, 0, 0, 0, 0⟩ s

/-- A refusal at step 1: counted, nothing performed; total_length carries the last sequence number performed (R458). -/
def dapRefuseSeq (m : DapMsg) (last : Nat) (s : State) : State :=
  dapEcho ⟨m.port, m.session, m.seq, m.index, m.sub, .unsupported, 0, 0, last, 0, 0⟩ (bump 0x1030 5 1 s)

/-- The kind of session as a log entry's actor. -/
def actorOf : SessKind → Nat
  | .implicit => 1
  | .management _ => 2
  | .tenant _ _ => 3

/-- The tenant that a request acts for (R453). -/
def actingOf (k : SessKind) (m : DapMsg) : Nat :=
  match k with
  | .tenant _ t => t
  | _ => m.actingTenant

/-- The requester of a tenant session; zero for the others. -/
def requesterOf : SessKind → Nat
  | .tenant r _ => r
  | _ => 0

/-- A write's answer carries eight bytes of result: it goes to a CMD object or a command (R459). -/
def carriesResult (c : Ctx) : Bool :=
  (c.op == dapWrite || c.op == dapGuarded) && (match objRow c.index c.sub with
    | some r => r.acc == .cmd || (r.acc == .wo && okey c.index c.sub != 0x105004)
    | none => false)

/-- The end of a request with a status. -/
def fin (c : Ctx) (st : Status) (hint : Nat) (s : State) : State :=
  dapFinish c.port c.id st hint (if st = .ok ∧ carriesResult c then 8 else 0) 0 s

/-- The end with OK; the end with UNSUPPORTED. -/
def finOk (c : Ctx) (s : State) : State := fin c .ok 0 s
def finBad (c : Ctx) (s : State) : State := fin c .unsupported 0 s

/-- The record of a guarded write (R465, R591): index, sub-index and a digest of the value. -/
def guardedEntry (c : Ctx) (s : State) : State :=
  appendLog 0x20 c.actor c.tenant
    (c.index + c.sub * 2 ^ 16 + shake256 c.bytes c.value % 2 ^ 480 * 2 ^ 32) s

/-- A write that takes effect: its change, its record where it is guarded, OK. A guarded one finds no room in the log: DEFER,
and nothing is performed (R465, R594). -/
def applied (c : Ctx) (f : State → State) (s : State) : State :=
  if c.op = dapGuarded then
    if logRoom s 0x20 then finOk c (guardedEntry c (f s)) else fin c .defer 0 s
  else finOk c (f s)

/-- The same where another entry takes the place of GUARDED_WRITE; `f` appends it. -/
def appliedWith (c : Ctx) (ty : Nat) (f : State → State) (s : State) : State :=
  if logRoom s ty then finOk c (f s) else fin c .defer 0 s

/-! ## Availability (R463, R474) -/

/-- The self-test step that an object's unit is tested in, by the object's index (R463, log entry 21); none: no step. -/
def testStep (index : Nat) : Option Nat :=
  if index / 0x1000 = 3 then (if 0x3020 ≤ index then some 2 else some 5)
  else if index / 0x1000 = 4 then some 4
  else if index / 0x1000 = 5 ∨ index / 0x1000 = 6 ∨ index / 0x1000 = 8 then some 2
  else if index / 0x1000 = 7 then
    (if 0x7100 ≤ index then some 6 else if 0x7040 ≤ index ∧ index < 0x7060 then some 3 else some 2)
  else if index / 0x1000 = 9 then some 5
  else none

/-- The power domain of the one unit that a VOLATILE object shows (R463, log entry 21). -/
def unitDom (s : State) (index sub : Nat) : Option Nat :=
  if 0x7100 ≤ index ∧ index ≤ 0x7110 ∧ index ≠ 0x7101 then some 3
  else if index = 0x4021 ∧ 1 ≤ sub ∧ fabricPresent s ((sub - 1) / 16) then some (fabricDom ((sub - 1) / 16))
  else if index = 0x6021 ∧ sub = 2 then some (homeDom (obj s 0x6021 1 % 8))
  else none

/-- Objects that are served in every state that has a dictionary. -/
def alwaysServed (index : Nat) (r : ObjRow) : Bool :=
  index / 0x1000 == 1 || r.pers != .volatile ||
    ((decide (0xA ≤ index / 0x1000 ∧ index / 0x1000 ≤ 0xC)) && (r.pers == .volatile || r.acc == .cmd))

/-- Step 6 (R463): none, or the hint of a DEFER and the domain it wakes. -/
def unavailable (s : State) (index sub : Nat) (r : ObjRow) : Option (Nat × Option Nat) :=
  if alwaysServed index r then none
  else match s.pkg with
    | .selfTest =>
      if 0xF000 ≤ index then some (0, none)
      else match testStep index with
        | some n => if s.selfDone.contains n then none else some (0, none)
        | none => none
    | .ready => (match unitDom s index sub with
      | some d => if 2 ≤ (dom s d).st then some (wakeHint s d, some d) else none
      | none => none)
    | .draining => (match unitDom s index sub with
      | some d => if 2 ≤ (dom s d).st then some (wakeHint s d, some d) else none
      | none => none)
    | _ => some (0, none)

/-- An object serves only absent units (R474). -/
def absentObject (s : State) (index sub : Nat) : Bool :=
  (decide (0x9010 ≤ index ∧ index ≤ 0x91FF) && obj s 0x1020 2 == 0) ||
  (index == 0x4021 && decide (1 ≤ sub) && !fabricPresent s ((sub - 1) / 16))

/-! ## The checking order (R462) -/

/-- Step 4: what a tenant session may do (R455). -/
def tenantMay (op key : Nat) : Bool :=
  if op = dapRead then decide (0x100000 ≤ key ∧ key < 0x200000) || key == 0x602102
  else if op = dapWrite then [0x602101, 0x301200, 0x402200, 0x704400, 0x706002].contains key
  else if op = dapGuarded then false
  else key == 0x101005

/-- Step 5: what an access code allows (R448, R470). -/
def accAllows (op : Nat) (r : ObjRow) : Bool :=
  if op = dapRead then r.acc != .wo
  else if op = dapWrite then r.acc == .rw || r.acc == .wo || r.acc == .cmd
  else if op = dapGuarded then r.acc == .rwg
  else r.ty == .event

/-- The size of a type in bytes; a STRING and a variable DOMAIN: the largest. -/
def tyBytes : ObjTy → Nat
  | .u8 => 1 | .bool => 1 | .u16 => 2 | .u32 => 4 | .i32 => 4 | .u64 => 8 | .event => 16 | .string => 256
  | .blob n => n | .domain _ n => n

/-- The type has one size. -/
def tyFixed : ObjTy → Bool
  | .string => false
  | .domain f _ => f
  | _ => true

/-- A type that is written in segments. -/
def isDomain : ObjTy → Bool
  | .domain _ _ => true
  | _ => false

/-- The state with a session's staged segments. -/
def setStage (p : Port) (id : Nat) (x : Option (Nat × Nat × Nat × Nat)) (s : State) : State :=
  match session s p id with
  | some y => setSession p id { y with stage := x } s
  | none => s

/-- The value bytes of a message, without their complement. -/
def ownBytes (op : Nat) (m : DapMsg) : Nat := if op = dapGuarded then m.count / 2 else m.count

/-- Step 8: every complement byte is the complement of its value byte (R464). -/
def complementOk (op : Nat) (m : DapMsg) : Bool :=
  op != dapGuarded || (m.count % 2 == 0 &&
    m.value % 2 ^ (8 * (m.count / 2)) + m.value / 2 ^ (8 * (m.count / 2)) % 2 ^ (8 * (m.count / 2)) + 1
      == 2 ^ (8 * (m.count / 2)))

/-- A guarded write is discarded for its complement (R464). -/
def guardFailed (c : Ctx) (s : State) : State :=
  fin c .checkFail 0 (raiseEvent 0x1030 7 0 (bump 0x1030 4 1 (setStage c.port c.id none s)))

/-- Steps 7 and 8 of a write of one value (R466). -/
def writeValue (op : Nat) (m : DapMsg) (c : Ctx) (r : ObjRow) (act : Ctx → State → State) (s : State) : State :=
  let size := tyBytes r.ty
  if m.segOffset ≠ 0 then finBad c s
  else if m.totalLength = 0xFFFFFFFF ∨ size < m.totalLength then fin c .badLength 0 s
  else if m.totalLength = 0 then finOk c s
  else if tyFixed r.ty ∧ m.totalLength < size then finBad c s
  else if m.count ≠ (if op = dapGuarded then 2 * m.totalLength else m.totalLength) then fin c .badLength 0 s
  else if !complementOk op m then guardFailed c s
  else
    let v := m.value % 2 ^ (8 * m.totalLength)
    if r.ty = .bool ∧ 1 < v then finBad c s else act { c with bytes := m.totalLength, value := v } s

/-- Steps 7 and 8 of a segment of a DOMAIN write (R467). -/
def writeSegment (op : Nat) (m : DapMsg) (c : Ctx) (r : ObjRow) (act : Ctx → State → State) (s : State) : State :=
  let size := tyBytes r.ty
  let key := okey c.index c.sub
  let n := ownBytes op m
  let v := m.value % 2 ^ (8 * n)
  let drop (s : State) : State := setStage c.port c.id none s
  if m.totalLength = 0xFFFFFFFF ∨ size < m.totalLength then fin c .badLength 0 (drop s)
  else if m.totalLength = 0 then finOk c (drop s)
  else if tyFixed r.ty ∧ m.totalLength < size then finBad c (drop s)
  else if op = dapGuarded ∧ m.count % 2 = 1 then fin c .badLength 0 (drop s)
  else if !complementOk op m then guardFailed c s
  else
    let staged := match session s c.port c.id with | some x => x.stage | none => none
    let had : Option (Nat × Nat) :=
      if m.segOffset = 0 then some (0, 0)
      else match staged with
        | some (k, b, w, t) => if k = key ∧ b = m.segOffset ∧ t = m.totalLength then some (b, w) else none
        | none => none
    match had with
    | none => finBad c (drop s)
    | some (b, w) =>
      if m.totalLength < b + n then fin c .badLength 0 (drop s)
      else if b + n = m.totalLength then act { c with bytes := b + n, value := w + v * 2 ^ (8 * b) } (drop s)
      else fin c .ok 0 (setStage c.port c.id (some (key, b + n, w + v * 2 ^ (8 * b), m.totalLength)) s)

/-- Step 7 of a read (R466, R468), and the act. -/
def readValue (m : DapMsg) (c : Ctx) (r : ObjRow) (act : Ctx → State → State) (s : State) : State :=
  if m.totalLength ≠ 0 ∨ (!isDomain r.ty ∧ m.segOffset ≠ 0) then finBad c s
  else act { c with segOffset := m.segOffset } s

/-- Steps 2 to 8 of a request whose session and sequence are in order, and then its act. -/
def dapSteps (op : Nat) (m : DapMsg) (k : SessKind) (act : Ctx → State → State) (s : State) : State :=
  let c : Ctx := ⟨m.port, m.session, op, actorOf k, actingOf k m, requesterOf k, m.index, m.sub, 0, 0, 0⟩
  let tenantField : Bool := match k with | .tenant _ _ => m.actingTenant != 0 | _ => false
  if m.reserved ≠ 0 ∨ m.version ≠ 1 ∨ tenantField then finBad c (bump 0x1030 5 1 s)
  else if m.valueLength = 0xFFFF ∨ 8160 < m.valueLength ∨ m.valueLength ≠ m.count then
    fin c .badLength 0 (bump 0x1030 5 1 s)
  else match objRow m.index m.sub with
    | none => finBad c s
    | some r =>
      if actorOf k = 3 ∧ !tenantMay op (okey m.index m.sub) then fin c .tenantBlocked 0 s
      else if !accAllows op r then finBad c s
      else match unavailable s m.index m.sub r with
        | some (hint, d) => fin c .defer hint (match d with | some d => wake d s | none => s)
        | none =>
          if op = dapRead then readValue m c r act s
          else if op = dapSubscribe ∨ op = dapUnsubscribe then act c s
          else
            let act' (c : Ctx) (s : State) : State := if absentObject s c.index c.sub then finBad c s else act c s
            if isDomain r.ty then writeSegment op m c r act' s else writeValue op m c r act' s

/-- The staged segments of another object are discarded by a write (R467). -/
def keepStage (op key : Nat) (x : Option (Nat × Nat × Nat × Nat)) : Option (Nat × Nat × Nat × Nat) :=
  match x with
  | some (k, y) => if (op = dapWrite ∨ op = dapGuarded) ∧ k ≠ key then none else some (k, y)
  | none => none

/-- A request of a session (R457, R462): step 1, and the rest. -/
def dapServe (op : Nat) (m : DapMsg) (act : Ctx → State → State) (s : State) : State :=
  if !dapArrives s m.port then s
  else if s.fw.restarting then restartReply m s
  else match session s m.port m.session with
    | none => dapRefuseSeq m 0 s
    | some x =>
      let outside : Bool := match x.kind with | .management _ => !m.secured | _ => m.secured
      if outside then dapRefuseSeq m x.lastSeq s
      else if m.seq = x.lastSeq then
        match x.busy, x.last with
        | some _, _ => dapEcho ⟨m.port, m.session, m.seq, m.index, m.sub, .defer, 1, 0, 0, 0, 0⟩ s
        | none, some r => dapEcho r s
        | none, none => dapRefuseSeq m x.lastSeq s
      else if m.seq = (x.lastSeq + 1) % 65536 ∧ x.busy.isNone then
        let key := okey m.index m.sub
        let y : Session := { x with lastSeq := m.seq, last := none, busy := some key, lastUse := s.time,
                                    stage := keepStage op key x.stage }
        dapSteps op m x.kind act (setSession m.port m.session y s)
      else dapRefuseSeq m x.lastSeq s

/-- A message to one object, whatever object it was written to name. -/
def toObj (m : DapMsg) (index sub : Nat) : DapMsg := { m with index := index, sub := sub }

/-- A write of 1 to a CMD object that clears counters; any other value is refused. -/
def clearing (c : Ctx) (f : State → State) (s : State) : State := if c.value = 1 then applied c f s else finBad c s

/-! ## Subscriptions (R470) -/

/-- SUBSCRIBE. -/
def doSubscribe (c : Ctx) (s : State) : State :=
  match session s c.port c.id with
  | none => s
  | some x =>
    let key := okey c.index c.sub
    if x.subs.contains key then finOk c s
    else if 16 ≤ x.subs.length then fin c .defer 0 s
    else finOk c (setSession c.port c.id { x with subs := sadd x.subs key } s)

/-- UNSUBSCRIBE. -/
def doUnsubscribe (c : Ctx) (s : State) : State :=
  match session s c.port c.id with
  | none => s
  | some x => finOk c (setSession c.port c.id { x with subs := sdel x.subs (okey c.index c.sub) } s)

/-- DAP_SUBSCRIBE (R470). -/
def execDapSubscribe (d : DapMsg) (s : State) : Host.Outcome State Fault Refusal :=
  .next (dapServe dapSubscribe d doSubscribe s)

/-- DAP_UNSUBSCRIBE (R470). -/
def execDapUnsubscribe (d : DapMsg) (s : State) : Host.Outcome State Fault Refusal :=
  .next (dapServe dapUnsubscribe d doUnsubscribe s)

/-! ## Sessions end, and the I3C transport (R455, R458, R461) -/

/-- The DAP sessions that are open; the I3C implicit session is none of them. -/
def sessionsOpen (s : State) : Nat := s.dict.eth.length + (s.dict.i3c.filter (fun e => e.1 != 0)).length

/-- A session closes. -/
def closeSession (p : Port) (id : Nat) (s : State) : State :=
  match p with
  | .i3c => { s with dict := { s.dict with i3c := terase s.dict.i3c id, i3cNotes := s.dict.i3cNotes.filter (fun n => n.1 != id) } }
  | .eth => { s with dict := { s.dict with eth := terase s.dict.eth id } }

/-- The tenant sessions of a requester close when its composition entry is freed (R455). -/
def closeTenants (requester : Nat) (s : State) : State :=
  let mine (e : Nat × Session) : Bool := match e.2.kind with | .tenant r _ => r == requester | _ => false
  { s with dict := { s.dict with eth := s.dict.eth.filter (fun e => !mine e), i3c := s.dict.i3c.filter (fun e => !mine e) } }

/-- Every session closes; the implicit session's sequence starts again (R455, R458). -/
def closeAllSessions (s : State) : State :=
  { s with dict := { s.dict with eth := [], i3c := [(0, Session.fresh .implicit s.time)], i3cReplies := [], i3cNotes := [] } }

/-- The lowest session number that is free on both ports, 1 to 32. -/
def freeSession (s : State) : Option Nat :=
  ((List.range 32).map (· + 1)).find? (fun n => (tget s.dict.eth n).isNone && (tget s.dict.i3c n).isNone)

/-- An OPEN's answer: the new session's number in its header (R454). -/
def openReply (m : DapMsg) (id : Nat) (st : Status) (s : State) : State :=
  dapEcho ⟨m.port, id, m.seq, m.index, m.sub, st, 0, 0, 0, 0, 0⟩ s

/-- A session opens, unless every one is in use. -/
def openSession (m : DapMsg) (k : SessKind) (s : State) : State :=
  if 32 ≤ sessionsOpen s then openReply m 0 .defer s
  else match freeSession s with
    | none => openReply m 0 .defer s
    | some n => openReply m n .ok (setSession m.port n (Session.fresh k s.time) s)

/-- The checks of step 2 that an OPEN meets. -/
def openBad (m : DapMsg) (n : Nat) : Option Status :=
  if m.session ≠ 0 ∨ m.reserved ≠ 0 ∨ m.version ≠ 1 then some .unsupported
  else if m.valueLength = 0xFFFF ∨ 8160 < m.valueLength ∨ m.valueLength ≠ m.count ∨ m.count ≠ n then some .badLength
  else none

/-- An OPEN refused at step 2 is counted. -/
def openRefused (m : DapMsg) (st : Status) (s : State) : State := openReply m 0 st (bump 0x1030 5 1 s)

/-- A tenant OPEN (R454): the requester in bytes 0 and 1, the region key in bytes 2 to 5. -/
def doOpenTenant (m : DapMsg) (s : State) : State :=
  if !dapArrives s m.port then s
  else if s.fw.restarting then restartReply m s
  else match openBad m 6 with
    | some st => openRefused m st s
    | none =>
      if m.port = .i3c then openReply m 0 .unsupported s
      else if !serving s then openReply m 0 .defer s
      else
        let requester := bits m.value 15 0
        match compOf s requester with
        | none => openReply m 0 .keyDenied s
        | some (_, e) =>
          if e.draining ∨ e.tenant = 0xFFF ∨ !keyOk s (bits m.value 47 16) e.tenant 3 [] then openReply m 0 .keyDenied s
          else openSession m (.tenant requester e.tenant) s

/-- DAP_OPEN_TENANT (R454). -/
def execDapOpenTenant (d : DapMsg) (s : State) : Host.Outcome State Fault Refusal := .next (doOpenTenant d s)

/-- DAP_CLOSE (R455): the answer leaves as the session ends; the implicit session has none to end. -/
def doClose (m : DapMsg) (s : State) : State :=
  if !dapArrives s m.port then s
  else if s.fw.restarting then restartReply m s
  else match session s m.port m.session with
    | none => dapRefuseSeq m 0 s
    | some x =>
      let outside : Bool := match x.kind with | .management _ => !m.secured | _ => m.secured
      if outside then dapRefuseSeq m x.lastSeq s
      else if m.seq = x.lastSeq then
        match x.busy, x.last with
        | some _, _ => dapEcho ⟨m.port, m.session, m.seq, m.index, m.sub, .defer, 1, 0, 0, 0, 0⟩ s
        | none, some r => dapEcho r s
        | none, none => dapRefuseSeq m x.lastSeq s
      else if m.seq = (x.lastSeq + 1) % 65536 ∧ x.busy.isNone then
        let s := setSession m.port m.session { x with lastSeq := m.seq, lastUse := s.time, busy := some (okey m.index m.sub), stage := none } s
        if m.reserved ≠ 0 ∨ m.version ≠ 1 ∨ x.kind = .implicit then
          dapFinish m.port m.session .unsupported 0 0 0 (if x.kind = .implicit then s else bump 0x1030 5 1 s)
        else if m.valueLength ≠ m.count ∨ 8160 < m.valueLength then
          dapFinish m.port m.session .badLength 0 0 0 (bump 0x1030 5 1 s)
        else closeSession m.port m.session (dapFinish m.port m.session .ok 0 0 0 s)
      else dapRefuseSeq m x.lastSeq s

/-- DAP_CLOSE (R455). -/
def execDapClose (d : DapMsg) (s : State) : Host.Outcome State Fault Refusal := .next (doClose d s)

/-- DAP_SESSION_IDLE_TIMEOUT (R455): not the I3C implicit session, which is never opened. -/
def execDapSessionIdleTimeout (port : Port) (session : Nat) (s : State) : Host.Outcome State Fault Refusal :=
  .next (if port = .i3c ∧ session = 0 then s else closeSession port session s)

/-- I3C_SETDASA (R461). -/
def execI3cSetdasa (address : Nat) (s : State) : Host.Outcome State Fault Refusal :=
  .next (if dictLive s then { s with dict := { s.dict with i3cAddr := some address } } else s)

/-- I3C_ENTDAA (R461). -/
def execI3cEntdaa (address : Nat) (s : State) : Host.Outcome State Fault Refusal :=
  .next (if dictLive s then { s with dict := { s.dict with i3cAddr := some address } } else s)

/-- The oldest notification waiting on I3C leaves (R461, R470). -/
def i3cNotify (s : State) : State :=
  match s.dict.i3cNotes with
  | [] => s
  | (id, key) :: r =>
    let s := { s with dict := { s.dict with i3cNotes := r } }
    match tget s.dict.i3c id with
    | none => s
    | some x =>
      match tget x.unsent key with
      | none => s
      | some (q, record) => emit (.notify .i3c id q key record) (setSession .i3c id { x with unsent := terase x.unsent key } s)

/-- A private read returns the oldest ready message, responses before notifications (R461). -/
def doPrivateRead (s : State) : State :=
  match s.dict.i3cReplies with
  | r :: rs => emit (.dap r) { s with dict := { s.dict with i3cReplies := rs } }
  | [] => i3cNotify s

/-- I3C_PRIVATE_READ (R461). -/
def execI3cPrivateRead (s : State) : Host.Outcome State Fault Refusal := .next (if dictLive s then doPrivateRead s else s)

/-- A write to an object of no row of its own that clears counters of one index. -/
def clearObj (d : DapMsg) (index sub : Nat) (f : State → State) (s : State) : State :=
  dapServe dapWrite (toObj d index sub) (fun c s => clearing c f s) s

end Sys2Proof.Machine
end

