-- ==== Sys2Proof/Machine/Images.lean ====
section
/-! DEFINITION. Jentu images: their layout and the checks of a registration (R91 to R103, R621). -/

namespace Sys2Proof.Machine

/-- Bits `hi` to `lo` of an image, counted from byte `b`. -/
def imgBits (img b hi lo : Nat) : Nat := bits img (8 * b + hi) (8 * b + lo)

/-- Fields of the header (R91). -/
def imgBytes (img : Nat) : Nat := imgBits img 0 191 160
def imgSections (img : Nat) : Nat := imgBits img 0 207 192
def imgKeySlot (img : Nat) : Nat := imgBits img 0 231 224

/-- A section table entry: type, parameter, offset, bytes (R92). -/
structure Section where
  ty : Nat
  param : Nat
  offset : Nat
  bytes : Nat
  reserved : Bool
  deriving DecidableEq, Repr

/-- The section table; at most 64 entries. A registration that reads fewer bytes than the image has sees zeros beyond them. -/
def sectionsOf (img : Nat) : List Section :=
  (List.range (min (imgSections img) 64)).map (fun i =>
    let b := 64 + 16 * i
    ⟨imgBits img b 7 0, imgBits img b 31 16, imgBits img b 63 32, imgBits img b 95 64,
      imgBits img b 15 8 != 0 || imgBits img b 127 96 != 0⟩)

/-- Sections of a type. -/
def ofType (ty : Nat) (img : Nat) : List Section := (sectionsOf img).filter (fun x => x.ty == ty)

/-- Fields of a TILE_CONFIG section (R94). -/
def cfgWords (img b : Nat) : Nat := imgBits img b 191 176
def cfgConst (img b : Nat) : Nat := imgBits img b 207 192
def cfgControl (img b : Nat) : Nat := imgBits img b 95 64
def cfgSeed (img b : Nat) : Nat := imgBits img b 159 96

/-- role_count and arg_count (R97, R98). -/
def roleCount (img b : Nat) : Nat := imgBits img b 4 0
def argCount (img b : Nat) : Nat := imgBits img b 3 0

/-- The size that a section's content implies (R94, R97, R98); none where nothing implies one. -/
def impliedBytes (img : Nat) (x : Section) : Option Nat :=
  match x.ty with
  | 1 => some (64 + 16 * cfgWords img x.offset + cfgConst img x.offset)
  | 2 => some (16 + 32 * roleCount img x.offset)
  | 3 => some (16 + 16 * argCount img x.offset)
  | _ => none

/-- The interface's arguments: kind, max_length (R98). -/
def argsOf (img : Nat) : List (Nat × Nat) :=
  match ofType 3 img with
  | x :: _ => (List.range (argCount img x.offset)).map (fun i =>
      let b := x.offset + 16 + 16 * i
      (imgBits img b 3 0, imgBits img b 63 32))
  | [] => []

/-- The byte of the placement for a role and a tile index; index 16 is the slice constraint (R97). -/
def placeByte (img r j : Nat) : Nat :=
  match ofType 2 img with
  | x :: _ => imgBits img (x.offset + 16 + 32 * r + j) 7 0
  | [] => 0

/-- The roles of an image. -/
def rolesOf (img : Nat) : Nat := match ofType 2 img with | x :: _ => roleCount img x.offset | [] => 0

/-- The configuration section with an index. -/
def cfgOf (img c : Nat) : Option Nat := ((ofType 1 img).find? (fun x => x.param == c)).map (·.offset)

/-- A count or size field beyond its limit (R621 step 4), as far as the bytes that the command names hold the field: what lies
beyond them is not read, and step 5 refuses the image. -/
def imgTooBig (img cmdBytes : Nat) : Bool :=
  let n := imgBytes img
  let heads (ty bytes : Nat) : List Section := (ofType ty img).filter (fun x => decide (x.offset + bytes ≤ cmdBytes))
  let wrong (x : Section) : Bool := match impliedBytes img x with | some b => b != x.bytes | none => false
  n == 0xFFFFFFFF || decide (4194304 < n) || decide (n < cmdBytes) || decide (64 < imgSections img) ||
  (heads 1 64).any wrong || (heads 2 16).any wrong || (heads 3 16).any wrong ||
  (heads 1 64).any (fun x => decide (2048 < cfgWords img x.offset) || decide (8192 < cfgConst img x.offset)) ||
  (heads 2 16).any (fun x => decide (16 < roleCount img x.offset)) ||
  (heads 3 16).any (fun x => decide (10 < argCount img x.offset)) ||
  (argsOf img).any (fun a => a.2 == 0xFFFFFFFF) ||
  (decide (3328 ≤ n ∧ n - 3328 + 16 ≤ cmdBytes) && decide (3309 < imgBits img (n - 3328) 31 16))

/-- Two byte ranges overlap. -/
def overlap (a n b m : Nat) : Bool := decide (0 < n ∧ 0 < m ∧ a < b + m ∧ b < a + n)

/-- No two sections of a list overlap. -/
def disjointSections : List Section → Bool
  | [] => true
  | x :: xs => xs.all (fun y => !overlap x.offset x.bytes y.offset y.bytes) && disjointSections xs

/-- A TILE_CONFIG section that breaks R94 or R95. -/
def cfgBroken (img b : Nat) : Bool :=
  let m := imgBits img b 255 240
  let v := imgBits img b 239 224
  let c := cfgControl img b
  imgBits img b 511 256 != 0 || imgBits img b 223 208 != 0 || imgBits img b 175 160 != 0 || cfgConst img b % 64 != 0 ||
  bit m 0 || bit v 0 || bits m 15 11 != 0 || bits v 15 11 != 0 ||
  ((bit m 10 || bit v 10) && (bits m 9 0 != 0 || bits v 9 0 != 0)) ||
  (List.range 8).any (fun k => decide (1 < popcount 8 (imgBits img b (8 * k + 7) (8 * k)))) ||
  bits c 31 12 != 0 || bits c 7 4 != 0 || bits c 10 9 == 3

/-- A PLACEMENT section that breaks R97. -/
def placeBroken (img : Nat) (x : Section) : Bool :=
  imgBits img x.offset 127 5 != 0 || roleCount img x.offset == 0 ||
  (List.range (roleCount img x.offset)).any (fun r =>
    (List.range 16).any (fun j => (cfgOf img (placeByte img r j)).isNone) ||
    (decide (7 < placeByte img r 16) && placeByte img r 16 != 0xFF) ||
    (List.range 15).any (fun j => placeByte img r (17 + j) != 0))

/-- An INTERFACE section that breaks R98. -/
def ifaceBroken (img : Nat) (x : Section) : Bool :=
  imgBits img x.offset 127 4 != 0 || argCount img x.offset == 0 ||
  (List.range (argCount img x.offset)).any (fun i =>
    let b := x.offset + 16 + 16 * i
    let k := imgBits img b 3 0
    k == 0 || decide (5 < k) || imgBits img b 31 4 != 0 || imgBits img b 127 64 != 0 ||
      (decide (4 ≤ k) && imgBits img b 63 32 != 0))

/-- The signature block breaks R99. -/
def sigBroken (img : Nat) : Bool :=
  let b := imgBytes img - 3328
  imgBits img b 127 96 != 0 || imgBits img b 31 16 != 3309 || imgBits img b 15 8 != 1 ||
  imgBits img b 7 0 != imgKeySlot img || imgBits img (b + 3325) 23 0 != 0

/-- The routes and the masks of a TILE_CONFIG section (R94), its microcode and its constants. -/
def cfgLoaded (img b : Nat) : TileCfg :=
  ⟨imgBits img b 63 0, cfgControl img b, imgBits img b 255 240, imgBits img b 239 224, cfgWords img b,
    img / 2 ^ (8 * (b + 64)) % 2 ^ (128 * cfgWords img b),
    img / 2 ^ (8 * (b + 64 + 16 * cfgWords img b)) % 2 ^ (8 * cfgConst img b)⟩

/-- Any other break of R91 to R99 (R621 step 6, R93). An image_id whose issuer is neither Worquin's nor a customer's is no break: R91
states what the issuers are and refuses none (DESIGN CHOICE, log entry 55). -/
def imgBroken (img : Nat) : Bool :=
  let n := imgBytes img
  let xs := sectionsOf img
  imgBits img 0 511 232 != 0 || imgBits img 0 223 208 != 0 || imgBits img 0 95 48 != 0 || n % 64 != 0 ||
  imgSections img == 0 || decide (7 < imgKeySlot img) || decide (n < 3328) ||
  xs.any (fun x => x.reserved || x.offset % 64 != 0 || x.ty == 0 || decide (4 < x.ty) ||
    (x.ty != 1 && x.param != 0) || (x.ty == 1 && decide (255 < x.param)) ||
    decide (x.offset < 64 + 16 * imgSections img) || decide (n - 3328 < x.offset + x.bytes)) ||
  !disjointSections xs || (ofType 1 img).isEmpty || ((ofType 1 img).map (·.param)).eraseDups.length != (ofType 1 img).length ||
  (ofType 2 img).length != 1 || (ofType 3 img).length != 1 || decide (1 < (ofType 4 img).length) ||
  (ofType 1 img).any (fun x => cfgBroken img x.offset) || (ofType 2 img).any (placeBroken img) ||
  (ofType 3 img).any (ifaceBroken img) || sigBroken img

/-- An image key (R101): zero when the slot is not enrolled. -/
def imageKey (s : State) (slot : Nat) : Nat := obj s 0x4023 (slot + 1)

/-- The signature of an image verifies under its slot's key (R99, R100). -/
def imgSigned (s : State) (img : Nat) : Bool :=
  let n := imgBytes img
  let b := n - 3328
  let k := imageKey s (imgKeySlot img)
  k != 0 && shake256 1952 k % 2 ^ 64 == imgBits img b 95 32 &&
    sigOk k (shake256 b (img % 2 ^ (8 * b))) (imgBits img (b + 16) 26471 0)

/-- What a registration finds (R621), reading `cmdBytes` bytes at an offset: the first failing status or OK. -/
def registerStatus (s : State) (off cmdBytes : Nat) : Status :=
  let img := readMem s off cmdBytes
  if off % 64 ≠ 0 ∨ !inPinned s off cmdBytes then .unsupported
  else if anyBad s off cmdBytes then .poison
  else if imgBits img 0 31 0 ≠ 0x55544E4A ∨ imgBits img 0 47 32 ≠ 1 then .unsupported
  else if imgTooBig img cmdBytes then .badLength
  else if cmdBytes < imgBytes img then .checkFail
  else if imgBroken img then .unsupported
  else if !imgSigned s img then .checkFail
  else .ok

/-- What the device records of an image (R103), registered by an acceptance. -/
def imageInfo (s : State) (acc off n : Nat) : ImageInfo :=
  let img := readMem s off n
  ⟨acc, off, n, shake256 n img, imgBits img 0 127 96, imgBits img 0 159 128, rolesOf img, imgKeySlot img, argsOf img⟩

end Sys2Proof.Machine
end

