-- ==== Sys2Proof/Machine/Jentu.lean ====
section
/-! DEFINITION. Configurations: registration, loads, clusters and handles, and calls on them (chapter 3). -/

namespace Sys2Proof.Machine

/-! ## Fields of a configuration command (R113) -/

def cfgOp (b : Nat) : Nat := bits b 7 0
def cfgSlot (b : Nat) : Nat := bits b 167 160
def cfgHandle (b : Nat) : Nat := bits b 175 168
def cfgRole (b : Nat) : Nat := bits b 179 176
def cfgCluster (b : Nat) : Nat := bits b 190 184
def cfgContext (b : Nat) : Nat := bits b 203 192
def cfgTenant (b : Nat) : Nat := bits b 215 204
def cfgImgBytes (b : Nat) : Nat := bits b 239 208
def cfgImgOffset (b : Nat) : Nat := bits b 207 160

/-- Reserved fields and the operation (R113). -/
def cfgBad (op b : Nat) : Bool :=
  bits b 511 256 != 0 || bits b 95 81 != 0 || bits b 15 8 != 0 || cfgOp b != op ||
  (match op with
    | 1 => bits b 255 240 != 0
    | 2 => bits b 255 168 != 0
    | 3 => bits b 255 216 != 0 || bits b 183 180 != 0
    | 4 => bits b 255 176 != 0 || bits b 167 160 != 0
    | _ => true)

/-! ## Clusters and handles -/

def cluster (s : State) (c : Nat) : Cluster := tgetD s.clusters c Cluster.zero
def setCluster (c : Nat) (f : Cluster → Cluster) (s : State) : State :=
  { s with clusters := tset s.clusters c (f (cluster s c)) }

/-- The code of a cluster state (R117), of a handle state (R118). -/
def clusterCode : ClusterState → Nat
  | .empty => 0 | .draining => 1 | .loading => 2 | .armed => 3 | .running => 4 | .offline => 5
def handleCode : HandleState → Nat
  | .unbound => 0 | .assembling => 1 | .active => 2 | .rebinding => 3 | .staging => 4

/-- A handle's state. -/
def handleState (s : State) (h : Nat) : HandleState :=
  match tget s.handles h with | some x => x.st | none => .unbound

/-- The cluster status word (R132). -/
def clusterWord (s : State) (c : Nat) : Nat :=
  let x := cluster s c
  let h := x.handle.getD 0
  h * 2 ^ 24 + b2n x.handle.isSome * 2 ^ 23 + b2n x.staged * 2 ^ 22 + x.role * 2 ^ 16
    + (if x.handle.isSome then handleCode (handleState s h) else 0) * 2 ^ 12 + x.lastStatus * 2 ^ 8 + x.spares * 2 ^ 4
    + clusterCode x.st

/-- Calls in flight on a cluster (R123). -/
def callsOn (s : State) (c : Nat) : Tab Call := s.calls.filter (fun e => e.2.clusters.contains c)

/-- cfg_event (0x4020.05). -/
def cfgEvent (s : State) : State := raiseEvent 0x4020 5 0 s

/-- The tiles of a cluster hold no configuration any more: their steps, loads and switchbox data go with it. Scratchpads,
generators and flags stay (R73, R88, R112). -/
def clearTiles (c : Nat) (s : State) : State :=
  (List.range 16).foldl (fun s j => setTile (16 * c + j) { tile s (16 * c + j) with
    cfg := none, loops := [0, 0, 0, 0], latches := [], loads := [], waiting := none, held := [], failed := false } s) s

/-- A cluster released: EMPTY and assigned to no handle. Its role field keeps the role of its last handle: R132 gives the field
no meaning while handle_valid is 0 (DESIGN CHOICE, log entry 55). -/
def releaseCluster (c : Nat) (s : State) : State :=
  clearTiles c (setCluster c (fun x =>
    { x with st := .empty, handle := none, staged := false, info := none, copy := 0, load := none, reload := false }) s)

/-! ## Records (R116) -/

/-- The 32-byte result record of a configuration command. -/
def cfgRecord (s : State) (p : Posted) (acc : Nat) (st : Status) (slot handle cl : Nat) : Nat :=
  statusCode st + cfgOp p.req.body * 2 ^ 8 + slot * 2 ^ 16 + handle * 2 ^ 24 + cl * 2 ^ 32 + elapsed s p.at_ * 2 ^ 64
    + (acc * 256 + handle) % 2 ^ 64 * 2 ^ 128 + s.time % 2 ^ 64 * 2 ^ 192

/-- The end of a configuration command: its record and its signal. -/
def endCfg (p : Posted) (acc : Nat) (st : Status) (slot handle cl : Nat) (s : State) : State :=
  let b := p.req.body
  endPosted p.req acc (bit b 80) (bits b 79 32) 32 (cfgRecord s p acc st slot handle cl) (bit b 31) (bits b 30 16)
    (bits b 159 96) s

/-- A configuration command is accepted: its acceptance handle (R113). -/
def acceptCfg (rq : Req) (handle : Nat) (act : Nat → State → State) (s : State) : State :=
  let (acc, s) := nextAcc s
  act acc (complete rq .ok (acc * 256 + handle) s)

/-- The end of a LOAD (R116, R118): its status is the cluster's last_load_status (R132); one that is not OK counts in
load_failures (R131). A reload by the device itself has no record. -/
def endLoad (j : LoadJob) (c : Nat) (st : Status) (s : State) : State :=
  match j.acc with
  | none => s
  | some acc =>
    match tget s.loading acc with
    | none => s
    | some p =>
      let s := if st = .ok then s else bump 0x4020 6 1 s
      endCfg p acc st j.slot (cfgHandle p.req.body) c
        (setCluster c (fun x => { x with lastStatus := statusCode st }) { s with loading := terase s.loading acc })

/-! ## Loads and handles (R117, R118) -/

/-- T_load in ns (R124). -/
def loadNs (n : Nat) (zero : Bool) : Nat := max (2800 + ceilDiv (n * 8) 1000) (if zero then 4200 else 0)

/-- The target cluster of a role: the staged one, else the current one. -/
def targetOf (h : FnHandle) (r : Nat) : Option Nat := (tget h.staged r).orElse (fun _ => tget h.current r)

/-- Every role has an ARMED or RUNNING target cluster, all holding one image (R118): that image. -/
def opens (s : State) (h : FnHandle) : Option ImageInfo :=
  let ts := (List.range h.roles).map (fun r => (targetOf h r).map (cluster s))
  match ts.head?.join with
  | none => none
  | some x =>
    if ts.all (fun t => match t with
        | some y => (y.st == .armed || y.st == .running) && y.info.map (·.digest) == x.info.map (·.digest)
        | none => false) then x.info
    else none

/-- A cluster stops dispatching (R117). -/
def drainCluster (c : Nat) (s : State) : State :=
  setCluster c (fun x => if x.st = .running then { x with st := .draining, drainFrom := s.time } else x) s

/-- A cluster enters LOADING when its fabric die is awake, its tiles' stores being written anew; otherwise the die's wake is
raised (R117, R508). -/
def startLoad (c : Nat) (s : State) : State :=
  match (cluster s c).load with
  | none => s
  | some j =>
    if awake s (fabricDom (c / 16)) then
      clearTiles c (setCluster c (fun x => { x with st := .loading, load := some { j with started := some s.time } }) s)
    else wake (fabricDom (c / 16)) s

/-- A LOAD that has not entered LOADING is dropped with UNSUPPORTED (R105, R118). -/
def dropLoad (c : Nat) (s : State) : State :=
  match (cluster s c).load with
  | none => s
  | some j =>
    if j.started.isSome then setCluster c (fun x => { x with load := some { j with dropped := true } }) s
    else endLoad j c .unsupported (setCluster c (fun x => { x with load := none }) s)

/-- A cluster leaves its handle (R118): it drains, is released, or ends its load first. From then on it is assigned, staged
and reserved for none (R132). -/
def unassign (c : Nat) (s : State) : State :=
  let x := cluster s c
  let leave (s : State) : State := setCluster c (fun x => { x with handle := none, staged := false, reload := false }) s
  match x.st with
  | .running => leave (drainCluster c s)
  | .armed => releaseCluster c s
  | .empty => releaseCluster c (dropLoad c s)
  | _ => leave (dropLoad c s)

/-- A handle opens if it can (R118): staged clusters become current, the replaced ones drain, the armed ones run, and calls are
checked against the image that the clusters hold (R130, R110). -/
def tryOpen (h : Nat) (s : State) : State :=
  match tget s.handles h with
  | none => s
  | some x =>
    if x.st = .active then s
    else match opens s x with
      | none => s
      | some image =>
        let current := x.staged.foldl (fun t e => tset t e.1 e.2) x.current
        let replaced := (x.staged.filterMap (fun e => tget x.current e.1)).filter (fun c => !(current.any (fun e => e.2 == c)))
        let s := replaced.foldl (fun s c => unassign c s) s
        let s := current.foldl (fun s e => setCluster e.2 (fun y =>
          { y with staged := false, st := if y.st = .armed then .running else y.st }) s) s
        { s with handles := tset s.handles h { x with st := .active, current := current, staged := [], image := image } }

/-- The loader zeroes the scratchpads in a load: the descriptor says so, or the cluster last served another tenant (R112). -/
def zeroes (x : Cluster) (j : LoadJob) : Bool := j.zero || (x.lastTenant.isSome && x.lastTenant != some j.tenant)

/-- The hint of a cluster that a LOAD or a call waits for (R115, R120). An EMPTY cluster whose load waits for its die to wake is
in none of R120's cases: it adds nothing (DESIGN CHOICE, log entry 55). -/
def clusterHint (s : State) (c : Nat) : Nat :=
  let x := cluster s c
  match x.st, x.load with
  | .draining, _ => 3
  | .loading, some j =>
    max 1 (ceilDiv (loadNs j.image.bytes (zeroes x j) - (s.time - j.started.getD s.time)) 4000)
  | .armed, _ => 1
  | _, _ => 0

/-- A LOAD is assigned to its cluster for its role. One that the cluster still waits to begin gives way to it: it is dropped as
one that a replacement drops (R118, DEDUCED, log entry 55). -/
def assign (acc : Nat) (c : Nat) (e : RegEntry) (staged : Bool) (b tenant : Nat) (s : State) : State :=
  let j : LoadJob := ⟨some acc, cfgSlot b, e.image, bit b 191, tenant, cfgRole b, none, false⟩
  let s := setCluster c (fun x => { x with
    handle := some (cfgHandle b), role := cfgRole b, staged := staged, load := some j, reload := false }) (dropLoad c s)
  if (cluster s c).st = .empty then startLoad c s else s

/-- A LOAD accepted (R118). -/
def acceptLoad (rq : Req) (e : RegEntry) (acc : Nat) (s : State) : State :=
  let b := rq.body
  let h := cfgHandle b
  let r := cfgRole b
  let c := cfgCluster b
  let s := { s with loading := tset s.loading acc ⟨rq, s.time⟩ }
  match tget s.handles h with
  | none =>
    let x : FnHandle := ⟨.assembling, e.image, e.tenant, rq.hdr.tenant, cfgContext b, e.image.roles, [(r, c)], []⟩
    assign acc c e false b rq.hdr.tenant { s with handles := tset s.handles h x }
  | some x =>
    let put (y : FnHandle) (s : State) : State := { s with handles := tset s.handles h y }
    let inPlace := tget x.current r = some c
    match x.st with
    | .active =>
      if inPlace then
        let same : Bool := (cluster s c).info.map (·.digest) == some e.image.digest
        let others := if same then [] else x.current.map (·.2)
        let s := others.foldl (fun s k => drainCluster k s) (drainCluster c s)
        assign acc c e false b x.tenant (put { x with st := .rebinding } s)
      else assign acc c e true b x.tenant (put { x with st := .staging, staged := tset x.staged r c } s)
    | .staging =>
      let s := match tget x.staged r with
        | some old => if old = c then s else unassign old s
        | none => s
      assign acc c e true b x.tenant (put { x with staged := tset x.staged r c } s)
    | _ =>
      let s := match tget x.current r with
        | some old => if old = c then drainCluster c s else unassign old s
        | none => s
      assign acc c e false b x.tenant (put { x with current := tset x.current r c } s)

/-- A LOAD at step 12 (R104, R109, R111, R115, R295); none in DRAINING (R573). Of one that several rules refuse, the tenant's
refusal comes first, then UNSUPPORTED, then DEFER: the rules give no order (DESIGN CHOICE, log entry 55). -/
def doLoad (rq : Req) (s : State) : State :=
  let b := rq.body
  let c := cfgCluster b
  let x := cluster s c
  let h := cfgHandle b
  if (bit b 80 ∧ !recordAt s (bits b 79 32) 32) ∨ s.pkg = .draining then complete rq .unsupported 0 s
  else if cfgTenant b ≠ rq.hdr.tenant then complete rq .tenantBlocked 0 s
  else match tget s.registry (cfgSlot b) with
    | none => complete rq .unsupported 0 s
    | some e =>
      if e.image.keySlot ≠ 0 ∧ e.tenant ≠ rq.hdr.tenant then complete rq .tenantBlocked 0 s
      else if cfgContext b = 0 ∧ e.image.keySlot ≠ 0 then complete rq .unsupported 0 s
      else
        let bound := tget s.handles h
        let constraint := placeByte (readMem s e.image.offset e.image.bytes) (cfgRole b) 16
        let foreign : Bool := match bound with | some y => y.tenant != rq.hdr.tenant | none => false
        let other : Bool := match bound with | some y => y.context != cfgContext b || y.roles != e.image.roles | none => false
        let taken : Bool := match x.handle with | some k => k != h || x.role != cfgRole b | none => false
        if foreign then complete rq .tenantBlocked 0 s
        else if other ∨ taken ∨ e.image.roles ≤ cfgRole b ∨ x.st = .offline ∨
            (constraint ≠ 0xFF ∧ constraint ≠ c / 16) then
          complete rq .unsupported 0 s
        else if x.st = .draining ∨ x.st = .loading ∨ x.st = .armed then deferReq rq (clusterHint s c) s
        else match bound with
          | some y =>
            if y.st = .staging ∧ tget y.current (cfgRole b) = some c then
              deferReq rq ((y.staged.map (fun k => clusterHint s k.2)).foldl max 0) s
            else acceptCfg rq h (fun acc s => acceptLoad rq e acc s) s
          | none => acceptCfg rq h (fun acc s => acceptLoad rq e acc s) s

/-- An UNBIND at step 12 (R115, R118): its record is written at once (log entry 17). -/
def doUnbind (rq : Req) (s : State) : State :=
  let h := cfgHandle rq.body
  if bit rq.body 80 ∧ !recordAt s (bits rq.body 79 32) 32 then complete rq .unsupported 0 s
  else match tget s.handles h with
    | none => complete rq .unsupported 0 s
    | some x =>
      if x.tenant ≠ rq.hdr.tenant then complete rq .tenantBlocked 0 s
      else acceptCfg rq h (fun acc s =>
        let s := { s with handles := terase s.handles h }
        let s := (x.current ++ x.staged).foldl (fun s e => unassign e.2 s) s
        endCfg ⟨rq, s.time⟩ acc .ok 0xFF h 0 s) s

/-! ## The registry (R103, R105, R114) -/

/-- The number of registered entries is shown in 0x4020.03. -/
def countRegistry (s : State) : State := setObj 0x4020 3 s.registry.length s

/-- The lowest entry that is neither registered nor reserved. -/
def freeEntry (s : State) : Option Nat :=
  (List.range 64).find? (fun n => (tget s.registry n).isNone && s.reserved.all (fun e => e.2 != n))

/-- A REGISTER at step 12 (R114). -/
def doRegister (rq : Req) (s : State) : State :=
  if bit rq.body 80 ∧ !recordAt s (bits rq.body 79 32) 32 then complete rq .unsupported 0 s
  else if cfgImgBytes rq.body = 0 then complete rq .ok 0 s
  else match freeEntry s with
    | none => deferReq rq 0 s
    | some n => acceptCfg rq 0 (fun acc s =>
        { s with reserved := tset s.reserved acc n, registering := tset s.registering acc ⟨rq, s.time⟩ }) s

/-- A registration ends (R103, R621); it waits while an extent of the image is far (R195). -/
def doRegisterDone (acc : Nat) (s : State) : State :=
  match tget s.registering acc, tget s.reserved acc with
  | some p, some n =>
    let b := p.req.body
    let far := farExtents s (cfgImgOffset b) (cfgImgBytes b)
    if !far.isEmpty ∧ inPinned s (cfgImgOffset b) (cfgImgBytes b) then (engineFar far s)
    else
      let st := registerStatus s (cfgImgOffset b) (cfgImgBytes b)
      let s := { s with reserved := terase s.reserved acc, registering := terase s.registering acc }
      if st = .ok then
        let e : RegEntry := ⟨imageInfo s acc (cfgImgOffset b) (imgBytes (readMem s (cfgImgOffset b) (cfgImgBytes b))),
          p.req.hdr.tenant⟩
        endCfg p acc .ok n 0 0 (countRegistry { s with registry := tset s.registry n e })
      else endCfg p acc st 0xFF 0 0 s
  | _, _ => s

/-- A registry entry is retired: its loads that have not begun are dropped (R105). -/
def retireEntry (n : Nat) (s : State) : State :=
  let waiting := (s.clusters.filter (fun e => match e.2.load with
    | some j => j.slot == n && j.started.isNone
    | none => false)).map (·.1)
  countRegistry (waiting.foldl (fun s c => dropLoad c s) { s with registry := terase s.registry n })

/-- A RETIRE at step 12 (R105, R115). -/
def doRetire (rq : Req) (s : State) : State :=
  let n := cfgSlot rq.body
  if bit rq.body 80 ∧ !recordAt s (bits rq.body 79 32) 32 then complete rq .unsupported 0 s
  else match tget s.registry n with
    | none => complete rq .unsupported 0 s
    | some e =>
      if e.tenant ≠ rq.hdr.tenant then complete rq .tenantBlocked 0 s
      else acceptCfg rq 0 (fun acc s =>
        retireEntry n { s with retiring := tset s.retiring acc ⟨rq, s.time⟩ }) s

/-- Some cluster is LOADING from a retired entry of a slot, which another registration may have taken since (R105). -/
def loadingFrom (s : State) (n : Nat) : Bool :=
  let now := (tget s.registry n).map (·.image.reg)
  s.clusters.any (fun e => e.2.st == .loading && (match e.2.load with
    | some j => j.slot == n && now != some j.image.reg
    | none => false))

/-- A RETIRE's record, once no cluster is LOADING from the entry (R105). -/
def doRetireRecord (acc : Nat) (s : State) : State :=
  match tget s.retiring acc with
  | none => s
  | some p =>
    let n := cfgSlot p.req.body
    if loadingFrom s n then s
    else endCfg p acc .ok n 0 0 { s with retiring := terase s.retiring acc }

/-! ## The commands -/

/-- A CONFIG command is served (R113): REGISTER's size is refused in the body (R114); an absent cluster is refused. -/
def serveCfg (op : Nat) (h : Hdr) (body : Nat) (act : Req → State → State) (s : State) : State :=
  let n := cfgImgBytes body
  serve ⟨0x14, h, body, 0, [], false⟩
    (postedChecks (cfgBad op body) none (op == 1 && (n == 0xFFFFFFFF || decide (4194304 < n)))
      (op == 3 && !fabricPresent s (cfgCluster body / 16)) []) 64 64 act s

/-- REGISTER (R103). -/
def execRegister (h : Hdr) (body : Nat) (s : State) : Host.Outcome State Fault Refusal := .next (serveCfg 1 h body doRegister s)
/-- CONFIG_RETIRE (R105). -/
def execConfigRetire (h : Hdr) (body : Nat) (s : State) : Host.Outcome State Fault Refusal :=
  .next (serveCfg 2 h body doRetire s)
/-- LOAD (R118). -/
def execLoad (h : Hdr) (body : Nat) (s : State) : Host.Outcome State Fault Refusal := .next (serveCfg 3 h body doLoad s)
/-- UNBIND (R118). -/
def execUnbind (h : Hdr) (body : Nat) (s : State) : Host.Outcome State Fault Refusal := .next (serveCfg 4 h body doUnbind s)
/-- REGISTER_DONE (R621). -/
def execRegisterDone (acc : Nat) (s : State) : Host.Outcome State Fault Refusal := .next (doRegisterDone acc s)
/-- CONFIG_RETIRE_RECORD (R105). -/
def execConfigRetireRecord (acc : Nat) (s : State) : Host.Outcome State Fault Refusal := .next (doRetireRecord acc s)

/-- A configuration command of the dictionary, by its operation. -/
def doCfg (rq : Req) (s : State) : State :=
  match cfgOp rq.body with
  | 1 => doRegister rq s
  | 2 => doRetire rq s
  | 3 => doLoad rq s
  | _ => doUnbind rq s

/-! ## Cluster events (R117) -/

/-- CLUSTER_LOAD_START (R117): an EMPTY cluster's pending load begins. -/
def execClusterLoadStart (cluster : Nat) (s : State) : Host.Outcome State Fault Refusal :=
  .next (if (Machine.cluster s cluster).st = .empty then startLoad cluster s else s)

/-- The role of a cluster becomes unassigned (R118): a current cluster's handle becomes ASSEMBLING, and cfg_event is raised; a
staged one is no longer staged, and the handle opens if nothing else is. -/
def unassignRole (c : Nat) (s : State) : State :=
  let x := cluster s c
  match x.handle with
  | none => s
  | some h =>
    match tget s.handles h with
    | none => s
    | some y =>
      if tget y.current x.role = some c then
        cfgEvent { s with handles := tset s.handles h { y with st := .assembling, current := terase y.current x.role } }
      else if tget y.staged x.role = some c then
        tryOpen h { s with handles := tset s.handles h { y with staged := terase y.staged x.role } }
      else s

/-- A load fails (R117): the stores are cleared, the record is written, the cluster is EMPTY. -/
def failLoad (c : Nat) (st : Status) (s : State) : State :=
  match (cluster s c).load with
  | none => s
  | some j =>
    let s := clearTiles c (setCluster c (fun x => { x with st := .empty, info := none, copy := 0, load := none }) s)
    let s := endLoad j c st s
    if j.dropped then releaseCluster c s
    else if j.acc.isNone then releaseCluster c (unassignRole c s)
    else s

/-- The 16 scratchpads of a cluster become zero (R112). -/
def zeroPads (c : Nat) (s : State) : State :=
  let lo := windowBase + 16 * c * 2 ^ 20
  let hi := lo + 16 * 2 ^ 20
  { s with mem := s.mem.filter (fun x => x.1 < lo || hi ≤ x.1),
           poison := s.poison.filter (fun l => 64 * l < lo || hi ≤ 64 * l) }

/-- The generators of a tile at a load (R73, R86). -/
def seedTile (t control seed : Nat) (s : State) : State :=
  let x := tile s t
  let src := bits control 10 9
  let fresh := if src = 0 then some seed else if src = 1 ∨ x.lanes.isEmpty then some (packageSeed s t) else none
  match fresh with
  | some v => setTile t { x with lanes := laneStates v, seed := v } s
  | none => setTile t x s

/-- A cluster's tiles take their configurations (R97, R73): stores, routes, control word and generators. -/
def configureTiles (c role img : Nat) (s : State) : State :=
  (List.range 16).foldl (fun s j =>
    match cfgOf img (placeByte img role j) with
    | some b =>
      let t := 16 * c + j
      seedTile t (cfgControl img b) (cfgSeed img b) (setTile t { tile s t with cfg := some (cfgLoaded img b) } s)
    | none => s) s

/-- A cluster that the device reloaded by itself runs on for its handle, where the handle is open; otherwise the handle opens if
it can (R122, R556). -/
def resumeCluster (h c : Nat) (s : State) : State :=
  match tget s.handles h with
  | some y =>
    if (y.st = .active ∨ y.st = .staging) ∧ y.current.any (fun e => e.2 == c) then
      setCluster c (fun x => { x with st := .running }) s
    else tryOpen h s
  | none => s

/-- A load ends (R117): the image is read and its digest compared, the scratchpads zeroed where R112 asks for it, the
generators seeded, the record written, the cluster ARMED; then the handle opens if it can. -/
def doLoadComplete (c : Nat) (s : State) : State :=
  let x := cluster s c
  match x.st, x.load with
  | .loading, some j =>
    let img := readMem s j.image.offset j.image.bytes
    if anyBad s j.image.offset j.image.bytes then failLoad c .poison s
    else if shake256 j.image.bytes img ≠ j.image.digest then failLoad c .checkFail s
    else
      let s := if zeroes x j then zeroPads c s else s
      let s := configureTiles c j.role img s
      let s := setCluster c (fun y =>
        { y with st := .armed, info := some j.image, copy := img, slot := j.slot, load := none, lastTenant := some j.tenant,
                 reload := false }) s
      let s := endLoad j c .ok s
      if j.dropped then releaseCluster c s
      else match x.handle with
        | some h => if j.acc.isNone then resumeCluster h c s else tryOpen h s
        | none => s
  | _, _ => s

/-- CLUSTER_LOAD_COMPLETE (R117). -/
def execClusterLoadComplete (cluster : Nat) (s : State) : Host.Outcome State Fault Refusal := .next (doLoadComplete cluster s)

/-- CLUSTER_LOAD_FAIL (R117). -/
def execClusterLoadFail (cluster : Nat) (why : LoadFault) (s : State) : Host.Outcome State Fault Refusal :=
  .next (if (Machine.cluster s cluster).st = .loading then
      failLoad cluster (match why with | .poison => .poison | _ => .checkFail) s
    else s)

/-- A drained cluster begins its pending load or becomes EMPTY, keeping the reservation of its handle's role (R117). -/
def doDrained (c : Nat) (s : State) : State :=
  let x := cluster s c
  if x.st ≠ .draining ∨ !(callsOn s c).isEmpty then s
  else
    let kept := match x.handle with
      | some h => (match tget s.handles h with
        | some y => decide (tget y.current x.role = some c ∨ tget y.staged x.role = some c)
        | none => false)
      | none => false
    if kept then startLoad c (clearTiles c (setCluster c (fun y => { y with st := .empty, info := none, copy := 0 }) s))
    else releaseCluster c s

/-- CLUSTER_DRAIN_COMPLETE (R117). -/
def execClusterDrainComplete (cluster : Nat) (s : State) : Host.Outcome State Fault Refusal := .next (doDrained cluster s)

/-- DRAIN_OVERDUE (R117). -/
def execDrainOverdue (cluster : Nat) (s : State) : Host.Outcome State Fault Refusal :=
  .next (if (Machine.cluster s cluster).st = .draining ∧ obj s 0x4020 4 ≠ 0 then cfgEvent s else s)

/-- The registry entry that a cluster can be reloaded from by the device: the one it was loaded from, still registered and
PIN_NEAR (R122, R556). -/
def reloadEntry (s : State) (c : Nat) : Option RegEntry :=
  match tget s.registry (cluster s c).slot with
  | some e =>
    if (cluster s c).info.map (·.reg) = some e.image.reg ∧ inPinned s e.image.offset e.image.bytes then some e else none
  | none => none

/-- The device reloads a cluster from its registry entry, under its handle and role; where it cannot, the cluster stays
EMPTY and its handle loses the role (R122). Its handle keeps its state, and defers its calls meanwhile (`reloading`). -/
def reloadCluster (c : Nat) (s : State) : State :=
  match reloadEntry s c with
  | some e =>
    let j (x : Cluster) : LoadJob := ⟨none, x.slot, e.image, false, x.lastTenant.getD 0, x.role, none, false⟩
    startLoad c (clearTiles c (setCluster c (fun x =>
      { x with st := .empty, info := none, copy := 0, reload := false, load := some (j x) }) s))
  | none => releaseCluster c (unassignRole c s)

/-- CLUSTER_RELOAD_AFTER_WAKE (R122): the clusters of a woken fabric die that were ARMED or RUNNING. -/
def execClusterReloadAfterWake (slice : Nat) (s : State) : Host.Outcome State Fault Refusal :=
  .next (if awake s (fabricDom slice) then
      ((List.range 16).filter (fun k => (cluster s (16 * slice + k)).reload)).foldl
        (fun s k => reloadCluster (16 * slice + k) s) s
    else s)

/-! ## Calls (R119 to R130) -/

def invHandle (b : Nat) : Nat := bits b 7 0
def invArgs (b : Nat) : Nat := bits b 11 8

/-- An argument descriptor: value, length, kind (R125). -/
def invArg (b i : Nat) : Nat := bits b (256 + 128 * i + 127) (256 + 128 * i)
def argValue (a : Nat) : Nat := bits a 63 0
def argLen (a : Nat) : Nat := bits a 95 64
def argKind (a : Nat) : Nat := bits a 99 96

/-- An argument of these kinds is a buffer. -/
def isBuffer (k : Nat) : Bool := decide (1 ≤ k ∧ k ≤ 3)

/-- Reserved fields of an INVOKE body (R125). -/
def invBad (b : Nat) : Bool :=
  bits b 255 224 != 0 || bits b 95 81 != 0 || bits b 15 12 != 0 ||
  (List.range (if invArgs b = 15 then 0 else invArgs b)).any (fun i =>
    let a := invArg b i
    bits a 127 100 != 0 || (isBuffer (argKind a) && bits a 63 48 != 0) || (!isBuffer (argKind a) && argLen a != 0) ||
      (argKind a == 5 && bits a 63 15 != 0))

/-- Bytes of `n` elements of a format of R108, which are not microscaled blocks: a single result takes its element's bytes. -/
def elemBytes (fmt n : Nat) : Nat := ceilDiv (n * codeBits fmt) 8

/-- Bytes of `n` blocks of 32 elements in a format of R108, its scales included. -/
def blockBytes (fmt n : Nat) : Nat :=
  n * (match fmt with | 0 => 128 | 1 => 64 | 2 => 64 | 5 => 33 | 6 => 33 | 7 => 25 | 8 => 25 | 9 => 17 | _ => 32)

/-- The length of argument `i`. -/
def invLen (b i : Nat) : Nat := argLen (invArg b i)

/-- A certified image's shape scalar: a count beyond a buffer, a code it does not accept, or a count of zero (R107, R163). -/
structure Shape where
  tooLong : Bool
  unsupported : Bool
  empty : Bool
  deriving DecidableEq, Repr

/-- A format code of R108. Which of them REDUCE, TOPK and DEQUANT accept is not stated: they accept every one (DESIGN CHOICE, log
entry 56). -/
def fmtOk (f : Nat) : Bool := decide (f ≤ 0xA)

/-- The certified image that an image is (R106): an image signed under key slot 0 with one of the library's identities. -/
def certifiedId (x : ImageInfo) : Option Nat := if x.keySlot = 0 then some x.imageId else none

/-- The shape scalar of a call on a certified image. GEMV_MX accepts the pairs of the matrix-vector unit (R57, R58), and its
results are binary32, since its scalar names no format for them; an index of TOPK takes 4 bytes (DEDUCED, log entry 56). SKETCH
has a shape scalar whose layout is not stated, so no count of it is checked. -/
def shapeOf (imageId : Option Nat) (b : Nat) : Shape :=
  let v (i : Nat) : Nat := argValue (invArg b i)
  match imageId with
  | some 0x00010020 =>
    let x := v 3
    let rows := bits x 63 32
    let blocks := bits x 31 12
    ⟨rows == 2 ^ 32 - 1 || blocks == 2 ^ 20 - 1 || decide (invLen b 0 < blockBytes (bits x 7 4) (rows * blocks)) ||
      decide (invLen b 1 < blockBytes (bits x 3 0) blocks) || decide (invLen b 2 < 4 * rows),
      bits x 11 8 != 0 || !mvPair (bits x 7 4) (bits x 3 0), rows == 0 || blocks == 0⟩
  | some 0x00010021 =>
    let x := v 2
    let n := bits x 63 32
    ⟨n == 2 ^ 32 - 1 || decide (invLen b 0 * 32 < blockBytes (bits x 7 4) n) ||
        decide (invLen b 1 < elemBytes (bits x 3 0) 1),
      bits x 31 12 != 0 || decide (2 < bits x 11 8) || !fmtOk (bits x 7 4) || !fmtOk (bits x 3 0), n == 0⟩
  | some 0x00010022 =>
    let x := v 3
    let n := bits x 63 32
    let k := bits x 31 16
    ⟨n == 2 ^ 32 - 1 || decide (4096 < k) || decide (invLen b 0 * 32 < blockBytes (bits x 3 0) n) ||
      decide (invLen b 1 * 32 < blockBytes (bits x 3 0) k) || decide (invLen b 2 < 4 * k), bits x 15 4 != 0 || !fmtOk (bits x 3 0), n == 0 || k == 0⟩
  | some 0x00010040 =>
    let x := v 2
    let n := bits x 63 32
    ⟨n == 2 ^ 32 - 1 || decide (invLen b 0 < blockBytes (bits x 7 4) n) || decide (invLen b 1 < blockBytes (bits x 3 0) n),
      bits x 31 8 != 0 || !fmtOk (bits x 7 4) || !fmtOk (bits x 3 0), n == 0⟩
  | some 0x00010041 =>
    let n := bits (v 3) 63 35
    ⟨n == 0x1FFFFFFF || decide (invLen b 0 < 4096 * n) || decide (invLen b 1 < 64 + ceilDiv (8 * n) 64 * 64 + 4160 * n) ||
      decide (invLen b 2 < 576), false, n == 0⟩
  | some 0x00010011 =>
    let x := v 2
    let n := bits x 35 32
    ⟨decide (8 < n) || decide (invLen b 0 < n * (x % 2 ^ 32)), bits x 63 36 != 0, n == 0⟩
  | _ => ⟨false, false, false⟩

/-- The fabric address of an address that a call names, through its handle's context; none where it faults (R125, R297). -/
def argAddress (s : State) (x : FnHandle) (a : Nat) (k : AccessKind) : Option Nat :=
  let die := 8 + (x.current.head?.map (·.2)).getD 0 / 16
  if x.context = 0 then some (pkgNo s * 2 ^ 48 + a)
  else match walk s 0 ⟨die, 0, x.tenant, some x.context, a, 64, k, 0⟩ x.context true with
    | .to t _ => some t
    | _ => none

/-- The bytes of a block that the first partial of a call on ATTN_MERGE describes (R160, R163); a header alone where the
partial cannot be read now. -/
def mergeOutput (s : State) (x : FnHandle) (b : Nat) : Nat :=
  match argAddress s x (argValue (invArg b 0)) .load with
  | none => 64
  | some a =>
    let off := a % 2 ^ 48
    if a / 2 ^ 48 ≠ pkgNo s ∨ !(farExtents s off 64).isEmpty ∨ anyBad s off 64 then 64
    else
      let h := readMem s off 64
      let n := bits h 54 48 * bits h 62 56
      if h % 256 = 1 ∨ h % 256 = 2 then ceilDiv (64 + 16 * n) 64 * 64 + 4 * (32 * bits h 71 64) * n else 64

/-- The lengths that R126 refuses; the interface is known once the handle is bound. -/
def invTooLong (s : State) (h : Hdr) (b : Nat) : Bool :=
  let n := invArgs b
  n == 15 || h.length != ceilDiv (32 + 16 * n) 64 ||
  (List.range n).any (fun i => isBuffer (argKind (invArg b i)) && invLen b i == 0xFFFFFFFF) ||
  (match tget s.handles (invHandle b) with
    | none => false
    | some x => n != 0 && (n != x.image.args.length ||
        (List.range n).any (fun i => match x.image.args[i]? with
          | some (k, m) => isBuffer k && decide (m < invLen b i)
          | none => true) || (shapeOf (certifiedId x.image) b).tooLong ||
        (certifiedId x.image == some 0x00010011 && bits (argValue (invArg b 2)) 35 32 != 0 &&
          decide (invLen b 1 < mergeOutput s x b))))

/-- A current cluster of a handle is being reloaded by the device (R122, R556), or is to be: its calls are deferred. -/
def reloading (s : State) (x : FnHandle) : Bool :=
  x.current.any (fun e => (cluster s e.2).reload || (match (cluster s e.2).load with | some j => j.acc.isNone | none => false))

/-- The retry hint of a call on a handle that is not open (R120), or is open and being reloaded. -/
def handleHint (s : State) (x : FnHandle) : Nat :=
  let open_ : Bool := x.st == .active || x.st == .staging
  let ts := (List.range x.roles).map (fun r => if open_ then tget x.current r else targetOf x r)
  let cs := ts.filterMap id
  if ts.any (·.isNone) ∨ cs.any (fun c => (cluster s c).st == .empty && (cluster s c).load.isNone) then 0
  else if cs.any (fun c => (cluster s c).st == .draining) then 3
  else (cs.map (clusterHint s)).foldl max 0

/-- The calls of a handle that are not over (R127). -/
def callsOf (s : State) (h : Nat) : Tab Call := s.calls.filter (fun e => e.2.handle == h || e.2.also.contains h)

/-- What R119 and R127 answer to a call on a handle; otherwise it is dispatched. -/
def withHandle (rq : Req) (h : Nat) (act : FnHandle → State → State) (s : State) : State :=
  match tget s.handles h with
  | none => complete rq .unsupported 0 s
  | some x =>
    if x.st = .assembling ∨ x.st = .rebinding ∨ reloading s x then deferReq rq (handleHint s x) (bump 0x4020 7 1 s)
    else if 64 ≤ (callsOf s h).length then deferReq rq 1 (bump 0x4020 7 1 s)
    else act x s

/-- A call is in flight on its handle's current clusters (R121). -/
def addCall (rq : Req) (acc h : Nat) (x : FnHandle) (s : State) : State :=
  { s with calls := tset s.calls acc ⟨⟨rq, s.time⟩, h, x.current.map (·.2), [], false, false⟩ }

/-- A table slot of the expanders (R221). -/
def slotAt (s : State) (k : Nat) : TableSlot := tgetD s.slots k TableSlot.free
def setSlot (k : Nat) (f : TableSlot → TableSlot) (s : State) : State := { s with slots := tset s.slots k (f (slotAt s k)) }

/-- The counts_crc of the image in a call's table argument (R234), read through the handle's context; none where it cannot
be read. -/
def argCrc (s : State) (x : FnHandle) (b : Nat) : Option Nat :=
  match argAddress s x (argValue (invArg b 2)) .load with
  | some t => if t / 2 ^ 48 = pkgNo s ∧ !anyBad s (t % 2 ^ 48) 64 then some (readMem s (t % 2 ^ 48 + 8) 4) else none
  | none => none

/-- What refuses a call on PACK_STREAM by its slot (R234). -/
def packRefused (s : State) (h b tenant : Nat) : Option Status :=
  match tget s.handles h with
  | none => none
  | some x =>
    if certifiedId x.image ≠ some 0x00010041 then none
    else
      let v := argValue (invArg b 3)
      let t := slotAt s (bits v 34 32)
      if t.st ≠ 0 ∧ t.tenant ≠ tenant then some .tenantBlocked
      else if t.st ≠ 2 ∨ t.gen ≠ bits v 31 0 ∨ argCrc s x b ≠ some t.crc then some .checkFail
      else none

/-- A call on PACK_STREAM counts its blocks in its slot until its record (R234). -/
def pinPack (acc : Nat) (x : FnHandle) (b : Nat) (s : State) : State :=
  if certifiedId x.image ≠ some 0x00010041 then s
  else
    let v := argValue (invArg b 3)
    let k := bits v 34 32
    let n := bits v 63 35
    setSlot k (fun t => { t with queued := t.queued + n }) { s with packs := tset s.packs acc (k * 2 ^ 32 + n) }

/-- The blocks of a call that is over leave its slot. -/
def unpinPack (acc : Nat) (s : State) : State :=
  match tget s.packs acc with
  | none => s
  | some p => setSlot (p / 2 ^ 32) (fun t => { t with queued := t.queued - p % 2 ^ 32 }) { s with packs := terase s.packs acc }

/-- An INVOKE at step 12 (R126). A zero argument count or buffer length makes it a no-op whatever its kinds are: the rule gives
no order between the two (DESIGN CHOICE, log entry 56). ATTN_DECODE is reached through the attention command alone (R106). -/
def doInvoke (rq : Req) (s : State) : State :=
  let b := rq.body
  let n := invArgs b
  let h := invHandle b
  let args := (List.range n).map (invArg b)
  let shape : Shape := match tget s.handles h with
    | some x => shapeOf (certifiedId x.image) b
    | none => ⟨false, false, false⟩
  let wrongKind : Bool := match tget s.handles h with
    | some x => certifiedId x.image == some 0x00010010 || (List.range n).any (fun i => ((x.image.args[i]?).map (·.1)) != some (argKind (invArg b i)))
    | none => false
  if bit b 80 ∧ !recordAt s (bits b 79 32) 32 then complete rq .unsupported 0 s
  else if n = 0 ∨ args.any (fun a => isBuffer (argKind a) && argLen a == 0) then complete rq .ok 0 s
  else if wrongKind ∨ shape.unsupported then complete rq .unsupported 0 s
  else if shape.empty then complete rq .ok 0 s
  else match packRefused s h b rq.hdr.tenant with
    | some st => complete rq st 0 s
    | none => withHandle rq h (fun x s =>
      let (acc, s) := nextAcc s
      pinPack acc x b (addCall rq acc h x (complete rq .ok acc s))) s

/-- The fabric dies of a handle's current clusters, which a call needs awake (R508). -/
def handleDoms (s : State) (h : Nat) : List Nat :=
  match tget s.handles h with
  | some x => (x.current.map (fun e => fabricDom (e.2 / 16))).eraseDups
  | none => []

/-- INVOKE (R126). -/
def execInvoke (h : Hdr) (body : Nat) (s : State) : Host.Outcome State Fault Refusal :=
  .next (serve ⟨0x13, h, body, 0, [], false⟩
    (postedChecks (invBad body) (some 64) (invTooLong s h body) false (handleDoms s (invHandle body)))
    (32 + 16 * invArgs body) (max 64 (32 + 16 * invArgs body)) doInvoke s)

/-- The cluster of role 0. -/
def callCluster (k : Call) : Nat := k.clusters.head?.getD 0

/-- The 32-byte call record (R128). -/
def callRecord (s : State) (k : Call) (st : Status) (result : Nat) : Nat :=
  let b := k.posted.req.body
  statusCode st + k.handle * 2 ^ 8 + callCluster k * 2 ^ 16 + elapsed s k.posted.at_ * 2 ^ 32 + bits b 223 160 * 2 ^ 64
    + result % 2 ^ 64 * 2 ^ 128 + s.time % 2 ^ 64 * 2 ^ 192

/-- A call is over: its record and its signal (R128). -/
def endCall (acc : Nat) (k : Call) (st : Status) (result : Nat) (s : State) : State :=
  let b := k.posted.req.body
  let s := unpinPack acc { s with calls := terase s.calls acc }
  let s := if st = .okSubst then bump 0x3011 2 1 s else s
  endPosted k.posted.req acc (bit b 80) (bits b 79 32) 32 (callRecord s k st result) (bit b 31) (bits b 30 16)
    (bits b 159 96) s

/-- The status that a call ends with (R94, R129, R374): INTERNAL when a tile of it failed or a write of it was refused (`bad`). -/
def callStatus (s : State) (k : Call) (bad : Bool) (r : CallResult) : Status :=
  if bad ∨ k.clusters.any (fun c => (List.range 16).any (fun j => (tile s (16 * c + j)).failed)) then .internal
  else match r.status with
    | .internal => .internal
    | st => if st = .poison ∨ k.poisoned then .poison else if r.subst ∨ st = .okSubst ∨ k.subst then .okSubst else .ok

/-- A write of a call is performed and acknowledged; one computed from poisoned input carries poison (R129). -/
def callWrite (rq : Req) (w : CallWrite) (s : State) : Status × State :=
  if w.address / 2 ^ 48 = pkgNo s then
    let off := w.address % 2 ^ 48
    engineStore 0 rq off w.bytes w.data w.poisoned s
  else if !reaches s w.address then (.internal, s)
  else
    let go (o : Out) (s : State) : State := send rq.hdr.cls (24 + w.bytes) w.address o s
    let s := go (.remote .store w.address w.bytes w.data 0 rq.hdr.tenant rq.hdr.cls) (meterOut rq.hdr.requester w.bytes s)
    (w.ack, if w.poisoned then go (.remotePoison w.address w.bytes 0 rq.hdr.tenant) s else s)

/-- The far extents of this package that a call's writes reach (R195). -/
def farWrites (s : State) (ws : List CallWrite) : List Nat :=
  ((ws.filter (fun w => w.address / 2 ^ 48 == pkgNo s)).map (fun w => farExtents s (w.address % 2 ^ 48) w.bytes)).flatten.eraseDups

/-- The tiles of a call's clusters go on after it. -/
def freeTiles (k : Call) (s : State) : State :=
  k.clusters.foldl (fun s c => (List.range 16).foldl (fun s j =>
    if (tile s (16 * c + j)).failed then setTile (16 * c + j) { tile s (16 * c + j) with failed := false, held := [] } s
    else s) s) s

/-- A call finishes with its writes, status and result, once every write is acknowledged (R128): one that reaches a far extent
stalls until the extent is promoted (R195); a refused one ends the call with INTERNAL, on a poisoned line with POISON (R184,
R550). -/
def finishCall (acc : Nat) (k : Call) (r : CallResult) (s : State) : State :=
  if !(farWrites s r.writes).isEmpty then (engineFar (farWrites s r.writes) s)
  else
  let ws := r.writes.foldl (fun (a : List Status × State) w =>
    let x := callWrite k.posted.req w a.2
    (a.1 ++ [x.1], x.2)) ([], s)
  let s := ws.2
  let k := { k with poisoned := k.poisoned || ws.1.contains .poison }
  let st := callStatus s k (ws.1.any (fun x => x != .ok && x != .poison)) r
  endCall acc k st r.result (freeTiles k s)

/-! ## Failing tiles (R21, R556) -/

/-- The spare of a cluster takes a logical number: its scratchpad is zero, it holds no generator state (R73, R556). The sticky
flags that go with the number are a fresh tile's, all clear: R21 and R556 say nothing of them (DESIGN CHOICE, log entry 57). -/
def substitute (c j : Nat) (s : State) : State :=
  let t := 16 * c + j
  let lo := windowBase + t * 2 ^ 20
  let s := { s with mem := s.mem.filter (fun x => x.1 < lo || lo + 2 ^ 20 ≤ x.1),
                    poison := s.poison.filter (fun l => 64 * l < lo || lo + 2 ^ 20 ≤ 64 * l) }
  logRepair 3 (8 + c / 16) t 0 (setTile t Tile.zero (setCluster c (fun x => { x with spares := x.spares + 1 })
    (setObj 0xB060 1 (obj s 0xB060 1 - 1) s)))

/-- The calls in flight on a cluster end with INTERNAL (R556), and an attention command on it fails (R162). -/
def failCalls (c : Nat) (s : State) : State :=
  (callsOn s c).foldl (fun s e =>
    if e.2.posted.req.op = 0x13 then endCall e.1 e.2 .internal 0 s
    else { s with calls := terase s.calls e.1, attends := tmod s.attends e.1 (fun x => { x with failed := true }) }) s

/-- A tile fails its check (R117, R556, R555). -/
def doTileFailure (c j : Nat) (s : State) : State :=
  let x := cluster s c
  if x.st = .empty ∨ x.st = .offline then s
  else if x.spares < 2 then
    let s := substitute c j s
    match x.st, x.load with
    | .loading, some l => setCluster c (fun y => { y with load := some { l with started := some s.time } }) s
    | .running, _ => reloadCluster c (failCalls c s)
    | .armed, _ => reloadCluster c s
    | _, _ => failCalls c s
  else
    let s := failCalls c s
    let s := match x.load with | some l => endLoad l c .internal s | none => s
    let s := cfgEvent (unassignRole c s)
    let s := clearTiles c (setCluster c (fun y =>
      { y with st := .offline, handle := none, staged := false, info := none, copy := 0, load := none, reload := false }) s)
    setObj 0xB060 2 (obj s 0xB060 2 + 1) s

/-- TILE_FAILURE (R556). -/
def execTileFailure (cluster index : Nat) (s : State) : Host.Outcome State Fault Refusal := .next (doTileFailure cluster index s)

end Sys2Proof.Machine
end

