-- ==== Sys2Proof/Machine/Registers.lean ====
section
/-! DEFINITION. Control blocks: the decoder, the shadows, the guard, the configuration check, the raw window and the die
pages (chapter 15). -/

namespace Sys2Proof.Machine

/-! ## Decoding (R476 to R480) -/

/-- A die's control block. -/
def block (s : State) (die : Nat) : Block := tgetD s.blocks die Block.zero
def setBlock (die : Nat) (f : Block → Block) (s : State) : State := { s with blocks := tset s.blocks die (f (block s die)) }

/-- The location that a block offset reaches (R478). -/
def decodeOff (off : Nat) : Nat :=
  let page := off / 4096 % 16
  page * 4096 + ((off % 4096) &&& (if page = 0 then 0xFCC else if page = 1 then 0x81C else 0xBFC))

/-- A location in the upper half of pages 0x1 to 0xF, and its lower-half location (R479). -/
def isUpper (a : Nat) : Bool := decide (4096 ≤ a) && bit a 11
def lowerOf (a : Nat) : Nat := if isUpper a then a - 0x800 else a

/-- The guarded registers (R484, R523). -/
def isGuarded (die low : Nat) : Bool := low == 0x1018 || (die == 0x1F && low == 0x8000)

/-- The _LO words of the pairs (R89, R352, R492, R523, R577). -/
def isLo (die a : Nat) : Bool :=
  (decide (0x400 ≤ a ∧ a < 0x800) && a % 64 == 0) || (decide (die < 8) && (a == 0x4008 || a == 0x5000)) ||
    (decide (8 ≤ die ∧ die < 16) && a == 0x3008) || ((die == 0x1E || die == 0x1F) && a == 0x2000)

/-- The register's complement port lies at this location. -/
def isPort (die a : Nat) : Bool := isUpper a && isGuarded die (lowerOf a)

/-- The bitwise complement of a word. -/
def notWord (v : Nat) : Nat := 0xFFFFFFFF - v % 2 ^ 32

/-! ## What a word reads as -/

/-- Registers that hold what was written (R87, R352, R523, R577). -/
def reg (s : State) (die a dflt : Nat) : Nat := tgetD s.regs (65536 * die + a) dflt
def setReg (die a v : Nat) (s : State) : State := { s with regs := tset s.regs (65536 * die + a) v }

/-- The kind of a die (R484). -/
def dieKind (die : Nat) : Nat :=
  if die < 8 then 1 else if die < 16 then 2 else if die = 0x18 ∨ die = 0x19 then 3
  else if die ≤ 0x1D then 4 else if die = 0x1E then 5 else 6

/-- A check state as CFG_STATUS reports it (R484, R487). -/
def checkCode : CfgCheck → Nat
  | .unref => 0 | .adopt => 1 | .clean => 2 | .pending => 3 | .reload => 2

/-- The directory entry that a home's probe selects (R330, R352). -/
def probedEntry (s : State) (die : Nat) : Nat :=
  let p := reg s die 0x4000 0
  match s.dir.find? (fun e => homeOf s (64 * e.1) == die && e.1 % 8192 == p / 16 && e.2.way == p % 16) with
  | none => 0
  | some (line, e) =>
    let ptr (i : Nat) : Nat := match e.ptrs[i]? with | some x => (32 + x) * 2 ^ (6 * i) | none => 0
    let unacked := s.snoops.any (fun x => x.2.line == line && (match x.2.why with | .home _ _ => true | .agent _ _ => true | _ => false))
    line / 8192 * 2 ^ 35 + e.st * 2 ^ 32 + b2n e.broadcast * 2 ^ 31 + b2n unacked * 2 ^ 30 + ptr 0 + ptr 1 + ptr 2 + ptr 3

/-- The tile that a fabric die's FAB_TILE_SEL selects (R87). -/
def selectedTile (s : State) (die : Nat) : Nat := 256 * (die - 8) + reg s die 0x3000 0

/-- PWR_DOMAIN_STATE (R523). -/
def domainStates (s : State) : Nat := ((List.range 28).map (fun d => (dom s d).st * 2 ^ (2 * d))).sum

/-- A word of page 0x0 (R491, R492). -/
def pageZero (s : State) (die a : Nat) : Nat :=
  let m := a / 64 % 16
  let w := a % 64 / 4
  let x := box s die m
  if a < 0x400 then 0
  else if a < 0x800 then
    (match w with
      | 0 => (headOf s die m).1 % 2 ^ 32
      | 1 => (headOf s die m).1 / 2 ^ 32
      | 2 => (headOf s die m).2
      | _ => mbxStatus s die m)
  else if a < 0xC00 then
    (match w with
      | 0 => 0
      | 1 => b2n (boundQp s die m).isSome * 2 + b2n x.enable
      | 2 => x.posted
      | _ => x.fullDefers)
  else if a = 0xC00 then
    b2n ((List.range 16).any (wakePending s die)) * 2 ^ 16 + tgetD s.geyser die 0
  else 0

/-- A word of page 0x1 (R484). -/
def pageOne (s : State) (die low : Nat) : Nat :=
  let b := block s die
  match low % 4096 with
  | 0x00 => dieKind die * 2 ^ 8 + die
  | 0x04 => b.reason * 2 ^ 17 + b2n b.guard.isSome * 2 ^ 16 + b.discards
  | 0x08 => b.crc
  | 0x0C => b.walks * 2 ^ 16 + checkCode b.check * 2 + b2n b.mismatch
  | 0x10 => b.misses
  | 0x18 => b2n b.walkEnable
  | _ => 0

/-- A word of pages 0x2 to 0xF, by kind of die (R87 to R89, R132, R352, R523, R577). -/
def pageUnit (s : State) (die low : Nat) : Nat :=
  if die < 8 then
    (match low with
      | 0x4000 => reg s die 0x4000 0
      | 0x4004 => (s.dir.filter (fun e => homeOf s (64 * e.1) == die)).length
      | 0x4008 => probedEntry s die % 2 ^ 32
      | 0x400C => probedEntry s die / 2 ^ 32
      | 0x5000 => reg s die 0x5000 0
      | 0x5004 => reg s die 0x5004 0
      | _ => 0)
  else if die < 16 then
    if 0x2000 ≤ low ∧ low < 0x2040 then clusterWord s (16 * (die - 8) + (low - 0x2000) / 4)
    else
      let t := tile s (selectedTile s die)
      (match low with
        | 0x3000 => reg s die 0x3000 0
        | 0x3004 => t.flags % 64 + b2n (match t.cfg with | some c => bit c.control 8 | none => false) * 64
        | 0x3008 => t.seed % 2 ^ 32
        | 0x300C => t.seed / 2 ^ 32 % 2 ^ 32
        | _ => 0)
  else if die = 0x1E then (match low with | 0x2000 => s.time % 2 ^ 32 | 0x2004 => s.time / 2 ^ 32 % 2 ^ 32 | _ => 0)
  else if die = 0x1F then
    (match low with
      | 0x2000 => domainStates s % 2 ^ 32
      | 0x2004 => domainStates s / 2 ^ 32
      | 0x2008 => reg s die 0x2008 0
      | 0x200C => reg s die 0x200C 0
      | 0x8000 => reg s die 0x8000 0x546
      | _ => 0)
  else 0

/-- The live word at a decoded location; a complement port reads as its register's complement (R479, R480). -/
def liveWord (s : State) (die a : Nat) : Nat :=
  if a < 4096 then pageZero s die a
  else
    let low := lowerOf a
    let v := if low < 0x2000 then pageOne s die low else pageUnit s die low
    if isPort die a then notWord v else v

/-- A read through the decoder, with its effect on the read shadow (R481). The progress of a scrub pass is a free value
(R577, log entry 1). -/
def readWord (die off : Nat) (s : State) : Nat × State :=
  let a := decodeOff off
  let low := if a < 4096 then a else lowerOf a
  if isLo die low then (liveWord s die a, setBlock die (fun b => { b with readShadow := some (low, liveWord s die (low + 4)) }) s)
  else if 4 ≤ low ∧ isLo die (low - 4) then
    match (block s die).readShadow with
    | some (tag, v) =>
      if tag = low - 4 then (v, setBlock die (fun b => { b with readShadow := none }) s)
      else (liveWord s die a, bump 0xF012 2 1 (setBlock die (fun b => { b with misses := satInc 32 b.misses 1 }) s))
    | none => (liveWord s die a, bump 0xF012 2 1 (setBlock die (fun b => { b with misses := satInc 32 b.misses 1 }) s))
  else if die < 8 ∧ low = 0x5008 then
    let (f, s) := drawFree s
    (reg s die 0x5008 0 * 2 ^ 16 + f % 101, s)
  else (liveWord s die a, s)

/-! ## The configuration check (R485 to R488) -/

/-- A bit of a mask object. -/
def maskBit (index sub n : Nat) (v : Bool) (s : State) : State :=
  setObj index sub (setBits (obj s index sub) n n (b2n v)) s

/-- A die's check moves to a state, shown in cfg_pending_mask. -/
def setCheck (die : Nat) (c : CfgCheck) (s : State) : State :=
  maskBit 0xF010 5 die (c == .pending) (setBlock die (fun b => { b with check := c, overdue := false }) s)

/-- cfg_integrity_event: the die and the kind (R488). -/
def cfgIntegrity (die kind : Nat) (s : State) : State := raiseEvent 0xF010 6 (die + kind * 2 ^ 8) s

/-- A write performed on a register of a die's configuration space marks configuration pending (R486, R487). -/
def markPending (die : Nat) (s : State) : State :=
  match (block s die).check with
  | .clean => setCheck die .pending s
  | .reload => setCheck die .pending s
  | .adopt => setBlock die (fun b => { b with marked := true }) s
  | _ => s

/-- The die's pages 0x1 to 0xF serve accesses (R477). -/
def pagesServe (s : State) (die : Nat) : Bool := hasBlock die && diePresent s die && decide ((dom s (dieDom die)).st ≤ 1)

/-- The code of a die's configuration space (R485): 8,192 bytes, of which the power die's first word alone holds a
register. -/
def cfgCrc (s : State) (die : Nat) : Nat := crc32c 8192 (if die = 0x1F then reg s die 0x8000 0x546 else 0)

/-- A cfg_commit has nothing left to wait for (R488). -/
def commitOver (s : State) : Bool :=
  (List.range 32).all (fun d => !hasBlock d || !diePresent s d || !(block s d).walkEnable || (block s d).check != .adopt ||
    decide (2 ≤ (dom s (dieDom d)).st))

/-- The answer to a cfg_commit that is over. -/
def settleCommit (s : State) : State := if commitOver s then dapFinishKey (okey 0xF010 2) .ok 0 s else s

/-- CFG_WALK_START (R485). -/
def execCfgWalkStart (die : Nat) (s : State) : Host.Outcome State Fault Refusal :=
  .next (if pagesServe s die ∧ (block s die).walkEnable then
      setBlock die (fun b => { b with walking := true, marked := false }) s
    else s)

/-- A mismatch is recorded and reported, once while its bit is set (R487). -/
def cfgMismatch (die kind : Nat) (s : State) : State :=
  cfgIntegrity die kind (maskBit 0xF010 4 die true (setBlock die (fun b => { b with mismatch := true }) s))

/-- A walk ends (R487). -/
def doWalkEnd (die : Nat) (s : State) : State :=
  if (block s die).walking ∧ pagesServe s die then
    let crc := cfgCrc s die
    let s := setBlock die (fun b => { b with walking := false, crc := crc, walks := (b.walks + 1) % 65536 }) s
    let b := block s die
    settleCommit (match b.check with
      | .unref => s
      | .pending => s
      | .adopt => if b.marked then s else
          setCheck die .clean (setObj 0xF011 (die + 1) crc (setBlock die (fun b => { b with ref := crc }) s))
      | .clean => if crc ≠ b.ref ∧ !b.mismatch then cfgMismatch die 1 s else s
      | .reload => setCheck die .clean (if crc ≠ b.ref then cfgMismatch die 2 s else s))
  else s

/-- CFG_WALK_END (R487). -/
def execCfgWalkEnd (die : Nat) (s : State) : Host.Outcome State Fault Refusal := .next (doWalkEnd die s)

/-- CFG_PENDING_OVERDUE (R487): once. -/
def execCfgPendingOverdue (die : Nat) (s : State) : Host.Outcome State Fault Refusal :=
  .next (if (block s die).check = .pending ∧ !(block s die).overdue then
      cfgIntegrity die 3 (setBlock die (fun b => { b with overdue := true }) s)
    else s)

/-- A write of 1 to cfg_commit (R488); its answer leaves once it is over. -/
def doCfgCommit (c : Ctx) (s : State) : State :=
  if c.value ≠ 1 then finBad c s
  else settleCommit ((List.range 32).foldl (fun s d => if hasBlock d ∧ diePresent s d then setCheck d .adopt s else s) s)

/-- CFG_COMMIT (R488). -/
def execCfgCommit (d : DapMsg) (s : State) : Host.Outcome State Fault Refusal :=
  .next (dapServe dapWrite (toObj d 0xF010 2) doCfgCommit s)

/-- CFG_COMMIT_TIMEOUT (R488): some die is still in ADOPT, so what waits is deferred. -/
def execCfgCommitTimeout (s : State) : Host.Outcome State Fault Refusal :=
  .next (if commitOver s then s else dapFinishKey (okey 0xF010 2) .defer 0 s)

/-! ## Writes: the guard, the write shadow, the registers (R482, R483) -/

/-- A discard (R483): counted, with its reason: 1 MISMATCH, 2 TIMEOUT, 3 UNARMED, 4 INTERRUPTED, 5 SUPERSEDED. -/
def discard (die reason : Nat) (s : State) : State :=
  bump 0xF012 1 1 (setBlock die (fun b => { b with guard := none, discards := satInc 16 b.discards 1, reason := reason }) s)

/-- A guarded value is one the register takes (R484, R523). -/
def guardedTakes (low v : Nat) : Bool := if low = 0x1018 then decide (v < 2) else decide (300 ≤ v ∧ v ≤ 1350)

/-- A guarded register takes its value. -/
def applyGuarded (die low v : Nat) (s : State) : State :=
  if low = 0x1018 then settleCommit (setBlock die (fun b => { b with walkEnable := v == 1 }) s)
  else markPending die (setReg die low v s)

/-- A write is performed on an unguarded register; RO registers and unassigned words ignore it (R480). -/
def writeUnit (die a v : Nat) (s : State) : State :=
  if a < 4096 then
    let m := a / 64 % 16
    if 0x800 ≤ a ∧ a < 0xC00 then
      (match a % 64 with
        | 0 => (mbxAck die m v s).2
        | 4 => setBox die m { box s die m with enable := bit v 0 } s
        | _ => s)
    else if a = 0xF00 ∧ die < 16 then (xltService die v none s).2
    else s
  else
    let low := lowerOf a
    if low = 0x100C then
      if bit v 0 then maskBit 0xF010 4 die false (setBlock die (fun b => { b with mismatch := false }) s) else s
    else if 8 ≤ die ∧ die < 16 ∧ low = 0x3000 then setReg die low (v % 256) s
    else if 8 ≤ die ∧ die < 16 ∧ low = 0x3004 then
      let t := selectedTile s die
      setTile t { tile s t with flags := (tile s t).flags - ((tile s t).flags &&& (v % 64)) } s
    else if die < 8 ∧ low = 0x4000 then setReg die low (v % 2 ^ 17) s
    else s

/-- A write of a pair's word (R482, log entry 20): no pair of the spec is RW, so a _LO write loads the shadow and the
registers keep their values. -/
def writePair (die low v : Nat) (s : State) : State :=
  if isLo die low then setBlock die (fun b => { b with writeShadow := some (low, v) }) s
  else setBlock die (fun b => match b.writeShadow with
    | some (tag, _) => if tag + 4 = low then { b with writeShadow := none } else b
    | none => b) s

/-- A word of a pair. -/
def inPair (die low : Nat) : Bool := isLo die low || (decide (4 ≤ low) && isLo die (low - 4))

/-- A write is performed, once the guard has let it pass. -/
def performWrite (die a v : Nat) (s : State) : State :=
  let low := if a < 4096 then a else lowerOf a
  if inPair die low then writePair die low v s else writeUnit die a v s

/-- A write through the decoder (R478, R483, R9): page 0x0 leaves the guard alone. -/
def blockWrite (die off v : Nat) (s : State) : State :=
  let a := decodeOff off
  let v := v % 2 ^ 32
  if a < 4096 then (if hasBlock die ∧ diePresent s die ∧ s.pkg ≠ .off then performWrite die a v s else s)
  else if !pagesServe s die then s
  else
    let low := lowerOf a
    let hold (s : State) : State := setBlock die (fun b => { b with guard := some (low, v) }) s
    match (block s die).guard with
    | none =>
      if isPort die a then discard die 3 s
      else if isGuarded die a then hold s
      else performWrite die a v s
    | some (g, w) =>
      if isPort die a then
        if low = g then
          if v = notWord w ∧ guardedTakes g w then applyGuarded die g w (setBlock die (fun b => { b with guard := none }) s)
          else discard die 1 s
        else discard die 3 (discard die 4 s)
      else if isGuarded die a then hold (discard die 5 s)
      else performWrite die a v (discard die 4 s)

/-- Both writes of a guarded pair, with no write between. -/
def guardedPair (die off v : Nat) (s : State) : State := blockWrite die (off + 0x800) (notWord v) (blockWrite die off v s)

/-- The guard of a block whose domain leaves IDLE is discarded (R483), and a walk under way ends unread. -/
def dropGuard (die : Nat) (s : State) : State :=
  let s := if (block s die).guard.isSome then discard die 2 s else s
  setBlock die (fun b => { b with walking := false }) s

/-- REG_WRITE (R478). -/
def execRegWrite (die offset value : Nat) (s : State) : Host.Outcome State Fault Refusal := .next (blockWrite die offset value s)

/-- GUARDED_REG_WRITE (R483). -/
def execGuardedRegWrite (die offset value : Nat) (s : State) : Host.Outcome State Fault Refusal :=
  .next (blockWrite die offset value s)

/-- COMPLEMENT_PORT_WRITE (R483). -/
def execComplementPortWrite (die offset value : Nat) (s : State) : Host.Outcome State Fault Refusal :=
  .next (blockWrite die offset value s)

/-- GUARD_TIMEOUT (R483). -/
def execGuardTimeout (die : Nat) (s : State) : Host.Outcome State Fault Refusal :=
  .next (if (block s die).guard.isSome then discard die 2 s else s)

/-- A read by management firmware: its value leaves. -/
def firmwareRead (die offset : Nat) (s : State) : State :=
  if !hasBlock die ∨ !diePresent s die ∨ s.pkg = .off ∨ (4096 ≤ decodeOff offset ∧ !pagesServe s die) then s
  else
    let (v, s) := readWord die offset s
    emit (.regRead die offset v) s

/-- REG_LO_READ (R481). -/
def execRegLoRead (die offset : Nat) (s : State) : Host.Outcome State Fault Refusal := .next (firmwareRead die offset s)

/-- REG_HI_READ (R481). -/
def execRegHiRead (die offset : Nat) (s : State) : Host.Outcome State Fault Refusal := .next (firmwareRead die offset s)

/-- REG_LO_WRITE (R482). -/
def execRegLoWrite (die offset value : Nat) (s : State) : Host.Outcome State Fault Refusal := .next (blockWrite die offset value s)

/-- REG_HI_WRITE (R482). -/
def execRegHiWrite (die offset value : Nat) (s : State) : Host.Outcome State Fault Refusal := .next (blockWrite die offset value s)

/-- MBX_ACK_WRITE (R496). -/
def execMbxAckWrite (die mailbox value : Nat) (s : State) : Host.Outcome State Fault Refusal :=
  .next (blockWrite die (0x800 + 64 * mailbox) value s)

/-- FAB_TILE_SEL_WRITE (R90). -/
def execFabTileSelWrite (die value : Nat) (s : State) : Host.Outcome State Fault Refusal := .next (blockWrite die 0x3000 value s)

/-- HOME_DIR_PROBE_WRITE (R352). -/
def execHomeDirProbeWrite (die value : Nat) (s : State) : Host.Outcome State Fault Refusal :=
  .next (blockWrite die 0x4000 value s)

/-! ## The raw window (R489, R490) -/

/-- The raw window's die and offset. -/
def rawDie (s : State) : Nat := obj s 0xF000 1
def rawOffset (s : State) : Nat := obj s 0xF000 2

/-- An access through the window, deferred while the die's pages sleep (R490). -/
def rawAccess (c : Ctx) (act : State → State) (s : State) : State :=
  let d := dieDom (rawDie s)
  if 4096 ≤ decodeOff (rawOffset s) ∧ 2 ≤ (dom s d).st then fin c .defer (wakeHint s d) (wake d s) else act s

/-- raw_die is written. -/
def doRawDie (c : Ctx) (s : State) : State :=
  if !hasBlock c.value ∨ 31 < c.value ∨ !diePresent s c.value then finBad c s else applied c (setObj 0xF000 1 c.value) s

/-- raw_offset is written. -/
def doRawOffset (c : Ctx) (s : State) : State :=
  if c.value % 4 ≠ 0 then finBad c s else applied c (setObj 0xF000 2 c.value) s

/-- A value read answers its request. -/
def finRead (c : Ctx) (n v : Nat) (s : State) : State := dapFinish c.port c.id .ok 0 n v s

/-- raw_data is read. -/
def doRawRead (c : Ctx) (s : State) : State :=
  rawAccess c (fun s => let (v, s) := readWord (rawDie s) (rawOffset s) s; finRead c 4 v s) s

/-- raw_data is written. -/
def doRawWrite (c : Ctx) (s : State) : State :=
  rawAccess c (applied c (fun s => blockWrite (rawDie s) (rawOffset s) c.value s)) s

/-- raw_data64 is read: _LO then _HI in one step. -/
def doRawRead64 (c : Ctx) (s : State) : State :=
  if rawOffset s % 8 ≠ 0 then finBad c s
  else rawAccess c (fun s =>
    let (lo, s) := readWord (rawDie s) (rawOffset s) s
    let (hi, s) := readWord (rawDie s) (rawOffset s + 4) s
    finRead c 8 (lo + hi * 2 ^ 32) s) s

/-- raw_data64 is written: _LO then _HI in one step. -/
def doRawWrite64 (c : Ctx) (s : State) : State :=
  if rawOffset s % 8 ≠ 0 then finBad c s
  else rawAccess c (applied c (fun s =>
    blockWrite (rawDie s) (rawOffset s + 4) (c.value / 2 ^ 32) (blockWrite (rawDie s) (rawOffset s) (c.value % 2 ^ 32) s))) s

/-- raw_guarded is written: a value and its complement; a value that the register does not take is discarded, and then
nothing took effect that a record could hold (log entry 22). -/
def doRawGuarded (c : Ctx) (s : State) : State :=
  let a := decodeOff (rawOffset s)
  if !isGuarded (rawDie s) a ∨ a < 4096 then finBad c s
  else if guardedTakes a c.value then rawAccess c (applied c (guardedPair (rawDie s) (rawOffset s) c.value)) s
  else rawAccess c (fun s => finOk c (guardedPair (rawDie s) (rawOffset s) c.value s)) s

/-- RAW_DIE_WRITE (R490). -/
def execRawDieWrite (d : DapMsg) (s : State) : Host.Outcome State Fault Refusal :=
  .next (dapServe dapWrite (toObj d 0xF000 1) doRawDie s)

/-- RAW_OFFSET_WRITE (R490). -/
def execRawOffsetWrite (d : DapMsg) (s : State) : Host.Outcome State Fault Refusal :=
  .next (dapServe dapWrite (toObj d 0xF000 2) doRawOffset s)

/-- RAW_DATA_READ (R489). -/
def execRawDataRead (d : DapMsg) (s : State) : Host.Outcome State Fault Refusal :=
  .next (dapServe dapRead (toObj d 0xF000 3) doRawRead s)

/-- RAW_DATA_WRITE (R489). -/
def execRawDataWrite (d : DapMsg) (s : State) : Host.Outcome State Fault Refusal :=
  .next (dapServe dapWrite (toObj d 0xF000 3) doRawWrite s)

/-- RAW_DATA64_READ (R489). -/
def execRawData64Read (d : DapMsg) (s : State) : Host.Outcome State Fault Refusal :=
  .next (dapServe dapRead (toObj d 0xF000 4) doRawRead64 s)

/-- RAW_DATA64_WRITE (R489). -/
def execRawData64Write (d : DapMsg) (s : State) : Host.Outcome State Fault Refusal :=
  .next (dapServe dapWrite (toObj d 0xF000 4) doRawWrite64 s)

/-- RAW_GUARDED_WRITE (R489). -/
def execRawGuardedWrite (d : DapMsg) (s : State) : Host.Outcome State Fault Refusal :=
  .next (dapServe dapGuarded (toObj d 0xF000 5) doRawGuarded s)

/-- cfg_check_enable (R499): the walk_enable of every block whose die is awake, by guarded pairs; a sleeping die takes it
when it powers up. -/
def doCheckEnable (c : Ctx) (s : State) : State :=
  applied c (fun s => (List.range 32).foldl (fun s d => if pagesServe s d then guardedPair d 0x1018 c.value s else s)
    (setObj 0xF010 1 c.value s)) s

/-- REG_COUNTERS_CLEAR (R499). -/
def execRegCountersClear (d : DapMsg) (s : State) : Host.Outcome State Fault Refusal :=
  .next (clearObj d 0xF012 5 (clearObjs 0xF012 [1, 2, 3, 4]) s)

/-! ## Die pages (R497) -/

/-- A write of a line in a die page (R496, R497, R314); `tenant` is the writer's. -/
def pageWrite (off v tenant : Nat) (s : State) : Status × State :=
  match pageDie off with
  | none => (.unsupported, s)
  | some die =>
    let o := (off - pageBase) % 65536
    if v / 2 ^ 32 ≠ 0 then (.unsupported, s)
    else if 0x800 ≤ o ∧ o < 0xC00 ∧ o % 64 = 0 then
      let (ok, s) := mbxAck die (o / 64 - 32) v s
      (if ok then .ok else .unsupported, s)
    else if o = 0xF00 ∧ die < 16 then xltService die v (some tenant) s
    else (.unsupported, s)

/-- DOORBELL at step 12 (R493). -/
def doDoorbell (rq : Req) (s : State) : State :=
  let (r, s) := doorbellAt rq.hdr.offset (bits rq.body 63 0) (bits rq.body 95 64) s
  completeWith rq r.1 0 r.2 0 0 none s

end Sys2Proof.Machine
end

