-- ==== Sys2Proof/Machine/MemOps.lean ====
section
/-! DEFINITION. The memory requests of the links: reads, writes, atomics, publishes and doorbells, at memory, windows and
die pages (R388 to R395, R497). -/

namespace Sys2Proof.Machine

/-- The power domains that an access to a range needs: the homes of its lines (of the line it starts in where it is empty, R43), or the fabric die of its window; page 0x0
of a die never sleeps (R477, R508). -/
def rangeDoms (s : State) (off n : Nat) : List Nat :=
  if off < memRange s then (homesOf s off (max 1 n)).map homeDom
  else match windowTile off with
    | some t => [fabricDom (t / 256)]
    | none => []

/-- The checks of a request for memory, a window or a page (R42, R388, R497). -/
def memChecks (s : State) (h : Hdr) (perm : Nat) : Checks :=
  { badField := false, names := .range (64 * h.length), maxLen := some (if pageBase ≤ h.offset then 1 else 64), one := false,
    absent := false, targets := if h.length ≤ 64 then rangeDoms s h.offset (64 * h.length) else [], perm := some perm,
    also := none, badBody := false }

/-- A read request is served. -/
def serveRead (op : Nat) (h : Hdr) (found : List (Nat × Nat)) (act : Req → State → State) (s : State) : State :=
  serve ⟨op, h, 0, 0, found, false⟩ (memChecks s h 0) 0 (max 64 (64 * h.length)) act s

/-- A WRITE at step 12: of a die page, else of memory or a window. -/
def doWrite (rq : Req) (s : State) : State :=
  if pageBase ≤ rq.hdr.offset ∧ rq.hdr.length ≠ 0 then
    let (st, s) := pageWrite rq.hdr.offset (rq.data % 2 ^ 512) rq.hdr.tenant s
    complete rq st 0 s
  else startWrite rq s

/-- A write request is served. -/
def serveWrite (op : Nat) (h : Hdr) (data : Nat) (act : Req → State → State) (s : State) : State :=
  serve ⟨op, h, 0, data, [], false⟩ (memChecks s h 1) (64 * h.length) (max 64 (64 * h.length)) act s

/-- READ (R388). -/
def execRead (h : Hdr) (found : List (Nat × Nat)) (s : State) : Host.Outcome State Fault Refusal :=
  .next (serveRead 0x01 h found startRead s)

/-- READ_ACQ (R361). -/
def execReadAcq (h : Hdr) (found : List (Nat × Nat)) (s : State) : Host.Outcome State Fault Refusal :=
  .next (serveRead 0x02 h found orderedStart s)

/-- WRITE (R360). -/
def execWrite (h : Hdr) (data : Nat) (s : State) : Host.Outcome State Fault Refusal := .next (serveWrite 0x03 h data doWrite s)

/-- WRITE_REL (R361). -/
def execWriteRel (h : Hdr) (data : Nat) (s : State) : Host.Outcome State Fault Refusal :=
  .next (serveWrite 0x04 h data orderedStart s)

/-- The checks of an ATOMIC (R390, R391). -/
def atomicChecks (s : State) (h : Hdr) (body : Nat) : Checks :=
  { badField := atomicBad body, names := .location (atomicWidth body), maxLen := none, one := false, absent := false,
    targets := rangeDoms s h.offset 1, perm := some 2, also := none, badBody := false }

/-- ATOMIC (R391). -/
def execAtomic (h : Hdr) (body : Nat) (s : State) : Host.Outcome State Fault Refusal :=
  .next (serve ⟨0x06, h, body, 0, [], false⟩ (atomicChecks s h body) 32 64 startAtomic s)

/-- The checks of a PUBLISH (R392, R401): its data and its version word. -/
def publishChecks (s : State) (h : Hdr) (body : Nat) : Checks :=
  { memChecks s h 1 with
    badField := bits body 511 112 != 0
    targets := (memChecks s h 1).targets ++ (if pubVersion body < memRange s then [homeDom (homeOf s (pubVersion body))] else [])
    also := some (pubVersion body, 8) }

/-- PUBLISH (R393). -/
def execPublish (h : Hdr) (body data : Nat) (s : State) : Host.Outcome State Fault Refusal :=
  .next (serve ⟨0x07, h, body, data, [], false⟩ (publishChecks s h body) (64 + 64 * h.length) (max 64 (64 * h.length))
    orderedStart s)

/-- The checks of a DOORBELL (R395, R401, R493). -/
def doorbellChecks (body : Nat) : Checks :=
  { badField := bits body 127 96 != 0, names := .slot, maxLen := none, one := false, absent := false, targets := [],
    perm := some 3, also := none, badBody := false }

/-- DOORBELL (R493). -/
def execDoorbell (h : Hdr) (body : Nat) (s : State) : Host.Outcome State Fault Refusal :=
  .next (serve ⟨0x0A, h, body, 0, [], false⟩ (doorbellChecks body) 16 64 doDoorbell s)

/-- A request with an opcode that is not in the table (R388): step 1 refuses it. -/
def unknownChecks : Checks :=
  { badField := true, names := .package, maxLen := none, one := false, absent := false, targets := [], perm := none,
    also := none, badBody := false }

/-- UNKNOWN_OPCODE (R388). -/
def execUnknownOpcode (h : Hdr) (opcode : Nat) (s : State) : Host.Outcome State Fault Refusal :=
  .next (serve ⟨opcode, h, 0, 0, [], false⟩ unknownChecks 0 64 (fun _ s => s) s)

/-- SCRATCHPAD_WINDOW_ACCESS (R52): a read or a write of a tile's window. -/
def execScratchpadWindowAccess (w : WindowAccess) (s : State) : Host.Outcome State Fault Refusal :=
  .next (if (windowTile w.hdr.offset).isNone then s
    else if w.write then serveWrite 0x03 w.hdr w.data doWrite s
    else serveRead 0x01 w.hdr [] startRead s)

/-- XLT_RETRY (R315): a WRITE of XLT_SERVICE with the action RETRY. -/
def execXltRetry (h : Hdr) (value : Nat) (s : State) : Host.Outcome State Fault Refusal :=
  .next (serveWrite 0x03 h (setBits value 29 28 1) doWrite s)

/-- XLT_ABORT (R315): a WRITE of XLT_SERVICE with the action ABORT. -/
def execXltAbort (h : Hdr) (value : Nat) (s : State) : Host.Outcome State Fault Refusal :=
  .next (serveWrite 0x03 h (setBits value 29 28 2) doWrite s)

end Sys2Proof.Machine
end

