-- ==== Sys2Proof/Machine/Switch.lean ====
section
/-! DEFINITION. A tile's switchbox and the steps of its arithmetic units: which source feeds which sink, what a step takes
and gives, and where it stalls (R47 to R50, R57 to R77, R94, R96). -/

namespace Sys2Proof.Machine

/-! ## The running configuration (R48, R94, R96) -/

/-- The state of a tile's cluster lets its tiles work on calls: RUNNING, or DRAINING the calls in flight (R117). -/
def clusterServes (s : State) (t : Nat) : Bool :=
  match tget s.clusters (t / 16) with
  | some c => c.st == .running || c.st == .draining
  | none => false

/-- A tile's sequencer runs microcode: the tile's clock runs, its cluster serves calls, and its configuration has microcode
(R46, R96, R117). -/
def tileActive (s : State) (t : Nat) : Bool :=
  tileRuns s t && clusterServes s t && (match (tile s t).cfg with | some c => c.words != 0 | none => false)

/-- The arithmetic control word of a tile (R67). -/
def tileControl (s : State) (t : Nat) : Nat := match (tile s t).cfg with | some c => c.control | none => 0

/-- The request that a tile's own write is made as. -/
def tileReq (s : State) (t : Nat) : Req :=
  ⟨0x03, ⟨.link 0, 1, 0, 0, 0, 0, 0, pkgNo s, windowBase + t * 2 ^ 20, 1, 0⟩, 0, 0, [], false⟩

/-! ## Sources and sinks (R49, R50) -/

/-- The source that the configuration connects to a sink; none: the sink is idle, as every sink is without microcode (R49,
R50, R94, R96). -/
def sinkSource (c : TileCfg) (k : Nat) : Option Nat :=
  if c.words = 0 then none else (List.range 8).find? (fun i => bit c.routes (8 * k + i))

/-- The bytes that a source gives in a cycle (R49). -/
def sourceBytes (i : Nat) : Nat := match i with | 2 => 64 | 3 => 64 | 7 => 8 | _ => 128

/-- What stands at a sink: it is idle, its source has none to give, or data and whether it is poisoned. -/
inductive Operand where
  | idle | wait | data (v : Nat) (bad : Bool)
  deriving DecidableEq, Repr

def Operand.value : Operand → Nat | .data v _ => v | _ => 0
def Operand.bad : Operand → Bool | .data _ b => b | _ => false

/-- Two granules of a tile's scratchpad from an address, round its end (R51), and whether one is poisoned. -/
def padRead (t a : Nat) (s : State) : Operand :=
  let at_ (i : Nat) : Nat := windowBase + t * 2 ^ 20 + (a / 64 + i) % 16384 * 64
  .data (readMem s (at_ 0) 64 + 2 ^ 512 * readMem s (at_ 1) 64) (anyBad s (at_ 0) 64 || anyBad s (at_ 1) 64)

/-- What a sink takes in a step (R49). -/
def operand (t k : Nat) (f : Feed) (s : State) : Operand :=
  let x := tile s t
  match x.cfg with
  | none => .idle
  | some c =>
    match sinkSource c k with
    | none => .idle
    | some 0 => padRead t f.a s
    | some 1 => padRead t f.b s
    | some 4 => .data (bits (c.consts % 2 ^ 65536) (8 * (f.k % 8192) + 1023) (8 * (f.k % 8192))) false
    | some 5 =>
      let es := (List.range 32).map (fun i => (f.entry + i) % 256)
      .data (packCodes 32 (es.map (fun e => tgetD x.accs e 0))) (es.any (fun e => x.badAccs.contains e))
    | some 6 => .data x.vec x.vecBad
    | some 7 => .data (f.imm % 2 ^ 64) false
    | some _ => match tget x.latches k with | some l => .data l.1 l.2 | none => .wait

/-- The sinks that a configuration connects to a source (R50: any number, each with the same data). -/
def sinksOf (c : TileCfg) (i : Nat) : List Nat := (List.range 8).filter (fun k => sinkSource c k == some i)

/-- Every sink connected to a source can take new data. -/
def sinksFree (s : State) (t i : Nat) : Bool :=
  match (tile s t).cfg with
  | some c => (sinksOf c i).all (fun k => (tget (tile s t).latches k).isNone)
  | none => true

/-- Data from a source reaches every sink connected to it, and waits there. -/
def deliver (t i v : Nat) (bad : Bool) (s : State) : State :=
  match (tile s t).cfg with
  | some c => setTile t { tile s t with latches := (sinksOf c i).foldl (fun l k => tset l k (v, bad)) (tile s t).latches } s
  | none => s

/-- Flags of a tile are set (R88). -/
def addFlags (t fl : Nat) (s : State) : State := setTile t { tile s t with flags := (tile s t).flags ||| fl } s

/-! ## What a step gives (R49, R51) -/

/-- The tile that a step's router output names. -/
def peerTile (t : Nat) (f : Feed) : Nat := 16 * (t / 16) + f.peer % 16

/-- The scratchpad write port and the router output take what stands at them, where the step asks for it. -/
def moveOut (t : Nat) (f : Feed) (s : State) : State :=
  let width (k : Nat) : Nat := match (tile s t).cfg with
    | some c => (match sinkSource c k with | some i => sourceBytes i | none => 0)
    | none => 0
  let put (s : State) : State :=
    match operand t 5 f s with
    | .data v bad =>
      let off := windowBase + t * 2 ^ 20 + f.w % 2 ^ 20
      let n := min (width 5) (2 ^ 20 - f.w % 2 ^ 20)
      let s := setTile t { tile s t with latches := terase (tile s t).latches 5 } s
      (engineStore 0 (tileReq s t) off n (v % 2 ^ (8 * n)) bad s).2
    | _ => s
  let send (s : State) : State :=
    match operand t 7 f s with
    | .data v bad =>
      deliver (peerTile t f) 3 (v % 2 ^ 512) bad (setTile t { tile s t with latches := terase (tile s t).latches 7 } s)
    | _ => s
  let s := if f.write then put s else s
  if f.send then send s else s

/-! ## The units (R57 to R77) -/

/-- A row lane of a matrix-vector step (R57 to R66): lane `l` takes the block at `l` times a block's bytes of the matrix
operand, with scale byte `l`, and accumulates in entry `entry + l` (log entry 53). -/
def mvLane (t : Nat) (m : MvStep) (wv vv l : Nat) (bad : Bool) (s : State) : State :=
  let x := tile s t
  let e := (m.entry + l) % 256
  let b := mvBlock m.wfmt m.vfmt m.count (wv / 2 ^ (32 * codeBits m.wfmt * l)) vv (bits m.wscales (8 * l + 7) (8 * l))
    (m.vscale % 256)
  let int32 : Bool := m.wfmt == 0xA && bit (tileControl s t) 11
  let r := mvAccumulate int32 (if m.clear then 0 else tgetD x.accs e 0) b
  let worse : Bool := bad || (!m.clear && x.badAccs.contains e)
  bump 0x4010 6 (b2n (r.2 / flInt % 2 == 1)) (bump 0x4010 5 (b2n (b.1.flags / flTrunc % 2 == 1))
    (bump 0x4010 3 (b2n (b.1.value == .nan))
      (setTile t { x with accs := tset x.accs e r.1, flags := x.flags ||| r.2,
                          badAccs := if worse then sadd x.badAccs e else sdel x.badAccs e } s)))

/-- A matrix-vector step: one block sum in each lane (R57 to R66). A format outside its operand's mask is not performed: the
call ends with INTERNAL, and the invalid flag is set (R94). -/
def doMatrixVector (t : Nat) (m : MvStep) (w v : Operand) (s : State) : State :=
  match (tile s t).cfg with
  | none => s
  | some c =>
    if !bit c.matrixFormats m.wfmt ∨ !bit c.vectorFormats m.vfmt ∨ !mvPair m.wfmt m.vfmt then
      setTile t { tile s t with failed := true, flags := (tile s t).flags ||| flInvalid } s
    else (List.range (mvLanes m.wfmt m.vfmt)).foldl (fun s l => mvLane t m w.value v.value l (w.bad || v.bad) s) s

/-- The vector unit's result: 32 codes of `w` bits, packed (R56), with a block's scale. -/
def setVec (t w : Nat) (r : List (Nat × Nat)) (scale : Nat) (bad : Bool) (s : State) : State :=
  let x := tile s t
  setTile t { x with vec := packCodes w (r.map (·.1)), scale := scale, vecBad := bad,
                     flags := r.foldl (fun f p => f ||| p.2) x.flags } s

/-- A vector step over the 32 lanes (R75). -/
def doVector (t : Nat) (op : VecOp) (a b c : Operand) (s : State) : State :=
  let x := lanesOf a.value
  let y := lanesOf b.value
  let z := lanesOf c.value
  setVec t 32 ((List.range 32).map (fun i => vecLane op ((x[i]?).getD 0) ((y[i]?).getD 0) ((z[i]?).getD 0))) 0
    (a.bad || b.bad || c.bad) s

/-- A special function over the 32 lanes (R77). -/
def doSpecial (t : Nat) (fn : SpecialFn) (a b : Operand) (s : State) : State :=
  setVec t 32 (List.zipWith (specialLane fn) (lanesOf a.value) (lanesOf b.value)) 0 (a.bad || b.bad) s

/-- A cross-lane sum or maximum: the one result stands in lane 0 (R76). -/
def doReduce (t : Nat) (maximum : Bool) (a : Operand) (s : State) : State :=
  setVec t 32 (tree maximum (lanesOf a.value)) 0 a.bad s

/-- A conversion of the 32 lanes under the tile's control word (R67 to R74). -/
def doConvert (t target : Nat) (a : Operand) (s : State) : State :=
  let vs := lanesOf a.value
  let control := tileControl s t
  let r : (List Conv × Nat) × State :=
    if isMx target then convBlock t target control vs s
    else let c := convList t target control (vs.map fp32.decode) s; ((c.1, 0), c.2)
  bump 0x4010 4 (r.1.1.filter (fun c => c.flags / flSat % 2 == 1)).length
    (setVec t (codeBits target) (r.1.1.map (fun c => (c.code, c.flags))) r.1.2 a.bad r.2)

/-- The operand sinks of a unit's step (R49). -/
def unitSinks : UnitStep → List Nat
  | .matrixVector _ => [0, 1]
  | .vector .fma => [2, 3, 4]
  | .vector .select => [2, 3, 4]
  | .vector _ => [2, 3]
  | .convert _ => [2]
  | .special f => if f = .divide then [2, 3] else [2]
  | .reduce _ => [2]

/-- What a unit does in a step with what stands at its sinks. -/
def doUnit (t : Nat) (u : UnitStep) (f : Feed) (s : State) : State :=
  let o (k : Nat) : Operand := operand t k f s
  match u with
  | .matrixVector m => doMatrixVector t m (o 0) (o 1) s
  | .vector op => doVector t op (o 2) (o 3) (if unitSinks u = [2, 3] then .data 0 false else o 4) s
  | .convert target => doConvert t target (o 2) s
  | .special fn => doSpecial t fn (o 2) (if fn = .divide then o 3 else .data 0 false) s
  | .reduce maximum => doReduce t maximum (o 2) s

/-- A unit's step can issue: every source it needs has data to give, and every sink it gives to can take data (R50). -/
def unitReady (s : State) (t : Nat) (u : UnitStep) (f : Feed) : Bool :=
  (unitSinks u ++ (if f.write then [5] else []) ++ (if f.send then [7] else [])).all (fun k => operand t k f s != Operand.wait) &&
    (!f.send || operand t 7 f s == Operand.idle || sinksFree s (peerTile t f) 3)

/-- A unit's step: with an operand sink that is idle the unit does nothing (R50, DEDUCED, log entry 53); what waited at its
sinks is taken; poisoned data makes the call a poisoned one (R129); the outputs take what they are to. -/
def unitStep (t : Nat) (u : UnitStep) (f : Feed) (s : State) : State :=
  let ks := unitSinks u
  let bad : Bool := ks.any (fun k => (operand t k f s).bad)
  let s' := if ks.any (fun k => operand t k f s == Operand.idle) then s else doUnit t u f s
  let x := tile s' t
  let s' := setTile t { x with latches := x.latches.filter (fun e => !ks.contains e.1),
                               loops := (List.range 4).map (fun i => (f.loops[i]?).getD 0 % 2 ^ 32) } s'
  moveOut t f (if bad then markCall t false true s' else s')

end Sys2Proof.Machine
end

