-- ==== Sys2Proof/Machine/Attention.lean ====
section
/-! DEFINITION. Attention: arenas, appended and committed positions, partial results and their merging (chapter 4). -/

namespace Sys2Proof.Machine

/-! ## Descriptors (R133, R134, R136) -/

/-- An offset rounded up to a granule. -/
def up64 (n : Nat) : Nat := ceilDiv n 64 * 64

def arLayers (d : Nat) : Nat := bits d 15 8
def arKvHeads (d : Nat) : Nat := bits d 23 16
def arBlocks (d : Nat) : Nat := bits d 31 24
def arKFmt (d : Nat) : Nat := bits d 35 32
def arVFmt (d : Nat) : Nat := bits d 39 36
def arQPerKv (d : Nat) : Nat := bits d 44 40
def arMembers (d : Nat) : Nat := bits d 51 48
def arMember (d : Nat) : Nat := bits d 55 52
def arStripe (d : Nat) : Nat := 256 * bits d 95 64
def arPages (d : Nat) : Nat := bits d 127 96
def arKDeq (d : Nat) : Nat := bits d 159 128
def arTable (d : Nat) : Nat := bits d 239 192
def arPending (d : Nat) : Nat := bits d 303 256
def arHandle (d k : Nat) : Nat := bits d (327 + 8 * k) (320 + 8 * k)
def arMask (d : Nat) : Nat := bits d 391 384
def arMergeHandle (d : Nat) : Option Nat := if bit d 400 then some (bits d 399 392) else none
def arPackage (d m : Nat) : Nat := bits d (427 + 12 * m) (416 + 12 * m)
def arDim (d : Nat) : Nat := 32 * arBlocks d

/-- Row bytes of the four arrays of a page: K elements, K scales, V elements, V scales (R136). -/
def rowBytes (d : Nat) : List Nat :=
  let e (f : Nat) : Nat := arDim d * codeBits f / 8
  let x (f : Nat) : Nat := if isMx f then arBlocks d else 0
  [e (arKFmt d), x (arKFmt d), e (arVFmt d), x (arVFmt d)]

/-- The offsets of `n`-row arrays from the first byte. -/
def arrayOffsets (n : Nat) : List Nat → Nat → List Nat
  | [], _ => []
  | b :: bs, o => o :: arrayOffsets n bs (o + up64 (n * b))

/-- The bytes of `n`-row arrays. -/
def arraysBytes (n : Nat) (bs : List Nat) : Nat := (bs.map (fun b => up64 (n * b))).sum

/-- A row of a page of `n` rows: for each array, where the row stands and its bytes. -/
def rowPlaces (d base n r : Nat) : List (Nat × Nat) :=
  List.zipWith (fun o b => (base + o + r * b, b)) (arrayOffsets n (rowBytes d) 0) (rowBytes d)

/-- Bytes of the page table. -/
def tableBytes (d : Nat) : Nat := arLayers d * arKvHeads d * arPages d * 8

/-- A count of the descriptor that R134 refuses; a zero in one of them. -/
def arTooLong (s : State) (d : Nat) : Bool :=
  arLayers d == 255 || decide (64 < arKvHeads d) || decide (8 < arBlocks d) || decide (16 < arQPerKv d) ||
  decide (8 < arMembers d) || bits d 95 64 == 0xFFFFFFFF || arPages d == 0xFFFFFFFF ||
  decide (memRange s < arTable d + tableBytes d)
def arZero (d : Nat) : Bool :=
  arLayers d == 0 || arKvHeads d == 0 || arBlocks d == 0 || arQPerKv d == 0 || arMembers d == 0 || arStripe d == 0 || arPages d == 0

/-- What R135 refuses of a descriptor. -/
def arBad (s : State) (d : Nat) : Bool :=
  bits d 1023 512 != 0 || bits d 415 401 != 0 || bits d 319 304 != 0 || bits d 255 240 != 0 || bits d 63 56 != 0 ||
  bits d 47 45 != 0 || bits d 7 0 != 1 || decide (arMembers d ≤ arMember d) ||
  (List.range 8).any (fun m => decide (arMembers d ≤ m) && arPackage d m != 0) ||
  arPackage d (arMember d) != pkgNo s || arMask d == 0 || decide (arKFmt d < 3 ∨ 9 < arKFmt d) ||
  decide (arVFmt d < 3 ∨ 9 < arVFmt d) || arTable d % 64 != 0 || arPending d % 64 != 0

/-- A position lies in this member's stripes (R138). -/
def ownPos (d p : Nat) : Bool := p / arStripe d % arMembers d == arMember d

/-- The lowest position of this member at or above one (R140). -/
def nextOwn (d p : Nat) : Nat :=
  let k := p / arStripe d
  if ownPos d p then p else (k + (arMember d + arMembers d - k % arMembers d) % arMembers d) * arStripe d

/-- The page entry of a position of a layer and KV head (R138), of a pending page (R139), and the page it names. -/
def pageEntryAt (d layer g p : Nat) : Nat :=
  let page := p / arStripe d / arMembers d * (arStripe d / 256) + p % arStripe d / 256
  arTable d + 8 * ((layer * arKvHeads d + g) * arPages d + page)
def pendEntryAt (d layer g : Nat) : Nat := arPending d + 8 * (layer * arKvHeads d + g)
def pageSlice (e : Nat) : Nat := bits e 50 48
def pageOf (e : Nat) : Option Nat := if bit e 63 && bits e 62 51 == 0 && bits e 11 0 == 0 then some (bits e 47 12 * 4096) else none

/-- A position's entry is one of the table: its local page is below pages_per_member. -/
def entryExists (d p : Nat) : Bool :=
  decide (p / arStripe d / arMembers d * (arStripe d / 256) + p % arStripe d / 256 < arPages d)

/-- The page of a position; the page of pending slots. -/
def posPage (s : State) (d layer g p : Nat) : Option Nat :=
  if entryExists d p ∧ !lineBad s (pageEntryAt d layer g p / 64) then pageOf (readMem s (pageEntryAt d layer g p) 8) else none
def pendPage (s : State) (d layer g : Nat) : Option Nat :=
  if lineBad s (pendEntryAt d layer g / 64) then none else pageOf (readMem s (pendEntryAt d layer g) 8)

/-! ## ARENA and DISCARD (R143 to R145) -/

def attnOp (b : Nat) : Nat := bits b 7 0
def attnArena (b : Nat) : Nat := bits b 19 8

/-- arenas_active (0x5010.09). -/
def countArenas (s : State) : State := setObj 0x5010 9 s.arenas.length s

/-- An ATTEND or a COMMIT of an arena is in flight. -/
def arenaBusy (s : State) (a : Nat) : Bool :=
  s.attends.any (fun e => attnArena e.2.posted.req.body == a) || s.commits.any (fun e => attnArena e.2.req.body == a)

/-- The descriptor of an arena slot. -/
def descOffset (s : State) (a : Nat) : Nat := obj s 0x5010 7 + 128 * a

/-- An arena's activation at step 12 (R134, R135, R140). The rules give no order to its checks; here an arena already active is
refused with UNSUPPORTED, whoever activated it, before its new descriptor is read, and a zero count completes the command
before the reserved and version fields are looked at (DESIGN CHOICE, log entry 58). -/
def doArenaActivate (rq : Req) (s : State) : State :=
  let a := attnArena rq.body
  let off := descOffset s a
  if (tget s.arenas a).isSome then complete rq .unsupported 0 s
  else if !(farExtents s off 128).isEmpty then farDefer rq off 128 s
  else if anyBad s off 128 then complete rq .poison 0 s
  else
    let d := readMem s off 128
    if arTooLong s d then complete rq .badLength 0 s
    else if arZero d then complete rq .ok 0 s
    else if arBad s d then complete rq .unsupported 0 s
    else
      let x : Arena := ⟨d, rq.hdr.tenant, nextOwn d (bits rq.body 95 64), 0, [], none⟩
      complete rq .ok 0 (countArenas { s with arenas := tset s.arenas a x })

/-- What an operation on an arena meets first: inactive, another tenant. -/
def withArena (rq : Req) (act : Arena → State → State) (s : State) : State :=
  match tget s.arenas (attnArena rq.body) with
  | none => complete rq .unsupported 0 s
  | some x => if x.tenant ≠ rq.hdr.tenant then complete rq .tenantBlocked 0 s else act x s

/-- An arena's deactivation at step 12 (R144). -/
def doArenaDeactivate (rq : Req) (s : State) : State :=
  withArena rq (fun _ s =>
    if arenaBusy s (attnArena rq.body) then deferReq rq 1 s
    else complete rq .ok 0 (countArenas { s with arenas := terase s.arenas (attnArena rq.body) })) s

/-- The hint while a COMMIT copies (R149). -/
def copyHint (s : State) (x : Arena) : Nat :=
  match x.copying with | some (_, e) => max 1 (ceilDiv (e - s.time) 4000) | none => 0

/-- All slots are emptied by a new pending generation. -/
def advanceGen (x : Arena) : Arena := { x with gen := x.gen + 1, slots := [] }

/-- DISCARD at step 12 (R145). -/
def doDiscard (rq : Req) (s : State) : State :=
  withArena rq (fun x s =>
    if x.copying.isSome then deferReq rq (copyHint s x) s
    else complete rq .ok 0 { s with arenas := tset s.arenas (attnArena rq.body) (advanceGen x) }) s

/-- An attention request is served (R142, R389). `len` is the length that its fields imply, none where an inactive arena
leaves it open. -/
def serveAttn (h : Hdr) (body : Nat) (bad : Bool) (len : Option Nat) (badBody : Bool) (targets : List Nat)
    (act : Req → State → State) (s : State) : State :=
  let wrong : Bool := match len with | some n => h.length != n | none => false
  serve ⟨0x10, h, body, 0, [], false⟩ (postedChecks bad (some 64) (badBody || wrong) false targets) (64 * h.length)
    (max 64 (64 * h.length)) act s

/-- Reserved fields of an ARENA body (R143), with the row's activate bit. -/
def arenaBad (b : Nat) (activate : Bool) : Bool :=
  bits b 511 96 != 0 || bits b 63 25 != 0 || bits b 23 20 != 0 || attnOp b != 5 || bit b 24 != activate

/-- ARENA_ACTIVATE (R135). -/
def execArenaActivate (h : Hdr) (body : Nat) (s : State) : Host.Outcome State Fault Refusal :=
  .next (serveAttn h body (arenaBad body true) (some 1) (bits body 95 64 == 0xFFFFFFFF)
    [homeDom (homeOf s (descOffset s (attnArena body)))] doArenaActivate s)

/-- ARENA_DEACTIVATE (R144). -/
def execArenaDeactivate (h : Hdr) (body : Nat) (s : State) : Host.Outcome State Fault Refusal :=
  .next (serveAttn h body (arenaBad body false) (some 1) false [] doArenaDeactivate s)

/-- DISCARD (R145). -/
def execDiscard (h : Hdr) (body : Nat) (s : State) : Host.Outcome State Fault Refusal :=
  .next (serveAttn h body (bits body 511 20 != 0 || attnOp body != 4) (some 1) false [] doDiscard s)

/-! ## APPEND (R146, R147) -/

def apLayer (b : Nat) : Nat := bits b 31 24
def apHeadFirst (b : Nat) : Nat := bits b 39 32
def apHeads (b : Nat) : Nat := bits b 46 40
def apSlotFirst (b : Nat) : Nat := bits b 53 48
def apSlots (b : Nat) : Nat := bits b 62 56

/-- The key of a written slot. -/
abbrev slotKey (layer g i : Nat) : Nat := 4096 * layer + 64 * g + i

/-- The slots that an APPEND writes, in the order of its rows: slot, KV head. -/
def apRows (b : Nat) : List (Nat × Nat) :=
  ((List.range (apSlots b)).map (fun i => (List.range (apHeads b)).map (fun g => (apSlotFirst b + i, apHeadFirst b + g)))).flatten

/-- Two steps in order: the status of the first that is refused, and the state. -/
def andThen (a : Status × State) (f : State → Status × State) : Status × State := if a.1 = .ok then f a.2 else a

/-- The copies of one row: from bytes of the body to each array of its pending page. -/
def appendRow (rq : Req) (d page i n k : Nat) (s : State) : Status × State :=
  let src := arrayOffsets n (rowBytes d) 64
  let places := rowPlaces d page 64 i
  (List.range 4).foldl (fun a j =>
    match src[j]?, places[j]? with
    | some o, some (at_, bytes) =>
      andThen a (engineWrite rq at_ bytes (bits rq.body (8 * (o + k * bytes + bytes) - 1) (8 * (o + k * bytes))))
    | _, _ => a) (.ok, s)

/-- The pending pages that an APPEND writes to, one for each of its KV heads; none where an entry is not valid. -/
def appendPages (s : State) (d b : Nat) : List (Option Nat) :=
  (List.range (apHeads b)).map (fun g => pendPage s d (apLayer b) (apHeadFirst b + g))

/-- A row that an APPEND names is written already, or its arena is busy with its slots (R147). -/
def appendWritten (x : Arena) (b : Nat) : Bool := (apRows b).any (fun r => x.slots.contains (slotKey (apLayer b) r.2 r.1))
def appendWaits (s : State) (x : Arena) (b : Nat) : Bool :=
  x.copying.isSome || s.attends.any (fun e => attnArena e.2.posted.req.body == attnArena b && e.2.st == 2 && e.2.gen != x.gen)

/-- The rows of an APPEND are stored in their pending pages, and their slots written (R147). Where a write of one is refused
(R184, R550), the command completes with that status, and nothing is stored. -/
def appendRows (rq : Req) (x : Arena) (s : State) : Status × State :=
  let b := rq.body
  let rows := apRows b
  let r := (List.range rows.length).foldl (fun (a : Status × State) k =>
    match rows[k]? with
    | some (i, g) => (match pendPage s x.desc (apLayer b) g with
      | some page => andThen a (appendRow rq x.desc page i rows.length k)
      | none => a)
    | none => a) (.ok, s)
  if r.1 = .ok then
    let x := { x with slots := rows.foldl (fun t r => sadd t (slotKey (apLayer b) r.2 r.1)) x.slots }
    (.ok, bump 0x5011 3 1 { r.2 with arenas := tset r.2.arenas (attnArena b) x })
  else (r.1, if r.1 = .internal then raiseEvent 0x3010 8 0 s else s)

/-- The page of a list with far extents among its rows. -/
def farPage (s : State) (d : Nat) (pages : List (Option Nat)) : Option Nat :=
  (pages.filterMap id).find? (fun p => !(farExtents s p (arraysBytes 64 (rowBytes d))).isEmpty)

/-- APPEND at step 12 (R147). -/
def doAppend (rq : Req) (s : State) : State :=
  withArena rq (fun x s =>
    let pages := appendPages s x.desc rq.body
    if (apRows rq.body).isEmpty then complete rq .ok 0 s
    else if appendWritten x rq.body then complete rq .unsupported 0 s
    else if appendWaits s x rq.body then deferReq rq 1 s
    else if pages.contains none then complete rq .unsupported 0 s
    else match farPage s x.desc pages with
      | some p => farDefer rq p (arraysBytes 64 (rowBytes x.desc)) s
      | none => let r := appendRows rq x s; complete rq r.1 0 r.2) s

/-- What R146 and R147 refuse with BAD_LENGTH, and the length that the fields imply. -/
def appendLen (s : State) (b : Nat) : Option Nat :=
  (tget s.arenas (attnArena b)).map (fun x => (64 + arraysBytes (apSlots b * apHeads b) (rowBytes x.desc)) / 64)
def appendTooLong (s : State) (b : Nat) : Bool :=
  apSlots b == 127 || decide (64 < apSlotFirst b + apSlots b) || apHeads b == 127 ||
  (match tget s.arenas (attnArena b) with
    | some x => decide (arKvHeads x.desc < apHeadFirst b + apHeads b) || decide (arLayers x.desc ≤ apLayer b)
    | none => false)

/-- The homes of the pending pages of an APPEND. -/
def appendDoms (s : State) (b : Nat) : List Nat :=
  match tget s.arenas (attnArena b) with
  | none => []
  | some x => ((List.range (apHeads b)).filterMap (fun g => pendPage s x.desc (apLayer b) (apHeadFirst b + g))).map
      (fun p => homeDom (homeOf s p))

/-- APPEND (R147). -/
def execAppend (h : Hdr) (body : Nat) (s : State) : Host.Outcome State Fault Refusal :=
  .next (serveAttn h body (bits body 511 63 != 0 || bits body 55 54 != 0 || bit body 47 || bits body 23 20 != 0 ||
      attnOp body != 2) (appendLen s body) (appendTooLong s body) (appendDoms s body) doAppend s)

/-! ## COMMIT (R148 to R151) -/

def coCount (b : Nat) : Nat := bits b 38 32
def coBase (b : Nat) : Nat := bits b 95 64
def coSlot (b i : Nat) : Nat := bits b (519 + 8 * i) (512 + 8 * i)
def coSlots (b : Nat) : List Nat := (List.range (coCount b)).map (coSlot b)

/-- Every layer and KV head of an arena. -/
def layerHeads (d : Nat) : List (Nat × Nat) :=
  ((List.range (arLayers d)).map (fun l => (List.range (arKvHeads d)).map (fun g => (l, g)))).flatten

/-- The bytes that a COMMIT copies (R167). -/
def commitBytes (d n : Nat) : Nat := n * arLayers d * arKvHeads d * (rowBytes d).sum

/-- COMMIT at step 12 (R149, R141). -/
def doCommit (rq : Req) (s : State) : State :=
  let b := rq.body
  let n := coCount b
  let base := coBase b
  withArena rq (fun x s =>
    let d := x.desc
    if n = 0 then complete rq .ok 0 s
    else if (base / arStripe d + 1) * arStripe d < base + n ∨
        (layerHeads d).any (fun lg => (List.range n).any (fun i => (posPage s d lg.1 lg.2 (base + i)).isNone)) then
      complete rq .badLength 0 s
    else if base ≠ x.nextPos ∨ (coSlots b).any (fun k => decide (64 ≤ k)) ∨ (coSlots b).eraseDups.length ≠ n ∨
        (layerHeads d).any (fun lg => (coSlots b).any (fun k => !(x.slots.contains (slotKey lg.1 lg.2 k)))) then
      complete rq .unsupported 0 s
    else if x.copying.isSome then deferReq rq (copyHint s x) s
    else
      let (acc, s) := nextAcc s
      let x := { x with copying := some (acc, s.time + 1000 + ceilDiv (commitBytes d n) 100) }
      complete rq .ok acc { s with arenas := tset s.arenas (attnArena b) x, commits := tset s.commits acc ⟨rq, s.time⟩ }) s

/-- COMMIT (R149). -/
def execCommit (h : Hdr) (body : Nat) (s : State) : Host.Outcome State Fault Refusal :=
  .next (serveAttn h body (bits body 511 384 != 0 || bits body 319 304 != 0 || bits body 287 96 != 0 || bits body 63 39 != 0 ||
      bits body 31 20 != 0 || attnOp body != 3 || (decide (coCount body ≤ 64) && bits body 1023 (512 + 8 * coCount body) != 0))
    (some 2) (decide (64 < coCount body)) [] doCommit s)

/-- A row is copied from one place to another; poison goes with it (R550). -/
def copyBytes (rq : Req) (src dst n : Nat) (s : State) : State :=
  if n = 0 then s
  else
    let bad := anyBad s src n
    (engineStore 0 rq dst n (readMem s src n) bad s).2

/-- The copies of a COMMIT (R150). -/
def commitCopies (rq : Req) (d : Nat) (s : State) : State :=
  let b := rq.body
  (layerHeads d).foldl (fun s lg =>
    (List.range (coCount b)).foldl (fun s i =>
      match pendPage s d lg.1 lg.2, posPage s d lg.1 lg.2 (coBase b + i) with
      | some p, some q =>
        (List.zip (rowPlaces d p 64 (coSlot b i)) (rowPlaces d q 256 ((coBase b + i) % 256))).foldl
          (fun s r => copyBytes rq r.1.1 r.2.1 r.1.2 s) s
      | _, _ => s) s) s

/-- The extents that a COMMIT copies from and to. -/
def commitFar (s : State) (d b : Nat) : List Nat :=
  ((layerHeads d).map (fun lg =>
    (match pendPage s d lg.1 lg.2 with | some p => farExtents s p (arraysBytes 64 (rowBytes d)) | none => []) ++
    ((List.range (coCount b)).map (fun i => match posPage s d lg.1 lg.2 (coBase b + i) with
      | some q => farExtents s q (arraysBytes 256 (rowBytes d))
      | none => [])).flatten)).flatten.eraseDups

/-- A COMMIT's copy ends and is published (R150); it waits while an extent of it is far (R195). -/
def doCommitPublish (acc : Nat) (s : State) : State :=
  match tget s.commits acc with
  | none => s
  | some p =>
    let b := p.req.body
    match tget s.arenas (attnArena b) with
    | none => s
    | some x =>
      let far := commitFar s x.desc b
      if !far.isEmpty then (engineFar far s)
      else
        let s := commitCopies p.req x.desc s
        let x := { advanceGen x with nextPos := nextOwn x.desc (x.nextPos + coCount b), copying := none }
        let s := bump 0x5011 4 (coCount b)
          { s with arenas := tset s.arenas (attnArena b) x, commits := terase s.commits acc }
        if bit b 303 then oweSignal acc (bits b 302 288) (bits b 383 320) p.req s else s

/-- COMMIT_PUBLISH (R150). -/
def execCommitPublish (acc : Nat) (s : State) : Host.Outcome State Fault Refusal := .next (doCommitPublish acc s)

/-! ## ATTEND: acceptance (R152 to R155) -/

def atLayer (b : Nat) : Nat := bits b 31 24
def atHeadFirst (b : Nat) : Nat := bits b 39 32
def atHeads (b : Nat) : Nat := bits b 46 40
def atPos (b : Nat) : Nat := bits b 54 48
def atQFmt (b : Nat) : Nat := bits b 59 56
def atInline (b : Nat) : Bool := bit b 60
def atMode (b : Nat) : Nat := bits b 63 62
def atCtxLen (b : Nat) : Nat := bits b 95 64
def atWindow (b : Nat) : Nat := bits b 127 96
def atSink (b : Nat) : Nat := bits b 143 128
def atTail (b : Nat) : Nat := bits b 147 144
def atMerger (b : Nat) : Nat := bits b 151 148
def atScale (b : Nat) : Nat := bits b 191 160
def atBase (b : Nat) : Nat := bits b 251 192
def atStride (b : Nat) : Nat := bits b 287 256
def atSync (b : Nat) : Nat := bits b 302 288
def atOut (b : Nat) : Nat := bits b 395 336
def atTag (b : Nat) : Nat := bits b 511 448

/-- An entry of the position table: q_pos and the tree mask (R153). -/
def atEntry (b j : Nat) : Nat := bits b (512 + 128 * j + 127) (512 + 128 * j)
def atQPos (b j : Nat) : Nat := bits (atEntry b j) 31 0
def atTree (b j : Nat) : Nat := bits (atEntry b j) 127 64

/-- Bytes of the queries of an ATTEND on an arena, and where they begin in the body. -/
def queryBytes (d b : Nat) : Nat := atPos b * atHeads b * arQPerKv d * arDim d * codeBits (atQFmt b) / 8
def queriesAt (b : Nat) : Nat := up64 (64 + 16 * atPos b)

/-- The reference to queries that follows the position table. -/
def queryRef (b : Nat) : Nat := bits b (512 + 128 * atPos b + 127) (512 + 128 * atPos b)

/-- Reserved fields of an ATTEND. -/
def attendBad (b : Nat) : Bool :=
  bit b 415 || bits b 399 396 != 0 || bit b 303 || bits b 255 252 != 0 || bits b 159 152 != 0 || bit b 61 || bit b 47 ||
  bits b 23 20 != 0 || attnOp b != 1 ||
  (decide (atPos b ≤ 64) && ((List.range (atPos b)).any (fun j => bits (atEntry b j) 63 32 != 0) ||
    (!atInline b && (bits (queryRef b) 127 96 != 0 || bits (queryRef b) 63 60 != 0))))

/-- Head records of a block, and its bytes (R160). -/
def records (d b : Nat) : Nat := atPos b * atHeads b * arQPerKv d
def vectorsAt (n : Nat) : Nat := up64 (64 + 16 * n)
def blockSize (d n : Nat) : Nat := vectorsAt n + 4 * arDim d * n

/-- The body length that an ATTEND's fields imply (R153). -/
def attendLen (s : State) (b : Nat) : Option Nat :=
  (tget s.arenas (attnArena b)).map (fun x =>
    ceilDiv (if atInline b then queriesAt b + queryBytes x.desc b else 64 + 16 * atPos b + 16) 64)

/-- What R154 refuses. -/
def attendTooLong (s : State) (b : Nat) : Bool :=
  atHeads b == 127 || decide (65 ≤ atPos b) || atCtxLen b == 0xFFFFFFFF || atWindow b == 0xFFFFFFFF || atSink b == 0xFFFF ||
  atStride b == 0xFFFFFFFF ||
  (match tget s.arenas (attnArena b) with
    | some x => decide (arKvHeads x.desc < atHeadFirst b + atHeads b) || decide (64 < atHeads b * arQPerKv x.desc) ||
        decide (arLayers x.desc ≤ atLayer b) || decide (atStride b < blockSize x.desc (records x.desc b))
    | none => false)

/-- The decode handles of an arena, and the merge handle where this member merges. -/
def decodeHandles (d : Nat) : List Nat := ((List.range 8).filter (fun k => bit (arMask d) k)).map (arHandle d)
def mergesHere (d b : Nat) : Bool := atMode b == 1 && atMerger b == arMember d
def attendHandles (d b : Nat) : List Nat :=
  decodeHandles d ++ (if mergesHere d b then (arMergeHandle d).toList else [])

/-- A handle is bound to an image with this identity. -/
def boundTo (s : State) (h id : Nat) : Bool :=
  match tget s.handles h with | some x => certifiedId x.image == some id | none => true

/-- The first check of R155. -/
def attendRefused (s : State) (d b : Nat) : Bool :=
  decide (2 ≤ atMode b) || !([1, 2, 4].contains (atQFmt b)) || decide (arMembers d ≤ atTail b) ||
  decide (arMembers d ≤ atMerger b) || (decodeHandles d).any (fun h => !boundTo s h 0x00010010) ||
  (atMode b == 1 && (atBase b / 2 ^ 48 != arPackage d (atMerger b) || atOut b / 2 ^ 48 != arPackage d (atMerger b))) ||
  (mergesHere d b && (match arMergeHandle d with | some h => !boundTo s h 0x00010011 | none => true)) ||
  atBase b % 64 != 0 || atStride b % 64 != 0 || atOut b % 64 != 0

/-- A handle of an ATTEND is not ready to take it (R155): it is assembling or rebinding, or has all its calls. -/
def attendNotReady (s : State) (hs : List Nat) : Option Nat :=
  hs.find? (fun h => handleState s h == .assembling || handleState s h == .rebinding ||
    (match tget s.handles h with | some x => reloading s x | none => false))
def attendFull (s : State) (hs : List Nat) : Bool :=
  hs.any (fun h => decide (64 ≤ (callsOf s h).length))

/-- An ATTEND is accepted on its handles (R155). -/
def acceptAttend (rq : Req) (hs : List Nat) (s : State) : State :=
  let (acc, s) := nextAcc s
  let clusters := (hs.map (fun h => match tget s.handles h with | some y => y.current.map (·.2) | none => [])).flatten
  let k : Call := ⟨⟨rq, s.time⟩, hs.head?.getD 0, clusters.eraseDups, hs.tail, false, false⟩
  let y : Attend := ⟨⟨rq, s.time⟩, 0, 0, 0, 0, false, false, false, false⟩
  complete rq .ok acc (bump 0x5011 1 1 { s with attends := tset s.attends acc y, calls := tset s.calls acc k })

/-- ATTEND at step 12 (R154, R155). -/
def doAttend (rq : Req) (s : State) : State :=
  let b := rq.body
  match tget s.arenas (attnArena b) with
  | none => complete rq .unsupported 0 s
  | some x =>
    let hs := attendHandles x.desc b
    if atHeads b = 0 ∨ atPos b = 0 then complete rq .ok 0 s
    else if attendRefused s x.desc b then complete rq .unsupported 0 s
    else if x.tenant ≠ rq.hdr.tenant then complete rq .tenantBlocked 0 s
    else if hs.any (fun h => (tget s.handles h).isNone) then complete rq .unsupported 0 s
    else match attendNotReady s hs with
      | some h => (match tget s.handles h with
        | some y => deferReq rq (handleHint s y) (bump 0x4020 7 1 s)
        | none => s)
      | none => if attendFull s hs then deferReq rq 1 (bump 0x4020 7 1 s) else acceptAttend rq hs s

/-- The fabric dies that an ATTEND needs awake. -/
def attendDoms (s : State) (b : Nat) : List Nat :=
  match tget s.arenas (attnArena b) with
  | some x => ((attendHandles x.desc b).map (handleDoms s)).flatten.eraseDups
  | none => []

/-- ATTEND (R155). -/
def execAttend (h : Hdr) (body : Nat) (s : State) : Host.Outcome State Fault Refusal :=
  .next (serveAttn h body (attendBad body) (attendLen s body) (attendTooLong s body) (attendDoms s body) doAttend s)

/-! ## ATTEND: dispatch and hold (R156, R157) -/

/-- A committed position is attended for query position j (R156). -/
def attended (d b j p : Nat) : Bool :=
  ownPos d p && decide (p < atCtxLen b) && (!bit b 55 || decide (p ≤ atQPos b j)) &&
    (atWindow b == 0 || decide (atQPos b j < p + atWindow b) || decide (p < atSink b))

/-- Pending slots that query position j attends (R156). -/
def attendedSlots (d b j : Nat) : List Nat :=
  if atTail b = arMember d then (List.range 64).filter (fun i => bit (atTree b j) i) else []

/-- An ATTEND's hold (R157): a position at or above next_pos, or a slot without rows. -/
def mustHold (x : Arena) (b : Nat) : Bool :=
  let d := x.desc
  (List.range (atPos b)).any (fun j =>
    ((List.range (atCtxLen b - x.nextPos)).any (fun k => attended d b j (x.nextPos + k))) ||
    (attendedSlots d b j).any (fun i => (List.range (atHeads b)).any (fun g =>
      !(x.slots.contains (slotKey (atLayer b) (atHeadFirst b + g) i)))))

/-- Where a block is written: to partial_base for this member; with a header alone, 64 bytes. -/
def partialAt (d b : Nat) : Nat := atBase b + arMember d * atStride b

/-- A block's header (R160). -/
def blockHeader (s : State) (d b kind status member mask pages : Nat) : Nat :=
  kind + status * 2 ^ 8 + member * 2 ^ 12 + arMembers d * 2 ^ 16 + atLayer b * 2 ^ 24 + attnArena b * 2 ^ 32
    + atPos b * 2 ^ 48 + atHeads b * arQPerKv d * 2 ^ 56 + arBlocks d * 2 ^ 64 + mask * 2 ^ 96 + atTag b * 2 ^ 128
    + s.time % 2 ^ 64 * 2 ^ 192 + pages % 2 ^ 32 * 2 ^ 256

/-- A signal of an attention command on an object of a package, owed until its writes are acknowledged (R161, R164). One of an
object here that is still owed is applied first. -/
def attnSignal (acc package n operand : Nat) (rq : Req) (s : State) : State :=
  let s := match tget s.owed acc with
    | some o => settleOwed acc o s
    | none => s
  if package = pkgNo s then oweSignal acc n operand rq s
  else oweRemote acc package n operand rq s

/-- An ATTEND is over once its partial is written and no merge of it is armed. -/
def attendOver (acc : Nat) (s : State) : State :=
  match tget s.attends acc with
  | some y => if y.written ∧ !y.armed then { s with attends := terase s.attends acc, calls := terase s.calls acc } else s
  | none => s

/-- A partial with a header alone (R157, R162). -/
def headerOnly (acc : Nat) (y : Attend) (d : Nat) (st : Status) (pages : Nat) (s : State) : State :=
  let b := y.posted.req.body
  let v := blockHeader s d b 1 (statusCode st) (arMember d) (2 ^ arMember d) pages
  let s := (fabricWrite y.posted.req (partialAt d b) 64 v (bits b 335 304) s).2
  attendOver acc (attnSignal acc (atBase b / 2 ^ 48) (atSync b) 1 y.posted.req
    { s with attends := tset s.attends acc { y with written := true } })

/-- A hold that runs out (R157). -/
def expireHold (acc : Nat) (y : Attend) (d : Nat) (s : State) : State := headerOnly acc y d .defer 0 (bump 0x5011 2 1 s)

/-- An ATTEND binds to the arena as it stands, or is held (R157). -/
def bindAttend (acc : Nat) (y : Attend) (x : Arena) (s : State) : State :=
  if mustHold x y.posted.req.body then
    if obj s 0x5010 5 = 0 then expireHold acc y x.desc s else { s with attends := tset s.attends acc { y with st := 1 } }
  else { s with attends := tset s.attends acc { y with st := 2, nextPos := x.nextPos, gen := x.gen } }

/-- The queries that a command's reference names in this package are read; they stay unread while an extent of them is in
the far tier (R195). Queries that cannot be read make the member fail (R162). -/
def readQueries (acc d : Nat) (y : Attend) (s : State) : Attend × State :=
  let b := y.posted.req.body
  let n := queryBytes d b
  let off := bits (queryRef b) 47 0
  let ok := (obj s 0x7020 3 == 1 || keyOk s (bits (queryRef b) 95 64) y.posted.req.hdr.tenant 0 [(off, n)]) && !badOffset s off &&
    decide (off + n ≤ areaEnd s off)
  let ls := if off < memRange s then linesOf off n else []
  if !(farExtents s off n).isEmpty then ({ y with unread := true }, (engineFar (farExtents s off n) s))
  else match peekWait acc ls (poisonDead ls s) with
  | some s => ({ y with unread := true }, s)
  | none =>
    let s := unpeek acc (settleLines acc (poisonDead ls s))
    ({ y with queries := readMem s off n, failed := y.failed || !ok || anyBad s off n, unread := false }, s)

/-- An accepted ATTEND is dispatched: its queries are read, its merge armed, and it binds or is held. -/
def doAttendDispatch (acc : Nat) (q : Remote) (s : State) : State :=
  match tget s.attends acc with
  | none => s
  | some y =>
    let b := y.posted.req.body
    match tget s.arenas (attnArena b) with
    | none => s
    | some x =>
      let d := x.desc
      let n := queryBytes d b
      let z := { y with armed := mergesHere d b }
      if y.st ≠ 0 then s
      else if atInline b then
        bindAttend acc { z with queries := bits b (8 * (queriesAt b + n) - 1) (8 * queriesAt b) } x s
      else
        let address := bits (queryRef b) 59 0
        if address / 2 ^ 48 = pkgNo s then
          let (z, s) := readQueries acc d z s
          bindAttend acc z x s
        else
          let bad : Bool := !reaches s address || q.status != .ok && q.status != .okSubst
          let s := send y.posted.req.hdr.cls 24 address
            (.remote .load address n 0 (bits (queryRef b) 95 64) y.posted.req.hdr.tenant y.posted.req.hdr.cls) s
          bindAttend acc { z with queries := q.data % 2 ^ (8 * n), failed := y.failed || bad } x s

/-- ATTEND_DISPATCH (R157). -/
def execAttendDispatch (acc : Nat) (q : Remote) (s : State) : Host.Outcome State Fault Refusal := .next (doAttendDispatch acc q s)

/-- A held ATTEND, with its arena. -/
def withHeld (acc : Nat) (act : Attend → Arena → State → State) (s : State) : State :=
  match tget s.attends acc with
  | some y => (match tget s.arenas (attnArena y.posted.req.body) with
    | some x => if y.st = 1 then act y x s else s
    | none => s)
  | none => s

/-- ATTEND_BIND_AFTER_HOLD (R157). -/
def execAttendBindAfterHold (acc : Nat) (s : State) : Host.Outcome State Fault Refusal :=
  .next (withHeld acc (fun y x s => if mustHold x y.posted.req.body then s else bindAttend acc y x s) s)

/-- ATTEND_HOLD_EXPIRED (R157). -/
def execAttendHoldExpired (acc : Nat) (s : State) : Host.Outcome State Fault Refusal :=
  .next (withHeld acc (fun y x s => expireHold acc y x.desc s) s)

/-! ## The partial (R158 to R162) -/

/-- An attended row: the slice that its page's entry names (R137), and where its four parts stand; none: the entry is not
valid. -/
abbrev Row := Nat × Option (List (Nat × Nat))

/-- The rows that KV head g attends for query position j (R156): committed positions below the bound next_pos, pending
slots. -/
def rowsFor (s : State) (d : Nat) (y : Attend) (j g : Nat) : List Row :=
  let b := y.posted.req.body
  ((List.range (min (atCtxLen b) y.nextPos)).filter (attended d b j)).map (fun p =>
    (pageSlice (readMem s (pageEntryAt d (atLayer b) g p) 8),
      (posPage s d (atLayer b) g p).map (fun q => rowPlaces d q 256 (p % 256)))) ++
  (attendedSlots d b j).map (fun i =>
    (pageSlice (readMem s (pendEntryAt d (atLayer b) g) 8), (pendPage s d (atLayer b) g).map (fun q => rowPlaces d q 64 i)))

/-- The decode handle that serves the pages of a slice: its own, or that of the next higher slice with one, round from 7 to 0
(R158). -/
def servingHandle (d slice : Nat) : Option Nat :=
  (((List.range 8).map (fun k => (slice + k) % 8)).find? (fun k => bit (arMask d) k)).map (arHandle d)

/-- Flags are set on a tile of a handle: which of its tiles computed the result is free (R83, R88). -/
def flagHandle (h : Option Nat) (fl : Nat) (s : State) : State :=
  match h.bind (tget s.handles) with
  | none => s
  | some x =>
    let cs := x.current.map (·.2)
    if fl = 0 ∨ cs.isEmpty then s
    else
      let r := drawFree s
      addFlags (16 * (cs[r.1 / 16 % cs.length]?).getD 0 + r.1 % 16) fl r.2

/-- The lines of a row. -/
def rowLines (r : List (Nat × Nat)) : List Nat := (r.map (fun p => linesOf p.1 p.2)).flatten

/-- What a row gives: poisoned, substituted, in the far tier without a shadow. -/
structure RowState where
  bad : Bool
  subst : Bool
  far : Bool
  deriving DecidableEq, Repr

/-- How a row can be read. -/
def rowState (s : State) (r : Row) : RowState :=
  match r.2 with
  | none => ⟨true, false, false⟩
  | some ps =>
    let ls := rowLines ps
    let fl := ls.filter (fun l => isFar s (extentOf (64 * l)))
    ⟨ls.any (fun l => !isFar s (extentOf (64 * l)) && lineBad s l), !fl.isEmpty,
      fl.any (fun l => match substLine s (64 * l) with | .data _ => false | _ => true)⟩

/-- The bytes of a part of a row, near or substituted. -/
def partBytes (s : State) (p : Nat × Nat) : Nat := rangeData s [] p.1 p.2

/-- What a lane comes to over its blocks: the accumulator, the flags, the NaN blocks and the truncated ones. -/
structure LaneRun where
  acc : Nat
  flags : Nat
  nans : Nat
  truncs : Nat
  deriving DecidableEq, Repr

/-- A lane after one more block in FP32 accumulation (R64, R85). -/
def LaneRun.add (r : LaneRun) (b : BlockSum × Int) : LaneRun :=
  let x := accFp32 r.acc b.1 b.2
  ⟨x.1, r.flags ||| x.2, r.nans + b2n (b.1.value == .nan), r.truncs + b2n (b.1.flags / flTrunc % 2 == 1)⟩

/-- The dot product of a row's key with a query vector, block by block (R159, R59 to R66). -/
def rowDot (s : State) (d b : Nat) (query : Nat) (r : Row) : LaneRun :=
  match r.2 with
  | some (k :: ks :: _) =>
    let row := partBytes s k
    let scales := partBytes s ks
    (List.range (arBlocks d)).foldl (fun (a : LaneRun) j =>
      a.add (mvBlock (arKFmt d) (atQFmt b) 32 (row / 2 ^ (32 * codeBits (arKFmt d) * j))
        (query / 2 ^ (32 * codeBits (atQFmt b) * j)) (elem 8 scales j) 127)) ⟨0, 0, 0, 0⟩
  | _ => ⟨0, 0, 0, 0⟩

/-- The factors c_k and c_v (R159). -/
def keyFactor (d b : Nat) : Nat := if isMx (arKFmt d) then atScale b else mul32 (atScale b) (arKDeq d)
def valueFactor (d : Nat) : Nat := if isMx (arVFmt d) then 0x3F800000 else bits d 191 160

/-- The exact elements of a row's value vector, its scales applied (R159). -/
def rowValue (s : State) (d : Nat) (r : Row) : List Fv :=
  match r.2 with
  | some (_ :: _ :: v :: vs :: _) =>
    let x := partBytes s v
    let sc := partBytes s vs
    (List.range (arDim d)).map (fun i =>
      let e := elemValue (arVFmt d) (elem (codeBits (arVFmt d)) x i)
      if vs.2 = 0 then e
      else if elem 8 sc (i / 32) = 255 then .nan else e.scale ((elem 8 sc (i / 32) : Int) - 127))
  | _ => []

/-- A row that counts: its score, its value vector, and the places that a free value gives it (`sortKey`). -/
structure ScoredRow where
  score : Nat
  value : List Fv
  key : Nat
  deriving DecidableEq, Repr

/-- Rows in rising order of their keys. -/
def insertRow (x : ScoredRow) : List ScoredRow → List ScoredRow
  | [] => [x]
  | y :: ys => if x.key ≤ y.key then x :: y :: ys else y :: insertRow x ys
def sortRows : List ScoredRow → List ScoredRow
  | [] => []
  | x :: xs => insertRow x (sortRows xs)

/-- Neighbours with the same value of `f` in one group. -/
def groupRows (f : ScoredRow → Nat) : List ScoredRow → List (List ScoredRow)
  | [] => []
  | x :: xs => (match groupRows f xs with
    | (y :: g) :: gs => if f x = f y then (x :: y :: g) :: gs else [x] :: (y :: g) :: gs
    | gs => [x] :: gs)

/-- A binary32 code rounded to BF16, as a value (R159). -/
def bf16Of (x : Nat) : Fv :=
  match fp32.decode x with
  | .fin n m e => bf16.decode (b2n n * 2 ^ 15 + min (bf16.magnitude rne m e) 0x7F80)
  | v => v

/-- The value product of a chunk for one element: the exact products in blocks of 32 rows (R159, R60 to R64). -/
def chunkDot (ps : List Fv) : LaneRun :=
  (List.range (ceilDiv ps.length 32)).foldl (fun (r : LaneRun) j =>
    let c := (ps.drop (32 * j)).take 32
    r.add (blockSum (c.contains .nan) c, 0)) ⟨0, 0, 0, 0⟩

/-- The running values of R159 on one tile, with the NaN blocks, the truncated ones, and the flags raised. -/
structure SoftAcc where
  m : Nat
  l : Nat
  acc : List Nat
  nans : Nat
  truncs : Nat
  flags : Nat
  deriving DecidableEq, Repr

/-- The codes of minus infinity and of the canonical NaN. -/
abbrev negInf32 : Nat := 0xFF800000
def nan32 : Nat := enc32 .nan

/-- The negation of a binary32 code. -/
def neg32 (x : Nat) : Nat := (x ^^^ 0x80000000) % 2 ^ 32

/-- One chunk of rows (R159). -/
def softChunk (a : SoftAcc) (rows : List ScoredRow) : SoftAcc :=
  let m := rows.foldl (fun m r => max32 m r.score) a.m
  let alpha := specialValue .exp (add32 a.m (neg32 m)) 0
  let ps := rows.map (fun r => specialValue .exp (add32 r.score (neg32 m)) 0)
  let runs := (List.range a.acc.length).map (fun i =>
    chunkDot (List.zipWith (fun p r => (bf16Of p).mul (r.value[i]?.getD (.fin false 0 0))) ps rows))
  ⟨m, add32 (mul32 a.l alpha) (ps.foldl add32 0), List.zipWith (fun x (r : LaneRun) => add32 (mul32 x alpha) r.acc) a.acc runs,
    a.nans + (runs.map (·.nans)).sum, a.truncs + (runs.map (·.truncs)).sum, runs.foldl (fun f r => f ||| r.flags) a.flags⟩

/-- The pair (lse, o) of a tile that ran its chunks (R159). -/
def softEnd (cv : Nat) (a : SoftAcc) : Nat × List Nat :=
  (add32 a.m (specialValue .log a.l 0), a.acc.map (fun x => div32 (mul32 x cv) a.l))

/-- The merge arithmetic over pairs (lse, o), in their order (R166). -/
def mergePairs (dim : Nat) (ps : List (Nat × List Nat)) : Nat × List Nat :=
  let m := ps.foldl (fun a p => max32 a p.1) negInf32
  let ws := ps.map (fun p => specialValue .exp (add32 p.1 (neg32 m)) 0)
  let w := ws.foldl add32 0
  (add32 m (specialValue .log w 0), (List.range dim).map (fun i =>
    div32 ((List.zip ws ps).foldl (fun a p => fma32 p.1 (p.2.2[i]?.getD 0) a) 0) w))

/-- The result of a head's rows (R159): which tile computes which rows, in which chunks and in which order, and the order in
which the tiles' pairs are combined are free (R83, log entry 1). A single pair stands as it is. -/
def softmaxRows (dim cv : Nat) (rows : List ScoredRow) : (Nat × List Nat) × Nat × Nat × Nat :=
  let tiles := groupRows (fun r => r.key / 2 ^ 32) (sortRows rows)
  let runs := tiles.map (fun t => (groupRows (fun r => r.key / 2 ^ 16) t).foldl softChunk
    ⟨negInf32, 0, List.replicate dim 0, 0, 0, 0⟩)
  let pairs := runs.map (softEnd cv)
  let result := match pairs with | [p] => p | ps => mergePairs dim ps
  (result, (runs.map (·.nans)).sum, (runs.map (·.truncs)).sum, runs.foldl (fun f r => f ||| r.flags) 0)

/-- A vector as a number. -/
def packVector (v : List Nat) : Nat := v.foldr (fun x a => x % 2 ^ 32 + 2 ^ 32 * a) 0

/-- A head record with its vector (R159, R160). -/
structure HeadOut where
  record : Nat
  vector : Nat
  flags : Nat
  deriving DecidableEq, Repr

/-- Flags of a head record. -/
abbrev hdEmpty : Nat := 1
abbrev hdSubst : Nat := 2
abbrev hdPoison : Nat := 4
abbrev hdNan : Nat := 8

/-- D copies of a 32-bit code. -/
def repeat32 (n c : Nat) : Nat := match n with | 0 => 0 | n + 1 => c + 2 ^ 32 * repeat32 n c

/-- A head's record from its fields. -/
def headRecord (flags j qh rows lse : Nat) : Nat := flags + j * 2 ^ 40 + qh * 2 ^ 48 + rows % 2 ^ 32 * 2 ^ 64 + lse * 2 ^ 96

/-- One head of the partial: query position j, KV head g, query head i of its group. Substituted and poisoned rows of its KV
head, whichever position attends them, set SUBST and POISON (R162). -/
def headOut (d : Nat) (y : Attend) (j g i : Nat) (s : State) : HeadOut × State :=
  let b := y.posted.req.body
  let heads := atHeads b * arQPerKv d
  let w := arDim d * codeBits (atQFmt b)
  let k := j * heads + (g - atHeadFirst b) * arQPerKv d + i
  let query := bits y.queries (w * k + w - 1) (w * k)
  let rows := rowsFor s d y j g
  let sts := ((List.range (atPos b)).map (fun j => rowsFor s d y j g)).flatten.map (rowState s)
  let dots := rows.map (rowDot s d b query)
  let scored := List.zipWith (fun (r : Row) (x : LaneRun) => (r, mul32 (keyFactor d b) x.acc)) rows dots
  let kept := scored.filter (fun x => x.2 != negInf32)
  let bad := kept.any (fun x => fp32.decode x.2 == .nan || fp32.decode x.2 == .inf false)
  let flags := flagIf kept.isEmpty hdEmpty + flagIf (sts.any (·.subst)) hdSubst + flagIf (sts.any (·.bad)) hdPoison +
    flagIf bad hdNan
  let qh := g * arQPerKv d + i
  let s := bump 0x4010 5 (dots.map (·.truncs)).sum (bump 0x4010 3 (dots.map (·.nans)).sum s)
  let s := (List.zip rows dots).foldl (fun s x => flagHandle (servingHandle d x.1.1) x.2.flags s) s
  if kept.isEmpty then (⟨headRecord flags j qh 0 negInf32, 0, flags⟩, s)
  else if bad then (⟨headRecord flags j qh kept.length nan32, repeat32 (arDim d) nan32, flags⟩, s)
  else
    let (f, s) := drawFree s
    let given := (List.range kept.length).filterMap (fun n => (kept[n]?).map (fun x =>
      (⟨x.2, rowValue s d x.1, bits f (48 * n + 47) (48 * n)⟩ : ScoredRow)))
    let x := softmaxRows (arDim d) (valueFactor d) given
    let s := flagHandle (servingHandle d ((rows.head?.map (·.1)).getD 0)) x.2.2.2 s
    (⟨headRecord flags j qh kept.length x.1.1, packVector x.1.2, flags⟩, bump 0x4010 5 x.2.2.1 (bump 0x4010 3 x.2.1 s))

/-- The heads of a block in their order: position, KV head, query head of the group. -/
def headList (d b : Nat) : List (Nat × Nat × Nat) :=
  ((List.range (atPos b)).map (fun j => ((List.range (atHeads b)).map (fun g =>
    (List.range (arQPerKv d)).map (fun i => (j, atHeadFirst b + g, i)))).flatten)).flatten

/-- A block of heads as a number: records from byte 64, vectors from their boundary (R160). -/
def blockBody (d : Nat) (hs : List HeadOut) : Nat :=
  let n := hs.length
  let put (w at_ : Nat) (f : HeadOut → Nat) : Nat :=
    ((List.range n).map (fun k => match hs[k]? with | some h => f h * 2 ^ (8 * at_ + w * k) | none => 0)).sum
  put 128 64 (·.record) + put (32 * arDim d) (vectorsAt n) (·.vector)

/-- The status of a block by its heads (R162). -/
def headsStatus (hs : List HeadOut) : Status :=
  if hs.any (fun h => bit h.flags 2) then .poison else if hs.any (fun h => bit h.flags 1) then .okSubst else .ok

/-- Bytes that were written at a fabric address carry poison, here or in another package (R129, R550). -/
def poisonBytes (rq : Req) (address n key : Nat) (s : State) : State :=
  if address / 2 ^ 48 = pkgNo s then (linesOf (address % 2 ^ 48) n).foldl (fun s l => writePoison (64 * l) s) s
  else send rq.hdr.cls (24 + n) address (.remotePoison address n key rq.hdr.tenant) s

/-- The vectors of poisoned heads carry poison (R162), `bytes` each. -/
def poisonHeads (rq : Req) (bytes address key : Nat) (hs : List HeadOut) (s : State) : State :=
  (List.range hs.length).foldl (fun s k =>
    match hs[k]? with
    | some h => if bit h.flags 2 then poisonBytes rq (address + vectorsAt hs.length + bytes * k) bytes key s else s
    | none => s) s

/-- The far extents of this package that a write at a fabric address reaches: the engine stalls until they are near (R195). -/
def farOut (s : State) (address n : Nat) : List Nat :=
  if address / 2 ^ 48 = pkgNo s then farExtents s (address % 2 ^ 48) n else []

/-- Counters of head records (R168). -/
def countHeads (hs : List HeadOut) (s : State) : State :=
  let n (k : Nat) : Nat := (hs.filter (fun h => bit h.flags k)).length
  bump 0x5011 9 (n 3) (bump 0x5011 6 (n 2) (bump 0x5011 5 (n 1) s))

/-- The distinct rows of a command, which are read once (R158). -/
def commandRows (s : State) (d : Nat) (y : Attend) : List Row :=
  let b := y.posted.req.body
  (((List.range (atHeads b)).map (fun g => ((List.range (atPos b)).map (fun j =>
    rowsFor s d y j (atHeadFirst b + g))).flatten)).flatten).eraseDups

/-- Pages that rows are read from: the page of each row, once. -/
def pagesRead (s : State) (d : Nat) (y : Attend) : Nat :=
  let b := y.posted.req.body
  let one (g : Nat) : List (Nat × Nat) :=
    ((List.range (atPos b)).map (fun j =>
      ((List.range (min (atCtxLen b) y.nextPos)).filter (attended d b j)).filterMap (fun p => (posPage s d (atLayer b) g p).map (fun q => (0, q))) ++
      (if (attendedSlots d b j).isEmpty then [] else ((pendPage s d (atLayer b) g).map (fun q => (1, q))).toList))).flatten
  (((List.range (atHeads b)).map (fun g => one (atHeadFirst b + g))).flatten).eraseDups.length

/-- The partial of a command whose rows are `rows`: read, combined, written, and then signalled (R158 to R161). -/
def writePartial (acc : Nat) (y : Attend) (d : Nat) (rows : List Row) (s : State) : State :=
  let b := y.posted.req.body
  let read := (rows.filterMap (·.2)).map (fun ps => (ps.map (·.2)).sum)
  let pages := pagesRead s d y
  let (hs, s) := (headList d b).foldl (fun (a : List HeadOut × State) k =>
    let (h, s) := headOut d y k.1 k.2.1 k.2.2 a.2
    (a.1 ++ [h], s)) ([], bump 0x5011 8 read.sum s)
  let v := blockHeader s d b 1 (statusCode (headsStatus hs)) (arMember d) (2 ^ arMember d) pages + blockBody d hs
  let s := (fabricWrite y.posted.req (partialAt d b) (blockSize d hs.length) v (bits b 335 304) (countHeads hs s)).2
  attendOver acc (attnSignal acc (atBase b / 2 ^ 48) (atSync b) 1 y.posted.req
    { poisonHeads y.posted.req (4 * arDim d) (partialAt d b) (bits b 335 304) hs s with
      attends := tset s.attends acc { y with written := true } })

/-- The lines that a command reads: its page-table entries and its rows. -/
def commandLines (d : Nat) (y : Attend) (rows : List Row) : List Nat :=
  let b := y.posted.req.body
  (((List.range (atHeads b)).map (fun g => (pendEntryAt d (atLayer b) (atHeadFirst b + g) / 64) ::
    (List.range (ceilDiv y.nextPos 256)).map (fun p => pageEntryAt d (atLayer b) (atHeadFirst b + g) (256 * p) / 64))).flatten ++
    ((rows.filterMap (·.2)).map rowLines).flatten).eraseDups

/-- The far extents of rows. -/
def rowExtents (s : State) (far : List Row) : List Nat :=
  ((far.filterMap (·.2)).map (fun ps => ((rowLines ps).map (fun l => extentOf (64 * l))).filter (isFar s))).flatten.eraseDups

/-- A bound ATTEND has streamed its pages and combined: its partial is written, and then signalled (R161, R162). -/
def doPartialWritten (acc : Nat) (failed : Bool) (s : State) : State :=
  match tget s.attends acc with
  | none => s
  | some y =>
    match tget s.arenas (attnArena y.posted.req.body) with
    | none => s
    | some x =>
      let d := x.desc
      let (y, s) := if y.unread then readQueries acc d y s else (y, s)
      if y.st ≠ 2 ∨ y.written ∨ y.unread then s
      else if failed ∨ y.failed then headerOnly acc y d .internal 0 s
      else
        let rows := commandRows s d y
        let far := rows.filter (fun r => (rowState s r).far)
        let out := farOut s (partialAt d y.posted.req.body) (blockSize d (records d y.posted.req.body))
        if !far.isEmpty then headerOnly acc y d .defer 0 (engineFar (rowExtents s far) s)
        else if !out.isEmpty then (engineFar out s)
        else
          let ls := commandLines d y rows
          match peekWait acc ls (poisonDead ls s) with
          | some s => s
          | none => writePartial acc y d (commandRows (poisonDead ls s) d y) (unpeek acc (settleLines acc (poisonDead ls s)))

/-- PARTIAL_WRITTEN (R161). -/
def execPartialWritten (acc : Nat) (failed : Bool) (s : State) : Host.Outcome State Fault Refusal :=
  .next (doPartialWritten acc failed s)

/-! ## Merging (R164 to R166) -/

/-- The offset of member m's partial block at the merger. -/
def blockAt (b m : Nat) : Nat := (atBase b + m * atStride b) % 2 ^ 48

/-- Member m's partial block has arrived: it is of the merger's own command. -/
def arrived (s : State) (b m : Nat) : Bool :=
  let h := readMem s (blockAt b m) 64
  !lineBad s (blockAt b m / 64) && bits h 7 0 == 1 && bits h 43 32 == attnArena b && bits h 31 24 == atLayer b &&
    bits h 191 128 == atTag b

/-- The members whose partials arrived. -/
def arrivedMembers (s : State) (d b : Nat) : List Nat := (List.range (arMembers d)).filter (arrived s b)

/-- One merged head of blocks of n records (R166): the blocks by their addresses, and how their bytes are read. -/
def mergeHead (rd : Nat → Nat → Nat) (dim n : Nat) (blocks : List Nat) (k : Nat) : HeadOut :=
  let record (a : Nat) : Nat := rd (a + 64 + 16 * k) 16
  let rs := (blocks.map (fun a => (a, record a))).filter (fun r => !bit r.2 0)
  let first := match blocks.head? with | some a => record a | none => 0
  let j := bits first 47 40
  let qh := bits first 63 48
  let flags := (rs.map (fun r => r.2 % 16)).foldl (fun a f => a ||| (f &&& 14)) 0
  let rows := (rs.map (fun r => bits r.2 95 64)).sum
  if rs.isEmpty then ⟨headRecord hdEmpty j qh 0 negInf32, 0, hdEmpty⟩
  else if bit flags 3 then ⟨headRecord flags j qh rows nan32, repeat32 dim nan32, flags⟩
  else
    let r := mergePairs dim (rs.map (fun r =>
      (bits r.2 127 96, (List.range dim).map (fun i => rd (r.1 + vectorsAt n + 4 * (dim * k + i)) 4))))
    ⟨headRecord flags j qh rows r.1, packVector r.2, flags⟩

/-- The merged status (R165), of `n` partials whose headers are given. -/
def mergedStatus (n : Nat) (headers : List Nat) (hs : List HeadOut) : Status :=
  if headers.any (fun h => bits h 11 8 == 15) then .internal
  else if headers.length < n ∨ headers.any (fun h => bits h 11 8 == 2) then .defer
  else headsStatus hs

/-- The merge ends: out_sync is signalled, and the ATTEND is over. -/
def mergeOver (acc : Nat) (y : Attend) (s : State) : State :=
  let b := y.posted.req.body
  attendOver acc (attnSignal acc (atOut b / 2 ^ 48) (bits b 414 400) 1 y.posted.req
    { s with attends := tmod s.attends acc (fun z => { z with armed := false }) })

/-- The mask of members. -/
def maskOf (members : List Nat) : Nat := (members.map (fun m => 2 ^ m)).sum

/-- An armed merge, with its arena. -/
def withMerge (acc : Nat) (act : Attend → Nat → State → State) (s : State) : State :=
  match tget s.attends acc with
  | some y => (match tget s.arenas (attnArena y.posted.req.body) with
    | some x => if y.armed then act y x.desc s else s
    | none => s)
  | none => s

/-- The partials of a merge are combined: merge_sync is taken down, the block written, and out_sync signalled (R164 to
R166). -/
def mergePartials (acc : Nat) (y : Attend) (d : Nat) (s : State) : State :=
  let b := y.posted.req.body
  let members := arrivedMembers s d b
  let headers := members.map (fun m => readMem s (blockAt b m) 64)
  let hs := (List.range (records d b)).map (mergeHead (readMem s) (arDim d) (records d b) (members.map (blockAt b)))
  let st := mergedStatus (arMembers d) headers hs
  let pages := (headers.map (fun h => bits h 287 256)).sum
  let h := blockHeader s d b 2 (statusCode st) 0xF (maskOf members) pages
  let whole : Bool := st != .internal && st != .defer
  let s := commandSignal (atSync b) (2 ^ 64 - arMembers d) y.posted.req.hdr.requester y.posted.req.hdr.tenant acc s
  let s := (fabricWrite y.posted.req (atOut b) (if whole then blockSize d hs.length else 64)
    (if whole then h + blockBody d hs else h) (bits b 447 416) (if whole then countHeads hs s else s)).2
  mergeOver acc y (if whole then poisonHeads y.posted.req (4 * arDim d) (atOut b) (bits b 447 416) hs s else s)

/-- merge_sync has reached member_count (R164): the partials are merged; the merge waits while one of them is far. -/
def doMerge (acc : Nat) (y : Attend) (d : Nat) (s : State) : State :=
  let b := y.posted.req.body
  let span := atStride b * arMembers d
  if (syncObj s (atSync b)).value < arMembers d then s
  else if !(farExtents s (blockAt b 0) span).isEmpty then (engineFar (farExtents s (blockAt b 0) span) s)
  else if !(farOut s (atOut b) (blockSize d (records d b))).isEmpty then
    (engineFar (farOut s (atOut b) (blockSize d (records d b))) s)
  else
    let ls := linesOf (blockAt b 0) span
    match peekWait acc ls (poisonDead ls s) with
    | some s => s
    | none => mergePartials acc y d (unpeek acc (settleLines acc (poisonDead ls s)))

/-- MERGE_SYNC_REACHED (R164). -/
def execMergeSyncReached (acc : Nat) (s : State) : Host.Outcome State Fault Refusal := .next (withMerge acc (doMerge acc) s)

/-- MERGE_TIMEOUT (R164). -/
def execMergeTimeout (acc : Nat) (s : State) : Host.Outcome State Fault Refusal :=
  .next (withMerge acc (fun y d s =>
    let b := y.posted.req.body
    if arMembers d ≤ (syncObj s (atSync b)).value then s
    else
      let h := blockHeader s d b 2 (statusCode .defer) 0xF (maskOf (arrivedMembers s d b)) 0
      mergeOver acc y ((fabricWrite y.posted.req (atOut b) 64 h (bits b 447 416) (bump 0x5011 7 1 s)).2)) s)

/-! ## ATTN_MERGE called by INVOKE (R163) -/

/-- A merge of a call: the packed address of each block, their headers, the count of records and the vectors' dimension. -/
structure MergeCall where
  blocks : List Nat
  headers : List Nat
  n : Nat
  dim : Nat
  deriving DecidableEq, Repr

/-- The blocks that a call on ATTN_MERGE combines: those that describe the same heads as the first of them, be they partials
or merged blocks (R164, R166; log entry 49). -/
def mergeCallBlocks (base stride count : Nat) (header : Nat → Nat) : MergeCall :=
  let all := (List.range count).map (fun m => (base + m * stride, header (base + m * stride)))
  let kind (h : Nat) : Bool := decide (h % 256 = 1 ∨ h % 256 = 2)
  let what (h : Nat) : Nat × Nat × Nat := (bits h 71 48, bits h 43 24, bits h 191 128)
  let first := ((all.filter (fun x => kind x.2)).map (·.2)).head?.getD 0
  let good := all.filter (fun x => kind x.2 && what x.2 == what first)
  ⟨good.map (·.1), good.map (·.2), bits first 54 48 * bits first 62 56, 32 * bits first 71 64⟩

/-- A call on ATTN_MERGE ends (R163 to R166): it waits while a block is in the far tier or an address faults; an output
that has become shorter than the blocks ask for ends it with INTERNAL (log entry 49). -/
def doMergeCall (acc : Nat) (k : Call) (x : FnHandle) (r : CallResult) (s : State) : State :=
  let b := k.posted.req.body
  let shape := argValue (invArg b 2)
  let count := bits shape 35 32
  let stride := shape % 2 ^ 32
  match argAddress s x (argValue (invArg b 0)) .load, argAddress s x (argValue (invArg b 1)) .store with
  | some src, some dst =>
    if src / 2 ^ 48 ≠ pkgNo s then finishCall acc k r s
    else
      let far := farExtents s (src % 2 ^ 48) (count * stride)
      if !far.isEmpty then (engineFar far s)
      else
        let rd := fun a n => readMem s (a % 2 ^ 48) n
        let c := mergeCallBlocks src stride count (fun a => if lineBad s (a % 2 ^ 48 / 64) then 0 else rd a 64)
        let hs := (List.range c.n).map (mergeHead rd c.dim c.n c.blocks)
        let st := mergedStatus count c.headers hs
        let whole : Bool := st != .internal && st != .defer
        let bytes := if whole then vectorsAt c.n + 4 * c.dim * c.n else 64
        let bad := anyBad s (src % 2 ^ 48) (count * stride)
        if invLen b 1 < bytes then endCall acc k .internal 0 (freeTiles k s)
        else
          let h0 := c.headers.head?.getD 0
          let mask := ((List.range count).map (fun m => if c.blocks.contains (src + m * stride) then 2 ^ m else 0)).sum
          let h := 2 + statusCode st * 2 ^ 8 + 0xF * 2 ^ 12 + count * 2 ^ 16 + bits h0 71 24 * 2 ^ 24 + mask * 2 ^ 96
            + bits h0 191 128 * 2 ^ 128 + s.time % 2 ^ 64 * 2 ^ 192 + (c.headers.map (fun h => bits h 287 256)).sum % 2 ^ 32 * 2 ^ 256
          let body := (List.range c.n).map (fun i => match hs[i]? with
            | some x => x.record * 2 ^ (8 * 64 + 128 * i) + x.vector * 2 ^ (8 * vectorsAt c.n + 32 * c.dim * i)
            | none => 0)
          let w : CallWrite := ⟨dst, bytes, if whole then h + body.sum else h, bad, (r.writes.head?.map (·.ack)).getD .ok⟩
          finishCall acc k ⟨if bad then .poison else .ok, r.result, [w], r.subst⟩ (if whole then countHeads hs s else s)
  | _, _ => s

/-- ATTN_COUNTERS_CLEAR (R168). -/
def execAttnCountersClear (d : DapMsg) (s : State) : Host.Outcome State Fault Refusal :=
  .next (clearObj d 0x5011 10 (clearObjs 0x5011 [1, 2, 3, 4, 5, 6, 7, 8, 9]) s)

/-- A write of arena_table_base (R169). -/
def doArenaBase (c : Ctx) (s : State) : State :=
  if !s.arenas.isEmpty then fin c .defer 0 s
  else if c.value % 128 ≠ 0 ∨ memRange s < c.value + 524288 then finBad c s
  else applied c (setObj 0x5010 7 c.value) s

end Sys2Proof.Machine
end

