-- ==== Sys2Proof/Machine/Coherence.lean ====
section
/-! DEFINITION. The coherent commands: caching reads, writebacks, eviction notices, snoop answers and timeouts, and the
commands that form, dissolve and change the domain's agents (chapter 10). -/

namespace Sys2Proof.Machine

/-- The checks of a coherent command (R325, R388, R389, R319): one line, the home's domain, its permission. -/
def cohChecks (h : Hdr) (perm : Nat) (s : State) : Checks :=
  { badField := false, names := .range (64 * h.length), maxLen := some 64, one := true, absent := false,
    targets := if h.offset < memRange s then [homeDom (homeOf s h.offset)] else [],
    perm := some perm, also := none, badBody := false }

/-- A coherent command served at its line's home. -/
def serveCoh (op : Nat) (h : Hdr) (data perm : Nat) (act : Req → State → State) (s : State) : State :=
  serve ⟨op, h, 0, data, [], false⟩ (cohChecks h perm s) (if op = 0x23 then 64 else 0) 64
    (fun rq s => if h.length = 0 then complete rq .ok 0 s else act rq s) s

/-- A FINAL completion: the home's data, and the grant (R326). -/
def finalGrant (rq : Req) (line grant len : Nat) (s : State) : State :=
  completeWith rq .ok (cohResult 0 0 0 grant) 0 len (if len = 0 then 0 else lineData s line) none
    (acknowledge line rq.hdr s)

/-- What a caching read meets before the directory (R320, R333, R335, R345, R348): then `act`, with the agent. -/
def cachingRead (rq : Req) (owns : Bool) (act : Nat → State → State) (s : State) : State :=
  let off := rq.hdr.offset
  let line := off / 64
  match agentOf s rq.hdr.requester with
  | none => complete rq .unsupported 0 s
  | some a =>
    if agentState s a = 3 ∨ !formed s ∨ windowBase ≤ off then complete rq .unsupported 0 s
    else if agentState s a = 2 then deferReq rq 0 s
    else
      let s := poisonDead [line] (bump 0x6014 1 1 s)
      if isFar s (extentOf off) then farDefer rq off 64 s
      else if extState s (extentOf off) = some .movingDown then deferReq rq 1 s
      else if lineBad s line then complete rq .poison 0 s
      else
        let grantsEM := owns || (tget s.dir line).isNone
        if grantsEM ∧ extState s (extentOf off) = none ∧ !frameFree s (layoutOf s (extentOf off)) then noFrame rq s
        else
          let framed (s : State) : State :=
            if grantsEM ∧ extState s (extentOf off) = none then makeNear (extentOf off) s else s
          match tget s.dir line with
          | some _ => act a (framed s)
          | none =>
            match freeWay s line with
            | some _ => act a (framed s)
            | none =>
              match victim s line with
              | some v => deferReq rq 1 (recallLine v s)
              | none => deferReq rq 1 s

/-- A new entry of a line (R333): its first free way, allocated now. -/
def newEntry (s : State) (line st a : Nat) : DirEntry := ⟨st, false, [a], (freeWay s line).getD 0, s.snoopCtr⟩

/-- The supplier of a shared line (R337): none is the home. -/
def supplier (s : State) (a : Nat) (e : DirEntry) : Option Nat :=
  if obj s 0x6010 6 = 0 then
    if e.st = 2 then (e.ptrs.head?).filter (fun x => x != a) else none
  else
    let hops (n : Nat) : Nat := bits (obj s 0x6013 0) (8 * (40 * n + 8 + a) + 7) (8 * (40 * n + 8 + a))
    let home := hops (obj s 0x6010 3)
    let best := (List.range 32).foldl (fun (m : Option Nat) x =>
      if e.ptrs.contains x ∧ x ≠ a then
        match m with
        | none => if hops (8 + x) < home then some x else none
        | some y => if hops (8 + x) < hops (8 + y) then some x else some y
      else m) none
    best

/-- RD_SHARED (R335, R337). -/
def doRdShared (rq : Req) (s : State) : State :=
  let line := rq.hdr.offset / 64
  cachingRead rq false (fun a s =>
    match tget s.dir line with
    | none => finalGrant rq line 3 1 (setDir line (newEntry s line 3 a) s)
    | some e =>
      if 3 ≤ e.st then
        match e.ptrs.head? with
        | some o =>
          if o = a then finalGrant rq line 3 1 (setDir line { e with st := 3 } s)
          else
            let (t, s) := nextTxn s
            let s := sendSnoop t line o 2 (.agent rq.hdr 1) rq.hdr.requester rq.hdr.tag 1 s
            let s := setDir line (addPtr { e with st := 2 } a false) s
            complete rq .ok (cohResult 2 o t 0) s
        | none => finalGrant rq line 3 1 (setDir line (newEntry s line 3 a) s)
      else
        let grant := if e.st = 1 then 2 else 1
        let e' := if e.st = 1 then { addPtr e a true with st := 2 } else addPtr e a false
        match supplier s a e with
        | none => finalGrant rq line grant 1 (setDir line e' s)
        | some x =>
          let (t, s) := nextTxn s
          let s := sendSnoop t line x 2 (.agent rq.hdr grant) rq.hdr.requester rq.hdr.tag grant s
          complete rq .ok (cohResult 2 x t 0) (setDir line e' s)) s

/-- RD_OWN, and UPGRADE from an agent that a pointer names, whose grant carries no data (R332, R335). -/
def doRdOwn (upgrade : Bool) (rq : Req) (s : State) : State :=
  let line := rq.hdr.offset / 64
  cachingRead rq true (fun a s =>
    match tget s.dir line with
    | none => finalGrant rq line 4 1 (setDir line (newEntry s line 4 a) s)
    | some e =>
      let owned : DirEntry := { e with st := 4, broadcast := false, ptrs := [a] }
      if 3 ≤ e.st then
        match (e.ptrs.head?).filter (fun o => o != a) with
        | some o =>
          let (t, s) := nextTxn s
          let s := sendSnoop t line o 4 (.agent rq.hdr 4) rq.hdr.requester rq.hdr.tag 4 s
          complete rq .ok (cohResult 2 o t 0) (setDir line owned s)
        | none => finalGrant rq line 4 1 (setDir line owned s)
      else
        let len := if upgrade ∧ e.ptrs.contains a then 0 else 1
        let others := holders s e (some a)
        if others.isEmpty then finalGrant rq line 4 len (setDir line owned s)
        else
          let (t, s) := nextTxn s
          let s := sendSnoops t line 3 (.home rq.hdr len) others e.ptrs s
          complete rq .ok (cohResult 1 0 t 0) (setDir line owned s)) s

/-- RD_SHARED (R335). -/
def execRdShared (h : Hdr) (s : State) : Host.Outcome State Fault Refusal := .next (serveCoh 0x20 h 0 0 doRdShared s)

/-- RD_OWN (R335). -/
def execRdOwn (h : Hdr) (s : State) : Host.Outcome State Fault Refusal := .next (serveCoh 0x21 h 0 0 (doRdOwn false) s)

/-- UPGRADE (R332). -/
def execUpgrade (h : Hdr) (s : State) : Host.Outcome State Fault Refusal := .next (serveCoh 0x22 h 0 0 (doRdOwn true) s)

/-! ## Answers (R328, R342, R343, R347) -/

/-- A snoop's transaction goes on once the snoop is answered, with data, with a miss, or unanswered (`bad`). -/
def snoopDone (key : Nat) (x : Snoop) (data : Option Nat) (forwarded bad : Bool) (s : State) : State :=
  let s := { s with snoops := terase s.snoops key }
  match x.why with
  | .request id => snoopGone id key (data.map (fun v => (x.line, v))) bad
      (match data with | some v => if x.kind = 3 then mergeLine x v s else s | none => s)
  | .recalled => match data with | some v => mergeLine x v s | none => s
  | .engine id => { s with peeked := tset s.peeked (id * 2 ^ 48 + x.line) (data.getD (lineData s x.line), bad) }
  | .home h len =>
    let s := match data with | some v => mergeLine x v s | none => s
    if s.snoops.any (fun e => e.2.txn == x.txn) then s
    else acknowledge x.line h (sendGrant h x.txn 4 len x.line (poisoned s x.line) s)
  | .agent h grant =>
    let s := match data with | some v => mergeLine x v s | none => s
    let s := if forwarded then s else sendGrant h x.txn grant 1 x.line (bad || poisoned s x.line) s
    acknowledge x.line h s

/-- A domain that is being dissolved is ALONE once its last directory entry is gone (R322). -/
def settleDissolve (s : State) : State :=
  if s.dissolving && s.dir.isEmpty then
    dapFinishKey (okey 0x6010 0xA) .ok 0 (setObj 0x6010 7 0 { s with dissolving := false })
  else s

/-- An agent's completion of a snoop reaches the home (R328, R342). A late one is discarded and counted (R347). -/
def doSnoopResponse (seq agent result data : Nat) (s : State) : State :=
  let key := snoopKey seq agent
  match tget s.snoops key with
  | none => bump 0x6014 9 1 s
  | some x =>
    if x.awaitsWb then s
    else if bit result 5 then
      match x.wbData with
      | some v => snoopDone key x (some v) false false s
      | none => { s with snoops := tset s.snoops key { x with awaitsWb := true } }
    else snoopDone key x (if bit result 3 then some (data % 2 ^ 512) else none) (bit result 4) false s

/-- SNOOP_RESPONSE (R328). -/
def execSnoopResponse (seq agent result data : Nat) (s : State) : Host.Outcome State Fault Refusal :=
  .next (settleDissolve (doSnoopResponse seq agent result data s))

/-- A snoop unanswered for 2 µs (R347): the line is poisoned, the agent's pointer cleared, the agent SUSPECT at every
member, and what waited goes on with POISON. -/
def doSnoopTimeout (seq agent : Nat) (s : State) : State :=
  let key := snoopKey seq agent
  match tget s.snoops key with
  | none => s
  | some x =>
    if !x.running then s
    else
      let s := bump 0x6014 3 1 (writePoison (64 * x.line) s)
      let s := match tget s.dir x.line with
        | some e =>
          let ps := e.ptrs.filter (fun p => p != agent)
          if ps.isEmpty ∧ !e.broadcast then dropDir x.line s else setDir x.line { e with ptrs := ps } s
        | none => s
      let s := if agentState s agent = 1 then setAgentState agent 2 s else s
      let s := raiseEvent 0x6010 0xB 0 (tellMembers 1 agent 2 s)
      snoopDone key x none false true s

/-- SNOOP_TIMEOUT (R347). -/
def execSnoopTimeout (seq agent : Nat) (s : State) : Host.Outcome State Fault Refusal := 
  .next (settleDissolve (doSnoopTimeout seq agent s))

/-- DIRECTORY_RECALL_DONE (R333): every snoop of the recall has been answered or has timed out, and dirty data has been
written at the home, so the way is freed. -/
def execDirectoryRecallDone (line : Nat) (s : State) : Host.Outcome State Fault Refusal :=
  .next (settleDissolve (if s.recalls.contains line ∧ s.snoops.all (fun e => e.2.line != line || e.2.why != .recalled)
    then dropDir line s else s))

/-- A line that its owner hands back is written at its home: stale bits, copies (R202, R205). -/
def writeHome (rq : Req) (line v : Nat) (s : State) : State :=
  let old := lineData s line
  sendCopies rq (64 * line) 64 old v (writeLine line v (setStale [line] s))

/-- WB_DIRTY (R335, R342): from the owner its data is written and the entry freed; one that a snoop of the agent awaits
or meets gives the snoop its data; any other is counted as stale. -/
def doWbDirty (rq : Req) (s : State) : State :=
  let line := rq.hdr.offset / 64
  let ks := copiedObjects s (64 * line) 64
  if isMirror s (extentOf rq.hdr.offset) ∧ !fromPackage s rq.hdr.requester then complete rq .notOwner 0 s
  else match agentOf s rq.hdr.requester with
  | none => complete rq .ok 0 (bump 0x6014 7 1 s)
  | some a =>
    let mine := match tget s.dir line with
      | some e => decide (3 ≤ e.st) && e.ptrs.head? == some a
      | none => false
    let sn := s.snoops.find? (fun e => e.2.line == line && e.2.agent == a)
    match sn with
    | some (key, x) =>
      let s := if mine then dropDir line (writeHome rq line (rq.data % 2 ^ 512) s) else s
      if x.awaitsWb then snoopDone key x (some (rq.data % 2 ^ 512)) false false (completeCopied rq .ok 0 ks s)
      else completeCopied rq .ok 0 (if mine then ks else []) { s with snoops := tset s.snoops key { x with wbData := some (rq.data % 2 ^ 512) } }
    | none =>
      if mine then completeCopied rq .ok 0 ks (dropDir line (writeHome rq line (rq.data % 2 ^ 512) s))
      else complete rq .ok 0 (bump 0x6014 7 1 s)

/-- WB_DIRTY (R342). -/
def execWbDirty (h : Hdr) (data : Nat) (s : State) : Host.Outcome State Fault Refusal :=
  .next (settleDissolve (serveCoh 0x23 h data 1 doWbDirty s))

/-- EVICT_CLEAN (R335): the owner's notice of an E line frees it; a holder's notice clears its pointer. -/
def doEvictClean (rq : Req) (s : State) : State :=
  let line := rq.hdr.offset / 64
  let s := match agentOf s rq.hdr.requester, tget s.dir line with
    | some a, some e =>
      if e.st = 3 ∧ e.ptrs.head? = some a then dropDir line s
      else if e.st ≤ 2 ∧ e.ptrs.contains a then
        let ps := e.ptrs.filter (fun p => p != a)
        let st := if e.st = 2 ∧ e.ptrs.head? = some a then 1 else e.st
        if ps.isEmpty ∧ !e.broadcast then dropDir line s else setDir line { e with ptrs := ps, st := st } s
      else s
    | _, _ => s
  complete rq .ok 0 s

/-- EVICT_CLEAN (R335). -/
def execEvictClean (h : Hdr) (s : State) : Host.Outcome State Fault Refusal := 
  .next (settleDissolve (serveCoh 0x24 h 0 0 doEvictClean s))

end Sys2Proof.Machine
end

