-- ==== Sys2Proof/Machine/Placement.lean ====
section
/-! DEFINITION. Objects, placement commands, shadows as they are registered, and the migration engine (chapter 5). -/

namespace Sys2Proof.Machine

/-! ## Fields of a placement command (R179) -/

def plOp (b : Nat) : Nat := bits b 7 0
def plObject (b : Nat) : Nat := bits b 175 160
def plShadow (b : Nat) : Nat := bits b 171 160
def plPolicy (b : Nat) : Nat := bits b 178 176
def plToFar (b : Nat) : Bool := bit b 176
def plFirst (b : Nat) : Nat := bits b 223 192
def plCount (b : Nat) : Nat := bits b 255 224

/-- A policy code is defined (R176). -/
def policyDefined (p : Nat) : Bool := decide (1 ≤ p ∧ p ≤ 4)

/-- The object or shadow that a command names, objects and shadows apart. -/
def plNames (b : Nat) : Nat := if 5 ≤ plOp b then 65536 + plShadow b else plObject b

/-- Reserved fields, the operation and its codes (R179). -/
def plBad (op b : Nat) : Bool :=
  bits b 511 256 != 0 || bits b 95 81 != 0 || bits b 15 8 != 0 || plOp b != op ||
  (match op with
    | 1 => bits b 255 176 != 0
    | 2 => bits b 255 176 != 0
    | 3 => bits b 255 179 != 0 || !policyDefined (plPolicy b)
    | 4 => bits b 191 177 != 0
    | 5 => bits b 255 172 != 0
    | 6 => bits b 255 172 != 0
    | 7 => bits b 191 172 != 0
    | _ => true)

/-! ## Extents -/

/-- An extent becomes ZERO: its frame is freed and it reads as zero (R173, R588). -/
def makeZero (ext : Nat) (s : State) : State :=
  { s with extents := terase s.extents ext,
           mem := s.mem.filter (fun c => extentOf c.1 != ext),
           store := s.store.filter (fun e => e.1 / 32768 != ext),
           poison := s.poison.filter (fun l => l / 32768 != ext) }

/-- The extents that are not ZERO among `n` from an extent upward. -/
def extentsIn (s : State) (first n : Nat) : Tab Extent :=
  s.extents.filter (fun e => decide (first ≤ e.1 ∧ e.1 < first + n))

/-- near_pinned_bytes: the bytes of the PIN_NEAR objects (R178). -/
def pinnedBytes (s : State) : Nat :=
  ((s.placed.filter (fun p => p.2.policy == pinNear)).map (fun p => entryCount p.2.entry * extentBytes)).sum

/-- `n` frames of a layout are free. -/
def framesOf (s : State) (slice : Option Nat) (n : Nat) : Bool :=
  (List.range 8).all (fun k => decide (n * frameGranules k slice ≤ freeGranules s k))

/-- A demotion in flight or queued for an extent is given up, the extent staying NEAR: the extents of a PIN_NEAR object
are never moved out (R178, log entry 31). -/
def cancelDown (ext : Nat) (s : State) : State :=
  { s with moves := s.moves.filter (fun m => m.extent != ext || m.up),
           extents := tmod s.extents ext (fun x => if x.st = .movingDown then { x with st := .near } else x) }

/-! ## The moves that commands wait for (R180, R187) -/

/-- A move that a command waits for is over. -/
def waitOver (s : State) (key : Nat) : Bool :=
  let ext := key / 2
  match extState s ext with
  | none => true
  | some .lost => true
  | some .near => key % 2 == 1 && ((objectAt s ext).isNone || layoutOf s ext == wantedLayout s ext)
  | some .far => key % 2 == 0
  | some _ => false

/-- A queued move that has not started has something to do. -/
def moveNeeded (s : State) (m : Move) : Bool :=
  m.started.isSome ||
  (if m.up then
    match extState s m.extent with
    | some .near => m.relayout && (objectAt s m.extent).isSome && layoutOf s m.extent != wantedLayout s m.extent
    | some .far => true
    | some .movingDown => true
    | _ => false
  else match extState s m.extent with
    | some .near => (match objectAt s m.extent with | some (_, o) => o.policy != pinNear | none => true)
    | some .movingUp => true
    | _ => false)

/-- The moves that are waited for enter the queue while placement moves have entries (R187). -/
def refillMoves (s : State) : State :=
  s.placeQ.foldl (fun s c => c.waits.foldl (fun s key =>
    let ext := key / 2
    let up := key % 2 == 1
    if s.moves.any (fun m => m.extent == ext && m.up == up) then
      { s with moves := s.moves.map (fun m =>
          if m.extent = ext ∧ m.up = up ∧ (m.acc = 0 ∨ c.acc < m.acc) then { m with acc := c.acc } else m) }
    else if (s.moves.filter (fun m => !m.demand)).length < 3840 ∧ s.moves.length < 4096 then
      { s with moves := s.moves ++ [⟨ext, up, false, up && extState s ext == some .near, none, false, c.acc⟩] }
    else s) s) s

/-- The 32-byte result record of a placement command (R186). -/
def placeRecord (s : State) (c : PlaceCmd) (st : Status) : Nat :=
  let b := c.req.body
  statusCode st + plOp b * 2 ^ 8 + (plNames b % 65536) * 2 ^ 16 + elapsed s c.at_ * 2 ^ 64 + c.acc % 2 ^ 64 * 2 ^ 128
    + s.time % 2 ^ 64 * 2 ^ 192

/-- The end of a placement command: its record and its signal. -/
def endPlace (c : PlaceCmd) (st : Status) (s : State) : State :=
  let b := c.req.body
  endPosted c.req c.acc (bit b 80) (bits b 79 32) 32 (placeRecord s c st) (bit b 31) (bits b 30 16) (bits b 159 96)
    { s with placeQ := s.placeQ.filter (fun x => x.acc != c.acc) }

/-- A command that has executed ends once its moves are over (R180, R185). -/
def settleOne (acc : Nat) (s : State) : State :=
  match s.placeQ.find? (fun c => c.acc == acc) with
  | none => s
  | some c =>
    if !c.executed then s
    else
      let w := c.waits.filter (fun k => !waitOver s k)
      if w.isEmpty then endPlace c .ok s
      else { s with placeQ := s.placeQ.map (fun x => if x.acc = c.acc then { x with waits := w } else x) }

/-- After every move and every command: commands whose moves are over end, moves without a use leave the queue, waiting
ones enter it. -/
def settlePlacement (s : State) : State :=
  let s := (s.placeQ.map (·.acc)).foldl (fun s a => settleOne a s) s
  refillMoves { s with moves := s.moves.filter (moveNeeded s) }

/-! ## Acceptance (R180, R181) -/

/-- The object is the primary or the shadow object of a registered shadow. -/
def shadowedObject (s : State) (n : Nat) : Bool := s.shadows.any (fun e => shPrimary e.2.desc == n || shObject e.2.desc == n)

/-- Steps 1 to 3 of R181, made at acceptance and again at execution. -/
def placeChecks (s : State) (b tenant : Nat) : Option Status :=
  let op := plOp b
  if 5 ≤ op then
    match tget s.shadows (plShadow b) with
    | some x => if op = 5 then some .unsupported else if x.tenant ≠ tenant then some .tenantBlocked else none
    | none => if op = 5 then none else some .unsupported
  else match tget s.placed (plObject b) with
    | none => if op = 1 then none else some .unsupported
    | some o =>
      if op = 1 then some .unsupported
      else if o.tenant ≠ tenant then some .tenantBlocked
      else if (op = 2 ∨ op = 3) ∧ shadowedObject s (plObject b) then some .unsupported
      else if op = 3 ∧ plPolicy b = 3 ∧ !hasFar s then some .unsupported
      else if op = 4 ∧ plToFar b ∧ (o.policy = pinNear ∨ !hasFar s) then some .unsupported
      else none

/-- A SET_POLICY to PIN_NEAR keeps the limit of R178. -/
def pinFits (s : State) (n : Nat) : Bool :=
  match tget s.placed n with
  | none => true
  | some o => o.policy == pinNear || decide (pinnedBytes s + entryCount o.entry * extentBytes ≤ obj s 0x3010 6)

/-- Steps 4 and 5 of R181. -/
def placeLengths (s : State) (b : Nat) : Bool :=
  let n := plCount b
  let (lo, m) := if plOp b = 4 then
      (0, match tget s.placed (plObject b) with | some o => entryCount o.entry | none => 0)
    else match tget s.shadows (plShadow b) with
      | some x => (shUnitFirst x.desc, shUnitCount x.desc)
      | none => (0, 0)
  if plOp b = 4 ∨ plOp b = 7 then
    n == 0xFFFFFFFF || (n != 0 && decide (plFirst b < lo ∨ lo + m < plFirst b + n))
  else plOp b == 3 && plPolicy b == pinNear && !pinFits s (plObject b)

/-- What DRAINING refuses (R573). -/
def drainRefuses (s : State) (b : Nat) : Bool :=
  s.pkg == .draining && (plOp b == 1 || plOp b == 5 || (plOp b == 4 && !plToFar b))

/-- A placement command at step 12. -/
def doPlace (rq : Req) (s : State) : State :=
  let b := rq.body
  if (bit b 80 ∧ !recordAt s (bits b 79 32) 32) ∨ drainRefuses s b then complete rq .unsupported 0 s
  else match placeChecks s b rq.hdr.tenant with
    | some st => complete rq st 0 s
    | none =>
      if placeLengths s b then complete rq .badLength 0 s
      else if (plOp b = 4 ∨ plOp b = 7) ∧ plCount b = 0 then complete rq .ok 0 s
      else if 256 ≤ s.placeQ.length then deferReq rq 1 s
      else
        let (acc, s) := nextAcc s
        complete rq .ok acc { s with placeQ := s.placeQ ++ [⟨acc, rq, s.time, false, []⟩] }

/-- A PLACE command is served. -/
def servePlace (op : Nat) (h : Hdr) (body : Nat) (s : State) : State :=
  serve ⟨0x15, h, body, 0, [], false⟩ (postedChecks (plBad op body) none false false []) 64 64 doPlace s

/-- ACTIVATE (R182). -/
def execObjectActivate (h : Hdr) (body : Nat) (s : State) : Host.Outcome State Fault Refusal := .next (servePlace 1 h body s)
/-- DEACTIVATE (R185). -/
def execObjectDeactivate (h : Hdr) (body : Nat) (s : State) : Host.Outcome State Fault Refusal := .next (servePlace 2 h body s)
/-- SET_POLICY (R176, R178). -/
def execSetPolicy (h : Hdr) (body : Nat) (s : State) : Host.Outcome State Fault Refusal := .next (servePlace 3 h body s)
/-- MIGRATE (R181). -/
def execMigrate (h : Hdr) (body : Nat) (s : State) : Host.Outcome State Fault Refusal := .next (servePlace 4 h body s)
/-- SHADOW_REGISTER (R201). -/
def execShadowRegister (h : Hdr) (body : Nat) (s : State) : Host.Outcome State Fault Refusal := .next (servePlace 5 h body s)
/-- SHADOW_RETIRE (R204). -/
def execShadowRetire (h : Hdr) (body : Nat) (s : State) : Host.Outcome State Fault Refusal := .next (servePlace 6 h body s)
/-- SHADOW_VALIDATE (R202). -/
def execShadowValidate (h : Hdr) (body : Nat) (s : State) : Host.Outcome State Fault Refusal := .next (servePlace 7 h body s)

/-! ## Execution of ACTIVATE and SET_POLICY (R176, R178, R182 to R184, R588) -/

/-- Tenant key states: 0 EMPTY, 1 ACTIVE, 2 SWEEPING; key 0xFFF is always ACTIVE (R587). -/
def keyState (s : State) (t : Nat) : Nat := if t = 0xFFF then 1 else tgetD s.keyStates t 0

/-- The class of an entry has what it does not use at zero (R182). -/
def classFields (e : Nat) : Bool :=
  match entryProt e with
  | 0 => bits e 255 208 == 0 && bits e 207 196 == 0 && bits e 195 180 == 0 && !bit e 176
  | 1 => bits e 195 180 == 0
  | 2 => bits e 207 196 == 0 && !bit e 176
  | _ => false

/-- Entries whose extents meet. -/
def entriesMeet (a b : Nat) : Bool :=
  decide (0 < entryCount a ∧ 0 < entryCount b ∧
    entryBase a < entryBase b + entryCount b * extentBytes ∧ entryBase b < entryBase a + entryCount a * extentBytes)

/-- The pairing check of R205, on the entries that the others answer (0: none is active there): the partner's entry names this
package and base_offset back; the entries of all eight members agree, and each has its parity object of extent_count / 3 extents
(a run of whole extents of the range; log entry 60). -/
def pairing (s : State) (e : Nat) (peers : List Nat) : Bool :=
  let size (x : Nat) : Bool := bits x 159 128 == bits e 159 128 && entryTenant x == entryTenant e
  if entryProt e = 1 then
    let p := peers.head?.getD 0
    entryProt p == 1 && size p && bit p 176 != bit e 176 && bits p 207 196 == pkgNo s && entryProtAt p == entryBase e &&
      entryProtAt e == entryBase p
  else if entryProt e = 2 then
    entryProtAt e % extentBytes == 0 && decide (entryProtAt e + entryCount e / 3 * extentBytes ≤ memRange s) &&
    (List.range 8).all (fun m => m == obj s 0x6010 3 ||
      (let p := (peers[m]?).getD 0
       entryProt p == 2 && size p && bits p 195 180 == bits e 195 180 && entryProtAt p % extentBytes == 0))
  else true

/-- The checks of an entry (R182, R588): the first failing status; none when they pass. -/
def entryStatus (s : State) (e tenant : Nat) (peers : List Nat) : Option Status :=
  let p := bits e 10 8
  if entryTenant e ≠ tenant then some .tenantBlocked
  else if bits e 7 0 ≠ 1 ∨ bits e 511 256 ≠ 0 ∨ bits e 179 177 ≠ 0 ∨ bits e 175 160 ≠ 0 ∨ bits e 127 112 ≠ 0 ∨
      bits e 63 44 ≠ 0 ∨ bits e 31 24 ≠ 0 ∨ bits e 19 18 ≠ 0 ∨ bits e 15 11 ≠ 0 ∨ !classFields e ∨
      entryBase e % extentBytes ≠ 0 ∨ !policyDefined p ∨ s.placed.any (fun o => entriesMeet e o.2.entry) ∨
      (p = 3 ∧ !hasFar s) ∨ keyState s tenant ≠ 1 then some .unsupported
  else if entryCount e = 0xFFFFFFFF ∨ memRange s < entryBase e + entryCount e * extentBytes ∨
      (p = pinNear ∧ obj s 0x3010 6 < pinnedBytes s + entryCount e * extentBytes) ∨
      (entryProt e = 2 ∧ entryCount e % 3 ≠ 0) then some .badLength
  else if !pairing s e peers then some .checkFail
  else none

/-- The extents of an object that a placement moves or fills: those to bring near or to another layout; and, for PIN_NEAR,
the number of ZERO extents that take frames. The demotions of a PIN_NEAR object's extents are given up first. -/
def placeMoves (s : State) (n : Nat) (pin : Bool) : State × List Nat × Nat :=
  match tget s.placed n with
  | none => (s, [], 0)
  | some o =>
    let first := extentOf (entryBase o.entry)
    let count := entryCount o.entry
    let s := if pin then (extentsIn s first count).foldl (fun s e => cancelDown e.1 s) s else s
    let held := extentsIn s first count
    let layout := (held.filter (fun e => e.2.st == .near && e.2.slice != entrySlice o.entry)).map (·.1)
    let far := if pin then (held.filter (fun e => e.2.st == .far || e.2.st == .movingUp)).map (·.1) else []
    (s, layout ++ far, if pin then count - held.length else 0)

/-- Every ZERO extent of an object takes a near frame of zeros (R176). -/
def fillObject (n : Nat) (s : State) : State :=
  match tget s.placed n with
  | none => s
  | some o => (List.range (entryCount o.entry)).foldl (fun s i =>
      let ext := extentOf (entryBase o.entry) + i
      if (extState s ext).isNone then makeNear ext s else s) s

/-- A placement with its moves and fills, if the granules that it needs are free (R184): those of its moves between layouts
and of the frames it fills. -/
def placeObject (n : Nat) (pin : Bool) (s : State) : Option (State × NSet) :=
  let (s, ups, zeros) := placeMoves s n pin
  let near := (ups.filter (fun x => extState s x == some .near)).length
  let slice := match tget s.placed n with | some o => entrySlice o.entry | none => none
  if framesOf s slice (near + zeros) then
    some (if pin then fillObject n s else s, ups.foldl (fun w x => sadd w (2 * x + 1)) [])
  else none

/-- The master's copy of a member's active entry follows it, 0 where it ends (R568): kept here at the master, else sent to it. -/
def copyEntry (n e : Nat) (s : State) : State :=
  if !formed s then s
  else if isMaster s then
    let k := 65536 * obj s 0x6010 3 + n
    { s with memberObjects := if e = 0 then terase s.memberObjects k else tset s.memberObjects k e }
  else emit (.member (Config.masterPackage (obj s 0x6010 1) % 4096) 13 n e) s

/-- ACTIVATE executes: the status, the state, and the moves to wait for. -/
def activate (b tenant : Nat) (peers : List Nat) (s : State) : Status × State × NSet :=
  let n := plObject b
  let at_ := obj s 0x3010 4 + 64 * n
  let e := readMem s at_ 64
  if anyBad s at_ 64 then (.poison, s, [])
  else match entryStatus s e tenant peers with
    | some st => (st, s, [])
    | none =>
      if entryCount e = 0 then (.ok, s, [])
      else
        let k := keyGeneration s tenant
        let s1 := (extentsIn s (extentOf (entryBase e)) (entryCount e)).foldl (fun s x =>
          if x.2.key = tenant ∧ x.2.keyGen = k then s else makeZero x.1 s) s
        let o : PObject := ⟨e, tenant, bits e 10 8, false, 0, peers⟩
        match placeObject n (bits e 10 8 == pinNear) { s1 with placed := tset s1.placed n o } with
        | some (s, w) => (.ok, copyEntry n e s, w)
        | none => (.badLength, raiseEvent 0x3010 8 0 s, [])

/-- SET_POLICY executes. -/
def setPolicyOf (b : Nat) (s : State) : Status × State × NSet :=
  let n := plObject b
  let p := plPolicy b
  if p = pinNear ∧ !pinFits s n then (.badLength, s, [])
  else
    let s1 : State := { s with placed := tmod s.placed n (fun o => { o with policy := p }) }
    if p = pinNear then
      match placeObject n true s1 with
      | some (s, w) => (.ok, s, w)
      | none => (.badLength, raiseEvent 0x3010 8 0 s, [])
    else (.ok, s1, [])

/-- MIGRATE executes: it passes over ZERO and LOST extents (R173). -/
def migrateOf (b : Nat) (s : State) : Status × State × NSet :=
  match tget s.placed (plObject b) with
  | none => (.unsupported, s, [])
  | some o =>
    let held := extentsIn s (extentOf (entryBase o.entry) + plFirst b) (plCount b)
    let w := (held.filter (fun e => if plToFar b then e.2.st == .near || e.2.st == .movingUp || e.2.st == .movingDown
      else e.2.st == .far || e.2.st == .movingUp || e.2.st == .movingDown)).map (fun e => 2 * e.1 + b2n (!plToFar b))
    (.ok, s, w)

/-! ## Shadows (R198 to R204) -/

/-- A template segment is well formed (R198 to R200). -/
def segOk (g : Nat) : Bool :=
  bits g 31 16 == 0 && bits g 7 4 == 0 &&
  (match segOp g with
    | 1 => segBytes g % 4 == 0
    | 2 => segBytes g % 4 == 0
    | 3 => match segSrc g, segDst g with
      | some fs, some fd => decide (fs.width < fd.width) && 8 * segBytes g % (32 * fd.width) == 0
      | _, _ => false
    | _ => false)

/-- A range or size of a descriptor is refused (R201 item 3). -/
def shadowTooBig (s : State) (d : Nat) : Bool :=
  let shift := bits d 7 4
  let sized := decide (shift ≤ 9)
  let map := ceilDiv (shUnitCount d) 8
  decide (8 < bits d 11 8) || shUnitCount d == 0xFFFFFFFF || (shSegs d).any (fun g => segBytes g == 0xFFFFFFFF) ||
  (sized && decide (shUnitBytes d < ((shSegs d).map segBytes).sum)) ||
  (match tget s.placed (shPrimary d) with
    | some o => sized && decide (entryCount o.entry * extentBytes < (shUnitFirst d + shUnitCount d) * shUnitBytes d)
    | none => false) ||
  (match tget s.placed (shObject d) with
    | some o => decide (entryCount o.entry * extentBytes < shStale d + map ∨
        entryCount o.entry * extentBytes < shUnit0 d + shUnitCount d * shUnitSize d)
    | none => false)

/-- Any other condition of R201 fails. -/
def shadowBroken (s : State) (d : Nat) : Bool :=
  let map := ceilDiv (shUnitCount d) 8
  bits d 3 0 != 1 || bits d 111 12 != 0 || bits d 511 304 != 0 || decide (9 < bits d 7 4) ||
  !(shSegs d).all segOk || ((shSegs d).map segBytes).sum != shUnitBytes d || shUnit0 d % 64 != 0 || shStale d % 64 != 0 ||
  overlap (shUnit0 d) (shUnitCount d * shUnitSize d) (shStale d) map ||
  (match tget s.placed (shPrimary d), tget s.placed (shObject d) with
    | some p, some o => p.policy == pinNear || o.policy != pinNear
    | _, _ => true) ||
  s.shadows.any (fun e => shPrimary e.2.desc == shPrimary d &&
    overlap (shUnitFirst d) (shUnitCount d) (shUnitFirst e.2.desc) (shUnitCount e.2.desc))

/-- The stale bits of `n` units from a unit upward change (R202): in a good line they are set or cleared; a poisoned line
stays as it is when they are set, and when they are cleared becomes good with every other bit set. -/
def markUnits (d first n : Nat) (set : Bool) (s : State) : State :=
  let base := shBase s d + shStale d
  let i0 := first - shUnitFirst d
  (if n = 0 then [] else linesOf (base + i0 / 8) ((i0 + n - 1) / 8 - i0 / 8 + 1)).foldl (fun s l =>
    let named := (List.range 512).map (fun j => decide (base + (i0 / 8) ≤ 64 * l + j / 8) &&
      (let i := (64 * l - base) * 8 + j
       decide (i0 ≤ i ∧ i < i0 + n)))
    let mask := named.foldr (fun x m => b2n x + 2 * m) 0
    let old := readMem s (64 * l) 64
    if poisoned s l then
      if set then s else writeLine l (2 ^ 512 - 1 - mask) s
    else storeBytes (64 * l) 64 (if set then old ||| mask else old - (old &&& mask)) s) s

/-- SHADOW_REGISTER executes. -/
def registerShadow (b tenant : Nat) (s : State) : Status × State × NSet :=
  let at_ := obj s 0x3010 5 + 128 * plShadow b
  let d := readMem s at_ 128
  let foreign (n : Nat) : Bool := match tget s.placed n with | some o => o.tenant != tenant | none => false
  if anyBad s at_ 128 then (.poison, s, [])
  else if foreign (shPrimary d) ∨ foreign (shObject d) then (.tenantBlocked, s, [])
  else if shadowTooBig s d then (.badLength, s, [])
  else if shUnitCount d = 0 ∨ bits d 11 8 = 0 then (.ok, s, [])
  else if shadowBroken s d then (.unsupported, s, [])
  else
    let s1 : State := { s with shadows := tset s.shadows (plShadow b) ⟨d, tenant⟩ }
    (.ok, markUnits d (shUnitFirst d) (shUnitCount d) true s1, [])

/-- SHADOW_VALIDATE executes. -/
def validateShadow (b : Nat) (s : State) : Status × State × NSet :=
  match tget s.shadows (plShadow b) with
  | none => (.unsupported, s, [])
  | some x => (.ok, markUnits x.desc (plFirst b) (plCount b) false s, [])

/-! ## Execution (R180) -/

/-- What a command does when it executes: its status, the state, the moves it waits for. -/
def runPlace (b tenant : Nat) (peers : List Nat) (s : State) : Status × State × NSet :=
  match placeChecks s b tenant with
  | some st => (st, s, [])
  | none =>
    match plOp b with
    | 1 => activate b tenant peers s
    | 2 => (.ok, copyEntry (plObject b) 0 { s with placed := terase s.placed (plObject b) }, [])
    | 3 => setPolicyOf b s
    | 4 => migrateOf b s
    | 5 => registerShadow b tenant s
    | 6 => (.ok, { s with shadows := terase s.shadows (plShadow b) }, [])
    | _ => validateShadow b s

/-- A substitution from a shadow is in flight (R204): a plain read that takes far lines from it waits for snoops of others. -/
def substituting (s : State) (n : Nat) : Bool :=
  match tget s.shadows n with
  | none => false
  | some x => s.openReqs.any (fun e => e.2.req.op == 0x01 && e.2.answer.isNone &&
      (linesOf e.2.req.hdr.offset (64 * e.2.req.hdr.length)).any (fun l => isFar s (extentOf (64 * l)) &&
        (match shadowAt s (64 * l) with | some (y, _) => y.desc == x.desc | none => false)))

/-- A command reaches execution, once every earlier command on its object or shadow has ended (R180, R185; log entry 50). -/
def doPlacementExecute (acc : Nat) (peers : List Nat) (s : State) : State :=
  match s.placeQ.find? (fun c => c.acc == acc && !c.executed) with
  | none => s
  | some c =>
    if s.placeQ.any (fun x => decide (x.acc < acc) && plNames x.req.body == plNames c.req.body) ∨
        (plOp c.req.body = 6 ∧ substituting s (plShadow c.req.body)) then s
    else
      let (st, s, w) := runPlace c.req.body c.req.hdr.tenant peers s
      if st = .ok then
        settlePlacement { s with placeQ := s.placeQ.map (fun x =>
          if x.acc = acc then { x with executed := true, waits := w } else x) }
      else settlePlacement (endPlace c st s)

/-- PLACEMENT_EXECUTE (R180). -/
def execPlacementExecute (acc : Nat) (peers : List Nat) (s : State) : Host.Outcome State Fault Refusal :=
  .next (doPlacementExecute acc peers s)

/-! ## The migration engine (R187 to R192) -/

/-- Extents left the near tier and not programmed to flash yet, and those leaving: at most 32 have room in staging. -/
def staging (s : State) : Nat := (s.extents.filter (fun e => e.2.staged || e.2.st == .movingDown)).length

/-- The flash dies that hold the shares are awake. -/
def flashAwake (s : State) : Bool := (List.range 4).all (fun f => !flashPresent s f || awake s (flashDom f))

/-- The flash dies are woken. -/
def wakeFlash (s : State) : State :=
  (List.range 4).foldl (fun s f => if flashPresent s f then wake (flashDom f) s else s) s

/-- A queued move can start but for the power of the flash dies. -/
def startable (s : State) (m : Move) : Bool :=
  m.started.isNone &&
  (if m.up then
    (if m.relayout then extState s m.extent == some .near else extState s m.extent == some .far) &&
      frameFree s (wantedLayout s m.extent)
  else extState s m.extent == some .near && hasFar s && farFree s && decide (staging s < 32))

/-- Moves in flight. -/
def inFlightMoves (s : State) : Nat := (s.moves.filter (fun m => m.started.isSome)).length

/-- The queued move that is served next: demand promotions in arrival order, then the placement moves in the order in which
their commands were accepted (R187). -/
def nextMove (s : State) : Option Move :=
  match s.moves.find? (fun m => m.demand && startable s m) with
  | some m => some m
  | none => (s.moves.filter (startable s)).foldl (fun (b : Option Move) m => match b with
      | none => some m
      | some x => if m.acc < x.acc then some m else some x) none

/-- The queue with the first move of an extent in a direction changed. -/
def modMove (ext : Nat) (up : Bool) (f : Move → Move) (s : State) : State :=
  { s with moves := s.moves.map (fun m => if m.extent = ext ∧ m.up = up then f m else m) }

/-- An extent that can be demoted to free granules that a layout needs. -/
def canDemote (s : State) (slice : Option Nat) : Bool :=
  hasFar s && s.extents.any (fun e => (e.2.st == .near || e.2.st == .movingDown) &&
    (e.2.slice.isNone || slice.isNone || e.2.slice == slice) &&
    (match objectAt s e.1 with | some (_, o) => o.policy != pinNear | none => true))

/-- A demand promotion that waits for granules nothing can free raises tier_event the first time (R187). -/
def granuleWait (ext : Nat) (s : State) : State :=
  match s.moves.find? (fun m => m.extent == ext && m.up && m.demand && m.started.isNone) with
  | some m =>
    let slice := wantedLayout s ext
    if !m.waited && !frameFree s slice && !canDemote s slice then
      raiseEvent 0x3010 8 0 (modMove ext true (fun m => { m with waited := true }) s)
    else s
  | none => s

/-- A promotion, or a move to another layout, starts when it is the next (R187, R190). -/
def doPromotionStart (ext : Nat) (s : State) : State :=
  let s := granuleWait ext s
  match nextMove s with
  | none => s
  | some m =>
    if m.extent ≠ ext ∨ !m.up ∨ 16 ≤ inFlightMoves s then s
    else if !m.relayout ∧ !flashAwake s then wakeFlash s
    else
      let slice := wantedLayout s ext
      let s := modMove ext true (fun m => { m with started := some s.time }) s
      if m.relayout then s
      else { s with extents := tmod s.extents ext (fun x => { x with st := .movingUp, slice := slice }) }

/-- PROMOTION_START (R187). -/
def execPromotionStart (extent : Nat) (s : State) : Host.Outcome State Fault Refusal := .next (doPromotionStart extent s)

/-- A promotion commits (R190, R192): lines that could not be read are poisoned. A move to another layout takes the lines out of
the store caches of the homes they leave. -/
def doPromotionCommit (ext : Nat) (unreadable : List Nat) (s : State) : State :=
  match s.moves.find? (fun m => m.extent == ext && m.up && m.started.isSome) with
  | none => s
  | some m =>
    let slice := wantedLayout s ext
    let s := { s with
      moves := s.moves.filter (fun x => x.extent != ext || !x.up),
      extents := tmod s.extents ext (fun x =>
        if m.relayout then { x with slice := slice } else { x with st := .near, staged := false, accessed := true, idle := 0 }) }
    let s := if m.relayout then flushStore (fun l => l / 32768 == ext) s else bump 0x3011 5 1 s
    let lost := if m.relayout then [] else unreadable.filter (fun l => l / 32768 == ext)
    let s := lost.foldl (fun s l => poisonLine s l) s
    settlePlacement (if lost.isEmpty then s else raiseEvent 0x3010 8 0 s)

/-- PROMOTION_COMMIT (R190). -/
def execPromotionCommit (extent : Nat) (unreadable : List Nat) (s : State) : Host.Outcome State Fault Refusal :=
  .next (doPromotionCommit extent unreadable s)

/-- The group of an extent for eviction (R188): 1 FAR_BACKED, 2 the others, none for PIN_NEAR. -/
def evictGroup (s : State) (ext : Nat) : Option Nat :=
  match objectAt s ext with
  | some (_, o) => if o.policy = pinNear then none else if o.policy = 3 then some 1 else some 2
  | none => some 2

/-- Over how many sweeps of the clock hand an extent's access bit has stayed clear. -/
def idleOf (x : Extent) : Nat := if x.accessed then 0 else x.idle + 1

/-- The NEAR extents of a group. -/
def nearGroup (s : State) (g : Nat) : Tab Extent := s.extents.filter (fun e => e.2.st == .near && evictGroup s e.1 == some g)

/-- An extent may be evicted (R176, R188): the near frames are short, or its object is FAR_BACKED; in group order, and
the access bit clear over the most sweeps. -/
def evictable (s : State) (ext : Nat) : Bool :=
  match evictGroup s ext with
  | none => false
  | some g =>
    extState s ext == some .near && hasFar s && farFree s && decide (staging s < 32) &&
    !s.moves.any (fun m => m.extent == ext) &&
    (g == 1 || (decide (nearFree s < obj s 0x3010 7) && (nearGroup s 1).isEmpty)) &&
    (match tget s.extents ext with | some x => (nearGroup s g).all (fun e => decide (idleOf e.2 ≤ idleOf x)) | none => false) &&
    (nextMove s).isNone && decide ((s.moves.filter (fun m => !m.demand)).length < 3840)

/-- The clock hand passes over the NEAR extents; the spec gives its pace not, so it passes at every eviction (DESIGN CHOICE, log
entry 61). -/
def sweep (s : State) : State :=
  { s with extents := s.extents.map (fun e =>
      if e.2.st = .near then (e.1, { e.2 with accessed := false, idle := idleOf e.2 }) else e) }

/-- A demotion starts: a queued one that is next, or an eviction (R188, R191). -/
def doDemotionStart (ext : Nat) (s : State) : State :=
  if 16 ≤ inFlightMoves s then s
  else
    let queued : Bool := match nextMove s with | some m => m.extent == ext && !m.up | none => false
    if !queued && !evictable s ext then s
    else if !flashAwake s then wakeFlash s
    else
      let s := if queued then modMove ext false (fun m => { m with started := some s.time }) s
        else
          let s := sweep s
          { s with moves := s.moves ++ [⟨ext, false, false, false, some s.time, false, 0⟩] }
      { s with extents := tmod s.extents ext (fun x => { x with st := .movingDown }) }

/-- DEMOTION_START (R188). -/
def execDemotionStart (extent : Nat) (s : State) : Host.Outcome State Fault Refusal := .next (doDemotionStart extent s)

/-- The lines of an extent with a directory entry, or a snoop in flight. -/
def heldLines (s : State) (ext : Nat) : List Nat := (s.dir.map (·.1)).filter (fun l => l / 32768 == ext)

/-- A demotion commits (R191) once the writes accepted before are over and the directory entries over the extent are
recalled (R345): its lines are written back and leave the store cache. -/
def doDemotionCommit (ext : Nat) (s : State) : State :=
  if extState s ext ≠ some .movingDown ∨
      s.openReqs.any (fun e => e.2.answer.isNone && (touched e.2.req).any (fun r => (extentsOf r.1 r.2).contains ext)) then s
  else
    let held := heldLines s ext
    let s := held.foldl (fun s l => if s.recalls.contains l then s else recallLine l s) s
    if (heldLines s ext).isEmpty ∧ !s.snoops.any (fun x => x.2.line / 32768 == ext) then
      settlePlacement (bump 0x3011 6 1 { flushStore (fun l => l / 32768 == ext) s with
        moves := s.moves.filter (fun m => m.extent != ext || m.up),
        extents := tmod s.extents ext (fun x => { x with st := .far, staged := true }) })
    else s

/-- DEMOTION_COMMIT (R191). -/
def execDemotionCommit (extent : Nat) (s : State) : Host.Outcome State Fault Refusal := .next (doDemotionCommit extent s)

/-- STAGING_PROGRAMMED (R554): the extent is in flash. After the trigger of a reset it counts no more (R553). -/
def execStagingProgrammed (extent : Nat) (s : State) : Host.Outcome State Fault Refusal :=
  .next (if flashAwake s ∧ undisturbed s then
    { s with extents := tmod s.extents extent (fun x => { x with staged := false }) } else s)

/-- The copies of an object's writes are not acknowledged (R208): they complete with OK, and the object is DEGRADED. -/
def doProtectionTimeout (n : Nat) (s : State) : State :=
  match tget s.placed n with
  | none => s
  | some o =>
    if o.unacked = 0 ∨ o.degraded then s
    else settle (copiesDone n (raiseEvent 0x3010 8 0 (bump 0x3011 7 o.unacked
      { s with placed := tset s.placed n { o with degraded := true, unacked := 0 } })))

/-- PROTECTION_ACK_TIMEOUT (R208): `txn` names the object whose write waits. -/
def execProtectionAckTimeout (txn : Nat) (s : State) : Host.Outcome State Fault Refusal := .next (doProtectionTimeout txn s)

/-! ## Objects (R209, R210) -/

/-- TIER_COUNTERS_CLEAR. -/
def execTierCountersClear (d : DapMsg) (s : State) : Host.Outcome State Fault Refusal :=
  .next (clearObj d 0x3011 8 (clearObjs 0x3011 [1, 2, 3, 4, 5, 6, 7]) s)

/-- A write of obj_table_base. -/
def doObjTableBase (c : Ctx) (s : State) : State :=
  if !s.placed.isEmpty then fin c .defer 0 s
  else if c.value % 64 ≠ 0 ∨ memRange s < c.value + 2 ^ 22 then finBad c s
  else applied c (setObj 0x3010 4 c.value) s

/-- A write of shadow_table_base. -/
def doShadowTableBase (c : Ctx) (s : State) : State :=
  if !s.shadows.isEmpty then fin c .defer 0 s
  else if c.value % 128 ≠ 0 ∨ memRange s < c.value + 2 ^ 19 then finBad c s
  else applied c (setObj 0x3010 5 c.value) s

/-- A write of pin_limit_bytes. -/
def doPinLimit (c : Ctx) (s : State) : State :=
  if c.value < pinnedBytes s ∨ 260096 * extentBytes < c.value + obj s 0x3010 7 * extentBytes then fin c .badLength 0 s
  else if c.value % extentBytes ≠ 0 then finBad c s
  else applied c (setObj 0x3010 6 c.value) s

end Sys2Proof.Machine
end

