-- ==== Sys2Proof/Machine/Stream.lean ====
section
/-! DEFINITION. Compressed streams: tables, their slots, and stream READs through the link expanders (chapter 6). -/

namespace Sys2Proof.Machine

/-! ## Fields of a stream operation (R226) -/

def stOp (b : Nat) : Nat := bits b 7 0
def stSlot (b : Nat) : Nat := bits b 82 80
def stCount (b : Nat) : Nat := bits b 127 96
def stOffset (b : Nat) : Nat := bits b 175 128
def stLength (b : Nat) : Nat := bits b 223 192
def stKey (b : Nat) : Nat := bits b 255 224
def stDest (b : Nat) : Nat := bits b 315 256
def stValue (b : Nat) : Nat := bits b 383 320

/-- Reserved fields and the operation. -/
def stBad (op b : Nat) : Bool :=
  bits b 511 384 != 0 || bits b 319 316 != 0 || bits b 191 176 != 0 || bits b 95 83 != 0 || bits b 15 9 != 0 || stOp b != op ||
  (match op with
    | 2 => bits b 315 192 != 0 || bits b 127 96 != 0
    | 3 => bits b 315 96 != 0
    | _ => false)

/-- A record, where it is enabled, has its place. -/
def stRecordOk (s : State) (b : Nat) : Bool := !bit b 8 || recordAt s (bits b 79 32) 32

/-! ## Coding tables (R216, R217) -/

def imgLog (img : Nat) : Nat := bits img 35 32
def imgCrc (img : Nat) : Nat := bits img 95 64
def imgCounts (img : Nat) : List Nat := (List.range 256).map (fun k => bits img (512 + 16 * k + 15) (512 + 16 * k))

/-- The check of a table image (R223), but for poison. -/
def tableStatus (img : Nat) : Status :=
  if bits img 15 0 ≠ 1 ∨ imgLog img < 9 ∨ 12 < imgLog img ∨ bits img 511 96 ≠ 0 ∨ bits img 63 36 ≠ 0 ∨ bits img 31 16 ≠ 0 then
    .unsupported
  else if crc32c 512 (img >>> 512) ≠ imgCrc img ∨ (imgCounts img).sum ≠ 2 ^ imgLog img then .checkFail
  else .ok

/-- An entry of a decode table: symbol, bits to read, base (R217). -/
structure AnsEntry where
  sym : Nat
  nbits : Nat
  base : Nat
  deriving DecidableEq, Repr

/-- The symbols by position in the order in which the spread gives them. -/
def spread (step l : Nat) : List Nat → Nat → Nat → Tab Nat → Tab Nat
  | [], _, _, t => t
  | n :: ns, k, pos, t =>
    let t := (List.range n).foldl (fun t i => tset t ((pos + i * step) % l) k) t
    spread step l ns (k + 1) ((pos + n * step) % l) t

/-- The decode table of an image, by state (R219). -/
def decodeTable (img : Nat) : Tab AnsEntry :=
  let t := imgLog img
  let l := 2 ^ t
  let sym := spread (l / 2 + l / 8 + 3) l (imgCounts img) 0 0 []
  let next : Tab Nat := ((List.range 256).zip (imgCounts img)).foldl (fun m p => tset m p.1 p.2) []
  ((List.range l).foldl (fun (a : Tab AnsEntry × Tab Nat) x =>
    let c := tgetD sym x 0
    let v := tgetD a.2 c 0
    let nb := t - Nat.log2 v
    (tset a.1 x ⟨c, nb, v * 2 ^ nb - l⟩, tset a.2 c (v + 1))) ([], next)).1

/-- The decode of R218 from symbol `i` on: `n` symbols to go, the four states, the bits read, what is decoded so far. -/
def ansRun (table : Tab AnsEntry) (payload total : Nat) : Nat → Nat → List Nat → Nat → List Nat → Option (List Nat × Nat)
  | 0, _, _, b, out => some (out.reverse, b)
  | n + 1, i, states, b, out =>
    match tget table (states[i % 4]?.getD 0) with
    | none => none
    | some e =>
      if i < 4092 then
        if 8 * total < b + e.nbits then none
        else
          let r := bits (payload >>> b) (e.nbits - 1) 0
          let r := if e.nbits = 0 then 0 else r
          ansRun table payload total n (i + 1) (states.set (i % 4) (e.base + r)) (b + e.nbits) (e.sym :: out)
      else ansRun table payload total n (i + 1) states b (e.sym :: out)

/-- An ANS payload of `n` bytes: its 4,096 bytes; none when it fails its check (R218). -/
def ansDecode (img n payload : Nat) : Option Nat :=
  let t := imgLog img
  if 8 * n < 4 * t then none
  else
    let states := (List.range 4).map (fun k => bits payload (t * k + t - 1) (t * k))
    match ansRun (decodeTable img) payload n 4096 0 states (4 * t) [] with
    | none => none
    | some (out, b) =>
      if n = ceilDiv b 8 ∧ payload >>> b = 0 then some (ofBytes (out.map (BitVec.ofNat 8))) else none

/-! ## The records of stream operations (R231) -/

/-- The end of an operation: its record, the counts and events of records that are written (R236), and its signal: on an object of the destination's package
for a READ, of this one otherwise. -/
def endStream (p : Posted) (acc : Nat) (st : Status) (slot gen done : Nat) (s : State) : State :=
  let b := p.req.body
  let read := stOp b == 1
  let rec_ := statusCode st + stOp b * 2 ^ 8 + slot * 2 ^ 16 + gen * 2 ^ 32 + elapsed s p.at_ * 2 ^ 64 + done % 2 ^ 32 * 2 ^ 96
    + acc % 2 ^ 64 * 2 ^ 128 + s.time % 2 ^ 64 * 2 ^ 192
  let written := bit b 8
  let s := if read ∧ written then bump 0x7043 1 1 s else s
  let s := if st = .checkFail ∧ written then bump 0x7043 4 1 s else if st = .badLength then bump 0x7043 5 1 s
    else if st = .poison ∧ written then bump 0x7043 6 1 s else s
  let s := if stOp b ≠ 3 ∧ written ∧ (st = .checkFail ∨ st = .poison) then raiseEvent 0x7040 4 0 s else s
  let s := endPosted p.req acc (bit b 8) (bits b 79 32) 32 rec_ (bit b 31 && !read) (bits b 30 16) (stValue b) s
  if read ∧ bit b 31 then oweRemote acc (stDest b / 2 ^ 48) (bits b 30 16) (stValue b) p.req s else s

/-! ## Slots (R221 to R224) -/

/-- The image of a LOADING slot is read and checked: far lines are waited for; a failing image ends the INSTALL (R222). -/
def readImage (k : Nat) (s : State) : State :=
  let t := slotAt s k
  match t.job with
  | none => s
  | some (acc, p) =>
    if t.st ≠ 1 ∨ t.image.isSome then s
    else
      let fail (st : Status) (s : State) : State :=
        endStream p acc st k 0 0 (setSlot k (fun t => { t with st := 0, image := none, job := none }) s)
      match fetchHere acc (stOffset p.req.body) 576 s with
      | .wait s => s
      | .got .ok v s =>
        if tableStatus v = .ok then setSlot k (fun t => { t with image := some v }) s else fail (tableStatus v) s
      | .got st _ s => fail st s

/-- An INSTALL at step 12 (R223). -/
def doInstall (rq : Req) (s : State) : State :=
  let b := rq.body
  let k := stSlot b
  let t := slotAt s k
  if !stRecordOk s b ∨ stOffset b % 64 ≠ 0 ∨ t.st ≠ 0 ∨ t.gen = 0xFFFFFFFF then complete rq .unsupported 0 s
  else if memRange s < stOffset b + 576 then complete rq .badLength 0 s
  else
    let (acc, s) := nextAcc s
    let p : Posted := ⟨rq, s.time⟩
    readImage k (setSlot k (fun t => { t with st := 1, tenant := rq.hdr.tenant, image := none, queued := 0, job := some (acc, p) })
      (complete rq .ok acc s))

/-- A RETIRE at step 12 (R222, R223). -/
def doSlotRetire (rq : Req) (s : State) : State :=
  let b := rq.body
  let k := stSlot b
  let t := slotAt s k
  if !stRecordOk s b ∨ t.st ≠ 2 then complete rq .unsupported 0 s
  else if t.tenant ≠ rq.hdr.tenant then complete rq .tenantBlocked 0 s
  else
    let (acc, s) := nextAcc s
    let p : Posted := ⟨rq, s.time⟩
    let s := complete rq .ok acc s
    if t.queued = 0 then endStream p acc .ok k 0 0 (setSlot k (fun t => { t with st := 0, image := none }) s)
    else setSlot k (fun t => { t with st := 3, job := some (acc, p) }) s

/-- A STREAM command is served; `badBody` and the homes that it reads at acceptance. -/
def serveStream (op : Nat) (h : Hdr) (body : Nat) (act : Req → State → State) (s : State) : State :=
  let homes := if op = 1 ∧ stOffset body + 64 ≤ memRange s then (homesOf s (stOffset body) 64).map homeDom else []
  serve ⟨0x16, h, body, 0, [], false⟩ (postedChecks (stBad op body) none false false homes) 64 64 act s

/-- INSTALL (R223). -/
def execTableInstall (h : Hdr) (body : Nat) (s : State) : Host.Outcome State Fault Refusal :=
  .next (serveStream 2 h body doInstall s)

/-- RETIRE (R222). -/
def execTableSlotRetire (h : Hdr) (body : Nat) (s : State) : Host.Outcome State Fault Refusal :=
  .next (serveStream 3 h body doSlotRetire s)

/-- All expanders have built the table (R222): the slot is VALID with its next generation. -/
def doInstallBuilt (k : Nat) (s : State) : State :=
  let s := readImage k s
  let t := slotAt s k
  match t.image, t.job with
  | some v, some (acc, p) =>
    if t.st ≠ 1 then s
    else endStream p acc .ok k (t.gen + 1) 0
      (setSlot k (fun t => { t with st := 2, gen := t.gen + 1, crc := imgCrc v, queued := 0, job := none }) s)
  | _, _ => s

/-- TABLE_INSTALL_BUILT (R222). -/
def execTableInstallBuilt (slot : Nat) (s : State) : Host.Outcome State Fault Refusal := .next (doInstallBuilt slot s)

/-- The last block of a RETIRING slot is gone (R222). -/
def doQueuedZero (k : Nat) (s : State) : State :=
  let t := slotAt s k
  match t.job with
  | none => s
  | some (acc, p) =>
    if t.st ≠ 3 ∨ t.queued ≠ 0 then s
    else endStream p acc .ok k 0 0 (setSlot k (fun t => { t with st := 0, image := none, job := none }) s)

/-- SLOT_QUEUED_ZERO (R222). -/
def execSlotQueuedZero (slot : Nat) (s : State) : Host.Outcome State Fault Refusal := .next (doQueuedZero slot s)

/-! ## Stream READs: acceptance (R228) -/

/-- The bytes of the head and the block map together, up to block 0 (R211). -/
def blocksAt (n : Nat) : Nat := 64 + ceilDiv (8 * n) 64 * 64

/-- Fields of a head (R212). -/
def headCount (v : Nat) : Nat := bits v 95 64
def headBytes (v : Nat) : Nat := bits v 175 128

/-- Steps 5 and 6 of R228 on a head at an offset. -/
def headStatus (s : State) (b v : Nat) : Status :=
  if bits v 31 0 ≠ 0x4D525453 then .badLength
  else if bits v 47 32 ≠ 1 ∨ bits v 63 48 ≠ 0 ∨ bits v 127 96 ≠ 0 ∨ bits v 191 176 ≠ 0 ∨ bits v 511 256 ≠ 0 then .unsupported
  else if crc32c 28 v ≠ bits v 255 224 then .checkFail
  else if headCount v = 0xFFFFFFFF ∨ headBytes v = 2 ^ 48 - 1 ∨ headCount v < stCount b ∨
      memRange s < stOffset b + blocksAt (headCount v) + headBytes v then .badLength
  else .ok

/-- A refusal of a READ by its lengths is counted. -/
def refuseStream (rq : Req) (st : Status) (s : State) : State :=
  complete rq st 0 (if st = .badLength then bump 0x7043 5 1 s else s)

/-- A READ at step 12. -/
def doStreamRead (rq : Req) (s : State) : State :=
  let b := rq.body
  let off := stOffset b
  let foreign : Bool := match objectAt s (extentOf off) with | some (_, o) => o.tenant != rq.hdr.tenant | none => false
  if !stRecordOk s b ∨ stDest b / 2 ^ 48 = pkgNo s ∨ off % 64 ≠ 0 ∨ stDest b % 64 ≠ 0 then complete rq .unsupported 0 s
  else if off < memRange s ∧ foreign then complete rq .tenantBlocked 0 s
  else if stCount b = 0xFFFFFFFF ∨ stLength b = 0xFFFFFFFF ∨ stLength b < 4096 * stCount b ∨ memRange s < off + 64 then
    refuseStream rq .badLength s
  else if !(farExtents s off 64).isEmpty then farDefer rq off 64 s
  else if anyBad s off 64 then complete rq .poison 0 s
  else match headStatus s b (readMem s off 64) with
    | .ok =>
      if stCount b = 0 then complete rq .ok 0 s
      else if 256 ≤ s.streams.length then deferReq rq 1 s
      else
        let (acc, s) := nextAcc s
        complete rq .ok acc { s with streams := tset s.streams acc ⟨⟨rq, s.time⟩, none, 0, 0, none⟩ }
    | st => refuseStream rq st s

/-- STREAM_READ (R228). -/
def execStreamRead (h : Hdr) (body : Nat) (s : State) : Host.Outcome State Fault Refusal :=
  .next (serveStream 1 h body doStreamRead s)

/-! ## The block map (R213, R215, R229) -/

def mapEntry (map n : Nat) : Nat := bits map (64 * n + 63) (64 * n)
def enLen (e : Nat) : Nat := bits e 15 0
def enSlot (e : Nat) : Nat := bits e 18 16
def enKind (e : Nat) : Nat := bits e 29 28
def enGen (e : Nat) : Nat := bits e 63 32

/-- The span of a block (R211). -/
def span (e : Nat) : Nat := ceilDiv (16 + enLen e) 64 * 64

/-- A payload length is accepted for a kind (R215). -/
def lenOk (e : Nat) : Bool :=
  enLen e == 0 || (match enKind e with | 0 => decide (enLen e ≤ 4096) | 1 => enLen e == 4096 | _ => enLen e == 1)

/-- Reserved fields and the kind of an entry (R213). -/
def entryBad (e : Nat) : Bool :=
  bits e 31 30 != 0 || bits e 27 19 != 0 || enKind e == 3

/-- Step 5 of R229 for a block: its failing status. -/
def pinStatus (s : State) (tenant e : Nat) : Option Status :=
  if enLen e = 0 ∨ enKind e ≠ 0 then none
  else
    let t := slotAt s (enSlot e)
    if t.st ≠ 0 ∧ t.tenant ≠ tenant then some .tenantBlocked
    else if t.st ≠ 2 ∨ t.gen ≠ enGen e then some .checkFail
    else none

/-- What the map check finds: the failing status with its slot and generation. -/
def mapStatus (s : State) (tenant head map n : Nat) : Option (Status × Nat × Nat) :=
  let es := (List.range (headCount head)).map (mapEntry map)
  let total := (es.map span).sum
  if crc32c (8 * headCount head) map ≠ bits head 223 192 then some (.checkFail, 0, 0)
  else if es.any entryBad then some (.unsupported, 0, 0)
  else if es.any (fun e => !lenOk e) ∨ headBytes head < total then some (.badLength, 0, 0)
  else if total < headBytes head then some (.checkFail, 0, 0)
  else match (es.take n).find? (fun e => (pinStatus s tenant e).isSome) with
    | some e =>
      let st := (pinStatus s tenant e).getD .checkFail
      some (st, enSlot e, if st = .checkFail then enGen e else 0)
    | none => none

/-- A READ's blocks from `n` to its last count in their slots, or leave them. -/
def pinBlocks (map first n : Nat) (pin : Bool) (s : State) : State :=
  (List.range n).foldl (fun s i =>
    let e := mapEntry map (first + i)
    if enLen e = 0 ∨ enKind e ≠ 0 then s
    else setSlot (enSlot e) (fun t => { t with queued := if pin then t.queued + 1 else t.queued - 1 }) s) s

/-- A READ as it is changed. -/
def setStream (acc : Nat) (f : StreamRead → StreamRead) (s : State) : State := { s with streams := tmod s.streams acc f }

/-- The map of a READ is read and checked (R229); the head is read with it again. -/
def doMapCheck (acc : Nat) (s : State) : State :=
  match tget s.streams acc with
  | none => s
  | some x =>
    let b := x.posted.req.body
    let n := headCount (readMem s (stOffset b) 64)
    if x.map.isSome ∨ x.fail.isSome then s
    else match fetchHere acc (stOffset b) (64 + 8 * n) s with
      | .wait s => s
      | .got .ok v s =>
        let map := v >>> 512
        (match mapStatus s x.posted.req.hdr.tenant (v % 2 ^ 512) map (stCount b) with
          | some f => setStream acc (fun x => { x with fail := some f }) s
          | none => setStream acc (fun x => { x with map := some map, at_ := stOffset b + blocksAt n })
              (pinBlocks map 0 (stCount b) true s))
      | .got st _ s => setStream acc (fun x => { x with fail := some (st, 0, 0) }) s

/-- STREAM_MAP_CHECK (R229). -/
def execStreamMapCheck (acc : Nat) (s : State) : Host.Outcome State Fault Refusal := .next (doMapCheck acc s)

/-! ## Blocks (R230, R231) -/

/-- The 4,096 bytes of a block whose header and payload these are; none when it fails (R230). -/
def blockBytesOf (s : State) (e n v : Nat) : Option Nat :=
  let payload := bits v (128 + 8 * enLen e - 1) 128
  if bits v 63 0 ≠ e ∨ bits v 95 64 ≠ n % 2 ^ 32 ∨ crc32c (enLen e) payload ≠ bits v 127 96 then none
  else match enKind e with
    | 0 => (slotAt s (enSlot e)).image.bind (fun img => ansDecode img (enLen e) payload)
    | 1 => some payload
    | _ => some (payload % 256 * ((2 ^ 32768 - 1) / 255))

/-- The next block of a READ is decoded and written, or ends it. -/
def doBlockWrite (acc : Nat) (ack : Status) (s : State) : State :=
  match tget s.streams acc with
  | none => s
  | some x =>
    let b := x.posted.req.body
    match x.map, x.fail with
    | some map, none =>
      if stCount b ≤ x.next then s
      else
        let e := mapEntry map x.next
        let fail (st : Status) (s : State) : State :=
          pinBlocks map x.next (stCount b - x.next) false
            (setStream acc (fun x => { x with fail := some (st, enSlot e, if st = .checkFail then enGen e else 0) }) s)
        let step (s : State) : State := setStream acc (fun x => { x with next := x.next + 1, at_ := x.at_ + span e }) s
        if enLen e = 0 then step s
        else
          let dest := stDest b + 4096 * x.next
          match pathLink s dest with
          | none => fail .internal s
          | some k =>
            if !awake s (quadDom k) then wake (quadDom k) s
            else match fetchHere acc x.at_ (span e) s with
              | .wait s => s
              | .got .ok v s =>
                (match blockBytesOf s e x.next v with
                  | none => fail .checkFail s
                  | some data =>
                    let s := emit (.streamWrite k dest 4096 data (stKey b) x.posted.req.hdr.tenant x.posted.req.hdr.cls)
                      (sendFlits k x.posted.req.hdr.cls 4120 (meterOut x.posted.req.hdr.requester 4096 s))
                    if ack ≠ .ok then fail ack s
                    else bump 0x7043 3 4096 (bump 0x7043 2 1 (step (pinBlocks map x.next 1 false s))))
              | .got st _ s => fail st s
    | _, _ => s

/-- STREAM_BLOCK_WRITE (R230). -/
def execStreamBlockWrite (acc : Nat) (ack : Status) (s : State) : Host.Outcome State Fault Refusal :=
  .next (doBlockWrite acc ack s)

/-- A READ is over: its record and its signal (R231). -/
def doStreamComplete (acc : Nat) (s : State) : State :=
  match tget s.streams acc with
  | none => s
  | some x =>
    let left : State := { s with streams := terase s.streams acc }
    match x.fail with
    | some (st, slot, gen) => endStream x.posted acc st slot gen x.next left
    | none => if x.map.isSome ∧ stCount x.posted.req.body ≤ x.next then endStream x.posted acc .ok 0 0 x.next left else s

/-- STREAM_READ_COMPLETE (R231). -/
def execStreamReadComplete (acc : Nat) (s : State) : Host.Outcome State Fault Refusal := .next (doStreamComplete acc s)

/-! ## Objects (R236) -/

/-- The status word of a slot (R225). -/
def slotWord (s : State) (k : Nat) : Nat :=
  let t := slotAt s k
  min t.queued (2 ^ 30 - 1) + t.st * 2 ^ 30 + t.gen * 2 ^ 32

/-- The tenant of a slot; 0xFFFF when it is FREE. -/
def slotTenant (s : State) (k : Nat) : Nat := if (slotAt s k).st = 0 then 0xFFFF else (slotAt s k).tenant

/-- STREAM_COUNTERS_CLEAR. -/
def execStreamCountersClear (d : DapMsg) (s : State) : Host.Outcome State Fault Refusal :=
  .next (clearObj d 0x7043 7 (clearObjs 0x7043 [1, 2, 3, 4, 5, 6]) s)

end Sys2Proof.Machine
end

