-- ==== Sys2Proof/Machine/Oryx.lean ====
section
/-! DEFINITION. The Oryx embedding engine: tables and their versions, requests and their row operations, row migration
(chapter 7). -/

namespace Sys2Proof.Machine

/-! ## Descriptors and records (R237, R238) -/

def odFmt (d : Nat) : Nat := bits d 11 8
def odOpt (d : Nat) : Nat := bits d 14 12
def odDomain (d : Nat) : Bool := bit d 15
def odRowBytes (d : Nat) : Nat := bits d 31 16
def odRows (d : Nat) : Nat := bits d 95 64
def odBase (d : Nat) : Nat := bits d 159 112
def odBeta1 (d : Nat) : Nat := bits d 191 160
def odBeta2 (d : Nat) : Nat := bits d 223 192
def odEps (d : Nat) : Nat := bits d 255 224
def odDecay (d : Nat) : Nat := bits d 287 256

/-- Bits of an element; 32 where the code is undefined. -/
def odWidth (d : Nat) : Nat := match odFmt d with | 1 => 16 | 2 => 16 | 4 => 8 | _ => 32

/-- Elements of a row. -/
def odElems (d : Nat) : Nat := 8 * odRowBytes d / odWidth d

/-- Bytes of the optimiser state of a row. -/
def odState (d : Nat) : Nat := match odOpt d with | 2 => 4 * odElems d | 3 => 4 | 4 => 8 * odElems d | _ => 0

/-- record_bytes, and the records of a shard. -/
def odRecord (d : Nat) : Nat := up64 (16 + odRowBytes d + odState d)
def odPerShard (d : Nat) : Nat := 2097152 / odRecord d

/-- Shards of a table. -/
def odShards (d : Nat) : Nat := ceilDiv (odRows d) (odPerShard d)

/-- The offset of a row's record. -/
def rowAt (d r : Nat) : Nat := odBase d + r / odPerShard d * 2097152 + r % odPerShard d * odRecord d

/-- The table lies in one active object of a tenant whose policy is not STREAM. -/
def odPlaced (s : State) (d tenant : Nat) : Bool :=
  s.placed.any (fun p => p.2.tenant == tenant && p.2.policy != 4 && decide (entryBase p.2.entry ≤ odBase d ∧
    odBase d + odShards d * 2097152 ≤ entryBase p.2.entry + entryCount p.2.entry * extentBytes))

/-- The checks of a descriptor (R239). -/
def odStatus (s : State) (d tenant : Nat) : Status :=
  let n := odRowBytes d
  let f := odFmt d
  if bits d 7 0 ≠ 1 ∨ bits d 1023 288 ≠ 0 ∨ bits d 111 96 ≠ 0 ∨ bits d 63 32 ≠ 0 ∨ 4 < odOpt d ∨
      ¬(f = 0 ∨ f = 1 ∨ f = 2 ∨ f = 4) ∨ (1 ≤ n ∧ n ≤ 4096 ∧ n % 32 ≠ 0) ∨ (odOpt d ≠ 0 ∧ f = 4) ∨
      odBase d % 2097152 ≠ 0 ∨ !odPlaced s d tenant then .unsupported
  else if 4096 < n ∨ odRows d = 0xFFFFFFFF ∨ memRange s < odBase d + odShards d * 2097152 then .badLength
  else .ok

/-! ## Fields of a request (R244) -/

def orOp (b : Nat) : Nat := bits b 7 0
def orTable (b : Nat) : Nat := bits b 17 8
def orCount (b : Nat) : Nat := bits b 32 20
def orSub (b : Nat) : Nat := bits b 35 33
def orFlag (b : Nat) : Bool := bit b 36
def orBags (b : Nat) : Nat := bits b 49 37
def orIndex (b : Nat) : Nat := bits b 123 64
def orIndexKey (b : Nat) : Nat := bits b 159 128
def orData (b : Nat) : Nat := bits b 219 160
def orDataKey (b : Nat) : Nat := bits b 255 224
def orOut (b : Nat) : Nat := bits b 315 256
def orOutKey (b : Nat) : Nat := bits b 351 320
def orRate (b : Nat) : Nat := bits b 399 368
def orLength (b : Nat) : Nat := bits b 431 400
def orTag (b : Nat) : Nat := bits b 511 448

/-- Reserved fields and alignments (R7, R244, R245), for the operation that a body names: a field that the operation does not
use and the layout says is zero counts as reserved. -/
def orBad (b : Nat) : Bool :=
  let op := orOp b
  bits b 447 432 != 0 || bits b 319 316 != 0 || bits b 223 220 != 0 || bits b 127 124 != 0 || bits b 63 50 != 0 ||
  bits b 19 18 != 0 || orOut b % 64 != 0 || orIndex b % 64 != 0 || (op != 4 && orRate b != 0) ||
  (if op = 6 then bits b 219 208 != 0 || orCount b != 0 || orBags b != 0 || orIndex b != 0
    else if op = 1 ∨ op = 5 then orData b != 0 else orData b % 64 != 0)

/-- The codes of a request are not those of an operation (R245, R246 step 1). -/
def orCodes (op b : Nat) : Bool :=
  orOp b != op || (orFlag b && op != 3 && op != 4) ||
  (match op with
    | 2 => decide (2 < orSub b)
    | 6 => decide (2 < orSub b)
    | _ => orSub b != 0)

/-! ## Slots, versions, results -/

def otable (s : State) (k : Nat) : OTable := tgetD s.otables k OTable.zero
def setOtable (k : Nat) (f : OTable → OTable) (s : State) : State := { s with otables := tset s.otables k (f (otable s k)) }

/-- The descriptor of a version of a slot. -/
def odOf (s : State) (k v : Nat) : Nat := tgetD (otable s k).versions v 0

/-- Requests of a version in flight. -/
def versionBound (s : State) (k v : Nat) : Nat :=
  (s.oreqs.filter (fun e => orTable e.2.posted.req.body == k && e.2.version == v && orOp e.2.posted.req.body != 6)).length

/-- Requests accepted and not complete (R246, R264): TABLE operations that wait for a version to be freed among them. -/
def oryxInFlight (s : State) : Nat := s.oreqs.length + (s.otables.map (fun e => e.2.jobs.length)).sum

/-- oryx_event. -/
def oryxEvent (s : State) : State := raiseEvent 0x8010 9 0 s

/-- The result header of a request (R249). -/
def oryxHeader (s : State) (b version : Nat) (st : Status) (done range deleted fwd : Nat) : Nat :=
  orOp b + statusCode st * 2 ^ 8 + orTable b * 2 ^ 16 + version % 2 ^ 32 * 2 ^ 32 + done * 2 ^ 64 + range * 2 ^ 96
    + deleted * 2 ^ 128 + fwd * 2 ^ 160 + s.time % 2 ^ 64 * 2 ^ 192 + orTag b * 2 ^ 256

/-- A result header is written, and out_sync signalled unless a write was refused, which raises oryx_event (R249). -/
def writeHeader (rq : Req) (acc v : Nat) (refused : Bool) (ack : Status) (s : State) : State :=
  let b := rq.body
  let (st, s) := fabricStore acc rq (orOut b) 64 v (orOutKey b) s
  let st := if orOut b / 2 ^ 48 = pkgNo s then st else ack
  if st ≠ .ok then oryxEvent s
  else if bit b 367 && !refused then attnSignal acc (orOut b / 2 ^ 48) (bits b 366 352) 1 rq s
  else s

/-- A TABLE operation is over; its result header is to be written (R240). -/
def endTable (p : Posted) (acc : Nat) (st : Status) (version : Nat) (s : State) : State :=
  { s with oreqs := tset s.oreqs acc ⟨p, version, none, false, 0, 0, 0, 0, 0, [], 0, false, st, true, false, none⟩ }

/-! ## Requests at step 12 (R241, R246) -/

/-- The bytes that a request writes. -/
def orBytes (s : State) (b : Nat) : Nat :=
  let d := odOf s (orTable b) (otable s (orTable b)).current
  match orOp b with
  | 1 => 64 + orCount b * odRowBytes d
  | 2 => 64 + orBags b * (4 * odElems d)
  | _ => 64

/-- A count that no list may have (R246). -/
def countOver (n : Nat) : Bool := decide (4096 < n)

/-- A GATHER, POOL, SCATTER, UPDATE or DELETE. -/
def doRows (rq : Req) (s : State) : State :=
  let b := rq.body
  let k := orTable b
  let t := otable s k
  let d := odOf s k t.current
  if ¬(t.st = 1 ∨ t.st = 2) ∨ (orOp b = 4 ∧ odOpt d = 0) then complete rq .unsupported 0 s
  else if t.tenant ≠ rq.hdr.tenant then complete rq .tenantBlocked 0 s
  else if countOver (orCount b) ∨ countOver (orBags b) ∨ orLength b = 0xFFFFFFFF ∨ orLength b < orBytes s b then
    complete rq .badLength 0 s
  else if orCount b = 0 ∨ (orOp b = 2 ∧ orBags b = 0) then complete rq .ok 0 s
  else if 1024 ≤ oryxInFlight s then deferReq rq 1 s
  else
    let (acc, s) := nextAcc s
    let x : OReq := ⟨⟨rq, s.time⟩, t.current, none, false, 0, 0, 0, 0, 0, [], 0, false, .ok, false, false, none⟩
    complete rq .ok acc { s with oreqs := tset s.oreqs acc x }

/-- A row that has not left its home for good gives up its move; a forwarded one starts to return (R261). -/
def returnRow (f : Forward) : Forward := if f.st = 3 then { f with st := 4 } else f

/-- The forwarded rows of a version start to return. -/
def returnVersion (k v : Nat) (s : State) : State :=
  { s with forwards := (s.forwards.filter (fun f => !(f.row.slot == k && f.row.version == v && f.st == 0))).map (fun f =>
      if f.row.slot = k ∧ f.row.version = v then returnRow f else f) }

/-- A TABLE operation: ACTIVATE, REPLACE, DEACTIVATE (R240, R241). -/
def doTable (rq : Req) (s : State) : State :=
  let b := rq.body
  let k := orTable b
  let t := otable s k
  let off := bits b 207 160
  if (if orSub b = 0 then t.st ≠ 0 else t.st = 0 ∨ t.st = 3) then complete rq .unsupported 0 s
  else if orSub b ≠ 0 ∧ t.tenant ≠ rq.hdr.tenant then complete rq .tenantBlocked 0 s
  else if orLength b = 0xFFFFFFFF ∨ orLength b < 64 ∨ (orSub b ≠ 2 ∧ memRange s < off + 128) then complete rq .badLength 0 s
  else if 1024 ≤ oryxInFlight s ∨ (orSub b = 1 ∧ t.st = 2) then deferReq rq 1 s
  else
    let d := readMem s off 128
    let st := if anyBad s off 128 then .poison else odStatus s d rq.hdr.tenant
    if orSub b ≠ 2 ∧ st = .ok ∧ (odRowBytes d = 0 ∨ odRows d = 0) then complete rq .ok 0 s
    else
    let (acc, s) := nextAcc s
    let s := complete rq .ok acc s
    let p : Posted := ⟨rq, s.time⟩
    if orSub b = 2 then
      (t.versions.map (·.1)).foldl (fun s v => returnVersion k v s)
        (setOtable k (fun t => { t with st := 3, jobs := t.jobs ++ [(acc, p)] }) s)
    else
      if st ≠ .ok then endTable p acc st t.current s
      else
        let v := t.last + 1
        let s := setOtable k (fun t => { t with
          st := if orSub b = 0 then 1 else 2, tenant := rq.hdr.tenant, last := v, current := v, versions := tset t.versions v d }) s
        if orSub b = 0 then endTable p acc .ok v s
        else setOtable k (fun t => { t with jobs := t.jobs ++ [(acc, p)] }) s

/-- A GATHER command is served; its target is the coordinating engine's home (R256). Codes that are not those of the
operation are refused after the checks of R41 (R246). -/
def serveOryx (op : Nat) (bad : Nat → Bool) (h : Hdr) (body : Nat) (act : Req → State → State) (s : State) : State :=
  serve ⟨0x11, h, body, 0, [], false⟩ (postedChecks (orBad body) none false false [homeDom (orTable body % 8)]) 64 64
    (fun rq s => if orCodes op body || bad body then complete rq .unsupported 0 s else act rq s) s

/-- GATHER (R251). -/
def execGather (h : Hdr) (body : Nat) (s : State) : Host.Outcome State Fault Refusal :=
  .next (serveOryx 1 (fun _ => false) h body doRows s)
/-- POOL (R252). -/
def execPool (h : Hdr) (body : Nat) (s : State) : Host.Outcome State Fault Refusal :=
  .next (serveOryx 2 (fun _ => false) h body doRows s)
/-- SCATTER (R255). -/
def execScatter (h : Hdr) (body : Nat) (s : State) : Host.Outcome State Fault Refusal :=
  .next (serveOryx 3 (fun _ => false) h body doRows s)
/-- UPDATE (R253). -/
def execUpdate (h : Hdr) (body : Nat) (s : State) : Host.Outcome State Fault Refusal :=
  .next (serveOryx 4 (fun _ => false) h body doRows s)
/-- DELETE (R255). -/
def execOryxDelete (h : Hdr) (body : Nat) (s : State) : Host.Outcome State Fault Refusal :=
  .next (serveOryx 5 (fun _ => false) h body doRows s)
/-- TABLE ACTIVATE (R240). -/
def execTableActivate (h : Hdr) (body : Nat) (s : State) : Host.Outcome State Fault Refusal :=
  .next (serveOryx 6 (fun b => orSub b != 0) h body doTable s)
/-- TABLE REPLACE (R240). -/
def execTableReplace (h : Hdr) (body : Nat) (s : State) : Host.Outcome State Fault Refusal :=
  .next (serveOryx 6 (fun b => orSub b != 1) h body doTable s)
/-- TABLE DEACTIVATE (R240). -/
def execTableDeactivate (h : Hdr) (body : Nat) (s : State) : Host.Outcome State Fault Refusal :=
  .next (serveOryx 6 (fun b => orSub b != 2) h body doTable s)

/-! ## Lists (R247) -/

def setOreq (acc : Nat) (f : OReq → OReq) (s : State) : State := { s with oreqs := tmod s.oreqs acc f }

/-- A request ends with a status; entries done stand. -/
def endRows (acc : Nat) (st : Status) (s : State) : State := setOreq acc (fun x => { x with ended := true, status := st }) s

/-- Data that came from a shadow makes the request's status OK_SUBST (R14). -/
def substituted (acc : Nat) (st : Status) (s : State) : State :=
  if st = .okSubst then setOreq acc (fun x => { x with status := if x.status = .ok then .okSubst else x.status }) s else s

/-- Entry `i` of a list of U32. -/
def u32 (v i : Nat) : Nat := bits v (32 * i + 31) (32 * i)

/-- The check of a bag list: a bag end beyond the indices, ends that fall, a last end below them. -/
def bagStatus (ends : List Nat) (count : Nat) : Status :=
  if ends.any (fun e => decide (count < e)) then .badLength
  else if !(List.zip ends ends.tail).all (fun p => decide (p.1 ≤ p.2)) ∨ ends.getLast?.getD 0 < count then .unsupported
  else .ok

/-- The lists of a request are read and checked. -/
def readLists (acc : Nat) (idx bags : Remote) (x : OReq) (s : State) : State :=
  let b := x.posted.req.body
  let s := setOreq acc (fun x => { x with retry := false }) s
  let failed (st : Status) (s : State) : State :=
    if st = .defer then setOreq acc (fun x => { x with retry := true }) s else endRows acc st s
  match fetch acc x.posted.req (orIndex b) (4 * orCount b) (orIndexKey b) idx s with
  | .wait s => s
  | .got st v s =>
    if !usable st then failed st s
    else if orOp b ≠ 2 then substituted acc st (setOreq acc (fun x => { x with lists := some (v, 0) }) s)
    else
      match fetch acc x.posted.req (orData b) (4 * orBags b) (orDataKey b) bags s with
      | .wait s => s
      | .got st' w s =>
        if !usable st' then failed st' s
        else
          let bad := bagStatus ((List.range (orBags b)).map (u32 w)) (orCount b)
          if bad ≠ .ok then endRows acc bad s
          else substituted acc st (substituted acc st' (setOreq acc (fun x => { x with lists := some (v, w) }) s))

/-- The lists of a request that has none yet are read. -/
def doListRead (acc : Nat) (again : Bool) (idx bags : Remote) (s : State) : State :=
  match tget s.oreqs acc with
  | none => s
  | some x => if x.ended ∨ x.lists.isSome ∨ x.retry ≠ again then s else readLists acc idx bags x s

/-- ORYX_LIST_READ (R247). -/
def execOryxListRead (acc : Nat) (idx bags : Remote) (s : State) : Host.Outcome State Fault Refusal :=
  .next (doListRead acc false idx bags s)

/-- LIST_READ_REISSUE (R247). -/
def execListReadReissue (acc : Nat) (idx bags : Remote) (s : State) : Host.Outcome State Fault Refusal :=
  .next (doListRead acc true idx bags s)

/-! ## Rows as numbers (R252, R253) -/

/-- binary32 helpers over codes. -/
def sub32 (a b : Nat) : Nat := enc32 ((fp32.decode a).add (fp32.decode b).neg)
def sqrtOf (a : Nat) : Nat := specialValue .sqrt a 0
def nat32 (n : Nat) : Nat := enc32 (.fin false n 0)

/-- The elements of a row as binary32 codes, converted exactly. -/
def rowValues (d v : Nat) : List Nat :=
  match fmtOf (odFmt d) with
  | none => []
  | some f => (List.range (odElems d)).map (fun i => if odFmt d = 0 then elem 32 v i else enc32 (f.decode (elem f.width v i)))

/-- binary32 codes written back in the row format, overflow to infinity (R253). -/
def packRow (d : Nat) (ws : List Nat) : Nat :=
  match fmtOf (odFmt d) with
  | none => 0
  | some f => packCodes f.width (ws.map (fun w => if odFmt d = 0 then w else (convFloat f 0 rne (fp32.decode w)).code))

/-- binary32 values of a state array. -/
def codes32 (v n : Nat) : List Nat := (List.range n).map (elem 32 v)

/-- An exact sum or product of values, rounded once to binary32: the lines of R253. -/
def once (v : Fv) : Nat := enc32 v

/-- One update of a row: step count, row and state before, gradients, learning rate; and after (R253, R262). Each line rounds once;
the results of log2, exp2, sqrt and divide are binary32 values of R77, and what they are applied to is not rounded. -/
def updateRow (d steps row state : Nat) (gs : List Nat) (eta : Nat) : Nat × Nat × Nat :=
  let e := odElems d
  let w := rowValues d row
  let at_ (xs : List Nat) (i : Nat) : Nat := xs[i]?.getD 0
  let val (c : Nat) : Fv := fp32.decode c
  let ix := List.range e
  let g := ix.map (fun i => fma32 (odDecay d) (at_ w i) (at_ gs i))
  match odOpt d with
  | 1 => (steps, packRow d (ix.map (fun i => fma32 (neg32 eta) (at_ g i) (at_ w i))), state)
  | 2 =>
    let u := ix.map (fun i => fma32 (odBeta1 d) (at_ (codes32 state e) i) (at_ g i))
    (steps, packRow d (ix.map (fun i => fma32 (neg32 eta) (at_ u i) (at_ w i))), packCodes 32 u)
  | 3 =>
    let sum := g.foldl (fun acc x => fma32 x x acc) 0
    let a := add32 (elem 32 state 0) (specialValue .divide sum (nat32 e))
    let den := add32 (sqrtOf a) (odEps d)
    (steps, packRow d (ix.map (fun i => fma32 (neg32 eta) (specialValue .divide (at_ g i) den) (at_ w i))), a)
  | 4 =>
    let t := satInc 32 steps 1
    let one : Fv := .fin false 1 0
    let c (beta : Nat) : Nat :=
      once (one.add (val (specialOf .exp2 ((val (nat32 t)).mul (val (specialValue .log2 beta 0))) (.fin false 0 0))).neg)
    let c1 := c (odBeta1 d)
    let c2 := c (odBeta2 d)
    let part (beta gi : Nat) : Fv := (one.add (val beta).neg).mul (val gi)
    let m := ix.map (fun i => once (((val (odBeta1 d)).mul (val (at_ (codes32 state e) i))).add (part (odBeta1 d) (at_ g i))))
    let v := ix.map (fun i => once (((val (odBeta2 d)).mul (val (at_ (codes32 state (2 * e)) (e + i)))).add
      ((part (odBeta2 d) (at_ g i)).mul (val (at_ g i)))))
    (t, packRow d (ix.map (fun i =>
      let den := (val (sqrtOf (specialValue .divide (at_ v i) c2))).add (val (odEps d))
      fma32 (neg32 eta) (specialOf .divide (val (specialValue .divide (at_ m i) c1)) den) (at_ w i))), packCodes 32 (m ++ v))
  | _ => (steps, row, state)

/-! ## Row operations (R248 to R257) -/

/-- Where a row's operations are served (R261). -/
inductive RowPlace where
  | here (off : Nat) (forwarded : Bool)
  | away (f : Forward)
  | held
  | lost
  deriving DecidableEq, Repr

/-- The migration record of a row. -/
def forwardOf (s : State) (r : RowRef) : Option Forward := s.forwards.find? (fun f => f.row == r)

/-- The place of a row. -/
def placeOf (s : State) (d : Nat) (r : RowRef) : RowPlace :=
  match forwardOf s r with
  | none => .here (rowAt d r.row) false
  | some f => match f.st with
    | 0 => .here (rowAt d r.row) false
    | 1 => .here (rowAt d r.row) false
    | 3 => if f.pkg = pkgNo s then .here f.at_ true else .away f
    | 5 => .lost
    | _ => .held

/-- An operation is counted for its shard and, when forwarded, its row; one in 16 is sampled (R260). -/
def countRow (home : Nat) (d : Nat) (r : RowRef) (s : State) : State :=
  let sh := r.row / odPerShard d
  let sample := s.rowOps % 16 == 0
  let same (x : ShardLoad) : Bool := x.home == home && x.slot == r.slot && x.version == r.version && x.shard == sh
  let up (x : ShardLoad) : ShardLoad :=
    { x with ops := x.ops + 1, rows := if sample then tset x.rows r.row (tgetD x.rows r.row 0 + 1) else x.rows }
  { s with
    rowOps := s.rowOps + 1
    shards := if s.shards.any same then s.shards.map (fun x => if same x then up x else x)
      else s.shards ++ [up ⟨home, r.slot, r.version, sh, 0, []⟩]
    forwards := s.forwards.map (fun f => if f.row = r then { f with ops := f.ops + 1 } else f) }

/-- A write of a row marks a copy in progress (R261). -/
def markDirty (r : RowRef) (s : State) : State :=
  { s with forwards := s.forwards.map (fun f => if f.row = r ∧ f.st = 1 then { f with dirty := true } else f) }

/-- The outcome of an entry. -/
inductive RowOut where
  | done | range | deleted | poison
  deriving DecidableEq, Repr

/-- What an operation on a record does: the outcome of its entry, the row it read, and whether it wrote the record. -/
structure RowDone where
  out : RowOut
  row : Nat
  wrote : Bool
  deriving DecidableEq, Repr

/-- An operation on a record that stands in this package (R248, R251 to R255): `v` is the row that a SCATTER writes, or the
gradients of an UPDATE; `later`: an equal index before it brought them. `id` numbers what the record is read for. -/
def rowHere (id : Nat) (rq : Req) (d v off : Nat) (later : Bool) (s : State) : RowDone × State :=
  let b := rq.body
  let n := odRowBytes d
  let mem := view id s
  let head := readMem mem off 16
  let row := readMem mem (off + 16) n
  let s := unpeek id s
  match orOp b with
  | 3 =>
    let full := orFlag b
    let v' := if full then (v % 2 ^ (8 * n)) * 2 ^ 128 else (head - head % 2) + (v % 2 ^ (8 * n)) * 2 ^ 128
    if !full && lineBad mem (off / 64) then (⟨.poison, 0, false⟩, s)
    else
      let (st, s) := engineWrite rq off (if full then odRecord d else 16 + n) v' s
      (⟨if st = .ok then .done else .poison, 0, st == .ok⟩, s)
  | 4 =>
    if bit head 0 then (⟨.deleted, 0, false⟩, s)
    else if anyBad mem off (odRecord d) then (⟨.poison, 0, false⟩, s)
    else if later then (⟨.done, 0, false⟩, bump 0x8013 2 1 s)
    else
      let (steps, row', state') := updateRow d (bits head 63 32) row (readMem mem (off + 16 + n) (odState d))
        (codes32 v (odElems d)) (orRate b)
      let head' := setBits head 63 32 steps
      let (_, s) := engineWrite rq off (16 + n + odState d)
        (head' + row' % 2 ^ (8 * n) * 2 ^ 128 + state' * 2 ^ (128 + 8 * n)) s
      (⟨.done, 0, true⟩, bump 0x8013 2 1 s)
  | 5 =>
    if bit head 0 then (⟨.done, 0, false⟩, s)
    else
      let (st, s) := engineWrite rq off 16 (head + 1) s
      (⟨if st = .ok then .done else .poison, 0, st == .ok⟩, s)
  | _ =>
    if bit head 0 then (⟨.deleted, 0, false⟩, s)
    else (⟨if anyBad mem off (16 + n) then .poison else .done, row, false⟩, bump 0x8013 1 1 s)

/-- An output of a request is written (R249, R251, R252). A first line that the output before it left poisoned stays so, and
the rest is written. `ack` is what another package acknowledges it with. -/
def putOutput (acc : Nat) (address n v : Nat) (bad : Bool) (ack : Status) (s : State) : Status × State :=
  match tget s.oreqs acc with
  | none => (.ok, s)
  | some x =>
    let skip := if x.spoiled = some (address / 64) then min n ((64 - address % 64) % 64) else 0
    let s := if bad then setOreq acc (fun x => { x with spoiled := some ((address + n - 1) / 64) }) s else s
    let (st, s) := if n = skip then (.ok, s)
      else fabricPut acc x.posted.req (address + skip) (n - skip) (v / 2 ^ (8 * skip)) (orOutKey x.posted.req.body) bad s
    (if address / 2 ^ 48 = pkgNo s then st else ack, s)

/-- A refused write to out_address ends a request (R249). -/
def refuseOutput (acc : Nat) (st : Status) (s : State) : State :=
  if st = .ok then s
  else oryxEvent (setOreq acc (fun x => { x with refused := true, ended := true, status := st }) s)

/-- The bags that end before entry `i` are written (R252); `acks` answers for them from bag `first` on. -/
def closeBags (d : Nat) (acc : Nat) (i : Nat) (acks : List Status) (first : Nat) : Nat → State → State
  | 0, s => s
  | n + 1, s =>
    match tget s.oreqs acc with
    | none => s
    | some x =>
      let b := x.posted.req.body
      let ends := match x.lists with | some l => l.2 | none => 0
      if x.ended ∨ orBags b ≤ x.bag ∨ i < u32 ends x.bag then s
      else
        let zero := List.replicate (odElems d) 0
        let vs := if x.taken = 0 then zero
          else if orSub b = 1 then x.sum.map (fun a => specialValue .divide a (nat32 x.taken)) else x.sum
        let (st, s) := putOutput acc (orOut b + 64 + x.bag * (4 * odElems d)) (4 * odElems d) (packCodes 32 vs) x.bad
          ((acks[x.bag - first]?).getD .ok) s
        let s := setOreq acc (fun x => { x with bag := x.bag + 1, sum := [], taken := 0, bad := false }) s
        if st = .ok then closeBags d acc i acks first n s else refuseOutput acc st s

/-- The output of an entry's outcome (R251, R252). -/
def rowOutput (acc d i : Nat) (out : RowOut) (row : Nat) (ack : Status) (s : State) : State :=
  match tget s.oreqs acc with
  | none => s
  | some x =>
    let b := x.posted.req.body
    let n := odRowBytes d
    if orOp b = 1 then
      let keep := out == .done || out == .poison
      let (st, s) := putOutput acc (orOut b + 64 + i * n) n (if keep then row else 0) (out == .poison) ack s
      refuseOutput acc st s
    else if orOp b = 2 then
      match out with
      | .done => setOreq acc (fun x =>
          let vs := rowValues d row
          { x with
            taken := x.taken + 1
            sum := if x.taken = 0 then (if orSub b = 2 then vs else vs.map (add32 0))
              else List.zipWith (if orSub b = 2 then max32 else add32) x.sum vs }) s
      | .poison => setOreq acc (fun x =>
          { x with taken := x.taken + 1, bad := true, sum := if x.taken = 0 then List.replicate (odElems d) 0 else x.sum }) s
      | _ => s
    else s

/-- An entry is over: its counts, its output, and the end of the request after the last. -/
def finishEntry (acc d i : Nat) (out : RowOut) (row : Nat) (fwd : Bool) (acks : List Status) (s : State) : State :=
  match tget s.oreqs acc with
  | none => s
  | some x =>
    let b := x.posted.req.body
    let k := 0x8100 + orTable b
    let s := match out with
      | .range => bump k 4 1 (setOreq acc (fun x => { x with droppedRange := x.droppedRange + 1 }) s)
      | .deleted => bump k 5 1 (setOreq acc (fun x => { x with droppedDeleted := x.droppedDeleted + 1 }) s)
      | .poison =>
        let s := setOreq acc (fun x => { x with status := .poison }) s
        if 3 ≤ orOp b then bump k 7 1 s else s
      | .done => s
    let s := setOreq acc (fun x => { x with forwarded := x.forwarded + b2n fwd }) s
    let s := rowOutput acc d i out row ((acks[0]?).getD .ok) s
    let s := setOreq acc (fun x => { x with done := x.done + 1, ended := x.ended || decide (orCount b ≤ x.done + 1) }) s
    if orOp b = 2 then
      match tget s.oreqs acc with
      | some y =>
        if y.refused then s
        else
          let s := setOreq acc (fun x => { x with ended := false }) s
          let s := closeBags d acc (i + 1) acks x.bag (orBags b) s
          setOreq acc (fun x => { x with ended := x.ended || decide (orCount b ≤ x.done) }) s
      | none => s
    else s

/-- The row of entry `i` of a request. -/
def rowOf (x : OReq) (i : Nat) : RowRef :=
  ⟨orTable x.posted.req.body, x.version, u32 (match x.lists with | some l => l.1 | none => 0) i, x.posted.req.hdr.package⟩

/-- An earlier request of the table still has row operations to dispatch (R256, R257): they come first (log entry 63). -/
def tableBehind (s : State) (acc k : Nat) : Bool :=
  s.oreqs.any (fun e => decide (e.1 < acc) && !e.2.ended && orTable e.2.posted.req.body == k)

/-- A record cannot be accessed yet: its home is woken, its extent is promoted (R195, R258), the agents that own its lines are
asked for them (R335). -/
def recordWait (id off n : Nat) (s : State) : Option State :=
  match (homesOf s off n).find? (fun h => !awake s (homeDom h)) with
  | some h => some (wake (homeDom h) s)
  | none =>
    if !(farExtents s off n).isEmpty then some (engineFar (farExtents s off n) s)
    else peekWait id (linesOf off n) s

/-- The operation that another home of the domain is sent for a forwarded row, and its answer. -/
abbrev msgRowOp : Nat := 7
abbrev msgRowAnswer : Nat := 14

/-- The data of one entry of a SCATTER or an UPDATE, `k` behind the next: read where it stands, in another package with the
answer that came for it (R250). -/
def entryFetch (acc : Nat) (x : OReq) (d : Nat) (data : List Remote) (k : Nat) (s : State) : Fetched :=
  let b := x.posted.req.body
  let one := if orOp b = 3 then odRowBytes d else 4 * odElems d
  match data[k]? with
  | none =>
    if orData b / 2 ^ 48 ≠ pkgNo s then .wait s
    else fetch acc x.posted.req (orData b + (x.done + k) * one) one (orDataKey b) ⟨.ok, 0⟩ s
  | some r => fetch acc x.posted.req (orData b + (x.done + k) * one) one (orDataKey b) r s

/-- Gradients are added to those of the next entry, over the entries `ks` behind it: those of equal indices, in list order, up
to the first entry whose data is refused (R250, R254). -/
def sumEntries (acc : Nat) (x : OReq) (d idx : Nat) (data : List Remote) : List Nat → List Nat → State → Fetched
  | [], g, s => .got .ok (packCodes 32 g) s
  | k :: ks, g, s =>
    match entryFetch acc x d data k s with
    | .wait s => .wait s
    | .got st v s =>
      if usable st then
        sumEntries acc x d idx data ks
          (if u32 idx (x.done + k) = u32 idx x.done then List.zipWith add32 g (codes32 v (odElems d)) else g)
          (substituted acc st s)
      else .got .ok (packCodes 32 g) s

/-- An equal index stands before an entry of an UPDATE that sums them (R254). -/
def laterEqual (b idx i : Nat) : Bool :=
  orOp b == 4 && orFlag b && (List.range i).any (fun j => u32 idx j == u32 idx i)

/-- What a SCATTER or an UPDATE brings for its next entry: the row, or the gradients, summed over equal indices where the
request says so (R244, R250, R254). -/
def entryData (acc : Nat) (x : OReq) (d idx : Nat) (data : List Remote) (s : State) : Fetched :=
  let b := x.posted.req.body
  if ¬(orOp b = 3 ∨ orOp b = 4) then .got .ok 0 s
  else match entryFetch acc x d data 0 s with
    | .wait s => .wait s
    | .got st v s =>
      let s := substituted acc st s
      if !usable st then .got st v s
      else if orOp b = 4 ∧ orFlag b ∧ !laterEqual b idx x.done then
        let last := (List.range (orCount b)).foldl (fun m j => if x.done < j ∧ u32 idx j = u32 idx x.done then j else m) x.done
        sumEntries acc x d idx data ((List.range (last - x.done)).map (· + 1)) (codes32 v (odElems d)) s
      else .got .ok v s

/-- What a row's place in another package answers (R261): POISON, or the row's header and data, whose deleted bit drops the
entry (R248). -/
def awayOut (op : Nat) (answer : Remote) : RowOut :=
  if answer.status ≠ .ok then .poison else if bit answer.data 0 ∧ op ≠ 3 ∧ op ≠ 5 then .deleted else .done

/-- An entry with its data `v` is performed where its row stands (R250, R257). -/
def placeRow (acc : Nat) (x : OReq) (d idx v : Nat) (answer : Remote) (acks : List Status) (s : State) : State :=
  let b := x.posted.req.body
  let rq := x.posted.req
  let r := rowOf x x.done
  let home := rowAt d r.row
  match placeOf s d r with
  | .held => s
  | .lost =>
    if orOp b = 3 ∧ orFlag b then
      match recordWait acc home (odRecord d) s with
      | some s => s
      | none =>
        let (o, s) := rowHere acc rq d v home false s
        finishEntry acc d x.done o.out o.row false acks { s with forwards := s.forwards.filter (fun f => f.row != r) }
    else finishEntry acc d x.done .poison 0 false acks s
  | .here off fwd =>
    match recordWait acc off (odRecord d) s with
    | some s => s
    | none =>
      let (o, s) := rowHere acc rq d v off (laterEqual b idx x.done) (countRow (homeOf s home) d r s)
      finishEntry acc d x.done o.out o.row fwd acks (if o.wrote then markDirty r s else s)
  | .away f =>
    let s := countRow (homeOf s home) d r s
    let s := if laterEqual b idx x.done then s
      else emit (.member f.pkg msgRowOp (r.slot * 2 ^ 32 + r.row) (orOp b + v * 256)) s
    let out := awayOut (orOp b) answer
    let s := if orOp b ≤ 2 ∧ out ≠ .deleted then bump 0x8013 1 1 s
      else if orOp b = 4 ∧ out = .done then bump 0x8013 2 1 s else s
    finishEntry acc d x.done out (bits answer.data (8 * odRowBytes d + 127) 128) true acks s

/-- A row of another package's table that lives here. -/
def guestOf (s : State) (r : RowRef) : Option HotGuest := s.guests.find? (fun g => g.row == r)

/-- What a row is read for when it moves, or is served for another package. -/
def rowId (r : RowRef) : Nat := 2 ^ 70 + ((r.home * 2 ^ 10 + r.slot) * 2 ^ 32 + r.version % 2 ^ 32) * 2 ^ 32 + r.row

/-- The request that a table's engines access records as. -/
def rowReq (tenant : Nat) : Req := ⟨0x11, ⟨.link 0, 1, 0, 0, tenant, 0, 0, 0, 0, 0, 0⟩, 0, 0, [], false⟩

/-- An operation that a row's home forwards to this package, where the row lives (R261): performed under the lock, and answered
with the header and the data of the row as they stood. -/
def serveGuest (c : RowCall) (s : State) : State :=
  match guestOf s c.row with
  | none => s
  | some g =>
    if !g.locked then s
    else match recordWait (rowId c.row) g.at_ (odRecord g.desc) s with
      | some s => s
      | none =>
        let was := readMem (view (rowId c.row) s) g.at_ (16 + odRowBytes g.desc)
        let r := rowHere (rowId c.row) { rowReq g.tenant with body := c.body } g.desc c.value g.at_ false s
        emit (.member c.row.home msgRowAnswer (c.row.slot * 2 ^ 32 + c.row.row)
          (statusCode (if r.1.out = .poison then .poison else .ok) + was * 256)) r.2

/-- One row operation (R250, R256, R257). -/
def nextRow (acc : Nat) (data : List Remote) (answer : Remote) (acks : List Status) (s : State) : State :=
  match tget s.oreqs acc with
  | none => s
  | some x =>
    let b := x.posted.req.body
    let d := odOf s (orTable b) x.version
    if x.ended ∨ x.lists.isNone ∨ tableBehind s acc (orTable b) then s
    else
      let idx := match x.lists with | some l => l.1 | none => 0
      match entryData acc x d idx data (if orOp b = 2 then closeBags d acc x.done acks x.bag (orBags b) s else s) with
      | .wait s => s
      | .got .ok v s =>
        if odRows d ≤ (rowOf x x.done).row then finishEntry acc d x.done .range 0 false acks s
        else placeRow acc x d idx v answer acks s
      | .got st _ s => endRows acc st s

/-- One row operation: of a request of this package, or forwarded to it. -/
def doRowOperation (acc : Nat) (data : List Remote) (answer : Remote) (acks : List Status) (guest : Option RowCall) (s : State) :
    State :=
  match guest with
  | some c => serveGuest c s
  | none => nextRow acc data answer acks s

/-- ORYX_ROW_OPERATION (R257). -/
def execOryxRowOperation (acc : Nat) (input : RowInput) (s : State) : Host.Outcome State Fault Refusal :=
  .next (doRowOperation acc input.data input.answer input.acks input.guest s)

/-- A request is over: its header and its signal (R249). -/
def doResultHeader (acc : Nat) (ack : Status) (s : State) : State :=
  match tget s.oreqs acc with
  | none => s
  | some x =>
    if !x.ended ∨ writeStalled s acc then s
    else
      let s := { s with oreqs := terase s.oreqs acc }
      writeHeader x.posted.req acc (oryxHeader s x.posted.req.body x.version x.status x.done x.droppedRange x.droppedDeleted
        x.forwarded) x.refused ack s

/-- ORYX_RESULT_HEADER (R249). -/
def execOryxResultHeader (acc : Nat) (ack : Status) (s : State) : Host.Outcome State Fault Refusal :=
  .next (doResultHeader acc ack s)

/-- The versions that a slot is to free: the retiring ones, or all of them. -/
def retiringOf (t : OTable) : List Nat :=
  if t.st = 3 then t.versions.map (·.1) else (t.versions.map (·.1)).filter (fun v => v != t.current)

/-- A version that no request is bound to gives up its rows that are forwarded; once none is left it is freed, and the
headers that waited for it are written (R240, R243). -/
def doVersionFreed (k : Nat) (s : State) : State :=
  let t := otable s k
  let vs := retiringOf t
  if ¬(t.st = 2 ∨ t.st = 3) ∨ vs.any (fun v => decide (0 < versionBound s k v)) then s
  else
    let s := vs.foldl (fun s v => returnVersion k v s) s
    if s.forwards.any (fun f => f.row.slot == k && vs.contains f.row.version && f.st != 5) then s
    else
      let s := { s with forwards := s.forwards.filter (fun f => !(f.row.slot == k && vs.contains f.row.version)) }
      let s := setOtable k (fun t => { t with
        st := if t.st = 3 then 0 else 1, versions := t.versions.filter (fun e => !vs.contains e.1), jobs := [] }) s
      oryxEvent (t.jobs.foldl (fun s j => endTable j.2 j.1 .ok t.current s) s)

/-- TABLE_VERSION_FREED (R243). -/
def execTableVersionFreed (slot : Nat) (s : State) : Host.Outcome State Fault Refusal := .next (doVersionFreed slot s)

/-! ## Row migration (R260 to R263) -/

/-- Messages to another package's engine: a slot is asked for, a record is copied, a commit, a return. -/
abbrev msgSlot : Nat := 4
abbrev msgCommit : Nat := 5
abbrev msgReturn : Nat := 6

/-- The bytes of the records in a hot area of this package, and whether another fits. -/
def hotUsed (s : State) (slice : Nat) : Nat :=
  ((s.forwards.filter (fun f => f.pkg == pkgNo s && f.slice == slice && f.st != 5)).map (fun f =>
    odRecord (odOf s f.row.slot f.row.version))).sum
    + ((s.guests.filter (fun g => g.slice == slice)).map (fun g => odRecord g.desc)).sum
def hotRoom (s : State) (slice d : Nat) : Bool := decide (hotUsed s slice + odRecord d ≤ obj s 0x8012 (slice + 1))

/-- The better target of two: lower utilisation, then package, then slice. -/
def betterLoad (a b : EngineLoad) : Bool :=
  decide (a.utilisation < b.utilisation ∨ (a.utilisation = b.utilisation ∧
    (a.pkg < b.pkg ∨ (a.pkg = b.pkg ∧ a.slice < b.slice))))

/-- The target of a row of a home (R260). -/
def rowTarget (s : State) (utils : List EngineLoad) (home d : Nat) : Option EngineLoad :=
  match utils.find? (fun u => u.pkg == pkgNo s && u.slice == home) with
  | none => none
  | some src =>
    (utils.filter (fun u => u != src && decide (u.utilisation + 250 ≤ src.utilisation) &&
      (if u.pkg = pkgNo s then hotRoom s u.slice d
        else odDomain d && formed s && !u.draining && decide (odRecord d ≤ u.space)))).foldl
      (fun (m : Option EngineLoad) u => match m with
        | none => some u
        | some x => if betterLoad u x then some u else some x) none

/-- The home of a migrating row. -/
def forwardHome (s : State) (f : Forward) : Nat := homeOf s (rowAt (odOf s f.row.slot f.row.version) f.row.row)

/-- A hot row is to move, or cannot (R260). -/
def startRow (utils : List EngineLoad) (home : Nat) (r : RowRef) (s : State) : State :=
  let d := odOf s r.slot r.version
  let mine := s.forwards.filter (fun f => forwardHome s f == home)
  if (forwardOf s r).isSome ∨ homeOf s (rowAt d r.row) ≠ home then s
  else match rowTarget s utils home d with
    | none => bump 0x8013 7 1 s
    | some u =>
      if 16 ≤ (mine.filter (fun f => decide (f.st ≤ 2))).length ∨ 65536 ≤ mine.length then bump 0x8013 7 1 s
      else
        let s := { s with forwards := s.forwards ++ [⟨r, 0, u.pkg, u.slice, 0, false, 0⟩] }
        if u.pkg = pkgNo s then s else emit (.member u.pkg msgSlot (r.slot * 2 ^ 32 + r.row) u.slice) s

/-- The 16 most frequent rows of a list. -/
def leading (rows : Tab Nat) : List Nat :=
  ((rows.mergeSort (fun a b => decide (b.2 < a.2 ∨ (a.2 = b.2 ∧ a.1 ≤ b.1)))).take 16).map (·.1)

/-- The end of a shard window (R260, R261): hot shards start moves, cool rows start to return, the counts begin anew. -/
def doShardWindowEnd (utils : List EngineLoad) (s : State) : State :=
  let cool := obj s 0x8010 5
  let leaves (f : Forward) : Bool := utils.any (fun u => u.draining && u.pkg == f.pkg)
  let s := { s with forwards := s.forwards.map (fun f => if f.st = 3 ∧ (f.ops < cool ∨ leaves f) then { f with st := 4 } else f) }
  let s := if obj s 0x8010 6 = 0 then s
    else (s.shards.filter (fun x => decide (obj s 0x8010 4 < x.ops))).foldl (fun s x =>
      (leading x.rows).foldl (fun s r => startRow utils x.home ⟨x.slot, x.version, r, pkgNo s⟩ s) s) s
  { s with shards := [], forwards := s.forwards.map (fun f => { f with ops := 0 }) }

/-- SHARD_WINDOW_END (R260). -/
def execShardWindowEnd (utils : List EngineLoad) (s : State) : Host.Outcome State Fault Refusal :=
  .next (doShardWindowEnd utils s)

/-- The migration record of a row changed. -/
def modForward (r : RowRef) (f : Forward → Forward) (s : State) : State :=
  { s with forwards := s.forwards.map (fun x => if x.row = r then f x else x) }

/-- The migration record of a row dropped. -/
def dropForward (r : RowRef) (s : State) : State := { s with forwards := s.forwards.filter (fun x => x.row != r) }

/-- A record is copied to a row's place elsewhere (R261). -/
def copyRow (f : Forward) (s : State) : State :=
  let d := odOf s f.row.slot f.row.version
  let t := (otable s f.row.slot).tenant
  let src := rowAt d f.row.row
  let mem := view (rowId f.row) s
  let s := unpeek (rowId f.row) s
  if f.pkg = pkgNo s then
    (engineStore 0 (rowReq t) f.at_ (odRecord d) (readMem mem src (odRecord d)) (anyBad mem src (odRecord d)) s).2
  else
    let to_ := f.pkg * 2 ^ 48 + f.at_
    let s := send 1 (24 + odRecord d) to_ (.remote .store to_ (odRecord d) (readMem mem src (odRecord d)) 0 t 1) s
    ((linesOf src (odRecord d)).filter (lineBad mem)).foldl (fun s l =>
      send 1 88 to_ (.remotePoison (to_ + (64 * l - src)) 64 0 t) s) s

/-- A hot slot of `n` bytes may stand at an offset of a slice's area of this package (R263), free of other rows. -/
def hotSlotOk (s : State) (r : RowRef) (slice off n : Nat) : Bool :=
  off % 64 == 0 && decide (obj s 0x8011 (slice + 1) ≤ off ∧ off + n ≤ obj s 0x8011 (slice + 1) + obj s 0x8012 (slice + 1)) &&
    s.forwards.all (fun g => g.row == r || g.pkg != pkgNo s || g.st == 0 || g.st == 5 ||
      !overlap off n g.at_ (odRecord (odOf s g.row.slot g.row.version))) &&
    s.guests.all (fun g => g.row == r || !overlap off n g.at_ (odRecord g.desc))

/-- The target grants a slot: the record is copied (R261). -/
def hotSlotHere (r : RowRef) (pkg slice off : Nat) (s : State) : State :=
  let n := odRecord (odOf s r.slot r.version)
  match forwardOf s r with
  | none => s
  | some f =>
    if f.st ≠ 0 ∨ f.pkg ≠ pkg ∨ f.slice ≠ slice ∨ (pkg = pkgNo s ∧ !hotSlotOk s r slice off n) then s
    else match recordWait (rowId r) (rowAt (odOf s r.slot r.version) r.row) n s with
      | some s => s
      | none => copyRow { f with at_ := off } (modForward r (fun f => { f with st := 1, at_ := off, dirty := false }) s)

/-- A slot is granted to a row of this package, or by this package to a row of another one, whose table's descriptor and
tenant come with it (R261). -/
def doHotSlot (r : RowRef) (pkg slice off desc tenant : Nat) (s : State) : State :=
  if r.home = pkgNo s then hotSlotHere r pkg slice off s
  else if pkg = pkgNo s ∧ (guestOf s r).isNone ∧ hotSlotOk s r slice off (odRecord desc) then
    emit (.member r.home msgSlot (r.slot * 2 ^ 32 + r.row) off) { s with guests := s.guests ++ [⟨r, slice, off, desc, tenant, false⟩] }
  else s

/-- HOT_SLOT_GRANTED (R261). -/
def execHotSlotGranted (row : RowRef) (pkg slice : Nat) (slot : HotSlot) (s : State) : Host.Outcome State Fault Refusal :=
  .next (doHotSlot row pkg slice slot.offset slot.desc slot.tenant s)

/-- A row that lives here leaves: its slot is free. -/
def dropGuest (r : RowRef) (s : State) : State := { s with guests := s.guests.filter (fun g => g.row != r) }

/-- The copy is acknowledged: the commit is sent, with a second copy of a row written meanwhile (R261). -/
def doRowCopyAcked (r : RowRef) (s : State) : State :=
  match forwardOf s r with
  | none => s
  | some f =>
    if f.st ≠ 1 then s
    else
      let s := modForward r (fun f => { f with st := 2 }) (if f.dirty then copyRow f s else s)
      if f.pkg = pkgNo s then s else emit (.member f.pkg msgCommit (r.slot * 2 ^ 32 + r.row) f.at_) s

/-- ROW_COPY_ACKED (R261). -/
def execRowCopyAcked (row : RowRef) (s : State) : Host.Outcome State Fault Refusal := .next (doRowCopyAcked row s)

/-- The commit is acknowledged: the lock passes (R261), to this package where it is the target. -/
def doRowCommitAcked (r : RowRef) (s : State) : State :=
  match forwardOf s r with
  | none =>
    if r.home = pkgNo s then s
    else { s with guests := s.guests.map (fun g => if g.row = r then { g with locked := true } else g) }
  | some f =>
    if f.st ≠ 2 then s
    else
      let k := 0x8100 + r.slot
      bump 0x8013 3 1 (modForward r (fun f => { f with st := 3 }) (setObj k 6 (obj s k 6 + 1) s))

/-- ROW_COMMIT_ACKED (R261). -/
def execRowCommitAcked (row : RowRef) (s : State) : Host.Outcome State Fault Refusal := .next (doRowCommitAcked row s)

/-- ROW_COMMIT_TIMEOUT (R261): the move is given up. -/
def execRowCommitTimeout (row : RowRef) (s : State) : Host.Outcome State Fault Refusal :=
  .next (match forwardOf s row with
    | some f => if f.st = 2 then bump 0x8013 5 1 (dropForward row s) else s
    | none => { s with guests := s.guests.filter (fun g => g.row != row || g.locked) })

/-- A row leaves FORWARDED: rows_forwarded of its table. -/
def uncountForward (r : RowRef) (s : State) : State := setObj (0x8100 + r.slot) 6 (obj s (0x8100 + r.slot) 6 - 1) s

/-- A row that lived here is copied back to its home, and its slot is free (R261). -/
def guestReturned (r : RowRef) (s : State) : State :=
  match guestOf s r with
  | none => s
  | some g =>
    let n := odRecord g.desc
    match recordWait (rowId r) g.at_ n s with
    | some s => s
    | none =>
      let mem := view (rowId r) s
      let to_ := r.home * 2 ^ 48 + rowAt g.desc r.row
      send 1 (24 + n) to_ (.remote .store to_ n (readMem mem g.at_ n) 0 g.tenant 1)
        (dropGuest r (unpeek (rowId r) s))

/-- A row cannot be copied back yet: its record's place in the table, or in this package the hot slot, is waited for. -/
def returnWait (r : RowRef) (f : Forward) (d : Nat) (s : State) : Option State :=
  match recordWait (rowId r) (rowAt d r.row) (odRecord d) s with
  | some s => some s
  | none => if f.pkg = pkgNo s then recordWait (rowId r) f.at_ (odRecord d) s else none

/-- The record is back at its natural place (R261): copied from this package's hot area, or as the target sent it. -/
def doRowReturned (r : RowRef) (record : Nat) (s : State) : State :=
  match forwardOf s r with
  | none => guestReturned r s
  | some f =>
    let d := odOf s r.slot r.version
    let dst := rowAt d r.row
    if f.st ≠ 4 then s
    else match returnWait r f d s with
      | some s => s
      | none =>
        let rq := rowReq (otable s r.slot).tenant
        let mem := view (rowId r) s
        let s := unpeek (rowId r) s
        let s := if f.pkg = pkgNo s then
            (engineStore 0 rq dst (odRecord d) (readMem mem f.at_ (odRecord d)) (anyBad mem f.at_ (odRecord d)) s).2
          else (engineWrite rq dst (odRecord d) (record % 2 ^ (8 * odRecord d)) (emit (.member f.pkg msgReturn
            (r.slot * 2 ^ 32 + r.row) f.at_) s)).2
        bump 0x8013 4 1 (uncountForward r (dropForward r s))

/-- ROW_RETURN_ACKED (R261). -/
def execRowReturnAcked (row : RowRef) (record : Nat) (s : State) : Host.Outcome State Fault Refusal :=
  .next (doRowReturned row record s)

/-- ROW_FORWARD_LOST (R261). -/
def execRowForwardLost (row : RowRef) (s : State) : Host.Outcome State Fault Refusal :=
  .next (match forwardOf s row with
    | some f =>
      if f.st = 3 ∨ f.st = 4 then
        bump 0x8013 6 1 (oryxEvent (uncountForward row (modForward row (fun f => { f with st := 5 }) s)))
      else s
    | none => s)

/-- The rows of a package that is draining start to return, and the homes of the rows that live in it are told so (R261). -/
def returnRows (p : Forward → Bool) (s : State) : State :=
  let s := s.guests.foldl (fun s g => emit (.member g.row.home msgReturn (g.row.slot * 2 ^ 32 + g.row.row) g.at_) s) s
  { s with forwards := (s.forwards.filter (fun f => !(f.st == 0 && p f))).map (fun f => if p f then returnRow f else f) }

/-! ## Objects (R263, R264) -/

/-- A row is forwarded into a slice's hot area. -/
def hotBusy (s : State) (slice : Nat) : Bool :=
  s.forwards.any (fun f => f.pkg == pkgNo s && f.slice == slice && f.st != 0 && f.st != 5) ||
  s.guests.any (fun g => g.slice == slice)

/-- A hot area lies in one active PIN_NEAR object with affinity to its slice; a size of zero is no area. -/
def hotAreaOk (s : State) (slice off n : Nat) : Bool :=
  off % 64 == 0 && n % 64 == 0 && (n == 0 ||
    s.placed.any (fun p => p.2.policy == pinNear && entrySlice p.2.entry == some slice &&
      decide (entryBase p.2.entry ≤ off ∧ off + n ≤ entryBase p.2.entry + entryCount p.2.entry * extentBytes)))

/-- A write of hot_area_offset or hot_area_bytes. -/
def doHotArea (c : Ctx) (s : State) : State :=
  let k := c.sub - 1
  let off := if c.index = 0x8011 then c.value else obj s 0x8011 c.sub
  let n := if c.index = 0x8012 then c.value else obj s 0x8012 c.sub
  if hotBusy s k then fin c .defer 0 s
  else if !hotAreaOk s k off n then finBad c s
  else applied c (setObj c.index c.sub c.value) s

/-- retiring_in_flight of a slot. -/
def retiringCount (s : State) (k : Nat) : Nat :=
  let t := otable s k
  (((t.versions.map (·.1)).filter (fun v => v != t.current)).map (versionBound s k)).sum

/-- ORYX_COUNTERS_CLEAR. -/
def execOryxCountersClear (d : DapMsg) (s : State) : Host.Outcome State Fault Refusal :=
  .next (clearObj d 0x8013 8 (clearObjs 0x8013 [1, 2, 3, 4, 5, 6, 7]) s)

/-- TABLE_COUNTERS_CLEAR, of the slot whose object the message names. -/
def execTableCountersClear (d : DapMsg) (s : State) : Host.Outcome State Fault Refusal :=
  let k := if 0x8100 ≤ d.index ∧ d.index ≤ 0x84FF then d.index else 0x8100
  .next (clearObj d k 8 (clearObjs k [4, 5, 7]) s)

end Sys2Proof.Machine
end

