-- ==== Sys2Proof/Machine/Chamois.lean ====
section
/-! DEFINITION. Chamois: index slots, side lists, queries, inserts and deletes, merges (chapter 8). -/

namespace Sys2Proof.Machine

/-! ## Descriptors and arrays (R268, R270 to R272) -/

def sdMetric (d : Nat) : Nat := bits d 183 180
def sdFmt (d : Nat) : Nat := bits d 187 184
def sdBlocks (d : Nat) : Nat := bits d 191 188
def sdDegree (d : Nat) : Nat := bits d 207 200
def sdDim (d : Nat) : Nat := bits d 223 208
def sdPrefetch (d : Nat) : Nat := bits d 231 228
def sdThreshold (d : Nat) : Nat := bits d 239 232
def sdBuild (d : Nat) : Nat := bits d 255 240
def sdEntry (d : Nat) : Nat := bits d 303 272
def sdNodes (d : Nat) : Nat := bits d 335 304
def sdMax (d : Nat) : Nat := bits d 367 336
def sdBase (d : Nat) : Nat := bits d 415 368
def sdRing (d : Nat) : Nat := bits d 463 432
def sdSide (d : Nat) : Nat := bits d 511 464
def sdResume (d : Nat) : Bool := bit d 512

/-- Element sizes of the five arrays: sketches, originals, attributes, graph areas 0 and 1. -/
def sdWidth (d : Nat) : Nat := if sdFmt d = 0 then 32 else 16
def sketchBytes (d : Nat) : Nat := 32 * sdBlocks d
def origBytes (d : Nat) : Nat := ceilDiv (sdDim d * sdWidth d) 512 * 64
def listBytes (d : Nat) : Nat := ceilDiv (4 + 4 * sdDegree d) 64 * 64
def arraySizes (d : Nat) : List Nat := [sketchBytes d, origBytes d, 64, listBytes d, listBytes d]

/-- Bytes of an array of elements of `b` bytes, up to the next 2 MiB boundary. -/
def arraySpan (d b : Nat) : Nat := ceilDiv (ceilDiv (sdMax d) (65536 / b) * 65536) extentBytes * extentBytes

/-- The offset of array `k`, and of an element of it. -/
def arrayAt (d k : Nat) : Nat := sdBase d + (((arraySizes d).take k).map (arraySpan d)).sum
def elemAt (d k n : Nat) : Nat :=
  let b := (arraySizes d)[k]?.getD 64
  let c := 65536 / b
  arrayAt d k + n / c * 65536 + n % c * b

/-- Bytes of a side-list entry, and where the entry of a position and the parts of its body lie. -/
def sketchPad (d : Nat) : Nat := up64 (sketchBytes d)
def bodyBytes (d : Nat) : Nat := sketchPad d + origBytes d + 64
def sideBytes (d : Nat) : Nat := 64 + bodyBytes d
def sideAt (d p : Nat) : Nat := sdSide d + 64 + p % sdRing d * sideBytes d

/-- A range lies in one active object of a tenant and policy. -/
def inObject (s : State) (off n tenant policy : Nat) : Bool :=
  s.placed.any (fun p => p.2.tenant == tenant && p.2.policy == policy && decide (entryBase p.2.entry ≤ off ∧
    off + n ≤ entryBase p.2.entry + entryCount p.2.entry * extentBytes))

/-- The checks of a descriptor, but for its state record (R269). -/
def sdStatus (s : State) (d tenant : Nat) : Status :=
  let arrays := arrayAt d 5 - sdBase d
  let side := 64 + sdRing d * sideBytes d
  if bits d 7 0 ≠ 1 ∨ bits d 1023 513 ≠ 0 ∨ bits d 431 416 ≠ 0 ∨ bits d 271 256 ≠ 0 ∨ bits d 227 224 ≠ 0 ∨ bits d 199 192 ≠ 0 ∨
      bits d 179 8 ≠ 0 ∨ 2 < sdFmt d ∨ 1 < sdMetric d ∨ sdPrefetch d = 0 ∨ 8 < sdPrefetch d ∨ 100 < sdThreshold d ∨
      sdBase d % extentBytes ≠ 0 ∨ sdSide d % 64 ≠ 0 ∨
      !inObject s (sdBase d) arrays tenant 3 ∨ !inObject s (sdSide d) side tenant pinNear ∨
      (sdNodes d ≠ 0 ∧ sdNodes d ≤ sdEntry d) then .unsupported
  else if sdRing d = 0xFFFFFFFF ∨ sdMax d = 0xFFFFFFFF ∨ sdNodes d = 0xFFFFFFFF ∨ sdBuild d = 0xFFFF ∨ sdDim d = 0xFFFF ∨
      sdDegree d = 0xFF ∨ sdBlocks d = 0xF ∨ 8 < sdBlocks d ∨ 64 < sdDegree d ∨ 4096 < sdDim d ∨ 4096 < sdBuild d ∨
      sdMax d < sdNodes d ∨ memRange s < sdBase d + arrays ∨ memRange s < sdSide d + side then .badLength
  else .ok

/-- A descriptor that makes the ACTIVATE a no-op. -/
def sdEmpty (d : Nat) : Bool :=
  sdBlocks d == 0 || sdDegree d == 0 || sdDim d == 0 || sdBuild d == 0 || sdMax d == 0 || sdNodes d == 0 || sdRing d == 0

/-! ## Fields of an operation (R275 to R277) -/

def seOp (b : Nat) : Nat := bits b 7 0
def seIndex (b : Nat) : Nat := bits b 19 8
def seIn (b : Nat) : Nat := bits b 267 208
def seInKey (b : Nat) : Nat := bits b 303 272
def seOut (b : Nat) : Nat := bits b 363 304
def seLength (b : Nat) : Nat := bits b 415 384
def seOutKey (b : Nat) : Nat := bits b 447 416
def seTag (b : Nat) : Nat := bits b 511 448
def seK (b : Nat) : Nat := bits b 159 144
def seCands (b : Nat) : Nat := bits b 175 160
def seRerank (b : Nat) : Nat := bits b 191 176
def sePrefetch (b : Nat) : Nat := bits b 199 196
def seClauses (b : Nat) : Nat := bits b 207 200
def seVector (b : Nat) : Nat := bits b 207 176
def seSub (b : Nat) : Nat := bits b 21 20

/-- Clause `i` of a body, and value `j` of its set area. -/
def clause (b i : Nat) : Nat := bits b (512 + 128 * i + 127) (512 + 128 * i)
def setValue (b j : Nat) : Nat := bits b (1536 + 32 * j + 31) (1536 + 32 * j)

/-- The values of a set area of a body of this many granules. -/
def setArea (len : Nat) : Nat := (64 * len - 192) / 4

/-- A clause that is applied has its reserved and unused fields at zero, and its codes are defined (R277). -/
def clauseFields (c : Nat) : Bool :=
  bits c 31 12 == 0 && bits c 7 4 == 0 &&
  (match bits c 3 0 with
    | 1 => bits c 127 96 == 0 && bits c 63 32 == 0
    | 2 => bits c 63 32 == 0
    | 3 => bits c 127 64 == 0
    | _ => true)
def clauseCodes (c : Nat) : Bool := decide (bits c 11 8 ≤ 7) && decide (1 ≤ bits c 3 0 ∧ bits c 3 0 ≤ 3)

/-- Reserved fields and alignments (R7, R275 to R277), for the operation that a body names. -/
def seBad (len b : Nat) : Bool :=
  bits b 367 364 != 0 || bits b 271 268 != 0 || seOut b % 64 != 0 || seIn b % 64 != 0 ||
  (seOp b != 1 && (seLength b != 0 || bits b (512 * len - 1) 512 != 0)) ||
  (match seOp b with
    | 1 => bits b 143 20 != 0 || bits b 195 192 != 0 ||
        (List.range 8).any (fun i => bit (seClauses b) i && !clauseFields (clause b i))
    | 2 => bits b 207 20 != 0
    | 3 => bits b 175 20 != 0
    | 4 => bits b 207 22 != 0 || (seSub b == 0 && bits b 267 256 != 0)
    | _ => false)

/-- The codes of an operation are not those of `op`, or are undefined, or a clause that is not applied is not zero (R275 to
R277, R278 step 1). -/
def seCodes (op b : Nat) : Bool :=
  seOp b != op || decide (255 < seIndex b) || (op == 4 && seSub b == 3) ||
  (op == 1 && (decide (8 < sePrefetch b) ||
    (List.range 8).any (fun i => if bit (seClauses b) i then !clauseCodes (clause b i) else clause b i != 0)))

/-! ## Index slots -/

def sindex (s : State) (n : Nat) : SIndex := tgetD s.indexes n SIndex.zero
def setIndex (n : Nat) (f : SIndex → SIndex) (s : State) : State := { s with indexes := tset s.indexes n (f (sindex s n)) }

/-- The state of a vector slot: 0 live, 1 reserved, 2 inserted, 3 deleted and not merged, 4 free. -/
def slotState (x : SIndex) (n : Nat) : Nat :=
  match tget x.slots n with | some k => k | none => if n < x.count then 0 else 4

/-- The lowest free slot (R287). -/
def lowestFree (x : SIndex) : Option Nat :=
  let high := (List.range (x.slots.length + 1)).find? (fun i => slotState x (x.count + i) == 4)
  match x.slots.find? (fun e => e.2 == 4 && decide (e.1 < x.count)), high with
  | some e, _ => some e.1
  | none, some i => if x.count + i < sdMax x.desc then some (x.count + i) else none
  | none, none => none

/-- Operations of an index in flight, and queries of it; queries bound to a generation. -/
def opsOf (s : State) (n : Nat) : Tab SOp := s.sops.filter (fun e => seIndex e.2.posted.req.body == n)
def queriesOf (s : State) (n : Nat) : Tab SOp := (opsOf s n).filter (fun e => seOp e.2.posted.req.body == 1)
def queriesBound (s : State) (n g : Nat) : Bool :=
  (queriesOf s n).any (fun e => match e.2.snap with | some (h, _) => h == g | none => false)

/-- The oldest position not reclaimed (R290). -/
def oldestPos (s : State) (n : Nat) : Nat :=
  let x := sindex s n
  if (queriesOf s n).any (fun e => match e.2.snap with | some (h, _) => h != x.gen | none => false) then x.prev else x.merged

/-- The ring is full (R278). -/
def ringFull (s : State) (n : Nat) : Bool :=
  let x := sindex s n
  decide (sdRing x.desc ≤ (x.tail + 2 ^ 32 - oldestPos s n) % 2 ^ 32)

/-- The request that an index's engines access memory as. -/
def searchReq (tenant : Nat) : Req := ⟨0x12, ⟨.link 0, 1, 0, 0, tenant, 0, 0, 0, 0, 0, 0⟩, 0, 0, [], false⟩

/-- The state record of an index (R272). -/
def stateRecord (x : SIndex) : Nat :=
  let v := x.gen % 2 ^ 32 * 2 ^ 64 + x.merged % 2 ^ 32 * 2 ^ 96 + x.tail % 2 ^ 32 * 2 ^ 128 + x.nextSeq % 2 ^ 32 * 2 ^ 160
    + x.live % 2 ^ 32 * 2 ^ 192 + x.entry % 2 ^ 32 * 2 ^ 224
  v + crc32c 32 v * 2 ^ 256

/-- The state record is written. -/
def writeState (n : Nat) (s : State) : State :=
  let x := sindex s n
  (engineWrite (searchReq x.tenant) (sdSide x.desc) 64 (stateRecord x) s).2

/-- search_event. -/
def searchEvent (s : State) : State := raiseEvent 0x9010 7 0 s

/-- What an operation's header says beside its own fields (R283). -/
structure SOut where
  status : Nat
  seq : Nat
  vector : Nat
  gen : Nat
  side : Nat
  scored : Nat
  reranked : Nat
  passed : Nat
  rounds : Nat
  skipped : Nat
  count : Nat
  limit : Bool
  already : Bool
  short : Bool
  deriving DecidableEq, Repr

/-- A header with a status alone. -/
def SOut.of (st : Status) (gen : Nat) : SOut := ⟨statusCode st, 0, 0, gen, 0, 0, 0, 0, 0, 0, 0, false, false, false⟩

/-- The result header (R283). -/
def searchHeader (s : State) (b : Nat) (o : SOut) : Nat :=
  seOp b + o.status * 2 ^ 8 + b2n o.short * 2 ^ 16 + b2n o.already * 2 ^ 17 + b2n o.limit * 2 ^ 18 + seIndex b * 2 ^ 24
    + o.count * 2 ^ 144 + min o.skipped 0xFFFF * 2 ^ 160 + o.rounds * 2 ^ 176 + o.passed * 2 ^ 192 + o.reranked * 2 ^ 208
    + o.scored % 2 ^ 32 * 2 ^ 224 + o.side % 2 ^ 32 * 2 ^ 256 + o.gen % 2 ^ 32 * 2 ^ 288 + o.vector % 2 ^ 32 * 2 ^ 320
    + o.seq % 2 ^ 32 * 2 ^ 352 + s.time % 2 ^ 64 * 2 ^ 384 + seTag b * 2 ^ 448

/-- The header of an operation is written, and out_sync signalled where its write was not refused (R275). -/
def endSearch (p : Posted) (acc : Nat) (o : SOut) (ack : Status) (s : State) : State :=
  let b := p.req.body
  let (st, s) := fabricStore acc p.req (seOut b) 64 (searchHeader s b o) (seOutKey b) s
  let st := if seOut b / 2 ^ 48 = pkgNo s then st else ack
  if st = .ok ∧ bit b 383 then attnSignal acc (seOut b / 2 ^ 48) (bits b 382 368) 1 p.req s else s

/-! ## Acceptance (R278, R279) -/

/-- The lengths of a query (R278). -/
def queryTooLong (len b : Nat) : Bool :=
  decide (1024 < seK b) || decide (seRerank b < seK b) || decide (1024 < seRerank b) || decide (seCands b < seRerank b) ||
  decide (4096 < seCands b) || seLength b == 0xFFFFFFFF || decide (seLength b < 64 + 16 * seK b) ||
  (List.range 8).any (fun i => bit (seClauses b) i && bits (clause b i) 3 0 == 3 &&
    (bits (clause b i) 63 48 == 0xFFFF || decide (setArea len < bits (clause b i) 47 32 + bits (clause b i) 63 48)))

/-- A query that is a no-op (R279). -/
def queryEmpty (b : Nat) : Bool :=
  seK b == 0 || seCands b == 0 || seRerank b == 0 ||
  (List.range 8).any (fun i => bit (seClauses b) i && bits (clause b i) 3 0 == 3 && bits (clause b i) 63 48 == 0)

/-- An accepted operation. -/
def newOp (p : Posted) (pos slot : Nat) : SOp := ⟨p, pos, slot, none, [], 0, 0, 0, 0, 0, false, .ok⟩

/-- What every operation but ACTIVATE is refused for first (R278). -/
def withIndex (rq : Req) (act : SIndex → State → State) (s : State) : State :=
  let x := sindex s (seIndex rq.body)
  if x.st = 0 ∨ x.st = 4 then complete rq .unsupported 0 s
  else if x.tenant ≠ rq.hdr.tenant then complete rq .tenantBlocked 0 s
  else act x s

/-- An ACTIVE index whose fill has reached merge_threshold waits to merge (R288). -/
def fillTrigger (n : Nat) (s : State) : State :=
  let x := sindex s n
  let fill := (x.tail + 2 ^ 32 - x.merged) % 2 ^ 32
  if x.st = 1 ∧ sdThreshold x.desc ≠ 0 ∧ sdThreshold x.desc * sdRing x.desc ≤ fill * 100 then
    setIndex n (fun x => { x with st := 2 }) s
  else s

/-- A QUERY at step 12. -/
def doQuery (rq : Req) (s : State) : State :=
  withIndex rq (fun _ s =>
    let b := rq.body
    if queryTooLong rq.hdr.length b then complete rq .badLength 0 s
    else if queryEmpty b then complete rq .ok 0 s
    else if 1024 ≤ (s.sops.filter (fun e => seOp e.2.posted.req.body == 1)).length then deferReq rq 1 s
    else
      let (acc, s) := nextAcc s
      let o := newOp ⟨rq, s.time⟩ 0 0
      complete rq .ok acc { s with sops := tset s.sops acc o }) s

/-- A position is reserved and an operation accepted (R274). -/
def reserve (rq : Req) (slot : Nat) (s : State) : State :=
  let n := seIndex rq.body
  let (acc, s) := nextAcc s
  let o := newOp ⟨rq, s.time⟩ (sindex s n).tail slot
  let s := setIndex n (fun x => { x with tail := (x.tail + 1) % 2 ^ 32 }) { s with sops := tset s.sops acc o }
  complete rq .ok acc (fillTrigger n s)

/-- An INSERT at step 12 (R278, R287). -/
def doInsert (rq : Req) (s : State) : State :=
  withIndex rq (fun x s =>
    match lowestFree x with
    | none => complete rq .badLength 0 s
    | some k =>
      if ringFull s (seIndex rq.body) then deferReq rq 1 s
      else reserve rq k (setIndex (seIndex rq.body) (fun x => { x with slots := tset x.slots k 1 }) s)) s

/-- A DELETE at step 12 (R278, R287). -/
def doSearchDelete (rq : Req) (s : State) : State :=
  withIndex rq (fun x s =>
    let v := seVector rq.body
    let st := slotState x v
    if st = 1 ∨ ringFull s (seIndex rq.body) then deferReq rq 1 s
    else if sdMax x.desc ≤ v ∨ st = 4 ∨ st = 3 then
      let (acc, s) := nextAcc s
      let s := complete rq .ok acc s
      endSearch ⟨rq, s.time⟩ acc { SOut.of .ok 0 with vector := v, already := true } .ok s
    else reserve rq v s) s

/-- A SEARCH command is served: its targets are the flash dies. Codes that are not those of the operation are refused after the
checks of R41 (R278). -/
def serveSearch (op : Nat) (bad : Nat → Bool) (h : Hdr) (body : Nat) (act : Req → State → State) (s : State) : State :=
  let dies := ((List.range 4).filter (flashPresent s)).map flashDom
  serve ⟨0x12, h, body, 0, [], false⟩
    (postedChecks (seBad h.length body) (some 64)
      (h.length == 0 || (op != 1 && h.length != 1) || (op == 1 && decide (h.length < 3))) dies.isEmpty dies)
    (64 * h.length) (max 64 (64 * h.length))
    (fun rq s => if seCodes op body || bad body then complete rq .unsupported 0 s else act rq s) s

/-- QUERY (R278). -/
def execQuery (h : Hdr) (body : Nat) (s : State) : Host.Outcome State Fault Refusal :=
  .next (serveSearch 1 (fun _ => false) h body doQuery s)
/-- INSERT (R287). -/
def execInsert (h : Hdr) (body : Nat) (s : State) : Host.Outcome State Fault Refusal :=
  .next (serveSearch 2 (fun _ => false) h body doInsert s)
/-- DELETE (R287). -/
def execSearchDelete (h : Hdr) (body : Nat) (s : State) : Host.Outcome State Fault Refusal :=
  .next (serveSearch 3 (fun _ => false) h body doSearchDelete s)

/-! ## The side list (R272, R273, R291) -/

/-- Positions from one up to another, modulo 2^32 (R265). -/
def positions (first last : Nat) : List Nat :=
  (List.range ((last + 2 ^ 32 - first) % 2 ^ 32)).map (fun i => (first + i) % 2 ^ 32)

/-- The header of a position's entry: position, kind, commit, commit_seq, vector_id. -/
def sideHeader (s : State) (d p : Nat) : Nat := readMem s (sideAt d p) 64
def shPos (v : Nat) : Nat := bits v 127 96
def shVector (v : Nat) : Nat := bits v 95 64
def shSeq (v : Nat) : Nat := bits v 63 32
def shKind (v : Nat) : Nat := bits v 2 1

/-- A position is settled in a snapshot (R288); an entry of kind INSERT or DELETE is then visible (R273). -/
def settled (s : State) (d seq p : Nat) : Bool :=
  let v := sideHeader s d p
  shPos v == p && bit v 0 && decide (shSeq v < seq) && !anyBad s (sideAt d p) 64

/-- The visible entries of a kind between two positions, with their slots. -/
def visible (s : State) (d first last seq kind : Nat) : List (Nat × Nat) :=
  ((positions first last).filter (fun p => settled s d seq p && shKind (sideHeader s d p) == kind)).map
    (fun p => (p, shVector (sideHeader s d p)))

/-- A header written in an entry, with the next commit sequence number. -/
def commitEntry (n pos slot kind : Nat) (s : State) : State :=
  let x := sindex s n
  let v := 1 + kind * 2 + x.nextSeq % 2 ^ 32 * 2 ^ 32 + slot % 2 ^ 32 * 2 ^ 64 + pos % 2 ^ 32 * 2 ^ 96
  setIndex n (fun x => { x with nextSeq := (x.nextSeq + 1) % 2 ^ 32 })
    (engineWrite (searchReq x.tenant) (sideAt x.desc pos) 64 v s).2

/-! ## ACTIVATE, DEACTIVATE, MERGE (R269, R288, R291) -/

/-- The positions at or after merged_pos that are not committed (R291). -/
def uncommitted (s : State) (x : SIndex) : List Nat :=
  (positions x.merged x.tail).filter (fun p =>
    !(shPos (sideHeader s x.desc p) == p && bit (sideHeader s x.desc p) 0))

/-- The slots that committed entries not merged yet leave inserted or deleted. -/
def sideSlots (s : State) (x : SIndex) : Tab Nat :=
  (positions x.merged x.tail).foldl (fun t p =>
    let v := sideHeader s x.desc p
    if shPos v = p ∧ bit v 0 then
      (if shKind v = 1 then tset t (shVector v) 2 else if shKind v = 2 then tset t (shVector v) 3 else t)
    else t) []

/-- An index resumes from its state record (R291): none when the record is refused. Which slots of the active graph are
live is taken to be those below live_nodes (log entry 24). -/
def resumeIndex (s : State) (d tenant : Nat) : Option SIndex :=
  let v := readMem s (sdSide d) 64
  if crc32c 32 v ≠ bits v 287 256 ∨ anyBad s (sdSide d) 64 then none
  else
    let x : SIndex := ⟨1, tenant, d, bits v 95 64, bits v 127 96, bits v 127 96, bits v 159 128, bits v 191 160, bits v 255 224,
      bits v 223 192, bits v 223 192, [], none, none, none⟩
    some { x with slots := sideSlots s x }

/-- An index starts fresh. -/
def freshIndex (d tenant : Nat) : SIndex :=
  ⟨1, tenant, d, 0, 0, 0, 0, 1, sdEntry d, sdNodes d, sdNodes d, [], none, none, none⟩

/-- An INDEX operation at step 12. -/
def doIndex (rq : Req) (s : State) : State :=
  let b := rq.body
  let n := seIndex b
  if seSub b = 0 then
    let off := bits b 255 208
    if (sindex s n).st ≠ 0 then complete rq .unsupported 0 s
    else if memRange s < off + 128 then complete rq .badLength 0 s
    else
      let d := readMem s off 128
      let st := if anyBad s off 128 then .poison else sdStatus s d rq.hdr.tenant
      if st = .ok ∧ sdEmpty d then complete rq .ok 0 s
      else
      let (acc, s) := nextAcc s
      let s := complete rq .ok acc s
      let p : Posted := ⟨rq, s.time⟩
      if st ≠ .ok then endSearch p acc (SOut.of st 0) .ok s
      else
        match (if sdResume d then resumeIndex s d rq.hdr.tenant else some (freshIndex d rq.hdr.tenant)) with
        | none => endSearch p acc (SOut.of .checkFail 0) .ok s
        | some x =>
          let s := setIndex n (fun _ => x) s
          let s := (if sdResume d then uncommitted s x else []).foldl (fun s pos => commitEntry n pos 0 0 s) s
          endSearch p acc (SOut.of .ok (sindex s n).gen) .ok (writeState n s)
  else withIndex rq (fun x s =>
    if seSub b = 2 ∧ x.st ≠ 1 then deferReq rq 1 s
    else
      let (acc, s) := nextAcc s
      let p : Posted := ⟨rq, s.time⟩
      let s := complete rq .ok acc s
      if seSub b = 2 then setIndex n (fun x => { x with st := 2, mergeJob := some (acc, p) }) s
      else
        let s := match x.mergeJob with
          | some (a, q) =>
            let (f, s) := drawFree s
            endSearch q a { SOut.of .ok x.gen with status := f % 16 } .ok s
          | none => s
        setIndex n (fun x => { x with st := 4, snap := none, mergeJob := none, job := some (acc, p) }) s) s

/-- INDEX ACTIVATE (R269). -/
def execIndexActivate (h : Hdr) (body : Nat) (s : State) : Host.Outcome State Fault Refusal :=
  .next (serveSearch 4 (fun b => seSub b != 0) h body doIndex s)
/-- INDEX DEACTIVATE (R288). -/
def execIndexDeactivate (h : Hdr) (body : Nat) (s : State) : Host.Outcome State Fault Refusal :=
  .next (serveSearch 4 (fun b => seSub b != 1) h body doIndex s)
/-- INDEX MERGE (R288). -/
def execIndexMerge (h : Hdr) (body : Nat) (s : State) : Host.Outcome State Fault Refusal :=
  .next (serveSearch 4 (fun b => seSub b != 2) h body doIndex s)

/-- A DEACTIVATING index without operations becomes INACTIVE (R288). -/
def doDeactivateDone (n : Nat) (s : State) : State :=
  let x := sindex s n
  if x.st ≠ 4 ∨ !(opsOf s n).isEmpty then s
  else
    let s := writeState n s
    let s := setIndex n (fun x => { x with st := 0, job := none }) s
    match x.job with
    | some (acc, p) => endSearch p acc (SOut.of .ok x.gen) .ok s
    | none => s

/-- INDEX_DEACTIVATE_DONE (R288). -/
def execIndexDeactivateDone (index : Nat) (s : State) : Host.Outcome State Fault Refusal := .next (doDeactivateDone index s)

/-! ## Searching (R280 to R284) -/

/-- A candidate: its distance, its slot, and its position in the side list where it comes from there. -/
abbrev Cand := Nat × Nat × Option Nat

/-- Candidates in rank order (R280): ascending distance, then ascending slot. -/
def ranks (a b : Cand) : Bool := decide (a.1 < b.1 ∨ (a.1 = b.1 ∧ a.2.1 < b.2.1))

/-- A candidate in its place. -/
def insertCand (c : Cand) : List Cand → List Cand
  | [] => [c]
  | x :: xs => if ranks c x then c :: x :: xs else x :: insertCand c xs

/-- An offer to a set of at most `n` candidates (R280). -/
def offer (n : Nat) (c : Cand) (cs : List Cand) : List Cand := (insertCand c cs).take n

/-- The neighbours of a list as they stand in memory. -/
def neighbours (s : State) (d off : Nat) : List Nat :=
  (List.range (min (readMem s off 4) (sdDegree d))).map (fun j => readMem s (off + 4 + 4 * j) 4)

/-- The distance of a sketch in memory to one. -/
def distanceTo (s : State) (d sketch off : Nat) : Nat :=
  popcount (256 * sdBlocks d) (sketch ^^^ readMem s off (sketchBytes d))

/-- What a walk carries: candidates, slots visited, slots expanded, sketches scored, skips, rounds. -/
structure WalkSt where
  cands : List Cand
  seen : NSet
  expanded : NSet
  scored : Nat
  skipped : Nat
  rounds : Nat
  limit : Bool
  deriving DecidableEq, Repr

/-- A neighbour is scored and offered (R280); a poisoned sketch is skipped (R284). -/
def visit (s : State) (d sketch cap : Nat) (excluded : NSet) (w : WalkSt) (n : Nat) : WalkSt :=
  if w.seen.contains n ∨ excluded.contains n then w
  else
    let off := elemAt d 0 n
    let w := { w with seen := sadd w.seen n }
    if anyBad s off (sketchBytes d) then { w with skipped := w.skipped + 1 }
    else { w with scored := w.scored + 1, cands := offer cap (distanceTo s d sketch off, n, none) w.cands }

/-- The rounds of a walk (R280): `lists` gives a slot's neighbours, none when its list is poisoned. -/
def walkRounds (s : State) (d sketch cap width maxRounds : Nat) (excluded : NSet) (lists : Nat → Option (List Nat)) :
    Nat → WalkSt → WalkSt
  | 0, w => w
  | fuel + 1, w =>
    let open_ := w.cands.filter (fun c => c.2.2.isNone && !w.expanded.contains c.2.1)
    match open_.head?, w.cands.getLast? with
    | none, _ => w
    | some best, some last =>
      if w.cands.length = cap ∧ ranks last best then w
      else if w.rounds = maxRounds then { w with limit := true }
      else
        let us := (open_.take width).map (fun c => c.2.1)
        let w := us.foldl (fun w u =>
          let w := { w with expanded := sadd w.expanded u }
          match lists u with
          | none => { w with skipped := w.skipped + 1, cands := w.cands.filter (fun c => !(c.2.1 == u && c.2.2.isNone)) }
          | some ns => ns.foldl (visit s d sketch cap excluded) w) w
        walkRounds s d sketch cap width maxRounds excluded lists fuel { w with rounds := w.rounds + 1 }
    | some _, none => w

/-- The visible inserts are scored and offered (R280): a poisoned one is skipped. -/
def sideScan (s : State) (d sketch cap : Nat) (excluded : NSet) (ins : List (Nat × Nat)) (w : WalkSt) : WalkSt × Nat :=
  ins.foldl (fun (a : WalkSt × Nat) e =>
    let (w, n) := a
    if excluded.contains e.2 then (w, n)
    else
      let off := sideAt d e.1 + 64
      if anyBad s off (sketchBytes d) then ({ w with skipped := w.skipped + 1 }, n)
      else ({ w with cands := offer cap (distanceTo s d sketch off, e.2, some e.1) w.cands }, n + 1)) (w, 0)

/-- The candidates of a query in its snapshot. The side scan runs beside the walk; which offers come first is not stated,
and a candidate that both leave out at the end is the same whichever order is taken, but for the walk's exit: here the
scan is offered first (log entry 25). -/
def searchGraph (s : State) (x : SIndex) (b merged tail seq sketch : Nat) : WalkSt × Nat :=
  let d := x.desc
  let cap := seCands b
  let gone := (visible s d merged tail seq 2).foldl (fun t e => sadd t e.2) ([] : NSet)
  let width := if sePrefetch b = 0 then sdPrefetch d else sePrefetch b
  let w0 : WalkSt := ⟨[], [], [], 0, 0, 0, false⟩
  let start := if gone.contains x.entry then { w0 with seen := [x.entry] } else visit s d sketch cap [] w0 x.entry
  let start := if gone.contains x.entry ∧ !anyBad s (elemAt d 0 x.entry) (sketchBytes d) then
      { start with cands := [(distanceTo s d sketch (elemAt d 0 x.entry), x.entry, none)] }
    else start
  let (w, n) := sideScan s d sketch cap gone (visible s d merged tail seq 1) start
  let area := 3 + x.gen % 2
  let lists (u : Nat) : Option (List Nat) :=
    if anyBad s (elemAt d area u) (listBytes d) then none else some (neighbours s d (elemAt d area u))
  let w := walkRounds s d sketch cap width (obj s 0x9010 3) gone lists (obj s 0x9010 3 + 1) w
  ({ w with cands := w.cands.filter (fun c => !gone.contains c.2.1) }, n)

def setSop (acc : Nat) (f : SOp → SOp) (s : State) : State := { s with sops := tmod s.sops acc f }

/-- Lines that an engine reads through their homes (R267): those of near extents. A home that sleeps is woken, an agent that
owns a line is asked for it; none where the reads can go on. -/
def homesWait (id : Nat) (lines : List Nat) (s : State) : Option State :=
  let near := lines.filter (fun l => match extState s (extentOf (64 * l)) with
    | some .near => true
    | some .movingDown => true
    | _ => false)
  match near.find? (fun l => !awake s (homeDom (homeOf s (64 * l)))) with
  | some l => some (wake (homeDom (homeOf s (64 * l))) s)
  | none => peekWait id near s

/-- What an engine does once the homes of the lines it reads answer. -/
def throughHomes (id : Nat) (ls : List Nat) (go : State → State) (s : State) : State :=
  match homesWait id ls (poisonDead ls s) with
  | some s => s
  | none => go (poisonDead ls s)

/-- The lines that a query read on its walk and in its side scan. -/
def walkLines (d area merged tail : Nat) (w : WalkSt) : List Nat :=
  (w.seen.map (fun n => linesOf (elemAt d 0 n) (sketchBytes d))).flatten ++
    (w.expanded.map (fun n => linesOf (elemAt d area n) (listBytes d))).flatten ++
    ((positions merged tail).map (fun p => linesOf (sideAt d p) (64 + sketchPad d))).flatten

/-- What a query's reads of the graph and the side list are numbered as. -/
def queryId (acc : Nat) : Nat := 2 ^ 71 + acc

/-- Queries that an engine coordinates (R286): those dispatched whose handle is its number modulo 32. -/
def coordinated (s : State) (acc : Nat) : Nat :=
  (s.sops.filter (fun e => e.1 % 32 == acc % 32 && e.2.snap.isSome && seOp e.2.posted.req.body == 1)).length

/-- The walk of the graph and the scan of the side list, with the query's data `v`, over the memory as the query sees it. -/
def queryWalk (acc b : Nat) (x : SIndex) (v : Nat) (s : State) : WalkSt × Nat :=
  searchGraph (view (queryId acc) s) x b x.merged x.tail x.nextSeq (v % 2 ^ (8 * sketchBytes x.desc))

/-- A query takes its snapshot, walks the graph and scans the side list once the homes of what it reads answer (R273, R280,
R284). -/
def walkQuery (acc b : Nat) (x : SIndex) (v : Nat) (st : Status) (s : State) : State :=
  throughHomes (queryId acc) (walkLines x.desc (3 + x.gen % 2) x.merged x.tail (queryWalk acc b x v s).1) (fun s =>
    let r := queryWalk acc b x v s
    setSop acc (fun o => { o with
      snap := some (x.gen, x.merged, x.tail, x.nextSeq), cands := r.1.cands.take (seRerank b), data := v, side := r.2,
      scored := r.1.scored, rounds := r.1.rounds, skipped := r.1.skipped, limit := r.1.limit, status := st }) s) s

/-- A query is dispatched: its data is read, its snapshot taken, the graph walked and the side list scanned (R273, R280,
R284). -/
def doQueryDispatch (acc : Nat) (q : Remote) (s : State) : State :=
  match tget s.sops acc with
  | none => s
  | some o =>
    let b := o.posted.req.body
    let x := sindex s (seIndex b)
    let d := x.desc
    if seOp b ≠ 1 ∨ o.snap.isSome ∨ 32 ≤ coordinated s acc then s
    else
      let dies := ((List.range 4).filter (fun f => flashPresent s f && !awake s (flashDom f)))
      if !dies.isEmpty then dies.foldl (fun s f => wake (flashDom f) s) s
      else match fetch acc o.posted.req (seIn b) (sketchPad d + 4 * sdDim d) (seInKey b) q s with
        | .wait s => s
        | .got st v s =>
          if !usable st then setSop acc (fun o => { o with snap := some (x.gen, x.merged, x.tail, x.nextSeq), status := st }) s
          else walkQuery acc b x v st s

/-- QUERY_DISPATCH (R273). -/
def execQueryDispatch (acc : Nat) (q : Remote) (s : State) : Host.Outcome State Fault Refusal := .next (doQueryDispatch acc q s)

/-- The original and attribute record of a candidate (R280). -/
def candOrig (d : Nat) (c : Cand) : Nat := match c.2.2 with | some p => sideAt d p + 64 + sketchPad d | none => elemAt d 1 c.2.1
def candAttr (d : Nat) (c : Cand) : Nat :=
  match c.2.2 with | some p => sideAt d p + 64 + sketchPad d + origBytes d | none => elemAt d 2 c.2.1

/-- The exact score of an original against a query's values (R281). -/
def exactScore (d : Nat) (q : List Nat) (orig : Nat) : Nat :=
  match fmtOf (sdFmt d) with
  | none => 0
  | some f =>
    (List.zip (List.range (sdDim d)) q).foldl (fun acc p =>
      let x := if sdFmt d = 0 then elem 32 orig p.1 else enc32 (f.decode (elem f.width orig p.1))
      if sdMetric d = 0 then fma32 p.2 x acc else let y := sub32 x p.2; fma32 y y acc) 0

/-- A filter's clauses hold of an attribute record (R277). -/
def passes (b attr : Nat) : Bool :=
  (List.range 8).all (fun i =>
    !bit (seClauses b) i ||
    (let c := clause b i
     let v := bits attr (64 + 32 * bits c 11 8 + 31) (64 + 32 * bits c 11 8)
     match bits c 3 0 with
     | 1 => v == bits c 95 64
     | 2 => decide (bits c 95 64 ≤ v ∧ v ≤ bits c 127 96)
     | _ => (List.range (bits c 63 48)).any (fun j => setValue b (bits c 47 32 + j) == v)))

/-- A scored result: score, slot, label. -/
structure Hit where
  score : Nat
  slot : Nat
  label : Nat
  deriving DecidableEq, Repr

/-- Results best first, a NaN score last (R281). -/
def hitBefore (metric : Nat) (a b : Hit) : Bool :=
  let x := fp32.decode a.score
  let y := fp32.decode b.score
  if x = .nan ∧ y = .nan then decide (a.slot ≤ b.slot)
  else if x = .nan then false
  else if y = .nan then true
  else if metric = 0 then (y.lt x || (!x.lt y && decide (a.slot ≤ b.slot)))
  else x.lt y || (!y.lt x && decide (a.slot ≤ b.slot))

/-- The re-ranked members of a query (R280 to R282, R284): hits, members scored, members passed, skips. -/
def rerank (s : State) (d b q : Nat) (cs : List Cand) : List Hit × Nat × Nat × Nat :=
  let vals := codes32 (q >>> (8 * sketchPad d)) (sdDim d)
  let (hits, n, k) := cs.foldl (fun (a : List Hit × Nat × Nat) c =>
    let (hits, n, k) := a
    if anyBad s (candOrig d c) (origBytes d) ∨ anyBad s (candAttr d c) 64 then (hits, n, k + 1)
    else
      let attr := readMem s (candAttr d c) 64
      let h : Hit := ⟨exactScore d vals (readMem s (candOrig d c) (origBytes d)), c.2.1, bits attr 63 0⟩
      (if passes b attr then hits ++ [h] else hits, n + 1, k)) ([], 0, 0)
  ((hits.mergeSort (hitBefore (sdMetric d))).take (seK b), n, hits.length, k)

/-- A query of generation `g` whose data could be read is answered: its results, its header, its signal (R282 to R284). `acks`
and `ack` are what another package acknowledges the results and the header with. -/
def answerQuery (acc : Nat) (o : SOp) (g seq : Nat) (acks : List Status) (ack : Status) (s : State) : State :=
  let b := o.posted.req.body
  let d := (sindex s (seIndex b)).desc
  let (hits, n, passed, k) := rerank (view (queryId acc) s) d b o.data o.cands
  let s := unpeek (queryId acc) s
  let skips := o.skipped + k
  let short := decide (hits.length < seK b)
  let st : Status := if skips = 0 then o.status else .poison
  let (bad, s) := ((List.range hits.length).zip hits).foldl (fun (a : Status × State) p =>
    if a.1 ≠ .ok then a
    else
      let r := fabricStore acc o.posted.req (seOut b + 64 + 16 * p.1) 16
        (p.2.score + p.2.slot * 2 ^ 32 + p.2.label * 2 ^ 64) (seOutKey b) a.2
      if seOut b / 2 ^ 48 = pkgNo s then r else ((acks[p.1]?).getD .ok, r.2)) (.ok, s)
  let s := bump 0x9011 7 skips (if short then bump 0x9011 2 1 s else s)
  let s := if st = .poison then searchEvent s else s
  endSearch o.posted acc
    ⟨statusCode (if bad = .ok then st else bad), seq, 0, g, o.side, o.scored, n, passed, o.rounds, skips, hits.length,
      o.limit, false, short⟩ ack s

/-- A query is over (R282 to R284). -/
def doQueryComplete (acc : Nat) (acks : List Status) (ack : Status) (s : State) : State :=
  match tget s.sops acc with
  | none => s
  | some o =>
    match o.snap with
    | none => s
    | some (g, _, _, seq) =>
      let d := (sindex s (seIndex o.posted.req.body)).desc
      let ls := (o.cands.map (fun c => linesOf (candOrig d c) (origBytes d) ++ linesOf (candAttr d c) 64)).flatten
      if seOp o.posted.req.body ≠ 1 then s
      else if !usable o.status then
        let s := bump 0x9011 1 1 { s with sops := terase s.sops acc }
        let s := if o.status = .poison then searchEvent s else s
        endSearch o.posted acc { SOut.of o.status g with seq := seq } ack s
      else throughHomes (queryId acc) ls
        (fun s => answerQuery acc o g seq acks ack (bump 0x9011 1 1 { s with sops := terase s.sops acc })) s

/-- QUERY_COMPLETE (R283). -/
def execQueryComplete (acc : Nat) (acks : QueryAcks) (s : State) : Host.Outcome State Fault Refusal :=
  .next (doQueryComplete acc acks.rows acks.header s)

/-! ## Commits (R274, R287) -/

/-- A position reserved by an INSERT or a DELETE is committed. A body that cannot be read settles it with kind zero and
releases the slot. -/
def doSideCommit (acc : Nat) (data : Remote) (ack : Status) (s : State) : State :=
  match tget s.sops acc with
  | none => s
  | some o =>
    let b := o.posted.req.body
    let n := seIndex b
    let x := sindex s n
    let seq := x.nextSeq
    let finish (st : Status) (s : State) : State :=
      endSearch o.posted acc { SOut.of st 0 with seq := seq, vector := o.slot } ack { s with sops := terase s.sops acc }
    if seOp b = 3 then
      finish .ok (bump 0x9011 4 1 (setIndex n (fun x => { x with slots := tset x.slots o.slot 3 })
        (commitEntry n o.pos o.slot 2 s)))
    else if seOp b = 2 then
      match fetch acc o.posted.req (seIn b) (bodyBytes x.desc) (seInKey b) data s with
      | .wait s => s
      | .got st v s =>
        if !usable st then
          finish st (setIndex n (fun x =>
            { x with slots := if o.slot < x.count then tset x.slots o.slot 4 else terase x.slots o.slot })
            (commitEntry n o.pos o.slot 0 s))
        else
        let s := (engineWrite (searchReq x.tenant) (sideAt x.desc o.pos + 64) (bodyBytes x.desc) v s).2
        finish st (bump 0x9011 3 1 (setIndex n (fun x => { x with slots := tset x.slots o.slot 2 })
          (commitEntry n o.pos o.slot 1 s)))
    else s

/-- SIDE_ENTRY_COMMIT (R274). -/
def execSideEntryCommit (acc : Nat) (data : Remote) (ack : Status) (s : State) : Host.Outcome State Fault Refusal :=
  .next (doSideCommit acc data ack s)

/-! ## Merging (R288 to R290) -/

/-- merge_idle_ms has passed (R288). -/
def execMergeIdleTimer (index : Nat) (s : State) : Host.Outcome State Fault Refusal :=
  let x := sindex s index
  .next (if x.st = 1 ∧ obj s 0x9010 5 ≠ 0 ∧ x.tail ≠ x.merged then setIndex index (fun x => { x with st := 2 }) s else s)

/-- The merge snapshot is taken once no query of generation g − 1 remains; at most two merges run (R288, R289). -/
def doBuildStart (n : Nat) (s : State) : State :=
  let x := sindex s n
  if x.st ≠ 2 ∨ queriesBound s n ((x.gen + 2 ^ 32 - 1) % 2 ^ 32) ∨ 2 ≤ (s.indexes.filter (fun e => e.2.st == 3)).length then s
  else
    let p := ((positions x.merged x.tail).find? (fun p => !settled s x.desc x.nextSeq p)).getD x.tail
    setIndex n (fun x => { x with st := 3, snap := some (x.tail, x.nextSeq, p) }) s

/-- MERGE_BUILD_START (R288). -/
def execMergeBuildStart (index : Nat) (s : State) : Host.Outcome State Fault Refusal := .next (doBuildStart index s)

/-- The selection of R289: `hd` gives the distance of two slots. -/
def selectGo (hd : Nat → Nat → Nat) (node m : Nat) : List Nat → List Nat → List Nat
  | [], kept => kept
  | c :: cs, kept =>
    if m ≤ kept.length then kept
    else if kept.any (fun a => decide (hd a c < hd c node)) then selectGo hd node m cs kept
    else selectGo hd node m cs (kept ++ [c])

/-- select(C, M) for a node: candidates in ascending distance to it, then ascending slot. -/
def select (hd : Nat → Nat → Nat) (node m : Nat) (cs : List Nat) : List Nat :=
  selectGo hd node m ((cs.eraseDups.filter (fun c => c != node)).mergeSort (fun a b =>
    decide (hd a node < hd b node ∨ (hd a node = hd b node ∧ a ≤ b)))) []

/-- A neighbour list as it is stored (R271). -/
def listValue (ns : List Nat) : Nat := ns.length + packCodes 32 ns * 2 ^ 32

/-- The slots live in the graph of an index. -/
def liveSlots (x : SIndex) : List Nat :=
  ((List.range x.count).filter (fun n => let k := slotState x n; k == 0 || k == 3)) ++
    ((x.slots.filter (fun e => decide (x.count ≤ e.1) && (e.2 == 0 || e.2 == 3))).map (·.1))

/-- Every list of the active graph can be read. -/
def graphReadable (s : State) (x : SIndex) : Bool :=
  (liveSlots x).all (fun n => !anyBad s (elemAt x.desc (3 + x.gen % 2) n) (listBytes x.desc))

/-- Bytes copied between two places of an index, poison with them. -/
def copyElem (tenant src dst n : Nat) (s : State) : State :=
  let bad := anyBad s src n
  (engineStore 0 (searchReq tenant) dst n (readMem s src n) bad s).2

/-- One insert joins the new graph (R289). -/
def joinGraph (x : SIndex) (area entry : Nat) (gone : NSet) (e : Nat × Nat) (s : State) : State :=
  let d := x.desc
  let t := x.tenant
  let side := sideAt d e.1 + 64
  let s := copyElem t side (elemAt d 0 e.2) (sketchBytes d) s
  let s := copyElem t (side + sketchPad d) (elemAt d 1 e.2) (origBytes d) s
  let s := copyElem t (side + sketchPad d + origBytes d) (elemAt d 2 e.2) 64 s
  let sketch := readMem s (elemAt d 0 e.2) (sketchBytes d)
  let lists (u : Nat) : Option (List Nat) := some (neighbours s d (elemAt d area u))
  let w0 : WalkSt := visit s d sketch (sdBuild d) [] ⟨[], [], [], 0, 0, 0, false⟩ entry
  let most := x.live + sdRing d + 1
  let w := walkRounds s d sketch (sdBuild d) (sdPrefetch d) most (sadd gone e.2) lists most w0
  let hd (a b : Nat) : Nat := distanceTo s d (readMem s (elemAt d 0 a) (sketchBytes d)) (elemAt d 0 b)
  let put (n : Nat) (ns : List Nat) (s : State) : State :=
    (engineWrite (searchReq t) (elemAt d area n) (listBytes d) (listValue ns) s).2
  let ns := select hd e.2 (sdDegree d) ((w.cands.map (fun c => c.2.1)).filter (fun c => c != e.2))
  ns.foldl (fun s n => put n (select hd n (sdDegree d) (e.2 :: neighbours s d (elemAt d area n))) s) (put e.2 ns s)

/-- Generation g + 1 of an index, with the merge's snapshot, is built in its area and published in one step (R289). -/
def publishMerge (n : Nat) (x : SIndex) (seq p : Nat) (s : State) : State :=
  let d := x.desc
  let from_ := 3 + x.gen % 2
  let area := 3 + (x.gen + 1) % 2
  let gone := (visible s d x.merged p seq 2).foldl (fun t e => sadd t e.2) ([] : NSet)
  let ins := (visible s d x.merged p seq 1).filter (fun e => !gone.contains e.2)
  let hd (a b : Nat) : Nat := distanceTo s d (readMem s (elemAt d 0 a) (sketchBytes d)) (elemAt d 0 b)
  let live := liveSlots x
  let stays := live.filter (fun k => !gone.contains k)
  let old (k : Nat) : List Nat := neighbours s d (elemAt d from_ k)
  let s := stays.foldl (fun s k =>
    let l := neighbours s d (elemAt d from_ k)
    let lost := l.filter (fun m => gone.contains m)
    let l := if lost.isEmpty then l
      else select hd k (sdDegree d) ((l ++ (lost.map old).flatten).filter (fun m => !gone.contains m))
    (engineWrite (searchReq x.tenant) (elemAt d area k) (listBytes d) (listValue l) s).2) s
  let entry := if !gone.contains x.entry then x.entry
    else match (neighbours s d (elemAt d from_ x.entry)).find? (fun m => stays.contains m) with
      | some m => m
      | none => (stays.head?).getD ((ins.head?.map (·.2)).getD x.entry)
  let s := ins.foldl (fun s e => joinGraph x area entry gone e s) s
  let slots := ins.foldl (fun t e => tset t e.2 0) x.slots
  let slots := gone.foldl (fun t k => if k < x.count then tset t k 4 else terase t k) slots
  let s := setIndex n (fun x => { x with
    st := 1, gen := (x.gen + 1) % 2 ^ 32, prev := x.merged, merged := p, entry := entry, slots := slots,
    live := stays.length + ins.length, snap := none, mergeJob := none }) s
  let s := bump 0x9011 5 1 (writeState n s)
  match x.mergeJob with
  | some (acc, q) => endSearch q acc (SOut.of .ok ((x.gen + 1) % 2 ^ 32)) .ok s
  | none => s

/-- The lines of an index's arrays and of its side list that agents own. -/
def ownedLines (s : State) (d : Nat) : List Nat :=
  (s.dir.map (·.1)).filter (fun l => overlap (64 * l) 64 (sdBase d) (arrayAt d 5 - sdBase d) ||
    overlap (64 * l) 64 (sdSide d) (64 + sdRing d * sideBytes d))

/-- A merge whose graph can be read is published (R289); lines that agents own are asked for first. -/
def doMergePublish (n : Nat) (s : State) : State :=
  let x := sindex s n
  let id := 2 ^ 72 + n
  match x.snap with
  | none => s
  | some (_, seq, p) =>
    if x.st ≠ 3 ∨ !graphReadable s x then s
    else
      throughHomes id (ownedLines s x.desc) (fun s => publishMerge n x seq p (unpeek id (settleLines id s))) s

/-- MERGE_PUBLISH (R289). -/
def execMergePublish (index : Nat) (s : State) : Host.Outcome State Fault Refusal := .next (doMergePublish index s)

/-- A list of the copy is poisoned or cannot be read: the merge is abandoned (R288). -/
def doMergeAbandon (n : Nat) (s : State) : State :=
  let x := sindex s n
  if x.st ≠ 3 ∨ graphReadable s x then s
  else
    let s := searchEvent (bump 0x9011 6 1 (setIndex n (fun x => { x with st := 1, snap := none, mergeJob := none }) s))
    match x.mergeJob with
    | some (acc, q) => endSearch q acc (SOut.of .poison x.gen) .ok s
    | none => s

/-- MERGE_ABANDON (R288). -/
def execMergeAbandon (index : Nat) (s : State) : Host.Outcome State Fault Refusal := .next (doMergeAbandon index s)

/-! ## Objects (R292) -/

/-- SEARCH_COUNTERS_CLEAR. -/
def execSearchCountersClear (d : DapMsg) (s : State) : Host.Outcome State Fault Refusal :=
  .next (clearObj d 0x9011 8 (clearObjs 0x9011 [1, 2, 3, 4, 5, 6, 7]) s)

end Sys2Proof.Machine
end

