-- ==== Sys2Proof/Machine/Compose.lean ====
section
/-! DEFINITION. Composition, epochs, ownership and metering (chapter 12). -/

namespace Sys2Proof.Machine

def composeOp (b : Nat) : Nat := bits b 7 0
def composeRequester (b : Nat) : Nat := bits b 51 36
def composeEpoch (b : Nat) : Nat := bits b 59 52
def composeComp (b : Nat) : Nat := bits b 71 60
def composeTenant (b : Nat) : Nat := bits b 83 72
def composeLimit (b : Nat) : Nat := bits b 95 84

/-- Reserved fields, the operation, and fields that the operation does not use (R412). -/
def composeBad (op b : Nat) : Bool :=
  bits b 255 96 != 0 || bits b 35 8 != 0 || composeOp b != op ||
  (match op with
    | 2 => composeLimit b != 0 || composeTenant b != 0 || composeEpoch b != 0
    | 3 => composeLimit b != 0 || composeTenant b != 0 || composeRequester b != 0
    | _ => false)

/-- The checks of COMPOSE and OWNER: the package by an address with offset zero, no region key (R389, R401). -/
def tableChecks (bad badLen : Bool) : Checks :=
  { badField := bad, names := .package, maxLen := none, one := false, absent := false, targets := [], perm := none,
    also := none, badBody := badLen }

/-- A COMPOSE or OWNER comes from a manager of composition 0, or through the dictionary (R412, R418). -/
def fromManager (rq : Req) (s : State) : Bool :=
  match rq.hdr.via with
  | .dap _ _ => true
  | _ => isManager s rq.hdr.requester

/-- The entries of a composition. -/
def entriesOf (s : State) (c : Nat) : Nat := (s.compTab.filter (fun e => e.2.composition == c)).length

/-- The largest size of a bandwidth bucket (R410). -/
def bwSize (l : Nat) : Nat := max (l * 10000) 4096

/-- SET_ENTRY (R404, R413). -/
def doComposeSetEntry (rq : Req) (s : State) : State :=
  let b := rq.body
  let c := composeComp b
  if !fromManager rq s ∨ (obj s 0x7020 3 = 1 ∧ c ≠ 0) then complete rq .unsupported 0 s
  else match compOf s (composeRequester b) with
    | some (i, e) =>
      if e.draining then deferReq rq 5 s
      else if e.composition ≠ c ∨ e.tenant ≠ composeTenant b ∨ (tgetD s.comps c (Comp.fresh 0)).epoch ≠ composeEpoch b then
        complete rq .unsupported 0 s
      else
        let size := bwSize (composeLimit b)
        let full := if e.bwLimit = 0 then size else min size (filled e.bucket e.bucketAt s.time e.bwLimit size)
        let e' := { e with bwLimit := composeLimit b, bucket := full, bucketAt := s.time }
        complete rq .ok 0 { s with compTab := tset s.compTab i e' }
    | none =>
      match firstFree s.compTab 4096 with
      | none => deferReq rq 0 s
      | some i =>
        let e : CompEntry := ⟨false, composeRequester b, c, composeTenant b, composeLimit b, bwSize (composeLimit b), s.time⟩
        if entriesOf s c = 0 then
          complete rq .ok 0 { s with compTab := tset s.compTab i e, comps := tset s.comps c (Comp.fresh (composeEpoch b)) }
        else if (tgetD s.comps c (Comp.fresh 0)).epoch ≠ composeEpoch b then complete rq .unsupported 0 s
        else complete rq .ok 0 { s with compTab := tset s.compTab i e }

/-- REMOVE_ENTRY (R413). -/
def doComposeRemoveEntry (rq : Req) (s : State) : State :=
  let b := rq.body
  if !fromManager rq s then complete rq .unsupported 0 s
  else match compOf s (composeRequester b) with
    | none => complete rq .unsupported 0 s
    | some (i, e) =>
      if e.composition ≠ composeComp b then complete rq .unsupported 0 s
      else complete rq .ok 0 { s with compTab := tset s.compTab i { e with draining := true } }

/-- ADVANCE (R413). -/
def doComposeAdvance (rq : Req) (s : State) : State :=
  let b := rq.body
  let c := composeComp b
  let x := tgetD s.comps c (Comp.fresh 0)
  if !fromManager rq s ∨ entriesOf s c = 0 then complete rq .unsupported 0 s
  else if composeEpoch b ≠ (x.epoch + 1) % 256 then complete rq .unsupported 0 s
  else if x.drainOpen then deferReq rq (ceilDiv (x.drainEnd - s.time) 4000) s
  else
    let x' := { x with epoch := composeEpoch b, prev := x.epoch, drainOpen := true, drainEnd := s.time + 20000 }
    complete rq .ok 0 (raiseEvent 0x7030 6 0 { s with comps := tset s.comps c x' })

/-- A COMPOSE body's operation. -/
def doCompose (rq : Req) (s : State) : State :=
  match composeOp rq.body with
  | 1 => doComposeSetEntry rq s
  | 2 => doComposeRemoveEntry rq s
  | _ => doComposeAdvance rq s

/-- COMPOSE_SET_ENTRY (R413). -/
def execComposeSetEntry (h : Hdr) (body : Nat) (s : State) : Host.Outcome State Fault Refusal :=
  .next (serve ⟨0x30, h, body, 0, [], false⟩ (tableChecks (composeBad 1 body) false) 32 64 doComposeSetEntry s)

/-- COMPOSE_REMOVE_ENTRY (R413). -/
def execComposeRemoveEntry (h : Hdr) (body : Nat) (s : State) : Host.Outcome State Fault Refusal :=
  .next (serve ⟨0x30, h, body, 0, [], false⟩ (tableChecks (composeBad 2 body) false) 32 64 doComposeRemoveEntry s)

/-- COMPOSE_ADVANCE (R413). -/
def execComposeAdvance (h : Hdr) (body : Nat) (s : State) : Host.Outcome State Fault Refusal :=
  .next (serve ⟨0x30, h, body, 0, [], false⟩ (tableChecks (composeBad 3 body) false) 32 64 doComposeAdvance s)

/-- DRAIN_WINDOW_CLOSE (R414, R415). -/
def execDrainWindowClose (composition : Nat) (s : State) : Host.Outcome State Fault Refusal :=
  .next { s with comps := tmod s.comps composition (fun c => { c with drainOpen := false }) }

/-! ## Metering (R421, R422) -/

/-- A composition has something to report. -/
def Comp.counted (c : Comp) : Bool :=
  c.serviceUs != 0 || c.c0Us != 0 || c.requests != 0 || c.bytesIn != 0 || c.bytesOut != 0 || c.c0Demoted != 0

/-- The 64-byte meter record of a composition (R422). -/
def meterRecord (s : State) (c : Nat) (x : Comp) (seq : Nat) : Nat :=
  s.time % 2 ^ 64 * 2 ^ 448 + s.meterStart % 2 ^ 64 * 2 ^ 384 + x.bytesOut % 2 ^ 64 * 2 ^ 320 + x.bytesIn % 2 ^ 64 * 2 ^ 256
    + x.requests % 2 ^ 64 * 2 ^ 192 + seq % 2 ^ 64 * 2 ^ 128 + x.serviceUs % 2 ^ 32 * 2 ^ 96 + x.c0Us % 2 ^ 32 * 2 ^ 64
    + x.c0Demoted % 2 ^ 32 * 2 ^ 32 + obj s 0x1021 1 % 4096 * 2 ^ 12 + c % 4096

/-- A composition with its counts zeroed. -/
def Comp.cleared (c : Comp) : Comp :=
  { c with serviceUs := 0, c0Us := 0, requests := 0, bytesIn := 0, bytesOut := 0, c0Demoted := 0 }

/-- The records of these compositions are closed in order, and their counts zeroed. -/
def closeMeters (cs : List Nat) (s : State) : List Nat × State :=
  cs.foldl (fun (a : List Nat × State) c =>
    let x := tgetD a.2.comps c (Comp.fresh 0)
    if x.counted then
      (a.1 ++ [meterRecord a.2 c x a.2.recordSeq],
        { a.2 with recordSeq := a.2.recordSeq + 1, comps := tset a.2.comps c (x.cleared) })
    else a) ([], s)

end Sys2Proof.Machine
end

