-- ==== Sys2Proof/Machine/Links.lean ====
section
/-! DEFINITION. Ownership records, FLUSH, PROBE, remote copies, and the Adrun links: flits, replay, training and
recalibration (chapters 11, 12 and 18). -/

namespace Sys2Proof.Machine

/-! ## Ownership (R417, R418) -/

def ownerIndex (b : Nat) : Nat := bits b 129 120
def ownerPackage (b : Nat) : Nat := bits b 175 164
def ownerBase (b : Nat) : Nat := bits b 255 208
def ownerExtents (b : Nat) : Nat := bits b 207 176
def ownerBad (b : Nat) : Bool := bits b 143 138 != 0 || bits b 135 130 != 0 || bits b 119 0 != 0

/-- A table of records with one written, or deleted when its owner_state is FREE (R417). -/
def putOwner (t : Tab Nat) (b : Nat) : Tab Nat :=
  if bits b 137 136 = 0 then terase t (ownerIndex b) else tset t (ownerIndex b) b

/-- A record of the same package at another index overlaps (R418). -/
def ownerOverlaps (s : State) (b : Nat) : Bool :=
  s.owners.master.any (fun r => r.1 != ownerIndex b && ownerPackage r.2 == ownerPackage b &&
    decide (ownerBase r.2 < ownerBase b + ownerExtents b * extentBytes ∧
      ownerBase b < ownerBase r.2 + ownerExtents r.2 * extentBytes))

/-- The package is its own master when ALONE (R418). -/
def ownMaster (s : State) : Bool := obj s 0x6010 7 == 0 || isMaster s

/-- OWNER at step 12 (R418). -/
def doOwner (rq : Req) (s : State) : State :=
  let b := rq.body
  let i := ownerIndex b
  if !ownMaster s ∨ !fromManager rq s then complete rq .unsupported 0 s
  else if ownerBase b % extentBytes ≠ 0 then complete rq .unsupported 0 s
  else if ownerExtents b = 0xFFFFFFFF then complete rq .badLength 0 s
  else if ownerExtents b = 0 then complete rq .ok 0 s
  else if ownerOverlaps s b then complete rq .unsupported 0 s
  else if tget s.owners.master i = some b ∧ s.owners.taken.contains i then complete rq .ok 0 s
  else if ownerPackage b = obj s 0x1021 1 then
    complete rq .ok 0 { s with owners := ⟨putOwner s.owners.master b, sadd s.owners.taken i, putOwner s.owners.here b⟩ }
  else
    let s := if tget s.owners.master i = some b then s
      else emit (.member (ownerPackage b) 2 i b)
        { s with owners := ⟨putOwner s.owners.master b, sdel s.owners.taken i, s.owners.here⟩ }
    hold { OpenReq.plain rq with record := some i } s

/-- OWNER (R418). -/
def execOwner (h : Hdr) (body : Nat) (s : State) : Host.Outcome State Fault Refusal :=
  .next (serve ⟨0x31, h, body, 0, [], false⟩ (tableChecks (ownerBad body) false) 32 64 doOwner s)

/-- The OWNERs that wait for a record complete. -/
def finishOwners (i : Nat) (st : Status) (s : State) : State :=
  s.openReqs.foldl (fun s e => if e.2.record = some i then complete e.2.req st 0 (closeReq e.1 s) else s) s

/-- OWNER_RECORD_TAKE_UP (R418): a record that names this package is taken up here; one that names another package is
reported taken up, so the OWNERs that wait for it at the master complete. -/
def execOwnerRecordTakeUp (record body : Nat) (s : State) : Host.Outcome State Fault Refusal :=
  .next (if ownerPackage body = obj s 0x1021 1 then
      settle { s with owners := { s.owners with here := putOwner s.owners.here body } }
    else if tget s.owners.master record = some body ∨ bits body 137 136 = 0 then
      settle (finishOwners record .ok { s with owners := { s.owners with taken := sadd s.owners.taken record } })
    else s)

/-- OWNER_TAKE_UP_TIMEOUT (R418): the OWNERs that wait for the record complete with DEFER; the record stays. -/
def execOwnerTakeUpTimeout (record : Nat) (s : State) : Host.Outcome State Fault Refusal :=
  .next (if s.owners.taken.contains record then s else settle (finishOwners record .defer s))

/-! ## FLUSH and PROBE, remote copies (R354, R362, R396) -/

def flushStart (b : Nat) : Nat := bits b 59 0
def flushBytes (b : Nat) : Nat := bits b 111 64

/-- FLUSH at step 12 (R193, R362). -/
def doFlush (rq : Req) (s : State) : State :=
  let a := flushStart rq.body
  let n := flushBytes rq.body
  if a % 64 ≠ 0 ∨ n % 64 ≠ 0 then complete rq .unsupported 0 s
  else if n = 0 then complete rq .ok 0 s
  else
    let far := (s.extents.filter (fun e => isFar s e.1 && a / 2 ^ 48 == obj s 0x1021 1 &&
      decide (a % 2 ^ 48 < (e.1 + 1) * extentBytes ∧ e.1 * extentBytes < a % 2 ^ 48 + n))).map (·.1)
    if far.isEmpty then
      complete rq .ok 0 { s with copies := s.copies.filter (fun c => !(decide (a ≤ c.address) && decide (c.address < a + n))) }
    else
      let (ok, s) := queueAll far (bump 0x3011 1 1 s)
      deferReq rq (farHint s far ok) (bump 0x3011 3 1 s)

/-- The checks of a FLUSH (R362, R389, R400). -/
def flushChecks (body : Nat) : Checks :=
  { badField := bits body 127 112 != 0 || bits body 63 60 != 0, names := .package, maxLen := none, one := false,
    absent := false, targets := [], perm := some 3, also := none,
    badBody := flushBytes body == 0xFFFFFFFFFFFF || decide (2 ^ 48 < flushStart body % 2 ^ 48 + flushBytes body) }

/-- FLUSH (R362). -/
def execFlush (h : Hdr) (body : Nat) (s : State) : Host.Outcome State Fault Refusal :=
  .next (serve ⟨0x05, h, body, 0, [], false⟩ (flushChecks body) 16 64 doFlush s)

/-- PROBE (R396): it completes once every earlier request of its requester has completed. -/
def doProbe (rq : Req) (s : State) : State :=
  let before := openOf s rq.hdr.requester
  if before.isEmpty then complete rq .ok 0 s else hold { OpenReq.plain rq with probed := before } s

/-- The checks of a PROBE (R389, R400). -/
def probeChecks : Checks :=
  { badField := false, names := .package, maxLen := none, one := false, absent := false, targets := [], perm := none,
    also := none, badBody := false }

/-- PROBE (R396). -/
def execProbe (h : Hdr) (s : State) : Host.Outcome State Fault Refusal :=
  .next (serve ⟨0x0B, h, 0, 0, [], false⟩ probeChecks 0 64 doProbe s)

/-- REMOTE_COPY_EXPIRE (R354): a copy whose age exceeds the limit becomes unusable. -/
def execRemoteCopyExpire (slice line : Nat) (s : State) : Host.Outcome State Fault Refusal :=
  .next { s with copies := s.copies.filter (fun c => !(c.slice == slice && c.address / 64 == line)) }

/-! ## Links (R384 to R387, R561, R562) -/

/-- A link's record. -/
def link (s : State) (n : Nat) : Link := tgetD s.links n Link.idle

/-- The state with a link changed. -/
def setLink (n : Nat) (f : Link → Link) (s : State) : State := { s with links := tset s.links n (f (link s n)) }

/-- The credits of a link with some returned on a channel. -/
def addCredits (l : Link) (vc n : Nat) : Link :=
  { l with credits := l.credits.mapIdx (fun i c => if i = vc then c + n else c) }

/-- The flits sent and not acknowledged. -/
def unacked (l : Link) : Nat := (l.nextSend + 1024 - (l.acked + 1) % 1024) % 1024

/-- A link that recalibrates leaves the route masks once every flit sent on it is acknowledged (R562). -/
def cutWhenQuiet (l : Link) : Link := { l with cut := l.cut || (l.st == .quiescing && unacked l == 0) }

/-- A cumulative acknowledgement (R386). -/
def ackFlits (l : Link) (seq : Nat) : Link := cutWhenQuiet { l with acked := seq, replays := 0 }

/-- The links that recalibrate: of a quadrant, of the package (R561). -/
def recalCount (s : State) (q : Option Nat) : Nat :=
  (s.links.filter (fun e => (e.2.st == .quiescing || e.2.st == .recalibrating) &&
    (match q with | some k => e.1 / 4 == k | none => true))).length

/-- Recalibration begins on a link that is UP, or waits when its quadrant or the package has its fill (R561, R562). -/
def beginRecal (n : Nat) (s : State) : State :=
  if (link s n).st ≠ .up then s
  else if 1 ≤ recalCount s (some (n / 4)) ∨ 4 ≤ recalCount s none then setLink n (fun l => { l with recalWaits := true }) s
  else emit (.recalRequest n) (setLink n (fun l => cutWhenQuiet { l with st := .quiescing, recalWaits := false }) s)

/-- The recalibrations that wait begin, as far as they may. -/
def nextRecal (s : State) : State :=
  s.links.foldl (fun s e => if e.2.recalWaits then beginRecal e.1 s else s) s

/-- A request with the way of its completion gone, where it came this way. -/
def cutWay (v : Via) (e : Nat × OpenReq) : Nat × OpenReq :=
  if e.2.req.hdr.via = v then (e.1, { e.2 with req := { e.2.req with hdr := { e.2.req.hdr with via := noWay } } }) else e

/-- A link goes down (R35, R386): counted; the completions in flight on it are lost, and what came on it gets none. -/
def dropLink (n : Nat) (s : State) : State :=
  let s := setLink n (fun l => { Link.idle with bucket := l.bucket, bucketAt := l.bucketAt }) s
  nextRecal (bump 0x7010 0x13 1 { s with openReqs := s.openReqs.map (cutWay (.link n)) })

/-! Fields of a flit (R383). -/
def flitVc (v : Nat) : Nat := bits v 31 29
def flitCredits (v : Nat) : Nat := bits v 39 32
def flitCreditVc (v : Nat) : Nat := bits v 42 40
def flitNakBit (v : Nat) : Bool := bit v 43
def flitAckSeq (v : Nat) : Nat := bits v 53 44
def flitSeq (v : Nat) : Nat := bits v 63 54
def flitCrc (v : Nat) : Nat := bits v 1951 1920

/-- A flit passes the link's check (R383, R386): the fec corrects up to 6 bytes, and the crc covers bytes 0 to 239. -/
def flitGood (f : Flit) : Bool := decide (f.wrong ≤ 6) && flitCrc f.image == crc32c 240 (f.image % 2 ^ 1920)

/-- A corrected flit is counted, on its link within the present second (R425, R561). -/
def countCorrected (n : Nat) (s : State) : State :=
  let now := s.time / 10 ^ 9
  bump 0x7010 0x11 1 (setLink n (fun l => { l with corrected := (if l.second = now then l.corrected else 0) + 1, second := now }) s)

/-- FLIT_RECEIVE (R384, R386): a flit that fails the check, and every later one until the replay, is discarded and
answered with nak; a good one in order is acknowledged, its acknowledgement and credits taken; a nak that it carries is
FLIT_NAK_RECEIVE's. A recalibration request is the control flit with credit_vc 7 and credit_count 0xFF (R561). What its payload
says is a command of its own, once the message is whole (R385). -/
def doFlitReceive (f : Flit) (s : State) : State :=
  let l := link s f.link
  let v := f.image
  if l.st ≠ .up ∧ l.st ≠ .quiescing then s
  else
    let s := if 0 < f.wrong ∧ f.wrong ≤ 6 then countCorrected f.link s else s
    if !flitGood f ∨ flitSeq v ≠ (l.lastRecv + 1) % 1024 then
      emit (.flitNak f.link l.lastRecv) (setLink f.link (fun l => { l with discarding := true }) s)
    else
      let s := setLink f.link (fun l =>
        let l := { l with lastRecv := flitSeq v, discarding := false }
        let l := if flitNakBit v then l else ackFlits l (flitAckSeq v)
        if flitCreditVc v < 7 then addCredits l (flitCreditVc v) (flitCredits v) else l) s
      let s := emit (.flitAck f.link (flitSeq v)) s
      if flitVc v = 7 ∧ flitCreditVc v = 7 ∧ flitCredits v = 0xFF then beginRecal f.link s else s

/-- FLIT_RECEIVE (R386). -/
def execFlitReceive (f : Flit) (s : State) : Host.Outcome State Fault Refusal := .next (doFlitReceive f s)

/-- A nak from the peer: the flits after ack_seq are replayed and counted; the eighth replay of a flit takes the link down
(R386). -/
def doFlitNakReceive (n ackSeq : Nat) (s : State) : State :=
  let l := link s n
  if l.st ≠ .up ∧ l.st ≠ .quiescing then s
  else
    let again := if l.acked = ackSeq then l.replays + 1 else 1
    let l' := { l with acked := ackSeq, replays := again }
    let s := bump 0x7010 0x12 (unacked l') (setLink n (fun _ => l') s)
    if 8 ≤ again then dropLink n s else emit (.flitReplay n ((ackSeq + 1) % 1024)) s

/-- FLIT_NAK_RECEIVE (R386). -/
def execFlitNakReceive (link ackSeq : Nat) (s : State) : Host.Outcome State Fault Refusal :=
  .next (doFlitNakReceive link ackSeq s)

/-- LINK_DOWN (R386). -/
def execLinkDown (link : Nat) (s : State) : Host.Outcome State Fault Refusal :=
  .next (if (tgetD s.links link Link.idle).st = .down then s else dropLink link s)

/-- A link comes up with its lanes, and grants 64 flits of credit on each of vc 0 to 6 (R384). -/
def trainLink (n lanes : Nat) (s : State) : State :=
  setLink n (fun l => { Link.idle with st := .up, lanes := lanes, credits := List.replicate 7 64, bucket := l.bucket,
                                       bucketAt := l.bucketAt }) s

/-- LINK_TRAINED (R384): in a package state that trains links (R15), with its quadrant awake. -/
def execLinkTrained (link lanes : Nat) (s : State) : Host.Outcome State Fault Refusal :=
  .next (if (serving s ∨ selfTesting s) ∧ link < 16 then trainLink link lanes (setDom (quadDom link) (fun d =>
      { d with st := if d.st ≤ 1 then d.st else 0, waking := false, wakeReq := false }) s) else s)

/-- LINK_RECAL_REQUEST (R561). -/
def execLinkRecalRequest (link : Nat) (s : State) : Host.Outcome State Fault Refusal := .next (beginRecal link s)

/-- RECAL_THRESHOLD_EXCEEDED (R561): the link's corrected flits of the present second exceed recal_threshold. -/
def execRecalThresholdExceeded (link : Nat) (s : State) : Host.Outcome State Fault Refusal :=
  .next (if obj s 0xA030 2 < (tgetD s.links link Link.idle).corrected then
    beginRecal link (setLink link (fun l => { l with corrected := 0 }) s) else s)

/-- LINK_QUIESCED (R562): everything accepted on the link is completed and everything sent on it acknowledged. -/
def execLinkQuiesced (link : Nat) (s : State) : Host.Outcome State Fault Refusal :=
  .next (if (tgetD s.links link Link.idle).st = .quiescing ∧
      s.openReqs.all (fun e => e.2.req.hdr.via != .link link) ∧ unacked (tgetD s.links link Link.idle) = 0 then
    setLink link (fun l => { l with st := .recalibrating }) s else s)

/-- LINK_RETRAINED (R562). -/
def execLinkRetrained (link : Nat) (s : State) : Host.Outcome State Fault Refusal :=
  .next (let l := tgetD s.links link Link.idle
    if l.st = .recalibrating then nextRecal (bump 0xA030 3 1 (trainLink link l.lanes s)) else s)

/-- LINK_RECAL_TIMEOUT (R562): rel_event with cause 0x03, counted in links_down. -/
def execLinkRecalTimeout (link : Nat) (s : State) : Host.Outcome State Fault Refusal :=
  .next (if (tgetD s.links link Link.idle).st = .recalibrating then raiseEvent 0xA060 2 3 (dropLink link s) else s)

end Sys2Proof.Machine
end

