-- ==== Sys2Proof/Machine/Dma.lean ====
section
/-! DEFINITION. DMA: its channels, transfers, pieces and records, and the domain ranges of the cascade modes (chapter 12,
R397 to R399, R423). -/

namespace Sys2Proof.Machine

/-! ## The body (R397) -/

def dmOp (b : Nat) : Nat := bits b 7 0
def dmChannel (b : Nat) : Nat := bits b 135 128
def dmSrcDomain (b : Nat) : Bool := bit b 136
def dmDstDomain (b : Nat) : Bool := bit b 137
def dmContext (b : Nat) : Nat := bits b 175 164
def dmLength (b : Nat) : Nat := bits b 207 176
def dmRecord (b : Nat) : Nat := bits b 255 208
def dmSrc (b : Nat) : Nat := bits b 315 256
def dmDst (b : Nat) : Nat := bits b 379 320
def dmSrcKey (b : Nat) : Nat := bits b 415 384
def dmDstKey (b : Nat) : Nat := bits b 447 416

/-- Reserved fields, the operation, and a misaligned record (R397). -/
def dmaBad (s : State) (b : Nat) : Bool :=
  dmOp b != 1 || bits b 127 8 != 0 || bits b 142 138 != 0 || bits b 163 160 != 0 || bits b 319 316 != 0 ||
  bits b 383 380 != 0 || (bit b 159 && !recordAt s (dmRecord b) 32)

/-! ## Domain ranges (R423) -/

/-- A member's mem_range_bytes: this package's own, or what is known of another's. -/
def rangeOf (s : State) (m : Nat) : Nat :=
  if m = obj s 0x6010 3 then memRange s else tgetD s.memberRanges m 0

/-- The ranges of the other members are free values, fixed when the first of them is needed: multiples of 2 MiB. -/
def drawRanges (s : State) : State :=
  (List.range (obj s 0x6010 2)).foldl (fun s m =>
    if m = obj s 0x6010 3 ∨ (tget s.memberRanges m).isSome then s
    else
      let (f, s) := drawFree s
      { s with memberRanges := tset s.memberRanges m (f % 2 ^ 26 * extentBytes) }) s

/-- The ranges of the members from one on, added. -/
def sumRanges (s : State) (m n : Nat) : Nat := ((List.range (n - m)).map (fun i => rangeOf s (m + i))).sum

/-- The bytes of the domain range. -/
def domainRange (s : State) : Nat :=
  let n := obj s 0x6010 2
  match obj s 0x6015 1 with
  | 1 => n * ((List.range n).map (rangeOf s)).foldl min (2 ^ 60)
  | 2 => obj s 0x6015 2 * obj s 0x6015 3 + sumRanges s (obj s 0x6015 2) n
  | 3 => sumRanges s 0 n
  | _ => 0

/-- Where an offset of members concatenated from `m` on lies: the member, its offset, and the bytes left in the member. -/
def concatAt (s : State) (d : Nat) : Nat → Nat → Nat × Nat × Nat
  | m, 0 => (m, d, 0)
  | m, k + 1 => if d < rangeOf s m then (m, d, rangeOf s m - d)
    else concatAt s (d - rangeOf s m) (m + 1) k

/-- A domain offset line by line over `n` members. -/
def wideAt (n d : Nat) : Nat × Nat × Nat := (d / 64 % n, d / 64 / n * 64 + d % 64, 64 - d % 64)

/-- A domain offset's member, local offset, and the bytes that follow in that member. -/
def domainAt (s : State) (d : Nat) : Nat × Nat × Nat :=
  let f := obj s 0x6015 2
  let front := f * obj s 0x6015 3
  match obj s 0x6015 1 with
  | 1 => wideAt (obj s 0x6010 2) d
  | 2 => if d < front then wideAt f d else concatAt s (d - front) f (obj s 0x6010 2 - f)
  | _ => concatAt s d 0 (obj s 0x6010 2)

/-- The fabric address of a domain offset, and the bytes that follow. -/
def domainAddress (s : State) (d : Nat) : Nat × Nat :=
  let (m, off, room) := domainAt s d
  (obj s 0x6011 (m + 1) * 2 ^ 48 + off, room)

/-! ## Acceptance (R398) -/

/-- The transfers on a channel. -/
def channelOf (s : State) (c : Nat) : List Dma := tgetD s.dma c []

/-- The channel of a command: the one it names, or the one with the fewest transfers among the awake homes' channels, or
the first. -/
def pickChannel (s : State) (b : Nat) : Nat :=
  if dmChannel b ≠ 0xFF then dmChannel b
  else
    let cs := (List.range 32).filter (fun c => decide ((dom s (homeDom (c / 4))).st ≤ 1) && !(dom s (homeDom (c / 4))).waking)
    (cs.foldl (fun (m : Option Nat) c =>
      match m with
      | none => some c
      | some x => if (channelOf s c).length < (channelOf s x).length then some c else some x) none).getD 0

/-- The checks of R398's first two steps: UNSUPPORTED, then BAD_LENGTH. -/
def dmaRefused (s : State) (b : Nat) : Option Status :=
  let flagged := dmSrcDomain b || dmDstDomain b
  let high (v : Nat) : Bool := bits v 59 48 != 0
  let virtual := dmContext b != 0
  let badHigh := ((dmSrcDomain b || virtual) && high (dmSrc b)) || ((dmDstDomain b || virtual) && high (dmDst b))
  let past (v : Nat) : Bool := decide (domainRange s < v % 2 ^ 48 + dmLength b)
  if (32 ≤ dmChannel b ∧ dmChannel b ≠ 0xFF) ∨ dmSrc b % 64 ≠ 0 ∨ dmDst b % 64 ≠ 0 ∨
      (dmLength b % 64 ≠ 0 ∧ dmLength b ≠ 0xFFFFFFFF) ∨
      (flagged ∧ (virtual ∨ obj s 0x6015 1 = 0)) ∨ badHigh then some .unsupported
  else if dmLength b = 0xFFFFFFFF ∨ (dmSrcDomain b ∧ past (dmSrc b)) ∨ (dmDstDomain b ∧ past (dmDst b)) then
    some .badLength
  else none

/-- DMA COPY at step 12 (R398): it is queued on its channel. -/
def doDma (rq : Req) (s : State) : State :=
  let b := rq.body
  let s := if (dmSrcDomain b || dmDstDomain b) && obj s 0x6015 1 != 0 then drawRanges s else s
  match dmaRefused s b with
  | some st => complete rq st 0 s
  | none =>
    let c := pickChannel s b
    if dmLength b = 0 then complete rq .ok 0 s
    else if 16 ≤ (channelOf s c).length then deferReq rq 1 s
    else
      let (acc, s) := nextAcc s
      let d : Dma := ⟨acc, rq, s.time, false, 0, false, false⟩
      complete rq .ok acc { s with dma := tset s.dma c (channelOf s c ++ [d]) }

/-- The checks of a DMA command; its target is the home of its channel. -/
def dmaChecks (s : State) (b : Nat) : Checks :=
  let c := pickChannel s b
  postedChecks (dmaBad s b) none false false (if c < 32 then [homeDom (c / 4)] else [])

/-- DMA_COPY (R398). -/
def execDmaCopy (h : Hdr) (body : Nat) (s : State) : Host.Outcome State Fault Refusal :=
  .next (serve ⟨0x18, h, body, 0, [], false⟩ (dmaChecks s body) 64 64 doDma s)

/-- A channel's first transfer changes. -/
def setHead (c : Nat) (d : Dma) (s : State) : State := { s with dma := tset s.dma c (d :: (channelOf s c).drop 1) }

/-- DMA_TRANSFER_START (R398): the transfer before it on the channel has ended, so the first one starts. -/
def execDmaTransferStart (channel : Nat) (s : State) : Host.Outcome State Fault Refusal :=
  .next (match channelOf s channel with
    | [] => s
    | d :: _ => setHead channel { d with started := true } s)

/-! ## Pieces (R398, log entry 32) -/

/-- Where one side of a piece lies: a fabric address with the key it is accessed under, none for a translated address of
this package; or the translation fault that stops it. -/
inductive Side where
  | at_ (address : Nat) (key : Option Nat) (used : List XltEntry)
  | faulted (code level : Nat)
  | waits (line : Nat)
  deriving DecidableEq, Repr

/-- The access that a channel makes for a side of a piece. -/
def dmaAccess (c : Nat) (d : Dma) (va n : Nat) (write : Bool) (data : Nat) : EngineAccess :=
  ⟨c / 4, c % 4, d.req.hdr.tenant, some (dmContext d.req.body), va, n, (if write then .store else .load), data⟩

/-- The side of a piece of `n` bytes that starts `p` bytes into the transfer; `hit`: the engine's look-aside buffer is asked
before its walker (R303). -/
def dmaSide (s : State) (c : Nat) (d : Dma) (write : Bool) (hit : Bool) (p n : Nat) : Side :=
  let b := d.req.body
  let a := if write then dmDst b else dmSrc b
  let key := if write then dmDstKey b else dmSrcKey b
  if (if write then dmDstDomain b else dmSrcDomain b) then .at_ (domainAddress s (a % 2 ^ 48 + p)).1 (some key) []
  else if dmContext b = 0 then .at_ (a + p) (some key) []
  else
    let x := dmaAccess c d (a % 2 ^ 48 + p) n write 0
    let found (t : Nat) (used : List XltEntry) : Side :=
      .at_ t (if t / 2 ^ 48 = pkgNo s then none else some (descKey (descFor s x.die (dmContext b)))) used
    match (if hit then cachedLeaf s x (dmContext b) else none) with
    | some t => found t []
    | none =>
      match walk s d.acc x (dmContext b) true with
      | .fault code level _ => .faulted code level
      | .wait line => .waits line
      | .to t used => found t used

/-- The bytes until a side's next 4 KiB boundary or its next member. -/
def sideRoom (s : State) (d : Dma) (write : Bool) (p : Nat) : Nat :=
  let b := d.req.body
  let a := (if write then dmDst b else dmSrc b) + p
  if (if write then dmDstDomain b else dmSrcDomain b) then
    let (t, room) := domainAddress s (a % 2 ^ 48)
    min room (4096 - t % 4096)
  else 4096 - a % 4096

/-- The bytes of the piece that starts `p` bytes into the transfer. -/
def pieceBytes (s : State) (d : Dma) (p : Nat) : Nat :=
  max 64 (min (dmLength d.req.body - p) (min (sideRoom s d false p) (sideRoom s d true p)))

/-- The pieces of a transfer from `p` on, as start and bytes; `n` bounds their number. -/
def piecesFrom (s : State) (d : Dma) : Nat → Nat → List (Nat × Nat)
  | _, 0 => []
  | p, n + 1 => if dmLength d.req.body ≤ p then [] else
      (p, pieceBytes s d p) :: piecesFrom s d (p + pieceBytes s d p) n

/-- The source ranges of a whole transfer, as fabric address and bytes. -/
def sourceRanges (s : State) (c : Nat) (d : Dma) : List (Nat × Nat) :=
  (piecesFrom s d 0 (dmLength d.req.body / 64)).filterMap (fun x =>
    match dmaSide s c d false true x.1 x.2 with
    | .at_ a _ _ => some (a, x.2)
    | _ => none)

/-- The data of a piece as its destination takes it: the bytes that overlap the source are free values (R398). -/
def overlaid (src : List (Nat × Nat)) (dst n data f : Nat) : Nat :=
  let hit := src.filter (fun r => decide (dst < r.1 + r.2 ∧ r.1 < dst + n))
  if hit.isEmpty then data
  else ofBytes ((List.range n).map (fun i =>
    if hit.any (fun r => decide (r.1 ≤ dst + i ∧ dst + i < r.1 + r.2)) then BitVec.ofNat 8 (f >>> (8 * i))
    else BitVec.ofNat 8 (data >>> (8 * i))))

/-- A range of this package is ready for a write: its homes awake, none of it far; otherwise what that starts. -/
def readyHere (off n : Nat) (s : State) : Option State :=
  if badOffset s off ∨ areaEnd s off < off + n then none
  else
    let asleep := (if off < memRange s then homesOf s off n else []).filter (fun h => !awake s (homeDom h))
    if !asleep.isEmpty then some (asleep.foldl (fun s h => wake (homeDom h) s) s)
    else
      let far := farExtents s off n
      if far.isEmpty then none else some (engineFar far s)

/-- How a transfer goes on after a piece: it waits, it copied the piece, or the piece ended it. -/
inductive Piece where
  | wait (s : State)
  | copied (s : State)
  | failed (st : Status) (s : State)

/-- A side lies in a die page, or reaches into one (R23, R398). -/
def inPages (a n : Nat) : Bool := decide (pageBase < a % 2 ^ 48 + n)

/-- The read of a piece (R398, R402): the key unless the side is translated to this package. -/
def readPiece (d : Dma) (a n : Nat) (key : Option Nat) (r : Remote) (p : Nat) (s : State) : Fetched :=
  match key with
  | none => fetchHere d.acc (a % 2 ^ 48) n s
  | some k => fetch d.acc d.req a n k ⟨r.status, r.data >>> (8 * p)⟩ s

/-- The write of a piece. -/
def writePiece (d : Dma) (a n v : Nat) (key : Option Nat) (ack : Status) (s : State) : Piece :=
  if a / 2 ^ 48 = pkgNo s then
    let denied : Bool := match key with
      | some k => obj s 0x7020 3 != 1 && !keyOk s k d.req.hdr.tenant 1 [(a % 2 ^ 48, n)]
      | none => false
    if denied then .failed .keyDenied s
    else match readyHere (a % 2 ^ 48) n s with
      | some s => .wait s
      | none =>
        match engineWrite d.req (a % 2 ^ 48) n v s with
        | (.ok, s) => .copied s
        | (st, s) => .failed st s
  else
    let (st, s) := fabricWrite d.req a n v (key.getD 0) s
    if st ≠ .ok then .failed st s else if ack = .ok then .copied s else .failed ack s

/-- A translation fault stalls the channel (R310). -/
def dmaFault (c : Nat) (d : Dma) (write : Bool) (p n data code level : Nat) (s : State) : State :=
  let a := (if write then dmDst d.req.body else dmSrc d.req.body) % 2 ^ 48 + p
  raiseFault ⟨dmaAccess c d a n write data, 0, 0, false⟩ code level (bump 0x3020 3 1 s)

/-- The transfer at the head of a channel read shadow data: its record will say so (R14, R399). -/
def markSubst (c : Nat) (s : State) : State :=
  { s with dma := tmod s.dma c (fun q => match q with | d :: ds => { d with subst := true } :: ds | [] => []) }

/-- One piece: read whole, then written (R398). -/
def doPiece (c : Nat) (d : Dma) (p n : Nat) (src : List (Nat × Nat)) (r : Remote) (ack : Status) (s : State) : Piece :=
  let (f, s) := drawFree s
  match dmaSide s c d false (f % 2 == 0) p n with
  | .faulted code level => .wait (dmaFault c d false p n 0 code level s)
  | .waits line => .wait (walkWaits d.acc line s)
  | .at_ a key used =>
    if inPages a n then .failed .unsupported s
    else
      let ctx := dmContext d.req.body
      let fill (w : Bool) (u : List XltEntry) (s : State) : State :=
        if u.isEmpty then s else bump 0x3020 3 1 (fillCaches (dmaAccess c d 0 n w 0) ctx u s)
      match readPiece d a n key r p (fill false used s) with
      | .wait s => .wait s
      | .got st data s =>
        let s := if st = .okSubst then markSubst c s else s
        if !usable st then .failed st s
        else match dmaSide s c d true (f / 2 % 2 == 0) p n with
          | .faulted code level => .wait (dmaFault c d true p n data code level s)
          | .waits line => .wait (walkWaits d.acc line s)
          | .at_ t tkey tused =>
            if inPages t n then .failed .unsupported s
            else
              let (f, s) := drawFree (fill true tused s)
              writePiece d t n (overlaid src t n data f) tkey ack s

/-- An access of a channel is in flight, faulted or stalled. -/
def dmaStalled (s : State) (c : Nat) : Bool :=
  ((s.walks.map (·.who)) ++ (s.stalls.map (fun e => e.2.who)) ++ ((s.faults.map (fun e => e.2.joined)).flatten) ++
    s.faultNone).any (fun i => !isTile i.access && 4 * i.access.die + i.access.engine == c)

/-- The pieces in order, until one waits or ends the transfer: what is done, and the status once it is over. -/
def runPieces (c : Nat) (d : Dma) (src : List (Nat × Nat)) (r : Remote) (ack : Status) :
    List (Nat × Nat) → Nat → State → Nat × Option Status × State
  | [], p, s => (p, some .ok, s)
  | x :: xs, p, s =>
    match doPiece c d x.1 x.2 src r ack s with
    | .wait s => (p, none, s)
    | .failed st s => (p, some st, s)
    | .copied s => runPieces c d src r ack xs (x.1 + x.2) s

/-- The record of a transfer (R399). -/
def dmaRecord (s : State) (c : Nat) (d : Dma) (done : Nat) (st : Status) : Nat :=
  statusCode st + c * 2 ^ 8 + elapsed s d.at_ * 2 ^ 64 + done % 2 ^ 32 * 2 ^ 96 + d.acc % 2 ^ 64 * 2 ^ 128
    + s.time % 2 ^ 64 * 2 ^ 192

/-- The end of a transfer (R377, R399): its record, then its signal. -/
def endDma (c : Nat) (d : Dma) (done : Nat) (st : Status) (s : State) : State :=
  let b := d.req.body
  let st := if st = .ok ∧ (channelOf s c).any (fun x => x.acc == d.acc && x.subst) then .okSubst else st
  endPosted d.req d.acc (bit b 159) (dmRecord b) 32 (dmaRecord s c d done st) (bit b 158) (bits b 157 143) (bits b 511 448)
    { s with dma := tset s.dma c ((channelOf s c).drop 1) }

/-- A transfer runs to its end, or until something stalls its channel; `src` answers for the reads of another package,
`ack` for the writes to one. -/
def doTransferEnd (c : Nat) (r : Remote) (ack : Status) (s : State) : State :=
  match channelOf s c with
  | [] => s
  | d :: _ =>
    if !d.started ∨ dmaStalled s c then s
    else if d.aborted then endDma c d d.done .poison s
    else
      let ps := piecesFrom s d d.done (dmLength d.req.body / 64)
      let (p, st, s) := runPieces c d (sourceRanges s c d) r ack ps d.done s
      match st with
      | some st => endDma c d p st s
      | none => setHead c { d with done := p, subst := (channelOf s c).any (fun x => x.acc == d.acc && x.subst) } s

/-- DMA_TRANSFER_END (R377, R398). -/
def execDmaTransferEnd (channel : Nat) (src : Remote) (ack : Status) (s : State) : Host.Outcome State Fault Refusal :=
  .next (doTransferEnd channel src ack s)

end Sys2Proof.Machine
end

