-- ==== Sys2Proof/Machine/TileAccess.lean ====
section
/-! DEFINITION. The steps of a tile's sequencer: its units' steps, accesses and synchronisation, the walks and faults they meet, and the invalidation of
translations (chapters 2, 9 and 11). -/

namespace Sys2Proof.Machine

/-! ## When a step issues (R82, R310, R356, R357) -/

/-- A tile's sequencer can issue a step now: it runs microcode, waits for nothing, and its call has not failed. -/
def tileIssues (s : State) (t : Nat) : Bool :=
  let x := tile s t
  tileActive s t && x.waiting.isNone && !x.failed && !seqStalled s t

/-- No acquire load of a tile is out, so an access of it may be made (R356). -/
def noAcquire (s : State) (t : Nat) : Bool := !(pendingOf s t).any (fun i => i.access.kind == .acquireLoad)

/-- No earlier access of the tile to a granule of this one is still out (R357). -/
def granuleFree (s : State) (a : EngineAccess) : Bool :=
  (pendingOf s (unitOf a)).all (fun i =>
    !decide (i.access.address / 64 ≤ (a.address + a.bytes - 1) / 64 ∧
      a.address / 64 ≤ (i.access.address + i.access.bytes - 1) / 64))

/-- The line loads of a tile that are outstanding (R82). -/
def linesOut (x : Tile) : Nat := (x.loads.map (fun l => (linesOf l.address l.bytes).length)).sum

/-- A tile's access can be made now. -/
def accessFree (s : State) (a : EngineAccess) : Bool := noAcquire s (unitOf a) && granuleFree s a

/-- A load of a tile has a place among its 128 line loads (R82). -/
def loadFree (s : State) (a : EngineAccess) : Bool :=
  accessFree s a && decide (linesOut (tile s (unitOf a)) + (linesOf a.address a.bytes).length ≤ 128)

/-- An access row names the kind it is. -/
def asKind (k : AccessKind) (a : EngineAccess) : EngineAccess := { a with kind := k }

/-- A load is issued: it takes a place among the tile's loads (R82). -/
def issueLoad (a : EngineAccess) (body : Nat) (r : Remote) (s : State) : State :=
  let t := unitOf a
  let l : TileLoad := ⟨a.address, a.bytes, a.kind == .acquireLoad, none, false⟩
  issue ⟨a, body, 0, false⟩ (some r) (setTile t { tile s t with loads := (tile s t).loads ++ [l] } s)

/-- A store is issued with what stands at the store queue (R49, R50): a tile whose configuration leaves the store queue
unconnected stores nothing. -/
def issueStore (a : EngineAccess) (f : Feed) (ack : Status) (s : State) : State :=
  let t := unitOf a
  match operand t 6 f s with
  | .data v bad =>
    let s := setTile t { tile s t with latches := terase (tile s t).latches 6 } s
    issue ⟨{ a with data := v % 2 ^ (8 * a.bytes) }, 0, 0, bad⟩ (some ⟨ack, 0⟩) (if bad then markCall t false true s else s)
  | _ => s

/-! ## Synchronisation steps (R374) -/

/-- The tenant that a tile's cluster serves (R109). -/
def tileTenant (s : State) (t : Nat) : Option Nat :=
  match tget s.clusters (t / 16) with
  | some c => (match c.handle with
    | some h => (tget s.handles h).map (·.tenant)
    | none => c.lastTenant)
  | none => none

/-- A tile reaches for an object that is not its tenant's: it stalls, and its call ends with INTERNAL (R374). -/
def tileUnservable (t : Nat) (s : State) : State :=
  raiseEvent 0x6020 6 0 (bump 0x6020 9 1 (setTile t { tile s t with failed := true } s))

/-- A tile's SIGNAL on an object (R374, R363): an ADD of its tenant (log entry 54). -/
def tileSignalNow (t n operand : Nat) (s : State) : State :=
  match tileTenant s t with
  | none => s
  | some ten =>
    let o := syncObj s n
    if o.owner = some ten then
      applySignal n ((o.value + operand) % 2 ^ 64) o.owner operand ⟨0, ten, 2, t⟩ s
    else tileUnservable t s

/-- A tile's WAIT on an object (R374): satisfied at once, or registered; false when the object has no room for a waiter. -/
def tileWaitNow (t n cond target : Nat) (s : State) : Bool × State :=
  match tileTenant s t with
  | none => (true, s)
  | some ten =>
    let o := syncObj s n
    if o.owner ≠ some ten then (true, tileUnservable t s)
    else if condHolds cond o.value target then (true, setTile t { tile s t with acquired := s.freeCtr } s)
    else if 64 ≤ o.waiters.length then (false, s)
    else
      let s := bump 0x6020 0xA 1 (setSync n { o with waiters := o.waiters ++ [⟨.tile t, cond, target, s.time⟩] } s)
      (true, setTile t { tile s t with waiting := some n } s)

/-! ## Steps in order (R50, R82, R356) -/

/-- A step is issued, or the sequencer stalls before it: whether it was, and the state. A release, a fence and a SIGNAL or
WAIT come after every earlier access of the tile. -/
def tryStep (t : Nat) (op : SeqOp) (s : State) : Bool × State :=
  let when (ready : Bool) (s' : State) : Bool × State := if ready then (true, s') else (false, s)
  let quiet : Bool := (pendingOf s t).isEmpty
  if !tileIssues s t then (false, s)
  else match op with
    | .unit u f => when (unitReady s t u f) (unitStep t u f s)
    | .load a r => when (loadFree s a) (issueLoad a 0 r s)
    | .store a f ack => when (accessFree s a && operand t 6 f s != Operand.wait) (issueStore a f ack s)
    | .atomic a body r => when (loadFree s a) (issueLoad a body r s)
    | .release a f ack => when (quiet && operand t 6 f s != Operand.wait) (issueStore a f ack s)
    | .fence => when quiet (setTile t { tile s t with acquired := s.freeCtr } s)
    | .signal n operand =>
      if !quiet then (false, s)
      else if awake s (homeDom (n % 8)) then (true, tileSignalNow t n operand s) else (false, wake (homeDom (n % 8)) s)
    | .wait n cond target =>
      if !quiet then (false, s)
      else if awake s (homeDom (n % 8)) then tileWaitNow t n cond target s else (false, wake (homeDom (n % 8)) s)

/-- A tile's steps issue one after the other, until one stalls. -/
def runSteps (t : Nat) : List SeqOp → State → State
  | [], s => setTile t { tile s t with held := [] } s
  | op :: ops, s =>
    let r := tryStep t op s
    if r.1 then runSteps t ops r.2 else setTile t { tile r.2 t with held := op :: ops } r.2

/-- The steps that a tile's sequencer is stalled before are tried. -/
def settleTile (t : Nat) (s : State) : State := runSteps t (tile s t).held s

/-- Every tile that is stalled before a step tries it. -/
def settleTiles (s : State) : State :=
  ((s.tiles.filter (fun e => !e.2.held.isEmpty)).map (·.1)).foldl (fun s t => settleTile t s) s

/-- The sequencer of a tile comes to a step: it stands behind those that the tile is stalled before. A tile that runs no
microcode comes to none. -/
def tileStep (t : Nat) (op : SeqOp) (s : State) : State :=
  if tileActive s t then runSteps t ((tile s t).held ++ [op]) s else s

/-- MATRIX_VECTOR_STEP (R64). -/
def execMatrixVectorStep (tile : Nat) (m : MvRun) (s : State) : Host.Outcome State Fault Refusal :=
  .next (tileStep tile (.unit (.matrixVector m.step) m.feed) s)

/-- VECTOR_STEP (R75). -/
def execVectorStep (tile : Nat) (op : VecOp) (pads : FeedPads) (own : FeedOwn) (out : FeedOut) (s : State) :
    Host.Outcome State Fault Refusal :=
  .next (tileStep tile (.unit (.vector op) (Feed.of ⟨pads, own⟩ out)) s)

/-- CONVERSION (R68). -/
def execConversion (tile target : Nat) (src : FeedSource) (out : FeedOut) (s : State) : Host.Outcome State Fault Refusal :=
  .next (tileStep tile (.unit (.convert target) (Feed.of src out)) s)

/-- SPECIAL_FUNCTION (R77). -/
def execSpecialFunction (tile : Nat) (fn : SpecialFn) (src : FeedSource) (out : FeedOut) (s : State) :
    Host.Outcome State Fault Refusal :=
  .next (tileStep tile (.unit (.special fn) (Feed.of src out)) s)

/-- CROSS_LANE_REDUCE (R76). -/
def execCrossLaneReduce (tile : Nat) (maximum : Bool) (f : Feed) (s : State) : Host.Outcome State Fault Refusal :=
  .next (tileStep tile (.unit (.reduce maximum) f) s)

/-- A tile comes to an access of its own. -/
def tileAccess (a : EngineAccess) (op : EngineAccess → SeqOp) (s : State) : State :=
  if isTile a then tileStep (unitOf a) (op (ownAccess s a)) s else s

/-- TILE_PLAIN_LOAD (R354). -/
def execTilePlainLoad (a : EngineAccess) (r : Remote) (s : State) : Host.Outcome State Fault Refusal :=
  .next (tileAccess a (fun a => .load (asKind .load a) r) s)

/-- TILE_ACQUIRE_LOAD (R356). -/
def execTileAcquireLoad (a : EngineAccess) (r : Remote) (s : State) : Host.Outcome State Fault Refusal :=
  .next (tileAccess a (fun a => .load (asKind .acquireLoad a) r) s)

/-- A tile's oldest load is presented to the switchbox (R50, R82): once its data is back, and the sinks connected to the
load return can take it. -/
def presentLoad (t : Nat) (s : State) : State :=
  match (tile s t).loads with
  | [] => s
  | l :: ls =>
    match l.data with
    | none => s
    | some v =>
      if sinksFree s t 2 then
        let s := deliver t 2 v l.bad (setTile t { tile s t with loads := ls } s)
        if l.bad then markCall t false true s else s
      else s

/-- TILE_LOAD_RETURN (R82). -/
def execTileLoadReturn (tile : Nat) (s : State) : Host.Outcome State Fault Refusal :=
  .next (settleTile tile (presentLoad tile s))

/-- TILE_PLAIN_STORE (R356). -/
def execTilePlainStore (a : TileStore) (ack : Status) (s : State) : Host.Outcome State Fault Refusal :=
  .next (tileAccess a.access (fun x => .store (asKind .store x) a.feed ack) s)

/-- TILE_ATOMIC (R356): its prior value returns among the tile's loads. -/
def execTileAtomic (a : EngineAccess) (body : Nat) (r : Remote) (s : State) : Host.Outcome State Fault Refusal :=
  .next (if atomicBad body then s
    else tileAccess a (fun a => .atomic { asKind .atomic a with bytes := atomicWidth body } body r) s)

/-- TILE_RELEASE_STORE (R356). -/
def execTileReleaseStore (a : TileStore) (ack : Status) (s : State) : Host.Outcome State Fault Refusal :=
  .next (tileAccess a.access (fun x => .release (asKind .releaseStore x) a.feed ack) s)

/-- TILE_FENCE (R356). -/
def execTileFence (tile : Nat) (s : State) : Host.Outcome State Fault Refusal := .next (tileStep tile .fence s)

/-- TILE_SIGNAL (R374). -/
def execTileSignal (tile object operand : Nat) (s : State) : Host.Outcome State Fault Refusal :=
  .next (tileStep tile (.signal object operand) s)

/-- TILE_WAIT (R374). -/
def execTileWait (tile object cond target : Nat) (s : State) : Host.Outcome State Fault Refusal :=
  .next (tileStep tile (.wait object cond target) s)

/-! ## Walks, faults, stalls -/

/-- TRANSLATION_WALK_END (R300). -/
def execTranslationWalkEnd (a : EngineAccess) (s : State) : Host.Outcome State Fault Refusal := .next (settleTiles (endWalk a s))

/-- The doorbell of a fault record (R313): its tag is a free value. -/
def faultDoorbell (q seq : Nat) (s : State) : State :=
  let (f, s) := drawFree s
  let tenant := match tget s.faults (faultKey q seq) with
    | some r => (match firstOf r with | some i => i.access.tenant | none => 0)
    | none => 0
  (sendDoorbell (obj s (0x3030 + q) 3 % 2 ^ 60) (obj s (0x3030 + q) 4) (q * 2 ^ 44 + seq) (f % 2 ^ 32) tenant s).2

/-- FAULT_RECORD_ACKED (R313): the doorbell is sent only once the record's write is acknowledged. -/
def execFaultRecordAcked (queue seq : Nat) (ack : Status) (s : State) : Host.Outcome State Fault Refusal :=
  .next (match tget s.faults (faultKey queue seq) with
    | some f => if f.stage = 1 ∧ ack = .ok then
        faultDoorbell queue seq { s with faults := tset s.faults (faultKey queue seq) { f with stage := 2 } }
      else s
    | none => s)

/-- FAULT_DOORBELL_RESEND (R498): while the record awaits service. -/
def execFaultDoorbellResend (queue seq : Nat) (s : State) : Host.Outcome State Fault Refusal :=
  .next (match tget s.faults (faultKey queue seq) with
    | some f => if f.stage = 2 then faultDoorbell queue seq s else s
    | none => s)

/-! ## Invalidation (R305 to R309) -/

def invScope (b : Nat) : Nat := bits b 9 8
def invContext (b : Nat) : Nat := bits b 23 12
def invPage (b : Nat) : Nat := bits b 179 144
def invCount (b : Nat) : Nat := bits b 223 192

/-- Reserved fields of an INVAL body (R305), and the scope of the row. -/
def invalBad (scope b : Nat) : Bool :=
  bits b 255 224 != 0 || bits b 191 180 != 0 || bits b 143 128 != 0 || bits b 63 52 != 0 || bits b 11 10 != 0 ||
  bits b 7 0 != 0 || invScope b != scope

/-- A virtual range overlaps what a cached entry maps or spans (R307). -/
def entryOverlaps (x : XltEntry) (lo hi : Nat) : Bool :=
  let g := if entLeaf x.entry then 2 ^ entContig x.entry else 1
  let a := x.tag / g * g * 2 ^ levelShift x.level
  decide (a < hi ∧ lo < a + g * 2 ^ levelShift x.level)

/-- The range that an invalidation of pages names, and whether it drops a cached entry (R307). -/
def invFirst (b : Nat) : Nat := invPage b * 4096
def invLast (b : Nat) : Nat := (invPage b + invCount b) * 4096
def invHits (b : Nat) (x : XltEntry) : Bool :=
  x.context == invContext b && (invScope b == 1 || entryOverlaps x (invFirst b) (invLast b))

/-- The cached entries that an invalidation drops, and the walks it meets (R307, R308). -/
def dropXlt (b : Nat) (s : State) : State :=
  let c := invContext b
  { s with
    xlt := s.xlt.filter (fun x => !invHits b x)
    xltDesc := if invScope b = 1 then s.xltDesc.filter (fun e => e.1 % 4096 != c) else s.xltDesc
    walks := s.walks.map (fun w => if w.who.access.context = some c then { w with stale := true } else w) }

/-- The stalled accesses that a dropped entry may have translated: in the range, or in what a dropped leaf maps. -/
def invStalls (s : State) (b : Nat) : NSet :=
  let leaves := s.xlt.filter (fun x => entLeaf x.entry && invHits b x)
  let met (lo hi : Nat) : Bool := decide (invFirst b < hi ∧ lo < invLast b) || leaves.any (fun x => entryOverlaps x lo hi)
  (s.stalls.filter (fun e =>
    let a := e.2.who.access
    a.context == some (invContext b) && (invScope b == 1 || met a.address (a.address + a.bytes)))).map (·.1)

/-- An INVAL at step 12 (R306, R307). -/
def doInval (rq : Req) (s : State) : State :=
  let b := rq.body
  let d := descMem s (invContext b)
  if invContext b = 0 ∨ 2 ≤ invScope b ∨ (invScope b = 1 ∧ (invPage b ≠ 0 ∨ invCount b ≠ 0)) then
    complete rq .unsupported 0 s
  else if bit d 0 ∧ descTenant d ≠ rq.hdr.tenant then complete rq .tenantBlocked 0 s
  else if invCount b = 0xFFFFFFFF ∨ 2 ^ 36 < invPage b + invCount b then complete rq .badLength 0 s
  else if invScope b = 0 ∧ invCount b = 0 then complete rq .ok 0 s
  else
    let (acc, s) := nextAcc s
    complete rq .ok acc (dropXlt b { s with invals := tset s.invals acc ⟨⟨rq, s.time⟩, invStalls s b⟩ })

/-- An INVAL is served: the package number of its address is not checked (R306). -/
def serveInval (scope : Nat) (h : Hdr) (body : Nat) (act : Req → State → State) (s : State) : State :=
  serve ⟨0x17, h, body, 0, [], false⟩ { postedChecks (invalBad scope body) none false false [] with names := .anyPackage }
    32 64 act s

/-- INVAL_PAGES (R307). -/
def execInvalPages (h : Hdr) (body : Nat) (s : State) : Host.Outcome State Fault Refusal := .next (serveInval 0 h body doInval s)

/-- INVAL_CONTEXT (R307). -/
def execInvalContext (h : Hdr) (body : Nat) (s : State) : Host.Outcome State Fault Refusal :=
  .next (serveInval 1 h body doInval s)

/-- INVAL_TAKES_EFFECT (R309): every access that a dropped entry translated is performed, so the package signals. -/
def execInvalTakesEffect (acc : Nat) (s : State) : Host.Outcome State Fault Refusal :=
  .next (match tget s.invals acc with
    | none => s
    | some x =>
      if x.waits.any (fun k => (tget s.stalls k).isSome) then s
      else
        let b := x.posted.req.body
        let s := bump 0x3020 6 1 { s with invals := terase s.invals acc }
        if !bit b 39 then s
        else if bits b 51 40 = pkgNo s then oweSignal acc (bits b 38 24) (bits b 127 64) x.posted.req s
        else oweRemote acc (bits b 51 40) (bits b 38 24) (bits b 127 64) x.posted.req s)

end Sys2Proof.Machine
end

