-- ==== Sys2Proof/Machine/Meter.lean ====
section
/-! DEFINITION. Reads of DOMAIN objects; metering and its batches, freed composition entries, region entries and
sender-trusted mode (R403, R404, R413, R421, R422, R602, R603); what an idle tick counts. -/

namespace Sys2Proof.Machine

/-! ## Reads of a DOMAIN object (R468) -/

/-- The READ of a DOMAIN value of `n` bytes: the part from the request's offset, at most 8,160 bytes; an offset beyond the
last byte is past the end (log entry 47). -/
def readPart (c : Ctx) (n v : Nat) (s : State) : State :=
  match session s c.port c.id with
  | none => s
  | some x =>
    if 0 < c.segOffset ∧ n ≤ c.segOffset then fin c .badLength 0 s
    else
      let k := min 8160 (n - c.segOffset)
      dapReply c.port c.id
        ⟨c.port, c.id, x.lastSeq, c.index, c.sub, .ok, 0, c.segOffset, n, k, (v >>> (8 * c.segOffset)) % 2 ^ (8 * k)⟩ s

/-- A DOMAIN of at most 65,536 bytes: at offset 0 the session takes a snapshot, which later offsets read; one in place is
read as it stands. -/
def readDomain (c : Ctx) (n v : Nat) (s : State) : State :=
  match session s c.port c.id with
  | none => s
  | some x =>
    let key := okey c.index c.sub
    if 65536 < n then readPart c n v s
    else if c.segOffset = 0 then readPart c n v (setSession c.port c.id { x with snap := some (key, n, v) } s)
    else match x.snap with
      | some (k, n', v') => if k = key then readPart c n' v' s else readPart c n v s
      | none => readPart c n v s

/-! ## What is in service (R421) -/

/-- The posted commands accepted and not over. -/
def postedOpen (s : State) : List Req :=
  s.calls.map (fun e => e.2.posted.req) ++ s.registering.map (fun e => e.2.req) ++ s.retiring.map (fun e => e.2.req) ++
  s.loading.map (fun e => e.2.req) ++ s.attends.map (fun e => e.2.posted.req) ++ s.commits.map (fun e => e.2.req) ++
  s.placeQ.map (fun c => c.req) ++ s.streams.map (fun e => e.2.posted.req) ++ s.oreqs.map (fun e => e.2.posted.req) ++
  (s.otables.map (fun e => e.2.jobs.map (fun j => j.2.req))).flatten ++
  s.slots.filterMap (fun e => e.2.job.map (fun j => j.2.req)) ++ s.sops.map (fun e => e.2.posted.req) ++
  s.indexes.filterMap (fun e => e.2.job.map (fun j => j.2.req)) ++
  s.indexes.filterMap (fun e => e.2.mergeJob.map (fun j => j.2.req)) ++ s.invals.map (fun e => e.2.posted.req) ++
  (s.dma.map (fun e => e.2.map (fun d => d.req))).flatten

/-- A tick of 1 µs is counted for the composition of each request and posted command in service. -/
def countService (s : State) : State :=
  (s.openReqs.map (fun e => e.2.req) ++ postedOpen s).foldl (fun s rq =>
    match compOf s rq.hdr.requester with
    | some (_, e) => meter e.composition (countTick (servedC0 rq) s.time) s
    | none => s) s

/-- One Fumarole cycle without a command (R520, R514): the counter advances, and a new tick of 1 µs is counted. -/
def idle (s : State) : State :=
  if s.pkg = .off then s
  else
    let t := s.time / 1000
    let s := advance 20 s
    if s.time / 1000 = t then s else countService s

/-! ## Batches (R602, R603) -/

/-- The fingerprint of the alias key, by the firmware that runs (R578). -/
def aliasPrint (s : State) : Nat :=
  match s.fw.running with
  | some 1 => Config.aliasKey s.fw.b.digest s.fw.b.security % 2 ^ 512
  | _ => Config.aliasKey s.fw.a.digest s.fw.a.security % 2 ^ 512

/-- A batch: head, records, signature block. -/
def makeBatch (s : State) (records : List Nat) : Batch :=
  let n := records.length
  let first := match records with | r :: _ => bits r 191 128 | [] => 0
  let head := 0x5441424D + 2 ^ 32 + n * 2 ^ 288 + s.time % 2 ^ 64 * 2 ^ 320 + first * 2 ^ 384 + s.batchSeq % 2 ^ 64 * 2 ^ 448
  let body := records.foldr (fun r v => r % 2 ^ 512 + v * 2 ^ 512) 0
  let v := head + body * 2 ^ 512
  let size := 64 + 64 * n
  ⟨s.batchSeq, size + 3328, v + sigBlock 0xFD (aliasPrint s) (shake256 size v) * 2 ^ (8 * size)⟩

/-- The batch area of the serial NOR. -/
abbrev batchArea : Nat := 2 ^ 26

/-- batches_pending follows the batches kept. -/
def countBatches (s : State) : State := setObj 0xC011 3 s.batches.length s

/-- The oldest batches are overwritten until `n` bytes fit: each is counted and leaves a METER_GAP entry (R603, log entry 18). -/
def makeRoom (n : Nat) : Nat → State → State
  | 0, s => s
  | k + 1, s =>
    match s.batches with
    | [] => s
    | b :: r =>
      if (s.batches.map (·.bytes)).sum + n ≤ batchArea then s
      else
        let first := bits b.value 447 384
        let count := bits b.value 319 288
        makeRoom n k (appendLog 0x51 0 0 (b.seq % 2 ^ 64 + first * 2 ^ 64 + (first + count - 1) * 2 ^ 128)
          (bump 0xC011 4 1 { s with batches := r }))

/-- Closed records become a batch, which is kept; no record makes none. -/
def keepRecords (records : List Nat) (s : State) : State :=
  if records.isEmpty then s
  else
    let b := makeBatch s records
    let s := makeRoom b.bytes s.batches.length s
    raiseEvent 0xC010 4 0 (countBatches { s with batches := s.batches ++ [b], batchSeq := s.batchSeq + 1 })

/-- METER_PERIOD_END (R422): every composition with counts closes a record, in composition order. -/
def doMeterPeriod (s : State) : State :=
  let (records, s) := closeMeters (s.comps.map (·.1)) s
  keepRecords records { s with meterStart := s.time }

/-- METER_PERIOD_END (R422). -/
def execMeterPeriodEnd (s : State) : Host.Outcome State Fault Refusal :=
  .next (if s.pkg = .off then s else doMeterPeriod s)

/-- METER_ACK (R603): the oldest batch is released by its number. -/
def doMeterAck (c : Ctx) (s : State) : State :=
  match s.batches with
  | b :: r => if c.value = b.seq then applied c (fun s => countBatches { s with batches := r }) s else finBad c s
  | [] => finBad c s

/-- METER_ACK (R603). -/
def execMeterAck (d : DapMsg) (s : State) : Host.Outcome State Fault Refusal :=
  .next (dapServe dapWrite (toObj d 0xC011 2) doMeterAck s)

/-- METER_BATCH_READ (R603): the oldest batch in place; a session that read on in a batch that was overwritten learns it. -/
def doBatchRead (c : Ctx) (s : State) : State :=
  match session s c.port c.id with
  | none => s
  | some x =>
    let began := match x.snap with | some (k, q, _) => if k = okey 0xC011 1 then some q else none | none => none
    match s.batches with
    | [] => if c.segOffset = 0 then readPart c 0 0 s else fin c .checkFail 0 s
    | b :: _ =>
      if c.segOffset ≠ 0 ∧ began.isSome ∧ began ≠ some b.seq then fin c .checkFail 0 s
      else readPart c b.bytes b.value (setSession c.port c.id { x with snap := some (okey 0xC011 1, b.seq, 0) } s)

/-- METER_BATCH_READ (R603). -/
def execMeterBatchRead (d : DapMsg) (s : State) : Host.Outcome State Fault Refusal :=
  .next (dapServe dapRead (toObj d 0xC011 1) doBatchRead s)

/-! ## Freed entries (R413, R431, R455) -/

/-- The queue pairs of a requester whose entry is freed enter ERROR with EPOCH_STALE (R431). -/
def errorQps (requester : Nat) (s : State) : State :=
  s.qps.foldl (fun s e => if e.2.st = 1 ∧ bits e.2.entry 47 32 = requester then qpError e.1 (statusCode .epochStale) s else s) s

/-- A draining entry is freed; with a composition's last one its record closes (R422). -/
def doEntryFree (requester : Nat) (s : State) : State :=
  match compOf s requester with
  | none => s
  | some (i, e) =>
    if !e.draining then s
    else
      let s := errorQps requester (closeTenants requester { s with compTab := terase s.compTab i })
      let s := raiseEvent 0x7030 6 0 s
      if entriesOf s e.composition ≠ 0 then s
      else let (records, s) := closeMeters [e.composition] s
        keepRecords records s

/-- ENTRY_DRAIN_FREE (R413). -/
def execEntryDrainFree (requester : Nat) (s : State) : Host.Outcome State Fault Refusal := .next (doEntryFree requester s)

/-! ## Region entries and sender-trusted mode (R400, R403, R404, R426) -/

/-- An entry that a write may not hold (R400, R426). -/
def regionBad (s : State) (v : Nat) : Bool :=
  let base := bits v 239 192
  let len := bits v 175 128
  bits v 255 240 != 0 || bits v 191 176 != 0 || bits v 127 96 != 0 || bits v 77 76 != 0 || bits v 63 5 != 0 ||
  base % 64 != 0 || len % 64 != 0 ||
  (decide (memRange s < base + len) && !(decide (windowBase ≤ base) && decide (base + len ≤ 2 ^ 48)))

/-- REGION_ENTRY_WRITE (R403). -/
def doRegionEntry (c : Ctx) (s : State) : State :=
  if regionBad s c.value then finBad c s
  else applied c (fun s =>
    let s := { s with regions := tset s.regions (obj s 0x7020 1) c.value }
    setObj 0x7020 5 (s.regions.filter (fun e => bit e.2 4)).length s) s

/-- REGION_ENTRY_WRITE (R403). -/
def execRegionEntryWrite (d : DapMsg) (s : State) : Host.Outcome State Fault Refusal :=
  .next (dapServe dapWrite (toObj d 0x7020 2) doRegionEntry s)

/-- TRUST_MODE_WRITE (R404): 1 within an attested session alone, and with no entry of a composition other than 0; every
change is appended to the custody log. -/
def doTrustMode (c : Ctx) (s : State) : State :=
  let set (s : State) : State :=
    if obj s 0x7020 3 = c.value then s else appendLog 0x22 c.actor c.tenant c.value (setObj 0x7020 3 c.value s)
  if 1 < c.value then finBad c s
  else if c.value = 0 then applied c set s
  else if c.actor ≠ 2 then finBad c s
  else if s.compTab.any (fun e => e.2.composition != 0) then fin c .defer 0 s
  else applied c set s

/-- TRUST_MODE_WRITE (R404). -/
def execTrustModeWrite (d : DapMsg) (s : State) : Host.Outcome State Fault Refusal :=
  .next (dapServe dapGuarded (toObj d 0x7020 3) doTrustMode s)

end Sys2Proof.Machine
end

