-- ==== Sys2Proof/Machine/Sync.lean ====
section
/-! DEFINITION. The synchronisation commands: SYNC, WAIT, the signals of commands, notifications that fail, and the
deadlock detector (chapter 11). -/

namespace Sys2Proof.Machine

def syncIndex (body : Nat) : Nat := bits body 14 0
def syncOperand (body : Nat) : Nat := bits body 127 64

/-- Reserved fields of a SYNC body (R368). -/
def syncBad (op body : Nat) : Bool :=
  bits body 255 128 != 0 || bits body 63 28 != 0 || bits body 23 15 != 0 || bits body 27 24 != op

/-- The checks of an operation that names an object (R388, R389, R400, R508). -/
def syncChecks (bad : Bool) (n : Nat) : Checks :=
  { badField := bad, names := .package, maxLen := none, one := false, absent := false, targets := [homeDom (n % 8)],
    perm := some 3, also := none, badBody := false }

/-- A SYNC operation served at its object's home. -/
def serveSync (op : Nat) (h : Hdr) (body : Nat) (act : Req → State → State) (s : State) : State :=
  serve ⟨0x08, h, body, 0, [], false⟩ (syncChecks (syncBad op body) (syncIndex body)) 32 64 act s

/-- An operation that the ownership rule refuses (R367). -/
def blocked (rq : Req) (s : State) : State := complete rq .tenantBlocked 0 (raiseEvent 0x6020 6 0 (bump 0x6020 9 1 s))

/-- The signaller of a link request. -/
def linkSignaller (rq : Req) : Signaller := ⟨rq.hdr.requester, rq.hdr.tenant, 1, 0⟩

/-- ADD (R369). -/
def doSyncAdd (rq : Req) (s : State) : State :=
  let n := syncIndex rq.body
  let o := syncObj s n
  if o.owner = some rq.hdr.tenant then
    complete rq .ok o.value
      (applySignal n ((o.value + syncOperand rq.body) % 2 ^ 64) o.owner (syncOperand rq.body) (linkSignaller rq) s)
  else blocked rq s

/-- SET (R369). -/
def doSyncSet (rq : Req) (s : State) : State :=
  let n := syncIndex rq.body
  let o := syncObj s n
  if o.owner = some rq.hdr.tenant then
    complete rq .ok o.value (applySignal n (syncOperand rq.body) o.owner (syncOperand rq.body) (linkSignaller rq) s)
  else blocked rq s

/-- CLAIM (R369): of an unowned object it records the owner. -/
def doSyncClaim (rq : Req) (s : State) : State :=
  let n := syncIndex rq.body
  let o := syncObj s n
  match o.owner with
  | none => complete rq .ok o.value
      (applySignal n (syncOperand rq.body) (some rq.hdr.tenant) (syncOperand rq.body) (linkSignaller rq) s)
  | some t => if t = rq.hdr.tenant then complete rq .unsupported 0 s else blocked rq s

/-- RELEASE (R369): refused while there is a waiter. -/
def doSyncRelease (rq : Req) (s : State) : State :=
  let n := syncIndex rq.body
  let o := syncObj s n
  if o.owner = some rq.hdr.tenant then
    if o.waiters.isEmpty then complete rq .ok o.value (applySignal n 0 none (syncOperand rq.body) (linkSignaller rq) s)
    else complete rq .unsupported 0 s
  else blocked rq s

/-- A remote waiter of a requester with a tag (R369, R371). -/
def isWaiter (requester tag : Nat) (w : Waiter) : Bool :=
  match w.kind with
  | .write r _ _ t _ => r == requester && t == tag
  | .doorbell r _ _ t _ => r == requester && t == tag
  | _ => false

/-- CANCEL (R369): no signal; the result is the number of waiters removed. -/
def doSyncCancel (rq : Req) (s : State) : State :=
  let n := syncIndex rq.body
  let o := syncObj s n
  if o.owner = some rq.hdr.tenant then
    let stay := o.waiters.filter (fun w => !isWaiter rq.hdr.requester (syncOperand rq.body) w)
    complete rq .ok (o.waiters.length - stay.length) (setSync n { o with waiters := stay } s)
  else blocked rq s

/-- A SYNC body's operation (R368). -/
def doSync (rq : Req) (s : State) : State :=
  match bits rq.body 27 24 with
  | 1 => doSyncAdd rq s
  | 2 => doSyncSet rq s
  | 3 => doSyncClaim rq s
  | 4 => doSyncRelease rq s
  | _ => doSyncCancel rq s

/-- SYNC_ADD (R369). -/
def execSyncAdd (h : Hdr) (body : Nat) (s : State) : Host.Outcome State Fault Refusal := .next (serveSync 1 h body doSyncAdd s)
/-- SYNC_SET (R369). -/
def execSyncSet (h : Hdr) (body : Nat) (s : State) : Host.Outcome State Fault Refusal := .next (serveSync 2 h body doSyncSet s)
/-- SYNC_CLAIM (R369). -/
def execSyncClaim (h : Hdr) (body : Nat) (s : State) : Host.Outcome State Fault Refusal :=
  .next (serveSync 3 h body doSyncClaim s)
/-- SYNC_RELEASE (R369). -/
def execSyncRelease (h : Hdr) (body : Nat) (s : State) : Host.Outcome State Fault Refusal :=
  .next (serveSync 4 h body doSyncRelease s)
/-- SYNC_CANCEL (R369). -/
def execSyncCancel (h : Hdr) (body : Nat) (s : State) : Host.Outcome State Fault Refusal :=
  .next (serveSync 5 h body doSyncCancel s)

/-- Reserved fields and codes of a WAIT body (R370). -/
def waitBad (b : Nat) : Bool :=
  bits b 351 348 != 0 || bits b 287 30 != 0 || bits b 27 26 != 0 || bits b 23 15 != 0 ||
  !([1, 2].contains (bits b 29 28)) || !([1, 2].contains (bits b 25 24))

/-- WAIT (R371). -/
def doWait (rq : Req) (s : State) : State :=
  let b := rq.body
  let n := syncIndex b
  let o := syncObj s n
  let tag := bits b 511 448
  if bits b 347 288 % 64 ≠ 0 then complete rq .unsupported 0 s
  else if o.owner ≠ some rq.hdr.tenant then blocked rq s
  else if condHolds (bits b 25 24) o.value (bits b 447 384) then complete rq .ok o.value s
  else if o.waiters.any (isWaiter rq.hdr.requester tag) then complete rq .unsupported 0 s
  else if 64 ≤ o.waiters.length then deferReq rq 1 s
  else
    let k := if bits b 29 28 = 1 then WaiterKind.write rq.hdr.requester (bits b 347 288) (bits b 383 352) tag rq.hdr.tenant
      else WaiterKind.doorbell rq.hdr.requester (bits b 347 288) (bits b 383 352) tag rq.hdr.tenant
    complete rq .ok o.value (bump 0x6020 0xA 1
      (setSync n { o with waiters := o.waiters ++ [⟨k, bits b 25 24, bits b 447 384, s.time⟩] } s))

/-- WAIT (R371). -/
def execWait (h : Hdr) (body : Nat) (s : State) : Host.Outcome State Fault Refusal :=
  .next (serve ⟨0x09, h, body, 0, [], false⟩ (syncChecks (waitBad body) (syncIndex body)) 64 64 doWait s)

/-- COMMAND_SIGNAL (R376): every write of a command has been acknowledged, so the signal it owes is applied; it waits
for a record that is stalled, and for a home that sleeps, which is woken. -/
def execCommandSignal (acc : Nat) (s : State) : Host.Outcome State Fault Refusal :=
  .next (match tget s.owed acc with
    | none => s
    | some o =>
      if writeStalled s acc then s
      else if o.package ≠ obj s 0x1021 1 ∨ awake s (homeDom (o.object % 8)) then settleOwed acc o s
      else wake (homeDom (o.object % 8)) s)

/-- NOTIFICATION_TIMEOUT (R372): a notification that was sent has received no completion in time. -/
def execNotificationTimeout (object : Nat) (s : State) : Host.Outcome State Fault Refusal :=
  .next (match s.notified.find? (fun e => e.1 == object) with
    | none => s
    | some e => notifyFailed { s with notified := s.notified.erase e })

end Sys2Proof.Machine
end

