-- ==== Sys2Proof/Machine/Domain.lean ====
section
/-! DEFINITION. The domain: formation, dissolution, its generation, its agents (R320 to R324, R347 to R351, R424); the
debugger view and the deadlock detector (R378 to R381). -/

namespace Sys2Proof.Machine

/-! ## What the master sends (R322 to R324, log entry 33)

The `what` of a member message: 1 an agent's state, 2 an owner record, 3 the domain state, 8 the generation, 9 data_source,
10 a member's package in the member list, 11 an agent entry. -/

/-- The counter of the domain advances at the master, its awake dies take it up, and every member is sent it (R323); no remote copy
is usable any more (R354). -/
def takeUp (g : Nat) (s : State) : State :=
  { setObj 0x6010 8 g s with
    copies := []
    doms := s.doms.map (fun e => if e.2.st ≤ 1 then (e.1, { e.2 with generation := g }) else e), votes := [] }

/-- votes_held follows the votes. -/
def countVotes (s : State) : State := setObj 0xA041 2 s.votes.length s

/-- The generation advances. -/
def nextGeneration (s : State) : State :=
  let g := (obj s 0x6010 8 + 1) % 2 ^ 32
  tellMembers 8 0 g (countVotes (takeUp g s))

/-! ## Formation (R322, R424) -/

/-- The numbers that domain_digest covers, with their widths in bytes. -/
def digestParts (s : State) : List (Nat × Nat) :=
  [(2, obj s 0x6010 1), (1, obj s 0x6010 2), (1, obj s 0x6010 6)] ++
  (List.range 8).map (fun m => (2, obj s 0x6011 (m + 1))) ++
  (List.range 32).map (fun a => (8, setBits (agentEntry s a) 33 32 0)) ++
  [(1600, obj s 0x6013 0), (1, obj s 0x6015 1), (1, obj s 0x6015 2), (8, obj s 0x6015 3)]

/-- domain_digest (R322). -/
def domainDigest (s : State) : Nat :=
  let ps := digestParts s
  crc32c (ps.map (·.1)).sum (ps.foldr (fun p v => p.2 % 2 ^ (8 * p.1) + v * 2 ^ (8 * p.1)) 0)

/-- The cascade objects of a DEEP domain are in order (R424). -/
def cascadeOk (s : State) : Bool :=
  let f := obj s 0x6015 2
  obj s 0x6015 1 != 2 ||
  (decide (1 ≤ f) && decide (f + 1 ≤ obj s 0x6010 2) && obj s 0x6015 3 % extentBytes == 0 &&
    (List.range f).all (fun m => decide (obj s 0x6015 3 ≤ rangeOf s m)))

/-- Every other member has answered. -/
def allAnswered (s : State) (answers : List MemberAnswer) : Bool :=
  (List.range (obj s 0x6010 2)).all (fun m => m == obj s 0x6010 3 || answers.any (fun a => a.index == m))

/-- A write of 1 to domain_form at the master. -/
def doForm (answers : List MemberAnswer) (c : Ctx) (s : State) : State :=
  if obj s 0x6010 2 = 0 then finOk c s
  else
    let was := if obj s 0x6010 7 = 1 then s.formFrom else obj s 0x6010 7
    let s := tellMembers 3 0 1 (drawRanges (setObj 0x6010 7 1 { s with memberRanges := [], dissolving := false, formFrom := was }))
    if !allAnswered s answers then s
    else
      let good := obj s 0x6011 (obj s 0x6010 3 + 1) == pkgNo s && cascadeOk s &&
        answers.all (fun a => decide (obj s 0x6010 2 ≤ a.index) || (a.listed && a.digest == domainDigest s))
      if good then finOk c (tellMembers 3 0 2 (setObj 0x6010 7 2 (nextGeneration s)))
      else fin c .checkFail 0 (raiseEvent 0x6010 0xB 0 s)

/-- A write of 0 at the master: every entry is recalled, and then the domain is ALONE. -/
def dissolve (s : State) : State :=
  settleDissolve (recallAll none { s with dissolving := true })

/-- A package that its domain has expelled refuses to rejoin it (R16). -/
def barred (s : State) : Bool := s.pkg == .expelled

/-- A write to domain_form. -/
def doDomainForm (answers : List MemberAnswer) (c : Ctx) (s : State) : State :=
  if !isMaster s ∨ 1 < c.value ∨ barred s then finBad c s
  else if c.value = 1 then doForm answers c s
  else dissolve (tellMembers 3 0 0 s)

/-- DOMAIN_FORM (R322). -/
def execDomainForm (d : DapMsg) (answers : List MemberAnswer) (s : State) : Host.Outcome State Fault Refusal :=
  .next (dapServe dapWrite (toObj d 0x6010 0xA) (doDomainForm answers) s)

/-- A formation waits for its members' answers: a session waits for its request to domain_form. -/
def formWaits (s : State) : Bool :=
  (s.dict.i3c ++ s.dict.eth).any (fun e => e.2.busy == some (okey 0x6010 0xA))

/-- DOMAIN_FORM_TIMEOUT (R322): a formation that a member has not answered ends with DEFER, and has changed nothing (R11):
domain_state is what it was. -/
def execDomainFormTimeout (s : State) : Host.Outcome State Fault Refusal :=
  .next (if obj s 0x6010 7 = 1 ∧ formWaits s then
      dapFinishKey (okey 0x6010 0xA) .defer 0 (tellMembers 3 0 s.formFrom (setObj 0x6010 7 s.formFrom s))
    else s)

/-- DOMAIN_DISSOLVE (R322). -/
def execDomainDissolve (d : DapMsg) (s : State) : Host.Outcome State Fault Refusal :=
  .next (dapServe dapWrite (toObj d 0x6010 0xA) (doDomainForm []) s)

/-! ## Agents (R324, R347 to R351) -/

/-- A home's walk for an agent that has died (R349): its E and M lines are poisoned and their entries freed, its other
pointers cleared. -/
def agentDies (a : Nat) (s : State) : State :=
  s.dir.foldl (fun s e =>
    if 3 ≤ e.2.st then
      if e.2.ptrs.head? = some a then bump 0x6014 8 1 (writePoison (64 * e.1) (dropDir e.1 s)) else s
    else if e.2.ptrs.contains a then
      let ps := e.2.ptrs.filter (fun p => p != a)
      let st := if e.2.st = 2 ∧ e.2.ptrs.head? = some a then 1 else e.2.st
      if ps.isEmpty ∧ !e.2.broadcast then dropDir e.1 s else setDir e.1 { e.2 with ptrs := ps, st := st } s
    else s) s

/-- An agent is dead at this package from now on. -/
def takeDead (a : Nat) (s : State) : State := raiseEvent 0x6010 0xB 0 (agentDies a (setAgentState a 3 s))

/-- The master declares an agent dead (R349). -/
def declareDead (a : Nat) (s : State) : State := takeDead a (tellMembers 1 a 3 (nextGeneration s))

/-! ## What the master sends with a generation (R323, R349, R567, R569, R571, R574) -/

/-- An entry's partner package. -/
def setPartner (p : Nat) (o : PObject) : PObject := { o with entry := setBits o.entry 207 196 (p % 4096) }

/-- Objects of this package partnered with a package, or in a P2 group, which every member is part of (R205, R567). -/
def tiedTo (p : Nat) (o : PObject) : Bool :=
  (entryProt o.entry == 1 && bits o.entry 207 196 == p) || entryProt o.entry == 2

/-- The objects tied to a package become DEGRADED (R567). -/
def degradeTied (p : Nat) (s : State) : State :=
  settle ((s.placed.filter (fun e => tiedTo p e.2)).foldl (fun s e => degrade e.1 s) s)

/-- The objects that the master writes at the members: data_source, the member list, the agents, the domain range; at a package
that joins the domain's number, its size and its hop table too. -/
def domainObject (joins : Bool) (key : Nat) : Bool :=
  key == okey 0x6010 6 || (joins && [okey 0x6010 1, okey 0x6010 2, okey 0x6013 0].contains key) ||
    ([0x6011, 0x6012, 0x6015].contains (key / 256) && key % 256 != 0)

/-- One of them is written: a member that is removed leaves the objects tied to it DEGRADED; this package, removed, is ALONE
(R567, R575). -/
def takeObject (e : Nat × Nat) (s : State) : State :=
  let was := obj s (e.1 / 256) (e.1 % 256)
  let gone := e.1 / 256 == 0x6011 && e.2 == vacantMember && was != vacantMember
  let s := setObj (e.1 / 256) (e.1 % 256) e.2 s
  if !gone then s
  else if e.1 % 256 = obj s 0x6010 3 + 1 then setObj 0x6010 7 0 s
  else degradeTied was s

/-- They are all written. -/
def takeObjects (joins : Bool) (os : List (Nat × Nat)) (s : State) : State :=
  (os.filter (fun e => domainObject joins e.1)).foldl (fun s e => takeObject e s) s

/-- The partner packages that the master rewrites (R569). -/
def takePartners (ps : List (Nat × Nat)) (s : State) : State :=
  ps.foldl (fun s p => { s with placed := tmod s.placed p.1 (setPartner p.2) }) s

/-- An extent of P0 data that is lost (R571): poisoned in a near frame, unless near_free_target would be crossed. -/
def loseExtent (ext : Nat) (s : State) : State :=
  bump 0xA010 0xA extentBytes (placeLost ext (decide (obj s 0x3010 7 < nearFree s)) (makeZero ext s))

/-- An extent of P1 or P2 data or parity starts unrebuilt, in a near frame where one is free, else as R184 places it. -/
def startUnrebuilt (ext : Nat) (s : State) : State :=
  let s := makeZero ext s
  if frameFree s (layoutOf s ext) then { makeNear ext s with unrebuilt := tset s.unrebuilt ext [] }
  else placePoisoned ext s

/-- An entry of the member whose place the package takes is active here (R569, R574): its extents start as R570 and R571 say where
they are rebuilt; where they are copied they stay as they are until the copy arrives. -/
def joinObject (rebuild : Bool) (e : Nat × Nat × List Nat) (s : State) : State :=
  let x := e.2.1
  let prot := entryProt x
  let o : PObject := ⟨x, entryTenant x, bits x 10 8, rebuild && prot != 0, 0, e.2.2⟩
  let s := { s with placed := tset s.placed e.1 o }
  if !rebuild then s
  else
    let run (first n : Nat) (f : Nat → State → State) (s : State) : State :=
      (List.range n).foldl (fun s i => f (first + i) s) s
    if prot = 0 then run (extentOf (entryBase x)) (entryCount x) loseExtent s
    else
      let s := run (extentOf (entryBase x)) (entryCount x) startUnrebuilt s
      if prot = 2 then run (extentOf (entryProtAt x)) (entryCount x / 3) startUnrebuilt s else s

/-- A READY package that is ALONE joins (R569, R574): it holds the entries, and where a member's index comes with them it is that
member from now on. -/
def joinDomain (g : Nat) (news : DomainNews) (j : Joining) (s : State) : State :=
  let s := match j.index with
    | some m => takeObjects true news.objects (setObj 0x6010 3 m (setObj 0x6010 7 2 s))
    | none => s
  let s := j.entries.foldl (fun s e => joinObject j.rebuild e s) s
  if j.index.isSome then countVotes (takeUp g { s with memberRanges := [] }) else s

/-- GENERATION_TAKE_UP (R323, R349), with what else the master sends at a change of the domain. -/
def execGenerationTakeUp (generation : Nat) (news : DomainNews) (s : State) :
    Host.Outcome State Fault Refusal :=
  .next (if barred s then s
    else if obj s 0x6010 7 = 0 then
      match news.join with
      | some j => if s.pkg = .ready ∧ undisturbed s then joinDomain generation news j s else s
      | none => s
    else
      let s := news.dead.foldl (fun s a => takeDead a s) (countVotes (takeUp generation { s with memberRanges := [] }))
      takePartners news.partners (takeObjects false news.objects s))

/-- A guarded write of an agent entry (R324, R351). -/
def doAgentEntry (c : Ctx) (s : State) : State :=
  let a := c.sub - 1
  let old := agentEntry s a
  let st := bits c.value 33 32
  if bits c.value 63 34 ≠ 0 ∨ bits c.value 31 28 ≠ 0 ∨ barred s then finBad c s
  else if obj s 0x6010 7 ≠ 2 then
    if 2 ≤ st then finBad c s else applied c (setObj 0x6012 c.sub c.value) s
  else if bits c.value 31 0 ≠ bits old 31 0 then fin c .defer 0 s
  else if !isMaster s then finBad c s
  else if st = 3 ∧ (agentState s a = 1 ∨ agentState s a = 2) then applied c (declareDead a) s
  else if st = 1 ∧ agentState s a = 2 then applied c (fun s => tellMembers 1 a 1 (setAgentState a 1 s)) s
  else finBad c s

/-- A message that writes an agent entry. -/
def serveAgent (d : DapMsg) (s : State) : State := dapServe dapGuarded (toObj d 0x6012 d.sub) doAgentEntry s

/-- DECLARE_AGENT_DEAD (R349). -/
def execDeclareAgentDead (d : DapMsg) (s : State) : Host.Outcome State Fault Refusal := .next (serveAgent d s)

/-- AGENT_REACTIVATE (R348). -/
def execAgentReactivate (d : DapMsg) (s : State) : Host.Outcome State Fault Refusal := .next (serveAgent d s)

/-- AGENT_ENTRY_WRITE (R351). -/
def execAgentEntryWrite (d : DapMsg) (s : State) : Host.Outcome State Fault Refusal := .next (serveAgent d s)

/-- A write of data_source (R323, R324). -/
def doDataSource (c : Ctx) (s : State) : State :=
  if 1 < c.value ∨ barred s then finBad c s
  else if obj s 0x6010 7 ≠ 2 then applied c (setObj 0x6010 6 c.value) s
  else if !isMaster s then finBad c s
  else if obj s 0x6010 6 = c.value then applied c id s
  else applied c (fun s => tellMembers 9 0 c.value (nextGeneration (setObj 0x6010 6 c.value s))) s

/-- DATA_SOURCE_WRITE (R324). -/
def execDataSourceWrite (d : DapMsg) (s : State) : Host.Outcome State Fault Refusal :=
  .next (dapServe dapWrite (toObj d 0x6010 6) doDataSource s)

/-- A write of master_confirm (R321). -/
def doMasterConfirm (c : Ctx) (s : State) : State :=
  if (c.value = 1 ∧ obj s 0x6010 4 = 0) ∨ barred s then finBad c s else applied c (setObj 0x6010 5 c.value) s

/-- MASTER_CONFIRM_WRITE (R321). -/
def execMasterConfirmWrite (d : DapMsg) (s : State) : Host.Outcome State Fault Refusal :=
  .next (dapServe dapGuarded (toObj d 0x6010 5) doMasterConfirm s)

/-! ## The deadlock detector (R378, R379) -/

/-- The objects of this package that an accepted command names for its signals. -/
def signalObjects (s : State) (rq : Req) : List Nat :=
  let b := rq.body
  let here (on : Bool) (p o : Nat) : List Nat := if on && p == pkgNo s then [o] else []
  match rq.op with
  | 0x10 => if attnOp b = 3 then here (bit b 303) (pkgNo s) (bits b 302 288)
      else here true (atBase b / 2 ^ 48) (atSync b) ++ here true (atOut b / 2 ^ 48) (bits b 414 400)
  | 0x11 => here (bit b 367) (orOut b / 2 ^ 48) (bits b 366 352)
  | 0x12 => here (bit b 383) (seOut b / 2 ^ 48) (bits b 382 368)
  | 0x16 => here (bit b 31) (if stOp b = 1 then stDest b / 2 ^ 48 else pkgNo s) (bits b 30 16)
  | 0x17 => here (bit b 39) (bits b 51 40) (bits b 38 24)
  | 0x18 => here (bit b 158) (pkgNo s) (bits b 157 143)
  | _ => here (bit b 31) (pkgNo s) (bits b 30 16)

/-- The tiles of the clusters that serve a tenant's handles (R109). -/
def tenantTiles (s : State) (t : Nat) : List Nat :=
  let cs := ((s.handles.filter (fun e => e.2.st != .unbound && e.2.tenant == t)).map
    (fun e => (e.2.current ++ e.2.staged).map (·.2))).flatten.eraseDups
  (cs.map (fun c => (List.range 16).map (fun i => 16 * c + i))).flatten

/-- A tile holds work: its cluster runs a call, or it has accesses of its own. -/
def tileBusy (s : State) (t : Nat) : Bool :=
  s.calls.any (fun e => e.2.clusters.contains (t / 16)) || !(pendingOf s t).isEmpty || !(tile s t).loads.isEmpty

/-- The objects that a tenant's engines wait on, as many times as engines wait. -/
def tenantWaits (s : State) (t : Nat) : List Nat := (tenantTiles s t).filterMap (fun x => (tile s x).waiting)

/-- The condition of R378 holds for a tenant. -/
def deadlocked (s : State) (t : Nat) : Bool :=
  let ws := tenantWaits s t
  !ws.isEmpty &&
  (tenantTiles s t).all (fun x => (tile s x).waiting.isSome && (pendingOf s x).isEmpty || !tileBusy s x) &&
  !s.dma.any (fun e => e.2.any (fun d => d.req.hdr.tenant == t)) &&
  !(postedOpen s).any (fun r => r.hdr.tenant == t && (signalObjects s r).any (fun o => ws.contains o)) &&
  !s.owed.any (fun e => e.2.package == obj s 0x1021 1 && e.2.tenant == t && ws.contains e.2.object) &&
  !ws.any (fun o => (syncObj s o).recent)

/-- A list of numbers rising, without repeats. -/
def rising (xs : List Nat) : List Nat := xs.foldl sadd []

/-- The report record (R379). -/
def deadlockRecord (s : State) (t scans : Nat) : Nat :=
  let ws := tenantWaits s t
  let os := rising ws
  let awaited := ((os.take 8).zipIdx.map (fun p => p.1 * 2 ^ (15 * p.2))).sum
  s.time % 2 ^ 64 * 2 ^ 448 + awaited * 2 ^ 312 + scans % 2 ^ 32 * 2 ^ 256 + min os.length 0xFF * 2 ^ 56
    + ws.length % 2 ^ 16 * 2 ^ 32 + t

/-- One tenant at a scan, judged in the state at the scan. -/
def scanTenant (at_ : State) (s : State) (t : Nat) : State :=
  if deadlocked at_ t then
    let x := tgetD s.deadlock t ⟨0, false⟩
    let n := x.scans + 1
    if 2 ≤ n ∧ !x.reported then
      raiseEvent 0x6020 7 0 (bump 0x6020 0xC 1 (setObj 0x6021 3 (deadlockRecord at_ t n)
        { s with deadlock := tset s.deadlock t ⟨n, true⟩ }))
    else { s with deadlock := tset s.deadlock t ⟨n, x.reported⟩ }
  else { s with deadlock := terase s.deadlock t }

/-- DEADLOCK_SCAN (R378, R379). -/
def doDeadlockScan (s : State) : State :=
  if obj s 0x6020 5 = 0 then s
  else
    let ts := rising (s.handles.map (fun e => e.2.tenant) ++ s.deadlock.map (·.1))
    let s' := ts.foldl (scanTenant s) s
    { s' with sync := s'.sync.map (fun e => (e.1, { e.2 with recent := false })) }

/-- DEADLOCK_SCAN (R378). -/
def execDeadlockScan (s : State) : Host.Outcome State Fault Refusal := .next (doDeadlockScan s)

/-! ## The debugger view (R380) -/

/-- A waiter's entry of 16 bytes. -/
def viewWaiter (s : State) (w : Waiter) : Nat :=
  let (kind, unit, requester) : Nat × Nat × Nat := match w.kind with
    | .tile t => (1, t, 0)
    | .dma c => (2, c, 0)
    | .write r _ _ _ _ => (3, 0, r)
    | .doorbell r _ _ _ _ => (4, 0, r)
  min ((s.time - w.since) / 1000) (2 ^ 26 - 1) + w.cond * 2 ^ 26 + kind * 2 ^ 28 + unit * 2 ^ 32 + requester * 2 ^ 48
    + w.target * 2 ^ 64

/-- The snapshot of an object: its bytes and their number. -/
def syncView (s : State) (n : Nat) : Nat × Nat :=
  let o := syncObj s n
  let head := n + o.waiters.length * 2 ^ 16 + b2n o.owner.isSome * 2 ^ 31 + o.owner.getD 0 * 2 ^ 32 + o.lastUnit * 2 ^ 144
    + o.lastKind * 2 ^ 160 + o.lastTenant * 2 ^ 164 + o.lastRequester * 2 ^ 176 + o.lastOperand * 2 ^ 192
    + o.count * 2 ^ 256 + o.lastTime * 2 ^ 320 + s.time % 2 ^ 64 * 2 ^ 384 + o.value * 2 ^ 448
  (64 + 16 * o.waiters.length, head + 2 ^ 512 * o.waiters.foldr (fun w v => viewWaiter s w + v * 2 ^ 128) 0)

/-- SYNC_VIEW_READ (R380, R455). -/
def doSyncView (c : Ctx) (s : State) : State :=
  let n := obj s 0x6021 1
  if c.actor = 3 ∧ (syncObj s n).owner ≠ some c.tenant then fin c .tenantBlocked 0 s
  else readDomain c (syncView s n).1 (syncView s n).2 s

/-- SYNC_VIEW_READ (R380). -/
def execSyncViewRead (d : DapMsg) (s : State) : Host.Outcome State Fault Refusal :=
  .next (dapServe dapRead (toObj d 0x6021 2) doSyncView s)

/-- SYNC_COUNTERS_CLEAR (R381). -/
def execSyncCountersClear (d : DapMsg) (s : State) : Host.Outcome State Fault Refusal :=
  .next (clearObj d 0x6020 0xD (clearObjs 0x6020 [8, 9, 0xA, 0xB, 0xC]) s)

end Sys2Proof.Machine
end

