-- ==== Sys2Proof/Machine/Opcode.lean ====
section
/-! DEFINITION. A request by its opcode: the meaning of the row that its opcode and its body's operation name (R388). -/

namespace Sys2Proof.Machine

/-- The state that a meaning answers. -/
def after (s : State) (o : Host.Outcome State Fault Refusal) : State :=
  match o with
  | .next t => t
  | _ => s

/-- A synchronisation request by its operation (R368). -/
def performSync (h : Hdr) (body : Nat) (s : State) : Host.Outcome State Fault Refusal :=
  match bits body 27 24 with
  | 2 => execSyncSet h body s
  | 3 => execSyncClaim h body s
  | 4 => execSyncRelease h body s
  | 5 => execSyncCancel h body s
  | _ => execSyncAdd h body s

/-- An attention request by its operation (R142). -/
def performAttn (h : Hdr) (body : Nat) (s : State) : Host.Outcome State Fault Refusal :=
  match attnOp body with
  | 2 => execAppend h body s
  | 3 => execCommit h body s
  | 4 => execDiscard h body s
  | 5 => if bit body 24 then execArenaActivate h body s else execArenaDeactivate h body s
  | _ => execAttend h body s

/-- An Oryx request by its operation (R242). -/
def performOryx (h : Hdr) (body : Nat) (s : State) : Host.Outcome State Fault Refusal :=
  match orOp body with
  | 2 => execPool h body s
  | 3 => execScatter h body s
  | 4 => execUpdate h body s
  | 5 => execOryxDelete h body s
  | 6 => if orSub body = 1 then execTableReplace h body s else if orSub body = 2 then execTableDeactivate h body s
      else execTableActivate h body s
  | _ => execGather h body s

/-- A search request by its operation (R276). -/
def performSearch (h : Hdr) (body : Nat) (s : State) : Host.Outcome State Fault Refusal :=
  match seOp body with
  | 2 => execInsert h body s
  | 3 => execSearchDelete h body s
  | 4 => if seSub body = 1 then execIndexDeactivate h body s else if seSub body = 2 then execIndexMerge h body s
      else execIndexActivate h body s
  | _ => execQuery h body s

/-- A configuration request by its operation (R113). -/
def performCfg (h : Hdr) (body : Nat) (s : State) : Host.Outcome State Fault Refusal :=
  match cfgOp body with
  | 2 => execConfigRetire h body s
  | 3 => execLoad h body s
  | 4 => execUnbind h body s
  | _ => execRegister h body s

/-- A placement request by its operation (R179). -/
def performPlace (h : Hdr) (body : Nat) (s : State) : Host.Outcome State Fault Refusal :=
  match plOp body with
  | 2 => execObjectDeactivate h body s
  | 3 => execSetPolicy h body s
  | 4 => execMigrate h body s
  | 5 => execShadowRegister h body s
  | 6 => execShadowRetire h body s
  | 7 => execShadowValidate h body s
  | _ => execObjectActivate h body s

/-- A stream request by its operation (R227). -/
def performStream (h : Hdr) (body : Nat) (s : State) : Host.Outcome State Fault Refusal :=
  match stOp body with
  | 2 => execTableInstall h body s
  | 3 => execTableSlotRetire h body s
  | _ => execStreamRead h body s

/-- A COMPOSE by its operation (R412). -/
def performCompose (h : Hdr) (body : Nat) (s : State) : Host.Outcome State Fault Refusal :=
  match composeOp body with
  | 2 => execComposeRemoveEntry h body s
  | 3 => execComposeAdvance h body s
  | _ => execComposeSetEntry h body s

/-- A request with its body and data, by its opcode. -/
def performOpcode (op : Nat) (h : Hdr) (body data : Nat) (s : State) : State :=
  after s (match op with
    | 0x01 => execRead h [] s
    | 0x02 => execReadAcq h [] s
    | 0x03 => execWrite h data s
    | 0x04 => execWriteRel h data s
    | 0x05 => execFlush h body s
    | 0x06 => execAtomic h body s
    | 0x07 => execPublish h body data s
    | 0x08 => performSync h body s
    | 0x09 => execWait h body s
    | 0x0A => execDoorbell h body s
    | 0x0B => execProbe h s
    | 0x10 => performAttn h body s
    | 0x11 => performOryx h body s
    | 0x12 => performSearch h body s
    | 0x13 => execInvoke h body s
    | 0x14 => performCfg h body s
    | 0x15 => performPlace h body s
    | 0x16 => performStream h body s
    | 0x17 => if invScope body = 1 then execInvalContext h body s else execInvalPages h body s
    | 0x18 => execDmaCopy h body s
    | 0x20 => execRdShared h s
    | 0x21 => execRdOwn h s
    | 0x22 => execUpgrade h s
    | 0x23 => execWbDirty h data s
    | 0x24 => execEvictClean h s
    | 0x30 => performCompose h body s
    | 0x31 => execOwner h body s
    | _ => execUnknownOpcode h op s)

/-- MBX_HEAD_READ (R497): a READ of a head slot of a die page. -/
def execMbxHeadRead (h : Hdr) (s : State) : Host.Outcome State Fault Refusal :=
  .next (if pageBase ≤ h.offset then serveRead 0x01 h [] startRead s else s)

end Sys2Proof.Machine
end

