-- ==== Sys2Proof/Machine/Ethernet.lean ====
section
/-! DEFINITION. The Ethernet port: frames, queue pairs, one-sided operations, requests in SENDs, the package's own SENDs,
flow control and congestion (chapter 13). -/

namespace Sys2Proof.Machine

/-- The port takes and answers frames: its link is up, in a state with a dictionary (R15, R443). -/
def ethLive (s : State) : Bool := dictLive s && obj s 0x7100 1 == 2

/-- The entry of a queue pair number: 0x01_0000 + q names entry q. -/
def entryOf (n : Nat) : Option Nat := if 0x10000 ≤ n ∧ n < 0x11000 then some (n - 0x10000) else none

/-- A packet for a queue pair that is READY; any other is dropped and counted (R431). -/
def onReady (n : Nat) (act : Nat → State → State) (s : State) : State :=
  if !ethLive s then s
  else match entryOf n with
    | some q => if (qp s q).st = 1 then act q s else bump 0x7101 3 1 s
    | none => bump 0x7101 3 1 s

/-! ## Frames (R427 to R429, R441, R442) -/

/-- A frame is dropped and counted. -/
def dropFrame (s : State) : State := bump 0x7101 2 1 s

/-- A congestion mark of a queue pair's packet is answered, at most once per interval (R442). -/
def markSeen (q : Nat) (s : State) : State :=
  let x := qp s q
  let due : Bool := match x.lastCnp with | some t => decide (obj s 0x7100 0xD * 1000 ≤ s.time - t) | none => true
  if due then bump 0x7101 8 1 (qpOut q (.cnp q) (setQp q { x with lastCnp := some s.time } s)) else s

/-- The receive buffer of a priority (R441): the data of the WRITEs and SENDs that the port holds for its READY queue pairs
(DEDUCED, log entry 34). -/
def buffered (s : State) (p : Nat) : Nat :=
  (s.qps.map (fun e =>
    if e.2.st = 1 ∧ bits e.2.entry 14 12 = p then
      (e.2.queue.map (fun o => match o with | .write r _ => r.length | .send _ n _ _ _ _ => n | _ => 0)).sum
    else 0)).sum

/-- The whole receive buffer, 4 MiB. -/
abbrev ethBuffer : Nat := 0x400000

/-- XOFF is sent for a lossless priority whose buffer holds pfc_xoff_bytes, and XON once it holds half of that (R441). -/
def flowOf (p : Nat) (s : State) : State :=
  let n := buffered s p
  let x := obj s 0x7100 0xB
  if !bit s.xoff p ∧ bit (obj s 0x7100 0xA) p ∧ x ≤ n then emit (.pfc (2 ^ p) 0) (bump 0x7101 7 1 { s with xoff := s.xoff + 2 ^ p })
  else if bit s.xoff p ∧ 2 * n ≤ x then emit (.pfc 0 (2 ^ p)) { s with xoff := s.xoff - 2 ^ p }
  else s

/-- Flow control after the buffers changed. -/
def flow (s : State) : State := (List.range 8).foldl (fun s p => flowOf p s) s

/-- The frame is for the port's MAC address; an address of a group carries ARP and neighbour solicitations (log entry 34). -/
def macOurs (s : State) (f : EthFrame) : Bool := f.mac == obj s 0x7100 2 || (f.port.isNone && bit f.mac 40)

/-- The packet is for an address of the port; ARP, neighbour solicitations and echoes are answered by rows of their own. -/
def destOurs (s : State) (f : EthFrame) : Bool :=
  f.port.isNone || (f.dest != 0 && f.dest == obj s 0x7100 (if f.v6 then 5 else 4))

/-- The port serves the packet's UDP port: RoCEv2 with a right check, or the dictionary's. -/
def portOurs (s : State) (f : EthFrame) : Bool :=
  match f.port with
  | none => true
  | some p => (p == 4791 && f.icrcOk) || p == obj s 0x7100 9

/-- A full buffer has no room for a frame of a priority that is not lossless (R441). -/
def noBuffer (s : State) (f : EthFrame) : Bool :=
  !bit (obj s 0x7100 0xA) f.priority && decide (ethBuffer ≤ ((List.range 8).map (buffered s)).sum)

/-- The port drops a frame (R427 to R429, R441; log entry 34). -/
def frameDropped (s : State) (f : EthFrame) : Bool :=
  !f.fcsOk || decide (f.bytes < 64 ∨ 9216 < f.bytes ∨ 1 < f.tags.length) || f.tags.any (fun t => t != obj s 0x7100 6) ||
  !macOurs s f || f.fragment || !destOurs s f || !portOurs s f || noBuffer s f

/-- ETH_FRAME_RECEIVE (R428, R429, R442). -/
def doFrame (f : EthFrame) (s : State) : State :=
  if !ethLive s then s
  else if frameDropped s f then dropFrame s
  else
    let s := bump 0x7101 1 1 s
    if f.port = some 4791 then
      match entryOf f.qp with
      | some q => if (qp s q).st = 1 then (if f.ce then markSeen q s else s) else bump 0x7101 3 1 s
      | none => bump 0x7101 3 1 s
    else s

/-- ETH_FRAME_RECEIVE (R428). -/
def execEthFrameReceive (f : EthFrame) (s : State) : Host.Outcome State Fault Refusal := .next (doFrame f s)

/-- An answer to a packet for the port's address (R429). -/
def ethAnswer (proto target addr : Nat) (s : State) : State :=
  if ethLive s ∧ target = addr ∧ addr ≠ 0 then emit (.ethReply proto target) s else s

/-- ARP_REQUEST (R429). -/
def execArpRequest (target : Nat) (s : State) : Host.Outcome State Fault Refusal :=
  .next (ethAnswer 0 target (obj s 0x7100 4) s)

/-- NEIGHBOUR_SOLICITATION (R429). -/
def execNeighbourSolicitation (target : Nat) (s : State) : Host.Outcome State Fault Refusal :=
  .next (ethAnswer 1 target (obj s 0x7100 5) s)

/-- ICMP_ECHO_REQUEST (R429). -/
def execIcmpEchoRequest (target : Nat) (v6 : Bool) (s : State) : Host.Outcome State Fault Refusal :=
  .next (if v6 then ethAnswer 3 target (obj s 0x7100 5) s else ethAnswer 2 target (obj s 0x7100 4) s)

/-- The frames held that their priority no longer holds leave, in their order (R441). -/
def releaseFrames (s : State) : State :=
  let go := s.ethHeld.filter (fun e => !bit s.paused e.1)
  go.foldl (fun s e => emit e.2 s) { s with ethHeld := s.ethHeld.filter (fun e => bit s.paused e.1) }

/-- PFC_FRAME_RECEIVE (R441): sending on the priorities of lossless_mask stops and goes on. -/
def execPfcFrameReceive (xoff xon : Nat) (s : State) : Host.Outcome State Fault Refusal :=
  .next (if ethLive s then
      let m := obj s 0x7100 0xA
      releaseFrames { s with paused := (List.range 8).foldl (fun p i =>
          if bit m i && (bit xoff i || (bit s.paused i && !bit xon i)) then p + 2 ^ i else p) 0 }
    else s)

/-- PAUSE_FRAME_RECEIVE (R427). -/
def execPauseFrameReceive (s : State) : Host.Outcome State Fault Refusal := .next (if ethLive s then dropFrame s else s)

/-- CNP_RECEIVE (R442): the rate is halved, to 1 GB/s at least. -/
def execCnpReceive (qpn : Nat) (s : State) : Host.Outcome State Fault Refusal :=
  .next (onReady qpn (fun q s => setQp q { qp s q with rate := max 1 ((qp s q).rate / 2) } s) s)

/-- CNP_RATE_RECOVERY (R442): the rate rises by 10 GB/s, up to line rate. -/
def execCnpRateRecovery (qpn : Nat) (s : State) : Host.Outcome State Fault Refusal :=
  .next (match entryOf qpn with
    | some q => if (qp s q).st = 1 then setQp q { qp s q with rate := min 200 ((qp s q).rate + 10) } s else s
    | none => s)

/-- ETH_LINK_UP (R427, R446). -/
def execEthLinkUp (s : State) : Host.Outcome State Fault Refusal :=
  .next (if dictLive s ∧ obj s 0x7100 1 ≠ 2 then
      raiseEvent 0x7100 7 0 (setObj 0x7100 1 2 (setDom 3 (fun x => { x with st := 0, waking := false, wakeReq := false }) s))
    else s)

/-- ETH_LINK_DOWN (R427, R446). -/
def execEthLinkDown (s : State) : Host.Outcome State Fault Refusal :=
  .next (if obj s 0x7100 1 ≠ 0 then raiseEvent 0x7100 7 0 (setObj 0x7100 1 0 s) else s)

/-! ## Memory operations (R433 to R437) -/

/-- The tenant of a queue pair: that of its requester's composition entry. -/
def qpTenant (s : State) (q : Nat) : Nat :=
  match compOf s (bits (qp s q).entry 47 32) with
  | some (_, e) => e.tenant
  | none => 0

/-- The request that a memory operation is checked as: `psn` is the packet its answer names. -/
def rdmaReq (s : State) (q op : Nat) (r : RdmaReq) (psn at_ n body data : Nat) (found : List (Nat × Nat)) : Req :=
  let e := (qp s q).entry
  let a := r.address + at_
  ⟨op, ⟨.eth q, bits e 173 172, psn % 2 ^ 24, 0, qpTenant s q, bits e 47 32, r.rkey, a / 2 ^ 48 % 4096, a % 2 ^ 48, 0, 0⟩,
    (if op = opRdmaAtomic then body else n), data, found, false⟩

/-- The first check of R41 that a memory operation of `n` bytes fails, with R433's exceptions. -/
def rdmaRefused (s : State) (rq : Req) (r : RdmaReq) (n perm : Nat) (atomic : Bool) : Option Status :=
  let off := rq.hdr.offset
  if 2 ^ 60 ≤ r.address then some .unsupported
  else if (compOf s rq.hdr.requester).isNone then some .epochStale
  else if rq.hdr.package ≠ pkgNo s ∨ badOffset s off then some .unsupported
  else if !atomic ∧ (n = 0xFFFFFFFF ∨ 0x40000000 < n ∨ areaEnd s off < off + n) then some .badLength
  else if !atomic ∧ pageBase ≤ off ∧ n ≠ 64 ∧ n ≠ 0 then some .unsupported
  else if obj s 0x7020 3 ≠ 1 ∧ !keyOk s rq.hdr.key rq.hdr.tenant perm [(off, n)] then some .keyDenied
  else if isManager s rq.hdr.requester ∨ n = 0 then none
  else if s.replaced ∧ off < memRange s then some .notOwner
  else if (ownerRefuses s off n).isSome then some .notOwner
  else none

/-- A memory operation's charge to the package's C0 bucket (R409) and to its requester's limit (R410, R435): none when the
limit holds it back. -/
def rdmaCharge (rq : Req) (n : Nat) (s : State) : Option State :=
  let n := max 64 n
  match compOf s rq.hdr.requester with
  | none => some s
  | some (i, e) =>
    let size := max (e.bwLimit * 10000) 4096
    let b := filled e.bucket e.bucketAt s.time e.bwLimit size
    if e.bwLimit ≠ 0 ∧ b < min n size then none
    else
      let s := if e.bwLimit = 0 then s else { s with compTab := tset s.compTab i { e with bucket := b - n, bucketAt := s.time } }
      let pb := filled s.pkgBucket s.pkgBucketAt s.time 200 65536
      if rq.hdr.cls ≠ 0 then some (meterIn rq n s)
      else if n ≤ pb then some (meterIn rq n { s with pkgBucket := pb - n, pkgBucketAt := s.time })
      else some (meterIn { rq with demoted := true } n (bump 0x7050 4 1 s))

/-- The power domains that a memory operation waits for, and its far extents. -/
def rdmaAsleep (s : State) (off n : Nat) : List Nat := (rangeDoms s off n).filter (fun d => !awake s d)

/-- An agent's grant of one of these lines is pending, so a request that snoops it would be deferred (R341). -/
def rdmaConflict (s : State) (lines : List Nat) (write : Bool) : Bool :=
  (if write then writeSnoops s lines else readSnoops s lines).any (fun p => grantPending s p.1 p.2)

/-- The bytes of a READ, from `at_` on, before its first far extent or sleeping home. -/
def readyBytes (s : State) (off at_ n : Nat) : Nat :=
  let stop := (extentsOf (off + at_) (n - at_)).find? (fun e => isFar s e ||
    !(rangeDoms s (max (off + at_) (e * extentBytes)) 1).all (awake s))
  match stop with
  | none => n - at_
  | some e => e * extentBytes - (off + at_)

/-- A READ goes on (R435): what is near is returned; none: it is over. -/
def runRead (q : Nat) (r : RdmaReq) (found : List (Nat × Nat)) (at_ : Nat) (s : State) : Option EthOp × State :=
  let n := r.length
  let rq := rdmaReq s q opRdmaRead r r.psn 0 n 0 0 found
  let off := rq.hdr.offset
  match (if at_ = 0 then rdmaRefused s rq r n 0 false else none) with
  | some st => (none, complete rq st 0 s)
  | none =>
    if n = 0 then (none, complete rq .ok 0 s)
    else if pageBase ≤ off then
      match pageRead s off with
      | some v => (none, completeWith rq .ok 0 0 0 v none s)
      | none => (none, complete rq .unsupported 0 s)
    else if at_ = 0 ∧ (linesOf off n).any (fun l => !isFar s (extentOf (64 * l)) && lineBad s l) then
      (none, complete rq .poison 0 s)
    else
      let k := readyBytes s off at_ n
      let wakeUp (s : State) : State :=
        (queueAll (farExtents s (off + at_) (n - at_)) ((rdmaAsleep s (off + at_) (n - at_)).foldl (fun s d => wake d s) s)).2
      if k = 0 then (some (.read r found at_), wakeUp s)
      else
        let ls := linesOf (off + at_) k
        if rdmaConflict s ls false then (some (.read r found at_), s)
        else match (if at_ = 0 then rdmaCharge rq n s else some s) with
          | none => (some (.read r found at_), s)
          | some s =>
            let part := rdmaReq s q opRdmaRead r (r.psn + at_ / pmtuBytes (qp s q).entry) at_ k 0 0 found
            let s := decodeLines found (off + at_) k s
            let s := withSnoops part ls false (finishRdmaRead part [] false) s
            if at_ + k < n then (some (.read r found (at_ + k)), wakeUp s) else (none, s)

/-- A WRITE or an atomic waits until its extents are near and its homes awake: what that starts, or none when it may go on. -/
def rdmaWaits (off n : Nat) (write : List Nat) (s : State) : Option State :=
  let asleep := rdmaAsleep s off n
  let far := farExtents s off n
  if !asleep.isEmpty then some (asleep.foldl (fun s d => wake d s) s)
  else if !far.isEmpty then some (queueAll far s).2
  else if rdmaConflict s write true then some s
  else none

/-- A WRITE goes on (R436). -/
def runWrite (q : Nat) (r : RdmaReq) (data : Nat) (s : State) : Option EthOp × State :=
  let n := r.length
  let rq := rdmaReq s q opRdmaWrite r (r.psn + packetsOf (qp s q).entry n - 1) 0 n 0 data []
  let off := rq.hdr.offset
  match rdmaRefused s rq r n 1 false with
  | some st => (none, complete rq st 0 s)
  | none =>
    if n = 0 then (none, complete rq .ok 0 s)
    else if pageBase ≤ off then
      let (st, s) := pageWrite off (data % 2 ^ 512) rq.hdr.tenant s
      (none, complete rq st 0 s)
    else if (extentsOf off n).any (isMirror s) ∧ !fromPackage s rq.hdr.requester then (none, complete rq .notOwner 0 s)
    else match rdmaWaits off n (linesOf off n) s with
      | some s => (some (.write r data), s)
      | none =>
        if !framesFree s (framesNeeded s off n) then (none, noFrame rq s)
        else match rdmaCharge rq n s with
          | none => (some (.write r data), s)
          | some s => (none, withSnoops rq (linesOf off n) true (finishRdmaWrite rq) s)

/-- An atomic goes on. -/
def runAtomic (q : Nat) (r : RdmaReq) (body : Nat) (s : State) : Option EthOp × State :=
  let rq := rdmaReq s q opRdmaAtomic r r.psn 0 8 body 0 []
  let off := rq.hdr.offset
  match rdmaRefused s rq r 8 2 true with
  | some st => (none, complete rq st 0 s)
  | none =>
    if off % 8 ≠ 0 ∨ windowBase ≤ off then (none, complete rq .unsupported 0 s)
    else if isMirror s (extentOf off) ∧ !fromPackage s rq.hdr.requester then (none, complete rq .notOwner 0 s)
    else match rdmaWaits off 8 [off / 64] s with
      | some s => (some (.atomic r body), s)
      | none =>
        if !framesFree s ((framesNeeded s off 8).filter (fun e => extState s e == none)) ∧
            (atomicNew body (readMem s off 8)).isSome then (none, noFrame rq s)
        else match rdmaCharge rq 8 s with
          | none => (some (.atomic r body), s)
          | some s => (none, withSnoops rq [off / 64] true (finishAtomic rq) s)

/-- The requests of a queue pair's SENDs that have not completed. -/
def sendsOpen (s : State) (q : Nat) : Nat :=
  (s.openReqs.filter (fun e => decide (e.2.req.op < 0xE0) && e.2.req.hdr.via == .eth q)).length +
  ((qp s q).queue.filter (fun o => match o with | .send _ _ _ _ _ _ => true | _ => false)).length

/-- A request carried in a SEND is performed (R438); on a queue pair that is no longer READY it runs on without a completion
(R431). -/
def runSend (q opcode : Nat) (h : Hdr) (body data : Nat) (s : State) : State :=
  let h := { h with via := if (qp s q).st = 1 then .eth q else noWay }
  if h.requester ≠ bits (qp s q).entry 47 32 ∨ h.tenant ≠ qpTenant s q ∨ (0x20 ≤ opcode ∧ opcode ≤ 0x28) then
    complete ⟨opcode, h, body, data, [], false⟩ .unsupported 0 s
  else performOpcode opcode h body data s

/-- An operation at the head of a queue pair's queue; what is left of it. -/
def runOp (q : Nat) (op : EthOp) (s : State) : Option EthOp × State :=
  match op with
  | .read r found at_ => runRead q r found at_ s
  | .write r data => runWrite q r data s
  | .atomic r body => runAtomic q r body s
  | .send _ _ opcode h body data => (none, runSend q opcode h body data s)

/-- A memory operation of a queue pair waits for answers to its snoops. -/
def qpBusy (s : State) (q : Nat) : Bool :=
  s.openReqs.any (fun e => decide (0xE0 ≤ e.2.req.op) && e.2.req.hdr.via == .eth q)

/-- A queue pair's operations in packet-sequence order (R436), as far as they go. Of a queue pair that is not READY only the
requests it has accepted in SENDs run on (R431). -/
def runQp (q : Nat) : Nat → State → State
  | 0, s => s
  | n + 1, s =>
    match (qp s q).queue with
    | [] => s
    | op :: rest =>
      if (qp s q).st ≠ 1 then
        runQp q n (match op with
          | .send _ _ opcode h body data => runSend q opcode h body data (setQp q { qp s q with queue := rest } s)
          | _ => setQp q { qp s q with queue := rest } s)
      else if qpBusy s q then s
      else
        match runOp q op (setQp q { qp s q with queue := rest } s) with
        | (none, s) => runQp q n s
        | (some op, s) => if (qp s q).st = 1 then setQp q { qp s q with queue := op :: rest } s else s

/-- An operation arrives in order and takes its place (R436). -/
def enqueue (q : Nat) (op : EthOp) (packets : Nat) (s : State) : State :=
  let x := qp s q
  flow (runQp q (x.queue.length + 1) (setQp q { x with queue := x.queue ++ [op], expected := (x.expected + packets) % 2 ^ 24 } s))

/-- Where a packet sequence number stands: 0 expected, 1 a duplicate, 2 ahead. -/
def psnOrder (expected psn : Nat) : Nat :=
  let back := (expected + 2 ^ 24 - psn % 2 ^ 24) % 2 ^ 24
  if back = 0 then 0 else if back ≤ 2 ^ 23 then 1 else 2

/-- A memory operation: in order it is queued; a duplicate is answered by `again`; one ahead is ignored (R436, log
entry 35). -/
def memoryOp (r : RdmaReq) (op : EthOp) (packets : Nat → Nat) (again : Nat → State → State) (s : State) : State :=
  onReady r.qp (fun q s =>
    match psnOrder (qp s q).expected r.psn with
    | 0 => enqueue q op (packets (qp s q).entry) s
    | 1 => again q s
    | _ => s) s

/-- A duplicate READ is served again (R436). -/
def readAgain (r : RdmaReq) (found : List (Nat × Nat)) (q : Nat) (s : State) : State :=
  let x := qp s q
  flow (runQp q (x.queue.length + 1) (setQp q { x with queue := x.queue ++ [.read r found 0] } s))

/-- An operation of this number is still queued. -/
def stillQueued (s : State) (q psn : Nat) : Bool :=
  (qp s q).queue.any (fun o => match o with
    | .write r _ => r.psn == psn
    | .atomic r _ => r.psn == psn
    | _ => false) ||
  s.openReqs.any (fun e => decide (0xE0 ≤ e.2.req.op) && e.2.req.hdr.via == .eth q)

/-- RDMA_READ (R433). -/
def execRdmaRead (r : RdmaReq) (found : List (Nat × Nat)) (s : State) : Host.Outcome State Fault Refusal :=
  .next (memoryOp r (.read r found 0) (fun e => packetsOf e (if r.length ≤ 0x40000000 then r.length else 0)) (readAgain r found) s)

/-- The data of a WRITE: none beyond its length, and of a refused length (R434) nothing is taken. -/
def writeData (r : RdmaReq) (data : Nat) : Nat := if r.length ≤ 0x40000000 then data % 2 ^ (8 * r.length) else 0

/-- RDMA_WRITE (R436): a duplicate is acknowledged and not performed again. -/
def execRdmaWrite (r : RdmaReq) (data : Nat) (s : State) : Host.Outcome State Fault Refusal :=
  .next (memoryOp r (.write r (writeData r data)) (fun e => packetsOf e (if r.length ≤ 0x40000000 then r.length else 0))
    (fun q s => if stillQueued s q r.psn then s
      else qpOut q (.rdmaAck q ((r.psn + packetsOf (qp s q).entry r.length - 1) % 2 ^ 24) 0 0) s) s)

/-- A duplicate atomic returns its saved result (R436). -/
def atomicAgain (r : RdmaReq) (q : Nat) (s : State) : State :=
  match tget (qp s q).atomics r.psn with
  | some v => qpOut q (.rdmaAck q r.psn 8 v) s
  | none => s

/-- FETCH_AND_ADD (R433): the 64-bit ATOMIC ADD. -/
def execFetchAndAdd (r : RdmaReq) (operand : Nat) (s : State) : Host.Outcome State Fault Refusal :=
  .next (memoryOp r (.atomic r (operand % 2 ^ 64 + 2 ^ 128 + 1 * 2 ^ 136)) (fun _ => 1) (atomicAgain r) s)

/-- COMPARE_AND_SWAP (R433): the 64-bit CAS. -/
def execCompareAndSwap (r : RdmaReq) (compare operand : Nat) (s : State) : Host.Outcome State Fault Refusal :=
  .next (memoryOp r (.atomic r (operand % 2 ^ 64 + compare % 2 ^ 64 * 2 ^ 64 + 2 ^ 128 + 6 * 2 ^ 136)) (fun _ => 1)
    (atomicAgain r) s)

/-- A NAK other than RNR: the queue pair enters ERROR with the status (R431). -/
def nakQp (q psn : Nat) (st : Status) (s : State) : State :=
  qpError q (statusCode st) (bump 0x7101 4 1 (qpOut q (.rdmaNak q psn (nakCode st)) s))

/-- The last packet of a message of `n` bytes from packet `psn` on is acknowledged. -/
def ackMessage (q psn n : Nat) (s : State) : State :=
  qpOut q (.rdmaAck q ((psn + packetsOf (qp s q).entry n - 1) % 2 ^ 24) 0 0) s

/-- A SEND in its order (R438, R439): the code of an RNR NAK is 0x20 and its timer code. -/
def takeSend (q psn msgBytes opcode : Nat) (h : Hdr) (body data : Nat) (s : State) : State :=
  if 4184 < msgBytes then nakQp q psn .badLength s
  else if 64 ≤ sendsOpen s q then bump 0x7101 5 1 (qpOut q (.rdmaNak q psn (0x20 + obj s 0x7100 0xC)) s)
  else
    enqueue q (.send psn msgBytes opcode h body data) (packetsOf (qp s q).entry msgBytes) (ackMessage q psn msgBytes s)

/-- ROCE_SEND_REQUEST (R436, R438): a duplicate is acknowledged and not performed again; one ahead is ignored (log entry 35). -/
def doSendRequest (qpn psn msgBytes opcode : Nat) (h : Hdr) (body data : Nat) (s : State) : State :=
  onReady qpn (fun q s =>
    match psnOrder (qp s q).expected psn with
    | 0 => takeSend q (qp s q).expected msgBytes opcode h body data s
    | 1 => ackMessage q psn msgBytes s
    | _ => s) s

/-- ROCE_SEND_REQUEST (R438). -/
def execRoceSendRequest (packet : SendPacket) (msgBytes opcode : Nat) (h : Hdr) (body data : Nat) (s : State) :
    Host.Outcome State Fault Refusal :=
  .next (doSendRequest packet.qp packet.psn msgBytes opcode h body data s)

/-! ## The package's own SENDs (R431, R440) -/

/-- A SEND's last packet. -/
def lastPsn (entry : Nat) (r : RSend) : Nat := (r.psn + packetsOf entry r.bytes - 1) % 2 ^ 24

/-- ROCE_ACK_RECEIVE (R431, R440): every SEND up to the number is released, and its notice leaves the mailbox. -/
def doAck (q psn : Nat) (s : State) : State :=
  let x := qp s q
  let gone (r : RSend) : Bool := decide ((psn + 2 ^ 24 - lastPsn x.entry r) % 2 ^ 24 < 2 ^ 23)
  let out := x.sends.filter gone
  if out.isEmpty then s
  else
    let s := setQp q { x with sends := x.sends.filter (fun r => !gone r), retries := 0, rnr := 0 } s
    out.foldl (fun s r => match r.notice with | some m => popNotice 0x18 m s | none => s) s

/-- ROCE_ACK_RECEIVE (R431). -/
def execRoceAckReceive (qp psn : Nat) (s : State) : Host.Outcome State Fault Refusal :=
  .next (onReady qp (fun q s => doAck q psn s) s)

/-- Every SEND that is not acknowledged leaves again. -/
def resend (q : Nat) (s : State) : State :=
  (qp s q).sends.foldl (fun s r => qpOut q (.rdmaSend q r.psn (r.imm.getD 0) r.bytes r.data) s) s

/-- A transport retry, or ERROR once retry_cnt is exhausted (R431). -/
def retrySend (q : Nat) (s : State) : State :=
  let x := qp s q
  if x.sends.isEmpty then s
  else if x.retries < bits x.entry 127 125 then resend q (setQp q { x with retries := x.retries + 1 } s)
  else qpError q x.lastStatus s

/-- ROCE_NAK_RECEIVE (R431): after an RNR NAK the SEND waits for its timer; after another one it is retried. -/
def execRoceNakReceive (qp psn : Nat) (rnr : Bool) (s : State) : Host.Outcome State Fault Refusal :=
  .next (onReady qp (fun q s =>
    let s := doAck q ((psn + 2 ^ 24 - 1) % 2 ^ 24) s
    if rnr then s else retrySend q s) s)

/-- ROCE_ACK_TIMEOUT (R431). -/
def execRoceAckTimeout (qpn : Nat) (s : State) : Host.Outcome State Fault Refusal :=
  .next (match entryOf qpn with
    | some q => if (qp s q).st = 1 then retrySend q s else s
    | none => s)

/-- RNR_RETRY_TIMER (R431): an RNR retry; rnr_retry 7 never ends. -/
def execRnrRetryTimer (qpn : Nat) (s : State) : Host.Outcome State Fault Refusal :=
  .next (match entryOf qpn with
    | some q =>
      let x := qp s q
      if x.st ≠ 1 ∨ x.sends.isEmpty then s
      else if bits x.entry 130 128 = 7 ∨ x.rnr < bits x.entry 130 128 then resend q (setQp q { x with rnr := x.rnr + 1 } s)
      else qpError q x.lastStatus s
    | none => s)

/-! ## Queue-pair entries (R430 to R432) -/

/-- Reserved fields of an entry. -/
def qpReserved (v : Nat) : Bool :=
  bits v 511 389 != 0 || bits v 255 240 != 0 || bits v 175 174 != 0 || bits v 171 166 != 0 || bits v 135 131 != 0 ||
  bits v 95 88 != 0 || bits v 63 48 != 0 || bits v 31 15 != 0 || bit v 11 || bits v 7 3 != 0

/-- What R432 refuses with UNSUPPORTED. -/
def qpRefused (s : State) (q v : Nat) : Bool :=
  (bits v 1 0 != 0 && (qp s q).st != 0) || qpReserved v || !([3, 4, 5].contains (bits v 10 8)) || decide (2 ≤ bits v 1 0) ||
  (match compOf s (bits v 47 32) with | some (_, e) => e.tenant == 0xFFF | none => true) ||
  (bit v 388 && s.qps.any (fun e => e.1 != q && e.2.st == 1 && bit e.2.entry 388 && bits e.2.entry 387 384 == bits v 387 384))

/-- QP_ENTRY_WRITE (R431, R432): taken up as READY, its mailbox's notices sent (R440); or back to RESET, where the requests
accepted run on and their completions are dropped. -/
def doQpEntry (c : Ctx) (s : State) : State :=
  let q := obj s 0x7110 1
  let v := c.value
  if !serving s then fin c .defer 0 s
  else if qpRefused s q v then finBad c s
  else if bits v 1 0 = 1 then
    applied c (fun s =>
      let s := countQps (setQp q { Qp.zero with entry := v, st := 1, expected := bits v 119 96, send := bits v 87 64 } s)
      if bit v 388 then sendNotices q (bits v 387 384) (box s 0x18 (bits v 387 384)).notices s else s) s
  else
    applied c (fun s =>
      let waiting := (qp s q).queue
      let s := { s with openReqs := s.openReqs.map (cutWay (.eth q)) }
      runQp q waiting.length (countQps (setQp q { Qp.zero with entry := v, queue := waiting } s))) s

/-- QP_ENTRY_WRITE (R432). -/
def execQpEntryWrite (d : DapMsg) (s : State) : Host.Outcome State Fault Refusal :=
  .next (dapServe dapWrite (toObj d 0x7110 2) doQpEntry s)

/-- ETH_COUNTERS_CLEAR (R446). -/
def execEthCountersClear (d : DapMsg) (s : State) : Host.Outcome State Fault Refusal :=
  .next (clearObj d 0x7101 9 (fun s => setObj 0x7100 0xE 0 (clearObjs 0x7101 [1, 2, 3, 4, 5, 6, 7, 8] s)) s)

/-! ## What goes on by itself -/

/-- The queue pairs' operations go on. -/
def runQps (s : State) : State := flow (s.qps.foldl (fun s e => runQp e.1 e.2.queue.length s) s)

/-- STALLED_ACCESS_RESUME (R195): what an access waited for has come; the operations that the port holds go on too (R435). -/
def execStalledAccessResume (acc : Nat) (s : State) : Host.Outcome State Fault Refusal :=
  .next (runQps (settleTiles (resumeStall acc s)))

/-- The acknowledgements of the copies that writes of protected objects sent arrive, while a link is UP: the table has no row for
them (R205, log entry 60). -/
def takeAcks (s : State) : State :=
  if s.placed.all (fun e => e.2.unacked == 0) ∨ !s.links.any (fun l => l.2.st == .up) then s
  else
    let ks := s.placed.map (·.1)
    let s : State := { s with placed := s.placed.map (fun e => (e.1, { e.2 with unacked := 0 })) }
    settle (ks.foldl (fun s k => copiesDone k s) s)

/-- What an empty queue of commands leaves to the block (R520, log entry 9): the counter advances; at each new microsecond
the meters count and the port takes up what it holds. A tile that was stalled before a step tries it again; copies are
acknowledged. -/
def tick (s : State) : State :=
  if s.pkg = .off then s
  else
    let s' := takeAcks (settleTiles (idle s))
    if s'.time / 1000 = s.time / 1000 then s' else runQps s'

end Sys2Proof.Machine
end

