-- ==== Sys2Proof/Machine/Standing.lean ====
section
/-! DEFINITION. Work in flight that is discarded, domains whose rails go, and the entry into STANDING or EXPELLED (R38, R503,
R507, R530, R534, R619). -/

namespace Sys2Proof.Machine

/-! ## Work in flight (R38, R538) -/

/-- Requests accepted and not completed receive RESET_DISCARD; posted commands write no further record and raise no signal. -/
def dropWork (s : State) : State :=
  let s := discardOpen s
  { s with
    recalls := [], calls := [], registering := [], retiring := [], loading := [], reserved := [], attends := [], commits := [],
    placeQ := [], moves := [], stalls := [], walks := [], faults := [], faultNone := [], invals := [], streams := [], packs := [],
    oreqs := [], sops := [], dma := [], owed := [], peeked := []
    slots := s.slots.map (fun e => (e.1, { e.2 with job := none }))
    otables := s.otables.map (fun e => (e.1, { e.2 with jobs := [] }))
    indexes := s.indexes.map (fun e => (e.1, { e.2 with job := none, mergeJob := none }))
    clusters := s.clusters.map (fun e => (e.1, { e.2 with load := none }))
    tiles := s.tiles.map (fun e => (e.1, { e.2 with loads := [], held := [], waiting := none })) }

/-- The queue pairs are cleared (R431, R534). -/
def clearQps (s : State) : State := countQps { s with qps := [], paused := 0, xoff := 0, ethHeld := [] }

/-! ## What goes with a domain's clocks and rails (R505, R507, R117) -/

/-- The fast domains (R503), and the domains of a variant. -/
def fastDoms : List Nat := (List.range 24).map (· + 4)
def isFast (d : Nat) : Bool := decide (4 ≤ d ∧ d ≤ 27)
def domPresent (s : State) (d : Nat) : Bool :=
  if 16 ≤ d ∧ d < 24 then fabricPresent s (d - 16) else if 24 ≤ d ∧ d < 28 then flashPresent s (d - 24) else decide (d < 28)

/-- The dies whose pages 0x1 to 0xF are in a domain (R502). -/
def domDies (d : Nat) : List Nat := (List.range 32).filter (fun x => hasBlock x && dieDom x == d)

/-- A domain leaves IDLE: the guards of its dies are dropped, walks end, and the remote copies of a home are unusable
(R483, R485, R354). -/
def leaveIdle (d : Nat) (s : State) : State :=
  let s := (domDies d).foldl (fun s x => dropGuard x s) s
  if 8 ≤ d ∧ d < 16 then { s with copies := s.copies.filter (fun c => c.slice != d - 8) } else s

/-- A cluster whose tile stores are lost (R117): EMPTY, and to be loaded again at wake when it was ARMED or RUNNING (R122). -/
def loseCluster (x : Cluster) : Cluster :=
  match x.st with
  | .offline => x
  | .empty => x
  | .armed => { x with st := .empty, copy := 0, load := none, reload := true }
  | .running => { x with st := .empty, copy := 0, load := none, reload := true }
  | _ => { x with st := .empty, info := none, copy := 0, load := none }

/-- A fabric die loses its tile stores and scratchpads (R504); a scratchpad then reads as memory that nothing has written
(log entry 7). The generators, tile seeds and sticky flags of its tiles go with them, while FAB_TILE_SEL stays: R73 names the
generators, and no rule names the others (DESIGN CHOICE, log entry 57). -/
def loseFabric (n : Nat) (s : State) : State :=
  let pad (off : Nat) : Bool := match windowTile off with | some t => t / 256 == n | none => false
  { s with
    tiles := s.tiles.filter (fun e => e.1 / 256 != n)
    mem := s.mem.filter (fun c => !pad c.1)
    poison := s.poison.filter (fun l => !pad (64 * l))
    clusters := s.clusters.map (fun e => if e.1 / 16 = n then (e.1, loseCluster e.2) else e) }

/-- The store cache of a home is written back, and then holds nothing (R506, R534, R560). -/
def emptyStore (home : Nat) (s : State) : State := flushStore (fun l => homeOf s (64 * l) == home) s

/-- A domain's rails are removed (R505, R487): a clean configuration check awaits the reload; a home's store cache was written
back (R506, R534). -/
def railsOff (d : Nat) (s : State) : State :=
  let s := leaveIdle d s
  let s := (domDies d).foldl (fun s x => if (block s x).check = .clean then setCheck x .reload s else s) s
  let s := if 16 ≤ d ∧ d < 24 then loseFabric (d - 16) s else if 8 ≤ d ∧ d < 16 then emptyStore (d - 8) s else s
  setDom d (fun x => { x with st := 3, waking := false, wakeReq := false, failed := false, checking := false }) s

/-- Every fast domain is OFF (R503). -/
def fastOff (s : State) : State := settleCommit (fastDoms.foldl (fun s d => railsOff d s) s)

/-! ## STANDING and EXPELLED (R530, R534) -/

/-- Outcomes of a self-test step (R533). -/
abbrev stRunning : Nat := 1
abbrev stStopped : Nat := 6

/-- The outcome of a step's result word. -/
def stepOutcome (s : State) (k : Nat) : Nat := bits (obj s 0x1041 k) 31 28

/-- Steps that run are stopped (R530). -/
def stopSteps (s : State) : State :=
  (List.range 6).foldl (fun s i =>
    if stepOutcome s (i + 1) = stRunning then setObj 0x1041 (i + 1) (setBits (obj s 0x1041 (i + 1)) 31 28 stStopped) s else s) s

/-- A purge's reset has reached READY or STANDING (R599). -/
def purgeReached (s : State) : State := if obj s 0xB070 2 = 2 then setObj 0xB070 2 3 s else s

/-- The standing entry (R534, R17, R535) into a state. -/
def standingEntry (p : PkgState) (s : State) : State :=
  let s := fastOff (clearQps { dropWork (stopSteps s) with links := [] })
  let s := enterState p s
  let s := if p = .standing then purgeReached s else s
  appendLog 0x12 0 0 (obj s 0x1010 3 + obj s 0x1010 4 * 2 ^ 32) s

/-- A critical cause (R530): its code and die are recorded and the package enters STANDING, from SELF_TEST, READY or
DRAINING; a later one changes nothing. -/
def standing (category cause unit die : Nat) (s : State) : State :=
  if serving s ∨ selfTesting s then
    standingEntry .standing (setObj 0x1010 4 (die % 256)
      (setObj 0x1010 3 (category * 2 ^ 24 + cause % 256 * 2 ^ 16 + unit % 256) s))
  else s

/-- RUNTIME causes (R530). -/
abbrev runtime : Nat := 0x10

/-- A quorum expels the package (R534, R566), from STANDING too; it names no die. -/
def expelPackage (s : State) : State :=
  if (serving s ∨ selfTesting s) ∨ (s.pkg = .standing ∧ undisturbed s) then
    standingEntry .expelled (setObj 0x1010 4 0xFF (setObj 0x1010 3 (runtime * 2 ^ 24 + 3 * 2 ^ 16) s))
  else s

/-- A write of enter_standing (R545); where the package is in STANDING or EXPELLED already, the cause changes nothing
(R530, log entry 36). -/
def doEnterStanding (c : Ctx) (s : State) : State :=
  if c.value ≠ 1 then finBad c s
  else applied c (standing runtime 2 0 0xFF) s

/-- ENTER_STANDING (R545). -/
def execEnterStanding (d : DapMsg) (s : State) : Host.Outcome State Fault Refusal :=
  .next (dapServe dapGuarded (toObj d 0x1040 2) doEnterStanding s)

/-- REFCLK_LOSS (R618): with a fast domain ACTIVE or IDLE the package enters STANDING; ref_clock_present reads 0 (R515). -/
def execRefclkLoss (s : State) : Host.Outcome State Fault Refusal :=
  .next (if s.pkg = .off then s
    else
      let s := setObj 0x2001 2 0 s
      if fastDoms.any (fun d => decide ((dom s d).st ≤ 1)) then standing runtime 4 0 0x1E s else s)

/-- THERMAL_TRIP (R519, R613): power_event, THERM_TRIP_N, STANDING. -/
def execThermalTrip (die : Nat) (s : State) : Host.Outcome State Fault Refusal :=
  .next (if s.pkg = .off then s
    else
      let s := raiseEvent 0x2000 8 3 s
      let s := if s.thermTrip then s else emit (.pin 0 false) { s with thermTrip := true }
      standing runtime 1 0 die s)

/-- A guarded write of drain_begin (R573): in READY the package drains, and its rows placed elsewhere return (R261). -/
def doDrainBegin (c : Ctx) (s : State) : State :=
  if c.value ≠ 1 ∨ s.pkg ≠ .ready then finBad c s
  else applied c (fun s => enterState .draining (returnRows (fun _ => true) s)) s

/-- DRAIN_BEGIN (R573). -/
def execDrainBegin (d : DapMsg) (s : State) : Host.Outcome State Fault Refusal :=
  .next (dapServe dapGuarded (toObj d 0xA060 1) doDrainBegin s)

end Sys2Proof.Machine
end

