-- ==== Sys2Proof/Machine/Reset.lean ====
section
/-! DEFINITION. Input, power-up, full package reset and what survives them (R500, R524, R536, R537, R553, R554, R612 to
R615); the saved images (R471, R472). -/

namespace Sys2Proof.Machine

/-! ## Values kept in custody storage (R604, R545, R576, R101, R520) -/

/-- Objects that a full package reset keeps but for the SAVED ones: custody storage, and what the straps, the reference and
the purge's course give. -/
def keptKey (key : Nat) : Bool :=
  let i := key / 256
  let n := key % 256
  [0x104004, 0x104005, 0x105007, 0x200102, 0x200103, 0xA01007, 0x601004, 0x103008, 0xC01103, 0xC01104, 0xB02001,
    0xB04001, 0xB04006].contains key ||
  (i == 0x4023 && decide (2 ≤ n)) || (i == 0xB020 && decide (2 ≤ n)) || (i == 0xB050 && decide (n < 8)) || i == 0xB060 ||
  i == 0xB070

/-- A SAVED object (R447). -/
def savedKey (key : Nat) : Bool := match objRow (key / 256) (key % 256) with | some r => r.pers == .saved | none => false

/-- Custody storage alone: what an input loss keeps. -/
def custodyKey (key : Nat) : Bool := keptKey key && !([0x200102, 0x601004, 0x103008].contains key)

/-! ## The saved images (R471, R472) -/

/-- The newest of some images. -/
def newestOf (is : List Image) : Option Image :=
  is.foldl (fun b i => match b with | none => some i | some x => if x.seq < i.seq then some i else some x) none

/-- A save that a reset interrupts leaves its copy, which is not the newest one's, failing (R537). -/
def breakSave (d : Dict) : Dict :=
  match d.saving with
  | none => d
  | some i => { d with saving := none, images := (newestOf d.images).toList ++ [{ i with good := false }] }

/-- The running values become an image's; the SAVED objects it does not list take their defaults. -/
def takeImage (v : Tab Nat) (s : State) : State :=
  { s with objs := v.foldl (fun t e => tset t e.1 e.2) (s.objs.filter (fun e => !savedKey e.1)) }

/-- The units of a die take the running values (R471, R511, R499): its walk_enable, and the power die its limit. -/
def takeConfig (die : Nat) (s : State) : State :=
  let s := setBlock die (fun b => { b with walkEnable := obj s 0xF010 1 == 1 }) s
  if die = 0x1F then setReg 0x1F 0x8000 (obj s 0x2000 4) s else s

/-- Every die takes them. -/
def takeAllConfig (s : State) : State :=
  (List.range 32).foldl (fun s d => if hasBlock d ∧ diePresent s d then takeConfig d s else s) s

/-- The newest image whose code matches is restored (R472). -/
def restoreImage (s : State) : State :=
  match newestOf (s.dict.images.filter (·.good)) with
  | none => raiseEvent 0x1030 7 0 (setObj 0x1011 4 0 (takeImage [] s))
  | some i =>
    let s := takeImage i.values s
    if (newestOf s.dict.images).map (·.seq) = some i.seq then setObj 0x1011 4 1 s
    else raiseEvent 0x1030 7 0 (setObj 0x1011 4 2 s)

/-! ## What a reset and an input loss clear (R537) -/

/-- A cluster and a table slot keep what custody storage holds of them: the spares in service, the generation (R556, R221). -/
def keepSpares (e : Nat × Cluster) : Nat × Cluster := (e.1, { Cluster.zero with spares := e.2.spares })
def keepGen (e : Nat × TableSlot) : Nat × TableSlot := (e.1, { TableSlot.free with gen := e.2.gen })

/-- A firmware slot under TRIAL: the previous slot is what boots (R543). -/
def dropTrial (f : Firmware) : Firmware :=
  { f with running := none, marker := (match f.trial with | some k => k | none => f.marker), trial := none, verifying := false,
           restarting := false }

/-- The units of the package as they are after a full package reset, the objects that stay given by `keep`. -/
def clearUnits (keep : Nat → Bool) (s : State) : State :=
  { dropWork { s with openReqs := [], qps := [] } with
    objs := s.objs.filter (fun e => keep e.1)
    dict := { breakSave s.dict with i3c := [(0, Session.fresh .implicit s.time)], eth := [], i3cAddr := none, i3cReplies := [], i3cNotes := [] }
    links := [], pkgBucket := 65536, pkgBucketAt := s.time, compTab := [], comps := [], meterStart := s.time, regions := []
    owners := ⟨[], [], []⟩, placed := [], shadows := [], dir := [], sync := [], copies := [], deadlock := [], blocks := [], regs := []
    mbx := [], geyser := [], doms := [(0, { Domain.off with st := 0 })], replaced := false, misroutes := [], tiles := []
    notified := [], registry := [], handles := [], xlt := [], xltDesc := [], faultIds := [], arenas := []
    clusters := s.clusters.map keepSpares, slots := s.slots.map keepGen
    otables := [], forwards := [], guests := [], peeked := [], shards := [], rowOps := 0, indexes := [], memberRanges := [], paused := 0, xoff := 0, ethHeld := []
    selfDone := [], votes := [], change := none, retest := none, spdm := ⟨0, 0, []⟩, dissolving := false, burstUj := 2500000
    fullTest := false, cold := false, store := [], unrebuilt := [], memberObjects := [], formFrom := 0, inputOn := s.inputOn, norFree := false, fw := dropTrial s.fw
    mem := s.mem.filter (fun c => decide (c.1 < windowBase))
    poison := s.poison.filter (fun l => decide (64 * l < windowBase)) }

/-- THERM_TRIP_N is released (R613). -/
def clearTrip (s : State) : State := if s.thermTrip then emit (.pin 0 true) { s with thermTrip := false } else s

/-! ## Full package reset (R536, R537) -/

/-- The lifetime meters take up, at a reset's trigger, what they have not yet counted: how much that is, is open (R595, log
entry 37). -/
def takeMeters (s : State) : State :=
  ((List.range 5).map (· + 1)).foldl (fun s n => let (f, s) := drawFree s; bump 0xB050 n f s) s

/-- Moves in flight at the trigger (R553): an interrupted promotion leaves FAR, an interrupted demotion NEAR. -/
def endMoves (e : Nat × Extent) : Nat × Extent :=
  (e.1, { e.2 with st := (match e.2.st with | .movingUp => .far | .movingDown => .near | x => x) })

/-- A reset is triggered (R536): nothing more is accepted or answered, what is open receives RESET_DISCARD, the links go down. -/
def triggerReset (cause : Nat) (held : Bool) (s : State) : State :=
  let s := dropWork (takeMeters (closeAllSessions s))
  let s := setObj 0x7100 1 0 (clearQps { s with links := [] })
  { s with resetting := ⟨some cause, held, false, s.time⟩, extents := s.extents.map endMoves }

/-- At 55 µs the dirty lines of the store caches were written back; at 1 ms the domains are OFF, the state is cleared and the package
enters FUMAROLE_ONLY; trust_mode returns to 0, which the log holds (R404). The custody record of this rule is the BOOT entry of the
start that follows (log entry 18). -/
def resetDone (cause : Nat) (s : State) : State :=
  let s := if obj s 0x7020 3 = 1 then appendLog 0x22 0 0 0 s else s
  let s := clearTrip (clearUnits (fun k => keptKey k || savedKey k) s)
  let s := setObj 0x1040 5 cause (bump 0x1040 4 1 s)
  enterState .fumaroleOnly { s with resetting := { s.resetting with cause := none, soon := false } }

/-- The straps are sampled (R612). -/
def sample (x : Straps) (s : State) : State := setObj 0x1030 8 (0x58 + x.i3c % 8) (setObj 0x6010 4 (b2n x.master) s)

/-- PKG_RESET_N_ASSERT (R612). -/
def execPkgResetNAssert (s : State) : Host.Outcome State Fault Refusal :=
  .next (if s.pkg = .off then s else triggerReset 1 true s)

/-- NOR_FREE_RELEASE (R615): while the ball is low. -/
def execNorFreeRelease (s : State) : Host.Outcome State Fault Refusal :=
  .next (if s.resetting.held ∧ !s.norFree then emit (.pin 1 true) (emit (.pin 2 true) { s with norFree := true }) else s)

/-- PKG_RESET_N_RELEASE (R536, R612, R615): the timeline goes on from here. -/
def execPkgResetNRelease (straps : Straps) (s : State) : Host.Outcome State Fault Refusal :=
  .next (if s.resetting.held then
      let s := if s.norFree then emit (.pin 1 false) { s with norFree := false } else s
      sample straps { s with resetting := { s.resetting with held := false } }
    else s)

/-- A guarded write of pkg_reset (R536). -/
def doPkgReset (c : Ctx) (s : State) : State :=
  if c.value ≠ 1 then finBad c s else applied c (fun s => { s with resetting := { s.resetting with soon := true } }) s

/-- PKG_RESET (R536). -/
def execPkgReset (d : DapMsg) (s : State) : Host.Outcome State Fault Refusal :=
  .next (dapServe dapGuarded (toObj d 0x1040 1) doPkgReset s)

/-- PKG_RESET_TRIGGER (R536). -/
def execPkgResetTrigger (s : State) : Host.Outcome State Fault Refusal :=
  .next (if s.resetting.soon ∧ undisturbed s ∧ s.pkg ≠ .off then triggerReset 2 false s else s)

/-- RESET_SHUTDOWN_DONE (R536): not while PKG_RESET_N is held low. -/
def execResetShutdownDone (s : State) : Host.Outcome State Fault Refusal :=
  .next (match s.resetting.cause with
    | some c => if s.resetting.held then s else resetDone c s
    | none => s)

/-! ## The input (R500, R524) -/

/-- The input is in the range that the power die accepts. -/
def inputGood (mv : Nat) : Bool := decide (54000 ≤ mv ∧ mv ≤ 80000)

/-- PWR_INPUT and input_mv take a measurement (R521, R523). -/
def setInput (mv : Nat) (s : State) : State :=
  setReg 0x1F 0x2008 (setBits (reg s 0x1F 0x2008 0) 15 0 (mv / 10)) (setObj 0x2000 1 mv s)

/-- INPUT_STABLE (R500): the soft-start begins. -/
def execInputStable (mv : Nat) (s : State) : Host.Outcome State Fault Refusal :=
  .next (if s.pkg = .off ∧ inputGood mv then setInput mv { s with inputOn := true } else s)

/-- PACKAGE_BUS_REGULATED (R524, R520): domain 0 starts. -/
def execPackageBusRegulated (straps : Straps) (ref : Bool) (s : State) : Host.Outcome State Fault Refusal :=
  .next (if s.pkg = .off ∧ s.inputOn then
      let s := setObj 0x1040 5 0 (bump 0x2001 3 1 { s with time := 0, cold := true, resetting := ⟨none, false, false, 0⟩ })
      enterState .fumaroleOnly (sample straps (setObj 0x2001 2 (b2n ref) s))
    else s)

/-- INPUT_LOW_WARNING (R500). -/
def execInputLowWarning (mv : Nat) (s : State) : Host.Outcome State Fault Refusal :=
  .next (if s.inputOn ∧ mv < 56000 then raiseEvent 0x2000 8 1 (setInput mv s) else s)

/-- An extent whose frame is in flash keeps its contents when the rails go (R554). -/
def inFlash (e : Nat × Extent) : Bool := (e.2.st == .far || e.2.st == .movingUp) && !e.2.staged

/-- The extents at an input loss: moves are over, and a frame that is not all in flash is gone with the near tier (R553, R554). -/
def endStaging (e : Nat × Extent) : Nat × Extent :=
  if e.2.staged then (e.1, { e.2 with st := .near, staged := false }) else endMoves e

/-- Every rail is removed (R500): custody storage, the NOR and flash keep what they hold. -/
def loseInput (s : State) : State :=
  let far := s.extents.filter inFlash
  let kept (ext : Nat) : Bool := (tget far ext).isSome
  let s := clearTrip (clearUnits custodyKey s)
  { s with
    pkg := .off, inputOn := false, resetting := ⟨none, false, false, 0⟩
    extents := s.extents.map endStaging
    mem := s.mem.filter (fun c => kept (extentOf c.1))
    poison := s.poison.filter (fun l => kept (l / 32768)) }

/-- INPUT_LOSS (R500): no RESET_DISCARD leaves. -/
def execInputLoss (mv : Nat) (s : State) : Host.Outcome State Fault Refusal :=
  .next (if inputGood mv then s else loseInput s)

end Sys2Proof.Machine
end

