-- ==== Sys2Proof/Machine/Bringup.lean ====
section
/-! DEFINITION. From FUMAROLE_ONLY to READY: the root of trust, self-test, what the near and far tiers present; firmware
updates (R525 to R533, R539 to R544, R553, R554). -/

namespace Sys2Proof.Machine

/-! ## Firmware slots (R525, R545) -/

/-- A firmware slot, 0 A or 1 B. -/
def fwSlot (s : State) (k : Nat) : FwSlot := if k = 0 then s.fw.a else s.fw.b
def setFwSlot (k : Nat) (f : FwSlot → FwSlot) (s : State) : State :=
  if k = 0 then { s with fw := { s.fw with a := f s.fw.a } } else { s with fw := { s.fw with b := f s.fw.b } }

/-- fw_slot_status (R545). -/
def fwStatus (s : State) (k : Nat) : Nat :=
  let x := fwSlot s k
  x.st + x.security % 2 ^ 16 * 2 ^ 16 + x.version % 2 ^ 32 * 2 ^ 32

/-- The slot that does not run. -/
def otherSlot (s : State) : Nat := 1 - (s.fw.running.getD 0)

/-- A slot passes verification (R525). -/
def fwPasses (s : State) (f : FwFound) : Bool :=
  f.present && f.digestOk && f.sigOk && decide (obj s 0x1050 7 ≤ f.securityVersion)

/-- What verification at a start finds in a slot is what the slot shows (log entry 38). -/
def foundSlot (s : State) (f : FwFound) (x : FwSlot) : FwSlot :=
  if !f.present then { x with st := 0, version := 0, security := 0, digest := 0 }
  else { x with st := (if fwPasses s f then 2 else 3), version := f.version, security := f.securityVersion, digest := f.digest }

/-- A FIRMWARE entry: slot, version, cause (R591, log entry 18). -/
def logFirmware (k version cause : Nat) (s : State) : State := appendLog 0x11 0 0 (k + cause * 2 ^ 8 + version % 2 ^ 32 * 2 ^ 32) s

/-- A slot's firmware runs: mgmt_fw_version and mgmt_fw_slot show it. -/
def runSlot (k : Nat) (s : State) : State :=
  let s := setFwSlot k (fun x => { x with st := 4 }) { s with fw := { s.fw with running := some k } }
  setObj 0x1000 8 k (setObj 0x1000 7 (fwSlot s k).version s)

/-- The start's check of the custody log (R593), and its checkpoint over an unsigned tail (R592). -/
def checkLog (broken : Option Nat) (s : State) : State :=
  match broken with
  | some u => raiseEvent 0xB040 7 1 (checkpoint (appendLog 2 0 0 (u % 2 ^ 64) s))
  | none => if 0 < s.sinceCheck then checkpoint s else s

/-- The management core starts from a slot, and a BOOT entry is appended (R591). -/
def boot (k : Nat) (s : State) : State :=
  let s := runSlot k s
  let x := fwSlot s k
  let s := setDom 2 (fun d => { d with st := 0 }) s
  appendLog 0x10 0 0 (obj s 0x1040 5 + k * 2 ^ 8 + x.version % 2 ^ 32 * 2 ^ 32 + x.security % 2 ^ 16 * 2 ^ 64) s

/-- The root of trust has verified the slots (R525, R526). -/
def doRotVerify (fa fb : FwFound) (broken : Option Nat) (s : State) : State :=
  let s := checkLog broken (setDom 1 (fun d => { d with st := 0 }) s)
  let s := setFwSlot 1 (foundSlot s fb) (setFwSlot 0 (foundSlot s fa) s)
  let m := s.fw.marker
  let pass (k : Nat) : Bool := fwPasses s (if k = 0 then fa else fb)
  if pass m then boot m s
  else if pass (1 - m) then
    let k := 1 - m
    boot k (logFirmware k (fwSlot s k).version 1 (raiseEvent 0x1050 8 1 s))
  else s

/-- ROT_VERIFY_DONE (R525): once at each start. -/
def execRotVerifyDone (slotA slotB : FwFound) (logBreak : Option Nat) (s : State) : Host.Outcome State Fault Refusal :=
  .next (if s.pkg = .fumaroleOnly ∧ undisturbed s ∧ s.fw.running.isNone then doRotVerify slotA slotB logBreak s else s)

/-! ## Into SELF_TEST (R524, R528) -/

/-- The result word of a step (R533). -/
def stepWord (outcome : Nat) (cs : List SelfCause) : Nat :=
  let first := cs.head?
  outcome * 2 ^ 28 + (match first with | some c => c.cause % 256 | none => 0) * 2 ^ 16
    + (match first with | some c => c.die % 256 | none => 0xFF) * 2 ^ 8 + min 0xFF cs.length

/-- The sizes that flash discovery sets (R171, R532, R475). -/
def setFar (far readNs chamoisNs : Nat) (s : State) : State :=
  let s := setObj 0x9010 4 chamoisNs (setObj 0x3010 3 readNs (setObj 0x1020 6 far s))
  setObj 0x3010 2 0x100000000 (setObj 0x1021 2 (if far = 0 then 0x7F00000000 else min 0xFFF000000000 (0x7F00000000 + far)) s)

/-- The domains of the units that the package has are powered: the fast ones only with the board reference (R515). -/
def powerAll (s : State) : State :=
  ((List.range 27).map (· + 1)).foldl (fun s d =>
    if domPresent s d ∧ (!isFast d ∨ obj s 0x2001 2 = 1) then setDom d (fun x => { x with st := 0 }) s else s) s

/-- The extents after an input loss (R554): FAR as the journal shows, NEAR and poisoned where it shows them written, ZERO. -/
def replay (far near : List Nat) (s : State) : State :=
  let had := s.extents
  let keep (ext : Nat) : Bool := far.contains ext
  let made (ext : Nat) : Extent := match tget had ext with
    | some x => { x with st := .far, staged := false }
    | none => ⟨.far, none, false, 0xFFF, keyGeneration s 0xFFF, false, 0⟩
  let s := { s with
    extents := far.foldl (fun t e => tset t e (made e)) []
    mem := s.mem.filter (fun c => windowBase ≤ c.1 || keep (extentOf c.1))
    poison := s.poison.filter (fun l => windowBase ≤ 64 * l || keep (l / 32768)) }
  near.foldl (fun s e => bump 0xA010 0xA extentBytes (placePoisoned e s)) s

/-- What the flash journal shows (R554): the extents in flash become FAR, the other written ones NEAR and poisoned. -/
def replayMaps (s : State) : State :=
  if hasFar s then
    setObj 0xA010 9 2 (replay ((s.extents.filter inFlash).map (·.1)) ((s.extents.filter (fun e => !inFlash e)).map (·.1)) s)
  else setObj 0xA010 9 0 (replay [] [] s)

/-- The custody die generates the media key at the first flash discovery (R586). -/
def mediaKeyed (s : State) : State :=
  if s.mediaKey.isSome then s
  else
    let (k, s) := drawKey s
    { s with mediaKey := some k }

/-- What flash discovery leaves (R532, R554, R475). -/
def discover (f : FlashFound) (s : State) : State :=
  let far := f.farBytes / extentBytes * extentBytes
  let s := if far = 0 then setFar 0 0 0 s else setFar far f.farReadNs f.chamoisReadNs (mediaKeyed s)
  if s.cold then replayMaps s else s

/-- On a package without flash dies FLASH has nothing to test (R528). -/
def noFlash (s : State) : State :=
  discover ⟨0, 0, 0⟩ (setObj 0x1041 5 (stepWord 5 []) { s with selfDone := sadd s.selfDone 5 })

/-- The management core restores the saved image; the dictionary is live; the steps begin (R524). -/
def doMgmtReady (s : State) : State :=
  let s := takeAllConfig (restoreImage { s with selfDone := [] })
  let s := powerAll { s with fullTest := obj s 0x1040 3 == 1 }
  let s := ((List.range 6).map (· + 1)).foldl (fun s k => setObj 0x1041 k (stepWord stRunning []) s) s
  let s := enterState .selfTest s
  if obj s 0x1020 2 = 0 then noFlash s else s

/-- MGMT_CORE_READY (R524): a slot has been booted. -/
def execMgmtCoreReady (s : State) : Host.Outcome State Fault Refusal :=
  .next (if s.pkg = .fumaroleOnly ∧ undisturbed s ∧ s.fw.running.isSome then doMgmtReady s else s)

/-! ## Self-test (R528 to R533) -/

/-- The causes that are critical (R529). -/
def critical (step cause : Nat) : Bool :=
  match step with
  | 1 => cause == 1 || cause == 0xFE
  | 2 => cause == 1 || cause == 2 || cause == 0xFE
  | 4 => cause == 1 || cause == 0xFE
  | 5 => cause == 1 || cause == 2 || cause == 0xFE
  | _ => false

/-- A cluster is OFFLINE after TILES (R529, R117). -/
def offlineCluster (c : Nat) (s : State) : State :=
  cfgEvent (logRepair 4 (8 + c / 16) c 0 (setCluster c (fun x => { x with st := .offline }) s))

/-- Clusters out of service (R596). -/
def countOffline (s : State) : State := setObj 0xB060 2 (s.clusters.filter (fun e => e.2.st == .offline)).length s

/-- What TILES found: spares taken, by tile of the slice, and clusters without one left (R21, R529). -/
def tilesFound (cs : List SelfCause) (s : State) : State :=
  countOffline (cs.foldl (fun s c =>
    if c.cause = 2 ∧ 8 ≤ c.die ∧ c.die < 16 then substitute (16 * (c.die - 8) + c.unit % 256 / 16) (c.unit % 16) s
    else if c.cause = 3 then offlineCluster (c.unit % 128) s
    else s) s)

/-- Every near line is written as zero (R531). -/
def zeroNear (s : State) : State :=
  let near (ext : Nat) : Bool := extState s ext == some .near
  { s with mem := s.mem.filter (fun c => windowBase ≤ c.1 || !near (extentOf c.1)),
           poison := s.poison.filter (fun l => windowBase ≤ 64 * l || !near (l / 32768)) }

/-- An extent committed FAR and not programmed to flash at the trigger is presented NEAR, poisoned (R553). -/
def lostStaged (e : Nat × Extent) (s : State) : State :=
  if e.2.staged then
    let s := placePoisoned e.1 { s with extents := terase s.extents e.1 }
    bump 0xA010 0xA extentBytes { s with extents := tmod s.extents e.1 (fun x => { x with key := e.2.key, keyGen := e.2.keyGen }) }
  else s

/-- What the memory test of step HBM leaves (R531, R553): after a cold start the near tier is zero and the journal decides, as
where a line of the extent maps is uncorrectable; otherwise the contents are presented again. -/
def hbmTested (w : WarmCheck) (s : State) : State :=
  if s.cold then s
  else if w.mapBad then (if s.selfDone.contains 5 then replayMaps s else { s with cold := true })
  else
    let s := if s.fullTest then zeroNear s else w.lines.foldl (fun s l => foundBad s l) s
    setObj 0xA010 9 1 (s.extents.foldl (fun s e => lostStaged e s) s)

/-- Every step has ended, none critical: READY (R533). -/
def tryReady (s : State) : State :=
  if (List.range 6).all (fun i => [2, 3, 5].contains (stepOutcome s (i + 1))) then
    purgeReached (enterState .ready
      (setObj 0x1040 6 ((s.time - s.resetting.since) / 1000000) { s with cold := false }))
  else s

/-- A step ends on its dies (R529, R530, R533). -/
def endStep (k : Nat) (cs : List SelfCause) (flash : Option FlashFound) (w : WarmCheck) (s : State) : State :=
  match cs.find? (fun c => critical k c.cause) with
  | some c => standing k c.cause c.unit c.die (setObj 0x1041 k (stepWord 4 cs) s)
  | none =>
    let s := setObj 0x1041 k (stepWord (if cs.isEmpty then 2 else 3) cs) { s with selfDone := sadd s.selfDone k }
    tryReady (match k with
      | 2 => hbmTested w s
      | 4 => tilesFound cs s
      | 5 => discover (flash.getD ⟨0, 0, 0⟩) s
      | _ => s)

/-- A step that runs can end. -/
def mayEnd (s : State) (k : Nat) : Bool :=
  selfTesting s && decide (1 ≤ k ∧ k ≤ 6) && stepOutcome s k == stRunning

/-- SELFTEST_STEP_END (R529). -/
def execSelftestStepEnd (step : Nat) (causes : List SelfCause) (flash : Option FlashFound) (warm : WarmCheck) (s : State) :
    Host.Outcome State Fault Refusal :=
  .next (if mayEnd s step then endStep step causes flash warm s else s)

/-- SELFTEST_STEP_TIMEOUT (R528). -/
def execSelftestStepTimeout (step die unit : Nat) (s : State) : Host.Outcome State Fault Refusal :=
  .next (if mayEnd s step then endStep step [⟨0xFE, die, unit⟩] none ⟨[], false⟩ s else s)

/-! ## Firmware updates (R540 to R544) -/

/-- The bytes of a staged image from an offset, at most 4,096 in one place (R540). -/
def stagedAt (x : FwSlot) (off n : Nat) : Nat := (tgetD x.staged (off / 4096) 0 >>> (8 * (off % 4096))) % 2 ^ (8 * n)

/-- fw_stage_data (R540): from a management session alone. -/
def doStage (c : Ctx) (s : State) : State :=
  let off := obj s 0x1050 3
  if c.actor ≠ 2 ∨ c.bytes ≠ 4096 ∨ off % 4096 ≠ 0 then finBad c s
  else if 8384512 < off then fin c .badLength 0 s
  else if s.fw.verifying then fin c .defer 1 s
  else applied c (fun s => setObj 0x1050 3 (off + 4096)
    (setFwSlot (otherSlot s) (fun x => { x with st := 1, staged := tset x.staged (off / 4096) c.value }) s)) s

/-- FW_STAGE_DATA (R540). -/
def execFwStageData (d : DapMsg) (s : State) : Host.Outcome State Fault Refusal :=
  .next (dapServe dapWrite (toObj d 0x1050 4) doStage s)

/-- fw_stage_offset: from a management session alone; an offset that no write takes is refused at the write (R540). -/
def doStageOffset (c : Ctx) (s : State) : State :=
  if c.actor ≠ 2 then finBad c s else applied c (setObj 0x1050 3 c.value) s

/-- fw_verify (R541): the answer leaves when the verification ends. -/
def doFwVerify (c : Ctx) (s : State) : State :=
  if c.actor ≠ 2 ∨ c.value ≠ 1 then finBad c s
  else if s.fw.verifying then fin c .defer 1 s
  else { s with fw := { s.fw with verifying := true } }

/-- FW_VERIFY (R541). -/
def execFwVerify (d : DapMsg) (s : State) : Host.Outcome State Fault Refusal :=
  .next (dapServe dapWrite (toObj d 0x1050 5) doFwVerify s)

/-- The first `n` bytes of a staged image. -/
def stagedImage (x : FwSlot) (n : Nat) : Nat :=
  (List.range (ceilDiv n 4096)).foldl (fun v i => v ||| tgetD x.staged i 0 % 2 ^ 32768 <<< (32768 * i)) 0 % 2 ^ (8 * n)

/-- The signature block of a firmware image of `n` bytes is laid out as R99 says and verifies under the ROM firmware key
(R100, R539). -/
def fwSigned (img n : Nat) : Bool :=
  let b := n - 3328
  decide (3392 ≤ n) && imgBits img b 127 96 == 0 && imgBits img b 31 0 == 0x0CED01FF && imgBits img (b + 3325) 23 0 == 0 &&
    shake256 1952 Config.fwKey % 2 ^ 64 == imgBits img b 95 32 &&
    sigOk Config.fwKey (shake256 b (img % 2 ^ (8 * b))) (imgBits img (b + 16) 26471 0)

/-- The failure that a verified slot carries, in the order of R541: its header and signature as staged; whether the flash returned
what was staged is what the root of trust found. -/
def verifyStatus (s : State) (x : FwSlot) (f : FwFound) : Status :=
  let h := stagedAt x 0 64
  if bits h 31 0 ≠ 0x5746474D ∨ bits h 47 32 ≠ 1 ∨ bits h 511 128 ≠ 0 then .unsupported
  else if bits h 127 96 = 0xFFFFFFFF ∨ 8388608 < bits h 127 96 then .badLength
  else if !f.digestOk ∨ !fwSigned (stagedImage x (bits h 127 96)) (bits h 127 96) ∨ bits h 127 96 % 64 ≠ 0 ∨
      bits h 63 48 < obj s 0x1050 7 then .checkFail
  else .ok

/-- A verification ends (R541). -/
def doFwVerifyDone (f : FwFound) (s : State) : State :=
  let k := otherSlot s
  let x := fwSlot s k
  let st := verifyStatus s x f
  let h := stagedAt x 0 64
  let n := bits h 127 96
  let mark := if st = .ok then 2 else 3
  let dg := if st = .ok then shake256 n (stagedImage x n) else f.digest
  let s := setFwSlot k (fun x => { x with st := mark, version := bits h 95 64, security := bits h 63 48, digest := dg }) s
  dapFinishKey (okey 0x1050 5) st 0 { s with fw := { s.fw with verifying := false } }

/-- FW_VERIFY_DONE (R541). -/
def execFwVerifyDone (f : FwFound) (s : State) : Host.Outcome State Fault Refusal :=
  .next (if s.fw.verifying then doFwVerifyDone f s else s)

/-- The management core restarts from a slot (R542, R544): every DAP session closes. -/
def restart (s : State) : State :=
  let s := closeAllSessions s
  { s with fw := { s.fw with restarting := true, verifying := false } }

/-- fw_handover (R542). -/
def doFwHandover (c : Ctx) (s : State) : State :=
  if c.actor ≠ 2 ∨ 1 < c.value ∨ s.fw.running = some c.value ∨ (fwSlot s c.value).st ≠ 2 then finBad c s
  else if !logRoom s 0x20 then fin c .defer 0 s
  else
    let old := s.fw.running
    let s := finOk c (guardedEntry c s)
    let s := match old with | some k => setFwSlot k (fun x => { x with st := 2 }) s | none => s
    let s := runSlot c.value s
    let s := setFwSlot c.value (fun x => { x with st := 5 }) { s with fw := { s.fw with marker := c.value, trial := old } }
    restart s

/-- FW_HANDOVER (R542). -/
def execFwHandover (d : DapMsg) (s : State) : Host.Outcome State Fault Refusal :=
  .next (dapServe dapGuarded (toObj d 0x1050 6) doFwHandover s)

/-- The firmware reports alive (R542): a TRIAL is committed and the floor raised; a restart from the running slot changes
neither (R544). -/
def doFwAlive (s : State) : State :=
  match s.fw.running with
  | none => s
  | some k =>
    let trial := s.fw.trial.isSome
    let x := fwSlot s k
    let s := { s with fw := { s.fw with restarting := false, trial := none } }
    let s := if trial then setObj 0x1050 7 (max (obj s 0x1050 7) x.security) (setFwSlot k (fun x => { x with st := 4 }) s) else s
    logFirmware k x.version 3 s

/-- FW_ALIVE (R542). -/
def execFwAlive (s : State) : Host.Outcome State Fault Refusal := .next (if s.fw.restarting then doFwAlive s else s)

/-- The new firmware is not alive in time (R543): the previous slot is restarted and the marker set back. -/
def doHandoverTimeout (s : State) : State :=
  match s.fw.running, s.fw.trial with
  | some k, some old =>
    let s := setFwSlot k (fun x => { x with st := 3 }) s
    let s := runSlot old { s with fw := { s.fw with marker := old, trial := none } }
    logFirmware old (fwSlot s old).version 2 (raiseEvent 0x1050 8 2 s)
  | _, _ => s

/-- FW_HANDOVER_TIMEOUT (R543). -/
def execFwHandoverTimeout (s : State) : Host.Outcome State Fault Refusal :=
  .next (if s.fw.restarting then doHandoverTimeout s else s)

/-- WATCHDOG_EXPIRY (R527): a handover to the same slot. -/
def execWatchdogExpiry (s : State) : Host.Outcome State Fault Refusal :=
  .next (if dictLive s ∧ s.fw.running.isSome ∧ !s.fw.restarting then restart s else s)

end Sys2Proof.Machine
end

