-- ==== Sys2Proof/Machine/Power.lean ====
section
/-! DEFINITION. The power budget, the states of the power domains, waking, and held dies (R502 to R523, R557 to R560). -/

namespace Sys2Proof.Machine

/-! ## The power budget (R517, R518) -/

/-- The full burst store in µJ. -/
abbrev burstFull : Nat := 2500000

/-- The burst store after an interval of 10 µs at P under L. -/
def burstNext (b p l : Nat) : Nat := if l < p then b - 10 * (p - l) else min burstFull (b + 10 * (l - p))

/-- The throttle acts: P above 1,600 W, the input current above 30 A, P above L with B empty, or a die at the throttle
temperature (R517, R519, R501). -/
def throttleActs (s : State) (p ma tempDc : Nat) : Bool :=
  decide (1600 < p ∨ 30000 < ma ∨ (s.burstUj = 0 ∧ obj s 0x2000 4 < p) ∨ 10 * obj s 0x2002 3 ≤ tempDc)

/-- The level of the next interval: a step up while the throttle acts; otherwise whether it falls by its one step is open
(R516, R518, log entry 39). -/
def throttleNext (acts : Bool) (n f : Nat) : Nat := if acts then min 15 (n + 1) else n - f % 2

/-- A 10 µs interval ends. -/
def doInterval (p ma mv tempDc tempDie : Nat) (s : State) : State :=
  let n := obj s 0x2000 6
  let s := { s with burstUj := burstNext s.burstUj p (obj s 0x2000 4) }
  let s := if n = 0 then s else bump 0x2000 7 10 s
  let (f, s) := drawFree s
  let n' := throttleNext (throttleActs s p ma tempDc) n f
  let s := setObj 0x2000 6 n' (setObj 0x2000 5 (s.burstUj / 1000) (setObj 0x2000 3 p (setObj 0x2000 2 ma (setObj 0x2000 1 mv s))))
  let s := setObj 0x2002 2 tempDie (setObj 0x2002 1 tempDc s)
  let s := setReg 0x1F 0x2008 (mv / 10 % 65536 + ma / 10 % 65536 * 65536) s
  let s := setReg 0x1F 0x200C (n' + b2n (s.burstUj == 0) * 16 + p % 65536 * 65536) s
  if n = 0 ∧ n' ≠ 0 then raiseEvent 0x2000 8 2 s else s

/-- POWER_INTERVAL (R517). -/
def execPowerInterval (powerW inputMa inputMv tempDc tempDie : Nat) (s : State) : Host.Outcome State Fault Refusal :=
  .next (if s.pkg = .off then s else doInterval powerW inputMa inputMv tempDc tempDie s)

/-! ## Conditions for sleep (R505, R506, R507) -/

/-- The deepest state that a domain may enter (R502). -/
def deepest (d : Nat) : Nat := if d = 0 then 0 else if d = 2 then 1 else if d = 3 then 2 else 3

/-- A home is declared held-ready (R512). -/
def heldReady (s : State) (n : Nat) : Bool := bit (obj s 0x2011 1) n

/-- The floor of a domain (R505, R512). -/
def floorOf (s : State) (d : Nat) : Nat :=
  let f := min (obj s (0x2100 + d) 2) (deepest d)
  if 8 ≤ d ∧ d < 16 ∧ heldReady s (d - 8) then min f 1 else f

/-- Requests whose header names memory at a home. -/
def usesMemory (op : Nat) : Bool := [0x01, 0x02, 0x03, 0x04, 0x06, 0x07, 0x20, 0x21, 0x22, 0x23, 0x24].contains op || decide (0xE0 ≤ op)

/-- Nothing at home n keeps it from RETAIN (R506). -/
def homeQuiet (s : State) (n : Nat) : Bool :=
  let here (off : Nat) : Bool := homeOf s off == n
  let on (slice : Option Nat) : Bool := slice.isNone || slice == some n
  !heldReady s n &&
  s.openReqs.all (fun e => !usesMemory e.2.req.op || !(touched e.2.req).any (fun r => (homesOf s r.1 (max 1 r.2)).contains n)) &&
  s.stalls.all (fun e => !here (e.2.address % 2 ^ 48) && e.2.dom != some (homeDom n)) &&
  s.snoops.all (fun e => !here (64 * e.2.line)) && s.recalls.all (fun l => !here (64 * l)) &&
  s.moves.all (fun m => m.started.isNone || !(on (layoutOf s m.extent) || (m.relayout && on (wantedLayout s m.extent)))) &&
  (List.range 4).all (fun i => (channelOf s (4 * n + i)).isEmpty) &&
  s.oreqs.all (fun e => e.2.ended || !here (rowAt (odOf s (orTable e.2.posted.req.body) e.2.version) (rowOf e.2 e.2.done).row)) &&
  s.forwards.all (fun f => forwardHome s f != n && !(f.pkg == pkgNo s && f.slice == n)) && s.guests.all (fun g => g.slice != n)

/-- A tile of fabric die n is stalled: it waits for an access or for a synchronisation object. -/
def tilesStalled (s : State) (n : Nat) : Bool :=
  s.stalls.any (fun e => e.2.who.access.die == 8 + n) || s.walks.any (fun w => w.who.access.die == 8 + n) ||
  s.faultNone.any (fun i => i.access.die == 8 + n) || s.faults.any (fun e => e.2.joined.any (fun i => i.access.die == 8 + n)) ||
  s.tiles.any (fun e => e.1 / 256 == n && (e.2.waiting.isSome || !e.2.held.isEmpty))

/-- Nothing on fabric die n keeps it from RETAIN (R506). -/
def fabricQuiet (s : State) (n : Nat) : Bool :=
  s.clusters.all (fun e => e.1 / 16 != n || (e.2.load.isNone && (e.2.st == .empty || e.2.st == .armed || e.2.st == .running))) &&
  s.calls.all (fun e => e.2.clusters.all (fun c => c / 16 != n)) && !tilesStalled s n

/-- Nothing on a flash die keeps it from RETAIN: extents and indexes are spread over all of them (R506, R266). Shares that
wait in staging are being programmed, an ONFI operation (log entry 51). -/
def flashQuiet (s : State) : Bool :=
  staging s == 0 && s.moves.all (fun m => m.started.isNone || m.relayout) && s.sops.all (fun e => seOp e.2.posted.req.body != 1) &&
  s.indexes.all (fun e => e.2.st != 3)

/-- The conditions for RETAIN (R513). -/
def mayRetain (s : State) (d : Nat) : Bool :=
  if d = 1 then !s.fw.verifying && s.registering.isEmpty && s.spdm.sessions.all (fun e => e.2.established)
  else if d = 3 then obj s 0x7100 1 == 0
  else if d < 8 then (List.range 4).all (fun i => let l := link s (4 * (d - 4) + i); l.st == .down || l.st == .training)
  else if d < 16 then homeQuiet s (d - 8)
  else if d < 24 then fabricQuiet s (d - 16)
  else flashQuiet s

/-- The further conditions for OFF: a home's directory is recalled (R346), a flash die's staging buffer is empty. -/
def mayOff (s : State) (d : Nat) : Bool :=
  if 8 ≤ d ∧ d < 16 then s.dir.all (fun e => homeOf s (64 * e.1) != d - 8)
  else if 24 ≤ d then staging s == 0
  else true

/-- Domains 1 to 27 of the variant, in a package state that powers them. -/
def managed (s : State) (d : Nat) : Bool := decide (1 ≤ d) && domPresent s d && s.pkg != .off && (!isFast d || serving s || selfTesting s)

/-- DOMAIN_IDLE_ENTRY (R505). -/
def execDomainIdleEntry (dom : Nat) (s : State) : Host.Outcome State Fault Refusal :=
  .next (if managed s dom ∧ (Machine.dom s dom).st = 0 ∧ 1 ≤ floorOf s dom then setDom dom (fun x => { x with st := 1 }) s else s)

/-- A domain is ACTIVE from now on: its Geyser wakes are taken back (R495), its failures forgotten (R557). -/
def becomeActive (d : Nat) (s : State) : State :=
  clearWakes d (setDom d (fun x => { x with st := 0, waking := false, wakeReq := false, failed := false, failures := 0,
                                            checking := false }) s)

/-- DOMAIN_IDLE_EXIT (R505). -/
def execDomainIdleExit (dom : Nat) (s : State) : Host.Outcome State Fault Refusal :=
  .next (if (Machine.dom s dom).st = 1 then becomeActive dom s else s)

/-- Domains sleep only once the package serves (R533), the root of trust and Ethernet while a dictionary is live. -/
def maySleep (s : State) (d : Nat) : Bool := managed s d && (serving s || (!isFast d && dictLive s))

/-- RETAIN_ENTRY (R505, R506). -/
def execRetainEntry (dom : Nat) (s : State) : Host.Outcome State Fault Refusal :=
  .next (if maySleep s dom ∧ (Machine.dom s dom).st = 1 ∧ 2 ≤ floorOf s dom ∧ mayRetain s dom then
      settleCommit (setDom dom (fun x => { x with st := 2 }) (leaveIdle dom s))
    else s)

/-- A home that is to enter OFF recalls its directory first (R346). -/
def doOff (d : Nat) (s : State) : State :=
  let s := if 8 ≤ d ∧ d < 16 then recallAll (some (d - 8)) s else s
  if mayOff s d then settleCommit (railsOff d s) else s

/-- OFF_ENTRY (R505, R506, R507): a home keeps what it saves, in fields of the state that its domain does not touch. -/
def execOffEntry (dom : Nat) (s : State) : Host.Outcome State Fault Refusal :=
  .next (if maySleep s dom ∧ (Machine.dom s dom).st = 2 ∧ !(Machine.dom s dom).waking ∧ 3 ≤ floorOf s dom ∧ mayRetain s dom then doOff dom s
    else s)

/-! ## Waking (R504, R508 to R511, R560) -/

/-- WAKE_REQUEST (R508). -/
def execWakeRequest (dom : Nat) (s : State) : Host.Outcome State Fault Refusal :=
  .next (if managed s dom then wake dom s else s)

/-- A wake can end: the rails and clocks come up, for a fast domain with the board reference (R515). -/
def canWake (s : State) (d : Nat) : Bool :=
  let x := dom s d
  managed s d && x.waking && !x.failed && !x.checking && !x.held && decide (2 ≤ x.st) && (!isFast d || obj s 0x2001 2 == 1)

/-- The generations differ (R560). -/
def outdated (s : State) (d : Nat) : Bool := (dom s d).generation != obj s 0x6010 8

/-- The rails are up and the state restored; the check begins, and with another generation the recovery (R560). -/
def doWakeComplete (d : Nat) (s : State) : State :=
  let s := setDom d (fun x => { x with checking := true }) s
  if outdated s d ∧ 8 ≤ d ∧ d < 16 then recallAll (some (d - 8)) s else s

/-- WAKE_COMPLETE (R504). -/
def execWakeComplete (dom : Nat) (s : State) : Host.Outcome State Fault Refusal :=
  .next (if canWake s dom then doWakeComplete dom s else s)

/-- A die that leaves RETAIN or OFF has empty translation caches and takes the running configuration (R309, R471, R511). -/
def returned (d : Nat) (s : State) : State :=
  let ds := domDies d
  let s := { s with xlt := s.xlt.filter (fun e => !ds.contains e.die), xltDesc := s.xltDesc.filter (fun e => !ds.contains (e.1 / 4096)) }
  ds.foldl (fun s x => takeConfig x s) s

/-- With another generation, a home writes its store cache back and drops its lines and remote copies, and the clusters of a fabric
die reload; the generation is taken up and the recovery counted (R560). -/
def recover (d : Nat) (s : State) : State :=
  let s := if 16 ≤ d ∧ d < 24 then
      { s with clusters := s.clusters.map (fun e => if e.1 / 16 = d - 16 then (e.1, loseCluster e.2) else e) }
    else if 8 ≤ d ∧ d < 16 then emptyStore (d - 8) { s with copies := s.copies.filter (fun c => c.slice != d - 8) }
    else s
  bump 0xA020 4 1 (setDom d (fun x => { x with generation := obj s 0x6010 8 }) s)

/-- Every newly declared home is ACTIVE or IDLE, so the write of held_ready_mask is answered (R512). -/
def settleHeldReady (s : State) : State :=
  if (List.range 8).all (fun n => !heldReady s n || awake s (homeDom n)) then dapFinishKey (okey 0x2011 1) .ok 0 s else s

/-- The domain accepts traffic again: what waited for it goes on. -/
def doChecked (d : Nat) (s : State) : State :=
  let s := returned d (if outdated s d then recover d s else s)
  runQps (settleTiles (settleHeldReady (bump (0x2100 + d) 5 1 (becomeActive d s))))

/-- GENERATION_CHECK_DONE (R560): a home has discarded its directory where the generations differ. -/
def execGenerationCheckDone (dom : Nat) (s : State) : Host.Outcome State Fault Refusal :=
  .next (if (Machine.dom s dom).checking ∧ (!outdated s dom ∨ mayOff s dom ∨ !(decide (8 ≤ dom ∧ dom < 16))) then doChecked dom s else s)

/-! ## Held dies (R557, R558) -/

/-- The die whose fault a domain's failing wake is (R502, R557). -/
def domDie (d : Nat) : Nat :=
  if d = 0 then 0x1F else if d ≤ 2 then 0x1E else if d ≤ 5 then 0x18 else if d < 8 then 0x19
  else if d < 24 then d - 8 else 0x1A + (d - 24)

/-- The domains that a fault of a die holds. -/
def heldDoms (die : Nat) : List Nat :=
  if die < 8 then [8 + die] else if die < 16 then [8 + die] else if die = 0x18 then [4, 5] else if die = 0x19 then [6, 7]
  else if 0x1A ≤ die ∧ die ≤ 0x1D then [24 + (die - 0x1A)] else []

/-- The die is held: its domains, held_mask, rel_event, the record (R557). -/
def holdDie (die : Nat) (s : State) : State :=
  let s := (heldDoms die).foldl (fun s d => setDom d (fun x => { x with held := true, waking := false, failed := false, checking := false }) s) s
  logRepair 5 die 0 0 (raiseEvent 0xA060 2 2 (maskBit 0xA020 1 die true s))

/-- A cluster of a held fabric die: its calls end, its handle is ASSEMBLING, it is EMPTY (R557, R117, R118). -/
def evictCluster (c : Nat) (s : State) : State :=
  let x := cluster s c
  if x.st = .offline then s
  else
    let s := failCalls c s
    let s := match x.load with | some j => endLoad j c .internal s | none => s
    releaseCluster c (setCluster c (fun y => { y with st := .empty, info := none, copy := 0, load := none, reload := false })
      (unassignRole c s))

/-- Accesses of a die's engines that are in flight are lost with it. -/
def dropAccesses (die : Nat) (s : State) : State :=
  { s with
    stalls := s.stalls.filter (fun e => e.2.who.access.die != die)
    walks := s.walks.filter (fun w => w.who.access.die != die)
    faultNone := s.faultNone.filter (fun i => i.access.die != die)
    faults := s.faults.map (fun e => (e.1, { e.2 with joined := e.2.joined.filter (fun i => i.access.die != die) })) }

/-- Moves that had started on flash wait again (R557). -/
def stopMoves (s : State) : State :=
  { s with
    moves := s.moves.map (fun m => if m.relayout then m else { m with started := none })
    extents := s.extents.map (fun e => if e.2.st = .movingUp then (e.1, { e.2 with st := .far }) else e) }

/-- The package cannot go on without this die: STANDING with DIE_FAULT where it can be entered, otherwise OFF (R557). -/
def dieStops (die : Nat) (s : State) : State :=
  if serving s ∨ selfTesting s then standing runtime 4 0 die s
  else if s.pkg = .fumaroleOnly ∨ !undisturbed s then loseInput s
  else s

/-- A die fault (R557). -/
def dieFault (die : Nat) (s : State) : State :=
  if s.pkg = .off ∨ bit (obj s 0xA020 1) die ∨ !diePresent s die then s
  else if die < 8 then
    if 2 ≤ (dom s (homeDom die)).st then holdDie die s else standing runtime 4 0 die s
  else if die < 16 then
    let n := die - 8
    holdDie die (railsOff (fabricDom n) (dropAccesses die ((List.range 16).foldl (fun s k => evictCluster (16 * n + k) s) s)))
  else if die = 0x18 ∨ die = 0x19 then
    let qs := heldDoms die
    let s := (s.links.filter (fun e => qs.contains (quadDom e.1) && e.2.st != .down)).foldl (fun s e => dropLink e.1 s) s
    holdDie die (qs.foldl (fun s d => railsOff d s) s)
  else if 0x1A ≤ die ∧ die ≤ 0x1D then
    if staging s ≠ 0 then standing runtime 4 0 die s
    else holdDie die (railsOff (flashDom (die - 0x1A)) (stopMoves s))
  else if die = 0x1E ∨ die = 0x1F then dieStops die s
  else s

/-- DIE_FAULT (R557). -/
def execDieFault (die : Nat) (s : State) : Host.Outcome State Fault Refusal := .next (settleCommit (dieFault die s))

/-- A wake fails (R510): reported, counted, to be retried; the sixteenth in a row is a fault of the die (R557). -/
def doWakeFailure (d : Nat) (s : State) : State :=
  let s := bump (0x2100 + d) 6 1 (raiseEvent 0x2000 8 (4 + d * 2 ^ 8) s)
  let s := setDom d (fun x => { x with failed := true, checking := false, failures := x.failures + 1 }) s
  if 16 ≤ (dom s d).failures then dieFault (domDie d) s else s

/-- WAKE_FAILURE (R510). -/
def execWakeFailure (dom : Nat) (s : State) : Host.Outcome State Fault Refusal :=
  .next (if (Machine.dom s dom).waking ∧ !(Machine.dom s dom).failed then doWakeFailure dom s else s)

/-- WAKE_RETRY (R510): while the request stays asserted. -/
def execWakeRetry (dom : Nat) (s : State) : Host.Outcome State Fault Refusal :=
  .next (if (Machine.dom s dom).waking ∧ (Machine.dom s dom).failed then setDom dom (fun x => { x with failed := false }) s else s)

/-! ## Retests (R559) -/

/-- A guarded write of die_retest: for a held die, one at a time (log entry 40). -/
def doDieRetest (c : Ctx) (s : State) : State :=
  if 31 < c.value ∨ !bit (obj s 0xA020 1) c.value then finBad c s
  else if s.retest.isSome then fin c .defer 0 s
  else applied c (fun s => { s with retest := some c.value }) s

/-- DIE_RETEST (R559). -/
def execDieRetest (d : DapMsg) (s : State) : Host.Outcome State Fault Refusal :=
  .next (dapServe dapGuarded (toObj d 0xA020 2) doDieRetest s)

/-- The die is released and wakes; the check of R560 follows. -/
def releaseDie (die : Nat) (s : State) : State :=
  (heldDoms die).foldl (fun s d => wake d (setDom d (fun x => { x with held := false, failures := 0 }) s)) (maskBit 0xA020 1 die false s)

/-- A retest ends: each cause with the code of its step; lines found uncorrectable in a home's warm check (R531). -/
def doRetestDone (causes : List (Nat × SelfCause)) (nand : Bool) (lines : List Nat) (die : Nat) (s : State) : State :=
  let s := lines.foldl (fun s l => if die < 8 ∧ homeOf s (64 * l) = die then foundBad s l else s) { s with retest := none }
  let bad := causes.any (fun c => critical c.1 c.2.cause) || (decide (0x1A ≤ die ∧ die ≤ 0x1D) && !nand)
  let cs := causes.map (·.2)
  let w := stepWord (if bad then 4 else if cs.isEmpty then 2 else 3) cs
  let s := logRepair 6 die 0 w (setObj 0xA020 3 w s)
  if bad then s else releaseDie die s

/-- DIE_RETEST_DONE (R559). -/
def execDieRetestDone (causes : List (Nat × SelfCause)) (nandMatches : Bool) (lines : List Nat) (s : State) :
    Host.Outcome State Fault Refusal :=
  .next (match s.retest with | some die => doRetestDone causes nandMatches lines die s | none => s)

/-! ## Writes of the floors and of held_ready_mask (R512, R522) -/

/-- A domain below its floor wakes (R505). -/
def raiseTo (d : Nat) (s : State) : State :=
  if (dom s d).st ≤ floorOf s d ∨ !managed s d then s else if (dom s d).st = 1 then becomeActive d s else wake d s

/-- A write of held_ready_mask: its answer leaves once every newly declared home is awake. -/
def doHeldReady (c : Ctx) (s : State) : State :=
  let new (n : Nat) : Bool := bit c.value n && !heldReady s n
  if (List.range 8).any (fun n => new n && (dom s (homeDom n)).held) then fin c .defer 0 s
  else settleHeldReady ((List.range 8).foldl (fun s n => raiseTo (homeDom n) s) (setObj 0x2011 1 c.value s))

/-- HELD_READY_MASK_WRITE (R512). -/
def execHeldReadyMaskWrite (d : DapMsg) (s : State) : Host.Outcome State Fault Refusal :=
  .next (dapServe dapWrite (toObj d 0x2011 1) doHeldReady s)

/-- A write of a domain's floor (R522, R474). -/
def doFloor (c : Ctx) (s : State) : State :=
  let d := c.index - 0x2100
  if deepest d < c.value ∨ !domPresent s d then finBad c s
  else applied c (fun s => raiseTo d (setObj c.index 2 c.value s)) s

/-- DOMAIN_FLOOR_WRITE (R522): of the domain whose object the message names. -/
def execDomainFloorWrite (d : DapMsg) (s : State) : Host.Outcome State Fault Refusal :=
  .next (dapServe dapWrite (toObj d (if 0x2100 ≤ d.index ∧ d.index ≤ 0x211B then d.index else 0x2100) 2) doFloor s)

end Sys2Proof.Machine
end

