-- ==== Sys2Proof/Machine/Reliability.lean ====
section
/-! DEFINITION. Link recalibration by command, scrub passes and retired granules, stragglers, expulsion by quorum, rebuild,
replacement and leave (R548, R549, R552, R561, R563 to R575). -/

namespace Sys2Proof.Machine

/-! ## Links (R561) -/

/-- A write of a link's number to link_recal. -/
def doLinkRecal (c : Ctx) (s : State) : State :=
  if 16 ≤ c.value then finBad c s else applied c (beginRecal c.value) s

/-- LINK_RECAL (R561). -/
def execLinkRecal (d : DapMsg) (s : State) : Host.Outcome State Fault Refusal :=
  .next (dapServe dapWrite (toObj d 0xA030 1) doLinkRecal s)

/-! ## Scrub (R548, R549) -/

/-- The granule of a line: its extent, and for an extent with affinity which 256 KiB of it (R174). -/
def granuleOf (s : State) (line : Nat) : Nat × Nat :=
  (line / 32768, if (layoutOf s (line / 32768)).isSome then line % 32768 / 4096 else 0)

/-- The lines of a list that a home's near tier holds, each once. -/
def ownLines (s : State) (home : Nat) (lines : List Nat) : List Nat :=
  (lines.filter (fun l => homeOf s (64 * l) == home && extState s (l / 32768) != none && !isFar s (l / 32768))).eraseDups

/-- A granule is retired: its extent moves to fresh granules, it is never allocated again (R549, log entry 41). -/
def retireGranule (home : Nat) (s : State) : State :=
  let s := bump 0xA010 7 1 { s with retired := tset s.retired home (tgetD s.retired home 0 + 1) }
  logRepair 2 home (obj s 0xA010 7) 0 (raiseEvent 0xA060 2 7 s)

/-- A scrub pass ends at a home that is awake: the corrected lines are counted and rewritten, lines found uncorrectable are
repaired or poisoned, granules with too many corrected lines are retired. -/
def doScrubPass (home : Nat) (corrected found : List Nat) (s : State) : State :=
  let h := home % 8
  if s.pkg = .off ∨ !awake s (homeDom h) then s
  else
    let cs := (ownLines s h corrected).filter (fun l => !poisoned s l)
    let gs := (cs.map (granuleOf s)).eraseDups
    let due := gs.filter (fun g => decide (obj s 0xA010 8 ≤ (cs.filter (fun l => granuleOf s l == g)).length))
    let s := bump 0xA010 1 cs.length (bump 0xA010 6 1
      { s with regs := tset s.regs (65536 * h + 0x5008) ((tgetD s.regs (65536 * h + 0x5008) 0 + 1) % 65536) })
    let s := (ownLines s h found).foldl (fun s l => handleFound l s) s
    due.foldl (fun s _ => retireGranule h s) s

/-- SCRUB_PASS_END (R548, R549). -/
def execScrubPassEnd (home : Nat) (corrected found : List Nat) (s : State) : Host.Outcome State Fault Refusal :=
  .next (doScrubPass home corrected found s)

/-- REPAIR_SOURCE_TIMEOUT (R552): the source of a repair stays unanswered, so the line is written poisoned. -/
def execRepairSourceTimeout (line : Nat) (s : State) : Host.Outcome State Fault Refusal :=
  .next (if s.pkg = .off ∨ poisoned s line then s
    else match objectAt s (extentOf (64 * line)) with
      | some (_, o) => if entryProt o.entry ≠ 0 ∧ !o.degraded then foundBad s line else s
      | none => s)

/-- STRAGGLER_REPORT (R563): at the master, while the domain forms or is FORMED. -/
def execStragglerReport (member : Nat) (s : State) : Host.Outcome State Fault Refusal :=
  .next (if isMaster s ∧ obj s 0x6010 7 ≠ 0 ∧ member < obj s 0x6010 2 then raiseEvent 0xA060 2 (4 + member * 2 ^ 8) s else s)

/-! ## Rebuild, replacement and leave (R568 to R575) -/

/-- The index of a member's package in the member list. -/
def memberIndex (s : State) (p : Nat) : Option Nat :=
  (List.range (obj s 0x6010 2)).find? (fun m => obj s 0x6011 (m + 1) == p)

/-- The master writes an entry of the member list, here and at every other member. -/
def setMember (m p : Nat) (s : State) : State := tellMembers 10 m p (setObj 0x6011 (m + 1) p s)

/-- The copies that the master keeps of a member's active entries, by object (R568). -/
def memberEntries (s : State) (m : Nat) : Tab Nat :=
  (s.memberObjects.filter (fun e => e.1 / 65536 == m)).map (fun e => (e.1 % 65536, e.2))

/-- The bytes of an entry that a rebuild fills: P1 data; P2 data and a third as much parity; no P0 data (R569, R571). -/
def rebuildBytes (e : Nat) : Nat :=
  match entryProt e with
  | 1 => entryCount e * extentBytes
  | 2 => (entryCount e + entryCount e / 3) * extentBytes
  | _ => 0

/-- The domain's objects go to a package that joins it (R569). -/
def sendObjects (p : Nat) (s : State) : State :=
  let keys := [okey 0x6010 1, okey 0x6010 2, okey 0x6010 6] ++ (List.range 8).map (fun i => okey 0x6011 (i + 1)) ++
    (List.range 32).map (fun i => okey 0x6012 (i + 1)) ++ [okey 0x6013 0] ++ (List.range 3).map (fun i => okey 0x6015 (i + 1))
  keys.foldl (fun s k => emit (.member p 15 k (obj s (k / 256) (k % 256))) s) s

/-- A member's entries go to the package that takes its place (R569, R574). -/
def sendEntries (m p : Nat) (s : State) : State := (memberEntries s m).foldl (fun s e => emit (.member p 16 e.1 e.2) s) s

/-- The partners of a member name the package that takes its place: here, and at the other members through the master's copies of
their entries (R569). -/
def rewritePartners (old new : Nat) (s : State) : State :=
  let tied (e : Nat) : Bool := entryProt e == 1 && bits e 207 196 == old
  let s := (s.memberObjects.filter (fun e => tied e.2 && e.1 / 65536 != obj s 0x6010 3)).foldl
    (fun s e => emit (.member (memberPackage s (e.1 / 65536)) 17 (e.1 % 65536) new) s) s
  { s with
    memberObjects := s.memberObjects.map (fun e => (e.1, if tied e.2 then setBits e.2 207 196 (new % 4096) else e.2))
    placed := s.placed.map (fun e => (e.1, if tied e.2.entry then setPartner new e.2 else e.2)) }

/-- A rebuild onto a package starts (R569): it gets the domain's objects, its member index, the generation and the entries of the
member whose place it takes, and the partners name it. -/
def startRebuild (m old new : Nat) (s : State) : State :=
  let s := sendEntries m new (emit (.member new 8 0 (obj s 0x6010 8)) (emit (.member new 12 0 m)
    (sendObjects new (setMember m new s))))
  setObj 0xA050 4 (((memberEntries s m).map (fun e => rebuildBytes e.2)).sum)
    { rewritePartners old new s with change := some ⟨1, m, new⟩ }

/-- A domain change at the master (R572): the body's preconditions, and what starts. -/
def doDomainChange (readyAlone memberEmpty : Bool) (c : Ctx) (s : State) : State :=
  let op := bits c.value 7 0
  let m := bits c.value 18 16
  let p := bits c.value 43 32
  let listed := obj s 0x6011 (m + 1)
  let (f, s) := drawFree s
  let draining := if m = obj s 0x6010 3 then decide (s.pkg = .draining) else f % 2 == 1
  if c.actor ≠ 2 ∨ bits c.value 255 44 ≠ 0 ∨ bits c.value 31 19 ≠ 0 ∨ bits c.value 15 8 ≠ 0 ∨ !formed s ∨ !isMaster s ∨
      obj s 0x6010 2 ≤ m then finBad c s
  else if s.change.isSome then fin c .defer 0 s
  else if op = 1 then
    if listed = vacantMember ∧ readyAlone then finOk c (startRebuild m vacantMember p s) else finBad c s
  else if op = 2 then
    if listed ≠ vacantMember ∧ draining ∧ readyAlone then
      let (g, s) := drawFree (sendEntries m p s)
      let bytes := if m = obj s 0x6010 3 then s.extents.length * extentBytes else g % 2 ^ 64
      finOk c (setObj 0xA050 4 bytes { s with change := some ⟨2, m, p⟩ })
    else finBad c s
  else if op = 3 then
    if listed ≠ vacantMember ∧ draining ∧ memberEmpty then
      let s := emit (.member listed 3 0 0) (nextGeneration (setMember m vacantMember s))
      finOk c (if m = obj s 0x6010 3 then setObj 0x6010 7 0 s else s)
    else finBad c s
  else finBad c s

/-- DOMAIN_CHANGE_REBUILD (R569, R572). -/
def execDomainChangeRebuild (d : DapMsg) (spareReadyAlone : Bool) (s : State) : Host.Outcome State Fault Refusal :=
  .next (dapServe dapWrite (toObj d 0xA050 2) (doDomainChange spareReadyAlone false) s)

/-- DOMAIN_CHANGE_REPLACE (R572, R574). -/
def execDomainChangeReplace (d : DapMsg) (newReadyAlone : Bool) (s : State) : Host.Outcome State Fault Refusal :=
  .next (dapServe dapWrite (toObj d 0xA050 2) (doDomainChange newReadyAlone false) s)

/-- DOMAIN_CHANGE_LEAVE (R572, R575). -/
def execDomainChangeLeave (d : DapMsg) (memberEmpty : Bool) (s : State) : Host.Outcome State Fault Refusal :=
  .next (dapServe dapWrite (toObj d 0xA050 2) (doDomainChange false memberEmpty) s)

/-- What is left unrebuilt here is filled, and the objects leave DEGRADED (R569). -/
def fillRest (s : State) : State :=
  if s.unrebuilt.isEmpty then s
  else
    let es := s.unrebuilt.map (·.1)
    let s := es.foldl (fun s e => (List.range 32768).foldl (fun s i => rebuildLine (32768 * e + i) s) s) s
    { s with unrebuilt := [], placed := s.placed.map (fun e => (e.1, { e.2 with degraded := false })) }

/-- The last unrebuilt extent is filled: at the package that was rebuilt onto, and at the master, where the objects tied to the
member leave DEGRADED (R569). -/
def doRebuildDone (s : State) : State :=
  let s := fillRest s
  match s.change with
  | some x =>
    if x.op = 1 then
      raiseEvent 0xA060 2 5 (setObj 0xA050 4 0 { s with
        change := none
        placed := s.placed.map (fun e => (e.1, if tiedTo x.package e.2 then { e.2 with degraded := false } else e.2)) })
    else s
  | none => s

/-- REBUILD_FILL_DONE (R569). -/
def execRebuildFillDone (s : State) : Host.Outcome State Fault Refusal := .next (doRebuildDone s)

/-- The copy of an extent leaves for the package that replaces this one: its bytes, and its poisoned lines (R574). -/
def sendExtent (p : Nat) (ext : Nat) (s : State) : State :=
  let at_ := p * 2 ^ 48 + ext * extentBytes
  let go (n : Nat) (o : Out) (s : State) : State := send 3 (24 + n) at_ o s
  if extState s ext = some .lost then go extentBytes (.remotePoison at_ extentBytes 0 0xFFF) s
  else (s.poison.filter (fun l => l / 32768 == ext)).foldl
    (fun s l => go 64 (.remotePoison (p * 2 ^ 48 + 64 * l) 64 0 0xFFF) s)
    (go extentBytes (.remote .store at_ extentBytes (readMem s (ext * extentBytes) extentBytes) 0 0xFFF 3) s)

/-- The replaced member's side of a commit: every extent that is not ZERO has been copied, its directory entries are recalled, and
its memory is no longer its own (R574). -/
def beReplaced (p : Nat) (s : State) : State :=
  recallAll none { s.extents.foldl (fun s e => sendExtent p e.1 s) s with replaced := true }

/-- A replacement commits (R574): at the master the new package takes the member's place; at the replaced member, which
is told the package by no rule of the spec (a free value, log entry 65), requests for its memory answer NOT_OWNER from here on. -/
def doReplaceCommit (s : State) : State :=
  match s.change with
  | some x =>
    if x.op = 2 then
      let s := if x.member = obj s 0x6010 3 then beReplaced x.package s else s
      let s := emit (.member x.package 12 0 x.member) (sendObjects x.package (setMember x.member x.package { s with change := none }))
      raiseEvent 0xA060 2 6 (setObj 0xA050 4 0 (nextGeneration s))
    else s
  | none =>
    if s.pkg = .draining ∧ obj s 0x6010 7 = 2 ∧ !isMaster s then
      let (f, s) := drawFree s
      beReplaced (f % 4096) s
    else s

/-- REPLACE_COMMIT (R574). -/
def execReplaceCommit (s : State) : Host.Outcome State Fault Refusal := .next (doReplaceCommit s)

/-! ## Expulsion by quorum (R564 to R567) -/

/-- Fields of a vote's head (R565). -/
def voteManager (v : Nat) : Nat := bits v 95 92
def voteTarget (v : Nat) : Nat := bits v 111 100

/-- A vote's form: magic, revision, action, what must be zero (R565, R566). -/
def voteForm (v : Nat) : Bool :=
  bits v 31 0 == 0x45544F56 && bits v 47 32 == 1 && bits v 63 48 == 0 && bits v 71 64 == 1 && bits v 91 72 == 0 &&
  bits v 99 96 == 0 && bits v 511 160 == 0 && bits v 27135 26984 == 0

/-- The master's package, as this package knows it. -/
def isMasterPackage (s : State) (p : Nat) : Bool := !isMaster s && p == Config.masterPackage (obj s 0x6010 1)

/-- The package may be a vote's target here: this package; at the master a member; at a member the master (R566, R567). -/
def voteTargetOk (s : State) (p : Nat) : Bool :=
  p == pkgNo s || (formed s && isMaster s && (memberIndex s p).isSome) ||
    (formed s && isMasterPackage s p && (memberIndex s p).isSome)

/-- The manager is enrolled, the vote names this domain at its generation, and the signature verifies (R566). -/
def voteVerifies (s : State) (v : Nat) : Bool :=
  decide (voteManager v < obj s 0xA040 1) && obj s 0xA040 (voteManager v + 2) != 0 &&
  bits v 127 112 == obj s 0x6010 1 && bits v 159 128 == obj s 0x6010 8 &&
  sigOk (obj s 0xA040 (voteManager v + 2)) (shake256 64 (bits v 511 0)) (bits v 26983 512)

/-- Agents of a package that are declared DEAD with its removal; the generation advances once for the removal and them
(R567 and the worked example, log entry 42). -/
def removeAgents (p : Nat) (s : State) : State :=
  ((List.range 32).filter (fun a => (agentState s a == 1 || agentState s a == 2) && agentPackage s a == p)).foldl
    (fun s a => takeDead a (tellMembers 1 a 3 s)) s

/-- The master removes a member that a quorum names (R567). -/
def removeMember (m p : Nat) (s : State) : State :=
  let s := degradeTied p (removeAgents p (nextGeneration (setMember m vacantMember s)))
  let spare := obj s 0xA050 1
  if spare = 0xFFFF ∨ s.change.isSome then s
  else
    let (f, s) := drawFree s
    if f % 2 = 1 then startRebuild m p (spare % 4096) s else s

/-- A quorum for a target is held (R564, R566, R567). -/
def expel (p : Nat) (s : State) : State :=
  if p = pkgNo s then expelPackage s
  else if isMaster s then match memberIndex s p with
    | some m => removeMember m p s
    | none => s
  else dissolve s

/-- The quorum (R564). -/
def quorum (s : State) : Nat := (obj s 0xA040 1 + 1) / 2

/-- A refused vote is counted. -/
def voteRefused (c : Ctx) (st : Status) (s : State) : State := fin c st 0 (bump 0xA041 3 1 s)

/-- A vote (R566). -/
def doExpelVote (c : Ctx) (s : State) : State :=
  let v := c.value
  let x := (voteTarget v, voteManager v)
  if c.actor ≠ 2 then finBad c s
  else if !voteForm v ∨ !voteTargetOk s x.1 then voteRefused c .unsupported s
  else if !voteVerifies s v then voteRefused c .checkFail s
  else if s.votes.contains x then finOk c s
  else
    let s := countVotes { s with votes := s.votes ++ [x] }
    let s := finOk c s
    if (s.votes.filter (fun y => y.1 == x.1)).length = quorum s then expel x.1 s else s

/-- EXPEL_VOTE (R566). -/
def execExpelVote (d : DapMsg) (s : State) : Host.Outcome State Fault Refusal :=
  .next (dapServe dapWrite (toObj d 0xA041 1) doExpelVote s)

end Sys2Proof.Machine
end

