-- ==== Sys2Proof/Machine/Spdm.lean ====
section
/-! DEFINITION. The SPDM responder, its measurements and sessions, management sessions, and messages of no protocol (R454,
R579 to R584). -/

namespace Sys2Proof.Machine

/-! ## Numbers laid end to end -/

/-- Values with their widths in bytes, the first at the lowest address. -/
def joinBytes (ps : List (Nat × Nat)) : Nat := ps.foldr (fun p v => p.2 % 2 ^ (8 * p.1) + v * 2 ^ (8 * p.1)) 0

/-- Their bytes. -/
def joinLen (ps : List (Nat × Nat)) : Nat := (ps.map (·.1)).sum

/-! ## Measurements (R582) -/

/-- The keys that block 3 covers, in its order. -/
def measuredKeys (s : State) : List (Nat × Nat) :=
  (List.range 8).map (fun i => (1952, obj s 0x4023 (i + 1))) ++ (List.range 7).map (fun i => (1952, obj s 0xA040 (i + 2))) ++
  (List.range 4).map (fun i => (1952, obj s 0xB020 (i + 2)))

/-- The configuration references that block 5 covers. -/
def measuredRefs (s : State) : List (Nat × Nat) := (List.range 32).map (fun i => (4, obj s 0xF011 (i + 1)))

/-- The latest checkpoint's entry_index and chain value. -/
def checkpointValue (s : State) : Nat :=
  match s.log[s.log.length - 1 - s.lastCheck]? with
  | some u => s.lastCheck % 2 ^ 64 + bits u 511 256 * 2 ^ 64
  | none => 0

/-- The content of a measurement block, 1 to 6: its bytes and value. -/
def measurement (s : State) (k : Nat) : Nat × Nat :=
  match k with
  | 1 => (64, Config.romDigest)
  | 2 => (64, match s.fw.running with | some 1 => s.fw.b.digest | _ => s.fw.a.digest)
  | 3 => (64, shake256 (joinLen (measuredKeys s)) (joinBytes (measuredKeys s)))
  | 4 => (64, match newestOf s.dict.images with
      | some i => Config.imageDigest i.seq i.values
      | none => Config.imageDigest 0 [])
  | 5 => (64, shake256 (joinLen (measuredRefs s)) (joinBytes (measuredRefs s)))
  | _ => (40, checkpointValue s)

/-- A block in DMTF measurement format (log entry 46). -/
def measBlock (s : State) (k : Nat) : Nat × Nat :=
  let (n, v) := measurement s k
  (7 + n, joinBytes [(1, k), (1, 1), (2, 3 + n), (1, Config.measType k), (2, n), (n, v)])

/-- Blocks 1 to 6, as GET_MEASUREMENTS returns them. -/
def measurements (s : State) : Nat × Nat :=
  let bs := (List.range 6).map (fun i => measBlock s (i + 1))
  (joinLen bs, joinBytes bs)

/-- The certificate chain of slot 0. -/
def chainBytes (s : State) : Nat := Config.certChainBytes (aliasPrint s) % 65537
def chainValue (s : State) : Nat := Config.certChain (aliasPrint s) % 2 ^ (8 * chainBytes s)

/-! ## The responder (R581, log entry 46) -/

/-- An SPDM message can be answered: the port takes messages, and the management core runs (R461, R542). -/
def spdmArrives (s : State) (p : Port) : Bool := dapArrives s p && !s.fw.restarting

/-- How far a port's connection has come. -/
def stage (s : State) (p : Port) : Nat := match p with | .i3c => s.spdm.i3c | .eth => s.spdm.eth
def setStageOf (p : Port) (n : Nat) (s : State) : State :=
  match p with
  | .i3c => { s with spdm := { s.spdm with i3c := n } }
  | .eth => { s with spdm := { s.spdm with eth := n } }

/-- A response leaves: its code, and its content's bytes and value. -/
def spdmSend (m : SpdmMsg) (session code bytes payload : Nat) (s : State) : State :=
  emit (.spdm m.port session code bytes payload) s

/-- ERROR with a code: 1 InvalidRequest, 2 InvalidSession, 4 UnexpectedRequest, 6 DecryptError, 7 UnsupportedRequest, 0x0A
SessionLimitExceeded. -/
def spdmError (m : SpdmMsg) (code : Nat) (s : State) : State := spdmSend m m.session 0x7F 1 code s

/-- A response signed by the alias key: what DMTF has it cover beside its content is free (log entry 46). -/
def spdmSigned (m : SpdmMsg) (code bytes payload : Nat) (s : State) : State :=
  let (f, s) := drawFree s
  spdmSend m m.session code (bytes + 3309) (joinBytes [(bytes, payload), (3309, Config.sign 0xFD (f % 2 ^ 512))]) s

/-- A request at a stage of the connection. -/
def atStage (n : Nat) (m : SpdmMsg) (f : State → State) (s : State) : State :=
  if !spdmArrives s m.port then s else if stage s m.port < n then spdmError m 4 s else f s

/-- SPDM_GET_VERSION (R581): 1.3 only. -/
def execSpdmGetVersion (m : SpdmMsg) (s : State) : Host.Outcome State Fault Refusal :=
  .next (atStage 0 m (fun s => spdmSend m m.session 4 1 0x13 (setStageOf m.port 1 s)) s)

/-- SPDM_GET_CAPABILITIES (R581): the capabilities of the table, as DMTF numbers their flags. -/
def execSpdmGetCapabilities (m : SpdmMsg) (s : State) : Host.Outcome State Fault Refusal :=
  .next (atStage 1 m (fun s => spdmSend m m.session 0x61 4 0x63D6 (setStageOf m.port (max 2 (stage s m.port)) s)) s)

/-- SPDM_NEGOTIATE_ALGORITHMS (R581): the two extended algorithm identifiers. -/
def execSpdmNegotiateAlgorithms (m : SpdmMsg) (s : State) : Host.Outcome State Fault Refusal :=
  .next (atStage 2 m (fun s => spdmSend m m.session 0x63 4 0x00020001 (setStageOf m.port 3 s)) s)

/-- SPDM_GET_DIGESTS (R581): of the chain of slot 0. -/
def execSpdmGetDigests (m : SpdmMsg) (s : State) : Host.Outcome State Fault Refusal :=
  .next (atStage 3 m (fun s => spdmSend m m.session 1 64 (shake256 (chainBytes s) (chainValue s) % 2 ^ 512) s) s)

/-- The slot, offset and length of a GET_CERTIFICATE (log entry 46). -/
def certSlot (m : SpdmMsg) : Nat := bits m.param 7 0
def certOffset (m : SpdmMsg) : Nat := bits m.param 23 8
def certLength (m : SpdmMsg) : Nat := bits m.param 39 24

/-- A part of the chain of slot 0; another slot is outside the features (R579, R581). -/
def doGetCertificate (m : SpdmMsg) (s : State) : State :=
  let n := chainBytes s
  if certSlot m ≠ 0 then spdmError m 7 s
  else if n ≤ certOffset m then spdmError m 1 s
  else
    let k := min (certLength m) (n - certOffset m)
    spdmSend m m.session 2 k ((chainValue s >>> (8 * certOffset m)) % 2 ^ (8 * k)) s

/-- SPDM_GET_CERTIFICATE (R579). -/
def execSpdmGetCertificate (m : SpdmMsg) (s : State) : Host.Outcome State Fault Refusal :=
  .next (atStage 3 m (doGetCertificate m) s)

/-- SPDM_CHALLENGE (R581): slot 0 only; the digest of its chain, signed. -/
def doChallenge (m : SpdmMsg) (s : State) : State :=
  if bits m.param 7 0 ≠ 0 then spdmError m 7 s
  else spdmSigned m 3 64 (shake256 (chainBytes s) (chainValue s) % 2 ^ 512) s

/-- SPDM_CHALLENGE (R581). -/
def execSpdmChallenge (m : SpdmMsg) (s : State) : Host.Outcome State Fault Refusal :=
  .next (atStage 3 m (doChallenge m) s)

/-- The number of blocks, one block, or all six, signed (R582). -/
def doGetMeasurements (m : SpdmMsg) (s : State) : State :=
  let k := bits m.param 7 0
  if k = 0 then spdmSigned m 0x60 1 6 s
  else if k = 0xFF then spdmSigned m 0x60 (measurements s).1 (measurements s).2 s
  else if k ≤ 6 then spdmSigned m 0x60 (measBlock s k).1 (measBlock s k).2 s
  else spdmError m 1 s

/-- SPDM_GET_MEASUREMENTS (R582). -/
def execSpdmGetMeasurements (m : SpdmMsg) (s : State) : Host.Outcome State Fault Refusal :=
  .next (atStage 3 m (doGetMeasurements m) s)

/-! ## Sessions (R583, R584) -/

/-- spdm_sessions_open follows the sessions. -/
def countSpdm (s : State) : State := setObj 0xB010 4 s.spdm.sessions.length s

/-- An owner key is enrolled (R583). -/
def ownerEnrolled (s : State) (key : Nat) : Bool :=
  key != 0 && (List.range 4).any (fun i => obj s 0xB020 (i + 2) == key)

/-- A chain whose last certificate an owner key signed; none is asked for while owner_state is UNCLAIMED. -/
def chainAccepted (s : State) (chainKey : Option Nat) : Bool :=
  obj s 0xB020 1 == 0 || (match chainKey with | some k => ownerEnrolled s k | none => false)

/-- KEY_EXCHANGE: at most 8 sessions; a refused mutual authentication raises security_event (R604). -/
def doKeyExchange (m : SpdmMsg) (chainKey : Option Nat) (s : State) : State :=
  if bits m.param 7 0 ≠ 0 then spdmError m 7 s
  else if !chainAccepted s chainKey then spdmError m 1 (raiseEvent 0xB010 5 0 s)
  else match ((List.range 8).map (· + 1)).find? (fun k => (tget s.spdm.sessions k).isNone) with
    | none => spdmError m 0xA s
    | some n =>
      let x : SpdmSession := ⟨m.port, false, true, 0⟩
      spdmSend m n 0x64 0 0 (countSpdm { s with spdm := { s.spdm with sessions := tset s.spdm.sessions n x } })

/-- SPDM_KEY_EXCHANGE (R583). -/
def execSpdmKeyExchange (m : SpdmMsg) (chainKey : Option Nat) (s : State) : Host.Outcome State Fault Refusal :=
  .next (atStage 3 m (doKeyExchange m chainKey) s)

/-- An SPDM session ends, and its DAP sessions with it (R455, R584). -/
def endSpdm (n : Nat) (s : State) : State :=
  let mine (e : Nat × Session) : Bool := e.2.kind == .management n
  countSpdm { s with
    spdm := { s.spdm with sessions := terase s.spdm.sessions n }
    dict := { s.dict with
      eth := s.dict.eth.filter (fun e => !mine e)
      i3c := s.dict.i3c.filter (fun e => !mine e)
      i3cNotes := s.dict.i3cNotes.filter (fun x => !(s.dict.i3c.any (fun e => mine e && e.1 == x.1))) } }

/-- Every SPDM session ends (R584). -/
def endAllSpdm (s : State) : State := (s.spdm.sessions.map (·.1)).foldl (fun s n => endSpdm n s) s

/-- A request inside a session of its port. -/
def inSession (m : SpdmMsg) (f : SpdmSession → State → State) (s : State) : State :=
  if !spdmArrives s m.port then s
  else match tget s.spdm.sessions m.session with
    | some x => if x.port = m.port then f x s else spdmError m 2 s
    | none => spdmError m 2 s

/-- The state with an SPDM session. -/
def setSpdm (n : Nat) (x : SpdmSession) (s : State) : State :=
  { s with spdm := { s.spdm with sessions := tset s.spdm.sessions n x } }

/-- SPDM_FINISH (R581, R583): what it proves does not verify: the session ends. -/
def execSpdmFinish (m : SpdmMsg) (verified : Bool) (s : State) : Host.Outcome State Fault Refusal :=
  .next (inSession m (fun x s =>
    if x.established then spdmError m 4 s
    else if verified then spdmSend m m.session 0x65 0 0 (setSpdm m.session { x with established := true } s)
    else spdmError m 6 (endSpdm m.session (raiseEvent 0xB010 5 0 s))) s)

/-- A request of an established session. -/
def inEstablished (m : SpdmMsg) (f : SpdmSession → State → State) (s : State) : State :=
  inSession m (fun x s => if x.established then f x s else spdmError m 4 s) s

/-- SPDM_HEARTBEAT (R581). -/
def execSpdmHeartbeat (m : SpdmMsg) (s : State) : Host.Outcome State Fault Refusal :=
  .next (inEstablished m (fun _ s => spdmSend m m.session 0x68 0 0 s) s)

/-- SPDM_KEY_UPDATE (R581). -/
def execSpdmKeyUpdate (m : SpdmMsg) (s : State) : Host.Outcome State Fault Refusal :=
  .next (inEstablished m (fun x s =>
    spdmSend m m.session 0x69 0 0 (setSpdm m.session { x with keyUpdates := x.keyUpdates + 1 } s)) s)

/-- SPDM_END_SESSION (R584). -/
def execSpdmEndSession (m : SpdmMsg) (s : State) : Host.Outcome State Fault Refusal :=
  .next (inEstablished m (fun _ s => spdmSend m m.session 0x6C 0 0 (endSpdm m.session s)) s)

/-- SPDM_HEARTBEAT_MISSED (R584): the third of a session. -/
def execSpdmHeartbeatMissed (session : Nat) (s : State) : Host.Outcome State Fault Refusal :=
  .next (if (tget s.spdm.sessions session).isSome then endSpdm session s else s)

/-- The requests that the responder supports, as DMTF numbers them (R581, log entry 46). -/
def spdmSupported (code : Nat) : Bool :=
  [0x81, 0x82, 0x83, 0x84, 0xE0, 0xE1, 0xE3, 0xE4, 0xE5, 0xE8, 0xE9, 0xEC].contains code

/-- SPDM_UNSUPPORTED_REQUEST (R581). -/
def execSpdmUnsupportedRequest (m : SpdmMsg) (code : Nat) (s : State) : Host.Outcome State Fault Refusal :=
  .next (if spdmArrives s m.port ∧ !spdmSupported code then spdmError m 7 s else s)

/-! ## Management sessions, and other messages -/

/-- The SPDM session is established and attested (R454, R583). -/
def managementOk (s : State) (n : Nat) : Bool :=
  match tget s.spdm.sessions n with
  | some x => x.established && x.attested
  | none => false

/-- A management OPEN (R454): the SPDM session's identifier in bytes 0 to 3. -/
def doOpenManagement (m : DapMsg) (s : State) : State :=
  if !dapArrives s m.port then s
  else if s.fw.restarting then restartReply m s
  else match openBad m 4 with
    | some st => openRefused m st s
    | none =>
      let n := bits m.value 31 0
      if managementOk s n then openSession m (.management n) s else openReply m 0 .keyDenied s

/-- DAP_OPEN_MANAGEMENT (R454). -/
def execDapOpenManagement (d : DapMsg) (s : State) : Host.Outcome State Fault Refusal := .next (doOpenManagement d s)

/-- MESSAGE_DISCARD (R580): a first byte of no protocol. -/
def execMessageDiscard (port : Port) (firstByte : Nat) (s : State) : Host.Outcome State Fault Refusal :=
  .next (if dapArrives s port ∧ firstByte ≠ 1 ∧ firstByte ≠ 5 ∧ firstByte ≠ 6 then bump 0x1030 5 1 s else s)

end Sys2Proof.Machine
end

