-- ==== Sys2Proof/Machine/Custody.lean ====
section
/-! DEFINITION. Saving and restoring; keys of images, owners, fabric managers and tenants; the purge, handover and condition
report; the lifetime meters (R101, R102, R471, R472, R564, R583, R587 to R601). -/

namespace Sys2Proof.Machine

/-! ## Saving (R471, R472) -/

/-- The running values of the SAVED objects, but for those at their defaults. -/
def savedValues (s : State) : Tab Nat := s.objs.filter (fun e => savedKey e.1)

/-- The newest image that matches its code. -/
def newestGood (s : State) : Option Image := newestOf (s.dict.images.filter (·.good))

/-- The image that a save takes now: the next sequence number and every running value. -/
def capture (s : State) : Image := ⟨((match newestGood s with | some i => i.seq | none => 0) + 1) % 2 ^ 32, savedValues s, true⟩

/-- An image is written to the copy that does not hold the newest one, and the save appends its record. -/
def storeImage (i : Image) (s : State) : State :=
  appendLog 0x60 0 0 i.seq { s with dict := { s.dict with images := (newestGood s).toList ++ [i] } }

/-- A write of save_now. -/
def doSaveNow (c : Ctx) (s : State) : State :=
  if c.value ≠ 1 then finBad c s
  else if s.dict.saving.isSome then fin c .defer 0xFF s
  else if !logRoom s 0x60 then fin c .defer 0 s
  else { s with dict := { s.dict with saving := some (capture s) } }

/-- SAVE_NOW (R471): the write completes with the save. -/
def execSaveNow (d : DapMsg) (s : State) : Host.Outcome State Fault Refusal :=
  .next (dapServe dapWrite (toObj d 0x1011 1) doSaveNow s)

/-- SAVE_COMPLETE (R471). -/
def execSaveComplete (s : State) : Host.Outcome State Fault Refusal :=
  .next (match s.dict.saving with
    | some i => dapFinishKey (okey 0x1011 1) .ok 0 (storeImage i { s with dict := { s.dict with saving := none } })
    | none => s)

/-- Every SAVED running value at its default; hash_seed_active changes at the end of a purge alone (R407, log entry 48). -/
def toDefaults (s : State) : State := setObj 0x7031 2 (obj s 0x7031 2) (takeImage [] s)

/-- A write of restore_defaults. -/
def doRestoreDefaults (c : Ctx) (s : State) : State :=
  if c.value ≠ 1 then finBad c s else applied c (fun s => takeAllConfig (toDefaults s)) s

/-- RESTORE_DEFAULTS (R472). -/
def execRestoreDefaults (d : DapMsg) (s : State) : Host.Outcome State Fault Refusal :=
  .next (dapServe dapWrite (toObj d 0x1011 2) doRestoreDefaults s)

/-! ## Image, owner and fabric-manager keys (R101, R102, R564, R583) -/

/-- A KEY_ENROL entry: object, slot, the digest's first 8 bytes, zero on revocation (R591, log entry 18). -/
def logKey (c : Ctx) (slot : Nat) (s : State) : State :=
  appendLog 0x21 c.actor c.tenant (c.index + c.sub * 2 ^ 16 + slot * 2 ^ 24
    + (if c.value = 0 then 0 else shake256 1952 c.value % 2 ^ 64 * 2 ^ 32)) s

/-- The registry entries signed under a slot are retired (R102). -/
def retireSigned (slot : Nat) (s : State) : State :=
  ((s.registry.filter (fun e => e.2.image.keySlot == slot)).map (·.1)).foldl (fun s n => retireEntry n s) s

/-- A guarded write of an image key: zeros revoke. Another key enrolled over one leaves the entries signed under the old key
registered: R102 retires them for a revocation alone (DESIGN CHOICE, log entry 55). -/
def doImageKey (c : Ctx) (s : State) : State :=
  appliedWith c 0x21 (fun s =>
    let s := logKey c (c.sub - 1) (setObj 0x4023 c.sub c.value s)
    if c.value = 0 then cfgEvent (retireSigned (c.sub - 1) s) else s) s

/-- IMAGE_KEY_ENROL (R101). -/
def execImageKeyEnrol (d : DapMsg) (s : State) : Host.Outcome State Fault Refusal :=
  .next (dapServe dapGuarded (toObj d 0x4023 d.sub) doImageKey s)

/-- IMAGE_KEY_REVOKE (R101, R102). -/
def execImageKeyRevoke (d : DapMsg) (s : State) : Host.Outcome State Fault Refusal :=
  .next (dapServe dapGuarded (toObj d 0x4023 d.sub) doImageKey s)

/-- The owner keys enrolled. -/
def ownerKeys (s : State) : Nat := ((List.range 4).filter (fun i => obj s 0xB020 (i + 2) != 0)).length

/-- A guarded write of an owner key (R583): from a management session, to an empty slot; the last one stays. -/
def doOwnerKey (c : Ctx) (s : State) : State :=
  let held := obj s 0xB020 c.sub != 0
  if c.actor ≠ 2 then finBad c s
  else if c.value = 0 then
    if held ∧ ownerKeys s = 1 then finBad c s
    else appliedWith c 0x21 (fun s => logKey c (c.sub - 2) (setObj 0xB020 c.sub 0 s)) s
  else if held then finBad c s
  else appliedWith c 0x21 (fun s => logKey c (c.sub - 2) (setObj 0xB020 1 1 (setObj 0xB020 c.sub c.value s))) s

/-- OWNER_KEY_ENROL (R583). -/
def execOwnerKeyEnrol (d : DapMsg) (s : State) : Host.Outcome State Fault Refusal :=
  .next (dapServe dapGuarded (toObj d 0xB020 d.sub) doOwnerKey s)

/-- OWNER_KEY_REVOKE (R583). -/
def execOwnerKeyRevoke (d : DapMsg) (s : State) : Host.Outcome State Fault Refusal :=
  .next (dapServe dapGuarded (toObj d 0xB020 d.sub) doOwnerKey s)

/-- A guarded write of fm_count or of a manager's key (R564, R576). -/
def doFmKey (c : Ctx) (s : State) : State :=
  if c.sub = 1 then
    if [0, 3, 5, 7].contains c.value then applied c (setObj 0xA040 1 c.value) s else finBad c s
  else appliedWith c 0x21 (fun s => logKey c (c.sub - 2) (setObj 0xA040 c.sub c.value s)) s

/-- FM_KEY_WRITE (R564). -/
def execFmKeyWrite (d : DapMsg) (s : State) : Host.Outcome State Fault Refusal :=
  .next (dapServe dapGuarded (toObj d 0xA040 d.sub) doFmKey s)

/-! ## Tenant keys (R587 to R589) -/

/-- keys_active follows the key states; key 0xFFF is always ACTIVE. -/
def countKeys (s : State) : State := setObj 0xB030 4 (1 + (s.keyStates.filter (fun e => e.2 == 1 && e.1 != 0xFFF)).length) s

/-- The state with a tenant key's state. -/
def setKey (t st : Nat) (s : State) : State := countKeys { s with keyStates := tset s.keyStates t st }

/-- A tenant's key is in use (R589). -/
def keyInUse (s : State) (t : Nat) : Bool :=
  t == 0xFFF || s.placed.any (fun e => e.2.tenant == t) || s.compTab.any (fun e => e.2.tenant == t)

/-- A TENANT_KEY entry: operation, generation (R591, log entry 18). -/
def logTenantKey (c : Ctx) (op t : Nat) (s : State) : State :=
  appendLog 0x23 c.actor t (op + keyGeneration s t % 2 ^ 16 * 2 ^ 16) s

/-- A guarded write of key_command. -/
def doKeyCommand (c : Ctx) (s : State) : State :=
  let t := bits c.value 11 0
  let op := bits c.value 31 28
  if bits c.value 27 12 ≠ 0 ∨ (op ≠ 1 ∧ op ≠ 2) then finBad c s
  else if keyState s t = 2 then fin c .defer 0xFF s
  else if op = 1 then
    if keyState s t ≠ 0 then finBad c s
    else if logCapacity ≤ logNext s + 1 + logReserve then fin c .defer 0 s
    else applied c (fun s =>
      let (k, s) := drawKey s
      logTenantKey c 1 t (setKey t 1 { s with
        tenantKeys := tset s.tenantKeys t k, keyGens := tset s.keyGens t ((keyGeneration s t + 1) % 2 ^ 16) })) s
  else if keyState s t = 0 ∨ keyInUse s t then finBad c s
  else if logCapacity ≤ logNext s + 1 + logReserve then fin c .defer 0 s
  else applied c (fun s => logTenantKey c 2 t (setKey t 2 { s with tenantKeys := terase s.tenantKeys t })) s

/-- KEY_CREATE (R589). -/
def execKeyCreate (d : DapMsg) (s : State) : Host.Outcome State Fault Refusal :=
  .next (dapServe dapGuarded (toObj d 0xB030 3) doKeyCommand s)

/-- KEY_DESTROY (R589). -/
def execKeyDestroy (d : DapMsg) (s : State) : Host.Outcome State Fault Refusal :=
  .next (dapServe dapGuarded (toObj d 0xB030 3) doKeyCommand s)

/-- The homes have marked ZERO every extent recorded under a destroyed key: it is EMPTY. -/
def doKeySwept (t : Nat) (s : State) : State :=
  if keyState s t = 2 then
    settlePlacement (setKey t 0 (((s.extents.filter (fun e => e.2.key == t)).map (·.1)).foldl (fun s e => makeZero e s) s))
  else s

/-- KEY_SWEEP_DONE (R589). -/
def execKeySweepDone (tenant : Nat) (s : State) : Host.Outcome State Fault Refusal := .next (doKeySwept tenant s)

/-! ## The log and the lifetime meters (R592, R595, R596) -/

/-- A write of log_checkpoint. -/
def doLogCheckpoint (c : Ctx) (s : State) : State :=
  if c.value ≠ 1 then finBad c s
  else if logCapacity < logNext s + 27 then fin c .defer 0 s
  else applied c checkpoint s

/-- LOG_CHECKPOINT (R592). -/
def execLogCheckpoint (d : DapMsg) (s : State) : Host.Outcome State Fault Refusal :=
  .next (dapServe dapWrite (toObj d 0xB040 4) doLogCheckpoint s)

/-- LIFETIME_METER_UPDATE (R595): what the counts have risen by; the two erase counts are taken as they stand. -/
def execLifetimeMeterUpdate (m : LifeReading) (s : State) : Host.Outcome State Fault Refusal :=
  .next (if s.pkg = .off then s
    else m.values.foldl (fun s x =>
      if 1 ≤ x.1 ∧ x.1 ≤ 5 then bump 0xB050 x.1 x.2 s
      else if x.1 = 6 ∨ x.1 = 7 then setObj 0xB050 x.1 (min x.2 65535) s else s) s)

/-- A METER_SNAPSHOT entry: the lifetime meters, in their order (R591, log entry 18). -/
def logMeters (s : State) : State :=
  appendLog 0x50 0 0 (joinBytes [(4, obj s 0xB050 1), (4, obj s 0xB050 2), (4, obj s 0xB050 3), (8, obj s 0xB050 4),
    (8, obj s 0xB050 5), (2, obj s 0xB050 6), (2, obj s 0xB050 7)]) s

/-- METER_SNAPSHOT (R595). -/
def execMeterSnapshot (s : State) : Host.Outcome State Fault Refusal := .next (if s.pkg = .off then s else logMeters s)

/-- margin_permille (R596). -/
def marginPermille (s : State) : Nat :=
  min (obj s 0xB060 1 * 1000 / objDflt s.variant 0xB060 1) (min (obj s 0xB060 3) (obj s 0xB060 4))

/-! ## Purge and handover (R597 to R601) -/

/-- The stacks that are zeroed: those of homes that are not held. -/
def zeroMask (s : State) : Nat :=
  ((List.range 8).map (fun n => b2n (!(dom s (homeDom n)).held) * 2 ^ n)).sum

/-- Steps 1 and 2: every tenant key is zeroised, its generation advances; key 0xFFF and the media key are created afresh. -/
def purgeKeys (s : State) : State :=
  let (k, s) := drawKey s
  let (m, s) := drawKey s
  countKeys { s with keyStates := [], tenantKeys := [(0xFFF, k)], mediaKey := some m, keyGens := (List.range 4096).map (fun k => (k, (keyGeneration s k + 1) % 2 ^ 16)) }

/-- Steps 2 and 3: the journal is empty, the store caches are invalidated without write-back, every near-tier line is zero, every
extent ZERO. -/
def purgeMemory (s : State) : State :=
  { s with
    extents := [], store := []
    mem := s.mem.filter (fun c => decide (windowBase ≤ c.1))
    poison := s.poison.filter (fun l => decide (windowBase ≤ 64 * l)) }

/-- An image key is revoked by the device, with its record where it was enrolled (R101, R591). -/
def purgeKey (slot : Nat) (s : State) : State :=
  let held := obj s 0x4023 (slot + 1) != 0
  let s := cfgEvent (retireSigned slot (resetObj 0x4023 (slot + 1) s))
  if held then appendLog 0x21 0 0 (0x4023 + (slot + 1) * 2 ^ 16 + slot * 2 ^ 24) s else s

/-- Step 4: image keys 1 to 7 are revoked, the pending seed is taken, SAVED values are at their defaults and saved. -/
def purgeObjects (s : State) : State :=
  let s := (List.range 7).foldl (fun s i => purgeKey (i + 1) s) s
  let s := toDefaults (setObj 0x7031 2 (obj s 0x7031 1) s)
  storeImage (capture s) { s with dict := { s.dict with saving := none } }

/-- The purge (R599, R600): its steps, its entries, the reset. -/
def purgeAll (body : Nat) (s : State) : State :=
  let mask := zeroMask s
  let result := if mask = 0xFF then 0xF else 0xB
  let s := { (clearQps (dropWork s)) with links := [] }
  let s := purgeObjects (purgeMemory (purgeKeys s))
  let s := logMeters (endAllSpdm { s with purge := ⟨body, result, mask⟩ })
  let s := appendLog 0x40 0 0 (obj s 0xB070 3 % 2 ^ 32 + result * 2 ^ 32 + mask * 2 ^ 40) s
  triggerReset 3 false (setObj 0xB070 2 2 s)

/-- A firmware stage, verification or handover is in progress (R598). -/
def firmwareBusy (s : State) : Bool :=
  s.fw.verifying || s.fw.restarting || s.fw.trial.isSome || s.fw.a.st == 1 || s.fw.b.st == 1

/-- The package may be purged (R598). -/
def purgeAllowed (s : State) : Bool :=
  obj s 0x6010 7 == 0 && [PkgState.ready, .draining, .standing, .expelled].contains s.pkg &&
  !s.compTab.any (fun e => e.2.composition != 0)

/-- A guarded write of handover_command, in the order of R598. -/
def doHandover (c : Ctx) (s : State) : State :=
  let op := bits c.value 7 0
  let st := obj s 0xB070 2
  if c.actor ≠ 2 ∨ bits c.value 255 192 ≠ 0 ∨ bits c.value 63 8 ≠ 0 ∨ (op ≠ 1 ∧ op ≠ 2) then finBad c s
  else if (st ≠ 0 ∧ st ≠ 4) ∨ s.dict.saving.isSome ∨ firmwareBusy s then fin c .defer 1 s
  else if op = 2 then
    applied c (fun s => setObj 0xB070 2 3 { s with purge := ⟨c.value, 0x10, 0⟩ }) s
  else if !purgeAllowed s then finBad c s
  else if !logRoom s 0x41 then fin c .defer 0 s
  else
    let s := appendLog 0x41 c.actor c.tenant c.value (guardedEntry c s)
    purgeAll c.value (finOk c (setObj 0xB070 2 1 (bump 0xB070 3 1 s)))

/-- HANDOVER (R599). -/
def execHandover (d : DapMsg) (s : State) : Host.Outcome State Fault Refusal :=
  .next (dapServe dapGuarded (toObj d 0xB070 1) doHandover s)

/-- HANDOVER_REPORT (R598). -/
def execHandoverReport (d : DapMsg) (s : State) : Host.Outcome State Fault Refusal :=
  .next (dapServe dapGuarded (toObj d 0xB070 1) doHandover s)

/-- The 192 bytes of the condition report (R601). -/
def conditionHead (s : State) : Nat :=
  let m := measurements s
  let security := match s.fw.running with | some 1 => s.fw.b.security | _ => s.fw.a.security
  joinBytes [(4, 0x444E4F43), (2, 1), (8, 0), (2, obj s 0x1000 4), (2, obj s 0x1000 3), (2, security), (4, obj s 0x1000 7),
    (1, pkgCode s.pkg), (1, s.purge.result), (1, s.purge.mask), (1, obj s 0xB060 2), (2, marginPermille s),
    (2, obj s 0xB050 6), (2, obj s 0xB050 7), (2, obj s 0xB060 4), (2, obj s 0xB060 3), (2, obj s 0xB060 1),
    (4, obj s 0xB070 3), (4, obj s 0xA010 7), (4, obj s 0xB050 3), (4, obj s 0xB050 2), (4, obj s 0xB050 1),
    (4, obj s 0x2001 3), (8, obj s 0xB050 5), (8, obj s 0xB050 4), (8, s.time), (8, logNext s), (8, bits s.purge.body 191 128),
    (8, bits s.purge.body 127 64), (16, obj s 0x1000 5), (64, shake256 m.1 m.2)]

/-- The report is signed (R599, R601): after READY or STANDING is reached. -/
def doConditionReport (s : State) : State :=
  if obj s 0xB070 2 = 3 ∧ (serving s ∨ ((s.pkg = .standing ∨ s.pkg = .expelled) ∧ undisturbed s)) then
    let head := conditionHead s
    let digest := shake256 192 head % 2 ^ 512
    let report := joinBytes [(192, head), (3328, sigBlock 0xFE (obj s 0xB010 1) digest)]
    setObj 0xB070 2 4 (appendLog 0x42 0 0 digest (setObj 0xB070 4 report s))
  else s

/-- CONDITION_REPORT_SIGN (R601). -/
def execConditionReportSign (s : State) : Host.Outcome State Fault Refusal := .next (doConditionReport s)

end Sys2Proof.Machine
end

