-- ==== Sys2Proof/Machine/DapObjects.lean ====
section
/-! DEFINITION. Reads and writes of the dictionary's objects, each by its chapter's own checks (R448, R466 to R468, and the
listings R28, R85, R209, R317, R318, R425, R426, R446, R473, R521, R522, R576, R604). -/

namespace Sys2Proof.Machine

/-! ## Values that a read finds (R447, R450) -/

/-- A running value differs from the newest image; without one, from its default (R473). -/
def savedDirty (s : State) : Bool :=
  let v := match newestGood s with | some i => i.values | none => []
  let differs (key : Nat) : Bool := obj s (key / 256) (key % 256) != tgetD v key (objDflt s.variant (key / 256) (key % 256))
  ((savedValues s).map (·.1) ++ v.map (·.1)).any differs

/-- A link's status word (R425). -/
def linkWord (s : State) (n : Nat) : Nat :=
  let l := link s n
  match l.st with
  | .down => 0
  | .training => l.lanes * 2 ^ 8 + 1
  | .up => l.lanes * 2 ^ 8 + 2
  | _ => l.lanes * 2 ^ 8 + 3

/-- The selected composition entry (R411). -/
def compWord (s : State) (i : Nat) : Nat :=
  match tget s.compTab i with
  | none => 0
  | some e => 1 + b2n e.draining * 2 + e.requester % 2 ^ 16 * 2 ^ 36 + (tgetD s.comps e.composition (Comp.fresh 0)).epoch % 256 * 2 ^ 52
      + e.composition % 2 ^ 12 * 2 ^ 60 + e.tenant % 2 ^ 12 * 2 ^ 72 + e.bwLimit % 2 ^ 12 * 2 ^ 84

/-- The selected owner record: the master's, or the package's copy (R417, R418). -/
def ownerWord (s : State) (i : Nat) : Nat :=
  match tget s.owners.master i with
  | some r => r
  | none => tgetD s.owners.here i 0

/-- The selected queue-pair entry as it stands (R430). -/
def qpWord (s : State) (q : Nat) : Nat :=
  let x := qp s q
  setBits (setBits (setBits x.entry 1 0 x.st) 119 96 x.expected) 87 64 x.send

/-- A power domain's state word (R521). -/
def domWord (s : State) (d : Nat) : Nat := (dom s d).st + b2n (dom s d).held * 2 ^ 6 + b2n (dom s d).waking * 2 ^ 7

/-- The objects of an Oryx table slot and of a Chamois index slot that show it (R264, R292). -/
def tableValue (s : State) (n sub : Nat) : Nat :=
  let t := tgetD s.otables n OTable.zero
  match sub with
  | 1 => t.st
  | 2 => t.current
  | 3 => retiringCount s n
  | _ => obj s (0x8100 + n) sub
def indexValue (s : State) (n sub : Nat) : Nat :=
  let x := tgetD s.indexes n SIndex.zero
  match sub with
  | 1 => x.st
  | 2 => x.gen
  | 3 => (x.tail + 2 ^ 32 - x.merged % 2 ^ 32) % 2 ^ 32
  | 4 => x.live
  | 5 => (queriesOf s n).length
  | _ => obj s (0x9100 + n) sub

/-- The value of an object that a read finds: what a unit shows at the read, or what the dictionary holds. -/
def liveValue (s : State) (index sub : Nat) : Nat :=
  if absentObject s index sub then objDflt s.variant index sub
  else if 0x2100 ≤ index ∧ index ≤ 0x211B ∧ sub = 1 then domWord s (index - 0x2100)
  else if 0x8100 ≤ index ∧ index ≤ 0x84FF then tableValue s (index - 0x8100) sub
  else if 0x9100 ≤ index ∧ index ≤ 0x91FF then indexValue s (index - 0x9100) sub
  else if index = 0x4021 ∧ 1 ≤ sub then clusterWord s (sub - 1)
  else if index = 0x7041 ∧ 1 ≤ sub then slotWord s (sub - 1)
  else if index = 0x7042 ∧ 1 ≤ sub then slotTenant s (sub - 1)
  else if index = 0x7010 ∧ 1 ≤ sub ∧ sub ≤ 16 then linkWord s (sub - 1)
  else if index = 0xF011 ∧ 1 ≤ sub then (block s (sub - 1)).ref
  else match okey index sub with
    | 0x101001 => pkgCode s.pkg
    | 0x101006 => s.time
    | 0x101103 => (match newestGood s with | some i => i.seq | none => 0)
    | 0x101105 => b2n (savedDirty s)
    | 0x103002 => sessionsOpen s
    | 0x105001 => fwStatus s 0
    | 0x105002 => fwStatus s 1
    | 0x301009 => nearFree s
    | 0x30100A => pinnedBytes s
    | 0x601009 => domainDigest s
    | 0x702002 => tgetD s.regions (obj s 0x7020 1) 0
    | 0x703002 => compWord s (obj s 0x7030 1)
    | 0x703004 => s.compTab.length
    | 0x703202 => ownerWord s (obj s 0x7032 1)
    | 0x704003 => s.streams.length
    | 0x711002 => qpWord s (obj s 0x7110 1)
    | 0x711003 => (qp s (obj s 0x7110 1)).lastStatus
    | 0x801008 => oryxInFlight s
    | 0xB03002 => keyGeneration s (obj s 0xB030 1) % 2 ^ 16 + keyState s (obj s 0xB030 1) * 2 ^ 16
    | 0xB06005 => marginPermille s
    | 0xC01003 => (match tget s.comps (obj s 0xC010 2) with
      | some x => meterRecord s (obj s 0xC010 2) x s.recordSeq
      | none => 0)
    | _ => obj s index sub

/-- Up to 64 units of the custody log from log_read_index (R604): their bytes and value. -/
def logWindow (s : State) : Nat × Nat :=
  let us := ((s.log.reverse.drop (obj s 0xB040 2)).take 64).map (fun u => (128, u))
  (joinLen us, joinBytes us)

/-- The bytes of a STRING object (R473). -/
def stringBytes (key : Nat) : Nat := if key = 0x100005 then 16 else 7

/-- A READ of any object (R466, R468). A CMD object returns its default (R448); handover_command has no value to return that
the spec states (log entry 1). -/
def readObj (c : Ctx) (s : State) : State :=
  match objRow c.index c.sub with
  | none => finBad c s
  | some r =>
    let key := okey c.index c.sub
    if r.acc = .cmd then finRead c (tyBytes r.ty) (objDflt s.variant c.index c.sub) s
    else match key with
      | 0x602102 => doSyncView c s
      | 0xC01101 => doBatchRead c s
      | 0xF00003 => doRawRead c s
      | 0xF00004 => doRawRead64 c s
      | 0xB01002 => readDomain c (chainBytes s) (chainValue s) s
      | 0xB01003 => readDomain c (measurements s).1 (measurements s).2 s
      | 0xB04003 => readDomain c (logWindow s).1 (logWindow s).2 s
      | 0xB07001 => let (f, s) := drawFree s; readDomain c 32 (f % 2 ^ 256) s
      | _ => match r.ty with
        | .domain _ n => readDomain c n (obj s c.index c.sub) s
        | .string => finRead c (stringBytes key) (liveValue s c.index c.sub) s
        | ty => finRead c (tyBytes ty) (liveValue s c.index c.sub % 2 ^ (8 * tyBytes ty)) s

/-! ## Writes that only check a range -/

/-- The values from `lo` to `hi` that a chapter allows for an object; an object not named here takes any value of its type. -/
def rangeFor (key : Nat) : Nat × Nat :=
  match key with
  | 0x103003 => (1, 3600)
  | 0x104003 => (0, 1)
  | 0x200203 => (85, 105)
  | 0x601003 => (0, 7)
  | 0x601501 => (0, 3)
  | 0x602003 => (0, 1000)
  | 0x602101 => (0, 32767)
  | 0x702001 => (0, 16383)
  | 0x703001 => (0, 4095)
  | 0x703201 => (0, 1023)
  | 0x705001 => (1, 255)
  | 0x705002 => (1, 255)
  | 0x705003 => (1, 255)
  | 0x710003 => (0, 2)
  | 0x710006 => (0, 4094)
  | 0x710008 => (0, 7)
  | 0x71000B => (16384, 1048576)
  | 0x71000C => (1, 31)
  | 0x711001 => (0, 4095)
  | 0x901003 => (1, 1024)
  | 0x901006 => (1, 100)
  | 0xA01005 => (1, 168)
  | 0xA01008 => (1, 4096)
  | 0xA05003 => (1, 400)
  | 0xB03001 => (0, 4095)
  | 0xB05008 => (1, 8760)
  | 0xC01001 => (10, 60000)
  | 0xC01002 => (0, 4095)
  | 0xF01003 => (1, 60000)
  | _ => (0, 2 ^ 65536)

/-- A value that names a package is a package number; hot_spare has 0xFFFF for none. -/
def packageField (key v : Nat) : Bool :=
  if 0x601101 ≤ key ∧ key ≤ 0x601108 then decide (v < 4096)
  else if key = 0xA05001 then decide (v < 4096) || v == 0xFFFF
  else true

/-- The write of an object's value after its own range check (R448). -/
def writePlain (c : Ctx) (s : State) : State :=
  let key := okey c.index c.sub
  let r := rangeFor key
  if c.value < r.1 ∨ r.2 < c.value ∨ !packageField key c.value then finBad c s
  else applied c (setObj c.index c.sub c.value) s

/-! ## Writes with a check of their own -/

/-- A write that completes with DEFER while the domain is FORMED (R324, R424). -/
def doDomainObject (c : Ctx) (s : State) : State := if obj s 0x6010 7 = 2 then fin c .defer 0 s else writePlain c s

/-- member_count: more than 8 members are a length past its bound (R42, R351). -/
def doMemberCount (c : Ctx) (s : State) : State :=
  if obj s 0x6010 7 ≠ 2 ∧ 8 < c.value then fin c .badLength 0 s else doDomainObject c s

/-- package_number (R28). -/
def doPackageNumber (c : Ctx) (s : State) : State :=
  if s.pkg = .ready ∨ s.pkg = .draining then fin c .defer 0 s
  else if bits c.value 15 12 ≠ 0 then finBad c s
  else applied c (setObj 0x1021 1 c.value) s

/-- package_requester (R426). -/
def doPackageRequester (c : Ctx) (s : State) : State :=
  if s.pkg = .ready ∨ s.pkg = .draining then fin c .defer 0 s else applied c (setObj 0x7030 7 c.value) s

/-- power_limit_w: it writes PWR_POWER_LIMIT (R522, R523). -/
def doPowerLimit (c : Ctx) (s : State) : State :=
  if c.value < 300 ∨ 1350 < c.value then finBad c s
  else applied c (fun s => guardedPair 0x1F 0x8000 c.value (setObj 0x2000 4 c.value s)) s

/-- retain_after_us and off_after_ms (R522, R474). -/
def doSleepTime (c : Ctx) (s : State) : State :=
  if c.value = 0 ∨ !domPresent s (c.index - 0x2100) then finBad c s else applied c (setObj c.index c.sub c.value) s

/-- dap_udp_port (R446). -/
def doUdpPort (c : Ctx) (s : State) : State :=
  if c.value = 0 ∨ c.value = 4791 then finBad c s else applied c (setObj 0x7100 9 c.value) s

/-- context_table_base (R318). -/
def doContextBase (c : Ctx) (s : State) : State :=
  if s.handles.any (fun e => e.2.st != .unbound && e.2.context != 0) ∨
      s.dma.any (fun e => e.2.any (fun d => dmContext d.req.body != 0)) then fin c .defer 0 s
  else if c.value % 65536 ≠ 0 ∨ memRange s < c.value + 65536 then finBad c s
  else applied c (setObj 0x3020 2 c.value) s

/-- A fault queue lies in one active PIN_NEAR object; one without entries lies nowhere (R317, R318). -/
def queueOk (s : State) (base n : Nat) : Bool :=
  base % 64 == 0 && (n == 0 || s.placed.any (fun p => p.2.policy == pinNear &&
    decide (entryBase p.2.entry ≤ base ∧ base + 64 * n ≤ entryBase p.2.entry + entryCount p.2.entry * extentBytes)))

/-- fq_base and fq_entries (R318). -/
def doFaultQueue (c : Ctx) (s : State) : State :=
  let base := if c.sub = 1 then c.value else obj s c.index 1
  let n := if c.sub = 2 then c.value else obj s c.index 2
  let power : Bool := n == 0 || ((List.range 11).map (fun k => 2 ^ (k + 6))).contains n
  if obj s c.index 5 ≠ 0 then fin c .defer 0 s
  else if c.sub = 2 ∧ c.value = 0xFFFFFFFF then fin c .badLength 0 s
  else if !power ∨ !queueOk s base n then finBad c s
  else applied c (setObj c.index c.sub c.value) s

/-! ## Commands written to command objects (R460) -/

/-- The command in its session's name: class C1, the acting tenant. -/
def sessionHdr (c : Ctx) (s : State) : Hdr :=
  ⟨.dap c.port c.id, 1, 0, 0, c.tenant, c.requester, 0, pkgNo s, 0, 0, 0⟩

/-- A command of an opcode. -/
def doCommand (op : Nat) (c : Ctx) (s : State) : State := performOpcode op (sessionHdr c s) c.value 0 s

/-- What the other members answer to a formation that a generic write starts: free (log entry 15). -/
def freeAnswers (s : State) : List MemberAnswer × State :=
  (List.range (obj s 0x6010 2)).foldl (fun (a : List MemberAnswer × State) m =>
    let (f, s) := drawFree a.2
    if m = obj s 0x6010 3 ∨ f % 2 = 0 then (a.1, s)
    else (a.1 ++ [⟨m, if f / 2 % 2 = 1 then domainDigest s else domainDigest s + 1, f / 4 % 2 == 1⟩], s)) ([], s)

/-- domain_form and domain_change as a generic write reaches them: what the rows' operands say is free. -/
def doFormFree (c : Ctx) (s : State) : State :=
  let (as, s) := freeAnswers s
  doDomainForm as c s
def doChangeFree (c : Ctx) (s : State) : State :=
  let (f, s) := drawFree s
  doDomainChange (f % 2 == 1) (f / 2 % 2 == 1) c s

/-- The counters that a CMD object clears, by its key: index and subs. -/
def clearedBy (key : Nat) : Option (List (Nat × List Nat)) :=
  match key with
  | 0x103009 => some [(0x1030, [4, 5])]
  | 0x301108 => some [(0x3011, [1, 2, 3, 4, 5, 6, 7])]
  | 0x302009 => some [(0x3020, [3, 4, 5, 6, 7])]
  | 0x401007 => some [(0x4010, [3, 4, 5, 6])]
  | 0x50110A => some [(0x5011, [1, 2, 3, 4, 5, 6, 7, 8, 9])]
  | 0x60200D => some [(0x6020, [8, 9, 0xA, 0xB, 0xC])]
  | 0x704307 => some [(0x7043, [1, 2, 3, 4, 5, 6])]
  | 0x710109 => some [(0x7101, [1, 2, 3, 4, 5, 6, 7, 8]), (0x7100, [0xE])]
  | 0x801308 => some [(0x8013, [1, 2, 3, 4, 5, 6, 7])]
  | 0x901108 => some [(0x9011, [1, 2, 3, 4, 5, 6, 7])]
  | 0xF01205 => some [(0xF012, [1, 2, 3, 4])]
  | _ => none

/-- A write of 1 clears them. -/
def doClear (l : List (Nat × List Nat)) (c : Ctx) (s : State) : State :=
  clearing c (fun s => l.foldl (fun s x => clearObjs x.1 x.2 s) s) s

/-! ## Any write -/

/-- The action or check of an object with a meaning of its own, by its key. -/
def ownWrite (key : Nat) : Option (Ctx → State → State) :=
  match key with
  | 0x101101 => some doSaveNow
  | 0x101102 => some doRestoreDefaults
  | 0x102101 => some doPackageNumber
  | 0x104001 => some doPkgReset
  | 0x104002 => some doEnterStanding
  | 0x105003 => some doStageOffset
  | 0x105004 => some doStage
  | 0x105005 => some doFwVerify
  | 0x105006 => some doFwHandover
  | 0x200004 => some doPowerLimit
  | 0x201101 => some doHeldReady
  | 0x301004 => some doObjTableBase
  | 0x301005 => some doShadowTableBase
  | 0x301006 => some doPinLimit
  | 0x301200 => some (doCommand 0x15)
  | 0x302002 => some doContextBase
  | 0x402200 => some (doCommand 0x14)
  | 0x501007 => some doArenaBase
  | 0x601001 => some doDomainObject
  | 0x601002 => some doMemberCount
  | 0x601003 => some doDomainObject
  | 0x601005 => some doMasterConfirm
  | 0x601006 => some doDataSource
  | 0x60100A => some doFormFree
  | 0x601300 => some doDomainObject
  | 0x601501 => some doDomainObject
  | 0x601502 => some doDomainObject
  | 0x601503 => some doDomainObject
  | 0x702002 => some doRegionEntry
  | 0x702003 => some doTrustMode
  | 0x703003 => some (doCommand 0x30)
  | 0x703007 => some doPackageRequester
  | 0x703203 => some (doCommand 0x31)
  | 0x704400 => some (doCommand 0x16)
  | 0x706002 => some (doCommand 0x18)
  | 0x710009 => some doUdpPort
  | 0x711002 => some doQpEntry
  | 0xA02002 => some doDieRetest
  | 0xA03001 => some doLinkRecal
  | 0xA04101 => some doExpelVote
  | 0xA05002 => some doChangeFree
  | 0xA06001 => some doDrainBegin
  | 0xB03003 => some doKeyCommand
  | 0xB04004 => some doLogCheckpoint
  | 0xB07001 => some doHandover
  | 0xC01102 => some doMeterAck
  | 0xF00001 => some doRawDie
  | 0xF00002 => some doRawOffset
  | 0xF00003 => some doRawWrite
  | 0xF00004 => some doRawWrite64
  | 0xF00005 => some doRawGuarded
  | 0xF01001 => some doCheckEnable
  | 0xF01002 => some doCfgCommit
  | _ => none

/-- The objects of an array, by their index. -/
def arrayWrite (index sub : Nat) : Option (Ctx → State → State) :=
  if 0x2100 ≤ index ∧ index ≤ 0x211B then (if sub = 2 then some doFloor else some doSleepTime)
  else if 0x3030 ≤ index ∧ index ≤ 0x303F then (if sub ≤ 2 then some doFaultQueue else none)
  else if 0x8100 ≤ index ∧ index ≤ 0x84FF then some (doClear [(index, [4, 5, 7])])
  else if index = 0x4023 then some doImageKey
  else if index = 0x6011 then some doDomainObject
  else if index = 0x6012 then some doAgentEntry
  else if index = 0x8011 ∨ index = 0x8012 then some doHotArea
  else if index = 0xA040 then some doFmKey
  else if index = 0xB020 then some doOwnerKey
  else none

/-- A write of any object that the checks of R462 let through. -/
def writeObj (c : Ctx) (s : State) : State :=
  match arrayWrite c.index c.sub with
  | some f => f c s
  | none => match clearedBy (okey c.index c.sub) with
    | some l => doClear l c s
    | none => match ownWrite (okey c.index c.sub) with
      | some f => f c s
      | none => writePlain c s

/-! ## The rows -/

/-- DAP_READ (R466, R468). -/
def execDapRead (d : DapMsg) (s : State) : Host.Outcome State Fault Refusal := .next (dapServe dapRead d readObj s)

/-- DAP_WRITE (R466, R467). -/
def execDapWrite (d : DapMsg) (s : State) : Host.Outcome State Fault Refusal := .next (dapServe dapWrite d writeObj s)

/-- DAP_WRITE_GUARDED (R464, R465). -/
def execDapWriteGuarded (d : DapMsg) (s : State) : Host.Outcome State Fault Refusal := .next (dapServe dapGuarded d writeObj s)

/-- DICT_OBJECT_WRITE (R448). -/
def execDictObjectWrite (d : DapMsg) (s : State) : Host.Outcome State Fault Refusal := .next (dapServe dapWrite d writeObj s)

/-- PACKAGE_NUMBER_WRITE (R28). -/
def execPackageNumberWrite (d : DapMsg) (s : State) : Host.Outcome State Fault Refusal :=
  .next (dapServe dapGuarded (toObj d 0x1021 1) doPackageNumber s)

/-- ARITH_COUNTERS_CLEAR (R85). -/
def execArithCountersClear (d : DapMsg) (s : State) : Host.Outcome State Fault Refusal :=
  .next (clearObj d 0x4010 7 (clearObjs 0x4010 [3, 4, 5, 6]) s)

/-- XLT_COUNTERS_CLEAR (R317). -/
def execXltCountersClear (d : DapMsg) (s : State) : Host.Outcome State Fault Refusal :=
  .next (clearObj d 0x3020 9 (clearObjs 0x3020 [3, 4, 5, 6, 7]) s)

/-- DICT_COUNTERS_CLEAR (R473). -/
def execDictCountersClear (d : DapMsg) (s : State) : Host.Outcome State Fault Refusal :=
  .next (clearObj d 0x1030 9 (clearObjs 0x1030 [4, 5]) s)

end Sys2Proof.Machine
end

