-- ==== Sys2Proof/Machine/Pack.lean ====
section
/-! DEFINITION. PACK_STREAM: the kinds and the encoding of blocks, the stream that it writes, and how a call ends (R128, R234,
R235). -/

namespace Sys2Proof.Machine

/-! ## The encoding (R217, R218, R235) -/

/-- Byte i of a block. -/
def blockByte (block i : Nat) : Nat := bits block (8 * i + 7) (8 * i)

/-- One step of the encoder, from the last symbol to the first: the state that decodes to this symbol and goes on to the state
that follows, and the bits that it reads for that. -/
def ansStep (table : Tab AnsEntry) (sym next : Nat) : Option (Nat × Nat × Nat) :=
  (table.find? (fun e => e.2.sym == sym && decide (e.2.base ≤ next ∧ next < e.2.base + 2 ^ e.2.nbits))).map
    (fun e => (e.1, next - e.2.base, e.2.nbits))

/-- The states that the four lanes end in: of each lane's last symbol, one of the states that decode to it (log entry 62). -/
def ansEnds (table : Tab AnsEntry) (block : Nat) : Option (List Nat) :=
  (List.range 4).foldr (fun k acc =>
    let own := (table.filter (fun e => e.2.sym == blockByte block (4092 + k))).map (·.1)
    match acc, own[Config.packState block k % max 1 own.length]? with
    | some l, some x => some (x :: l)
    | _, _ => none) (some [])

/-- The lanes' first states, the bits of all reads and their number: symbols 4,091 down to 0. -/
def ansBack (table : Tab AnsEntry) (block : Nat) : Option (List Nat × Nat × Nat) :=
  (List.range 4092).foldl (fun acc j =>
    let i := 4091 - j
    acc.bind (fun a =>
      (ansStep table (blockByte block i) ((a.1[i % 4]?).getD 0)).map (fun x =>
        (a.1.set (i % 4) x.1, x.2.1 + 2 ^ x.2.2 * a.2.1, a.2.2 + x.2.2))))
    ((ansEnds table block).map (fun l => (l, 0, 0)))

/-- An ANS payload of a block: its bytes and its value; none where a byte value has no count. -/
def ansEncode (img block : Nat) : Option (Nat × Nat) :=
  let t := imgLog img
  (ansBack (decodeTable img) block).map (fun a =>
    let head := ((List.range 4).map (fun k => (a.1[k]?).getD 0 * 2 ^ (t * k))).sum
    (ceilDiv (4 * t + a.2.2) 8, head + 2 ^ (4 * t) * a.2.1))

/-- The kind, payload length and payload that PACK_STREAM chooses for a block (R235): 2 FILL, 0 ANS, 1 RAW. -/
def packChoice (img block : Nat) : Nat × Nat × Nat :=
  if block = block % 256 * ((2 ^ 32768 - 1) / 255) then (2, 1, block % 256)
  else match ansEncode img block with
    | some (n, v) => if n < 4096 then (0, n, v) else (1, 4096, block)
    | none => (1, 4096, block)

/-- A map entry (R213). -/
def packEntry (kind len slot gen : Nat) : Nat := len + kind * 2 ^ 28 + (if kind = 0 then slot * 2 ^ 16 + gen * 2 ^ 32 else 0)

/-- A block as it stands in a stream: its map entry, and its header with its payload (R213). -/
def packBlock (img slot gen seq block : Nat) : Nat × Nat :=
  let c := packChoice img block
  let e := packEntry c.1 c.2.1 slot gen
  (e, e + seq * 2 ^ 64 + crc32c c.2.1 c.2.2 * 2 ^ 96 + c.2.2 * 2 ^ 128)

/-- A whole stream of blocks: its bytes and its value, and where each block starts (R211, R212). -/
def packStream (img slot gen : Nat) (blocks : List Nat) : Nat × Nat × List Nat :=
  let n := blocks.length
  let bs := blocks.mapIdx (fun i b => packBlock img slot gen i b)
  let total := (bs.map (fun b => span b.1)).sum
  let map := (bs.mapIdx (fun i b => b.1 * 2 ^ (64 * i))).sum
  let h := 0x4D525453 + 2 ^ 32 + n * 2 ^ 64 + total * 2 ^ 128 + crc32c (8 * n) map * 2 ^ 192
  let head := h + crc32c 28 h * 2 ^ 224
  let body := bs.foldl (fun (a : Nat × Nat × List Nat) b => (a.1 + span b.1, a.2.1 + b.2 * 2 ^ (8 * a.1), a.2.2 ++ [a.1]))
    (blocksAt n, head + map * 2 ^ 512, [])
  body

/-! ## A call on PACK_STREAM -/

/-- The parts of a buffer that a call names, page by page, as fabric addresses and bytes; none while an address of it faults. -/
def argParts (s : State) (x : FnHandle) (a n : Nat) (k : AccessKind) : Option (List (Nat × Nat)) :=
  (unitParts a n).foldr (fun p acc => match acc, argAddress s x p.1 k with
    | some l, some t => some ((t, p.2) :: l)
    | _, _ => none) (some [])

/-- The bytes of parts of this package's memory, far lines taken from their shadows. -/
def partsData (s : State) : List (Nat × Nat) → Nat
  | [] => 0
  | p :: ps => rangeData s [] (p.1 % 2 ^ 48) p.2 + 2 ^ (8 * p.2) * partsData s ps

/-- The writes of `n` bytes of a value to the part of a buffer from `at_` on. -/
def writesOf (s : State) (x : FnHandle) (a at_ n v : Nat) (bad : Bool) : Option (List CallWrite) :=
  (argParts s x (a + at_) n .store).map (fun ps =>
    (ps.foldl (fun (w : Nat × List CallWrite) p =>
      (w.1 + p.2, w.2 ++ [⟨p.1, p.2, bits v (8 * (at_ + w.1 + p.2) - 1) (8 * (at_ + w.1)), bad, .ok⟩])) (0, [])).2)

/-- A call on PACK_STREAM ends (R235): it waits while its tensor is in the far tier, unless its class takes a shadow's data, and
while an address faults. Its result is the stream's bytes. Blocks from the first poisoned one on, and the head and the map, are
computed from poisoned data (R129). -/
def doPackCall (acc : Nat) (k : Call) (x : FnHandle) (r : CallResult) (s : State) : State :=
  let b := k.posted.req.body
  let v := argValue (invArg b 3)
  let n := bits v 63 35
  let out := argValue (invArg b 1)
  match argParts s x (argValue (invArg b 0)) (4096 * n) .load, (slotAt s (bits v 34 32)).image with
  | some ps, some img =>
    if ps.any (fun p => p.1 / 2 ^ 48 != pkgNo s) then finishCall acc k r s
    else
      let ls := (ps.map (fun p => linesOf (p.1 % 2 ^ 48) p.2)).flatten
      let far := ls.filter (fun l => isFar s (extentOf (64 * l)))
      let covered := far.all (fun l => match substLine s (64 * l) with | .data _ => true | _ => false)
      let exts := (far.map (fun l => extentOf (64 * l))).eraseDups
      if !far.isEmpty ∧ !(decide (k.posted.req.hdr.cls ≤ 1) && covered) then engineFar exts s
      else
        let s := if far.isEmpty then s else engineFar exts s
        let data := partsData s ps
        let blocks := (List.range n).map (fun i => bits data (32768 * i + 32767) (32768 * i))
        let y := packStream img (bits v 34 32) (bits v 31 0) blocks
        let poisoned (i : Nat) : Bool := match argParts s x (argValue (invArg b 0) + 4096 * i) 4096 .load with
          | some qs => qs.any (fun p => (linesOf (p.1 % 2 ^ 48) p.2).any (fun l => !isFar s (extentOf (64 * l)) && lineBad s l))
          | none => false
        let good := ((List.range n).takeWhile (fun i => !poisoned i)).length
        let bad := decide (good < n)
        let cut := if bad then (y.2.2[good]?).getD y.1 else y.1
        match writesOf s x out 0 (blocksAt n) y.2.1 bad, writesOf s x out (blocksAt n) (cut - blocksAt n) y.2.1 false,
            writesOf s x out cut (y.1 - cut) y.2.1 bad with
        | some w1, some w2, some w3 =>
          finishCall acc { k with subst := k.subst || !far.isEmpty }
            ⟨if bad then .poison else .ok, y.1, w1 ++ w2 ++ w3, r.subst⟩ s
        | _, _, _ => s
  | _, _ => s

/-! ## Calls end (R128) -/

/-- A call finishes: what a certified merge computes is R166's, what PACK_STREAM writes is R235's; every other function's result is
its image's own. -/
def doCallComplete (acc : Nat) (r : CallResult) (s : State) : State :=
  match tget s.calls acc with
  | none => s
  | some k =>
    if k.posted.req.op ≠ 0x13 then s
    else match tget s.handles k.handle with
      | some x =>
        if certifiedId x.image = some 0x00010011 then doMergeCall acc k x r s
        else if certifiedId x.image = some 0x00010041 then doPackCall acc k x r s
        else finishCall acc k r s
      | none => finishCall acc k r s

/-- CALL_COMPLETE (R128). -/
def execCallComplete (acc : Nat) (r : CallResult) (s : State) : Host.Outcome State Fault Refusal := .next (doCallComplete acc r s)

end Sys2Proof.Machine
end

