-- ==== Sys2Proof/Machine/Dispatch.lean ====
section
/-! DEFINITION. The effect of each command: one arm per row of the opcode table. -/

namespace Sys2Proof.Machine

def exec (i : Instr) (s : State) : Host.Outcome State Fault Refusal :=
  match i with
  | .inputStable mv => Sys2Proof.Machine.execInputStable mv s
  | .packageBusRegulated straps ref => Sys2Proof.Machine.execPackageBusRegulated straps ref s
  | .inputLowWarning mv => Sys2Proof.Machine.execInputLowWarning mv s
  | .inputLoss mv => Sys2Proof.Machine.execInputLoss mv s
  | .rotVerifyDone slotA slotB logBreak => Sys2Proof.Machine.execRotVerifyDone slotA slotB logBreak s
  | .mgmtCoreReady => Sys2Proof.Machine.execMgmtCoreReady s
  | .selftestStepEnd step causes flash warm => Sys2Proof.Machine.execSelftestStepEnd step causes flash warm s
  | .selftestStepTimeout step die unit => Sys2Proof.Machine.execSelftestStepTimeout step die unit s
  | .enterStanding d => Sys2Proof.Machine.execEnterStanding d s
  | .pkgResetNAssert => Sys2Proof.Machine.execPkgResetNAssert s
  | .pkgResetNRelease straps => Sys2Proof.Machine.execPkgResetNRelease straps s
  | .pkgReset d => Sys2Proof.Machine.execPkgReset d s
  | .pkgResetTrigger => Sys2Proof.Machine.execPkgResetTrigger s
  | .resetShutdownDone => Sys2Proof.Machine.execResetShutdownDone s
  | .watchdogExpiry => Sys2Proof.Machine.execWatchdogExpiry s
  | .refclkLoss => Sys2Proof.Machine.execRefclkLoss s
  | .powerInterval powerW inputMa inputMv tempDc tempDie => Sys2Proof.Machine.execPowerInterval powerW inputMa inputMv tempDc tempDie s
  | .thermalTrip die => Sys2Proof.Machine.execThermalTrip die s
  | .domainIdleEntry dom => Sys2Proof.Machine.execDomainIdleEntry dom s
  | .domainIdleExit dom => Sys2Proof.Machine.execDomainIdleExit dom s
  | .retainEntry dom => Sys2Proof.Machine.execRetainEntry dom s
  | .offEntry dom => Sys2Proof.Machine.execOffEntry dom s
  | .wakeRequest dom => Sys2Proof.Machine.execWakeRequest dom s
  | .wakeComplete dom => Sys2Proof.Machine.execWakeComplete dom s
  | .generationCheckDone dom => Sys2Proof.Machine.execGenerationCheckDone dom s
  | .clusterReloadAfterWake slice => Sys2Proof.Machine.execClusterReloadAfterWake slice s
  | .wakeFailure dom => Sys2Proof.Machine.execWakeFailure dom s
  | .wakeRetry dom => Sys2Proof.Machine.execWakeRetry dom s
  | .dieFault die => Sys2Proof.Machine.execDieFault die s
  | .dieRetest d => Sys2Proof.Machine.execDieRetest d s
  | .dieRetestDone causes nandMatches lines => Sys2Proof.Machine.execDieRetestDone causes nandMatches lines s
  | .flitReceive f => Sys2Proof.Machine.execFlitReceive f s
  | .flitNakReceive link ackSeq => Sys2Proof.Machine.execFlitNakReceive link ackSeq s
  | .linkDown link => Sys2Proof.Machine.execLinkDown link s
  | .linkTrained link lanes => Sys2Proof.Machine.execLinkTrained link lanes s
  | .linkRecal d => Sys2Proof.Machine.execLinkRecal d s
  | .linkRecalRequest link => Sys2Proof.Machine.execLinkRecalRequest link s
  | .recalThresholdExceeded link => Sys2Proof.Machine.execRecalThresholdExceeded link s
  | .linkQuiesced link => Sys2Proof.Machine.execLinkQuiesced link s
  | .linkRetrained link => Sys2Proof.Machine.execLinkRetrained link s
  | .linkRecalTimeout link => Sys2Proof.Machine.execLinkRecalTimeout link s
  | .read h found => Sys2Proof.Machine.execRead h found s
  | .readAcq h found => Sys2Proof.Machine.execReadAcq h found s
  | .write h data => Sys2Proof.Machine.execWrite h data s
  | .writeRel h data => Sys2Proof.Machine.execWriteRel h data s
  | .flush h body => Sys2Proof.Machine.execFlush h body s
  | .atomic h body => Sys2Proof.Machine.execAtomic h body s
  | .publish h body data => Sys2Proof.Machine.execPublish h body data s
  | .syncAdd h body => Sys2Proof.Machine.execSyncAdd h body s
  | .syncSet h body => Sys2Proof.Machine.execSyncSet h body s
  | .syncClaim h body => Sys2Proof.Machine.execSyncClaim h body s
  | .syncRelease h body => Sys2Proof.Machine.execSyncRelease h body s
  | .syncCancel h body => Sys2Proof.Machine.execSyncCancel h body s
  | .wait h body => Sys2Proof.Machine.execWait h body s
  | .doorbell h body => Sys2Proof.Machine.execDoorbell h body s
  | .probe h => Sys2Proof.Machine.execProbe h s
  | .attend h body => Sys2Proof.Machine.execAttend h body s
  | .attendDispatch acc q => Sys2Proof.Machine.execAttendDispatch acc q s
  | .attendBindAfterHold acc => Sys2Proof.Machine.execAttendBindAfterHold acc s
  | .attendHoldExpired acc => Sys2Proof.Machine.execAttendHoldExpired acc s
  | .partialWritten acc failed => Sys2Proof.Machine.execPartialWritten acc failed s
  | .mergeSyncReached acc => Sys2Proof.Machine.execMergeSyncReached acc s
  | .mergeTimeout acc => Sys2Proof.Machine.execMergeTimeout acc s
  | .append h body => Sys2Proof.Machine.execAppend h body s
  | .commit h body => Sys2Proof.Machine.execCommit h body s
  | .commitPublish acc => Sys2Proof.Machine.execCommitPublish acc s
  | .discard h body => Sys2Proof.Machine.execDiscard h body s
  | .arenaActivate h body => Sys2Proof.Machine.execArenaActivate h body s
  | .arenaDeactivate h body => Sys2Proof.Machine.execArenaDeactivate h body s
  | .gather h body => Sys2Proof.Machine.execGather h body s
  | .pool h body => Sys2Proof.Machine.execPool h body s
  | .scatter h body => Sys2Proof.Machine.execScatter h body s
  | .update h body => Sys2Proof.Machine.execUpdate h body s
  | .oryxDelete h body => Sys2Proof.Machine.execOryxDelete h body s
  | .tableActivate h body => Sys2Proof.Machine.execTableActivate h body s
  | .tableReplace h body => Sys2Proof.Machine.execTableReplace h body s
  | .tableDeactivate h body => Sys2Proof.Machine.execTableDeactivate h body s
  | .oryxListRead acc idx bags => Sys2Proof.Machine.execOryxListRead acc idx bags s
  | .oryxRowOperation acc input => Sys2Proof.Machine.execOryxRowOperation acc input s
  | .oryxResultHeader acc ack => Sys2Proof.Machine.execOryxResultHeader acc ack s
  | .tableVersionFreed slot => Sys2Proof.Machine.execTableVersionFreed slot s
  | .shardWindowEnd utils => Sys2Proof.Machine.execShardWindowEnd utils s
  | .hotSlotGranted row pkg slice slot => Sys2Proof.Machine.execHotSlotGranted row pkg slice slot s
  | .rowCopyAcked row => Sys2Proof.Machine.execRowCopyAcked row s
  | .rowCommitAcked row => Sys2Proof.Machine.execRowCommitAcked row s
  | .rowCommitTimeout row => Sys2Proof.Machine.execRowCommitTimeout row s
  | .rowReturnAcked row record => Sys2Proof.Machine.execRowReturnAcked row record s
  | .rowForwardLost row => Sys2Proof.Machine.execRowForwardLost row s
  | .query h body => Sys2Proof.Machine.execQuery h body s
  | .queryDispatch acc q => Sys2Proof.Machine.execQueryDispatch acc q s
  | .queryComplete acc acks => Sys2Proof.Machine.execQueryComplete acc acks s
  | .insert h body => Sys2Proof.Machine.execInsert h body s
  | .sideEntryCommit acc data ack => Sys2Proof.Machine.execSideEntryCommit acc data ack s
  | .searchDelete h body => Sys2Proof.Machine.execSearchDelete h body s
  | .indexActivate h body => Sys2Proof.Machine.execIndexActivate h body s
  | .indexDeactivate h body => Sys2Proof.Machine.execIndexDeactivate h body s
  | .indexDeactivateDone index => Sys2Proof.Machine.execIndexDeactivateDone index s
  | .indexMerge h body => Sys2Proof.Machine.execIndexMerge h body s
  | .mergeIdleTimer index => Sys2Proof.Machine.execMergeIdleTimer index s
  | .mergeBuildStart index => Sys2Proof.Machine.execMergeBuildStart index s
  | .mergePublish index => Sys2Proof.Machine.execMergePublish index s
  | .mergeAbandon index => Sys2Proof.Machine.execMergeAbandon index s
  | .invoke h body => Sys2Proof.Machine.execInvoke h body s
  | .callComplete acc r => Sys2Proof.Machine.execCallComplete acc r s
  | .register h body => Sys2Proof.Machine.execRegister h body s
  | .registerDone acc => Sys2Proof.Machine.execRegisterDone acc s
  | .configRetire h body => Sys2Proof.Machine.execConfigRetire h body s
  | .configRetireRecord acc => Sys2Proof.Machine.execConfigRetireRecord acc s
  | .load h body => Sys2Proof.Machine.execLoad h body s
  | .unbind h body => Sys2Proof.Machine.execUnbind h body s
  | .clusterLoadStart cluster => Sys2Proof.Machine.execClusterLoadStart cluster s
  | .clusterLoadComplete cluster => Sys2Proof.Machine.execClusterLoadComplete cluster s
  | .clusterLoadFail cluster why => Sys2Proof.Machine.execClusterLoadFail cluster why s
  | .clusterDrainComplete cluster => Sys2Proof.Machine.execClusterDrainComplete cluster s
  | .drainOverdue cluster => Sys2Proof.Machine.execDrainOverdue cluster s
  | .tileFailure cluster index => Sys2Proof.Machine.execTileFailure cluster index s
  | .objectActivate h body => Sys2Proof.Machine.execObjectActivate h body s
  | .objectDeactivate h body => Sys2Proof.Machine.execObjectDeactivate h body s
  | .setPolicy h body => Sys2Proof.Machine.execSetPolicy h body s
  | .migrate h body => Sys2Proof.Machine.execMigrate h body s
  | .shadowRegister h body => Sys2Proof.Machine.execShadowRegister h body s
  | .shadowRetire h body => Sys2Proof.Machine.execShadowRetire h body s
  | .shadowValidate h body => Sys2Proof.Machine.execShadowValidate h body s
  | .placementExecute acc peers => Sys2Proof.Machine.execPlacementExecute acc peers s
  | .promotionStart extent => Sys2Proof.Machine.execPromotionStart extent s
  | .promotionCommit extent unreadable => Sys2Proof.Machine.execPromotionCommit extent unreadable s
  | .demotionStart extent => Sys2Proof.Machine.execDemotionStart extent s
  | .demotionCommit extent => Sys2Proof.Machine.execDemotionCommit extent s
  | .stagingProgrammed extent => Sys2Proof.Machine.execStagingProgrammed extent s
  | .stalledAccessResume acc => Sys2Proof.Machine.execStalledAccessResume acc s
  | .protectionAckTimeout txn => Sys2Proof.Machine.execProtectionAckTimeout txn s
  | .streamRead h body => Sys2Proof.Machine.execStreamRead h body s
  | .streamMapCheck acc => Sys2Proof.Machine.execStreamMapCheck acc s
  | .streamBlockWrite acc ack => Sys2Proof.Machine.execStreamBlockWrite acc ack s
  | .streamReadComplete acc => Sys2Proof.Machine.execStreamReadComplete acc s
  | .tableInstall h body => Sys2Proof.Machine.execTableInstall h body s
  | .tableInstallBuilt slot => Sys2Proof.Machine.execTableInstallBuilt slot s
  | .tableSlotRetire h body => Sys2Proof.Machine.execTableSlotRetire h body s
  | .slotQueuedZero slot => Sys2Proof.Machine.execSlotQueuedZero slot s
  | .invalPages h body => Sys2Proof.Machine.execInvalPages h body s
  | .invalContext h body => Sys2Proof.Machine.execInvalContext h body s
  | .invalTakesEffect acc => Sys2Proof.Machine.execInvalTakesEffect acc s
  | .translationWalkEnd a => Sys2Proof.Machine.execTranslationWalkEnd a s
  | .faultRecordAcked queue seq ack => Sys2Proof.Machine.execFaultRecordAcked queue seq ack s
  | .faultDoorbellResend queue seq => Sys2Proof.Machine.execFaultDoorbellResend queue seq s
  | .xltRetry h value => Sys2Proof.Machine.execXltRetry h value s
  | .xltAbort h value => Sys2Proof.Machine.execXltAbort h value s
  | .dmaCopy h body => Sys2Proof.Machine.execDmaCopy h body s
  | .dmaTransferStart channel => Sys2Proof.Machine.execDmaTransferStart channel s
  | .dmaTransferEnd channel src ack => Sys2Proof.Machine.execDmaTransferEnd channel src ack s
  | .rdShared h => Sys2Proof.Machine.execRdShared h s
  | .rdOwn h => Sys2Proof.Machine.execRdOwn h s
  | .upgrade h => Sys2Proof.Machine.execUpgrade h s
  | .wbDirty h data => Sys2Proof.Machine.execWbDirty h data s
  | .evictClean h => Sys2Proof.Machine.execEvictClean h s
  | .snoopResponse seq agent result data => Sys2Proof.Machine.execSnoopResponse seq agent result data s
  | .snoopTimeout seq agent => Sys2Proof.Machine.execSnoopTimeout seq agent s
  | .directoryRecallDone line => Sys2Proof.Machine.execDirectoryRecallDone line s
  | .composeSetEntry h body => Sys2Proof.Machine.execComposeSetEntry h body s
  | .composeRemoveEntry h body => Sys2Proof.Machine.execComposeRemoveEntry h body s
  | .composeAdvance h body => Sys2Proof.Machine.execComposeAdvance h body s
  | .drainWindowClose composition => Sys2Proof.Machine.execDrainWindowClose composition s
  | .entryDrainFree requester => Sys2Proof.Machine.execEntryDrainFree requester s
  | .owner h body => Sys2Proof.Machine.execOwner h body s
  | .ownerRecordTakeUp record body => Sys2Proof.Machine.execOwnerRecordTakeUp record body s
  | .ownerTakeUpTimeout record => Sys2Proof.Machine.execOwnerTakeUpTimeout record s
  | .meterPeriodEnd => Sys2Proof.Machine.execMeterPeriodEnd s
  | .remoteCopyExpire slice line => Sys2Proof.Machine.execRemoteCopyExpire slice line s
  | .commandSignal acc => Sys2Proof.Machine.execCommandSignal acc s
  | .deadlockScan => Sys2Proof.Machine.execDeadlockScan s
  | .scrubPassEnd home corrected found => Sys2Proof.Machine.execScrubPassEnd home corrected found s
  | .stragglerReport member => Sys2Proof.Machine.execStragglerReport member s
  | .expelVote d => Sys2Proof.Machine.execExpelVote d s
  | .domainChangeRebuild d spareReadyAlone => Sys2Proof.Machine.execDomainChangeRebuild d spareReadyAlone s
  | .rebuildFillDone => Sys2Proof.Machine.execRebuildFillDone s
  | .domainChangeReplace d newReadyAlone => Sys2Proof.Machine.execDomainChangeReplace d newReadyAlone s
  | .replaceCommit => Sys2Proof.Machine.execReplaceCommit s
  | .domainChangeLeave d memberEmpty => Sys2Proof.Machine.execDomainChangeLeave d memberEmpty s
  | .drainBegin d => Sys2Proof.Machine.execDrainBegin d s
  | .domainForm d answers => Sys2Proof.Machine.execDomainForm d answers s
  | .domainFormTimeout => Sys2Proof.Machine.execDomainFormTimeout s
  | .domainDissolve d => Sys2Proof.Machine.execDomainDissolve d s
  | .generationTakeUp generation news => Sys2Proof.Machine.execGenerationTakeUp generation news s
  | .declareAgentDead d => Sys2Proof.Machine.execDeclareAgentDead d s
  | .agentReactivate d => Sys2Proof.Machine.execAgentReactivate d s
  | .agentEntryWrite d => Sys2Proof.Machine.execAgentEntryWrite d s
  | .dataSourceWrite d => Sys2Proof.Machine.execDataSourceWrite d s
  | .masterConfirmWrite d => Sys2Proof.Machine.execMasterConfirmWrite d s
  | .ethFrameReceive f => Sys2Proof.Machine.execEthFrameReceive f s
  | .arpRequest target => Sys2Proof.Machine.execArpRequest target s
  | .neighbourSolicitation target => Sys2Proof.Machine.execNeighbourSolicitation target s
  | .icmpEchoRequest target v6 => Sys2Proof.Machine.execIcmpEchoRequest target v6 s
  | .pfcFrameReceive xoff xon => Sys2Proof.Machine.execPfcFrameReceive xoff xon s
  | .pauseFrameReceive => Sys2Proof.Machine.execPauseFrameReceive s
  | .cnpReceive qp => Sys2Proof.Machine.execCnpReceive qp s
  | .cnpRateRecovery qp => Sys2Proof.Machine.execCnpRateRecovery qp s
  | .ethLinkUp => Sys2Proof.Machine.execEthLinkUp s
  | .ethLinkDown => Sys2Proof.Machine.execEthLinkDown s
  | .rdmaRead r found => Sys2Proof.Machine.execRdmaRead r found s
  | .rdmaWrite r data => Sys2Proof.Machine.execRdmaWrite r data s
  | .fetchAndAdd r operand => Sys2Proof.Machine.execFetchAndAdd r operand s
  | .compareAndSwap r compare operand => Sys2Proof.Machine.execCompareAndSwap r compare operand s
  | .roceSendRequest packet msgBytes opcode h body data => Sys2Proof.Machine.execRoceSendRequest packet msgBytes opcode h body data s
  | .roceAckReceive qp psn => Sys2Proof.Machine.execRoceAckReceive qp psn s
  | .roceNakReceive qp psn rnr => Sys2Proof.Machine.execRoceNakReceive qp psn rnr s
  | .roceAckTimeout qp => Sys2Proof.Machine.execRoceAckTimeout qp s
  | .qpEntryWrite d => Sys2Proof.Machine.execQpEntryWrite d s
  | .i3cSetdasa address => Sys2Proof.Machine.execI3cSetdasa address s
  | .i3cEntdaa address => Sys2Proof.Machine.execI3cEntdaa address s
  | .i3cPrivateRead => Sys2Proof.Machine.execI3cPrivateRead s
  | .dapOpenTenant d => Sys2Proof.Machine.execDapOpenTenant d s
  | .dapOpenManagement d => Sys2Proof.Machine.execDapOpenManagement d s
  | .dapClose d => Sys2Proof.Machine.execDapClose d s
  | .dapRead d => Sys2Proof.Machine.execDapRead d s
  | .dapWrite d => Sys2Proof.Machine.execDapWrite d s
  | .dapWriteGuarded d => Sys2Proof.Machine.execDapWriteGuarded d s
  | .dapSubscribe d => Sys2Proof.Machine.execDapSubscribe d s
  | .dapUnsubscribe d => Sys2Proof.Machine.execDapUnsubscribe d s
  | .dapSessionIdleTimeout port session => Sys2Proof.Machine.execDapSessionIdleTimeout port session s
  | .spdmGetVersion m => Sys2Proof.Machine.execSpdmGetVersion m s
  | .spdmGetCapabilities m => Sys2Proof.Machine.execSpdmGetCapabilities m s
  | .spdmNegotiateAlgorithms m => Sys2Proof.Machine.execSpdmNegotiateAlgorithms m s
  | .spdmGetDigests m => Sys2Proof.Machine.execSpdmGetDigests m s
  | .spdmGetCertificate m => Sys2Proof.Machine.execSpdmGetCertificate m s
  | .spdmChallenge m => Sys2Proof.Machine.execSpdmChallenge m s
  | .spdmGetMeasurements m => Sys2Proof.Machine.execSpdmGetMeasurements m s
  | .spdmKeyExchange m chainKey => Sys2Proof.Machine.execSpdmKeyExchange m chainKey s
  | .spdmFinish m verified => Sys2Proof.Machine.execSpdmFinish m verified s
  | .spdmHeartbeat m => Sys2Proof.Machine.execSpdmHeartbeat m s
  | .spdmKeyUpdate m => Sys2Proof.Machine.execSpdmKeyUpdate m s
  | .spdmEndSession m => Sys2Proof.Machine.execSpdmEndSession m s
  | .spdmHeartbeatMissed session => Sys2Proof.Machine.execSpdmHeartbeatMissed session s
  | .arithCountersClear d => Sys2Proof.Machine.execArithCountersClear d s
  | .attnCountersClear d => Sys2Proof.Machine.execAttnCountersClear d s
  | .tierCountersClear d => Sys2Proof.Machine.execTierCountersClear d s
  | .streamCountersClear d => Sys2Proof.Machine.execStreamCountersClear d s
  | .oryxCountersClear d => Sys2Proof.Machine.execOryxCountersClear d s
  | .tableCountersClear d => Sys2Proof.Machine.execTableCountersClear d s
  | .searchCountersClear d => Sys2Proof.Machine.execSearchCountersClear d s
  | .xltCountersClear d => Sys2Proof.Machine.execXltCountersClear d s
  | .syncCountersClear d => Sys2Proof.Machine.execSyncCountersClear d s
  | .ethCountersClear d => Sys2Proof.Machine.execEthCountersClear d s
  | .dictCountersClear d => Sys2Proof.Machine.execDictCountersClear d s
  | .regCountersClear d => Sys2Proof.Machine.execRegCountersClear d s
  | .saveNow d => Sys2Proof.Machine.execSaveNow d s
  | .saveComplete => Sys2Proof.Machine.execSaveComplete s
  | .restoreDefaults d => Sys2Proof.Machine.execRestoreDefaults d s
  | .cfgCommit d => Sys2Proof.Machine.execCfgCommit d s
  | .cfgCommitTimeout => Sys2Proof.Machine.execCfgCommitTimeout s
  | .cfgWalkStart die => Sys2Proof.Machine.execCfgWalkStart die s
  | .cfgWalkEnd die => Sys2Proof.Machine.execCfgWalkEnd die s
  | .cfgPendingOverdue die => Sys2Proof.Machine.execCfgPendingOverdue die s
  | .fwStageData d => Sys2Proof.Machine.execFwStageData d s
  | .fwVerify d => Sys2Proof.Machine.execFwVerify d s
  | .fwVerifyDone f => Sys2Proof.Machine.execFwVerifyDone f s
  | .fwHandover d => Sys2Proof.Machine.execFwHandover d s
  | .fwAlive => Sys2Proof.Machine.execFwAlive s
  | .fwHandoverTimeout => Sys2Proof.Machine.execFwHandoverTimeout s
  | .imageKeyEnrol d => Sys2Proof.Machine.execImageKeyEnrol d s
  | .imageKeyRevoke d => Sys2Proof.Machine.execImageKeyRevoke d s
  | .ownerKeyEnrol d => Sys2Proof.Machine.execOwnerKeyEnrol d s
  | .ownerKeyRevoke d => Sys2Proof.Machine.execOwnerKeyRevoke d s
  | .fmKeyWrite d => Sys2Proof.Machine.execFmKeyWrite d s
  | .keyCreate d => Sys2Proof.Machine.execKeyCreate d s
  | .keyDestroy d => Sys2Proof.Machine.execKeyDestroy d s
  | .keySweepDone tenant => Sys2Proof.Machine.execKeySweepDone tenant s
  | .handover d => Sys2Proof.Machine.execHandover d s
  | .handoverReport d => Sys2Proof.Machine.execHandoverReport d s
  | .conditionReportSign => Sys2Proof.Machine.execConditionReportSign s
  | .logCheckpoint d => Sys2Proof.Machine.execLogCheckpoint d s
  | .lifetimeMeterUpdate m => Sys2Proof.Machine.execLifetimeMeterUpdate m s
  | .meterSnapshot => Sys2Proof.Machine.execMeterSnapshot s
  | .meterAck d => Sys2Proof.Machine.execMeterAck d s
  | .meterBatchRead d => Sys2Proof.Machine.execMeterBatchRead d s
  | .syncViewRead d => Sys2Proof.Machine.execSyncViewRead d s
  | .trustModeWrite d => Sys2Proof.Machine.execTrustModeWrite d s
  | .regionEntryWrite d => Sys2Proof.Machine.execRegionEntryWrite d s
  | .packageNumberWrite d => Sys2Proof.Machine.execPackageNumberWrite d s
  | .heldReadyMaskWrite d => Sys2Proof.Machine.execHeldReadyMaskWrite d s
  | .domainFloorWrite d => Sys2Proof.Machine.execDomainFloorWrite d s
  | .dictObjectWrite d => Sys2Proof.Machine.execDictObjectWrite d s
  | .regWrite die offset value => Sys2Proof.Machine.execRegWrite die offset value s
  | .guardedRegWrite die offset value => Sys2Proof.Machine.execGuardedRegWrite die offset value s
  | .complementPortWrite die offset value => Sys2Proof.Machine.execComplementPortWrite die offset value s
  | .guardTimeout die => Sys2Proof.Machine.execGuardTimeout die s
  | .regLoRead die offset => Sys2Proof.Machine.execRegLoRead die offset s
  | .regHiRead die offset => Sys2Proof.Machine.execRegHiRead die offset s
  | .regLoWrite die offset value => Sys2Proof.Machine.execRegLoWrite die offset value s
  | .regHiWrite die offset value => Sys2Proof.Machine.execRegHiWrite die offset value s
  | .rawDieWrite d => Sys2Proof.Machine.execRawDieWrite d s
  | .rawOffsetWrite d => Sys2Proof.Machine.execRawOffsetWrite d s
  | .rawDataRead d => Sys2Proof.Machine.execRawDataRead d s
  | .rawDataWrite d => Sys2Proof.Machine.execRawDataWrite d s
  | .rawData64Read d => Sys2Proof.Machine.execRawData64Read d s
  | .rawData64Write d => Sys2Proof.Machine.execRawData64Write d s
  | .rawGuardedWrite d => Sys2Proof.Machine.execRawGuardedWrite d s
  | .mbxAckWrite die mailbox value => Sys2Proof.Machine.execMbxAckWrite die mailbox value s
  | .mbxHeadRead h => Sys2Proof.Machine.execMbxHeadRead h s
  | .fabTileSelWrite die value => Sys2Proof.Machine.execFabTileSelWrite die value s
  | .homeDirProbeWrite die value => Sys2Proof.Machine.execHomeDirProbeWrite die value s
  | .scratchpadWindowAccess w => Sys2Proof.Machine.execScratchpadWindowAccess w s
  | .matrixVectorStep tile m => Sys2Proof.Machine.execMatrixVectorStep tile m s
  | .vectorStep tile op pads own out => Sys2Proof.Machine.execVectorStep tile op pads own out s
  | .conversion tile target src out => Sys2Proof.Machine.execConversion tile target src out s
  | .specialFunction tile fn src out => Sys2Proof.Machine.execSpecialFunction tile fn src out s
  | .crossLaneReduce tile maximum f => Sys2Proof.Machine.execCrossLaneReduce tile maximum f s
  | .tilePlainLoad a r => Sys2Proof.Machine.execTilePlainLoad a r s
  | .tileAcquireLoad a r => Sys2Proof.Machine.execTileAcquireLoad a r s
  | .tileLoadReturn tile => Sys2Proof.Machine.execTileLoadReturn tile s
  | .tilePlainStore a ack => Sys2Proof.Machine.execTilePlainStore a ack s
  | .tileReleaseStore a ack => Sys2Proof.Machine.execTileReleaseStore a ack s
  | .tileAtomic a body r => Sys2Proof.Machine.execTileAtomic a body r s
  | .tileFence tile => Sys2Proof.Machine.execTileFence tile s
  | .tileSignal tile object operand => Sys2Proof.Machine.execTileSignal tile object operand s
  | .tileWait tile object cond target => Sys2Proof.Machine.execTileWait tile object cond target s
  | .repairSourceTimeout line => Sys2Proof.Machine.execRepairSourceTimeout line s
  | .notificationTimeout object => Sys2Proof.Machine.execNotificationTimeout object s
  | .rnrRetryTimer qp => Sys2Proof.Machine.execRnrRetryTimer qp s
  | .listReadReissue acc idx bags => Sys2Proof.Machine.execListReadReissue acc idx bags s
  | .norFreeRelease => Sys2Proof.Machine.execNorFreeRelease s
  | .unknownOpcode h opcode => Sys2Proof.Machine.execUnknownOpcode h opcode s
  | .messageDiscard port firstByte => Sys2Proof.Machine.execMessageDiscard port firstByte s
  | .spdmUnsupportedRequest m code => Sys2Proof.Machine.execSpdmUnsupportedRequest m code s

end Sys2Proof.Machine
end

