-- ==== Sys2Proof/Safety.lean ====
section
/-! DEFINITION. What counts as a sound state of the block, and when a request passes every check that stands before its
effect, in the terms the statements use. -/

namespace Sys2Proof.Machine

/-- A sound state: memory is in its canonical form, and the custody log is within its units (R590). -/
def Sound (s : State) : Prop := Memory.wf s.mem ∧ s.log.length ≤ logCapacity

/-- A request that the checks of R41 let through to step 12: the request as it is performed (demoted or not) and the
state in which it is, charged (R409, R410) and counted to its composition (R421). None where it is not taken at all, is
refused or is deferred for its bandwidth. -/
def admitted (rq : Req) (c : Checks) (n charge : Nat) (s : State) : Option (Req × State) :=
  let a := chargeC0 rq charge s
  let b := chargeBw a.1 charge (meterIn a.1 n a.2)
  if accepts s rq.hdr.via ∧ check a.1 c a.2 = none ∧ b.1 = none then some (a.1, b.2) else none

/-- A request without data. -/
def linkReq (op : Nat) (h : Hdr) (body : Nat) : Req := ⟨op, h, body, 0, [], false⟩

/-- A caching read of one line comes from an ACTIVE agent of a formed domain, for memory (R320, R335). -/
def cohReady (h : Hdr) (a : Nat) (s : State) : Bool :=
  decide (0 < h.length) && agentOf s h.requester == some a && agentState s a == 1 && formed s && decide (h.offset < windowBase)

/-- The line of a caching read is near, good and in an extent that holds a frame. -/
def cohLine (h : Hdr) (s : State) : Bool :=
  extState s (extentOf h.offset) == some .near && !lineBad s (h.offset / 64)

/-- The sessions of the dictionary that a message finds in order (R457, R462 step 1): the port answers, the management
core runs, the session is open, the message came secured exactly where its kind of session asks for it, its sequence
number is the next, and no request of it is in progress. -/
def dapInOrder (m : DapMsg) (x : Session) (s : State) : Bool :=
  dapArrives s m.port && !s.fw.restarting && session s m.port m.session == some x &&
    (match x.kind with | .management _ => m.secured | _ => !m.secured) &&
    m.seq == (x.lastSeq + 1) % 65536 && x.busy.isNone && m.seq != x.lastSeq

/-- The fields of a message and the object it names pass steps 2 to 6 of R462 for an operation. -/
def dapFieldsOk (op : Nat) (m : DapMsg) (k : SessKind) (r : ObjRow) (s : State) : Bool :=
  m.reserved == 0 && m.version == 1 && (actorOf k != 3 || m.actingTenant == 0) &&
    decide (m.valueLength ≤ 8160) && m.valueLength == m.count &&
    (actorOf k != 3 || tenantMay op (okey m.index m.sub)) && accAllows op r &&
    (unavailable s m.index m.sub r).isNone

/-- The context of a request that passed, before its value. -/
def dapCtx (op : Nat) (m : DapMsg) (k : SessKind) : Ctx :=
  ⟨m.port, m.session, op, actorOf k, actingOf k m, requesterOf k, m.index, m.sub, 0, 0, 0⟩

/-- The state in which a session's request is performed: its sequence number taken, the session busy with the object. -/
def dapTaken (op : Nat) (m : DapMsg) (x : Session) (s : State) : State :=
  let y : Session := { x with lastSeq := m.seq, last := none, busy := some (okey m.index m.sub), lastUse := s.time,
                              stage := keepStage op (okey m.index m.sub) x.stage }
  setSession m.port m.session y s

/-- A write of one value that passes steps 7 and 8 (R464, R466): its bytes and value. -/
def dapOneValue (op : Nat) (m : DapMsg) (r : ObjRow) : Option (Nat × Nat) :=
  if m.segOffset = 0 ∧ m.totalLength ≠ 0 ∧ m.totalLength ≤ tyBytes r.ty ∧ (tyFixed r.ty = true → m.totalLength = tyBytes r.ty) ∧
      m.count = (if op = dapGuarded then 2 * m.totalLength else m.totalLength) ∧ complementOk op m = true ∧
      (r.ty = .bool → m.value % 2 ^ (8 * m.totalLength) ≤ 1) ∧ m.totalLength ≠ 0xFFFFFFFF then
    some (m.totalLength, m.value % 2 ^ (8 * m.totalLength))
  else none

/-- A DOMAIN written whole in one segment that passes steps 7 and 8 (R464, R467): its bytes and value. -/
def dapWhole (op : Nat) (m : DapMsg) (r : ObjRow) : Option (Nat × Nat) :=
  if m.segOffset = 0 ∧ m.totalLength ≠ 0 ∧ m.totalLength ≤ tyBytes r.ty ∧ (tyFixed r.ty = true → m.totalLength = tyBytes r.ty) ∧
      (op = dapGuarded → m.count % 2 = 0) ∧ ownBytes op m = m.totalLength ∧ complementOk op m = true ∧
      m.totalLength ≠ 0xFFFFFFFF then
    some (m.totalLength, m.value % 2 ^ (8 * m.totalLength))
  else none

/-- A request of the dictionary that the checking order of R462 lets through to its effect, written in one message: its
context and the state in which it is performed. None where it is answered before that. -/
def dapAdmitted (op : Nat) (m : DapMsg) (s : State) : Option (Ctx × State) :=
  match session s m.port m.session, objRow m.index m.sub with
  | some x, some r =>
    let t := dapTaken op m x s
    let c := dapCtx op m x.kind
    if dapInOrder m x s && dapFieldsOk op m x.kind r t then
      if op = dapRead then
        if m.totalLength = 0 ∧ (isDomain r.ty = true ∨ m.segOffset = 0) then some ({ c with segOffset := m.segOffset }, t) else none
      else if op = dapSubscribe ∨ op = dapUnsubscribe then some (c, t)
      else if absentObject t m.index m.sub then none
      else if isDomain r.ty then
        (dapWhole op m r).map (fun p => ({ c with bytes := p.1, value := p.2 }, setStage m.port m.session none t))
      else (dapOneValue op m r).map (fun p => ({ c with bytes := p.1, value := p.2 }, t))
    else none
  | _, _ => none

/-- Memory stands at the homes as it is read: no extent is still to be rebuilt (R570), no engine waits for a line that an
agent owns (R335), and no agent holds a line of the range. -/
def linesHome (s : State) (ls : List Nat) : Bool :=
  s.unrebuilt.isEmpty && s.peeked.isEmpty && ls.all (fun l => (tget s.dir l).isNone)

/-- An engine of this package reads a range at once (R195): it is inside an area, its homes are awake, and its lines are near
and good and held by no agent. -/
def engineReads (s : State) (off n : Nat) : Bool :=
  !badOffset s off && decide (off + n ≤ areaEnd s off) &&
    (if off < memRange s then homesOf s off n else []).all (fun h => awake s (homeDom h)) &&
    (farExtents s off n).isEmpty && !anyBad s off n && linesHome s (if off < memRange s then linesOf off n else [])

/-- An access of an engine reaches memory or a window of this package that is near, at awake homes (R195). -/
def homeReady (s : State) (off n : Nat) : Bool :=
  !badOffset s off && decide (off + n ≤ areaEnd s off) && decide (off < pageBase) &&
    ((homesOf s off n).find? (fun h => decide (off < memRange s) && !awake s (homeDom h))).isNone && (farExtents s off n).isEmpty

/-! ## The groups of the state that a command leaves as they were -/

/-- The package's state, the custody log, the keys, the regions, the firmware, votes and batches. -/
abbrev CustodySame (s t : State) : Prop :=
  t.pkg = s.pkg ∧ t.log = s.log ∧ t.regions = s.regions ∧ t.keyStates = s.keyStates ∧ t.keyGens = s.keyGens ∧
  t.tenantKeys = s.tenantKeys ∧ t.mediaKey = s.mediaKey ∧ t.fw = s.fw ∧ t.purge = s.purge ∧ t.change = s.change ∧
  t.votes = s.votes ∧ t.spdm = s.spdm ∧ t.batches = s.batches ∧ t.batchSeq = s.batchSeq ∧ t.recordSeq = s.recordSeq ∧
  t.inputOn = s.inputOn ∧ t.resetting = s.resetting ∧ t.selfDone = s.selfDone ∧ t.retired = s.retired ∧
  t.lastCheck = s.lastCheck ∧ t.sinceCheck = s.sinceCheck ∧ t.thermTrip = s.thermTrip ∧ t.norFree = s.norFree ∧
  t.cold = s.cold ∧ t.fullTest = s.fullTest

/-- Memory and poison. -/
abbrev MemorySame (s t : State) : Prop :=
  t.mem = s.mem ∧ t.poison = s.poison

/-- The synchronisation objects. -/
abbrev SyncSame (s t : State) : Prop :=
  t.sync = s.sync

/-- Configurations: the registry, handles, clusters and calls. -/
abbrev ConfigSame (s t : State) : Prop :=
  t.registry = s.registry ∧ t.reserved = s.reserved ∧ t.registering = s.registering ∧ t.retiring = s.retiring ∧
  t.handles = s.handles ∧ t.calls = s.calls ∧ t.clusters = s.clusters

/-- Arenas, tables, indexes and stream table slots. -/
abbrev TablesSame (s t : State) : Prop :=
  t.otables = s.otables ∧ t.forwards = s.forwards ∧ t.guests = s.guests ∧ t.shards = s.shards ∧ t.rowOps = s.rowOps ∧
  t.indexes = s.indexes ∧ t.memberRanges = s.memberRanges ∧ t.arenas = s.arenas ∧ t.slots = s.slots

/-- Shadows, owners, cached translations and fault queues. -/
abbrev MapsSame (s t : State) : Prop :=
  t.shadows = s.shadows ∧ t.owners = s.owners ∧ t.xlt = s.xlt ∧ t.xltDesc = s.xltDesc ∧ t.faultIds = s.faultIds ∧
  t.deadlock = s.deadlock ∧ t.memberObjects = s.memberObjects

/-- The commands that may change the custody log, a key, a region, the firmware or the package's state. -/
def changesCustody : Instr → Bool
  | .inputStable .. | .packageBusRegulated .. | .inputLoss .. | .rotVerifyDone .. | .mgmtCoreReady
  | .selftestStepEnd .. | .selftestStepTimeout .. | .enterStanding .. | .pkgResetNAssert | .pkgResetNRelease ..
  | .pkgReset .. | .pkgResetTrigger | .resetShutdownDone | .watchdogExpiry | .refclkLoss | .thermalTrip ..
  | .wakeFailure .. | .dieFault .. | .dieRetest .. | .dieRetestDone .. | .linkRecal .. | .tileFailure ..
  | .entryDrainFree .. | .meterPeriodEnd | .scrubPassEnd .. | .expelVote .. | .domainChangeRebuild ..
  | .rebuildFillDone | .domainChangeReplace .. | .replaceCommit .. | .domainChangeLeave .. | .drainBegin ..
  | .domainForm .. | .domainDissolve .. | .generationTakeUp .. | .declareAgentDead .. | .agentReactivate ..
  | .agentEntryWrite .. | .dataSourceWrite .. | .masterConfirmWrite .. | .qpEntryWrite .. | .dapWrite ..
  | .dapWriteGuarded .. | .spdmGetVersion .. | .spdmGetCapabilities .. | .spdmNegotiateAlgorithms ..
  | .spdmKeyExchange .. | .spdmFinish .. | .spdmKeyUpdate .. | .spdmEndSession .. | .spdmHeartbeatMissed ..
  | .arithCountersClear .. | .attnCountersClear .. | .tierCountersClear .. | .streamCountersClear ..
  | .oryxCountersClear .. | .tableCountersClear .. | .searchCountersClear .. | .xltCountersClear ..
  | .syncCountersClear .. | .ethCountersClear .. | .dictCountersClear .. | .regCountersClear .. | .saveComplete
  | .restoreDefaults .. | .fwStageData .. | .fwVerify .. | .fwVerifyDone .. | .fwHandover .. | .fwAlive
  | .fwHandoverTimeout | .imageKeyEnrol .. | .imageKeyRevoke .. | .ownerKeyEnrol .. | .ownerKeyRevoke ..
  | .fmKeyWrite .. | .keyCreate .. | .keyDestroy .. | .keySweepDone .. | .handover .. | .handoverReport ..
  | .conditionReportSign | .logCheckpoint .. | .meterSnapshot | .meterAck .. | .trustModeWrite ..
  | .regionEntryWrite .. | .packageNumberWrite .. | .domainFloorWrite .. | .dictObjectWrite .. | .rawDieWrite ..
  | .rawOffsetWrite .. | .rawDataWrite .. | .rawData64Write .. | .rawGuardedWrite .. | .norFreeRelease => true
  | _ => false

/-- The commands that may change memory or poison. -/
def changesMemory : Instr → Bool
  | .inputLoss .. | .mgmtCoreReady | .selftestStepEnd .. | .selftestStepTimeout .. | .enterStanding ..
  | .resetShutdownDone | .refclkLoss | .thermalTrip .. | .offEntry .. | .generationCheckDone ..
  | .clusterReloadAfterWake .. | .wakeFailure .. | .dieFault .. | .dieRetestDone .. | .read .. | .readAcq ..
  | .write .. | .writeRel .. | .atomic .. | .publish .. | .syncAdd .. | .syncSet .. | .syncClaim .. | .syncRelease ..
  | .attendDispatch .. | .attendBindAfterHold .. | .attendHoldExpired .. | .partialWritten .. | .mergeSyncReached ..
  | .mergeTimeout .. | .append .. | .commitPublish .. | .oryxListRead .. | .oryxRowOperation ..
  | .oryxResultHeader .. | .hotSlotGranted .. | .rowCopyAcked .. | .rowReturnAcked .. | .queryDispatch ..
  | .queryComplete .. | .sideEntryCommit .. | .searchDelete .. | .indexActivate .. | .indexDeactivate ..
  | .indexDeactivateDone .. | .indexMerge .. | .mergePublish .. | .mergeAbandon .. | .callComplete ..
  | .registerDone .. | .configRetire .. | .configRetireRecord .. | .load .. | .unbind .. | .clusterLoadComplete ..
  | .clusterLoadFail .. | .tileFailure .. | .placementExecute .. | .promotionCommit .. | .demotionCommit ..
  | .stalledAccessResume .. | .protectionAckTimeout .. | .streamMapCheck .. | .streamBlockWrite ..
  | .streamReadComplete .. | .tableInstall .. | .tableInstallBuilt .. | .tableSlotRetire .. | .slotQueuedZero ..
  | .translationWalkEnd .. | .xltRetry .. | .xltAbort .. | .dmaTransferEnd .. | .rdShared .. | .rdOwn ..
  | .upgrade .. | .wbDirty .. | .snoopResponse .. | .snoopTimeout .. | .ownerRecordTakeUp .. | .ownerTakeUpTimeout ..
  | .commandSignal .. | .scrubPassEnd .. | .expelVote .. | .rebuildFillDone | .generationTakeUp ..
  | .declareAgentDead .. | .agentReactivate .. | .agentEntryWrite .. | .rdmaRead .. | .rdmaWrite .. | .fetchAndAdd ..
  | .compareAndSwap .. | .roceSendRequest .. | .qpEntryWrite .. | .dapWrite .. | .dapWriteGuarded ..
  | .imageKeyEnrol .. | .imageKeyRevoke .. | .keySweepDone .. | .handover .. | .handoverReport ..
  | .dictObjectWrite .. | .regWrite .. | .guardedRegWrite .. | .complementPortWrite .. | .regLoWrite ..
  | .regHiWrite .. | .rawDataWrite .. | .rawData64Write .. | .rawGuardedWrite .. | .mbxAckWrite .. | .mbxHeadRead ..
  | .fabTileSelWrite .. | .homeDirProbeWrite .. | .scratchpadWindowAccess .. | .matrixVectorStep .. | .vectorStep ..
  | .conversion .. | .specialFunction .. | .crossLaneReduce .. | .tilePlainLoad .. | .tileAcquireLoad ..
  | .tileLoadReturn .. | .tilePlainStore .. | .tileReleaseStore .. | .tileAtomic .. | .tileFence .. | .tileSignal ..
  | .tileWait .. | .repairSourceTimeout .. | .listReadReissue .. => true
  | _ => false

/-- The commands that may change a synchronisation object. -/
def changesSync : Instr → Bool
  | .inputLoss .. | .resetShutdownDone | .generationCheckDone .. | .wakeFailure .. | .dieFault .. | .syncAdd ..
  | .syncSet .. | .syncClaim .. | .syncRelease .. | .syncCancel .. | .wait .. | .attendDispatch ..
  | .attendBindAfterHold .. | .attendHoldExpired .. | .partialWritten .. | .mergeSyncReached .. | .mergeTimeout ..
  | .oryxResultHeader .. | .queryComplete .. | .sideEntryCommit .. | .searchDelete .. | .indexActivate ..
  | .indexDeactivate .. | .indexDeactivateDone .. | .indexMerge .. | .mergePublish .. | .mergeAbandon ..
  | .stalledAccessResume .. | .translationWalkEnd .. | .commandSignal .. | .deadlockScan | .rdmaRead ..
  | .rdmaWrite .. | .fetchAndAdd .. | .compareAndSwap .. | .roceSendRequest .. | .qpEntryWrite .. | .dapWrite ..
  | .dapWriteGuarded .. | .dictObjectWrite .. | .matrixVectorStep .. | .vectorStep .. | .conversion ..
  | .specialFunction .. | .crossLaneReduce .. | .tilePlainLoad .. | .tileAcquireLoad .. | .tileLoadReturn ..
  | .tilePlainStore .. | .tileReleaseStore .. | .tileAtomic .. | .tileFence .. | .tileSignal .. | .tileWait .. => true
  | _ => false

/-- The commands that may change a registration, a handle, a cluster or a call. -/
def changesConfig : Instr → Bool
  | .inputLoss .. | .selftestStepEnd .. | .selftestStepTimeout .. | .enterStanding .. | .pkgResetNAssert
  | .pkgResetTrigger | .resetShutdownDone | .refclkLoss | .thermalTrip .. | .offEntry .. | .generationCheckDone ..
  | .clusterReloadAfterWake .. | .wakeFailure .. | .dieFault .. | .write .. | .attend .. | .attendDispatch ..
  | .attendBindAfterHold .. | .attendHoldExpired .. | .partialWritten .. | .mergeSyncReached .. | .mergeTimeout ..
  | .invoke .. | .callComplete .. | .register .. | .registerDone .. | .configRetire .. | .configRetireRecord ..
  | .load .. | .unbind .. | .clusterLoadStart .. | .clusterLoadComplete .. | .clusterLoadFail ..
  | .clusterDrainComplete .. | .tileFailure .. | .stalledAccessResume .. | .translationWalkEnd .. | .xltRetry ..
  | .xltAbort .. | .expelVote .. | .rdmaRead .. | .rdmaWrite .. | .fetchAndAdd .. | .compareAndSwap ..
  | .roceSendRequest .. | .qpEntryWrite .. | .dapWrite .. | .dapWriteGuarded .. | .imageKeyEnrol ..
  | .imageKeyRevoke .. | .handover .. | .handoverReport .. | .dictObjectWrite .. | .regWrite .. | .guardedRegWrite ..
  | .complementPortWrite .. | .regLoWrite .. | .regHiWrite .. | .rawDataWrite .. | .rawData64Write ..
  | .rawGuardedWrite .. | .mbxAckWrite .. | .fabTileSelWrite .. | .homeDirProbeWrite .. | .scratchpadWindowAccess ..
  | .matrixVectorStep .. | .vectorStep .. | .conversion .. | .specialFunction .. | .crossLaneReduce ..
  | .tilePlainLoad .. | .tileAcquireLoad .. | .tileLoadReturn .. | .tilePlainStore .. | .tileReleaseStore ..
  | .tileAtomic .. | .tileFence .. | .tileSignal .. | .tileWait .. => true
  | _ => false

/-- The commands that may change an arena, a table, an index or a stream table slot. -/
def changesTables : Instr → Bool
  | .inputLoss .. | .selftestStepEnd .. | .selftestStepTimeout .. | .enterStanding .. | .pkgResetNAssert
  | .pkgResetTrigger | .resetShutdownDone | .refclkLoss | .thermalTrip .. | .generationCheckDone .. | .wakeFailure ..
  | .dieFault .. | .append .. | .commit .. | .commitPublish .. | .discard .. | .arenaActivate ..
  | .arenaDeactivate .. | .tableActivate .. | .tableReplace .. | .tableDeactivate .. | .oryxRowOperation ..
  | .tableVersionFreed .. | .shardWindowEnd .. | .hotSlotGranted .. | .rowCopyAcked .. | .rowCommitAcked ..
  | .rowCommitTimeout .. | .rowReturnAcked .. | .rowForwardLost .. | .insert .. | .sideEntryCommit ..
  | .searchDelete .. | .indexActivate .. | .indexDeactivate .. | .indexDeactivateDone .. | .indexMerge ..
  | .mergeIdleTimer .. | .mergeBuildStart .. | .mergePublish .. | .mergeAbandon .. | .invoke .. | .callComplete ..
  | .tileFailure .. | .stalledAccessResume .. | .streamMapCheck .. | .streamBlockWrite .. | .tableInstall ..
  | .tableInstallBuilt .. | .tableSlotRetire .. | .slotQueuedZero .. | .dmaCopy .. | .expelVote .. | .drainBegin ..
  | .domainForm .. | .domainDissolve .. | .generationTakeUp .. | .rdmaRead .. | .rdmaWrite .. | .fetchAndAdd ..
  | .compareAndSwap .. | .roceSendRequest .. | .qpEntryWrite .. | .dapWrite .. | .dapWriteGuarded .. | .handover ..
  | .handoverReport .. | .dictObjectWrite .. => true
  | _ => false

/-- The commands that may change a shadow, an owner record, a cached translation or a fault identifier. -/
def changesMaps : Instr → Bool
  | .inputLoss .. | .resetShutdownDone | .generationCheckDone .. | .wakeFailure .. | .dieFault ..
  | .placementExecute .. | .stalledAccessResume .. | .invalPages .. | .invalContext .. | .translationWalkEnd ..
  | .dmaTransferEnd .. | .owner .. | .ownerRecordTakeUp .. | .deadlockScan | .expelVote .. | .domainChangeRebuild ..
  | .domainChangeReplace .. | .domainChangeLeave .. | .rdmaRead .. | .rdmaWrite .. | .fetchAndAdd ..
  | .compareAndSwap .. | .roceSendRequest .. | .qpEntryWrite .. | .dapWrite .. | .dapWriteGuarded ..
  | .dictObjectWrite .. => true
  | _ => false

/-! ## Commands of a narrow effect, refusals, and what a write stores -/

/-- The command is a write of the dictionary that clears counters or takes a key, with its custody entries. -/
def dictionaryRow : Instr → Bool
  | .masterConfirmWrite .. | .arithCountersClear .. | .attnCountersClear .. | .tierCountersClear ..
  | .streamCountersClear .. | .oryxCountersClear .. | .tableCountersClear .. | .searchCountersClear ..
  | .xltCountersClear .. | .syncCountersClear .. | .ethCountersClear .. | .dictCountersClear ..
  | .regCountersClear .. | .ownerKeyEnrol .. | .ownerKeyRevoke .. | .fmKeyWrite .. | .logCheckpoint ..
  | .trustModeWrite .. | .packageNumberWrite .. | .rawDieWrite .. | .rawOffsetWrite .. | .keyCreate ..
  | .keyDestroy .. | .saveComplete | .conditionReportSign | .meterSnapshot => true
  | _ => false

/-- The command is an answer of a port that changes nothing. -/
def answerRow : Instr → Bool
  | .arpRequest .. | .neighbourSolicitation .. | .icmpEchoRequest .. | .spdmGetDigests .. | .spdmGetCertificate ..
  | .spdmHeartbeat .. | .spdmUnsupportedRequest .. | .spdmChallenge .. | .spdmGetMeasurements .. => true
  | _ => false

/-- The command is an operation on sessions and subscriptions. -/
def sessionRow : Instr → Bool
  | .drainOverdue .. | .stragglerReport .. | .ethLinkDown | .dapOpenTenant .. | .dapOpenManagement .. | .dapClose ..
  | .ethLinkUp | .dapSubscribe .. | .dapUnsubscribe .. | .saveNow .. | .meterBatchRead .. | .syncViewRead ..
  | .domainFormTimeout | .i3cPrivateRead | .cfgCommitTimeout | .i3cSetdasa .. | .i3cEntdaa ..
  | .dapSessionIdleTimeout .. | .spdmGetVersion .. | .spdmGetCapabilities .. | .spdmNegotiateAlgorithms ..
  | .spdmKeyUpdate .. | .spdmKeyExchange .. | .spdmFinish .. | .spdmEndSession .. | .spdmHeartbeatMissed .. => true
  | _ => false

/-- The command is an event of a link. -/
def linkRow : Instr → Bool
  | .flitReceive .. | .flitNakReceive .. | .linkDown .. | .linkRetrained .. | .linkRecalRequest ..
  | .recalThresholdExceeded .. | .linkTrained .. | .linkQuiesced .. | .linkRecalTimeout .. => true
  | _ => false

/-- The command is a read of the dictionary or of a register. -/
def readingRow : Instr → Bool
  | .dapRead .. | .rawDataRead .. | .rawData64Read .. | .regLoRead .. | .regHiRead .. | .cfgCommit ..
  | .cfgPendingOverdue .. | .cfgWalkStart .. | .guardTimeout .. => true
  | _ => false

/-- The command is what the Ethernet port receives or times. -/
def receiverRow : Instr → Bool
  | .ethFrameReceive .. | .pfcFrameReceive .. | .pauseFrameReceive | .cnpReceive .. | .cnpRateRecovery ..
  | .roceAckReceive .. | .roceNakReceive .. | .roceAckTimeout .. | .rnrRetryTimer .. | .messageDiscard .. => true
  | _ => false

/-- The command is a power domain's timer. -/
def domainTimerRow : Instr → Bool
  | .domainIdleEntry .. | .domainIdleExit .. | .wakeRequest .. | .wakeRetry .. => true
  | _ => false

/-- Nothing of the groups is changed (R11). -/
def Unchanged (s t : State) : Prop :=
  CustodySame s t ∧ MemorySame s t ∧ SyncSame s t ∧ ConfigSame s t ∧ TablesSame s t ∧ MapsSame s t

/-- A request that R41 refuses, with the first check it fails: the state after its completion. None where it is not taken, or
passes. -/
def refused (rq : Req) (c : Checks) (n charge : Nat) (s : State) : Option State :=
  let a := chargeC0 rq charge s
  match check a.1 c a.2 with
  | some r =>
    if accepts s rq.hdr.via then
      some (refuse a.1 r (if (early a.1 c a.2).isSome ∨ r.status = .epochStale then a.2 else meterIn a.1 n a.2))
    else none
  | none => none

/-- The bytes of stale maps that a write of `n` bytes at an offset marks (R202). -/
def staleBytes (s : State) (off n : Nat) : List Nat :=
  (linesOf off n).filterMap (fun l => (shadowAt s (64 * l)).map (fun x => staleAt s x.1.desc x.2))

end Sys2Proof.Machine
end

