-- ==== Sys2Proof/Certificates/Slice0/Obligations.lean ====
section
/-! DEFINITION. The statements for the provers; the definitions that they share stand in Sys2Proof/Safety.lean. -/

open Sys2Proof Sys2Proof.Machine

/-! ## The step, reset and what every command keeps -/

/-- A step takes the command at the front of the queue and runs it on the state with the queue's rest; what is left in the
queue stays there. -/
def Obligations.StepRunsFrontCommand : Prop :=
  ∀ (c : Instr) (rest : List Instr) (s : State),
    step { s with pending := c :: rest } = exec c { s with pending := rest } ∧
    ∀ t, step { s with pending := c :: rest } = .next t → t.pending = rest

/-- On an empty queue a step is one cycle of the Fumarole oscillator: with the input present the package time counter advances
by 20 ns, modulo 2^64 (R520; that a step without a command is a cycle is the model's choice, log entry 9). -/
def Obligations.EmptyQueueTicks : Prop :=
  ∀ (s : State), s.pending = [] → ∃ t, step s = .next t ∧ t.pending = [] ∧
    t.time = (if s.pkg = .off then s.time else (s.time + 20) % 2 ^ 64) ∧ CustodySame s t ∧ s.out <:+ t.out

/-- The state before the input is applied: OFF, with an empty queue, sound, no unit of the custody log programmed, no session
but the implicit one, and memory that reads zero (that unwritten memory reads zero is the model's choice, log entry 7; the
variant is log entry 5). -/
def Obligations.ResetIsSound : Prop :=
  Sound State.reset ∧ State.reset.pkg = .off ∧ State.reset.pending = [] ∧ State.reset.log = [] ∧
  sessionsOpen State.reset = 1 ∧ (∀ a, readMem State.reset a 1 = 0)

/-- Every step keeps a sound state: memory stays in its canonical form, and the custody log within its 2,097,152 units
(R590). -/
def Obligations.StepKeepsSound : Prop :=
  ∀ (s t : State), Sound s → step s = .next t → Sound t

/-- No command reprograms or erases a unit of the custody log: what is in it stays, in its order, under what is programmed
later (R590). Nor does one change the package's variant (R475), take back what has left the block, or touch the queue. -/
def Obligations.LogOnlyGrows : Prop :=
  ∀ (c : Instr) (s t : State), exec c s = .next t →
    s.log <:+ t.log ∧ t.variant = s.variant ∧ s.out <:+ t.out ∧ t.pending = s.pending

/-- What the commands leave as it was, one group of the state after another: a command outside a group's list changes nothing
of the group. -/
def Obligations.CommandsLeaveGroups : Prop :=
  ∀ (c : Instr) (s t : State), exec c s = .next t →
    (changesCustody c = false → CustodySame s t) ∧
    (changesMemory c = false → MemorySame s t ∧ ∀ a n, readMem t a n = readMem s a n) ∧
    (changesSync c = false → SyncSame s t) ∧
    (changesConfig c = false → ConfigSame s t) ∧
    (changesTables c = false → TablesSame s t) ∧
    (changesMaps c = false → MapsSame s t)

/-- Commands of a narrow effect, each family with all that it can change: the dictionary's counters and keys, answers of the
Ethernet port and of SPDM, sessions, link events, reads of the dictionary and of registers, the Ethernet receiver, and the
power domains' timers. Everything else is as it was. -/
def Obligations.NarrowCommandsFrame : Prop :=
  ∀ (c : Instr) (s t : State), exec c s = .next t →
    (dictionaryRow c = true → t = { s with
      dict := t.dict, doms := t.doms, objs := t.objs, out := t.out, log := t.log, lastCheck := t.lastCheck,
      sinceCheck := t.sinceCheck, keyGens := t.keyGens, keyStates := t.keyStates, tenantKeys := t.tenantKeys,
      freeCtr := t.freeCtr, ethHeld := t.ethHeld }) ∧
    (answerRow c = true → t = { s with
      out := t.out, freeCtr := t.freeCtr }) ∧
    (sessionRow c = true → t = { s with
      dict := t.dict, doms := t.doms, objs := t.objs, out := t.out, spdm := t.spdm, ethHeld := t.ethHeld }) ∧
    (linkRow c = true → t = { s with
      dict := t.dict, doms := t.doms, links := t.links, objs := t.objs, out := t.out, openReqs := t.openReqs,
      ethHeld := t.ethHeld }) ∧
    (readingRow c = true → t = { s with
      blocks := t.blocks, dict := t.dict, doms := t.doms, freeCtr := t.freeCtr, objs := t.objs, out := t.out,
      ethHeld := t.ethHeld }) ∧
    (receiverRow c = true → t = { s with
      dict := t.dict, mbx := t.mbx, objs := t.objs, out := t.out, qps := t.qps, paused := t.paused,
      ethHeld := t.ethHeld }) ∧
    (domainTimerRow c = true → t = { s with
      doms := t.doms, mbx := t.mbx })

/-- While no reset is under way, no command but the loss of the input takes the package out of STANDING or EXPELLED, and none
turns EXPELLED into STANDING (R17, R500). -/
def Obligations.StandingLeftOnlyByReset : Prop :=
  ∀ (c : Instr) (s t : State), exec c s = .next t → undisturbed s = true → (∀ mv, c ≠ .inputLoss mv) →
    ((s.pkg = .standing ∨ s.pkg = .expelled) → (t.pkg = .standing ∨ t.pkg = .expelled)) ∧
    (s.pkg = .expelled → t.pkg = .expelled)

/-! ## Memory requests -/

/-- READ and READ_ACQ of near, good lines that no cache owns complete with OK and the data of the homes (R193, R335, R361):
an acquire read once the requester has no earlier write open. The lines that come with failed symbols are decoded first (R546,
R547). Nothing but what the decoding counts, the clock hand's access bits, the store cache, the meters and the completion
changes.
WRITE and WRITE_REL of near memory whose lines no cache holds store their data at the homes (R335, R360, R361): a release
write once the requester has no earlier write open. They complete with OK: at once, or with the acknowledgements of the
objects' copies where a protection class keeps some (R205, R207).
An access to a tile's window is a READ or a WRITE of the scratchpad's bytes (R52): a read of good bytes answers them, a
write stores them.
Each of these commands completes here, on conditions on its operands and the state alone: read, readAcq, write, writeRel,
scratchpadWindowAccess. -/
def Obligations.MemoryRequestsComplete : Prop :=
  (∀ (h : Hdr) (found : List (Nat × Nat)) (s t : State) (rq : Req),
    admitted ⟨0x01, h, 0, 0, found, false⟩ (memChecks s h 0) 0 (max 64 (64 * h.length)) s = some (rq, t) →
    0 < h.length → h.offset < pageBase →
    let ls := linesOf h.offset (64 * h.length)
    let u := decodeLines found h.offset (64 * h.length) t
    (∀ l ∈ ls, isFar t (extentOf (64 * l)) = false ∧ isFar u (extentOf (64 * l)) = false ∧ tget u.dir l = none ∧
      lineBad u l = false) → u.unrebuilt = [] →
    exec (.read h found) s =
      .next (completeWith rq .ok 0 0 h.length (linesData u [] ls) none (touch h.offset (64 * h.length) u))) ∧
  (∀ (h : Hdr) (found : List (Nat × Nat)) (s t : State) (rq : Req),
    admitted ⟨0x02, h, 0, 0, found, false⟩ (memChecks s h 0) 0 (max 64 (64 * h.length)) s = some (rq, t) →
    0 < h.length → h.offset < pageBase → openWrites t h.requester = [] →
    let ls := linesOf h.offset (64 * h.length)
    let u := decodeLines found h.offset (64 * h.length) t
    (∀ l ∈ ls, isFar t (extentOf (64 * l)) = false ∧ isFar u (extentOf (64 * l)) = false ∧ tget u.dir l = none ∧
      lineBad u l = false) → u.unrebuilt = [] →
    exec (.readAcq h found) s =
      .next (completeWith rq .ok 0 0 h.length (linesData u [] ls) none (touch h.offset (64 * h.length) u))) ∧
  (∀ (h : Hdr) (data : Nat) (s t : State) (rq : Req),
    admitted ⟨0x03, h, 0, data, [], false⟩ (memChecks s h 1) (64 * h.length) (max 64 (64 * h.length)) s = some (rq, t) →
    0 < h.length → h.offset < pageBase → (extentsOf h.offset (64 * h.length)).any (isMirror t) = false →
    farExtents t h.offset (64 * h.length) = [] → framesFree t (framesNeeded t h.offset (64 * h.length)) = true →
    (∀ l ∈ linesOf h.offset (64 * h.length), tget t.dir l = none) → t.unrebuilt = [] →
    let u := (linesOf h.offset (64 * h.length)).foldl (fun u l => dropDir l u) t
    exec (.write h data) s = .next (completeCopied rq .ok 0 (copiedObjects u h.offset (64 * h.length))
      (storeLines rq h.offset (64 * h.length) data u))) ∧
  (∀ (h : Hdr) (data : Nat) (s t : State) (rq : Req),
    admitted ⟨0x04, h, 0, data, [], false⟩ (memChecks s h 1) (64 * h.length) (max 64 (64 * h.length)) s = some (rq, t) →
    0 < h.length → h.offset < pageBase → openWrites t h.requester = [] →
    (extentsOf h.offset (64 * h.length)).any (isMirror t) = false →
    farExtents t h.offset (64 * h.length) = [] → framesFree t (framesNeeded t h.offset (64 * h.length)) = true →
    (∀ l ∈ linesOf h.offset (64 * h.length), tget t.dir l = none) → t.unrebuilt = [] →
    let u := (linesOf h.offset (64 * h.length)).foldl (fun u l => dropDir l u) t
    exec (.writeRel h data) s = .next (completeCopied rq .ok 0 (copiedObjects u h.offset (64 * h.length))
      (storeLines rq h.offset (64 * h.length) data u))) ∧
  (∀ (w : WindowAccess) (s t : State) (rq : Req) (tile : Nat), windowTile w.hdr.offset = some tile → w.write = false →
    admitted (linkReq 0x01 w.hdr 0) (memChecks s w.hdr 0) 0 (max 64 (64 * w.hdr.length)) s = some (rq, t) →
    0 < w.hdr.length →
    let ls := linesOf w.hdr.offset (64 * w.hdr.length)
    let u := decodeLines [] w.hdr.offset (64 * w.hdr.length) t
    (∀ l ∈ ls, isFar t (extentOf (64 * l)) = false ∧ isFar u (extentOf (64 * l)) = false ∧ tget u.dir l = none ∧
      lineBad u l = false) → u.unrebuilt = [] →
    exec (.scratchpadWindowAccess w) s =
      .next (completeWith rq .ok 0 0 w.hdr.length (linesData u [] ls) none (touch w.hdr.offset (64 * w.hdr.length) u))) ∧
  (∀ (w : WindowAccess) (s t : State) (rq : Req) (tile : Nat), windowTile w.hdr.offset = some tile → w.write = true →
    admitted ⟨0x03, w.hdr, 0, w.data, [], false⟩ (memChecks s w.hdr 1) (64 * w.hdr.length) (max 64 (64 * w.hdr.length)) s
      = some (rq, t) →
    0 < w.hdr.length → (extentsOf w.hdr.offset (64 * w.hdr.length)).any (isMirror t) = false →
    farExtents t w.hdr.offset (64 * w.hdr.length) = [] →
    framesFree t (framesNeeded t w.hdr.offset (64 * w.hdr.length)) = true →
    (∀ l ∈ linesOf w.hdr.offset (64 * w.hdr.length), tget t.dir l = none) → t.unrebuilt = [] →
    let u := (linesOf w.hdr.offset (64 * w.hdr.length)).foldl (fun u l => dropDir l u) t
    exec (.scratchpadWindowAccess w) s = .next (completeCopied rq .ok 0 (copiedObjects u w.hdr.offset (64 * w.hdr.length))
      (storeLines rq w.hdr.offset (64 * w.hdr.length) w.data u)))

/-- ATOMIC answers the old value of its location with OK, and stores the new value where the operation writes one; PUBLISH
whose word holds the expected value stores its data, then the word plus 2, and answers the new word (R391, R393); each with
the acknowledgements of its objects' copies (R205).
Each of these commands completes here, on conditions on its operands and the state alone: atomic, publish. -/
def Obligations.AtomicsComplete : Prop :=
  (∀ (h : Hdr) (body : Nat) (s t : State) (rq : Req),
    admitted (linkReq 0x06 h body) (atomicChecks s h body) 32 64 s = some (rq, t) →
    h.offset % atomicWidth body = 0 → h.offset < windowBase → isMirror t (extentOf h.offset) = false →
    farExtents t h.offset (atomicWidth body) = [] →
    framesFree t ((framesNeeded t h.offset (atomicWidth body)).filter (fun e => extState t e == none)) = true →
    tget t.dir (h.offset / 64) = none → t.unrebuilt = [] → anyBad t h.offset (atomicWidth body) = false →
    let u := dropDir (h.offset / 64) t
    let old := readMem t h.offset (atomicWidth body)
    exec (.atomic h body) s = .next (match atomicNew body old with
      | none => complete rq .ok old u
      | some v =>
        let w := storeBytes h.offset (atomicWidth body) v (takeFrames h.offset (atomicWidth body) u)
        completeCopied rq .ok old (copiedObjects w h.offset (atomicWidth body)) (sendCopies rq h.offset (atomicWidth body) old v
          (touch h.offset (atomicWidth body) (setStale [h.offset / 64] w))))) ∧
  (∀ (h : Hdr) (body data : Nat) (s t : State) (rq : Req),
    admitted ⟨0x07, h, body, data, [], false⟩ (publishChecks s h body) (64 + 64 * h.length) (max 64 (64 * h.length)) s
      = some (rq, t) →
    openWrites t h.requester = [] → h.offset < pageBase → pubVersion body % 8 = 0 → pubExpected body % 2 = 0 →
    ¬ (h.offset < pubVersion body + 8 ∧ pubVersion body < h.offset + 64 * h.length) →
    pubVersion body + 8 ≤ memRange t → 0 < h.length →
    (extentsOf h.offset (64 * h.length) ++ [extentOf (pubVersion body)]).any (isMirror t) = false →
    pubsOn t (pubVersion body) = [] →
    farExtents t h.offset (64 * h.length) = [] → farExtents t (pubVersion body) 8 = [] →
    framesFree t ((framesNeeded t h.offset (64 * h.length) ++ framesNeeded t (pubVersion body) 8).eraseDups) = true →
    (∀ l ∈ pubLines rq, tget t.dir l = none) → t.unrebuilt = [] →
    let u := (pubLines rq).foldl (fun u l => dropDir l u) t
    anyBad u (pubVersion body) 8 = false → readMem u (pubVersion body) 8 = pubExpected body →
    let new := (pubExpected body + 2) % 2 ^ 64
    let w := storeLines rq h.offset (64 * h.length) data u
    let x := storeBytes (pubVersion body) 8 new (takeFrames (pubVersion body) 8 w)
    let ks := (copiedObjects x (pubVersion body) 8).foldl sadd (copiedObjects x h.offset (64 * h.length))
    let y := completeCopied rq .ok new ks (sendCopies rq (pubVersion body) 8 (pubExpected body) new
      (touch (pubVersion body) 8 (setStale [pubVersion body / 64] x)))
    exec (.publish h body data) s =
      .next { y with openReqs := tmod y.openReqs t.reqCtr (fun o => { o with word := some (pubVersion body) }) })

/-- DOORBELL at an enabled mailbox with room appends its notice and answers OK; a FLUSH over no far extent of this package
drops the remote copies of its range; a PROBE with nothing of its requester open completes at once; an opcode outside the
table answers UNSUPPORTED (R362, R388, R396, R493).
Each of these commands completes here, on conditions on its operands and the state alone: doorbell, flush, probe,
unknownOpcode. -/
def Obligations.SlotRequestsComplete : Prop :=
  (∀ (h : Hdr) (body : Nat) (s t : State) (rq : Req) (die : Nat),
    admitted (linkReq 0x0A h body) (doorbellChecks body) 16 64 s = some (rq, t) →
    pageDie h.offset = some die → hasBlock die = true → diePresent t die = true →
    (h.offset - pageBase) % 65536 % 64 = 0 → (h.offset - pageBase) % 65536 < 0x400 →
    (box t die ((h.offset - pageBase) % 65536 / 64)).enable = true →
    (box t die ((h.offset - pageBase) % 65536 / 64)).notices.length < 32 →
    exec (.doorbell h body) s = .next (complete rq .ok 0
      (postNotice die ((h.offset - pageBase) % 65536 / 64) (bits body 63 0) (bits body 95 64) t))) ∧
  (∀ (h : Hdr) (body : Nat) (s t : State) (rq : Req),
    admitted (linkReq 0x05 h body) (flushChecks body) 16 64 s = some (rq, t) →
    flushStart body % 64 = 0 → flushBytes body % 64 = 0 → 0 < flushBytes body →
    t.extents.all (fun e => !isFar t e.1) = true →
    exec (.flush h body) s = .next (complete rq .ok 0 { t with copies := t.copies.filter (fun c =>
      !(decide (flushStart body ≤ c.address) && decide (c.address < flushStart body + flushBytes body))) })) ∧
  (∀ (h : Hdr) (s t : State) (rq : Req),
    admitted (linkReq 0x0B h 0) probeChecks 0 64 s = some (rq, t) → openOf t h.requester = [] →
    exec (.probe h) s = .next (complete rq .ok 0 t)) ∧
  (∀ (h : Hdr) (op : Nat) (s : State), accepts s h.via = true →
    exec (.unknownOpcode h op) s =
      .next (complete (chargeC0 (linkReq op h 0) 64 s).1 .unsupported 0 (chargeC0 (linkReq op h 0) 64 s).2))

/-! ## Synchronisation -/

/-- A SYNC of the object's owner takes effect and answers the value before it (R369): ADD adds modulo 2^64, SET replaces,
CLAIM of an unowned object records the owner, RELEASE of one without waiters clears it, CANCEL removes the requester's
waiters with the tag and answers how many. Each but CANCEL is a signal.
A WAIT of the owner whose condition does not hold registers a waiter while there is room, and answers the value (R370,
R371); the signal that a command owes is applied at an awake home, or sent to its package (R161, R376); a notification without an answer in time is
counted as failed (R372).
Each of these commands completes here, on conditions on its operands and the state alone: syncAdd, syncSet, syncClaim,
syncRelease, syncCancel, wait, commandSignal, notificationTimeout. -/
def Obligations.SyncOperationsComplete : Prop :=
  (∀ (h : Hdr) (body : Nat) (s t : State) (rq : Req),
    admitted (linkReq 0x08 h body) (syncChecks (syncBad 1 body) (syncIndex body)) 32 64 s = some (rq, t) →
    (syncObj t (syncIndex body)).owner = some h.tenant →
    let o := syncObj t (syncIndex body)
    exec (.syncAdd h body) s = .next (complete rq .ok o.value (applySignal (syncIndex body)
      ((o.value + syncOperand body) % 2 ^ 64) (some h.tenant) (syncOperand body) (linkSignaller rq) t))) ∧
  (∀ (h : Hdr) (body : Nat) (s t : State) (rq : Req),
    admitted (linkReq 0x08 h body) (syncChecks (syncBad 2 body) (syncIndex body)) 32 64 s = some (rq, t) →
    (syncObj t (syncIndex body)).owner = some h.tenant →
    exec (.syncSet h body) s = .next (complete rq .ok (syncObj t (syncIndex body)).value (applySignal (syncIndex body)
      (syncOperand body) (some h.tenant) (syncOperand body) (linkSignaller rq) t))) ∧
  (∀ (h : Hdr) (body : Nat) (s t : State) (rq : Req),
    admitted (linkReq 0x08 h body) (syncChecks (syncBad 3 body) (syncIndex body)) 32 64 s = some (rq, t) →
    (syncObj t (syncIndex body)).owner = none →
    exec (.syncClaim h body) s = .next (complete rq .ok (syncObj t (syncIndex body)).value (applySignal (syncIndex body)
      (syncOperand body) (some h.tenant) (syncOperand body) (linkSignaller rq) t))) ∧
  (∀ (h : Hdr) (body : Nat) (s t : State) (rq : Req),
    admitted (linkReq 0x08 h body) (syncChecks (syncBad 4 body) (syncIndex body)) 32 64 s = some (rq, t) →
    (syncObj t (syncIndex body)).owner = some h.tenant → (syncObj t (syncIndex body)).waiters = [] →
    exec (.syncRelease h body) s = .next (complete rq .ok (syncObj t (syncIndex body)).value (applySignal (syncIndex body)
      0 none (syncOperand body) (linkSignaller rq) t))) ∧
  (∀ (h : Hdr) (body : Nat) (s t : State) (rq : Req),
    admitted (linkReq 0x08 h body) (syncChecks (syncBad 5 body) (syncIndex body)) 32 64 s = some (rq, t) →
    (syncObj t (syncIndex body)).owner = some h.tenant →
    let o := syncObj t (syncIndex body)
    let stay := o.waiters.filter (fun w => !isWaiter h.requester (syncOperand body) w)
    exec (.syncCancel h body) s = .next (complete rq .ok (o.waiters.length - stay.length)
      (setSync (syncIndex body) { o with waiters := stay } t))) ∧
  (∀ (h : Hdr) (body : Nat) (s t : State) (rq : Req),
    admitted (linkReq 0x09 h body) (syncChecks (waitBad body) (syncIndex body)) 64 64 s = some (rq, t) →
    let o := syncObj t (syncIndex body)
    bits body 347 288 % 64 = 0 → o.owner = some h.tenant →
    condHolds (bits body 25 24) o.value (bits body 447 384) = false →
    o.waiters.any (isWaiter h.requester (bits body 511 448)) = false → o.waiters.length < 64 →
    let k := if bits body 29 28 = 1 then
        WaiterKind.write h.requester (bits body 347 288) (bits body 383 352) (bits body 511 448) h.tenant
      else WaiterKind.doorbell h.requester (bits body 347 288) (bits body 383 352) (bits body 511 448) h.tenant
    exec (.wait h body) s = .next (complete rq .ok o.value (bump 0x6020 0xA 1 (setSync (syncIndex body)
      { o with waiters := o.waiters ++ [⟨k, bits body 25 24, bits body 447 384, t.time⟩] } t)))) ∧
  (∀ (acc : Nat) (o : OwedSignal) (s : State),
    tget s.owed acc = some o → writeStalled s acc = false → o.package = obj s 0x1021 1 →
    awake s (homeDom (o.object % 8)) = true →
    exec (.commandSignal acc) s = .next (commandSignal o.object o.operand o.requester o.tenant acc
      { s with owed := terase s.owed acc })) ∧
  (∀ (acc : Nat) (o : OwedSignal) (s : State),
    tget s.owed acc = some o → writeStalled s acc = false → o.package ≠ obj s 0x1021 1 →
    exec (.commandSignal acc) s = .next (send 1 56 (o.package * 2 ^ 48)
      (.remoteSignal o.package o.object o.operand o.tenant) { s with owed := terase s.owed acc })) ∧
  (∀ (object : Nat) (e : Nat × Nat) (s : State), s.notified.find? (fun x => x.1 == object) = some e →
    exec (.notificationTimeout object) s = .next (raiseEvent 0x6020 6 0 (bump 0x6020 0xB 1
      { s with notified := s.notified.erase e })))

/-- A SYNC of a tenant that does not own the object is blocked: TENANT_BLOCKED, counted, sync_event raised, the object as it
was (R367, R369). -/
def Obligations.SyncOfAnotherTenantBlocked : Prop :=
  ∀ (h : Hdr) (body owner : Nat) (s t : State) (rq : Req),
    (syncObj t (syncIndex body)).owner = some owner → owner ≠ h.tenant →
    (admitted (linkReq 0x08 h body) (syncChecks (syncBad 1 body) (syncIndex body)) 32 64 s = some (rq, t) →
      exec (.syncAdd h body) s = .next (complete rq .tenantBlocked 0 (raiseEvent 0x6020 6 0 (bump 0x6020 9 1 t)))) ∧
    (admitted (linkReq 0x08 h body) (syncChecks (syncBad 2 body) (syncIndex body)) 32 64 s = some (rq, t) →
      exec (.syncSet h body) s = .next (complete rq .tenantBlocked 0 (raiseEvent 0x6020 6 0 (bump 0x6020 9 1 t)))) ∧
    (admitted (linkReq 0x08 h body) (syncChecks (syncBad 3 body) (syncIndex body)) 32 64 s = some (rq, t) →
      exec (.syncClaim h body) s = .next (complete rq .tenantBlocked 0 (raiseEvent 0x6020 6 0 (bump 0x6020 9 1 t)))) ∧
    (admitted (linkReq 0x08 h body) (syncChecks (syncBad 4 body) (syncIndex body)) 32 64 s = some (rq, t) →
      exec (.syncRelease h body) s = .next (complete rq .tenantBlocked 0 (raiseEvent 0x6020 6 0 (bump 0x6020 9 1 t)))) ∧
    (admitted (linkReq 0x08 h body) (syncChecks (syncBad 5 body) (syncIndex body)) 32 64 s = some (rq, t) →
      exec (.syncCancel h body) s = .next (complete rq .tenantBlocked 0 (raiseEvent 0x6020 6 0 (bump 0x6020 9 1 t))))

/-! ## Coherence -/

/-- A caching read of a line that no cache holds is granted at once with the home's data, and the line gets an entry: E for
RD_SHARED, M for RD_OWN and UPGRADE (R332, R333, R335).
WB_DIRTY of the line's owner writes the line at its home, with the copies that a protection class keeps, and frees the
entry; EVICT_CLEAN of the owner of an E line frees it. Both complete with OK, the first with the acknowledgements of its
copies (R202, R205, R335).
A snoop's answer ends it: what waited goes on with the data returned, if any (R328, R342). An answer that no snoop awaits
is counted as late and does nothing else (R347). A running snoop without an answer in time poisons its line, makes the
agent SUSPECT, and raises domain_event (R347).
Each of these commands completes here, on conditions on its operands and the state alone: rdShared, rdOwn, upgrade, wbDirty,
evictClean, snoopResponse, snoopTimeout, directoryRecallDone. -/
def Obligations.CacheRequestsComplete : Prop :=
  (∀ (h : Hdr) (a way : Nat) (s t : State) (rq : Req),
      let u := bump 0x6014 1 1 t
      let line := h.offset / 64
      cohReady h a t = true → cohLine h u = true → u.unrebuilt = [] → tget u.dir line = none → freeWay u line = some way →
      (admitted (linkReq 0x20 h 0) (cohChecks h 0 s) 0 64 s = some (rq, t) →
        exec (.rdShared h) s = .next (completeWith rq .ok (cohResult 0 0 0 3) 0 1
          (lineData (setDir line ⟨3, false, [a], way, u.snoopCtr⟩ u) line) none
          (acknowledge line h (setDir line ⟨3, false, [a], way, u.snoopCtr⟩ u)))) ∧
      (admitted (linkReq 0x21 h 0) (cohChecks h 0 s) 0 64 s = some (rq, t) →
        exec (.rdOwn h) s = .next (completeWith rq .ok (cohResult 0 0 0 4) 0 1
          (lineData (setDir line ⟨4, false, [a], way, u.snoopCtr⟩ u) line) none
          (acknowledge line h (setDir line ⟨4, false, [a], way, u.snoopCtr⟩ u)))) ∧
      (admitted (linkReq 0x22 h 0) (cohChecks h 0 s) 0 64 s = some (rq, t) →
        exec (.upgrade h) s = .next (completeWith rq .ok (cohResult 0 0 0 4) 0 1
          (lineData (setDir line ⟨4, false, [a], way, u.snoopCtr⟩ u) line) none
          (acknowledge line h (setDir line ⟨4, false, [a], way, u.snoopCtr⟩ u))))) ∧
  (∀ (h : Hdr) (data a : Nat) (e : DirEntry) (s t : State) (rq : Req),
      0 < h.length → agentOf t h.requester = some a → tget t.dir (h.offset / 64) = some e → e.ptrs.head? = some a →
      (admitted ⟨0x23, h, 0, data, [], false⟩ (cohChecks h 1 s) 64 64 s = some (rq, t) → 3 ≤ e.st →
        isMirror t (extentOf h.offset) = false →
        t.snoops.find? (fun x => x.2.line == h.offset / 64 && x.2.agent == a) = none →
        exec (.wbDirty h data) s = .next (settleDissolve (completeCopied rq .ok 0 (copiedObjects t (64 * (h.offset / 64)) 64)
          (dropDir (h.offset / 64) (writeHome rq (h.offset / 64) (data % 2 ^ 512) t))))) ∧
      (admitted (linkReq 0x24 h 0) (cohChecks h 0 s) 0 64 s = some (rq, t) → e.st = 3 →
        exec (.evictClean h) s = .next (settleDissolve (complete rq .ok 0 (dropDir (h.offset / 64) t))))) ∧
  (∀ (seq agent result data : Nat) (x : Snoop) (s : State),
    tget s.snoops (snoopKey seq agent) = some x → x.awaitsWb = false → bit result 5 = false →
    exec (.snoopResponse seq agent result data) s = .next (settleDissolve (snoopDone (snoopKey seq agent) x
      (if bit result 3 then some (data % 2 ^ 512) else none) (bit result 4) false s))) ∧
  (∀ (seq agent result data : Nat) (s : State), tget s.snoops (snoopKey seq agent) = none →
    exec (.snoopResponse seq agent result data) s = .next (settleDissolve (bump 0x6014 9 1 s))) ∧
  (∀ (seq agent : Nat) (x : Snoop) (e : DirEntry) (s : State),
    tget s.snoops (snoopKey seq agent) = some x → x.running = true →
    let u := bump 0x6014 3 1 (writePoison (64 * x.line) s)
    tget u.dir x.line = some e → e.broadcast = false → e.ptrs = [agent] → agentState (dropDir x.line u) agent = 1 →
    exec (.snoopTimeout seq agent) s = .next (settleDissolve (snoopDone (snoopKey seq agent) x none false true
      (raiseEvent 0x6010 0xB 0 (tellMembers 1 agent 2 (setAgentState agent 2 (dropDir x.line u))))))) ∧
  (∀ (line : Nat) (s : State), s.recalls.contains line = true →
    s.snoops.all (fun e => e.2.line != line || e.2.why != .recalled) = true →
    exec (.directoryRecallDone line) s = .next (settleDissolve (dropDir line s)))

/-- A caching read of a line that another agent owns is answered AGENT with the owner as the supplier, and a snoop leaves for
the owner (R326, R328, R335): SNP_SHARE for RD_SHARED, after which both hold the line shared; SNP_INV_FWD for RD_OWN, after
which the requester owns it. -/
def Obligations.OwnedLinesAreSnooped : Prop :=
  ∀ (h : Hdr) (a o : Nat) (e : DirEntry) (s t : State) (rq : Req),
    let u := bump 0x6014 1 1 t
    let line := h.offset / 64
    cohReady h a t = true → cohLine h u = true → u.unrebuilt = [] → tget u.dir line = some e → 3 ≤ e.st →
    e.ptrs.head? = some o → o ≠ a →
    agentState u o ≠ 3 →
    (admitted (linkReq 0x20 h 0) (cohChecks h 0 s) 0 64 s = some (rq, t) →
      exec (.rdShared h) s = .next (complete rq .ok (cohResult 2 o (u.snoopCtr % 65536) 0)
        (setDir line (addPtr { e with st := 2 } a false) (sendSnoop (u.snoopCtr % 65536) line o 2 (.agent h 1) h.requester
          h.tag 1 { u with snoopCtr := u.snoopCtr + 1 })))) ∧
    (admitted (linkReq 0x21 h 0) (cohChecks h 0 s) 0 64 s = some (rq, t) →
      exec (.rdOwn h) s = .next (complete rq .ok (cohResult 2 o (u.snoopCtr % 65536) 0)
        (setDir line { e with st := 4, broadcast := false, ptrs := [a] } (sendSnoop (u.snoopCtr % 65536) line o 4
          (.agent h 4) h.requester h.tag 4 { u with snoopCtr := u.snoopCtr + 1 }))))

/-! ## Composition, ownership, metering -/

/-- COMPOSE from a manager (R413): SET_ENTRY of a composition without entries starts it at the epoch and adds the entry,
REMOVE_ENTRY starts the entry's drain, ADVANCE to the next epoch opens a drain window of 20 µs for the one before it, and
raises epoch_event. A window's close ends it (R414).
OWNER at the master from a manager records an ownership that overlaps no other of its package; one that names this
package is taken up at once and completes (R418). A record that names this package is taken up when it arrives; one that
names another is reported taken up; a record not taken up in time answers the OWNERs that wait with DEFER.
Each of these commands completes here, on conditions on its operands and the state alone: composeSetEntry,
composeRemoveEntry, composeAdvance, drainWindowClose, owner, ownerRecordTakeUp, ownerTakeUpTimeout. -/
def Obligations.CompositionCommandsComplete : Prop :=
  (∀ (h : Hdr) (body i : Nat) (s t : State) (rq : Req),
    admitted (linkReq 0x30 h body) (tableChecks (composeBad 1 body) false) 32 64 s = some (rq, t) →
    fromManager rq t = true → ¬ (obj t 0x7020 3 = 1 ∧ composeComp body ≠ 0) → compOf t (composeRequester body) = none →
    firstFree t.compTab 4096 = some i → entriesOf t (composeComp body) = 0 →
    exec (.composeSetEntry h body) s = .next (complete rq .ok 0 { t with
      compTab := tset t.compTab i ⟨false, composeRequester body, composeComp body, composeTenant body, composeLimit body,
        bwSize (composeLimit body), t.time⟩,
      comps := tset t.comps (composeComp body) (Comp.fresh (composeEpoch body)) })) ∧
  (∀ (h : Hdr) (body i : Nat) (e : CompEntry) (s t : State) (rq : Req),
    admitted (linkReq 0x30 h body) (tableChecks (composeBad 2 body) false) 32 64 s = some (rq, t) →
    fromManager rq t = true → compOf t (composeRequester body) = some (i, e) → e.composition = composeComp body →
    exec (.composeRemoveEntry h body) s = .next (complete rq .ok 0
      { t with compTab := tset t.compTab i { e with draining := true } })) ∧
  (∀ (h : Hdr) (body : Nat) (s t : State) (rq : Req),
    admitted (linkReq 0x30 h body) (tableChecks (composeBad 3 body) false) 32 64 s = some (rq, t) →
    let x := tgetD t.comps (composeComp body) (Comp.fresh 0)
    fromManager rq t = true → entriesOf t (composeComp body) ≠ 0 → composeEpoch body = (x.epoch + 1) % 256 →
    x.drainOpen = false →
    exec (.composeAdvance h body) s = .next (complete rq .ok 0 (raiseEvent 0x7030 6 0 { t with
      comps := tset t.comps (composeComp body)
        { x with epoch := composeEpoch body, prev := x.epoch, drainOpen := true, drainEnd := t.time + 20000 } }))) ∧
  (∀ (c : Nat) (s : State), exec (.drainWindowClose c) s =
    .next { s with comps := tmod s.comps c (fun x => { x with drainOpen := false }) }) ∧
  (∀ (h : Hdr) (body : Nat) (s t : State) (rq : Req),
    admitted (linkReq 0x31 h body) (tableChecks (ownerBad body) false) 32 64 s = some (rq, t) →
    ownMaster t = true → fromManager rq t = true → ownerBase body % extentBytes = 0 → ownerExtents body ≠ 0xFFFFFFFF →
    ownerExtents body ≠ 0 → ownerOverlaps t body = false → tget t.owners.master (ownerIndex body) ≠ some body →
    ownerPackage body = obj t 0x1021 1 →
    exec (.owner h body) s = .next (complete rq .ok 0 { t with owners := ⟨putOwner t.owners.master body,
      sadd t.owners.taken (ownerIndex body), putOwner t.owners.here body⟩ })) ∧
  (∀ (record body : Nat) (s : State), ownerPackage body = obj s 0x1021 1 →
    exec (.ownerRecordTakeUp record body) s =
      .next (settle { s with owners := { s.owners with here := putOwner s.owners.here body } })) ∧
  (∀ (record body : Nat) (s : State), ownerPackage body ≠ obj s 0x1021 1 → tget s.owners.master record = some body →
    exec (.ownerRecordTakeUp record body) s = .next (settle (finishOwners record .ok
      { s with owners := { s.owners with taken := sadd s.owners.taken record } }))) ∧
  (∀ (record : Nat) (s : State), s.owners.taken.contains record = false →
    exec (.ownerTakeUpTimeout record) s = .next (settle (finishOwners record .defer s)))

/-- The meters close (R413, R422, R602, R603): at the end of a period every composition that counted closes a record into one
batch; an entry that has drained is freed with its queue pairs and sessions, and its composition's record closes with the
last entry; the oldest batch is released by its number, and read in place.
A region entry that R400 allows is written at the index that region_index names; sender-trusted mode is set by an attested
session while only composition 0 has entries, and the change is logged (R403, R404).
Each of these commands completes here, on conditions on its operands and the state alone: meterPeriodEnd, entryDrainFree,
meterAck, meterBatchRead, regionEntryWrite, trustModeWrite. -/
def Obligations.MetersAndAccessControlComplete : Prop :=
  (∀ (s : State), s.pkg ≠ .off →
    let r := closeMeters (s.comps.map (·.1)) s
    exec .meterPeriodEnd s = .next (keepRecords r.1 { r.2 with meterStart := r.2.time })) ∧
  (∀ (requester i : Nat) (e : CompEntry) (s : State), compOf s requester = some (i, e) → e.draining = true →
    let u := raiseEvent 0x7030 6 0 (errorQps requester (closeTenants requester { s with compTab := terase s.compTab i }))
    entriesOf u e.composition = 0 →
    exec (.entryDrainFree requester) s =
      .next (keepRecords (closeMeters [e.composition] u).1 (closeMeters [e.composition] u).2)) ∧
  (∀ (m : DapMsg) (b : Batch) (r : List Batch) (s t : State) (c : Ctx),
    dapAdmitted dapWrite (toObj m 0xC011 2) s = some (c, t) → t.batches = b :: r → c.value = b.seq →
    exec (.meterAck m) s = .next (finOk c (setObj 0xC011 3 r.length { t with batches := r }))) ∧
  (∀ (m : DapMsg) (b : Batch) (r : List Batch) (x : Session) (s t : State) (c : Ctx),
    dapAdmitted dapRead (toObj m 0xC011 1) s = some (c, t) → t.batches = b :: r → session t c.port c.id = some x →
    c.segOffset = 0 →
    exec (.meterBatchRead m) s = .next (readPart c b.bytes b.value
      (setSession c.port c.id { x with snap := some (okey 0xC011 1, b.seq, 0) } t))) ∧
  (∀ (m : DapMsg) (s t : State) (c : Ctx),
    dapAdmitted dapWrite (toObj m 0x7020 2) s = some (c, t) → regionBad t c.value = false →
    let u := { t with regions := tset t.regions (obj t 0x7020 1) c.value }
    exec (.regionEntryWrite m) s =
      .next (finOk c (setObj 0x7020 5 (u.regions.filter (fun e => bit e.2 4)).length u))) ∧
  (∀ (m : DapMsg) (s t : State) (c : Ctx),
    dapAdmitted dapGuarded (toObj m 0x7020 3) s = some (c, t) → c.value = 1 → c.actor = 2 → obj t 0x7020 3 = 0 →
    t.compTab.any (fun e => e.2.composition != 0) = false → logRoom t 0x20 = true →
    exec (.trustModeWrite m) s =
      .next (finOk c (guardedEntry c (appendLog 0x22 c.actor c.tenant 1 (setObj 0x7020 3 1 t)))))

/-! ## Links -/

/-- A flit on an UP or QUIESCING link (R383, R384, R386): one that passes its check and comes in order is acknowledged, and its
acknowledgement, where it is no nak, and its credits are taken; bytes that the fec corrected are counted; a control flit with
credit_vc 7 and credit_count 0xFF begins a recalibration (R561). A flit that fails its check or comes out of order is answered
with a nak and discarded. A nak takes up the acknowledgement and replays, and the eighth replay of a flit takes the link down.
Links train, go down and recalibrate (R384, R386, R561, R562): a trained link has its lanes and 64 flits of credit on each
channel; a link that fails goes down and is counted; recalibration of an UP link begins with QUIESCING while the quadrant
and the package have room for it, passes to RECALIBRATING when the link is quiet, ends UP and counted, or takes the link
down with rel_event cause 3.
Each of these commands completes here, on conditions on its operands and the state alone: flitReceive, flitNakReceive,
linkTrained, linkDown, linkRecalRequest, recalThresholdExceeded, linkQuiesced, linkRetrained, linkRecalTimeout,
remoteCopyExpire. -/
def Obligations.LinkCommandsComplete : Prop :=
  (∀ (f : Flit) (s : State), (link s f.link).st = .up ∨ (link s f.link).st = .quiescing → flitGood f = true →
    flitSeq f.image = ((link s f.link).lastRecv + 1) % 1024 →
    let u := if 0 < f.wrong then countCorrected f.link s else s
    let w := emit (.flitAck f.link (flitSeq f.image)) (setLink f.link (fun l =>
      let l := { l with lastRecv := flitSeq f.image, discarding := false }
      let l := if flitNakBit f.image then l else ackFlits l (flitAckSeq f.image)
      if flitCreditVc f.image < 7 then addCredits l (flitCreditVc f.image) (flitCredits f.image) else l) u)
    exec (.flitReceive f) s =
      .next (if flitVc f.image = 7 ∧ flitCreditVc f.image = 7 ∧ flitCredits f.image = 0xFF then beginRecal f.link w else w)) ∧
  (∀ (f : Flit) (s : State), (link s f.link).st = .up ∨ (link s f.link).st = .quiescing →
    let u := if 0 < f.wrong ∧ f.wrong ≤ 6 then countCorrected f.link s else s
    (flitGood f = false ∨ flitSeq f.image ≠ ((link s f.link).lastRecv + 1) % 1024) →
    exec (.flitReceive f) s = .next (emit (.flitNak f.link (link s f.link).lastRecv)
      (setLink f.link (fun l => { l with discarding := true }) u))) ∧
  (∀ (n ackSeq : Nat) (s : State), (link s n).st = .up ∨ (link s n).st = .quiescing →
    let again := if (link s n).acked = ackSeq then (link s n).replays + 1 else 1
    let l : Link := { link s n with acked := ackSeq, replays := again }
    let u := bump 0x7010 0x12 (unacked l) (setLink n (fun _ => l) s)
    exec (.flitNakReceive n ackSeq) s = .next (if 8 ≤ again then dropLink n u else emit (.flitReplay n ((ackSeq + 1) % 1024)) u)) ∧
  (∀ (n lanes : Nat) (s : State), serving s = true ∨ selfTesting s = true → n < 16 →
    exec (.linkTrained n lanes) s = .next (trainLink n lanes (setDom (quadDom n) (fun d =>
      { d with st := if d.st ≤ 1 then d.st else 0, waking := false, wakeReq := false }) s))) ∧
  (∀ (n : Nat) (s : State), (link s n).st ≠ .down → exec (.linkDown n) s = .next (dropLink n s)) ∧
  (∀ (n : Nat) (s : State), (link s n).st = .up → recalCount s (some (n / 4)) = 0 → recalCount s none < 4 →
    exec (.linkRecalRequest n) s = .next (emit (.recalRequest n)
      (setLink n (fun l => cutWhenQuiet { l with st := .quiescing, recalWaits := false }) s))) ∧
  (∀ (n : Nat) (s : State), (link s n).st = .up → obj s 0xA030 2 < (link s n).corrected →
    let u := setLink n (fun l => { l with corrected := 0 }) s
    (link u n).st = .up → recalCount u (some (n / 4)) = 0 → recalCount u none < 4 →
    exec (.recalThresholdExceeded n) s = .next (emit (.recalRequest n)
      (setLink n (fun l => cutWhenQuiet { l with st := .quiescing, recalWaits := false }) u))) ∧
  (∀ (n : Nat) (s : State), (link s n).st = .quiescing → s.openReqs.all (fun e => e.2.req.hdr.via != .link n) = true →
    unacked (link s n) = 0 →
    exec (.linkQuiesced n) s = .next (setLink n (fun l => { l with st := .recalibrating }) s)) ∧
  (∀ (n : Nat) (s : State), (link s n).st = .recalibrating →
    exec (.linkRetrained n) s = .next (nextRecal (bump 0xA030 3 1 (trainLink n (link s n).lanes s)))) ∧
  (∀ (n : Nat) (s : State), (link s n).st = .recalibrating →
    exec (.linkRecalTimeout n) s = .next (raiseEvent 0xA060 2 3 (dropLink n s))) ∧
  (∀ (slice line : Nat) (s : State), exec (.remoteCopyExpire slice line) s =
    .next { s with copies := s.copies.filter (fun c => !(c.slice == slice && c.address / 64 == line)) })

/-! ## Input, bring-up and reset -/

/-- The input comes, is regulated and goes (R500, R524, R612): a stable input of 54 V to 80 V starts the soft-start; with the
package bus up, domain 0 starts in FUMAROLE_ONLY at time 0 with its straps sampled; an input below 56 V raises power_event;
an input out of range takes the package to OFF.
The root of trust boots the marked slot when it verifies, else the other one, with a FIRMWARE entry and fw_event, each with
its BOOT entry; with neither the package stays in FUMAROLE_ONLY (R525, R526, R591). The management core restores the saved
image and enters SELF_TEST with its steps running (R472, R524, R528; on a package without flash dies FLASH is over).
A self-test step that runs ends without a critical cause, with what it leaves on its dies, and READY is entered with the
last one; a critical cause, and a step that takes too long on the dies where that is critical, enters STANDING (R528 to R533,
R553).
Each of these commands completes here, on conditions on its operands and the state alone: inputStable, packageBusRegulated,
inputLowWarning, inputLoss, rotVerifyDone, mgmtCoreReady, selftestStepEnd, selftestStepTimeout. -/
def Obligations.BringUpCommandsComplete : Prop :=
  (∀ (mv : Nat) (s : State), s.pkg = .off → 54000 ≤ mv → mv ≤ 80000 →
    exec (.inputStable mv) s = .next (setInput mv { s with inputOn := true })) ∧
  (∀ (x : Straps) (ref : Bool) (s : State), s.pkg = .off → s.inputOn = true →
    exec (.packageBusRegulated x ref) s = .next (enterState .fumaroleOnly (sample x (setObj 0x2001 2 (b2n ref)
      (setObj 0x1040 5 0 (bump 0x2001 3 1
        { s with time := 0, cold := true, resetting := ⟨none, false, false, 0⟩ })))))) ∧
  (∀ (mv : Nat) (s : State), s.inputOn = true → mv < 56000 →
    exec (.inputLowWarning mv) s = .next (raiseEvent 0x2000 8 1 (setInput mv s))) ∧
  (∀ (mv : Nat) (s : State), (mv < 54000 ∨ 80000 < mv) →
    ∃ t, exec (.inputLoss mv) s = .next t ∧ t.pkg = .off ∧ t.inputOn = false ∧ t.links = [] ∧ t.openReqs = [] ∧ t.log = s.log) ∧
  (∀ (fa fb : FwFound) (broken : Option Nat) (s : State), s.pkg = .fumaroleOnly → undisturbed s = true → s.fw.running = none →
    let v := checkLog broken (setDom 1 (fun d => { d with st := 0 }) s)
    let u := setFwSlot 1 (foundSlot v fb) (setFwSlot 0 (foundSlot v fa) v)
    let other := 1 - u.fw.marker
    exec (.rotVerifyDone fa fb broken) s = .next (
      if fwPasses u (if u.fw.marker = 0 then fa else fb) then boot u.fw.marker u
      else if fwPasses u (if other = 0 then fa else fb) then
        boot other (logFirmware other (fwSlot u other).version 1 (raiseEvent 0x1050 8 1 u))
      else u)) ∧
  (∀ (s : State), s.pkg = .fumaroleOnly → undisturbed s = true → s.fw.running.isSome = true →
    ∃ t, exec .mgmtCoreReady s = .next t ∧ t.pkg = .selfTest ∧ t.fw = s.fw ∧
      (∀ k ∈ [1, 2, 3, 4, 6], stepOutcome t k = stRunning)) ∧
  (∀ (k : Nat) (cs : List SelfCause) (flash : Option FlashFound) (w : WarmCheck) (s : State), mayEnd s k = true →
    cs.find? (fun c => critical k c.cause) = none →
    let u := setObj 0x1041 k (stepWord (if cs.isEmpty then 2 else 3) cs) { s with selfDone := sadd s.selfDone k }
    exec (.selftestStepEnd k cs flash w) s = .next (tryReady (
      if k = 2 then hbmTested w u else if k = 4 then tilesFound cs u
      else if k = 5 then discover (flash.getD ⟨0, 0, 0⟩) u else u))) ∧
  (∀ (k : Nat) (cs : List SelfCause) (c : SelfCause) (flash : Option FlashFound) (w : WarmCheck) (s : State),
    mayEnd s k = true → cs.find? (fun c => critical k c.cause) = some c →
    exec (.selftestStepEnd k cs flash w) s =
      .next (standing k c.cause c.unit c.die (setObj 0x1041 k (stepWord 4 cs) s))) ∧
  (∀ (k die unit : Nat) (s : State), mayEnd s k = true → critical k 0xFE = true →
    exec (.selftestStepTimeout k die unit) s =
      .next (standing k 0xFE unit die (setObj 0x1041 k (stepWord 4 [⟨0xFE, die, unit⟩]) s)))

/-- A full package reset (R536, R612, R615): the pin asserted triggers it with cause 1 and holds it; NOR_FREE is released
while it is held; the pin's release goes on with the straps sampled; a guarded write of pkg_reset arms it, and its trigger
comes with cause 2; when its shutdown is done, the package is in FUMAROLE_ONLY, trust_mode is 0 again, and a change of it is
logged (R404).
Each of these commands completes here, on conditions on its operands and the state alone: pkgResetNAssert, norFreeRelease,
pkgResetNRelease, pkgReset, pkgResetTrigger, resetShutdownDone. -/
def Obligations.ResetCompletes : Prop :=
  (∀ (s : State), s.pkg ≠ .off → exec .pkgResetNAssert s = .next (triggerReset 1 true s)) ∧
  (∀ (s : State), s.resetting.held = true → s.norFree = false →
    exec .norFreeRelease s = .next (emit (.pin 1 true) (emit (.pin 2 true) { s with norFree := true }))) ∧
  (∀ (x : Straps) (s : State), s.resetting.held = true → s.norFree = false →
    exec (.pkgResetNRelease x) s = .next (sample x { s with resetting := { s.resetting with held := false } })) ∧
  (∀ (m : DapMsg) (s t : State) (c : Ctx), dapAdmitted dapGuarded (toObj m 0x1040 1) s = some (c, t) → c.value = 1 →
    logRoom t 0x20 = true →
    exec (.pkgReset m) s =
      .next (finOk c (guardedEntry c { t with resetting := { t.resetting with soon := true } }))) ∧
  (∀ (s : State), s.resetting.soon = true → s.resetting.cause = none → s.pkg ≠ .off →
    exec .pkgResetTrigger s = .next (triggerReset 2 false s)) ∧
  (∀ (cause : Nat) (s : State), s.resetting.cause = some cause → s.resetting.held = false →
    exec .resetShutdownDone s = .next (enterState .fumaroleOnly (let u := setObj 0x1040 5 cause (bump 0x1040 4 1
        (clearTrip (clearUnits (fun k => keptKey k || savedKey k) (if obj s 0x7020 3 = 1 then appendLog 0x22 0 0 0 s else s))))
      { u with resetting := { u.resetting with cause := none, soon := false } })))

/-- What stops the package (R515, R519, R530, R545, R613, R618): a loss of the reference with a fast domain running, a
thermal trip, and a write of enter_standing enter STANDING with their category, cause and die; a guarded write of
drain_begin in READY enters DRAINING (R573); the watchdog restarts the management core (R527).
Each of these commands completes here, on conditions on its operands and the state alone: refclkLoss, thermalTrip,
enterStanding, drainBegin, watchdogExpiry. -/
def Obligations.StandingCausesComplete : Prop :=
  (∀ (s : State), s.pkg ≠ .off → fastDoms.any (fun d => decide ((dom (setObj 0x2001 2 0 s) d).st ≤ 1)) = true →
    exec .refclkLoss s = .next (standing runtime 4 0 0x1E (setObj 0x2001 2 0 s))) ∧
  (∀ (die : Nat) (s : State), s.pkg ≠ .off → (raiseEvent 0x2000 8 3 s).thermTrip = false →
    exec (.thermalTrip die) s = .next (standing runtime 1 0 die
      (emit (.pin 0 false) { raiseEvent 0x2000 8 3 s with thermTrip := true }))) ∧
  (∀ (m : DapMsg) (s t : State) (c : Ctx), dapAdmitted dapGuarded (toObj m 0x1040 2) s = some (c, t) → c.value = 1 →
    logRoom t 0x20 = true →
    exec (.enterStanding m) s = .next (finOk c (guardedEntry c (standing runtime 2 0 0xFF t)))) ∧
  (∀ (m : DapMsg) (s t : State) (c : Ctx), dapAdmitted dapGuarded (toObj m 0xA060 1) s = some (c, t) → c.value = 1 →
    t.pkg = .ready → logRoom t 0x20 = true →
    exec (.drainBegin m) s = .next (finOk c (guardedEntry c (enterState .draining (returnRows (fun _ => true) t))))) ∧
  (∀ (s : State), dictLive s = true → s.fw.running.isSome = true → s.fw.restarting = false →
    exec .watchdogExpiry s = .next (restart s))

/-- A thermal trip in READY or DRAINING records its category and cause in failure_code and the die in failure_die, asserts
THERM_TRIP_N, and enters STANDING with every link down, nothing open and every fast domain OFF (R519, R530, R534, R613). -/
def Obligations.StandingEntered : Prop :=
  ∀ (die : Nat) (s : State), serving s = true →
    ∃ t, exec (.thermalTrip die) s = .next t ∧ t.pkg = .standing ∧ t.thermTrip = true ∧ t.links = [] ∧ t.openReqs = [] ∧
      obj t 0x1010 3 = 0x10010000 ∧ obj t 0x1010 4 = die % 256 ∧ (∀ d, 4 ≤ d → d ≤ 27 → (dom t d).st = 3)

/-- Firmware updates (R540 to R543): a management session stages 4,096 bytes at a time; a verification runs and ends with the
slot VERIFIED or CHECK_FAIL; a handover restarts from a VERIFIED slot; the new firmware reports alive, which commits the
trial, or does not, which brings the previous slot back.
Each of these commands completes here, on conditions on its operands and the state alone: fwStageData, fwVerify,
fwVerifyDone, fwHandover, fwAlive, fwHandoverTimeout. -/
def Obligations.FirmwareUpdatesComplete : Prop :=
  (∀ (m : DapMsg) (s t : State) (c : Ctx), dapAdmitted dapWrite (toObj m 0x1050 4) s = some (c, t) → c.actor = 2 →
    c.bytes = 4096 → obj t 0x1050 3 % 4096 = 0 → obj t 0x1050 3 ≤ 8384512 → t.fw.verifying = false →
    exec (.fwStageData m) s = .next (finOk c (setObj 0x1050 3 (obj t 0x1050 3 + 4096) (setFwSlot (otherSlot t)
      (fun x => { x with st := 1, staged := tset x.staged (obj t 0x1050 3 / 4096) c.value }) t)))) ∧
  (∀ (m : DapMsg) (s t : State) (c : Ctx), dapAdmitted dapWrite (toObj m 0x1050 5) s = some (c, t) → c.actor = 2 →
    c.value = 1 → t.fw.verifying = false →
    exec (.fwVerify m) s = .next { t with fw := { t.fw with verifying := true } }) ∧
  (∀ (f : FwFound) (s : State), s.fw.verifying = true →
    ∃ t, exec (.fwVerifyDone f) s = .next t ∧ t.fw.verifying = false ∧
      (fwSlot t (otherSlot s)).st = (if verifyStatus s (fwSlot s (otherSlot s)) f = .ok then 2 else 3)) ∧
  (∀ (m : DapMsg) (old : Nat) (s t : State) (c : Ctx), dapAdmitted dapGuarded (toObj m 0x1050 6) s = some (c, t) →
    c.actor = 2 → c.value ≤ 1 → t.fw.running = some old → old ≤ 1 → old ≠ c.value → (fwSlot t c.value).st = 2 →
    logRoom t 0x20 = true →
    ∃ u, exec (.fwHandover m) s = .next u ∧ u.fw.restarting = true ∧ u.fw.running = some c.value ∧
      u.fw.marker = c.value ∧ u.fw.trial = some old ∧ (fwSlot u c.value).st = 5 ∧ (fwSlot u old).st = 2) ∧
  (∀ (k old : Nat) (s : State), s.fw.restarting = true → s.fw.running = some k → s.fw.trial = some old →
    ∃ u, exec .fwAlive s = .next u ∧ u.fw.restarting = false ∧ u.fw.trial = none ∧ u.fw.running = some k ∧ (fwSlot u k).st = 4) ∧
  (∀ (k old : Nat) (s : State), s.fw.restarting = true → s.fw.running = some k → s.fw.trial = some old → k ≤ 1 → old ≤ 1 →
    k ≠ old →
    ∃ u, exec .fwHandoverTimeout s = .next u ∧ u.fw.running = some old ∧ u.fw.marker = old ∧ u.fw.trial = none ∧
      (fwSlot u k).st = 3 ∧ (fwSlot u old).st = 4)

/-! ## Power domains -/

/-- An interval of 10 µs (R517, R518, R521): the burst store follows the power and the limit, the measurements are shown, and
the throttle level steps up by one while the throttle acts and otherwise falls by at most one.
Domains sleep and wake (R504 to R511, R560): ACTIVE to IDLE and back; IDLE to RETAIN, and RETAIN to OFF, where the floor
and R506 allow it, a home's once its directory is recalled (R346); a wake request raises the wake of a sleeping domain; its end
begins the generation check, and the check's end makes the domain ACTIVE, recovered where the generations differ.
A wake that fails is reported, counted and to be retried, and a retry takes it up again (R510); the sixteenth in a row is a
fault of the die (R557).
Each of these commands completes here, on conditions on its operands and the state alone: powerInterval, domainIdleEntry,
domainIdleExit, retainEntry, offEntry, wakeRequest, wakeComplete, generationCheckDone, wakeFailure, wakeRetry. -/
def Obligations.PowerCommandsComplete : Prop :=
  (∀ (p ma mv tempDc tempDie : Nat) (s : State), s.pkg ≠ .off →
      ∃ t, exec (.powerInterval p ma mv tempDc tempDie) s = .next t ∧
        t.burstUj = burstNext s.burstUj p (obj s 0x2000 4) ∧ obj t 0x2000 1 = mv ∧ obj t 0x2000 2 = ma ∧ obj t 0x2000 3 = p ∧
        obj t 0x2000 5 = t.burstUj / 1000 ∧ obj t 0x2002 1 = tempDc ∧ obj t 0x2002 2 = tempDie ∧
        (throttleActs { s with burstUj := t.burstUj } p ma tempDc = true → obj t 0x2000 6 = min 15 (obj s 0x2000 6 + 1)) ∧
        (throttleActs { s with burstUj := t.burstUj } p ma tempDc = false →
          obj s 0x2000 6 - 1 ≤ obj t 0x2000 6 ∧ obj t 0x2000 6 ≤ obj s 0x2000 6)) ∧
  (∀ (d : Nat) (s : State), managed s d = true → (dom s d).st = 0 → 1 ≤ floorOf s d →
    exec (.domainIdleEntry d) s = .next (setDom d (fun x => { x with st := 1 }) s)) ∧
  (∀ (d : Nat) (s : State), (dom s d).st = 1 → exec (.domainIdleExit d) s = .next (becomeActive d s)) ∧
  (∀ (d : Nat) (s : State), maySleep s d = true → (dom s d).st = 1 → 2 ≤ floorOf s d → mayRetain s d = true →
    exec (.retainEntry d) s = .next (settleCommit (setDom d (fun x => { x with st := 2 }) (leaveIdle d s)))) ∧
  (∀ (d : Nat) (s : State), maySleep s d = true → (dom s d).st = 2 → (dom s d).waking = false → 3 ≤ floorOf s d →
    mayRetain s d = true →
    let u := if 8 ≤ d ∧ d < 16 then recallAll (some (d - 8)) s else s
    exec (.offEntry d) s = .next (if mayOff u d then settleCommit (railsOff d u) else u)) ∧
  (∀ (d : Nat) (s : State), managed s d = true → 2 ≤ (dom s d).st → (dom s d).held = false → (dom s d).waking = false →
    exec (.wakeRequest d) s = .next (setDom d (fun x => { x with wakeReq := true, waking := true, wakeAt := s.time }) s)) ∧
  (∀ (d : Nat) (s : State), canWake s d = true →
    let u := setDom d (fun x => { x with checking := true }) s
    exec (.wakeComplete d) s = .next (if outdated u d ∧ 8 ≤ d ∧ d < 16 then recallAll (some (d - 8)) u else u)) ∧
  (∀ (d : Nat) (s : State), (dom s d).checking = true → (outdated s d = false ∨ mayOff s d = true ∨ ¬ (8 ≤ d ∧ d < 16)) →
    exec (.generationCheckDone d) s = .next (runQps (settleTiles (settleHeldReady
      (bump (0x2100 + d) 5 1 (becomeActive d (returned d (if outdated s d then recover d s else s)))))))) ∧
  (∀ (d : Nat) (s : State), (dom s d).waking = true → (dom s d).failed = false →
    let u := setDom d (fun x => { x with failed := true, checking := false, failures := x.failures + 1 })
      (bump (0x2100 + d) 6 1 (raiseEvent 0x2000 8 (4 + d * 2 ^ 8) s))
    exec (.wakeFailure d) s = .next (if 16 ≤ (dom u d).failures then dieFault (domDie d) u else u)) ∧
  (∀ (d : Nat) (s : State), (dom s d).waking = true → (dom s d).failed = true →
    exec (.wakeRetry d) s = .next (setDom d (fun x => { x with failed := false }) s))

/-- Dies fail and are retested (R557, R559): a home die whose domain sleeps is held, and one that does not takes the package to
STANDING; a fabric die is held with its clusters empty and its calls ended; an I/O die is held with its links down, a flash
die with its moves stopped, where nothing of it waits in staging. A guarded write of die_retest starts the retest of a held die,
and its end without a critical cause, on a flash die with its flash as it was, releases it.
The floors and held_ready_mask are written (R512, R522): a floor that the domain can have is taken, and a domain below it
wakes; a mask with no held home among its new bits is taken, its homes wake, and its answer leaves when they have.
Each of these commands completes here, on conditions on its operands and the state alone: dieFault, dieRetest,
dieRetestDone, heldReadyMaskWrite, domainFloorWrite. -/
def Obligations.HeldDiesAndFloorsComplete : Prop :=
  (∀ (die : Nat) (s : State), s.pkg ≠ .off → bit (obj s 0xA020 1) die = false → diePresent s die = true →
    (die < 8 → 2 ≤ (dom s (homeDom die)).st → exec (.dieFault die) s = .next (settleCommit (holdDie die s))) ∧
    (die < 8 → (dom s (homeDom die)).st ≤ 1 →
      exec (.dieFault die) s = .next (settleCommit (standing runtime 4 0 die s))) ∧
    (8 ≤ die → die < 16 → exec (.dieFault die) s = .next (settleCommit (holdDie die (railsOff (fabricDom (die - 8))
      (dropAccesses die ((List.range 16).foldl (fun s k => evictCluster (16 * (die - 8) + k) s) s)))))) ∧
    (die = 0x18 ∨ die = 0x19 → exec (.dieFault die) s = .next (settleCommit (holdDie die ((heldDoms die).foldl
      (fun s d => railsOff d s) ((s.links.filter (fun e => (heldDoms die).contains (quadDom e.1) && e.2.st != .down)).foldl
        (fun s e => dropLink e.1 s) s))))) ∧
    (0x1A ≤ die → die ≤ 0x1D → staging s = 0 →
      exec (.dieFault die) s = .next (settleCommit (holdDie die (railsOff (flashDom (die - 0x1A)) (stopMoves s)))))) ∧
  (∀ (m : DapMsg) (s t : State) (c : Ctx), dapAdmitted dapGuarded (toObj m 0xA020 2) s = some (c, t) → c.value ≤ 31 →
    bit (obj t 0xA020 1) c.value = true → t.retest = none → logRoom t 0x20 = true →
    exec (.dieRetest m) s = .next (finOk c (guardedEntry c { t with retest := some c.value }))) ∧
  (∀ (die : Nat) (causes : List (Nat × SelfCause)) (nand : Bool) (lines : List Nat) (s : State), s.retest = some die →
    let u := lines.foldl (fun s l => if die < 8 ∧ homeOf s (64 * l) = die then foundBad s l else s) { s with retest := none }
    let bad := causes.any (fun c => critical c.1 c.2.cause) || (decide (0x1A ≤ die ∧ die ≤ 0x1D) && !nand)
    let w := stepWord (if bad then 4 else if (causes.map (·.2)).isEmpty then 2 else 3) (causes.map (·.2))
    let v := logRepair 6 die 0 w (setObj 0xA020 3 w u)
    exec (.dieRetestDone causes nand lines) s = .next (if bad then v else releaseDie die v)) ∧
  (∀ (m : DapMsg) (s t : State) (c : Ctx),
    dapAdmitted dapWrite (toObj m 0x2011 1) s = some (c, t) →
    (List.range 8).any (fun n => bit c.value n && !heldReady t n && (dom t (homeDom n)).held) = false →
    exec (.heldReadyMaskWrite m) s = .next (settleHeldReady
      ((List.range 8).foldl (fun u n => raiseTo (homeDom n) u) (setObj 0x2011 1 c.value t)))) ∧
  (∀ (m : DapMsg) (s t : State) (c : Ctx), 0x2100 ≤ m.index → m.index ≤ 0x211B →
    dapAdmitted dapWrite (toObj m m.index 2) s = some (c, t) → c.value ≤ deepest (m.index - 0x2100) →
    domPresent t (m.index - 0x2100) = true →
    exec (.domainFloorWrite m) s = .next (finOk c (raiseTo (m.index - 0x2100) (setObj m.index 2 c.value t))))

/-! ## Configurations and calls -/

/-- The registry (R103, R105, R114, R116, R621): REGISTER reserves the lowest free entry and answers its acceptance; its end
registers the image that passes, or records why not; RETIRE of the tenant that registered frees the entry, and its record
follows when no cluster loads from it.
LOAD of a registered image into a free cluster of an unbound handle answers its acceptance and assigns the cluster; UNBIND
of the handle's tenant frees the handle and its clusters, with its record at once (R115 to R118, log entry 17).
Each of these commands completes here, on conditions on its operands and the state alone: register, registerDone,
configRetire, configRetireRecord, load, unbind. -/
def Obligations.ConfigurationCommandsComplete : Prop :=
  (∀ (h : Hdr) (body n : Nat) (s t : State) (rq : Req),
    admitted (linkReq 0x14 h body) (postedChecks (cfgBad 1 body) none
      (cfgImgBytes body == 0xFFFFFFFF || decide (4194304 < cfgImgBytes body)) false []) 64 64 s = some (rq, t) →
    (bit body 80 = true → recordAt t (bits body 79 32) 32 = true) → cfgImgBytes body ≠ 0 → freeEntry t = some n →
    exec (.register h body) s = .next (let u := complete rq .ok ((t.accCtr + 1) * 256) { t with accCtr := t.accCtr + 1 };
      { u with reserved := tset u.reserved (t.accCtr + 1) n,
               registering := tset u.registering (t.accCtr + 1) ⟨rq, u.time⟩ })) ∧
  (∀ (acc n : Nat) (p : Posted) (s : State), tget s.registering acc = some p → tget s.reserved acc = some n →
    farExtents s (cfgImgOffset p.req.body) (cfgImgBytes p.req.body) = [] →
    let found := registerStatus s (cfgImgOffset p.req.body) (cfgImgBytes p.req.body)
    let u := { s with reserved := terase s.reserved acc, registering := terase s.registering acc }
    exec (.registerDone acc) s = .next (if found = .ok then
        endCfg p acc .ok n 0 0 (countRegistry { u with
          registry := tset u.registry n ⟨imageInfo u acc (cfgImgOffset p.req.body)
            (imgBytes (readMem u (cfgImgOffset p.req.body) (cfgImgBytes p.req.body))), p.req.hdr.tenant⟩ })
      else endCfg p acc found 0xFF 0 0 u)) ∧
  (∀ (h : Hdr) (body : Nat) (e : RegEntry) (s t : State) (rq : Req),
    admitted (linkReq 0x14 h body) (postedChecks (cfgBad 2 body) none false false []) 64 64 s = some (rq, t) →
    (bit body 80 = true → recordAt t (bits body 79 32) 32 = true) → tget t.registry (cfgSlot body) = some e →
    e.tenant = h.tenant →
    exec (.configRetire h body) s = .next (let u := complete rq .ok ((t.accCtr + 1) * 256) { t with accCtr := t.accCtr + 1 };
      retireEntry (cfgSlot body) { u with retiring := tset u.retiring (t.accCtr + 1) ⟨rq, u.time⟩ })) ∧
  (∀ (acc : Nat) (p : Posted) (s : State), tget s.retiring acc = some p →
    loadingFrom s (cfgSlot p.req.body) = false →
    exec (.configRetireRecord acc) s = .next (endCfg p acc .ok (cfgSlot p.req.body) 0 0
      { s with retiring := terase s.retiring acc })) ∧
  (∀ (h : Hdr) (body : Nat) (e : RegEntry) (s t : State) (rq : Req),
    admitted (linkReq 0x14 h body)
      (postedChecks (cfgBad 3 body) none false (!fabricPresent s (cfgCluster body / 16)) []) 64 64 s = some (rq, t) →
    bit body 80 = false → t.pkg ≠ .draining → cfgTenant body = h.tenant → tget t.registry (cfgSlot body) = some e →
    e.tenant = h.tenant → cfgContext body ≠ 0 → tget t.handles (cfgHandle body) = none → cfgRole body < e.image.roles →
    (cluster t (cfgCluster body)).st = .empty ∨ (cluster t (cfgCluster body)).st = .running →
    (cluster t (cfgCluster body)).handle = none →
    placeByte (readMem t e.image.offset e.image.bytes) (cfgRole body) 16 = 0xFF →
    exec (.load h body) s = .next (acceptLoad rq e (t.accCtr + 1)
      (complete rq .ok ((t.accCtr + 1) * 256 + cfgHandle body) { t with accCtr := t.accCtr + 1 }))) ∧
  (∀ (h : Hdr) (body : Nat) (x : FnHandle) (s t : State) (rq : Req),
    admitted (linkReq 0x14 h body) (postedChecks (cfgBad 4 body) none false false []) 64 64 s = some (rq, t) →
    (bit body 80 = true → recordAt t (bits body 79 32) 32 = true) → tget t.handles (cfgHandle body) = some x →
    x.tenant = h.tenant →
    exec (.unbind h body) s = .next (
      let u := complete rq .ok ((t.accCtr + 1) * 256 + cfgHandle body) { t with accCtr := t.accCtr + 1 }
      let v := (x.current ++ x.staged).foldl (fun v k => unassign k.2 v)
        { u with handles := terase u.handles (cfgHandle body) }
      endCfg ⟨rq, v.time⟩ (t.accCtr + 1) .ok 0xFF (cfgHandle body) 0 v))

/-- Clusters load, fail, drain and reload (R112, R117, R122, R132): the pending load of an EMPTY cluster on an awake die begins
with empty stores; its end zeroes the scratchpads where R112 asks for it, arms the cluster with the image whose digest matches,
and opens its handle; a failed load leaves it EMPTY, its record written and counted; a drained cluster begins the load that it
waits for, or is released; an overdue drain raises cfg_event; after a wake the clusters that held an image are loaded again.
A failing tile of an ARMED or RUNNING cluster with a spare left is replaced and the cluster loaded again, the calls of a
RUNNING one failing; without a spare, the cluster's calls and its load fail and it is OFFLINE, counted out of service (R21,
R117, R556).
Each of these commands completes here, on conditions on its operands and the state alone: clusterLoadStart,
clusterLoadComplete, clusterLoadFail, clusterDrainComplete, drainOverdue, clusterReloadAfterWake, tileFailure. -/
def Obligations.ClusterCommandsComplete : Prop :=
  (∀ (c : Nat) (j : LoadJob) (s : State), (cluster s c).st = .empty → (cluster s c).load = some j →
    awake s (fabricDom (c / 16)) = true →
    exec (.clusterLoadStart c) s = .next (clearTiles c (setCluster c (fun x =>
      { x with st := .loading, load := some { j with started := some s.time } }) s))) ∧
  (∀ (c : Nat) (j : LoadJob) (s : State), (cluster s c).st = .loading → (cluster s c).load = some j → j.dropped = false →
    anyBad s j.image.offset j.image.bytes = false →
    shake256 j.image.bytes (readMem s j.image.offset j.image.bytes) = j.image.digest →
    exec (.clusterLoadComplete c) s = .next (
      let img := readMem s j.image.offset j.image.bytes
      let u := if zeroes (cluster s c) j then zeroPads c s else s
      let v := setCluster c (fun y => { y with
          st := .armed, info := some j.image, copy := img, slot := j.slot, load := none, lastTenant := some j.tenant,
          reload := false })
        (configureTiles c j.role img u)
      let w := endLoad j c .ok v
      ((cluster s c).handle.map (fun h => if j.acc.isNone then resumeCluster h c w else tryOpen h w)).getD w)) ∧
  (∀ (c a : Nat) (j : LoadJob) (p : Posted) (why : LoadFault) (st : Status) (s : State), (cluster s c).st = .loading →
    (cluster s c).load = some j → j.dropped = false → j.acc = some a → tget s.loading a = some p →
    st = (if why = .poison then .poison else .checkFail) →
    exec (.clusterLoadFail c why) s = .next (
      let v := bump 0x4020 6 1 (clearTiles c (setCluster c (fun x =>
        { x with st := .empty, info := none, copy := 0, load := none }) s))
      endCfg p a st j.slot (cfgHandle p.req.body) c
        (setCluster c (fun x => { x with lastStatus := statusCode st }) { v with loading := terase v.loading a }))) ∧
  (∀ (c : Nat) (s : State), (cluster s c).st = .draining → callsOn s c = [] → (cluster s c).handle = none →
    exec (.clusterDrainComplete c) s = .next (releaseCluster c s)) ∧
  (∀ (c h : Nat) (y : FnHandle) (s : State), (cluster s c).st = .draining → callsOn s c = [] →
    (cluster s c).handle = some h → tget s.handles h = some y →
    (tget y.current (cluster s c).role = some c ∨ tget y.staged (cluster s c).role = some c) →
    exec (.clusterDrainComplete c) s = .next (startLoad c (clearTiles c (setCluster c (fun x =>
      { x with st := .empty, info := none, copy := 0 }) s)))) ∧
  (∀ (c : Nat) (s : State), (cluster s c).st = .draining → obj s 0x4020 4 ≠ 0 →
    exec (.drainOverdue c) s = .next (raiseEvent 0x4020 5 0 s)) ∧
  (∀ (slice : Nat) (s : State), awake s (fabricDom slice) = true →
    exec (.clusterReloadAfterWake slice) s = .next (((List.range 16).filter (fun k =>
      (cluster s (16 * slice + k)).reload)).foldl (fun u k => reloadCluster (16 * slice + k) u) s)) ∧
  (∀ (c j : Nat) (s : State), (cluster s c).st = .armed → (cluster s c).spares < 2 →
    exec (.tileFailure c j) s = .next (reloadCluster c (substitute c j s))) ∧
  (∀ (c j : Nat) (s : State), (cluster s c).st = .running → (cluster s c).spares < 2 →
    exec (.tileFailure c j) s = .next (reloadCluster c (failCalls c (substitute c j s)))) ∧
  (∀ (c j : Nat) (l : LoadJob) (s : State), (cluster s c).st = .loading → (cluster s c).load = some l →
    (cluster s c).spares < 2 →
    exec (.tileFailure c j) s = .next (let u := substitute c j s
      setCluster c (fun y => { y with load := some { l with started := some u.time } }) u)) ∧
  (∀ (c j : Nat) (s : State), (cluster s c).st = .armed ∨ (cluster s c).st = .running → 2 ≤ (cluster s c).spares →
    (cluster s c).load = none →
    exec (.tileFailure c j) s = .next (
      let u := cfgEvent (unassignRole c (failCalls c s))
      let v := clearTiles c (setCluster c (fun y => { y with
        st := .offline, handle := none, staged := false, info := none, copy := 0, load := none, reload := false }) u)
      setObj 0xB060 2 (obj v 0xB060 2 + 1) v))

/-- INVOKE on an open handle with well-formed arguments answers its acceptance and puts the call in flight on the handle's
clusters; the end of a call that no certified merge or packing computes performs its writes, writes its record and owes its
signal, once the far extents that it writes are near (R119, R121, R126 to R129, R195).
Each of these commands completes here, on conditions on its operands and the state alone: invoke, callComplete. -/
def Obligations.CallsComplete : Prop :=
  (∀ (h : Hdr) (body : Nat) (x : FnHandle) (s t : State) (rq : Req),
    admitted (linkReq 0x13 h body)
      (postedChecks (invBad body) (some 64) (invTooLong s h body) false (handleDoms s (invHandle body)))
      (32 + 16 * invArgs body) (max 64 (32 + 16 * invArgs body)) s = some (rq, t) →
    (bit body 80 = true → recordAt t (bits body 79 32) 32 = true) → invArgs body ≠ 0 →
    tget t.handles (invHandle body) = some x → x.st = .active ∨ x.st = .staging → reloading t x = false →
    (List.range (invArgs body)).all (fun i => !(isBuffer (argKind (invArg body i)) && argLen (invArg body i) == 0) &&
      (x.image.args[i]?).map (·.1) == some (argKind (invArg body i))) = true →
    (shapeOf (certifiedId x.image) body).unsupported = false → (shapeOf (certifiedId x.image) body).empty = false →
    certifiedId x.image ≠ some 0x00010010 → certifiedId x.image ≠ some 0x00010041 →
    (callsOf t (invHandle body)).length < 64 →
    exec (.invoke h body) s = .next (addCall rq (t.accCtr + 1) (invHandle body) x
      (complete rq .ok (t.accCtr + 1) { t with accCtr := t.accCtr + 1 }))) ∧
  (∀ (acc : Nat) (k : Call) (r : CallResult) (s : State), tget s.calls acc = some k → k.posted.req.op = 0x13 →
    tget s.handles k.handle = none →
    exec (.callComplete acc r) s = .next (finishCall acc k r s)) ∧
  (∀ (acc : Nat) (k : Call) (x : FnHandle) (r : CallResult) (s : State), tget s.calls acc = some k →
    k.posted.req.op = 0x13 → tget s.handles k.handle = some x → certifiedId x.image ≠ some 0x00010011 →
    certifiedId x.image ≠ some 0x00010041 → r.writes = [] →
    exec (.callComplete acc r) s = .next (endCall acc k (callStatus s k false r) r.result (freeTiles k s)))

/-! ## Placement and tiering -/

/-- A placement command that passes the checks made at acceptance joins the queue of placement commands and is answered with
its acceptance identifier (R179 to R181): the seven commands alike.
A placement command executes once no earlier one on its object or shadow is left (R180, R185): a failing one ends with its
status and its record; one that succeeds ends once the moves it waits for are over, a deactivation freeing its entry and its
copy at the master and nothing else, a SHADOW_RETIRE its shadow, once no substitution from it is in flight (R204, R568).
Each of these commands completes here, on conditions on its operands and the state alone: objectActivate, objectDeactivate,
setPolicy, migrate, shadowRegister, shadowRetire, shadowValidate, placementExecute. -/
def Obligations.PlacementCommandsComplete : Prop :=
  (∀ (h : Hdr) (body : Nat) (s t : State) (rq : Req),
      (bit body 80 = true → recordAt t (bits body 79 32) 32 = true) → drainRefuses t body = false →
      placeChecks t body h.tenant = none → placeLengths t body = false → (plOp body = 4 ∨ plOp body = 7 → plCount body ≠ 0) →
      t.placeQ.length < 256 →
      let taken := fun op => admitted (linkReq 0x15 h body) (postedChecks (plBad op body) none false false []) 64 64 s = some (rq, t)
      let u : State := complete rq .ok (t.accCtr + 1) { t with
        accCtr := t.accCtr + 1, placeQ := t.placeQ ++ [⟨t.accCtr + 1, rq, t.time, false, []⟩] }
      (taken 1 → exec (.objectActivate h body) s = .next u) ∧ (taken 2 → exec (.objectDeactivate h body) s = .next u) ∧
      (taken 3 → exec (.setPolicy h body) s = .next u) ∧ (taken 4 → exec (.migrate h body) s = .next u) ∧
      (taken 5 → exec (.shadowRegister h body) s = .next u) ∧ (taken 6 → exec (.shadowRetire h body) s = .next u) ∧
      (taken 7 → exec (.shadowValidate h body) s = .next u)) ∧
  (∀ (acc : Nat) (peers : List Nat) (c : PlaceCmd) (s u : State) (st : Status) (w : NSet),
    s.placeQ.find? (fun c => c.acc == acc && !c.executed) = some c →
    s.placeQ.any (fun x => decide (x.acc < acc) && plNames x.req.body == plNames c.req.body) = false →
    (plOp c.req.body = 6 → substituting s (plShadow c.req.body) = false) →
    runPlace c.req.body c.req.hdr.tenant peers s = (st, u, w) →
    exec (.placementExecute acc peers) s = .next (if st = .ok then settlePlacement { u with placeQ := u.placeQ.map (fun x =>
        if x.acc = acc then { x with executed := true, waits := w } else x) }
      else settlePlacement (endPlace c st u))) ∧
  (∀ (b tenant : Nat) (peers : List Nat) (s : State), placeChecks s b tenant = none → plOp b = 2 →
    runPlace b tenant peers s =
      (.ok, copyEntry (plObject b) 0 { s with placed := terase s.placed (plObject b) }, [])) ∧
  (∀ (b tenant : Nat) (peers : List Nat) (s : State), placeChecks s b tenant = none → plOp b = 6 →
    runPlace b tenant peers s = (.ok, { s with shadows := terase s.shadows (plShadow b) }, []))

/-- The migration engine (R187, R190, R191): the next promotion starts into a free frame with the flash dies awake and commits
its extent NEAR; the next demotion, or an eviction of the extent that R188 chooses, starts and, with no directory entry over
the extent, commits it FAR, its lines leaving the store cache; an extent that is programmed leaves staging; a stalled access
resumes; writes whose copies are not acknowledged in time complete, the object DEGRADED (R177, R188, R208).
Each of these commands completes here, on conditions on its operands and the state alone: promotionStart, promotionCommit,
demotionStart, demotionCommit, stagingProgrammed, stalledAccessResume, protectionAckTimeout. -/
def Obligations.MigrationCompletes : Prop :=
  (∀ (ext : Nat) (m : Move) (s : State), frameFree s (wantedLayout s ext) = true → nextMove s = some m → m.extent = ext →
    m.up = true → m.relayout = false → inFlightMoves s < 16 → flashAwake s = true →
    exec (.promotionStart ext) s = .next (
      let u := modMove ext true (fun m => { m with started := some s.time }) s
      { u with extents := tmod u.extents ext (fun x => { x with st := .movingUp, slice := wantedLayout s ext }) })) ∧
  (∀ (ext : Nat) (m : Move) (s : State), s.moves.find? (fun m => m.extent == ext && m.up && m.started.isSome) = some m →
    m.relayout = false →
    exec (.promotionCommit ext []) s = .next (settlePlacement (bump 0x3011 5 1 { s with
      moves := s.moves.filter (fun x => x.extent != ext || !x.up),
      extents := tmod s.extents ext (fun x => { x with st := .near, staged := false, accessed := true, idle := 0 }) }))) ∧
  (∀ (ext : Nat) (m : Move) (s : State), nextMove s = some m → m.extent = ext → m.up = false → inFlightMoves s < 16 →
    flashAwake s = true →
    exec (.demotionStart ext) s = .next (
      let u := modMove ext false (fun m => { m with started := some s.time }) s
      { u with extents := tmod u.extents ext (fun x => { x with st := .movingDown }) })) ∧
  (∀ (ext : Nat) (s : State), nextMove s = none → evictable s ext = true → inFlightMoves s < 16 → flashAwake s = true →
    exec (.demotionStart ext) s = .next (
      let u := sweep s
      { u with moves := u.moves ++ [⟨ext, false, false, false, some u.time, false, 0⟩],
               extents := tmod u.extents ext (fun x => { x with st := .movingDown }) })) ∧
  (∀ (ext : Nat) (s : State), extState s ext = some .movingDown → s.openReqs = [] → heldLines s ext = [] → s.snoops = [] →
    exec (.demotionCommit ext) s = .next (settlePlacement (bump 0x3011 6 1 { flushStore (fun l => l / 32768 == ext) s with
      moves := s.moves.filter (fun m => m.extent != ext || m.up),
      extents := tmod s.extents ext (fun x => { x with st := .far, staged := true }) }))) ∧
  (∀ (ext : Nat) (s : State), flashAwake s = true → undisturbed s = true →
    exec (.stagingProgrammed ext) s =
      .next { s with extents := tmod s.extents ext (fun x => { x with staged := false }) }) ∧
  (∀ (k : Nat) (x : Stall) (s : State), tget s.stalls k = some x → x.snooped = false → x.bad = true →
    (∀ e ∈ x.extent, isFar s e = false) → (∀ d ∈ x.dom, awake s d = true) →
    exec (.stalledAccessResume k) s =
      .next (runQps (settleTiles (accessDone x.who 0 true { s with stalls := terase s.stalls k })))) ∧
  (∀ (n : Nat) (o : PObject) (s : State), tget s.placed n = some o → o.unacked ≠ 0 → o.degraded = false →
    exec (.protectionAckTimeout n) s = .next (settle (copiesDone n (raiseEvent 0x3010 8 0 (bump 0x3011 7 o.unacked
      { s with placed := tset s.placed n { o with degraded := true, unacked := 0 } })))))

/-! ## Compressed streams -/

/-- INSTALL in a FREE slot begins the build of its table and RETIRE of an idle VALID one frees it with its record; the built
table makes the slot VALID with its next generation, and the last queued block of a RETIRING slot frees it (R222, R223).
A stream READ with a good head is accepted; its map check pins the slots of its blocks; each block is decoded and written
through the expander of the link that R406 chooses (R220) to its destination and counted; its end writes its record and sends its signal (R228 to R231).
Each of these commands completes here, on conditions on its operands and the state alone: tableInstall, tableSlotRetire,
tableInstallBuilt, slotQueuedZero, streamRead, streamMapCheck, streamBlockWrite, streamReadComplete. -/
def Obligations.StreamCommandsComplete : Prop :=
  (∀ (h : Hdr) (body : Nat) (s t : State) (rq : Req),
    admitted (linkReq 0x16 h body) (postedChecks (stBad 2 body) none false false []) 64 64 s = some (rq, t) →
    stRecordOk t body = true → stOffset body % 64 = 0 → (slotAt t (stSlot body)).st = 0 →
    (slotAt t (stSlot body)).gen ≠ 0xFFFFFFFF → stOffset body + 576 ≤ memRange t →
    exec (.tableInstall h body) s = .next (
      let u := complete rq .ok (t.accCtr + 1) { t with accCtr := t.accCtr + 1 }
      readImage (stSlot body) (setSlot (stSlot body) (fun x => { x with
        st := 1, tenant := rq.hdr.tenant, image := none, queued := 0, job := some (t.accCtr + 1, ⟨rq, t.time⟩) }) u))) ∧
  (∀ (h : Hdr) (body : Nat) (s t : State) (rq : Req),
    admitted (linkReq 0x16 h body) (postedChecks (stBad 3 body) none false false []) 64 64 s = some (rq, t) →
    stRecordOk t body = true → (slotAt t (stSlot body)).st = 2 → (slotAt t (stSlot body)).tenant = h.tenant →
    (slotAt t (stSlot body)).queued = 0 →
    exec (.tableSlotRetire h body) s = .next (
      let u := complete rq .ok (t.accCtr + 1) { t with accCtr := t.accCtr + 1 }
      endStream ⟨rq, t.time⟩ (t.accCtr + 1) .ok (stSlot body) 0 0
        (setSlot (stSlot body) (fun x => { x with st := 0, image := none }) u))) ∧
  (∀ (k v acc : Nat) (p : Posted) (s : State), (slotAt s k).st = 1 → (slotAt s k).image = some v →
    (slotAt s k).job = some (acc, p) →
    exec (.tableInstallBuilt k) s = .next (endStream p acc .ok k ((slotAt s k).gen + 1) 0
      (setSlot k (fun t => { t with st := 2, gen := t.gen + 1, crc := imgCrc v, queued := 0, job := none }) s))) ∧
  (∀ (k acc : Nat) (p : Posted) (s : State), (slotAt s k).st = 3 → (slotAt s k).queued = 0 →
    (slotAt s k).job = some (acc, p) →
    exec (.slotQueuedZero k) s = .next (endStream p acc .ok k 0 0
      (setSlot k (fun t => { t with st := 0, image := none, job := none }) s))) ∧
  (∀ (h : Hdr) (body : Nat) (s t : State) (rq : Req),
    admitted (linkReq 0x16 h body) (postedChecks (stBad 1 body) none false false
      (if stOffset body + 64 ≤ memRange s then (homesOf s (stOffset body) 64).map homeDom else [])) 64 64 s = some (rq, t) →
    stRecordOk t body = true → stDest body / 2 ^ 48 ≠ pkgNo t → stOffset body % 64 = 0 → stDest body % 64 = 0 →
    objectAt t (extentOf (stOffset body)) = none → stCount body ≠ 0xFFFFFFFF → stLength body ≠ 0xFFFFFFFF →
    4096 * stCount body ≤ stLength body → stOffset body + 64 ≤ memRange t → farExtents t (stOffset body) 64 = [] →
    anyBad t (stOffset body) 64 = false → headStatus t body (readMem t (stOffset body) 64) = .ok → stCount body ≠ 0 →
    t.streams.length < 256 →
    exec (.streamRead h body) s = .next (complete rq .ok (t.accCtr + 1) { t with
      accCtr := t.accCtr + 1, streams := tset t.streams (t.accCtr + 1) ⟨⟨rq, t.time⟩, none, 0, 0, none⟩ })) ∧
  (∀ (acc : Nat) (x : StreamRead) (s : State), tget s.streams acc = some x → x.map = none → x.fail = none →
    let off := stOffset x.posted.req.body
    let n := headCount (readMem s off 64)
    let v := readMem s off (64 + 8 * n)
    let q := unpeek acc (touch off (64 + 8 * n) s)
    engineReads s off (64 + 8 * n) = true →
    mapStatus q x.posted.req.hdr.tenant (v % 2 ^ 512) (v >>> 512) (stCount x.posted.req.body) = none →
    exec (.streamMapCheck acc) s = .next (setStream acc (fun x => { x with map := some (v >>> 512), at_ := off + blocksAt n })
      (pinBlocks (v >>> 512) 0 (stCount x.posted.req.body) true q))) ∧
  (∀ (acc map k data : Nat) (x : StreamRead) (s : State), tget s.streams acc = some x → x.map = some map → x.fail = none →
    let b := x.posted.req.body
    let e := mapEntry map x.next
    let dest := stDest b + 4096 * x.next
    let q := unpeek acc (touch x.at_ (span e) s)
    x.next < stCount b → enLen e ≠ 0 → pathLink s dest = some k → awake s (quadDom k) = true →
    engineReads s x.at_ (span e) = true → blockBytesOf q e x.next (readMem s x.at_ (span e)) = some data →
    exec (.streamBlockWrite acc .ok) s = .next (
      let u := emit (.streamWrite k dest 4096 data (stKey b) x.posted.req.hdr.tenant x.posted.req.hdr.cls)
        (sendFlits k x.posted.req.hdr.cls 4120 (meterOut x.posted.req.hdr.requester 4096 q))
      bump 0x7043 3 4096 (bump 0x7043 2 1 (setStream acc (fun x => { x with next := x.next + 1, at_ := x.at_ + span e })
        (pinBlocks map x.next 1 false u))))) ∧
  (∀ (acc : Nat) (x : StreamRead) (s : State), tget s.streams acc = some x → x.map.isSome = true → x.fail = none →
    stCount x.posted.req.body ≤ x.next →
    exec (.streamReadComplete acc) s =
      .next (endStream x.posted acc .ok 0 0 x.next { s with streams := terase s.streams acc }))

/-! ## Attention -/

/-- An arena of a valid descriptor is activated at the position its body names; DEACTIVATE of an idle one frees it; DISCARD
advances its pending generation and empties its slots (R135, R140, R144, R145).
APPEND stores its rows in empty slots of near pending pages; COMMIT of written slots at next_pos is accepted; its end
copies the rows, advances next_pos and empties the slots (R147, R149, R150).
Each of these commands completes here, on conditions on its operands and the state alone: arenaActivate, arenaDeactivate,
discard, append, commit, commitPublish. -/
def Obligations.ArenaCommandsComplete : Prop :=
  (∀ (h : Hdr) (body : Nat) (s t : State) (rq : Req),
    admitted (linkReq 0x10 h body) (postedChecks (arenaBad body true) (some 64)
      (bits body 95 64 == 0xFFFFFFFF || h.length != 1) false [homeDom (homeOf s (descOffset s (attnArena body)))])
      (64 * h.length) (max 64 (64 * h.length)) s = some (rq, t) →
    tget t.arenas (attnArena body) = none → farExtents t (descOffset t (attnArena body)) 128 = [] →
    anyBad t (descOffset t (attnArena body)) 128 = false →
    let d := readMem t (descOffset t (attnArena body)) 128
    arTooLong t d = false → arZero d = false → arBad t d = false →
    exec (.arenaActivate h body) s = .next (complete rq .ok 0 (countArenas { t with
      arenas := tset t.arenas (attnArena body) ⟨d, rq.hdr.tenant, nextOwn d (bits body 95 64), 0, [], none⟩ }))) ∧
  (∀ (h : Hdr) (body : Nat) (x : Arena) (s t : State) (rq : Req),
    admitted (linkReq 0x10 h body) (postedChecks (arenaBad body false) (some 64) (false || h.length != 1) false [])
      (64 * h.length) (max 64 (64 * h.length)) s = some (rq, t) →
    tget t.arenas (attnArena body) = some x → x.tenant = h.tenant → arenaBusy t (attnArena body) = false →
    exec (.arenaDeactivate h body) s = .next (complete rq .ok 0 (countArenas { t with
      arenas := terase t.arenas (attnArena body) }))) ∧
  (∀ (h : Hdr) (body : Nat) (x : Arena) (s t : State) (rq : Req),
    admitted (linkReq 0x10 h body) (postedChecks (bits body 511 20 != 0 || attnOp body != 4) (some 64)
      (false || h.length != 1) false []) (64 * h.length) (max 64 (64 * h.length)) s = some (rq, t) →
    tget t.arenas (attnArena body) = some x → x.tenant = h.tenant → x.copying = none →
    exec (.discard h body) s = .next (complete rq .ok 0 { t with
      arenas := tset t.arenas (attnArena body) { x with gen := x.gen + 1, slots := [] } })) ∧
  (∀ (h : Hdr) (body : Nat) (x : Arena) (s t : State) (rq : Req),
    admitted (linkReq 0x10 h body) (postedChecks (bits body 511 63 != 0 || bits body 55 54 != 0 || bit body 47 ||
      bits body 23 20 != 0 || attnOp body != 2) (some 64)
      (appendTooLong s body || (match appendLen s body with | some n => h.length != n | none => false)) false (appendDoms s body))
      (64 * h.length) (max 64 (64 * h.length)) s = some (rq, t) →
    tget t.arenas (attnArena body) = some x → x.tenant = h.tenant → (apRows body).isEmpty = false →
    appendWritten x body = false → appendWaits t x body = false → (appendPages t x.desc body).contains none = false →
    farPage t x.desc (appendPages t x.desc body) = none → (appendRows rq x t).1 = .ok →
    exec (.append h body) s = .next (complete rq .ok 0 (appendRows rq x t).2)) ∧
  (∀ (h : Hdr) (body : Nat) (x : Arena) (s t : State) (rq : Req),
    admitted (linkReq 0x10 h body) (postedChecks (bits body 511 384 != 0 || bits body 319 304 != 0 || bits body 287 96 != 0 ||
      bits body 63 39 != 0 || bits body 31 20 != 0 || attnOp body != 3 ||
      (decide (coCount body ≤ 64) && bits body 1023 (512 + 8 * coCount body) != 0)) (some 64)
      (decide (64 < coCount body) || h.length != 2) false []) (64 * h.length) (max 64 (64 * h.length)) s = some (rq, t) →
    tget t.arenas (attnArena body) = some x → x.tenant = h.tenant → coCount body ≠ 0 →
    coBase body + coCount body ≤ (coBase body / arStripe x.desc + 1) * arStripe x.desc →
    (layerHeads x.desc).any (fun lg => (List.range (coCount body)).any (fun i =>
      (posPage t x.desc lg.1 lg.2 (coBase body + i)).isNone)) = false →
    coBase body = x.nextPos → (coSlots body).all (fun k => decide (k < 64)) = true →
    (coSlots body).eraseDups.length = coCount body →
    (layerHeads x.desc).any (fun lg => (coSlots body).any (fun k => !(x.slots.contains (slotKey lg.1 lg.2 k)))) = false →
    x.copying = none →
    let y : Arena := { x with copying := some (t.accCtr + 1, t.time + 1000 + ceilDiv (commitBytes x.desc (coCount body)) 100) }
    exec (.commit h body) s = .next (complete rq .ok (t.accCtr + 1) { t with
      accCtr := t.accCtr + 1, arenas := tset t.arenas (attnArena body) y,
      commits := tset t.commits (t.accCtr + 1) ⟨rq, t.time⟩ })) ∧
  (∀ (acc : Nat) (p : Posted) (x : Arena) (s : State), tget s.commits acc = some p →
    tget s.arenas (attnArena p.req.body) = some x → commitFar s x.desc p.req.body = [] → bit p.req.body 303 = false →
    exec (.commitPublish acc) s = .next (
      let u := commitCopies p.req x.desc s
      bump 0x5011 4 (coCount p.req.body) { u with
        arenas := tset u.arenas (attnArena p.req.body) { x with
          gen := x.gen + 1, slots := [], nextPos := nextOwn x.desc (x.nextPos + coCount p.req.body), copying := none },
        commits := terase u.commits acc }))

/-- ATTEND of an active arena's tenant on ready handles is accepted; its dispatch takes its inline queries and binds it to the
arena as it stands, or holds it; a held one binds once nothing holds it any more, or runs out with a DEFER partial (R153 to
R157).
A bound ATTEND whose rows can be read, owned lines taken from their owners, writes its partial and signals it, and one of
whose tiles has failed a partial that says INTERNAL; a merge whose partials have all signalled and
whose blocks are near combines them; one whose time is up writes a DEFER block (R158 to R166).
Each of these commands completes here, on conditions on its operands and the state alone: attend, attendDispatch,
attendBindAfterHold, attendHoldExpired, partialWritten, mergeSyncReached, mergeTimeout. -/
def Obligations.AttentionCommandsComplete : Prop :=
  (∀ (h : Hdr) (body : Nat) (x : Arena) (s t : State) (rq : Req),
    admitted (linkReq 0x10 h body) (postedChecks (attendBad body) (some 64)
      (attendTooLong s body || (match attendLen s body with | some n => h.length != n | none => false)) false
      (attendDoms s body)) (64 * h.length) (max 64 (64 * h.length)) s = some (rq, t) →
    tget t.arenas (attnArena body) = some x → atHeads body ≠ 0 → atPos body ≠ 0 → attendRefused t x.desc body = false →
    x.tenant = h.tenant → (attendHandles x.desc body).any (fun h => (tget t.handles h).isNone) = false →
    attendNotReady t (attendHandles x.desc body) = none → attendFull t (attendHandles x.desc body) = false →
    exec (.attend h body) s = .next (acceptAttend rq (attendHandles x.desc body) t)) ∧
  (∀ (acc : Nat) (q : Remote) (y : Attend) (x : Arena) (s : State), tget s.attends acc = some y →
    tget s.arenas (attnArena y.posted.req.body) = some x → y.st = 0 → atInline y.posted.req.body = true →
    let b := y.posted.req.body
    let z : Attend := { y with
      armed := mergesHere x.desc b,
      queries := bits b (8 * (queriesAt b + queryBytes x.desc b) - 1) (8 * queriesAt b) }
    exec (.attendDispatch acc q) s = .next (bindAttend acc z x s)) ∧
  (∀ (acc : Nat) (y : Attend) (x : Arena) (s : State), tget s.attends acc = some y →
    tget s.arenas (attnArena y.posted.req.body) = some x → y.st = 1 → mustHold x y.posted.req.body = false →
    exec (.attendBindAfterHold acc) s =
      .next { s with attends := tset s.attends acc { y with st := 2, nextPos := x.nextPos, gen := x.gen } }) ∧
  (∀ (acc : Nat) (y : Attend) (x : Arena) (s : State), tget s.attends acc = some y →
    tget s.arenas (attnArena y.posted.req.body) = some x → y.st = 1 →
    exec (.attendHoldExpired acc) s = .next (headerOnly acc y x.desc .defer 0 (bump 0x5011 2 1 s))) ∧
  (∀ (acc : Nat) (y : Attend) (x : Arena) (s : State), tget s.attends acc = some y →
    tget s.arenas (attnArena y.posted.req.body) = some x → y.st = 2 → y.written = false → y.unread = false →
    y.failed = false → (commandRows s x.desc y).all (fun r => !(rowState s r).far) = true →
    let b := y.posted.req.body
    farOut s (partialAt x.desc b) (blockSize x.desc (records x.desc b)) = [] →
    let ls := commandLines x.desc y (commandRows s x.desc y)
    let q := poisonDead ls s
    peekWait acc ls q = none →
    exec (.partialWritten acc false) s =
      .next (writePartial acc y x.desc (commandRows q x.desc y) (unpeek acc (settleLines acc q)))) ∧
  (∀ (acc : Nat) (y : Attend) (x : Arena) (s : State), tget s.attends acc = some y →
    tget s.arenas (attnArena y.posted.req.body) = some x → y.st = 2 → y.written = false → y.unread = false →
    exec (.partialWritten acc true) s = .next (headerOnly acc y x.desc .internal 0 s)) ∧
  (∀ (acc : Nat) (y : Attend) (x : Arena) (s : State), tget s.attends acc = some y →
    tget s.arenas (attnArena y.posted.req.body) = some x → y.armed = true →
    let b := y.posted.req.body
    let span := atStride b * arMembers x.desc
    arMembers x.desc ≤ (syncObj s (atSync b)).value → farExtents s (blockAt b 0) span = [] →
    farOut s (atOut b) (blockSize x.desc (records x.desc b)) = [] →
    let ls := linesOf (blockAt b 0) span
    let q := poisonDead ls s
    peekWait acc ls q = none →
    exec (.mergeSyncReached acc) s = .next (mergePartials acc y x.desc (unpeek acc (settleLines acc q)))) ∧
  (∀ (acc : Nat) (y : Attend) (x : Arena) (s : State), tget s.attends acc = some y →
    tget s.arenas (attnArena y.posted.req.body) = some x → y.armed = true →
    let b := y.posted.req.body
    (syncObj s (atSync b)).value < arMembers x.desc →
    exec (.mergeTimeout acc) s = .next (mergeOver acc y ((fabricWrite y.posted.req (atOut b) 64
      (blockHeader s x.desc b 2 (statusCode .defer) 0xF (maskOf (arrivedMembers s x.desc b)) 0) (bits b 447 416)
      (bump 0x5011 7 1 s)).2)))

/-! ## Embedding tables -/

/-- GATHER, POOL, SCATTER, UPDATE and DELETE of an active table of the tenant are accepted with room for their output: the
request is bound to the table's current version and answers its acceptance identifier (R241, R245, R246).
TABLE operations (R240, R241, R243): ACTIVATE of a valid descriptor in an inactive slot starts its next version and its header
is to be written; REPLACE starts a further version, its header waiting; DEACTIVATE retires every version; a version without
requests or forwarded rows is freed, and the headers that waited for it are to be written.
Each of these commands completes here, on conditions on its operands and the state alone: gather, pool, scatter, update,
oryxDelete, tableActivate, tableReplace, tableDeactivate, tableVersionFreed. -/
def Obligations.TableCommandsComplete : Prop :=
  (∀ (h : Hdr) (body : Nat) (s t : State) (rq : Req),
      let k := orTable body
      let x : OReq := ⟨⟨rq, t.time⟩, (otable t k).current, none, false, 0, 0, 0, 0, 0, [], 0, false, .ok, false, false, none⟩
      let u : State := complete rq .ok (t.accCtr + 1) { t with
        accCtr := t.accCtr + 1, oreqs := tset t.oreqs (t.accCtr + 1) x }
      admitted (linkReq 0x11 h body) (postedChecks (orBad body) none false false [homeDom (orTable body % 8)]) 64 64 s =
        some (rq, t) →
      ((otable t k).st = 1 ∨ (otable t k).st = 2) → (otable t k).tenant = h.tenant →
      orCount body ≠ 0 → orCount body ≤ 4096 → orBags body ≤ 4096 → orLength body ≠ 0xFFFFFFFF → orBytes t body ≤ orLength body →
      oryxInFlight t < 1024 →
      (orCodes 1 body = false → exec (.gather h body) s = .next u) ∧
      (orCodes 2 body = false → orBags body ≠ 0 → exec (.pool h body) s = .next u) ∧
      (orCodes 3 body = false → exec (.scatter h body) s = .next u) ∧
      (orCodes 4 body = false → odOpt (odOf t k (otable t k).current) ≠ 0 → exec (.update h body) s = .next u) ∧
      (orCodes 5 body = false → exec (.oryxDelete h body) s = .next u)) ∧
  (∀ (h : Hdr) (body : Nat) (s t : State) (rq : Req),
    admitted (linkReq 0x11 h body) (postedChecks (orBad body) none false false [homeDom (orTable body % 8)]) 64 64 s =
      some (rq, t) →
    orCodes 6 body = false → orSub body = 0 → (otable t (orTable body)).st = 0 → orLength body ≠ 0xFFFFFFFF →
    64 ≤ orLength body → bits body 207 160 + 128 ≤ memRange t → oryxInFlight t < 1024 →
    let d := readMem t (bits body 207 160) 128
    anyBad t (bits body 207 160) 128 = false → odStatus t d rq.hdr.tenant = .ok → odRowBytes d ≠ 0 → odRows d ≠ 0 →
    let acc := t.accCtr + 1
    let w : State := complete rq .ok acc { t with accCtr := acc }
    let v := (otable t (orTable body)).last + 1
    exec (.tableActivate h body) s = .next (endTable ⟨rq, w.time⟩ acc .ok v (setOtable (orTable body) (fun t =>
      { t with st := 1, tenant := rq.hdr.tenant, last := v, current := v, versions := tset t.versions v d }) w))) ∧
  (∀ (h : Hdr) (body : Nat) (s t : State) (rq : Req),
    admitted (linkReq 0x11 h body) (postedChecks (orBad body) none false false [homeDom (orTable body % 8)]) 64 64 s =
      some (rq, t) →
    orCodes 6 body = false → orSub body = 1 → (otable t (orTable body)).st = 1 →
    (otable t (orTable body)).tenant = h.tenant → orLength body ≠ 0xFFFFFFFF → 64 ≤ orLength body →
    bits body 207 160 + 128 ≤ memRange t → oryxInFlight t < 1024 →
    let d := readMem t (bits body 207 160) 128
    anyBad t (bits body 207 160) 128 = false → odStatus t d rq.hdr.tenant = .ok → odRowBytes d ≠ 0 → odRows d ≠ 0 →
    let acc := t.accCtr + 1
    let w : State := complete rq .ok acc { t with accCtr := acc }
    let v := (otable t (orTable body)).last + 1
    exec (.tableReplace h body) s = .next (setOtable (orTable body) (fun t => { t with jobs := t.jobs ++ [(acc, ⟨rq, w.time⟩)] })
      (setOtable (orTable body) (fun t =>
        { t with st := 2, tenant := rq.hdr.tenant, last := v, current := v, versions := tset t.versions v d }) w))) ∧
  (∀ (h : Hdr) (body : Nat) (s t : State) (rq : Req),
    admitted (linkReq 0x11 h body) (postedChecks (orBad body) none false false [homeDom (orTable body % 8)]) 64 64 s =
      some (rq, t) →
    orCodes 6 body = false → orSub body = 2 → ((otable t (orTable body)).st = 1 ∨ (otable t (orTable body)).st = 2) →
    (otable t (orTable body)).tenant = h.tenant → orLength body ≠ 0xFFFFFFFF → 64 ≤ orLength body → oryxInFlight t < 1024 →
    let acc := t.accCtr + 1
    let w : State := complete rq .ok acc { t with accCtr := acc }
    exec (.tableDeactivate h body) s = .next (((otable t (orTable body)).versions.map (·.1)).foldl
      (fun s v => returnVersion (orTable body) v s)
      (setOtable (orTable body) (fun t => { t with st := 3, jobs := t.jobs ++ [(acc, ⟨rq, w.time⟩)] }) w))) ∧
  (∀ (k : Nat) (s : State), ((otable s k).st = 2 ∨ (otable s k).st = 3) → s.forwards = [] →
    (retiringOf (otable s k)).all (fun v => decide (versionBound s k v = 0)) = true →
    exec (.tableVersionFreed k) s = .next (
      let u := (retiringOf (otable s k)).foldl (fun s v => returnVersion k v s) s
      oryxEvent ((otable s k).jobs.foldl (fun s j => endTable j.2 j.1 .ok (otable s k).current s)
        (setOtable k (fun t => { t with
          st := if t.st = 3 then 0 else 1, versions := t.versions.filter (fun e => !(retiringOf (otable s k)).contains e.1),
          jobs := [] })
          { u with forwards := u.forwards.filter (fun f =>
            !(f.row.slot == k && (retiringOf (otable s k)).contains f.row.version)) }))))

/-- A request on rows reads its index list in this package, at first and when it is issued again; performs one row operation
after the other, an index out of range being dropped and counted; serves the operation of another package's table on a row that
lives here; and ends with its header (R247, R249 to R251, R257, R261).
A row moves between engines (R260, R261): a shard window ends with its counts begun anew; a granted slot takes the record's
copy, and this package grants a slot of its hot area to another's row; the acknowledged copy is committed; the acknowledged
commit passes the lock and is counted; a commit that times out gives the move up; a returned row leaves the forwarded ones; a
row of an engine that is gone is lost.
Each of these commands completes here, on conditions on its operands and the state alone: oryxListRead, listReadReissue,
oryxRowOperation, oryxResultHeader, shardWindowEnd, hotSlotGranted, rowCopyAcked, rowCommitAcked, rowCommitTimeout,
rowReturnAcked, rowForwardLost. -/
def Obligations.RowCommandsComplete : Prop :=
  (∀ (acc : Nat) (idx bags : Remote) (x : OReq) (s : State), tget s.oreqs acc = some x → x.ended = false → x.lists = none →
    let b := x.posted.req.body
    let off := orIndex b % 2 ^ 48
    orOp b ≠ 2 → orIndex b / 2 ^ 48 = pkgNo s → obj s 0x7020 3 = 1 → engineReads s off (4 * orCount b) = true →
    let u : State := setOreq acc (fun x => { x with lists := some (readMem s off (4 * orCount b), 0) })
      (unpeek acc (touch off (4 * orCount b) (setOreq acc (fun x => { x with retry := false }) s)))
    (x.retry = false → exec (.oryxListRead acc idx bags) s = .next u) ∧
    (x.retry = true → exec (.listReadReissue acc idx bags) s = .next u)) ∧
  (∀ (acc idx : Nat) (data : List Remote) (answer : Remote) (acks : List Status) (x : OReq) (s : State),
    tget s.oreqs acc = some x → x.ended = false → x.lists = some (idx, 0) →
    let b := x.posted.req.body
    let d := odOf s (orTable b) x.version
    let r := rowOf x x.done
    (orOp b = 1 ∨ orOp b = 5) → tableBehind s acc (orTable b) = false → r.row < odRows d → forwardOf s r = none →
    recordWait acc (rowAt d r.row) (odRecord d) s = none →
    exec (.oryxRowOperation acc ⟨data, answer, acks, none⟩) s = .next (
      let o := rowHere acc x.posted.req d 0 (rowAt d r.row) false (countRow (homeOf s (rowAt d r.row)) d r s)
      finishEntry acc d x.done o.1.out o.1.row false acks (if o.1.wrote then markDirty r o.2 else o.2))) ∧
  (∀ (acc : Nat) (l : Nat × Nat) (data : List Remote) (answer : Remote) (acks : List Status) (x : OReq) (s : State),
    tget s.oreqs acc = some x → x.ended = false → x.lists = some l →
    let b := x.posted.req.body
    let d := odOf s (orTable b) x.version
    (orOp b = 1 ∨ orOp b = 5) → tableBehind s acc (orTable b) = false → odRows d ≤ (rowOf x x.done).row →
    exec (.oryxRowOperation acc ⟨data, answer, acks, none⟩) s = .next (finishEntry acc d x.done .range 0 false acks s)) ∧
  (∀ (acc : Nat) (data : List Remote) (answer : Remote) (acks : List Status) (c : RowCall) (g : HotGuest) (s : State),
    guestOf s c.row = some g → g.locked = true → recordWait (rowId c.row) g.at_ (odRecord g.desc) s = none →
    exec (.oryxRowOperation acc ⟨data, answer, acks, some c⟩) s = .next (
      let was := readMem (view (rowId c.row) s) g.at_ (16 + odRowBytes g.desc)
      let o := rowHere (rowId c.row) { rowReq g.tenant with body := c.body } g.desc c.value g.at_ false s
      emit (.member c.row.home 14 (c.row.slot * 2 ^ 32 + c.row.row)
        (statusCode (if o.1.out = .poison then .poison else .ok) + was * 256)) o.2)) ∧
  (∀ (acc : Nat) (ack : Status) (x : OReq) (s : State), tget s.oreqs acc = some x → x.ended = true →
    writeStalled s acc = false →
    exec (.oryxResultHeader acc ack) s = .next (writeHeader x.posted.req acc (oryxHeader { s with oreqs := terase s.oreqs acc }
      x.posted.req.body x.version x.status x.done x.droppedRange x.droppedDeleted x.forwarded) x.refused ack
      { s with oreqs := terase s.oreqs acc })) ∧
  (∀ (utils : List EngineLoad) (s : State), obj s 0x8010 6 = 0 →
    exec (.shardWindowEnd utils) s = .next { s with
      shards := [],
      forwards := (s.forwards.map (fun f => if f.st = 3 ∧ (f.ops < obj s 0x8010 5 ∨
          utils.any (fun u => u.draining && u.pkg == f.pkg)) then { f with st := 4 } else f)).map
        (fun f => { f with ops := 0 }) }) ∧
  (∀ (r : RowRef) (f : Forward) (off desc tenant : Nat) (s : State), r.home = pkgNo s → forwardOf s r = some f → f.st = 0 →
    let d := odOf s r.slot r.version
    (f.pkg = pkgNo s → hotSlotOk s r f.slice off (odRecord d) = true) →
    recordWait (rowId r) (rowAt d r.row) (odRecord d) s = none →
    exec (.hotSlotGranted r f.pkg f.slice ⟨off, desc, tenant⟩) s = .next (copyRow { f with at_ := off }
      (modForward r (fun f => { f with st := 1, at_ := off, dirty := false }) s))) ∧
  (∀ (r : RowRef) (slice off desc tenant : Nat) (s : State), r.home ≠ pkgNo s → guestOf s r = none →
    hotSlotOk s r slice off (odRecord desc) = true →
    exec (.hotSlotGranted r (pkgNo s) slice ⟨off, desc, tenant⟩) s = .next (emit (.member r.home 4 (r.slot * 2 ^ 32 + r.row) off)
      { s with guests := s.guests ++ [⟨r, slice, off, desc, tenant, false⟩] })) ∧
  (∀ (r : RowRef) (f : Forward) (s : State), forwardOf s r = some f → f.st = 1 → f.dirty = false → f.pkg = pkgNo s →
    exec (.rowCopyAcked r) s = .next (modForward r (fun f => { f with st := 2 }) s)) ∧
  (∀ (r : RowRef) (f : Forward) (s : State), forwardOf s r = some f → f.st = 2 →
    exec (.rowCommitAcked r) s = .next (bump 0x8013 3 1 (modForward r (fun f => { f with st := 3 })
      (setObj (0x8100 + r.slot) 6 (obj s (0x8100 + r.slot) 6 + 1) s)))) ∧
  (∀ (r : RowRef) (f : Forward) (s : State), forwardOf s r = some f → f.st = 2 →
    exec (.rowCommitTimeout r) s = .next (bump 0x8013 5 1 (dropForward r s))) ∧
  (∀ (r : RowRef) (f : Forward) (record : Nat) (s : State), forwardOf s r = some f → f.st = 4 → f.pkg = pkgNo s →
    let d := odOf s r.slot r.version
    let mem := view (rowId r) s
    returnWait r f d s = none →
    exec (.rowReturnAcked r record) s = .next (bump 0x8013 4 1 (uncountForward r (dropForward r
      (engineStore 0 (rowReq (otable s r.slot).tenant) (rowAt d r.row) (odRecord d) (readMem mem f.at_ (odRecord d))
        (anyBad mem f.at_ (odRecord d)) (unpeek (rowId r) s)).2)))) ∧
  (∀ (r : RowRef) (f : Forward) (s : State), forwardOf s r = some f → (f.st = 3 ∨ f.st = 4) →
    exec (.rowForwardLost r) s =
      .next (bump 0x8013 6 1 (oryxEvent (uncountForward r (modForward r (fun f => { f with st := 5 }) s)))))

/-! ## Approximate search -/

/-- QUERY, INSERT and DELETE of an active index of the tenant (R274, R278, R279, R287): a query is accepted; an insert takes
the lowest free slot and the next side-list position; a delete of a slot in the graph takes a position; each answers its
acceptance identifier.
INDEX operations (R269, R272, R288): ACTIVATE of a valid fresh descriptor makes the index ACTIVE, writes its state record and its
header; MERGE of an ACTIVE index puts it in line to merge; DEACTIVATE begins its end, which writes the state record and the
header once no operation is left.
Each of these commands completes here, on conditions on its operands and the state alone: query, insert, searchDelete,
indexActivate, indexMerge, indexDeactivate, indexDeactivateDone. -/
def Obligations.IndexCommandsComplete : Prop :=
  (∀ (h : Hdr) (body : Nat) (s t : State) (rq : Req),
      let n := seIndex body
      let x := sindex t n
      let dies := ((List.range 4).filter (flashPresent s)).map flashDom
      let taken := fun op => admitted (linkReq 0x12 h body) (postedChecks (seBad h.length body) (some 64)
        (h.length == 0 || (op != 1 && h.length != 1) || (op == 1 && decide (h.length < 3))) dies.isEmpty dies)
        (64 * h.length) (max 64 (64 * h.length)) s = some (rq, t)
      x.st ≠ 0 → x.st ≠ 4 → x.tenant = h.tenant →
      (taken 1 → seCodes 1 body = false → queryTooLong h.length body = false → queryEmpty body = false →
        (t.sops.filter (fun e => seOp e.2.posted.req.body == 1)).length < 1024 →
        exec (.query h body) s = .next (complete rq .ok (t.accCtr + 1) { t with
          accCtr := t.accCtr + 1, sops := tset t.sops (t.accCtr + 1) (newOp ⟨rq, t.time⟩ 0 0) })) ∧
      (∀ k, taken 2 → seCodes 2 body = false → lowestFree x = some k → ringFull t n = false →
        exec (.insert h body) s = .next (reserve rq k (setIndex n (fun x => { x with slots := tset x.slots k 1 }) t))) ∧
      (taken 3 → seCodes 3 body = false → seVector body < sdMax x.desc → (slotState x (seVector body) = 0 ∨ slotState x (seVector body) = 2) →
        ringFull t n = false →
        exec (.searchDelete h body) s = .next (reserve rq (seVector body) t))) ∧
  (∀ (h : Hdr) (body : Nat) (s t : State) (rq : Req),
    let dies := ((List.range 4).filter (flashPresent s)).map flashDom
    let n := seIndex body
    let acc := t.accCtr + 1
    let w : State := complete rq .ok acc { t with accCtr := acc }
    let d := readMem t (bits body 255 208) 128
    admitted (linkReq 0x12 h body) (postedChecks (seBad h.length body) (some 64)
      (h.length == 0 || (4 != 1 && h.length != 1) || (4 == 1 && decide (h.length < 3))) dies.isEmpty dies)
      (64 * h.length) (max 64 (64 * h.length)) s = some (rq, t) → seCodes 4 body = false →
    (seSub body = 0 → (sindex t n).st = 0 → bits body 255 208 + 128 ≤ memRange t →
      anyBad t (bits body 255 208) 128 = false → sdStatus t d rq.hdr.tenant = .ok → sdEmpty d = false → sdResume d = false →
      exec (.indexActivate h body) s = .next (
        let u := setIndex n (fun _ => freshIndex d rq.hdr.tenant) w
        endSearch ⟨rq, w.time⟩ acc (SOut.of .ok (sindex u n).gen) .ok (writeState n u))) ∧
    (seSub body = 2 → (sindex t n).st = 1 → (sindex t n).tenant = h.tenant →
      exec (.indexMerge h body) s =
        .next (setIndex n (fun x => { x with st := 2, mergeJob := some (acc, ⟨rq, t.time⟩) }) w)) ∧
    (seSub body = 1 → (sindex t n).st ≠ 0 → (sindex t n).st ≠ 4 → (sindex t n).tenant = h.tenant →
      (sindex t n).mergeJob = none →
      exec (.indexDeactivate h body) s = .next (setIndex n (fun x =>
        { x with st := 4, snap := none, mergeJob := none, job := some (acc, ⟨rq, t.time⟩) }) w))) ∧
  (∀ (n acc : Nat) (p : Posted) (s : State), (sindex s n).st = 4 → opsOf s n = [] → (sindex s n).job = some (acc, p) →
    exec (.indexDeactivateDone n) s = .next (endSearch p acc (SOut.of .ok (sindex s n).gen) .ok
      (setIndex n (fun x => { x with st := 0, job := none }) (writeState n s))))

/-- A query whose vector is read at its dispatch takes its snapshot, walks the graph and scans the side list through the homes of
what it reads (R267); its completion answers it; a reserved insert or delete is committed in its side-list entry (R273, R274, R280 to R283, R287).
Merges (R288, R289): the idle time of an ACTIVE index with side entries puts it in line; the build takes its snapshot once
no query of the generation before the last is left and fewer than two merges run; a readable graph is published as the next
generation; an unreadable one abandons the merge.
Each of these commands completes here, on conditions on its operands and the state alone: queryDispatch, queryComplete,
sideEntryCommit, mergeIdleTimer, mergeBuildStart, mergePublish, mergeAbandon. -/
def Obligations.SearchCommandsComplete : Prop :=
  (∀ (acc : Nat) (q : Remote) (o : SOp) (s : State), tget s.sops acc = some o → o.snap = none →
    let b := o.posted.req.body
    let x := sindex s (seIndex b)
    let off := seIn b % 2 ^ 48
    let len := sketchPad x.desc + 4 * sdDim x.desc
    seOp b = 1 → coordinated s acc < 32 → (List.range 4).filter (fun f => flashPresent s f && !awake s (flashDom f)) = [] →
    seIn b / 2 ^ 48 = pkgNo s → obj s 0x7020 3 = 1 → engineReads s off len = true →
    let v := readMem s off len
    let q₀ := unpeek acc (touch off len s)
    let ls := walkLines x.desc (3 + x.gen % 2) x.merged x.tail (queryWalk acc b x v q₀).1
    let q₁ := poisonDead ls q₀
    homesWait (queryId acc) ls q₁ = none →
    exec (.queryDispatch acc q) s = .next (
      let w := queryWalk acc b x v q₁
      setSop acc (fun o => { o with
        snap := some (x.gen, x.merged, x.tail, x.nextSeq), cands := w.1.cands.take (seRerank b), data := v, side := w.2,
        scored := w.1.scored, rounds := w.1.rounds, skipped := w.1.skipped, limit := w.1.limit, status := .ok }) q₁)) ∧
  (∀ (acc g m tl seq : Nat) (acks : List Status) (ack : Status) (o : SOp) (s : State), tget s.sops acc = some o →
    o.snap = some (g, m, tl, seq) → seOp o.posted.req.body = 1 → usable o.status = true →
    let d := (sindex s (seIndex o.posted.req.body)).desc
    let ls := (o.cands.map (fun c => linesOf (candOrig d c) (origBytes d) ++ linesOf (candAttr d c) 64)).flatten
    let q := poisonDead ls s
    homesWait (queryId acc) ls q = none →
    exec (.queryComplete acc ⟨acks, ack⟩) s =
      .next (answerQuery acc o g seq acks ack (bump 0x9011 1 1 { q with sops := terase q.sops acc }))) ∧
  (∀ (acc : Nat) (data : Remote) (ack : Status) (o : SOp) (s : State), tget s.sops acc = some o →
    let b := o.posted.req.body
    let n := seIndex b
    let out : SOut := { SOut.of .ok 0 with seq := (sindex s n).nextSeq, vector := o.slot }
    seOp b = 3 →
    exec (.sideEntryCommit acc data ack) s = .next (
      let u := bump 0x9011 4 1 (setIndex n (fun x => { x with slots := tset x.slots o.slot 3 }) (commitEntry n o.pos o.slot 2 s))
      endSearch o.posted acc out ack { u with sops := terase u.sops acc })) ∧
  (∀ (acc : Nat) (data : Remote) (ack : Status) (o : SOp) (s : State), tget s.sops acc = some o →
    let b := o.posted.req.body
    let n := seIndex b
    let x := sindex s n
    let off := seIn b % 2 ^ 48
    let out : SOut := { SOut.of .ok 0 with seq := x.nextSeq, vector := o.slot }
    seOp b = 2 → seIn b / 2 ^ 48 = pkgNo s → obj s 0x7020 3 = 1 → engineReads s off (bodyBytes x.desc) = true →
    exec (.sideEntryCommit acc data ack) s = .next (
      let w := (engineWrite (searchReq x.tenant) (sideAt x.desc o.pos + 64) (bodyBytes x.desc)
        (readMem s off (bodyBytes x.desc)) (unpeek acc (touch off (bodyBytes x.desc) s))).2
      let u := bump 0x9011 3 1 (setIndex n (fun x => { x with slots := tset x.slots o.slot 2 }) (commitEntry n o.pos o.slot 1 w))
      endSearch o.posted acc out ack { u with sops := terase u.sops acc })) ∧
  (∀ (n : Nat) (s : State), (sindex s n).st = 1 → obj s 0x9010 5 ≠ 0 → (sindex s n).tail ≠ (sindex s n).merged →
    exec (.mergeIdleTimer n) s = .next (setIndex n (fun x => { x with st := 2 }) s)) ∧
  (∀ (n : Nat) (s : State), (sindex s n).st = 2 → queriesBound s n (((sindex s n).gen + 2 ^ 32 - 1) % 2 ^ 32) = false →
    (s.indexes.filter (fun e => e.2.st == 3)).length < 2 →
    let x := sindex s n
    exec (.mergeBuildStart n) s = .next (
      let p := ((positions x.merged x.tail).find? (fun p => !settled s x.desc x.nextSeq p)).getD x.tail
      setIndex n (fun x => { x with st := 3, snap := some (x.tail, x.nextSeq, p) }) s)) ∧
  (∀ (n tl seq p : Nat) (s : State), (sindex s n).st = 3 → (sindex s n).snap = some (tl, seq, p) →
    graphReadable s (sindex s n) = true →
    let ls := ownedLines s (sindex s n).desc
    let q := poisonDead ls s
    homesWait (2 ^ 72 + n) ls q = none →
    exec (.mergePublish n) s =
      .next (publishMerge n (sindex s n) seq p (unpeek (2 ^ 72 + n) (settleLines (2 ^ 72 + n) q)))) ∧
  (∀ (n : Nat) (s : State), (sindex s n).st = 3 → graphReadable s (sindex s n) = false → (sindex s n).mergeJob = none →
    exec (.mergeAbandon n) s =
      .next (searchEvent (bump 0x9011 6 1 (setIndex n (fun x => { x with st := 1, snap := none, mergeJob := none }) s))))

/-! ## Translation and DMA -/

/-- INVAL of pages or of a context drops what the caches hold of it and answers its acceptance; it takes effect once no stalled
access that it met is left, with its signal (R305 to R309).
Walks and faults (R300, R303, R308, R310, R313 to R315): a walk in flight ends with its access performed; one that an
invalidation met walks again; an acknowledged record sends its
doorbell, and sends it again while it awaits service; RETRY and ABORT of a record of the writer's tenant take the record away
and walk its accesses again, or end them poisoned.
Each of these commands completes here, on conditions on its operands and the state alone: invalPages, invalContext,
invalTakesEffect, translationWalkEnd, faultRecordAcked, faultDoorbellResend, xltRetry, xltAbort. -/
def Obligations.TranslationCommandsComplete : Prop :=
  (∀ (h : Hdr) (body : Nat) (s t : State) (rq : Req),
    let u : State := complete rq .ok (t.accCtr + 1) (dropXlt body { t with
      accCtr := t.accCtr + 1, invals := tset t.invals (t.accCtr + 1) ⟨⟨rq, t.time⟩, invStalls t body⟩ })
    let taken := fun scope => admitted (linkReq 0x17 h body)
      { postedChecks (invalBad scope body) none false false [] with names := .anyPackage } 32 64 s = some (rq, t)
    invContext body ≠ 0 →
    (bit (descMem t (invContext body)) 0 = true → descTenant (descMem t (invContext body)) = h.tenant) →
    invCount body ≠ 0xFFFFFFFF → invPage body + invCount body ≤ 2 ^ 36 →
    (taken 0 → invScope body = 0 → invCount body ≠ 0 → exec (.invalPages h body) s = .next u) ∧
    (taken 1 → invScope body = 1 → invPage body = 0 → invCount body = 0 → exec (.invalContext h body) s = .next u)) ∧
  (∀ (acc : Nat) (x : Inval) (s : State), tget s.invals acc = some x →
    x.waits.all (fun k => (tget s.stalls k).isNone) = true → bit x.posted.req.body 39 = true →
    bits x.posted.req.body 51 40 = pkgNo s →
    exec (.invalTakesEffect acc) s = .next (oweSignal acc (bits x.posted.req.body 38 24) (bits x.posted.req.body 127 64)
      x.posted.req (bump 0x3020 6 1 { s with invals := terase s.invals acc }))) ∧
  (∀ (a : EngineAccess) (w : Walk) (s : State), (walksOf s a.die).find? (fun x => x.who.access == a) = some w →
    w.stale = true →
    exec (.translationWalkEnd a) s =
      .next (settleTiles (startWalk w.who (unpeek w.id { s with walks := s.walks.erase w })))) ∧
  (∀ (a : EngineAccess) (w : Walk) (address : Nat) (used : List XltEntry) (s : State),
    (walksOf s a.die).find? (fun x => x.who.access == a) = some w → w.stale = false →
    let c := a.context.getD 0
    let r := drawFree s
    walk r.2 w.id a c (r.1 % 2 == 0) = .to address used →
    exec (.translationWalkEnd a) s = .next (settleTiles (
      let u := fillCaches a c used (unpeek w.id { r.2 with walks := r.2.walks.erase w })
      accessAt w.who address (descKey (descFor u a.die c)) none u))) ∧
  (∀ (q seq : Nat) (f : FaultRec) (s : State), tget s.faults (faultKey q seq) = some f → f.stage = 1 →
    exec (.faultRecordAcked q seq .ok) s =
      .next (faultDoorbell q seq { s with faults := tset s.faults (faultKey q seq) { f with stage := 2 } })) ∧
  (∀ (q seq : Nat) (f : FaultRec) (s : State), tget s.faults (faultKey q seq) = some f → f.stage = 2 →
    exec (.faultDoorbellResend q seq) s = .next (faultDoorbell q seq s)) ∧
  (∀ (h : Hdr) (value die k act : Nat) (f : FaultRec) (i : Issued) (s t : State) (rq : Req),
    let v := setBits value 29 28 act
    admitted ⟨0x03, h, 0, v, [], false⟩ (memChecks s h 1) (64 * h.length) (max 64 (64 * h.length)) s = some (rq, t) →
    h.length ≠ 0 → pageDie h.offset = some die → die < 16 → (h.offset - pageBase) % 65536 = 0xF00 → v < 2 ^ 32 →
    bits v 29 28 = act →
    namedFault t die (bits v 15 0) = some (k, f) → firstOf f = some i → i.access.context.getD 0 = bits v 27 16 →
    i.access.tenant = h.tenant →
    let u := releaseHeld (k / 2 ^ 32) { t with faults := terase t.faults k }
    (act = 1 → exec (.xltRetry h value) s = .next (complete rq .ok 0
      (f.joined.foldl (fun s j => startWalk { j with replays := min (j.replays + 1) 255 } s) u))) ∧
    (act = 2 → exec (.xltAbort h value) s = .next (complete rq .ok 0 (f.joined.foldl (fun s j => abortAccess j s) u))))

/-- DMA COPY of fabric addresses is queued on its channel and answers its acceptance; the first transfer of a channel starts;
it runs piece by piece to its end, with its record and signal; an aborted one ends with POISON (R397 to R399).
Each of these commands completes here, on conditions on its operands and the state alone: dmaCopy, dmaTransferStart,
dmaTransferEnd. -/
def Obligations.DmaCompletes : Prop :=
  (∀ (h : Hdr) (body : Nat) (s t : State) (rq : Req),
    admitted (linkReq 0x18 h body) (dmaChecks s body) 64 64 s = some (rq, t) →
    dmSrcDomain body = false → dmDstDomain body = false → dmaRefused t body = none → dmLength body ≠ 0 →
    (channelOf t (pickChannel t body)).length < 16 →
    let c := pickChannel t body
    exec (.dmaCopy h body) s = .next (complete rq .ok (t.accCtr + 1) { t with
      accCtr := t.accCtr + 1, dma := tset t.dma c (channelOf t c ++ [⟨t.accCtr + 1, rq, t.time, false, 0, false, false⟩]) })) ∧
  (∀ (c : Nat) (d : Dma) (q : List Dma) (s : State), channelOf s c = d :: q →
    exec (.dmaTransferStart c) s = .next { s with dma := tset s.dma c ({ d with started := true } :: q) }) ∧
  (∀ (c p : Nat) (d : Dma) (q : List Dma) (r : Remote) (ack st : Status) (s u : State), channelOf s c = d :: q →
    d.started = true → dmaStalled s c = false → d.aborted = false →
    runPieces c d (sourceRanges s c d) r ack (piecesFrom s d d.done (dmLength d.req.body / 64)) d.done s = (p, some st, u) →
    exec (.dmaTransferEnd c r ack) s = .next (endDma c d p st u)) ∧
  (∀ (c : Nat) (d : Dma) (q : List Dma) (r : Remote) (ack : Status) (s : State), channelOf s c = d :: q → d.started = true →
    dmaStalled s c = false → d.aborted = true →
    exec (.dmaTransferEnd c r ack) s = .next (endDma c d d.done .poison s))

/-! ## Tiles -/

/-- The steps of the units of a tile whose sequencer can issue (R50, R57 to R78, R94): with data at every source that the step
needs, the unit's step is done at once; a step that takes data from its sinks leaves them free and sets the loop counters; each
row lane of a matrix-vector step adds its block to its own accumulator, with its flags; a format outside its operand's mask
fails the call with the invalid flag; the other units leave their 32 results, with their flags.
Each of these commands completes here, on conditions on its operands and the state alone: matrixVectorStep, vectorStep,
conversion, specialFunction, crossLaneReduce. -/
def Obligations.TileArithmeticCompletes : Prop :=
  (∀ (t : Nat) (f : Feed) (s : State), tileIssues s t = true → (tile s t).held = [] →
    let after := fun (u : UnitStep) => unitStep t u f s
    let done := fun (u : UnitStep) => setTile t { tile (after u) t with held := [] } (after u)
    (∀ m : MvStep, unitReady s t (.matrixVector m) f = true →
      exec (.matrixVectorStep t ⟨m, f⟩) s = .next (done (.matrixVector m))) ∧
    (∀ op : VecOp, unitReady s t (.vector op) f = true → exec (.vectorStep t op f.pads f.own f.out) s = .next (done (.vector op))) ∧
    (∀ target : Nat, unitReady s t (.convert target) f = true →
      exec (.conversion t target ⟨f.pads, f.own⟩ f.out) s = .next (done (.convert target))) ∧
    (∀ fn : SpecialFn, unitReady s t (.special fn) f = true →
      exec (.specialFunction t fn ⟨f.pads, f.own⟩ f.out) s = .next (done (.special fn))) ∧
    (∀ maximum : Bool, unitReady s t (.reduce maximum) f = true →
      exec (.crossLaneReduce t maximum f) s = .next (done (.reduce maximum)))) ∧
  (∀ (t : Nat) (u : UnitStep) (f : Feed) (s : State),
    (unitSinks u).all (fun k => operand t k f s != Operand.idle && !(operand t k f s).bad) = true →
    f.write = false → f.send = false →
    unitStep t u f s = setTile t { tile (doUnit t u f s) t with
      latches := (tile (doUnit t u f s) t).latches.filter (fun e => !(unitSinks u).contains e.1),
      loops := (List.range 4).map (fun i => (f.loops.getD i 0) % 2 ^ 32) } (doUnit t u f s)) ∧
  (∀ (t : Nat) (m : MvStep) (wv vv l : Nat) (bad : Bool) (s : State),
    let e := (m.entry + l) % 256
    let b := mvBlock m.wfmt m.vfmt m.count (wv / 2 ^ (32 * codeBits m.wfmt * l)) vv (bits m.wscales (8 * l + 7) (8 * l))
      (m.vscale % 256)
    let r := mvAccumulate (m.wfmt == 0xA && bit (tileControl s t) 11) (if m.clear then 0 else tgetD (tile s t).accs e 0) b
    let u := mvLane t m wv vv l bad s
    tgetD (tile u t).accs e 0 = r.1 ∧ (tile u t).flags = (tile s t).flags ||| r.2 ∧
      ∀ x, x ≠ e → tgetD (tile u t).accs x 0 = tgetD (tile s t).accs x 0) ∧
  (∀ (t : Nat) (m : MvStep) (c : TileCfg) (w v : Operand) (s : State), (tile s t).cfg = some c →
    ((bit c.matrixFormats m.wfmt && bit c.vectorFormats m.vfmt && mvPair m.wfmt m.vfmt) = false →
      doMatrixVector t m w v s = setTile t { tile s t with failed := true, flags := (tile s t).flags ||| 32 } s) ∧
    ((bit c.matrixFormats m.wfmt && bit c.vectorFormats m.vfmt && mvPair m.wfmt m.vfmt) = true →
      doMatrixVector t m w v s = (List.range (mvLanes m.wfmt m.vfmt)).foldl (fun s l =>
        mvLane t m w.value v.value l (w.bad || v.bad) s) s)) ∧
  (∀ (t : Nat) (op : VecOp) (f : Feed) (s : State) (x y z : Nat), operand t 2 f s = .data x false →
    operand t 3 f s = .data y false → operand t 4 f s = .data z false → (op = .fma ∨ op = .select) →
    doUnit t (.vector op) f s = setVec t 32 ((List.range 32).map (fun i =>
      vecLane op ((lanesOf x).getD i 0) ((lanesOf y).getD i 0) ((lanesOf z).getD i 0))) 0 false s) ∧
  (∀ (t target : Nat) (f : Feed) (s : State) (x : Nat), operand t 2 f s = .data x false →
    (∀ maximum : Bool, doUnit t (.reduce maximum) f s = setVec t 32 (tree maximum (lanesOf x)) 0 false s) ∧
    (isMx target = false → doUnit t (.convert target) f s = (
      let r := convList t target (tileControl s t) ((lanesOf x).map fp32.decode) s
      bump 0x4010 4 (r.1.filter (fun c => c.flags / 4 % 2 == 1)).length
        (setVec t (codeBits target) (r.1.map (fun c => (c.code, c.flags))) 0 false r.2))))

/-- A tile's accesses (R82, R354, R356): with a place among the tile's 128 line loads and no earlier access of it to the same
granule out, a load takes its place and is issued; so is an atomic; a store is issued with the data at the store queue; an
issued access of this package's near memory at awake homes is performed; the oldest load's data is presented to the sinks
connected to it once it is back.
Steps that order after a tile's earlier accesses, when none is out (R356, R374): a fence counts as an acquire; a release
store is issued; SIGNAL adds its operand to its tenant's object; WAIT on a condition that holds goes on at once, and otherwise
registers the tile as a waiter.
Each of these commands completes here, on conditions on its operands and the state alone: tilePlainLoad, tileAcquireLoad,
tilePlainStore, tileAtomic, tileLoadReturn, tileFence, tileReleaseStore, tileSignal, tileWait. -/
def Obligations.TileAccessCommandsComplete : Prop :=
  (∀ (a : EngineAccess) (f : Feed) (r : Remote) (ack : Status) (s : State), isTile a = true →
    tileIssues s (unitOf a) = true → (tile s (unitOf a)).held = [] →
    let t := unitOf a
    let own := fun (k : AccessKind) => asKind k (ownAccess s a)
    let done := fun (u : State) => setTile t { tile u t with held := [] } u
    (loadFree s (own .load) = true → exec (.tilePlainLoad a r) s = .next (done (issueLoad (own .load) 0 r s))) ∧
    (loadFree s (own .acquireLoad) = true →
      exec (.tileAcquireLoad a r) s = .next (done (issueLoad (own .acquireLoad) 0 r s))) ∧
    (∀ v : Nat, accessFree s (own .store) = true → operand t 6 f s = .data v false →
      exec (.tilePlainStore ⟨a, f⟩ ack) s = .next (done (issue ⟨{ own .store with data := v % 2 ^ (8 * a.bytes) }, 0, 0, false⟩
        (some ⟨ack, 0⟩) (setTile t { tile s t with latches := terase (tile s t).latches 6 } s)))) ∧
    (∀ body : Nat, atomicBad body = false →
      let b : EngineAccess := { own .atomic with bytes := atomicWidth body }
      loadFree s b = true → exec (.tileAtomic a body r) s = .next (done (issueLoad b body r s)))) ∧
  (∀ (i : Issued) (r : Option Remote) (s : State), i.access.context = none → i.access.address / 2 ^ 48 = pkgNo s →
    let n := i.access.address % 2 ^ 48
    i.access.kind ≠ .atomic → homeReady s n i.access.bytes = true →
    poisonDead (linesOf n i.access.bytes) s = s →
    (isLoad i.access.kind = true → readSnoops s (linesOf n i.access.bytes) = []) →
    issue i r s = performHere i n [] s) ∧
  (∀ (t v : Nat) (l : TileLoad) (ls : List TileLoad) (s : State), (tile s t).loads = l :: ls → l.data = some v →
    l.bad = false → sinksFree s t 2 = true → (tile s t).held = [] →
    exec (.tileLoadReturn t) s = .next (
      let u := deliver t 2 v false (setTile t { tile s t with loads := ls } s)
      setTile t { tile u t with held := [] } u)) ∧
  (∀ (t : Nat) (s : State), tileIssues s t = true → pendingOf s t = [] → (tile s t).held = [] →
      let done := fun (u : State) => setTile t { tile u t with held := [] } u
      (exec (.tileFence t) s = .next (done (setTile t { tile s t with acquired := s.freeCtr } s))) ∧
      (∀ (a : EngineAccess) (f : Feed) (ack : Status) (v : Nat), isTile a = true → unitOf a = t →
        operand t 6 f s = .data v false →
        exec (.tileReleaseStore ⟨a, f⟩ ack) s = .next (done (issue
          ⟨{ asKind .releaseStore (ownAccess s a) with data := v % 2 ^ (8 * a.bytes) }, 0, 0, false⟩ (some ⟨ack, 0⟩)
          (setTile t { tile s t with latches := terase (tile s t).latches 6 } s)))) ∧
      (∀ (n operand ten : Nat), awake s (homeDom (n % 8)) = true → tileTenant s t = some ten →
        (syncObj s n).owner = some ten →
        exec (.tileSignal t n operand) s = .next (done (applySignal n (((syncObj s n).value + operand) % 2 ^ 64) (some ten) operand
          ⟨0, ten, 2, t⟩ s))) ∧
      (∀ (n cond target ten : Nat), awake s (homeDom (n % 8)) = true → tileTenant s t = some ten →
        (syncObj s n).owner = some ten →
        (condHolds cond (syncObj s n).value target = true →
          exec (.tileWait t n cond target) s = .next (done (setTile t { tile s t with acquired := s.freeCtr } s))) ∧
        (condHolds cond (syncObj s n).value target = false → (syncObj s n).waiters.length < 64 →
          exec (.tileWait t n cond target) s = .next (done (
            let w := bump 0x6020 0xA 1 (setSync n { syncObj s n with
              waiters := (syncObj s n).waiters ++ [⟨.tile t, cond, target, s.time⟩] } s)
            setTile t { tile w t with waiting := some n } w)))))

/-! ## The domain -/

/-- The domain is formed by its master (R321 to R323): a write of 1 to domain_form that every member answers with the
master's digest makes it FORMED at the next generation; a formation without all its answers ends with DEFER and changes nothing
(R11); a write of 0 dissolves it; a member takes up a generation with what else changed; a READY package that is ALONE joins as
the member that the master makes it (R569); a package that its domain expelled does none of it (R16).
Agents (R324, R348, R349, R351): before the domain is FORMED an entry is written as it is; in a FORMED domain its master
declares an ACTIVE or DORMANT agent dead and makes a DORMANT one ACTIVE again.
Each of these commands completes here, on conditions on its operands and the state alone: domainForm, domainFormTimeout,
domainDissolve, generationTakeUp, masterConfirmWrite, dataSourceWrite, agentEntryWrite, declareAgentDead, agentReactivate. -/
def Obligations.DomainMembershipComplete : Prop :=
  (∀ (m : DapMsg) (answers : List MemberAnswer) (s t : State) (c : Ctx),
    dapAdmitted dapWrite (toObj m 0x6010 0xA) s = some (c, t) → isMaster t = true → t.pkg ≠ .expelled → c.value = 1 →
    obj t 0x6010 2 ≠ 0 →
    let was := if obj t 0x6010 7 = 1 then t.formFrom else obj t 0x6010 7
    let u := tellMembers 3 0 1 (drawRanges (setObj 0x6010 7 1 { t with
      memberRanges := [], dissolving := false, formFrom := was }))
    allAnswered u answers = true → obj u 0x6011 (obj u 0x6010 3 + 1) = pkgNo u → cascadeOk u = true →
    (∀ a ∈ answers, obj u 0x6010 2 ≤ a.index ∨ a.listed = true ∧ a.digest = domainDigest u) →
    exec (.domainForm m answers) s = .next (finOk c (tellMembers 3 0 2 (setObj 0x6010 7 2 (nextGeneration u))))) ∧
  (∀ (s : State), obj s 0x6010 7 = 1 → formWaits s = true →
    exec .domainFormTimeout s =
      .next (dapFinishKey (okey 0x6010 0xA) .defer 0 (tellMembers 3 0 s.formFrom (setObj 0x6010 7 s.formFrom s)))) ∧
  (∀ (m : DapMsg) (s t : State) (c : Ctx), dapAdmitted dapWrite (toObj m 0x6010 0xA) s = some (c, t) →
    isMaster t = true → t.pkg ≠ .expelled → c.value = 0 →
    exec (.domainDissolve m) s = .next (settleDissolve (recallAll none { tellMembers 3 0 0 t with dissolving := true }))) ∧
  (∀ (g : Nat) (news : DomainNews) (s : State), obj s 0x6010 7 ≠ 0 → s.pkg ≠ .expelled →
    exec (.generationTakeUp g news) s = .next (takePartners news.partners (takeObjects false news.objects
      (news.dead.foldl (fun s a => takeDead a s) (countVotes (takeUp g { s with memberRanges := [] })))))) ∧
  (∀ (g m : Nat) (news : DomainNews) (j : Joining) (s : State), obj s 0x6010 7 = 0 → s.pkg = .ready →
    undisturbed s = true → news.join = some j → j.index = some m →
    exec (.generationTakeUp g news) s = .next (
      let u := takeObjects true news.objects (setObj 0x6010 3 m (setObj 0x6010 7 2 s))
      countVotes (takeUp g { j.entries.foldl (fun s e => joinObject j.rebuild e s) u with memberRanges := [] }))) ∧
  (∀ (g : Nat) (news : DomainNews) (s : State), s.pkg = .expelled →
    exec (.generationTakeUp g news) s = .next s) ∧
  (∀ (m : DapMsg) (s t : State) (c : Ctx), dapAdmitted dapGuarded (toObj m 0x6010 5) s = some (c, t) →
    t.pkg ≠ .expelled → ¬ (c.value = 1 ∧ obj t 0x6010 4 = 0) → logRoom t 0x20 = true →
    exec (.masterConfirmWrite m) s = .next (finOk c (guardedEntry c (setObj 0x6010 5 c.value t)))) ∧
  (∀ (m : DapMsg) (s t : State) (c : Ctx), dapAdmitted dapWrite (toObj m 0x6010 6) s = some (c, t) → c.value ≤ 1 →
    t.pkg ≠ .expelled →
    (obj t 0x6010 7 ≠ 2 → exec (.dataSourceWrite m) s = .next (finOk c (setObj 0x6010 6 c.value t))) ∧
    (obj t 0x6010 7 = 2 → isMaster t = true → obj t 0x6010 6 ≠ c.value →
      exec (.dataSourceWrite m) s =
        .next (finOk c (tellMembers 9 0 c.value (nextGeneration (setObj 0x6010 6 c.value t)))))) ∧
  (∀ (m : DapMsg) (s t : State) (c : Ctx), dapAdmitted dapGuarded (toObj m 0x6012 m.sub) s = some (c, t) →
      let a := c.sub - 1
      t.pkg ≠ .expelled → bits c.value 63 34 = 0 → bits c.value 31 28 = 0 → logRoom t 0x20 = true →
      (obj t 0x6010 7 ≠ 2 → bits c.value 33 32 < 2 →
        exec (.agentEntryWrite m) s = .next (finOk c (guardedEntry c (setObj 0x6012 c.sub c.value t)))) ∧
      (obj t 0x6010 7 = 2 → isMaster t = true → bits c.value 31 0 = bits (agentEntry t a) 31 0 →
        (bits c.value 33 32 = 3 → (agentState t a = 1 ∨ agentState t a = 2) →
          exec (.declareAgentDead m) s = .next (finOk c (guardedEntry c (declareDead a t)))) ∧
        (bits c.value 33 32 = 1 → agentState t a = 2 →
          exec (.agentReactivate m) s =
            .next (finOk c (guardedEntry c (tellMembers 1 a 1 (setAgentState a 1 t)))))))

/-- Changes of a FORMED domain at its master (R563, R569, R572, R574, R575): a straggler is reported; a rebuild onto a READY
and ALONE spare starts for a vacant place; a replacement starts for a draining member; an empty draining member leaves; the
last filled extent ends a rebuild, at the master and at the package that was rebuilt onto (R570); the commit of a replacement
gives the place to the new package, and at the replaced member, which no rule tells the package's number (a free value, the
model's choice, log entry 65), copies what it holds and recalls its lines (R574).
A vote in form on a target that may be named here is answered (R564 to R567): CHECK_FAIL, counted, where it does not
verify; otherwise it is held, once, and the vote that completes a quorum expels its target.
Each of these commands completes here, on conditions on its operands and the state alone: stragglerReport,
domainChangeRebuild, domainChangeReplace, domainChangeLeave, rebuildFillDone, replaceCommit, expelVote. -/
def Obligations.DomainChangesComplete : Prop :=
  (∀ (member : Nat) (s : State), isMaster s = true → obj s 0x6010 7 ≠ 0 → member < obj s 0x6010 2 →
    exec (.stragglerReport member) s = .next (raiseEvent 0xA060 2 (4 + member * 2 ^ 8) s)) ∧
  (∀ (d : DapMsg) (s t : State) (c : Ctx), dapAdmitted dapWrite (toObj d 0xA050 2) s = some (c, t) →
    let f := Config.free t.freeCtr
    let u : State := { t with freeCtr := t.freeCtr + 1 }
    let m := bits c.value 18 16
    let p := bits c.value 43 32
    let listed := obj t 0x6011 (m + 1)
    let draining := if m = obj t 0x6010 3 then decide (t.pkg = .draining) else f % 2 == 1
    c.actor = 2 → bits c.value 255 44 = 0 → bits c.value 31 19 = 0 → bits c.value 15 8 = 0 → formed t = true →
    isMaster t = true → m < obj t 0x6010 2 → t.change = none →
    (bits c.value 7 0 = 1 → listed = vacantMember →
      exec (.domainChangeRebuild d true) s = .next (finOk c (startRebuild m vacantMember p u))) ∧
    (bits c.value 7 0 = 2 → listed ≠ vacantMember → draining = true →
      exec (.domainChangeReplace d true) s = .next (
        let v := drawFree (sendEntries m p u)
        let left := if m = obj v.2 0x6010 3 then v.2.extents.length * extentBytes else v.1 % 2 ^ 64
        finOk c (setObj 0xA050 4 left { v.2 with change := some ⟨2, m, p⟩ }))) ∧
    (bits c.value 7 0 = 3 → listed ≠ vacantMember → draining = true →
      exec (.domainChangeLeave d true) s = .next (
        let v := emit (.member listed 3 0 0) (nextGeneration (setMember m vacantMember u))
        finOk c (if m = obj v 0x6010 3 then setObj 0x6010 7 0 v else v)))) ∧
  (∀ (m p : Nat) (s : State), s.change = some ⟨1, m, p⟩ → s.unrebuilt = [] →
    exec .rebuildFillDone s = .next (raiseEvent 0xA060 2 5 (setObj 0xA050 4 0 { s with
      change := none
      placed := s.placed.map (fun e => (e.1, if tiedTo p e.2 then { e.2 with degraded := false } else e.2)) }))) ∧
  (∀ (s : State), s.change = none → s.unrebuilt ≠ [] →
    exec .rebuildFillDone s = .next (
      let u := (s.unrebuilt.map (·.1)).foldl (fun s e =>
        (List.range 32768).foldl (fun s i => rebuildLine (32768 * e + i) s) s) s
      { u with unrebuilt := [], placed := u.placed.map (fun e => (e.1, { e.2 with degraded := false })) })) ∧
  (∀ (m p : Nat) (s : State), s.change = some ⟨2, m, p⟩ → m ≠ obj s 0x6010 3 →
    exec .replaceCommit s = .next (raiseEvent 0xA060 2 6 (setObj 0xA050 4 0 (nextGeneration
      (emit (.member p 12 0 m) (sendObjects p (setMember m p { s with change := none }))))))) ∧
  (∀ (s : State), s.change = none → s.pkg = .draining → obj s 0x6010 7 = 2 → isMaster s = false →
    exec .replaceCommit s =
      .next (recallAll none { s.extents.foldl (fun u e => sendExtent (Config.free s.freeCtr % 4096) e.1 u)
        { s with freeCtr := s.freeCtr + 1 } with replaced := true })) ∧
  (∀ (m : DapMsg) (s t : State) (c : Ctx), dapAdmitted dapWrite (toObj m 0xA041 1) s = some (c, t) →
      let x := (voteTarget c.value, voteManager c.value)
      let u := finOk c (countVotes { t with votes := t.votes ++ [x] })
      c.actor = 2 → voteForm c.value = true → voteTargetOk t x.1 = true →
      exec (.expelVote m) s = .next (
        if voteVerifies t c.value = false then fin c .checkFail 0 (bump 0xA041 3 1 t)
        else if t.votes.contains x then finOk c t
        else if (u.votes.filter (fun y => y.1 == x.1)).length = quorum u then expel x.1 u
        else u))

/-- The watchers of the package (R378 to R380, R548, R549, R552): a deadlock scan judges every tenant and clears the objects'
recent marks; a scrub pass without findings is counted; a repair whose source stays silent leaves its line poisoned; a read of
sync_view answers the selected object.
Each of these commands completes here, on conditions on its operands and the state alone: deadlockScan, scrubPassEnd,
repairSourceTimeout, syncViewRead. -/
def Obligations.WatchersComplete : Prop :=
  (∀ (s : State), obj s 0x6020 5 ≠ 0 →
    exec .deadlockScan s = .next (
      let u := (rising (s.handles.map (fun e => e.2.tenant) ++ s.deadlock.map (·.1))).foldl (scanTenant s) s
      { u with sync := u.sync.map (fun e => (e.1, { e.2 with recent := false })) })) ∧
  (∀ (home : Nat) (s : State), s.pkg ≠ .off → home < 8 → awake s (homeDom home) = true →
    exec (.scrubPassEnd home [] []) s = .next (bump 0xA010 1 0 (bump 0xA010 6 1 { s with
      regs := tset s.regs (65536 * home + 0x5008) ((tgetD s.regs (65536 * home + 0x5008) 0 + 1) % 65536) }))) ∧
  (∀ (line n : Nat) (o : PObject) (s : State), s.pkg ≠ .off → poisoned s line = false →
    objectAt s (extentOf (64 * line)) = some (n, o) → entryProt o.entry ≠ 0 → o.degraded = false →
    exec (.repairSourceTimeout line) s =
      .next (raiseEvent 0xA060 2 1 (recordUe line (bump 0xA010 2 1 (poisonLine s line))))) ∧
  (∀ (m : DapMsg) (s t : State) (c : Ctx), dapAdmitted dapRead (toObj m 0x6021 2) s = some (c, t) →
    (c.actor = 3 → (syncObj t (obj t 0x6021 1)).owner = some c.tenant) →
    exec (.syncViewRead m) s =
      .next (readDomain c (syncView t (obj t 0x6021 1)).1 (syncView t (obj t 0x6021 1)).2 t))

/-! ## The Ethernet port -/

/-- Frames and flow control at a live port (R427 to R429, R441, R442): a frame the port drops is counted as dropped, any other
as received, and a RoCEv2 packet for a queue pair that is not READY as dropped too; a congestion mark of one for a READY queue
pair is answered; a PAUSE frame is dropped and counted; a PFC frame sets the paused priorities of lossless_mask and lets the
frames go that no priority holds any more; ARP requests, neighbour solicitations and echoes for the port's address are answered;
a congestion notification halves a queue pair's rate, and its recovery raises it; the link comes up and goes down with
eth_event.
Each of these commands completes here, on conditions on its operands and the state alone: ethFrameReceive,
pauseFrameReceive, pfcFrameReceive, arpRequest, neighbourSolicitation, icmpEchoRequest, cnpReceive, cnpRateRecovery,
ethLinkUp, ethLinkDown. -/
def Obligations.FramesComplete : Prop :=
  (∀ (f : EthFrame) (s : State), ethLive s = true →
    (frameDropped s f = true → exec (.ethFrameReceive f) s = .next (bump 0x7101 2 1 s)) ∧
    (frameDropped s f = false →
      (f.port ≠ some 4791 → exec (.ethFrameReceive f) s = .next (bump 0x7101 1 1 s)) ∧
      (∀ q < 4096, f.port = some 4791 → f.qp = 0x10000 + q →
        ((qp s q).st ≠ 1 → exec (.ethFrameReceive f) s = .next (bump 0x7101 3 1 (bump 0x7101 1 1 s))) ∧
        ((qp s q).st = 1 → f.ce = false → exec (.ethFrameReceive f) s = .next (bump 0x7101 1 1 s)) ∧
        ((qp s q).st = 1 → f.ce = true → exec (.ethFrameReceive f) s = .next (markSeen q (bump 0x7101 1 1 s)))))) ∧
  (∀ (s : State), ethLive s = true → exec .pauseFrameReceive s = .next (bump 0x7101 2 1 s)) ∧
  (∀ (xoff xon : Nat) (s : State), ethLive s = true →
    ∃ p, exec (.pfcFrameReceive xoff xon) s = .next (releaseFrames { s with paused := p }) ∧
      ∀ i < 8, bit p i =
        (bit (obj s 0x7100 0xA) i && (bit xoff i || (bit s.paused i && !bit xon i)))) ∧
  (∀ (target : Nat) (s : State), ethLive s = true → target ≠ 0 →
    (target = obj s 0x7100 4 → exec (.arpRequest target) s = .next (emit (.ethReply 0 target) s)) ∧
    (target = obj s 0x7100 5 → exec (.neighbourSolicitation target) s = .next (emit (.ethReply 1 target) s)) ∧
    (target = obj s 0x7100 4 → exec (.icmpEchoRequest target false) s = .next (emit (.ethReply 2 target) s)) ∧
    (target = obj s 0x7100 5 → exec (.icmpEchoRequest target true) s = .next (emit (.ethReply 3 target) s))) ∧
  (∀ (q : Nat) (s : State), q < 4096 → (qp s q).st = 1 →
    (ethLive s = true →
      exec (.cnpReceive (0x10000 + q)) s = .next (setQp q { qp s q with rate := max 1 ((qp s q).rate / 2) } s)) ∧
    exec (.cnpRateRecovery (0x10000 + q)) s = .next (setQp q { qp s q with rate := min 200 ((qp s q).rate + 10) } s)) ∧
  (∀ (s : State), dictLive s = true → obj s 0x7100 1 ≠ 2 →
    exec .ethLinkUp s = .next (raiseEvent 0x7100 7 0 (setObj 0x7100 1 2
      (setDom 3 (fun x => { x with st := 0, waking := false, wakeReq := false }) s)))) ∧
  (∀ (s : State), obj s 0x7100 1 ≠ 0 →
    exec .ethLinkDown s = .next (raiseEvent 0x7100 7 0 (setObj 0x7100 1 0 s)))

/-- One-sided operations on an idle READY queue pair with the expected packet sequence number (R433, R435, R436): the number
advances past the operation's packets, and the operation that can go on ends as its state says; a duplicate atomic returns its
saved result; then the receive buffer's flow control follows (R441).
A SEND that carries a request and has the expected packet sequence number is acknowledged and takes its place; one too long
is refused with a NAK that stops the queue pair; with 64 requests open the answer is an RNR NAK; a duplicate is acknowledged and
not performed again (R431, R436, R438, R439).
The package's own SENDs (R431, R432, R440): an acknowledgement releases every SEND up to its number, and their notices leave
their mailboxes; with retries left, a NAK, an acknowledgement timeout and an RNR timer send what is not acknowledged again; a
queue pair that is written READY is taken up with its entry.
Each of these commands completes here, on conditions on its operands and the state alone: rdmaRead, rdmaWrite, fetchAndAdd,
compareAndSwap, roceSendRequest, roceAckReceive, roceNakReceive, roceAckTimeout, rnrRetryTimer, qpEntryWrite. -/
def Obligations.RdmaCommandsComplete : Prop :=
  (∀ (r : RdmaReq) (q : Nat) (s : State), ethLive s = true → q < 4096 → r.qp = 0x10000 + q → (qp s q).st = 1 →
      (qp s q).queue = [] → qpBusy s q = false → (qp s q).expected = r.psn → r.psn < 2 ^ 24 →
      let x := qp s q
      let taken : EthOp → Nat → State := fun op n =>
        setQp q { x with queue := [], expected := (x.expected + n) % 2 ^ 24 }
          (setQp q { x with queue := [op], expected := (x.expected + n) % 2 ^ 24 } s)
      let packets := packetsOf x.entry (if r.length ≤ 0x40000000 then r.length else 0)
      (∀ (found : List (Nat × Nat)) (u : State), runRead q r found 0 (taken (.read r found 0) packets) = (none, u) →
        exec (.rdmaRead r found) s = .next (flow u)) ∧
      (∀ (data : Nat) (u : State),
        let held := if r.length ≤ 0x40000000 then data % 2 ^ (8 * r.length) else 0
        runWrite q r held (taken (.write r held) packets) = (none, u) → exec (.rdmaWrite r data) s = .next (flow u)) ∧
      (∀ (operand : Nat) (u : State), operand < 2 ^ 64 →
        let body := operand + 2 ^ 128 + 2 ^ 136
        runAtomic q r body (taken (.atomic r body) 1) = (none, u) → exec (.fetchAndAdd r operand) s = .next (flow u)) ∧
      (∀ (compare operand : Nat) (u : State), operand < 2 ^ 64 → compare < 2 ^ 64 →
        let body := operand + compare * 2 ^ 64 + 2 ^ 128 + 6 * 2 ^ 136
        runAtomic q r body (taken (.atomic r body) 1) = (none, u) → exec (.compareAndSwap r compare operand) s = .next (flow u))) ∧
  (∀ (q psn bytes opcode body data : Nat) (h : Hdr) (s : State), ethLive s = true → q < 4096 → (qp s q).st = 1 → psn < 2 ^ 24 →
      ((qp s q).expected = psn →
        (4184 < bytes → exec (.roceSendRequest ⟨0x10000 + q, psn⟩ bytes opcode h body data) s =
          .next (nakQp q psn .badLength s)) ∧
        (bytes ≤ 4184 → 64 ≤ sendsOpen s q → exec (.roceSendRequest ⟨0x10000 + q, psn⟩ bytes opcode h body data) s =
          .next (bump 0x7101 5 1 (qpOut q (.rdmaNak q psn (0x20 + obj s 0x7100 0xC)) s))) ∧
        (bytes ≤ 4184 → sendsOpen s q < 64 → exec (.roceSendRequest ⟨0x10000 + q, psn⟩ bytes opcode h body data) s =
          .next (enqueue q (.send psn bytes opcode h body data) (packetsOf (qp s q).entry bytes) (ackMessage q psn bytes s)))) ∧
      (∀ back, 0 < back → back ≤ 2 ^ 23 → (qp s q).expected = (psn + back) % 2 ^ 24 →
        exec (.roceSendRequest ⟨0x10000 + q, psn⟩ bytes opcode h body data) s = .next (ackMessage q psn bytes s))) ∧
  (∀ (q psn : Nat) (s : State), ethLive s = true → q < 4096 → (qp s q).st = 1 →
    let gone := fun (r : RSend) => decide ((psn + 2 ^ 24 - lastPsn (qp s q).entry r) % 2 ^ 24 < 2 ^ 23)
    ((qp s q).sends.filter gone).isEmpty = false →
    exec (.roceAckReceive (0x10000 + q) psn) s = .next (((qp s q).sends.filter gone).foldl
      (fun s r => match r.notice with | some m => popNotice 0x18 m s | none => s)
      (setQp q { qp s q with sends := (qp s q).sends.filter (fun r => !gone r), retries := 0, rnr := 0 } s))) ∧
  (∀ (q psn : Nat) (s : State), ethLive s = true → q < 4096 → (qp s q).st = 1 →
    exec (.roceNakReceive (0x10000 + q) psn true) s = .next (doAck q ((psn + 2 ^ 24 - 1) % 2 ^ 24) s) ∧
    exec (.roceNakReceive (0x10000 + q) psn false) s = .next (retrySend q (doAck q ((psn + 2 ^ 24 - 1) % 2 ^ 24) s))) ∧
  (∀ (q : Nat) (s : State), q < 4096 → (qp s q).st = 1 → (qp s q).sends.isEmpty = false →
    ((qp s q).retries < bits (qp s q).entry 127 125 →
      exec (.roceAckTimeout (0x10000 + q)) s =
        .next (resend q (setQp q { qp s q with retries := (qp s q).retries + 1 } s))) ∧
    (bits (qp s q).entry 127 125 ≤ (qp s q).retries →
      exec (.roceAckTimeout (0x10000 + q)) s = .next (qpError q (qp s q).lastStatus s)) ∧
    (bits (qp s q).entry 130 128 = 7 →
      exec (.rnrRetryTimer (0x10000 + q)) s = .next (resend q (setQp q { qp s q with rnr := (qp s q).rnr + 1 } s)))) ∧
  (∀ (d : DapMsg) (s t : State) (c : Ctx), dapAdmitted dapWrite (toObj d 0x7110 2) s = some (c, t) → serving t = true →
    let q := obj t 0x7110 1
    qpRefused t q c.value = false → bits c.value 1 0 = 1 → bit c.value 388 = false →
    exec (.qpEntryWrite d) s = .next (finOk c (countQps (setQp q { Qp.zero with
      entry := c.value, st := 1, expected := bits c.value 119 96, send := bits c.value 87 64 } t))))

/-! ## The dictionary -/

/-- Sessions and transports (R454, R455, R461, R470, R580): a tenant and a management OPEN that are authorised open the lowest
free session; CLOSE ends a session; an idle one closes; an assigned I3C address is kept; a private read returns the oldest
response; SUBSCRIBE and UNSUBSCRIBE of a session with room change its subscriptions; a message of no protocol is counted.
Each of these commands completes here, on conditions on its operands and the state alone: dapOpenTenant, dapOpenManagement,
dapClose, dapSessionIdleTimeout, i3cSetdasa, i3cEntdaa, i3cPrivateRead, dapSubscribe, dapUnsubscribe, messageDiscard. -/
def Obligations.SessionsComplete : Prop :=
  (∀ (m : DapMsg) (k : Nat) (e : Nat × CompEntry) (s : State), dapArrives s .eth = true → m.port = .eth →
    s.fw.restarting = false → openBad m 6 = none → serving s = true → compOf s (bits m.value 15 0) = some e →
    e.2.draining = false → e.2.tenant ≠ 0xFFF → keyOk s (bits m.value 47 16) e.2.tenant 3 [] = true →
    sessionsOpen s < 32 → freeSession s = some k →
    exec (.dapOpenTenant m) s = .next (openReply m k .ok (setSession .eth k
      (Session.fresh (.tenant (bits m.value 15 0) e.2.tenant) s.time) s))) ∧
  (∀ (m : DapMsg) (k : Nat) (s : State), dapArrives s m.port = true → s.fw.restarting = false → openBad m 4 = none →
    managementOk s (bits m.value 31 0) = true → sessionsOpen s < 32 → freeSession s = some k →
    exec (.dapOpenManagement m) s = .next (openReply m k .ok (setSession m.port k
      (Session.fresh (.management (bits m.value 31 0)) s.time) s))) ∧
  (∀ (m : DapMsg) (x : Session) (s : State), dapInOrder m x s = true → m.reserved = 0 → m.version = 1 → x.kind ≠ .implicit →
    m.valueLength = m.count → m.valueLength ≤ 8160 →
    exec (.dapClose m) s = .next (closeSession m.port m.session (dapFinish m.port m.session .ok 0 0 0 (setSession m.port m.session
      { x with lastSeq := m.seq, lastUse := s.time, busy := some (okey m.index m.sub), stage := none } s)))) ∧
  (∀ (p : Port) (n : Nat) (s : State), ¬ (p = .i3c ∧ n = 0) →
    exec (.dapSessionIdleTimeout p n) s = .next (closeSession p n s)) ∧
  (∀ (address : Nat) (s : State), dictLive s = true →
    exec (.i3cSetdasa address) s = .next { s with dict := { s.dict with i3cAddr := some address } } ∧
    exec (.i3cEntdaa address) s = .next { s with dict := { s.dict with i3cAddr := some address } }) ∧
  (∀ (r : DapReply) (rs : List DapReply) (s : State), dictLive s = true → s.dict.i3cReplies = r :: rs →
    exec .i3cPrivateRead s = .next (emit (.dap r) { s with dict := { s.dict with i3cReplies := rs } })) ∧
  (∀ (m : DapMsg) (x : Session) (s t : State) (c : Ctx), session t c.port c.id = some x →
    (dapAdmitted dapSubscribe m s = some (c, t) → x.subs.contains (okey c.index c.sub) = false → x.subs.length < 16 →
      exec (.dapSubscribe m) s =
        .next (finOk c (setSession c.port c.id { x with subs := sadd x.subs (okey c.index c.sub) } t))) ∧
    (dapAdmitted dapUnsubscribe m s = some (c, t) →
      exec (.dapUnsubscribe m) s =
        .next (finOk c (setSession c.port c.id { x with subs := sdel x.subs (okey c.index c.sub) } t)))) ∧
  (∀ (p : Port) (b : Nat) (s : State), dapArrives s p = true → b ≠ 1 → b ≠ 5 → b ≠ 6 →
    exec (.messageDiscard p b) s = .next (bump 0x1030 5 1 s))

/-- Reads and writes of objects that the checking order lets through (R448, R464 to R466): a read answers the object's value; a
write of an object without a meaning of its own, inside its range, stores it and answers OK, and a guarded one is recorded as
well; package_number is written so before READY.
Saving, recalibration and the configuration check by objects (R471, R472, R488, R561): save_now takes an image that
SAVE_COMPLETE stores; restore_defaults puts every SAVED object at its default; a link is recalibrated; cfg_commit puts every
present block in ADOPT, and a commit that is not over in time ends with DEFER.
Each of these commands completes here, on conditions on its operands and the state alone: dapRead, dapWrite,
dictObjectWrite, dapWriteGuarded, packageNumberWrite, saveNow, saveComplete, restoreDefaults, linkRecal, cfgCommit,
cfgCommitTimeout. -/
def Obligations.DictionaryCommandsComplete : Prop :=
  (∀ (m : DapMsg) (s t : State) (c : Ctx), dapAdmitted dapRead m s = some (c, t) →
    exec (.dapRead m) s = .next (readObj c t)) ∧
  (∀ (m : DapMsg) (s t : State) (c : Ctx), arrayWrite c.index c.sub = none → clearedBy (okey c.index c.sub) = none →
    ownWrite (okey c.index c.sub) = none → (rangeFor (okey c.index c.sub)).1 ≤ c.value →
    c.value ≤ (rangeFor (okey c.index c.sub)).2 → packageField (okey c.index c.sub) c.value = true →
    (dapAdmitted dapWrite m s = some (c, t) →
      exec (.dapWrite m) s = .next (finOk c (setObj c.index c.sub c.value t)) ∧
      exec (.dictObjectWrite m) s = .next (finOk c (setObj c.index c.sub c.value t))) ∧
    (dapAdmitted dapGuarded m s = some (c, t) → logRoom t 0x20 = true →
      exec (.dapWriteGuarded m) s = .next (finOk c (guardedEntry c (setObj c.index c.sub c.value t))))) ∧
  (∀ (m : DapMsg) (s t : State) (c : Ctx), dapAdmitted dapGuarded (toObj m 0x1021 1) s = some (c, t) →
    t.pkg ≠ .ready → t.pkg ≠ .draining → bits c.value 15 12 = 0 → logRoom t 0x20 = true →
    exec (.packageNumberWrite m) s = .next (finOk c (guardedEntry c (setObj 0x1021 1 c.value t)))) ∧
  (∀ (m : DapMsg) (s t : State) (c : Ctx), dapAdmitted dapWrite (toObj m 0x1011 1) s = some (c, t) → c.value = 1 →
    t.dict.saving = none → logRoom t 0x60 = true →
    exec (.saveNow m) s = .next { t with dict := { t.dict with saving := some (capture t) } }) ∧
  (∀ (i : Image) (s : State), s.dict.saving = some i →
    exec .saveComplete s =
      .next (dapFinishKey (okey 0x1011 1) .ok 0 (storeImage i { s with dict := { s.dict with saving := none } }))) ∧
  (∀ (m : DapMsg) (s t : State) (c : Ctx), dapAdmitted dapWrite (toObj m 0x1011 2) s = some (c, t) → c.value = 1 →
    exec (.restoreDefaults m) s = .next (finOk c (takeAllConfig (toDefaults t)))) ∧
  (∀ (m : DapMsg) (s t : State) (c : Ctx), dapAdmitted dapWrite (toObj m 0xA030 1) s = some (c, t) → c.value < 16 →
    exec (.linkRecal m) s = .next (finOk c (beginRecal c.value t))) ∧
  (∀ (m : DapMsg) (s t : State) (c : Ctx), dapAdmitted dapWrite (toObj m 0xF010 2) s = some (c, t) → c.value = 1 →
    exec (.cfgCommit m) s = .next (settleCommit ((List.range 32).foldl
      (fun s d => if hasBlock d ∧ diePresent s d then setCheck d .adopt s else s) t))) ∧
  (∀ (s : State), commitOver s = false →
    exec .cfgCommitTimeout s = .next (dapFinishKey (okey 0xF010 2) .defer 0 s))

/-- A write of 1 to a CMD object that clears counters clears them all and answers OK: the counters of the dictionary, the tiers,
translation, arithmetic, attention, synchronisation, streams, Ethernet, tables, searches and registers (R85, R168, R209, R236,
R263, R264, R292, R317, R381, R446, R473, R499).
Each of these commands completes here, on conditions on its operands and the state alone: dictCountersClear,
tierCountersClear, xltCountersClear, arithCountersClear, attnCountersClear, syncCountersClear, streamCountersClear,
ethCountersClear, oryxCountersClear, tableCountersClear, searchCountersClear, regCountersClear. -/
def Obligations.CountersCleared : Prop :=
  ∀ (m : DapMsg) (s t : State) (c : Ctx), c.value = 1 →
    let sent := fun i k => dapAdmitted dapWrite (toObj m i k) s = some (c, t)
    (sent 0x1030 9 → exec (.dictCountersClear m) s = .next (finOk c (clearObjs 0x1030 [4, 5] t))) ∧
    (sent 0x3011 8 → exec (.tierCountersClear m) s = .next (finOk c (clearObjs 0x3011 [1, 2, 3, 4, 5, 6, 7] t))) ∧
    (sent 0x3020 9 → exec (.xltCountersClear m) s = .next (finOk c (clearObjs 0x3020 [3, 4, 5, 6, 7] t))) ∧
    (sent 0x4010 7 → exec (.arithCountersClear m) s = .next (finOk c (clearObjs 0x4010 [3, 4, 5, 6] t))) ∧
    (sent 0x5011 10 → exec (.attnCountersClear m) s = .next (finOk c (clearObjs 0x5011 [1, 2, 3, 4, 5, 6, 7, 8, 9] t))) ∧
    (sent 0x6020 0xD → exec (.syncCountersClear m) s = .next (finOk c (clearObjs 0x6020 [8, 9, 0xA, 0xB, 0xC] t))) ∧
    (sent 0x7043 7 → exec (.streamCountersClear m) s = .next (finOk c (clearObjs 0x7043 [1, 2, 3, 4, 5, 6] t))) ∧
    (sent 0x7101 9 → exec (.ethCountersClear m) s =
      .next (finOk c (setObj 0x7100 0xE 0 (clearObjs 0x7101 [1, 2, 3, 4, 5, 6, 7, 8] t)))) ∧
    (sent 0x8013 8 → exec (.oryxCountersClear m) s = .next (finOk c (clearObjs 0x8013 [1, 2, 3, 4, 5, 6, 7] t))) ∧
    (sent m.index 8 → 0x8100 ≤ m.index → m.index ≤ 0x84FF →
      exec (.tableCountersClear m) s = .next (finOk c (clearObjs m.index [4, 5, 7] t))) ∧
    (sent 0x9011 8 → exec (.searchCountersClear m) s = .next (finOk c (clearObjs 0x9011 [1, 2, 3, 4, 5, 6, 7] t))) ∧
    (sent 0xF012 5 → exec (.regCountersClear m) s = .next (finOk c (clearObjs 0xF012 [1, 2, 3, 4] t)))

/-! ## Control blocks -/

/-- Writes through a serving block (R90, R352, R478, R482, R483, R496): an unguarded register takes its write; a guarded one is
held, and the complement at its port applies it; another value there, and a guard that times out, discard it; a word of a pair
goes to the write shadow; a mailbox acknowledgement of the head takes its notice; the tile selector and the directory probe take
their fields.
Reads by the management core (R481) of a pair's words: the low word answers and latches the high one; the high one answers
what is latched; a head slot of a mailbox is read over a link (R497); the walks of the configuration check start and end, and an
overdue pending check is reported once (R485, R487).
Each of these commands completes here, on conditions on its operands and the state alone: regWrite, guardedRegWrite,
complementPortWrite, regLoWrite, regHiWrite, guardTimeout, mbxAckWrite, fabTileSelWrite, homeDirProbeWrite, regLoRead,
regHiRead, mbxHeadRead, cfgWalkStart, cfgWalkEnd, cfgPendingOverdue. -/
def Obligations.RegisterCommandsComplete : Prop :=
  (∀ (die off v : Nat) (s : State), pagesServe s die = true → (block s die).guard = none →
    let a := decodeOff off
    let low := lowerOf a
    4096 ≤ a →
    (isPort die a = false → isGuarded die a = false → inPair die low = false →
      exec (.regWrite die off v) s = .next (writeUnit die a (v % 2 ^ 32) s)) ∧
    (isPort die a = false → isGuarded die a = true →
      exec (.guardedRegWrite die off v) s = .next (setBlock die (fun b => { b with guard := some (low, v % 2 ^ 32) }) s)) ∧
    (isPort die a = true → exec (.complementPortWrite die off v) s = .next (discard die 3 s)) ∧
    (isPort die a = false → isGuarded die a = false → isLo die low = true →
      exec (.regLoWrite die off v) s = .next (setBlock die (fun b => { b with writeShadow := some (low, v % 2 ^ 32) }) s)) ∧
    (∀ w, isPort die a = false → isGuarded die a = false → isLo die low = false → 4 ≤ low → isLo die (low - 4) = true →
      (block s die).writeShadow = some (low - 4, w) →
      exec (.regHiWrite die off v) s = .next (setBlock die (fun b => { b with writeShadow := none }) s))) ∧
  (∀ (die off v g w : Nat) (s : State), pagesServe s die = true → (block s die).guard = some (g, w) →
    4096 ≤ decodeOff off → isPort die (decodeOff off) = true → lowerOf (decodeOff off) = g →
    (v % 2 ^ 32 = notWord w → guardedTakes g w = true →
      exec (.complementPortWrite die off v) s =
        .next (applyGuarded die g w (setBlock die (fun b => { b with guard := none }) s))) ∧
    (v % 2 ^ 32 ≠ notWord w → exec (.complementPortWrite die off v) s = .next (discard die 1 s))) ∧
  (∀ (die : Nat) (s : State), (block s die).guard.isSome = true → exec (.guardTimeout die) s = .next (discard die 2 s)) ∧
  (∀ (die m v : Nat) (s : State), m < 16 → hasBlock die = true → diePresent s die = true → s.pkg ≠ .off →
    v = (box s die m).headSeq → v < 65536 → (box s die m).notices.isEmpty = false → boundQp s die m = none →
    exec (.mbxAckWrite die m v) s = .next (popNotice die m s)) ∧
  (∀ (die v : Nat) (s : State), pagesServe s die = true → (block s die).guard = none → v < 2 ^ 32 →
    (8 ≤ die → die < 16 → exec (.fabTileSelWrite die v) s = .next (setReg die 0x3000 (v % 256) s)) ∧
    (die < 8 → exec (.homeDirProbeWrite die v) s = .next (setReg die 0x4000 (v % 2 ^ 17) s))) ∧
  (∀ (die off : Nat) (s : State), pagesServe s die = true → s.pkg ≠ .off → 4096 ≤ decodeOff off →
    let a := decodeOff off
    let low := lowerOf a
    (isLo die low = true → exec (.regLoRead die off) s = .next (emit (.regRead die off (liveWord s die a))
      (setBlock die (fun b => { b with readShadow := some (low, liveWord s die (low + 4)) }) s))) ∧
    (∀ w, isLo die low = false → 4 ≤ low → isLo die (low - 4) = true → (block s die).readShadow = some (low - 4, w) →
      exec (.regHiRead die off) s =
        .next (emit (.regRead die off w) (setBlock die (fun b => { b with readShadow := none }) s)))) ∧
  (∀ (h : Hdr) (v : Nat) (s t : State) (rq : Req),
    admitted (linkReq 0x01 h 0) (memChecks s h 0) 0 (max 64 (64 * h.length)) s = some (rq, t) → h.length ≠ 0 →
    pageBase ≤ h.offset → pageRead t h.offset = some v →
    exec (.mbxHeadRead h) s = .next (completeWith rq .ok 0 0 1 v none t)) ∧
  (∀ (die : Nat) (s : State), pagesServe s die = true → (block s die).walkEnable = true →
    exec (.cfgWalkStart die) s = .next (setBlock die (fun b => { b with walking := true, marked := false }) s)) ∧
  (∀ (die : Nat) (s : State), (block s die).walking = true → pagesServe s die = true → (block s die).check = .pending →
    exec (.cfgWalkEnd die) s = .next (settleCommit (setBlock die (fun b =>
      { b with walking := false, crc := cfgCrc s die, walks := (b.walks + 1) % 65536 }) s))) ∧
  (∀ (die : Nat) (s : State), (block s die).check = .pending → (block s die).overdue = false →
    exec (.cfgPendingOverdue die) s = .next (cfgIntegrity die 3 (setBlock die (fun b => { b with overdue := true }) s)))

/-- The raw window (R489, R490): raw_die and raw_offset select; raw_data and raw_data64 read and write the selected word or pair
of an awake die through the decoder; raw_guarded writes a guarded register with its complement.
Each of these commands completes here, on conditions on its operands and the state alone: rawDieWrite, rawOffsetWrite,
rawDataRead, rawDataWrite, rawData64Read, rawData64Write, rawGuardedWrite. -/
def Obligations.RawWindowCompletes : Prop :=
  ∀ (m : DapMsg) (s t : State) (c : Ctx),
    let sent := fun op k => dapAdmitted op (toObj m 0xF000 k) s = some (c, t)
    let d := rawDie t
    let o := rawOffset t
    let up := ¬ (4096 ≤ decodeOff o ∧ 2 ≤ (dom t (dieDom d)).st)
    (sent dapWrite 1 → hasBlock c.value = true → c.value ≤ 31 → diePresent t c.value = true →
      exec (.rawDieWrite m) s = .next (finOk c (setObj 0xF000 1 c.value t))) ∧
    (sent dapWrite 2 → c.value % 4 = 0 → exec (.rawOffsetWrite m) s = .next (finOk c (setObj 0xF000 2 c.value t))) ∧
    (sent dapRead 3 → up →
      exec (.rawDataRead m) s = .next (finRead c 4 (readWord d o t).1 (readWord d o t).2)) ∧
    (sent dapWrite 3 → up → exec (.rawDataWrite m) s = .next (finOk c (blockWrite d o c.value t))) ∧
    (sent dapRead 4 → up → o % 8 = 0 →
      exec (.rawData64Read m) s = .next (
        let hi := readWord d (o + 4) (readWord d o t).2
        finRead c 8 ((readWord d o t).1 + hi.1 * 2 ^ 32) hi.2)) ∧
    (sent dapWrite 4 → up → o % 8 = 0 →
      exec (.rawData64Write m) s =
        .next (finOk c (blockWrite d (o + 4) (c.value / 2 ^ 32) (blockWrite d o (c.value % 2 ^ 32) t)))) ∧
    (sent dapGuarded 5 → up → isGuarded d (decodeOff o) = true → 4096 ≤ decodeOff o → guardedTakes (decodeOff o) c.value = true →
      logRoom t 0x20 = true →
      exec (.rawGuardedWrite m) s = .next (finOk c (guardedEntry c (guardedPair d o c.value t))))

/-! ## Custody and attestation -/

/-- Keys (R101, R102, R564, R583, R587 to R589): an image key is enrolled, and its revocation retires what it signed; an owner
key is enrolled in an empty slot and revoked while another stays; a fabric manager's key is written; each with its KEY_ENROL
entry; a tenant key is created, drawn afresh, at its next generation and destroyed by a sweep, at whose end its extents are
ZERO.
The log, the lifetime meters and the handover (R592, R595, R598, R599, R601): a checkpoint is written on demand; the meters
rise by what is reported and their snapshot is an entry; HANDOVER of a package that may be purged purges it and resets it;
HANDOVER_REPORT asks for a report, which is signed once the package serves.
Each of these commands completes here, on conditions on its operands and the state alone: imageKeyEnrol, imageKeyRevoke,
ownerKeyEnrol, ownerKeyRevoke, fmKeyWrite, keyCreate, keyDestroy, keySweepDone, logCheckpoint, lifetimeMeterUpdate,
meterSnapshot, handover, handoverReport, conditionReportSign. -/
def Obligations.KeyAndCustodyCommandsComplete : Prop :=
  (∀ (m : DapMsg) (s t : State) (c : Ctx), dapAdmitted dapGuarded (toObj m 0x4023 m.sub) s = some (c, t) →
    logRoom t 0x21 = true →
    (c.value ≠ 0 →
      exec (.imageKeyEnrol m) s = .next (finOk c (logKey c (c.sub - 1) (setObj 0x4023 c.sub c.value t)))) ∧
    (c.value = 0 →
      exec (.imageKeyRevoke m) s =
        .next (finOk c (cfgEvent (retireSigned (c.sub - 1) (logKey c (c.sub - 1) (setObj 0x4023 c.sub 0 t))))))) ∧
  (∀ (m : DapMsg) (s t : State) (c : Ctx), dapAdmitted dapGuarded (toObj m 0xB020 m.sub) s = some (c, t) →
    logRoom t 0x21 = true → c.actor = 2 →
    (c.value ≠ 0 → obj t 0xB020 c.sub = 0 →
      exec (.ownerKeyEnrol m) s =
        .next (finOk c (logKey c (c.sub - 2) (setObj 0xB020 1 1 (setObj 0xB020 c.sub c.value t))))) ∧
    (c.value = 0 → ¬ (obj t 0xB020 c.sub ≠ 0 ∧ ownerKeys t = 1) →
      exec (.ownerKeyRevoke m) s = .next (finOk c (logKey c (c.sub - 2) (setObj 0xB020 c.sub 0 t))))) ∧
  (∀ (m : DapMsg) (s t : State) (c : Ctx), dapAdmitted dapGuarded (toObj m 0xA040 m.sub) s = some (c, t) →
    logRoom t 0x21 = true → c.sub ≠ 1 →
    exec (.fmKeyWrite m) s = .next (finOk c (logKey c (c.sub - 2) (setObj 0xA040 c.sub c.value t)))) ∧
  (∀ (m : DapMsg) (s t : State) (c : Ctx), dapAdmitted dapGuarded (toObj m 0xB030 3) s = some (c, t) →
    let k := bits c.value 11 0
    bits c.value 27 12 = 0 → logNext t + 1 + logReserve < logCapacity →
    (bits c.value 31 28 = 1 → keyState t k = 0 →
      exec (.keyCreate m) s = .next (finOk c (guardedEntry c (logTenantKey c 1 k (setKey k 1 { (drawKey t).2 with
        tenantKeys := tset (drawKey t).2.tenantKeys k (drawKey t).1
        keyGens := tset (drawKey t).2.keyGens k ((keyGeneration (drawKey t).2 k + 1) % 2 ^ 16) }))))) ∧
    (bits c.value 31 28 = 2 → keyState t k = 1 → keyInUse t k = false →
      exec (.keyDestroy m) s = .next (finOk c (guardedEntry c (logTenantKey c 2 k (setKey k 2
        { t with tenantKeys := terase t.tenantKeys k })))))) ∧
  (∀ (k : Nat) (s : State), keyState s k = 2 →
    exec (.keySweepDone k) s = .next (settlePlacement (setKey k 0
      (((s.extents.filter (fun e => e.2.key == k)).map (·.1)).foldl (fun s e => makeZero e s) s)))) ∧
  (∀ (m : DapMsg) (s t : State) (c : Ctx), dapAdmitted dapWrite (toObj m 0xB040 4) s = some (c, t) → c.value = 1 →
    logNext t + 27 ≤ logCapacity →
    exec (.logCheckpoint m) s = .next (finOk c (checkpoint t))) ∧
  (∀ (k v : Nat) (s : State), s.pkg ≠ .off → 1 ≤ k → k ≤ 5 →
    exec (.lifetimeMeterUpdate ⟨[(k, v)]⟩) s = .next (bump 0xB050 k v s)) ∧
  (∀ (s : State), s.pkg ≠ .off → exec .meterSnapshot s = .next (logMeters s)) ∧
  (∀ (m : DapMsg) (s t : State) (c : Ctx), dapAdmitted dapGuarded (toObj m 0xB070 1) s = some (c, t) → c.actor = 2 →
    bits c.value 255 192 = 0 → bits c.value 63 8 = 0 → (obj t 0xB070 2 = 0 ∨ obj t 0xB070 2 = 4) → t.dict.saving = none →
    firmwareBusy t = false →
    (bits c.value 7 0 = 1 → purgeAllowed t = true → logRoom t 0x41 = true →
      exec (.handover m) s = .next (purgeAll c.value (finOk c (setObj 0xB070 2 1 (bump 0xB070 3 1
        (appendLog 0x41 c.actor c.tenant c.value (guardedEntry c t))))))) ∧
    (bits c.value 7 0 = 2 → logRoom t 0x20 = true →
      exec (.handoverReport m) s =
        .next (finOk c (guardedEntry c (setObj 0xB070 2 3 { t with purge := ⟨c.value, 0x10, 0⟩ }))))) ∧
  (∀ (s : State), obj s 0xB070 2 = 3 → serving s = true →
    exec .conditionReportSign s = .next (
      let digest := shake256 192 (conditionHead s) % 2 ^ 512
      let report := joinBytes [(192, conditionHead s), (3328, sigBlock 0xFE (obj s 0xB010 1) digest)]
      setObj 0xB070 2 4 (appendLog 0x42 0 0 digest (setObj 0xB070 4 report s))))

/-- The SPDM responder (R579 to R584): each request at its stage of the connection is answered, with the signature where it has
one; KEY_EXCHANGE of an accepted chain opens a session, FINISH establishes it; an established one takes HEARTBEAT, KEY_UPDATE and
END_SESSION; three missed heartbeats end it; any other request is answered UnsupportedRequest.
Each of these commands completes here, on conditions on its operands and the state alone: spdmGetVersion,
spdmGetCapabilities, spdmNegotiateAlgorithms, spdmGetDigests, spdmGetCertificate, spdmChallenge, spdmGetMeasurements,
spdmKeyExchange, spdmUnsupportedRequest, spdmFinish, spdmHeartbeat, spdmKeyUpdate, spdmEndSession, spdmHeartbeatMissed. -/
def Obligations.SpdmCompletes : Prop :=
  (∀ (m : SpdmMsg) (s : State), spdmArrives s m.port = true →
    exec (.spdmGetVersion m) s = .next (spdmSend m m.session 4 1 0x13 (setStageOf m.port 1 s)) ∧
    (1 ≤ stage s m.port → exec (.spdmGetCapabilities m) s =
      .next (spdmSend m m.session 0x61 4 0x63D6 (setStageOf m.port (max 2 (stage s m.port)) s))) ∧
    (2 ≤ stage s m.port → exec (.spdmNegotiateAlgorithms m) s =
      .next (spdmSend m m.session 0x63 4 0x00020001 (setStageOf m.port 3 s))) ∧
    (3 ≤ stage s m.port →
      exec (.spdmGetDigests m) s =
        .next (spdmSend m m.session 1 64 (shake256 (chainBytes s) (chainValue s) % 2 ^ 512) s) ∧
      (certSlot m = 0 → exec (.spdmGetCertificate m) s = .next (
        let k := min (certLength m) (chainBytes s - certOffset m)
        if chainBytes s ≤ certOffset m then spdmError m 1 s
        else spdmSend m m.session 2 k ((chainValue s >>> (8 * certOffset m)) % 2 ^ (8 * k)) s)) ∧
      (bits m.param 7 0 = 0 → exec (.spdmChallenge m) s =
        .next (spdmSigned m 3 64 (shake256 (chainBytes s) (chainValue s) % 2 ^ 512) s)) ∧
      (bits m.param 7 0 = 0xFF → exec (.spdmGetMeasurements m) s =
        .next (spdmSigned m 0x60 (measurements s).1 (measurements s).2 s)) ∧
      (∀ (n : Nat) (key : Option Nat), bits m.param 7 0 = 0 → chainAccepted s key = true →
        ((List.range 8).map (· + 1)).find? (fun k => (tget s.spdm.sessions k).isNone) = some n →
        exec (.spdmKeyExchange m key) s = .next (spdmSend m n 0x64 0 0 (countSpdm { s with
          spdm := { s.spdm with sessions := tset s.spdm.sessions n ⟨m.port, false, true, 0⟩ } })))) ∧
    (∀ code, spdmSupported code = false → exec (.spdmUnsupportedRequest m code) s = .next (spdmError m 7 s))) ∧
  (∀ (m : SpdmMsg) (x : SpdmSession) (s : State), spdmArrives s m.port = true → tget s.spdm.sessions m.session = some x →
    x.port = m.port →
    (x.established = false → exec (.spdmFinish m true) s =
      .next (spdmSend m m.session 0x65 0 0 (setSpdm m.session { x with established := true } s))) ∧
    (x.established = true →
      exec (.spdmHeartbeat m) s = .next (spdmSend m m.session 0x68 0 0 s) ∧
      exec (.spdmKeyUpdate m) s =
        .next (spdmSend m m.session 0x69 0 0 (setSpdm m.session { x with keyUpdates := x.keyUpdates + 1 } s)) ∧
      exec (.spdmEndSession m) s = .next (spdmSend m m.session 0x6C 0 0 (endSpdm m.session s)))) ∧
  (∀ (n : Nat) (s : State), (tget s.spdm.sessions n).isSome = true → exec (.spdmHeartbeatMissed n) s = .next (endSpdm n s))

/-! ## Rules over several commands -/

/-- A request that a link brings completes with the status of the first check of R41 that it fails, and changes nothing of
memory, of the synchronisation objects, of configurations, of tables, of the maps and of custody (R11, R41): here for memory
requests, atomics, PUBLISH, DOORBELL, FLUSH, PROBE, SYNC, WAIT, the coherent operations, COMPOSE, OWNER, configuration
commands, INVOKE, the tables of streams and Oryx, arenas, and DMA. -/
def Obligations.RequestsRefused : Prop :=
  ∀ (h : Hdr) (body data : Nat) (s u : State),
    (refused (linkReq 0x01 h 0) (memChecks s h 0) 0 (max 64 (64 * h.length)) s = some u →
      exec (.read h []) s = .next u ∧ Unchanged s u) ∧
    (refused (linkReq 0x02 h 0) (memChecks s h 0) 0 (max 64 (64 * h.length)) s = some u →
      exec (.readAcq h []) s = .next u ∧ Unchanged s u) ∧
    (refused ⟨0x03, h, 0, data, [], false⟩ (memChecks s h 1) (64 * h.length) (max 64 (64 * h.length)) s = some u →
      exec (.write h data) s = .next u ∧ Unchanged s u) ∧
    (refused ⟨0x04, h, 0, data, [], false⟩ (memChecks s h 1) (64 * h.length) (max 64 (64 * h.length)) s = some u →
      exec (.writeRel h data) s = .next u ∧ Unchanged s u) ∧
    (refused (linkReq 0x06 h body) (atomicChecks s h body) 32 64 s = some u →
      exec (.atomic h body) s = .next u ∧ Unchanged s u) ∧
    (refused ⟨0x07, h, body, data, [], false⟩ (publishChecks s h body) (64 + 64 * h.length)
        (max 64 (64 * h.length)) s = some u →
      exec (.publish h body data) s = .next u ∧ Unchanged s u) ∧
    (refused (linkReq 0x0A h body) (doorbellChecks body) 16 64 s = some u →
      exec (.doorbell h body) s = .next u ∧ Unchanged s u) ∧
    (refused (linkReq 0x05 h body) (flushChecks body) 16 64 s = some u →
      exec (.flush h body) s = .next u ∧ Unchanged s u) ∧
    (refused (linkReq 0x0B h 0) probeChecks 0 64 s = some u →
      exec (.probe h) s = .next u ∧ Unchanged s u) ∧
    (refused (linkReq 0x08 h body) (syncChecks (syncBad 1 body) (syncIndex body)) 32 64 s = some u →
      exec (.syncAdd h body) s = .next u ∧ Unchanged s u) ∧
    (refused (linkReq 0x08 h body) (syncChecks (syncBad 2 body) (syncIndex body)) 32 64 s = some u →
      exec (.syncSet h body) s = .next u ∧ Unchanged s u) ∧
    (refused (linkReq 0x08 h body) (syncChecks (syncBad 3 body) (syncIndex body)) 32 64 s = some u →
      exec (.syncClaim h body) s = .next u ∧ Unchanged s u) ∧
    (refused (linkReq 0x08 h body) (syncChecks (syncBad 4 body) (syncIndex body)) 32 64 s = some u →
      exec (.syncRelease h body) s = .next u ∧ Unchanged s u) ∧
    (refused (linkReq 0x08 h body) (syncChecks (syncBad 5 body) (syncIndex body)) 32 64 s = some u →
      exec (.syncCancel h body) s = .next u ∧ Unchanged s u) ∧
    (refused (linkReq 0x09 h body) (syncChecks (waitBad body) (syncIndex body)) 64 64 s = some u →
      exec (.wait h body) s = .next u ∧ Unchanged s u) ∧
    (refused (linkReq 0x20 h 0) (cohChecks h 0 s) 0 64 s = some u →
      exec (.rdShared h) s = .next u ∧ Unchanged s u) ∧
    (refused (linkReq 0x21 h 0) (cohChecks h 0 s) 0 64 s = some u →
      exec (.rdOwn h) s = .next u ∧ Unchanged s u) ∧
    (refused (linkReq 0x22 h 0) (cohChecks h 0 s) 0 64 s = some u →
      exec (.upgrade h) s = .next u ∧ Unchanged s u) ∧
    (refused ⟨0x23, h, 0, data, [], false⟩ (cohChecks h 1 s) 64 64 s = some u →
      exec (.wbDirty h data) s = .next (settleDissolve u) ∧ Unchanged s (settleDissolve u)) ∧
    (refused (linkReq 0x24 h 0) (cohChecks h 0 s) 0 64 s = some u →
      exec (.evictClean h) s = .next (settleDissolve u) ∧ Unchanged s (settleDissolve u)) ∧
    (refused (linkReq 0x30 h body) (tableChecks (composeBad 1 body) false) 32 64 s = some u →
      exec (.composeSetEntry h body) s = .next u ∧ Unchanged s u) ∧
    (refused (linkReq 0x30 h body) (tableChecks (composeBad 2 body) false) 32 64 s = some u →
      exec (.composeRemoveEntry h body) s = .next u ∧ Unchanged s u) ∧
    (refused (linkReq 0x30 h body) (tableChecks (composeBad 3 body) false) 32 64 s = some u →
      exec (.composeAdvance h body) s = .next u ∧ Unchanged s u) ∧
    (refused (linkReq 0x31 h body) (tableChecks (ownerBad body) false) 32 64 s = some u →
      exec (.owner h body) s = .next u ∧ Unchanged s u) ∧
    (refused (linkReq 0x14 h body) (postedChecks (cfgBad 1 body) none (cfgImgBytes body == 0xFFFFFFFF || decide
        (4194304 < cfgImgBytes body)) false []) 64 64 s = some u →
      exec (.register h body) s = .next u ∧ Unchanged s u) ∧
    (refused (linkReq 0x14 h body) (postedChecks (cfgBad 2 body) none false false []) 64 64 s = some u →
      exec (.configRetire h body) s = .next u ∧ Unchanged s u) ∧
    (refused (linkReq 0x14 h body) (postedChecks (cfgBad 3 body) none false (!fabricPresent s (cfgCluster body /
        16)) []) 64 64 s = some u →
      exec (.load h body) s = .next u ∧ Unchanged s u) ∧
    (refused (linkReq 0x14 h body) (postedChecks (cfgBad 4 body) none false false []) 64 64 s = some u →
      exec (.unbind h body) s = .next u ∧ Unchanged s u) ∧
    (refused (linkReq 0x13 h body) (postedChecks (invBad body) (some 64) (invTooLong s h body) false (handleDoms s
        (invHandle body))) (32 + 16 * invArgs body) (max 64 (32 + 16 * invArgs body)) s = some u →
      exec (.invoke h body) s = .next u ∧ Unchanged s u) ∧
    (refused (linkReq 0x16 h body) (postedChecks (stBad 2 body) none false false []) 64 64 s = some u →
      exec (.tableInstall h body) s = .next u ∧ Unchanged s u) ∧
    (refused (linkReq 0x16 h body) (postedChecks (stBad 3 body) none false false []) 64 64 s = some u →
      exec (.tableSlotRetire h body) s = .next u ∧ Unchanged s u) ∧
    (refused (linkReq 0x10 h body) (postedChecks (arenaBad body true) (some 64) (bits body 95 64 == 0xFFFFFFFF ||
        h.length != 1) false [homeDom (homeOf s (descOffset s (attnArena body)))]) (64 * h.length) (max 64 (64 * h.length)) s = some u →
      exec (.arenaActivate h body) s = .next u ∧ Unchanged s u) ∧
    (refused (linkReq 0x10 h body) (postedChecks (arenaBad body false) (some 64) (false || h.length != 1) false [])
        (64 * h.length) (max 64 (64 * h.length)) s = some u →
      exec (.arenaDeactivate h body) s = .next u ∧ Unchanged s u) ∧
    (refused (linkReq 0x10 h body) (postedChecks (bits body 511 20 != 0 || attnOp body != 4) (some 64) (false ||
        h.length != 1) false []) (64 * h.length) (max 64 (64 * h.length)) s = some u →
      exec (.discard h body) s = .next u ∧ Unchanged s u) ∧
    (refused (linkReq 0x11 h body) (postedChecks (orBad body) none false false [homeDom (orTable body % 8)]) 64 64 s = some u →
      exec (.gather h body) s = .next u ∧ exec (.pool h body) s = .next u ∧ exec (.scatter h body) s = .next u ∧
      exec (.update h body) s = .next u ∧ exec (.oryxDelete h body) s = .next u ∧
      exec (.tableActivate h body) s = .next u ∧ exec (.tableReplace h body) s = .next u ∧
      exec (.tableDeactivate h body) s = .next u ∧ Unchanged s u) ∧
    (refused (linkReq 0x18 h body) (dmaChecks s body) 64 64 s = some u →
      exec (.dmaCopy h body) s = .next u ∧ Unchanged s u)

/-- A WRITE or a WRITE_REL of near memory whose lines no cache holds stores its data byte for byte, and no other byte of memory
changes but the stale bits of shadows of what it writes (R202, R360): each byte outside reads as it did. -/
def Obligations.WriteStoresItsBytes : Prop :=
  ∀ (op : Nat) (h : Hdr) (data : Nat) (s t : State) (rq : Req),
    admitted ⟨op, h, 0, data, [], false⟩ (memChecks s h 1) (64 * h.length) (max 64 (64 * h.length)) s = some (rq, t) →
    0 < h.length → h.offset < pageBase → (op = 0x03 ∨ (op = 0x04 ∧ openWrites t h.requester = [])) →
    (extentsOf h.offset (64 * h.length)).any (isMirror t) = false →
    farExtents t h.offset (64 * h.length) = [] → framesFree t (framesNeeded t h.offset (64 * h.length)) = true →
    (linesOf h.offset (64 * h.length)).all (fun l => (tget t.dir l).isNone) = true → t.unrebuilt = [] →
    ∃ v, (if op = 0x03 then exec (.write h data) s else exec (.writeRel h data) s) = .next v ∧
      ∀ a, a ∉ staleBytes t h.offset (64 * h.length) →
        readMem v a 1 = if h.offset ≤ a ∧ a < h.offset + 64 * h.length then data / 2 ^ (8 * (a - h.offset)) % 256
          else readMem s a 1

/-- The object operations (R369), for a request that R41 lets through: ADD adds its operand modulo 2^64, SET sets it; CLAIM of an
unowned object records the request's tenant and sets the operand, and one of an owned object is refused; RELEASE is refused
while there is a waiter, and otherwise leaves the object unowned and zero; CANCEL removes the requester's waiter with the tag
and notifies it of nothing. The others are signals: each advances the count and records the signaller, kind 1 and unit 0 for a
link request, and the time. -/
def Obligations.SyncObjectOperations : Prop :=
  ∀ (h : Hdr) (body : Nat) (s t : State) (rq : Req),
    let n := syncIndex body
    let o := syncObj t n
    let sent := fun k => admitted (linkReq 0x08 h body) (syncChecks (syncBad k body) n) 32 64 s = some (rq, t)
    let counted := fun v =>
      let p := syncObj v n
      p.count = satInc 64 o.count 1 ∧ p.lastRequester = h.requester ∧ p.lastTenant = h.tenant ∧ p.lastKind = 1 ∧
        p.lastUnit = 0 ∧ p.lastTime = s.time % 2 ^ 64
    (sent 1 → o.owner = some h.tenant → ∃ v, exec (.syncAdd h body) s = .next v ∧ counted v ∧
      (syncObj v n).value = (o.value + syncOperand body) % 2 ^ 64 ∧ (syncObj v n).owner = o.owner) ∧
    (sent 2 → o.owner = some h.tenant → ∃ v, exec (.syncSet h body) s = .next v ∧ counted v ∧
      (syncObj v n).value = syncOperand body ∧ (syncObj v n).owner = o.owner) ∧
    (sent 3 → o.owner = none → ∃ v, exec (.syncClaim h body) s = .next v ∧ counted v ∧
      (syncObj v n).value = syncOperand body ∧ (syncObj v n).owner = some h.tenant) ∧
    (∀ k, sent 3 → o.owner = some k → ∃ v, (syncObj v n).owner = some k ∧ (syncObj v n).value = o.value ∧
      (k ≠ h.tenant → v = complete rq .tenantBlocked 0 (raiseEvent 0x6020 6 0 (bump 0x6020 9 1 t))) ∧
      (k = h.tenant → v = complete rq .unsupported 0 t) ∧ exec (.syncClaim h body) s = .next v) ∧
    (sent 4 → o.owner = some h.tenant → o.waiters.isEmpty = false →
      exec (.syncRelease h body) s = .next (complete rq .unsupported 0 t)) ∧
    (sent 4 → o.owner = some h.tenant → o.waiters.isEmpty = true → ∃ v, exec (.syncRelease h body) s = .next v ∧ counted v ∧
      (syncObj v n).value = 0 ∧ (syncObj v n).owner = none) ∧
    (sent 5 → o.owner = some h.tenant → ∃ v, exec (.syncCancel h body) s = .next v ∧
      syncObj v n = { o with waiters := o.waiters.filter (fun w => !isWaiter h.requester (syncOperand body) w) } ∧
      v.notified = t.notified)

/-- A write of package_number in READY or DRAINING completes with DEFER and leaves the number as it is; in the other states
that have a dictionary, one with bits [15:12] set completes with UNSUPPORTED (R28). -/
def Obligations.PackageNumberRefused : Prop :=
  ∀ (m : DapMsg) (s t : State) (c : Ctx), dapAdmitted dapGuarded (toObj m 0x1021 1) s = some (c, t) →
    ((t.pkg = .ready ∨ t.pkg = .draining) → exec (.packageNumberWrite m) s = .next (fin c .defer 0 t) ∧
      obj (fin c .defer 0 t) 0x1021 1 = obj s 0x1021 1) ∧
    (t.pkg ≠ .ready → t.pkg ≠ .draining → bits c.value 15 12 ≠ 0 →
      exec (.packageNumberWrite m) s = .next (fin c .unsupported 0 t) ∧
      obj (fin c .unsupported 0 t) 0x1021 1 = obj s 0x1021 1)

/-- An image registered under key slot 0 may be loaded by any tenant, any other only by the tenant that registered it: a LOAD
by another tenant completes with TENANT_BLOCKED (R104). -/
def Obligations.ImagesLoadedByTheirTenants : Prop :=
  ∀ (h : Hdr) (body : Nat) (e : RegEntry) (s t : State) (rq : Req),
    admitted (linkReq 0x14 h body)
      (postedChecks (cfgBad 3 body) none false (!fabricPresent s (cfgCluster body / 16)) []) 64 64 s = some (rq, t) →
    bit body 80 = false → t.pkg ≠ .draining → cfgTenant body = h.tenant → tget t.registry (cfgSlot body) = some e →
    (e.image.keySlot ≠ 0 → e.tenant ≠ h.tenant →
      exec (.load h body) s = .next (complete rq .tenantBlocked 0 t)) ∧
    ((e.image.keySlot = 0 ∨ e.tenant = h.tenant) → cfgContext body ≠ 0 → tget t.handles (cfgHandle body) = none →
      cfgRole body < e.image.roles → (cluster t (cfgCluster body)).st = .empty →
      (cluster t (cfgCluster body)).handle = none →
      placeByte (readMem t e.image.offset e.image.bytes) (cfgRole body) 16 = 0xFF →
      exec (.load h body) s = .next (acceptLoad rq e (t.accCtr + 1)
        (complete rq .ok ((t.accCtr + 1) * 256 + cfgHandle body) { t with accCtr := t.accCtr + 1 })))

/-- DISCARD empties all 64 slots by advancing the pending generation and completes with OK; one accepted while a COMMIT of the
arena is copying completes with DEFER, the arena as it was (R145). -/
def Obligations.DiscardEmptiesSlots : Prop :=
  ∀ (h : Hdr) (body : Nat) (x : Arena) (s t : State) (rq : Req),
    admitted (linkReq 0x10 h body) (postedChecks (bits body 511 20 != 0 || attnOp body != 4) (some 64)
      (false || h.length != 1) false []) (64 * h.length) (max 64 (64 * h.length)) s = some (rq, t) →
    tget t.arenas (attnArena body) = some x → x.tenant = h.tenant →
    (x.copying = none → ∃ u, exec (.discard h body) s = .next (complete rq .ok 0 u) ∧
      tget u.arenas (attnArena body) = some { x with gen := x.gen + 1, slots := [] }) ∧
    (x.copying.isSome = true → exec (.discard h body) s = .next (deferReq rq (copyHint t x) t))

/-- A handle with 64 calls that have not completed accepts no more: an INVOKE completes with DEFER and retry_hint 0x01
(R127). -/
def Obligations.CallsPerHandle : Prop :=
  ∀ (h : Hdr) (body : Nat) (x : FnHandle) (s t : State) (rq : Req),
    admitted (linkReq 0x13 h body)
      (postedChecks (invBad body) (some 64) (invTooLong s h body) false (handleDoms s (invHandle body)))
      (32 + 16 * invArgs body) (max 64 (32 + 16 * invArgs body)) s = some (rq, t) →
    (bit body 80 = true → recordAt t (bits body 79 32) 32 = true) → invArgs body ≠ 0 →
    tget t.handles (invHandle body) = some x → x.st = .active ∨ x.st = .staging → reloading t x = false →
    (List.range (invArgs body)).all (fun i => !(isBuffer (argKind (invArg body i)) && argLen (invArg body i) == 0) &&
      (x.image.args[i]?).map (·.1) == some (argKind (invArg body i))) = true →
    (shapeOf (certifiedId x.image) body).unsupported = false → (shapeOf (certifiedId x.image) body).empty = false →
    certifiedId x.image ≠ some 0x00010010 → packRefused t (invHandle body) body h.tenant = none →
    64 ≤ (callsOf t (invHandle body)).length →
    exec (.invoke h body) s = .next (deferReq rq 1 (bump 0x4020 7 1 t))
end

