-- ==== Sys2Proof/Laws/Checks.lean ====
section
/-! SUPPORT. What the checks let through is performed: one lemma for the requests of the links, one for the dictionary, one for
an engine's read. -/

namespace Sys2Proof.Machine

/-- A request that R41 lets through is performed by its act, once, on the charged and counted state. -/
theorem serve_admitted {rq : Req} {c : Checks} {n charge : Nat} {act : Req → State → State} {s : State}
    {r : Req} {t : State} (h : admitted rq c n charge s = some (r, t)) : serve rq c n charge act s = act r t := by
  unfold admitted at h
  simp only [] at h
  split at h
  · rename_i hc
    obtain ⟨h1, h2, h3⟩ := hc
    simp only [Option.some.injEq, Prod.mk.injEq] at h
    obtain ⟨rfl, rfl⟩ := h
    unfold serve
    rw [if_pos h1]
    simp only [h2]
    generalize hb : chargeBw (chargeC0 rq charge s).1 charge
      (meterIn (chargeC0 rq charge s).1 n (chargeC0 rq charge s).2) = b at h3
    obtain ⟨x, y⟩ := b
    simp only at h3
    subst h3
    rfl
  · cases h

/-- What a request's header becomes when it is charged: only the mark of its demotion changes. -/
theorem admitted_req {rq : Req} {c : Checks} {n charge : Nat} {s : State} {r : Req} {t : State}
    (h : admitted rq c n charge s = some (r, t)) : r = { rq with demoted := r.demoted } := by
  unfold admitted at h
  simp only [] at h
  split at h
  · simp only [Option.some.injEq, Prod.mk.injEq] at h
    obtain ⟨rfl, -⟩ := h
    unfold chargeC0
    dsimp only
    repeat' (first | rfl | split)
  · cases h

/-- A request that is not of C0 is not demoted. -/
theorem admitted_cls {rq : Req} {c : Checks} {n charge : Nat} {s : State} {r : Req} {t : State}
    (hc : rq.hdr.cls ≠ 0) (h : admitted rq c n charge s = some (r, t)) : r = rq := by
  unfold admitted at h
  simp only [] at h
  split at h
  · simp only [Option.some.injEq, Prod.mk.injEq] at h
    obtain ⟨rfl, -⟩ := h
    unfold chargeC0
    simp only [hc, if_false]
    split <;> rfl
  · cases h

/-- The staged segments of a session decide nothing about an object's unit. -/
theorem absentObject_setStage (p : Port) (id : Nat) (x : Option (Nat × Nat × Nat × Nat)) (s : State) (index sub : Nat) :
    absentObject (setStage p id x s) index sub = absentObject s index sub := by
  unfold setStage
  split
  · cases p <;> rfl
  · rfl

/-- A request of a session that R462 lets through is performed by its act. -/
theorem dapServe_admitted {op : Nat} {m : DapMsg} {act : Ctx → State → State} {s : State} {c : Ctx} {t : State}
    (h : dapAdmitted op m s = some (c, t)) : dapServe op m act s = act c t := by
  unfold dapAdmitted at h
  split at h
  · rename_i x r hx hr
    simp only [] at h
    split at h
    · rename_i hok
      simp only [Bool.and_eq_true] at hok
      obtain ⟨ho, hf⟩ := hok
      simp only [dapInOrder, Bool.and_eq_true, Bool.not_eq_true', beq_iff_eq, bne_iff_ne, ne_eq] at ho
      obtain ⟨⟨⟨⟨⟨⟨h1, h2⟩, -⟩, h4⟩, h5⟩, h6⟩, h7⟩ := ho
      simp only [dapFieldsOk, Bool.and_eq_true, Bool.or_eq_true, beq_iff_eq, bne_iff_ne, ne_eq,
        decide_eq_true_eq, Option.isNone_iff_eq_none] at hf
      obtain ⟨⟨⟨⟨⟨⟨⟨f1, f2⟩, f3⟩, f4⟩, f5⟩, f6⟩, f7⟩, f8⟩ := hf
      have hS : dapServe op m act s = dapSteps op m x.kind act (dapTaken op m x s) := by
        unfold dapServe
        rw [if_neg (by simp [h1]), if_neg (by simp [h2]), hx]
        dsimp only
        rw [if_neg, if_neg h7, if_pos ⟨h5, h6⟩]
        · rfl
        · revert h4; cases x.kind <;> simp
      rw [hS]
      unfold dapSteps
      dsimp only
      rw [if_neg (by revert f3; cases x.kind <;> simp [actorOf, f1, f2]), if_neg (by omega), hr]
      dsimp only
      rw [if_neg (by rcases f6 with f6 | f6 <;> simp [f6])]
      simp only [f7, Bool.not_true, Bool.false_eq_true, if_false, f8]
      split at h
      · rename_i hop
        rw [if_pos hop]
        unfold readValue
        split at h
        · rename_i hv
          rw [if_neg (by rcases hv with ⟨a, b | b⟩ <;> simp [a, b])]
          simp only [Option.some.injEq, Prod.mk.injEq] at h
          obtain ⟨rfl, rfl⟩ := h
          rfl
        · cases h
      · rename_i hop
        rw [if_neg hop]
        split at h
        · rename_i hsub
          rw [if_pos hsub]
          simp only [Option.some.injEq, Prod.mk.injEq] at h
          obtain ⟨rfl, rfl⟩ := h
          rfl
        · rename_i hsub
          rw [if_neg hsub]
          split at h
          · cases h
          · rename_i hab
            split at h
            · rename_i hd
              rw [if_pos hd]
              simp only [Option.map_eq_some_iff, Prod.mk.injEq] at h
              obtain ⟨⟨b, v⟩, hw, rfl, rfl⟩ := h
              unfold dapWhole at hw
              split at hw
              · rename_i hc
                obtain ⟨c1, c2, c3, c4, c5, c6, c7, c8⟩ := hc
                simp only [Option.some.injEq, Prod.mk.injEq] at hw
                obtain ⟨rfl, rfl⟩ := hw
                unfold writeSegment
                simp only [c6]
                rw [if_neg (by omega), if_neg c2, if_neg (by rintro ⟨a, b⟩; exact absurd (c4 a) (by omega)),
                  if_neg (by rintro ⟨a, b⟩; have := c5 a; omega)]
                simp only [c7, Bool.not_true, Bool.false_eq_true, if_false, c1, if_true]
                rw [if_neg (by omega)]
                simp only [Nat.zero_add, if_true, Nat.mul_zero, Nat.pow_zero, Nat.mul_one]
                rw [absentObject_setStage, if_neg (by simpa using hab)]
                rfl
              · cases hw
            · rename_i hd
              rw [if_neg hd]
              simp only [Option.map_eq_some_iff, Prod.mk.injEq] at h
              obtain ⟨⟨b, v⟩, hw, rfl, rfl⟩ := h
              unfold dapOneValue at hw
              rw [Option.ite_none_right_eq_some] at hw
              obtain ⟨hc, hw⟩ := hw
              obtain ⟨c1, c2, c3, c4, c5, c6, c7, c8⟩ := hc
              · simp only [Option.some.injEq, Prod.mk.injEq] at hw
                obtain ⟨rfl, rfl⟩ := hw
                unfold writeValue
                dsimp only
                rw [if_neg (by omega), if_neg (by omega), if_neg c2, if_neg (by rintro ⟨a, b⟩; exact absurd (c4 a) (by omega)),
                  if_neg (by simpa using c5)]
                simp only [c6, Bool.not_true, Bool.false_eq_true, if_false]
                rw [if_neg (by rintro ⟨a, b⟩; have := c7 a; omega), if_neg (by simpa using hab)]
                rfl
    · cases h
  · cases h

/-- What the context of a request that passed says of its message (R457, R460). -/
theorem dapAdmitted_ctx {op : Nat} {m : DapMsg} {s : State} {c : Ctx} {t : State} (h : dapAdmitted op m s = some (c, t)) :
    c.op = op ∧ c.port = m.port ∧ c.id = m.session ∧ c.index = m.index ∧ c.sub = m.sub := by
  unfold dapAdmitted at h
  split at h
  · simp only [] at h
    split at h
    · split at h
      · split at h
        · cases h; exact ⟨rfl, rfl, rfl, rfl, rfl⟩
        · cases h
      · split at h
        · cases h; exact ⟨rfl, rfl, rfl, rfl, rfl⟩
        · split at h
          · cases h
          · split at h <;>
            · simp only [Option.map_eq_some_iff] at h
              obtain ⟨p, -, hp⟩ := h
              cases hp; exact ⟨rfl, rfl, rfl, rfl, rfl⟩
    · cases h
  · cases h

/-- Lines that no agent holds, with nothing to rebuild, are accessed as they stand (R349, R570). -/
theorem poisonDead_home {s : State} {ls : List Nat} (h : linesHome s ls = true) : poisonDead ls s = s := by
  unfold linesHome at h
  simp only [Bool.and_eq_true, List.all_eq_true, Option.isNone_iff_eq_none] at h
  obtain ⟨⟨h1, -⟩, h3⟩ := h
  unfold poisonDead rebuildLines
  simp only [h1, if_true]
  clear h1
  induction ls with
  | nil => rfl
  | cons l ls ih =>
    rw [List.foldl_cons, h3 l List.mem_cons_self]
    exact ih fun x hx => h3 x (List.mem_cons_of_mem _ hx)

/-- A read of lines that no agent holds asks nobody (R335). -/
theorem peekWait_home {s : State} {ls : List Nat} (id : Nat) (h : linesHome s ls = true) : peekWait id ls s = none := by
  unfold linesHome at h
  simp only [Bool.and_eq_true, List.all_eq_true, Option.isNone_iff_eq_none] at h
  have e : readSnoops s ls = [] := by
    unfold readSnoops
    rw [List.filterMap_eq_nil_iff]
    intro l hl
    rw [h.2 l hl]
  unfold peekWait peekNeed
  simp only [e, List.filter_nil, List.isEmpty_nil, if_true]

/-- Where no engine waits for an owned line, a reader sees the memory at the homes. -/
theorem view_home {s : State} {ls : List Nat} (id : Nat) (h : linesHome s ls = true) : view id s = s := by
  unfold linesHome at h
  simp only [Bool.and_eq_true, List.isEmpty_iff] at h
  unfold view
  rw [h.1.2]
  rfl

/-- An engine that reads a range at once gets what the memory holds there, and touches its extents and lines (R195). -/
theorem fetchHere_ready {s : State} {off n : Nat} (id : Nat) (h : engineReads s off n = true) :
    fetchHere id off n s = .got .ok (readMem s off n) (unpeek id (touch off n s)) := by
  unfold engineReads at h
  simp only [Bool.and_eq_true, Bool.not_eq_true', decide_eq_true_eq] at h
  obtain ⟨⟨⟨⟨⟨h1, h2⟩, h3⟩, h4⟩, h5⟩, h7⟩ := h
  have h6 : ((if off < memRange s then homesOf s off n else []).filter (fun h => !awake s (homeDom h))) = [] := by
    rw [List.filter_eq_nil_iff]
    intro a ha
    simp only [Bool.not_eq_true', Bool.not_eq_false]
    exact List.all_eq_true.mp h3 a ha
  unfold fetchHere
  rw [if_neg (by simp only [h1, Bool.false_eq_true, false_or, not_lt]; exact h2)]
  dsimp only
  simp only [h6, h4, List.isEmpty_nil, Bool.not_true, Bool.false_eq_true, if_false, poisonDead_home h7, peekWait_home id h7,
    view_home id h7, h5]

/-- Once the homes of what it reads answer, an engine of the search goes on (R267). -/
theorem throughHomes_ready {id : Nat} {ls : List Nat} {go : State → State} {s : State}
    (h : homesWait id ls (poisonDead ls s) = none) : throughHomes id ls go s = go (poisonDead ls s) := by
  unfold throughHomes
  rw [h]

end Sys2Proof.Machine
end

