-- ==== Sys2Proof/Laws/Keeps.lean ====
section
/-! SUPPORT. What every operation of the block keeps, the groups of fields that it leaves as they were, and the lemmas from
which the files KeepsMemory to KeepsPackage show it for each operation. -/

namespace Sys2Proof.Machine

/-- The groups of the state's fields that an operation leaves as they were. -/
structure Left where
  custody : Bool
  memory : Bool
  sync : Bool
  config : Bool
  tables : Bool
  maps : Bool

/-- What every operation keeps: the memory's canonical form; the log and what has left the block only grow (their newest
entry stands first), the log within its capacity; the package's variant and the queue stay; and the groups that are left. -/
structure Keeps (k : Left) (s t : State) : Prop where
  mem : Memory.wf s.mem → Memory.wf t.mem
  log : s.log <:+ t.log
  cap : s.log.length ≤ logCapacity → t.log.length ≤ logCapacity
  out : s.out <:+ t.out
  variant : t.variant = s.variant
  pending : t.pending = s.pending
  custody : k.custody = true → CustodySame s t
  memory : k.memory = true → MemorySame s t
  sync : k.sync = true → SyncSame s t
  config : k.config = true → ConfigSame s t
  tables : k.tables = true → TablesSame s t
  maps : k.maps = true → MapsSame s t

theorem Keeps.refl {k : Left} (s : State) : Keeps k s s := by
  constructor <;> first | exact id | exact rfl | exact List.suffix_refl _ | (intro _; repeat' constructor)

/-- An update of fields of no group. -/
theorem keeps_mk {b0 b1 b2 b3 b4 b5 : Bool} {u s : State} (h : Keeps ⟨b0, b1, b2, b3, b4, b5⟩ u s)
    {x2 : Nat} {x5 : Nat} {x6 : Tab Nat} {x9 : Nat} {x10 : Nat} {x11 : Nat} {x12 : Tab Link} {x13 : Nat} {x14 : Nat}
    {x15 : Tab CompEntry} {x16 : Tab Comp} {x18 : Nat} {x21 : Tab OpenReq} {x22 : Tab (List Dma)} {x23 : Tab Extent}
    {x24 : Tab PObject} {x26 : List PlaceCmd} {x27 : List Move} {x28 : Tab Stall} {x30 : Tab DirEntry}
    {x31 : Tab Snoop} {x33 : List RemoteCopy} {x35 : Dict} {x36 : Tab Block} {x37 : Tab Nat} {x38 : Tab Mailbox}
    {x39 : Tab Nat} {x40 : Tab Domain} {x42 : Bool} {x43 : Tab Nat} {x44 : NSet} {x45 : Tab Tile}
    {x46 : List (Nat × Nat)} {x47 : Tab OwedSignal} {x52 : Tab Posted} {x58 : List Walk} {x59 : Tab FaultRec}
    {x60 : List Issued} {x62 : Tab Inval} {x66 : Tab Qp} {x67 : Nat} {x68 : Nat} {x69 : List (Nat × Out)}
    {x72 : Tab Attend} {x73 : Tab Posted} {x76 : Tab StreamRead} {x77 : Tab Nat} {x79 : Tab OReq} {x85 : Tab SOp}
    {x96 : Nat} {x97 : Option Nat} {x102 : Bool} {x103 : Tab StoreLine} {x104 : Tab NSet} {x108 : Tab (Nat × Bool)}
    {x109 : Nat} :
    Keeps ⟨b0, b1, b2, b3, b4, b5⟩ u (State.mk
      s.pending s.out x2 s.variant s.pkg x5 x6 s.mem s.poison x9 x10 x11 x12 x13 x14 x15 x16 s.recordSeq x18 s.regions
      s.owners x21 x22 x23 x24 s.shadows x26 x27 x28 s.retired x30 x31 s.sync x33 s.deadlock x35 x36 x37 x38 x39 x40
      s.keyGens x42 x43 x44 x45 x46 x47 s.registry s.reserved s.registering s.retiring x52 s.clusters s.handles s.calls
      s.xlt s.xltDesc x58 x59 x60 s.faultIds x62 s.log s.lastCheck s.sinceCheck x66 x67 x68 x69 s.selfDone s.arenas x72
      x73 s.keyStates s.slots x76 x77 s.otables x79 s.guests s.forwards s.shards s.rowOps s.indexes x85 s.memberRanges
      s.batches s.batchSeq s.fw s.resetting s.inputOn s.cold s.fullTest s.thermTrip s.norFree x96 x97 s.votes s.change
      s.purge s.spdm x102 x103 x104 s.memberObjects s.tenantKeys s.mediaKey x108 x109) :=
  ⟨h.mem, h.log, h.cap, h.out, h.variant, h.pending,
    h.custody, h.memory, h.sync, h.config, h.tables, h.maps⟩

/-- An update of fields of the group custody. -/
theorem keeps_mk_custody {b1 b2 b3 b4 b5 : Bool} {u s : State} (h : Keeps ⟨false, b1, b2, b3, b4, b5⟩ u s)
    {x2 : Nat} {x4 : PkgState} {x5 : Nat} {x6 : Tab Nat} {x9 : Nat} {x10 : Nat} {x11 : Nat} {x12 : Tab Link}
    {x13 : Nat} {x14 : Nat} {x15 : Tab CompEntry} {x16 : Tab Comp} {x17 : Nat} {x18 : Nat} {x19 : Tab Nat}
    {x21 : Tab OpenReq} {x22 : Tab (List Dma)} {x23 : Tab Extent} {x24 : Tab PObject} {x26 : List PlaceCmd}
    {x27 : List Move} {x28 : Tab Stall} {x29 : Tab Nat} {x30 : Tab DirEntry} {x31 : Tab Snoop} {x33 : List RemoteCopy}
    {x35 : Dict} {x36 : Tab Block} {x37 : Tab Nat} {x38 : Tab Mailbox} {x39 : Tab Nat} {x40 : Tab Domain}
    {x41 : Tab Nat} {x42 : Bool} {x43 : Tab Nat} {x44 : NSet} {x45 : Tab Tile} {x46 : List (Nat × Nat)}
    {x47 : Tab OwedSignal} {x52 : Tab Posted} {x58 : List Walk} {x59 : Tab FaultRec} {x60 : List Issued}
    {x62 : Tab Inval} {x64 : Nat} {x65 : Nat} {x66 : Tab Qp} {x67 : Nat} {x68 : Nat} {x69 : List (Nat × Out)}
    {x70 : NSet} {x72 : Tab Attend} {x73 : Tab Posted} {x74 : Tab Nat} {x76 : Tab StreamRead} {x77 : Tab Nat}
    {x79 : Tab OReq} {x85 : Tab SOp} {x87 : List Batch} {x88 : Nat} {x89 : Firmware} {x90 : Resetting} {x91 : Bool}
    {x92 : Bool} {x93 : Bool} {x94 : Bool} {x95 : Bool} {x96 : Nat} {x97 : Option Nat} {x98 : List (Nat × Nat)}
    {x99 : Option Change} {x100 : Purge} {x101 : Spdm} {x102 : Bool} {x103 : Tab StoreLine} {x104 : Tab NSet}
    {x106 : Tab Nat} {x107 : Option Nat} {x108 : Tab (Nat × Bool)} {x109 : Nat} :
    Keeps ⟨false, b1, b2, b3, b4, b5⟩ u (State.mk
      s.pending s.out x2 s.variant x4 x5 x6 s.mem s.poison x9 x10 x11 x12 x13 x14 x15 x16 x17 x18 x19 s.owners x21 x22
      x23 x24 s.shadows x26 x27 x28 x29 x30 x31 s.sync x33 s.deadlock x35 x36 x37 x38 x39 x40 x41 x42 x43 x44 x45 x46
      x47 s.registry s.reserved s.registering s.retiring x52 s.clusters s.handles s.calls s.xlt s.xltDesc x58 x59 x60
      s.faultIds x62 s.log x64 x65 x66 x67 x68 x69 x70 s.arenas x72 x73 x74 s.slots x76 x77 s.otables x79 s.guests
      s.forwards s.shards s.rowOps s.indexes x85 s.memberRanges x87 x88 x89 x90 x91 x92 x93 x94 x95 x96 x97 x98 x99
      x100 x101 x102 x103 x104 s.memberObjects x106 x107 x108 x109) :=
  ⟨h.mem, h.log, h.cap, h.out, h.variant, h.pending,
    nofun, h.memory, h.sync, h.config, h.tables, h.maps⟩

/-- An update of fields of the group memory. -/
theorem keeps_mk_memory {b0 b2 b3 b4 b5 : Bool} {u s : State} (h : Keeps ⟨b0, false, b2, b3, b4, b5⟩ u s)
    {x2 : Nat} {x5 : Nat} {x6 : Tab Nat} {x8 : NSet} {x9 : Nat} {x10 : Nat} {x11 : Nat} {x12 : Tab Link} {x13 : Nat}
    {x14 : Nat} {x15 : Tab CompEntry} {x16 : Tab Comp} {x18 : Nat} {x21 : Tab OpenReq} {x22 : Tab (List Dma)}
    {x23 : Tab Extent} {x24 : Tab PObject} {x26 : List PlaceCmd} {x27 : List Move} {x28 : Tab Stall}
    {x30 : Tab DirEntry} {x31 : Tab Snoop} {x33 : List RemoteCopy} {x35 : Dict} {x36 : Tab Block} {x37 : Tab Nat}
    {x38 : Tab Mailbox} {x39 : Tab Nat} {x40 : Tab Domain} {x42 : Bool} {x43 : Tab Nat} {x44 : NSet} {x45 : Tab Tile}
    {x46 : List (Nat × Nat)} {x47 : Tab OwedSignal} {x52 : Tab Posted} {x58 : List Walk} {x59 : Tab FaultRec}
    {x60 : List Issued} {x62 : Tab Inval} {x66 : Tab Qp} {x67 : Nat} {x68 : Nat} {x69 : List (Nat × Out)}
    {x72 : Tab Attend} {x73 : Tab Posted} {x76 : Tab StreamRead} {x77 : Tab Nat} {x79 : Tab OReq} {x85 : Tab SOp}
    {x96 : Nat} {x97 : Option Nat} {x102 : Bool} {x103 : Tab StoreLine} {x104 : Tab NSet} {x108 : Tab (Nat × Bool)}
    {x109 : Nat} :
    Keeps ⟨b0, false, b2, b3, b4, b5⟩ u (State.mk
      s.pending s.out x2 s.variant s.pkg x5 x6 s.mem x8 x9 x10 x11 x12 x13 x14 x15 x16 s.recordSeq x18 s.regions
      s.owners x21 x22 x23 x24 s.shadows x26 x27 x28 s.retired x30 x31 s.sync x33 s.deadlock x35 x36 x37 x38 x39 x40
      s.keyGens x42 x43 x44 x45 x46 x47 s.registry s.reserved s.registering s.retiring x52 s.clusters s.handles s.calls
      s.xlt s.xltDesc x58 x59 x60 s.faultIds x62 s.log s.lastCheck s.sinceCheck x66 x67 x68 x69 s.selfDone s.arenas x72
      x73 s.keyStates s.slots x76 x77 s.otables x79 s.guests s.forwards s.shards s.rowOps s.indexes x85 s.memberRanges
      s.batches s.batchSeq s.fw s.resetting s.inputOn s.cold s.fullTest s.thermTrip s.norFree x96 x97 s.votes s.change
      s.purge s.spdm x102 x103 x104 s.memberObjects s.tenantKeys s.mediaKey x108 x109) :=
  ⟨h.mem, h.log, h.cap, h.out, h.variant, h.pending,
    h.custody, nofun, h.sync, h.config, h.tables, h.maps⟩

/-- An update of fields of the group sync. -/
theorem keeps_mk_sync {b0 b1 b3 b4 b5 : Bool} {u s : State} (h : Keeps ⟨b0, b1, false, b3, b4, b5⟩ u s)
    {x2 : Nat} {x5 : Nat} {x6 : Tab Nat} {x9 : Nat} {x10 : Nat} {x11 : Nat} {x12 : Tab Link} {x13 : Nat} {x14 : Nat}
    {x15 : Tab CompEntry} {x16 : Tab Comp} {x18 : Nat} {x21 : Tab OpenReq} {x22 : Tab (List Dma)} {x23 : Tab Extent}
    {x24 : Tab PObject} {x26 : List PlaceCmd} {x27 : List Move} {x28 : Tab Stall} {x30 : Tab DirEntry}
    {x31 : Tab Snoop} {x32 : Tab SyncObj} {x33 : List RemoteCopy} {x35 : Dict} {x36 : Tab Block} {x37 : Tab Nat}
    {x38 : Tab Mailbox} {x39 : Tab Nat} {x40 : Tab Domain} {x42 : Bool} {x43 : Tab Nat} {x44 : NSet} {x45 : Tab Tile}
    {x46 : List (Nat × Nat)} {x47 : Tab OwedSignal} {x52 : Tab Posted} {x58 : List Walk} {x59 : Tab FaultRec}
    {x60 : List Issued} {x62 : Tab Inval} {x66 : Tab Qp} {x67 : Nat} {x68 : Nat} {x69 : List (Nat × Out)}
    {x72 : Tab Attend} {x73 : Tab Posted} {x76 : Tab StreamRead} {x77 : Tab Nat} {x79 : Tab OReq} {x85 : Tab SOp}
    {x96 : Nat} {x97 : Option Nat} {x102 : Bool} {x103 : Tab StoreLine} {x104 : Tab NSet} {x108 : Tab (Nat × Bool)}
    {x109 : Nat} :
    Keeps ⟨b0, b1, false, b3, b4, b5⟩ u (State.mk
      s.pending s.out x2 s.variant s.pkg x5 x6 s.mem s.poison x9 x10 x11 x12 x13 x14 x15 x16 s.recordSeq x18 s.regions
      s.owners x21 x22 x23 x24 s.shadows x26 x27 x28 s.retired x30 x31 x32 x33 s.deadlock x35 x36 x37 x38 x39 x40
      s.keyGens x42 x43 x44 x45 x46 x47 s.registry s.reserved s.registering s.retiring x52 s.clusters s.handles s.calls
      s.xlt s.xltDesc x58 x59 x60 s.faultIds x62 s.log s.lastCheck s.sinceCheck x66 x67 x68 x69 s.selfDone s.arenas x72
      x73 s.keyStates s.slots x76 x77 s.otables x79 s.guests s.forwards s.shards s.rowOps s.indexes x85 s.memberRanges
      s.batches s.batchSeq s.fw s.resetting s.inputOn s.cold s.fullTest s.thermTrip s.norFree x96 x97 s.votes s.change
      s.purge s.spdm x102 x103 x104 s.memberObjects s.tenantKeys s.mediaKey x108 x109) :=
  ⟨h.mem, h.log, h.cap, h.out, h.variant, h.pending,
    h.custody, h.memory, nofun, h.config, h.tables, h.maps⟩

/-- An update of fields of the group config. -/
theorem keeps_mk_config {b0 b1 b2 b4 b5 : Bool} {u s : State} (h : Keeps ⟨b0, b1, b2, false, b4, b5⟩ u s)
    {x2 : Nat} {x5 : Nat} {x6 : Tab Nat} {x9 : Nat} {x10 : Nat} {x11 : Nat} {x12 : Tab Link} {x13 : Nat} {x14 : Nat}
    {x15 : Tab CompEntry} {x16 : Tab Comp} {x18 : Nat} {x21 : Tab OpenReq} {x22 : Tab (List Dma)} {x23 : Tab Extent}
    {x24 : Tab PObject} {x26 : List PlaceCmd} {x27 : List Move} {x28 : Tab Stall} {x30 : Tab DirEntry}
    {x31 : Tab Snoop} {x33 : List RemoteCopy} {x35 : Dict} {x36 : Tab Block} {x37 : Tab Nat} {x38 : Tab Mailbox}
    {x39 : Tab Nat} {x40 : Tab Domain} {x42 : Bool} {x43 : Tab Nat} {x44 : NSet} {x45 : Tab Tile}
    {x46 : List (Nat × Nat)} {x47 : Tab OwedSignal} {x48 : Tab RegEntry} {x49 : Tab Nat} {x50 : Tab Posted}
    {x51 : Tab Posted} {x52 : Tab Posted} {x53 : Tab Cluster} {x54 : Tab FnHandle} {x55 : Tab Call} {x58 : List Walk}
    {x59 : Tab FaultRec} {x60 : List Issued} {x62 : Tab Inval} {x66 : Tab Qp} {x67 : Nat} {x68 : Nat}
    {x69 : List (Nat × Out)} {x72 : Tab Attend} {x73 : Tab Posted} {x76 : Tab StreamRead} {x77 : Tab Nat}
    {x79 : Tab OReq} {x85 : Tab SOp} {x96 : Nat} {x97 : Option Nat} {x102 : Bool} {x103 : Tab StoreLine}
    {x104 : Tab NSet} {x108 : Tab (Nat × Bool)} {x109 : Nat} :
    Keeps ⟨b0, b1, b2, false, b4, b5⟩ u (State.mk
      s.pending s.out x2 s.variant s.pkg x5 x6 s.mem s.poison x9 x10 x11 x12 x13 x14 x15 x16 s.recordSeq x18 s.regions
      s.owners x21 x22 x23 x24 s.shadows x26 x27 x28 s.retired x30 x31 s.sync x33 s.deadlock x35 x36 x37 x38 x39 x40
      s.keyGens x42 x43 x44 x45 x46 x47 x48 x49 x50 x51 x52 x53 x54 x55 s.xlt s.xltDesc x58 x59 x60 s.faultIds x62
      s.log s.lastCheck s.sinceCheck x66 x67 x68 x69 s.selfDone s.arenas x72 x73 s.keyStates s.slots x76 x77 s.otables
      x79 s.guests s.forwards s.shards s.rowOps s.indexes x85 s.memberRanges s.batches s.batchSeq s.fw s.resetting
      s.inputOn s.cold s.fullTest s.thermTrip s.norFree x96 x97 s.votes s.change s.purge s.spdm x102 x103 x104
      s.memberObjects s.tenantKeys s.mediaKey x108 x109) :=
  ⟨h.mem, h.log, h.cap, h.out, h.variant, h.pending,
    h.custody, h.memory, h.sync, nofun, h.tables, h.maps⟩

/-- An update of fields of the group tables. -/
theorem keeps_mk_tables {b0 b1 b2 b3 b5 : Bool} {u s : State} (h : Keeps ⟨b0, b1, b2, b3, false, b5⟩ u s)
    {x2 : Nat} {x5 : Nat} {x6 : Tab Nat} {x9 : Nat} {x10 : Nat} {x11 : Nat} {x12 : Tab Link} {x13 : Nat} {x14 : Nat}
    {x15 : Tab CompEntry} {x16 : Tab Comp} {x18 : Nat} {x21 : Tab OpenReq} {x22 : Tab (List Dma)} {x23 : Tab Extent}
    {x24 : Tab PObject} {x26 : List PlaceCmd} {x27 : List Move} {x28 : Tab Stall} {x30 : Tab DirEntry}
    {x31 : Tab Snoop} {x33 : List RemoteCopy} {x35 : Dict} {x36 : Tab Block} {x37 : Tab Nat} {x38 : Tab Mailbox}
    {x39 : Tab Nat} {x40 : Tab Domain} {x42 : Bool} {x43 : Tab Nat} {x44 : NSet} {x45 : Tab Tile}
    {x46 : List (Nat × Nat)} {x47 : Tab OwedSignal} {x52 : Tab Posted} {x58 : List Walk} {x59 : Tab FaultRec}
    {x60 : List Issued} {x62 : Tab Inval} {x66 : Tab Qp} {x67 : Nat} {x68 : Nat} {x69 : List (Nat × Out)}
    {x71 : Tab Arena} {x72 : Tab Attend} {x73 : Tab Posted} {x75 : Tab TableSlot} {x76 : Tab StreamRead}
    {x77 : Tab Nat} {x78 : Tab OTable} {x79 : Tab OReq} {x80 : List HotGuest} {x81 : List Forward}
    {x82 : List ShardLoad} {x83 : Nat} {x84 : Tab SIndex} {x85 : Tab SOp} {x86 : Tab Nat} {x96 : Nat}
    {x97 : Option Nat} {x102 : Bool} {x103 : Tab StoreLine} {x104 : Tab NSet} {x108 : Tab (Nat × Bool)} {x109 : Nat} :
    Keeps ⟨b0, b1, b2, b3, false, b5⟩ u (State.mk
      s.pending s.out x2 s.variant s.pkg x5 x6 s.mem s.poison x9 x10 x11 x12 x13 x14 x15 x16 s.recordSeq x18 s.regions
      s.owners x21 x22 x23 x24 s.shadows x26 x27 x28 s.retired x30 x31 s.sync x33 s.deadlock x35 x36 x37 x38 x39 x40
      s.keyGens x42 x43 x44 x45 x46 x47 s.registry s.reserved s.registering s.retiring x52 s.clusters s.handles s.calls
      s.xlt s.xltDesc x58 x59 x60 s.faultIds x62 s.log s.lastCheck s.sinceCheck x66 x67 x68 x69 s.selfDone x71 x72 x73
      s.keyStates x75 x76 x77 x78 x79 x80 x81 x82 x83 x84 x85 x86 s.batches s.batchSeq s.fw s.resetting s.inputOn
      s.cold s.fullTest s.thermTrip s.norFree x96 x97 s.votes s.change s.purge s.spdm x102 x103 x104 s.memberObjects
      s.tenantKeys s.mediaKey x108 x109) :=
  ⟨h.mem, h.log, h.cap, h.out, h.variant, h.pending,
    h.custody, h.memory, h.sync, h.config, nofun, h.maps⟩

/-- An update of fields of the group maps. -/
theorem keeps_mk_maps {b0 b1 b2 b3 b4 : Bool} {u s : State} (h : Keeps ⟨b0, b1, b2, b3, b4, false⟩ u s)
    {x2 : Nat} {x5 : Nat} {x6 : Tab Nat} {x9 : Nat} {x10 : Nat} {x11 : Nat} {x12 : Tab Link} {x13 : Nat} {x14 : Nat}
    {x15 : Tab CompEntry} {x16 : Tab Comp} {x18 : Nat} {x20 : Owners} {x21 : Tab OpenReq} {x22 : Tab (List Dma)}
    {x23 : Tab Extent} {x24 : Tab PObject} {x25 : Tab Shadow} {x26 : List PlaceCmd} {x27 : List Move} {x28 : Tab Stall}
    {x30 : Tab DirEntry} {x31 : Tab Snoop} {x33 : List RemoteCopy} {x34 : Tab DeadScan} {x35 : Dict} {x36 : Tab Block}
    {x37 : Tab Nat} {x38 : Tab Mailbox} {x39 : Tab Nat} {x40 : Tab Domain} {x42 : Bool} {x43 : Tab Nat} {x44 : NSet}
    {x45 : Tab Tile} {x46 : List (Nat × Nat)} {x47 : Tab OwedSignal} {x52 : Tab Posted} {x56 : List XltEntry}
    {x57 : Tab Nat} {x58 : List Walk} {x59 : Tab FaultRec} {x60 : List Issued} {x61 : Tab Nat} {x62 : Tab Inval}
    {x66 : Tab Qp} {x67 : Nat} {x68 : Nat} {x69 : List (Nat × Out)} {x72 : Tab Attend} {x73 : Tab Posted}
    {x76 : Tab StreamRead} {x77 : Tab Nat} {x79 : Tab OReq} {x85 : Tab SOp} {x96 : Nat} {x97 : Option Nat}
    {x102 : Bool} {x103 : Tab StoreLine} {x104 : Tab NSet} {x105 : Tab Nat} {x108 : Tab (Nat × Bool)} {x109 : Nat} :
    Keeps ⟨b0, b1, b2, b3, b4, false⟩ u (State.mk
      s.pending s.out x2 s.variant s.pkg x5 x6 s.mem s.poison x9 x10 x11 x12 x13 x14 x15 x16 s.recordSeq x18 s.regions
      x20 x21 x22 x23 x24 x25 x26 x27 x28 s.retired x30 x31 s.sync x33 x34 x35 x36 x37 x38 x39 x40 s.keyGens x42 x43
      x44 x45 x46 x47 s.registry s.reserved s.registering s.retiring x52 s.clusters s.handles s.calls x56 x57 x58 x59
      x60 x61 x62 s.log s.lastCheck s.sinceCheck x66 x67 x68 x69 s.selfDone s.arenas x72 x73 s.keyStates s.slots x76
      x77 s.otables x79 s.guests s.forwards s.shards s.rowOps s.indexes x85 s.memberRanges s.batches s.batchSeq s.fw
      s.resetting s.inputOn s.cold s.fullTest s.thermTrip s.norFree x96 x97 s.votes s.change s.purge s.spdm x102 x103
      x104 x105 s.tenantKeys s.mediaKey x108 x109) :=
  ⟨h.mem, h.log, h.cap, h.out, h.variant, h.pending,
    h.custody, h.memory, h.sync, h.config, h.tables, nofun⟩

/-- An update of fields of the groups config and tables. -/
theorem keeps_mk_config_tables {b0 b1 b2 b5 : Bool} {u s : State} (h : Keeps ⟨b0, b1, b2, false, false, b5⟩ u s)
    {x2 : Nat} {x5 : Nat} {x6 : Tab Nat} {x9 : Nat} {x10 : Nat} {x11 : Nat} {x12 : Tab Link} {x13 : Nat} {x14 : Nat}
    {x15 : Tab CompEntry} {x16 : Tab Comp} {x18 : Nat} {x21 : Tab OpenReq} {x22 : Tab (List Dma)} {x23 : Tab Extent}
    {x24 : Tab PObject} {x26 : List PlaceCmd} {x27 : List Move} {x28 : Tab Stall} {x30 : Tab DirEntry}
    {x31 : Tab Snoop} {x33 : List RemoteCopy} {x35 : Dict} {x36 : Tab Block} {x37 : Tab Nat} {x38 : Tab Mailbox}
    {x39 : Tab Nat} {x40 : Tab Domain} {x42 : Bool} {x43 : Tab Nat} {x44 : NSet} {x45 : Tab Tile}
    {x46 : List (Nat × Nat)} {x47 : Tab OwedSignal} {x48 : Tab RegEntry} {x49 : Tab Nat} {x50 : Tab Posted}
    {x51 : Tab Posted} {x52 : Tab Posted} {x53 : Tab Cluster} {x54 : Tab FnHandle} {x55 : Tab Call} {x58 : List Walk}
    {x59 : Tab FaultRec} {x60 : List Issued} {x62 : Tab Inval} {x66 : Tab Qp} {x67 : Nat} {x68 : Nat}
    {x69 : List (Nat × Out)} {x71 : Tab Arena} {x72 : Tab Attend} {x73 : Tab Posted} {x75 : Tab TableSlot}
    {x76 : Tab StreamRead} {x77 : Tab Nat} {x78 : Tab OTable} {x79 : Tab OReq} {x80 : List HotGuest}
    {x81 : List Forward} {x82 : List ShardLoad} {x83 : Nat} {x84 : Tab SIndex} {x85 : Tab SOp} {x86 : Tab Nat}
    {x96 : Nat} {x97 : Option Nat} {x102 : Bool} {x103 : Tab StoreLine} {x104 : Tab NSet} {x108 : Tab (Nat × Bool)}
    {x109 : Nat} :
    Keeps ⟨b0, b1, b2, false, false, b5⟩ u (State.mk
      s.pending s.out x2 s.variant s.pkg x5 x6 s.mem s.poison x9 x10 x11 x12 x13 x14 x15 x16 s.recordSeq x18 s.regions
      s.owners x21 x22 x23 x24 s.shadows x26 x27 x28 s.retired x30 x31 s.sync x33 s.deadlock x35 x36 x37 x38 x39 x40
      s.keyGens x42 x43 x44 x45 x46 x47 x48 x49 x50 x51 x52 x53 x54 x55 s.xlt s.xltDesc x58 x59 x60 s.faultIds x62
      s.log s.lastCheck s.sinceCheck x66 x67 x68 x69 s.selfDone x71 x72 x73 s.keyStates x75 x76 x77 x78 x79 x80 x81 x82
      x83 x84 x85 x86 s.batches s.batchSeq s.fw s.resetting s.inputOn s.cold s.fullTest s.thermTrip s.norFree x96 x97
      s.votes s.change s.purge s.spdm x102 x103 x104 s.memberObjects s.tenantKeys s.mediaKey x108 x109) :=
  ⟨h.mem, h.log, h.cap, h.out, h.variant, h.pending,
    h.custody, h.memory, h.sync, nofun, nofun, h.maps⟩

/-- An update of any other field. -/
theorem keeps_mk_all {u s : State} (h : Keeps ⟨false, false, false, false, false, false⟩ u s)
    {x2 : Nat} {x4 : PkgState} {x5 : Nat} {x6 : Tab Nat} {x8 : NSet} {x9 : Nat} {x10 : Nat} {x11 : Nat}
    {x12 : Tab Link} {x13 : Nat} {x14 : Nat} {x15 : Tab CompEntry} {x16 : Tab Comp} {x17 : Nat} {x18 : Nat}
    {x19 : Tab Nat} {x20 : Owners} {x21 : Tab OpenReq} {x22 : Tab (List Dma)} {x23 : Tab Extent} {x24 : Tab PObject}
    {x25 : Tab Shadow} {x26 : List PlaceCmd} {x27 : List Move} {x28 : Tab Stall} {x29 : Tab Nat} {x30 : Tab DirEntry}
    {x31 : Tab Snoop} {x32 : Tab SyncObj} {x33 : List RemoteCopy} {x34 : Tab DeadScan} {x35 : Dict} {x36 : Tab Block}
    {x37 : Tab Nat} {x38 : Tab Mailbox} {x39 : Tab Nat} {x40 : Tab Domain} {x41 : Tab Nat} {x42 : Bool} {x43 : Tab Nat}
    {x44 : NSet} {x45 : Tab Tile} {x46 : List (Nat × Nat)} {x47 : Tab OwedSignal} {x48 : Tab RegEntry} {x49 : Tab Nat}
    {x50 : Tab Posted} {x51 : Tab Posted} {x52 : Tab Posted} {x53 : Tab Cluster} {x54 : Tab FnHandle} {x55 : Tab Call}
    {x56 : List XltEntry} {x57 : Tab Nat} {x58 : List Walk} {x59 : Tab FaultRec} {x60 : List Issued} {x61 : Tab Nat}
    {x62 : Tab Inval} {x64 : Nat} {x65 : Nat} {x66 : Tab Qp} {x67 : Nat} {x68 : Nat} {x69 : List (Nat × Out)}
    {x70 : NSet} {x71 : Tab Arena} {x72 : Tab Attend} {x73 : Tab Posted} {x74 : Tab Nat} {x75 : Tab TableSlot}
    {x76 : Tab StreamRead} {x77 : Tab Nat} {x78 : Tab OTable} {x79 : Tab OReq} {x80 : List HotGuest}
    {x81 : List Forward} {x82 : List ShardLoad} {x83 : Nat} {x84 : Tab SIndex} {x85 : Tab SOp} {x86 : Tab Nat}
    {x87 : List Batch} {x88 : Nat} {x89 : Firmware} {x90 : Resetting} {x91 : Bool} {x92 : Bool} {x93 : Bool}
    {x94 : Bool} {x95 : Bool} {x96 : Nat} {x97 : Option Nat} {x98 : List (Nat × Nat)} {x99 : Option Change}
    {x100 : Purge} {x101 : Spdm} {x102 : Bool} {x103 : Tab StoreLine} {x104 : Tab NSet} {x105 : Tab Nat}
    {x106 : Tab Nat} {x107 : Option Nat} {x108 : Tab (Nat × Bool)} {x109 : Nat} :
    Keeps ⟨false, false, false, false, false, false⟩ u (State.mk
      s.pending s.out x2 s.variant x4 x5 x6 s.mem x8 x9 x10 x11 x12 x13 x14 x15 x16 x17 x18 x19 x20 x21 x22 x23 x24 x25
      x26 x27 x28 x29 x30 x31 x32 x33 x34 x35 x36 x37 x38 x39 x40 x41 x42 x43 x44 x45 x46 x47 x48 x49 x50 x51 x52 x53
      x54 x55 x56 x57 x58 x59 x60 x61 x62 s.log x64 x65 x66 x67 x68 x69 x70 x71 x72 x73 x74 x75 x76 x77 x78 x79 x80 x81
      x82 x83 x84 x85 x86 x87 x88 x89 x90 x91 x92 x93 x94 x95 x96 x97 x98 x99 x100 x101 x102 x103 x104 x105 x106 x107
      x108 x109) :=
  ⟨h.mem, h.log, h.cap, h.out, h.variant, h.pending,
    nofun, nofun, nofun, nofun, nofun, nofun⟩

/-- Cells are taken out of the memory. -/
theorem keeps_filter {b0 b2 b3 b4 b5 : Bool} {u s : State} {p : Host.Cell → Bool} (h : Keeps ⟨b0, false, b2, b3, b4, b5⟩ u s)
    {x2 : Nat} {x5 : Nat} {x6 : Tab Nat} {x8 : NSet} {x9 : Nat} {x10 : Nat} {x11 : Nat} {x12 : Tab Link} {x13 : Nat}
    {x14 : Nat} {x15 : Tab CompEntry} {x16 : Tab Comp} {x18 : Nat} {x21 : Tab OpenReq} {x22 : Tab (List Dma)}
    {x23 : Tab Extent} {x24 : Tab PObject} {x26 : List PlaceCmd} {x27 : List Move} {x28 : Tab Stall}
    {x30 : Tab DirEntry} {x31 : Tab Snoop} {x33 : List RemoteCopy} {x35 : Dict} {x36 : Tab Block} {x37 : Tab Nat}
    {x38 : Tab Mailbox} {x39 : Tab Nat} {x40 : Tab Domain} {x42 : Bool} {x43 : Tab Nat} {x44 : NSet} {x45 : Tab Tile}
    {x46 : List (Nat × Nat)} {x47 : Tab OwedSignal} {x52 : Tab Posted} {x58 : List Walk} {x59 : Tab FaultRec}
    {x60 : List Issued} {x62 : Tab Inval} {x66 : Tab Qp} {x67 : Nat} {x68 : Nat} {x69 : List (Nat × Out)}
    {x72 : Tab Attend} {x73 : Tab Posted} {x76 : Tab StreamRead} {x77 : Tab Nat} {x79 : Tab OReq} {x85 : Tab SOp}
    {x96 : Nat} {x97 : Option Nat} {x102 : Bool} {x103 : Tab StoreLine} {x104 : Tab NSet} {x108 : Tab (Nat × Bool)}
    {x109 : Nat} :
    Keeps ⟨b0, false, b2, b3, b4, b5⟩ u (State.mk
      s.pending s.out x2 s.variant s.pkg x5 x6 (s.mem.filter p) x8 x9 x10 x11 x12 x13 x14 x15 x16 s.recordSeq x18
      s.regions s.owners x21 x22 x23 x24 s.shadows x26 x27 x28 s.retired x30 x31 s.sync x33 s.deadlock x35 x36 x37 x38
      x39 x40 s.keyGens x42 x43 x44 x45 x46 x47 s.registry s.reserved s.registering s.retiring x52 s.clusters s.handles
      s.calls s.xlt s.xltDesc x58 x59 x60 s.faultIds x62 s.log s.lastCheck s.sinceCheck x66 x67 x68 x69 s.selfDone
      s.arenas x72 x73 s.keyStates s.slots x76 x77 s.otables x79 s.guests s.forwards s.shards s.rowOps s.indexes x85
      s.memberRanges s.batches s.batchSeq s.fw s.resetting s.inputOn s.cold s.fullTest s.thermTrip s.norFree x96 x97
      s.votes s.change s.purge s.spdm x102 x103 x104 s.memberObjects s.tenantKeys s.mediaKey x108 x109) :=
  ⟨fun m => ⟨(h.mem m).1.filter p, fun c hc => (h.mem m).2 c (List.mem_filter.mp hc).1⟩, h.log, h.cap, h.out, h.variant, h.pending,
    h.custody, nofun, h.sync, h.config, h.tables, h.maps⟩

/-- Cells are taken out of the memory, and any other field changes. -/
theorem keeps_filter_all {u s : State} {p : Host.Cell → Bool} (h : Keeps ⟨false, false, false, false, false, false⟩ u s)
    {x2 : Nat} {x4 : PkgState} {x5 : Nat} {x6 : Tab Nat} {x8 : NSet} {x9 : Nat} {x10 : Nat} {x11 : Nat}
    {x12 : Tab Link} {x13 : Nat} {x14 : Nat} {x15 : Tab CompEntry} {x16 : Tab Comp} {x17 : Nat} {x18 : Nat}
    {x19 : Tab Nat} {x20 : Owners} {x21 : Tab OpenReq} {x22 : Tab (List Dma)} {x23 : Tab Extent} {x24 : Tab PObject}
    {x25 : Tab Shadow} {x26 : List PlaceCmd} {x27 : List Move} {x28 : Tab Stall} {x29 : Tab Nat} {x30 : Tab DirEntry}
    {x31 : Tab Snoop} {x32 : Tab SyncObj} {x33 : List RemoteCopy} {x34 : Tab DeadScan} {x35 : Dict} {x36 : Tab Block}
    {x37 : Tab Nat} {x38 : Tab Mailbox} {x39 : Tab Nat} {x40 : Tab Domain} {x41 : Tab Nat} {x42 : Bool} {x43 : Tab Nat}
    {x44 : NSet} {x45 : Tab Tile} {x46 : List (Nat × Nat)} {x47 : Tab OwedSignal} {x48 : Tab RegEntry} {x49 : Tab Nat}
    {x50 : Tab Posted} {x51 : Tab Posted} {x52 : Tab Posted} {x53 : Tab Cluster} {x54 : Tab FnHandle} {x55 : Tab Call}
    {x56 : List XltEntry} {x57 : Tab Nat} {x58 : List Walk} {x59 : Tab FaultRec} {x60 : List Issued} {x61 : Tab Nat}
    {x62 : Tab Inval} {x64 : Nat} {x65 : Nat} {x66 : Tab Qp} {x67 : Nat} {x68 : Nat} {x69 : List (Nat × Out)}
    {x70 : NSet} {x71 : Tab Arena} {x72 : Tab Attend} {x73 : Tab Posted} {x74 : Tab Nat} {x75 : Tab TableSlot}
    {x76 : Tab StreamRead} {x77 : Tab Nat} {x78 : Tab OTable} {x79 : Tab OReq} {x80 : List HotGuest}
    {x81 : List Forward} {x82 : List ShardLoad} {x83 : Nat} {x84 : Tab SIndex} {x85 : Tab SOp} {x86 : Tab Nat}
    {x87 : List Batch} {x88 : Nat} {x89 : Firmware} {x90 : Resetting} {x91 : Bool} {x92 : Bool} {x93 : Bool}
    {x94 : Bool} {x95 : Bool} {x96 : Nat} {x97 : Option Nat} {x98 : List (Nat × Nat)} {x99 : Option Change}
    {x100 : Purge} {x101 : Spdm} {x102 : Bool} {x103 : Tab StoreLine} {x104 : Tab NSet} {x105 : Tab Nat}
    {x106 : Tab Nat} {x107 : Option Nat} {x108 : Tab (Nat × Bool)} {x109 : Nat} :
    Keeps ⟨false, false, false, false, false, false⟩ u (State.mk
      s.pending s.out x2 s.variant x4 x5 x6 (s.mem.filter p) x8 x9 x10 x11 x12 x13 x14 x15 x16 x17 x18 x19 x20 x21 x22
      x23 x24 x25 x26 x27 x28 x29 x30 x31 x32 x33 x34 x35 x36 x37 x38 x39 x40 x41 x42 x43 x44 x45 x46 x47 x48 x49 x50
      x51 x52 x53 x54 x55 x56 x57 x58 x59 x60 x61 x62 s.log x64 x65 x66 x67 x68 x69 x70 x71 x72 x73 x74 x75 x76 x77 x78
      x79 x80 x81 x82 x83 x84 x85 x86 x87 x88 x89 x90 x91 x92 x93 x94 x95 x96 x97 x98 x99 x100 x101 x102 x103 x104 x105
      x106 x107 x108 x109) :=
  ⟨fun m => ⟨(h.mem m).1.filter p, fun c hc => (h.mem m).2 c (List.mem_filter.mp hc).1⟩, h.log, h.cap, h.out, h.variant, h.pending,
    nofun, nofun, nofun, nofun, nofun, nofun⟩

/-- Cells are taken out of the memory, and configurations change. -/
theorem keeps_filter_config {b0 b2 b4 b5 : Bool} {u s : State} {p : Host.Cell → Bool} (h : Keeps ⟨b0, false, b2, false, b4, b5⟩ u s)
    {x2 : Nat} {x5 : Nat} {x6 : Tab Nat} {x8 : NSet} {x9 : Nat} {x10 : Nat} {x11 : Nat} {x12 : Tab Link} {x13 : Nat}
    {x14 : Nat} {x15 : Tab CompEntry} {x16 : Tab Comp} {x18 : Nat} {x21 : Tab OpenReq} {x22 : Tab (List Dma)}
    {x23 : Tab Extent} {x24 : Tab PObject} {x26 : List PlaceCmd} {x27 : List Move} {x28 : Tab Stall}
    {x30 : Tab DirEntry} {x31 : Tab Snoop} {x33 : List RemoteCopy} {x35 : Dict} {x36 : Tab Block} {x37 : Tab Nat}
    {x38 : Tab Mailbox} {x39 : Tab Nat} {x40 : Tab Domain} {x42 : Bool} {x43 : Tab Nat} {x44 : NSet} {x45 : Tab Tile}
    {x46 : List (Nat × Nat)} {x47 : Tab OwedSignal} {x48 : Tab RegEntry} {x49 : Tab Nat} {x50 : Tab Posted}
    {x51 : Tab Posted} {x52 : Tab Posted} {x53 : Tab Cluster} {x54 : Tab FnHandle} {x55 : Tab Call} {x58 : List Walk}
    {x59 : Tab FaultRec} {x60 : List Issued} {x62 : Tab Inval} {x66 : Tab Qp} {x67 : Nat} {x68 : Nat}
    {x69 : List (Nat × Out)} {x72 : Tab Attend} {x73 : Tab Posted} {x76 : Tab StreamRead} {x77 : Tab Nat}
    {x79 : Tab OReq} {x85 : Tab SOp} {x96 : Nat} {x97 : Option Nat} {x102 : Bool} {x103 : Tab StoreLine}
    {x104 : Tab NSet} {x108 : Tab (Nat × Bool)} {x109 : Nat} :
    Keeps ⟨b0, false, b2, false, b4, b5⟩ u (State.mk
      s.pending s.out x2 s.variant s.pkg x5 x6 (s.mem.filter p) x8 x9 x10 x11 x12 x13 x14 x15 x16 s.recordSeq x18
      s.regions s.owners x21 x22 x23 x24 s.shadows x26 x27 x28 s.retired x30 x31 s.sync x33 s.deadlock x35 x36 x37 x38
      x39 x40 s.keyGens x42 x43 x44 x45 x46 x47 x48 x49 x50 x51 x52 x53 x54 x55 s.xlt s.xltDesc x58 x59 x60 s.faultIds
      x62 s.log s.lastCheck s.sinceCheck x66 x67 x68 x69 s.selfDone s.arenas x72 x73 s.keyStates s.slots x76 x77
      s.otables x79 s.guests s.forwards s.shards s.rowOps s.indexes x85 s.memberRanges s.batches s.batchSeq s.fw
      s.resetting s.inputOn s.cold s.fullTest s.thermTrip s.norFree x96 x97 s.votes s.change s.purge s.spdm x102 x103
      x104 s.memberObjects s.tenantKeys s.mediaKey x108 x109) :=
  ⟨fun m => ⟨(h.mem m).1.filter p, fun c hc => (h.mem m).2 c (List.mem_filter.mp hc).1⟩, h.log, h.cap, h.out, h.variant, h.pending,
    h.custody, nofun, h.sync, nofun, h.tables, h.maps⟩

theorem keeps_foldl {α : Type} {k : Left} {u : State} (f : State → α → State) (hf : ∀ w a, Keeps k u w → Keeps k u (f w a)) (l : List α) :
    ∀ s, Keeps k u s → Keeps k u (l.foldl f s) := by
  induction l with
  | nil => exact fun _ h => h
  | cons a l ih => exact fun s h => ih _ (hf s a h)

theorem keeps_foldl_snd {α β : Type} {k : Left} {u : State} (f : β × State → α → β × State)
    (hf : ∀ (w : β × State) (a : α), Keeps k u w.2 → Keeps k u (f w a).2) (l : List α) : ∀ s, Keeps k u s.2 → Keeps k u (l.foldl f s).2 := by
  induction l with
  | nil => exact fun _ h => h
  | cons a l ih => exact fun s h => ih _ (hf s a h)

theorem keeps_emit {k : Left} {u : State} (o : Out) (s : State) (h : Keeps k u s) : Keeps k u (emit o s) :=
  { h with out := h.out.trans (List.suffix_cons _ _) }

/-! ## The operations that store, log and answer -/

theorem dropCell_mem {m : List Host.Cell} {a : Nat} : ∀ c ∈ dropCell m a, c ∈ m := by
  induction m with
  | nil => simp [dropCell]
  | cons x m ih =>
    intro c hc
    unfold dropCell at hc
    split at hc
    · exact List.mem_cons_of_mem _ hc
    · rcases List.mem_cons.mp hc with h | h
      · exact h ▸ List.mem_cons_self
      · exact List.mem_cons_of_mem _ (ih c h)

theorem dropCell_rising {m : List Host.Cell} (a : Nat) (h : m.Pairwise (fun x y => x.1 < y.1)) :
    (dropCell m a).Pairwise (fun x y => x.1 < y.1) := by
  induction m with
  | nil => exact List.Pairwise.nil
  | cons x m ih =>
    rw [List.pairwise_cons] at h
    unfold dropCell
    split
    · exact h.2
    · exact List.pairwise_cons.mpr ⟨fun c hc => h.1 c (dropCell_mem c hc), ih h.2⟩

theorem dropCell_wf {m : List Host.Cell} (a : Nat) (h : Memory.wf m) : Memory.wf (dropCell m a) :=
  ⟨dropCell_rising a h.1, fun c hc => h.2 c (dropCell_mem c hc)⟩

theorem putCell_mem {m : List Host.Cell} {a : Nat} {b : Byte} : ∀ c ∈ putCell m a b, c = (a, b) ∨ c ∈ m := by
  induction m with
  | nil => simp [putCell]
  | cons x m ih =>
    intro c hc
    unfold putCell at hc
    split at hc
    · exact (List.mem_cons.mp hc).imp id (List.mem_cons_of_mem _)
    · split at hc
      · exact List.mem_cons.mp hc
      · rcases List.mem_cons.mp hc with h | h
        · exact .inr (h ▸ List.mem_cons_self)
        · exact (ih c h).imp id (List.mem_cons_of_mem _)

theorem putCell_rising {m : List Host.Cell} (a : Nat) (b : Byte) (h : m.Pairwise (fun x y => x.1 < y.1)) :
    (putCell m a b).Pairwise (fun x y => x.1 < y.1) := by
  induction m with
  | nil => exact List.pairwise_singleton _ _
  | cons x m ih =>
    rw [List.pairwise_cons] at h
    unfold putCell
    split
    · rename_i e
      exact List.pairwise_cons.mpr ⟨fun c hc => e ▸ h.1 c hc, h.2⟩
    · split
      · rename_i l
        refine List.pairwise_cons.mpr ⟨fun c hc => ?_, List.pairwise_cons.mpr h⟩
        rcases List.mem_cons.mp hc with e | hc
        · exact e ▸ l
        · exact l.trans (h.1 c hc)
      · rename_i n l
        refine List.pairwise_cons.mpr ⟨fun c hc => ?_, ih h.2⟩
        rcases putCell_mem c hc with e | hc
        · exact e ▸ lt_of_le_of_ne (not_lt.mp l) n
        · exact h.1 c hc

theorem putCell_wf {m : List Host.Cell} (a : Nat) {b : Byte} (hb : b ≠ unlisted) (h : Memory.wf m) :
    Memory.wf (putCell m a b) :=
  ⟨putCell_rising a b h.1, fun c hc => (putCell_mem c hc).elim (fun e => e ▸ hb) (h.2 c)⟩

theorem writeCell_wf {m : List Host.Cell} (a : Nat) (b : Byte) (h : Memory.wf m) : Memory.wf (writeCell m a b) := by
  unfold writeCell
  split
  · exact dropCell_wf a h
  · exact putCell_wf a ‹_› h

theorem writeCells_wf (bs : List Byte) : ∀ {m : List Host.Cell} (a : Nat), Memory.wf m → Memory.wf (writeCells m a bs) := by
  induction bs with
  | nil => exact fun _ h => h
  | cons b bs ih => exact fun a h => ih (a + 1) (writeCell_wf a b h)

theorem keeps_writeMem {b0 b2 b3 b4 b5 : Bool} {u : State} (off n v : Nat) (s : State) (h : Keeps ⟨b0, false, b2, b3, b4, b5⟩ u s) :
    Keeps ⟨b0, false, b2, b3, b4, b5⟩ u (writeMem off n v s) :=
  { h with mem := fun m => writeCells_wf _ off (h.mem m), memory := nofun }

end Sys2Proof.Machine
end

