-- ==== Sys2Proof/Laws/KeepsMemory.lean ====
section
/-! SUPPORT. What the operations keep (Laws/Keeps.lean): those of the shared operations, memory, its homes and the engines' accesses. -/

set_option maxRecDepth 4000
set_option linter.unusedTactic false
set_option linter.unreachableTactic false

namespace Sys2Proof.Machine

theorem keeps_setObj {b0 b1 b2 b3 b4 b5 : Bool} {u : State} (index : ℕ) (sub : ℕ) (v : ℕ) (s : State)
 (hk : Keeps ⟨b0, b1, b2, b3, b4, b5⟩ u s) :
    Keeps ⟨b0, b1, b2, b3, b4, b5⟩ u (setObj index sub v s) := by
  unfold setObj
  try dsimp only
  repeat' (first
    | with_reducible assumption | fail_if_no_progress with_reducible apply keeps_mk | (intro _) | split
    | dsimp only [id_eq])

theorem keeps_resetObj {b0 b1 b2 b3 b4 b5 : Bool} {u : State} (index : ℕ) (sub : ℕ) (s : State)
 (hk : Keeps ⟨b0, b1, b2, b3, b4, b5⟩ u s) :
    Keeps ⟨b0, b1, b2, b3, b4, b5⟩ u (resetObj index sub s) := by
  unfold resetObj
  try dsimp only
  repeat' (first
    | with_reducible assumption | fail_if_no_progress with_reducible apply keeps_mk | (intro _) | split
    | dsimp only [id_eq])

theorem keeps_bump {b0 b1 b2 b3 b4 b5 : Bool} {u : State} (index : ℕ) (sub : ℕ) (n : ℕ) (s : State)
 (hk : Keeps ⟨b0, b1, b2, b3, b4, b5⟩ u s) :
    Keeps ⟨b0, b1, b2, b3, b4, b5⟩ u (bump index sub n s) := by
  unfold bump
  try dsimp only
  repeat' (first
    | with_reducible assumption | with_reducible apply keeps_setObj | (intro _) | split | dsimp only [id_eq])

theorem keeps_clearObjs {b0 b1 b2 b3 b4 b5 : Bool} {u : State} (index : ℕ) (subs : List ℕ) (s : State)
 (hk : Keeps ⟨b0, b1, b2, b3, b4, b5⟩ u s) :
    Keeps ⟨b0, b1, b2, b3, b4, b5⟩ u (clearObjs index subs s) := by
  unfold clearObjs
  try dsimp only
  repeat' (first
    | with_reducible assumption | with_reducible apply keeps_setObj | with_reducible apply keeps_foldl
    | with_reducible apply keeps_foldl_snd | (intro _) | split | dsimp only [id_eq])

theorem keeps_drawFree {b0 b1 b2 b3 b4 b5 : Bool} {u : State} (s : State) (hk : Keeps ⟨b0, b1, b2, b3, b4, b5⟩ u s) :
    Keeps ⟨b0, b1, b2, b3, b4, b5⟩ u (drawFree s).2 := by
  unfold drawFree
  try dsimp only
  repeat' (first
    | with_reducible assumption | fail_if_no_progress with_reducible apply keeps_mk | (intro _) | split
    | dsimp only [id_eq])

theorem keeps_drawFree_eq {b0 b1 b2 b3 b4 b5 : Bool} {u w : State} {r0 : ℕ} {s : State} (e : drawFree s = (r0, w))
 (hk : Keeps ⟨b0, b1, b2, b3, b4, b5⟩ u s) :
    Keeps ⟨b0, b1, b2, b3, b4, b5⟩ u w := by
  have := keeps_drawFree  s  hk; rwa [e] at this

theorem keeps_nextAcc {b0 b1 b2 b3 b4 b5 : Bool} {u : State} (s : State) (hk : Keeps ⟨b0, b1, b2, b3, b4, b5⟩ u s) :
    Keeps ⟨b0, b1, b2, b3, b4, b5⟩ u (nextAcc s).2 := by
  unfold nextAcc
  try dsimp only
  repeat' (first
    | with_reducible assumption | fail_if_no_progress with_reducible apply keeps_mk | (intro _) | split
    | dsimp only [id_eq])

theorem keeps_nextAcc_eq {b0 b1 b2 b3 b4 b5 : Bool} {u w : State} {r0 : ℕ} {s : State} (e : nextAcc s = (r0, w))
 (hk : Keeps ⟨b0, b1, b2, b3, b4, b5⟩ u s) :
    Keeps ⟨b0, b1, b2, b3, b4, b5⟩ u w := by
  have := keeps_nextAcc  s  hk; rwa [e] at this

theorem keeps_ethOut {b0 b1 b2 b3 b4 b5 : Bool} {u : State} (priority : ℕ) (o : Out) (s : State)
 (hk : Keeps ⟨b0, b1, b2, b3, b4, b5⟩ u s) :
    Keeps ⟨b0, b1, b2, b3, b4, b5⟩ u (ethOut priority o s) := by
  unfold ethOut
  try dsimp only
  repeat' (first
    | with_reducible assumption | with_reducible apply keeps_emit | fail_if_no_progress with_reducible apply keeps_mk
    | (intro _) | split | dsimp only [id_eq])

theorem keeps_setSession {b0 b1 b2 b3 b4 b5 : Bool} {u : State} (p : Port) (id : ℕ) (x : Session) (s : State)
 (hk : Keeps ⟨b0, b1, b2, b3, b4, b5⟩ u s) :
    Keeps ⟨b0, b1, b2, b3, b4, b5⟩ u (setSession p id x s) := by
  unfold setSession
  try dsimp only
  repeat' (first
    | with_reducible assumption | fail_if_no_progress with_reducible apply keeps_mk | (intro _) | split
    | dsimp only [id_eq])

theorem keeps_notifySession {b0 b1 b2 b3 b4 b5 : Bool} {u : State} (p : Port) (key : ℕ) (record : ℕ) (e : ℕ × Session)
 (s : State) (hk : Keeps ⟨b0, b1, b2, b3, b4, b5⟩ u s) :
    Keeps ⟨b0, b1, b2, b3, b4, b5⟩ u (notifySession p key record s e) := by
  unfold notifySession
  try dsimp only
  repeat' (first
    | with_reducible assumption | with_reducible apply keeps_emit | with_reducible apply keeps_ethOut
    | with_reducible apply keeps_setSession | fail_if_no_progress with_reducible apply keeps_mk | (intro _) | split
    | dsimp only [id_eq])

theorem keeps_raiseEvent {b0 b1 b2 b3 b4 b5 : Bool} {u : State} (index : ℕ) (sub : ℕ) (cause : ℕ) (s : State)
 (hk : Keeps ⟨b0, b1, b2, b3, b4, b5⟩ u s) :
    Keeps ⟨b0, b1, b2, b3, b4, b5⟩ u (raiseEvent index sub cause s) := by
  unfold raiseEvent
  try dsimp only
  repeat' (first
    | with_reducible assumption | with_reducible apply keeps_notifySession | with_reducible apply keeps_setObj
    | with_reducible apply keeps_foldl | with_reducible apply keeps_foldl_snd | (intro _) | split | dsimp only [id_eq])

theorem keeps_enterState {b1 b2 b3 b4 b5 : Bool} {u : State} (p : PkgState) (s : State)
 (hk : Keeps ⟨false, b1, b2, b3, b4, b5⟩ u s) :
    Keeps ⟨false, b1, b2, b3, b4, b5⟩ u (enterState p s) := by
  unfold enterState
  try dsimp only
  repeat' (first
    | with_reducible assumption | with_reducible apply keeps_raiseEvent | with_reducible apply keeps_setObj
    | fail_if_no_progress with_reducible apply keeps_mk | fail_if_no_progress with_reducible apply keeps_mk_custody
    | (intro _) | split | dsimp only [id_eq])

theorem keeps_dapReply {b0 b1 b2 b3 b4 b5 : Bool} {u : State} (p : Port) (id : ℕ) (r : DapReply) (s : State)
 (hk : Keeps ⟨b0, b1, b2, b3, b4, b5⟩ u s) :
    Keeps ⟨b0, b1, b2, b3, b4, b5⟩ u (dapReply p id r s) := by
  unfold dapReply
  try dsimp only
  repeat' (first
    | with_reducible assumption | with_reducible apply keeps_emit | with_reducible apply keeps_ethOut
    | with_reducible apply keeps_setSession | fail_if_no_progress with_reducible apply keeps_mk | (intro _) | split
    | dsimp only [id_eq])

theorem keeps_dapFinish {b0 b1 b2 b3 b4 b5 : Bool} {u : State} (p : Port) (id : ℕ) (st : Status) (hint : ℕ) (n : ℕ)
 (v : ℕ) (s : State) (hk : Keeps ⟨b0, b1, b2, b3, b4, b5⟩ u s) :
    Keeps ⟨b0, b1, b2, b3, b4, b5⟩ u (dapFinish p id st hint n v s) := by
  unfold dapFinish
  try dsimp only
  repeat' (first
    | with_reducible assumption | with_reducible apply keeps_dapReply | fail_if_no_progress with_reducible apply keeps_mk
    | (intro _) | split | dsimp only [id_eq])

theorem keeps_dapFinishKey {b0 b1 b2 b3 b4 b5 : Bool} {u : State} (key : ℕ) (st : Status) (hint : ℕ) (s : State)
 (hk : Keeps ⟨b0, b1, b2, b3, b4, b5⟩ u s) :
    Keeps ⟨b0, b1, b2, b3, b4, b5⟩ u (dapFinishKey key st hint s) := by
  unfold dapFinishKey
  try dsimp only
  repeat' (first
    | with_reducible assumption | with_reducible apply keeps_dapFinish | fail_if_no_progress with_reducible apply keeps_mk
    | with_reducible apply keeps_foldl | with_reducible apply keeps_foldl_snd | (intro _) | split | dsimp only [id_eq])

theorem keeps_drawKey {b0 b1 b2 b3 b4 b5 : Bool} {u : State} (s : State) (hk : Keeps ⟨b0, b1, b2, b3, b4, b5⟩ u s) :
    Keeps ⟨b0, b1, b2, b3, b4, b5⟩ u (drawKey s).2 := by
  unfold drawKey
  try dsimp only
  repeat' (first
    | with_reducible assumption | with_reducible apply keeps_drawFree
    | with_reducible refine keeps_drawFree_eq (by assumption) ?_ | (intro _) | split | dsimp only [id_eq])

theorem keeps_drawKey_eq {b0 b1 b2 b3 b4 b5 : Bool} {u w : State} {r0 : ℕ} {s : State} (e : drawKey s = (r0, w))
 (hk : Keeps ⟨b0, b1, b2, b3, b4, b5⟩ u s) :
    Keeps ⟨b0, b1, b2, b3, b4, b5⟩ u w := by
  have := keeps_drawKey  s  hk; rwa [e] at this

theorem keeps_meter {b0 b1 b2 b3 b4 b5 : Bool} {u : State} (c : ℕ) (f : Comp → Comp) (s : State)
 (hk : Keeps ⟨b0, b1, b2, b3, b4, b5⟩ u s) :
    Keeps ⟨b0, b1, b2, b3, b4, b5⟩ u (meter c f s) := by
  unfold meter
  try dsimp only
  repeat' (first
    | with_reducible assumption | fail_if_no_progress with_reducible apply keeps_mk | (intro _) | split
    | dsimp only [id_eq])

theorem keeps_meterOut {b0 b1 b2 b3 b4 b5 : Bool} {u : State} (requester : ℕ) (n : ℕ) (s : State)
 (hk : Keeps ⟨b0, b1, b2, b3, b4, b5⟩ u s) :
    Keeps ⟨b0, b1, b2, b3, b4, b5⟩ u (meterOut requester n s) := by
  unfold meterOut
  try dsimp only
  repeat' (first
    | with_reducible assumption | with_reducible apply keeps_meter | fail_if_no_progress with_reducible apply keeps_mk
    | (intro _) | split | dsimp only [id_eq])

theorem keeps_setQp {b0 b1 b2 b3 b4 b5 : Bool} {u : State} (q : ℕ) (x : Qp) (s : State)
 (hk : Keeps ⟨b0, b1, b2, b3, b4, b5⟩ u s) :
    Keeps ⟨b0, b1, b2, b3, b4, b5⟩ u (setQp q x s) := by
  unfold setQp
  try dsimp only
  repeat' (first
    | with_reducible assumption | fail_if_no_progress with_reducible apply keeps_mk | (intro _) | split
    | dsimp only [id_eq])

theorem keeps_qpOut {b0 b1 b2 b3 b4 b5 : Bool} {u : State} (q : ℕ) (o : Out) (s : State)
 (hk : Keeps ⟨b0, b1, b2, b3, b4, b5⟩ u s) :
    Keeps ⟨b0, b1, b2, b3, b4, b5⟩ u (qpOut q o s) := by
  unfold qpOut
  try dsimp only
  repeat' (first
    | with_reducible assumption | with_reducible apply keeps_ethOut | (intro _) | split | dsimp only [id_eq])

theorem keeps_countQps {b0 b1 b2 b3 b4 b5 : Bool} {u : State} (s : State) (hk : Keeps ⟨b0, b1, b2, b3, b4, b5⟩ u s) :
    Keeps ⟨b0, b1, b2, b3, b4, b5⟩ u (countQps s) := by
  unfold countQps
  try dsimp only
  repeat' (first
    | with_reducible assumption | with_reducible apply keeps_setObj | (intro _) | split | dsimp only [id_eq])

theorem keeps_qpError {b0 b1 b2 b3 b4 b5 : Bool} {u : State} (q : ℕ) (st : ℕ) (s : State)
 (hk : Keeps ⟨b0, b1, b2, b3, b4, b5⟩ u s) :
    Keeps ⟨b0, b1, b2, b3, b4, b5⟩ u (qpError q st s) := by
  unfold qpError
  try dsimp only
  repeat' (first
    | with_reducible assumption | with_reducible apply keeps_bump | with_reducible apply keeps_countQps
    | with_reducible apply keeps_raiseEvent | with_reducible apply keeps_setQp
    | fail_if_no_progress with_reducible apply keeps_mk | (intro _) | split | dsimp only [id_eq])

theorem keeps_qpSend {b0 b1 b2 b3 b4 b5 : Bool} {u : State} (q : ℕ) (imm : Option ℕ) (bytes : ℕ) (data : ℕ)
 (notice : Option ℕ) (s : State) (hk : Keeps ⟨b0, b1, b2, b3, b4, b5⟩ u s) :
    Keeps ⟨b0, b1, b2, b3, b4, b5⟩ u (qpSend q imm bytes data notice s) := by
  unfold qpSend
  try dsimp only
  repeat' (first
    | with_reducible assumption | with_reducible apply keeps_qpOut | with_reducible apply keeps_setQp
    | fail_if_no_progress with_reducible apply keeps_mk | (intro _) | split | dsimp only [id_eq])

theorem keeps_rdmaAnswer {b0 b1 b2 b3 b4 b5 : Bool} {u : State} (q : ℕ) (psn : ℕ) (st : Status) (bytes : ℕ) (data : ℕ)
 (s : State) (hk : Keeps ⟨b0, b1, b2, b3, b4, b5⟩ u s) :
    Keeps ⟨b0, b1, b2, b3, b4, b5⟩ u (rdmaAnswer q psn st bytes data s) := by
  unfold rdmaAnswer
  try dsimp only
  repeat' (first
    | with_reducible assumption | with_reducible apply keeps_bump | with_reducible apply keeps_meterOut
    | with_reducible apply keeps_qpError | with_reducible apply keeps_qpOut | (intro _) | split | dsimp only [id_eq])

theorem keeps_sendFlits {b0 b1 b2 b3 b4 b5 : Bool} {u : State} (n : ℕ) (vc : ℕ) (bytes : ℕ) (s : State)
 (hk : Keeps ⟨b0, b1, b2, b3, b4, b5⟩ u s) :
    Keeps ⟨b0, b1, b2, b3, b4, b5⟩ u (sendFlits n vc bytes s) := by
  unfold sendFlits
  try dsimp only
  repeat' (first
    | with_reducible assumption | fail_if_no_progress with_reducible apply keeps_mk | (intro _) | split
    | dsimp only [id_eq])

theorem keeps_sendTo {b0 b1 b2 b3 b4 b5 : Bool} {u : State} (q : ℕ) (vc : ℕ) (bytes : ℕ) (address : ℕ) (o : Out)
 (s : State) (hk : Keeps ⟨b0, b1, b2, b3, b4, b5⟩ u s) :
    Keeps ⟨b0, b1, b2, b3, b4, b5⟩ u (sendTo q vc bytes address o s) := by
  unfold sendTo
  try dsimp only
  repeat' (first
    | with_reducible assumption | with_reducible apply keeps_emit | with_reducible apply keeps_sendFlits
    | fail_if_no_progress with_reducible apply keeps_mk | (intro _) | split | dsimp only [id_eq])

theorem keeps_send {b0 b1 b2 b3 b4 b5 : Bool} {u : State} (vc : ℕ) (bytes : ℕ) (address : ℕ) (o : Out) (s : State)
 (hk : Keeps ⟨b0, b1, b2, b3, b4, b5⟩ u s) :
    Keeps ⟨b0, b1, b2, b3, b4, b5⟩ u (send vc bytes address o s) := by
  unfold send
  try dsimp only
  repeat' (first
    | with_reducible assumption | with_reducible apply keeps_sendTo | (intro _) | split | dsimp only [id_eq])

theorem keeps_completeWith {b0 b1 b2 b3 b4 b5 : Bool} {u : State} (rq : Req) (st : Status) (result : ℕ) (hint : ℕ)
 (len : ℕ) (data : ℕ) (load : Option ℕ) (s : State) (hk : Keeps ⟨b0, b1, b2, b3, b4, b5⟩ u s) :
    Keeps ⟨b0, b1, b2, b3, b4, b5⟩ u (completeWith rq st result hint len data load s) := by
  unfold completeWith
  try dsimp only
  repeat' (first
    | with_reducible assumption | with_reducible apply keeps_bump | with_reducible apply keeps_dapFinish
    | with_reducible apply keeps_drawFree | with_reducible apply keeps_emit | with_reducible apply keeps_meterOut
    | with_reducible apply keeps_qpSend | with_reducible apply keeps_rdmaAnswer | with_reducible apply keeps_sendFlits
    | with_reducible apply keeps_setQp | with_reducible refine keeps_drawFree_eq (by assumption) ?_
    | fail_if_no_progress with_reducible apply keeps_mk | (intro _) | split | dsimp only [id_eq])

theorem keeps_complete {b0 b1 b2 b3 b4 b5 : Bool} {u : State} (rq : Req) (st : Status) (result : ℕ) (s : State)
 (hk : Keeps ⟨b0, b1, b2, b3, b4, b5⟩ u s) :
    Keeps ⟨b0, b1, b2, b3, b4, b5⟩ u (complete rq st result s) := by
  unfold complete
  try dsimp only
  repeat' (first
    | with_reducible assumption | with_reducible apply keeps_completeWith | (intro _) | split | dsimp only [id_eq])

theorem keeps_deferReq {b0 b1 b2 b3 b4 b5 : Bool} {u : State} (rq : Req) (hint : ℕ) (s : State)
 (hk : Keeps ⟨b0, b1, b2, b3, b4, b5⟩ u s) :
    Keeps ⟨b0, b1, b2, b3, b4, b5⟩ u (deferReq rq hint s) := by
  unfold deferReq
  try dsimp only
  repeat' (first
    | with_reducible assumption | with_reducible apply keeps_completeWith | (intro _) | split | dsimp only [id_eq])

theorem keeps_setDom {b0 b1 b2 b3 b4 b5 : Bool} {u : State} (d : ℕ) (f : Domain → Domain) (s : State)
 (hk : Keeps ⟨b0, b1, b2, b3, b4, b5⟩ u s) :
    Keeps ⟨b0, b1, b2, b3, b4, b5⟩ u (setDom d f s) := by
  unfold setDom
  try dsimp only
  repeat' (first
    | with_reducible assumption | fail_if_no_progress with_reducible apply keeps_mk | (intro _) | split
    | dsimp only [id_eq])

theorem keeps_wake {b0 b1 b2 b3 b4 b5 : Bool} {u : State} (d : ℕ) (s : State) (hk : Keeps ⟨b0, b1, b2, b3, b4, b5⟩ u s) :
    Keeps ⟨b0, b1, b2, b3, b4, b5⟩ u (wake d s) := by
  unfold wake
  try dsimp only
  repeat' (first
    | with_reducible assumption | with_reducible apply keeps_setDom | fail_if_no_progress with_reducible apply keeps_mk
    | (intro _) | split | dsimp only [id_eq])

theorem keeps_advance {b0 b1 b2 b3 b4 b5 : Bool} {u : State} (ns : ℕ) (s : State)
 (hk : Keeps ⟨b0, b1, b2, b3, b4, b5⟩ u s) :
    Keeps ⟨b0, b1, b2, b3, b4, b5⟩ u (advance ns s) := by
  unfold advance
  try dsimp only
  repeat' (first
    | with_reducible assumption | fail_if_no_progress with_reducible apply keeps_mk | (intro _) | split
    | dsimp only [id_eq])

theorem keeps_poisonLine {b0 b2 b3 b4 b5 : Bool} {u : State} (line : ℕ) (s : State)
 (hk : Keeps ⟨b0, false, b2, b3, b4, b5⟩ u s) :
    Keeps ⟨b0, false, b2, b3, b4, b5⟩ u (poisonLine s line) := by
  unfold poisonLine
  try dsimp only
  repeat' (first
    | with_reducible assumption | with_reducible apply keeps_bump | fail_if_no_progress with_reducible apply keeps_mk
    | fail_if_no_progress with_reducible apply keeps_mk_memory | (intro _) | split | dsimp only [id_eq])

theorem keeps_cleanLines {b0 b2 b3 b4 b5 : Bool} {u : State} (lines : List ℕ) (s : State)
 (hk : Keeps ⟨b0, false, b2, b3, b4, b5⟩ u s) :
    Keeps ⟨b0, false, b2, b3, b4, b5⟩ u (cleanLines lines s) := by
  unfold cleanLines
  try dsimp only
  repeat' (first
    | with_reducible assumption | fail_if_no_progress with_reducible apply keeps_mk
    | fail_if_no_progress with_reducible apply keeps_mk_memory | (intro _) | split | dsimp only [id_eq])

theorem keeps_makeNear {b0 b1 b2 b3 b4 b5 : Bool} {u : State} (ext : ℕ) (s : State)
 (hk : Keeps ⟨b0, b1, b2, b3, b4, b5⟩ u s) :
    Keeps ⟨b0, b1, b2, b3, b4, b5⟩ u (makeNear ext s) := by
  unfold makeNear
  try dsimp only
  repeat' (first
    | with_reducible assumption | fail_if_no_progress with_reducible apply keeps_mk | (intro _) | split
    | dsimp only [id_eq])

theorem keeps_poisonExtent {b0 b2 b3 b4 b5 : Bool} {u : State} (ext : ℕ) (keep : List ℕ) (s : State)
 (hk : Keeps ⟨b0, false, b2, b3, b4, b5⟩ u s) :
    Keeps ⟨b0, false, b2, b3, b4, b5⟩ u (poisonExtent ext keep s) := by
  unfold poisonExtent
  try dsimp only
  repeat' (first
    | with_reducible assumption | fail_if_no_progress with_reducible apply keeps_mk
    | fail_if_no_progress with_reducible apply keeps_mk_memory | (intro _) | split | dsimp only [id_eq])

theorem keeps_placeLost {b0 b2 b3 b4 b5 : Bool} {u : State} (ext : ℕ) (near : Bool) (s : State)
 (hk : Keeps ⟨b0, false, b2, b3, b4, b5⟩ u s) :
    Keeps ⟨b0, false, b2, b3, b4, b5⟩ u (placeLost ext near s) := by
  unfold placeLost
  try dsimp only
  repeat' (first
    | with_reducible assumption | with_reducible apply keeps_poisonExtent | with_reducible apply keeps_raiseEvent
    | fail_if_no_progress with_reducible apply keeps_mk | (intro _) | split | dsimp only [id_eq])

theorem keeps_placePoisoned {b0 b2 b3 b4 b5 : Bool} {u : State} (ext : ℕ) (s : State)
 (hk : Keeps ⟨b0, false, b2, b3, b4, b5⟩ u s) :
    Keeps ⟨b0, false, b2, b3, b4, b5⟩ u (placePoisoned ext s) := by
  unfold placePoisoned
  try dsimp only
  repeat' (first
    | with_reducible assumption | with_reducible apply keeps_placeLost | (intro _) | split | dsimp only [id_eq])

theorem keeps_writePoison {b0 b2 b3 b4 b5 : Bool} {u : State} (off : ℕ) (s : State)
 (hk : Keeps ⟨b0, false, b2, b3, b4, b5⟩ u s) :
    Keeps ⟨b0, false, b2, b3, b4, b5⟩ u (writePoison off s) := by
  unfold writePoison
  try dsimp only
  repeat' (first
    | with_reducible assumption | with_reducible apply keeps_makeNear | with_reducible apply keeps_placePoisoned
    | with_reducible apply keeps_poisonLine | fail_if_no_progress with_reducible apply keeps_mk | (intro _) | split
    | dsimp only [id_eq])

theorem keeps_storeRoom {b0 b1 b2 b3 b4 b5 : Bool} {u : State} (line : ℕ) (s : State)
 (hk : Keeps ⟨b0, b1, b2, b3, b4, b5⟩ u s) :
    Keeps ⟨b0, b1, b2, b3, b4, b5⟩ u (storeRoom line s) := by
  unfold storeRoom
  try dsimp only
  repeat' (first
    | with_reducible assumption | with_reducible apply keeps_drawFree
    | with_reducible refine keeps_drawFree_eq (by assumption) ?_ | fail_if_no_progress with_reducible apply keeps_mk
    | (intro _) | split | dsimp only [id_eq])

theorem keeps_storeRead {b0 b1 b2 b3 b4 b5 : Bool} {u : State} (line : ℕ) (s : State)
 (hk : Keeps ⟨b0, b1, b2, b3, b4, b5⟩ u s) :
    Keeps ⟨b0, b1, b2, b3, b4, b5⟩ u (storeRead line s) := by
  unfold storeRead
  try dsimp only
  repeat' (first
    | with_reducible assumption | with_reducible apply keeps_storeRoom | fail_if_no_progress with_reducible apply keeps_mk
    | (intro _) | split | dsimp only [id_eq])

theorem keeps_storeWrite {b0 b1 b2 b3 b4 b5 : Bool} {u : State} (line : ℕ) (s : State)
 (hk : Keeps ⟨b0, b1, b2, b3, b4, b5⟩ u s) :
    Keeps ⟨b0, b1, b2, b3, b4, b5⟩ u (storeWrite line s) := by
  unfold storeWrite
  try dsimp only
  repeat' (first
    | with_reducible assumption | with_reducible apply keeps_storeRoom | fail_if_no_progress with_reducible apply keeps_mk
    | (intro _) | split | dsimp only [id_eq])

theorem keeps_flushStore {b0 b1 b2 b3 b4 b5 : Bool} {u : State} (p : ℕ → Bool) (s : State)
 (hk : Keeps ⟨b0, b1, b2, b3, b4, b5⟩ u s) :
    Keeps ⟨b0, b1, b2, b3, b4, b5⟩ u (flushStore p s) := by
  unfold flushStore
  try dsimp only
  repeat' (first
    | with_reducible assumption | fail_if_no_progress with_reducible apply keeps_mk | (intro _) | split
    | dsimp only [id_eq])

theorem keeps_writeBack {b0 b1 b2 b3 b4 b5 : Bool} {u : State} (p : ℕ → Bool) (s : State)
 (hk : Keeps ⟨b0, b1, b2, b3, b4, b5⟩ u s) :
    Keeps ⟨b0, b1, b2, b3, b4, b5⟩ u (writeBack p s) := by
  unfold writeBack
  try dsimp only
  repeat' (first
    | with_reducible assumption | fail_if_no_progress with_reducible apply keeps_mk | (intro _) | split
    | dsimp only [id_eq])

theorem keeps_storeBytes {b0 b2 b3 b4 b5 : Bool} {u : State} (off : ℕ) (n : ℕ) (v : ℕ) (s : State)
 (hk : Keeps ⟨b0, false, b2, b3, b4, b5⟩ u s) :
    Keeps ⟨b0, false, b2, b3, b4, b5⟩ u (storeBytes off n v s) := by
  unfold storeBytes
  try dsimp only
  repeat' (first
    | with_reducible assumption | with_reducible apply keeps_storeWrite | with_reducible apply keeps_writeMem
    | fail_if_no_progress with_reducible apply keeps_mk | with_reducible apply keeps_foldl
    | with_reducible apply keeps_foldl_snd | (intro _) | split | dsimp only [id_eq])

theorem keeps_recordUe {b0 b1 b2 b3 b4 b5 : Bool} {u : State} (line : ℕ) (s : State)
 (hk : Keeps ⟨b0, b1, b2, b3, b4, b5⟩ u s) :
    Keeps ⟨b0, b1, b2, b3, b4, b5⟩ u (recordUe line s) := by
  unfold recordUe
  try dsimp only
  repeat' (first
    | with_reducible assumption | fail_if_no_progress with_reducible apply keeps_mk | (intro _) | split
    | dsimp only [id_eq])

theorem keeps_foundBad {b0 b2 b3 b4 b5 : Bool} {u : State} (line : ℕ) (s : State)
 (hk : Keeps ⟨b0, false, b2, b3, b4, b5⟩ u s) :
    Keeps ⟨b0, false, b2, b3, b4, b5⟩ u (foundBad s line) := by
  unfold foundBad
  try dsimp only
  repeat' (first
    | with_reducible assumption | with_reducible apply keeps_bump | with_reducible apply keeps_poisonLine
    | with_reducible apply keeps_raiseEvent | with_reducible apply keeps_recordUe | (intro _) | split
    | dsimp only [id_eq])

theorem keeps_chargeC0 {b0 b1 b2 b3 b4 b5 : Bool} {u : State} (rq : Req) (n : ℕ) (s : State)
 (hk : Keeps ⟨b0, b1, b2, b3, b4, b5⟩ u s) :
    Keeps ⟨b0, b1, b2, b3, b4, b5⟩ u (chargeC0 rq n s).2 := by
  unfold chargeC0
  try dsimp only
  repeat' (first
    | with_reducible assumption | with_reducible apply keeps_bump | fail_if_no_progress with_reducible apply keeps_mk
    | (intro _) | split | dsimp only [id_eq])

theorem keeps_chargeC0_eq {b0 b1 b2 b3 b4 b5 : Bool} {u w : State} {r0 : Req} {rq : Req} {n : ℕ} {s : State}
 (e : chargeC0 rq n s = (r0, w)) (hk : Keeps ⟨b0, b1, b2, b3, b4, b5⟩ u s) :
    Keeps ⟨b0, b1, b2, b3, b4, b5⟩ u w := by
  have := keeps_chargeC0 rq n s  hk; rwa [e] at this

theorem keeps_refuse {b0 b1 b2 b3 b4 b5 : Bool} {u : State} (rq : Req) (r : Refused) (s : State)
 (hk : Keeps ⟨b0, b1, b2, b3, b4, b5⟩ u s) :
    Keeps ⟨b0, b1, b2, b3, b4, b5⟩ u (refuse rq r s) := by
  unfold refuse
  try dsimp only
  repeat' (first
    | with_reducible assumption | with_reducible apply keeps_completeWith | with_reducible apply keeps_wake
    | fail_if_no_progress with_reducible apply keeps_mk | (intro _) | split | dsimp only [id_eq])

theorem keeps_chargeBw {b0 b1 b2 b3 b4 b5 : Bool} {u : State} (rq : Req) (n : ℕ) (s : State)
 (hk : Keeps ⟨b0, b1, b2, b3, b4, b5⟩ u s) :
    Keeps ⟨b0, b1, b2, b3, b4, b5⟩ u (chargeBw rq n s).2 := by
  unfold chargeBw
  try dsimp only
  repeat' (first
    | with_reducible assumption | with_reducible apply keeps_bump | fail_if_no_progress with_reducible apply keeps_mk
    | (intro _) | split | dsimp only [id_eq])

theorem keeps_chargeBw_eq {b0 b1 b2 b3 b4 b5 : Bool} {u w : State} {r0 : Option ℕ} {rq : Req} {n : ℕ} {s : State}
 (e : chargeBw rq n s = (r0, w)) (hk : Keeps ⟨b0, b1, b2, b3, b4, b5⟩ u s) :
    Keeps ⟨b0, b1, b2, b3, b4, b5⟩ u w := by
  have := keeps_chargeBw rq n s  hk; rwa [e] at this

theorem keeps_meterIn {b0 b1 b2 b3 b4 b5 : Bool} {u : State} (rq : Req) (n : ℕ) (s : State)
 (hk : Keeps ⟨b0, b1, b2, b3, b4, b5⟩ u s) :
    Keeps ⟨b0, b1, b2, b3, b4, b5⟩ u (meterIn rq n s) := by
  unfold meterIn
  try dsimp only
  repeat' (first
    | with_reducible assumption | with_reducible apply keeps_meter | fail_if_no_progress with_reducible apply keeps_mk
    | (intro _) | split | dsimp only [id_eq])

theorem keeps_serve {b0 b1 b2 b3 b4 b5 : Bool} {u : State} (rq : Req) (c : Checks) (n : ℕ) (charge : ℕ)
 (act : Req → State → State) (s : State) (hact : ∀ a0
 (w : State), Keeps ⟨b0, b1, b2, b3, b4, b5⟩ u w → Keeps ⟨b0, b1, b2, b3, b4, b5⟩ u (act a0 w))
 (hk : Keeps ⟨b0, b1, b2, b3, b4, b5⟩ u s) :
    Keeps ⟨b0, b1, b2, b3, b4, b5⟩ u (serve rq c n charge act s) := by
  unfold serve
  try dsimp only
  repeat' (first
    | with_reducible assumption | with_reducible apply keeps_chargeBw | with_reducible apply keeps_chargeC0
    | with_reducible apply keeps_completeWith | with_reducible apply keeps_meterIn | with_reducible apply keeps_refuse
    | with_reducible refine keeps_chargeBw_eq (by assumption) ?_
    | with_reducible refine keeps_chargeC0_eq (by assumption) ?_ | with_reducible apply hact
    | fail_if_no_progress with_reducible apply keeps_mk | (intro _) | split | dsimp only [id_eq])

theorem keeps_hold {b0 b1 b2 b3 b4 b5 : Bool} {u : State} (o : OpenReq) (s : State)
 (hk : Keeps ⟨b0, b1, b2, b3, b4, b5⟩ u s) :
    Keeps ⟨b0, b1, b2, b3, b4, b5⟩ u (hold o s) := by
  unfold hold
  try dsimp only
  repeat' (first
    | with_reducible assumption | fail_if_no_progress with_reducible apply keeps_mk | (intro _) | split
    | dsimp only [id_eq])

theorem keeps_closeReq {b0 b1 b2 b3 b4 b5 : Bool} {u : State} (id : ℕ) (s : State)
 (hk : Keeps ⟨b0, b1, b2, b3, b4, b5⟩ u s) :
    Keeps ⟨b0, b1, b2, b3, b4, b5⟩ u (closeReq id s) := by
  unfold closeReq
  try dsimp only
  repeat' (first
    | with_reducible assumption | fail_if_no_progress with_reducible apply keeps_mk | (intro _) | split
    | dsimp only [id_eq])

theorem keeps_discardOpen {b0 b1 b2 b3 b4 b5 : Bool} {u : State} (s : State) (hk : Keeps ⟨b0, b1, b2, b3, b4, b5⟩ u s) :
    Keeps ⟨b0, b1, b2, b3, b4, b5⟩ u (discardOpen s) := by
  unfold discardOpen
  try dsimp only
  repeat' (first
    | with_reducible assumption | with_reducible apply keeps_complete | fail_if_no_progress with_reducible apply keeps_mk
    | with_reducible apply keeps_foldl | with_reducible apply keeps_foldl_snd | (intro _) | split | dsimp only [id_eq])

theorem keeps_queueDemand {b0 b1 b2 b3 b4 b5 : Bool} {u : State} (ext : ℕ) (s : State)
 (hk : Keeps ⟨b0, b1, b2, b3, b4, b5⟩ u s) :
    Keeps ⟨b0, b1, b2, b3, b4, b5⟩ u (queueDemand ext s).2 := by
  unfold queueDemand
  try dsimp only
  repeat' (first
    | with_reducible assumption | fail_if_no_progress with_reducible apply keeps_mk | (intro _) | split
    | dsimp only [id_eq])

theorem keeps_queueDemand_eq {b0 b1 b2 b3 b4 b5 : Bool} {u w : State} {r0 : Bool} {ext : ℕ} {s : State}
 (e : queueDemand ext s = (r0, w)) (hk : Keeps ⟨b0, b1, b2, b3, b4, b5⟩ u s) :
    Keeps ⟨b0, b1, b2, b3, b4, b5⟩ u w := by
  have := keeps_queueDemand ext s  hk; rwa [e] at this

theorem keeps_queueAll {b0 b1 b2 b3 b4 b5 : Bool} {u : State} (exts : List ℕ) (s : State)
 (hk : Keeps ⟨b0, b1, b2, b3, b4, b5⟩ u s) :
    Keeps ⟨b0, b1, b2, b3, b4, b5⟩ u (queueAll exts s).2 := by
  unfold queueAll
  try dsimp only
  repeat' (first
    | with_reducible assumption | with_reducible apply keeps_queueDemand | with_reducible apply keeps_wake
    | with_reducible refine keeps_queueDemand_eq (by assumption) ?_ | with_reducible apply keeps_foldl
    | with_reducible apply keeps_foldl_snd | (intro _) | split | dsimp only [id_eq])

theorem keeps_queueAll_eq {b0 b1 b2 b3 b4 b5 : Bool} {u w : State} {r0 : Bool} {exts : List ℕ} {s : State}
 (e : queueAll exts s = (r0, w)) (hk : Keeps ⟨b0, b1, b2, b3, b4, b5⟩ u s) :
    Keeps ⟨b0, b1, b2, b3, b4, b5⟩ u w := by
  have := keeps_queueAll exts s  hk; rwa [e] at this

theorem keeps_farDeferAll {b0 b1 b2 b3 b4 b5 : Bool} {u : State} (rq : Req) (exts : List ℕ) (s : State)
 (hk : Keeps ⟨b0, b1, b2, b3, b4, b5⟩ u s) :
    Keeps ⟨b0, b1, b2, b3, b4, b5⟩ u (farDeferAll rq exts s) := by
  unfold farDeferAll
  try dsimp only
  repeat' (first
    | with_reducible assumption | with_reducible apply keeps_bump | with_reducible apply keeps_deferReq
    | with_reducible apply keeps_queueAll | with_reducible refine keeps_queueAll_eq (by assumption) ?_ | (intro _) | split
    | dsimp only [id_eq])

theorem keeps_farDefer {b0 b1 b2 b3 b4 b5 : Bool} {u : State} (rq : Req) (off : ℕ) (n : ℕ) (s : State)
 (hk : Keeps ⟨b0, b1, b2, b3, b4, b5⟩ u s) :
    Keeps ⟨b0, b1, b2, b3, b4, b5⟩ u (farDefer rq off n s) := by
  unfold farDefer
  try dsimp only
  repeat' (first
    | with_reducible assumption | with_reducible apply keeps_farDeferAll | (intro _) | split | dsimp only [id_eq])

theorem keeps_engineFar {b0 b1 b2 b3 b4 b5 : Bool} {u : State} (exts : List ℕ) (s : State)
 (hk : Keeps ⟨b0, b1, b2, b3, b4, b5⟩ u s) :
    Keeps ⟨b0, b1, b2, b3, b4, b5⟩ u (engineFar exts s) := by
  unfold engineFar
  try dsimp only
  repeat' (first
    | with_reducible assumption | with_reducible apply keeps_bump | with_reducible apply keeps_queueAll
    | with_reducible refine keeps_queueAll_eq (by assumption) ?_ | (intro _) | split | dsimp only [id_eq])

theorem keeps_setStale {b0 b2 b3 b4 b5 : Bool} {u : State} (lines : List ℕ) (s : State)
 (hk : Keeps ⟨b0, false, b2, b3, b4, b5⟩ u s) :
    Keeps ⟨b0, false, b2, b3, b4, b5⟩ u (setStale lines s) := by
  unfold setStale
  try dsimp only
  repeat' (first
    | with_reducible assumption | with_reducible apply keeps_storeBytes
    | fail_if_no_progress with_reducible apply keeps_mk | with_reducible apply keeps_foldl
    | with_reducible apply keeps_foldl_snd | (intro _) | split | dsimp only [id_eq])

theorem keeps_takeFrames {b0 b2 b3 b4 b5 : Bool} {u : State} (off : ℕ) (n : ℕ) (s : State)
 (hk : Keeps ⟨b0, false, b2, b3, b4, b5⟩ u s) :
    Keeps ⟨b0, false, b2, b3, b4, b5⟩ u (takeFrames off n s) := by
  unfold takeFrames
  try dsimp only
  repeat' (first
    | with_reducible assumption | with_reducible apply keeps_makeNear | with_reducible apply keeps_poisonExtent
    | fail_if_no_progress with_reducible apply keeps_mk | with_reducible apply keeps_foldl
    | with_reducible apply keeps_foldl_snd | (intro _) | split | dsimp only [id_eq])

theorem keeps_touch {b0 b1 b2 b3 b4 b5 : Bool} {u : State} (off : ℕ) (n : ℕ) (s : State)
 (hk : Keeps ⟨b0, b1, b2, b3, b4, b5⟩ u s) :
    Keeps ⟨b0, b1, b2, b3, b4, b5⟩ u (touch off n s) := by
  unfold touch
  try dsimp only
  repeat' (first
    | with_reducible assumption | with_reducible apply keeps_storeRead | fail_if_no_progress with_reducible apply keeps_mk
    | with_reducible apply keeps_foldl | with_reducible apply keeps_foldl_snd | (intro _) | split | dsimp only [id_eq])

theorem keeps_sendUnit {b0 b1 b2 b3 b4 b5 : Bool} {u : State} (rq : Req) (o : PObject) (off : ℕ) (n : ℕ) (old : ℕ)
 (v : ℕ) (s : State) (hk : Keeps ⟨b0, b1, b2, b3, b4, b5⟩ u s) :
    Keeps ⟨b0, b1, b2, b3, b4, b5⟩ u (sendUnit rq o off n old v s) := by
  unfold sendUnit
  try dsimp only
  repeat' (first
    | with_reducible assumption | with_reducible apply keeps_send | (intro _) | split | dsimp only [id_eq])

theorem keeps_sendCopies {b0 b1 b2 b3 b4 b5 : Bool} {u : State} (rq : Req) (off : ℕ) (n : ℕ) (old : ℕ) (v : ℕ)
 (s : State) (hk : Keeps ⟨b0, b1, b2, b3, b4, b5⟩ u s) :
    Keeps ⟨b0, b1, b2, b3, b4, b5⟩ u (sendCopies rq off n old v s) := by
  unfold sendCopies
  try dsimp only
  repeat' (first
    | with_reducible assumption | with_reducible apply keeps_sendUnit | fail_if_no_progress with_reducible apply keeps_mk
    | with_reducible apply keeps_foldl | with_reducible apply keeps_foldl_snd | (intro _) | split | dsimp only [id_eq])

theorem keeps_readRow {b0 b1 b2 b3 b4 b5 : Bool} {u : State} (o : PObject) (row : ℕ) (at_ : ℕ) (s : State)
 (hk : Keeps ⟨b0, b1, b2, b3, b4, b5⟩ u s) :
    Keeps ⟨b0, b1, b2, b3, b4, b5⟩ u (readRow o row at_ s) := by
  unfold readRow
  try dsimp only
  repeat' (first
    | with_reducible assumption | with_reducible apply keeps_send | fail_if_no_progress with_reducible apply keeps_mk
    | with_reducible apply keeps_foldl | with_reducible apply keeps_foldl_snd | (intro _) | split | dsimp only [id_eq])

theorem keeps_readSources {b0 b1 b2 b3 b4 b5 : Bool} {u : State} (o : PObject) (line : ℕ) (s : State)
 (hk : Keeps ⟨b0, b1, b2, b3, b4, b5⟩ u s) :
    Keeps ⟨b0, b1, b2, b3, b4, b5⟩ u (readSources o line s) := by
  unfold readSources
  try dsimp only
  repeat' (first
    | with_reducible assumption | with_reducible apply keeps_readRow | with_reducible apply keeps_send | (intro _) | split
    | dsimp only [id_eq])

theorem keeps_sourcesOf {b0 b1 b2 b3 b4 b5 : Bool} {u : State} (line : Nat) (s : State)
 (hk : Keeps ⟨b0, b1, b2, b3, b4, b5⟩ u s) :
    ∀ t, sourcesOf line s = some t → Keeps ⟨b0, b1, b2, b3, b4, b5⟩ u t := by
  intro t e
  unfold sourcesOf at e
  split at e
  · cases e; exact keeps_readSources _ _ _ hk
  · simp only [Option.map_eq_some_iff] at e
    obtain ⟨o, -, rfl⟩ := e
    exact keeps_readRow _ _ _ _ hk

theorem keeps_rebuildLine {b0 b2 b3 b4 b5 : Bool} {u : State} (line : ℕ) (s : State)
 (hk : Keeps ⟨b0, false, b2, b3, b4, b5⟩ u s) :
    Keeps ⟨b0, false, b2, b3, b4, b5⟩ u (rebuildLine line s) := by
  unfold rebuildLine
  try dsimp only
  repeat' (first
    | with_reducible assumption | with_reducible apply keeps_bump | with_reducible apply keeps_cleanLines
    | with_reducible apply keeps_drawFree | with_reducible apply keeps_storeBytes
    | with_reducible refine keeps_drawFree_eq (by assumption) ?_
    | with_reducible refine keeps_sourcesOf _ _ ?_ _ (by assumption) | fail_if_no_progress with_reducible apply keeps_mk
    | (intro _) | split | dsimp only [id_eq])

theorem keeps_rebuildLines {b0 b2 b3 b4 b5 : Bool} {u : State} (lines : List ℕ) (s : State)
 (hk : Keeps ⟨b0, false, b2, b3, b4, b5⟩ u s) :
    Keeps ⟨b0, false, b2, b3, b4, b5⟩ u (rebuildLines lines s) := by
  unfold rebuildLines
  try dsimp only
  repeat' (first
    | with_reducible assumption | with_reducible apply keeps_rebuildLine | with_reducible apply keeps_foldl
    | with_reducible apply keeps_foldl_snd | (intro _) | split | dsimp only [id_eq])

theorem keeps_setAgentState {b0 b1 b2 b3 b4 b5 : Bool} {u : State} (a : ℕ) (v : ℕ) (s : State)
 (hk : Keeps ⟨b0, b1, b2, b3, b4, b5⟩ u s) :
    Keeps ⟨b0, b1, b2, b3, b4, b5⟩ u (setAgentState a v s) := by
  unfold setAgentState
  try dsimp only
  repeat' (first
    | with_reducible assumption | with_reducible apply keeps_setObj | (intro _) | split | dsimp only [id_eq])

theorem keeps_tellMembers {b0 b1 b2 b3 b4 b5 : Bool} {u : State} (what : ℕ) (item : ℕ) (value : ℕ) (s : State)
 (hk : Keeps ⟨b0, b1, b2, b3, b4, b5⟩ u s) :
    Keeps ⟨b0, b1, b2, b3, b4, b5⟩ u (tellMembers what item value s) := by
  unfold tellMembers
  try dsimp only
  repeat' (first
    | with_reducible assumption | with_reducible apply keeps_emit | with_reducible apply keeps_foldl
    | with_reducible apply keeps_foldl_snd | (intro _) | split | dsimp only [id_eq])

theorem keeps_setDir {b0 b1 b2 b3 b4 b5 : Bool} {u : State} (line : ℕ) (e : DirEntry) (s : State)
 (hk : Keeps ⟨b0, b1, b2, b3, b4, b5⟩ u s) :
    Keeps ⟨b0, b1, b2, b3, b4, b5⟩ u (setDir line e s) := by
  unfold setDir
  try dsimp only
  repeat' (first
    | with_reducible assumption | fail_if_no_progress with_reducible apply keeps_mk | (intro _) | split
    | dsimp only [id_eq])

theorem keeps_dropDir {b0 b1 b2 b3 b4 b5 : Bool} {u : State} (line : ℕ) (s : State)
 (hk : Keeps ⟨b0, b1, b2, b3, b4, b5⟩ u s) :
    Keeps ⟨b0, b1, b2, b3, b4, b5⟩ u (dropDir line s) := by
  unfold dropDir
  try dsimp only
  repeat' (first
    | with_reducible assumption | fail_if_no_progress with_reducible apply keeps_mk | (intro _) | split
    | dsimp only [id_eq])

theorem keeps_sendSnoop {b0 b1 b2 b3 b4 b5 : Bool} {u : State} (txn : ℕ) (line : ℕ) (a : ℕ) (kind : ℕ) (why : SnoopWhy)
 (target : ℕ) (tag : ℕ) (grant : ℕ) (s : State) (hk : Keeps ⟨b0, b1, b2, b3, b4, b5⟩ u s) :
    Keeps ⟨b0, b1, b2, b3, b4, b5⟩ u (sendSnoop txn line a kind why target tag grant s) := by
  unfold sendSnoop
  try dsimp only
  repeat' (first
    | with_reducible assumption | with_reducible apply keeps_bump | with_reducible apply keeps_sendTo
    | fail_if_no_progress with_reducible apply keeps_mk | (intro _) | split | dsimp only [id_eq])

theorem keeps_nextTxn {b0 b1 b2 b3 b4 b5 : Bool} {u : State} (s : State) (hk : Keeps ⟨b0, b1, b2, b3, b4, b5⟩ u s) :
    Keeps ⟨b0, b1, b2, b3, b4, b5⟩ u (nextTxn s).2 := by
  unfold nextTxn
  try dsimp only
  repeat' (first
    | with_reducible assumption | fail_if_no_progress with_reducible apply keeps_mk | (intro _) | split
    | dsimp only [id_eq])

theorem keeps_nextTxn_eq {b0 b1 b2 b3 b4 b5 : Bool} {u w : State} {r0 : ℕ} {s : State} (e : nextTxn s = (r0, w))
 (hk : Keeps ⟨b0, b1, b2, b3, b4, b5⟩ u s) :
    Keeps ⟨b0, b1, b2, b3, b4, b5⟩ u w := by
  have := keeps_nextTxn  s  hk; rwa [e] at this

theorem keeps_sendSnoops {b0 b1 b2 b3 b4 b5 : Bool} {u : State} (txn : ℕ) (line : ℕ) (kind : ℕ) (why : SnoopWhy)
 (as : List ℕ) (ptrs : List ℕ) (s : State) (hk : Keeps ⟨b0, b1, b2, b3, b4, b5⟩ u s) :
    Keeps ⟨b0, b1, b2, b3, b4, b5⟩ u (sendSnoops txn line kind why as ptrs s) := by
  unfold sendSnoops
  try dsimp only
  repeat' (first
    | with_reducible assumption | with_reducible apply keeps_bump | with_reducible apply keeps_sendSnoop
    | with_reducible apply keeps_foldl | with_reducible apply keeps_foldl_snd | (intro _) | split | dsimp only [id_eq])

theorem keeps_recallLine {b0 b1 b2 b3 b4 b5 : Bool} {u : State} (line : ℕ) (s : State)
 (hk : Keeps ⟨b0, b1, b2, b3, b4, b5⟩ u s) :
    Keeps ⟨b0, b1, b2, b3, b4, b5⟩ u (recallLine line s) := by
  unfold recallLine
  try dsimp only
  repeat' (first
    | with_reducible assumption | with_reducible apply keeps_bump | with_reducible apply keeps_dropDir
    | with_reducible apply keeps_nextTxn | with_reducible apply keeps_sendSnoops
    | with_reducible refine keeps_nextTxn_eq (by assumption) ?_ | fail_if_no_progress with_reducible apply keeps_mk
    | (intro _) | split | dsimp only [id_eq])

theorem keeps_recallAll {b0 b1 b2 b3 b4 b5 : Bool} {u : State} (home : Option ℕ) (s : State)
 (hk : Keeps ⟨b0, b1, b2, b3, b4, b5⟩ u s) :
    Keeps ⟨b0, b1, b2, b3, b4, b5⟩ u (recallAll home s) := by
  unfold recallAll
  try dsimp only
  repeat' (first
    | with_reducible assumption | with_reducible apply keeps_recallLine
    | fail_if_no_progress with_reducible apply keeps_mk | with_reducible apply keeps_foldl
    | with_reducible apply keeps_foldl_snd | (intro _) | split | dsimp only [id_eq])

theorem keeps_mergeLine {b0 b2 b3 b4 b5 : Bool} {u : State} (x : Snoop) (v : ℕ) (s : State)
 (hk : Keeps ⟨b0, false, b2, b3, b4, b5⟩ u s) :
    Keeps ⟨b0, false, b2, b3, b4, b5⟩ u (mergeLine x v s) := by
  unfold mergeLine
  try dsimp only
  repeat' (first
    | with_reducible assumption | with_reducible apply keeps_cleanLines | with_reducible apply keeps_sendCopies
    | with_reducible apply keeps_setStale | with_reducible apply keeps_storeWrite | with_reducible apply keeps_writeMem
    | (intro _) | split | dsimp only [id_eq])

theorem keeps_writeLine {b0 b2 b3 b4 b5 : Bool} {u : State} (line : ℕ) (v : ℕ) (s : State)
 (hk : Keeps ⟨b0, false, b2, b3, b4, b5⟩ u s) :
    Keeps ⟨b0, false, b2, b3, b4, b5⟩ u (writeLine line v s) := by
  unfold writeLine
  try dsimp only
  repeat' (first
    | with_reducible assumption | with_reducible apply keeps_cleanLines | with_reducible apply keeps_storeBytes
    | (intro _) | split | dsimp only [id_eq])

theorem keeps_sendGrant {b0 b1 b2 b3 b4 b5 : Bool} {u : State} (h : Hdr) (txn : ℕ) (grant : ℕ) (len : ℕ) (line : ℕ)
 (bad : Bool) (s : State) (hk : Keeps ⟨b0, b1, b2, b3, b4, b5⟩ u s) :
    Keeps ⟨b0, b1, b2, b3, b4, b5⟩ u (sendGrant h txn grant len line bad s) := by
  unfold sendGrant
  try dsimp only
  repeat' (first
    | with_reducible assumption | with_reducible apply keeps_sendTo | fail_if_no_progress with_reducible apply keeps_mk
    | (intro _) | split | dsimp only [id_eq])

theorem keeps_startTimers {b0 b1 b2 b3 b4 b5 : Bool} {u : State} (line : ℕ) (a : ℕ) (s : State)
 (hk : Keeps ⟨b0, b1, b2, b3, b4, b5⟩ u s) :
    Keeps ⟨b0, b1, b2, b3, b4, b5⟩ u (startTimers line a s) := by
  unfold startTimers
  try dsimp only
  repeat' (first
    | with_reducible assumption | fail_if_no_progress with_reducible apply keeps_mk | (intro _) | split
    | dsimp only [id_eq])

theorem keeps_acknowledge {b0 b1 b2 b3 b4 b5 : Bool} {u : State} (line : ℕ) (h : Hdr) (s : State)
 (hk : Keeps ⟨b0, b1, b2, b3, b4, b5⟩ u s) :
    Keeps ⟨b0, b1, b2, b3, b4, b5⟩ u (acknowledge line h s) := by
  unfold acknowledge
  try dsimp only
  repeat' (first
    | with_reducible assumption | with_reducible apply keeps_startTimers
    | fail_if_no_progress with_reducible apply keeps_mk | (intro _) | split | dsimp only [id_eq])

theorem keeps_invalidateHolders {b0 b1 b2 b3 b4 b5 : Bool} {u : State} (lines : List ℕ) (s : State)
 (hk : Keeps ⟨b0, b1, b2, b3, b4, b5⟩ u s) :
    Keeps ⟨b0, b1, b2, b3, b4, b5⟩ u (invalidateHolders lines s) := by
  unfold invalidateHolders
  try dsimp only
  repeat' (first
    | with_reducible assumption | with_reducible apply keeps_dropDir | with_reducible apply keeps_nextTxn
    | with_reducible apply keeps_sendSnoops | with_reducible refine keeps_nextTxn_eq (by assumption) ?_
    | fail_if_no_progress with_reducible apply keeps_mk | with_reducible apply keeps_foldl
    | with_reducible apply keeps_foldl_snd | (intro _) | split | dsimp only [id_eq])

theorem keeps_poisonDead {b0 b2 b3 b4 b5 : Bool} {u : State} (lines : List ℕ) (s : State)
 (hk : Keeps ⟨b0, false, b2, b3, b4, b5⟩ u s) :
    Keeps ⟨b0, false, b2, b3, b4, b5⟩ u (poisonDead lines s) := by
  unfold poisonDead
  try dsimp only
  repeat' (first
    | with_reducible assumption | with_reducible apply keeps_bump | with_reducible apply keeps_dropDir
    | with_reducible apply keeps_rebuildLines | with_reducible apply keeps_writePoison
    | fail_if_no_progress with_reducible apply keeps_mk | with_reducible apply keeps_foldl
    | with_reducible apply keeps_foldl_snd | (intro _) | split | dsimp only [id_eq])

theorem keeps_peekWait {b0 b1 b2 b3 b4 b5 : Bool} {u : State} (id : ℕ) (lines : List ℕ) (s : State)
 (hk : Keeps ⟨b0, b1, b2, b3, b4, b5⟩ u s) :
    ∀ t, peekWait id lines s = some t → Keeps ⟨b0, b1, b2, b3, b4, b5⟩ u t := by
  intro t e
  unfold peekWait at e
  try dsimp only at e
  repeat' split at e
  all_goals try cases e
  repeat' (first
    | with_reducible assumption | with_reducible apply keeps_nextTxn | with_reducible apply keeps_sendSnoop
    | with_reducible refine keeps_nextTxn_eq (by assumption) ?_ | with_reducible apply keeps_foldl
    | with_reducible apply keeps_foldl_snd | (intro _) | split | dsimp only [id_eq])

theorem keeps_view {b0 b2 b3 b4 b5 : Bool} {u : State} (id : ℕ) (s : State) (hk : Keeps ⟨b0, false, b2, b3, b4, b5⟩ u s) :
    Keeps ⟨b0, false, b2, b3, b4, b5⟩ u (view id s) := by
  unfold view
  try dsimp only
  repeat' (first
    | with_reducible assumption | with_reducible apply keeps_cleanLines | with_reducible apply keeps_writeMem
    | with_reducible apply keeps_writePoison | with_reducible apply keeps_foldl | with_reducible apply keeps_foldl_snd
    | (intro _) | split | dsimp only [id_eq])

theorem keeps_settleLines {b0 b2 b3 b4 b5 : Bool} {u : State} (id : ℕ) (s : State)
 (hk : Keeps ⟨b0, false, b2, b3, b4, b5⟩ u s) :
    Keeps ⟨b0, false, b2, b3, b4, b5⟩ u (settleLines id s) := by
  unfold settleLines
  try dsimp only
  repeat' (first
    | with_reducible assumption | with_reducible apply keeps_writeLine | with_reducible apply keeps_writePoison
    | with_reducible apply keeps_foldl | with_reducible apply keeps_foldl_snd | (intro _) | split | dsimp only [id_eq])

theorem keeps_unpeek {b0 b1 b2 b3 b4 b5 : Bool} {u : State} (id : ℕ) (s : State)
 (hk : Keeps ⟨b0, b1, b2, b3, b4, b5⟩ u s) :
    Keeps ⟨b0, b1, b2, b3, b4, b5⟩ u (unpeek id s) := by
  unfold unpeek
  try dsimp only
  repeat' (first
    | with_reducible assumption | fail_if_no_progress with_reducible apply keeps_mk | (intro _) | split
    | dsimp only [id_eq])

theorem keeps_withSnoops {b0 b2 b3 b4 b5 : Bool} {u : State} (rq : Req) (lines : List ℕ) (write : Bool)
 (act : State → State) (s : State) (hact : ∀
 (w : State), Keeps ⟨b0, false, b2, b3, b4, b5⟩ u w → Keeps ⟨b0, false, b2, b3, b4, b5⟩ u (act w))
 (hk : Keeps ⟨b0, false, b2, b3, b4, b5⟩ u s) :
    Keeps ⟨b0, false, b2, b3, b4, b5⟩ u (withSnoops rq lines write act s) := by
  unfold withSnoops
  try dsimp only
  repeat' (first
    | with_reducible assumption | with_reducible apply keeps_bump | with_reducible apply keeps_deferReq
    | with_reducible apply keeps_dropDir | with_reducible apply keeps_hold | with_reducible apply keeps_nextTxn
    | with_reducible apply keeps_poisonDead | with_reducible apply keeps_sendSnoops
    | with_reducible refine keeps_nextTxn_eq (by assumption) ?_ | with_reducible apply hact
    | fail_if_no_progress with_reducible apply keeps_mk | with_reducible apply keeps_foldl
    | with_reducible apply keeps_foldl_snd | (intro _) | split | dsimp only [id_eq])

theorem keeps_setBox {b0 b1 b2 b3 b4 b5 : Bool} {u : State} (die : ℕ) (m : ℕ) (x : Mailbox) (s : State)
 (hk : Keeps ⟨b0, b1, b2, b3, b4, b5⟩ u s) :
    Keeps ⟨b0, b1, b2, b3, b4, b5⟩ u (setBox die m x s) := by
  unfold setBox
  try dsimp only
  repeat' (first
    | with_reducible assumption | fail_if_no_progress with_reducible apply keeps_mk | (intro _) | split
    | dsimp only [id_eq])

theorem keeps_clearWakes {b0 b1 b2 b3 b4 b5 : Bool} {u : State} (d : ℕ) (s : State)
 (hk : Keeps ⟨b0, b1, b2, b3, b4, b5⟩ u s) :
    Keeps ⟨b0, b1, b2, b3, b4, b5⟩ u (clearWakes d s) := by
  unfold clearWakes
  try dsimp only
  repeat' (first
    | with_reducible assumption | fail_if_no_progress with_reducible apply keeps_mk | (intro _) | split
    | dsimp only [id_eq])

theorem keeps_geyserWake {b0 b1 b2 b3 b4 b5 : Bool} {u : State} (die : ℕ) (m : ℕ) (s : State)
 (hk : Keeps ⟨b0, b1, b2, b3, b4, b5⟩ u s) :
    Keeps ⟨b0, b1, b2, b3, b4, b5⟩ u (geyserWake die m s) := by
  unfold geyserWake
  try dsimp only
  repeat' (first
    | with_reducible assumption | with_reducible apply keeps_bump | with_reducible apply keeps_setBox
    | with_reducible apply keeps_wake | fail_if_no_progress with_reducible apply keeps_mk | (intro _) | split
    | dsimp only [id_eq])

theorem keeps_sendNotices {b0 b1 b2 b3 b4 b5 : Bool} {u : State} (q : ℕ) (m : ℕ) (ns : List (ℕ × ℕ)) (s : State)
 (hk : Keeps ⟨b0, b1, b2, b3, b4, b5⟩ u s) :
    Keeps ⟨b0, b1, b2, b3, b4, b5⟩ u (sendNotices q m ns s) := by
  unfold sendNotices
  try dsimp only
  repeat' (first
    | with_reducible assumption | with_reducible apply keeps_qpSend | with_reducible apply keeps_foldl
    | with_reducible apply keeps_foldl_snd | (intro _) | split | dsimp only [id_eq])

theorem keeps_postNotice {b0 b1 b2 b3 b4 b5 : Bool} {u : State} (die : ℕ) (m : ℕ) (ptr : ℕ) (tag : ℕ) (s : State)
 (hk : Keeps ⟨b0, b1, b2, b3, b4, b5⟩ u s) :
    Keeps ⟨b0, b1, b2, b3, b4, b5⟩ u (postNotice die m ptr tag s) := by
  unfold postNotice
  try dsimp only
  repeat' (first
    | with_reducible assumption | with_reducible apply keeps_geyserWake | with_reducible apply keeps_sendNotices
    | with_reducible apply keeps_setBox | fail_if_no_progress with_reducible apply keeps_mk | (intro _) | split
    | dsimp only [id_eq])

theorem keeps_doorbellAt {b0 b1 b2 b3 b4 b5 : Bool} {u : State} (off : ℕ) (ptr : ℕ) (tag : ℕ) (s : State)
 (hk : Keeps ⟨b0, b1, b2, b3, b4, b5⟩ u s) :
    Keeps ⟨b0, b1, b2, b3, b4, b5⟩ u (doorbellAt off ptr tag s).2 := by
  unfold doorbellAt
  try dsimp only
  repeat' (first
    | with_reducible assumption | with_reducible apply keeps_bump | with_reducible apply keeps_postNotice
    | with_reducible apply keeps_setBox | fail_if_no_progress with_reducible apply keeps_mk | (intro _) | split
    | dsimp only [id_eq])

theorem keeps_doorbellAt_eq {b0 b1 b2 b3 b4 b5 : Bool} {u w : State} {r0 : (Status × ℕ)} {off : ℕ} {ptr : ℕ} {tag : ℕ}
    {s : State} (e : doorbellAt off ptr tag s = (r0, w)) (hk : Keeps ⟨b0, b1, b2, b3, b4, b5⟩ u s) :
    Keeps ⟨b0, b1, b2, b3, b4, b5⟩ u w := by
  have := keeps_doorbellAt off ptr tag s  hk; rwa [e] at this

theorem keeps_popNotice {b0 b1 b2 b3 b4 b5 : Bool} {u : State} (die : ℕ) (m : ℕ) (s : State)
 (hk : Keeps ⟨b0, b1, b2, b3, b4, b5⟩ u s) :
    Keeps ⟨b0, b1, b2, b3, b4, b5⟩ u (popNotice die m s) := by
  unfold popNotice
  try dsimp only
  repeat' (first
    | with_reducible assumption | with_reducible apply keeps_setBox | fail_if_no_progress with_reducible apply keeps_mk
    | (intro _) | split | dsimp only [id_eq])

theorem keeps_mbxAck {b0 b1 b2 b3 b4 b5 : Bool} {u : State} (die : ℕ) (m : ℕ) (value : ℕ) (s : State)
 (hk : Keeps ⟨b0, b1, b2, b3, b4, b5⟩ u s) :
    Keeps ⟨b0, b1, b2, b3, b4, b5⟩ u (mbxAck die m value s).2 := by
  unfold mbxAck
  try dsimp only
  repeat' (first
    | with_reducible assumption | with_reducible apply keeps_popNotice | (intro _) | split | dsimp only [id_eq])

theorem keeps_mbxAck_eq {b0 b1 b2 b3 b4 b5 : Bool} {u w : State} {r0 : Bool} {die : ℕ} {m : ℕ} {value : ℕ} {s : State}
 (e : mbxAck die m value s = (r0, w)) (hk : Keeps ⟨b0, b1, b2, b3, b4, b5⟩ u s) :
    Keeps ⟨b0, b1, b2, b3, b4, b5⟩ u w := by
  have := keeps_mbxAck die m value s  hk; rwa [e] at this

theorem keeps_sendDoorbell {b0 b1 b2 b3 b4 b5 : Bool} {u : State} (address : ℕ) (key : ℕ) (ptr : ℕ) (tag : ℕ)
 (tenant : ℕ) (s : State) (hk : Keeps ⟨b0, b1, b2, b3, b4, b5⟩ u s) :
    Keeps ⟨b0, b1, b2, b3, b4, b5⟩ u (sendDoorbell address key ptr tag tenant s).2 := by
  unfold sendDoorbell
  try dsimp only
  repeat' (first
    | with_reducible assumption | with_reducible apply keeps_doorbellAt | with_reducible apply keeps_send
    | with_reducible refine keeps_doorbellAt_eq (by assumption) ?_ | (intro _) | split | dsimp only [id_eq])

theorem keeps_sendDoorbell_eq {b0 b1 b2 b3 b4 b5 : Bool} {u w : State} {r0 : Status} {address : ℕ} {key : ℕ} {ptr : ℕ}
    {tag : ℕ} {tenant : ℕ} {s : State} (e : sendDoorbell address key ptr tag tenant s = (r0, w))
 (hk : Keeps ⟨b0, b1, b2, b3, b4, b5⟩ u s) :
    Keeps ⟨b0, b1, b2, b3, b4, b5⟩ u w := by
  have := keeps_sendDoorbell address key ptr tag tenant s  hk; rwa [e] at this

theorem keeps_handleFound {b0 b2 b3 b4 b5 : Bool} {u : State} (line : ℕ) (s : State)
 (hk : Keeps ⟨b0, false, b2, b3, b4, b5⟩ u s) :
    Keeps ⟨b0, false, b2, b3, b4, b5⟩ u (handleFound line s) := by
  unfold handleFound
  try dsimp only
  repeat' (first
    | with_reducible assumption | with_reducible apply keeps_bump | with_reducible apply keeps_foundBad
    | with_reducible apply keeps_readSources | fail_if_no_progress with_reducible apply keeps_mk | (intro _) | split
    | dsimp only [id_eq])

theorem keeps_decodeLines {b0 b2 b3 b4 b5 : Bool} {u : State} (found : Tab ℕ) (off : ℕ) (n : ℕ) (s : State)
 (hk : Keeps ⟨b0, false, b2, b3, b4, b5⟩ u s) :
    Keeps ⟨b0, false, b2, b3, b4, b5⟩ u (decodeLines found off n s) := by
  unfold decodeLines
  try dsimp only
  repeat' (first
    | with_reducible assumption | with_reducible apply keeps_bump | with_reducible apply keeps_handleFound
    | with_reducible apply keeps_foldl | with_reducible apply keeps_foldl_snd | (intro _) | split | dsimp only [id_eq])

theorem keeps_finishRead {b0 b1 b2 b3 b4 b5 : Bool} {u : State} (rq : Req) (fresh : Tab ℕ) (bad : Bool) (s : State)
 (hk : Keeps ⟨b0, b1, b2, b3, b4, b5⟩ u s) :
    Keeps ⟨b0, b1, b2, b3, b4, b5⟩ u (finishRead rq fresh bad s) := by
  unfold finishRead
  try dsimp only
  repeat' (first
    | with_reducible assumption | with_reducible apply keeps_bump | with_reducible apply keeps_complete
    | with_reducible apply keeps_completeWith | with_reducible apply keeps_touch | (intro _) | split | dsimp only [id_eq])

theorem keeps_startRead {b0 b2 b3 b4 b5 : Bool} {u : State} (rq : Req) (s : State)
 (hk : Keeps ⟨b0, false, b2, b3, b4, b5⟩ u s) :
    Keeps ⟨b0, false, b2, b3, b4, b5⟩ u (startRead rq s) := by
  unfold startRead
  try dsimp only
  repeat' (first
    | with_reducible assumption | with_reducible apply keeps_bump | with_reducible apply keeps_complete
    | with_reducible apply keeps_completeWith | with_reducible apply keeps_decodeLines
    | with_reducible apply keeps_farDefer | with_reducible apply keeps_finishRead | with_reducible apply keeps_queueAll
    | with_reducible apply keeps_withSnoops | with_reducible refine keeps_queueAll_eq (by assumption) ?_
    | fail_if_no_progress with_reducible apply keeps_mk | (intro _) | split | dsimp only [id_eq])

theorem keeps_noFrame {b0 b1 b2 b3 b4 b5 : Bool} {u : State} (rq : Req) (s : State)
 (hk : Keeps ⟨b0, b1, b2, b3, b4, b5⟩ u s) :
    Keeps ⟨b0, b1, b2, b3, b4, b5⟩ u (noFrame rq s) := by
  unfold noFrame
  try dsimp only
  repeat' (first
    | with_reducible assumption | with_reducible apply keeps_complete | with_reducible apply keeps_raiseEvent | (intro _)
    | split | dsimp only [id_eq])

theorem keeps_storeLines {b0 b2 b3 b4 b5 : Bool} {u : State} (rq : Req) (off : ℕ) (n : ℕ) (v : ℕ) (s : State)
 (hk : Keeps ⟨b0, false, b2, b3, b4, b5⟩ u s) :
    Keeps ⟨b0, false, b2, b3, b4, b5⟩ u (storeLines rq off n v s) := by
  unfold storeLines
  try dsimp only
  repeat' (first
    | with_reducible assumption | with_reducible apply keeps_cleanLines | with_reducible apply keeps_sendCopies
    | with_reducible apply keeps_setStale | with_reducible apply keeps_storeBytes | with_reducible apply keeps_takeFrames
    | with_reducible apply keeps_touch | (intro _) | split | dsimp only [id_eq])

theorem keeps_completeCopied {b0 b1 b2 b3 b4 b5 : Bool} {u : State} (rq : Req) (st : Status) (result : ℕ)
 (objects : NSet) (s : State) (hk : Keeps ⟨b0, b1, b2, b3, b4, b5⟩ u s) :
    Keeps ⟨b0, b1, b2, b3, b4, b5⟩ u (completeCopied rq st result objects s) := by
  unfold completeCopied
  try dsimp only
  repeat' (first
    | with_reducible assumption | with_reducible apply keeps_complete | with_reducible apply keeps_hold
    | fail_if_no_progress with_reducible apply keeps_mk | (intro _) | split | dsimp only [id_eq])

theorem keeps_finishWrite {b0 b2 b3 b4 b5 : Bool} {u : State} (rq : Req) (s : State)
 (hk : Keeps ⟨b0, false, b2, b3, b4, b5⟩ u s) :
    Keeps ⟨b0, false, b2, b3, b4, b5⟩ u (finishWrite rq s) := by
  unfold finishWrite
  try dsimp only
  repeat' (first
    | with_reducible assumption | with_reducible apply keeps_completeCopied | with_reducible apply keeps_storeLines
    | (intro _) | split | dsimp only [id_eq])

theorem keeps_startWrite {b0 b2 b3 b4 b5 : Bool} {u : State} (rq : Req) (s : State)
 (hk : Keeps ⟨b0, false, b2, b3, b4, b5⟩ u s) :
    Keeps ⟨b0, false, b2, b3, b4, b5⟩ u (startWrite rq s) := by
  unfold startWrite
  try dsimp only
  repeat' (first
    | with_reducible assumption | with_reducible apply keeps_complete | with_reducible apply keeps_farDefer
    | with_reducible apply keeps_finishWrite | with_reducible apply keeps_noFrame | with_reducible apply keeps_withSnoops
    | fail_if_no_progress with_reducible apply keeps_mk | (intro _) | split | dsimp only [id_eq])

theorem keeps_finishAtomic {b0 b2 b3 b4 b5 : Bool} {u : State} (rq : Req) (s : State)
 (hk : Keeps ⟨b0, false, b2, b3, b4, b5⟩ u s) :
    Keeps ⟨b0, false, b2, b3, b4, b5⟩ u (finishAtomic rq s) := by
  unfold finishAtomic
  try dsimp only
  repeat' (first
    | with_reducible assumption | with_reducible apply keeps_complete | with_reducible apply keeps_completeCopied
    | with_reducible apply keeps_sendCopies | with_reducible apply keeps_setStale | with_reducible apply keeps_storeBytes
    | with_reducible apply keeps_takeFrames | with_reducible apply keeps_touch
    | fail_if_no_progress with_reducible apply keeps_mk | (intro _) | split | dsimp only [id_eq])

theorem keeps_startAtomic {b0 b2 b3 b4 b5 : Bool} {u : State} (rq : Req) (s : State)
 (hk : Keeps ⟨b0, false, b2, b3, b4, b5⟩ u s) :
    Keeps ⟨b0, false, b2, b3, b4, b5⟩ u (startAtomic rq s) := by
  unfold startAtomic
  try dsimp only
  repeat' (first
    | with_reducible assumption | with_reducible apply keeps_complete | with_reducible apply keeps_farDefer
    | with_reducible apply keeps_finishAtomic | with_reducible apply keeps_noFrame | with_reducible apply keeps_withSnoops
    | fail_if_no_progress with_reducible apply keeps_mk | (intro _) | split | dsimp only [id_eq])

theorem keeps_finishPublish {b0 b2 b3 b4 b5 : Bool} {u : State} (rq : Req) (s : State)
 (hk : Keeps ⟨b0, false, b2, b3, b4, b5⟩ u s) :
    Keeps ⟨b0, false, b2, b3, b4, b5⟩ u (finishPublish rq s) := by
  unfold finishPublish
  try dsimp only
  repeat' (first
    | with_reducible assumption | with_reducible apply keeps_complete | with_reducible apply keeps_completeCopied
    | with_reducible apply keeps_sendCopies | with_reducible apply keeps_setStale | with_reducible apply keeps_storeBytes
    | with_reducible apply keeps_storeLines | with_reducible apply keeps_takeFrames | with_reducible apply keeps_touch
    | with_reducible apply keeps_foldl | with_reducible apply keeps_foldl_snd | (intro _) | split | dsimp only [id_eq])

theorem keeps_runPublish {b0 b2 b3 b4 b5 : Bool} {u : State} (rq : Req) (s : State)
 (hk : Keeps ⟨b0, false, b2, b3, b4, b5⟩ u s) :
    Keeps ⟨b0, false, b2, b3, b4, b5⟩ u (runPublish rq s) := by
  unfold runPublish
  try dsimp only
  repeat' (first
    | with_reducible assumption | with_reducible apply keeps_farDeferAll | with_reducible apply keeps_finishPublish
    | with_reducible apply keeps_noFrame | with_reducible apply keeps_withSnoops
    | fail_if_no_progress with_reducible apply keeps_mk | (intro _) | split | dsimp only [id_eq])

theorem keeps_startPublish {b0 b2 b3 b4 b5 : Bool} {u : State} (rq : Req) (s : State)
 (hk : Keeps ⟨b0, false, b2, b3, b4, b5⟩ u s) :
    Keeps ⟨b0, false, b2, b3, b4, b5⟩ u (startPublish rq s) := by
  unfold startPublish
  try dsimp only
  repeat' (first
    | with_reducible assumption | with_reducible apply keeps_complete | with_reducible apply keeps_deferReq
    | with_reducible apply keeps_hold | with_reducible apply keeps_runPublish
    | fail_if_no_progress with_reducible apply keeps_mk | (intro _) | split | dsimp only [id_eq])

theorem keeps_nextStall {b0 b1 b2 b3 b4 b5 : Bool} {u : State} (s : State) (hk : Keeps ⟨b0, b1, b2, b3, b4, b5⟩ u s) :
    Keeps ⟨b0, b1, b2, b3, b4, b5⟩ u (nextStall s).2 := by
  unfold nextStall
  try dsimp only
  repeat' (first
    | with_reducible assumption | fail_if_no_progress with_reducible apply keeps_mk | (intro _) | split
    | dsimp only [id_eq])

theorem keeps_nextStall_eq {b0 b1 b2 b3 b4 b5 : Bool} {u w : State} {r0 : ℕ} {s : State} (e : nextStall s = (r0, w))
 (hk : Keeps ⟨b0, b1, b2, b3, b4, b5⟩ u s) :
    Keeps ⟨b0, b1, b2, b3, b4, b5⟩ u w := by
  have := keeps_nextStall  s  hk; rwa [e] at this

theorem keeps_stallWrite {b0 b1 b2 b3 b4 b5 : Bool} {u : State} (unit : ℕ) (rq : Req) (off : ℕ) (n : ℕ) (v : ℕ)
 (bad : Bool) (ext : Option ℕ) (dom : Option ℕ) (s : State) (hk : Keeps ⟨b0, b1, b2, b3, b4, b5⟩ u s) :
    Keeps ⟨b0, b1, b2, b3, b4, b5⟩ u (stallWrite unit rq off n v bad ext dom s) := by
  unfold stallWrite
  try dsimp only
  repeat' (first
    | with_reducible assumption | with_reducible apply keeps_nextStall
    | with_reducible refine keeps_nextStall_eq (by assumption) ?_ | fail_if_no_progress with_reducible apply keeps_mk
    | (intro _) | split | dsimp only [id_eq])

theorem keeps_engineStore {b0 b2 b3 b4 b5 : Bool} {u : State} (unit : ℕ) (rq : Req) (off : ℕ) (n : ℕ) (v : ℕ)
 (bad : Bool) (s : State) (hk : Keeps ⟨b0, false, b2, b3, b4, b5⟩ u s) :
    Keeps ⟨b0, false, b2, b3, b4, b5⟩ u (engineStore unit rq off n v bad s).2 := by
  unfold engineStore
  try dsimp only
  repeat' (first
    | with_reducible assumption | with_reducible apply keeps_cleanLines | with_reducible apply keeps_engineFar
    | with_reducible apply keeps_invalidateHolders | with_reducible apply keeps_raiseEvent
    | with_reducible apply keeps_rebuildLines | with_reducible apply keeps_sendCopies
    | with_reducible apply keeps_setStale | with_reducible apply keeps_stallWrite | with_reducible apply keeps_storeBytes
    | with_reducible apply keeps_takeFrames | with_reducible apply keeps_touch | with_reducible apply keeps_wake
    | with_reducible apply keeps_writePoison | fail_if_no_progress with_reducible apply keeps_mk
    | with_reducible apply keeps_foldl | with_reducible apply keeps_foldl_snd | (intro _) | split | dsimp only [id_eq])

theorem keeps_engineStore_eq {b0 b2 b3 b4 b5 : Bool} {u w : State} {r0 : Status} {unit : ℕ} {rq : Req} {off : ℕ} {n : ℕ}
    {v : ℕ} {bad : Bool} {s : State} (e : engineStore unit rq off n v bad s = (r0, w))
 (hk : Keeps ⟨b0, false, b2, b3, b4, b5⟩ u s) :
    Keeps ⟨b0, false, b2, b3, b4, b5⟩ u w := by
  have := keeps_engineStore unit rq off n v bad s  hk; rwa [e] at this

theorem keeps_engineWrite {b0 b2 b3 b4 b5 : Bool} {u : State} (rq : Req) (off : ℕ) (n : ℕ) (v : ℕ) (s : State)
 (hk : Keeps ⟨b0, false, b2, b3, b4, b5⟩ u s) :
    Keeps ⟨b0, false, b2, b3, b4, b5⟩ u (engineWrite rq off n v s).2 := by
  unfold engineWrite
  try dsimp only
  repeat' (first
    | with_reducible assumption | with_reducible apply keeps_engineStore
    | with_reducible refine keeps_engineStore_eq (by assumption) ?_ | (intro _) | split | dsimp only [id_eq])

theorem keeps_engineWrite_eq {b0 b2 b3 b4 b5 : Bool} {u w : State} {r0 : Status} {rq : Req} {off : ℕ} {n : ℕ} {v : ℕ}
    {s : State} (e : engineWrite rq off n v s = (r0, w)) (hk : Keeps ⟨b0, false, b2, b3, b4, b5⟩ u s) :
    Keeps ⟨b0, false, b2, b3, b4, b5⟩ u w := by
  have := keeps_engineWrite rq off n v s  hk; rwa [e] at this

theorem keeps_fabricStore {b0 b2 b3 b4 b5 : Bool} {u : State} (unit : ℕ) (rq : Req) (address : ℕ) (n : ℕ) (v : ℕ)
 (key : ℕ) (s : State) (hk : Keeps ⟨b0, false, b2, b3, b4, b5⟩ u s) :
    Keeps ⟨b0, false, b2, b3, b4, b5⟩ u (fabricStore unit rq address n v key s).2 := by
  unfold fabricStore
  try dsimp only
  repeat' (first
    | with_reducible assumption | with_reducible apply keeps_engineStore | with_reducible apply keeps_meterOut
    | with_reducible apply keeps_send | with_reducible refine keeps_engineStore_eq (by assumption) ?_ | (intro _) | split
    | dsimp only [id_eq])

theorem keeps_fabricStore_eq {b0 b2 b3 b4 b5 : Bool} {u w : State} {r0 : Status} {unit : ℕ} {rq : Req} {address : ℕ}
    {n : ℕ} {v : ℕ} {key : ℕ} {s : State} (e : fabricStore unit rq address n v key s = (r0, w))
 (hk : Keeps ⟨b0, false, b2, b3, b4, b5⟩ u s) :
    Keeps ⟨b0, false, b2, b3, b4, b5⟩ u w := by
  have := keeps_fabricStore unit rq address n v key s  hk; rwa [e] at this

theorem keeps_fabricWrite {b0 b2 b3 b4 b5 : Bool} {u : State} (rq : Req) (address : ℕ) (n : ℕ) (v : ℕ) (key : ℕ)
 (s : State) (hk : Keeps ⟨b0, false, b2, b3, b4, b5⟩ u s) :
    Keeps ⟨b0, false, b2, b3, b4, b5⟩ u (fabricWrite rq address n v key s).2 := by
  unfold fabricWrite
  try dsimp only
  repeat' (first
    | with_reducible assumption | with_reducible apply keeps_fabricStore
    | with_reducible refine keeps_fabricStore_eq (by assumption) ?_ | (intro _) | split | dsimp only [id_eq])

theorem keeps_fabricWrite_eq {b0 b2 b3 b4 b5 : Bool} {u w : State} {r0 : Status} {rq : Req} {address : ℕ} {n : ℕ}
    {v : ℕ} {key : ℕ} {s : State} (e : fabricWrite rq address n v key s = (r0, w))
 (hk : Keeps ⟨b0, false, b2, b3, b4, b5⟩ u s) :
    Keeps ⟨b0, false, b2, b3, b4, b5⟩ u w := by
  have := keeps_fabricWrite rq address n v key s  hk; rwa [e] at this

theorem keeps_finishRdmaRead {b0 b1 b2 b3 b4 b5 : Bool} {u : State} (rq : Req) (fresh : Tab ℕ) (bad : Bool) (s : State)
 (hk : Keeps ⟨b0, b1, b2, b3, b4, b5⟩ u s) :
    Keeps ⟨b0, b1, b2, b3, b4, b5⟩ u (finishRdmaRead rq fresh bad s) := by
  unfold finishRdmaRead
  try dsimp only
  repeat' (first
    | with_reducible assumption | with_reducible apply keeps_complete | with_reducible apply keeps_completeWith
    | with_reducible apply keeps_touch | (intro _) | split | dsimp only [id_eq])

theorem keeps_finishRdmaWrite {b0 b2 b3 b4 b5 : Bool} {u : State} (rq : Req) (s : State)
 (hk : Keeps ⟨b0, false, b2, b3, b4, b5⟩ u s) :
    Keeps ⟨b0, false, b2, b3, b4, b5⟩ u (finishRdmaWrite rq s) := by
  unfold finishRdmaWrite
  try dsimp only
  repeat' (first
    | with_reducible assumption | with_reducible apply keeps_complete | with_reducible apply keeps_completeCopied
    | with_reducible apply keeps_engineWrite | with_reducible refine keeps_engineWrite_eq (by assumption) ?_ | (intro _)
    | split | dsimp only [id_eq])

theorem keeps_startOp {b0 b2 b3 b4 b5 : Bool} {u : State} (rq : Req) (s : State)
 (hk : Keeps ⟨b0, false, b2, b3, b4, b5⟩ u s) :
    Keeps ⟨b0, false, b2, b3, b4, b5⟩ u (startOp rq s) := by
  unfold startOp
  try dsimp only
  repeat' (first
    | with_reducible assumption | with_reducible apply keeps_complete | with_reducible apply keeps_startPublish
    | with_reducible apply keeps_startRead | with_reducible apply keeps_startWrite
    | fail_if_no_progress with_reducible apply keeps_mk | (intro _) | split | dsimp only [id_eq])

theorem keeps_orderedStart {b0 b2 b3 b4 b5 : Bool} {u : State} (rq : Req) (s : State)
 (hk : Keeps ⟨b0, false, b2, b3, b4, b5⟩ u s) :
    Keeps ⟨b0, false, b2, b3, b4, b5⟩ u (orderedStart rq s) := by
  unfold orderedStart
  try dsimp only
  repeat' (first
    | with_reducible assumption | with_reducible apply keeps_hold | with_reducible apply keeps_startOp
    | fail_if_no_progress with_reducible apply keeps_mk | (intro _) | split | dsimp only [id_eq])

theorem keeps_finishOp {b0 b2 b3 b4 b5 : Bool} {u : State} (o : OpenReq) (s : State)
 (hk : Keeps ⟨b0, false, b2, b3, b4, b5⟩ u s) :
    Keeps ⟨b0, false, b2, b3, b4, b5⟩ u (finishOp o s) := by
  unfold finishOp
  try dsimp only
  repeat' (first
    | with_reducible assumption | with_reducible apply keeps_complete | with_reducible apply keeps_finishAtomic
    | with_reducible apply keeps_finishPublish | with_reducible apply keeps_finishRdmaRead
    | with_reducible apply keeps_finishRdmaWrite | with_reducible apply keeps_finishRead
    | with_reducible apply keeps_finishWrite | fail_if_no_progress with_reducible apply keeps_mk | (intro _) | split
    | dsimp only [id_eq])

theorem keeps_copiesDone {b0 b1 b2 b3 b4 b5 : Bool} {u : State} (k : ℕ) (s : State)
 (hk : Keeps ⟨b0, b1, b2, b3, b4, b5⟩ u s) :
    Keeps ⟨b0, b1, b2, b3, b4, b5⟩ u (copiesDone k s) := by
  unfold copiesDone
  try dsimp only
  repeat' (first
    | with_reducible assumption | with_reducible apply keeps_closeReq | with_reducible apply keeps_complete
    | fail_if_no_progress with_reducible apply keeps_mk | with_reducible apply keeps_foldl
    | with_reducible apply keeps_foldl_snd | (intro _) | split | dsimp only [id_eq])

theorem keeps_degrade {b0 b1 b2 b3 b4 b5 : Bool} {u : State} (k : ℕ) (s : State)
 (hk : Keeps ⟨b0, b1, b2, b3, b4, b5⟩ u s) :
    Keeps ⟨b0, b1, b2, b3, b4, b5⟩ u (degrade k s) := by
  unfold degrade
  try dsimp only
  repeat' (first
    | with_reducible assumption | with_reducible apply keeps_copiesDone
    | fail_if_no_progress with_reducible apply keeps_mk | (intro _) | split | dsimp only [id_eq])

theorem keeps_settleOnce {b0 b2 b3 b4 b5 : Bool} {u : State} (s : State) (hk : Keeps ⟨b0, false, b2, b3, b4, b5⟩ u s) :
    Keeps ⟨b0, false, b2, b3, b4, b5⟩ u (settleOnce s) := by
  unfold settleOnce
  try dsimp only
  repeat' (first
    | with_reducible assumption | with_reducible apply keeps_closeReq | with_reducible apply keeps_runPublish
    | with_reducible apply keeps_startOp | fail_if_no_progress with_reducible apply keeps_mk
    | with_reducible apply keeps_foldl | with_reducible apply keeps_foldl_snd | (intro _) | split | dsimp only [id_eq])

theorem keeps_settle {b0 b2 b3 b4 b5 : Bool} {u : State} (s : State) (hk : Keeps ⟨b0, false, b2, b3, b4, b5⟩ u s) :
    Keeps ⟨b0, false, b2, b3, b4, b5⟩ u (settle s) := by
  unfold settle
  try dsimp only
  repeat' (first
    | with_reducible assumption | with_reducible apply keeps_settleOnce | with_reducible apply keeps_foldl
    | with_reducible apply keeps_foldl_snd | (intro _) | split | dsimp only [id_eq])

theorem keeps_keepId {b0 b1 b2 b3 b4 b5 : Bool} {u : State} (id : ℕ) (fresh : ℕ) (s : State)
 (hk : Keeps ⟨b0, b1, b2, b3, b4, b5⟩ u s) :
    Keeps ⟨b0, b1, b2, b3, b4, b5⟩ u (keepId id fresh s) := by
  unfold keepId
  try dsimp only
  repeat' (first
    | with_reducible assumption | fail_if_no_progress with_reducible apply keeps_mk | (intro _) | split
    | dsimp only [id_eq])

theorem keeps_finishOpen {b0 b2 b3 b4 b5 : Bool} {u : State} (id : ℕ) (s : State)
 (hk : Keeps ⟨b0, false, b2, b3, b4, b5⟩ u s) :
    Keeps ⟨b0, false, b2, b3, b4, b5⟩ u (finishOpen id s) := by
  unfold finishOpen
  try dsimp only
  repeat' (first
    | with_reducible assumption | with_reducible apply keeps_closeReq | with_reducible apply keeps_finishOp
    | with_reducible apply keeps_keepId | with_reducible apply keeps_settle
    | fail_if_no_progress with_reducible apply keeps_mk | (intro _) | split | dsimp only [id_eq])

theorem keeps_snoopGone {b0 b2 b3 b4 b5 : Bool} {u : State} (id : ℕ) (key : ℕ) (fresh : Option (ℕ × ℕ)) (bad : Bool)
 (s : State) (hk : Keeps ⟨b0, false, b2, b3, b4, b5⟩ u s) :
    Keeps ⟨b0, false, b2, b3, b4, b5⟩ u (snoopGone id key fresh bad s) := by
  unfold snoopGone
  try dsimp only
  repeat' (first
    | with_reducible assumption | with_reducible apply keeps_finishOpen
    | fail_if_no_progress with_reducible apply keeps_mk | (intro _) | split | dsimp only [id_eq])

theorem keeps_setSync {b0 b1 b3 b4 b5 : Bool} {u : State} (n : ℕ) (o : SyncObj) (s : State)
 (hk : Keeps ⟨b0, b1, false, b3, b4, b5⟩ u s) :
    Keeps ⟨b0, b1, false, b3, b4, b5⟩ u (setSync n o s) := by
  unfold setSync
  try dsimp only
  repeat' (first
    | with_reducible assumption | fail_if_no_progress with_reducible apply keeps_mk
    | fail_if_no_progress with_reducible apply keeps_mk_sync | (intro _) | split | dsimp only [id_eq])

theorem keeps_resumeTile {b0 b1 b2 b3 b4 b5 : Bool} {u : State} (t : ℕ) (s : State)
 (hk : Keeps ⟨b0, b1, b2, b3, b4, b5⟩ u s) :
    Keeps ⟨b0, b1, b2, b3, b4, b5⟩ u (resumeTile t s) := by
  unfold resumeTile
  try dsimp only
  repeat' (first
    | with_reducible assumption | fail_if_no_progress with_reducible apply keeps_mk | (intro _) | split
    | dsimp only [id_eq])

theorem keeps_notifyFailed {b0 b1 b2 b3 b4 b5 : Bool} {u : State} (s : State) (hk : Keeps ⟨b0, b1, b2, b3, b4, b5⟩ u s) :
    Keeps ⟨b0, b1, b2, b3, b4, b5⟩ u (notifyFailed s) := by
  unfold notifyFailed
  try dsimp only
  repeat' (first
    | with_reducible assumption | with_reducible apply keeps_bump | with_reducible apply keeps_raiseEvent | (intro _)
    | split | dsimp only [id_eq])

theorem keeps_notify {b0 b2 b3 b4 b5 : Bool} {u : State} (n : ℕ) (value : ℕ) (w1 : Waiter) (s : State)
 (hk : Keeps ⟨b0, false, b2, b3, b4, b5⟩ u s) :
    Keeps ⟨b0, false, b2, b3, b4, b5⟩ u (notify n value w1 s) := by
  unfold notify
  try dsimp only
  repeat' (first
    | with_reducible assumption | with_reducible apply keeps_fabricWrite | with_reducible apply keeps_notifyFailed
    | with_reducible apply keeps_resumeTile | with_reducible apply keeps_sendDoorbell
    | with_reducible refine keeps_fabricWrite_eq (by assumption) ?_
    | with_reducible refine keeps_sendDoorbell_eq (by assumption) ?_ | fail_if_no_progress with_reducible apply keeps_mk
    | (intro _) | split | dsimp only [id_eq])

theorem keeps_wakeWaiters {b0 b3 b4 b5 : Bool} {u : State} (n : ℕ) (s : State)
 (hk : Keeps ⟨b0, false, false, b3, b4, b5⟩ u s) :
    Keeps ⟨b0, false, false, b3, b4, b5⟩ u (wakeWaiters n s) := by
  unfold wakeWaiters
  try dsimp only
  repeat' (first
    | with_reducible assumption | with_reducible apply keeps_notify | with_reducible apply keeps_setSync
    | fail_if_no_progress with_reducible apply keeps_mk | with_reducible apply keeps_foldl
    | with_reducible apply keeps_foldl_snd | (intro _) | split | dsimp only [id_eq])

theorem keeps_applySignal {b0 b3 b4 b5 : Bool} {u : State} (n : ℕ) (value : ℕ) (owner : Option ℕ) (operand : ℕ)
 (g : Signaller) (s : State) (hk : Keeps ⟨b0, false, false, b3, b4, b5⟩ u s) :
    Keeps ⟨b0, false, false, b3, b4, b5⟩ u (applySignal n value owner operand g s) := by
  unfold applySignal
  try dsimp only
  repeat' (first
    | with_reducible assumption | with_reducible apply keeps_bump | with_reducible apply keeps_setSync
    | with_reducible apply keeps_wakeWaiters | fail_if_no_progress with_reducible apply keeps_mk | (intro _) | split
    | dsimp only [id_eq])

theorem keeps_commandSignal {b0 b3 b4 b5 : Bool} {u : State} (n : ℕ) (operand : ℕ) (requester : ℕ) (tenant : ℕ)
 (acc : ℕ) (s : State) (hk : Keeps ⟨b0, false, false, b3, b4, b5⟩ u s) :
    Keeps ⟨b0, false, false, b3, b4, b5⟩ u (commandSignal n operand requester tenant acc s) := by
  unfold commandSignal
  try dsimp only
  repeat' (first
    | with_reducible assumption | with_reducible apply keeps_applySignal | with_reducible apply keeps_bump
    | with_reducible apply keeps_raiseEvent | with_reducible apply keeps_wake | (intro _) | split | dsimp only [id_eq])

theorem keeps_oweSignal {b0 b1 b2 b3 b4 b5 : Bool} {u : State} (acc : ℕ) (n : ℕ) (operand : ℕ) (rq : Req) (s : State)
 (hk : Keeps ⟨b0, b1, b2, b3, b4, b5⟩ u s) :
    Keeps ⟨b0, b1, b2, b3, b4, b5⟩ u (oweSignal acc n operand rq s) := by
  unfold oweSignal
  try dsimp only
  repeat' (first
    | with_reducible assumption | fail_if_no_progress with_reducible apply keeps_mk | (intro _) | split
    | dsimp only [id_eq])

theorem keeps_oweRemote {b0 b1 b2 b3 b4 b5 : Bool} {u : State} (acc : ℕ) (package : ℕ) (n : ℕ) (operand : ℕ) (rq : Req)
 (s : State) (hk : Keeps ⟨b0, b1, b2, b3, b4, b5⟩ u s) :
    Keeps ⟨b0, b1, b2, b3, b4, b5⟩ u (oweRemote acc package n operand rq s) := by
  unfold oweRemote
  try dsimp only
  repeat' (first
    | with_reducible assumption | fail_if_no_progress with_reducible apply keeps_mk | (intro _) | split
    | dsimp only [id_eq])

theorem keeps_settleOwed {b0 b3 b4 b5 : Bool} {u : State} (acc : ℕ) (o : OwedSignal) (s : State)
 (hk : Keeps ⟨b0, false, false, b3, b4, b5⟩ u s) :
    Keeps ⟨b0, false, false, b3, b4, b5⟩ u (settleOwed acc o s) := by
  unfold settleOwed
  try dsimp only
  repeat' (first
    | with_reducible assumption | with_reducible apply keeps_commandSignal | with_reducible apply keeps_send
    | fail_if_no_progress with_reducible apply keeps_mk | (intro _) | split | dsimp only [id_eq])

theorem keeps_setTile {b0 b1 b2 b3 b4 b5 : Bool} {u : State} (t : ℕ) (x : Tile) (s : State)
 (hk : Keeps ⟨b0, b1, b2, b3, b4, b5⟩ u s) :
    Keeps ⟨b0, b1, b2, b3, b4, b5⟩ u (setTile t x s) := by
  unfold setTile
  try dsimp only
  repeat' (first
    | with_reducible assumption | fail_if_no_progress with_reducible apply keeps_mk | (intro _) | split
    | dsimp only [id_eq])

theorem keeps_drawR {b0 b1 b2 b3 b4 b5 : Bool} {u : State} (t : ℕ) (l : ℕ) (s : State)
 (hk : Keeps ⟨b0, b1, b2, b3, b4, b5⟩ u s) :
    Keeps ⟨b0, b1, b2, b3, b4, b5⟩ u (drawR t l s).2 := by
  unfold drawR
  try dsimp only
  repeat' (first
    | with_reducible assumption | with_reducible apply keeps_drawFree | with_reducible apply keeps_setTile
    | with_reducible refine keeps_drawFree_eq (by assumption) ?_ | fail_if_no_progress with_reducible apply keeps_mk
    | (intro _) | split | dsimp only [id_eq])

theorem keeps_drawR_eq {b0 b1 b2 b3 b4 b5 : Bool} {u w : State} {r0 : ℕ} {t : ℕ} {l : ℕ} {s : State} (e : drawR t l s =
 (r0, w)) (hk : Keeps ⟨b0, b1, b2, b3, b4, b5⟩ u s) :
    Keeps ⟨b0, b1, b2, b3, b4, b5⟩ u w := by
  have := keeps_drawR t l s  hk; rwa [e] at this

theorem keeps_roundOf {b0 b1 b2 b3 b4 b5 : Bool} {u : State} (t : ℕ) (l : ℕ) (control : ℕ) (s : State)
 (hk : Keeps ⟨b0, b1, b2, b3, b4, b5⟩ u s) :
    Keeps ⟨b0, b1, b2, b3, b4, b5⟩ u (roundOf t l control s).2 := by
  unfold roundOf
  try dsimp only
  repeat' (first
    | with_reducible assumption | with_reducible apply keeps_drawR
    | with_reducible refine keeps_drawR_eq (by assumption) ?_ | (intro _) | split | dsimp only [id_eq])

theorem keeps_roundOf_eq {b0 b1 b2 b3 b4 b5 : Bool} {u w : State} {r0 : (ℕ → ℕ → ℕ)} {t : ℕ} {l : ℕ} {control : ℕ}
    {s : State} (e : roundOf t l control s = (r0, w)) (hk : Keeps ⟨b0, b1, b2, b3, b4, b5⟩ u s) :
    Keeps ⟨b0, b1, b2, b3, b4, b5⟩ u w := by
  have := keeps_roundOf t l control s  hk; rwa [e] at this

theorem keeps_convOne {b0 b1 b2 b3 b4 b5 : Bool} {u : State} (t : ℕ) (l : ℕ) (target : ℕ) (control : ℕ) (v : Fv)
 (s : State) (hk : Keeps ⟨b0, b1, b2, b3, b4, b5⟩ u s) :
    Keeps ⟨b0, b1, b2, b3, b4, b5⟩ u (convOne t l target control v s).2 := by
  unfold convOne
  try dsimp only
  repeat' (first
    | with_reducible assumption | with_reducible apply keeps_roundOf
    | with_reducible refine keeps_roundOf_eq (by assumption) ?_ | fail_if_no_progress with_reducible apply keeps_mk
    | (intro _) | split | dsimp only [id_eq])

theorem keeps_convOne_eq {b0 b1 b2 b3 b4 b5 : Bool} {u w : State} {r0 : Conv} {t : ℕ} {l : ℕ} {target : ℕ} {control : ℕ}
    {v : Fv} {s : State} (e : convOne t l target control v s = (r0, w)) (hk : Keeps ⟨b0, b1, b2, b3, b4, b5⟩ u s) :
    Keeps ⟨b0, b1, b2, b3, b4, b5⟩ u w := by
  have := keeps_convOne t l target control v s  hk; rwa [e] at this

theorem keeps_convList {b0 b1 b2 b3 b4 b5 : Bool} {u : State} (t : ℕ) (target : ℕ) (control : ℕ) (vs : List Fv)
 (s : State) (hk : Keeps ⟨b0, b1, b2, b3, b4, b5⟩ u s) :
    Keeps ⟨b0, b1, b2, b3, b4, b5⟩ u (convList t target control vs s).2 := by
  unfold convList
  try dsimp only
  repeat' (first
    | with_reducible assumption | with_reducible apply keeps_convOne
    | with_reducible refine keeps_convOne_eq (by assumption) ?_ | with_reducible apply keeps_foldl
    | with_reducible apply keeps_foldl_snd | (intro _) | split | dsimp only [id_eq])

theorem keeps_convList_eq {b0 b1 b2 b3 b4 b5 : Bool} {u w : State} {r0 : List Conv} {t : ℕ} {target : ℕ} {control : ℕ}
    {vs : List Fv} {s : State} (e : convList t target control vs s = (r0, w))
 (hk : Keeps ⟨b0, b1, b2, b3, b4, b5⟩ u s) :
    Keeps ⟨b0, b1, b2, b3, b4, b5⟩ u w := by
  have := keeps_convList t target control vs s  hk; rwa [e] at this

theorem keeps_convBlock {b0 b1 b2 b3 b4 b5 : Bool} {u : State} (t : ℕ) (target : ℕ) (control : ℕ) (vs : List ℕ)
 (s : State) (hk : Keeps ⟨b0, b1, b2, b3, b4, b5⟩ u s) :
    Keeps ⟨b0, b1, b2, b3, b4, b5⟩ u (convBlock t target control vs s).2 := by
  unfold convBlock
  try dsimp only
  repeat' (first
    | with_reducible assumption | with_reducible apply keeps_convList
    | with_reducible refine keeps_convList_eq (by assumption) ?_ | (intro _) | split | dsimp only [id_eq])

theorem keeps_convBlock_eq {b0 b1 b2 b3 b4 b5 : Bool} {u w : State} {r0 : (List Conv × ℕ)} {t : ℕ} {target : ℕ}
    {control : ℕ} {vs : List ℕ} {s : State} (e : convBlock t target control vs s = (r0, w))
 (hk : Keeps ⟨b0, b1, b2, b3, b4, b5⟩ u s) :
    Keeps ⟨b0, b1, b2, b3, b4, b5⟩ u w := by
  have := keeps_convBlock t target control vs s  hk; rwa [e] at this

theorem keeps_fillCaches {b0 b1 b2 b3 b4 : Bool} {u : State} (a : EngineAccess) (c : ℕ) (used : List XltEntry)
 (s : State) (hk : Keeps ⟨b0, b1, b2, b3, b4, false⟩ u s) :
    Keeps ⟨b0, b1, b2, b3, b4, false⟩ u (fillCaches a c used s) := by
  unfold fillCaches
  try dsimp only
  repeat' (first
    | with_reducible assumption | fail_if_no_progress with_reducible apply keeps_mk
    | fail_if_no_progress with_reducible apply keeps_mk_maps | (intro _) | split | dsimp only [id_eq])

theorem keeps_writeFault {b0 b2 b3 b4 b5 : Bool} {u : State} (q : ℕ) (seq : ℕ) (f : FaultRec) (s : State)
 (hk : Keeps ⟨b0, false, b2, b3, b4, b5⟩ u s) :
    Keeps ⟨b0, false, b2, b3, b4, b5⟩ u (writeFault q seq f s) := by
  unfold writeFault
  try dsimp only
  repeat' (first
    | with_reducible assumption | with_reducible apply keeps_engineWrite
    | with_reducible refine keeps_engineWrite_eq (by assumption) ?_ | fail_if_no_progress with_reducible apply keeps_mk
    | (intro _) | split | dsimp only [id_eq])

theorem keeps_tryFault {b0 b2 b3 b4 b5 : Bool} {u : State} (q : ℕ) (seq : ℕ) (f : FaultRec) (s : State)
 (hk : Keeps ⟨b0, false, b2, b3, b4, b5⟩ u s) :
    Keeps ⟨b0, false, b2, b3, b4, b5⟩ u (tryFault q seq f s) := by
  unfold tryFault
  try dsimp only
  repeat' (first
    | with_reducible assumption | with_reducible apply keeps_bump | with_reducible apply keeps_writeFault
    | fail_if_no_progress with_reducible apply keeps_mk | (intro _) | split | dsimp only [id_eq])

theorem keeps_countFaults {b0 b1 b2 b3 b4 b5 : Bool} {u : State} (q : ℕ) (s : State)
 (hk : Keeps ⟨b0, b1, b2, b3, b4, b5⟩ u s) :
    Keeps ⟨b0, b1, b2, b3, b4, b5⟩ u (countFaults q s) := by
  unfold countFaults
  try dsimp only
  repeat' (first
    | with_reducible assumption | with_reducible apply keeps_setObj | (intro _) | split | dsimp only [id_eq])

theorem keeps_raiseFault {b0 b2 b3 b4 : Bool} {u : State} (i : Issued) (code : ℕ) (level : ℕ) (s : State)
 (hk : Keeps ⟨b0, false, b2, b3, b4, false⟩ u s) :
    Keeps ⟨b0, false, b2, b3, b4, false⟩ u (raiseFault i code level s) := by
  unfold raiseFault
  try dsimp only
  repeat' (first
    | with_reducible assumption | with_reducible apply keeps_bump | with_reducible apply keeps_countFaults
    | with_reducible apply keeps_raiseEvent | with_reducible apply keeps_setObj | with_reducible apply keeps_tryFault
    | with_reducible apply keeps_writeFault | fail_if_no_progress with_reducible apply keeps_mk
    | fail_if_no_progress with_reducible apply keeps_mk_maps | (intro _) | split | dsimp only [id_eq])

theorem keeps_fillLoad {b0 b1 b2 b3 b4 b5 : Bool} {u : State} (a : EngineAccess) (v : ℕ) (bad : Bool) (s : State)
 (hk : Keeps ⟨b0, b1, b2, b3, b4, b5⟩ u s) :
    Keeps ⟨b0, b1, b2, b3, b4, b5⟩ u (fillLoad a v bad s) := by
  unfold fillLoad
  try dsimp only
  repeat' (first
    | with_reducible assumption | with_reducible apply keeps_setTile | fail_if_no_progress with_reducible apply keeps_mk
    | (intro _) | split | dsimp only [id_eq])

theorem keeps_markCall {b0 b1 b2 b4 b5 : Bool} {u : State} (t : ℕ) (subst : Bool) (bad : Bool) (s : State)
 (hk : Keeps ⟨b0, b1, b2, false, b4, b5⟩ u s) :
    Keeps ⟨b0, b1, b2, false, b4, b5⟩ u (markCall t subst bad s) := by
  unfold markCall
  try dsimp only
  repeat' (first
    | with_reducible assumption | fail_if_no_progress with_reducible apply keeps_mk
    | fail_if_no_progress with_reducible apply keeps_mk_config | (intro _) | split | dsimp only [id_eq])

theorem keeps_accessDone {b0 b1 b2 b3 b4 b5 : Bool} {u : State} (i : Issued) (v : ℕ) (bad : Bool) (s : State)
 (hk : Keeps ⟨b0, b1, b2, b3, b4, b5⟩ u s) :
    Keeps ⟨b0, b1, b2, b3, b4, b5⟩ u (accessDone i v bad s) := by
  unfold accessDone
  try dsimp only
  repeat' (first
    | with_reducible assumption | with_reducible apply keeps_fillLoad | (intro _) | split | dsimp only [id_eq])

theorem keeps_snoopFor {b0 b1 b2 b3 b4 b5 : Bool} {u : State} (i : Issued) (address : ℕ) (lines : List ℕ) (write : Bool)
 (need : List (ℕ × ℕ)) (s : State) (hk : Keeps ⟨b0, b1, b2, b3, b4, b5⟩ u s) :
    Keeps ⟨b0, b1, b2, b3, b4, b5⟩ u (snoopFor i address lines write need s) := by
  unfold snoopFor
  try dsimp only
  repeat' (first
    | with_reducible assumption | with_reducible apply keeps_dropDir | with_reducible apply keeps_hold
    | with_reducible apply keeps_nextStall | with_reducible apply keeps_nextTxn | with_reducible apply keeps_sendSnoops
    | with_reducible refine keeps_nextStall_eq (by assumption) ?_
    | with_reducible refine keeps_nextTxn_eq (by assumption) ?_ | fail_if_no_progress with_reducible apply keeps_mk
    | with_reducible apply keeps_foldl | with_reducible apply keeps_foldl_snd | (intro _) | split | dsimp only [id_eq])

theorem keeps_performHere {b0 b2 b3 b4 b5 : Bool} {u : State} (i : Issued) (off : ℕ) (fresh : Tab ℕ) (s : State)
 (hk : Keeps ⟨b0, false, b2, b3, b4, b5⟩ u s) :
    Keeps ⟨b0, false, b2, b3, b4, b5⟩ u (performHere i off fresh s) := by
  unfold performHere
  try dsimp only
  repeat' (first
    | with_reducible assumption | with_reducible apply keeps_accessDone | with_reducible apply keeps_engineStore
    | with_reducible apply keeps_engineWrite | with_reducible apply keeps_touch
    | with_reducible refine keeps_engineStore_eq (by assumption) ?_
    | with_reducible refine keeps_engineWrite_eq (by assumption) ?_ | fail_if_no_progress with_reducible apply keeps_mk
    | (intro _) | split | dsimp only [id_eq])

theorem keeps_accessHere {b0 b2 b4 b5 : Bool} {u : State} (i : Issued) (address : ℕ) (s : State)
 (hk : Keeps ⟨b0, false, b2, false, b4, b5⟩ u s) :
    Keeps ⟨b0, false, b2, false, b4, b5⟩ u (accessHere i address s) := by
  unfold accessHere
  try dsimp only
  repeat' (first
    | with_reducible assumption | with_reducible apply keeps_accessDone | with_reducible apply keeps_engineFar
    | with_reducible apply keeps_markCall | with_reducible apply keeps_nextStall | with_reducible apply keeps_performHere
    | with_reducible apply keeps_poisonDead | with_reducible apply keeps_snoopFor | with_reducible apply keeps_wake
    | with_reducible refine keeps_nextStall_eq (by assumption) ?_ | fail_if_no_progress with_reducible apply keeps_mk
    | (intro _) | split | dsimp only [id_eq])

theorem keeps_fillCopy {b0 b1 b2 b3 b4 b5 : Bool} {u : State} (a : EngineAccess) (address : ℕ) (v : ℕ) (s : State)
 (hk : Keeps ⟨b0, b1, b2, b3, b4, b5⟩ u s) :
    Keeps ⟨b0, b1, b2, b3, b4, b5⟩ u (fillCopy a address v s) := by
  unfold fillCopy
  try dsimp only
  repeat' (first
    | with_reducible assumption | with_reducible apply keeps_drawFree
    | with_reducible refine keeps_drawFree_eq (by assumption) ?_ | fail_if_no_progress with_reducible apply keeps_mk
    | (intro _) | split | dsimp only [id_eq])

theorem keeps_accessAt {b0 b2 b4 b5 : Bool} {u : State} (i : Issued) (address : ℕ) (key : ℕ) (r : Option Remote)
 (s : State) (hk : Keeps ⟨b0, false, b2, false, b4, b5⟩ u s) :
    Keeps ⟨b0, false, b2, false, b4, b5⟩ u (accessAt i address key r s) := by
  unfold accessAt
  try dsimp only
  repeat' (first
    | with_reducible assumption | with_reducible apply keeps_accessDone | with_reducible apply keeps_accessHere
    | with_reducible apply keeps_drawFree | with_reducible apply keeps_fillCopy | with_reducible apply keeps_markCall
    | with_reducible apply keeps_send | with_reducible refine keeps_drawFree_eq (by assumption) ?_
    | fail_if_no_progress with_reducible apply keeps_mk | (intro _) | split | dsimp only [id_eq])

theorem keeps_startWalk {b0 b1 b2 b3 b4 b5 : Bool} {u : State} (i : Issued) (s : State)
 (hk : Keeps ⟨b0, b1, b2, b3, b4, b5⟩ u s) :
    Keeps ⟨b0, b1, b2, b3, b4, b5⟩ u (startWalk i s) := by
  unfold startWalk
  try dsimp only
  repeat' (first
    | with_reducible assumption | with_reducible apply keeps_bump | with_reducible apply keeps_nextStall
    | with_reducible refine keeps_nextStall_eq (by assumption) ?_ | fail_if_no_progress with_reducible apply keeps_mk
    | (intro _) | split | dsimp only [id_eq])

theorem keeps_issue {b0 b2 b4 b5 : Bool} {u : State} (i : Issued) (r : Option Remote) (s : State)
 (hk : Keeps ⟨b0, false, b2, false, b4, b5⟩ u s) :
    Keeps ⟨b0, false, b2, false, b4, b5⟩ u (issue i r s) := by
  unfold issue
  try dsimp only
  repeat' (first
    | with_reducible assumption | with_reducible apply keeps_accessAt | with_reducible apply keeps_drawFree
    | with_reducible apply keeps_startWalk | with_reducible refine keeps_drawFree_eq (by assumption) ?_
    | fail_if_no_progress with_reducible apply keeps_mk | (intro _) | split | dsimp only [id_eq])

theorem keeps_walkWaits {b0 b1 b2 b3 b4 b5 : Bool} {u : State} (id line : Nat) (s : State)
 (hk : Keeps ⟨b0, b1, b2, b3, b4, b5⟩ u s) : Keeps ⟨b0, b1, b2, b3, b4, b5⟩ u (walkWaits id line s) := by
  unfold walkWaits
  dsimp only
  split
  · cases e : peekWait id [line] s with
    | none => exact hk
    | some t => exact keeps_peekWait _ _ _ hk _ e
  · exact keeps_wake _ _ hk

theorem keeps_endWalk {b0 b2 b4 : Bool} {u : State} (a : EngineAccess) (s : State)
 (hk : Keeps ⟨b0, false, b2, false, b4, false⟩ u s) :
    Keeps ⟨b0, false, b2, false, b4, false⟩ u (endWalk a s) := by
  unfold endWalk
  try dsimp only
  repeat' (first
    | with_reducible assumption | with_reducible apply keeps_accessAt | with_reducible apply keeps_drawFree
    | with_reducible apply keeps_fillCaches | with_reducible apply keeps_raiseFault | with_reducible apply keeps_startWalk
    | with_reducible apply keeps_unpeek | with_reducible apply keeps_walkWaits
    | with_reducible refine keeps_drawFree_eq (by assumption) ?_ | fail_if_no_progress with_reducible apply keeps_mk
    | (intro _) | split | dsimp only [id_eq])

theorem keeps_resumeStall {b0 b2 b4 b5 : Bool} {u : State} (k : ℕ) (s : State)
 (hk : Keeps ⟨b0, false, b2, false, b4, b5⟩ u s) :
    Keeps ⟨b0, false, b2, false, b4, b5⟩ u (resumeStall k s) := by
  unfold resumeStall
  try dsimp only
  repeat' (first
    | with_reducible assumption | with_reducible apply keeps_accessDone | with_reducible apply keeps_accessHere
    | with_reducible apply keeps_engineFar | with_reducible apply keeps_performHere
    | fail_if_no_progress with_reducible apply keeps_mk | (intro _) | split | dsimp only [id_eq])

theorem keeps_abortAccess {b0 b1 b2 b4 b5 : Bool} {u : State} (i : Issued) (s : State)
 (hk : Keeps ⟨b0, b1, b2, false, b4, b5⟩ u s) :
    Keeps ⟨b0, b1, b2, false, b4, b5⟩ u (abortAccess i s) := by
  unfold abortAccess
  try dsimp only
  repeat' (first
    | with_reducible assumption | with_reducible apply keeps_accessDone | with_reducible apply keeps_markCall
    | fail_if_no_progress with_reducible apply keeps_mk | (intro _) | split | dsimp only [id_eq])

theorem keeps_releaseHeld {b0 b2 b3 b4 b5 : Bool} {u : State} (q : ℕ) (s : State)
 (hk : Keeps ⟨b0, false, b2, b3, b4, b5⟩ u s) :
    Keeps ⟨b0, false, b2, b3, b4, b5⟩ u (releaseHeld q s) := by
  unfold releaseHeld
  try dsimp only
  repeat' (first
    | with_reducible assumption | with_reducible apply keeps_countFaults | with_reducible apply keeps_tryFault
    | with_reducible apply keeps_foldl | with_reducible apply keeps_foldl_snd | (intro _) | split | dsimp only [id_eq])

theorem keeps_xltService {b0 b2 b4 b5 : Bool} {u : State} (die : ℕ) (value : ℕ) (tenant : Option ℕ) (s : State)
 (hk : Keeps ⟨b0, false, b2, false, b4, b5⟩ u s) :
    Keeps ⟨b0, false, b2, false, b4, b5⟩ u (xltService die value tenant s).2 := by
  unfold xltService
  try dsimp only
  repeat' (first
    | with_reducible assumption | with_reducible apply keeps_abortAccess | with_reducible apply keeps_bump
    | with_reducible apply keeps_releaseHeld | with_reducible apply keeps_startWalk
    | fail_if_no_progress with_reducible apply keeps_mk | with_reducible apply keeps_foldl
    | with_reducible apply keeps_foldl_snd | (intro _) | split | dsimp only [id_eq])

theorem keeps_xltService_eq {b0 b2 b4 b5 : Bool} {u w : State} {r0 : Status} {die : ℕ} {value : ℕ} {tenant : Option ℕ}
    {s : State} (e : xltService die value tenant s = (r0, w)) (hk : Keeps ⟨b0, false, b2, false, b4, b5⟩ u s) :
    Keeps ⟨b0, false, b2, false, b4, b5⟩ u w := by
  have := keeps_xltService die value tenant s  hk; rwa [e] at this

theorem raiseEvent_log (index sub cause : Nat) (s : State) : (raiseEvent index sub cause s).log = s.log := by
  have one : ∀ (p : Port) (k r : Nat) (l : Tab Session) (s : State), (l.foldl (notifySession p k r) s).log = s.log := by
    intro p k r l
    induction l with
    | nil => exact fun _ => rfl
    | cons e l ih =>
      intro s
      refine (ih _).trans ?_
      unfold notifySession ethOut
      repeat' (first | rfl | split)
  unfold raiseEvent
  dsimp only
  rw [one, one]
  rfl

theorem logUnit_log (x : Nat) (s : State) : (logUnit x s).log = x :: s.log := by
  unfold logUnit
  dsimp only
  split
  · exact raiseEvent_log _ _ _ _
  · rfl

theorem keeps_logUnit {b1 b2 b3 b4 b5 : Bool} {u : State} (x : Nat) (s : State)
 (hk : Keeps ⟨false, b1, b2, b3, b4, b5⟩ u s) (hc : s.log.length < logCapacity) :
    Keeps ⟨false, b1, b2, b3, b4, b5⟩ u (logUnit x s) := by
  have base : Keeps ⟨false, b1, b2, b3, b4, b5⟩ u (setObj 0xB040 1 (logNext s + 1) { s with log := x :: s.log }) :=
    { hk with log := hk.log.trans (List.suffix_cons _ _), cap := fun _ => hc, custody := nofun }
  unfold logUnit
  dsimp only
  split
  · exact keeps_raiseEvent _ _ _ _ base
  · exact base

theorem keeps_checkpoint {b1 b2 b3 b4 b5 : Bool} {u : State} (s : State)
 (hk : Keeps ⟨false, b1, b2, b3, b4, b5⟩ u s) : Keeps ⟨false, b1, b2, b3, b4, b5⟩ u (checkpoint s) := by
  have units : ∀ (f : Nat → Nat) (l : List Nat) (s : State), Keeps ⟨false, b1, b2, b3, b4, b5⟩ u s → s.log.length + l.length ≤ logCapacity →
      Keeps ⟨false, b1, b2, b3, b4, b5⟩ u (l.foldl (fun s i => logUnit (f i) s) s) := by
    intro f l
    induction l with
    | nil => exact fun _ h _ => h
    | cons i l ih =>
      intro s h hc
      rw [List.length_cons] at hc
      refine ih _ (keeps_logUnit _ _ h (by omega)) ?_
      rw [logUnit_log, List.length_cons]
      omega
  unfold checkpoint
  split
  · rename_i hc
    unfold logNext at hc
    dsimp only
    refine units _ _ _ (keeps_logUnit _ _ ?_ ?_) ?_
    · exact keeps_mk_custody hk
    · exact (show s.log.length < logCapacity by omega)
    · rw [logUnit_log, List.length_cons, List.length_range]
      exact (show s.log.length + 1 + 26 ≤ logCapacity by omega)
  · exact keeps_bump _ _ _ _ hk

theorem keeps_appendLog {b1 b2 b3 b4 b5 : Bool} {u : State} (ty actor tenant payload : Nat) (s : State)
 (hk : Keeps ⟨false, b1, b2, b3, b4, b5⟩ u s) :
    Keeps ⟨false, b1, b2, b3, b4, b5⟩ u (appendLog ty actor tenant payload s) := by
  unfold appendLog
  split
  · rename_i hr
    have hc : s.log.length < logCapacity := by
      unfold logRoom logNext at hr
      split at hr <;> simp only [decide_eq_true_eq] at hr <;> omega
    dsimp only
    split
    · exact keeps_checkpoint _ (keeps_logUnit _ _ (keeps_mk_custody hk) hc)
    · exact keeps_logUnit _ _ (keeps_mk_custody hk) hc
  · exact keeps_bump _ _ _ _ hk

theorem keeps_logRepair {b1 b2 b3 b4 b5 : Bool} {u : State} (kind : ℕ) (die : ℕ) (unit : ℕ) (result : ℕ) (s : State)
 (hk : Keeps ⟨false, b1, b2, b3, b4, b5⟩ u s) :
    Keeps ⟨false, b1, b2, b3, b4, b5⟩ u (logRepair kind die unit result s) := by
  unfold logRepair
  try dsimp only
  repeat' (first
    | with_reducible assumption | with_reducible apply keeps_appendLog | (intro _) | split | dsimp only [id_eq])

theorem keeps_writeRecord {b0 b2 b3 b4 b5 : Bool} {u : State} (acc : ℕ) (rq : Req) (off : ℕ) (n : ℕ) (v : ℕ) (s : State)
 (hk : Keeps ⟨b0, false, b2, b3, b4, b5⟩ u s) :
    Keeps ⟨b0, false, b2, b3, b4, b5⟩ u (writeRecord acc rq off n v s) := by
  unfold writeRecord
  try dsimp only
  repeat' (first
    | with_reducible assumption | with_reducible apply keeps_engineStore
    | with_reducible refine keeps_engineStore_eq (by assumption) ?_ | (intro _) | split | dsimp only [id_eq])

theorem keeps_endPosted {b0 b2 b3 b4 b5 : Bool} {u : State} (rq : Req) (acc : ℕ) (rec : Bool) (recOff : ℕ) (n : ℕ)
 (v : ℕ) (sig : Bool) (object : ℕ) (value : ℕ) (s : State) (hk : Keeps ⟨b0, false, b2, b3, b4, b5⟩ u s) :
    Keeps ⟨b0, false, b2, b3, b4, b5⟩ u (endPosted rq acc rec recOff n v sig object value s) := by
  unfold endPosted
  try dsimp only
  repeat' (first
    | with_reducible assumption | with_reducible apply keeps_oweSignal | with_reducible apply keeps_writeRecord
    | (intro _) | split | dsimp only [id_eq])

/-- The state that a fetch leaves. -/
def Fetched.state : Fetched → State
  | .wait s => s
  | .got _ _ s => s

/-- The state that a piece leaves. -/
def Piece.state : Piece → State
  | .wait s => s
  | .copied s => s
  | .failed _ s => s

theorem Fetched.state_wait (s : State) : (Fetched.wait s).state = s := rfl
theorem Fetched.state_got (st : Status) (v : Nat) (s : State) : (Fetched.got st v s).state = s := rfl
theorem Piece.state_wait (s : State) : (Piece.wait s).state = s := rfl
theorem Piece.state_copied (s : State) : (Piece.copied s).state = s := rfl
theorem Piece.state_failed (st : Status) (s : State) : (Piece.failed st s).state = s := rfl

theorem keeps_fetchHere {b0 b2 b3 b4 b5 : Bool} {u : State} (id off n : Nat) (s : State)
 (hk : Keeps ⟨b0, false, b2, b3, b4, b5⟩ u s) :
    Keeps ⟨b0, false, b2, b3, b4, b5⟩ u (fetchHere id off n s).state := by
  unfold fetchHere
  try dsimp only
  repeat' (first
    | dsimp only [Fetched.state_wait, Fetched.state_got, Piece.state_wait, Piece.state_copied, Piece.state_failed]
    | with_reducible assumption | with_reducible apply keeps_engineFar | with_reducible apply keeps_poisonDead
    | with_reducible apply keeps_touch | with_reducible apply keeps_unpeek | with_reducible apply keeps_view
    | with_reducible apply keeps_wake | with_reducible refine keeps_peekWait _ _ _ ?_ _ (by assumption)
    | fail_if_no_progress with_reducible apply keeps_mk | with_reducible apply keeps_foldl
    | with_reducible apply keeps_foldl_snd | (intro _) | split | dsimp only [id_eq])

theorem keeps_fetchHere_wait {b0 b2 b3 b4 b5 : Bool} {u w : State} {id off n : Nat} {s : State}
    (e : fetchHere id off n s = .wait w) (hk : Keeps ⟨b0, false, b2, b3, b4, b5⟩ u s) : Keeps ⟨b0, false, b2, b3, b4, b5⟩ u w := by
  have := keeps_fetchHere id off n s hk; rwa [e] at this

theorem keeps_fetchHere_got {b0 b2 b3 b4 b5 : Bool} {u w : State} {id off n : Nat} {s : State} {st : Status} {y : Nat}
    (e : fetchHere id off n s = .got st y w) (hk : Keeps ⟨b0, false, b2, b3, b4, b5⟩ u s) : Keeps ⟨b0, false, b2, b3, b4, b5⟩ u w := by
  have := keeps_fetchHere id off n s hk; rwa [e] at this

theorem keeps_fetch {b0 b2 b3 b4 b5 : Bool} {u : State} (id : Nat) (rq : Req) (address n key : Nat) (r : Remote)
 (s : State) (hk : Keeps ⟨b0, false, b2, b3, b4, b5⟩ u s) :
    Keeps ⟨b0, false, b2, b3, b4, b5⟩ u (fetch id rq address n key r s).state := by
  unfold fetch
  try dsimp only
  repeat' (first
    | dsimp only [Fetched.state_wait, Fetched.state_got, Piece.state_wait, Piece.state_copied, Piece.state_failed]
    | with_reducible assumption | with_reducible apply keeps_send | with_reducible apply keeps_fetchHere
    | with_reducible refine keeps_fetchHere_wait (by assumption) ?_
    | with_reducible refine keeps_fetchHere_got (by assumption) ?_ | (intro _) | split | dsimp only [id_eq])

theorem keeps_fetch_wait {b0 b2 b3 b4 b5 : Bool} {u w : State} {id : Nat} {rq : Req} {address n key : Nat} {r : Remote}
    {s : State}
    (e : fetch id rq address n key r s = .wait w) (hk : Keeps ⟨b0, false, b2, b3, b4, b5⟩ u s) : Keeps ⟨b0, false, b2, b3, b4, b5⟩ u w := by
  have := keeps_fetch id rq address n key r s hk; rwa [e] at this

theorem keeps_fetch_got {b0 b2 b3 b4 b5 : Bool} {u w : State} {id : Nat} {rq : Req} {address n key : Nat} {r : Remote}
    {s : State} {st : Status} {y : Nat}
    (e : fetch id rq address n key r s = .got st y w) (hk : Keeps ⟨b0, false, b2, b3, b4, b5⟩ u s) : Keeps ⟨b0, false, b2, b3, b4, b5⟩ u w := by
  have := keeps_fetch id rq address n key r s hk; rwa [e] at this

theorem keeps_fabricPut {b0 b2 b3 b4 b5 : Bool} {u : State} (unit : ℕ) (rq : Req) (address : ℕ) (n : ℕ) (v : ℕ)
 (key : ℕ) (bad : Bool) (s : State) (hk : Keeps ⟨b0, false, b2, b3, b4, b5⟩ u s) :
    Keeps ⟨b0, false, b2, b3, b4, b5⟩ u (fabricPut unit rq address n v key bad s).2 := by
  unfold fabricPut
  try dsimp only
  repeat' (first
    | with_reducible assumption | with_reducible apply keeps_engineStore | with_reducible apply keeps_fabricStore
    | with_reducible apply keeps_send | with_reducible refine keeps_engineStore_eq (by assumption) ?_
    | with_reducible refine keeps_fabricStore_eq (by assumption) ?_ | (intro _) | split | dsimp only [id_eq])

theorem keeps_fabricPut_eq {b0 b2 b3 b4 b5 : Bool} {u w : State} {r0 : Status} {unit : ℕ} {rq : Req} {address : ℕ}
    {n : ℕ} {v : ℕ} {key : ℕ} {bad : Bool} {s : State} (e : fabricPut unit rq address n v key bad s = (r0, w))
 (hk : Keeps ⟨b0, false, b2, b3, b4, b5⟩ u s) :
    Keeps ⟨b0, false, b2, b3, b4, b5⟩ u w := by
  have := keeps_fabricPut unit rq address n v key bad s  hk; rwa [e] at this

end Sys2Proof.Machine
end

