-- ==== Sys2Proof/Laws/KeepsRequests.lean ====
section
/-! SUPPORT. What the operations keep (Laws/Keeps.lean): those of the dictionary's core, configurations, registers, memory requests, attention, coherence, placement and streams. -/

set_option maxRecDepth 4000
set_option linter.unusedTactic false
set_option linter.unreachableTactic false

namespace Sys2Proof.Machine

theorem keeps_dapEcho {b0 b1 b2 b3 b4 b5 : Bool} {u : State} (r : DapReply) (s : State)
 (hk : Keeps ⟨b0, b1, b2, b3, b4, b5⟩ u s) :
    Keeps ⟨b0, b1, b2, b3, b4, b5⟩ u (dapEcho r s) := by
  unfold dapEcho
  try dsimp only
  repeat' (first
    | with_reducible assumption | with_reducible apply keeps_emit | fail_if_no_progress with_reducible apply keeps_mk
    | (intro _) | split | dsimp only [id_eq])

theorem keeps_restartReply {b0 b1 b2 b3 b4 b5 : Bool} {u : State} (m : DapMsg) (s : State)
 (hk : Keeps ⟨b0, b1, b2, b3, b4, b5⟩ u s) :
    Keeps ⟨b0, b1, b2, b3, b4, b5⟩ u (restartReply m s) := by
  unfold restartReply
  try dsimp only
  repeat' (first
    | with_reducible assumption | with_reducible apply keeps_dapEcho | (intro _) | split | dsimp only [id_eq])

theorem keeps_dapRefuseSeq {b0 b1 b2 b3 b4 b5 : Bool} {u : State} (m : DapMsg) (last : ℕ) (s : State)
 (hk : Keeps ⟨b0, b1, b2, b3, b4, b5⟩ u s) :
    Keeps ⟨b0, b1, b2, b3, b4, b5⟩ u (dapRefuseSeq m last s) := by
  unfold dapRefuseSeq
  try dsimp only
  repeat' (first
    | with_reducible assumption | with_reducible apply keeps_bump | with_reducible apply keeps_dapEcho | (intro _) | split
    | dsimp only [id_eq])

theorem keeps_fin {b0 b1 b2 b3 b4 b5 : Bool} {u : State} (c : Ctx) (st : Status) (hint : ℕ) (s : State)
 (hk : Keeps ⟨b0, b1, b2, b3, b4, b5⟩ u s) :
    Keeps ⟨b0, b1, b2, b3, b4, b5⟩ u (fin c st hint s) := by
  unfold fin
  try dsimp only
  repeat' (first
    | with_reducible assumption | with_reducible apply keeps_dapFinish | (intro _) | split | dsimp only [id_eq])

theorem keeps_finOk {b0 b1 b2 b3 b4 b5 : Bool} {u : State} (c : Ctx) (s : State)
 (hk : Keeps ⟨b0, b1, b2, b3, b4, b5⟩ u s) :
    Keeps ⟨b0, b1, b2, b3, b4, b5⟩ u (finOk c s) := by
  unfold finOk
  try dsimp only
  repeat' (first
    | with_reducible assumption | with_reducible apply keeps_fin | (intro _) | split | dsimp only [id_eq])

theorem keeps_finBad {b0 b1 b2 b3 b4 b5 : Bool} {u : State} (c : Ctx) (s : State)
 (hk : Keeps ⟨b0, b1, b2, b3, b4, b5⟩ u s) :
    Keeps ⟨b0, b1, b2, b3, b4, b5⟩ u (finBad c s) := by
  unfold finBad
  try dsimp only
  repeat' (first
    | with_reducible assumption | with_reducible apply keeps_fin | (intro _) | split | dsimp only [id_eq])

theorem keeps_guardedEntry {b1 b2 b3 b4 b5 : Bool} {u : State} (c : Ctx) (s : State)
 (hk : Keeps ⟨false, b1, b2, b3, b4, b5⟩ u s) :
    Keeps ⟨false, b1, b2, b3, b4, b5⟩ u (guardedEntry c s) := by
  unfold guardedEntry
  try dsimp only
  repeat' (first
    | with_reducible assumption | with_reducible apply keeps_appendLog | (intro _) | split | dsimp only [id_eq])

theorem keeps_applied {b1 b2 b3 b4 b5 : Bool} {u : State} (c : Ctx) (f : State → State) (s : State) (hf : ∀
 (w : State), Keeps ⟨false, b1, b2, b3, b4, b5⟩ u w → Keeps ⟨false, b1, b2, b3, b4, b5⟩ u (f w))
 (hk : Keeps ⟨false, b1, b2, b3, b4, b5⟩ u s) :
    Keeps ⟨false, b1, b2, b3, b4, b5⟩ u (applied c f s) := by
  unfold applied
  try dsimp only
  repeat' (first
    | with_reducible assumption | with_reducible apply keeps_fin | with_reducible apply keeps_finOk
    | with_reducible apply keeps_guardedEntry | with_reducible apply hf | (intro _) | split | dsimp only [id_eq])

theorem keeps_appliedWith {b0 b1 b2 b3 b4 b5 : Bool} {u : State} (c : Ctx) (ty : ℕ) (f : State → State) (s : State)
 (hf : ∀ (w : State), Keeps ⟨b0, b1, b2, b3, b4, b5⟩ u w → Keeps ⟨b0, b1, b2, b3, b4, b5⟩ u (f w))
 (hk : Keeps ⟨b0, b1, b2, b3, b4, b5⟩ u s) :
    Keeps ⟨b0, b1, b2, b3, b4, b5⟩ u (appliedWith c ty f s) := by
  unfold appliedWith
  try dsimp only
  repeat' (first
    | with_reducible assumption | with_reducible apply keeps_fin | with_reducible apply keeps_finOk
    | with_reducible apply hf | (intro _) | split | dsimp only [id_eq])

theorem keeps_setStage {b0 b1 b2 b3 b4 b5 : Bool} {u : State} (p : Port) (id : ℕ) (x : Option (ℕ × ℕ × ℕ × ℕ))
 (s : State) (hk : Keeps ⟨b0, b1, b2, b3, b4, b5⟩ u s) :
    Keeps ⟨b0, b1, b2, b3, b4, b5⟩ u (setStage p id x s) := by
  unfold setStage
  try dsimp only
  repeat' (first
    | with_reducible assumption | with_reducible apply keeps_setSession
    | fail_if_no_progress with_reducible apply keeps_mk | (intro _) | split | dsimp only [id_eq])

theorem keeps_guardFailed {b0 b1 b2 b3 b4 b5 : Bool} {u : State} (c : Ctx) (s : State)
 (hk : Keeps ⟨b0, b1, b2, b3, b4, b5⟩ u s) :
    Keeps ⟨b0, b1, b2, b3, b4, b5⟩ u (guardFailed c s) := by
  unfold guardFailed
  try dsimp only
  repeat' (first
    | with_reducible assumption | with_reducible apply keeps_bump | with_reducible apply keeps_fin
    | with_reducible apply keeps_raiseEvent | with_reducible apply keeps_setStage | (intro _) | split
    | dsimp only [id_eq])

theorem keeps_writeValue {b0 b1 b2 b3 b4 b5 : Bool} {u : State} (op : ℕ) (m : DapMsg) (c : Ctx) (r : ObjRow)
 (act : Ctx → State → State) (s : State) (hact : ∀ a0
 (w : State), Keeps ⟨b0, b1, b2, b3, b4, b5⟩ u w → Keeps ⟨b0, b1, b2, b3, b4, b5⟩ u (act a0 w))
 (hk : Keeps ⟨b0, b1, b2, b3, b4, b5⟩ u s) :
    Keeps ⟨b0, b1, b2, b3, b4, b5⟩ u (writeValue op m c r act s) := by
  unfold writeValue
  try dsimp only
  repeat' (first
    | with_reducible assumption | with_reducible apply keeps_fin | with_reducible apply keeps_finBad
    | with_reducible apply keeps_finOk | with_reducible apply keeps_guardFailed | with_reducible apply hact
    | fail_if_no_progress with_reducible apply keeps_mk | (intro _) | split | dsimp only [id_eq])

theorem keeps_writeSegment {b0 b1 b2 b3 b4 b5 : Bool} {u : State} (op : ℕ) (m : DapMsg) (c : Ctx) (r : ObjRow)
 (act : Ctx → State → State) (s : State) (hact : ∀ a0
 (w : State), Keeps ⟨b0, b1, b2, b3, b4, b5⟩ u w → Keeps ⟨b0, b1, b2, b3, b4, b5⟩ u (act a0 w))
 (hk : Keeps ⟨b0, b1, b2, b3, b4, b5⟩ u s) :
    Keeps ⟨b0, b1, b2, b3, b4, b5⟩ u (writeSegment op m c r act s) := by
  unfold writeSegment
  try dsimp only
  repeat' (first
    | with_reducible assumption | with_reducible apply keeps_fin | with_reducible apply keeps_finBad
    | with_reducible apply keeps_finOk | with_reducible apply keeps_guardFailed | with_reducible apply keeps_setStage
    | with_reducible apply hact | fail_if_no_progress with_reducible apply keeps_mk | (intro _) | split
    | dsimp only [id_eq])

theorem keeps_readValue {b0 b1 b2 b3 b4 b5 : Bool} {u : State} (m : DapMsg) (c : Ctx) (r : ObjRow)
 (act : Ctx → State → State) (s : State) (hact : ∀ a0
 (w : State), Keeps ⟨b0, b1, b2, b3, b4, b5⟩ u w → Keeps ⟨b0, b1, b2, b3, b4, b5⟩ u (act a0 w))
 (hk : Keeps ⟨b0, b1, b2, b3, b4, b5⟩ u s) :
    Keeps ⟨b0, b1, b2, b3, b4, b5⟩ u (readValue m c r act s) := by
  unfold readValue
  try dsimp only
  repeat' (first
    | with_reducible assumption | with_reducible apply keeps_finBad | with_reducible apply hact
    | fail_if_no_progress with_reducible apply keeps_mk | (intro _) | split | dsimp only [id_eq])

theorem keeps_dapSteps {b0 b1 b2 b3 b4 b5 : Bool} {u : State} (op : ℕ) (m : DapMsg) (k : SessKind)
 (act : Ctx → State → State) (s : State) (hact : ∀ a0
 (w : State), Keeps ⟨b0, b1, b2, b3, b4, b5⟩ u w → Keeps ⟨b0, b1, b2, b3, b4, b5⟩ u (act a0 w))
 (hk : Keeps ⟨b0, b1, b2, b3, b4, b5⟩ u s) :
    Keeps ⟨b0, b1, b2, b3, b4, b5⟩ u (dapSteps op m k act s) := by
  unfold dapSteps
  try dsimp only
  repeat' (first
    | with_reducible assumption | with_reducible apply keeps_bump | with_reducible apply keeps_fin
    | with_reducible apply keeps_finBad | with_reducible apply keeps_readValue | with_reducible apply keeps_wake
    | with_reducible apply keeps_writeSegment | with_reducible apply keeps_writeValue | with_reducible apply hact
    | fail_if_no_progress with_reducible apply keeps_mk | (intro _) | split | dsimp only [id_eq])

theorem keeps_dapServe {b0 b1 b2 b3 b4 b5 : Bool} {u : State} (op : ℕ) (m : DapMsg) (act : Ctx → State → State)
 (s : State) (hact : ∀ a0 (w : State), Keeps ⟨b0, b1, b2, b3, b4, b5⟩ u w → Keeps ⟨b0, b1, b2, b3, b4, b5⟩ u
 (act a0 w)) (hk : Keeps ⟨b0, b1, b2, b3, b4, b5⟩ u s) :
    Keeps ⟨b0, b1, b2, b3, b4, b5⟩ u (dapServe op m act s) := by
  unfold dapServe
  try dsimp only
  repeat' (first
    | with_reducible assumption | with_reducible apply keeps_dapEcho | with_reducible apply keeps_dapRefuseSeq
    | with_reducible apply keeps_dapSteps | with_reducible apply keeps_restartReply
    | with_reducible apply keeps_setSession | with_reducible apply hact
    | fail_if_no_progress with_reducible apply keeps_mk | (intro _) | split | dsimp only [id_eq])

theorem keeps_clearing {b1 b2 b3 b4 b5 : Bool} {u : State} (c : Ctx) (f : State → State) (s : State) (hf : ∀
 (w : State), Keeps ⟨false, b1, b2, b3, b4, b5⟩ u w → Keeps ⟨false, b1, b2, b3, b4, b5⟩ u (f w))
 (hk : Keeps ⟨false, b1, b2, b3, b4, b5⟩ u s) :
    Keeps ⟨false, b1, b2, b3, b4, b5⟩ u (clearing c f s) := by
  unfold clearing
  try dsimp only
  repeat' (first
    | with_reducible assumption | with_reducible apply keeps_applied | with_reducible apply keeps_finBad
    | with_reducible apply hf | (intro _) | split | dsimp only [id_eq])

theorem keeps_doSubscribe {b0 b1 b2 b3 b4 b5 : Bool} {u : State} (c : Ctx) (s : State)
 (hk : Keeps ⟨b0, b1, b2, b3, b4, b5⟩ u s) :
    Keeps ⟨b0, b1, b2, b3, b4, b5⟩ u (doSubscribe c s) := by
  unfold doSubscribe
  try dsimp only
  repeat' (first
    | with_reducible assumption | with_reducible apply keeps_fin | with_reducible apply keeps_finOk
    | with_reducible apply keeps_setSession | fail_if_no_progress with_reducible apply keeps_mk | (intro _) | split
    | dsimp only [id_eq])

theorem keeps_doUnsubscribe {b0 b1 b2 b3 b4 b5 : Bool} {u : State} (c : Ctx) (s : State)
 (hk : Keeps ⟨b0, b1, b2, b3, b4, b5⟩ u s) :
    Keeps ⟨b0, b1, b2, b3, b4, b5⟩ u (doUnsubscribe c s) := by
  unfold doUnsubscribe
  try dsimp only
  repeat' (first
    | with_reducible assumption | with_reducible apply keeps_finOk | with_reducible apply keeps_setSession
    | fail_if_no_progress with_reducible apply keeps_mk | (intro _) | split | dsimp only [id_eq])

theorem keeps_execDapSubscribe {b0 b1 b2 b3 b4 b5 : Bool} {u : State} (d : DapMsg) (s : State)
 (hk : Keeps ⟨b0, b1, b2, b3, b4, b5⟩ u s) :
    ∀ t, execDapSubscribe d s = .next t → Keeps ⟨b0, b1, b2, b3, b4, b5⟩ u t := by
  intro t e
  unfold execDapSubscribe at e
  cases e
  repeat' (first
    | with_reducible assumption | with_reducible apply keeps_dapServe | with_reducible apply keeps_doSubscribe | (intro _)
    | split | dsimp only [id_eq])

theorem keeps_execDapUnsubscribe {b0 b1 b2 b3 b4 b5 : Bool} {u : State} (d : DapMsg) (s : State)
 (hk : Keeps ⟨b0, b1, b2, b3, b4, b5⟩ u s) :
    ∀ t, execDapUnsubscribe d s = .next t → Keeps ⟨b0, b1, b2, b3, b4, b5⟩ u t := by
  intro t e
  unfold execDapUnsubscribe at e
  cases e
  repeat' (first
    | with_reducible assumption | with_reducible apply keeps_dapServe | with_reducible apply keeps_doUnsubscribe
    | (intro _) | split | dsimp only [id_eq])

theorem keeps_closeSession {b0 b1 b2 b3 b4 b5 : Bool} {u : State} (p : Port) (id : ℕ) (s : State)
 (hk : Keeps ⟨b0, b1, b2, b3, b4, b5⟩ u s) :
    Keeps ⟨b0, b1, b2, b3, b4, b5⟩ u (closeSession p id s) := by
  unfold closeSession
  try dsimp only
  repeat' (first
    | with_reducible assumption | fail_if_no_progress with_reducible apply keeps_mk | (intro _) | split
    | dsimp only [id_eq])

theorem keeps_closeTenants {b0 b1 b2 b3 b4 b5 : Bool} {u : State} (requester : ℕ) (s : State)
 (hk : Keeps ⟨b0, b1, b2, b3, b4, b5⟩ u s) :
    Keeps ⟨b0, b1, b2, b3, b4, b5⟩ u (closeTenants requester s) := by
  unfold closeTenants
  try dsimp only
  repeat' (first
    | with_reducible assumption | fail_if_no_progress with_reducible apply keeps_mk | (intro _) | split
    | dsimp only [id_eq])

theorem keeps_closeAllSessions {b0 b1 b2 b3 b4 b5 : Bool} {u : State} (s : State)
 (hk : Keeps ⟨b0, b1, b2, b3, b4, b5⟩ u s) :
    Keeps ⟨b0, b1, b2, b3, b4, b5⟩ u (closeAllSessions s) := by
  unfold closeAllSessions
  try dsimp only
  repeat' (first
    | with_reducible assumption | fail_if_no_progress with_reducible apply keeps_mk | (intro _) | split
    | dsimp only [id_eq])

theorem keeps_openReply {b0 b1 b2 b3 b4 b5 : Bool} {u : State} (m : DapMsg) (id : ℕ) (st : Status) (s : State)
 (hk : Keeps ⟨b0, b1, b2, b3, b4, b5⟩ u s) :
    Keeps ⟨b0, b1, b2, b3, b4, b5⟩ u (openReply m id st s) := by
  unfold openReply
  try dsimp only
  repeat' (first
    | with_reducible assumption | with_reducible apply keeps_dapEcho | (intro _) | split | dsimp only [id_eq])

theorem keeps_openSession {b0 b1 b2 b3 b4 b5 : Bool} {u : State} (m : DapMsg) (k : SessKind) (s : State)
 (hk : Keeps ⟨b0, b1, b2, b3, b4, b5⟩ u s) :
    Keeps ⟨b0, b1, b2, b3, b4, b5⟩ u (openSession m k s) := by
  unfold openSession
  try dsimp only
  repeat' (first
    | with_reducible assumption | with_reducible apply keeps_openReply | with_reducible apply keeps_setSession
    | fail_if_no_progress with_reducible apply keeps_mk | (intro _) | split | dsimp only [id_eq])

theorem keeps_openRefused {b0 b1 b2 b3 b4 b5 : Bool} {u : State} (m : DapMsg) (st : Status) (s : State)
 (hk : Keeps ⟨b0, b1, b2, b3, b4, b5⟩ u s) :
    Keeps ⟨b0, b1, b2, b3, b4, b5⟩ u (openRefused m st s) := by
  unfold openRefused
  try dsimp only
  repeat' (first
    | with_reducible assumption | with_reducible apply keeps_bump | with_reducible apply keeps_openReply | (intro _)
    | split | dsimp only [id_eq])

theorem keeps_doOpenTenant {b0 b1 b2 b3 b4 b5 : Bool} {u : State} (m : DapMsg) (s : State)
 (hk : Keeps ⟨b0, b1, b2, b3, b4, b5⟩ u s) :
    Keeps ⟨b0, b1, b2, b3, b4, b5⟩ u (doOpenTenant m s) := by
  unfold doOpenTenant
  try dsimp only
  repeat' (first
    | with_reducible assumption | with_reducible apply keeps_openRefused | with_reducible apply keeps_openReply
    | with_reducible apply keeps_openSession | with_reducible apply keeps_restartReply
    | fail_if_no_progress with_reducible apply keeps_mk | (intro _) | split | dsimp only [id_eq])

theorem keeps_execDapOpenTenant {b0 b1 b2 b3 b4 b5 : Bool} {u : State} (d : DapMsg) (s : State)
 (hk : Keeps ⟨b0, b1, b2, b3, b4, b5⟩ u s) :
    ∀ t, execDapOpenTenant d s = .next t → Keeps ⟨b0, b1, b2, b3, b4, b5⟩ u t := by
  intro t e
  unfold execDapOpenTenant at e
  cases e
  repeat' (first
    | with_reducible assumption | with_reducible apply keeps_doOpenTenant | (intro _) | split | dsimp only [id_eq])

theorem keeps_doClose {b0 b1 b2 b3 b4 b5 : Bool} {u : State} (m : DapMsg) (s : State)
 (hk : Keeps ⟨b0, b1, b2, b3, b4, b5⟩ u s) :
    Keeps ⟨b0, b1, b2, b3, b4, b5⟩ u (doClose m s) := by
  unfold doClose
  try dsimp only
  repeat' (first
    | with_reducible assumption | with_reducible apply keeps_bump | with_reducible apply keeps_closeSession
    | with_reducible apply keeps_dapEcho | with_reducible apply keeps_dapFinish | with_reducible apply keeps_dapRefuseSeq
    | with_reducible apply keeps_restartReply | with_reducible apply keeps_setSession
    | fail_if_no_progress with_reducible apply keeps_mk | (intro _) | split | dsimp only [id_eq])

theorem keeps_execDapClose {b0 b1 b2 b3 b4 b5 : Bool} {u : State} (d : DapMsg) (s : State)
 (hk : Keeps ⟨b0, b1, b2, b3, b4, b5⟩ u s) :
    ∀ t, execDapClose d s = .next t → Keeps ⟨b0, b1, b2, b3, b4, b5⟩ u t := by
  intro t e
  unfold execDapClose at e
  cases e
  repeat' (first
    | with_reducible assumption | with_reducible apply keeps_doClose | (intro _) | split | dsimp only [id_eq])

theorem keeps_execDapSessionIdleTimeout {b0 b1 b2 b3 b4 b5 : Bool} {u : State} (port : Port) (session : ℕ) (s : State)
 (hk : Keeps ⟨b0, b1, b2, b3, b4, b5⟩ u s) :
    ∀ t, execDapSessionIdleTimeout port session s = .next t → Keeps ⟨b0, b1, b2, b3, b4, b5⟩ u t := by
  intro t e
  unfold execDapSessionIdleTimeout at e
  cases e
  repeat' (first
    | with_reducible assumption | with_reducible apply keeps_closeSession | (intro _) | split | dsimp only [id_eq])

theorem keeps_execI3cSetdasa {b0 b1 b2 b3 b4 b5 : Bool} {u : State} (address : ℕ) (s : State)
 (hk : Keeps ⟨b0, b1, b2, b3, b4, b5⟩ u s) :
    ∀ t, execI3cSetdasa address s = .next t → Keeps ⟨b0, b1, b2, b3, b4, b5⟩ u t := by
  intro t e
  unfold execI3cSetdasa at e
  cases e
  repeat' (first
    | with_reducible assumption | fail_if_no_progress with_reducible apply keeps_mk | (intro _) | split
    | dsimp only [id_eq])

theorem keeps_execI3cEntdaa {b0 b1 b2 b3 b4 b5 : Bool} {u : State} (address : ℕ) (s : State)
 (hk : Keeps ⟨b0, b1, b2, b3, b4, b5⟩ u s) :
    ∀ t, execI3cEntdaa address s = .next t → Keeps ⟨b0, b1, b2, b3, b4, b5⟩ u t := by
  intro t e
  unfold execI3cEntdaa at e
  cases e
  repeat' (first
    | with_reducible assumption | fail_if_no_progress with_reducible apply keeps_mk | (intro _) | split
    | dsimp only [id_eq])

theorem keeps_i3cNotify {b0 b1 b2 b3 b4 b5 : Bool} {u : State} (s : State) (hk : Keeps ⟨b0, b1, b2, b3, b4, b5⟩ u s) :
    Keeps ⟨b0, b1, b2, b3, b4, b5⟩ u (i3cNotify s) := by
  unfold i3cNotify
  try dsimp only
  repeat' (first
    | with_reducible assumption | with_reducible apply keeps_emit | with_reducible apply keeps_setSession
    | fail_if_no_progress with_reducible apply keeps_mk | (intro _) | split | dsimp only [id_eq])

theorem keeps_doPrivateRead {b0 b1 b2 b3 b4 b5 : Bool} {u : State} (s : State)
 (hk : Keeps ⟨b0, b1, b2, b3, b4, b5⟩ u s) :
    Keeps ⟨b0, b1, b2, b3, b4, b5⟩ u (doPrivateRead s) := by
  unfold doPrivateRead
  try dsimp only
  repeat' (first
    | with_reducible assumption | with_reducible apply keeps_emit | with_reducible apply keeps_i3cNotify
    | fail_if_no_progress with_reducible apply keeps_mk | (intro _) | split | dsimp only [id_eq])

theorem keeps_execI3cPrivateRead {b0 b1 b2 b3 b4 b5 : Bool} {u : State} (s : State)
 (hk : Keeps ⟨b0, b1, b2, b3, b4, b5⟩ u s) :
    ∀ t, execI3cPrivateRead s = .next t → Keeps ⟨b0, b1, b2, b3, b4, b5⟩ u t := by
  intro t e
  unfold execI3cPrivateRead at e
  cases e
  repeat' (first
    | with_reducible assumption | with_reducible apply keeps_doPrivateRead | (intro _) | split | dsimp only [id_eq])

theorem keeps_clearObj {b1 b2 b3 b4 b5 : Bool} {u : State} (d : DapMsg) (index : ℕ) (sub : ℕ) (f : State → State)
 (s : State) (hf : ∀ (w : State), Keeps ⟨false, b1, b2, b3, b4, b5⟩ u w → Keeps ⟨false, b1, b2, b3, b4, b5⟩ u (f w))
 (hk : Keeps ⟨false, b1, b2, b3, b4, b5⟩ u s) :
    Keeps ⟨false, b1, b2, b3, b4, b5⟩ u (clearObj d index sub f s) := by
  unfold clearObj
  try dsimp only
  repeat' (first
    | with_reducible assumption | with_reducible apply keeps_clearing | with_reducible apply keeps_dapServe
    | with_reducible apply hf | (intro _) | split | dsimp only [id_eq])

theorem keeps_setCluster {b0 b1 b2 b4 b5 : Bool} {u : State} (c : ℕ) (f : Cluster → Cluster) (s : State)
 (hk : Keeps ⟨b0, b1, b2, false, b4, b5⟩ u s) :
    Keeps ⟨b0, b1, b2, false, b4, b5⟩ u (setCluster c f s) := by
  unfold setCluster
  try dsimp only
  repeat' (first
    | with_reducible assumption | fail_if_no_progress with_reducible apply keeps_mk
    | fail_if_no_progress with_reducible apply keeps_mk_config | (intro _) | split | dsimp only [id_eq])

theorem keeps_cfgEvent {b0 b1 b2 b3 b4 b5 : Bool} {u : State} (s : State) (hk : Keeps ⟨b0, b1, b2, b3, b4, b5⟩ u s) :
    Keeps ⟨b0, b1, b2, b3, b4, b5⟩ u (cfgEvent s) := by
  unfold cfgEvent
  try dsimp only
  repeat' (first
    | with_reducible assumption | with_reducible apply keeps_raiseEvent | (intro _) | split | dsimp only [id_eq])

theorem keeps_clearTiles {b0 b1 b2 b3 b4 b5 : Bool} {u : State} (c : ℕ) (s : State)
 (hk : Keeps ⟨b0, b1, b2, b3, b4, b5⟩ u s) :
    Keeps ⟨b0, b1, b2, b3, b4, b5⟩ u (clearTiles c s) := by
  unfold clearTiles
  try dsimp only
  repeat' (first
    | with_reducible assumption | with_reducible apply keeps_setTile | fail_if_no_progress with_reducible apply keeps_mk
    | with_reducible apply keeps_foldl | with_reducible apply keeps_foldl_snd | (intro _) | split | dsimp only [id_eq])

theorem keeps_releaseCluster {b0 b1 b2 b4 b5 : Bool} {u : State} (c : ℕ) (s : State)
 (hk : Keeps ⟨b0, b1, b2, false, b4, b5⟩ u s) :
    Keeps ⟨b0, b1, b2, false, b4, b5⟩ u (releaseCluster c s) := by
  unfold releaseCluster
  try dsimp only
  repeat' (first
    | with_reducible assumption | with_reducible apply keeps_clearTiles | with_reducible apply keeps_setCluster
    | fail_if_no_progress with_reducible apply keeps_mk | (intro _) | split | dsimp only [id_eq])

theorem keeps_endCfg {b0 b2 b3 b4 b5 : Bool} {u : State} (p : Posted) (acc : ℕ) (st : Status) (slot : ℕ) (handle : ℕ)
 (cl : ℕ) (s : State) (hk : Keeps ⟨b0, false, b2, b3, b4, b5⟩ u s) :
    Keeps ⟨b0, false, b2, b3, b4, b5⟩ u (endCfg p acc st slot handle cl s) := by
  unfold endCfg
  try dsimp only
  repeat' (first
    | with_reducible assumption | with_reducible apply keeps_endPosted | (intro _) | split | dsimp only [id_eq])

theorem keeps_acceptCfg {b0 b1 b2 b3 b4 b5 : Bool} {u : State} (rq : Req) (handle : ℕ) (act : ℕ → State → State)
 (s : State) (hact : ∀ a0 (w : State), Keeps ⟨b0, b1, b2, b3, b4, b5⟩ u w → Keeps ⟨b0, b1, b2, b3, b4, b5⟩ u
 (act a0 w)) (hk : Keeps ⟨b0, b1, b2, b3, b4, b5⟩ u s) :
    Keeps ⟨b0, b1, b2, b3, b4, b5⟩ u (acceptCfg rq handle act s) := by
  unfold acceptCfg
  try dsimp only
  repeat' (first
    | with_reducible assumption | with_reducible apply keeps_complete | with_reducible apply keeps_nextAcc
    | with_reducible refine keeps_nextAcc_eq (by assumption) ?_ | with_reducible apply hact | (intro _) | split
    | dsimp only [id_eq])

theorem keeps_endLoad {b0 b2 b4 b5 : Bool} {u : State} (j : LoadJob) (c : ℕ) (st : Status) (s : State)
 (hk : Keeps ⟨b0, false, b2, false, b4, b5⟩ u s) :
    Keeps ⟨b0, false, b2, false, b4, b5⟩ u (endLoad j c st s) := by
  unfold endLoad
  try dsimp only
  repeat' (first
    | with_reducible assumption | with_reducible apply keeps_bump | with_reducible apply keeps_endCfg
    | with_reducible apply keeps_setCluster | fail_if_no_progress with_reducible apply keeps_mk | (intro _) | split
    | dsimp only [id_eq])

theorem keeps_drainCluster {b0 b1 b2 b4 b5 : Bool} {u : State} (c : ℕ) (s : State)
 (hk : Keeps ⟨b0, b1, b2, false, b4, b5⟩ u s) :
    Keeps ⟨b0, b1, b2, false, b4, b5⟩ u (drainCluster c s) := by
  unfold drainCluster
  try dsimp only
  repeat' (first
    | with_reducible assumption | with_reducible apply keeps_setCluster
    | fail_if_no_progress with_reducible apply keeps_mk | (intro _) | split | dsimp only [id_eq])

theorem keeps_startLoad {b0 b1 b2 b4 b5 : Bool} {u : State} (c : ℕ) (s : State)
 (hk : Keeps ⟨b0, b1, b2, false, b4, b5⟩ u s) :
    Keeps ⟨b0, b1, b2, false, b4, b5⟩ u (startLoad c s) := by
  unfold startLoad
  try dsimp only
  repeat' (first
    | with_reducible assumption | with_reducible apply keeps_clearTiles | with_reducible apply keeps_setCluster
    | with_reducible apply keeps_wake | fail_if_no_progress with_reducible apply keeps_mk | (intro _) | split
    | dsimp only [id_eq])

theorem keeps_dropLoad {b0 b2 b4 b5 : Bool} {u : State} (c : ℕ) (s : State)
 (hk : Keeps ⟨b0, false, b2, false, b4, b5⟩ u s) :
    Keeps ⟨b0, false, b2, false, b4, b5⟩ u (dropLoad c s) := by
  unfold dropLoad
  try dsimp only
  repeat' (first
    | with_reducible assumption | with_reducible apply keeps_endLoad | with_reducible apply keeps_setCluster
    | fail_if_no_progress with_reducible apply keeps_mk | (intro _) | split | dsimp only [id_eq])

theorem keeps_unassign {b0 b2 b4 b5 : Bool} {u : State} (c : ℕ) (s : State)
 (hk : Keeps ⟨b0, false, b2, false, b4, b5⟩ u s) :
    Keeps ⟨b0, false, b2, false, b4, b5⟩ u (unassign c s) := by
  unfold unassign
  try dsimp only
  repeat' (first
    | with_reducible assumption | with_reducible apply keeps_drainCluster | with_reducible apply keeps_dropLoad
    | with_reducible apply keeps_releaseCluster | with_reducible apply keeps_setCluster
    | fail_if_no_progress with_reducible apply keeps_mk | (intro _) | split | dsimp only [id_eq])

theorem keeps_tryOpen {b0 b2 b4 b5 : Bool} {u : State} (h : ℕ) (s : State)
 (hk : Keeps ⟨b0, false, b2, false, b4, b5⟩ u s) :
    Keeps ⟨b0, false, b2, false, b4, b5⟩ u (tryOpen h s) := by
  unfold tryOpen
  try dsimp only
  repeat' (first
    | with_reducible assumption | with_reducible apply keeps_setCluster | with_reducible apply keeps_unassign
    | fail_if_no_progress with_reducible apply keeps_mk | fail_if_no_progress with_reducible apply keeps_mk_config
    | with_reducible apply keeps_foldl | with_reducible apply keeps_foldl_snd | (intro _) | split | dsimp only [id_eq])

theorem keeps_assign {b0 b2 b4 b5 : Bool} {u : State} (acc : ℕ) (c : ℕ) (e : RegEntry) (staged : Bool) (b : ℕ)
 (tenant : ℕ) (s : State) (hk : Keeps ⟨b0, false, b2, false, b4, b5⟩ u s) :
    Keeps ⟨b0, false, b2, false, b4, b5⟩ u (assign acc c e staged b tenant s) := by
  unfold assign
  try dsimp only
  repeat' (first
    | with_reducible assumption | with_reducible apply keeps_dropLoad | with_reducible apply keeps_setCluster
    | with_reducible apply keeps_startLoad | fail_if_no_progress with_reducible apply keeps_mk | (intro _) | split
    | dsimp only [id_eq])

theorem keeps_acceptLoad {b0 b2 b4 b5 : Bool} {u : State} (rq : Req) (e : RegEntry) (acc : ℕ) (s : State)
 (hk : Keeps ⟨b0, false, b2, false, b4, b5⟩ u s) :
    Keeps ⟨b0, false, b2, false, b4, b5⟩ u (acceptLoad rq e acc s) := by
  unfold acceptLoad
  try dsimp only
  repeat' (first
    | with_reducible assumption | with_reducible apply keeps_assign | with_reducible apply keeps_drainCluster
    | with_reducible apply keeps_unassign | fail_if_no_progress with_reducible apply keeps_mk
    | fail_if_no_progress with_reducible apply keeps_mk_config | with_reducible apply keeps_foldl
    | with_reducible apply keeps_foldl_snd | (intro _) | split | dsimp only [id_eq])

theorem keeps_doLoad {b0 b2 b4 b5 : Bool} {u : State} (rq : Req) (s : State)
 (hk : Keeps ⟨b0, false, b2, false, b4, b5⟩ u s) :
    Keeps ⟨b0, false, b2, false, b4, b5⟩ u (doLoad rq s) := by
  unfold doLoad
  try dsimp only
  repeat' (first
    | with_reducible assumption | with_reducible apply keeps_acceptCfg | with_reducible apply keeps_acceptLoad
    | with_reducible apply keeps_complete | with_reducible apply keeps_deferReq
    | fail_if_no_progress with_reducible apply keeps_mk | with_reducible apply keeps_foldl
    | with_reducible apply keeps_foldl_snd | (intro _) | split | dsimp only [id_eq])

theorem keeps_doUnbind {b0 b2 b4 b5 : Bool} {u : State} (rq : Req) (s : State)
 (hk : Keeps ⟨b0, false, b2, false, b4, b5⟩ u s) :
    Keeps ⟨b0, false, b2, false, b4, b5⟩ u (doUnbind rq s) := by
  unfold doUnbind
  try dsimp only
  repeat' (first
    | with_reducible assumption | with_reducible apply keeps_acceptCfg | with_reducible apply keeps_complete
    | with_reducible apply keeps_endCfg | with_reducible apply keeps_unassign
    | fail_if_no_progress with_reducible apply keeps_mk | fail_if_no_progress with_reducible apply keeps_mk_config
    | with_reducible apply keeps_foldl | with_reducible apply keeps_foldl_snd | (intro _) | split | dsimp only [id_eq])

theorem keeps_countRegistry {b0 b1 b2 b3 b4 b5 : Bool} {u : State} (s : State)
 (hk : Keeps ⟨b0, b1, b2, b3, b4, b5⟩ u s) :
    Keeps ⟨b0, b1, b2, b3, b4, b5⟩ u (countRegistry s) := by
  unfold countRegistry
  try dsimp only
  repeat' (first
    | with_reducible assumption | with_reducible apply keeps_setObj | (intro _) | split | dsimp only [id_eq])

theorem keeps_doRegister {b0 b1 b2 b4 b5 : Bool} {u : State} (rq : Req) (s : State)
 (hk : Keeps ⟨b0, b1, b2, false, b4, b5⟩ u s) :
    Keeps ⟨b0, b1, b2, false, b4, b5⟩ u (doRegister rq s) := by
  unfold doRegister
  try dsimp only
  repeat' (first
    | with_reducible assumption | with_reducible apply keeps_acceptCfg | with_reducible apply keeps_complete
    | with_reducible apply keeps_deferReq | fail_if_no_progress with_reducible apply keeps_mk
    | fail_if_no_progress with_reducible apply keeps_mk_config | (intro _) | split | dsimp only [id_eq])

theorem keeps_doRegisterDone {b0 b2 b4 b5 : Bool} {u : State} (acc : ℕ) (s : State)
 (hk : Keeps ⟨b0, false, b2, false, b4, b5⟩ u s) :
    Keeps ⟨b0, false, b2, false, b4, b5⟩ u (doRegisterDone acc s) := by
  unfold doRegisterDone
  try dsimp only
  repeat' (first
    | with_reducible assumption | with_reducible apply keeps_countRegistry | with_reducible apply keeps_endCfg
    | with_reducible apply keeps_engineFar | fail_if_no_progress with_reducible apply keeps_mk
    | fail_if_no_progress with_reducible apply keeps_mk_config | (intro _) | split | dsimp only [id_eq])

theorem keeps_retireEntry {b0 b2 b4 b5 : Bool} {u : State} (n : ℕ) (s : State)
 (hk : Keeps ⟨b0, false, b2, false, b4, b5⟩ u s) :
    Keeps ⟨b0, false, b2, false, b4, b5⟩ u (retireEntry n s) := by
  unfold retireEntry
  try dsimp only
  repeat' (first
    | with_reducible assumption | with_reducible apply keeps_countRegistry | with_reducible apply keeps_dropLoad
    | fail_if_no_progress with_reducible apply keeps_mk | fail_if_no_progress with_reducible apply keeps_mk_config
    | with_reducible apply keeps_foldl | with_reducible apply keeps_foldl_snd | (intro _) | split | dsimp only [id_eq])

theorem keeps_doRetire {b0 b2 b4 b5 : Bool} {u : State} (rq : Req) (s : State)
 (hk : Keeps ⟨b0, false, b2, false, b4, b5⟩ u s) :
    Keeps ⟨b0, false, b2, false, b4, b5⟩ u (doRetire rq s) := by
  unfold doRetire
  try dsimp only
  repeat' (first
    | with_reducible assumption | with_reducible apply keeps_acceptCfg | with_reducible apply keeps_complete
    | with_reducible apply keeps_retireEntry | fail_if_no_progress with_reducible apply keeps_mk
    | fail_if_no_progress with_reducible apply keeps_mk_config | (intro _) | split | dsimp only [id_eq])

theorem keeps_doRetireRecord {b0 b2 b4 b5 : Bool} {u : State} (acc : ℕ) (s : State)
 (hk : Keeps ⟨b0, false, b2, false, b4, b5⟩ u s) :
    Keeps ⟨b0, false, b2, false, b4, b5⟩ u (doRetireRecord acc s) := by
  unfold doRetireRecord
  try dsimp only
  repeat' (first
    | with_reducible assumption | with_reducible apply keeps_endCfg | fail_if_no_progress with_reducible apply keeps_mk
    | fail_if_no_progress with_reducible apply keeps_mk_config | (intro _) | split | dsimp only [id_eq])

theorem keeps_serveCfg {b0 b1 b2 b3 b4 b5 : Bool} {u : State} (op : ℕ) (h : Hdr) (body : ℕ) (act : Req → State → State)
 (s : State) (hact : ∀ a0 (w : State), Keeps ⟨b0, b1, b2, b3, b4, b5⟩ u w → Keeps ⟨b0, b1, b2, b3, b4, b5⟩ u
 (act a0 w)) (hk : Keeps ⟨b0, b1, b2, b3, b4, b5⟩ u s) :
    Keeps ⟨b0, b1, b2, b3, b4, b5⟩ u (serveCfg op h body act s) := by
  unfold serveCfg
  try dsimp only
  repeat' (first
    | with_reducible assumption | with_reducible apply keeps_serve | with_reducible apply hact | (intro _) | split
    | dsimp only [id_eq])

theorem keeps_execRegister {b0 b1 b2 b4 b5 : Bool} {u : State} (h : Hdr) (body : ℕ) (s : State)
 (hk : Keeps ⟨b0, b1, b2, false, b4, b5⟩ u s) :
    ∀ t, execRegister h body s = .next t → Keeps ⟨b0, b1, b2, false, b4, b5⟩ u t := by
  intro t e
  unfold execRegister at e
  cases e
  repeat' (first
    | with_reducible assumption | with_reducible apply keeps_doRegister | with_reducible apply keeps_serveCfg | (intro _)
    | split | dsimp only [id_eq])

theorem keeps_execConfigRetire {b0 b2 b4 b5 : Bool} {u : State} (h : Hdr) (body : ℕ) (s : State)
 (hk : Keeps ⟨b0, false, b2, false, b4, b5⟩ u s) :
    ∀ t, execConfigRetire h body s = .next t → Keeps ⟨b0, false, b2, false, b4, b5⟩ u t := by
  intro t e
  unfold execConfigRetire at e
  cases e
  repeat' (first
    | with_reducible assumption | with_reducible apply keeps_doRetire | with_reducible apply keeps_serveCfg | (intro _)
    | split | dsimp only [id_eq])

theorem keeps_execLoad {b0 b2 b4 b5 : Bool} {u : State} (h : Hdr) (body : ℕ) (s : State)
 (hk : Keeps ⟨b0, false, b2, false, b4, b5⟩ u s) :
    ∀ t, execLoad h body s = .next t → Keeps ⟨b0, false, b2, false, b4, b5⟩ u t := by
  intro t e
  unfold execLoad at e
  cases e
  repeat' (first
    | with_reducible assumption | with_reducible apply keeps_doLoad | with_reducible apply keeps_serveCfg | (intro _)
    | split | dsimp only [id_eq])

theorem keeps_execUnbind {b0 b2 b4 b5 : Bool} {u : State} (h : Hdr) (body : ℕ) (s : State)
 (hk : Keeps ⟨b0, false, b2, false, b4, b5⟩ u s) :
    ∀ t, execUnbind h body s = .next t → Keeps ⟨b0, false, b2, false, b4, b5⟩ u t := by
  intro t e
  unfold execUnbind at e
  cases e
  repeat' (first
    | with_reducible assumption | with_reducible apply keeps_doUnbind | with_reducible apply keeps_serveCfg | (intro _)
    | split | dsimp only [id_eq])

theorem keeps_execRegisterDone {b0 b2 b4 b5 : Bool} {u : State} (acc : ℕ) (s : State)
 (hk : Keeps ⟨b0, false, b2, false, b4, b5⟩ u s) :
    ∀ t, execRegisterDone acc s = .next t → Keeps ⟨b0, false, b2, false, b4, b5⟩ u t := by
  intro t e
  unfold execRegisterDone at e
  cases e
  repeat' (first
    | with_reducible assumption | with_reducible apply keeps_doRegisterDone | (intro _) | split | dsimp only [id_eq])

theorem keeps_execConfigRetireRecord {b0 b2 b4 b5 : Bool} {u : State} (acc : ℕ) (s : State)
 (hk : Keeps ⟨b0, false, b2, false, b4, b5⟩ u s) :
    ∀ t, execConfigRetireRecord acc s = .next t → Keeps ⟨b0, false, b2, false, b4, b5⟩ u t := by
  intro t e
  unfold execConfigRetireRecord at e
  cases e
  repeat' (first
    | with_reducible assumption | with_reducible apply keeps_doRetireRecord | (intro _) | split | dsimp only [id_eq])

theorem keeps_doCfg {b0 b2 b4 b5 : Bool} {u : State} (rq : Req) (s : State)
 (hk : Keeps ⟨b0, false, b2, false, b4, b5⟩ u s) :
    Keeps ⟨b0, false, b2, false, b4, b5⟩ u (doCfg rq s) := by
  unfold doCfg
  try dsimp only
  repeat' (first
    | with_reducible assumption | with_reducible apply keeps_doLoad | with_reducible apply keeps_doRegister
    | with_reducible apply keeps_doRetire | with_reducible apply keeps_doUnbind
    | fail_if_no_progress with_reducible apply keeps_mk | (intro _) | split | dsimp only [id_eq])

theorem keeps_execClusterLoadStart {b0 b1 b2 b4 b5 : Bool} {u : State} (cluster : ℕ) (s : State)
 (hk : Keeps ⟨b0, b1, b2, false, b4, b5⟩ u s) :
    ∀ t, execClusterLoadStart cluster s = .next t → Keeps ⟨b0, b1, b2, false, b4, b5⟩ u t := by
  intro t e
  unfold execClusterLoadStart at e
  cases e
  repeat' (first
    | with_reducible assumption | with_reducible apply keeps_startLoad | (intro _) | split | dsimp only [id_eq])

theorem keeps_unassignRole {b0 b2 b4 b5 : Bool} {u : State} (c : ℕ) (s : State)
 (hk : Keeps ⟨b0, false, b2, false, b4, b5⟩ u s) :
    Keeps ⟨b0, false, b2, false, b4, b5⟩ u (unassignRole c s) := by
  unfold unassignRole
  try dsimp only
  repeat' (first
    | with_reducible assumption | with_reducible apply keeps_cfgEvent | with_reducible apply keeps_tryOpen
    | fail_if_no_progress with_reducible apply keeps_mk | fail_if_no_progress with_reducible apply keeps_mk_config
    | (intro _) | split | dsimp only [id_eq])

theorem keeps_failLoad {b0 b2 b4 b5 : Bool} {u : State} (c : ℕ) (st : Status) (s : State)
 (hk : Keeps ⟨b0, false, b2, false, b4, b5⟩ u s) :
    Keeps ⟨b0, false, b2, false, b4, b5⟩ u (failLoad c st s) := by
  unfold failLoad
  try dsimp only
  repeat' (first
    | with_reducible assumption | with_reducible apply keeps_clearTiles | with_reducible apply keeps_endLoad
    | with_reducible apply keeps_releaseCluster | with_reducible apply keeps_setCluster
    | with_reducible apply keeps_unassignRole | fail_if_no_progress with_reducible apply keeps_mk | (intro _) | split
    | dsimp only [id_eq])

theorem keeps_zeroPads {b0 b2 b3 b4 b5 : Bool} {u : State} (c : ℕ) (s : State)
 (hk : Keeps ⟨b0, false, b2, b3, b4, b5⟩ u s) :
    Keeps ⟨b0, false, b2, b3, b4, b5⟩ u (zeroPads c s) := by
  unfold zeroPads
  try dsimp only
  repeat' (first
    | with_reducible assumption | fail_if_no_progress with_reducible apply keeps_filter
    | fail_if_no_progress with_reducible apply keeps_mk | fail_if_no_progress with_reducible apply keeps_mk_memory
    | (intro _) | split | dsimp only [id_eq])

theorem keeps_seedTile {b0 b1 b2 b3 b4 b5 : Bool} {u : State} (t : ℕ) (control : ℕ) (seed : ℕ) (s : State)
 (hk : Keeps ⟨b0, b1, b2, b3, b4, b5⟩ u s) :
    Keeps ⟨b0, b1, b2, b3, b4, b5⟩ u (seedTile t control seed s) := by
  unfold seedTile
  try dsimp only
  repeat' (first
    | with_reducible assumption | with_reducible apply keeps_setTile | fail_if_no_progress with_reducible apply keeps_mk
    | (intro _) | split | dsimp only [id_eq])

theorem keeps_configureTiles {b0 b1 b2 b3 b4 b5 : Bool} {u : State} (c : ℕ) (role : ℕ) (img : ℕ) (s : State)
 (hk : Keeps ⟨b0, b1, b2, b3, b4, b5⟩ u s) :
    Keeps ⟨b0, b1, b2, b3, b4, b5⟩ u (configureTiles c role img s) := by
  unfold configureTiles
  try dsimp only
  repeat' (first
    | with_reducible assumption | with_reducible apply keeps_seedTile | with_reducible apply keeps_setTile
    | fail_if_no_progress with_reducible apply keeps_mk | with_reducible apply keeps_foldl
    | with_reducible apply keeps_foldl_snd | (intro _) | split | dsimp only [id_eq])

theorem keeps_resumeCluster {b0 b2 b4 b5 : Bool} {u : State} (h : ℕ) (c : ℕ) (s : State)
 (hk : Keeps ⟨b0, false, b2, false, b4, b5⟩ u s) :
    Keeps ⟨b0, false, b2, false, b4, b5⟩ u (resumeCluster h c s) := by
  unfold resumeCluster
  try dsimp only
  repeat' (first
    | with_reducible assumption | with_reducible apply keeps_setCluster | with_reducible apply keeps_tryOpen
    | fail_if_no_progress with_reducible apply keeps_mk | (intro _) | split | dsimp only [id_eq])

theorem keeps_doLoadComplete {b0 b2 b4 b5 : Bool} {u : State} (c : ℕ) (s : State)
 (hk : Keeps ⟨b0, false, b2, false, b4, b5⟩ u s) :
    Keeps ⟨b0, false, b2, false, b4, b5⟩ u (doLoadComplete c s) := by
  unfold doLoadComplete
  try dsimp only
  repeat' (first
    | with_reducible assumption | with_reducible apply keeps_configureTiles | with_reducible apply keeps_endLoad
    | with_reducible apply keeps_failLoad | with_reducible apply keeps_releaseCluster
    | with_reducible apply keeps_resumeCluster | with_reducible apply keeps_setCluster
    | with_reducible apply keeps_tryOpen | with_reducible apply keeps_zeroPads
    | fail_if_no_progress with_reducible apply keeps_mk | (intro _) | split | dsimp only [id_eq])

theorem keeps_execClusterLoadComplete {b0 b2 b4 b5 : Bool} {u : State} (cluster : ℕ) (s : State)
 (hk : Keeps ⟨b0, false, b2, false, b4, b5⟩ u s) :
    ∀ t, execClusterLoadComplete cluster s = .next t → Keeps ⟨b0, false, b2, false, b4, b5⟩ u t := by
  intro t e
  unfold execClusterLoadComplete at e
  cases e
  repeat' (first
    | with_reducible assumption | with_reducible apply keeps_doLoadComplete | (intro _) | split | dsimp only [id_eq])

theorem keeps_execClusterLoadFail {b0 b2 b4 b5 : Bool} {u : State} (cluster : ℕ) (why : LoadFault) (s : State)
 (hk : Keeps ⟨b0, false, b2, false, b4, b5⟩ u s) :
    ∀ t, execClusterLoadFail cluster why s = .next t → Keeps ⟨b0, false, b2, false, b4, b5⟩ u t := by
  intro t e
  unfold execClusterLoadFail at e
  cases e
  repeat' (first
    | with_reducible assumption | with_reducible apply keeps_failLoad | fail_if_no_progress with_reducible apply keeps_mk
    | (intro _) | split | dsimp only [id_eq])

theorem keeps_doDrained {b0 b1 b2 b4 b5 : Bool} {u : State} (c : ℕ) (s : State)
 (hk : Keeps ⟨b0, b1, b2, false, b4, b5⟩ u s) :
    Keeps ⟨b0, b1, b2, false, b4, b5⟩ u (doDrained c s) := by
  unfold doDrained
  try dsimp only
  repeat' (first
    | with_reducible assumption | with_reducible apply keeps_clearTiles | with_reducible apply keeps_releaseCluster
    | with_reducible apply keeps_setCluster | with_reducible apply keeps_startLoad
    | fail_if_no_progress with_reducible apply keeps_mk | (intro _) | split | dsimp only [id_eq])

theorem keeps_execClusterDrainComplete {b0 b1 b2 b4 b5 : Bool} {u : State} (cluster : ℕ) (s : State)
 (hk : Keeps ⟨b0, b1, b2, false, b4, b5⟩ u s) :
    ∀ t, execClusterDrainComplete cluster s = .next t → Keeps ⟨b0, b1, b2, false, b4, b5⟩ u t := by
  intro t e
  unfold execClusterDrainComplete at e
  cases e
  repeat' (first
    | with_reducible assumption | with_reducible apply keeps_doDrained | (intro _) | split | dsimp only [id_eq])

theorem keeps_execDrainOverdue {b0 b1 b2 b3 b4 b5 : Bool} {u : State} (cluster : ℕ) (s : State)
 (hk : Keeps ⟨b0, b1, b2, b3, b4, b5⟩ u s) :
    ∀ t, execDrainOverdue cluster s = .next t → Keeps ⟨b0, b1, b2, b3, b4, b5⟩ u t := by
  intro t e
  unfold execDrainOverdue at e
  cases e
  repeat' (first
    | with_reducible assumption | with_reducible apply keeps_cfgEvent | (intro _) | split | dsimp only [id_eq])

theorem keeps_reloadCluster {b0 b2 b4 b5 : Bool} {u : State} (c : ℕ) (s : State)
 (hk : Keeps ⟨b0, false, b2, false, b4, b5⟩ u s) :
    Keeps ⟨b0, false, b2, false, b4, b5⟩ u (reloadCluster c s) := by
  unfold reloadCluster
  try dsimp only
  repeat' (first
    | with_reducible assumption | with_reducible apply keeps_clearTiles | with_reducible apply keeps_releaseCluster
    | with_reducible apply keeps_setCluster | with_reducible apply keeps_startLoad
    | with_reducible apply keeps_unassignRole | fail_if_no_progress with_reducible apply keeps_mk | (intro _) | split
    | dsimp only [id_eq])

theorem keeps_execClusterReloadAfterWake {b0 b2 b4 b5 : Bool} {u : State} (slice : ℕ) (s : State)
 (hk : Keeps ⟨b0, false, b2, false, b4, b5⟩ u s) :
    ∀ t, execClusterReloadAfterWake slice s = .next t → Keeps ⟨b0, false, b2, false, b4, b5⟩ u t := by
  intro t e
  unfold execClusterReloadAfterWake at e
  cases e
  repeat' (first
    | with_reducible assumption | with_reducible apply keeps_reloadCluster | with_reducible apply keeps_foldl
    | with_reducible apply keeps_foldl_snd | (intro _) | split | dsimp only [id_eq])

theorem keeps_withHandle {b0 b1 b2 b3 b4 b5 : Bool} {u : State} (rq : Req) (h : ℕ) (act : FnHandle → State → State)
 (s : State) (hact : ∀ a0 (w : State), Keeps ⟨b0, b1, b2, b3, b4, b5⟩ u w → Keeps ⟨b0, b1, b2, b3, b4, b5⟩ u
 (act a0 w)) (hk : Keeps ⟨b0, b1, b2, b3, b4, b5⟩ u s) :
    Keeps ⟨b0, b1, b2, b3, b4, b5⟩ u (withHandle rq h act s) := by
  unfold withHandle
  try dsimp only
  repeat' (first
    | with_reducible assumption | with_reducible apply keeps_bump | with_reducible apply keeps_complete
    | with_reducible apply keeps_deferReq | with_reducible apply hact | fail_if_no_progress with_reducible apply keeps_mk
    | (intro _) | split | dsimp only [id_eq])

theorem keeps_addCall {b0 b1 b2 b4 b5 : Bool} {u : State} (rq : Req) (acc : ℕ) (h : ℕ) (x : FnHandle) (s : State)
 (hk : Keeps ⟨b0, b1, b2, false, b4, b5⟩ u s) :
    Keeps ⟨b0, b1, b2, false, b4, b5⟩ u (addCall rq acc h x s) := by
  unfold addCall
  try dsimp only
  repeat' (first
    | with_reducible assumption | fail_if_no_progress with_reducible apply keeps_mk
    | fail_if_no_progress with_reducible apply keeps_mk_config | (intro _) | split | dsimp only [id_eq])

theorem keeps_setSlot {b0 b1 b2 b3 b5 : Bool} {u : State} (k : ℕ) (f : TableSlot → TableSlot) (s : State)
 (hk : Keeps ⟨b0, b1, b2, b3, false, b5⟩ u s) :
    Keeps ⟨b0, b1, b2, b3, false, b5⟩ u (setSlot k f s) := by
  unfold setSlot
  try dsimp only
  repeat' (first
    | with_reducible assumption | fail_if_no_progress with_reducible apply keeps_mk
    | fail_if_no_progress with_reducible apply keeps_mk_tables | (intro _) | split | dsimp only [id_eq])

theorem keeps_pinPack {b0 b1 b2 b3 b5 : Bool} {u : State} (acc : ℕ) (x : FnHandle) (b : ℕ) (s : State)
 (hk : Keeps ⟨b0, b1, b2, b3, false, b5⟩ u s) :
    Keeps ⟨b0, b1, b2, b3, false, b5⟩ u (pinPack acc x b s) := by
  unfold pinPack
  try dsimp only
  repeat' (first
    | with_reducible assumption | with_reducible apply keeps_setSlot | fail_if_no_progress with_reducible apply keeps_mk
    | (intro _) | split | dsimp only [id_eq])

theorem keeps_unpinPack {b0 b1 b2 b3 b5 : Bool} {u : State} (acc : ℕ) (s : State)
 (hk : Keeps ⟨b0, b1, b2, b3, false, b5⟩ u s) :
    Keeps ⟨b0, b1, b2, b3, false, b5⟩ u (unpinPack acc s) := by
  unfold unpinPack
  try dsimp only
  repeat' (first
    | with_reducible assumption | with_reducible apply keeps_setSlot | fail_if_no_progress with_reducible apply keeps_mk
    | (intro _) | split | dsimp only [id_eq])

theorem keeps_doInvoke {b0 b1 b2 b5 : Bool} {u : State} (rq : Req) (s : State)
 (hk : Keeps ⟨b0, b1, b2, false, false, b5⟩ u s) :
    Keeps ⟨b0, b1, b2, false, false, b5⟩ u (doInvoke rq s) := by
  unfold doInvoke
  try dsimp only
  repeat' (first
    | with_reducible assumption | with_reducible apply keeps_addCall | with_reducible apply keeps_complete
    | with_reducible apply keeps_nextAcc | with_reducible apply keeps_pinPack | with_reducible apply keeps_withHandle
    | with_reducible refine keeps_nextAcc_eq (by assumption) ?_ | fail_if_no_progress with_reducible apply keeps_mk
    | (intro _) | split | dsimp only [id_eq])

theorem keeps_execInvoke {b0 b1 b2 b5 : Bool} {u : State} (h : Hdr) (body : ℕ) (s : State)
 (hk : Keeps ⟨b0, b1, b2, false, false, b5⟩ u s) :
    ∀ t, execInvoke h body s = .next t → Keeps ⟨b0, b1, b2, false, false, b5⟩ u t := by
  intro t e
  unfold execInvoke at e
  cases e
  repeat' (first
    | with_reducible assumption | with_reducible apply keeps_doInvoke | with_reducible apply keeps_serve | (intro _)
    | split | dsimp only [id_eq])

theorem keeps_endCall {b0 b2 b5 : Bool} {u : State} (acc : ℕ) (k : Call) (st : Status) (result : ℕ) (s : State)
 (hk : Keeps ⟨b0, false, b2, false, false, b5⟩ u s) :
    Keeps ⟨b0, false, b2, false, false, b5⟩ u (endCall acc k st result s) := by
  unfold endCall
  try dsimp only
  repeat' (first
    | with_reducible assumption | with_reducible apply keeps_bump | with_reducible apply keeps_endPosted
    | with_reducible apply keeps_unpinPack | fail_if_no_progress with_reducible apply keeps_mk
    | fail_if_no_progress with_reducible apply keeps_mk_config | (intro _) | split | dsimp only [id_eq])

theorem keeps_callWrite {b0 b2 b3 b4 b5 : Bool} {u : State} (rq : Req) (w1 : CallWrite) (s : State)
 (hk : Keeps ⟨b0, false, b2, b3, b4, b5⟩ u s) :
    Keeps ⟨b0, false, b2, b3, b4, b5⟩ u (callWrite rq w1 s).2 := by
  unfold callWrite
  try dsimp only
  repeat' (first
    | with_reducible assumption | with_reducible apply keeps_engineStore | with_reducible apply keeps_meterOut
    | with_reducible apply keeps_send | with_reducible refine keeps_engineStore_eq (by assumption) ?_ | (intro _) | split
    | dsimp only [id_eq])

theorem keeps_callWrite_eq {b0 b2 b3 b4 b5 : Bool} {u w : State} {r0 : Status} {rq : Req} {w1 : CallWrite} {s : State}
 (e : callWrite rq w1 s = (r0, w)) (hk : Keeps ⟨b0, false, b2, b3, b4, b5⟩ u s) :
    Keeps ⟨b0, false, b2, b3, b4, b5⟩ u w := by
  have := keeps_callWrite rq w1 s  hk; rwa [e] at this

theorem keeps_freeTiles {b0 b1 b2 b3 b4 b5 : Bool} {u : State} (k : Call) (s : State)
 (hk : Keeps ⟨b0, b1, b2, b3, b4, b5⟩ u s) :
    Keeps ⟨b0, b1, b2, b3, b4, b5⟩ u (freeTiles k s) := by
  unfold freeTiles
  try dsimp only
  repeat' (first
    | with_reducible assumption | with_reducible apply keeps_setTile | fail_if_no_progress with_reducible apply keeps_mk
    | with_reducible apply keeps_foldl | with_reducible apply keeps_foldl_snd | (intro _) | split | dsimp only [id_eq])

theorem keeps_finishCall {b0 b2 b5 : Bool} {u : State} (acc : ℕ) (k : Call) (r : CallResult) (s : State)
 (hk : Keeps ⟨b0, false, b2, false, false, b5⟩ u s) :
    Keeps ⟨b0, false, b2, false, false, b5⟩ u (finishCall acc k r s) := by
  unfold finishCall
  try dsimp only
  repeat' (first
    | with_reducible assumption | with_reducible apply keeps_callWrite | with_reducible apply keeps_endCall
    | with_reducible apply keeps_engineFar | with_reducible apply keeps_freeTiles
    | with_reducible refine keeps_callWrite_eq (by assumption) ?_ | fail_if_no_progress with_reducible apply keeps_mk
    | with_reducible apply keeps_foldl | with_reducible apply keeps_foldl_snd | (intro _) | split | dsimp only [id_eq])

theorem keeps_substitute {b2 b4 b5 : Bool} {u : State} (c : ℕ) (j : ℕ) (s : State)
 (hk : Keeps ⟨false, false, b2, false, b4, b5⟩ u s) :
    Keeps ⟨false, false, b2, false, b4, b5⟩ u (substitute c j s) := by
  unfold substitute
  try dsimp only
  repeat' (first
    | with_reducible assumption | with_reducible apply keeps_logRepair | with_reducible apply keeps_setCluster
    | with_reducible apply keeps_setObj | with_reducible apply keeps_setTile
    | fail_if_no_progress with_reducible apply keeps_filter | fail_if_no_progress with_reducible apply keeps_mk
    | fail_if_no_progress with_reducible apply keeps_mk_memory | (intro _) | split | dsimp only [id_eq])

theorem keeps_failCalls {b0 b2 b5 : Bool} {u : State} (c : ℕ) (s : State)
 (hk : Keeps ⟨b0, false, b2, false, false, b5⟩ u s) :
    Keeps ⟨b0, false, b2, false, false, b5⟩ u (failCalls c s) := by
  unfold failCalls
  try dsimp only
  repeat' (first
    | with_reducible assumption | with_reducible apply keeps_endCall | fail_if_no_progress with_reducible apply keeps_mk
    | fail_if_no_progress with_reducible apply keeps_mk_config | with_reducible apply keeps_foldl
    | with_reducible apply keeps_foldl_snd | (intro _) | split | dsimp only [id_eq])

theorem keeps_doTileFailure {b2 b5 : Bool} {u : State} (c : ℕ) (j : ℕ) (s : State)
 (hk : Keeps ⟨false, false, b2, false, false, b5⟩ u s) :
    Keeps ⟨false, false, b2, false, false, b5⟩ u (doTileFailure c j s) := by
  unfold doTileFailure
  try dsimp only
  repeat' (first
    | with_reducible assumption | with_reducible apply keeps_cfgEvent | with_reducible apply keeps_clearTiles
    | with_reducible apply keeps_endLoad | with_reducible apply keeps_failCalls | with_reducible apply keeps_reloadCluster
    | with_reducible apply keeps_setCluster | with_reducible apply keeps_setObj | with_reducible apply keeps_substitute
    | with_reducible apply keeps_unassignRole | fail_if_no_progress with_reducible apply keeps_mk | (intro _) | split
    | dsimp only [id_eq])

theorem keeps_execTileFailure {b2 b5 : Bool} {u : State} (cluster : ℕ) (index : ℕ) (s : State)
 (hk : Keeps ⟨false, false, b2, false, false, b5⟩ u s) :
    ∀ t, execTileFailure cluster index s = .next t → Keeps ⟨false, false, b2, false, false, b5⟩ u t := by
  intro t e
  unfold execTileFailure at e
  cases e
  repeat' (first
    | with_reducible assumption | with_reducible apply keeps_doTileFailure | (intro _) | split | dsimp only [id_eq])

theorem keeps_setBlock {b0 b1 b2 b3 b4 b5 : Bool} {u : State} (die : ℕ) (f : Block → Block) (s : State)
 (hk : Keeps ⟨b0, b1, b2, b3, b4, b5⟩ u s) :
    Keeps ⟨b0, b1, b2, b3, b4, b5⟩ u (setBlock die f s) := by
  unfold setBlock
  try dsimp only
  repeat' (first
    | with_reducible assumption | fail_if_no_progress with_reducible apply keeps_mk | (intro _) | split
    | dsimp only [id_eq])

theorem keeps_setReg {b0 b1 b2 b3 b4 b5 : Bool} {u : State} (die : ℕ) (a : ℕ) (v : ℕ) (s : State)
 (hk : Keeps ⟨b0, b1, b2, b3, b4, b5⟩ u s) :
    Keeps ⟨b0, b1, b2, b3, b4, b5⟩ u (setReg die a v s) := by
  unfold setReg
  try dsimp only
  repeat' (first
    | with_reducible assumption | fail_if_no_progress with_reducible apply keeps_mk | (intro _) | split
    | dsimp only [id_eq])

theorem keeps_readWord {b0 b1 b2 b3 b4 b5 : Bool} {u : State} (die : ℕ) (off : ℕ) (s : State)
 (hk : Keeps ⟨b0, b1, b2, b3, b4, b5⟩ u s) :
    Keeps ⟨b0, b1, b2, b3, b4, b5⟩ u (readWord die off s).2 := by
  unfold readWord
  try dsimp only
  repeat' (first
    | with_reducible assumption | with_reducible apply keeps_bump | with_reducible apply keeps_drawFree
    | with_reducible apply keeps_setBlock | with_reducible refine keeps_drawFree_eq (by assumption) ?_
    | fail_if_no_progress with_reducible apply keeps_mk | (intro _) | split | dsimp only [id_eq])

theorem keeps_readWord_eq {b0 b1 b2 b3 b4 b5 : Bool} {u w : State} {r0 : ℕ} {die : ℕ} {off : ℕ} {s : State}
 (e : readWord die off s = (r0, w)) (hk : Keeps ⟨b0, b1, b2, b3, b4, b5⟩ u s) :
    Keeps ⟨b0, b1, b2, b3, b4, b5⟩ u w := by
  have := keeps_readWord die off s  hk; rwa [e] at this

theorem keeps_maskBit {b0 b1 b2 b3 b4 b5 : Bool} {u : State} (index : ℕ) (sub : ℕ) (n : ℕ) (v : Bool) (s : State)
 (hk : Keeps ⟨b0, b1, b2, b3, b4, b5⟩ u s) :
    Keeps ⟨b0, b1, b2, b3, b4, b5⟩ u (maskBit index sub n v s) := by
  unfold maskBit
  try dsimp only
  repeat' (first
    | with_reducible assumption | with_reducible apply keeps_setObj | (intro _) | split | dsimp only [id_eq])

theorem keeps_setCheck {b0 b1 b2 b3 b4 b5 : Bool} {u : State} (die : ℕ) (c : CfgCheck) (s : State)
 (hk : Keeps ⟨b0, b1, b2, b3, b4, b5⟩ u s) :
    Keeps ⟨b0, b1, b2, b3, b4, b5⟩ u (setCheck die c s) := by
  unfold setCheck
  try dsimp only
  repeat' (first
    | with_reducible assumption | with_reducible apply keeps_maskBit | with_reducible apply keeps_setBlock
    | fail_if_no_progress with_reducible apply keeps_mk | (intro _) | split | dsimp only [id_eq])

theorem keeps_cfgIntegrity {b0 b1 b2 b3 b4 b5 : Bool} {u : State} (die : ℕ) (kind : ℕ) (s : State)
 (hk : Keeps ⟨b0, b1, b2, b3, b4, b5⟩ u s) :
    Keeps ⟨b0, b1, b2, b3, b4, b5⟩ u (cfgIntegrity die kind s) := by
  unfold cfgIntegrity
  try dsimp only
  repeat' (first
    | with_reducible assumption | with_reducible apply keeps_raiseEvent | (intro _) | split | dsimp only [id_eq])

theorem keeps_markPending {b0 b1 b2 b3 b4 b5 : Bool} {u : State} (die : ℕ) (s : State)
 (hk : Keeps ⟨b0, b1, b2, b3, b4, b5⟩ u s) :
    Keeps ⟨b0, b1, b2, b3, b4, b5⟩ u (markPending die s) := by
  unfold markPending
  try dsimp only
  repeat' (first
    | with_reducible assumption | with_reducible apply keeps_setBlock | with_reducible apply keeps_setCheck
    | fail_if_no_progress with_reducible apply keeps_mk | (intro _) | split | dsimp only [id_eq])

theorem keeps_settleCommit {b0 b1 b2 b3 b4 b5 : Bool} {u : State} (s : State) (hk : Keeps ⟨b0, b1, b2, b3, b4, b5⟩ u s) :
    Keeps ⟨b0, b1, b2, b3, b4, b5⟩ u (settleCommit s) := by
  unfold settleCommit
  try dsimp only
  repeat' (first
    | with_reducible assumption | with_reducible apply keeps_dapFinishKey | (intro _) | split | dsimp only [id_eq])

theorem keeps_execCfgWalkStart {b0 b1 b2 b3 b4 b5 : Bool} {u : State} (die : ℕ) (s : State)
 (hk : Keeps ⟨b0, b1, b2, b3, b4, b5⟩ u s) :
    ∀ t, execCfgWalkStart die s = .next t → Keeps ⟨b0, b1, b2, b3, b4, b5⟩ u t := by
  intro t e
  unfold execCfgWalkStart at e
  cases e
  repeat' (first
    | with_reducible assumption | with_reducible apply keeps_setBlock | fail_if_no_progress with_reducible apply keeps_mk
    | (intro _) | split | dsimp only [id_eq])

theorem keeps_cfgMismatch {b0 b1 b2 b3 b4 b5 : Bool} {u : State} (die : ℕ) (kind : ℕ) (s : State)
 (hk : Keeps ⟨b0, b1, b2, b3, b4, b5⟩ u s) :
    Keeps ⟨b0, b1, b2, b3, b4, b5⟩ u (cfgMismatch die kind s) := by
  unfold cfgMismatch
  try dsimp only
  repeat' (first
    | with_reducible assumption | with_reducible apply keeps_cfgIntegrity | with_reducible apply keeps_maskBit
    | with_reducible apply keeps_setBlock | fail_if_no_progress with_reducible apply keeps_mk | (intro _) | split
    | dsimp only [id_eq])

theorem keeps_doWalkEnd {b0 b1 b2 b3 b4 b5 : Bool} {u : State} (die : ℕ) (s : State)
 (hk : Keeps ⟨b0, b1, b2, b3, b4, b5⟩ u s) :
    Keeps ⟨b0, b1, b2, b3, b4, b5⟩ u (doWalkEnd die s) := by
  unfold doWalkEnd
  try dsimp only
  repeat' (first
    | with_reducible assumption | with_reducible apply keeps_cfgMismatch | with_reducible apply keeps_setBlock
    | with_reducible apply keeps_setCheck | with_reducible apply keeps_setObj | with_reducible apply keeps_settleCommit
    | fail_if_no_progress with_reducible apply keeps_mk | (intro _) | split | dsimp only [id_eq])

theorem keeps_execCfgWalkEnd {b0 b1 b2 b3 b4 b5 : Bool} {u : State} (die : ℕ) (s : State)
 (hk : Keeps ⟨b0, b1, b2, b3, b4, b5⟩ u s) :
    ∀ t, execCfgWalkEnd die s = .next t → Keeps ⟨b0, b1, b2, b3, b4, b5⟩ u t := by
  intro t e
  unfold execCfgWalkEnd at e
  cases e
  repeat' (first
    | with_reducible assumption | with_reducible apply keeps_doWalkEnd | (intro _) | split | dsimp only [id_eq])

theorem keeps_execCfgPendingOverdue {b0 b1 b2 b3 b4 b5 : Bool} {u : State} (die : ℕ) (s : State)
 (hk : Keeps ⟨b0, b1, b2, b3, b4, b5⟩ u s) :
    ∀ t, execCfgPendingOverdue die s = .next t → Keeps ⟨b0, b1, b2, b3, b4, b5⟩ u t := by
  intro t e
  unfold execCfgPendingOverdue at e
  cases e
  repeat' (first
    | with_reducible assumption | with_reducible apply keeps_cfgIntegrity | with_reducible apply keeps_setBlock
    | fail_if_no_progress with_reducible apply keeps_mk | (intro _) | split | dsimp only [id_eq])

theorem keeps_doCfgCommit {b0 b1 b2 b3 b4 b5 : Bool} {u : State} (c : Ctx) (s : State)
 (hk : Keeps ⟨b0, b1, b2, b3, b4, b5⟩ u s) :
    Keeps ⟨b0, b1, b2, b3, b4, b5⟩ u (doCfgCommit c s) := by
  unfold doCfgCommit
  try dsimp only
  repeat' (first
    | with_reducible assumption | with_reducible apply keeps_finBad | with_reducible apply keeps_setCheck
    | with_reducible apply keeps_settleCommit | with_reducible apply keeps_foldl | with_reducible apply keeps_foldl_snd
    | (intro _) | split | dsimp only [id_eq])

theorem keeps_execCfgCommit {b0 b1 b2 b3 b4 b5 : Bool} {u : State} (d : DapMsg) (s : State)
 (hk : Keeps ⟨b0, b1, b2, b3, b4, b5⟩ u s) :
    ∀ t, execCfgCommit d s = .next t → Keeps ⟨b0, b1, b2, b3, b4, b5⟩ u t := by
  intro t e
  unfold execCfgCommit at e
  cases e
  repeat' (first
    | with_reducible assumption | with_reducible apply keeps_dapServe | with_reducible apply keeps_doCfgCommit | (intro _)
    | split | dsimp only [id_eq])

theorem keeps_execCfgCommitTimeout {b0 b1 b2 b3 b4 b5 : Bool} {u : State} (s : State)
 (hk : Keeps ⟨b0, b1, b2, b3, b4, b5⟩ u s) :
    ∀ t, execCfgCommitTimeout s = .next t → Keeps ⟨b0, b1, b2, b3, b4, b5⟩ u t := by
  intro t e
  unfold execCfgCommitTimeout at e
  cases e
  repeat' (first
    | with_reducible assumption | with_reducible apply keeps_dapFinishKey | (intro _) | split | dsimp only [id_eq])

theorem keeps_discard {b0 b1 b2 b3 b4 b5 : Bool} {u : State} (die : ℕ) (reason : ℕ) (s : State)
 (hk : Keeps ⟨b0, b1, b2, b3, b4, b5⟩ u s) :
    Keeps ⟨b0, b1, b2, b3, b4, b5⟩ u (discard die reason s) := by
  unfold discard
  try dsimp only
  repeat' (first
    | with_reducible assumption | with_reducible apply keeps_bump | with_reducible apply keeps_setBlock
    | fail_if_no_progress with_reducible apply keeps_mk | (intro _) | split | dsimp only [id_eq])

theorem keeps_applyGuarded {b0 b1 b2 b3 b4 b5 : Bool} {u : State} (die : ℕ) (low : ℕ) (v : ℕ) (s : State)
 (hk : Keeps ⟨b0, b1, b2, b3, b4, b5⟩ u s) :
    Keeps ⟨b0, b1, b2, b3, b4, b5⟩ u (applyGuarded die low v s) := by
  unfold applyGuarded
  try dsimp only
  repeat' (first
    | with_reducible assumption | with_reducible apply keeps_markPending | with_reducible apply keeps_setBlock
    | with_reducible apply keeps_setReg | with_reducible apply keeps_settleCommit
    | fail_if_no_progress with_reducible apply keeps_mk | (intro _) | split | dsimp only [id_eq])

theorem keeps_writeUnit {b0 b2 b4 b5 : Bool} {u : State} (die : ℕ) (a : ℕ) (v : ℕ) (s : State)
 (hk : Keeps ⟨b0, false, b2, false, b4, b5⟩ u s) :
    Keeps ⟨b0, false, b2, false, b4, b5⟩ u (writeUnit die a v s) := by
  unfold writeUnit
  try dsimp only
  repeat' (first
    | with_reducible assumption | with_reducible apply keeps_maskBit | with_reducible apply keeps_mbxAck
    | with_reducible apply keeps_setBlock | with_reducible apply keeps_setBox | with_reducible apply keeps_setReg
    | with_reducible apply keeps_setTile | with_reducible apply keeps_xltService
    | with_reducible refine keeps_mbxAck_eq (by assumption) ?_
    | with_reducible refine keeps_xltService_eq (by assumption) ?_ | fail_if_no_progress with_reducible apply keeps_mk
    | (intro _) | split | dsimp only [id_eq])

theorem keeps_writePair {b0 b1 b2 b3 b4 b5 : Bool} {u : State} (die : ℕ) (low : ℕ) (v : ℕ) (s : State)
 (hk : Keeps ⟨b0, b1, b2, b3, b4, b5⟩ u s) :
    Keeps ⟨b0, b1, b2, b3, b4, b5⟩ u (writePair die low v s) := by
  unfold writePair
  try dsimp only
  repeat' (first
    | with_reducible assumption | with_reducible apply keeps_setBlock | fail_if_no_progress with_reducible apply keeps_mk
    | (intro _) | split | dsimp only [id_eq])

theorem keeps_performWrite {b0 b2 b4 b5 : Bool} {u : State} (die : ℕ) (a : ℕ) (v : ℕ) (s : State)
 (hk : Keeps ⟨b0, false, b2, false, b4, b5⟩ u s) :
    Keeps ⟨b0, false, b2, false, b4, b5⟩ u (performWrite die a v s) := by
  unfold performWrite
  try dsimp only
  repeat' (first
    | with_reducible assumption | with_reducible apply keeps_writePair | with_reducible apply keeps_writeUnit | (intro _)
    | split | dsimp only [id_eq])

theorem keeps_blockWrite {b0 b2 b4 b5 : Bool} {u : State} (die : ℕ) (off : ℕ) (v : ℕ) (s : State)
 (hk : Keeps ⟨b0, false, b2, false, b4, b5⟩ u s) :
    Keeps ⟨b0, false, b2, false, b4, b5⟩ u (blockWrite die off v s) := by
  unfold blockWrite
  try dsimp only
  repeat' (first
    | with_reducible assumption | with_reducible apply keeps_applyGuarded | with_reducible apply keeps_discard
    | with_reducible apply keeps_performWrite | with_reducible apply keeps_setBlock
    | fail_if_no_progress with_reducible apply keeps_mk | (intro _) | split | dsimp only [id_eq])

theorem keeps_guardedPair {b0 b2 b4 b5 : Bool} {u : State} (die : ℕ) (off : ℕ) (v : ℕ) (s : State)
 (hk : Keeps ⟨b0, false, b2, false, b4, b5⟩ u s) :
    Keeps ⟨b0, false, b2, false, b4, b5⟩ u (guardedPair die off v s) := by
  unfold guardedPair
  try dsimp only
  repeat' (first
    | with_reducible assumption | with_reducible apply keeps_blockWrite | (intro _) | split | dsimp only [id_eq])

theorem keeps_dropGuard {b0 b1 b2 b3 b4 b5 : Bool} {u : State} (die : ℕ) (s : State)
 (hk : Keeps ⟨b0, b1, b2, b3, b4, b5⟩ u s) :
    Keeps ⟨b0, b1, b2, b3, b4, b5⟩ u (dropGuard die s) := by
  unfold dropGuard
  try dsimp only
  repeat' (first
    | with_reducible assumption | with_reducible apply keeps_discard | with_reducible apply keeps_setBlock
    | fail_if_no_progress with_reducible apply keeps_mk | (intro _) | split | dsimp only [id_eq])

theorem keeps_execRegWrite {b0 b2 b4 b5 : Bool} {u : State} (die : ℕ) (offset : ℕ) (value : ℕ) (s : State)
 (hk : Keeps ⟨b0, false, b2, false, b4, b5⟩ u s) :
    ∀ t, execRegWrite die offset value s = .next t → Keeps ⟨b0, false, b2, false, b4, b5⟩ u t := by
  intro t e
  unfold execRegWrite at e
  cases e
  repeat' (first
    | with_reducible assumption | with_reducible apply keeps_blockWrite | (intro _) | split | dsimp only [id_eq])

theorem keeps_execGuardedRegWrite {b0 b2 b4 b5 : Bool} {u : State} (die : ℕ) (offset : ℕ) (value : ℕ) (s : State)
 (hk : Keeps ⟨b0, false, b2, false, b4, b5⟩ u s) :
    ∀ t, execGuardedRegWrite die offset value s = .next t → Keeps ⟨b0, false, b2, false, b4, b5⟩ u t := by
  intro t e
  unfold execGuardedRegWrite at e
  cases e
  repeat' (first
    | with_reducible assumption | with_reducible apply keeps_blockWrite | (intro _) | split | dsimp only [id_eq])

theorem keeps_execComplementPortWrite {b0 b2 b4 b5 : Bool} {u : State} (die : ℕ) (offset : ℕ) (value : ℕ) (s : State)
 (hk : Keeps ⟨b0, false, b2, false, b4, b5⟩ u s) :
    ∀ t, execComplementPortWrite die offset value s = .next t → Keeps ⟨b0, false, b2, false, b4, b5⟩ u t := by
  intro t e
  unfold execComplementPortWrite at e
  cases e
  repeat' (first
    | with_reducible assumption | with_reducible apply keeps_blockWrite | (intro _) | split | dsimp only [id_eq])

theorem keeps_execGuardTimeout {b0 b1 b2 b3 b4 b5 : Bool} {u : State} (die : ℕ) (s : State)
 (hk : Keeps ⟨b0, b1, b2, b3, b4, b5⟩ u s) :
    ∀ t, execGuardTimeout die s = .next t → Keeps ⟨b0, b1, b2, b3, b4, b5⟩ u t := by
  intro t e
  unfold execGuardTimeout at e
  cases e
  repeat' (first
    | with_reducible assumption | with_reducible apply keeps_discard | (intro _) | split | dsimp only [id_eq])

theorem keeps_firmwareRead {b0 b1 b2 b3 b4 b5 : Bool} {u : State} (die : ℕ) (offset : ℕ) (s : State)
 (hk : Keeps ⟨b0, b1, b2, b3, b4, b5⟩ u s) :
    Keeps ⟨b0, b1, b2, b3, b4, b5⟩ u (firmwareRead die offset s) := by
  unfold firmwareRead
  try dsimp only
  repeat' (first
    | with_reducible assumption | with_reducible apply keeps_emit | with_reducible apply keeps_readWord
    | with_reducible refine keeps_readWord_eq (by assumption) ?_ | (intro _) | split | dsimp only [id_eq])

theorem keeps_execRegLoRead {b0 b1 b2 b3 b4 b5 : Bool} {u : State} (die : ℕ) (offset : ℕ) (s : State)
 (hk : Keeps ⟨b0, b1, b2, b3, b4, b5⟩ u s) :
    ∀ t, execRegLoRead die offset s = .next t → Keeps ⟨b0, b1, b2, b3, b4, b5⟩ u t := by
  intro t e
  unfold execRegLoRead at e
  cases e
  repeat' (first
    | with_reducible assumption | with_reducible apply keeps_firmwareRead | (intro _) | split | dsimp only [id_eq])

theorem keeps_execRegHiRead {b0 b1 b2 b3 b4 b5 : Bool} {u : State} (die : ℕ) (offset : ℕ) (s : State)
 (hk : Keeps ⟨b0, b1, b2, b3, b4, b5⟩ u s) :
    ∀ t, execRegHiRead die offset s = .next t → Keeps ⟨b0, b1, b2, b3, b4, b5⟩ u t := by
  intro t e
  unfold execRegHiRead at e
  cases e
  repeat' (first
    | with_reducible assumption | with_reducible apply keeps_firmwareRead | (intro _) | split | dsimp only [id_eq])

theorem keeps_execRegLoWrite {b0 b2 b4 b5 : Bool} {u : State} (die : ℕ) (offset : ℕ) (value : ℕ) (s : State)
 (hk : Keeps ⟨b0, false, b2, false, b4, b5⟩ u s) :
    ∀ t, execRegLoWrite die offset value s = .next t → Keeps ⟨b0, false, b2, false, b4, b5⟩ u t := by
  intro t e
  unfold execRegLoWrite at e
  cases e
  repeat' (first
    | with_reducible assumption | with_reducible apply keeps_blockWrite | (intro _) | split | dsimp only [id_eq])

theorem keeps_execRegHiWrite {b0 b2 b4 b5 : Bool} {u : State} (die : ℕ) (offset : ℕ) (value : ℕ) (s : State)
 (hk : Keeps ⟨b0, false, b2, false, b4, b5⟩ u s) :
    ∀ t, execRegHiWrite die offset value s = .next t → Keeps ⟨b0, false, b2, false, b4, b5⟩ u t := by
  intro t e
  unfold execRegHiWrite at e
  cases e
  repeat' (first
    | with_reducible assumption | with_reducible apply keeps_blockWrite | (intro _) | split | dsimp only [id_eq])

theorem keeps_execMbxAckWrite {b0 b2 b4 b5 : Bool} {u : State} (die : ℕ) (mailbox : ℕ) (value : ℕ) (s : State)
 (hk : Keeps ⟨b0, false, b2, false, b4, b5⟩ u s) :
    ∀ t, execMbxAckWrite die mailbox value s = .next t → Keeps ⟨b0, false, b2, false, b4, b5⟩ u t := by
  intro t e
  unfold execMbxAckWrite at e
  cases e
  repeat' (first
    | with_reducible assumption | with_reducible apply keeps_blockWrite | (intro _) | split | dsimp only [id_eq])

theorem keeps_execFabTileSelWrite {b0 b2 b4 b5 : Bool} {u : State} (die : ℕ) (value : ℕ) (s : State)
 (hk : Keeps ⟨b0, false, b2, false, b4, b5⟩ u s) :
    ∀ t, execFabTileSelWrite die value s = .next t → Keeps ⟨b0, false, b2, false, b4, b5⟩ u t := by
  intro t e
  unfold execFabTileSelWrite at e
  cases e
  repeat' (first
    | with_reducible assumption | with_reducible apply keeps_blockWrite | (intro _) | split | dsimp only [id_eq])

theorem keeps_execHomeDirProbeWrite {b0 b2 b4 b5 : Bool} {u : State} (die : ℕ) (value : ℕ) (s : State)
 (hk : Keeps ⟨b0, false, b2, false, b4, b5⟩ u s) :
    ∀ t, execHomeDirProbeWrite die value s = .next t → Keeps ⟨b0, false, b2, false, b4, b5⟩ u t := by
  intro t e
  unfold execHomeDirProbeWrite at e
  cases e
  repeat' (first
    | with_reducible assumption | with_reducible apply keeps_blockWrite | (intro _) | split | dsimp only [id_eq])

theorem keeps_rawAccess {b0 b1 b2 b3 b4 b5 : Bool} {u : State} (c : Ctx) (act : State → State) (s : State) (hact : ∀
 (w : State), Keeps ⟨b0, b1, b2, b3, b4, b5⟩ u w → Keeps ⟨b0, b1, b2, b3, b4, b5⟩ u (act w))
 (hk : Keeps ⟨b0, b1, b2, b3, b4, b5⟩ u s) :
    Keeps ⟨b0, b1, b2, b3, b4, b5⟩ u (rawAccess c act s) := by
  unfold rawAccess
  try dsimp only
  repeat' (first
    | with_reducible assumption | with_reducible apply keeps_fin | with_reducible apply keeps_wake
    | with_reducible apply hact | (intro _) | split | dsimp only [id_eq])

theorem keeps_doRawDie {b1 b2 b3 b4 b5 : Bool} {u : State} (c : Ctx) (s : State)
 (hk : Keeps ⟨false, b1, b2, b3, b4, b5⟩ u s) :
    Keeps ⟨false, b1, b2, b3, b4, b5⟩ u (doRawDie c s) := by
  unfold doRawDie
  try dsimp only
  repeat' (first
    | with_reducible assumption | with_reducible apply keeps_applied | with_reducible apply keeps_finBad
    | with_reducible apply keeps_setObj | (intro _) | split | dsimp only [id_eq])

theorem keeps_doRawOffset {b1 b2 b3 b4 b5 : Bool} {u : State} (c : Ctx) (s : State)
 (hk : Keeps ⟨false, b1, b2, b3, b4, b5⟩ u s) :
    Keeps ⟨false, b1, b2, b3, b4, b5⟩ u (doRawOffset c s) := by
  unfold doRawOffset
  try dsimp only
  repeat' (first
    | with_reducible assumption | with_reducible apply keeps_applied | with_reducible apply keeps_finBad
    | with_reducible apply keeps_setObj | (intro _) | split | dsimp only [id_eq])

theorem keeps_finRead {b0 b1 b2 b3 b4 b5 : Bool} {u : State} (c : Ctx) (n : ℕ) (v : ℕ) (s : State)
 (hk : Keeps ⟨b0, b1, b2, b3, b4, b5⟩ u s) :
    Keeps ⟨b0, b1, b2, b3, b4, b5⟩ u (finRead c n v s) := by
  unfold finRead
  try dsimp only
  repeat' (first
    | with_reducible assumption | with_reducible apply keeps_dapFinish | (intro _) | split | dsimp only [id_eq])

theorem keeps_doRawRead {b0 b1 b2 b3 b4 b5 : Bool} {u : State} (c : Ctx) (s : State)
 (hk : Keeps ⟨b0, b1, b2, b3, b4, b5⟩ u s) :
    Keeps ⟨b0, b1, b2, b3, b4, b5⟩ u (doRawRead c s) := by
  unfold doRawRead
  try dsimp only
  repeat' (first
    | with_reducible assumption | with_reducible apply keeps_finRead | with_reducible apply keeps_rawAccess
    | with_reducible apply keeps_readWord | with_reducible refine keeps_readWord_eq (by assumption) ?_ | (intro _) | split
    | dsimp only [id_eq])

theorem keeps_doRawWrite {b2 b4 b5 : Bool} {u : State} (c : Ctx) (s : State)
 (hk : Keeps ⟨false, false, b2, false, b4, b5⟩ u s) :
    Keeps ⟨false, false, b2, false, b4, b5⟩ u (doRawWrite c s) := by
  unfold doRawWrite
  try dsimp only
  repeat' (first
    | with_reducible assumption | with_reducible apply keeps_applied | with_reducible apply keeps_blockWrite
    | with_reducible apply keeps_rawAccess | (intro _) | split | dsimp only [id_eq])

theorem keeps_doRawRead64 {b0 b1 b2 b3 b4 b5 : Bool} {u : State} (c : Ctx) (s : State)
 (hk : Keeps ⟨b0, b1, b2, b3, b4, b5⟩ u s) :
    Keeps ⟨b0, b1, b2, b3, b4, b5⟩ u (doRawRead64 c s) := by
  unfold doRawRead64
  try dsimp only
  repeat' (first
    | with_reducible assumption | with_reducible apply keeps_finBad | with_reducible apply keeps_finRead
    | with_reducible apply keeps_rawAccess | with_reducible apply keeps_readWord
    | with_reducible refine keeps_readWord_eq (by assumption) ?_ | (intro _) | split | dsimp only [id_eq])

theorem keeps_doRawWrite64 {b2 b4 b5 : Bool} {u : State} (c : Ctx) (s : State)
 (hk : Keeps ⟨false, false, b2, false, b4, b5⟩ u s) :
    Keeps ⟨false, false, b2, false, b4, b5⟩ u (doRawWrite64 c s) := by
  unfold doRawWrite64
  try dsimp only
  repeat' (first
    | with_reducible assumption | with_reducible apply keeps_applied | with_reducible apply keeps_blockWrite
    | with_reducible apply keeps_finBad | with_reducible apply keeps_rawAccess | (intro _) | split | dsimp only [id_eq])

theorem keeps_doRawGuarded {b2 b4 b5 : Bool} {u : State} (c : Ctx) (s : State)
 (hk : Keeps ⟨false, false, b2, false, b4, b5⟩ u s) :
    Keeps ⟨false, false, b2, false, b4, b5⟩ u (doRawGuarded c s) := by
  unfold doRawGuarded
  try dsimp only
  repeat' (first
    | with_reducible assumption | with_reducible apply keeps_applied | with_reducible apply keeps_finBad
    | with_reducible apply keeps_finOk | with_reducible apply keeps_guardedPair | with_reducible apply keeps_rawAccess
    | (intro _) | split | dsimp only [id_eq])

theorem keeps_execRawDieWrite {b1 b2 b3 b4 b5 : Bool} {u : State} (d : DapMsg) (s : State)
 (hk : Keeps ⟨false, b1, b2, b3, b4, b5⟩ u s) :
    ∀ t, execRawDieWrite d s = .next t → Keeps ⟨false, b1, b2, b3, b4, b5⟩ u t := by
  intro t e
  unfold execRawDieWrite at e
  cases e
  repeat' (first
    | with_reducible assumption | with_reducible apply keeps_dapServe | with_reducible apply keeps_doRawDie | (intro _)
    | split | dsimp only [id_eq])

theorem keeps_execRawOffsetWrite {b1 b2 b3 b4 b5 : Bool} {u : State} (d : DapMsg) (s : State)
 (hk : Keeps ⟨false, b1, b2, b3, b4, b5⟩ u s) :
    ∀ t, execRawOffsetWrite d s = .next t → Keeps ⟨false, b1, b2, b3, b4, b5⟩ u t := by
  intro t e
  unfold execRawOffsetWrite at e
  cases e
  repeat' (first
    | with_reducible assumption | with_reducible apply keeps_dapServe | with_reducible apply keeps_doRawOffset | (intro _)
    | split | dsimp only [id_eq])

theorem keeps_execRawDataRead {b0 b1 b2 b3 b4 b5 : Bool} {u : State} (d : DapMsg) (s : State)
 (hk : Keeps ⟨b0, b1, b2, b3, b4, b5⟩ u s) :
    ∀ t, execRawDataRead d s = .next t → Keeps ⟨b0, b1, b2, b3, b4, b5⟩ u t := by
  intro t e
  unfold execRawDataRead at e
  cases e
  repeat' (first
    | with_reducible assumption | with_reducible apply keeps_dapServe | with_reducible apply keeps_doRawRead | (intro _)
    | split | dsimp only [id_eq])

theorem keeps_execRawDataWrite {b2 b4 b5 : Bool} {u : State} (d : DapMsg) (s : State)
 (hk : Keeps ⟨false, false, b2, false, b4, b5⟩ u s) :
    ∀ t, execRawDataWrite d s = .next t → Keeps ⟨false, false, b2, false, b4, b5⟩ u t := by
  intro t e
  unfold execRawDataWrite at e
  cases e
  repeat' (first
    | with_reducible assumption | with_reducible apply keeps_dapServe | with_reducible apply keeps_doRawWrite | (intro _)
    | split | dsimp only [id_eq])

theorem keeps_execRawData64Read {b0 b1 b2 b3 b4 b5 : Bool} {u : State} (d : DapMsg) (s : State)
 (hk : Keeps ⟨b0, b1, b2, b3, b4, b5⟩ u s) :
    ∀ t, execRawData64Read d s = .next t → Keeps ⟨b0, b1, b2, b3, b4, b5⟩ u t := by
  intro t e
  unfold execRawData64Read at e
  cases e
  repeat' (first
    | with_reducible assumption | with_reducible apply keeps_dapServe | with_reducible apply keeps_doRawRead64 | (intro _)
    | split | dsimp only [id_eq])

theorem keeps_execRawData64Write {b2 b4 b5 : Bool} {u : State} (d : DapMsg) (s : State)
 (hk : Keeps ⟨false, false, b2, false, b4, b5⟩ u s) :
    ∀ t, execRawData64Write d s = .next t → Keeps ⟨false, false, b2, false, b4, b5⟩ u t := by
  intro t e
  unfold execRawData64Write at e
  cases e
  repeat' (first
    | with_reducible assumption | with_reducible apply keeps_dapServe | with_reducible apply keeps_doRawWrite64
    | (intro _) | split | dsimp only [id_eq])

theorem keeps_execRawGuardedWrite {b2 b4 b5 : Bool} {u : State} (d : DapMsg) (s : State)
 (hk : Keeps ⟨false, false, b2, false, b4, b5⟩ u s) :
    ∀ t, execRawGuardedWrite d s = .next t → Keeps ⟨false, false, b2, false, b4, b5⟩ u t := by
  intro t e
  unfold execRawGuardedWrite at e
  cases e
  repeat' (first
    | with_reducible assumption | with_reducible apply keeps_dapServe | with_reducible apply keeps_doRawGuarded
    | (intro _) | split | dsimp only [id_eq])

theorem keeps_doCheckEnable {b2 b4 b5 : Bool} {u : State} (c : Ctx) (s : State)
 (hk : Keeps ⟨false, false, b2, false, b4, b5⟩ u s) :
    Keeps ⟨false, false, b2, false, b4, b5⟩ u (doCheckEnable c s) := by
  unfold doCheckEnable
  try dsimp only
  repeat' (first
    | with_reducible assumption | with_reducible apply keeps_applied | with_reducible apply keeps_guardedPair
    | with_reducible apply keeps_setObj | with_reducible apply keeps_foldl | with_reducible apply keeps_foldl_snd
    | (intro _) | split | dsimp only [id_eq])

theorem keeps_execRegCountersClear {b1 b2 b3 b4 b5 : Bool} {u : State} (d : DapMsg) (s : State)
 (hk : Keeps ⟨false, b1, b2, b3, b4, b5⟩ u s) :
    ∀ t, execRegCountersClear d s = .next t → Keeps ⟨false, b1, b2, b3, b4, b5⟩ u t := by
  intro t e
  unfold execRegCountersClear at e
  cases e
  repeat' (first
    | with_reducible assumption | with_reducible apply keeps_clearObj | with_reducible apply keeps_clearObjs | (intro _)
    | split | dsimp only [id_eq])

theorem keeps_pageWrite {b0 b2 b4 b5 : Bool} {u : State} (off : ℕ) (v : ℕ) (tenant : ℕ) (s : State)
 (hk : Keeps ⟨b0, false, b2, false, b4, b5⟩ u s) :
    Keeps ⟨b0, false, b2, false, b4, b5⟩ u (pageWrite off v tenant s).2 := by
  unfold pageWrite
  try dsimp only
  repeat' (first
    | with_reducible assumption | with_reducible apply keeps_mbxAck | with_reducible apply keeps_xltService
    | with_reducible refine keeps_mbxAck_eq (by assumption) ?_
    | with_reducible refine keeps_xltService_eq (by assumption) ?_ | fail_if_no_progress with_reducible apply keeps_mk
    | (intro _) | split | dsimp only [id_eq])

theorem keeps_pageWrite_eq {b0 b2 b4 b5 : Bool} {u w : State} {r0 : Status} {off : ℕ} {v : ℕ} {tenant : ℕ} {s : State}
 (e : pageWrite off v tenant s = (r0, w)) (hk : Keeps ⟨b0, false, b2, false, b4, b5⟩ u s) :
    Keeps ⟨b0, false, b2, false, b4, b5⟩ u w := by
  have := keeps_pageWrite off v tenant s  hk; rwa [e] at this

theorem keeps_doDoorbell {b0 b1 b2 b3 b4 b5 : Bool} {u : State} (rq : Req) (s : State)
 (hk : Keeps ⟨b0, b1, b2, b3, b4, b5⟩ u s) :
    Keeps ⟨b0, b1, b2, b3, b4, b5⟩ u (doDoorbell rq s) := by
  unfold doDoorbell
  try dsimp only
  repeat' (first
    | with_reducible assumption | with_reducible apply keeps_completeWith | with_reducible apply keeps_doorbellAt
    | with_reducible refine keeps_doorbellAt_eq (by assumption) ?_ | (intro _) | split | dsimp only [id_eq])

theorem keeps_serveRead {b0 b1 b2 b3 b4 b5 : Bool} {u : State} (op : ℕ) (h : Hdr) (found : List (ℕ × ℕ))
 (act : Req → State → State) (s : State) (hact : ∀ a0
 (w : State), Keeps ⟨b0, b1, b2, b3, b4, b5⟩ u w → Keeps ⟨b0, b1, b2, b3, b4, b5⟩ u (act a0 w))
 (hk : Keeps ⟨b0, b1, b2, b3, b4, b5⟩ u s) :
    Keeps ⟨b0, b1, b2, b3, b4, b5⟩ u (serveRead op h found act s) := by
  unfold serveRead
  try dsimp only
  repeat' (first
    | with_reducible assumption | with_reducible apply keeps_serve | with_reducible apply hact | (intro _) | split
    | dsimp only [id_eq])

theorem keeps_doWrite {b0 b2 b4 b5 : Bool} {u : State} (rq : Req) (s : State)
 (hk : Keeps ⟨b0, false, b2, false, b4, b5⟩ u s) :
    Keeps ⟨b0, false, b2, false, b4, b5⟩ u (doWrite rq s) := by
  unfold doWrite
  try dsimp only
  repeat' (first
    | with_reducible assumption | with_reducible apply keeps_complete | with_reducible apply keeps_pageWrite
    | with_reducible apply keeps_startWrite | with_reducible refine keeps_pageWrite_eq (by assumption) ?_ | (intro _)
    | split | dsimp only [id_eq])

theorem keeps_serveWrite {b0 b1 b2 b3 b4 b5 : Bool} {u : State} (op : ℕ) (h : Hdr) (data : ℕ)
 (act : Req → State → State) (s : State) (hact : ∀ a0
 (w : State), Keeps ⟨b0, b1, b2, b3, b4, b5⟩ u w → Keeps ⟨b0, b1, b2, b3, b4, b5⟩ u (act a0 w))
 (hk : Keeps ⟨b0, b1, b2, b3, b4, b5⟩ u s) :
    Keeps ⟨b0, b1, b2, b3, b4, b5⟩ u (serveWrite op h data act s) := by
  unfold serveWrite
  try dsimp only
  repeat' (first
    | with_reducible assumption | with_reducible apply keeps_serve | with_reducible apply hact | (intro _) | split
    | dsimp only [id_eq])

theorem keeps_execRead {b0 b2 b3 b4 b5 : Bool} {u : State} (h : Hdr) (found : List (ℕ × ℕ)) (s : State)
 (hk : Keeps ⟨b0, false, b2, b3, b4, b5⟩ u s) :
    ∀ t, execRead h found s = .next t → Keeps ⟨b0, false, b2, b3, b4, b5⟩ u t := by
  intro t e
  unfold execRead at e
  cases e
  repeat' (first
    | with_reducible assumption | with_reducible apply keeps_serveRead | with_reducible apply keeps_startRead | (intro _)
    | split | dsimp only [id_eq])

theorem keeps_execReadAcq {b0 b2 b3 b4 b5 : Bool} {u : State} (h : Hdr) (found : List (ℕ × ℕ)) (s : State)
 (hk : Keeps ⟨b0, false, b2, b3, b4, b5⟩ u s) :
    ∀ t, execReadAcq h found s = .next t → Keeps ⟨b0, false, b2, b3, b4, b5⟩ u t := by
  intro t e
  unfold execReadAcq at e
  cases e
  repeat' (first
    | with_reducible assumption | with_reducible apply keeps_orderedStart | with_reducible apply keeps_serveRead
    | (intro _) | split | dsimp only [id_eq])

theorem keeps_execWrite {b0 b2 b4 b5 : Bool} {u : State} (h : Hdr) (data : ℕ) (s : State)
 (hk : Keeps ⟨b0, false, b2, false, b4, b5⟩ u s) :
    ∀ t, execWrite h data s = .next t → Keeps ⟨b0, false, b2, false, b4, b5⟩ u t := by
  intro t e
  unfold execWrite at e
  cases e
  repeat' (first
    | with_reducible assumption | with_reducible apply keeps_doWrite | with_reducible apply keeps_serveWrite | (intro _)
    | split | dsimp only [id_eq])

theorem keeps_execWriteRel {b0 b2 b3 b4 b5 : Bool} {u : State} (h : Hdr) (data : ℕ) (s : State)
 (hk : Keeps ⟨b0, false, b2, b3, b4, b5⟩ u s) :
    ∀ t, execWriteRel h data s = .next t → Keeps ⟨b0, false, b2, b3, b4, b5⟩ u t := by
  intro t e
  unfold execWriteRel at e
  cases e
  repeat' (first
    | with_reducible assumption | with_reducible apply keeps_orderedStart | with_reducible apply keeps_serveWrite
    | (intro _) | split | dsimp only [id_eq])

theorem keeps_execAtomic {b0 b2 b3 b4 b5 : Bool} {u : State} (h : Hdr) (body : ℕ) (s : State)
 (hk : Keeps ⟨b0, false, b2, b3, b4, b5⟩ u s) :
    ∀ t, execAtomic h body s = .next t → Keeps ⟨b0, false, b2, b3, b4, b5⟩ u t := by
  intro t e
  unfold execAtomic at e
  cases e
  repeat' (first
    | with_reducible assumption | with_reducible apply keeps_serve | with_reducible apply keeps_startAtomic | (intro _)
    | split | dsimp only [id_eq])

theorem keeps_execPublish {b0 b2 b3 b4 b5 : Bool} {u : State} (h : Hdr) (body : ℕ) (data : ℕ) (s : State)
 (hk : Keeps ⟨b0, false, b2, b3, b4, b5⟩ u s) :
    ∀ t, execPublish h body data s = .next t → Keeps ⟨b0, false, b2, b3, b4, b5⟩ u t := by
  intro t e
  unfold execPublish at e
  cases e
  repeat' (first
    | with_reducible assumption | with_reducible apply keeps_orderedStart | with_reducible apply keeps_serve | (intro _)
    | split | dsimp only [id_eq])

theorem keeps_execDoorbell {b0 b1 b2 b3 b4 b5 : Bool} {u : State} (h : Hdr) (body : ℕ) (s : State)
 (hk : Keeps ⟨b0, b1, b2, b3, b4, b5⟩ u s) :
    ∀ t, execDoorbell h body s = .next t → Keeps ⟨b0, b1, b2, b3, b4, b5⟩ u t := by
  intro t e
  unfold execDoorbell at e
  cases e
  repeat' (first
    | with_reducible assumption | with_reducible apply keeps_doDoorbell | with_reducible apply keeps_serve | (intro _)
    | split | dsimp only [id_eq])

theorem keeps_execUnknownOpcode {b0 b1 b2 b3 b4 b5 : Bool} {u : State} (h : Hdr) (opcode : ℕ) (s : State)
 (hk : Keeps ⟨b0, b1, b2, b3, b4, b5⟩ u s) :
    ∀ t, execUnknownOpcode h opcode s = .next t → Keeps ⟨b0, b1, b2, b3, b4, b5⟩ u t := by
  intro t e
  unfold execUnknownOpcode at e
  cases e
  repeat' (first
    | with_reducible assumption | with_reducible apply keeps_serve | (intro _) | split | dsimp only [id_eq])

theorem keeps_execScratchpadWindowAccess {b0 b2 b4 b5 : Bool} {u : State} (w1 : WindowAccess) (s : State)
 (hk : Keeps ⟨b0, false, b2, false, b4, b5⟩ u s) :
    ∀ t, execScratchpadWindowAccess w1 s = .next t → Keeps ⟨b0, false, b2, false, b4, b5⟩ u t := by
  intro t e
  unfold execScratchpadWindowAccess at e
  cases e
  repeat' (first
    | with_reducible assumption | with_reducible apply keeps_doWrite | with_reducible apply keeps_serveRead
    | with_reducible apply keeps_serveWrite | with_reducible apply keeps_startRead | (intro _) | split
    | dsimp only [id_eq])

theorem keeps_execXltRetry {b0 b2 b4 b5 : Bool} {u : State} (h : Hdr) (value : ℕ) (s : State)
 (hk : Keeps ⟨b0, false, b2, false, b4, b5⟩ u s) :
    ∀ t, execXltRetry h value s = .next t → Keeps ⟨b0, false, b2, false, b4, b5⟩ u t := by
  intro t e
  unfold execXltRetry at e
  cases e
  repeat' (first
    | with_reducible assumption | with_reducible apply keeps_doWrite | with_reducible apply keeps_serveWrite | (intro _)
    | split | dsimp only [id_eq])

theorem keeps_execXltAbort {b0 b2 b4 b5 : Bool} {u : State} (h : Hdr) (value : ℕ) (s : State)
 (hk : Keeps ⟨b0, false, b2, false, b4, b5⟩ u s) :
    ∀ t, execXltAbort h value s = .next t → Keeps ⟨b0, false, b2, false, b4, b5⟩ u t := by
  intro t e
  unfold execXltAbort at e
  cases e
  repeat' (first
    | with_reducible assumption | with_reducible apply keeps_doWrite | with_reducible apply keeps_serveWrite | (intro _)
    | split | dsimp only [id_eq])

theorem keeps_deliver {b0 b1 b2 b3 b4 b5 : Bool} {u : State} (t : ℕ) (i : ℕ) (v : ℕ) (bad : Bool) (s : State)
 (hk : Keeps ⟨b0, b1, b2, b3, b4, b5⟩ u s) :
    Keeps ⟨b0, b1, b2, b3, b4, b5⟩ u (deliver t i v bad s) := by
  unfold deliver
  try dsimp only
  repeat' (first
    | with_reducible assumption | with_reducible apply keeps_setTile | fail_if_no_progress with_reducible apply keeps_mk
    | with_reducible apply keeps_foldl | with_reducible apply keeps_foldl_snd | (intro _) | split | dsimp only [id_eq])

theorem keeps_addFlags {b0 b1 b2 b3 b4 b5 : Bool} {u : State} (t : ℕ) (fl : ℕ) (s : State)
 (hk : Keeps ⟨b0, b1, b2, b3, b4, b5⟩ u s) :
    Keeps ⟨b0, b1, b2, b3, b4, b5⟩ u (addFlags t fl s) := by
  unfold addFlags
  try dsimp only
  repeat' (first
    | with_reducible assumption | with_reducible apply keeps_setTile | fail_if_no_progress with_reducible apply keeps_mk
    | (intro _) | split | dsimp only [id_eq])

theorem keeps_moveOut {b0 b2 b3 b4 b5 : Bool} {u : State} (t : ℕ) (f : Feed) (s : State)
 (hk : Keeps ⟨b0, false, b2, b3, b4, b5⟩ u s) :
    Keeps ⟨b0, false, b2, b3, b4, b5⟩ u (moveOut t f s) := by
  unfold moveOut
  try dsimp only
  repeat' (first
    | with_reducible assumption | with_reducible apply keeps_deliver | with_reducible apply keeps_engineStore
    | with_reducible apply keeps_setTile | with_reducible refine keeps_engineStore_eq (by assumption) ?_
    | fail_if_no_progress with_reducible apply keeps_mk | (intro _) | split | dsimp only [id_eq])

theorem keeps_mvLane {b0 b1 b2 b3 b4 b5 : Bool} {u : State} (t : ℕ) (m : MvStep) (wv : ℕ) (vv : ℕ) (l : ℕ) (bad : Bool)
 (s : State) (hk : Keeps ⟨b0, b1, b2, b3, b4, b5⟩ u s) :
    Keeps ⟨b0, b1, b2, b3, b4, b5⟩ u (mvLane t m wv vv l bad s) := by
  unfold mvLane
  try dsimp only
  repeat' (first
    | with_reducible assumption | with_reducible apply keeps_bump | with_reducible apply keeps_setTile
    | fail_if_no_progress with_reducible apply keeps_mk | (intro _) | split | dsimp only [id_eq])

theorem keeps_doMatrixVector {b0 b1 b2 b3 b4 b5 : Bool} {u : State} (t : ℕ) (m : MvStep) (w1 : Operand) (v : Operand)
 (s : State) (hk : Keeps ⟨b0, b1, b2, b3, b4, b5⟩ u s) :
    Keeps ⟨b0, b1, b2, b3, b4, b5⟩ u (doMatrixVector t m w1 v s) := by
  unfold doMatrixVector
  try dsimp only
  repeat' (first
    | with_reducible assumption | with_reducible apply keeps_mvLane | with_reducible apply keeps_setTile
    | fail_if_no_progress with_reducible apply keeps_mk | with_reducible apply keeps_foldl
    | with_reducible apply keeps_foldl_snd | (intro _) | split | dsimp only [id_eq])

theorem keeps_setVec {b0 b1 b2 b3 b4 b5 : Bool} {u : State} (t : ℕ) (w1 : ℕ) (r : List (ℕ × ℕ)) (scale : ℕ) (bad : Bool)
 (s : State) (hk : Keeps ⟨b0, b1, b2, b3, b4, b5⟩ u s) :
    Keeps ⟨b0, b1, b2, b3, b4, b5⟩ u (setVec t w1 r scale bad s) := by
  unfold setVec
  try dsimp only
  repeat' (first
    | with_reducible assumption | with_reducible apply keeps_setTile | fail_if_no_progress with_reducible apply keeps_mk
    | with_reducible apply keeps_foldl | with_reducible apply keeps_foldl_snd | (intro _) | split | dsimp only [id_eq])

theorem keeps_doVector {b0 b1 b2 b3 b4 b5 : Bool} {u : State} (t : ℕ) (op : VecOp) (a : Operand) (b : Operand)
 (c : Operand) (s : State) (hk : Keeps ⟨b0, b1, b2, b3, b4, b5⟩ u s) :
    Keeps ⟨b0, b1, b2, b3, b4, b5⟩ u (doVector t op a b c s) := by
  unfold doVector
  try dsimp only
  repeat' (first
    | with_reducible assumption | with_reducible apply keeps_setVec | (intro _) | split | dsimp only [id_eq])

theorem keeps_doSpecial {b0 b1 b2 b3 b4 b5 : Bool} {u : State} (t : ℕ) (fn : SpecialFn) (a : Operand) (b : Operand)
 (s : State) (hk : Keeps ⟨b0, b1, b2, b3, b4, b5⟩ u s) :
    Keeps ⟨b0, b1, b2, b3, b4, b5⟩ u (doSpecial t fn a b s) := by
  unfold doSpecial
  try dsimp only
  repeat' (first
    | with_reducible assumption | with_reducible apply keeps_setVec | (intro _) | split | dsimp only [id_eq])

theorem keeps_doReduce {b0 b1 b2 b3 b4 b5 : Bool} {u : State} (t : ℕ) (maximum : Bool) (a : Operand) (s : State)
 (hk : Keeps ⟨b0, b1, b2, b3, b4, b5⟩ u s) :
    Keeps ⟨b0, b1, b2, b3, b4, b5⟩ u (doReduce t maximum a s) := by
  unfold doReduce
  try dsimp only
  repeat' (first
    | with_reducible assumption | with_reducible apply keeps_setVec | (intro _) | split | dsimp only [id_eq])

theorem keeps_doConvert {b0 b1 b2 b3 b4 b5 : Bool} {u : State} (t : ℕ) (target : ℕ) (a : Operand) (s : State)
 (hk : Keeps ⟨b0, b1, b2, b3, b4, b5⟩ u s) :
    Keeps ⟨b0, b1, b2, b3, b4, b5⟩ u (doConvert t target a s) := by
  unfold doConvert
  try dsimp only
  repeat' (first
    | with_reducible assumption | with_reducible apply keeps_bump | with_reducible apply keeps_convBlock
    | with_reducible apply keeps_convList | with_reducible apply keeps_setVec
    | with_reducible refine keeps_convBlock_eq (by assumption) ?_
    | with_reducible refine keeps_convList_eq (by assumption) ?_ | (intro _) | split | dsimp only [id_eq])

theorem keeps_doUnit {b0 b1 b2 b3 b4 b5 : Bool} {u : State} (t : ℕ) (u1 : UnitStep) (f : Feed) (s : State)
 (hk : Keeps ⟨b0, b1, b2, b3, b4, b5⟩ u s) :
    Keeps ⟨b0, b1, b2, b3, b4, b5⟩ u (doUnit t u1 f s) := by
  unfold doUnit
  try dsimp only
  repeat' (first
    | with_reducible assumption | with_reducible apply keeps_doConvert | with_reducible apply keeps_doMatrixVector
    | with_reducible apply keeps_doReduce | with_reducible apply keeps_doSpecial | with_reducible apply keeps_doVector
    | fail_if_no_progress with_reducible apply keeps_mk | (intro _) | split | dsimp only [id_eq])

theorem keeps_unitStep {b0 b2 b4 b5 : Bool} {u : State} (t : ℕ) (u1 : UnitStep) (f : Feed) (s : State)
 (hk : Keeps ⟨b0, false, b2, false, b4, b5⟩ u s) :
    Keeps ⟨b0, false, b2, false, b4, b5⟩ u (unitStep t u1 f s) := by
  unfold unitStep
  try dsimp only
  repeat' (first
    | with_reducible assumption | with_reducible apply keeps_doUnit | with_reducible apply keeps_markCall
    | with_reducible apply keeps_moveOut | with_reducible apply keeps_setTile
    | fail_if_no_progress with_reducible apply keeps_mk | (intro _) | split | dsimp only [id_eq])

theorem keeps_countArenas {b0 b1 b2 b3 b4 b5 : Bool} {u : State} (s : State) (hk : Keeps ⟨b0, b1, b2, b3, b4, b5⟩ u s) :
    Keeps ⟨b0, b1, b2, b3, b4, b5⟩ u (countArenas s) := by
  unfold countArenas
  try dsimp only
  repeat' (first
    | with_reducible assumption | with_reducible apply keeps_setObj | (intro _) | split | dsimp only [id_eq])

theorem keeps_doArenaActivate {b0 b1 b2 b3 b5 : Bool} {u : State} (rq : Req) (s : State)
 (hk : Keeps ⟨b0, b1, b2, b3, false, b5⟩ u s) :
    Keeps ⟨b0, b1, b2, b3, false, b5⟩ u (doArenaActivate rq s) := by
  unfold doArenaActivate
  try dsimp only
  repeat' (first
    | with_reducible assumption | with_reducible apply keeps_complete | with_reducible apply keeps_countArenas
    | with_reducible apply keeps_farDefer | fail_if_no_progress with_reducible apply keeps_mk
    | fail_if_no_progress with_reducible apply keeps_mk_tables | (intro _) | split | dsimp only [id_eq])

theorem keeps_withArena {b0 b1 b2 b3 b4 b5 : Bool} {u : State} (rq : Req) (act : Arena → State → State) (s : State)
 (hact : ∀ a0 (w : State), Keeps ⟨b0, b1, b2, b3, b4, b5⟩ u w → Keeps ⟨b0, b1, b2, b3, b4, b5⟩ u (act a0 w))
 (hk : Keeps ⟨b0, b1, b2, b3, b4, b5⟩ u s) :
    Keeps ⟨b0, b1, b2, b3, b4, b5⟩ u (withArena rq act s) := by
  unfold withArena
  try dsimp only
  repeat' (first
    | with_reducible assumption | with_reducible apply keeps_complete | with_reducible apply hact
    | fail_if_no_progress with_reducible apply keeps_mk | (intro _) | split | dsimp only [id_eq])

theorem keeps_doArenaDeactivate {b0 b1 b2 b3 b5 : Bool} {u : State} (rq : Req) (s : State)
 (hk : Keeps ⟨b0, b1, b2, b3, false, b5⟩ u s) :
    Keeps ⟨b0, b1, b2, b3, false, b5⟩ u (doArenaDeactivate rq s) := by
  unfold doArenaDeactivate
  try dsimp only
  repeat' (first
    | with_reducible assumption | with_reducible apply keeps_complete | with_reducible apply keeps_countArenas
    | with_reducible apply keeps_deferReq | with_reducible apply keeps_withArena
    | fail_if_no_progress with_reducible apply keeps_mk | fail_if_no_progress with_reducible apply keeps_mk_tables
    | (intro _) | split | dsimp only [id_eq])

theorem keeps_doDiscard {b0 b1 b2 b3 b5 : Bool} {u : State} (rq : Req) (s : State)
 (hk : Keeps ⟨b0, b1, b2, b3, false, b5⟩ u s) :
    Keeps ⟨b0, b1, b2, b3, false, b5⟩ u (doDiscard rq s) := by
  unfold doDiscard
  try dsimp only
  repeat' (first
    | with_reducible assumption | with_reducible apply keeps_complete | with_reducible apply keeps_deferReq
    | with_reducible apply keeps_withArena | fail_if_no_progress with_reducible apply keeps_mk
    | fail_if_no_progress with_reducible apply keeps_mk_tables | (intro _) | split | dsimp only [id_eq])

theorem keeps_serveAttn {b0 b1 b2 b3 b4 b5 : Bool} {u : State} (h : Hdr) (body : ℕ) (bad : Bool) (len : Option ℕ)
 (badBody : Bool) (targets : List ℕ) (act : Req → State → State) (s : State) (hact : ∀ a0
 (w : State), Keeps ⟨b0, b1, b2, b3, b4, b5⟩ u w → Keeps ⟨b0, b1, b2, b3, b4, b5⟩ u (act a0 w))
 (hk : Keeps ⟨b0, b1, b2, b3, b4, b5⟩ u s) :
    Keeps ⟨b0, b1, b2, b3, b4, b5⟩ u (serveAttn h body bad len badBody targets act s) := by
  unfold serveAttn
  try dsimp only
  repeat' (first
    | with_reducible assumption | with_reducible apply keeps_serve | with_reducible apply hact
    | fail_if_no_progress with_reducible apply keeps_mk | (intro _) | split | dsimp only [id_eq])

theorem keeps_execArenaActivate {b0 b1 b2 b3 b5 : Bool} {u : State} (h : Hdr) (body : ℕ) (s : State)
 (hk : Keeps ⟨b0, b1, b2, b3, false, b5⟩ u s) :
    ∀ t, execArenaActivate h body s = .next t → Keeps ⟨b0, b1, b2, b3, false, b5⟩ u t := by
  intro t e
  unfold execArenaActivate at e
  cases e
  repeat' (first
    | with_reducible assumption | with_reducible apply keeps_doArenaActivate | with_reducible apply keeps_serveAttn
    | (intro _) | split | dsimp only [id_eq])

theorem keeps_execArenaDeactivate {b0 b1 b2 b3 b5 : Bool} {u : State} (h : Hdr) (body : ℕ) (s : State)
 (hk : Keeps ⟨b0, b1, b2, b3, false, b5⟩ u s) :
    ∀ t, execArenaDeactivate h body s = .next t → Keeps ⟨b0, b1, b2, b3, false, b5⟩ u t := by
  intro t e
  unfold execArenaDeactivate at e
  cases e
  repeat' (first
    | with_reducible assumption | with_reducible apply keeps_doArenaDeactivate | with_reducible apply keeps_serveAttn
    | (intro _) | split | dsimp only [id_eq])

theorem keeps_execDiscard {b0 b1 b2 b3 b5 : Bool} {u : State} (h : Hdr) (body : ℕ) (s : State)
 (hk : Keeps ⟨b0, b1, b2, b3, false, b5⟩ u s) :
    ∀ t, execDiscard h body s = .next t → Keeps ⟨b0, b1, b2, b3, false, b5⟩ u t := by
  intro t e
  unfold execDiscard at e
  cases e
  repeat' (first
    | with_reducible assumption | with_reducible apply keeps_doDiscard | with_reducible apply keeps_serveAttn | (intro _)
    | split | dsimp only [id_eq])

theorem keeps_andThen {b0 b1 b2 b3 b4 b5 : Bool} {u : State} (a : Status × State) (f : State → Status × State)
    (hf : ∀ w, Keeps ⟨b0, b1, b2, b3, b4, b5⟩ u w → Keeps ⟨b0, b1, b2, b3, b4, b5⟩ u (f w).2) (h : Keeps ⟨b0, b1, b2, b3, b4, b5⟩ u a.2) : Keeps ⟨b0, b1, b2, b3, b4, b5⟩ u (andThen a f).2 := by
  unfold andThen
  split
  · exact hf _ h
  · exact h

theorem keeps_appendRow {b0 b2 b3 b4 b5 : Bool} {u : State} (rq : Req) (d : ℕ) (page : ℕ) (i : ℕ) (n : ℕ) (k : ℕ)
 (s : State) (hk : Keeps ⟨b0, false, b2, b3, b4, b5⟩ u s) :
    Keeps ⟨b0, false, b2, b3, b4, b5⟩ u (appendRow rq d page i n k s).2 := by
  unfold appendRow
  try dsimp only
  repeat' (first
    | with_reducible assumption | with_reducible apply keeps_engineWrite | with_reducible apply keeps_andThen
    | with_reducible refine keeps_engineWrite_eq (by assumption) ?_ | fail_if_no_progress with_reducible apply keeps_mk
    | with_reducible apply keeps_foldl | with_reducible apply keeps_foldl_snd | (intro _) | split | dsimp only [id_eq])

theorem keeps_appendRow_eq {b0 b2 b3 b4 b5 : Bool} {u w : State} {r0 : Status} {rq : Req} {d : ℕ} {page : ℕ} {i : ℕ}
    {n : ℕ} {k : ℕ} {s : State} (e : appendRow rq d page i n k s = (r0, w))
 (hk : Keeps ⟨b0, false, b2, b3, b4, b5⟩ u s) :
    Keeps ⟨b0, false, b2, b3, b4, b5⟩ u w := by
  have := keeps_appendRow rq d page i n k s  hk; rwa [e] at this

theorem keeps_appendRows {b0 b2 b3 b5 : Bool} {u : State} (rq : Req) (x : Arena) (s : State)
 (hk : Keeps ⟨b0, false, b2, b3, false, b5⟩ u s) :
    Keeps ⟨b0, false, b2, b3, false, b5⟩ u (appendRows rq x s).2 := by
  unfold appendRows
  try dsimp only
  repeat' (first
    | with_reducible assumption | with_reducible apply keeps_appendRow | with_reducible apply keeps_bump
    | with_reducible apply keeps_raiseEvent | with_reducible apply keeps_andThen
    | with_reducible refine keeps_appendRow_eq (by assumption) ?_ | fail_if_no_progress with_reducible apply keeps_mk
    | fail_if_no_progress with_reducible apply keeps_mk_tables | with_reducible apply keeps_foldl
    | with_reducible apply keeps_foldl_snd | (intro _) | split | dsimp only [id_eq])

theorem keeps_appendRows_eq {b0 b2 b3 b5 : Bool} {u w : State} {r0 : Status} {rq : Req} {x : Arena} {s : State}
 (e : appendRows rq x s = (r0, w)) (hk : Keeps ⟨b0, false, b2, b3, false, b5⟩ u s) :
    Keeps ⟨b0, false, b2, b3, false, b5⟩ u w := by
  have := keeps_appendRows rq x s  hk; rwa [e] at this

theorem keeps_doAppend {b0 b2 b3 b5 : Bool} {u : State} (rq : Req) (s : State)
 (hk : Keeps ⟨b0, false, b2, b3, false, b5⟩ u s) :
    Keeps ⟨b0, false, b2, b3, false, b5⟩ u (doAppend rq s) := by
  unfold doAppend
  try dsimp only
  repeat' (first
    | with_reducible assumption | with_reducible apply keeps_appendRows | with_reducible apply keeps_complete
    | with_reducible apply keeps_deferReq | with_reducible apply keeps_farDefer | with_reducible apply keeps_withArena
    | with_reducible refine keeps_appendRows_eq (by assumption) ?_ | fail_if_no_progress with_reducible apply keeps_mk
    | (intro _) | split | dsimp only [id_eq])

theorem keeps_execAppend {b0 b2 b3 b5 : Bool} {u : State} (h : Hdr) (body : ℕ) (s : State)
 (hk : Keeps ⟨b0, false, b2, b3, false, b5⟩ u s) :
    ∀ t, execAppend h body s = .next t → Keeps ⟨b0, false, b2, b3, false, b5⟩ u t := by
  intro t e
  unfold execAppend at e
  cases e
  repeat' (first
    | with_reducible assumption | with_reducible apply keeps_doAppend | with_reducible apply keeps_serveAttn | (intro _)
    | split | dsimp only [id_eq])

theorem keeps_doCommit {b0 b1 b2 b3 b5 : Bool} {u : State} (rq : Req) (s : State)
 (hk : Keeps ⟨b0, b1, b2, b3, false, b5⟩ u s) :
    Keeps ⟨b0, b1, b2, b3, false, b5⟩ u (doCommit rq s) := by
  unfold doCommit
  try dsimp only
  repeat' (first
    | with_reducible assumption | with_reducible apply keeps_complete | with_reducible apply keeps_deferReq
    | with_reducible apply keeps_nextAcc | with_reducible apply keeps_withArena
    | with_reducible refine keeps_nextAcc_eq (by assumption) ?_ | fail_if_no_progress with_reducible apply keeps_mk
    | fail_if_no_progress with_reducible apply keeps_mk_tables | (intro _) | split | dsimp only [id_eq])

theorem keeps_execCommit {b0 b1 b2 b3 b5 : Bool} {u : State} (h : Hdr) (body : ℕ) (s : State)
 (hk : Keeps ⟨b0, b1, b2, b3, false, b5⟩ u s) :
    ∀ t, execCommit h body s = .next t → Keeps ⟨b0, b1, b2, b3, false, b5⟩ u t := by
  intro t e
  unfold execCommit at e
  cases e
  repeat' (first
    | with_reducible assumption | with_reducible apply keeps_doCommit | with_reducible apply keeps_serveAttn | (intro _)
    | split | dsimp only [id_eq])

theorem keeps_copyBytes {b0 b2 b3 b4 b5 : Bool} {u : State} (rq : Req) (src : ℕ) (dst : ℕ) (n : ℕ) (s : State)
 (hk : Keeps ⟨b0, false, b2, b3, b4, b5⟩ u s) :
    Keeps ⟨b0, false, b2, b3, b4, b5⟩ u (copyBytes rq src dst n s) := by
  unfold copyBytes
  try dsimp only
  repeat' (first
    | with_reducible assumption | with_reducible apply keeps_engineStore
    | with_reducible refine keeps_engineStore_eq (by assumption) ?_ | (intro _) | split | dsimp only [id_eq])

theorem keeps_commitCopies {b0 b2 b3 b4 b5 : Bool} {u : State} (rq : Req) (d : ℕ) (s : State)
 (hk : Keeps ⟨b0, false, b2, b3, b4, b5⟩ u s) :
    Keeps ⟨b0, false, b2, b3, b4, b5⟩ u (commitCopies rq d s) := by
  unfold commitCopies
  try dsimp only
  repeat' (first
    | with_reducible assumption | with_reducible apply keeps_copyBytes | fail_if_no_progress with_reducible apply keeps_mk
    | with_reducible apply keeps_foldl | with_reducible apply keeps_foldl_snd | (intro _) | split | dsimp only [id_eq])

theorem keeps_doCommitPublish {b0 b2 b3 b5 : Bool} {u : State} (acc : ℕ) (s : State)
 (hk : Keeps ⟨b0, false, b2, b3, false, b5⟩ u s) :
    Keeps ⟨b0, false, b2, b3, false, b5⟩ u (doCommitPublish acc s) := by
  unfold doCommitPublish
  try dsimp only
  repeat' (first
    | with_reducible assumption | with_reducible apply keeps_bump | with_reducible apply keeps_commitCopies
    | with_reducible apply keeps_engineFar | with_reducible apply keeps_oweSignal
    | fail_if_no_progress with_reducible apply keeps_mk | fail_if_no_progress with_reducible apply keeps_mk_tables
    | (intro _) | split | dsimp only [id_eq])

theorem keeps_execCommitPublish {b0 b2 b3 b5 : Bool} {u : State} (acc : ℕ) (s : State)
 (hk : Keeps ⟨b0, false, b2, b3, false, b5⟩ u s) :
    ∀ t, execCommitPublish acc s = .next t → Keeps ⟨b0, false, b2, b3, false, b5⟩ u t := by
  intro t e
  unfold execCommitPublish at e
  cases e
  repeat' (first
    | with_reducible assumption | with_reducible apply keeps_doCommitPublish | (intro _) | split | dsimp only [id_eq])

theorem keeps_acceptAttend {b0 b1 b2 b4 b5 : Bool} {u : State} (rq : Req) (hs : List ℕ) (s : State)
 (hk : Keeps ⟨b0, b1, b2, false, b4, b5⟩ u s) :
    Keeps ⟨b0, b1, b2, false, b4, b5⟩ u (acceptAttend rq hs s) := by
  unfold acceptAttend
  try dsimp only
  repeat' (first
    | with_reducible assumption | with_reducible apply keeps_bump | with_reducible apply keeps_complete
    | with_reducible apply keeps_nextAcc | with_reducible refine keeps_nextAcc_eq (by assumption) ?_
    | fail_if_no_progress with_reducible apply keeps_mk | fail_if_no_progress with_reducible apply keeps_mk_config
    | (intro _) | split | dsimp only [id_eq])

theorem keeps_doAttend {b0 b1 b2 b4 b5 : Bool} {u : State} (rq : Req) (s : State)
 (hk : Keeps ⟨b0, b1, b2, false, b4, b5⟩ u s) :
    Keeps ⟨b0, b1, b2, false, b4, b5⟩ u (doAttend rq s) := by
  unfold doAttend
  try dsimp only
  repeat' (first
    | with_reducible assumption | with_reducible apply keeps_acceptAttend | with_reducible apply keeps_bump
    | with_reducible apply keeps_complete | with_reducible apply keeps_deferReq
    | fail_if_no_progress with_reducible apply keeps_mk | (intro _) | split | dsimp only [id_eq])

theorem keeps_execAttend {b0 b1 b2 b4 b5 : Bool} {u : State} (h : Hdr) (body : ℕ) (s : State)
 (hk : Keeps ⟨b0, b1, b2, false, b4, b5⟩ u s) :
    ∀ t, execAttend h body s = .next t → Keeps ⟨b0, b1, b2, false, b4, b5⟩ u t := by
  intro t e
  unfold execAttend at e
  cases e
  repeat' (first
    | with_reducible assumption | with_reducible apply keeps_doAttend | with_reducible apply keeps_serveAttn | (intro _)
    | split | dsimp only [id_eq])

theorem keeps_attnSignal {b0 b3 b4 b5 : Bool} {u : State} (acc : ℕ) (package : ℕ) (n : ℕ) (operand : ℕ) (rq : Req)
 (s : State) (hk : Keeps ⟨b0, false, false, b3, b4, b5⟩ u s) :
    Keeps ⟨b0, false, false, b3, b4, b5⟩ u (attnSignal acc package n operand rq s) := by
  unfold attnSignal
  try dsimp only
  repeat' (first
    | with_reducible assumption | with_reducible apply keeps_oweRemote | with_reducible apply keeps_oweSignal
    | with_reducible apply keeps_settleOwed | fail_if_no_progress with_reducible apply keeps_mk | (intro _) | split
    | dsimp only [id_eq])

theorem keeps_attendOver {b0 b1 b2 b4 b5 : Bool} {u : State} (acc : ℕ) (s : State)
 (hk : Keeps ⟨b0, b1, b2, false, b4, b5⟩ u s) :
    Keeps ⟨b0, b1, b2, false, b4, b5⟩ u (attendOver acc s) := by
  unfold attendOver
  try dsimp only
  repeat' (first
    | with_reducible assumption | fail_if_no_progress with_reducible apply keeps_mk
    | fail_if_no_progress with_reducible apply keeps_mk_config | (intro _) | split | dsimp only [id_eq])

theorem keeps_headerOnly {b0 b4 b5 : Bool} {u : State} (acc : ℕ) (y : Attend) (d : ℕ) (st : Status) (pages : ℕ)
 (s : State) (hk : Keeps ⟨b0, false, false, false, b4, b5⟩ u s) :
    Keeps ⟨b0, false, false, false, b4, b5⟩ u (headerOnly acc y d st pages s) := by
  unfold headerOnly
  try dsimp only
  repeat' (first
    | with_reducible assumption | with_reducible apply keeps_attendOver | with_reducible apply keeps_attnSignal
    | with_reducible apply keeps_fabricWrite | with_reducible refine keeps_fabricWrite_eq (by assumption) ?_
    | fail_if_no_progress with_reducible apply keeps_mk | (intro _) | split | dsimp only [id_eq])

theorem keeps_expireHold {b0 b4 b5 : Bool} {u : State} (acc : ℕ) (y : Attend) (d : ℕ) (s : State)
 (hk : Keeps ⟨b0, false, false, false, b4, b5⟩ u s) :
    Keeps ⟨b0, false, false, false, b4, b5⟩ u (expireHold acc y d s) := by
  unfold expireHold
  try dsimp only
  repeat' (first
    | with_reducible assumption | with_reducible apply keeps_bump | with_reducible apply keeps_headerOnly | (intro _)
    | split | dsimp only [id_eq])

theorem keeps_bindAttend {b0 b4 b5 : Bool} {u : State} (acc : ℕ) (y : Attend) (x : Arena) (s : State)
 (hk : Keeps ⟨b0, false, false, false, b4, b5⟩ u s) :
    Keeps ⟨b0, false, false, false, b4, b5⟩ u (bindAttend acc y x s) := by
  unfold bindAttend
  try dsimp only
  repeat' (first
    | with_reducible assumption | with_reducible apply keeps_expireHold
    | fail_if_no_progress with_reducible apply keeps_mk | (intro _) | split | dsimp only [id_eq])

theorem keeps_readQueries {b0 b2 b3 b4 b5 : Bool} {u : State} (acc : ℕ) (d : ℕ) (y : Attend) (s : State)
 (hk : Keeps ⟨b0, false, b2, b3, b4, b5⟩ u s) :
    Keeps ⟨b0, false, b2, b3, b4, b5⟩ u (readQueries acc d y s).2 := by
  unfold readQueries
  try dsimp only
  repeat' (first
    | with_reducible assumption | with_reducible apply keeps_engineFar | with_reducible apply keeps_poisonDead
    | with_reducible apply keeps_settleLines | with_reducible apply keeps_unpeek
    | with_reducible refine keeps_peekWait _ _ _ ?_ _ (by assumption) | fail_if_no_progress with_reducible apply keeps_mk
    | (intro _) | split | dsimp only [id_eq])

theorem keeps_readQueries_eq {b0 b2 b3 b4 b5 : Bool} {u w : State} {r0 : Attend} {acc : ℕ} {d : ℕ} {y : Attend}
    {s : State} (e : readQueries acc d y s = (r0, w)) (hk : Keeps ⟨b0, false, b2, b3, b4, b5⟩ u s) :
    Keeps ⟨b0, false, b2, b3, b4, b5⟩ u w := by
  have := keeps_readQueries acc d y s  hk; rwa [e] at this

theorem keeps_doAttendDispatch {b0 b4 b5 : Bool} {u : State} (acc : ℕ) (q : Remote) (s : State)
 (hk : Keeps ⟨b0, false, false, false, b4, b5⟩ u s) :
    Keeps ⟨b0, false, false, false, b4, b5⟩ u (doAttendDispatch acc q s) := by
  unfold doAttendDispatch
  try dsimp only
  repeat' (first
    | with_reducible assumption | with_reducible apply keeps_bindAttend | with_reducible apply keeps_readQueries
    | with_reducible apply keeps_send | with_reducible refine keeps_readQueries_eq (by assumption) ?_
    | fail_if_no_progress with_reducible apply keeps_mk | (intro _) | split | dsimp only [id_eq])

theorem keeps_execAttendDispatch {b0 b4 b5 : Bool} {u : State} (acc : ℕ) (q : Remote) (s : State)
 (hk : Keeps ⟨b0, false, false, false, b4, b5⟩ u s) :
    ∀ t, execAttendDispatch acc q s = .next t → Keeps ⟨b0, false, false, false, b4, b5⟩ u t := by
  intro t e
  unfold execAttendDispatch at e
  cases e
  repeat' (first
    | with_reducible assumption | with_reducible apply keeps_doAttendDispatch | (intro _) | split | dsimp only [id_eq])

theorem keeps_withHeld {b0 b1 b2 b3 b4 b5 : Bool} {u : State} (acc : ℕ) (act : Attend → Arena → State → State)
 (s : State) (hact : ∀ a0 a1 (w : State), Keeps ⟨b0, b1, b2, b3, b4, b5⟩ u w → Keeps ⟨b0, b1, b2, b3, b4, b5⟩ u
 (act a0 a1 w)) (hk : Keeps ⟨b0, b1, b2, b3, b4, b5⟩ u s) :
    Keeps ⟨b0, b1, b2, b3, b4, b5⟩ u (withHeld acc act s) := by
  unfold withHeld
  try dsimp only
  repeat' (first
    | with_reducible assumption | with_reducible apply hact | fail_if_no_progress with_reducible apply keeps_mk
    | (intro _) | split | dsimp only [id_eq])

theorem keeps_execAttendBindAfterHold {b0 b4 b5 : Bool} {u : State} (acc : ℕ) (s : State)
 (hk : Keeps ⟨b0, false, false, false, b4, b5⟩ u s) :
    ∀ t, execAttendBindAfterHold acc s = .next t → Keeps ⟨b0, false, false, false, b4, b5⟩ u t := by
  intro t e
  unfold execAttendBindAfterHold at e
  cases e
  repeat' (first
    | with_reducible assumption | with_reducible apply keeps_bindAttend | with_reducible apply keeps_withHeld | (intro _)
    | split | dsimp only [id_eq])

theorem keeps_execAttendHoldExpired {b0 b4 b5 : Bool} {u : State} (acc : ℕ) (s : State)
 (hk : Keeps ⟨b0, false, false, false, b4, b5⟩ u s) :
    ∀ t, execAttendHoldExpired acc s = .next t → Keeps ⟨b0, false, false, false, b4, b5⟩ u t := by
  intro t e
  unfold execAttendHoldExpired at e
  cases e
  repeat' (first
    | with_reducible assumption | with_reducible apply keeps_expireHold | with_reducible apply keeps_withHeld | (intro _)
    | split | dsimp only [id_eq])

theorem keeps_flagHandle {b0 b1 b2 b3 b4 b5 : Bool} {u : State} (h : Option ℕ) (fl : ℕ) (s : State)
 (hk : Keeps ⟨b0, b1, b2, b3, b4, b5⟩ u s) :
    Keeps ⟨b0, b1, b2, b3, b4, b5⟩ u (flagHandle h fl s) := by
  unfold flagHandle
  try dsimp only
  repeat' (first
    | with_reducible assumption | with_reducible apply keeps_addFlags | with_reducible apply keeps_drawFree
    | with_reducible refine keeps_drawFree_eq (by assumption) ?_ | fail_if_no_progress with_reducible apply keeps_mk
    | (intro _) | split | dsimp only [id_eq])

theorem keeps_headOut {b0 b1 b2 b3 b4 b5 : Bool} {u : State} (d : ℕ) (y : Attend) (j : ℕ) (g : ℕ) (i : ℕ) (s : State)
 (hk : Keeps ⟨b0, b1, b2, b3, b4, b5⟩ u s) :
    Keeps ⟨b0, b1, b2, b3, b4, b5⟩ u (headOut d y j g i s).2 := by
  unfold headOut
  try dsimp only
  repeat' (first
    | with_reducible assumption | with_reducible apply keeps_bump | with_reducible apply keeps_drawFree
    | with_reducible apply keeps_flagHandle | with_reducible refine keeps_drawFree_eq (by assumption) ?_
    | with_reducible apply keeps_foldl | with_reducible apply keeps_foldl_snd | (intro _) | split | dsimp only [id_eq])

theorem keeps_headOut_eq {b0 b1 b2 b3 b4 b5 : Bool} {u w : State} {r0 : HeadOut} {d : ℕ} {y : Attend} {j : ℕ} {g : ℕ}
    {i : ℕ} {s : State} (e : headOut d y j g i s = (r0, w)) (hk : Keeps ⟨b0, b1, b2, b3, b4, b5⟩ u s) :
    Keeps ⟨b0, b1, b2, b3, b4, b5⟩ u w := by
  have := keeps_headOut d y j g i s  hk; rwa [e] at this

theorem keeps_poisonBytes {b0 b2 b3 b4 b5 : Bool} {u : State} (rq : Req) (address : ℕ) (n : ℕ) (key : ℕ) (s : State)
 (hk : Keeps ⟨b0, false, b2, b3, b4, b5⟩ u s) :
    Keeps ⟨b0, false, b2, b3, b4, b5⟩ u (poisonBytes rq address n key s) := by
  unfold poisonBytes
  try dsimp only
  repeat' (first
    | with_reducible assumption | with_reducible apply keeps_send | with_reducible apply keeps_writePoison
    | with_reducible apply keeps_foldl | with_reducible apply keeps_foldl_snd | (intro _) | split | dsimp only [id_eq])

theorem keeps_poisonHeads {b0 b2 b3 b4 b5 : Bool} {u : State} (rq : Req) (bytes : ℕ) (address : ℕ) (key : ℕ)
 (hs : List HeadOut) (s : State) (hk : Keeps ⟨b0, false, b2, b3, b4, b5⟩ u s) :
    Keeps ⟨b0, false, b2, b3, b4, b5⟩ u (poisonHeads rq bytes address key hs s) := by
  unfold poisonHeads
  try dsimp only
  repeat' (first
    | with_reducible assumption | with_reducible apply keeps_poisonBytes
    | fail_if_no_progress with_reducible apply keeps_mk | with_reducible apply keeps_foldl
    | with_reducible apply keeps_foldl_snd | (intro _) | split | dsimp only [id_eq])

theorem keeps_countHeads {b0 b1 b2 b3 b4 b5 : Bool} {u : State} (hs : List HeadOut) (s : State)
 (hk : Keeps ⟨b0, b1, b2, b3, b4, b5⟩ u s) :
    Keeps ⟨b0, b1, b2, b3, b4, b5⟩ u (countHeads hs s) := by
  unfold countHeads
  try dsimp only
  repeat' (first
    | with_reducible assumption | with_reducible apply keeps_bump | (intro _) | split | dsimp only [id_eq])

theorem keeps_writePartial {b0 b4 b5 : Bool} {u : State} (acc : ℕ) (y : Attend) (d : ℕ) (rows : List Row) (s : State)
 (hk : Keeps ⟨b0, false, false, false, b4, b5⟩ u s) :
    Keeps ⟨b0, false, false, false, b4, b5⟩ u (writePartial acc y d rows s) := by
  unfold writePartial
  try dsimp only
  repeat' (first
    | with_reducible assumption | with_reducible apply keeps_attendOver | with_reducible apply keeps_attnSignal
    | with_reducible apply keeps_bump | with_reducible apply keeps_countHeads | with_reducible apply keeps_fabricWrite
    | with_reducible apply keeps_headOut | with_reducible apply keeps_poisonHeads
    | with_reducible refine keeps_fabricWrite_eq (by assumption) ?_
    | with_reducible refine keeps_headOut_eq (by assumption) ?_ | fail_if_no_progress with_reducible apply keeps_mk
    | with_reducible apply keeps_foldl | with_reducible apply keeps_foldl_snd | (intro _) | split | dsimp only [id_eq])

theorem keeps_doPartialWritten {b0 b4 b5 : Bool} {u : State} (acc : ℕ) (failed : Bool) (s : State)
 (hk : Keeps ⟨b0, false, false, false, b4, b5⟩ u s) :
    Keeps ⟨b0, false, false, false, b4, b5⟩ u (doPartialWritten acc failed s) := by
  unfold doPartialWritten
  try dsimp only
  repeat' (first
    | with_reducible assumption | with_reducible apply keeps_engineFar | with_reducible apply keeps_headerOnly
    | with_reducible apply keeps_poisonDead | with_reducible apply keeps_readQueries
    | with_reducible apply keeps_settleLines | with_reducible apply keeps_unpeek | with_reducible apply keeps_writePartial
    | with_reducible refine keeps_peekWait _ _ _ ?_ _ (by assumption)
    | with_reducible refine keeps_readQueries_eq (by assumption) ?_ | fail_if_no_progress with_reducible apply keeps_mk
    | (intro _) | split | dsimp only [id_eq])

theorem keeps_execPartialWritten {b0 b4 b5 : Bool} {u : State} (acc : ℕ) (failed : Bool) (s : State)
 (hk : Keeps ⟨b0, false, false, false, b4, b5⟩ u s) :
    ∀ t, execPartialWritten acc failed s = .next t → Keeps ⟨b0, false, false, false, b4, b5⟩ u t := by
  intro t e
  unfold execPartialWritten at e
  cases e
  repeat' (first
    | with_reducible assumption | with_reducible apply keeps_doPartialWritten | (intro _) | split | dsimp only [id_eq])

theorem keeps_mergeOver {b0 b4 b5 : Bool} {u : State} (acc : ℕ) (y : Attend) (s : State)
 (hk : Keeps ⟨b0, false, false, false, b4, b5⟩ u s) :
    Keeps ⟨b0, false, false, false, b4, b5⟩ u (mergeOver acc y s) := by
  unfold mergeOver
  try dsimp only
  repeat' (first
    | with_reducible assumption | with_reducible apply keeps_attendOver | with_reducible apply keeps_attnSignal
    | fail_if_no_progress with_reducible apply keeps_mk | (intro _) | split | dsimp only [id_eq])

theorem keeps_withMerge {b0 b1 b2 b3 b4 b5 : Bool} {u : State} (acc : ℕ) (act : Attend → ℕ → State → State) (s : State)
 (hact : ∀ a0 a1 (w : State), Keeps ⟨b0, b1, b2, b3, b4, b5⟩ u w → Keeps ⟨b0, b1, b2, b3, b4, b5⟩ u (act a0 a1 w))
 (hk : Keeps ⟨b0, b1, b2, b3, b4, b5⟩ u s) :
    Keeps ⟨b0, b1, b2, b3, b4, b5⟩ u (withMerge acc act s) := by
  unfold withMerge
  try dsimp only
  repeat' (first
    | with_reducible assumption | with_reducible apply hact | fail_if_no_progress with_reducible apply keeps_mk
    | (intro _) | split | dsimp only [id_eq])

theorem keeps_mergePartials {b0 b4 b5 : Bool} {u : State} (acc : ℕ) (y : Attend) (d : ℕ) (s : State)
 (hk : Keeps ⟨b0, false, false, false, b4, b5⟩ u s) :
    Keeps ⟨b0, false, false, false, b4, b5⟩ u (mergePartials acc y d s) := by
  unfold mergePartials
  try dsimp only
  repeat' (first
    | with_reducible assumption | with_reducible apply keeps_commandSignal | with_reducible apply keeps_countHeads
    | with_reducible apply keeps_fabricWrite | with_reducible apply keeps_mergeOver
    | with_reducible apply keeps_poisonHeads | with_reducible refine keeps_fabricWrite_eq (by assumption) ?_ | (intro _)
    | split | dsimp only [id_eq])

theorem keeps_doMerge {b0 b4 b5 : Bool} {u : State} (acc : ℕ) (y : Attend) (d : ℕ) (s : State)
 (hk : Keeps ⟨b0, false, false, false, b4, b5⟩ u s) :
    Keeps ⟨b0, false, false, false, b4, b5⟩ u (doMerge acc y d s) := by
  unfold doMerge
  try dsimp only
  repeat' (first
    | with_reducible assumption | with_reducible apply keeps_engineFar | with_reducible apply keeps_mergePartials
    | with_reducible apply keeps_poisonDead | with_reducible apply keeps_settleLines | with_reducible apply keeps_unpeek
    | with_reducible refine keeps_peekWait _ _ _ ?_ _ (by assumption) | fail_if_no_progress with_reducible apply keeps_mk
    | (intro _) | split | dsimp only [id_eq])

theorem keeps_execMergeSyncReached {b0 b4 b5 : Bool} {u : State} (acc : ℕ) (s : State)
 (hk : Keeps ⟨b0, false, false, false, b4, b5⟩ u s) :
    ∀ t, execMergeSyncReached acc s = .next t → Keeps ⟨b0, false, false, false, b4, b5⟩ u t := by
  intro t e
  unfold execMergeSyncReached at e
  cases e
  repeat' (first
    | with_reducible assumption | with_reducible apply keeps_doMerge | with_reducible apply keeps_withMerge | (intro _)
    | split | dsimp only [id_eq])

theorem keeps_execMergeTimeout {b0 b4 b5 : Bool} {u : State} (acc : ℕ) (s : State)
 (hk : Keeps ⟨b0, false, false, false, b4, b5⟩ u s) :
    ∀ t, execMergeTimeout acc s = .next t → Keeps ⟨b0, false, false, false, b4, b5⟩ u t := by
  intro t e
  unfold execMergeTimeout at e
  cases e
  repeat' (first
    | with_reducible assumption | with_reducible apply keeps_bump | with_reducible apply keeps_fabricWrite
    | with_reducible apply keeps_mergeOver | with_reducible apply keeps_withMerge
    | with_reducible refine keeps_fabricWrite_eq (by assumption) ?_ | (intro _) | split | dsimp only [id_eq])

theorem keeps_doMergeCall {b0 b2 b5 : Bool} {u : State} (acc : ℕ) (k : Call) (x : FnHandle) (r : CallResult) (s : State)
 (hk : Keeps ⟨b0, false, b2, false, false, b5⟩ u s) :
    Keeps ⟨b0, false, b2, false, false, b5⟩ u (doMergeCall acc k x r s) := by
  unfold doMergeCall
  try dsimp only
  repeat' (first
    | with_reducible assumption | with_reducible apply keeps_countHeads | with_reducible apply keeps_endCall
    | with_reducible apply keeps_engineFar | with_reducible apply keeps_finishCall | with_reducible apply keeps_freeTiles
    | fail_if_no_progress with_reducible apply keeps_mk | (intro _) | split | dsimp only [id_eq])

theorem keeps_execAttnCountersClear {b1 b2 b3 b4 b5 : Bool} {u : State} (d : DapMsg) (s : State)
 (hk : Keeps ⟨false, b1, b2, b3, b4, b5⟩ u s) :
    ∀ t, execAttnCountersClear d s = .next t → Keeps ⟨false, b1, b2, b3, b4, b5⟩ u t := by
  intro t e
  unfold execAttnCountersClear at e
  cases e
  repeat' (first
    | with_reducible assumption | with_reducible apply keeps_clearObj | with_reducible apply keeps_clearObjs | (intro _)
    | split | dsimp only [id_eq])

theorem keeps_doArenaBase {b1 b2 b3 b4 b5 : Bool} {u : State} (c : Ctx) (s : State)
 (hk : Keeps ⟨false, b1, b2, b3, b4, b5⟩ u s) :
    Keeps ⟨false, b1, b2, b3, b4, b5⟩ u (doArenaBase c s) := by
  unfold doArenaBase
  try dsimp only
  repeat' (first
    | with_reducible assumption | with_reducible apply keeps_applied | with_reducible apply keeps_fin
    | with_reducible apply keeps_finBad | with_reducible apply keeps_setObj | (intro _) | split | dsimp only [id_eq])

theorem keeps_serveCoh {b0 b1 b2 b3 b4 b5 : Bool} {u : State} (op : ℕ) (h : Hdr) (data : ℕ) (perm : ℕ)
 (act : Req → State → State) (s : State) (hact : ∀ a0
 (w : State), Keeps ⟨b0, b1, b2, b3, b4, b5⟩ u w → Keeps ⟨b0, b1, b2, b3, b4, b5⟩ u (act a0 w))
 (hk : Keeps ⟨b0, b1, b2, b3, b4, b5⟩ u s) :
    Keeps ⟨b0, b1, b2, b3, b4, b5⟩ u (serveCoh op h data perm act s) := by
  unfold serveCoh
  try dsimp only
  repeat' (first
    | with_reducible assumption | with_reducible apply keeps_complete | with_reducible apply keeps_serve
    | with_reducible apply hact | (intro _) | split | dsimp only [id_eq])

theorem keeps_finalGrant {b0 b1 b2 b3 b4 b5 : Bool} {u : State} (rq : Req) (line : ℕ) (grant : ℕ) (len : ℕ) (s : State)
 (hk : Keeps ⟨b0, b1, b2, b3, b4, b5⟩ u s) :
    Keeps ⟨b0, b1, b2, b3, b4, b5⟩ u (finalGrant rq line grant len s) := by
  unfold finalGrant
  try dsimp only
  repeat' (first
    | with_reducible assumption | with_reducible apply keeps_acknowledge | with_reducible apply keeps_completeWith
    | (intro _) | split | dsimp only [id_eq])

theorem keeps_cachingRead {b0 b2 b3 b4 b5 : Bool} {u : State} (rq : Req) (owns : Bool) (act : ℕ → State → State)
 (s : State) (hact : ∀ a0 (w : State), Keeps ⟨b0, false, b2, b3, b4, b5⟩ u w → Keeps ⟨b0, false, b2, b3, b4, b5⟩ u
 (act a0 w)) (hk : Keeps ⟨b0, false, b2, b3, b4, b5⟩ u s) :
    Keeps ⟨b0, false, b2, b3, b4, b5⟩ u (cachingRead rq owns act s) := by
  unfold cachingRead
  try dsimp only
  repeat' (first
    | with_reducible assumption | with_reducible apply keeps_bump | with_reducible apply keeps_complete
    | with_reducible apply keeps_deferReq | with_reducible apply keeps_farDefer | with_reducible apply keeps_makeNear
    | with_reducible apply keeps_noFrame | with_reducible apply keeps_poisonDead | with_reducible apply keeps_recallLine
    | with_reducible apply hact | fail_if_no_progress with_reducible apply keeps_mk | (intro _) | split
    | dsimp only [id_eq])

theorem keeps_doRdShared {b0 b2 b3 b4 b5 : Bool} {u : State} (rq : Req) (s : State)
 (hk : Keeps ⟨b0, false, b2, b3, b4, b5⟩ u s) :
    Keeps ⟨b0, false, b2, b3, b4, b5⟩ u (doRdShared rq s) := by
  unfold doRdShared
  try dsimp only
  repeat' (first
    | with_reducible assumption | with_reducible apply keeps_cachingRead | with_reducible apply keeps_complete
    | with_reducible apply keeps_finalGrant | with_reducible apply keeps_nextTxn | with_reducible apply keeps_sendSnoop
    | with_reducible apply keeps_setDir | with_reducible refine keeps_nextTxn_eq (by assumption) ?_
    | fail_if_no_progress with_reducible apply keeps_mk | (intro _) | split | dsimp only [id_eq])

theorem keeps_doRdOwn {b0 b2 b3 b4 b5 : Bool} {u : State} (upgrade : Bool) (rq : Req) (s : State)
 (hk : Keeps ⟨b0, false, b2, b3, b4, b5⟩ u s) :
    Keeps ⟨b0, false, b2, b3, b4, b5⟩ u (doRdOwn upgrade rq s) := by
  unfold doRdOwn
  try dsimp only
  repeat' (first
    | with_reducible assumption | with_reducible apply keeps_cachingRead | with_reducible apply keeps_complete
    | with_reducible apply keeps_finalGrant | with_reducible apply keeps_nextTxn | with_reducible apply keeps_sendSnoop
    | with_reducible apply keeps_sendSnoops | with_reducible apply keeps_setDir
    | with_reducible refine keeps_nextTxn_eq (by assumption) ?_ | fail_if_no_progress with_reducible apply keeps_mk
    | (intro _) | split | dsimp only [id_eq])

theorem keeps_execRdShared {b0 b2 b3 b4 b5 : Bool} {u : State} (h : Hdr) (s : State)
 (hk : Keeps ⟨b0, false, b2, b3, b4, b5⟩ u s) :
    ∀ t, execRdShared h s = .next t → Keeps ⟨b0, false, b2, b3, b4, b5⟩ u t := by
  intro t e
  unfold execRdShared at e
  cases e
  repeat' (first
    | with_reducible assumption | with_reducible apply keeps_doRdShared | with_reducible apply keeps_serveCoh | (intro _)
    | split | dsimp only [id_eq])

theorem keeps_execRdOwn {b0 b2 b3 b4 b5 : Bool} {u : State} (h : Hdr) (s : State)
 (hk : Keeps ⟨b0, false, b2, b3, b4, b5⟩ u s) :
    ∀ t, execRdOwn h s = .next t → Keeps ⟨b0, false, b2, b3, b4, b5⟩ u t := by
  intro t e
  unfold execRdOwn at e
  cases e
  repeat' (first
    | with_reducible assumption | with_reducible apply keeps_doRdOwn | with_reducible apply keeps_serveCoh | (intro _)
    | split | dsimp only [id_eq])

theorem keeps_execUpgrade {b0 b2 b3 b4 b5 : Bool} {u : State} (h : Hdr) (s : State)
 (hk : Keeps ⟨b0, false, b2, b3, b4, b5⟩ u s) :
    ∀ t, execUpgrade h s = .next t → Keeps ⟨b0, false, b2, b3, b4, b5⟩ u t := by
  intro t e
  unfold execUpgrade at e
  cases e
  repeat' (first
    | with_reducible assumption | with_reducible apply keeps_doRdOwn | with_reducible apply keeps_serveCoh | (intro _)
    | split | dsimp only [id_eq])

theorem keeps_snoopDone {b0 b2 b3 b4 b5 : Bool} {u : State} (key : ℕ) (x : Snoop) (data : Option ℕ) (forwarded : Bool)
 (bad : Bool) (s : State) (hk : Keeps ⟨b0, false, b2, b3, b4, b5⟩ u s) :
    Keeps ⟨b0, false, b2, b3, b4, b5⟩ u (snoopDone key x data forwarded bad s) := by
  unfold snoopDone
  try dsimp only
  repeat' (first
    | with_reducible assumption | with_reducible apply keeps_acknowledge | with_reducible apply keeps_mergeLine
    | with_reducible apply keeps_sendGrant | with_reducible apply keeps_snoopGone
    | fail_if_no_progress with_reducible apply keeps_mk | (intro _) | split | dsimp only [id_eq])

theorem keeps_settleDissolve {b0 b1 b2 b3 b4 b5 : Bool} {u : State} (s : State)
 (hk : Keeps ⟨b0, b1, b2, b3, b4, b5⟩ u s) :
    Keeps ⟨b0, b1, b2, b3, b4, b5⟩ u (settleDissolve s) := by
  unfold settleDissolve
  try dsimp only
  repeat' (first
    | with_reducible assumption | with_reducible apply keeps_dapFinishKey | with_reducible apply keeps_setObj
    | fail_if_no_progress with_reducible apply keeps_mk | (intro _) | split | dsimp only [id_eq])

theorem keeps_doSnoopResponse {b0 b2 b3 b4 b5 : Bool} {u : State} (seq : ℕ) (agent : ℕ) (result : ℕ) (data : ℕ)
 (s : State) (hk : Keeps ⟨b0, false, b2, b3, b4, b5⟩ u s) :
    Keeps ⟨b0, false, b2, b3, b4, b5⟩ u (doSnoopResponse seq agent result data s) := by
  unfold doSnoopResponse
  try dsimp only
  repeat' (first
    | with_reducible assumption | with_reducible apply keeps_bump | with_reducible apply keeps_snoopDone
    | fail_if_no_progress with_reducible apply keeps_mk | (intro _) | split | dsimp only [id_eq])

theorem keeps_execSnoopResponse {b0 b2 b3 b4 b5 : Bool} {u : State} (seq : ℕ) (agent : ℕ) (result : ℕ) (data : ℕ)
 (s : State) (hk : Keeps ⟨b0, false, b2, b3, b4, b5⟩ u s) :
    ∀ t, execSnoopResponse seq agent result data s = .next t → Keeps ⟨b0, false, b2, b3, b4, b5⟩ u t := by
  intro t e
  unfold execSnoopResponse at e
  cases e
  repeat' (first
    | with_reducible assumption | with_reducible apply keeps_doSnoopResponse | with_reducible apply keeps_settleDissolve
    | (intro _) | split | dsimp only [id_eq])

theorem keeps_doSnoopTimeout {b0 b2 b3 b4 b5 : Bool} {u : State} (seq : ℕ) (agent : ℕ) (s : State)
 (hk : Keeps ⟨b0, false, b2, b3, b4, b5⟩ u s) :
    Keeps ⟨b0, false, b2, b3, b4, b5⟩ u (doSnoopTimeout seq agent s) := by
  unfold doSnoopTimeout
  try dsimp only
  repeat' (first
    | with_reducible assumption | with_reducible apply keeps_bump | with_reducible apply keeps_dropDir
    | with_reducible apply keeps_raiseEvent | with_reducible apply keeps_setAgentState | with_reducible apply keeps_setDir
    | with_reducible apply keeps_snoopDone | with_reducible apply keeps_tellMembers
    | with_reducible apply keeps_writePoison | fail_if_no_progress with_reducible apply keeps_mk | (intro _) | split
    | dsimp only [id_eq])

theorem keeps_execSnoopTimeout {b0 b2 b3 b4 b5 : Bool} {u : State} (seq : ℕ) (agent : ℕ) (s : State)
 (hk : Keeps ⟨b0, false, b2, b3, b4, b5⟩ u s) :
    ∀ t, execSnoopTimeout seq agent s = .next t → Keeps ⟨b0, false, b2, b3, b4, b5⟩ u t := by
  intro t e
  unfold execSnoopTimeout at e
  cases e
  repeat' (first
    | with_reducible assumption | with_reducible apply keeps_doSnoopTimeout | with_reducible apply keeps_settleDissolve
    | (intro _) | split | dsimp only [id_eq])

theorem keeps_execDirectoryRecallDone {b0 b1 b2 b3 b4 b5 : Bool} {u : State} (line : ℕ) (s : State)
 (hk : Keeps ⟨b0, b1, b2, b3, b4, b5⟩ u s) :
    ∀ t, execDirectoryRecallDone line s = .next t → Keeps ⟨b0, b1, b2, b3, b4, b5⟩ u t := by
  intro t e
  unfold execDirectoryRecallDone at e
  cases e
  repeat' (first
    | with_reducible assumption | with_reducible apply keeps_dropDir | with_reducible apply keeps_settleDissolve
    | (intro _) | split | dsimp only [id_eq])

theorem keeps_writeHome {b0 b2 b3 b4 b5 : Bool} {u : State} (rq : Req) (line : ℕ) (v : ℕ) (s : State)
 (hk : Keeps ⟨b0, false, b2, b3, b4, b5⟩ u s) :
    Keeps ⟨b0, false, b2, b3, b4, b5⟩ u (writeHome rq line v s) := by
  unfold writeHome
  try dsimp only
  repeat' (first
    | with_reducible assumption | with_reducible apply keeps_sendCopies | with_reducible apply keeps_setStale
    | with_reducible apply keeps_writeLine | (intro _) | split | dsimp only [id_eq])

theorem keeps_doWbDirty {b0 b2 b3 b4 b5 : Bool} {u : State} (rq : Req) (s : State)
 (hk : Keeps ⟨b0, false, b2, b3, b4, b5⟩ u s) :
    Keeps ⟨b0, false, b2, b3, b4, b5⟩ u (doWbDirty rq s) := by
  unfold doWbDirty
  try dsimp only
  repeat' (first
    | with_reducible assumption | with_reducible apply keeps_bump | with_reducible apply keeps_complete
    | with_reducible apply keeps_completeCopied | with_reducible apply keeps_dropDir
    | with_reducible apply keeps_snoopDone | with_reducible apply keeps_writeHome
    | fail_if_no_progress with_reducible apply keeps_mk | (intro _) | split | dsimp only [id_eq])

theorem keeps_execWbDirty {b0 b2 b3 b4 b5 : Bool} {u : State} (h : Hdr) (data : ℕ) (s : State)
 (hk : Keeps ⟨b0, false, b2, b3, b4, b5⟩ u s) :
    ∀ t, execWbDirty h data s = .next t → Keeps ⟨b0, false, b2, b3, b4, b5⟩ u t := by
  intro t e
  unfold execWbDirty at e
  cases e
  repeat' (first
    | with_reducible assumption | with_reducible apply keeps_doWbDirty | with_reducible apply keeps_serveCoh
    | with_reducible apply keeps_settleDissolve | (intro _) | split | dsimp only [id_eq])

theorem keeps_doEvictClean {b0 b1 b2 b3 b4 b5 : Bool} {u : State} (rq : Req) (s : State)
 (hk : Keeps ⟨b0, b1, b2, b3, b4, b5⟩ u s) :
    Keeps ⟨b0, b1, b2, b3, b4, b5⟩ u (doEvictClean rq s) := by
  unfold doEvictClean
  try dsimp only
  repeat' (first
    | with_reducible assumption | with_reducible apply keeps_complete | with_reducible apply keeps_dropDir
    | with_reducible apply keeps_setDir | fail_if_no_progress with_reducible apply keeps_mk | (intro _) | split
    | dsimp only [id_eq])

theorem keeps_execEvictClean {b0 b1 b2 b3 b4 b5 : Bool} {u : State} (h : Hdr) (s : State)
 (hk : Keeps ⟨b0, b1, b2, b3, b4, b5⟩ u s) :
    ∀ t, execEvictClean h s = .next t → Keeps ⟨b0, b1, b2, b3, b4, b5⟩ u t := by
  intro t e
  unfold execEvictClean at e
  cases e
  repeat' (first
    | with_reducible assumption | with_reducible apply keeps_doEvictClean | with_reducible apply keeps_serveCoh
    | with_reducible apply keeps_settleDissolve | (intro _) | split | dsimp only [id_eq])

theorem keeps_makeZero {b0 b2 b3 b4 b5 : Bool} {u : State} (ext : ℕ) (s : State)
 (hk : Keeps ⟨b0, false, b2, b3, b4, b5⟩ u s) :
    Keeps ⟨b0, false, b2, b3, b4, b5⟩ u (makeZero ext s) := by
  unfold makeZero
  try dsimp only
  repeat' (first
    | with_reducible assumption | fail_if_no_progress with_reducible apply keeps_filter
    | fail_if_no_progress with_reducible apply keeps_mk | fail_if_no_progress with_reducible apply keeps_mk_memory
    | (intro _) | split | dsimp only [id_eq])

theorem keeps_cancelDown {b0 b1 b2 b3 b4 b5 : Bool} {u : State} (ext : ℕ) (s : State)
 (hk : Keeps ⟨b0, b1, b2, b3, b4, b5⟩ u s) :
    Keeps ⟨b0, b1, b2, b3, b4, b5⟩ u (cancelDown ext s) := by
  unfold cancelDown
  try dsimp only
  repeat' (first
    | with_reducible assumption | fail_if_no_progress with_reducible apply keeps_mk | (intro _) | split
    | dsimp only [id_eq])

theorem keeps_refillMoves {b0 b1 b2 b3 b4 b5 : Bool} {u : State} (s : State) (hk : Keeps ⟨b0, b1, b2, b3, b4, b5⟩ u s) :
    Keeps ⟨b0, b1, b2, b3, b4, b5⟩ u (refillMoves s) := by
  unfold refillMoves
  try dsimp only
  repeat' (first
    | with_reducible assumption | fail_if_no_progress with_reducible apply keeps_mk | with_reducible apply keeps_foldl
    | with_reducible apply keeps_foldl_snd | (intro _) | split | dsimp only [id_eq])

theorem keeps_endPlace {b0 b2 b3 b4 b5 : Bool} {u : State} (c : PlaceCmd) (st : Status) (s : State)
 (hk : Keeps ⟨b0, false, b2, b3, b4, b5⟩ u s) :
    Keeps ⟨b0, false, b2, b3, b4, b5⟩ u (endPlace c st s) := by
  unfold endPlace
  try dsimp only
  repeat' (first
    | with_reducible assumption | with_reducible apply keeps_endPosted | fail_if_no_progress with_reducible apply keeps_mk
    | (intro _) | split | dsimp only [id_eq])

theorem keeps_settleOne {b0 b2 b3 b4 b5 : Bool} {u : State} (acc : ℕ) (s : State)
 (hk : Keeps ⟨b0, false, b2, b3, b4, b5⟩ u s) :
    Keeps ⟨b0, false, b2, b3, b4, b5⟩ u (settleOne acc s) := by
  unfold settleOne
  try dsimp only
  repeat' (first
    | with_reducible assumption | with_reducible apply keeps_endPlace | fail_if_no_progress with_reducible apply keeps_mk
    | (intro _) | split | dsimp only [id_eq])

theorem keeps_settlePlacement {b0 b2 b3 b4 b5 : Bool} {u : State} (s : State)
 (hk : Keeps ⟨b0, false, b2, b3, b4, b5⟩ u s) :
    Keeps ⟨b0, false, b2, b3, b4, b5⟩ u (settlePlacement s) := by
  unfold settlePlacement
  try dsimp only
  repeat' (first
    | with_reducible assumption | with_reducible apply keeps_refillMoves | with_reducible apply keeps_settleOne
    | fail_if_no_progress with_reducible apply keeps_mk | with_reducible apply keeps_foldl
    | with_reducible apply keeps_foldl_snd | (intro _) | split | dsimp only [id_eq])

theorem keeps_doPlace {b0 b1 b2 b3 b4 b5 : Bool} {u : State} (rq : Req) (s : State)
 (hk : Keeps ⟨b0, b1, b2, b3, b4, b5⟩ u s) :
    Keeps ⟨b0, b1, b2, b3, b4, b5⟩ u (doPlace rq s) := by
  unfold doPlace
  try dsimp only
  repeat' (first
    | with_reducible assumption | with_reducible apply keeps_complete | with_reducible apply keeps_deferReq
    | with_reducible apply keeps_nextAcc | with_reducible refine keeps_nextAcc_eq (by assumption) ?_
    | fail_if_no_progress with_reducible apply keeps_mk | (intro _) | split | dsimp only [id_eq])

theorem keeps_servePlace {b0 b1 b2 b3 b4 b5 : Bool} {u : State} (op : ℕ) (h : Hdr) (body : ℕ) (s : State)
 (hk : Keeps ⟨b0, b1, b2, b3, b4, b5⟩ u s) :
    Keeps ⟨b0, b1, b2, b3, b4, b5⟩ u (servePlace op h body s) := by
  unfold servePlace
  try dsimp only
  repeat' (first
    | with_reducible assumption | with_reducible apply keeps_doPlace | with_reducible apply keeps_serve | (intro _)
    | split | dsimp only [id_eq])

theorem keeps_execObjectActivate {b0 b1 b2 b3 b4 b5 : Bool} {u : State} (h : Hdr) (body : ℕ) (s : State)
 (hk : Keeps ⟨b0, b1, b2, b3, b4, b5⟩ u s) :
    ∀ t, execObjectActivate h body s = .next t → Keeps ⟨b0, b1, b2, b3, b4, b5⟩ u t := by
  intro t e
  unfold execObjectActivate at e
  cases e
  repeat' (first
    | with_reducible assumption | with_reducible apply keeps_servePlace | (intro _) | split | dsimp only [id_eq])

theorem keeps_execObjectDeactivate {b0 b1 b2 b3 b4 b5 : Bool} {u : State} (h : Hdr) (body : ℕ) (s : State)
 (hk : Keeps ⟨b0, b1, b2, b3, b4, b5⟩ u s) :
    ∀ t, execObjectDeactivate h body s = .next t → Keeps ⟨b0, b1, b2, b3, b4, b5⟩ u t := by
  intro t e
  unfold execObjectDeactivate at e
  cases e
  repeat' (first
    | with_reducible assumption | with_reducible apply keeps_servePlace | (intro _) | split | dsimp only [id_eq])

theorem keeps_execSetPolicy {b0 b1 b2 b3 b4 b5 : Bool} {u : State} (h : Hdr) (body : ℕ) (s : State)
 (hk : Keeps ⟨b0, b1, b2, b3, b4, b5⟩ u s) :
    ∀ t, execSetPolicy h body s = .next t → Keeps ⟨b0, b1, b2, b3, b4, b5⟩ u t := by
  intro t e
  unfold execSetPolicy at e
  cases e
  repeat' (first
    | with_reducible assumption | with_reducible apply keeps_servePlace | (intro _) | split | dsimp only [id_eq])

theorem keeps_execMigrate {b0 b1 b2 b3 b4 b5 : Bool} {u : State} (h : Hdr) (body : ℕ) (s : State)
 (hk : Keeps ⟨b0, b1, b2, b3, b4, b5⟩ u s) :
    ∀ t, execMigrate h body s = .next t → Keeps ⟨b0, b1, b2, b3, b4, b5⟩ u t := by
  intro t e
  unfold execMigrate at e
  cases e
  repeat' (first
    | with_reducible assumption | with_reducible apply keeps_servePlace | (intro _) | split | dsimp only [id_eq])

theorem keeps_execShadowRegister {b0 b1 b2 b3 b4 b5 : Bool} {u : State} (h : Hdr) (body : ℕ) (s : State)
 (hk : Keeps ⟨b0, b1, b2, b3, b4, b5⟩ u s) :
    ∀ t, execShadowRegister h body s = .next t → Keeps ⟨b0, b1, b2, b3, b4, b5⟩ u t := by
  intro t e
  unfold execShadowRegister at e
  cases e
  repeat' (first
    | with_reducible assumption | with_reducible apply keeps_servePlace | (intro _) | split | dsimp only [id_eq])

theorem keeps_execShadowRetire {b0 b1 b2 b3 b4 b5 : Bool} {u : State} (h : Hdr) (body : ℕ) (s : State)
 (hk : Keeps ⟨b0, b1, b2, b3, b4, b5⟩ u s) :
    ∀ t, execShadowRetire h body s = .next t → Keeps ⟨b0, b1, b2, b3, b4, b5⟩ u t := by
  intro t e
  unfold execShadowRetire at e
  cases e
  repeat' (first
    | with_reducible assumption | with_reducible apply keeps_servePlace | (intro _) | split | dsimp only [id_eq])

theorem keeps_execShadowValidate {b0 b1 b2 b3 b4 b5 : Bool} {u : State} (h : Hdr) (body : ℕ) (s : State)
 (hk : Keeps ⟨b0, b1, b2, b3, b4, b5⟩ u s) :
    ∀ t, execShadowValidate h body s = .next t → Keeps ⟨b0, b1, b2, b3, b4, b5⟩ u t := by
  intro t e
  unfold execShadowValidate at e
  cases e
  repeat' (first
    | with_reducible assumption | with_reducible apply keeps_servePlace | (intro _) | split | dsimp only [id_eq])

theorem keeps_placeMoves {b0 b1 b2 b3 b4 b5 : Bool} {u : State} (n : ℕ) (pin : Bool) (s : State)
 (hk : Keeps ⟨b0, b1, b2, b3, b4, b5⟩ u s) :
    Keeps ⟨b0, b1, b2, b3, b4, b5⟩ u (placeMoves s n pin).1 := by
  unfold placeMoves
  try dsimp only
  repeat' (first
    | with_reducible assumption | with_reducible apply keeps_cancelDown
    | fail_if_no_progress with_reducible apply keeps_mk | with_reducible apply keeps_foldl
    | with_reducible apply keeps_foldl_snd | (intro _) | split | dsimp only [id_eq])

theorem keeps_placeMoves_eq {b0 b1 b2 b3 b4 b5 : Bool} {u w : State} {r1 : List ℕ} {r2 : ℕ} {s : State} {n : ℕ}
    {pin : Bool} (e : placeMoves s n pin = (w, r1, r2)) (hk : Keeps ⟨b0, b1, b2, b3, b4, b5⟩ u s) :
    Keeps ⟨b0, b1, b2, b3, b4, b5⟩ u w := by
  have := keeps_placeMoves n pin s  hk; rwa [e] at this

theorem keeps_fillObject {b0 b1 b2 b3 b4 b5 : Bool} {u : State} (n : ℕ) (s : State)
 (hk : Keeps ⟨b0, b1, b2, b3, b4, b5⟩ u s) :
    Keeps ⟨b0, b1, b2, b3, b4, b5⟩ u (fillObject n s) := by
  unfold fillObject
  try dsimp only
  repeat' (first
    | with_reducible assumption | with_reducible apply keeps_makeNear | fail_if_no_progress with_reducible apply keeps_mk
    | with_reducible apply keeps_foldl | with_reducible apply keeps_foldl_snd | (intro _) | split | dsimp only [id_eq])

theorem keeps_placeObject {b0 b1 b2 b3 b4 b5 : Bool} {u : State} (n : ℕ) (pin : Bool) (s : State)
 (hk : Keeps ⟨b0, b1, b2, b3, b4, b5⟩ u s) :
    ∀ t, placeObject n pin s = some t → Keeps ⟨b0, b1, b2, b3, b4, b5⟩ u t.1 := by
  intro t e
  unfold placeObject at e
  try dsimp only at e
  repeat' split at e
  all_goals try cases e
  repeat' (first
    | with_reducible assumption | with_reducible apply keeps_fillObject | with_reducible apply keeps_placeMoves
    | with_reducible refine keeps_placeMoves_eq (by assumption) ?_ | fail_if_no_progress with_reducible apply keeps_mk
    | with_reducible apply keeps_foldl | with_reducible apply keeps_foldl_snd | (intro _) | split | dsimp only [id_eq])

theorem keeps_placeObject_eq {b0 b1 b2 b3 b4 b5 : Bool} {u w : State} {b : NSet} {n : ℕ} {pin : Bool} {s : State}
 (e : placeObject n pin s = some (w, b))
 (hk : Keeps ⟨b0, b1, b2, b3, b4, b5⟩ u s) : Keeps ⟨b0, b1, b2, b3, b4, b5⟩ u w :=
  keeps_placeObject n pin s hk _ e

theorem keeps_copyEntry {b0 b1 b2 b3 b4 : Bool} {u : State} (n : ℕ) (e : ℕ) (s : State)
 (hk : Keeps ⟨b0, b1, b2, b3, b4, false⟩ u s) :
    Keeps ⟨b0, b1, b2, b3, b4, false⟩ u (copyEntry n e s) := by
  unfold copyEntry
  try dsimp only
  repeat' (first
    | with_reducible assumption | with_reducible apply keeps_emit | fail_if_no_progress with_reducible apply keeps_mk
    | fail_if_no_progress with_reducible apply keeps_mk_maps | (intro _) | split | dsimp only [id_eq])

theorem keeps_activate {b0 b2 b3 b4 : Bool} {u : State} (b : ℕ) (tenant : ℕ) (peers : List ℕ) (s : State)
 (hk : Keeps ⟨b0, false, b2, b3, b4, false⟩ u s) :
    Keeps ⟨b0, false, b2, b3, b4, false⟩ u (activate b tenant peers s).2.1 := by
  unfold activate
  try dsimp only
  repeat' (first
    | with_reducible assumption | with_reducible apply keeps_copyEntry | with_reducible apply keeps_makeZero
    | with_reducible apply keeps_raiseEvent | with_reducible refine keeps_placeObject_eq (by assumption) ?_
    | fail_if_no_progress with_reducible apply keeps_mk | with_reducible apply keeps_foldl
    | with_reducible apply keeps_foldl_snd | (intro _) | split | dsimp only [id_eq])

theorem keeps_activate_eq {b0 b2 b3 b4 : Bool} {u w : State} {r0 : Status} {r2 : NSet} {b : ℕ} {tenant : ℕ}
    {peers : List ℕ} {s : State} (e : activate b tenant peers s = (r0, w, r2))
 (hk : Keeps ⟨b0, false, b2, b3, b4, false⟩ u s) :
    Keeps ⟨b0, false, b2, b3, b4, false⟩ u w := by
  have := keeps_activate b tenant peers s  hk; rwa [e] at this

theorem keeps_setPolicyOf {b0 b1 b2 b3 b4 b5 : Bool} {u : State} (b : ℕ) (s : State)
 (hk : Keeps ⟨b0, b1, b2, b3, b4, b5⟩ u s) :
    Keeps ⟨b0, b1, b2, b3, b4, b5⟩ u (setPolicyOf b s).2.1 := by
  unfold setPolicyOf
  try dsimp only
  repeat' (first
    | with_reducible assumption | with_reducible apply keeps_raiseEvent
    | with_reducible refine keeps_placeObject_eq (by assumption) ?_ | fail_if_no_progress with_reducible apply keeps_mk
    | (intro _) | split | dsimp only [id_eq])

theorem keeps_setPolicyOf_eq {b0 b1 b2 b3 b4 b5 : Bool} {u w : State} {r0 : Status} {r2 : NSet} {b : ℕ} {s : State}
 (e : setPolicyOf b s = (r0, w, r2)) (hk : Keeps ⟨b0, b1, b2, b3, b4, b5⟩ u s) :
    Keeps ⟨b0, b1, b2, b3, b4, b5⟩ u w := by
  have := keeps_setPolicyOf b s  hk; rwa [e] at this

theorem keeps_migrateOf {b0 b1 b2 b3 b4 b5 : Bool} {u : State} (b : ℕ) (s : State)
 (hk : Keeps ⟨b0, b1, b2, b3, b4, b5⟩ u s) :
    Keeps ⟨b0, b1, b2, b3, b4, b5⟩ u (migrateOf b s).2.1 := by
  unfold migrateOf
  try dsimp only
  repeat' (first
    | with_reducible assumption | fail_if_no_progress with_reducible apply keeps_mk | (intro _) | split
    | dsimp only [id_eq])

theorem keeps_migrateOf_eq {b0 b1 b2 b3 b4 b5 : Bool} {u w : State} {r0 : Status} {r2 : NSet} {b : ℕ} {s : State}
 (e : migrateOf b s = (r0, w, r2)) (hk : Keeps ⟨b0, b1, b2, b3, b4, b5⟩ u s) :
    Keeps ⟨b0, b1, b2, b3, b4, b5⟩ u w := by
  have := keeps_migrateOf b s  hk; rwa [e] at this

theorem keeps_markUnits {b0 b2 b3 b4 b5 : Bool} {u : State} (d : ℕ) (first : ℕ) (n : ℕ) (set : Bool) (s : State)
 (hk : Keeps ⟨b0, false, b2, b3, b4, b5⟩ u s) :
    Keeps ⟨b0, false, b2, b3, b4, b5⟩ u (markUnits d first n set s) := by
  unfold markUnits
  try dsimp only
  repeat' (first
    | with_reducible assumption | with_reducible apply keeps_storeBytes | with_reducible apply keeps_writeLine
    | with_reducible apply keeps_foldl | with_reducible apply keeps_foldl_snd | (intro _) | split | dsimp only [id_eq])

theorem keeps_registerShadow {b0 b2 b3 b4 : Bool} {u : State} (b : ℕ) (tenant : ℕ) (s : State)
 (hk : Keeps ⟨b0, false, b2, b3, b4, false⟩ u s) :
    Keeps ⟨b0, false, b2, b3, b4, false⟩ u (registerShadow b tenant s).2.1 := by
  unfold registerShadow
  try dsimp only
  repeat' (first
    | with_reducible assumption | with_reducible apply keeps_markUnits | fail_if_no_progress with_reducible apply keeps_mk
    | fail_if_no_progress with_reducible apply keeps_mk_maps | (intro _) | split | dsimp only [id_eq])

theorem keeps_registerShadow_eq {b0 b2 b3 b4 : Bool} {u w : State} {r0 : Status} {r2 : NSet} {b : ℕ} {tenant : ℕ}
    {s : State} (e : registerShadow b tenant s = (r0, w, r2)) (hk : Keeps ⟨b0, false, b2, b3, b4, false⟩ u s) :
    Keeps ⟨b0, false, b2, b3, b4, false⟩ u w := by
  have := keeps_registerShadow b tenant s  hk; rwa [e] at this

theorem keeps_validateShadow {b0 b2 b3 b4 b5 : Bool} {u : State} (b : ℕ) (s : State)
 (hk : Keeps ⟨b0, false, b2, b3, b4, b5⟩ u s) :
    Keeps ⟨b0, false, b2, b3, b4, b5⟩ u (validateShadow b s).2.1 := by
  unfold validateShadow
  try dsimp only
  repeat' (first
    | with_reducible assumption | with_reducible apply keeps_markUnits | fail_if_no_progress with_reducible apply keeps_mk
    | (intro _) | split | dsimp only [id_eq])

theorem keeps_validateShadow_eq {b0 b2 b3 b4 b5 : Bool} {u w : State} {r0 : Status} {r2 : NSet} {b : ℕ} {s : State}
 (e : validateShadow b s = (r0, w, r2)) (hk : Keeps ⟨b0, false, b2, b3, b4, b5⟩ u s) :
    Keeps ⟨b0, false, b2, b3, b4, b5⟩ u w := by
  have := keeps_validateShadow b s  hk; rwa [e] at this

theorem keeps_runPlace {b0 b2 b3 b4 : Bool} {u : State} (b : ℕ) (tenant : ℕ) (peers : List ℕ) (s : State)
 (hk : Keeps ⟨b0, false, b2, b3, b4, false⟩ u s) :
    Keeps ⟨b0, false, b2, b3, b4, false⟩ u (runPlace b tenant peers s).2.1 := by
  unfold runPlace
  try dsimp only
  repeat' (first
    | with_reducible assumption | with_reducible apply keeps_activate | with_reducible apply keeps_copyEntry
    | with_reducible apply keeps_migrateOf | with_reducible apply keeps_registerShadow
    | with_reducible apply keeps_setPolicyOf | with_reducible apply keeps_validateShadow
    | with_reducible refine keeps_activate_eq (by assumption) ?_
    | with_reducible refine keeps_migrateOf_eq (by assumption) ?_
    | with_reducible refine keeps_registerShadow_eq (by assumption) ?_
    | with_reducible refine keeps_setPolicyOf_eq (by assumption) ?_
    | with_reducible refine keeps_validateShadow_eq (by assumption) ?_ | fail_if_no_progress with_reducible apply keeps_mk
    | fail_if_no_progress with_reducible apply keeps_mk_maps | (intro _) | split | dsimp only [id_eq])

theorem keeps_runPlace_eq {b0 b2 b3 b4 : Bool} {u w : State} {r0 : Status} {r2 : NSet} {b : ℕ} {tenant : ℕ}
    {peers : List ℕ} {s : State} (e : runPlace b tenant peers s = (r0, w, r2))
 (hk : Keeps ⟨b0, false, b2, b3, b4, false⟩ u s) :
    Keeps ⟨b0, false, b2, b3, b4, false⟩ u w := by
  have := keeps_runPlace b tenant peers s  hk; rwa [e] at this

theorem keeps_doPlacementExecute {b0 b2 b3 b4 : Bool} {u : State} (acc : ℕ) (peers : List ℕ) (s : State)
 (hk : Keeps ⟨b0, false, b2, b3, b4, false⟩ u s) :
    Keeps ⟨b0, false, b2, b3, b4, false⟩ u (doPlacementExecute acc peers s) := by
  unfold doPlacementExecute
  try dsimp only
  repeat' (first
    | with_reducible assumption | with_reducible apply keeps_endPlace | with_reducible apply keeps_runPlace
    | with_reducible apply keeps_settlePlacement | with_reducible refine keeps_runPlace_eq (by assumption) ?_
    | fail_if_no_progress with_reducible apply keeps_mk | (intro _) | split | dsimp only [id_eq])

theorem keeps_execPlacementExecute {b0 b2 b3 b4 : Bool} {u : State} (acc : ℕ) (peers : List ℕ) (s : State)
 (hk : Keeps ⟨b0, false, b2, b3, b4, false⟩ u s) :
    ∀ t, execPlacementExecute acc peers s = .next t → Keeps ⟨b0, false, b2, b3, b4, false⟩ u t := by
  intro t e
  unfold execPlacementExecute at e
  cases e
  repeat' (first
    | with_reducible assumption | with_reducible apply keeps_doPlacementExecute | (intro _) | split | dsimp only [id_eq])

theorem keeps_wakeFlash {b0 b1 b2 b3 b4 b5 : Bool} {u : State} (s : State) (hk : Keeps ⟨b0, b1, b2, b3, b4, b5⟩ u s) :
    Keeps ⟨b0, b1, b2, b3, b4, b5⟩ u (wakeFlash s) := by
  unfold wakeFlash
  try dsimp only
  repeat' (first
    | with_reducible assumption | with_reducible apply keeps_wake | with_reducible apply keeps_foldl
    | with_reducible apply keeps_foldl_snd | (intro _) | split | dsimp only [id_eq])

theorem keeps_modMove {b0 b1 b2 b3 b4 b5 : Bool} {u : State} (ext : ℕ) (up : Bool) (f : Move → Move) (s : State)
 (hk : Keeps ⟨b0, b1, b2, b3, b4, b5⟩ u s) :
    Keeps ⟨b0, b1, b2, b3, b4, b5⟩ u (modMove ext up f s) := by
  unfold modMove
  try dsimp only
  repeat' (first
    | with_reducible assumption | fail_if_no_progress with_reducible apply keeps_mk | (intro _) | split
    | dsimp only [id_eq])

theorem keeps_granuleWait {b0 b1 b2 b3 b4 b5 : Bool} {u : State} (ext : ℕ) (s : State)
 (hk : Keeps ⟨b0, b1, b2, b3, b4, b5⟩ u s) :
    Keeps ⟨b0, b1, b2, b3, b4, b5⟩ u (granuleWait ext s) := by
  unfold granuleWait
  try dsimp only
  repeat' (first
    | with_reducible assumption | with_reducible apply keeps_modMove | with_reducible apply keeps_raiseEvent
    | fail_if_no_progress with_reducible apply keeps_mk | (intro _) | split | dsimp only [id_eq])

theorem keeps_doPromotionStart {b0 b1 b2 b3 b4 b5 : Bool} {u : State} (ext : ℕ) (s : State)
 (hk : Keeps ⟨b0, b1, b2, b3, b4, b5⟩ u s) :
    Keeps ⟨b0, b1, b2, b3, b4, b5⟩ u (doPromotionStart ext s) := by
  unfold doPromotionStart
  try dsimp only
  repeat' (first
    | with_reducible assumption | with_reducible apply keeps_granuleWait | with_reducible apply keeps_modMove
    | with_reducible apply keeps_wakeFlash | fail_if_no_progress with_reducible apply keeps_mk | (intro _) | split
    | dsimp only [id_eq])

theorem keeps_execPromotionStart {b0 b1 b2 b3 b4 b5 : Bool} {u : State} (extent : ℕ) (s : State)
 (hk : Keeps ⟨b0, b1, b2, b3, b4, b5⟩ u s) :
    ∀ t, execPromotionStart extent s = .next t → Keeps ⟨b0, b1, b2, b3, b4, b5⟩ u t := by
  intro t e
  unfold execPromotionStart at e
  cases e
  repeat' (first
    | with_reducible assumption | with_reducible apply keeps_doPromotionStart | (intro _) | split | dsimp only [id_eq])

theorem keeps_doPromotionCommit {b0 b2 b3 b4 b5 : Bool} {u : State} (ext : ℕ) (unreadable : List ℕ) (s : State)
 (hk : Keeps ⟨b0, false, b2, b3, b4, b5⟩ u s) :
    Keeps ⟨b0, false, b2, b3, b4, b5⟩ u (doPromotionCommit ext unreadable s) := by
  unfold doPromotionCommit
  try dsimp only
  repeat' (first
    | with_reducible assumption | with_reducible apply keeps_bump | with_reducible apply keeps_flushStore
    | with_reducible apply keeps_poisonLine | with_reducible apply keeps_raiseEvent
    | with_reducible apply keeps_settlePlacement | fail_if_no_progress with_reducible apply keeps_mk
    | with_reducible apply keeps_foldl | with_reducible apply keeps_foldl_snd | (intro _) | split | dsimp only [id_eq])

theorem keeps_execPromotionCommit {b0 b2 b3 b4 b5 : Bool} {u : State} (extent : ℕ) (unreadable : List ℕ) (s : State)
 (hk : Keeps ⟨b0, false, b2, b3, b4, b5⟩ u s) :
    ∀ t, execPromotionCommit extent unreadable s = .next t → Keeps ⟨b0, false, b2, b3, b4, b5⟩ u t := by
  intro t e
  unfold execPromotionCommit at e
  cases e
  repeat' (first
    | with_reducible assumption | with_reducible apply keeps_doPromotionCommit | (intro _) | split | dsimp only [id_eq])

theorem keeps_sweep {b0 b1 b2 b3 b4 b5 : Bool} {u : State} (s : State) (hk : Keeps ⟨b0, b1, b2, b3, b4, b5⟩ u s) :
    Keeps ⟨b0, b1, b2, b3, b4, b5⟩ u (sweep s) := by
  unfold sweep
  try dsimp only
  repeat' (first
    | with_reducible assumption | fail_if_no_progress with_reducible apply keeps_mk | (intro _) | split
    | dsimp only [id_eq])

theorem keeps_doDemotionStart {b0 b1 b2 b3 b4 b5 : Bool} {u : State} (ext : ℕ) (s : State)
 (hk : Keeps ⟨b0, b1, b2, b3, b4, b5⟩ u s) :
    Keeps ⟨b0, b1, b2, b3, b4, b5⟩ u (doDemotionStart ext s) := by
  unfold doDemotionStart
  try dsimp only
  repeat' (first
    | with_reducible assumption | with_reducible apply keeps_modMove | with_reducible apply keeps_sweep
    | with_reducible apply keeps_wakeFlash | fail_if_no_progress with_reducible apply keeps_mk | (intro _) | split
    | dsimp only [id_eq])

theorem keeps_execDemotionStart {b0 b1 b2 b3 b4 b5 : Bool} {u : State} (extent : ℕ) (s : State)
 (hk : Keeps ⟨b0, b1, b2, b3, b4, b5⟩ u s) :
    ∀ t, execDemotionStart extent s = .next t → Keeps ⟨b0, b1, b2, b3, b4, b5⟩ u t := by
  intro t e
  unfold execDemotionStart at e
  cases e
  repeat' (first
    | with_reducible assumption | with_reducible apply keeps_doDemotionStart | (intro _) | split | dsimp only [id_eq])

theorem keeps_doDemotionCommit {b0 b2 b3 b4 b5 : Bool} {u : State} (ext : ℕ) (s : State)
 (hk : Keeps ⟨b0, false, b2, b3, b4, b5⟩ u s) :
    Keeps ⟨b0, false, b2, b3, b4, b5⟩ u (doDemotionCommit ext s) := by
  unfold doDemotionCommit
  try dsimp only
  repeat' (first
    | with_reducible assumption | with_reducible apply keeps_bump | with_reducible apply keeps_flushStore
    | with_reducible apply keeps_recallLine | with_reducible apply keeps_settlePlacement
    | fail_if_no_progress with_reducible apply keeps_mk | with_reducible apply keeps_foldl
    | with_reducible apply keeps_foldl_snd | (intro _) | split | dsimp only [id_eq])

theorem keeps_execDemotionCommit {b0 b2 b3 b4 b5 : Bool} {u : State} (extent : ℕ) (s : State)
 (hk : Keeps ⟨b0, false, b2, b3, b4, b5⟩ u s) :
    ∀ t, execDemotionCommit extent s = .next t → Keeps ⟨b0, false, b2, b3, b4, b5⟩ u t := by
  intro t e
  unfold execDemotionCommit at e
  cases e
  repeat' (first
    | with_reducible assumption | with_reducible apply keeps_doDemotionCommit | (intro _) | split | dsimp only [id_eq])

theorem keeps_execStagingProgrammed {b0 b1 b2 b3 b4 b5 : Bool} {u : State} (extent : ℕ) (s : State)
 (hk : Keeps ⟨b0, b1, b2, b3, b4, b5⟩ u s) :
    ∀ t, execStagingProgrammed extent s = .next t → Keeps ⟨b0, b1, b2, b3, b4, b5⟩ u t := by
  intro t e
  unfold execStagingProgrammed at e
  cases e
  repeat' (first
    | with_reducible assumption | fail_if_no_progress with_reducible apply keeps_mk | (intro _) | split
    | dsimp only [id_eq])

theorem keeps_doProtectionTimeout {b0 b2 b3 b4 b5 : Bool} {u : State} (n : ℕ) (s : State)
 (hk : Keeps ⟨b0, false, b2, b3, b4, b5⟩ u s) :
    Keeps ⟨b0, false, b2, b3, b4, b5⟩ u (doProtectionTimeout n s) := by
  unfold doProtectionTimeout
  try dsimp only
  repeat' (first
    | with_reducible assumption | with_reducible apply keeps_bump | with_reducible apply keeps_copiesDone
    | with_reducible apply keeps_raiseEvent | with_reducible apply keeps_settle
    | fail_if_no_progress with_reducible apply keeps_mk | (intro _) | split | dsimp only [id_eq])

theorem keeps_execProtectionAckTimeout {b0 b2 b3 b4 b5 : Bool} {u : State} (txn : ℕ) (s : State)
 (hk : Keeps ⟨b0, false, b2, b3, b4, b5⟩ u s) :
    ∀ t, execProtectionAckTimeout txn s = .next t → Keeps ⟨b0, false, b2, b3, b4, b5⟩ u t := by
  intro t e
  unfold execProtectionAckTimeout at e
  cases e
  repeat' (first
    | with_reducible assumption | with_reducible apply keeps_doProtectionTimeout | (intro _) | split | dsimp only [id_eq])

theorem keeps_execTierCountersClear {b1 b2 b3 b4 b5 : Bool} {u : State} (d : DapMsg) (s : State)
 (hk : Keeps ⟨false, b1, b2, b3, b4, b5⟩ u s) :
    ∀ t, execTierCountersClear d s = .next t → Keeps ⟨false, b1, b2, b3, b4, b5⟩ u t := by
  intro t e
  unfold execTierCountersClear at e
  cases e
  repeat' (first
    | with_reducible assumption | with_reducible apply keeps_clearObj | with_reducible apply keeps_clearObjs | (intro _)
    | split | dsimp only [id_eq])

theorem keeps_doObjTableBase {b1 b2 b3 b4 b5 : Bool} {u : State} (c : Ctx) (s : State)
 (hk : Keeps ⟨false, b1, b2, b3, b4, b5⟩ u s) :
    Keeps ⟨false, b1, b2, b3, b4, b5⟩ u (doObjTableBase c s) := by
  unfold doObjTableBase
  try dsimp only
  repeat' (first
    | with_reducible assumption | with_reducible apply keeps_applied | with_reducible apply keeps_fin
    | with_reducible apply keeps_finBad | with_reducible apply keeps_setObj | (intro _) | split | dsimp only [id_eq])

theorem keeps_doShadowTableBase {b1 b2 b3 b4 b5 : Bool} {u : State} (c : Ctx) (s : State)
 (hk : Keeps ⟨false, b1, b2, b3, b4, b5⟩ u s) :
    Keeps ⟨false, b1, b2, b3, b4, b5⟩ u (doShadowTableBase c s) := by
  unfold doShadowTableBase
  try dsimp only
  repeat' (first
    | with_reducible assumption | with_reducible apply keeps_applied | with_reducible apply keeps_fin
    | with_reducible apply keeps_finBad | with_reducible apply keeps_setObj | (intro _) | split | dsimp only [id_eq])

theorem keeps_doPinLimit {b1 b2 b3 b4 b5 : Bool} {u : State} (c : Ctx) (s : State)
 (hk : Keeps ⟨false, b1, b2, b3, b4, b5⟩ u s) :
    Keeps ⟨false, b1, b2, b3, b4, b5⟩ u (doPinLimit c s) := by
  unfold doPinLimit
  try dsimp only
  repeat' (first
    | with_reducible assumption | with_reducible apply keeps_applied | with_reducible apply keeps_fin
    | with_reducible apply keeps_finBad | with_reducible apply keeps_setObj | (intro _) | split | dsimp only [id_eq])

theorem keeps_endStream {b0 b2 b3 b4 b5 : Bool} {u : State} (p : Posted) (acc : ℕ) (st : Status) (slot : ℕ) (gen : ℕ)
 (done : ℕ) (s : State) (hk : Keeps ⟨b0, false, b2, b3, b4, b5⟩ u s) :
    Keeps ⟨b0, false, b2, b3, b4, b5⟩ u (endStream p acc st slot gen done s) := by
  unfold endStream
  try dsimp only
  repeat' (first
    | with_reducible assumption | with_reducible apply keeps_bump | with_reducible apply keeps_endPosted
    | with_reducible apply keeps_oweRemote | with_reducible apply keeps_raiseEvent | (intro _) | split
    | dsimp only [id_eq])

theorem keeps_readImage {b0 b2 b3 b5 : Bool} {u : State} (k : ℕ) (s : State)
 (hk : Keeps ⟨b0, false, b2, b3, false, b5⟩ u s) :
    Keeps ⟨b0, false, b2, b3, false, b5⟩ u (readImage k s) := by
  unfold readImage
  try dsimp only
  repeat' (first
    | with_reducible assumption | with_reducible apply keeps_endStream | with_reducible apply keeps_setSlot
    | with_reducible apply keeps_fetchHere | with_reducible refine keeps_fetchHere_wait (by assumption) ?_
    | with_reducible refine keeps_fetchHere_got (by assumption) ?_ | fail_if_no_progress with_reducible apply keeps_mk
    | (intro _) | split | dsimp only [id_eq])

theorem keeps_doInstall {b0 b2 b3 b5 : Bool} {u : State} (rq : Req) (s : State)
 (hk : Keeps ⟨b0, false, b2, b3, false, b5⟩ u s) :
    Keeps ⟨b0, false, b2, b3, false, b5⟩ u (doInstall rq s) := by
  unfold doInstall
  try dsimp only
  repeat' (first
    | with_reducible assumption | with_reducible apply keeps_complete | with_reducible apply keeps_nextAcc
    | with_reducible apply keeps_readImage | with_reducible apply keeps_setSlot
    | with_reducible refine keeps_nextAcc_eq (by assumption) ?_ | fail_if_no_progress with_reducible apply keeps_mk
    | (intro _) | split | dsimp only [id_eq])

theorem keeps_doSlotRetire {b0 b2 b3 b5 : Bool} {u : State} (rq : Req) (s : State)
 (hk : Keeps ⟨b0, false, b2, b3, false, b5⟩ u s) :
    Keeps ⟨b0, false, b2, b3, false, b5⟩ u (doSlotRetire rq s) := by
  unfold doSlotRetire
  try dsimp only
  repeat' (first
    | with_reducible assumption | with_reducible apply keeps_complete | with_reducible apply keeps_endStream
    | with_reducible apply keeps_nextAcc | with_reducible apply keeps_setSlot
    | with_reducible refine keeps_nextAcc_eq (by assumption) ?_ | fail_if_no_progress with_reducible apply keeps_mk
    | (intro _) | split | dsimp only [id_eq])

theorem keeps_serveStream {b0 b1 b2 b3 b4 b5 : Bool} {u : State} (op : ℕ) (h : Hdr) (body : ℕ)
 (act : Req → State → State) (s : State) (hact : ∀ a0
 (w : State), Keeps ⟨b0, b1, b2, b3, b4, b5⟩ u w → Keeps ⟨b0, b1, b2, b3, b4, b5⟩ u (act a0 w))
 (hk : Keeps ⟨b0, b1, b2, b3, b4, b5⟩ u s) :
    Keeps ⟨b0, b1, b2, b3, b4, b5⟩ u (serveStream op h body act s) := by
  unfold serveStream
  try dsimp only
  repeat' (first
    | with_reducible assumption | with_reducible apply keeps_serve | with_reducible apply hact | (intro _) | split
    | dsimp only [id_eq])

theorem keeps_execTableInstall {b0 b2 b3 b5 : Bool} {u : State} (h : Hdr) (body : ℕ) (s : State)
 (hk : Keeps ⟨b0, false, b2, b3, false, b5⟩ u s) :
    ∀ t, execTableInstall h body s = .next t → Keeps ⟨b0, false, b2, b3, false, b5⟩ u t := by
  intro t e
  unfold execTableInstall at e
  cases e
  repeat' (first
    | with_reducible assumption | with_reducible apply keeps_doInstall | with_reducible apply keeps_serveStream
    | (intro _) | split | dsimp only [id_eq])

theorem keeps_execTableSlotRetire {b0 b2 b3 b5 : Bool} {u : State} (h : Hdr) (body : ℕ) (s : State)
 (hk : Keeps ⟨b0, false, b2, b3, false, b5⟩ u s) :
    ∀ t, execTableSlotRetire h body s = .next t → Keeps ⟨b0, false, b2, b3, false, b5⟩ u t := by
  intro t e
  unfold execTableSlotRetire at e
  cases e
  repeat' (first
    | with_reducible assumption | with_reducible apply keeps_doSlotRetire | with_reducible apply keeps_serveStream
    | (intro _) | split | dsimp only [id_eq])

theorem keeps_doInstallBuilt {b0 b2 b3 b5 : Bool} {u : State} (k : ℕ) (s : State)
 (hk : Keeps ⟨b0, false, b2, b3, false, b5⟩ u s) :
    Keeps ⟨b0, false, b2, b3, false, b5⟩ u (doInstallBuilt k s) := by
  unfold doInstallBuilt
  try dsimp only
  repeat' (first
    | with_reducible assumption | with_reducible apply keeps_endStream | with_reducible apply keeps_readImage
    | with_reducible apply keeps_setSlot | fail_if_no_progress with_reducible apply keeps_mk | (intro _) | split
    | dsimp only [id_eq])

theorem keeps_execTableInstallBuilt {b0 b2 b3 b5 : Bool} {u : State} (slot : ℕ) (s : State)
 (hk : Keeps ⟨b0, false, b2, b3, false, b5⟩ u s) :
    ∀ t, execTableInstallBuilt slot s = .next t → Keeps ⟨b0, false, b2, b3, false, b5⟩ u t := by
  intro t e
  unfold execTableInstallBuilt at e
  cases e
  repeat' (first
    | with_reducible assumption | with_reducible apply keeps_doInstallBuilt | (intro _) | split | dsimp only [id_eq])

theorem keeps_doQueuedZero {b0 b2 b3 b5 : Bool} {u : State} (k : ℕ) (s : State)
 (hk : Keeps ⟨b0, false, b2, b3, false, b5⟩ u s) :
    Keeps ⟨b0, false, b2, b3, false, b5⟩ u (doQueuedZero k s) := by
  unfold doQueuedZero
  try dsimp only
  repeat' (first
    | with_reducible assumption | with_reducible apply keeps_endStream | with_reducible apply keeps_setSlot
    | fail_if_no_progress with_reducible apply keeps_mk | (intro _) | split | dsimp only [id_eq])

theorem keeps_execSlotQueuedZero {b0 b2 b3 b5 : Bool} {u : State} (slot : ℕ) (s : State)
 (hk : Keeps ⟨b0, false, b2, b3, false, b5⟩ u s) :
    ∀ t, execSlotQueuedZero slot s = .next t → Keeps ⟨b0, false, b2, b3, false, b5⟩ u t := by
  intro t e
  unfold execSlotQueuedZero at e
  cases e
  repeat' (first
    | with_reducible assumption | with_reducible apply keeps_doQueuedZero | (intro _) | split | dsimp only [id_eq])

theorem keeps_refuseStream {b0 b1 b2 b3 b4 b5 : Bool} {u : State} (rq : Req) (st : Status) (s : State)
 (hk : Keeps ⟨b0, b1, b2, b3, b4, b5⟩ u s) :
    Keeps ⟨b0, b1, b2, b3, b4, b5⟩ u (refuseStream rq st s) := by
  unfold refuseStream
  try dsimp only
  repeat' (first
    | with_reducible assumption | with_reducible apply keeps_bump | with_reducible apply keeps_complete | (intro _)
    | split | dsimp only [id_eq])

theorem keeps_doStreamRead {b0 b1 b2 b3 b4 b5 : Bool} {u : State} (rq : Req) (s : State)
 (hk : Keeps ⟨b0, b1, b2, b3, b4, b5⟩ u s) :
    Keeps ⟨b0, b1, b2, b3, b4, b5⟩ u (doStreamRead rq s) := by
  unfold doStreamRead
  try dsimp only
  repeat' (first
    | with_reducible assumption | with_reducible apply keeps_complete | with_reducible apply keeps_deferReq
    | with_reducible apply keeps_farDefer | with_reducible apply keeps_nextAcc | with_reducible apply keeps_refuseStream
    | with_reducible refine keeps_nextAcc_eq (by assumption) ?_ | fail_if_no_progress with_reducible apply keeps_mk
    | (intro _) | split | dsimp only [id_eq])

theorem keeps_execStreamRead {b0 b1 b2 b3 b4 b5 : Bool} {u : State} (h : Hdr) (body : ℕ) (s : State)
 (hk : Keeps ⟨b0, b1, b2, b3, b4, b5⟩ u s) :
    ∀ t, execStreamRead h body s = .next t → Keeps ⟨b0, b1, b2, b3, b4, b5⟩ u t := by
  intro t e
  unfold execStreamRead at e
  cases e
  repeat' (first
    | with_reducible assumption | with_reducible apply keeps_doStreamRead | with_reducible apply keeps_serveStream
    | (intro _) | split | dsimp only [id_eq])

theorem keeps_pinBlocks {b0 b1 b2 b3 b5 : Bool} {u : State} (map : ℕ) (first : ℕ) (n : ℕ) (pin : Bool) (s : State)
 (hk : Keeps ⟨b0, b1, b2, b3, false, b5⟩ u s) :
    Keeps ⟨b0, b1, b2, b3, false, b5⟩ u (pinBlocks map first n pin s) := by
  unfold pinBlocks
  try dsimp only
  repeat' (first
    | with_reducible assumption | with_reducible apply keeps_setSlot | fail_if_no_progress with_reducible apply keeps_mk
    | with_reducible apply keeps_foldl | with_reducible apply keeps_foldl_snd | (intro _) | split | dsimp only [id_eq])

theorem keeps_setStream {b0 b1 b2 b3 b4 b5 : Bool} {u : State} (acc : ℕ) (f : StreamRead → StreamRead) (s : State)
 (hk : Keeps ⟨b0, b1, b2, b3, b4, b5⟩ u s) :
    Keeps ⟨b0, b1, b2, b3, b4, b5⟩ u (setStream acc f s) := by
  unfold setStream
  try dsimp only
  repeat' (first
    | with_reducible assumption | fail_if_no_progress with_reducible apply keeps_mk | (intro _) | split
    | dsimp only [id_eq])

theorem keeps_doMapCheck {b0 b2 b3 b5 : Bool} {u : State} (acc : ℕ) (s : State)
 (hk : Keeps ⟨b0, false, b2, b3, false, b5⟩ u s) :
    Keeps ⟨b0, false, b2, b3, false, b5⟩ u (doMapCheck acc s) := by
  unfold doMapCheck
  try dsimp only
  repeat' (first
    | with_reducible assumption | with_reducible apply keeps_pinBlocks | with_reducible apply keeps_setStream
    | with_reducible apply keeps_fetchHere | with_reducible refine keeps_fetchHere_wait (by assumption) ?_
    | with_reducible refine keeps_fetchHere_got (by assumption) ?_ | fail_if_no_progress with_reducible apply keeps_mk
    | (intro _) | split | dsimp only [id_eq])

theorem keeps_execStreamMapCheck {b0 b2 b3 b5 : Bool} {u : State} (acc : ℕ) (s : State)
 (hk : Keeps ⟨b0, false, b2, b3, false, b5⟩ u s) :
    ∀ t, execStreamMapCheck acc s = .next t → Keeps ⟨b0, false, b2, b3, false, b5⟩ u t := by
  intro t e
  unfold execStreamMapCheck at e
  cases e
  repeat' (first
    | with_reducible assumption | with_reducible apply keeps_doMapCheck | (intro _) | split | dsimp only [id_eq])

theorem keeps_doBlockWrite {b0 b2 b3 b5 : Bool} {u : State} (acc : ℕ) (ack : Status) (s : State)
 (hk : Keeps ⟨b0, false, b2, b3, false, b5⟩ u s) :
    Keeps ⟨b0, false, b2, b3, false, b5⟩ u (doBlockWrite acc ack s) := by
  unfold doBlockWrite
  try dsimp only
  repeat' (first
    | with_reducible assumption | with_reducible apply keeps_bump | with_reducible apply keeps_emit
    | with_reducible apply keeps_meterOut | with_reducible apply keeps_pinBlocks | with_reducible apply keeps_sendFlits
    | with_reducible apply keeps_setStream | with_reducible apply keeps_wake | with_reducible apply keeps_fetchHere
    | with_reducible refine keeps_fetchHere_wait (by assumption) ?_
    | with_reducible refine keeps_fetchHere_got (by assumption) ?_ | fail_if_no_progress with_reducible apply keeps_mk
    | (intro _) | split | dsimp only [id_eq])

theorem keeps_execStreamBlockWrite {b0 b2 b3 b5 : Bool} {u : State} (acc : ℕ) (ack : Status) (s : State)
 (hk : Keeps ⟨b0, false, b2, b3, false, b5⟩ u s) :
    ∀ t, execStreamBlockWrite acc ack s = .next t → Keeps ⟨b0, false, b2, b3, false, b5⟩ u t := by
  intro t e
  unfold execStreamBlockWrite at e
  cases e
  repeat' (first
    | with_reducible assumption | with_reducible apply keeps_doBlockWrite | (intro _) | split | dsimp only [id_eq])

theorem keeps_doStreamComplete {b0 b2 b3 b4 b5 : Bool} {u : State} (acc : ℕ) (s : State)
 (hk : Keeps ⟨b0, false, b2, b3, b4, b5⟩ u s) :
    Keeps ⟨b0, false, b2, b3, b4, b5⟩ u (doStreamComplete acc s) := by
  unfold doStreamComplete
  try dsimp only
  repeat' (first
    | with_reducible assumption | with_reducible apply keeps_endStream | fail_if_no_progress with_reducible apply keeps_mk
    | (intro _) | split | dsimp only [id_eq])

theorem keeps_execStreamReadComplete {b0 b2 b3 b4 b5 : Bool} {u : State} (acc : ℕ) (s : State)
 (hk : Keeps ⟨b0, false, b2, b3, b4, b5⟩ u s) :
    ∀ t, execStreamReadComplete acc s = .next t → Keeps ⟨b0, false, b2, b3, b4, b5⟩ u t := by
  intro t e
  unfold execStreamReadComplete at e
  cases e
  repeat' (first
    | with_reducible assumption | with_reducible apply keeps_doStreamComplete | (intro _) | split | dsimp only [id_eq])

theorem keeps_execStreamCountersClear {b1 b2 b3 b4 b5 : Bool} {u : State} (d : DapMsg) (s : State)
 (hk : Keeps ⟨false, b1, b2, b3, b4, b5⟩ u s) :
    ∀ t, execStreamCountersClear d s = .next t → Keeps ⟨false, b1, b2, b3, b4, b5⟩ u t := by
  intro t e
  unfold execStreamCountersClear at e
  cases e
  repeat' (first
    | with_reducible assumption | with_reducible apply keeps_clearObj | with_reducible apply keeps_clearObjs | (intro _)
    | split | dsimp only [id_eq])

theorem keeps_doPackCall {b0 b2 b5 : Bool} {u : State} (acc : ℕ) (k : Call) (x : FnHandle) (r : CallResult) (s : State)
 (hk : Keeps ⟨b0, false, b2, false, false, b5⟩ u s) :
    Keeps ⟨b0, false, b2, false, false, b5⟩ u (doPackCall acc k x r s) := by
  unfold doPackCall
  try dsimp only
  repeat' (first
    | with_reducible assumption | with_reducible apply keeps_engineFar | with_reducible apply keeps_finishCall
    | fail_if_no_progress with_reducible apply keeps_mk | (intro _) | split | dsimp only [id_eq])

theorem keeps_doCallComplete {b0 b2 b5 : Bool} {u : State} (acc : ℕ) (r : CallResult) (s : State)
 (hk : Keeps ⟨b0, false, b2, false, false, b5⟩ u s) :
    Keeps ⟨b0, false, b2, false, false, b5⟩ u (doCallComplete acc r s) := by
  unfold doCallComplete
  try dsimp only
  repeat' (first
    | with_reducible assumption | with_reducible apply keeps_doMergeCall | with_reducible apply keeps_doPackCall
    | with_reducible apply keeps_finishCall | fail_if_no_progress with_reducible apply keeps_mk | (intro _) | split
    | dsimp only [id_eq])

theorem keeps_execCallComplete {b0 b2 b5 : Bool} {u : State} (acc : ℕ) (r : CallResult) (s : State)
 (hk : Keeps ⟨b0, false, b2, false, false, b5⟩ u s) :
    ∀ t, execCallComplete acc r s = .next t → Keeps ⟨b0, false, b2, false, false, b5⟩ u t := by
  intro t e
  unfold execCallComplete at e
  cases e
  repeat' (first
    | with_reducible assumption | with_reducible apply keeps_doCallComplete | (intro _) | split | dsimp only [id_eq])

end Sys2Proof.Machine
end

