-- ==== Sys2Proof/Laws/KeepsEngines.lean ====
section
/-! SUPPORT. What the operations keep (Laws/Keeps.lean): those of tables, search, composition, the links, DMA, tile accesses and meters. -/

set_option maxRecDepth 4000
set_option linter.unusedTactic false
set_option linter.unreachableTactic false

namespace Sys2Proof.Machine

theorem keeps_setOtable {b0 b1 b2 b3 b5 : Bool} {u : State} (k : ℕ) (f : OTable → OTable) (s : State)
 (hk : Keeps ⟨b0, b1, b2, b3, false, b5⟩ u s) :
    Keeps ⟨b0, b1, b2, b3, false, b5⟩ u (setOtable k f s) := by
  unfold setOtable
  try dsimp only
  repeat' (first
    | with_reducible assumption | fail_if_no_progress with_reducible apply keeps_mk
    | fail_if_no_progress with_reducible apply keeps_mk_tables | (intro _) | split | dsimp only [id_eq])

theorem keeps_oryxEvent {b0 b1 b2 b3 b4 b5 : Bool} {u : State} (s : State) (hk : Keeps ⟨b0, b1, b2, b3, b4, b5⟩ u s) :
    Keeps ⟨b0, b1, b2, b3, b4, b5⟩ u (oryxEvent s) := by
  unfold oryxEvent
  try dsimp only
  repeat' (first
    | with_reducible assumption | with_reducible apply keeps_raiseEvent | (intro _) | split | dsimp only [id_eq])

theorem keeps_writeHeader {b0 b3 b4 b5 : Bool} {u : State} (rq : Req) (acc : ℕ) (v : ℕ) (refused : Bool) (ack : Status)
 (s : State) (hk : Keeps ⟨b0, false, false, b3, b4, b5⟩ u s) :
    Keeps ⟨b0, false, false, b3, b4, b5⟩ u (writeHeader rq acc v refused ack s) := by
  unfold writeHeader
  try dsimp only
  repeat' (first
    | with_reducible assumption | with_reducible apply keeps_attnSignal | with_reducible apply keeps_fabricStore
    | with_reducible apply keeps_oryxEvent | with_reducible refine keeps_fabricStore_eq (by assumption) ?_ | (intro _)
    | split | dsimp only [id_eq])

theorem keeps_endTable {b0 b1 b2 b3 b4 b5 : Bool} {u : State} (p : Posted) (acc : ℕ) (st : Status) (version : ℕ)
 (s : State) (hk : Keeps ⟨b0, b1, b2, b3, b4, b5⟩ u s) :
    Keeps ⟨b0, b1, b2, b3, b4, b5⟩ u (endTable p acc st version s) := by
  unfold endTable
  try dsimp only
  repeat' (first
    | with_reducible assumption | fail_if_no_progress with_reducible apply keeps_mk | (intro _) | split
    | dsimp only [id_eq])

theorem keeps_doRows {b0 b1 b2 b3 b4 b5 : Bool} {u : State} (rq : Req) (s : State)
 (hk : Keeps ⟨b0, b1, b2, b3, b4, b5⟩ u s) :
    Keeps ⟨b0, b1, b2, b3, b4, b5⟩ u (doRows rq s) := by
  unfold doRows
  try dsimp only
  repeat' (first
    | with_reducible assumption | with_reducible apply keeps_complete | with_reducible apply keeps_deferReq
    | with_reducible apply keeps_nextAcc | with_reducible refine keeps_nextAcc_eq (by assumption) ?_
    | fail_if_no_progress with_reducible apply keeps_mk | (intro _) | split | dsimp only [id_eq])

theorem keeps_returnVersion {b0 b1 b2 b3 b5 : Bool} {u : State} (k : ℕ) (v : ℕ) (s : State)
 (hk : Keeps ⟨b0, b1, b2, b3, false, b5⟩ u s) :
    Keeps ⟨b0, b1, b2, b3, false, b5⟩ u (returnVersion k v s) := by
  unfold returnVersion
  try dsimp only
  repeat' (first
    | with_reducible assumption | fail_if_no_progress with_reducible apply keeps_mk
    | fail_if_no_progress with_reducible apply keeps_mk_tables | (intro _) | split | dsimp only [id_eq])

theorem keeps_doTable {b0 b1 b2 b3 b5 : Bool} {u : State} (rq : Req) (s : State)
 (hk : Keeps ⟨b0, b1, b2, b3, false, b5⟩ u s) :
    Keeps ⟨b0, b1, b2, b3, false, b5⟩ u (doTable rq s) := by
  unfold doTable
  try dsimp only
  repeat' (first
    | with_reducible assumption | with_reducible apply keeps_complete | with_reducible apply keeps_deferReq
    | with_reducible apply keeps_endTable | with_reducible apply keeps_nextAcc | with_reducible apply keeps_returnVersion
    | with_reducible apply keeps_setOtable | with_reducible refine keeps_nextAcc_eq (by assumption) ?_
    | fail_if_no_progress with_reducible apply keeps_mk | with_reducible apply keeps_foldl
    | with_reducible apply keeps_foldl_snd | (intro _) | split | dsimp only [id_eq])

theorem keeps_serveOryx {b0 b1 b2 b3 b4 b5 : Bool} {u : State} (op : ℕ) (bad : ℕ → Bool) (h : Hdr) (body : ℕ)
 (act : Req → State → State) (s : State) (hact : ∀ a0
 (w : State), Keeps ⟨b0, b1, b2, b3, b4, b5⟩ u w → Keeps ⟨b0, b1, b2, b3, b4, b5⟩ u (act a0 w))
 (hk : Keeps ⟨b0, b1, b2, b3, b4, b5⟩ u s) :
    Keeps ⟨b0, b1, b2, b3, b4, b5⟩ u (serveOryx op bad h body act s) := by
  unfold serveOryx
  try dsimp only
  repeat' (first
    | with_reducible assumption | with_reducible apply keeps_complete | with_reducible apply keeps_serve
    | with_reducible apply hact | (intro _) | split | dsimp only [id_eq])

theorem keeps_execGather {b0 b1 b2 b3 b4 b5 : Bool} {u : State} (h : Hdr) (body : ℕ) (s : State)
 (hk : Keeps ⟨b0, b1, b2, b3, b4, b5⟩ u s) :
    ∀ t, execGather h body s = .next t → Keeps ⟨b0, b1, b2, b3, b4, b5⟩ u t := by
  intro t e
  unfold execGather at e
  cases e
  repeat' (first
    | with_reducible assumption | with_reducible apply keeps_doRows | with_reducible apply keeps_serveOryx | (intro _)
    | split | dsimp only [id_eq])

theorem keeps_execPool {b0 b1 b2 b3 b4 b5 : Bool} {u : State} (h : Hdr) (body : ℕ) (s : State)
 (hk : Keeps ⟨b0, b1, b2, b3, b4, b5⟩ u s) :
    ∀ t, execPool h body s = .next t → Keeps ⟨b0, b1, b2, b3, b4, b5⟩ u t := by
  intro t e
  unfold execPool at e
  cases e
  repeat' (first
    | with_reducible assumption | with_reducible apply keeps_doRows | with_reducible apply keeps_serveOryx | (intro _)
    | split | dsimp only [id_eq])

theorem keeps_execScatter {b0 b1 b2 b3 b4 b5 : Bool} {u : State} (h : Hdr) (body : ℕ) (s : State)
 (hk : Keeps ⟨b0, b1, b2, b3, b4, b5⟩ u s) :
    ∀ t, execScatter h body s = .next t → Keeps ⟨b0, b1, b2, b3, b4, b5⟩ u t := by
  intro t e
  unfold execScatter at e
  cases e
  repeat' (first
    | with_reducible assumption | with_reducible apply keeps_doRows | with_reducible apply keeps_serveOryx | (intro _)
    | split | dsimp only [id_eq])

theorem keeps_execUpdate {b0 b1 b2 b3 b4 b5 : Bool} {u : State} (h : Hdr) (body : ℕ) (s : State)
 (hk : Keeps ⟨b0, b1, b2, b3, b4, b5⟩ u s) :
    ∀ t, execUpdate h body s = .next t → Keeps ⟨b0, b1, b2, b3, b4, b5⟩ u t := by
  intro t e
  unfold execUpdate at e
  cases e
  repeat' (first
    | with_reducible assumption | with_reducible apply keeps_doRows | with_reducible apply keeps_serveOryx | (intro _)
    | split | dsimp only [id_eq])

theorem keeps_execOryxDelete {b0 b1 b2 b3 b4 b5 : Bool} {u : State} (h : Hdr) (body : ℕ) (s : State)
 (hk : Keeps ⟨b0, b1, b2, b3, b4, b5⟩ u s) :
    ∀ t, execOryxDelete h body s = .next t → Keeps ⟨b0, b1, b2, b3, b4, b5⟩ u t := by
  intro t e
  unfold execOryxDelete at e
  cases e
  repeat' (first
    | with_reducible assumption | with_reducible apply keeps_doRows | with_reducible apply keeps_serveOryx | (intro _)
    | split | dsimp only [id_eq])

theorem keeps_execTableActivate {b0 b1 b2 b3 b5 : Bool} {u : State} (h : Hdr) (body : ℕ) (s : State)
 (hk : Keeps ⟨b0, b1, b2, b3, false, b5⟩ u s) :
    ∀ t, execTableActivate h body s = .next t → Keeps ⟨b0, b1, b2, b3, false, b5⟩ u t := by
  intro t e
  unfold execTableActivate at e
  cases e
  repeat' (first
    | with_reducible assumption | with_reducible apply keeps_doTable | with_reducible apply keeps_serveOryx | (intro _)
    | split | dsimp only [id_eq])

theorem keeps_execTableReplace {b0 b1 b2 b3 b5 : Bool} {u : State} (h : Hdr) (body : ℕ) (s : State)
 (hk : Keeps ⟨b0, b1, b2, b3, false, b5⟩ u s) :
    ∀ t, execTableReplace h body s = .next t → Keeps ⟨b0, b1, b2, b3, false, b5⟩ u t := by
  intro t e
  unfold execTableReplace at e
  cases e
  repeat' (first
    | with_reducible assumption | with_reducible apply keeps_doTable | with_reducible apply keeps_serveOryx | (intro _)
    | split | dsimp only [id_eq])

theorem keeps_execTableDeactivate {b0 b1 b2 b3 b5 : Bool} {u : State} (h : Hdr) (body : ℕ) (s : State)
 (hk : Keeps ⟨b0, b1, b2, b3, false, b5⟩ u s) :
    ∀ t, execTableDeactivate h body s = .next t → Keeps ⟨b0, b1, b2, b3, false, b5⟩ u t := by
  intro t e
  unfold execTableDeactivate at e
  cases e
  repeat' (first
    | with_reducible assumption | with_reducible apply keeps_doTable | with_reducible apply keeps_serveOryx | (intro _)
    | split | dsimp only [id_eq])

theorem keeps_setOreq {b0 b1 b2 b3 b4 b5 : Bool} {u : State} (acc : ℕ) (f : OReq → OReq) (s : State)
 (hk : Keeps ⟨b0, b1, b2, b3, b4, b5⟩ u s) :
    Keeps ⟨b0, b1, b2, b3, b4, b5⟩ u (setOreq acc f s) := by
  unfold setOreq
  try dsimp only
  repeat' (first
    | with_reducible assumption | fail_if_no_progress with_reducible apply keeps_mk | (intro _) | split
    | dsimp only [id_eq])

theorem keeps_endRows {b0 b1 b2 b3 b4 b5 : Bool} {u : State} (acc : ℕ) (st : Status) (s : State)
 (hk : Keeps ⟨b0, b1, b2, b3, b4, b5⟩ u s) :
    Keeps ⟨b0, b1, b2, b3, b4, b5⟩ u (endRows acc st s) := by
  unfold endRows
  try dsimp only
  repeat' (first
    | with_reducible assumption | with_reducible apply keeps_setOreq | fail_if_no_progress with_reducible apply keeps_mk
    | (intro _) | split | dsimp only [id_eq])

theorem keeps_substituted {b0 b1 b2 b3 b4 b5 : Bool} {u : State} (acc : ℕ) (st : Status) (s : State)
 (hk : Keeps ⟨b0, b1, b2, b3, b4, b5⟩ u s) :
    Keeps ⟨b0, b1, b2, b3, b4, b5⟩ u (substituted acc st s) := by
  unfold substituted
  try dsimp only
  repeat' (first
    | with_reducible assumption | with_reducible apply keeps_setOreq | fail_if_no_progress with_reducible apply keeps_mk
    | (intro _) | split | dsimp only [id_eq])

theorem keeps_readLists {b0 b2 b3 b4 b5 : Bool} {u : State} (acc : ℕ) (idx : Remote) (bags : Remote) (x : OReq)
 (s : State) (hk : Keeps ⟨b0, false, b2, b3, b4, b5⟩ u s) :
    Keeps ⟨b0, false, b2, b3, b4, b5⟩ u (readLists acc idx bags x s) := by
  unfold readLists
  try dsimp only
  repeat' (first
    | with_reducible assumption | with_reducible apply keeps_endRows | with_reducible apply keeps_setOreq
    | with_reducible apply keeps_substituted | with_reducible apply keeps_fetch
    | with_reducible refine keeps_fetch_wait (by assumption) ?_ | with_reducible refine keeps_fetch_got (by assumption) ?_
    | fail_if_no_progress with_reducible apply keeps_mk | (intro _) | split | dsimp only [id_eq])

theorem keeps_doListRead {b0 b2 b3 b4 b5 : Bool} {u : State} (acc : ℕ) (again : Bool) (idx : Remote) (bags : Remote)
 (s : State) (hk : Keeps ⟨b0, false, b2, b3, b4, b5⟩ u s) :
    Keeps ⟨b0, false, b2, b3, b4, b5⟩ u (doListRead acc again idx bags s) := by
  unfold doListRead
  try dsimp only
  repeat' (first
    | with_reducible assumption | with_reducible apply keeps_readLists | fail_if_no_progress with_reducible apply keeps_mk
    | (intro _) | split | dsimp only [id_eq])

theorem keeps_execOryxListRead {b0 b2 b3 b4 b5 : Bool} {u : State} (acc : ℕ) (idx : Remote) (bags : Remote) (s : State)
 (hk : Keeps ⟨b0, false, b2, b3, b4, b5⟩ u s) :
    ∀ t, execOryxListRead acc idx bags s = .next t → Keeps ⟨b0, false, b2, b3, b4, b5⟩ u t := by
  intro t e
  unfold execOryxListRead at e
  cases e
  repeat' (first
    | with_reducible assumption | with_reducible apply keeps_doListRead | (intro _) | split | dsimp only [id_eq])

theorem keeps_execListReadReissue {b0 b2 b3 b4 b5 : Bool} {u : State} (acc : ℕ) (idx : Remote) (bags : Remote)
 (s : State) (hk : Keeps ⟨b0, false, b2, b3, b4, b5⟩ u s) :
    ∀ t, execListReadReissue acc idx bags s = .next t → Keeps ⟨b0, false, b2, b3, b4, b5⟩ u t := by
  intro t e
  unfold execListReadReissue at e
  cases e
  repeat' (first
    | with_reducible assumption | with_reducible apply keeps_doListRead | (intro _) | split | dsimp only [id_eq])

theorem keeps_countRow {b0 b1 b2 b3 b5 : Bool} {u : State} (home : ℕ) (d : ℕ) (r : RowRef) (s : State)
 (hk : Keeps ⟨b0, b1, b2, b3, false, b5⟩ u s) :
    Keeps ⟨b0, b1, b2, b3, false, b5⟩ u (countRow home d r s) := by
  unfold countRow
  try dsimp only
  repeat' (first
    | with_reducible assumption | fail_if_no_progress with_reducible apply keeps_mk
    | fail_if_no_progress with_reducible apply keeps_mk_tables | (intro _) | split | dsimp only [id_eq])

theorem keeps_markDirty {b0 b1 b2 b3 b5 : Bool} {u : State} (r : RowRef) (s : State)
 (hk : Keeps ⟨b0, b1, b2, b3, false, b5⟩ u s) :
    Keeps ⟨b0, b1, b2, b3, false, b5⟩ u (markDirty r s) := by
  unfold markDirty
  try dsimp only
  repeat' (first
    | with_reducible assumption | fail_if_no_progress with_reducible apply keeps_mk
    | fail_if_no_progress with_reducible apply keeps_mk_tables | (intro _) | split | dsimp only [id_eq])

theorem keeps_rowHere {b0 b2 b3 b4 b5 : Bool} {u : State} (id : ℕ) (rq : Req) (d : ℕ) (v : ℕ) (off : ℕ) (later : Bool)
 (s : State) (hk : Keeps ⟨b0, false, b2, b3, b4, b5⟩ u s) :
    Keeps ⟨b0, false, b2, b3, b4, b5⟩ u (rowHere id rq d v off later s).2 := by
  unfold rowHere
  try dsimp only
  repeat' (first
    | with_reducible assumption | with_reducible apply keeps_bump | with_reducible apply keeps_engineWrite
    | with_reducible apply keeps_unpeek | with_reducible apply keeps_view
    | with_reducible refine keeps_engineWrite_eq (by assumption) ?_
    | fail_if_no_progress with_reducible apply keeps_filter | fail_if_no_progress with_reducible apply keeps_mk
    | (intro _) | split | dsimp only [id_eq])

theorem keeps_rowHere_eq {b0 b2 b3 b4 b5 : Bool} {u w : State} {r0 : RowDone} {id : ℕ} {rq : Req} {d : ℕ} {v : ℕ}
    {off : ℕ} {later : Bool} {s : State} (e : rowHere id rq d v off later s = (r0, w))
 (hk : Keeps ⟨b0, false, b2, b3, b4, b5⟩ u s) :
    Keeps ⟨b0, false, b2, b3, b4, b5⟩ u w := by
  have := keeps_rowHere id rq d v off later s  hk; rwa [e] at this

theorem keeps_putOutput {b0 b2 b3 b4 b5 : Bool} {u : State} (acc : ℕ) (address : ℕ) (n : ℕ) (v : ℕ) (bad : Bool)
 (ack : Status) (s : State) (hk : Keeps ⟨b0, false, b2, b3, b4, b5⟩ u s) :
    Keeps ⟨b0, false, b2, b3, b4, b5⟩ u (putOutput acc address n v bad ack s).2 := by
  unfold putOutput
  try dsimp only
  repeat' (first
    | with_reducible assumption | with_reducible apply keeps_fabricPut | with_reducible apply keeps_setOreq
    | with_reducible refine keeps_fabricPut_eq (by assumption) ?_ | fail_if_no_progress with_reducible apply keeps_mk
    | (intro _) | split | dsimp only [id_eq])

theorem keeps_putOutput_eq {b0 b2 b3 b4 b5 : Bool} {u w : State} {r0 : Status} {acc : ℕ} {address : ℕ} {n : ℕ} {v : ℕ}
    {bad : Bool} {ack : Status} {s : State} (e : putOutput acc address n v bad ack s = (r0, w))
 (hk : Keeps ⟨b0, false, b2, b3, b4, b5⟩ u s) :
    Keeps ⟨b0, false, b2, b3, b4, b5⟩ u w := by
  have := keeps_putOutput acc address n v bad ack s  hk; rwa [e] at this

theorem keeps_refuseOutput {b0 b1 b2 b3 b4 b5 : Bool} {u : State} (acc : ℕ) (st : Status) (s : State)
 (hk : Keeps ⟨b0, b1, b2, b3, b4, b5⟩ u s) :
    Keeps ⟨b0, b1, b2, b3, b4, b5⟩ u (refuseOutput acc st s) := by
  unfold refuseOutput
  try dsimp only
  repeat' (first
    | with_reducible assumption | with_reducible apply keeps_oryxEvent | with_reducible apply keeps_setOreq
    | fail_if_no_progress with_reducible apply keeps_mk | (intro _) | split | dsimp only [id_eq])

theorem keeps_closeBags {b0 b2 b3 b4 b5 : Bool} {u : State} (d acc i : Nat) (acks : List Status) (first n : Nat)
 (s : State) (hk : Keeps ⟨b0, false, b2, b3, b4, b5⟩ u s) :
    Keeps ⟨b0, false, b2, b3, b4, b5⟩ u (closeBags d acc i acks first n s) := by
  induction n generalizing s with
  | zero => exact hk
  | succ n ih =>
    unfold closeBags
    dsimp only
    repeat' (first
      | with_reducible apply ih
      | with_reducible assumption | with_reducible apply keeps_putOutput | with_reducible apply keeps_refuseOutput
      | with_reducible apply keeps_setOreq | with_reducible refine keeps_putOutput_eq (by assumption) ?_
      | fail_if_no_progress with_reducible apply keeps_mk | (intro _) | split | dsimp only [id_eq])

theorem keeps_rowOutput {b0 b2 b3 b4 b5 : Bool} {u : State} (acc : ℕ) (d : ℕ) (i : ℕ) (out : RowOut) (row : ℕ)
 (ack : Status) (s : State) (hk : Keeps ⟨b0, false, b2, b3, b4, b5⟩ u s) :
    Keeps ⟨b0, false, b2, b3, b4, b5⟩ u (rowOutput acc d i out row ack s) := by
  unfold rowOutput
  try dsimp only
  repeat' (first
    | with_reducible assumption | with_reducible apply keeps_putOutput | with_reducible apply keeps_refuseOutput
    | with_reducible apply keeps_setOreq | with_reducible refine keeps_putOutput_eq (by assumption) ?_
    | fail_if_no_progress with_reducible apply keeps_mk | (intro _) | split | dsimp only [id_eq])

theorem keeps_finishEntry {b0 b2 b3 b4 b5 : Bool} {u : State} (acc : ℕ) (d : ℕ) (i : ℕ) (out : RowOut) (row : ℕ)
 (fwd : Bool) (acks : List Status) (s : State) (hk : Keeps ⟨b0, false, b2, b3, b4, b5⟩ u s) :
    Keeps ⟨b0, false, b2, b3, b4, b5⟩ u (finishEntry acc d i out row fwd acks s) := by
  unfold finishEntry
  try dsimp only
  repeat' (first
    | with_reducible assumption | with_reducible apply keeps_bump | with_reducible apply keeps_closeBags
    | with_reducible apply keeps_rowOutput | with_reducible apply keeps_setOreq
    | fail_if_no_progress with_reducible apply keeps_mk | (intro _) | split | dsimp only [id_eq])

theorem keeps_recordWait {b0 b1 b2 b3 b4 b5 : Bool} {u : State} (id : ℕ) (off : ℕ) (n : ℕ) (s : State)
 (hk : Keeps ⟨b0, b1, b2, b3, b4, b5⟩ u s) :
    ∀ t, recordWait id off n s = some t → Keeps ⟨b0, b1, b2, b3, b4, b5⟩ u t := by
  intro t e
  unfold recordWait at e
  try dsimp only at e
  repeat' split at e
  all_goals try cases e
  repeat' (first
    | with_reducible assumption | with_reducible apply keeps_engineFar | with_reducible apply keeps_wake
    | with_reducible refine keeps_peekWait _ _ _ ?_ _ (by assumption) | fail_if_no_progress with_reducible apply keeps_mk
    | (intro _) | split | dsimp only [id_eq])

theorem keeps_entryFetch {b0 b2 b3 b4 b5 : Bool} {u : State} (acc : Nat) (x : OReq) (d : Nat) (data : List Remote)
 (k : Nat) (s : State) (hk : Keeps ⟨b0, false, b2, b3, b4, b5⟩ u s) :
    Keeps ⟨b0, false, b2, b3, b4, b5⟩ u (entryFetch acc x d data k s).state := by
  unfold entryFetch
  try dsimp only
  repeat' (first
    | dsimp only [Fetched.state_wait, Fetched.state_got, Piece.state_wait, Piece.state_copied, Piece.state_failed]
    | with_reducible assumption | with_reducible apply keeps_fetch
    | with_reducible refine keeps_fetch_wait (by assumption) ?_ | with_reducible refine keeps_fetch_got (by assumption) ?_
    | fail_if_no_progress with_reducible apply keeps_mk | (intro _) | split | dsimp only [id_eq])

theorem keeps_entryFetch_wait {b0 b2 b3 b4 b5 : Bool} {u w : State} {acc : Nat} {x : OReq} {d : Nat}
    {data : List Remote} {k : Nat} {s : State}
    (e : entryFetch acc x d data k s = .wait w) (hk : Keeps ⟨b0, false, b2, b3, b4, b5⟩ u s) : Keeps ⟨b0, false, b2, b3, b4, b5⟩ u w := by
  have := keeps_entryFetch acc x d data k s hk; rwa [e] at this

theorem keeps_entryFetch_got {b0 b2 b3 b4 b5 : Bool} {u w : State} {acc : Nat} {x : OReq} {d : Nat} {data : List Remote}
    {k : Nat} {s : State} {st : Status} {y : Nat}
    (e : entryFetch acc x d data k s = .got st y w) (hk : Keeps ⟨b0, false, b2, b3, b4, b5⟩ u s) : Keeps ⟨b0, false, b2, b3, b4, b5⟩ u w := by
  have := keeps_entryFetch acc x d data k s hk; rwa [e] at this

theorem keeps_sumEntries {b0 b2 b3 b4 b5 : Bool} {u : State} (acc : Nat) (x : OReq) (d idx : Nat) (data : List Remote)
 (ks g : List Nat) (s : State) (hk : Keeps ⟨b0, false, b2, b3, b4, b5⟩ u s) :
    Keeps ⟨b0, false, b2, b3, b4, b5⟩ u (sumEntries acc x d idx data ks g s).state := by
  induction ks generalizing g s with
  | nil => exact hk
  | cons k ks ih =>
    unfold sumEntries
    try dsimp only
    repeat' (first
      | with_reducible apply ih | dsimp only [Fetched.state_wait, Fetched.state_got, Piece.state_wait, Piece.state_copied, Piece.state_failed]
      | with_reducible assumption | with_reducible apply keeps_substituted | with_reducible apply keeps_entryFetch
      | with_reducible refine keeps_entryFetch_wait (by assumption) ?_
      | with_reducible refine keeps_entryFetch_got (by assumption) ?_ | fail_if_no_progress with_reducible apply keeps_mk
      | (intro _) | split | dsimp only [id_eq])

theorem keeps_sumEntries_wait {b0 b2 b3 b4 b5 : Bool} {u w : State} {acc : Nat} {x : OReq} {d idx : Nat}
    {data : List Remote} {ks g : List Nat} {s : State}
    (e : sumEntries acc x d idx data ks g s = .wait w) (hk : Keeps ⟨b0, false, b2, b3, b4, b5⟩ u s) : Keeps ⟨b0, false, b2, b3, b4, b5⟩ u w := by
  have := keeps_sumEntries acc x d idx data ks g s hk; rwa [e] at this

theorem keeps_sumEntries_got {b0 b2 b3 b4 b5 : Bool} {u w : State} {acc : Nat} {x : OReq} {d idx : Nat}
    {data : List Remote} {ks g : List Nat} {s : State} {st : Status} {y : Nat}
    (e : sumEntries acc x d idx data ks g s = .got st y w) (hk : Keeps ⟨b0, false, b2, b3, b4, b5⟩ u s) : Keeps ⟨b0, false, b2, b3, b4, b5⟩ u w := by
  have := keeps_sumEntries acc x d idx data ks g s hk; rwa [e] at this

theorem keeps_entryData {b0 b2 b3 b4 b5 : Bool} {u : State} (acc : Nat) (x : OReq) (d idx : Nat) (data : List Remote)
 (s : State) (hk : Keeps ⟨b0, false, b2, b3, b4, b5⟩ u s) :
    Keeps ⟨b0, false, b2, b3, b4, b5⟩ u (entryData acc x d idx data s).state := by
  unfold entryData
  try dsimp only
  repeat' (first
    | dsimp only [Fetched.state_wait, Fetched.state_got, Piece.state_wait, Piece.state_copied, Piece.state_failed]
    | with_reducible assumption | with_reducible apply keeps_substituted | with_reducible apply keeps_entryFetch
    | with_reducible apply keeps_sumEntries | with_reducible refine keeps_entryFetch_wait (by assumption) ?_
    | with_reducible refine keeps_entryFetch_got (by assumption) ?_
    | with_reducible refine keeps_sumEntries_wait (by assumption) ?_
    | with_reducible refine keeps_sumEntries_got (by assumption) ?_ | fail_if_no_progress with_reducible apply keeps_mk
    | with_reducible apply keeps_foldl | with_reducible apply keeps_foldl_snd | (intro _) | split | dsimp only [id_eq])

theorem keeps_entryData_wait {b0 b2 b3 b4 b5 : Bool} {u w : State} {acc : Nat} {x : OReq} {d idx : Nat}
    {data : List Remote} {s : State}
    (e : entryData acc x d idx data s = .wait w) (hk : Keeps ⟨b0, false, b2, b3, b4, b5⟩ u s) : Keeps ⟨b0, false, b2, b3, b4, b5⟩ u w := by
  have := keeps_entryData acc x d idx data s hk; rwa [e] at this

theorem keeps_entryData_got {b0 b2 b3 b4 b5 : Bool} {u w : State} {acc : Nat} {x : OReq} {d idx : Nat}
    {data : List Remote} {s : State} {st : Status} {y : Nat}
    (e : entryData acc x d idx data s = .got st y w) (hk : Keeps ⟨b0, false, b2, b3, b4, b5⟩ u s) : Keeps ⟨b0, false, b2, b3, b4, b5⟩ u w := by
  have := keeps_entryData acc x d idx data s hk; rwa [e] at this

theorem keeps_placeRow {b0 b2 b3 b5 : Bool} {u : State} (acc : ℕ) (x : OReq) (d : ℕ) (idx : ℕ) (v : ℕ) (answer : Remote)
 (acks : List Status) (s : State) (hk : Keeps ⟨b0, false, b2, b3, false, b5⟩ u s) :
    Keeps ⟨b0, false, b2, b3, false, b5⟩ u (placeRow acc x d idx v answer acks s) := by
  unfold placeRow
  try dsimp only
  repeat' (first
    | with_reducible assumption | with_reducible apply keeps_bump | with_reducible apply keeps_countRow
    | with_reducible apply keeps_emit | with_reducible apply keeps_finishEntry | with_reducible apply keeps_markDirty
    | with_reducible apply keeps_rowHere | with_reducible refine keeps_recordWait _ _ _ _ ?_ _ (by assumption)
    | with_reducible refine keeps_rowHere_eq (by assumption) ?_ | fail_if_no_progress with_reducible apply keeps_mk
    | fail_if_no_progress with_reducible apply keeps_mk_tables | (intro _) | split | dsimp only [id_eq])

theorem keeps_serveGuest {b0 b2 b3 b4 b5 : Bool} {u : State} (c : RowCall) (s : State)
 (hk : Keeps ⟨b0, false, b2, b3, b4, b5⟩ u s) :
    Keeps ⟨b0, false, b2, b3, b4, b5⟩ u (serveGuest c s) := by
  unfold serveGuest
  try dsimp only
  repeat' (first
    | with_reducible assumption | with_reducible apply keeps_emit | with_reducible apply keeps_rowHere
    | with_reducible apply keeps_view | with_reducible refine keeps_recordWait _ _ _ _ ?_ _ (by assumption)
    | with_reducible refine keeps_rowHere_eq (by assumption) ?_ | fail_if_no_progress with_reducible apply keeps_mk
    | (intro _) | split | dsimp only [id_eq])

theorem keeps_nextRow {b0 b2 b3 b5 : Bool} {u : State} (acc : ℕ) (data : List Remote) (answer : Remote)
 (acks : List Status) (s : State) (hk : Keeps ⟨b0, false, b2, b3, false, b5⟩ u s) :
    Keeps ⟨b0, false, b2, b3, false, b5⟩ u (nextRow acc data answer acks s) := by
  unfold nextRow
  try dsimp only
  repeat' (first
    | with_reducible assumption | with_reducible apply keeps_closeBags | with_reducible apply keeps_endRows
    | with_reducible apply keeps_finishEntry | with_reducible apply keeps_placeRow | with_reducible apply keeps_entryData
    | with_reducible refine keeps_entryData_wait (by assumption) ?_
    | with_reducible refine keeps_entryData_got (by assumption) ?_ | fail_if_no_progress with_reducible apply keeps_mk
    | (intro _) | split | dsimp only [id_eq])

theorem keeps_doRowOperation {b0 b2 b3 b5 : Bool} {u : State} (acc : ℕ) (data : List Remote) (answer : Remote)
 (acks : List Status) (guest : Option RowCall) (s : State) (hk : Keeps ⟨b0, false, b2, b3, false, b5⟩ u s) :
    Keeps ⟨b0, false, b2, b3, false, b5⟩ u (doRowOperation acc data answer acks guest s) := by
  unfold doRowOperation
  try dsimp only
  repeat' (first
    | with_reducible assumption | with_reducible apply keeps_nextRow | with_reducible apply keeps_serveGuest
    | fail_if_no_progress with_reducible apply keeps_mk | (intro _) | split | dsimp only [id_eq])

theorem keeps_execOryxRowOperation {b0 b2 b3 b5 : Bool} {u : State} (acc : ℕ) (input : RowInput)
 (s : State) (hk : Keeps ⟨b0, false, b2, b3, false, b5⟩ u s) :
    ∀ t, execOryxRowOperation acc input s = .next t → Keeps ⟨b0, false, b2, b3, false, b5⟩ u t := by
  intro t e
  unfold execOryxRowOperation at e
  cases e
  repeat' (first
    | with_reducible assumption | with_reducible apply keeps_doRowOperation | (intro _) | split | dsimp only [id_eq])

theorem keeps_doResultHeader {b0 b3 b4 b5 : Bool} {u : State} (acc : ℕ) (ack : Status) (s : State)
 (hk : Keeps ⟨b0, false, false, b3, b4, b5⟩ u s) :
    Keeps ⟨b0, false, false, b3, b4, b5⟩ u (doResultHeader acc ack s) := by
  unfold doResultHeader
  try dsimp only
  repeat' (first
    | with_reducible assumption | with_reducible apply keeps_writeHeader
    | fail_if_no_progress with_reducible apply keeps_mk | (intro _) | split | dsimp only [id_eq])

theorem keeps_execOryxResultHeader {b0 b3 b4 b5 : Bool} {u : State} (acc : ℕ) (ack : Status) (s : State)
 (hk : Keeps ⟨b0, false, false, b3, b4, b5⟩ u s) :
    ∀ t, execOryxResultHeader acc ack s = .next t → Keeps ⟨b0, false, false, b3, b4, b5⟩ u t := by
  intro t e
  unfold execOryxResultHeader at e
  cases e
  repeat' (first
    | with_reducible assumption | with_reducible apply keeps_doResultHeader | (intro _) | split | dsimp only [id_eq])

theorem keeps_doVersionFreed {b0 b1 b2 b3 b5 : Bool} {u : State} (k : ℕ) (s : State)
 (hk : Keeps ⟨b0, b1, b2, b3, false, b5⟩ u s) :
    Keeps ⟨b0, b1, b2, b3, false, b5⟩ u (doVersionFreed k s) := by
  unfold doVersionFreed
  try dsimp only
  repeat' (first
    | with_reducible assumption | with_reducible apply keeps_endTable | with_reducible apply keeps_oryxEvent
    | with_reducible apply keeps_returnVersion | with_reducible apply keeps_setOtable
    | fail_if_no_progress with_reducible apply keeps_mk | fail_if_no_progress with_reducible apply keeps_mk_tables
    | with_reducible apply keeps_foldl | with_reducible apply keeps_foldl_snd | (intro _) | split | dsimp only [id_eq])

theorem keeps_execTableVersionFreed {b0 b1 b2 b3 b5 : Bool} {u : State} (slot : ℕ) (s : State)
 (hk : Keeps ⟨b0, b1, b2, b3, false, b5⟩ u s) :
    ∀ t, execTableVersionFreed slot s = .next t → Keeps ⟨b0, b1, b2, b3, false, b5⟩ u t := by
  intro t e
  unfold execTableVersionFreed at e
  cases e
  repeat' (first
    | with_reducible assumption | with_reducible apply keeps_doVersionFreed | (intro _) | split | dsimp only [id_eq])

theorem keeps_startRow {b0 b1 b2 b3 b5 : Bool} {u : State} (utils : List EngineLoad) (home : ℕ) (r : RowRef) (s : State)
 (hk : Keeps ⟨b0, b1, b2, b3, false, b5⟩ u s) :
    Keeps ⟨b0, b1, b2, b3, false, b5⟩ u (startRow utils home r s) := by
  unfold startRow
  try dsimp only
  repeat' (first
    | with_reducible assumption | with_reducible apply keeps_bump | with_reducible apply keeps_emit
    | fail_if_no_progress with_reducible apply keeps_mk | fail_if_no_progress with_reducible apply keeps_mk_tables
    | (intro _) | split | dsimp only [id_eq])

theorem keeps_doShardWindowEnd {b0 b1 b2 b3 b5 : Bool} {u : State} (utils : List EngineLoad) (s : State)
 (hk : Keeps ⟨b0, b1, b2, b3, false, b5⟩ u s) :
    Keeps ⟨b0, b1, b2, b3, false, b5⟩ u (doShardWindowEnd utils s) := by
  unfold doShardWindowEnd
  try dsimp only
  repeat' (first
    | with_reducible assumption | with_reducible apply keeps_startRow | fail_if_no_progress with_reducible apply keeps_mk
    | fail_if_no_progress with_reducible apply keeps_mk_tables | with_reducible apply keeps_foldl
    | with_reducible apply keeps_foldl_snd | (intro _) | split | dsimp only [id_eq])

theorem keeps_execShardWindowEnd {b0 b1 b2 b3 b5 : Bool} {u : State} (utils : List EngineLoad) (s : State)
 (hk : Keeps ⟨b0, b1, b2, b3, false, b5⟩ u s) :
    ∀ t, execShardWindowEnd utils s = .next t → Keeps ⟨b0, b1, b2, b3, false, b5⟩ u t := by
  intro t e
  unfold execShardWindowEnd at e
  cases e
  repeat' (first
    | with_reducible assumption | with_reducible apply keeps_doShardWindowEnd | (intro _) | split | dsimp only [id_eq])

theorem keeps_modForward {b0 b1 b2 b3 b5 : Bool} {u : State} (r : RowRef) (f : Forward → Forward) (s : State)
 (hk : Keeps ⟨b0, b1, b2, b3, false, b5⟩ u s) :
    Keeps ⟨b0, b1, b2, b3, false, b5⟩ u (modForward r f s) := by
  unfold modForward
  try dsimp only
  repeat' (first
    | with_reducible assumption | fail_if_no_progress with_reducible apply keeps_mk
    | fail_if_no_progress with_reducible apply keeps_mk_tables | (intro _) | split | dsimp only [id_eq])

theorem keeps_dropForward {b0 b1 b2 b3 b5 : Bool} {u : State} (r : RowRef) (s : State)
 (hk : Keeps ⟨b0, b1, b2, b3, false, b5⟩ u s) :
    Keeps ⟨b0, b1, b2, b3, false, b5⟩ u (dropForward r s) := by
  unfold dropForward
  try dsimp only
  repeat' (first
    | with_reducible assumption | fail_if_no_progress with_reducible apply keeps_mk
    | fail_if_no_progress with_reducible apply keeps_mk_tables | (intro _) | split | dsimp only [id_eq])

theorem keeps_copyRow {b0 b2 b3 b4 b5 : Bool} {u : State} (f : Forward) (s : State)
 (hk : Keeps ⟨b0, false, b2, b3, b4, b5⟩ u s) :
    Keeps ⟨b0, false, b2, b3, b4, b5⟩ u (copyRow f s) := by
  unfold copyRow
  try dsimp only
  repeat' (first
    | with_reducible assumption | with_reducible apply keeps_engineStore | with_reducible apply keeps_send
    | with_reducible apply keeps_unpeek | with_reducible apply keeps_view
    | with_reducible refine keeps_engineStore_eq (by assumption) ?_
    | fail_if_no_progress with_reducible apply keeps_filter | with_reducible apply keeps_foldl
    | with_reducible apply keeps_foldl_snd | (intro _) | split | dsimp only [id_eq])

theorem keeps_hotSlotHere {b0 b2 b3 b5 : Bool} {u : State} (r : RowRef) (pkg : ℕ) (slice : ℕ) (off : ℕ) (s : State)
 (hk : Keeps ⟨b0, false, b2, b3, false, b5⟩ u s) :
    Keeps ⟨b0, false, b2, b3, false, b5⟩ u (hotSlotHere r pkg slice off s) := by
  unfold hotSlotHere
  try dsimp only
  repeat' (first
    | with_reducible assumption | with_reducible apply keeps_copyRow | with_reducible apply keeps_modForward
    | with_reducible refine keeps_recordWait _ _ _ _ ?_ _ (by assumption)
    | fail_if_no_progress with_reducible apply keeps_mk | (intro _) | split | dsimp only [id_eq])

theorem keeps_doHotSlot {b0 b2 b3 b5 : Bool} {u : State} (r : RowRef) (pkg : ℕ) (slice : ℕ) (off : ℕ) (desc : ℕ)
 (tenant : ℕ) (s : State) (hk : Keeps ⟨b0, false, b2, b3, false, b5⟩ u s) :
    Keeps ⟨b0, false, b2, b3, false, b5⟩ u (doHotSlot r pkg slice off desc tenant s) := by
  unfold doHotSlot
  try dsimp only
  repeat' (first
    | with_reducible assumption | with_reducible apply keeps_emit | with_reducible apply keeps_hotSlotHere
    | fail_if_no_progress with_reducible apply keeps_mk | fail_if_no_progress with_reducible apply keeps_mk_tables
    | (intro _) | split | dsimp only [id_eq])

theorem keeps_execHotSlotGranted {b0 b2 b3 b5 : Bool} {u : State} (row : RowRef) (pkg : ℕ) (slice : ℕ)
 (slot : HotSlot) (s : State) (hk : Keeps ⟨b0, false, b2, b3, false, b5⟩ u s) :
    ∀ t, execHotSlotGranted row pkg slice slot s = .next t → Keeps ⟨b0, false, b2, b3, false, b5⟩ u t := by
  intro t e
  unfold execHotSlotGranted at e
  cases e
  repeat' (first
    | with_reducible assumption | with_reducible apply keeps_doHotSlot | (intro _) | split | dsimp only [id_eq])

theorem keeps_dropGuest {b0 b1 b2 b3 b5 : Bool} {u : State} (r : RowRef) (s : State)
 (hk : Keeps ⟨b0, b1, b2, b3, false, b5⟩ u s) :
    Keeps ⟨b0, b1, b2, b3, false, b5⟩ u (dropGuest r s) := by
  unfold dropGuest
  try dsimp only
  repeat' (first
    | with_reducible assumption | fail_if_no_progress with_reducible apply keeps_mk
    | fail_if_no_progress with_reducible apply keeps_mk_tables | (intro _) | split | dsimp only [id_eq])

theorem keeps_doRowCopyAcked {b0 b2 b3 b5 : Bool} {u : State} (r : RowRef) (s : State)
 (hk : Keeps ⟨b0, false, b2, b3, false, b5⟩ u s) :
    Keeps ⟨b0, false, b2, b3, false, b5⟩ u (doRowCopyAcked r s) := by
  unfold doRowCopyAcked
  try dsimp only
  repeat' (first
    | with_reducible assumption | with_reducible apply keeps_copyRow | with_reducible apply keeps_emit
    | with_reducible apply keeps_modForward | fail_if_no_progress with_reducible apply keeps_mk | (intro _) | split
    | dsimp only [id_eq])

theorem keeps_execRowCopyAcked {b0 b2 b3 b5 : Bool} {u : State} (row : RowRef) (s : State)
 (hk : Keeps ⟨b0, false, b2, b3, false, b5⟩ u s) :
    ∀ t, execRowCopyAcked row s = .next t → Keeps ⟨b0, false, b2, b3, false, b5⟩ u t := by
  intro t e
  unfold execRowCopyAcked at e
  cases e
  repeat' (first
    | with_reducible assumption | with_reducible apply keeps_doRowCopyAcked | (intro _) | split | dsimp only [id_eq])

theorem keeps_doRowCommitAcked {b0 b1 b2 b3 b5 : Bool} {u : State} (r : RowRef) (s : State)
 (hk : Keeps ⟨b0, b1, b2, b3, false, b5⟩ u s) :
    Keeps ⟨b0, b1, b2, b3, false, b5⟩ u (doRowCommitAcked r s) := by
  unfold doRowCommitAcked
  try dsimp only
  repeat' (first
    | with_reducible assumption | with_reducible apply keeps_bump | with_reducible apply keeps_modForward
    | with_reducible apply keeps_setObj | fail_if_no_progress with_reducible apply keeps_mk
    | fail_if_no_progress with_reducible apply keeps_mk_tables | (intro _) | split | dsimp only [id_eq])

theorem keeps_execRowCommitAcked {b0 b1 b2 b3 b5 : Bool} {u : State} (row : RowRef) (s : State)
 (hk : Keeps ⟨b0, b1, b2, b3, false, b5⟩ u s) :
    ∀ t, execRowCommitAcked row s = .next t → Keeps ⟨b0, b1, b2, b3, false, b5⟩ u t := by
  intro t e
  unfold execRowCommitAcked at e
  cases e
  repeat' (first
    | with_reducible assumption | with_reducible apply keeps_doRowCommitAcked | (intro _) | split | dsimp only [id_eq])

theorem keeps_execRowCommitTimeout {b0 b1 b2 b3 b5 : Bool} {u : State} (row : RowRef) (s : State)
 (hk : Keeps ⟨b0, b1, b2, b3, false, b5⟩ u s) :
    ∀ t, execRowCommitTimeout row s = .next t → Keeps ⟨b0, b1, b2, b3, false, b5⟩ u t := by
  intro t e
  unfold execRowCommitTimeout at e
  cases e
  repeat' (first
    | with_reducible assumption | with_reducible apply keeps_bump | with_reducible apply keeps_dropForward
    | fail_if_no_progress with_reducible apply keeps_mk | fail_if_no_progress with_reducible apply keeps_mk_tables
    | (intro _) | split | dsimp only [id_eq])

theorem keeps_uncountForward {b0 b1 b2 b3 b4 b5 : Bool} {u : State} (r : RowRef) (s : State)
 (hk : Keeps ⟨b0, b1, b2, b3, b4, b5⟩ u s) :
    Keeps ⟨b0, b1, b2, b3, b4, b5⟩ u (uncountForward r s) := by
  unfold uncountForward
  try dsimp only
  repeat' (first
    | with_reducible assumption | with_reducible apply keeps_setObj | (intro _) | split | dsimp only [id_eq])

theorem keeps_guestReturned {b0 b2 b3 b5 : Bool} {u : State} (r : RowRef) (s : State)
 (hk : Keeps ⟨b0, false, b2, b3, false, b5⟩ u s) :
    Keeps ⟨b0, false, b2, b3, false, b5⟩ u (guestReturned r s) := by
  unfold guestReturned
  try dsimp only
  repeat' (first
    | with_reducible assumption | with_reducible apply keeps_dropGuest | with_reducible apply keeps_send
    | with_reducible apply keeps_unpeek | with_reducible apply keeps_view
    | with_reducible refine keeps_recordWait _ _ _ _ ?_ _ (by assumption)
    | fail_if_no_progress with_reducible apply keeps_filter | fail_if_no_progress with_reducible apply keeps_mk
    | (intro _) | split | dsimp only [id_eq])

theorem keeps_returnWait {b0 b1 b2 b3 b4 b5 : Bool} {u : State} (r : RowRef) (f : Forward) (d : ℕ) (s : State)
 (hk : Keeps ⟨b0, b1, b2, b3, b4, b5⟩ u s) :
    ∀ t, returnWait r f d s = some t → Keeps ⟨b0, b1, b2, b3, b4, b5⟩ u t := by
  intro t e
  unfold returnWait at e
  try dsimp only at e
  repeat' split at e
  all_goals try cases e
  repeat' (first
    | with_reducible assumption | with_reducible refine keeps_recordWait _ _ _ _ ?_ _ (by assumption)
    | fail_if_no_progress with_reducible apply keeps_mk | (intro _) | split | dsimp only [id_eq])

theorem keeps_doRowReturned {b0 b2 b3 b5 : Bool} {u : State} (r : RowRef) (record : ℕ) (s : State)
 (hk : Keeps ⟨b0, false, b2, b3, false, b5⟩ u s) :
    Keeps ⟨b0, false, b2, b3, false, b5⟩ u (doRowReturned r record s) := by
  unfold doRowReturned
  try dsimp only
  repeat' (first
    | with_reducible assumption | with_reducible apply keeps_bump | with_reducible apply keeps_dropForward
    | with_reducible apply keeps_emit | with_reducible apply keeps_engineStore | with_reducible apply keeps_engineWrite
    | with_reducible apply keeps_guestReturned | with_reducible apply keeps_uncountForward
    | with_reducible apply keeps_unpeek | with_reducible apply keeps_view
    | with_reducible refine keeps_engineStore_eq (by assumption) ?_
    | with_reducible refine keeps_engineWrite_eq (by assumption) ?_
    | with_reducible refine keeps_returnWait _ _ _ _ ?_ _ (by assumption)
    | fail_if_no_progress with_reducible apply keeps_filter | fail_if_no_progress with_reducible apply keeps_mk
    | (intro _) | split | dsimp only [id_eq])

theorem keeps_execRowReturnAcked {b0 b2 b3 b5 : Bool} {u : State} (row : RowRef) (record : ℕ) (s : State)
 (hk : Keeps ⟨b0, false, b2, b3, false, b5⟩ u s) :
    ∀ t, execRowReturnAcked row record s = .next t → Keeps ⟨b0, false, b2, b3, false, b5⟩ u t := by
  intro t e
  unfold execRowReturnAcked at e
  cases e
  repeat' (first
    | with_reducible assumption | with_reducible apply keeps_doRowReturned | (intro _) | split | dsimp only [id_eq])

theorem keeps_execRowForwardLost {b0 b1 b2 b3 b5 : Bool} {u : State} (row : RowRef) (s : State)
 (hk : Keeps ⟨b0, b1, b2, b3, false, b5⟩ u s) :
    ∀ t, execRowForwardLost row s = .next t → Keeps ⟨b0, b1, b2, b3, false, b5⟩ u t := by
  intro t e
  unfold execRowForwardLost at e
  cases e
  repeat' (first
    | with_reducible assumption | with_reducible apply keeps_bump | with_reducible apply keeps_modForward
    | with_reducible apply keeps_oryxEvent | with_reducible apply keeps_uncountForward
    | fail_if_no_progress with_reducible apply keeps_mk | (intro _) | split | dsimp only [id_eq])

theorem keeps_returnRows {b0 b1 b2 b3 b5 : Bool} {u : State} (p : Forward → Bool) (s : State)
 (hk : Keeps ⟨b0, b1, b2, b3, false, b5⟩ u s) :
    Keeps ⟨b0, b1, b2, b3, false, b5⟩ u (returnRows p s) := by
  unfold returnRows
  try dsimp only
  repeat' (first
    | with_reducible assumption | with_reducible apply keeps_emit | fail_if_no_progress with_reducible apply keeps_mk
    | fail_if_no_progress with_reducible apply keeps_mk_tables | with_reducible apply keeps_foldl
    | with_reducible apply keeps_foldl_snd | (intro _) | split | dsimp only [id_eq])

theorem keeps_doHotArea {b1 b2 b3 b4 b5 : Bool} {u : State} (c : Ctx) (s : State)
 (hk : Keeps ⟨false, b1, b2, b3, b4, b5⟩ u s) :
    Keeps ⟨false, b1, b2, b3, b4, b5⟩ u (doHotArea c s) := by
  unfold doHotArea
  try dsimp only
  repeat' (first
    | with_reducible assumption | with_reducible apply keeps_applied | with_reducible apply keeps_fin
    | with_reducible apply keeps_finBad | with_reducible apply keeps_setObj | (intro _) | split | dsimp only [id_eq])

theorem keeps_execOryxCountersClear {b1 b2 b3 b4 b5 : Bool} {u : State} (d : DapMsg) (s : State)
 (hk : Keeps ⟨false, b1, b2, b3, b4, b5⟩ u s) :
    ∀ t, execOryxCountersClear d s = .next t → Keeps ⟨false, b1, b2, b3, b4, b5⟩ u t := by
  intro t e
  unfold execOryxCountersClear at e
  cases e
  repeat' (first
    | with_reducible assumption | with_reducible apply keeps_clearObj | with_reducible apply keeps_clearObjs | (intro _)
    | split | dsimp only [id_eq])

theorem keeps_execTableCountersClear {b1 b2 b3 b4 b5 : Bool} {u : State} (d : DapMsg) (s : State)
 (hk : Keeps ⟨false, b1, b2, b3, b4, b5⟩ u s) :
    ∀ t, execTableCountersClear d s = .next t → Keeps ⟨false, b1, b2, b3, b4, b5⟩ u t := by
  intro t e
  unfold execTableCountersClear at e
  try dsimp only at e
  repeat' split at e
  all_goals try cases e
  repeat' (first
    | with_reducible assumption | with_reducible apply keeps_clearObj | with_reducible apply keeps_clearObjs | (intro _)
    | split | dsimp only [id_eq])

theorem keeps_setIndex {b0 b1 b2 b3 b5 : Bool} {u : State} (n : ℕ) (f : SIndex → SIndex) (s : State)
 (hk : Keeps ⟨b0, b1, b2, b3, false, b5⟩ u s) :
    Keeps ⟨b0, b1, b2, b3, false, b5⟩ u (setIndex n f s) := by
  unfold setIndex
  try dsimp only
  repeat' (first
    | with_reducible assumption | fail_if_no_progress with_reducible apply keeps_mk
    | fail_if_no_progress with_reducible apply keeps_mk_tables | (intro _) | split | dsimp only [id_eq])

theorem keeps_writeState {b0 b2 b3 b4 b5 : Bool} {u : State} (n : ℕ) (s : State)
 (hk : Keeps ⟨b0, false, b2, b3, b4, b5⟩ u s) :
    Keeps ⟨b0, false, b2, b3, b4, b5⟩ u (writeState n s) := by
  unfold writeState
  try dsimp only
  repeat' (first
    | with_reducible assumption | with_reducible apply keeps_engineWrite
    | with_reducible refine keeps_engineWrite_eq (by assumption) ?_ | (intro _) | split | dsimp only [id_eq])

theorem keeps_searchEvent {b0 b1 b2 b3 b4 b5 : Bool} {u : State} (s : State) (hk : Keeps ⟨b0, b1, b2, b3, b4, b5⟩ u s) :
    Keeps ⟨b0, b1, b2, b3, b4, b5⟩ u (searchEvent s) := by
  unfold searchEvent
  try dsimp only
  repeat' (first
    | with_reducible assumption | with_reducible apply keeps_raiseEvent | (intro _) | split | dsimp only [id_eq])

theorem keeps_endSearch {b0 b3 b4 b5 : Bool} {u : State} (p : Posted) (acc : ℕ) (o : SOut) (ack : Status) (s : State)
 (hk : Keeps ⟨b0, false, false, b3, b4, b5⟩ u s) :
    Keeps ⟨b0, false, false, b3, b4, b5⟩ u (endSearch p acc o ack s) := by
  unfold endSearch
  try dsimp only
  repeat' (first
    | with_reducible assumption | with_reducible apply keeps_attnSignal | with_reducible apply keeps_fabricStore
    | with_reducible refine keeps_fabricStore_eq (by assumption) ?_ | (intro _) | split | dsimp only [id_eq])

theorem keeps_withIndex {b0 b1 b2 b3 b4 b5 : Bool} {u : State} (rq : Req) (act : SIndex → State → State) (s : State)
 (hact : ∀ a0 (w : State), Keeps ⟨b0, b1, b2, b3, b4, b5⟩ u w → Keeps ⟨b0, b1, b2, b3, b4, b5⟩ u (act a0 w))
 (hk : Keeps ⟨b0, b1, b2, b3, b4, b5⟩ u s) :
    Keeps ⟨b0, b1, b2, b3, b4, b5⟩ u (withIndex rq act s) := by
  unfold withIndex
  try dsimp only
  repeat' (first
    | with_reducible assumption | with_reducible apply keeps_complete | with_reducible apply hact | (intro _) | split
    | dsimp only [id_eq])

theorem keeps_fillTrigger {b0 b1 b2 b3 b5 : Bool} {u : State} (n : ℕ) (s : State)
 (hk : Keeps ⟨b0, b1, b2, b3, false, b5⟩ u s) :
    Keeps ⟨b0, b1, b2, b3, false, b5⟩ u (fillTrigger n s) := by
  unfold fillTrigger
  try dsimp only
  repeat' (first
    | with_reducible assumption | with_reducible apply keeps_setIndex | fail_if_no_progress with_reducible apply keeps_mk
    | (intro _) | split | dsimp only [id_eq])

theorem keeps_doQuery {b0 b1 b2 b3 b4 b5 : Bool} {u : State} (rq : Req) (s : State)
 (hk : Keeps ⟨b0, b1, b2, b3, b4, b5⟩ u s) :
    Keeps ⟨b0, b1, b2, b3, b4, b5⟩ u (doQuery rq s) := by
  unfold doQuery
  try dsimp only
  repeat' (first
    | with_reducible assumption | with_reducible apply keeps_complete | with_reducible apply keeps_deferReq
    | with_reducible apply keeps_nextAcc | with_reducible apply keeps_withIndex
    | with_reducible refine keeps_nextAcc_eq (by assumption) ?_ | fail_if_no_progress with_reducible apply keeps_mk
    | (intro _) | split | dsimp only [id_eq])

theorem keeps_reserve {b0 b1 b2 b3 b5 : Bool} {u : State} (rq : Req) (slot : ℕ) (s : State)
 (hk : Keeps ⟨b0, b1, b2, b3, false, b5⟩ u s) :
    Keeps ⟨b0, b1, b2, b3, false, b5⟩ u (reserve rq slot s) := by
  unfold reserve
  try dsimp only
  repeat' (first
    | with_reducible assumption | with_reducible apply keeps_complete | with_reducible apply keeps_fillTrigger
    | with_reducible apply keeps_nextAcc | with_reducible apply keeps_setIndex
    | with_reducible refine keeps_nextAcc_eq (by assumption) ?_ | fail_if_no_progress with_reducible apply keeps_mk
    | (intro _) | split | dsimp only [id_eq])

theorem keeps_doInsert {b0 b1 b2 b3 b5 : Bool} {u : State} (rq : Req) (s : State)
 (hk : Keeps ⟨b0, b1, b2, b3, false, b5⟩ u s) :
    Keeps ⟨b0, b1, b2, b3, false, b5⟩ u (doInsert rq s) := by
  unfold doInsert
  try dsimp only
  repeat' (first
    | with_reducible assumption | with_reducible apply keeps_complete | with_reducible apply keeps_deferReq
    | with_reducible apply keeps_reserve | with_reducible apply keeps_setIndex | with_reducible apply keeps_withIndex
    | fail_if_no_progress with_reducible apply keeps_mk | fail_if_no_progress with_reducible apply keeps_mk_tables
    | (intro _) | split | dsimp only [id_eq])

theorem keeps_doSearchDelete {b0 b3 b5 : Bool} {u : State} (rq : Req) (s : State)
 (hk : Keeps ⟨b0, false, false, b3, false, b5⟩ u s) :
    Keeps ⟨b0, false, false, b3, false, b5⟩ u (doSearchDelete rq s) := by
  unfold doSearchDelete
  try dsimp only
  repeat' (first
    | with_reducible assumption | with_reducible apply keeps_complete | with_reducible apply keeps_deferReq
    | with_reducible apply keeps_endSearch | with_reducible apply keeps_nextAcc | with_reducible apply keeps_reserve
    | with_reducible apply keeps_withIndex | with_reducible refine keeps_nextAcc_eq (by assumption) ?_
    | fail_if_no_progress with_reducible apply keeps_mk | (intro _) | split | dsimp only [id_eq])

theorem keeps_serveSearch {b0 b1 b2 b3 b4 b5 : Bool} {u : State} (op : ℕ) (bad : ℕ → Bool) (h : Hdr) (body : ℕ)
 (act : Req → State → State) (s : State) (hact : ∀ a0
 (w : State), Keeps ⟨b0, b1, b2, b3, b4, b5⟩ u w → Keeps ⟨b0, b1, b2, b3, b4, b5⟩ u (act a0 w))
 (hk : Keeps ⟨b0, b1, b2, b3, b4, b5⟩ u s) :
    Keeps ⟨b0, b1, b2, b3, b4, b5⟩ u (serveSearch op bad h body act s) := by
  unfold serveSearch
  try dsimp only
  repeat' (first
    | with_reducible assumption | with_reducible apply keeps_complete | with_reducible apply keeps_serve
    | with_reducible apply hact | (intro _) | split | dsimp only [id_eq])

theorem keeps_execQuery {b0 b1 b2 b3 b4 b5 : Bool} {u : State} (h : Hdr) (body : ℕ) (s : State)
 (hk : Keeps ⟨b0, b1, b2, b3, b4, b5⟩ u s) :
    ∀ t, execQuery h body s = .next t → Keeps ⟨b0, b1, b2, b3, b4, b5⟩ u t := by
  intro t e
  unfold execQuery at e
  cases e
  repeat' (first
    | with_reducible assumption | with_reducible apply keeps_doQuery | with_reducible apply keeps_serveSearch | (intro _)
    | split | dsimp only [id_eq])

theorem keeps_execInsert {b0 b1 b2 b3 b5 : Bool} {u : State} (h : Hdr) (body : ℕ) (s : State)
 (hk : Keeps ⟨b0, b1, b2, b3, false, b5⟩ u s) :
    ∀ t, execInsert h body s = .next t → Keeps ⟨b0, b1, b2, b3, false, b5⟩ u t := by
  intro t e
  unfold execInsert at e
  cases e
  repeat' (first
    | with_reducible assumption | with_reducible apply keeps_doInsert | with_reducible apply keeps_serveSearch | (intro _)
    | split | dsimp only [id_eq])

theorem keeps_execSearchDelete {b0 b3 b5 : Bool} {u : State} (h : Hdr) (body : ℕ) (s : State)
 (hk : Keeps ⟨b0, false, false, b3, false, b5⟩ u s) :
    ∀ t, execSearchDelete h body s = .next t → Keeps ⟨b0, false, false, b3, false, b5⟩ u t := by
  intro t e
  unfold execSearchDelete at e
  cases e
  repeat' (first
    | with_reducible assumption | with_reducible apply keeps_doSearchDelete | with_reducible apply keeps_serveSearch
    | (intro _) | split | dsimp only [id_eq])

theorem keeps_commitEntry {b0 b2 b3 b5 : Bool} {u : State} (n : ℕ) (pos : ℕ) (slot : ℕ) (kind : ℕ) (s : State)
 (hk : Keeps ⟨b0, false, b2, b3, false, b5⟩ u s) :
    Keeps ⟨b0, false, b2, b3, false, b5⟩ u (commitEntry n pos slot kind s) := by
  unfold commitEntry
  try dsimp only
  repeat' (first
    | with_reducible assumption | with_reducible apply keeps_engineWrite | with_reducible apply keeps_setIndex
    | with_reducible refine keeps_engineWrite_eq (by assumption) ?_ | fail_if_no_progress with_reducible apply keeps_mk
    | (intro _) | split | dsimp only [id_eq])

theorem keeps_doIndex {b0 b3 b5 : Bool} {u : State} (rq : Req) (s : State)
 (hk : Keeps ⟨b0, false, false, b3, false, b5⟩ u s) :
    Keeps ⟨b0, false, false, b3, false, b5⟩ u (doIndex rq s) := by
  unfold doIndex
  try dsimp only
  repeat' (first
    | with_reducible assumption | with_reducible apply keeps_commitEntry | with_reducible apply keeps_complete
    | with_reducible apply keeps_deferReq | with_reducible apply keeps_drawFree | with_reducible apply keeps_endSearch
    | with_reducible apply keeps_nextAcc | with_reducible apply keeps_setIndex | with_reducible apply keeps_withIndex
    | with_reducible apply keeps_writeState | with_reducible refine keeps_drawFree_eq (by assumption) ?_
    | with_reducible refine keeps_nextAcc_eq (by assumption) ?_ | fail_if_no_progress with_reducible apply keeps_mk
    | with_reducible apply keeps_foldl | with_reducible apply keeps_foldl_snd | (intro _) | split | dsimp only [id_eq])

theorem keeps_execIndexActivate {b0 b3 b5 : Bool} {u : State} (h : Hdr) (body : ℕ) (s : State)
 (hk : Keeps ⟨b0, false, false, b3, false, b5⟩ u s) :
    ∀ t, execIndexActivate h body s = .next t → Keeps ⟨b0, false, false, b3, false, b5⟩ u t := by
  intro t e
  unfold execIndexActivate at e
  cases e
  repeat' (first
    | with_reducible assumption | with_reducible apply keeps_doIndex | with_reducible apply keeps_serveSearch | (intro _)
    | split | dsimp only [id_eq])

theorem keeps_execIndexDeactivate {b0 b3 b5 : Bool} {u : State} (h : Hdr) (body : ℕ) (s : State)
 (hk : Keeps ⟨b0, false, false, b3, false, b5⟩ u s) :
    ∀ t, execIndexDeactivate h body s = .next t → Keeps ⟨b0, false, false, b3, false, b5⟩ u t := by
  intro t e
  unfold execIndexDeactivate at e
  cases e
  repeat' (first
    | with_reducible assumption | with_reducible apply keeps_doIndex | with_reducible apply keeps_serveSearch | (intro _)
    | split | dsimp only [id_eq])

theorem keeps_execIndexMerge {b0 b3 b5 : Bool} {u : State} (h : Hdr) (body : ℕ) (s : State)
 (hk : Keeps ⟨b0, false, false, b3, false, b5⟩ u s) :
    ∀ t, execIndexMerge h body s = .next t → Keeps ⟨b0, false, false, b3, false, b5⟩ u t := by
  intro t e
  unfold execIndexMerge at e
  cases e
  repeat' (first
    | with_reducible assumption | with_reducible apply keeps_doIndex | with_reducible apply keeps_serveSearch | (intro _)
    | split | dsimp only [id_eq])

theorem keeps_doDeactivateDone {b0 b3 b5 : Bool} {u : State} (n : ℕ) (s : State)
 (hk : Keeps ⟨b0, false, false, b3, false, b5⟩ u s) :
    Keeps ⟨b0, false, false, b3, false, b5⟩ u (doDeactivateDone n s) := by
  unfold doDeactivateDone
  try dsimp only
  repeat' (first
    | with_reducible assumption | with_reducible apply keeps_endSearch | with_reducible apply keeps_setIndex
    | with_reducible apply keeps_writeState | fail_if_no_progress with_reducible apply keeps_mk | (intro _) | split
    | dsimp only [id_eq])

theorem keeps_execIndexDeactivateDone {b0 b3 b5 : Bool} {u : State} (index : ℕ) (s : State)
 (hk : Keeps ⟨b0, false, false, b3, false, b5⟩ u s) :
    ∀ t, execIndexDeactivateDone index s = .next t → Keeps ⟨b0, false, false, b3, false, b5⟩ u t := by
  intro t e
  unfold execIndexDeactivateDone at e
  cases e
  repeat' (first
    | with_reducible assumption | with_reducible apply keeps_doDeactivateDone | (intro _) | split | dsimp only [id_eq])

theorem keeps_setSop {b0 b1 b2 b3 b4 b5 : Bool} {u : State} (acc : ℕ) (f : SOp → SOp) (s : State)
 (hk : Keeps ⟨b0, b1, b2, b3, b4, b5⟩ u s) :
    Keeps ⟨b0, b1, b2, b3, b4, b5⟩ u (setSop acc f s) := by
  unfold setSop
  try dsimp only
  repeat' (first
    | with_reducible assumption | fail_if_no_progress with_reducible apply keeps_mk | (intro _) | split
    | dsimp only [id_eq])

theorem keeps_homesWait {b0 b1 b2 b3 b4 b5 : Bool} {u : State} (id : ℕ) (lines : List ℕ) (s : State)
 (hk : Keeps ⟨b0, b1, b2, b3, b4, b5⟩ u s) :
    ∀ t, homesWait id lines s = some t → Keeps ⟨b0, b1, b2, b3, b4, b5⟩ u t := by
  intro t e
  unfold homesWait at e
  try dsimp only at e
  repeat' split at e
  all_goals try cases e
  repeat' (first
    | with_reducible assumption | with_reducible apply keeps_wake
    | with_reducible refine keeps_peekWait _ _ _ ?_ _ (by assumption) | fail_if_no_progress with_reducible apply keeps_mk
    | (intro _) | split | dsimp only [id_eq])

theorem keeps_throughHomes {b0 b2 b3 b4 b5 : Bool} {u : State} (id : ℕ) (ls : List ℕ) (go : State → State) (s : State)
 (hgo : ∀ (w : State), Keeps ⟨b0, false, b2, b3, b4, b5⟩ u w → Keeps ⟨b0, false, b2, b3, b4, b5⟩ u (go w))
 (hk : Keeps ⟨b0, false, b2, b3, b4, b5⟩ u s) :
    Keeps ⟨b0, false, b2, b3, b4, b5⟩ u (throughHomes id ls go s) := by
  unfold throughHomes
  try dsimp only
  repeat' (first
    | with_reducible assumption | with_reducible apply keeps_poisonDead
    | with_reducible refine keeps_homesWait _ _ _ ?_ _ (by assumption) | with_reducible apply hgo
    | fail_if_no_progress with_reducible apply keeps_mk | (intro _) | split | dsimp only [id_eq])

theorem keeps_walkQuery {b0 b2 b3 b4 b5 : Bool} {u : State} (acc : ℕ) (b : ℕ) (x : SIndex) (v : ℕ) (st : Status)
 (s : State) (hk : Keeps ⟨b0, false, b2, b3, b4, b5⟩ u s) :
    Keeps ⟨b0, false, b2, b3, b4, b5⟩ u (walkQuery acc b x v st s) := by
  unfold walkQuery
  try dsimp only
  repeat' (first
    | with_reducible assumption | with_reducible apply keeps_setSop | with_reducible apply keeps_throughHomes
    | fail_if_no_progress with_reducible apply keeps_mk | (intro _) | split | dsimp only [id_eq])

theorem keeps_doQueryDispatch {b0 b2 b3 b4 b5 : Bool} {u : State} (acc : ℕ) (q : Remote) (s : State)
 (hk : Keeps ⟨b0, false, b2, b3, b4, b5⟩ u s) :
    Keeps ⟨b0, false, b2, b3, b4, b5⟩ u (doQueryDispatch acc q s) := by
  unfold doQueryDispatch
  try dsimp only
  repeat' (first
    | with_reducible assumption | with_reducible apply keeps_setSop | with_reducible apply keeps_wake
    | with_reducible apply keeps_walkQuery | with_reducible apply keeps_fetch
    | with_reducible refine keeps_fetch_wait (by assumption) ?_ | with_reducible refine keeps_fetch_got (by assumption) ?_
    | fail_if_no_progress with_reducible apply keeps_mk | with_reducible apply keeps_foldl
    | with_reducible apply keeps_foldl_snd | (intro _) | split | dsimp only [id_eq])

theorem keeps_execQueryDispatch {b0 b2 b3 b4 b5 : Bool} {u : State} (acc : ℕ) (q : Remote) (s : State)
 (hk : Keeps ⟨b0, false, b2, b3, b4, b5⟩ u s) :
    ∀ t, execQueryDispatch acc q s = .next t → Keeps ⟨b0, false, b2, b3, b4, b5⟩ u t := by
  intro t e
  unfold execQueryDispatch at e
  cases e
  repeat' (first
    | with_reducible assumption | with_reducible apply keeps_doQueryDispatch | (intro _) | split | dsimp only [id_eq])

theorem keeps_answerQuery {b0 b3 b4 b5 : Bool} {u : State} (acc : ℕ) (o : SOp) (g : ℕ) (seq : ℕ) (acks : List Status)
 (ack : Status) (s : State) (hk : Keeps ⟨b0, false, false, b3, b4, b5⟩ u s) :
    Keeps ⟨b0, false, false, b3, b4, b5⟩ u (answerQuery acc o g seq acks ack s) := by
  unfold answerQuery
  try dsimp only
  repeat' (first
    | with_reducible assumption | with_reducible apply keeps_bump | with_reducible apply keeps_endSearch
    | with_reducible apply keeps_fabricStore | with_reducible apply keeps_searchEvent | with_reducible apply keeps_unpeek
    | with_reducible apply keeps_view | with_reducible refine keeps_fabricStore_eq (by assumption) ?_
    | with_reducible apply keeps_foldl | with_reducible apply keeps_foldl_snd | (intro _) | split | dsimp only [id_eq])

theorem keeps_doQueryComplete {b0 b3 b4 b5 : Bool} {u : State} (acc : ℕ) (acks : List Status) (ack : Status) (s : State)
 (hk : Keeps ⟨b0, false, false, b3, b4, b5⟩ u s) :
    Keeps ⟨b0, false, false, b3, b4, b5⟩ u (doQueryComplete acc acks ack s) := by
  unfold doQueryComplete
  try dsimp only
  repeat' (first
    | with_reducible assumption | with_reducible apply keeps_answerQuery | with_reducible apply keeps_bump
    | with_reducible apply keeps_endSearch | with_reducible apply keeps_searchEvent
    | with_reducible apply keeps_throughHomes | fail_if_no_progress with_reducible apply keeps_mk | (intro _) | split
    | dsimp only [id_eq])

theorem keeps_execQueryComplete {b0 b3 b4 b5 : Bool} {u : State} (acc : ℕ) (acks : QueryAcks)
 (s : State) (hk : Keeps ⟨b0, false, false, b3, b4, b5⟩ u s) :
    ∀ t, execQueryComplete acc acks s = .next t → Keeps ⟨b0, false, false, b3, b4, b5⟩ u t := by
  intro t e
  unfold execQueryComplete at e
  cases e
  repeat' (first
    | with_reducible assumption | with_reducible apply keeps_doQueryComplete | (intro _) | split | dsimp only [id_eq])

theorem keeps_doSideCommit {b0 b3 b5 : Bool} {u : State} (acc : ℕ) (data : Remote) (ack : Status) (s : State)
 (hk : Keeps ⟨b0, false, false, b3, false, b5⟩ u s) :
    Keeps ⟨b0, false, false, b3, false, b5⟩ u (doSideCommit acc data ack s) := by
  unfold doSideCommit
  try dsimp only
  repeat' (first
    | with_reducible assumption | with_reducible apply keeps_bump | with_reducible apply keeps_commitEntry
    | with_reducible apply keeps_endSearch | with_reducible apply keeps_engineWrite | with_reducible apply keeps_setIndex
    | with_reducible apply keeps_fetch | with_reducible refine keeps_engineWrite_eq (by assumption) ?_
    | with_reducible refine keeps_fetch_wait (by assumption) ?_ | with_reducible refine keeps_fetch_got (by assumption) ?_
    | fail_if_no_progress with_reducible apply keeps_mk | fail_if_no_progress with_reducible apply keeps_mk_tables
    | (intro _) | split | dsimp only [id_eq])

theorem keeps_execSideEntryCommit {b0 b3 b5 : Bool} {u : State} (acc : ℕ) (data : Remote) (ack : Status) (s : State)
 (hk : Keeps ⟨b0, false, false, b3, false, b5⟩ u s) :
    ∀ t, execSideEntryCommit acc data ack s = .next t → Keeps ⟨b0, false, false, b3, false, b5⟩ u t := by
  intro t e
  unfold execSideEntryCommit at e
  cases e
  repeat' (first
    | with_reducible assumption | with_reducible apply keeps_doSideCommit | (intro _) | split | dsimp only [id_eq])

theorem keeps_execMergeIdleTimer {b0 b1 b2 b3 b5 : Bool} {u : State} (index : ℕ) (s : State)
 (hk : Keeps ⟨b0, b1, b2, b3, false, b5⟩ u s) :
    ∀ t, execMergeIdleTimer index s = .next t → Keeps ⟨b0, b1, b2, b3, false, b5⟩ u t := by
  intro t e
  unfold execMergeIdleTimer at e
  try dsimp only at e
  repeat' split at e
  all_goals try cases e
  repeat' (first
    | with_reducible assumption | with_reducible apply keeps_setIndex | fail_if_no_progress with_reducible apply keeps_mk
    | (intro _) | split | dsimp only [id_eq])

theorem keeps_doBuildStart {b0 b1 b2 b3 b5 : Bool} {u : State} (n : ℕ) (s : State)
 (hk : Keeps ⟨b0, b1, b2, b3, false, b5⟩ u s) :
    Keeps ⟨b0, b1, b2, b3, false, b5⟩ u (doBuildStart n s) := by
  unfold doBuildStart
  try dsimp only
  repeat' (first
    | with_reducible assumption | with_reducible apply keeps_setIndex | fail_if_no_progress with_reducible apply keeps_mk
    | (intro _) | split | dsimp only [id_eq])

theorem keeps_execMergeBuildStart {b0 b1 b2 b3 b5 : Bool} {u : State} (index : ℕ) (s : State)
 (hk : Keeps ⟨b0, b1, b2, b3, false, b5⟩ u s) :
    ∀ t, execMergeBuildStart index s = .next t → Keeps ⟨b0, b1, b2, b3, false, b5⟩ u t := by
  intro t e
  unfold execMergeBuildStart at e
  cases e
  repeat' (first
    | with_reducible assumption | with_reducible apply keeps_doBuildStart | (intro _) | split | dsimp only [id_eq])

theorem keeps_copyElem {b0 b2 b3 b4 b5 : Bool} {u : State} (tenant : ℕ) (src : ℕ) (dst : ℕ) (n : ℕ) (s : State)
 (hk : Keeps ⟨b0, false, b2, b3, b4, b5⟩ u s) :
    Keeps ⟨b0, false, b2, b3, b4, b5⟩ u (copyElem tenant src dst n s) := by
  unfold copyElem
  try dsimp only
  repeat' (first
    | with_reducible assumption | with_reducible apply keeps_engineStore
    | with_reducible refine keeps_engineStore_eq (by assumption) ?_ | (intro _) | split | dsimp only [id_eq])

theorem keeps_joinGraph {b0 b2 b3 b4 b5 : Bool} {u : State} (x : SIndex) (area : ℕ) (entry : ℕ) (gone : NSet)
 (e : ℕ × ℕ) (s : State) (hk : Keeps ⟨b0, false, b2, b3, b4, b5⟩ u s) :
    Keeps ⟨b0, false, b2, b3, b4, b5⟩ u (joinGraph x area entry gone e s) := by
  unfold joinGraph
  try dsimp only
  repeat' (first
    | with_reducible assumption | with_reducible apply keeps_copyElem | with_reducible apply keeps_engineWrite
    | with_reducible refine keeps_engineWrite_eq (by assumption) ?_ | with_reducible apply keeps_foldl
    | with_reducible apply keeps_foldl_snd | (intro _) | split | dsimp only [id_eq])

theorem keeps_publishMerge {b0 b3 b5 : Bool} {u : State} (n : ℕ) (x : SIndex) (seq : ℕ) (p : ℕ) (s : State)
 (hk : Keeps ⟨b0, false, false, b3, false, b5⟩ u s) :
    Keeps ⟨b0, false, false, b3, false, b5⟩ u (publishMerge n x seq p s) := by
  unfold publishMerge
  try dsimp only
  repeat' (first
    | with_reducible assumption | with_reducible apply keeps_bump | with_reducible apply keeps_endSearch
    | with_reducible apply keeps_engineWrite | with_reducible apply keeps_joinGraph | with_reducible apply keeps_setIndex
    | with_reducible apply keeps_writeState | with_reducible refine keeps_engineWrite_eq (by assumption) ?_
    | fail_if_no_progress with_reducible apply keeps_mk | fail_if_no_progress with_reducible apply keeps_mk_tables
    | with_reducible apply keeps_foldl | with_reducible apply keeps_foldl_snd | (intro _) | split | dsimp only [id_eq])

theorem keeps_doMergePublish {b0 b3 b5 : Bool} {u : State} (n : ℕ) (s : State)
 (hk : Keeps ⟨b0, false, false, b3, false, b5⟩ u s) :
    Keeps ⟨b0, false, false, b3, false, b5⟩ u (doMergePublish n s) := by
  unfold doMergePublish
  try dsimp only
  repeat' (first
    | with_reducible assumption | with_reducible apply keeps_publishMerge | with_reducible apply keeps_settleLines
    | with_reducible apply keeps_throughHomes | with_reducible apply keeps_unpeek
    | fail_if_no_progress with_reducible apply keeps_mk | (intro _) | split | dsimp only [id_eq])

theorem keeps_execMergePublish {b0 b3 b5 : Bool} {u : State} (index : ℕ) (s : State)
 (hk : Keeps ⟨b0, false, false, b3, false, b5⟩ u s) :
    ∀ t, execMergePublish index s = .next t → Keeps ⟨b0, false, false, b3, false, b5⟩ u t := by
  intro t e
  unfold execMergePublish at e
  cases e
  repeat' (first
    | with_reducible assumption | with_reducible apply keeps_doMergePublish | (intro _) | split | dsimp only [id_eq])

theorem keeps_doMergeAbandon {b0 b3 b5 : Bool} {u : State} (n : ℕ) (s : State)
 (hk : Keeps ⟨b0, false, false, b3, false, b5⟩ u s) :
    Keeps ⟨b0, false, false, b3, false, b5⟩ u (doMergeAbandon n s) := by
  unfold doMergeAbandon
  try dsimp only
  repeat' (first
    | with_reducible assumption | with_reducible apply keeps_bump | with_reducible apply keeps_endSearch
    | with_reducible apply keeps_searchEvent | with_reducible apply keeps_setIndex
    | fail_if_no_progress with_reducible apply keeps_mk | (intro _) | split | dsimp only [id_eq])

theorem keeps_execMergeAbandon {b0 b3 b5 : Bool} {u : State} (index : ℕ) (s : State)
 (hk : Keeps ⟨b0, false, false, b3, false, b5⟩ u s) :
    ∀ t, execMergeAbandon index s = .next t → Keeps ⟨b0, false, false, b3, false, b5⟩ u t := by
  intro t e
  unfold execMergeAbandon at e
  cases e
  repeat' (first
    | with_reducible assumption | with_reducible apply keeps_doMergeAbandon | (intro _) | split | dsimp only [id_eq])

theorem keeps_execSearchCountersClear {b1 b2 b3 b4 b5 : Bool} {u : State} (d : DapMsg) (s : State)
 (hk : Keeps ⟨false, b1, b2, b3, b4, b5⟩ u s) :
    ∀ t, execSearchCountersClear d s = .next t → Keeps ⟨false, b1, b2, b3, b4, b5⟩ u t := by
  intro t e
  unfold execSearchCountersClear at e
  cases e
  repeat' (first
    | with_reducible assumption | with_reducible apply keeps_clearObj | with_reducible apply keeps_clearObjs | (intro _)
    | split | dsimp only [id_eq])

theorem keeps_doComposeSetEntry {b0 b1 b2 b3 b4 b5 : Bool} {u : State} (rq : Req) (s : State)
 (hk : Keeps ⟨b0, b1, b2, b3, b4, b5⟩ u s) :
    Keeps ⟨b0, b1, b2, b3, b4, b5⟩ u (doComposeSetEntry rq s) := by
  unfold doComposeSetEntry
  try dsimp only
  repeat' (first
    | with_reducible assumption | with_reducible apply keeps_complete | with_reducible apply keeps_deferReq
    | fail_if_no_progress with_reducible apply keeps_mk | (intro _) | split | dsimp only [id_eq])

theorem keeps_doComposeRemoveEntry {b0 b1 b2 b3 b4 b5 : Bool} {u : State} (rq : Req) (s : State)
 (hk : Keeps ⟨b0, b1, b2, b3, b4, b5⟩ u s) :
    Keeps ⟨b0, b1, b2, b3, b4, b5⟩ u (doComposeRemoveEntry rq s) := by
  unfold doComposeRemoveEntry
  try dsimp only
  repeat' (first
    | with_reducible assumption | with_reducible apply keeps_complete | fail_if_no_progress with_reducible apply keeps_mk
    | (intro _) | split | dsimp only [id_eq])

theorem keeps_doComposeAdvance {b0 b1 b2 b3 b4 b5 : Bool} {u : State} (rq : Req) (s : State)
 (hk : Keeps ⟨b0, b1, b2, b3, b4, b5⟩ u s) :
    Keeps ⟨b0, b1, b2, b3, b4, b5⟩ u (doComposeAdvance rq s) := by
  unfold doComposeAdvance
  try dsimp only
  repeat' (first
    | with_reducible assumption | with_reducible apply keeps_complete | with_reducible apply keeps_deferReq
    | with_reducible apply keeps_raiseEvent | fail_if_no_progress with_reducible apply keeps_mk | (intro _) | split
    | dsimp only [id_eq])

theorem keeps_doCompose {b0 b1 b2 b3 b4 b5 : Bool} {u : State} (rq : Req) (s : State)
 (hk : Keeps ⟨b0, b1, b2, b3, b4, b5⟩ u s) :
    Keeps ⟨b0, b1, b2, b3, b4, b5⟩ u (doCompose rq s) := by
  unfold doCompose
  try dsimp only
  repeat' (first
    | with_reducible assumption | with_reducible apply keeps_doComposeAdvance
    | with_reducible apply keeps_doComposeRemoveEntry | with_reducible apply keeps_doComposeSetEntry
    | fail_if_no_progress with_reducible apply keeps_mk | (intro _) | split | dsimp only [id_eq])

theorem keeps_execComposeSetEntry {b0 b1 b2 b3 b4 b5 : Bool} {u : State} (h : Hdr) (body : ℕ) (s : State)
 (hk : Keeps ⟨b0, b1, b2, b3, b4, b5⟩ u s) :
    ∀ t, execComposeSetEntry h body s = .next t → Keeps ⟨b0, b1, b2, b3, b4, b5⟩ u t := by
  intro t e
  unfold execComposeSetEntry at e
  cases e
  repeat' (first
    | with_reducible assumption | with_reducible apply keeps_doComposeSetEntry | with_reducible apply keeps_serve
    | (intro _) | split | dsimp only [id_eq])

theorem keeps_execComposeRemoveEntry {b0 b1 b2 b3 b4 b5 : Bool} {u : State} (h : Hdr) (body : ℕ) (s : State)
 (hk : Keeps ⟨b0, b1, b2, b3, b4, b5⟩ u s) :
    ∀ t, execComposeRemoveEntry h body s = .next t → Keeps ⟨b0, b1, b2, b3, b4, b5⟩ u t := by
  intro t e
  unfold execComposeRemoveEntry at e
  cases e
  repeat' (first
    | with_reducible assumption | with_reducible apply keeps_doComposeRemoveEntry | with_reducible apply keeps_serve
    | (intro _) | split | dsimp only [id_eq])

theorem keeps_execComposeAdvance {b0 b1 b2 b3 b4 b5 : Bool} {u : State} (h : Hdr) (body : ℕ) (s : State)
 (hk : Keeps ⟨b0, b1, b2, b3, b4, b5⟩ u s) :
    ∀ t, execComposeAdvance h body s = .next t → Keeps ⟨b0, b1, b2, b3, b4, b5⟩ u t := by
  intro t e
  unfold execComposeAdvance at e
  cases e
  repeat' (first
    | with_reducible assumption | with_reducible apply keeps_doComposeAdvance | with_reducible apply keeps_serve
    | (intro _) | split | dsimp only [id_eq])

theorem keeps_execDrainWindowClose {b0 b1 b2 b3 b4 b5 : Bool} {u : State} (composition : ℕ) (s : State)
 (hk : Keeps ⟨b0, b1, b2, b3, b4, b5⟩ u s) :
    ∀ t, execDrainWindowClose composition s = .next t → Keeps ⟨b0, b1, b2, b3, b4, b5⟩ u t := by
  intro t e
  unfold execDrainWindowClose at e
  cases e
  repeat' (first
    | with_reducible assumption | fail_if_no_progress with_reducible apply keeps_mk | (intro _) | split
    | dsimp only [id_eq])

theorem keeps_closeMeters {b1 b2 b3 b4 b5 : Bool} {u : State} (cs : List ℕ) (s : State)
 (hk : Keeps ⟨false, b1, b2, b3, b4, b5⟩ u s) :
    Keeps ⟨false, b1, b2, b3, b4, b5⟩ u (closeMeters cs s).2 := by
  unfold closeMeters
  try dsimp only
  repeat' (first
    | with_reducible assumption | fail_if_no_progress with_reducible apply keeps_mk
    | fail_if_no_progress with_reducible apply keeps_mk_custody | with_reducible apply keeps_foldl
    | with_reducible apply keeps_foldl_snd | (intro _) | split | dsimp only [id_eq])

theorem keeps_closeMeters_eq {b1 b2 b3 b4 b5 : Bool} {u w : State} {r0 : List ℕ} {cs : List ℕ} {s : State}
 (e : closeMeters cs s = (r0, w)) (hk : Keeps ⟨false, b1, b2, b3, b4, b5⟩ u s) :
    Keeps ⟨false, b1, b2, b3, b4, b5⟩ u w := by
  have := keeps_closeMeters cs s  hk; rwa [e] at this

theorem keeps_doOwner {b0 b1 b2 b3 b4 : Bool} {u : State} (rq : Req) (s : State)
 (hk : Keeps ⟨b0, b1, b2, b3, b4, false⟩ u s) :
    Keeps ⟨b0, b1, b2, b3, b4, false⟩ u (doOwner rq s) := by
  unfold doOwner
  try dsimp only
  repeat' (first
    | with_reducible assumption | with_reducible apply keeps_complete | with_reducible apply keeps_emit
    | with_reducible apply keeps_hold | fail_if_no_progress with_reducible apply keeps_mk
    | fail_if_no_progress with_reducible apply keeps_mk_maps | (intro _) | split | dsimp only [id_eq])

theorem keeps_execOwner {b0 b1 b2 b3 b4 : Bool} {u : State} (h : Hdr) (body : ℕ) (s : State)
 (hk : Keeps ⟨b0, b1, b2, b3, b4, false⟩ u s) :
    ∀ t, execOwner h body s = .next t → Keeps ⟨b0, b1, b2, b3, b4, false⟩ u t := by
  intro t e
  unfold execOwner at e
  cases e
  repeat' (first
    | with_reducible assumption | with_reducible apply keeps_doOwner | with_reducible apply keeps_serve | (intro _)
    | split | dsimp only [id_eq])

theorem keeps_finishOwners {b0 b1 b2 b3 b4 b5 : Bool} {u : State} (i : ℕ) (st : Status) (s : State)
 (hk : Keeps ⟨b0, b1, b2, b3, b4, b5⟩ u s) :
    Keeps ⟨b0, b1, b2, b3, b4, b5⟩ u (finishOwners i st s) := by
  unfold finishOwners
  try dsimp only
  repeat' (first
    | with_reducible assumption | with_reducible apply keeps_closeReq | with_reducible apply keeps_complete
    | with_reducible apply keeps_foldl | with_reducible apply keeps_foldl_snd | (intro _) | split | dsimp only [id_eq])

theorem keeps_execOwnerRecordTakeUp {b0 b2 b3 b4 : Bool} {u : State} (record : ℕ) (body : ℕ) (s : State)
 (hk : Keeps ⟨b0, false, b2, b3, b4, false⟩ u s) :
    ∀ t, execOwnerRecordTakeUp record body s = .next t → Keeps ⟨b0, false, b2, b3, b4, false⟩ u t := by
  intro t e
  unfold execOwnerRecordTakeUp at e
  cases e
  repeat' (first
    | with_reducible assumption | with_reducible apply keeps_finishOwners | with_reducible apply keeps_settle
    | fail_if_no_progress with_reducible apply keeps_mk | fail_if_no_progress with_reducible apply keeps_mk_maps
    | (intro _) | split | dsimp only [id_eq])

theorem keeps_execOwnerTakeUpTimeout {b0 b2 b3 b4 b5 : Bool} {u : State} (record : ℕ) (s : State)
 (hk : Keeps ⟨b0, false, b2, b3, b4, b5⟩ u s) :
    ∀ t, execOwnerTakeUpTimeout record s = .next t → Keeps ⟨b0, false, b2, b3, b4, b5⟩ u t := by
  intro t e
  unfold execOwnerTakeUpTimeout at e
  cases e
  repeat' (first
    | with_reducible assumption | with_reducible apply keeps_finishOwners | with_reducible apply keeps_settle | (intro _)
    | split | dsimp only [id_eq])

theorem keeps_doFlush {b0 b1 b2 b3 b4 b5 : Bool} {u : State} (rq : Req) (s : State)
 (hk : Keeps ⟨b0, b1, b2, b3, b4, b5⟩ u s) :
    Keeps ⟨b0, b1, b2, b3, b4, b5⟩ u (doFlush rq s) := by
  unfold doFlush
  try dsimp only
  repeat' (first
    | with_reducible assumption | with_reducible apply keeps_bump | with_reducible apply keeps_complete
    | with_reducible apply keeps_deferReq | with_reducible apply keeps_queueAll
    | with_reducible refine keeps_queueAll_eq (by assumption) ?_ | fail_if_no_progress with_reducible apply keeps_mk
    | (intro _) | split | dsimp only [id_eq])

theorem keeps_execFlush {b0 b1 b2 b3 b4 b5 : Bool} {u : State} (h : Hdr) (body : ℕ) (s : State)
 (hk : Keeps ⟨b0, b1, b2, b3, b4, b5⟩ u s) :
    ∀ t, execFlush h body s = .next t → Keeps ⟨b0, b1, b2, b3, b4, b5⟩ u t := by
  intro t e
  unfold execFlush at e
  cases e
  repeat' (first
    | with_reducible assumption | with_reducible apply keeps_doFlush | with_reducible apply keeps_serve | (intro _)
    | split | dsimp only [id_eq])

theorem keeps_doProbe {b0 b1 b2 b3 b4 b5 : Bool} {u : State} (rq : Req) (s : State)
 (hk : Keeps ⟨b0, b1, b2, b3, b4, b5⟩ u s) :
    Keeps ⟨b0, b1, b2, b3, b4, b5⟩ u (doProbe rq s) := by
  unfold doProbe
  try dsimp only
  repeat' (first
    | with_reducible assumption | with_reducible apply keeps_complete | with_reducible apply keeps_hold
    | fail_if_no_progress with_reducible apply keeps_mk | (intro _) | split | dsimp only [id_eq])

theorem keeps_execProbe {b0 b1 b2 b3 b4 b5 : Bool} {u : State} (h : Hdr) (s : State)
 (hk : Keeps ⟨b0, b1, b2, b3, b4, b5⟩ u s) :
    ∀ t, execProbe h s = .next t → Keeps ⟨b0, b1, b2, b3, b4, b5⟩ u t := by
  intro t e
  unfold execProbe at e
  cases e
  repeat' (first
    | with_reducible assumption | with_reducible apply keeps_doProbe | with_reducible apply keeps_serve | (intro _)
    | split | dsimp only [id_eq])

theorem keeps_execRemoteCopyExpire {b0 b1 b2 b3 b4 b5 : Bool} {u : State} (slice : ℕ) (line : ℕ) (s : State)
 (hk : Keeps ⟨b0, b1, b2, b3, b4, b5⟩ u s) :
    ∀ t, execRemoteCopyExpire slice line s = .next t → Keeps ⟨b0, b1, b2, b3, b4, b5⟩ u t := by
  intro t e
  unfold execRemoteCopyExpire at e
  cases e
  repeat' (first
    | with_reducible assumption | fail_if_no_progress with_reducible apply keeps_mk | (intro _) | split
    | dsimp only [id_eq])

theorem keeps_setLink {b0 b1 b2 b3 b4 b5 : Bool} {u : State} (n : ℕ) (f : Link → Link) (s : State)
 (hk : Keeps ⟨b0, b1, b2, b3, b4, b5⟩ u s) :
    Keeps ⟨b0, b1, b2, b3, b4, b5⟩ u (setLink n f s) := by
  unfold setLink
  try dsimp only
  repeat' (first
    | with_reducible assumption | fail_if_no_progress with_reducible apply keeps_mk | (intro _) | split
    | dsimp only [id_eq])

theorem keeps_beginRecal {b0 b1 b2 b3 b4 b5 : Bool} {u : State} (n : ℕ) (s : State)
 (hk : Keeps ⟨b0, b1, b2, b3, b4, b5⟩ u s) :
    Keeps ⟨b0, b1, b2, b3, b4, b5⟩ u (beginRecal n s) := by
  unfold beginRecal
  try dsimp only
  repeat' (first
    | with_reducible assumption | with_reducible apply keeps_emit | with_reducible apply keeps_setLink
    | fail_if_no_progress with_reducible apply keeps_mk | (intro _) | split | dsimp only [id_eq])

theorem keeps_nextRecal {b0 b1 b2 b3 b4 b5 : Bool} {u : State} (s : State) (hk : Keeps ⟨b0, b1, b2, b3, b4, b5⟩ u s) :
    Keeps ⟨b0, b1, b2, b3, b4, b5⟩ u (nextRecal s) := by
  unfold nextRecal
  try dsimp only
  repeat' (first
    | with_reducible assumption | with_reducible apply keeps_beginRecal | with_reducible apply keeps_foldl
    | with_reducible apply keeps_foldl_snd | (intro _) | split | dsimp only [id_eq])

theorem keeps_dropLink {b0 b1 b2 b3 b4 b5 : Bool} {u : State} (n : ℕ) (s : State)
 (hk : Keeps ⟨b0, b1, b2, b3, b4, b5⟩ u s) :
    Keeps ⟨b0, b1, b2, b3, b4, b5⟩ u (dropLink n s) := by
  unfold dropLink
  try dsimp only
  repeat' (first
    | with_reducible assumption | with_reducible apply keeps_bump | with_reducible apply keeps_nextRecal
    | with_reducible apply keeps_setLink | fail_if_no_progress with_reducible apply keeps_mk | (intro _) | split
    | dsimp only [id_eq])

theorem keeps_countCorrected {b0 b1 b2 b3 b4 b5 : Bool} {u : State} (n : ℕ) (s : State)
 (hk : Keeps ⟨b0, b1, b2, b3, b4, b5⟩ u s) :
    Keeps ⟨b0, b1, b2, b3, b4, b5⟩ u (countCorrected n s) := by
  unfold countCorrected
  try dsimp only
  repeat' (first
    | with_reducible assumption | with_reducible apply keeps_bump | with_reducible apply keeps_setLink
    | fail_if_no_progress with_reducible apply keeps_mk | (intro _) | split | dsimp only [id_eq])

theorem keeps_doFlitReceive {b0 b1 b2 b3 b4 b5 : Bool} {u : State} (f : Flit) (s : State)
 (hk : Keeps ⟨b0, b1, b2, b3, b4, b5⟩ u s) :
    Keeps ⟨b0, b1, b2, b3, b4, b5⟩ u (doFlitReceive f s) := by
  unfold doFlitReceive
  try dsimp only
  repeat' (first
    | with_reducible assumption | with_reducible apply keeps_beginRecal | with_reducible apply keeps_countCorrected
    | with_reducible apply keeps_emit | with_reducible apply keeps_setLink
    | fail_if_no_progress with_reducible apply keeps_mk | (intro _) | split | dsimp only [id_eq])

theorem keeps_execFlitReceive {b0 b1 b2 b3 b4 b5 : Bool} {u : State} (f : Flit) (s : State)
 (hk : Keeps ⟨b0, b1, b2, b3, b4, b5⟩ u s) :
    ∀ t, execFlitReceive f s = .next t → Keeps ⟨b0, b1, b2, b3, b4, b5⟩ u t := by
  intro t e
  unfold execFlitReceive at e
  cases e
  repeat' (first
    | with_reducible assumption | with_reducible apply keeps_doFlitReceive | (intro _) | split | dsimp only [id_eq])

theorem keeps_doFlitNakReceive {b0 b1 b2 b3 b4 b5 : Bool} {u : State} (n : ℕ) (ackSeq : ℕ) (s : State)
 (hk : Keeps ⟨b0, b1, b2, b3, b4, b5⟩ u s) :
    Keeps ⟨b0, b1, b2, b3, b4, b5⟩ u (doFlitNakReceive n ackSeq s) := by
  unfold doFlitNakReceive
  try dsimp only
  repeat' (first
    | with_reducible assumption | with_reducible apply keeps_bump | with_reducible apply keeps_dropLink
    | with_reducible apply keeps_emit | with_reducible apply keeps_setLink
    | fail_if_no_progress with_reducible apply keeps_mk | (intro _) | split | dsimp only [id_eq])

theorem keeps_execFlitNakReceive {b0 b1 b2 b3 b4 b5 : Bool} {u : State} (link : ℕ) (ackSeq : ℕ) (s : State)
 (hk : Keeps ⟨b0, b1, b2, b3, b4, b5⟩ u s) :
    ∀ t, execFlitNakReceive link ackSeq s = .next t → Keeps ⟨b0, b1, b2, b3, b4, b5⟩ u t := by
  intro t e
  unfold execFlitNakReceive at e
  cases e
  repeat' (first
    | with_reducible assumption | with_reducible apply keeps_doFlitNakReceive | (intro _) | split | dsimp only [id_eq])

theorem keeps_execLinkDown {b0 b1 b2 b3 b4 b5 : Bool} {u : State} (link : ℕ) (s : State)
 (hk : Keeps ⟨b0, b1, b2, b3, b4, b5⟩ u s) :
    ∀ t, execLinkDown link s = .next t → Keeps ⟨b0, b1, b2, b3, b4, b5⟩ u t := by
  intro t e
  unfold execLinkDown at e
  cases e
  repeat' (first
    | with_reducible assumption | with_reducible apply keeps_dropLink | (intro _) | split | dsimp only [id_eq])

theorem keeps_trainLink {b0 b1 b2 b3 b4 b5 : Bool} {u : State} (n : ℕ) (lanes : ℕ) (s : State)
 (hk : Keeps ⟨b0, b1, b2, b3, b4, b5⟩ u s) :
    Keeps ⟨b0, b1, b2, b3, b4, b5⟩ u (trainLink n lanes s) := by
  unfold trainLink
  try dsimp only
  repeat' (first
    | with_reducible assumption | with_reducible apply keeps_setLink | fail_if_no_progress with_reducible apply keeps_mk
    | (intro _) | split | dsimp only [id_eq])

theorem keeps_execLinkTrained {b0 b1 b2 b3 b4 b5 : Bool} {u : State} (link : ℕ) (lanes : ℕ) (s : State)
 (hk : Keeps ⟨b0, b1, b2, b3, b4, b5⟩ u s) :
    ∀ t, execLinkTrained link lanes s = .next t → Keeps ⟨b0, b1, b2, b3, b4, b5⟩ u t := by
  intro t e
  unfold execLinkTrained at e
  cases e
  repeat' (first
    | with_reducible assumption | with_reducible apply keeps_setDom | with_reducible apply keeps_trainLink
    | fail_if_no_progress with_reducible apply keeps_mk | (intro _) | split | dsimp only [id_eq])

theorem keeps_execLinkRecalRequest {b0 b1 b2 b3 b4 b5 : Bool} {u : State} (link : ℕ) (s : State)
 (hk : Keeps ⟨b0, b1, b2, b3, b4, b5⟩ u s) :
    ∀ t, execLinkRecalRequest link s = .next t → Keeps ⟨b0, b1, b2, b3, b4, b5⟩ u t := by
  intro t e
  unfold execLinkRecalRequest at e
  cases e
  repeat' (first
    | with_reducible assumption | with_reducible apply keeps_beginRecal | (intro _) | split | dsimp only [id_eq])

theorem keeps_execRecalThresholdExceeded {b0 b1 b2 b3 b4 b5 : Bool} {u : State} (link : ℕ) (s : State)
 (hk : Keeps ⟨b0, b1, b2, b3, b4, b5⟩ u s) :
    ∀ t, execRecalThresholdExceeded link s = .next t → Keeps ⟨b0, b1, b2, b3, b4, b5⟩ u t := by
  intro t e
  unfold execRecalThresholdExceeded at e
  cases e
  repeat' (first
    | with_reducible assumption | with_reducible apply keeps_beginRecal | with_reducible apply keeps_setLink
    | fail_if_no_progress with_reducible apply keeps_mk | (intro _) | split | dsimp only [id_eq])

theorem keeps_execLinkQuiesced {b0 b1 b2 b3 b4 b5 : Bool} {u : State} (link : ℕ) (s : State)
 (hk : Keeps ⟨b0, b1, b2, b3, b4, b5⟩ u s) :
    ∀ t, execLinkQuiesced link s = .next t → Keeps ⟨b0, b1, b2, b3, b4, b5⟩ u t := by
  intro t e
  unfold execLinkQuiesced at e
  cases e
  repeat' (first
    | with_reducible assumption | with_reducible apply keeps_setLink | fail_if_no_progress with_reducible apply keeps_mk
    | (intro _) | split | dsimp only [id_eq])

theorem keeps_execLinkRetrained {b0 b1 b2 b3 b4 b5 : Bool} {u : State} (link : ℕ) (s : State)
 (hk : Keeps ⟨b0, b1, b2, b3, b4, b5⟩ u s) :
    ∀ t, execLinkRetrained link s = .next t → Keeps ⟨b0, b1, b2, b3, b4, b5⟩ u t := by
  intro t e
  unfold execLinkRetrained at e
  cases e
  repeat' (first
    | with_reducible assumption | with_reducible apply keeps_bump | with_reducible apply keeps_nextRecal
    | with_reducible apply keeps_trainLink | (intro _) | split | dsimp only [id_eq])

theorem keeps_execLinkRecalTimeout {b0 b1 b2 b3 b4 b5 : Bool} {u : State} (link : ℕ) (s : State)
 (hk : Keeps ⟨b0, b1, b2, b3, b4, b5⟩ u s) :
    ∀ t, execLinkRecalTimeout link s = .next t → Keeps ⟨b0, b1, b2, b3, b4, b5⟩ u t := by
  intro t e
  unfold execLinkRecalTimeout at e
  cases e
  repeat' (first
    | with_reducible assumption | with_reducible apply keeps_dropLink | with_reducible apply keeps_raiseEvent | (intro _)
    | split | dsimp only [id_eq])

theorem keeps_drawRanges {b0 b1 b2 b3 b5 : Bool} {u : State} (s : State) (hk : Keeps ⟨b0, b1, b2, b3, false, b5⟩ u s) :
    Keeps ⟨b0, b1, b2, b3, false, b5⟩ u (drawRanges s) := by
  unfold drawRanges
  try dsimp only
  repeat' (first
    | with_reducible assumption | with_reducible apply keeps_drawFree
    | with_reducible refine keeps_drawFree_eq (by assumption) ?_ | fail_if_no_progress with_reducible apply keeps_mk
    | fail_if_no_progress with_reducible apply keeps_mk_tables | with_reducible apply keeps_foldl
    | with_reducible apply keeps_foldl_snd | (intro _) | split | dsimp only [id_eq])

theorem keeps_doDma {b0 b1 b2 b3 b5 : Bool} {u : State} (rq : Req) (s : State)
 (hk : Keeps ⟨b0, b1, b2, b3, false, b5⟩ u s) :
    Keeps ⟨b0, b1, b2, b3, false, b5⟩ u (doDma rq s) := by
  unfold doDma
  try dsimp only
  repeat' (first
    | with_reducible assumption | with_reducible apply keeps_complete | with_reducible apply keeps_deferReq
    | with_reducible apply keeps_drawRanges | with_reducible apply keeps_nextAcc
    | with_reducible refine keeps_nextAcc_eq (by assumption) ?_ | fail_if_no_progress with_reducible apply keeps_mk
    | (intro _) | split | dsimp only [id_eq])

theorem keeps_execDmaCopy {b0 b1 b2 b3 b5 : Bool} {u : State} (h : Hdr) (body : ℕ) (s : State)
 (hk : Keeps ⟨b0, b1, b2, b3, false, b5⟩ u s) :
    ∀ t, execDmaCopy h body s = .next t → Keeps ⟨b0, b1, b2, b3, false, b5⟩ u t := by
  intro t e
  unfold execDmaCopy at e
  cases e
  repeat' (first
    | with_reducible assumption | with_reducible apply keeps_doDma | with_reducible apply keeps_serve | (intro _) | split
    | dsimp only [id_eq])

theorem keeps_setHead {b0 b1 b2 b3 b4 b5 : Bool} {u : State} (c : ℕ) (d : Dma) (s : State)
 (hk : Keeps ⟨b0, b1, b2, b3, b4, b5⟩ u s) :
    Keeps ⟨b0, b1, b2, b3, b4, b5⟩ u (setHead c d s) := by
  unfold setHead
  try dsimp only
  repeat' (first
    | with_reducible assumption | fail_if_no_progress with_reducible apply keeps_mk | (intro _) | split
    | dsimp only [id_eq])

theorem keeps_execDmaTransferStart {b0 b1 b2 b3 b4 b5 : Bool} {u : State} (channel : ℕ) (s : State)
 (hk : Keeps ⟨b0, b1, b2, b3, b4, b5⟩ u s) :
    ∀ t, execDmaTransferStart channel s = .next t → Keeps ⟨b0, b1, b2, b3, b4, b5⟩ u t := by
  intro t e
  unfold execDmaTransferStart at e
  cases e
  repeat' (first
    | with_reducible assumption | with_reducible apply keeps_setHead | fail_if_no_progress with_reducible apply keeps_mk
    | (intro _) | split | dsimp only [id_eq])

theorem keeps_readyHere {b0 b1 b2 b3 b4 b5 : Bool} {u : State} (off : ℕ) (n : ℕ) (s : State)
 (hk : Keeps ⟨b0, b1, b2, b3, b4, b5⟩ u s) :
    ∀ t, readyHere off n s = some t → Keeps ⟨b0, b1, b2, b3, b4, b5⟩ u t := by
  intro t e
  unfold readyHere at e
  try dsimp only at e
  repeat' split at e
  all_goals try cases e
  repeat' (first
    | with_reducible assumption | with_reducible apply keeps_engineFar | with_reducible apply keeps_wake
    | with_reducible apply keeps_foldl | with_reducible apply keeps_foldl_snd | (intro _) | split | dsimp only [id_eq])

theorem keeps_readPiece {b0 b2 b3 b4 b5 : Bool} {u : State} (d : Dma) (a n : Nat) (key : Option Nat) (r : Remote)
 (p : Nat) (s : State) (hk : Keeps ⟨b0, false, b2, b3, b4, b5⟩ u s) :
    Keeps ⟨b0, false, b2, b3, b4, b5⟩ u (readPiece d a n key r p s).state := by
  unfold readPiece
  try dsimp only
  repeat' (first
    | dsimp only [Fetched.state_wait, Fetched.state_got, Piece.state_wait, Piece.state_copied, Piece.state_failed]
    | with_reducible assumption | with_reducible apply keeps_fetch | with_reducible apply keeps_fetchHere
    | with_reducible refine keeps_fetch_wait (by assumption) ?_ | with_reducible refine keeps_fetch_got (by assumption) ?_
    | with_reducible refine keeps_fetchHere_wait (by assumption) ?_
    | with_reducible refine keeps_fetchHere_got (by assumption) ?_ | fail_if_no_progress with_reducible apply keeps_mk
    | (intro _) | split | dsimp only [id_eq])

theorem keeps_readPiece_wait {b0 b2 b3 b4 b5 : Bool} {u w : State} {d : Dma} {a n : Nat} {key : Option Nat} {r : Remote}
    {p : Nat} {s : State}
    (e : readPiece d a n key r p s = .wait w) (hk : Keeps ⟨b0, false, b2, b3, b4, b5⟩ u s) : Keeps ⟨b0, false, b2, b3, b4, b5⟩ u w := by
  have := keeps_readPiece d a n key r p s hk; rwa [e] at this

theorem keeps_readPiece_got {b0 b2 b3 b4 b5 : Bool} {u w : State} {d : Dma} {a n : Nat} {key : Option Nat} {r : Remote}
    {p : Nat} {s : State} {st : Status} {y : Nat}
    (e : readPiece d a n key r p s = .got st y w) (hk : Keeps ⟨b0, false, b2, b3, b4, b5⟩ u s) : Keeps ⟨b0, false, b2, b3, b4, b5⟩ u w := by
  have := keeps_readPiece d a n key r p s hk; rwa [e] at this

theorem keeps_writePiece {b0 b2 b3 b4 b5 : Bool} {u : State} (d : Dma) (a n v : Nat) (key : Option Nat) (ack : Status)
 (s : State) (hk : Keeps ⟨b0, false, b2, b3, b4, b5⟩ u s) :
    Keeps ⟨b0, false, b2, b3, b4, b5⟩ u (writePiece d a n v key ack s).state := by
  unfold writePiece
  try dsimp only
  repeat' (first
    | dsimp only [Fetched.state_wait, Fetched.state_got, Piece.state_wait, Piece.state_copied, Piece.state_failed]
    | with_reducible assumption | with_reducible apply keeps_engineWrite | with_reducible apply keeps_fabricWrite
    | with_reducible refine keeps_engineWrite_eq (by assumption) ?_
    | with_reducible refine keeps_fabricWrite_eq (by assumption) ?_
    | with_reducible refine keeps_readyHere _ _ _ ?_ _ (by assumption) | fail_if_no_progress with_reducible apply keeps_mk
    | (intro _) | split | dsimp only [id_eq])

theorem keeps_writePiece_pwait {b0 b2 b3 b4 b5 : Bool} {u w : State} {d : Dma} {a n v : Nat} {key : Option Nat}
    {ack : Status} {s : State}
    (e : writePiece d a n v key ack s = .wait w) (hk : Keeps ⟨b0, false, b2, b3, b4, b5⟩ u s) : Keeps ⟨b0, false, b2, b3, b4, b5⟩ u w := by
  have := keeps_writePiece d a n v key ack s hk; rwa [e] at this

theorem keeps_writePiece_copied {b0 b2 b3 b4 b5 : Bool} {u w : State} {d : Dma} {a n v : Nat} {key : Option Nat}
    {ack : Status} {s : State}
    (e : writePiece d a n v key ack s = .copied w) (hk : Keeps ⟨b0, false, b2, b3, b4, b5⟩ u s) : Keeps ⟨b0, false, b2, b3, b4, b5⟩ u w := by
  have := keeps_writePiece d a n v key ack s hk; rwa [e] at this

theorem keeps_writePiece_failed {b0 b2 b3 b4 b5 : Bool} {u w : State} {d : Dma} {a n v : Nat} {key : Option Nat}
    {ack : Status} {s : State} {st : Status}
    (e : writePiece d a n v key ack s = .failed st w) (hk : Keeps ⟨b0, false, b2, b3, b4, b5⟩ u s) : Keeps ⟨b0, false, b2, b3, b4, b5⟩ u w := by
  have := keeps_writePiece d a n v key ack s hk; rwa [e] at this

theorem keeps_dmaFault {b0 b2 b3 b4 : Bool} {u : State} (c : ℕ) (d : Dma) (write : Bool) (p : ℕ) (n : ℕ) (data : ℕ)
 (code : ℕ) (level : ℕ) (s : State) (hk : Keeps ⟨b0, false, b2, b3, b4, false⟩ u s) :
    Keeps ⟨b0, false, b2, b3, b4, false⟩ u (dmaFault c d write p n data code level s) := by
  unfold dmaFault
  try dsimp only
  repeat' (first
    | with_reducible assumption | with_reducible apply keeps_bump | with_reducible apply keeps_raiseFault | (intro _)
    | split | dsimp only [id_eq])

theorem keeps_markSubst {b0 b1 b2 b3 b4 b5 : Bool} {u : State} (c : ℕ) (s : State)
 (hk : Keeps ⟨b0, b1, b2, b3, b4, b5⟩ u s) :
    Keeps ⟨b0, b1, b2, b3, b4, b5⟩ u (markSubst c s) := by
  unfold markSubst
  try dsimp only
  repeat' (first
    | with_reducible assumption | fail_if_no_progress with_reducible apply keeps_mk | (intro _) | split
    | dsimp only [id_eq])

theorem keeps_doPiece {b0 b2 b3 b4 : Bool} {u : State} (c : Nat) (d : Dma) (p n : Nat) (src : List (Nat × Nat))
 (r : Remote) (ack : Status) (s : State) (hk : Keeps ⟨b0, false, b2, b3, b4, false⟩ u s) :
    Keeps ⟨b0, false, b2, b3, b4, false⟩ u (doPiece c d p n src r ack s).state := by
  unfold doPiece
  try dsimp only
  repeat' (first
    | dsimp only [Fetched.state_wait, Fetched.state_got, Piece.state_wait, Piece.state_copied, Piece.state_failed]
    | with_reducible assumption | with_reducible apply keeps_bump | with_reducible apply keeps_dmaFault
    | with_reducible apply keeps_drawFree | with_reducible apply keeps_fillCaches | with_reducible apply keeps_markSubst
    | with_reducible apply keeps_walkWaits | with_reducible apply keeps_readPiece | with_reducible apply keeps_writePiece
    | with_reducible refine keeps_drawFree_eq (by assumption) ?_
    | with_reducible refine keeps_readPiece_wait (by assumption) ?_
    | with_reducible refine keeps_readPiece_got (by assumption) ?_
    | with_reducible refine keeps_writePiece_pwait (by assumption) ?_
    | with_reducible refine keeps_writePiece_copied (by assumption) ?_
    | with_reducible refine keeps_writePiece_failed (by assumption) ?_ | fail_if_no_progress with_reducible apply keeps_mk
    | (intro _) | split | dsimp only [id_eq])

theorem keeps_doPiece_pwait {b0 b2 b3 b4 : Bool} {u w : State} {c : Nat} {d : Dma} {p n : Nat} {src : List (Nat × Nat)}
    {r : Remote} {ack : Status} {s : State}
    (e : doPiece c d p n src r ack s = .wait w) (hk : Keeps ⟨b0, false, b2, b3, b4, false⟩ u s) : Keeps ⟨b0, false, b2, b3, b4, false⟩ u w := by
  have := keeps_doPiece c d p n src r ack s hk; rwa [e] at this

theorem keeps_doPiece_copied {b0 b2 b3 b4 : Bool} {u w : State} {c : Nat} {d : Dma} {p n : Nat} {src : List (Nat × Nat)}
    {r : Remote} {ack : Status} {s : State}
    (e : doPiece c d p n src r ack s = .copied w) (hk : Keeps ⟨b0, false, b2, b3, b4, false⟩ u s) : Keeps ⟨b0, false, b2, b3, b4, false⟩ u w := by
  have := keeps_doPiece c d p n src r ack s hk; rwa [e] at this

theorem keeps_doPiece_failed {b0 b2 b3 b4 : Bool} {u w : State} {c : Nat} {d : Dma} {p n : Nat} {src : List (Nat × Nat)}
    {r : Remote} {ack : Status} {s : State} {st : Status}
    (e : doPiece c d p n src r ack s = .failed st w) (hk : Keeps ⟨b0, false, b2, b3, b4, false⟩ u s) : Keeps ⟨b0, false, b2, b3, b4, false⟩ u w := by
  have := keeps_doPiece c d p n src r ack s hk; rwa [e] at this

theorem keeps_runPieces {b0 b2 b3 b4 : Bool} {u : State} (c : Nat) (d : Dma) (src : List (Nat × Nat)) (r : Remote)
 (ack : Status)
    (l : List (Nat × Nat)) (p : Nat) (s : State) (hk : Keeps ⟨b0, false, b2, b3, b4, false⟩ u s) : Keeps ⟨b0, false, b2, b3, b4, false⟩ u (runPieces c d src r ack l p s).2.2 := by
  induction l generalizing p s with
  | nil => exact hk
  | cons x l ih =>
    unfold runPieces
    split
    · exact keeps_doPiece_pwait ‹_› hk
    · exact keeps_doPiece_failed ‹_› hk
    · exact ih _ _ (keeps_doPiece_copied ‹_› hk)

theorem keeps_runPieces_eq {b0 b2 b3 b4 : Bool} {u w : State} {c : Nat} {d : Dma} {src : List (Nat × Nat)} {r : Remote}
    {ack : Status}
    {l : List (Nat × Nat)} {p a : Nat} {b : Option Status} {s : State} (e : runPieces c d src r ack l p s = (a, b, w))
    (hk : Keeps ⟨b0, false, b2, b3, b4, false⟩ u s) : Keeps ⟨b0, false, b2, b3, b4, false⟩ u w := by
  have := keeps_runPieces c d src r ack l p s hk; rwa [e] at this

theorem keeps_endDma {b0 b2 b3 b4 b5 : Bool} {u : State} (c : ℕ) (d : Dma) (done : ℕ) (st : Status) (s : State)
 (hk : Keeps ⟨b0, false, b2, b3, b4, b5⟩ u s) :
    Keeps ⟨b0, false, b2, b3, b4, b5⟩ u (endDma c d done st s) := by
  unfold endDma
  try dsimp only
  repeat' (first
    | with_reducible assumption | with_reducible apply keeps_endPosted | fail_if_no_progress with_reducible apply keeps_mk
    | (intro _) | split | dsimp only [id_eq])

theorem keeps_doTransferEnd {b0 b2 b3 b4 : Bool} {u : State} (c : ℕ) (r : Remote) (ack : Status) (s : State)
 (hk : Keeps ⟨b0, false, b2, b3, b4, false⟩ u s) :
    Keeps ⟨b0, false, b2, b3, b4, false⟩ u (doTransferEnd c r ack s) := by
  unfold doTransferEnd
  try dsimp only
  repeat' (first
    | with_reducible assumption | with_reducible apply keeps_endDma | with_reducible apply keeps_runPieces
    | with_reducible apply keeps_setHead | with_reducible refine keeps_runPieces_eq (by assumption) ?_
    | fail_if_no_progress with_reducible apply keeps_mk | (intro _) | split | dsimp only [id_eq])

theorem keeps_execDmaTransferEnd {b0 b2 b3 b4 : Bool} {u : State} (channel : ℕ) (src : Remote) (ack : Status)
 (s : State) (hk : Keeps ⟨b0, false, b2, b3, b4, false⟩ u s) :
    ∀ t, execDmaTransferEnd channel src ack s = .next t → Keeps ⟨b0, false, b2, b3, b4, false⟩ u t := by
  intro t e
  unfold execDmaTransferEnd at e
  cases e
  repeat' (first
    | with_reducible assumption | with_reducible apply keeps_doTransferEnd | (intro _) | split | dsimp only [id_eq])

theorem keeps_issueLoad {b0 b2 b4 b5 : Bool} {u : State} (a : EngineAccess) (body : ℕ) (r : Remote) (s : State)
 (hk : Keeps ⟨b0, false, b2, false, b4, b5⟩ u s) :
    Keeps ⟨b0, false, b2, false, b4, b5⟩ u (issueLoad a body r s) := by
  unfold issueLoad
  try dsimp only
  repeat' (first
    | with_reducible assumption | with_reducible apply keeps_issue | with_reducible apply keeps_setTile
    | fail_if_no_progress with_reducible apply keeps_mk | (intro _) | split | dsimp only [id_eq])

theorem keeps_issueStore {b0 b2 b4 b5 : Bool} {u : State} (a : EngineAccess) (f : Feed) (ack : Status) (s : State)
 (hk : Keeps ⟨b0, false, b2, false, b4, b5⟩ u s) :
    Keeps ⟨b0, false, b2, false, b4, b5⟩ u (issueStore a f ack s) := by
  unfold issueStore
  try dsimp only
  repeat' (first
    | with_reducible assumption | with_reducible apply keeps_issue | with_reducible apply keeps_markCall
    | with_reducible apply keeps_setTile | fail_if_no_progress with_reducible apply keeps_mk | (intro _) | split
    | dsimp only [id_eq])

theorem keeps_tileUnservable {b0 b1 b2 b3 b4 b5 : Bool} {u : State} (t : ℕ) (s : State)
 (hk : Keeps ⟨b0, b1, b2, b3, b4, b5⟩ u s) :
    Keeps ⟨b0, b1, b2, b3, b4, b5⟩ u (tileUnservable t s) := by
  unfold tileUnservable
  try dsimp only
  repeat' (first
    | with_reducible assumption | with_reducible apply keeps_bump | with_reducible apply keeps_raiseEvent
    | with_reducible apply keeps_setTile | fail_if_no_progress with_reducible apply keeps_mk | (intro _) | split
    | dsimp only [id_eq])

theorem keeps_tileSignalNow {b0 b3 b4 b5 : Bool} {u : State} (t : ℕ) (n : ℕ) (operand : ℕ) (s : State)
 (hk : Keeps ⟨b0, false, false, b3, b4, b5⟩ u s) :
    Keeps ⟨b0, false, false, b3, b4, b5⟩ u (tileSignalNow t n operand s) := by
  unfold tileSignalNow
  try dsimp only
  repeat' (first
    | with_reducible assumption | with_reducible apply keeps_applySignal | with_reducible apply keeps_tileUnservable
    | fail_if_no_progress with_reducible apply keeps_mk | (intro _) | split | dsimp only [id_eq])

theorem keeps_tileWaitNow {b0 b1 b3 b4 b5 : Bool} {u : State} (t : ℕ) (n : ℕ) (cond : ℕ) (target : ℕ) (s : State)
 (hk : Keeps ⟨b0, b1, false, b3, b4, b5⟩ u s) :
    Keeps ⟨b0, b1, false, b3, b4, b5⟩ u (tileWaitNow t n cond target s).2 := by
  unfold tileWaitNow
  try dsimp only
  repeat' (first
    | with_reducible assumption | with_reducible apply keeps_bump | with_reducible apply keeps_setSync
    | with_reducible apply keeps_setTile | with_reducible apply keeps_tileUnservable
    | fail_if_no_progress with_reducible apply keeps_mk | (intro _) | split | dsimp only [id_eq])

theorem keeps_tileWaitNow_eq {b0 b1 b3 b4 b5 : Bool} {u w : State} {r0 : Bool} {t : ℕ} {n : ℕ} {cond : ℕ} {target : ℕ}
    {s : State} (e : tileWaitNow t n cond target s = (r0, w)) (hk : Keeps ⟨b0, b1, false, b3, b4, b5⟩ u s) :
    Keeps ⟨b0, b1, false, b3, b4, b5⟩ u w := by
  have := keeps_tileWaitNow t n cond target s  hk; rwa [e] at this

theorem keeps_tryStep {b0 b4 b5 : Bool} {u : State} (t : ℕ) (op : SeqOp) (s : State)
 (hk : Keeps ⟨b0, false, false, false, b4, b5⟩ u s) :
    Keeps ⟨b0, false, false, false, b4, b5⟩ u (tryStep t op s).2 := by
  unfold tryStep
  try dsimp only
  repeat' (first
    | with_reducible assumption | with_reducible apply keeps_issueLoad | with_reducible apply keeps_issueStore
    | with_reducible apply keeps_setTile | with_reducible apply keeps_tileSignalNow
    | with_reducible apply keeps_tileWaitNow | with_reducible apply keeps_unitStep | with_reducible apply keeps_wake
    | with_reducible refine keeps_tileWaitNow_eq (by assumption) ?_ | fail_if_no_progress with_reducible apply keeps_mk
    | (intro _) | split | dsimp only [id_eq])

theorem keeps_tryStep_eq {b0 b4 b5 : Bool} {u w : State} {r0 : Bool} {t : ℕ} {op : SeqOp} {s : State}
 (e : tryStep t op s = (r0, w)) (hk : Keeps ⟨b0, false, false, false, b4, b5⟩ u s) :
    Keeps ⟨b0, false, false, false, b4, b5⟩ u w := by
  have := keeps_tryStep t op s  hk; rwa [e] at this

theorem keeps_runSteps {b0 b4 b5 : Bool} {u : State} (t : Nat) (ops : List SeqOp) (s : State)
 (hk : Keeps ⟨b0, false, false, false, b4, b5⟩ u s) : Keeps ⟨b0, false, false, false, b4, b5⟩ u
 (runSteps t ops s) := by
  induction ops generalizing s with
  | nil =>
    unfold runSteps
    repeat' (first
      | with_reducible assumption
      | with_reducible assumption | with_reducible apply keeps_setTile | with_reducible apply keeps_tryStep
      | with_reducible refine keeps_tryStep_eq (by assumption) ?_ | fail_if_no_progress with_reducible apply keeps_mk
      | (intro _) | split | dsimp only [id_eq])
  | cons op ops ih =>
    unfold runSteps
    dsimp only
    repeat' (first
      | with_reducible apply ih
      | with_reducible assumption | with_reducible apply keeps_setTile | with_reducible apply keeps_tryStep
      | with_reducible refine keeps_tryStep_eq (by assumption) ?_ | fail_if_no_progress with_reducible apply keeps_mk
      | (intro _) | split | dsimp only [id_eq])

theorem keeps_settleTile {b0 b4 b5 : Bool} {u : State} (t : ℕ) (s : State)
 (hk : Keeps ⟨b0, false, false, false, b4, b5⟩ u s) :
    Keeps ⟨b0, false, false, false, b4, b5⟩ u (settleTile t s) := by
  unfold settleTile
  try dsimp only
  repeat' (first
    | with_reducible assumption | with_reducible apply keeps_runSteps | (intro _) | split | dsimp only [id_eq])

theorem keeps_settleTiles {b0 b4 b5 : Bool} {u : State} (s : State) (hk : Keeps ⟨b0, false, false, false, b4, b5⟩ u s) :
    Keeps ⟨b0, false, false, false, b4, b5⟩ u (settleTiles s) := by
  unfold settleTiles
  try dsimp only
  repeat' (first
    | with_reducible assumption | with_reducible apply keeps_settleTile | with_reducible apply keeps_foldl
    | with_reducible apply keeps_foldl_snd | (intro _) | split | dsimp only [id_eq])

theorem keeps_tileStep {b0 b4 b5 : Bool} {u : State} (t : ℕ) (op : SeqOp) (s : State)
 (hk : Keeps ⟨b0, false, false, false, b4, b5⟩ u s) :
    Keeps ⟨b0, false, false, false, b4, b5⟩ u (tileStep t op s) := by
  unfold tileStep
  try dsimp only
  repeat' (first
    | with_reducible assumption | with_reducible apply keeps_runSteps | (intro _) | split | dsimp only [id_eq])

theorem keeps_execMatrixVectorStep {b0 b4 b5 : Bool} {u : State} (tile : ℕ) (m : MvRun) (s : State)
 (hk : Keeps ⟨b0, false, false, false, b4, b5⟩ u s) :
    ∀ t, execMatrixVectorStep tile m s = .next t → Keeps ⟨b0, false, false, false, b4, b5⟩ u t := by
  intro t e
  unfold execMatrixVectorStep at e
  cases e
  repeat' (first
    | with_reducible assumption | with_reducible apply keeps_tileStep | (intro _) | split | dsimp only [id_eq])

theorem keeps_execVectorStep {b0 b4 b5 : Bool} {u : State} (tile : ℕ) (op : VecOp) (pads : FeedPads)
 (own : FeedOwn) (out : FeedOut) (s : State)
 (hk : Keeps ⟨b0, false, false, false, b4, b5⟩ u s) :
    ∀ t, execVectorStep tile op pads own out s = .next t → Keeps ⟨b0, false, false, false, b4, b5⟩ u t := by
  intro t e
  unfold execVectorStep at e
  cases e
  repeat' (first
    | with_reducible assumption | with_reducible apply keeps_tileStep | (intro _) | split | dsimp only [id_eq])

theorem keeps_execConversion {b0 b4 b5 : Bool} {u : State} (tile : ℕ) (target : ℕ) (src : FeedSource)
 (out : FeedOut) (s : State)
 (hk : Keeps ⟨b0, false, false, false, b4, b5⟩ u s) :
    ∀ t, execConversion tile target src out s = .next t → Keeps ⟨b0, false, false, false, b4, b5⟩ u t := by
  intro t e
  unfold execConversion at e
  cases e
  repeat' (first
    | with_reducible assumption | with_reducible apply keeps_tileStep | (intro _) | split | dsimp only [id_eq])

theorem keeps_execSpecialFunction {b0 b4 b5 : Bool} {u : State} (tile : ℕ) (fn : SpecialFn) (src : FeedSource)
 (out : FeedOut) (s : State)
 (hk : Keeps ⟨b0, false, false, false, b4, b5⟩ u s) :
    ∀ t, execSpecialFunction tile fn src out s = .next t → Keeps ⟨b0, false, false, false, b4, b5⟩ u t := by
  intro t e
  unfold execSpecialFunction at e
  cases e
  repeat' (first
    | with_reducible assumption | with_reducible apply keeps_tileStep | (intro _) | split | dsimp only [id_eq])

theorem keeps_execCrossLaneReduce {b0 b4 b5 : Bool} {u : State} (tile : ℕ) (maximum : Bool) (f : Feed) (s : State)
 (hk : Keeps ⟨b0, false, false, false, b4, b5⟩ u s) :
    ∀ t, execCrossLaneReduce tile maximum f s = .next t → Keeps ⟨b0, false, false, false, b4, b5⟩ u t := by
  intro t e
  unfold execCrossLaneReduce at e
  cases e
  repeat' (first
    | with_reducible assumption | with_reducible apply keeps_tileStep | (intro _) | split | dsimp only [id_eq])

theorem keeps_tileAccess {b0 b4 b5 : Bool} {u : State} (a : EngineAccess) (op : EngineAccess → SeqOp) (s : State)
 (hk : Keeps ⟨b0, false, false, false, b4, b5⟩ u s) :
    Keeps ⟨b0, false, false, false, b4, b5⟩ u (tileAccess a op s) := by
  unfold tileAccess
  try dsimp only
  repeat' (first
    | with_reducible assumption | with_reducible apply keeps_tileStep | (intro _) | split | dsimp only [id_eq])

theorem keeps_execTilePlainLoad {b0 b4 b5 : Bool} {u : State} (a : EngineAccess) (r : Remote) (s : State)
 (hk : Keeps ⟨b0, false, false, false, b4, b5⟩ u s) :
    ∀ t, execTilePlainLoad a r s = .next t → Keeps ⟨b0, false, false, false, b4, b5⟩ u t := by
  intro t e
  unfold execTilePlainLoad at e
  cases e
  repeat' (first
    | with_reducible assumption | with_reducible apply keeps_tileAccess | (intro _) | split | dsimp only [id_eq])

theorem keeps_execTileAcquireLoad {b0 b4 b5 : Bool} {u : State} (a : EngineAccess) (r : Remote) (s : State)
 (hk : Keeps ⟨b0, false, false, false, b4, b5⟩ u s) :
    ∀ t, execTileAcquireLoad a r s = .next t → Keeps ⟨b0, false, false, false, b4, b5⟩ u t := by
  intro t e
  unfold execTileAcquireLoad at e
  cases e
  repeat' (first
    | with_reducible assumption | with_reducible apply keeps_tileAccess | (intro _) | split | dsimp only [id_eq])

theorem keeps_presentLoad {b0 b1 b2 b4 b5 : Bool} {u : State} (t : ℕ) (s : State)
 (hk : Keeps ⟨b0, b1, b2, false, b4, b5⟩ u s) :
    Keeps ⟨b0, b1, b2, false, b4, b5⟩ u (presentLoad t s) := by
  unfold presentLoad
  try dsimp only
  repeat' (first
    | with_reducible assumption | with_reducible apply keeps_deliver | with_reducible apply keeps_markCall
    | with_reducible apply keeps_setTile | fail_if_no_progress with_reducible apply keeps_mk | (intro _) | split
    | dsimp only [id_eq])

theorem keeps_execTileLoadReturn {b0 b4 b5 : Bool} {u : State} (tile : ℕ) (s : State)
 (hk : Keeps ⟨b0, false, false, false, b4, b5⟩ u s) :
    ∀ t, execTileLoadReturn tile s = .next t → Keeps ⟨b0, false, false, false, b4, b5⟩ u t := by
  intro t e
  unfold execTileLoadReturn at e
  cases e
  repeat' (first
    | with_reducible assumption | with_reducible apply keeps_presentLoad | with_reducible apply keeps_settleTile
    | (intro _) | split | dsimp only [id_eq])

theorem keeps_execTilePlainStore {b0 b4 b5 : Bool} {u : State} (a : TileStore) (ack : Status) (s : State)
 (hk : Keeps ⟨b0, false, false, false, b4, b5⟩ u s) :
    ∀ t, execTilePlainStore a ack s = .next t → Keeps ⟨b0, false, false, false, b4, b5⟩ u t := by
  intro t e
  unfold execTilePlainStore at e
  cases e
  repeat' (first
    | with_reducible assumption | with_reducible apply keeps_tileAccess | (intro _) | split | dsimp only [id_eq])

theorem keeps_execTileAtomic {b0 b4 b5 : Bool} {u : State} (a : EngineAccess) (body : ℕ) (r : Remote) (s : State)
 (hk : Keeps ⟨b0, false, false, false, b4, b5⟩ u s) :
    ∀ t, execTileAtomic a body r s = .next t → Keeps ⟨b0, false, false, false, b4, b5⟩ u t := by
  intro t e
  unfold execTileAtomic at e
  cases e
  repeat' (first
    | with_reducible assumption | with_reducible apply keeps_tileAccess
    | fail_if_no_progress with_reducible apply keeps_mk | (intro _) | split | dsimp only [id_eq])

theorem keeps_execTileReleaseStore {b0 b4 b5 : Bool} {u : State} (a : TileStore) (ack : Status)
 (s : State) (hk : Keeps ⟨b0, false, false, false, b4, b5⟩ u s) :
    ∀ t, execTileReleaseStore a ack s = .next t → Keeps ⟨b0, false, false, false, b4, b5⟩ u t := by
  intro t e
  unfold execTileReleaseStore at e
  cases e
  repeat' (first
    | with_reducible assumption | with_reducible apply keeps_tileAccess | (intro _) | split | dsimp only [id_eq])

theorem keeps_execTileFence {b0 b4 b5 : Bool} {u : State} (tile : ℕ) (s : State)
 (hk : Keeps ⟨b0, false, false, false, b4, b5⟩ u s) :
    ∀ t, execTileFence tile s = .next t → Keeps ⟨b0, false, false, false, b4, b5⟩ u t := by
  intro t e
  unfold execTileFence at e
  cases e
  repeat' (first
    | with_reducible assumption | with_reducible apply keeps_tileStep | (intro _) | split | dsimp only [id_eq])

theorem keeps_execTileSignal {b0 b4 b5 : Bool} {u : State} (tile : ℕ) (object : ℕ) (operand : ℕ) (s : State)
 (hk : Keeps ⟨b0, false, false, false, b4, b5⟩ u s) :
    ∀ t, execTileSignal tile object operand s = .next t → Keeps ⟨b0, false, false, false, b4, b5⟩ u t := by
  intro t e
  unfold execTileSignal at e
  cases e
  repeat' (first
    | with_reducible assumption | with_reducible apply keeps_tileStep | (intro _) | split | dsimp only [id_eq])

theorem keeps_execTileWait {b0 b4 b5 : Bool} {u : State} (tile : ℕ) (object : ℕ) (cond : ℕ) (target : ℕ) (s : State)
 (hk : Keeps ⟨b0, false, false, false, b4, b5⟩ u s) :
    ∀ t, execTileWait tile object cond target s = .next t → Keeps ⟨b0, false, false, false, b4, b5⟩ u t := by
  intro t e
  unfold execTileWait at e
  cases e
  repeat' (first
    | with_reducible assumption | with_reducible apply keeps_tileStep | (intro _) | split | dsimp only [id_eq])

theorem keeps_execTranslationWalkEnd {b0 b4 : Bool} {u : State} (a : EngineAccess) (s : State)
 (hk : Keeps ⟨b0, false, false, false, b4, false⟩ u s) :
    ∀ t, execTranslationWalkEnd a s = .next t → Keeps ⟨b0, false, false, false, b4, false⟩ u t := by
  intro t e
  unfold execTranslationWalkEnd at e
  cases e
  repeat' (first
    | with_reducible assumption | with_reducible apply keeps_endWalk | with_reducible apply keeps_settleTiles | (intro _)
    | split | dsimp only [id_eq])

theorem keeps_faultDoorbell {b0 b1 b2 b3 b4 b5 : Bool} {u : State} (q : ℕ) (seq : ℕ) (s : State)
 (hk : Keeps ⟨b0, b1, b2, b3, b4, b5⟩ u s) :
    Keeps ⟨b0, b1, b2, b3, b4, b5⟩ u (faultDoorbell q seq s) := by
  unfold faultDoorbell
  try dsimp only
  repeat' (first
    | with_reducible assumption | with_reducible apply keeps_drawFree | with_reducible apply keeps_sendDoorbell
    | with_reducible refine keeps_drawFree_eq (by assumption) ?_
    | with_reducible refine keeps_sendDoorbell_eq (by assumption) ?_ | fail_if_no_progress with_reducible apply keeps_mk
    | (intro _) | split | dsimp only [id_eq])

theorem keeps_execFaultRecordAcked {b0 b1 b2 b3 b4 b5 : Bool} {u : State} (queue : ℕ) (seq : ℕ) (ack : Status)
 (s : State) (hk : Keeps ⟨b0, b1, b2, b3, b4, b5⟩ u s) :
    ∀ t, execFaultRecordAcked queue seq ack s = .next t → Keeps ⟨b0, b1, b2, b3, b4, b5⟩ u t := by
  intro t e
  unfold execFaultRecordAcked at e
  cases e
  repeat' (first
    | with_reducible assumption | with_reducible apply keeps_faultDoorbell
    | fail_if_no_progress with_reducible apply keeps_mk | (intro _) | split | dsimp only [id_eq])

theorem keeps_execFaultDoorbellResend {b0 b1 b2 b3 b4 b5 : Bool} {u : State} (queue : ℕ) (seq : ℕ) (s : State)
 (hk : Keeps ⟨b0, b1, b2, b3, b4, b5⟩ u s) :
    ∀ t, execFaultDoorbellResend queue seq s = .next t → Keeps ⟨b0, b1, b2, b3, b4, b5⟩ u t := by
  intro t e
  unfold execFaultDoorbellResend at e
  cases e
  repeat' (first
    | with_reducible assumption | with_reducible apply keeps_faultDoorbell
    | fail_if_no_progress with_reducible apply keeps_mk | (intro _) | split | dsimp only [id_eq])

theorem keeps_dropXlt {b0 b1 b2 b3 b4 : Bool} {u : State} (b : ℕ) (s : State)
 (hk : Keeps ⟨b0, b1, b2, b3, b4, false⟩ u s) :
    Keeps ⟨b0, b1, b2, b3, b4, false⟩ u (dropXlt b s) := by
  unfold dropXlt
  try dsimp only
  repeat' (first
    | with_reducible assumption | fail_if_no_progress with_reducible apply keeps_mk
    | fail_if_no_progress with_reducible apply keeps_mk_maps | (intro _) | split | dsimp only [id_eq])

theorem keeps_doInval {b0 b1 b2 b3 b4 : Bool} {u : State} (rq : Req) (s : State)
 (hk : Keeps ⟨b0, b1, b2, b3, b4, false⟩ u s) :
    Keeps ⟨b0, b1, b2, b3, b4, false⟩ u (doInval rq s) := by
  unfold doInval
  try dsimp only
  repeat' (first
    | with_reducible assumption | with_reducible apply keeps_complete | with_reducible apply keeps_dropXlt
    | with_reducible apply keeps_nextAcc | with_reducible refine keeps_nextAcc_eq (by assumption) ?_
    | fail_if_no_progress with_reducible apply keeps_mk | (intro _) | split | dsimp only [id_eq])

theorem keeps_serveInval {b0 b1 b2 b3 b4 b5 : Bool} {u : State} (scope : ℕ) (h : Hdr) (body : ℕ)
 (act : Req → State → State) (s : State) (hact : ∀ a0
 (w : State), Keeps ⟨b0, b1, b2, b3, b4, b5⟩ u w → Keeps ⟨b0, b1, b2, b3, b4, b5⟩ u (act a0 w))
 (hk : Keeps ⟨b0, b1, b2, b3, b4, b5⟩ u s) :
    Keeps ⟨b0, b1, b2, b3, b4, b5⟩ u (serveInval scope h body act s) := by
  unfold serveInval
  try dsimp only
  repeat' (first
    | with_reducible assumption | with_reducible apply keeps_serve | with_reducible apply hact
    | fail_if_no_progress with_reducible apply keeps_mk | (intro _) | split | dsimp only [id_eq])

theorem keeps_execInvalPages {b0 b1 b2 b3 b4 : Bool} {u : State} (h : Hdr) (body : ℕ) (s : State)
 (hk : Keeps ⟨b0, b1, b2, b3, b4, false⟩ u s) :
    ∀ t, execInvalPages h body s = .next t → Keeps ⟨b0, b1, b2, b3, b4, false⟩ u t := by
  intro t e
  unfold execInvalPages at e
  cases e
  repeat' (first
    | with_reducible assumption | with_reducible apply keeps_doInval | with_reducible apply keeps_serveInval | (intro _)
    | split | dsimp only [id_eq])

theorem keeps_execInvalContext {b0 b1 b2 b3 b4 : Bool} {u : State} (h : Hdr) (body : ℕ) (s : State)
 (hk : Keeps ⟨b0, b1, b2, b3, b4, false⟩ u s) :
    ∀ t, execInvalContext h body s = .next t → Keeps ⟨b0, b1, b2, b3, b4, false⟩ u t := by
  intro t e
  unfold execInvalContext at e
  cases e
  repeat' (first
    | with_reducible assumption | with_reducible apply keeps_doInval | with_reducible apply keeps_serveInval | (intro _)
    | split | dsimp only [id_eq])

theorem keeps_execInvalTakesEffect {b0 b1 b2 b3 b4 b5 : Bool} {u : State} (acc : ℕ) (s : State)
 (hk : Keeps ⟨b0, b1, b2, b3, b4, b5⟩ u s) :
    ∀ t, execInvalTakesEffect acc s = .next t → Keeps ⟨b0, b1, b2, b3, b4, b5⟩ u t := by
  intro t e
  unfold execInvalTakesEffect at e
  cases e
  repeat' (first
    | with_reducible assumption | with_reducible apply keeps_bump | with_reducible apply keeps_oweRemote
    | with_reducible apply keeps_oweSignal | fail_if_no_progress with_reducible apply keeps_mk | (intro _) | split
    | dsimp only [id_eq])

theorem keeps_readPart {b0 b1 b2 b3 b4 b5 : Bool} {u : State} (c : Ctx) (n : ℕ) (v : ℕ) (s : State)
 (hk : Keeps ⟨b0, b1, b2, b3, b4, b5⟩ u s) :
    Keeps ⟨b0, b1, b2, b3, b4, b5⟩ u (readPart c n v s) := by
  unfold readPart
  try dsimp only
  repeat' (first
    | with_reducible assumption | with_reducible apply keeps_dapReply | with_reducible apply keeps_fin
    | fail_if_no_progress with_reducible apply keeps_mk | (intro _) | split | dsimp only [id_eq])

theorem keeps_readDomain {b0 b1 b2 b3 b4 b5 : Bool} {u : State} (c : Ctx) (n : ℕ) (v : ℕ) (s : State)
 (hk : Keeps ⟨b0, b1, b2, b3, b4, b5⟩ u s) :
    Keeps ⟨b0, b1, b2, b3, b4, b5⟩ u (readDomain c n v s) := by
  unfold readDomain
  try dsimp only
  repeat' (first
    | with_reducible assumption | with_reducible apply keeps_readPart | with_reducible apply keeps_setSession
    | fail_if_no_progress with_reducible apply keeps_mk | (intro _) | split | dsimp only [id_eq])

theorem keeps_countService {b0 b1 b2 b3 b4 b5 : Bool} {u : State} (s : State) (hk : Keeps ⟨b0, b1, b2, b3, b4, b5⟩ u s) :
    Keeps ⟨b0, b1, b2, b3, b4, b5⟩ u (countService s) := by
  unfold countService
  try dsimp only
  repeat' (first
    | with_reducible assumption | with_reducible apply keeps_meter | fail_if_no_progress with_reducible apply keeps_mk
    | with_reducible apply keeps_foldl | with_reducible apply keeps_foldl_snd | (intro _) | split | dsimp only [id_eq])

theorem keeps_idle {b0 b1 b2 b3 b4 b5 : Bool} {u : State} (s : State) (hk : Keeps ⟨b0, b1, b2, b3, b4, b5⟩ u s) :
    Keeps ⟨b0, b1, b2, b3, b4, b5⟩ u (idle s) := by
  unfold idle
  try dsimp only
  repeat' (first
    | with_reducible assumption | with_reducible apply keeps_advance | with_reducible apply keeps_countService | (intro _)
    | split | dsimp only [id_eq])

theorem keeps_countBatches {b0 b1 b2 b3 b4 b5 : Bool} {u : State} (s : State) (hk : Keeps ⟨b0, b1, b2, b3, b4, b5⟩ u s) :
    Keeps ⟨b0, b1, b2, b3, b4, b5⟩ u (countBatches s) := by
  unfold countBatches
  try dsimp only
  repeat' (first
    | with_reducible assumption | with_reducible apply keeps_setObj | (intro _) | split | dsimp only [id_eq])

theorem keeps_makeRoom {b1 b2 b3 b4 b5 : Bool} {u : State} (n k : Nat) (s : State)
 (hk : Keeps ⟨false, b1, b2, b3, b4, b5⟩ u s) : Keeps ⟨false, b1, b2, b3, b4, b5⟩ u (makeRoom n k s) := by
  induction k generalizing s with
  | zero => exact hk
  | succ k ih =>
    unfold makeRoom
    dsimp only
    repeat' (first
      | with_reducible apply ih
      | with_reducible assumption | with_reducible apply keeps_appendLog | with_reducible apply keeps_bump
      | fail_if_no_progress with_reducible apply keeps_mk | fail_if_no_progress with_reducible apply keeps_mk_custody
      | (intro _) | split | dsimp only [id_eq])

theorem keeps_keepRecords {b1 b2 b3 b4 b5 : Bool} {u : State} (records : List ℕ) (s : State)
 (hk : Keeps ⟨false, b1, b2, b3, b4, b5⟩ u s) :
    Keeps ⟨false, b1, b2, b3, b4, b5⟩ u (keepRecords records s) := by
  unfold keepRecords
  try dsimp only
  repeat' (first
    | with_reducible assumption | with_reducible apply keeps_countBatches | with_reducible apply keeps_makeRoom
    | with_reducible apply keeps_raiseEvent | fail_if_no_progress with_reducible apply keeps_mk
    | fail_if_no_progress with_reducible apply keeps_mk_custody | (intro _) | split | dsimp only [id_eq])

theorem keeps_doMeterPeriod {b1 b2 b3 b4 b5 : Bool} {u : State} (s : State)
 (hk : Keeps ⟨false, b1, b2, b3, b4, b5⟩ u s) :
    Keeps ⟨false, b1, b2, b3, b4, b5⟩ u (doMeterPeriod s) := by
  unfold doMeterPeriod
  try dsimp only
  repeat' (first
    | with_reducible assumption | with_reducible apply keeps_closeMeters | with_reducible apply keeps_keepRecords
    | with_reducible refine keeps_closeMeters_eq (by assumption) ?_ | fail_if_no_progress with_reducible apply keeps_mk
    | (intro _) | split | dsimp only [id_eq])

theorem keeps_execMeterPeriodEnd {b1 b2 b3 b4 b5 : Bool} {u : State} (s : State)
 (hk : Keeps ⟨false, b1, b2, b3, b4, b5⟩ u s) :
    ∀ t, execMeterPeriodEnd s = .next t → Keeps ⟨false, b1, b2, b3, b4, b5⟩ u t := by
  intro t e
  unfold execMeterPeriodEnd at e
  cases e
  repeat' (first
    | with_reducible assumption | with_reducible apply keeps_doMeterPeriod | (intro _) | split | dsimp only [id_eq])

theorem keeps_doMeterAck {b1 b2 b3 b4 b5 : Bool} {u : State} (c : Ctx) (s : State)
 (hk : Keeps ⟨false, b1, b2, b3, b4, b5⟩ u s) :
    Keeps ⟨false, b1, b2, b3, b4, b5⟩ u (doMeterAck c s) := by
  unfold doMeterAck
  try dsimp only
  repeat' (first
    | with_reducible assumption | with_reducible apply keeps_applied | with_reducible apply keeps_countBatches
    | with_reducible apply keeps_finBad | fail_if_no_progress with_reducible apply keeps_mk
    | fail_if_no_progress with_reducible apply keeps_mk_custody | (intro _) | split | dsimp only [id_eq])

theorem keeps_execMeterAck {b1 b2 b3 b4 b5 : Bool} {u : State} (d : DapMsg) (s : State)
 (hk : Keeps ⟨false, b1, b2, b3, b4, b5⟩ u s) :
    ∀ t, execMeterAck d s = .next t → Keeps ⟨false, b1, b2, b3, b4, b5⟩ u t := by
  intro t e
  unfold execMeterAck at e
  cases e
  repeat' (first
    | with_reducible assumption | with_reducible apply keeps_dapServe | with_reducible apply keeps_doMeterAck | (intro _)
    | split | dsimp only [id_eq])

theorem keeps_doBatchRead {b0 b1 b2 b3 b4 b5 : Bool} {u : State} (c : Ctx) (s : State)
 (hk : Keeps ⟨b0, b1, b2, b3, b4, b5⟩ u s) :
    Keeps ⟨b0, b1, b2, b3, b4, b5⟩ u (doBatchRead c s) := by
  unfold doBatchRead
  try dsimp only
  repeat' (first
    | with_reducible assumption | with_reducible apply keeps_fin | with_reducible apply keeps_readPart
    | with_reducible apply keeps_setSession | fail_if_no_progress with_reducible apply keeps_mk | (intro _) | split
    | dsimp only [id_eq])

theorem keeps_execMeterBatchRead {b0 b1 b2 b3 b4 b5 : Bool} {u : State} (d : DapMsg) (s : State)
 (hk : Keeps ⟨b0, b1, b2, b3, b4, b5⟩ u s) :
    ∀ t, execMeterBatchRead d s = .next t → Keeps ⟨b0, b1, b2, b3, b4, b5⟩ u t := by
  intro t e
  unfold execMeterBatchRead at e
  cases e
  repeat' (first
    | with_reducible assumption | with_reducible apply keeps_dapServe | with_reducible apply keeps_doBatchRead | (intro _)
    | split | dsimp only [id_eq])

theorem keeps_errorQps {b0 b1 b2 b3 b4 b5 : Bool} {u : State} (requester : ℕ) (s : State)
 (hk : Keeps ⟨b0, b1, b2, b3, b4, b5⟩ u s) :
    Keeps ⟨b0, b1, b2, b3, b4, b5⟩ u (errorQps requester s) := by
  unfold errorQps
  try dsimp only
  repeat' (first
    | with_reducible assumption | with_reducible apply keeps_qpError | with_reducible apply keeps_foldl
    | with_reducible apply keeps_foldl_snd | (intro _) | split | dsimp only [id_eq])

theorem keeps_doEntryFree {b1 b2 b3 b4 b5 : Bool} {u : State} (requester : ℕ) (s : State)
 (hk : Keeps ⟨false, b1, b2, b3, b4, b5⟩ u s) :
    Keeps ⟨false, b1, b2, b3, b4, b5⟩ u (doEntryFree requester s) := by
  unfold doEntryFree
  try dsimp only
  repeat' (first
    | with_reducible assumption | with_reducible apply keeps_closeMeters | with_reducible apply keeps_closeTenants
    | with_reducible apply keeps_errorQps | with_reducible apply keeps_keepRecords | with_reducible apply keeps_raiseEvent
    | with_reducible refine keeps_closeMeters_eq (by assumption) ?_ | fail_if_no_progress with_reducible apply keeps_mk
    | (intro _) | split | dsimp only [id_eq])

theorem keeps_execEntryDrainFree {b1 b2 b3 b4 b5 : Bool} {u : State} (requester : ℕ) (s : State)
 (hk : Keeps ⟨false, b1, b2, b3, b4, b5⟩ u s) :
    ∀ t, execEntryDrainFree requester s = .next t → Keeps ⟨false, b1, b2, b3, b4, b5⟩ u t := by
  intro t e
  unfold execEntryDrainFree at e
  cases e
  repeat' (first
    | with_reducible assumption | with_reducible apply keeps_doEntryFree | (intro _) | split | dsimp only [id_eq])

theorem keeps_doRegionEntry {b1 b2 b3 b4 b5 : Bool} {u : State} (c : Ctx) (s : State)
 (hk : Keeps ⟨false, b1, b2, b3, b4, b5⟩ u s) :
    Keeps ⟨false, b1, b2, b3, b4, b5⟩ u (doRegionEntry c s) := by
  unfold doRegionEntry
  try dsimp only
  repeat' (first
    | with_reducible assumption | with_reducible apply keeps_applied | with_reducible apply keeps_finBad
    | with_reducible apply keeps_setObj | fail_if_no_progress with_reducible apply keeps_mk
    | fail_if_no_progress with_reducible apply keeps_mk_custody | (intro _) | split | dsimp only [id_eq])

theorem keeps_execRegionEntryWrite {b1 b2 b3 b4 b5 : Bool} {u : State} (d : DapMsg) (s : State)
 (hk : Keeps ⟨false, b1, b2, b3, b4, b5⟩ u s) :
    ∀ t, execRegionEntryWrite d s = .next t → Keeps ⟨false, b1, b2, b3, b4, b5⟩ u t := by
  intro t e
  unfold execRegionEntryWrite at e
  cases e
  repeat' (first
    | with_reducible assumption | with_reducible apply keeps_dapServe | with_reducible apply keeps_doRegionEntry
    | (intro _) | split | dsimp only [id_eq])

theorem keeps_doTrustMode {b1 b2 b3 b4 b5 : Bool} {u : State} (c : Ctx) (s : State)
 (hk : Keeps ⟨false, b1, b2, b3, b4, b5⟩ u s) :
    Keeps ⟨false, b1, b2, b3, b4, b5⟩ u (doTrustMode c s) := by
  unfold doTrustMode
  try dsimp only
  repeat' (first
    | with_reducible assumption | with_reducible apply keeps_appendLog | with_reducible apply keeps_applied
    | with_reducible apply keeps_fin | with_reducible apply keeps_finBad | with_reducible apply keeps_setObj | (intro _)
    | split | dsimp only [id_eq])

theorem keeps_execTrustModeWrite {b1 b2 b3 b4 b5 : Bool} {u : State} (d : DapMsg) (s : State)
 (hk : Keeps ⟨false, b1, b2, b3, b4, b5⟩ u s) :
    ∀ t, execTrustModeWrite d s = .next t → Keeps ⟨false, b1, b2, b3, b4, b5⟩ u t := by
  intro t e
  unfold execTrustModeWrite at e
  cases e
  repeat' (first
    | with_reducible assumption | with_reducible apply keeps_dapServe | with_reducible apply keeps_doTrustMode | (intro _)
    | split | dsimp only [id_eq])

end Sys2Proof.Machine
end

