-- ==== Sys2Proof/Laws/KeepsDomain.lean ====
section
/-! SUPPORT. What the operations keep (Laws/Keeps.lean): those of synchronisation, the domain, the Ethernet port, STANDING and reset. -/

set_option maxRecDepth 4000
set_option linter.unusedTactic false
set_option linter.unreachableTactic false

namespace Sys2Proof.Machine

theorem keeps_serveSync {b0 b1 b2 b3 b4 b5 : Bool} {u : State} (op : ℕ) (h : Hdr) (body : ℕ) (act : Req → State → State)
 (s : State) (hact : ∀ a0 (w : State), Keeps ⟨b0, b1, b2, b3, b4, b5⟩ u w → Keeps ⟨b0, b1, b2, b3, b4, b5⟩ u
 (act a0 w)) (hk : Keeps ⟨b0, b1, b2, b3, b4, b5⟩ u s) :
    Keeps ⟨b0, b1, b2, b3, b4, b5⟩ u (serveSync op h body act s) := by
  unfold serveSync
  try dsimp only
  repeat' (first
    | with_reducible assumption | with_reducible apply keeps_serve | with_reducible apply hact | (intro _) | split
    | dsimp only [id_eq])

theorem keeps_blocked {b0 b1 b2 b3 b4 b5 : Bool} {u : State} (rq : Req) (s : State)
 (hk : Keeps ⟨b0, b1, b2, b3, b4, b5⟩ u s) :
    Keeps ⟨b0, b1, b2, b3, b4, b5⟩ u (blocked rq s) := by
  unfold blocked
  try dsimp only
  repeat' (first
    | with_reducible assumption | with_reducible apply keeps_bump | with_reducible apply keeps_complete
    | with_reducible apply keeps_raiseEvent | (intro _) | split | dsimp only [id_eq])

theorem keeps_doSyncAdd {b0 b3 b4 b5 : Bool} {u : State} (rq : Req) (s : State)
 (hk : Keeps ⟨b0, false, false, b3, b4, b5⟩ u s) :
    Keeps ⟨b0, false, false, b3, b4, b5⟩ u (doSyncAdd rq s) := by
  unfold doSyncAdd
  try dsimp only
  repeat' (first
    | with_reducible assumption | with_reducible apply keeps_applySignal | with_reducible apply keeps_blocked
    | with_reducible apply keeps_complete | (intro _) | split | dsimp only [id_eq])

theorem keeps_doSyncSet {b0 b3 b4 b5 : Bool} {u : State} (rq : Req) (s : State)
 (hk : Keeps ⟨b0, false, false, b3, b4, b5⟩ u s) :
    Keeps ⟨b0, false, false, b3, b4, b5⟩ u (doSyncSet rq s) := by
  unfold doSyncSet
  try dsimp only
  repeat' (first
    | with_reducible assumption | with_reducible apply keeps_applySignal | with_reducible apply keeps_blocked
    | with_reducible apply keeps_complete | (intro _) | split | dsimp only [id_eq])

theorem keeps_doSyncClaim {b0 b3 b4 b5 : Bool} {u : State} (rq : Req) (s : State)
 (hk : Keeps ⟨b0, false, false, b3, b4, b5⟩ u s) :
    Keeps ⟨b0, false, false, b3, b4, b5⟩ u (doSyncClaim rq s) := by
  unfold doSyncClaim
  try dsimp only
  repeat' (first
    | with_reducible assumption | with_reducible apply keeps_applySignal | with_reducible apply keeps_blocked
    | with_reducible apply keeps_complete | fail_if_no_progress with_reducible apply keeps_mk | (intro _) | split
    | dsimp only [id_eq])

theorem keeps_doSyncRelease {b0 b3 b4 b5 : Bool} {u : State} (rq : Req) (s : State)
 (hk : Keeps ⟨b0, false, false, b3, b4, b5⟩ u s) :
    Keeps ⟨b0, false, false, b3, b4, b5⟩ u (doSyncRelease rq s) := by
  unfold doSyncRelease
  try dsimp only
  repeat' (first
    | with_reducible assumption | with_reducible apply keeps_applySignal | with_reducible apply keeps_blocked
    | with_reducible apply keeps_complete | (intro _) | split | dsimp only [id_eq])

theorem keeps_doSyncCancel {b0 b1 b3 b4 b5 : Bool} {u : State} (rq : Req) (s : State)
 (hk : Keeps ⟨b0, b1, false, b3, b4, b5⟩ u s) :
    Keeps ⟨b0, b1, false, b3, b4, b5⟩ u (doSyncCancel rq s) := by
  unfold doSyncCancel
  try dsimp only
  repeat' (first
    | with_reducible assumption | with_reducible apply keeps_blocked | with_reducible apply keeps_complete
    | with_reducible apply keeps_setSync | fail_if_no_progress with_reducible apply keeps_mk | (intro _) | split
    | dsimp only [id_eq])

theorem keeps_doSync {b0 b3 b4 b5 : Bool} {u : State} (rq : Req) (s : State)
 (hk : Keeps ⟨b0, false, false, b3, b4, b5⟩ u s) :
    Keeps ⟨b0, false, false, b3, b4, b5⟩ u (doSync rq s) := by
  unfold doSync
  try dsimp only
  repeat' (first
    | with_reducible assumption | with_reducible apply keeps_doSyncAdd | with_reducible apply keeps_doSyncCancel
    | with_reducible apply keeps_doSyncClaim | with_reducible apply keeps_doSyncRelease
    | with_reducible apply keeps_doSyncSet | fail_if_no_progress with_reducible apply keeps_mk | (intro _) | split
    | dsimp only [id_eq])

theorem keeps_execSyncAdd {b0 b3 b4 b5 : Bool} {u : State} (h : Hdr) (body : ℕ) (s : State)
 (hk : Keeps ⟨b0, false, false, b3, b4, b5⟩ u s) :
    ∀ t, execSyncAdd h body s = .next t → Keeps ⟨b0, false, false, b3, b4, b5⟩ u t := by
  intro t e
  unfold execSyncAdd at e
  cases e
  repeat' (first
    | with_reducible assumption | with_reducible apply keeps_doSyncAdd | with_reducible apply keeps_serveSync | (intro _)
    | split | dsimp only [id_eq])

theorem keeps_execSyncSet {b0 b3 b4 b5 : Bool} {u : State} (h : Hdr) (body : ℕ) (s : State)
 (hk : Keeps ⟨b0, false, false, b3, b4, b5⟩ u s) :
    ∀ t, execSyncSet h body s = .next t → Keeps ⟨b0, false, false, b3, b4, b5⟩ u t := by
  intro t e
  unfold execSyncSet at e
  cases e
  repeat' (first
    | with_reducible assumption | with_reducible apply keeps_doSyncSet | with_reducible apply keeps_serveSync | (intro _)
    | split | dsimp only [id_eq])

theorem keeps_execSyncClaim {b0 b3 b4 b5 : Bool} {u : State} (h : Hdr) (body : ℕ) (s : State)
 (hk : Keeps ⟨b0, false, false, b3, b4, b5⟩ u s) :
    ∀ t, execSyncClaim h body s = .next t → Keeps ⟨b0, false, false, b3, b4, b5⟩ u t := by
  intro t e
  unfold execSyncClaim at e
  cases e
  repeat' (first
    | with_reducible assumption | with_reducible apply keeps_doSyncClaim | with_reducible apply keeps_serveSync
    | (intro _) | split | dsimp only [id_eq])

theorem keeps_execSyncRelease {b0 b3 b4 b5 : Bool} {u : State} (h : Hdr) (body : ℕ) (s : State)
 (hk : Keeps ⟨b0, false, false, b3, b4, b5⟩ u s) :
    ∀ t, execSyncRelease h body s = .next t → Keeps ⟨b0, false, false, b3, b4, b5⟩ u t := by
  intro t e
  unfold execSyncRelease at e
  cases e
  repeat' (first
    | with_reducible assumption | with_reducible apply keeps_doSyncRelease | with_reducible apply keeps_serveSync
    | (intro _) | split | dsimp only [id_eq])

theorem keeps_execSyncCancel {b0 b1 b3 b4 b5 : Bool} {u : State} (h : Hdr) (body : ℕ) (s : State)
 (hk : Keeps ⟨b0, b1, false, b3, b4, b5⟩ u s) :
    ∀ t, execSyncCancel h body s = .next t → Keeps ⟨b0, b1, false, b3, b4, b5⟩ u t := by
  intro t e
  unfold execSyncCancel at e
  cases e
  repeat' (first
    | with_reducible assumption | with_reducible apply keeps_doSyncCancel | with_reducible apply keeps_serveSync
    | (intro _) | split | dsimp only [id_eq])

theorem keeps_doWait {b0 b1 b3 b4 b5 : Bool} {u : State} (rq : Req) (s : State)
 (hk : Keeps ⟨b0, b1, false, b3, b4, b5⟩ u s) :
    Keeps ⟨b0, b1, false, b3, b4, b5⟩ u (doWait rq s) := by
  unfold doWait
  try dsimp only
  repeat' (first
    | with_reducible assumption | with_reducible apply keeps_blocked | with_reducible apply keeps_bump
    | with_reducible apply keeps_complete | with_reducible apply keeps_deferReq | with_reducible apply keeps_setSync
    | fail_if_no_progress with_reducible apply keeps_mk | (intro _) | split | dsimp only [id_eq])

theorem keeps_execWait {b0 b1 b3 b4 b5 : Bool} {u : State} (h : Hdr) (body : ℕ) (s : State)
 (hk : Keeps ⟨b0, b1, false, b3, b4, b5⟩ u s) :
    ∀ t, execWait h body s = .next t → Keeps ⟨b0, b1, false, b3, b4, b5⟩ u t := by
  intro t e
  unfold execWait at e
  cases e
  repeat' (first
    | with_reducible assumption | with_reducible apply keeps_doWait | with_reducible apply keeps_serve | (intro _) | split
    | dsimp only [id_eq])

theorem keeps_execCommandSignal {b0 b3 b4 b5 : Bool} {u : State} (acc : ℕ) (s : State)
 (hk : Keeps ⟨b0, false, false, b3, b4, b5⟩ u s) :
    ∀ t, execCommandSignal acc s = .next t → Keeps ⟨b0, false, false, b3, b4, b5⟩ u t := by
  intro t e
  unfold execCommandSignal at e
  cases e
  repeat' (first
    | with_reducible assumption | with_reducible apply keeps_settleOwed | with_reducible apply keeps_wake
    | fail_if_no_progress with_reducible apply keeps_mk | (intro _) | split | dsimp only [id_eq])

theorem keeps_execNotificationTimeout {b0 b1 b2 b3 b4 b5 : Bool} {u : State} (object : ℕ) (s : State)
 (hk : Keeps ⟨b0, b1, b2, b3, b4, b5⟩ u s) :
    ∀ t, execNotificationTimeout object s = .next t → Keeps ⟨b0, b1, b2, b3, b4, b5⟩ u t := by
  intro t e
  unfold execNotificationTimeout at e
  cases e
  repeat' (first
    | with_reducible assumption | with_reducible apply keeps_notifyFailed
    | fail_if_no_progress with_reducible apply keeps_mk | (intro _) | split | dsimp only [id_eq])

theorem keeps_takeUp {b1 b2 b3 b4 b5 : Bool} {u : State} (g : ℕ) (s : State)
 (hk : Keeps ⟨false, b1, b2, b3, b4, b5⟩ u s) :
    Keeps ⟨false, b1, b2, b3, b4, b5⟩ u (takeUp g s) := by
  unfold takeUp
  try dsimp only
  repeat' (first
    | with_reducible assumption | with_reducible apply keeps_setObj | fail_if_no_progress with_reducible apply keeps_mk
    | fail_if_no_progress with_reducible apply keeps_mk_custody | (intro _) | split | dsimp only [id_eq])

theorem keeps_countVotes {b0 b1 b2 b3 b4 b5 : Bool} {u : State} (s : State) (hk : Keeps ⟨b0, b1, b2, b3, b4, b5⟩ u s) :
    Keeps ⟨b0, b1, b2, b3, b4, b5⟩ u (countVotes s) := by
  unfold countVotes
  try dsimp only
  repeat' (first
    | with_reducible assumption | with_reducible apply keeps_setObj | (intro _) | split | dsimp only [id_eq])

theorem keeps_nextGeneration {b1 b2 b3 b4 b5 : Bool} {u : State} (s : State)
 (hk : Keeps ⟨false, b1, b2, b3, b4, b5⟩ u s) :
    Keeps ⟨false, b1, b2, b3, b4, b5⟩ u (nextGeneration s) := by
  unfold nextGeneration
  try dsimp only
  repeat' (first
    | with_reducible assumption | with_reducible apply keeps_countVotes | with_reducible apply keeps_takeUp
    | with_reducible apply keeps_tellMembers | (intro _) | split | dsimp only [id_eq])

theorem keeps_doForm {b1 b2 b3 b5 : Bool} {u : State} (answers : List MemberAnswer) (c : Ctx) (s : State)
 (hk : Keeps ⟨false, b1, b2, b3, false, b5⟩ u s) :
    Keeps ⟨false, b1, b2, b3, false, b5⟩ u (doForm answers c s) := by
  unfold doForm
  try dsimp only
  repeat' (first
    | with_reducible assumption | with_reducible apply keeps_drawRanges | with_reducible apply keeps_fin
    | with_reducible apply keeps_finOk | with_reducible apply keeps_nextGeneration | with_reducible apply keeps_raiseEvent
    | with_reducible apply keeps_setObj | with_reducible apply keeps_tellMembers
    | fail_if_no_progress with_reducible apply keeps_mk | fail_if_no_progress with_reducible apply keeps_mk_tables
    | (intro _) | split | dsimp only [id_eq])

theorem keeps_dissolve {b0 b1 b2 b3 b4 b5 : Bool} {u : State} (s : State) (hk : Keeps ⟨b0, b1, b2, b3, b4, b5⟩ u s) :
    Keeps ⟨b0, b1, b2, b3, b4, b5⟩ u (dissolve s) := by
  unfold dissolve
  try dsimp only
  repeat' (first
    | with_reducible assumption | with_reducible apply keeps_recallAll | with_reducible apply keeps_settleDissolve
    | fail_if_no_progress with_reducible apply keeps_mk | (intro _) | split | dsimp only [id_eq])

theorem keeps_doDomainForm {b1 b2 b3 b5 : Bool} {u : State} (answers : List MemberAnswer) (c : Ctx) (s : State)
 (hk : Keeps ⟨false, b1, b2, b3, false, b5⟩ u s) :
    Keeps ⟨false, b1, b2, b3, false, b5⟩ u (doDomainForm answers c s) := by
  unfold doDomainForm
  try dsimp only
  repeat' (first
    | with_reducible assumption | with_reducible apply keeps_dissolve | with_reducible apply keeps_doForm
    | with_reducible apply keeps_finBad | with_reducible apply keeps_tellMembers | (intro _) | split | dsimp only [id_eq])

theorem keeps_execDomainForm {b1 b2 b3 b5 : Bool} {u : State} (d : DapMsg) (answers : List MemberAnswer) (s : State)
 (hk : Keeps ⟨false, b1, b2, b3, false, b5⟩ u s) :
    ∀ t, execDomainForm d answers s = .next t → Keeps ⟨false, b1, b2, b3, false, b5⟩ u t := by
  intro t e
  unfold execDomainForm at e
  cases e
  repeat' (first
    | with_reducible assumption | with_reducible apply keeps_dapServe | with_reducible apply keeps_doDomainForm
    | (intro _) | split | dsimp only [id_eq])

theorem keeps_execDomainFormTimeout {b0 b1 b2 b3 b4 b5 : Bool} {u : State} (s : State)
 (hk : Keeps ⟨b0, b1, b2, b3, b4, b5⟩ u s) :
    ∀ t, execDomainFormTimeout s = .next t → Keeps ⟨b0, b1, b2, b3, b4, b5⟩ u t := by
  intro t e
  unfold execDomainFormTimeout at e
  cases e
  repeat' (first
    | with_reducible assumption | with_reducible apply keeps_dapFinishKey | with_reducible apply keeps_setObj
    | with_reducible apply keeps_tellMembers | (intro _) | split | dsimp only [id_eq])

theorem keeps_execDomainDissolve {b1 b2 b3 b5 : Bool} {u : State} (d : DapMsg) (s : State)
 (hk : Keeps ⟨false, b1, b2, b3, false, b5⟩ u s) :
    ∀ t, execDomainDissolve d s = .next t → Keeps ⟨false, b1, b2, b3, false, b5⟩ u t := by
  intro t e
  unfold execDomainDissolve at e
  cases e
  repeat' (first
    | with_reducible assumption | with_reducible apply keeps_dapServe | with_reducible apply keeps_doDomainForm
    | (intro _) | split | dsimp only [id_eq])

theorem keeps_agentDies {b0 b2 b3 b4 b5 : Bool} {u : State} (a : ℕ) (s : State)
 (hk : Keeps ⟨b0, false, b2, b3, b4, b5⟩ u s) :
    Keeps ⟨b0, false, b2, b3, b4, b5⟩ u (agentDies a s) := by
  unfold agentDies
  try dsimp only
  repeat' (first
    | with_reducible assumption | with_reducible apply keeps_bump | with_reducible apply keeps_dropDir
    | with_reducible apply keeps_setDir | with_reducible apply keeps_writePoison
    | fail_if_no_progress with_reducible apply keeps_mk | with_reducible apply keeps_foldl
    | with_reducible apply keeps_foldl_snd | (intro _) | split | dsimp only [id_eq])

theorem keeps_takeDead {b0 b2 b3 b4 b5 : Bool} {u : State} (a : ℕ) (s : State)
 (hk : Keeps ⟨b0, false, b2, b3, b4, b5⟩ u s) :
    Keeps ⟨b0, false, b2, b3, b4, b5⟩ u (takeDead a s) := by
  unfold takeDead
  try dsimp only
  repeat' (first
    | with_reducible assumption | with_reducible apply keeps_agentDies | with_reducible apply keeps_raiseEvent
    | with_reducible apply keeps_setAgentState | (intro _) | split | dsimp only [id_eq])

theorem keeps_declareDead {b2 b3 b4 b5 : Bool} {u : State} (a : ℕ) (s : State)
 (hk : Keeps ⟨false, false, b2, b3, b4, b5⟩ u s) :
    Keeps ⟨false, false, b2, b3, b4, b5⟩ u (declareDead a s) := by
  unfold declareDead
  try dsimp only
  repeat' (first
    | with_reducible assumption | with_reducible apply keeps_nextGeneration | with_reducible apply keeps_takeDead
    | with_reducible apply keeps_tellMembers | (intro _) | split | dsimp only [id_eq])

theorem keeps_degradeTied {b0 b2 b3 b4 b5 : Bool} {u : State} (p : ℕ) (s : State)
 (hk : Keeps ⟨b0, false, b2, b3, b4, b5⟩ u s) :
    Keeps ⟨b0, false, b2, b3, b4, b5⟩ u (degradeTied p s) := by
  unfold degradeTied
  try dsimp only
  repeat' (first
    | with_reducible assumption | with_reducible apply keeps_degrade | with_reducible apply keeps_settle
    | with_reducible apply keeps_foldl | with_reducible apply keeps_foldl_snd | (intro _) | split | dsimp only [id_eq])

theorem keeps_takeObject {b0 b2 b3 b4 b5 : Bool} {u : State} (e : ℕ × ℕ) (s : State)
 (hk : Keeps ⟨b0, false, b2, b3, b4, b5⟩ u s) :
    Keeps ⟨b0, false, b2, b3, b4, b5⟩ u (takeObject e s) := by
  unfold takeObject
  try dsimp only
  repeat' (first
    | with_reducible assumption | with_reducible apply keeps_degradeTied | with_reducible apply keeps_setObj | (intro _)
    | split | dsimp only [id_eq])

theorem keeps_takeObjects {b0 b2 b3 b4 b5 : Bool} {u : State} (joins : Bool) (os : List (ℕ × ℕ)) (s : State)
 (hk : Keeps ⟨b0, false, b2, b3, b4, b5⟩ u s) :
    Keeps ⟨b0, false, b2, b3, b4, b5⟩ u (takeObjects joins os s) := by
  unfold takeObjects
  try dsimp only
  repeat' (first
    | with_reducible assumption | with_reducible apply keeps_takeObject | with_reducible apply keeps_foldl
    | with_reducible apply keeps_foldl_snd | (intro _) | split | dsimp only [id_eq])

theorem keeps_takePartners {b0 b1 b2 b3 b4 b5 : Bool} {u : State} (ps : List (ℕ × ℕ)) (s : State)
 (hk : Keeps ⟨b0, b1, b2, b3, b4, b5⟩ u s) :
    Keeps ⟨b0, b1, b2, b3, b4, b5⟩ u (takePartners ps s) := by
  unfold takePartners
  try dsimp only
  repeat' (first
    | with_reducible assumption | fail_if_no_progress with_reducible apply keeps_mk | with_reducible apply keeps_foldl
    | with_reducible apply keeps_foldl_snd | (intro _) | split | dsimp only [id_eq])

theorem keeps_loseExtent {b0 b2 b3 b4 b5 : Bool} {u : State} (ext : ℕ) (s : State)
 (hk : Keeps ⟨b0, false, b2, b3, b4, b5⟩ u s) :
    Keeps ⟨b0, false, b2, b3, b4, b5⟩ u (loseExtent ext s) := by
  unfold loseExtent
  try dsimp only
  repeat' (first
    | with_reducible assumption | with_reducible apply keeps_bump | with_reducible apply keeps_makeZero
    | with_reducible apply keeps_placeLost | (intro _) | split | dsimp only [id_eq])

theorem keeps_startUnrebuilt {b0 b2 b3 b4 b5 : Bool} {u : State} (ext : ℕ) (s : State)
 (hk : Keeps ⟨b0, false, b2, b3, b4, b5⟩ u s) :
    Keeps ⟨b0, false, b2, b3, b4, b5⟩ u (startUnrebuilt ext s) := by
  unfold startUnrebuilt
  try dsimp only
  repeat' (first
    | with_reducible assumption | with_reducible apply keeps_makeNear | with_reducible apply keeps_makeZero
    | with_reducible apply keeps_placePoisoned | fail_if_no_progress with_reducible apply keeps_mk | (intro _) | split
    | dsimp only [id_eq])

theorem keeps_joinObject {b0 b2 b3 b4 b5 : Bool} {u : State} (rebuild : Bool) (e : ℕ × ℕ × List ℕ) (s : State)
 (hk : Keeps ⟨b0, false, b2, b3, b4, b5⟩ u s) :
    Keeps ⟨b0, false, b2, b3, b4, b5⟩ u (joinObject rebuild e s) := by
  unfold joinObject
  try dsimp only
  repeat' (first
    | with_reducible assumption | with_reducible apply keeps_loseExtent | with_reducible apply keeps_startUnrebuilt
    | fail_if_no_progress with_reducible apply keeps_mk | with_reducible apply keeps_foldl
    | with_reducible apply keeps_foldl_snd | (intro _) | split | dsimp only [id_eq])

theorem keeps_joinDomain {b2 b3 b5 : Bool} {u : State} (g : ℕ) (news : DomainNews) (j : Joining) (s : State)
 (hk : Keeps ⟨false, false, b2, b3, false, b5⟩ u s) :
    Keeps ⟨false, false, b2, b3, false, b5⟩ u (joinDomain g news j s) := by
  unfold joinDomain
  try dsimp only
  repeat' (first
    | with_reducible assumption | with_reducible apply keeps_countVotes | with_reducible apply keeps_joinObject
    | with_reducible apply keeps_setObj | with_reducible apply keeps_takeObjects | with_reducible apply keeps_takeUp
    | fail_if_no_progress with_reducible apply keeps_mk | fail_if_no_progress with_reducible apply keeps_mk_tables
    | with_reducible apply keeps_foldl | with_reducible apply keeps_foldl_snd | (intro _) | split | dsimp only [id_eq])

theorem keeps_execGenerationTakeUp {b2 b3 b5 : Bool} {u : State} (generation : ℕ)
 (news : DomainNews) (s : State) (hk : Keeps ⟨false, false, b2, b3, false, b5⟩ u s) :
    ∀ t, execGenerationTakeUp generation news s = .next t → Keeps ⟨false, false, b2, b3, false, b5⟩ u t := by
  intro t e
  unfold execGenerationTakeUp at e
  cases e
  repeat' (first
    | with_reducible assumption | with_reducible apply keeps_countVotes | with_reducible apply keeps_joinDomain
    | with_reducible apply keeps_takeDead | with_reducible apply keeps_takeObjects
    | with_reducible apply keeps_takePartners | with_reducible apply keeps_takeUp
    | fail_if_no_progress with_reducible apply keeps_mk | fail_if_no_progress with_reducible apply keeps_mk_tables
    | with_reducible apply keeps_foldl | with_reducible apply keeps_foldl_snd | (intro _) | split | dsimp only [id_eq])

theorem keeps_doAgentEntry {b2 b3 b4 b5 : Bool} {u : State} (c : Ctx) (s : State)
 (hk : Keeps ⟨false, false, b2, b3, b4, b5⟩ u s) :
    Keeps ⟨false, false, b2, b3, b4, b5⟩ u (doAgentEntry c s) := by
  unfold doAgentEntry
  try dsimp only
  repeat' (first
    | with_reducible assumption | with_reducible apply keeps_applied | with_reducible apply keeps_declareDead
    | with_reducible apply keeps_fin | with_reducible apply keeps_finBad | with_reducible apply keeps_setAgentState
    | with_reducible apply keeps_setObj | with_reducible apply keeps_tellMembers | (intro _) | split | dsimp only [id_eq])

theorem keeps_serveAgent {b2 b3 b4 b5 : Bool} {u : State} (d : DapMsg) (s : State)
 (hk : Keeps ⟨false, false, b2, b3, b4, b5⟩ u s) :
    Keeps ⟨false, false, b2, b3, b4, b5⟩ u (serveAgent d s) := by
  unfold serveAgent
  try dsimp only
  repeat' (first
    | with_reducible assumption | with_reducible apply keeps_dapServe | with_reducible apply keeps_doAgentEntry
    | (intro _) | split | dsimp only [id_eq])

theorem keeps_execDeclareAgentDead {b2 b3 b4 b5 : Bool} {u : State} (d : DapMsg) (s : State)
 (hk : Keeps ⟨false, false, b2, b3, b4, b5⟩ u s) :
    ∀ t, execDeclareAgentDead d s = .next t → Keeps ⟨false, false, b2, b3, b4, b5⟩ u t := by
  intro t e
  unfold execDeclareAgentDead at e
  cases e
  repeat' (first
    | with_reducible assumption | with_reducible apply keeps_serveAgent | (intro _) | split | dsimp only [id_eq])

theorem keeps_execAgentReactivate {b2 b3 b4 b5 : Bool} {u : State} (d : DapMsg) (s : State)
 (hk : Keeps ⟨false, false, b2, b3, b4, b5⟩ u s) :
    ∀ t, execAgentReactivate d s = .next t → Keeps ⟨false, false, b2, b3, b4, b5⟩ u t := by
  intro t e
  unfold execAgentReactivate at e
  cases e
  repeat' (first
    | with_reducible assumption | with_reducible apply keeps_serveAgent | (intro _) | split | dsimp only [id_eq])

theorem keeps_execAgentEntryWrite {b2 b3 b4 b5 : Bool} {u : State} (d : DapMsg) (s : State)
 (hk : Keeps ⟨false, false, b2, b3, b4, b5⟩ u s) :
    ∀ t, execAgentEntryWrite d s = .next t → Keeps ⟨false, false, b2, b3, b4, b5⟩ u t := by
  intro t e
  unfold execAgentEntryWrite at e
  cases e
  repeat' (first
    | with_reducible assumption | with_reducible apply keeps_serveAgent | (intro _) | split | dsimp only [id_eq])

theorem keeps_doDataSource {b1 b2 b3 b4 b5 : Bool} {u : State} (c : Ctx) (s : State)
 (hk : Keeps ⟨false, b1, b2, b3, b4, b5⟩ u s) :
    Keeps ⟨false, b1, b2, b3, b4, b5⟩ u (doDataSource c s) := by
  unfold doDataSource
  try dsimp only
  repeat' (first
    | with_reducible assumption | with_reducible apply keeps_applied | with_reducible apply keeps_finBad
    | with_reducible apply keeps_nextGeneration | with_reducible apply keeps_setObj
    | with_reducible apply keeps_tellMembers | (intro _) | split | dsimp only [id_eq])

theorem keeps_execDataSourceWrite {b1 b2 b3 b4 b5 : Bool} {u : State} (d : DapMsg) (s : State)
 (hk : Keeps ⟨false, b1, b2, b3, b4, b5⟩ u s) :
    ∀ t, execDataSourceWrite d s = .next t → Keeps ⟨false, b1, b2, b3, b4, b5⟩ u t := by
  intro t e
  unfold execDataSourceWrite at e
  cases e
  repeat' (first
    | with_reducible assumption | with_reducible apply keeps_dapServe | with_reducible apply keeps_doDataSource
    | (intro _) | split | dsimp only [id_eq])

theorem keeps_doMasterConfirm {b1 b2 b3 b4 b5 : Bool} {u : State} (c : Ctx) (s : State)
 (hk : Keeps ⟨false, b1, b2, b3, b4, b5⟩ u s) :
    Keeps ⟨false, b1, b2, b3, b4, b5⟩ u (doMasterConfirm c s) := by
  unfold doMasterConfirm
  try dsimp only
  repeat' (first
    | with_reducible assumption | with_reducible apply keeps_applied | with_reducible apply keeps_finBad
    | with_reducible apply keeps_setObj | (intro _) | split | dsimp only [id_eq])

theorem keeps_execMasterConfirmWrite {b1 b2 b3 b4 b5 : Bool} {u : State} (d : DapMsg) (s : State)
 (hk : Keeps ⟨false, b1, b2, b3, b4, b5⟩ u s) :
    ∀ t, execMasterConfirmWrite d s = .next t → Keeps ⟨false, b1, b2, b3, b4, b5⟩ u t := by
  intro t e
  unfold execMasterConfirmWrite at e
  cases e
  repeat' (first
    | with_reducible assumption | with_reducible apply keeps_dapServe | with_reducible apply keeps_doMasterConfirm
    | (intro _) | split | dsimp only [id_eq])

theorem keeps_scanTenant {b0 b1 b2 b3 b4 : Bool} {u : State} (at_ : State) (t : ℕ) (s : State)
 (hk : Keeps ⟨b0, b1, b2, b3, b4, false⟩ u s) :
    Keeps ⟨b0, b1, b2, b3, b4, false⟩ u (scanTenant at_ s t) := by
  unfold scanTenant
  try dsimp only
  repeat' (first
    | with_reducible assumption | with_reducible apply keeps_bump | with_reducible apply keeps_raiseEvent
    | with_reducible apply keeps_setObj | fail_if_no_progress with_reducible apply keeps_mk
    | fail_if_no_progress with_reducible apply keeps_mk_maps | (intro _) | split | dsimp only [id_eq])

theorem keeps_doDeadlockScan {b0 b1 b3 b4 : Bool} {u : State} (s : State)
 (hk : Keeps ⟨b0, b1, false, b3, b4, false⟩ u s) :
    Keeps ⟨b0, b1, false, b3, b4, false⟩ u (doDeadlockScan s) := by
  unfold doDeadlockScan
  try dsimp only
  repeat' (first
    | with_reducible assumption | with_reducible apply keeps_scanTenant
    | fail_if_no_progress with_reducible apply keeps_mk | fail_if_no_progress with_reducible apply keeps_mk_sync
    | with_reducible apply keeps_foldl | with_reducible apply keeps_foldl_snd | (intro _) | split | dsimp only [id_eq])

theorem keeps_execDeadlockScan {b0 b1 b3 b4 : Bool} {u : State} (s : State)
 (hk : Keeps ⟨b0, b1, false, b3, b4, false⟩ u s) :
    ∀ t, execDeadlockScan s = .next t → Keeps ⟨b0, b1, false, b3, b4, false⟩ u t := by
  intro t e
  unfold execDeadlockScan at e
  cases e
  repeat' (first
    | with_reducible assumption | with_reducible apply keeps_doDeadlockScan | (intro _) | split | dsimp only [id_eq])

theorem keeps_doSyncView {b0 b1 b2 b3 b4 b5 : Bool} {u : State} (c : Ctx) (s : State)
 (hk : Keeps ⟨b0, b1, b2, b3, b4, b5⟩ u s) :
    Keeps ⟨b0, b1, b2, b3, b4, b5⟩ u (doSyncView c s) := by
  unfold doSyncView
  try dsimp only
  repeat' (first
    | with_reducible assumption | with_reducible apply keeps_fin | with_reducible apply keeps_readDomain | (intro _)
    | split | dsimp only [id_eq])

theorem keeps_execSyncViewRead {b0 b1 b2 b3 b4 b5 : Bool} {u : State} (d : DapMsg) (s : State)
 (hk : Keeps ⟨b0, b1, b2, b3, b4, b5⟩ u s) :
    ∀ t, execSyncViewRead d s = .next t → Keeps ⟨b0, b1, b2, b3, b4, b5⟩ u t := by
  intro t e
  unfold execSyncViewRead at e
  cases e
  repeat' (first
    | with_reducible assumption | with_reducible apply keeps_dapServe | with_reducible apply keeps_doSyncView | (intro _)
    | split | dsimp only [id_eq])

theorem keeps_execSyncCountersClear {b1 b2 b3 b4 b5 : Bool} {u : State} (d : DapMsg) (s : State)
 (hk : Keeps ⟨false, b1, b2, b3, b4, b5⟩ u s) :
    ∀ t, execSyncCountersClear d s = .next t → Keeps ⟨false, b1, b2, b3, b4, b5⟩ u t := by
  intro t e
  unfold execSyncCountersClear at e
  cases e
  repeat' (first
    | with_reducible assumption | with_reducible apply keeps_clearObj | with_reducible apply keeps_clearObjs | (intro _)
    | split | dsimp only [id_eq])

theorem keeps_after {b0 b1 b2 b3 b4 b5 : Bool} {u : State} (s : State) (o : Host.Outcome State Fault Refusal)
 (h : ∀ t, o = .next t → Keeps ⟨b0, b1, b2, b3, b4, b5⟩ u t)
    (hk : Keeps ⟨b0, b1, b2, b3, b4, b5⟩ u s) : Keeps ⟨b0, b1, b2, b3, b4, b5⟩ u (after s o) := by
  unfold after
  split
  · exact h _ rfl
  · exact hk

theorem keeps_performSync {b0 b3 b4 b5 : Bool} {u : State} (h : Hdr) (body : ℕ) (s : State)
 (hk : Keeps ⟨b0, false, false, b3, b4, b5⟩ u s) :
    ∀ t, performSync h body s = .next t → Keeps ⟨b0, false, false, b3, b4, b5⟩ u t := by
  intro t e
  unfold performSync at e
  try dsimp only at e
  repeat' split at e
  repeat' (first
    | with_reducible assumption | with_reducible refine keeps_execSyncAdd _ _ _ ?_ _ (by assumption)
    | with_reducible refine keeps_execSyncCancel _ _ _ ?_ _ (by assumption)
    | with_reducible refine keeps_execSyncClaim _ _ _ ?_ _ (by assumption)
    | with_reducible refine keeps_execSyncRelease _ _ _ ?_ _ (by assumption)
    | with_reducible refine keeps_execSyncSet _ _ _ ?_ _ (by assumption)
    | fail_if_no_progress with_reducible apply keeps_mk | (intro _) | split | dsimp only [id_eq])

theorem keeps_performAttn {b0 b2 b5 : Bool} {u : State} (h : Hdr) (body : ℕ) (s : State)
 (hk : Keeps ⟨b0, false, b2, false, false, b5⟩ u s) :
    ∀ t, performAttn h body s = .next t → Keeps ⟨b0, false, b2, false, false, b5⟩ u t := by
  intro t e
  unfold performAttn at e
  try dsimp only at e
  repeat' split at e
  repeat' (first
    | with_reducible assumption | with_reducible refine keeps_execAppend _ _ _ ?_ _ (by assumption)
    | with_reducible refine keeps_execArenaActivate _ _ _ ?_ _ (by assumption)
    | with_reducible refine keeps_execArenaDeactivate _ _ _ ?_ _ (by assumption)
    | with_reducible refine keeps_execAttend _ _ _ ?_ _ (by assumption)
    | with_reducible refine keeps_execCommit _ _ _ ?_ _ (by assumption)
    | with_reducible refine keeps_execDiscard _ _ _ ?_ _ (by assumption)
    | fail_if_no_progress with_reducible apply keeps_mk | (intro _) | split | dsimp only [id_eq])

theorem keeps_performOryx {b0 b1 b2 b3 b5 : Bool} {u : State} (h : Hdr) (body : ℕ) (s : State)
 (hk : Keeps ⟨b0, b1, b2, b3, false, b5⟩ u s) :
    ∀ t, performOryx h body s = .next t → Keeps ⟨b0, b1, b2, b3, false, b5⟩ u t := by
  intro t e
  unfold performOryx at e
  try dsimp only at e
  repeat' split at e
  repeat' (first
    | with_reducible assumption | with_reducible refine keeps_execGather _ _ _ ?_ _ (by assumption)
    | with_reducible refine keeps_execOryxDelete _ _ _ ?_ _ (by assumption)
    | with_reducible refine keeps_execPool _ _ _ ?_ _ (by assumption)
    | with_reducible refine keeps_execScatter _ _ _ ?_ _ (by assumption)
    | with_reducible refine keeps_execTableActivate _ _ _ ?_ _ (by assumption)
    | with_reducible refine keeps_execTableDeactivate _ _ _ ?_ _ (by assumption)
    | with_reducible refine keeps_execTableReplace _ _ _ ?_ _ (by assumption)
    | with_reducible refine keeps_execUpdate _ _ _ ?_ _ (by assumption)
    | fail_if_no_progress with_reducible apply keeps_mk | (intro _) | split | dsimp only [id_eq])

theorem keeps_performSearch {b0 b3 b5 : Bool} {u : State} (h : Hdr) (body : ℕ) (s : State)
 (hk : Keeps ⟨b0, false, false, b3, false, b5⟩ u s) :
    ∀ t, performSearch h body s = .next t → Keeps ⟨b0, false, false, b3, false, b5⟩ u t := by
  intro t e
  unfold performSearch at e
  try dsimp only at e
  repeat' split at e
  repeat' (first
    | with_reducible assumption | with_reducible refine keeps_execIndexActivate _ _ _ ?_ _ (by assumption)
    | with_reducible refine keeps_execIndexDeactivate _ _ _ ?_ _ (by assumption)
    | with_reducible refine keeps_execIndexMerge _ _ _ ?_ _ (by assumption)
    | with_reducible refine keeps_execInsert _ _ _ ?_ _ (by assumption)
    | with_reducible refine keeps_execQuery _ _ _ ?_ _ (by assumption)
    | with_reducible refine keeps_execSearchDelete _ _ _ ?_ _ (by assumption)
    | fail_if_no_progress with_reducible apply keeps_mk | (intro _) | split | dsimp only [id_eq])

theorem keeps_performCfg {b0 b2 b4 b5 : Bool} {u : State} (h : Hdr) (body : ℕ) (s : State)
 (hk : Keeps ⟨b0, false, b2, false, b4, b5⟩ u s) :
    ∀ t, performCfg h body s = .next t → Keeps ⟨b0, false, b2, false, b4, b5⟩ u t := by
  intro t e
  unfold performCfg at e
  try dsimp only at e
  repeat' split at e
  repeat' (first
    | with_reducible assumption | with_reducible refine keeps_execConfigRetire _ _ _ ?_ _ (by assumption)
    | with_reducible refine keeps_execLoad _ _ _ ?_ _ (by assumption)
    | with_reducible refine keeps_execRegister _ _ _ ?_ _ (by assumption)
    | with_reducible refine keeps_execUnbind _ _ _ ?_ _ (by assumption)
    | fail_if_no_progress with_reducible apply keeps_mk | (intro _) | split | dsimp only [id_eq])

theorem keeps_performPlace {b0 b1 b2 b3 b4 b5 : Bool} {u : State} (h : Hdr) (body : ℕ) (s : State)
 (hk : Keeps ⟨b0, b1, b2, b3, b4, b5⟩ u s) :
    ∀ t, performPlace h body s = .next t → Keeps ⟨b0, b1, b2, b3, b4, b5⟩ u t := by
  intro t e
  unfold performPlace at e
  try dsimp only at e
  repeat' split at e
  repeat' (first
    | with_reducible assumption | with_reducible refine keeps_execMigrate _ _ _ ?_ _ (by assumption)
    | with_reducible refine keeps_execObjectActivate _ _ _ ?_ _ (by assumption)
    | with_reducible refine keeps_execObjectDeactivate _ _ _ ?_ _ (by assumption)
    | with_reducible refine keeps_execSetPolicy _ _ _ ?_ _ (by assumption)
    | with_reducible refine keeps_execShadowRegister _ _ _ ?_ _ (by assumption)
    | with_reducible refine keeps_execShadowRetire _ _ _ ?_ _ (by assumption)
    | with_reducible refine keeps_execShadowValidate _ _ _ ?_ _ (by assumption)
    | fail_if_no_progress with_reducible apply keeps_mk | (intro _) | split | dsimp only [id_eq])

theorem keeps_performStream {b0 b2 b3 b5 : Bool} {u : State} (h : Hdr) (body : ℕ) (s : State)
 (hk : Keeps ⟨b0, false, b2, b3, false, b5⟩ u s) :
    ∀ t, performStream h body s = .next t → Keeps ⟨b0, false, b2, b3, false, b5⟩ u t := by
  intro t e
  unfold performStream at e
  try dsimp only at e
  repeat' split at e
  repeat' (first
    | with_reducible assumption | with_reducible refine keeps_execStreamRead _ _ _ ?_ _ (by assumption)
    | with_reducible refine keeps_execTableInstall _ _ _ ?_ _ (by assumption)
    | with_reducible refine keeps_execTableSlotRetire _ _ _ ?_ _ (by assumption)
    | fail_if_no_progress with_reducible apply keeps_mk | (intro _) | split | dsimp only [id_eq])

theorem keeps_performCompose {b0 b1 b2 b3 b4 b5 : Bool} {u : State} (h : Hdr) (body : ℕ) (s : State)
 (hk : Keeps ⟨b0, b1, b2, b3, b4, b5⟩ u s) :
    ∀ t, performCompose h body s = .next t → Keeps ⟨b0, b1, b2, b3, b4, b5⟩ u t := by
  intro t e
  unfold performCompose at e
  try dsimp only at e
  repeat' split at e
  repeat' (first
    | with_reducible assumption | with_reducible refine keeps_execComposeAdvance _ _ _ ?_ _ (by assumption)
    | with_reducible refine keeps_execComposeRemoveEntry _ _ _ ?_ _ (by assumption)
    | with_reducible refine keeps_execComposeSetEntry _ _ _ ?_ _ (by assumption)
    | fail_if_no_progress with_reducible apply keeps_mk | (intro _) | split | dsimp only [id_eq])

theorem keeps_performOpcode {b0 : Bool} {u : State} (op : Nat) (h : Hdr) (body data : Nat) (s : State)
 (hk : Keeps ⟨b0, false, false, false, false, false⟩ u s) :
    Keeps ⟨b0, false, false, false, false, false⟩ u (performOpcode op h body data s) := by
  unfold performOpcode
  refine keeps_after _ _ (fun t e => ?_) hk
  repeat' split at e
  all_goals first
    | with_reducible exact keeps_execAtomic _ _ _ hk _ e
    | with_reducible exact keeps_execDmaCopy _ _ _ hk _ e
    | with_reducible exact keeps_execDoorbell _ _ _ hk _ e
    | with_reducible exact keeps_execEvictClean _ _ hk _ e
    | with_reducible exact keeps_execFlush _ _ _ hk _ e
    | with_reducible exact keeps_execInvalContext _ _ _ hk _ e
    | with_reducible exact keeps_execInvalPages _ _ _ hk _ e
    | with_reducible exact keeps_execInvoke _ _ _ hk _ e
    | with_reducible exact keeps_execOwner _ _ _ hk _ e
    | with_reducible exact keeps_execProbe _ _ hk _ e
    | with_reducible exact keeps_execPublish _ _ _ _ hk _ e
    | with_reducible exact keeps_execRdOwn _ _ hk _ e
    | with_reducible exact keeps_execRdShared _ _ hk _ e
    | with_reducible exact keeps_execRead _ _ _ hk _ e
    | with_reducible exact keeps_execReadAcq _ _ _ hk _ e
    | with_reducible exact keeps_execUnknownOpcode _ _ _ hk _ e
    | with_reducible exact keeps_execUpgrade _ _ hk _ e
    | with_reducible exact keeps_execWait _ _ _ hk _ e
    | with_reducible exact keeps_execWbDirty _ _ _ hk _ e
    | with_reducible exact keeps_execWrite _ _ _ hk _ e
    | with_reducible exact keeps_execWriteRel _ _ _ hk _ e
    | with_reducible exact keeps_performAttn _ _ _ hk _ e
    | with_reducible exact keeps_performCfg _ _ _ hk _ e
    | with_reducible exact keeps_performCompose _ _ _ hk _ e
    | with_reducible exact keeps_performOryx _ _ _ hk _ e
    | with_reducible exact keeps_performPlace _ _ _ hk _ e
    | with_reducible exact keeps_performSearch _ _ _ hk _ e
    | with_reducible exact keeps_performStream _ _ _ hk _ e
    | with_reducible exact keeps_performSync _ _ _ hk _ e

theorem keeps_execMbxHeadRead {b0 b2 b3 b4 b5 : Bool} {u : State} (h : Hdr) (s : State)
 (hk : Keeps ⟨b0, false, b2, b3, b4, b5⟩ u s) :
    ∀ t, execMbxHeadRead h s = .next t → Keeps ⟨b0, false, b2, b3, b4, b5⟩ u t := by
  intro t e
  unfold execMbxHeadRead at e
  cases e
  repeat' (first
    | with_reducible assumption | with_reducible apply keeps_serveRead | with_reducible apply keeps_startRead | (intro _)
    | split | dsimp only [id_eq])

theorem keeps_onReady {b0 b1 b2 b3 b4 b5 : Bool} {u : State} (n : ℕ) (act : ℕ → State → State) (s : State) (hact : ∀ a0
 (w : State), Keeps ⟨b0, b1, b2, b3, b4, b5⟩ u w → Keeps ⟨b0, b1, b2, b3, b4, b5⟩ u (act a0 w))
 (hk : Keeps ⟨b0, b1, b2, b3, b4, b5⟩ u s) :
    Keeps ⟨b0, b1, b2, b3, b4, b5⟩ u (onReady n act s) := by
  unfold onReady
  try dsimp only
  repeat' (first
    | with_reducible assumption | with_reducible apply keeps_bump | with_reducible apply hact
    | fail_if_no_progress with_reducible apply keeps_mk | (intro _) | split | dsimp only [id_eq])

theorem keeps_dropFrame {b0 b1 b2 b3 b4 b5 : Bool} {u : State} (s : State) (hk : Keeps ⟨b0, b1, b2, b3, b4, b5⟩ u s) :
    Keeps ⟨b0, b1, b2, b3, b4, b5⟩ u (dropFrame s) := by
  unfold dropFrame
  try dsimp only
  repeat' (first
    | with_reducible assumption | with_reducible apply keeps_bump | (intro _) | split | dsimp only [id_eq])

theorem keeps_markSeen {b0 b1 b2 b3 b4 b5 : Bool} {u : State} (q : ℕ) (s : State)
 (hk : Keeps ⟨b0, b1, b2, b3, b4, b5⟩ u s) :
    Keeps ⟨b0, b1, b2, b3, b4, b5⟩ u (markSeen q s) := by
  unfold markSeen
  try dsimp only
  repeat' (first
    | with_reducible assumption | with_reducible apply keeps_bump | with_reducible apply keeps_qpOut
    | with_reducible apply keeps_setQp | fail_if_no_progress with_reducible apply keeps_mk | (intro _) | split
    | dsimp only [id_eq])

theorem keeps_flowOf {b0 b1 b2 b3 b4 b5 : Bool} {u : State} (p : ℕ) (s : State)
 (hk : Keeps ⟨b0, b1, b2, b3, b4, b5⟩ u s) :
    Keeps ⟨b0, b1, b2, b3, b4, b5⟩ u (flowOf p s) := by
  unfold flowOf
  try dsimp only
  repeat' (first
    | with_reducible assumption | with_reducible apply keeps_bump | with_reducible apply keeps_emit
    | fail_if_no_progress with_reducible apply keeps_mk | (intro _) | split | dsimp only [id_eq])

theorem keeps_flow {b0 b1 b2 b3 b4 b5 : Bool} {u : State} (s : State) (hk : Keeps ⟨b0, b1, b2, b3, b4, b5⟩ u s) :
    Keeps ⟨b0, b1, b2, b3, b4, b5⟩ u (flow s) := by
  unfold flow
  try dsimp only
  repeat' (first
    | with_reducible assumption | with_reducible apply keeps_flowOf | with_reducible apply keeps_foldl
    | with_reducible apply keeps_foldl_snd | (intro _) | split | dsimp only [id_eq])

theorem keeps_doFrame {b0 b1 b2 b3 b4 b5 : Bool} {u : State} (f : EthFrame) (s : State)
 (hk : Keeps ⟨b0, b1, b2, b3, b4, b5⟩ u s) :
    Keeps ⟨b0, b1, b2, b3, b4, b5⟩ u (doFrame f s) := by
  unfold doFrame
  try dsimp only
  repeat' (first
    | with_reducible assumption | with_reducible apply keeps_bump | with_reducible apply keeps_dropFrame
    | with_reducible apply keeps_markSeen | fail_if_no_progress with_reducible apply keeps_mk | (intro _) | split
    | dsimp only [id_eq])

theorem keeps_execEthFrameReceive {b0 b1 b2 b3 b4 b5 : Bool} {u : State} (f : EthFrame) (s : State)
 (hk : Keeps ⟨b0, b1, b2, b3, b4, b5⟩ u s) :
    ∀ t, execEthFrameReceive f s = .next t → Keeps ⟨b0, b1, b2, b3, b4, b5⟩ u t := by
  intro t e
  unfold execEthFrameReceive at e
  cases e
  repeat' (first
    | with_reducible assumption | with_reducible apply keeps_doFrame | (intro _) | split | dsimp only [id_eq])

theorem keeps_ethAnswer {b0 b1 b2 b3 b4 b5 : Bool} {u : State} (proto : ℕ) (target : ℕ) (addr : ℕ) (s : State)
 (hk : Keeps ⟨b0, b1, b2, b3, b4, b5⟩ u s) :
    Keeps ⟨b0, b1, b2, b3, b4, b5⟩ u (ethAnswer proto target addr s) := by
  unfold ethAnswer
  try dsimp only
  repeat' (first
    | with_reducible assumption | with_reducible apply keeps_emit | (intro _) | split | dsimp only [id_eq])

theorem keeps_execArpRequest {b0 b1 b2 b3 b4 b5 : Bool} {u : State} (target : ℕ) (s : State)
 (hk : Keeps ⟨b0, b1, b2, b3, b4, b5⟩ u s) :
    ∀ t, execArpRequest target s = .next t → Keeps ⟨b0, b1, b2, b3, b4, b5⟩ u t := by
  intro t e
  unfold execArpRequest at e
  cases e
  repeat' (first
    | with_reducible assumption | with_reducible apply keeps_ethAnswer | (intro _) | split | dsimp only [id_eq])

theorem keeps_execNeighbourSolicitation {b0 b1 b2 b3 b4 b5 : Bool} {u : State} (target : ℕ) (s : State)
 (hk : Keeps ⟨b0, b1, b2, b3, b4, b5⟩ u s) :
    ∀ t, execNeighbourSolicitation target s = .next t → Keeps ⟨b0, b1, b2, b3, b4, b5⟩ u t := by
  intro t e
  unfold execNeighbourSolicitation at e
  cases e
  repeat' (first
    | with_reducible assumption | with_reducible apply keeps_ethAnswer | (intro _) | split | dsimp only [id_eq])

theorem keeps_execIcmpEchoRequest {b0 b1 b2 b3 b4 b5 : Bool} {u : State} (target : ℕ) (v6 : Bool) (s : State)
 (hk : Keeps ⟨b0, b1, b2, b3, b4, b5⟩ u s) :
    ∀ t, execIcmpEchoRequest target v6 s = .next t → Keeps ⟨b0, b1, b2, b3, b4, b5⟩ u t := by
  intro t e
  unfold execIcmpEchoRequest at e
  cases e
  repeat' (first
    | with_reducible assumption | with_reducible apply keeps_ethAnswer | (intro _) | split | dsimp only [id_eq])

theorem keeps_releaseFrames {b0 b1 b2 b3 b4 b5 : Bool} {u : State} (s : State)
 (hk : Keeps ⟨b0, b1, b2, b3, b4, b5⟩ u s) :
    Keeps ⟨b0, b1, b2, b3, b4, b5⟩ u (releaseFrames s) := by
  unfold releaseFrames
  try dsimp only
  repeat' (first
    | with_reducible assumption | with_reducible apply keeps_emit | fail_if_no_progress with_reducible apply keeps_mk
    | with_reducible apply keeps_foldl | with_reducible apply keeps_foldl_snd | (intro _) | split | dsimp only [id_eq])

theorem keeps_execPfcFrameReceive {b0 b1 b2 b3 b4 b5 : Bool} {u : State} (xoff : ℕ) (xon : ℕ) (s : State)
 (hk : Keeps ⟨b0, b1, b2, b3, b4, b5⟩ u s) :
    ∀ t, execPfcFrameReceive xoff xon s = .next t → Keeps ⟨b0, b1, b2, b3, b4, b5⟩ u t := by
  intro t e
  unfold execPfcFrameReceive at e
  cases e
  repeat' (first
    | with_reducible assumption | with_reducible apply keeps_releaseFrames
    | fail_if_no_progress with_reducible apply keeps_mk | with_reducible apply keeps_foldl
    | with_reducible apply keeps_foldl_snd | (intro _) | split | dsimp only [id_eq])

theorem keeps_execPauseFrameReceive {b0 b1 b2 b3 b4 b5 : Bool} {u : State} (s : State)
 (hk : Keeps ⟨b0, b1, b2, b3, b4, b5⟩ u s) :
    ∀ t, execPauseFrameReceive s = .next t → Keeps ⟨b0, b1, b2, b3, b4, b5⟩ u t := by
  intro t e
  unfold execPauseFrameReceive at e
  cases e
  repeat' (first
    | with_reducible assumption | with_reducible apply keeps_dropFrame | (intro _) | split | dsimp only [id_eq])

theorem keeps_execCnpReceive {b0 b1 b2 b3 b4 b5 : Bool} {u : State} (qpn : ℕ) (s : State)
 (hk : Keeps ⟨b0, b1, b2, b3, b4, b5⟩ u s) :
    ∀ t, execCnpReceive qpn s = .next t → Keeps ⟨b0, b1, b2, b3, b4, b5⟩ u t := by
  intro t e
  unfold execCnpReceive at e
  cases e
  repeat' (first
    | with_reducible assumption | with_reducible apply keeps_onReady | with_reducible apply keeps_setQp
    | fail_if_no_progress with_reducible apply keeps_mk | (intro _) | split | dsimp only [id_eq])

theorem keeps_execCnpRateRecovery {b0 b1 b2 b3 b4 b5 : Bool} {u : State} (qpn : ℕ) (s : State)
 (hk : Keeps ⟨b0, b1, b2, b3, b4, b5⟩ u s) :
    ∀ t, execCnpRateRecovery qpn s = .next t → Keeps ⟨b0, b1, b2, b3, b4, b5⟩ u t := by
  intro t e
  unfold execCnpRateRecovery at e
  cases e
  repeat' (first
    | with_reducible assumption | with_reducible apply keeps_setQp | fail_if_no_progress with_reducible apply keeps_mk
    | (intro _) | split | dsimp only [id_eq])

theorem keeps_execEthLinkUp {b0 b1 b2 b3 b4 b5 : Bool} {u : State} (s : State)
 (hk : Keeps ⟨b0, b1, b2, b3, b4, b5⟩ u s) :
    ∀ t, execEthLinkUp s = .next t → Keeps ⟨b0, b1, b2, b3, b4, b5⟩ u t := by
  intro t e
  unfold execEthLinkUp at e
  cases e
  repeat' (first
    | with_reducible assumption | with_reducible apply keeps_raiseEvent | with_reducible apply keeps_setDom
    | with_reducible apply keeps_setObj | fail_if_no_progress with_reducible apply keeps_mk | (intro _) | split
    | dsimp only [id_eq])

theorem keeps_execEthLinkDown {b0 b1 b2 b3 b4 b5 : Bool} {u : State} (s : State)
 (hk : Keeps ⟨b0, b1, b2, b3, b4, b5⟩ u s) :
    ∀ t, execEthLinkDown s = .next t → Keeps ⟨b0, b1, b2, b3, b4, b5⟩ u t := by
  intro t e
  unfold execEthLinkDown at e
  cases e
  repeat' (first
    | with_reducible assumption | with_reducible apply keeps_raiseEvent | with_reducible apply keeps_setObj | (intro _)
    | split | dsimp only [id_eq])

theorem keeps_rdmaCharge {b0 b1 b2 b3 b4 b5 : Bool} {u : State} (rq : Req) (n : ℕ) (s : State)
 (hk : Keeps ⟨b0, b1, b2, b3, b4, b5⟩ u s) :
    ∀ t, rdmaCharge rq n s = some t → Keeps ⟨b0, b1, b2, b3, b4, b5⟩ u t := by
  intro t e
  unfold rdmaCharge at e
  try dsimp only at e
  repeat' split at e
  all_goals try cases e
  repeat' (first
    | with_reducible assumption | with_reducible apply keeps_bump | with_reducible apply keeps_meterIn
    | fail_if_no_progress with_reducible apply keeps_mk | (intro _) | split | dsimp only [id_eq])

theorem keeps_runRead {b0 b2 b3 b4 b5 : Bool} {u : State} (q : ℕ) (r : RdmaReq) (found : List (ℕ × ℕ)) (at_ : ℕ)
 (s : State) (hk : Keeps ⟨b0, false, b2, b3, b4, b5⟩ u s) :
    Keeps ⟨b0, false, b2, b3, b4, b5⟩ u (runRead q r found at_ s).2 := by
  unfold runRead
  try dsimp only
  repeat' (first
    | with_reducible assumption | with_reducible apply keeps_complete | with_reducible apply keeps_completeWith
    | with_reducible apply keeps_decodeLines | with_reducible apply keeps_finishRdmaRead
    | with_reducible apply keeps_queueAll | with_reducible apply keeps_wake | with_reducible apply keeps_withSnoops
    | with_reducible refine keeps_queueAll_eq (by assumption) ?_
    | with_reducible refine keeps_rdmaCharge _ _ _ ?_ _ (by assumption)
    | fail_if_no_progress with_reducible apply keeps_mk | with_reducible apply keeps_foldl
    | with_reducible apply keeps_foldl_snd
    | (have e := ‹(if at_ = 0 then rdmaCharge _ _ s else some s) = some _›; split at e <;> first | exact keeps_rdmaCharge _ _ _ hk _ e | (cases e; exact hk))
    | (intro _) | split | dsimp only [id_eq])

theorem keeps_runRead_eq {b0 b2 b3 b4 b5 : Bool} {u w : State} {r0 : Option EthOp} {q : ℕ} {r : RdmaReq} {found : List
 (ℕ × ℕ)} {at_ : ℕ} {s : State} (e : runRead q r found at_ s = (r0, w))
 (hk : Keeps ⟨b0, false, b2, b3, b4, b5⟩ u s) :
    Keeps ⟨b0, false, b2, b3, b4, b5⟩ u w := by
  have := keeps_runRead q r found at_ s  hk; rwa [e] at this

theorem keeps_rdmaWaits {b0 b1 b2 b3 b4 b5 : Bool} {u : State} (off : ℕ) (n : ℕ) (write : List ℕ) (s : State)
 (hk : Keeps ⟨b0, b1, b2, b3, b4, b5⟩ u s) :
    ∀ t, rdmaWaits off n write s = some t → Keeps ⟨b0, b1, b2, b3, b4, b5⟩ u t := by
  intro t e
  unfold rdmaWaits at e
  try dsimp only at e
  repeat' split at e
  all_goals try cases e
  repeat' (first
    | with_reducible assumption | with_reducible apply keeps_queueAll | with_reducible apply keeps_wake
    | with_reducible refine keeps_queueAll_eq (by assumption) ?_ | with_reducible apply keeps_foldl
    | with_reducible apply keeps_foldl_snd | (intro _) | split | dsimp only [id_eq])

theorem keeps_runWrite {b0 b2 b4 b5 : Bool} {u : State} (q : ℕ) (r : RdmaReq) (data : ℕ) (s : State)
 (hk : Keeps ⟨b0, false, b2, false, b4, b5⟩ u s) :
    Keeps ⟨b0, false, b2, false, b4, b5⟩ u (runWrite q r data s).2 := by
  unfold runWrite
  try dsimp only
  repeat' (first
    | with_reducible assumption | with_reducible apply keeps_complete | with_reducible apply keeps_finishRdmaWrite
    | with_reducible apply keeps_noFrame | with_reducible apply keeps_pageWrite | with_reducible apply keeps_withSnoops
    | with_reducible refine keeps_pageWrite_eq (by assumption) ?_
    | with_reducible refine keeps_rdmaCharge _ _ _ ?_ _ (by assumption)
    | with_reducible refine keeps_rdmaWaits _ _ _ _ ?_ _ (by assumption)
    | fail_if_no_progress with_reducible apply keeps_mk | (intro _) | split | dsimp only [id_eq])

theorem keeps_runWrite_eq {b0 b2 b4 b5 : Bool} {u w : State} {r0 : Option EthOp} {q : ℕ} {r : RdmaReq} {data : ℕ}
    {s : State} (e : runWrite q r data s = (r0, w)) (hk : Keeps ⟨b0, false, b2, false, b4, b5⟩ u s) :
    Keeps ⟨b0, false, b2, false, b4, b5⟩ u w := by
  have := keeps_runWrite q r data s  hk; rwa [e] at this

theorem keeps_runAtomic {b0 b2 b3 b4 b5 : Bool} {u : State} (q : ℕ) (r : RdmaReq) (body : ℕ) (s : State)
 (hk : Keeps ⟨b0, false, b2, b3, b4, b5⟩ u s) :
    Keeps ⟨b0, false, b2, b3, b4, b5⟩ u (runAtomic q r body s).2 := by
  unfold runAtomic
  try dsimp only
  repeat' (first
    | with_reducible assumption | with_reducible apply keeps_complete | with_reducible apply keeps_finishAtomic
    | with_reducible apply keeps_noFrame | with_reducible apply keeps_withSnoops
    | with_reducible refine keeps_rdmaCharge _ _ _ ?_ _ (by assumption)
    | with_reducible refine keeps_rdmaWaits _ _ _ _ ?_ _ (by assumption)
    | fail_if_no_progress with_reducible apply keeps_mk | (intro _) | split | dsimp only [id_eq])

theorem keeps_runAtomic_eq {b0 b2 b3 b4 b5 : Bool} {u w : State} {r0 : Option EthOp} {q : ℕ} {r : RdmaReq} {body : ℕ}
    {s : State} (e : runAtomic q r body s = (r0, w)) (hk : Keeps ⟨b0, false, b2, b3, b4, b5⟩ u s) :
    Keeps ⟨b0, false, b2, b3, b4, b5⟩ u w := by
  have := keeps_runAtomic q r body s  hk; rwa [e] at this

theorem keeps_runSend {b0 : Bool} {u : State} (q : ℕ) (opcode : ℕ) (h : Hdr) (body : ℕ) (data : ℕ) (s : State)
 (hk : Keeps ⟨b0, false, false, false, false, false⟩ u s) :
    Keeps ⟨b0, false, false, false, false, false⟩ u (runSend q opcode h body data s) := by
  unfold runSend
  try dsimp only
  repeat' (first
    | with_reducible assumption | with_reducible apply keeps_complete | with_reducible apply keeps_performOpcode
    | fail_if_no_progress with_reducible apply keeps_mk | (intro _) | split | dsimp only [id_eq])

theorem keeps_runOp {b0 : Bool} {u : State} (q : ℕ) (op : EthOp) (s : State)
 (hk : Keeps ⟨b0, false, false, false, false, false⟩ u s) :
    Keeps ⟨b0, false, false, false, false, false⟩ u (runOp q op s).2 := by
  unfold runOp
  try dsimp only
  repeat' (first
    | with_reducible assumption | with_reducible apply keeps_runAtomic | with_reducible apply keeps_runRead
    | with_reducible apply keeps_runSend | with_reducible apply keeps_runWrite
    | with_reducible refine keeps_runAtomic_eq (by assumption) ?_
    | with_reducible refine keeps_runRead_eq (by assumption) ?_
    | with_reducible refine keeps_runWrite_eq (by assumption) ?_ | fail_if_no_progress with_reducible apply keeps_mk
    | (intro _) | split | dsimp only [id_eq])

theorem keeps_runOp_eq {b0 : Bool} {u w : State} {r0 : Option EthOp} {q : ℕ} {op : EthOp} {s : State}
 (e : runOp q op s = (r0, w)) (hk : Keeps ⟨b0, false, false, false, false, false⟩ u s) :
    Keeps ⟨b0, false, false, false, false, false⟩ u w := by
  have := keeps_runOp q op s  hk; rwa [e] at this

theorem keeps_runQp {b0 : Bool} {u : State} (q n : Nat) (s : State)
 (hk : Keeps ⟨b0, false, false, false, false, false⟩ u s) : Keeps ⟨b0, false, false, false, false, false⟩ u
 (runQp q n s) := by
  induction n generalizing s with
  | zero => exact hk
  | succ n ih =>
    unfold runQp
    dsimp only
    repeat' (first
      | with_reducible apply ih
      | with_reducible assumption | with_reducible apply keeps_runOp | with_reducible apply keeps_runSend
      | with_reducible apply keeps_setQp | with_reducible refine keeps_runOp_eq (by assumption) ?_
      | fail_if_no_progress with_reducible apply keeps_mk | (intro _) | split | dsimp only [id_eq])

theorem keeps_enqueue {b0 : Bool} {u : State} (q : ℕ) (op : EthOp) (packets : ℕ) (s : State)
 (hk : Keeps ⟨b0, false, false, false, false, false⟩ u s) :
    Keeps ⟨b0, false, false, false, false, false⟩ u (enqueue q op packets s) := by
  unfold enqueue
  try dsimp only
  repeat' (first
    | with_reducible assumption | with_reducible apply keeps_flow | with_reducible apply keeps_runQp
    | with_reducible apply keeps_setQp | fail_if_no_progress with_reducible apply keeps_mk | (intro _) | split
    | dsimp only [id_eq])

theorem keeps_memoryOp {b0 : Bool} {u : State} (r : RdmaReq) (op : EthOp) (packets : ℕ → ℕ) (again : ℕ → State → State)
 (s : State) (hagain : ∀ a0
 (w : State), Keeps ⟨b0, false, false, false, false, false⟩ u w → Keeps ⟨b0, false, false, false, false, false⟩ u
 (again a0 w)) (hk : Keeps ⟨b0, false, false, false, false, false⟩ u s) :
    Keeps ⟨b0, false, false, false, false, false⟩ u (memoryOp r op packets again s) := by
  unfold memoryOp
  try dsimp only
  repeat' (first
    | with_reducible assumption | with_reducible apply keeps_enqueue | with_reducible apply keeps_onReady
    | with_reducible apply hagain | fail_if_no_progress with_reducible apply keeps_mk | (intro _) | split
    | dsimp only [id_eq])

theorem keeps_readAgain {b0 : Bool} {u : State} (r : RdmaReq) (found : List (ℕ × ℕ)) (q : ℕ) (s : State)
 (hk : Keeps ⟨b0, false, false, false, false, false⟩ u s) :
    Keeps ⟨b0, false, false, false, false, false⟩ u (readAgain r found q s) := by
  unfold readAgain
  try dsimp only
  repeat' (first
    | with_reducible assumption | with_reducible apply keeps_flow | with_reducible apply keeps_runQp
    | with_reducible apply keeps_setQp | fail_if_no_progress with_reducible apply keeps_mk | (intro _) | split
    | dsimp only [id_eq])

theorem keeps_execRdmaRead {b0 : Bool} {u : State} (r : RdmaReq) (found : List (ℕ × ℕ)) (s : State)
 (hk : Keeps ⟨b0, false, false, false, false, false⟩ u s) :
    ∀ t, execRdmaRead r found s = .next t → Keeps ⟨b0, false, false, false, false, false⟩ u t := by
  intro t e
  unfold execRdmaRead at e
  cases e
  repeat' (first
    | with_reducible assumption | with_reducible apply keeps_memoryOp | with_reducible apply keeps_readAgain | (intro _)
    | split | dsimp only [id_eq])

theorem keeps_execRdmaWrite {b0 : Bool} {u : State} (r : RdmaReq) (data : ℕ) (s : State)
 (hk : Keeps ⟨b0, false, false, false, false, false⟩ u s) :
    ∀ t, execRdmaWrite r data s = .next t → Keeps ⟨b0, false, false, false, false, false⟩ u t := by
  intro t e
  unfold execRdmaWrite at e
  cases e
  repeat' (first
    | with_reducible assumption | with_reducible apply keeps_memoryOp | with_reducible apply keeps_qpOut | (intro _)
    | split | dsimp only [id_eq])

theorem keeps_atomicAgain {b0 b1 b2 b3 b4 b5 : Bool} {u : State} (r : RdmaReq) (q : ℕ) (s : State)
 (hk : Keeps ⟨b0, b1, b2, b3, b4, b5⟩ u s) :
    Keeps ⟨b0, b1, b2, b3, b4, b5⟩ u (atomicAgain r q s) := by
  unfold atomicAgain
  try dsimp only
  repeat' (first
    | with_reducible assumption | with_reducible apply keeps_qpOut | fail_if_no_progress with_reducible apply keeps_mk
    | (intro _) | split | dsimp only [id_eq])

theorem keeps_execFetchAndAdd {b0 : Bool} {u : State} (r : RdmaReq) (operand : ℕ) (s : State)
 (hk : Keeps ⟨b0, false, false, false, false, false⟩ u s) :
    ∀ t, execFetchAndAdd r operand s = .next t → Keeps ⟨b0, false, false, false, false, false⟩ u t := by
  intro t e
  unfold execFetchAndAdd at e
  cases e
  repeat' (first
    | with_reducible assumption | with_reducible apply keeps_atomicAgain | with_reducible apply keeps_memoryOp | (intro _)
    | split | dsimp only [id_eq])

theorem keeps_execCompareAndSwap {b0 : Bool} {u : State} (r : RdmaReq) (compare : ℕ) (operand : ℕ) (s : State)
 (hk : Keeps ⟨b0, false, false, false, false, false⟩ u s) :
    ∀ t, execCompareAndSwap r compare operand s = .next t → Keeps ⟨b0, false, false, false, false, false⟩ u t := by
  intro t e
  unfold execCompareAndSwap at e
  cases e
  repeat' (first
    | with_reducible assumption | with_reducible apply keeps_atomicAgain | with_reducible apply keeps_memoryOp | (intro _)
    | split | dsimp only [id_eq])

theorem keeps_nakQp {b0 b1 b2 b3 b4 b5 : Bool} {u : State} (q : ℕ) (psn : ℕ) (st : Status) (s : State)
 (hk : Keeps ⟨b0, b1, b2, b3, b4, b5⟩ u s) :
    Keeps ⟨b0, b1, b2, b3, b4, b5⟩ u (nakQp q psn st s) := by
  unfold nakQp
  try dsimp only
  repeat' (first
    | with_reducible assumption | with_reducible apply keeps_bump | with_reducible apply keeps_qpError
    | with_reducible apply keeps_qpOut | (intro _) | split | dsimp only [id_eq])

theorem keeps_ackMessage {b0 b1 b2 b3 b4 b5 : Bool} {u : State} (q : ℕ) (psn : ℕ) (n : ℕ) (s : State)
 (hk : Keeps ⟨b0, b1, b2, b3, b4, b5⟩ u s) :
    Keeps ⟨b0, b1, b2, b3, b4, b5⟩ u (ackMessage q psn n s) := by
  unfold ackMessage
  try dsimp only
  repeat' (first
    | with_reducible assumption | with_reducible apply keeps_qpOut | (intro _) | split | dsimp only [id_eq])

theorem keeps_takeSend {b0 : Bool} {u : State} (q : ℕ) (psn : ℕ) (msgBytes : ℕ) (opcode : ℕ) (h : Hdr) (body : ℕ)
 (data : ℕ) (s : State) (hk : Keeps ⟨b0, false, false, false, false, false⟩ u s) :
    Keeps ⟨b0, false, false, false, false, false⟩ u (takeSend q psn msgBytes opcode h body data s) := by
  unfold takeSend
  try dsimp only
  repeat' (first
    | with_reducible assumption | with_reducible apply keeps_ackMessage | with_reducible apply keeps_bump
    | with_reducible apply keeps_enqueue | with_reducible apply keeps_nakQp | with_reducible apply keeps_qpOut | (intro _)
    | split | dsimp only [id_eq])

theorem keeps_doSendRequest {b0 : Bool} {u : State} (qpn : ℕ) (psn : ℕ) (msgBytes : ℕ) (opcode : ℕ) (h : Hdr) (body : ℕ)
 (data : ℕ) (s : State) (hk : Keeps ⟨b0, false, false, false, false, false⟩ u s) :
    Keeps ⟨b0, false, false, false, false, false⟩ u (doSendRequest qpn psn msgBytes opcode h body data s) := by
  unfold doSendRequest
  try dsimp only
  repeat' (first
    | with_reducible assumption | with_reducible apply keeps_ackMessage | with_reducible apply keeps_onReady
    | with_reducible apply keeps_takeSend | fail_if_no_progress with_reducible apply keeps_mk | (intro _) | split
    | dsimp only [id_eq])

theorem keeps_execRoceSendRequest {b0 : Bool} {u : State} (packet : SendPacket) (msgBytes : ℕ) (opcode : ℕ) (h : Hdr)
 (body : ℕ) (data : ℕ) (s : State) (hk : Keeps ⟨b0, false, false, false, false, false⟩ u s) :
    ∀ t, execRoceSendRequest packet msgBytes opcode h body data s = .next t → Keeps ⟨b0, false, false, false, false, false⟩ u t := by
  intro t e
  unfold execRoceSendRequest at e
  cases e
  repeat' (first
    | with_reducible assumption | with_reducible apply keeps_doSendRequest | (intro _) | split | dsimp only [id_eq])

theorem keeps_doAck {b0 b1 b2 b3 b4 b5 : Bool} {u : State} (q : ℕ) (psn : ℕ) (s : State)
 (hk : Keeps ⟨b0, b1, b2, b3, b4, b5⟩ u s) :
    Keeps ⟨b0, b1, b2, b3, b4, b5⟩ u (doAck q psn s) := by
  unfold doAck
  try dsimp only
  repeat' (first
    | with_reducible assumption | with_reducible apply keeps_popNotice | with_reducible apply keeps_setQp
    | fail_if_no_progress with_reducible apply keeps_mk | with_reducible apply keeps_foldl
    | with_reducible apply keeps_foldl_snd | (intro _) | split | dsimp only [id_eq])

theorem keeps_execRoceAckReceive {b0 b1 b2 b3 b4 b5 : Bool} {u : State} (qp : ℕ) (psn : ℕ) (s : State)
 (hk : Keeps ⟨b0, b1, b2, b3, b4, b5⟩ u s) :
    ∀ t, execRoceAckReceive qp psn s = .next t → Keeps ⟨b0, b1, b2, b3, b4, b5⟩ u t := by
  intro t e
  unfold execRoceAckReceive at e
  cases e
  repeat' (first
    | with_reducible assumption | with_reducible apply keeps_doAck | with_reducible apply keeps_onReady | (intro _)
    | split | dsimp only [id_eq])

theorem keeps_resend {b0 b1 b2 b3 b4 b5 : Bool} {u : State} (q : ℕ) (s : State)
 (hk : Keeps ⟨b0, b1, b2, b3, b4, b5⟩ u s) :
    Keeps ⟨b0, b1, b2, b3, b4, b5⟩ u (resend q s) := by
  unfold resend
  try dsimp only
  repeat' (first
    | with_reducible assumption | with_reducible apply keeps_qpOut | with_reducible apply keeps_foldl
    | with_reducible apply keeps_foldl_snd | (intro _) | split | dsimp only [id_eq])

theorem keeps_retrySend {b0 b1 b2 b3 b4 b5 : Bool} {u : State} (q : ℕ) (s : State)
 (hk : Keeps ⟨b0, b1, b2, b3, b4, b5⟩ u s) :
    Keeps ⟨b0, b1, b2, b3, b4, b5⟩ u (retrySend q s) := by
  unfold retrySend
  try dsimp only
  repeat' (first
    | with_reducible assumption | with_reducible apply keeps_qpError | with_reducible apply keeps_resend
    | with_reducible apply keeps_setQp | fail_if_no_progress with_reducible apply keeps_mk | (intro _) | split
    | dsimp only [id_eq])

theorem keeps_execRoceNakReceive {b0 b1 b2 b3 b4 b5 : Bool} {u : State} (qp : ℕ) (psn : ℕ) (rnr : Bool) (s : State)
 (hk : Keeps ⟨b0, b1, b2, b3, b4, b5⟩ u s) :
    ∀ t, execRoceNakReceive qp psn rnr s = .next t → Keeps ⟨b0, b1, b2, b3, b4, b5⟩ u t := by
  intro t e
  unfold execRoceNakReceive at e
  cases e
  repeat' (first
    | with_reducible assumption | with_reducible apply keeps_doAck | with_reducible apply keeps_onReady
    | with_reducible apply keeps_retrySend | (intro _) | split | dsimp only [id_eq])

theorem keeps_execRoceAckTimeout {b0 b1 b2 b3 b4 b5 : Bool} {u : State} (qpn : ℕ) (s : State)
 (hk : Keeps ⟨b0, b1, b2, b3, b4, b5⟩ u s) :
    ∀ t, execRoceAckTimeout qpn s = .next t → Keeps ⟨b0, b1, b2, b3, b4, b5⟩ u t := by
  intro t e
  unfold execRoceAckTimeout at e
  cases e
  repeat' (first
    | with_reducible assumption | with_reducible apply keeps_retrySend | fail_if_no_progress with_reducible apply keeps_mk
    | (intro _) | split | dsimp only [id_eq])

theorem keeps_execRnrRetryTimer {b0 b1 b2 b3 b4 b5 : Bool} {u : State} (qpn : ℕ) (s : State)
 (hk : Keeps ⟨b0, b1, b2, b3, b4, b5⟩ u s) :
    ∀ t, execRnrRetryTimer qpn s = .next t → Keeps ⟨b0, b1, b2, b3, b4, b5⟩ u t := by
  intro t e
  unfold execRnrRetryTimer at e
  cases e
  repeat' (first
    | with_reducible assumption | with_reducible apply keeps_qpError | with_reducible apply keeps_resend
    | with_reducible apply keeps_setQp | fail_if_no_progress with_reducible apply keeps_mk | (intro _) | split
    | dsimp only [id_eq])

theorem keeps_doQpEntry {u : State} (c : Ctx) (s : State) (hk : Keeps ⟨false, false, false, false, false, false⟩ u s) :
    Keeps ⟨false, false, false, false, false, false⟩ u (doQpEntry c s) := by
  unfold doQpEntry
  try dsimp only
  repeat' (first
    | with_reducible assumption | with_reducible apply keeps_applied | with_reducible apply keeps_countQps
    | with_reducible apply keeps_fin | with_reducible apply keeps_finBad | with_reducible apply keeps_runQp
    | with_reducible apply keeps_sendNotices | with_reducible apply keeps_setQp
    | fail_if_no_progress with_reducible apply keeps_mk | (intro _) | split | dsimp only [id_eq])

theorem keeps_execQpEntryWrite {u : State} (d : DapMsg) (s : State)
 (hk : Keeps ⟨false, false, false, false, false, false⟩ u s) :
    ∀ t, execQpEntryWrite d s = .next t → Keeps ⟨false, false, false, false, false, false⟩ u t := by
  intro t e
  unfold execQpEntryWrite at e
  cases e
  repeat' (first
    | with_reducible assumption | with_reducible apply keeps_dapServe | with_reducible apply keeps_doQpEntry | (intro _)
    | split | dsimp only [id_eq])

theorem keeps_execEthCountersClear {b1 b2 b3 b4 b5 : Bool} {u : State} (d : DapMsg) (s : State)
 (hk : Keeps ⟨false, b1, b2, b3, b4, b5⟩ u s) :
    ∀ t, execEthCountersClear d s = .next t → Keeps ⟨false, b1, b2, b3, b4, b5⟩ u t := by
  intro t e
  unfold execEthCountersClear at e
  cases e
  repeat' (first
    | with_reducible assumption | with_reducible apply keeps_clearObj | with_reducible apply keeps_clearObjs
    | with_reducible apply keeps_setObj | (intro _) | split | dsimp only [id_eq])

theorem keeps_runQps {b0 : Bool} {u : State} (s : State) (hk : Keeps ⟨b0, false, false, false, false, false⟩ u s) :
    Keeps ⟨b0, false, false, false, false, false⟩ u (runQps s) := by
  unfold runQps
  try dsimp only
  repeat' (first
    | with_reducible assumption | with_reducible apply keeps_flow | with_reducible apply keeps_runQp
    | with_reducible apply keeps_foldl | with_reducible apply keeps_foldl_snd | (intro _) | split | dsimp only [id_eq])

theorem keeps_execStalledAccessResume {b0 : Bool} {u : State} (acc : ℕ) (s : State)
 (hk : Keeps ⟨b0, false, false, false, false, false⟩ u s) :
    ∀ t, execStalledAccessResume acc s = .next t → Keeps ⟨b0, false, false, false, false, false⟩ u t := by
  intro t e
  unfold execStalledAccessResume at e
  cases e
  repeat' (first
    | with_reducible assumption | with_reducible apply keeps_resumeStall | with_reducible apply keeps_runQps
    | with_reducible apply keeps_settleTiles | (intro _) | split | dsimp only [id_eq])

theorem keeps_takeAcks {b0 b2 b3 b4 b5 : Bool} {u : State} (s : State) (hk : Keeps ⟨b0, false, b2, b3, b4, b5⟩ u s) :
    Keeps ⟨b0, false, b2, b3, b4, b5⟩ u (takeAcks s) := by
  unfold takeAcks
  try dsimp only
  repeat' (first
    | with_reducible assumption | with_reducible apply keeps_copiesDone | with_reducible apply keeps_settle
    | fail_if_no_progress with_reducible apply keeps_mk | with_reducible apply keeps_foldl
    | with_reducible apply keeps_foldl_snd | (intro _) | split | dsimp only [id_eq])

theorem keeps_tick {b0 : Bool} {u : State} (s : State) (hk : Keeps ⟨b0, false, false, false, false, false⟩ u s) :
    Keeps ⟨b0, false, false, false, false, false⟩ u (tick s) := by
  unfold tick
  try dsimp only
  repeat' (first
    | with_reducible assumption | with_reducible apply keeps_idle | with_reducible apply keeps_runQps
    | with_reducible apply keeps_settleTiles | with_reducible apply keeps_takeAcks | (intro _) | split
    | dsimp only [id_eq])

theorem keeps_dropWork {b0 b1 b2 b5 : Bool} {u : State} (s : State) (hk : Keeps ⟨b0, b1, b2, false, false, b5⟩ u s) :
    Keeps ⟨b0, b1, b2, false, false, b5⟩ u (dropWork s) := by
  unfold dropWork
  try dsimp only
  repeat' (first
    | with_reducible assumption | with_reducible apply keeps_discardOpen
    | fail_if_no_progress with_reducible apply keeps_mk | fail_if_no_progress with_reducible apply keeps_mk_config
    | fail_if_no_progress with_reducible apply keeps_mk_tables
    | fail_if_no_progress with_reducible apply keeps_mk_config_tables | (intro _) | split | dsimp only [id_eq])

theorem keeps_clearQps {b0 b1 b2 b3 b4 b5 : Bool} {u : State} (s : State) (hk : Keeps ⟨b0, b1, b2, b3, b4, b5⟩ u s) :
    Keeps ⟨b0, b1, b2, b3, b4, b5⟩ u (clearQps s) := by
  unfold clearQps
  try dsimp only
  repeat' (first
    | with_reducible assumption | with_reducible apply keeps_countQps | fail_if_no_progress with_reducible apply keeps_mk
    | (intro _) | split | dsimp only [id_eq])

theorem keeps_leaveIdle {b0 b1 b2 b3 b4 b5 : Bool} {u : State} (d : ℕ) (s : State)
 (hk : Keeps ⟨b0, b1, b2, b3, b4, b5⟩ u s) :
    Keeps ⟨b0, b1, b2, b3, b4, b5⟩ u (leaveIdle d s) := by
  unfold leaveIdle
  try dsimp only
  repeat' (first
    | with_reducible assumption | with_reducible apply keeps_dropGuard | fail_if_no_progress with_reducible apply keeps_mk
    | with_reducible apply keeps_foldl | with_reducible apply keeps_foldl_snd | (intro _) | split | dsimp only [id_eq])

theorem keeps_loseFabric {b0 b2 b4 b5 : Bool} {u : State} (n : ℕ) (s : State)
 (hk : Keeps ⟨b0, false, b2, false, b4, b5⟩ u s) :
    Keeps ⟨b0, false, b2, false, b4, b5⟩ u (loseFabric n s) := by
  unfold loseFabric
  try dsimp only
  repeat' (first
    | with_reducible assumption | fail_if_no_progress with_reducible apply keeps_filter_config
    | fail_if_no_progress with_reducible apply keeps_mk | fail_if_no_progress with_reducible apply keeps_mk_memory
    | fail_if_no_progress with_reducible apply keeps_mk_config | fail_if_no_progress with_reducible apply keeps_mk_all
    | (intro _) | split | dsimp only [id_eq])

theorem keeps_emptyStore {b0 b1 b2 b3 b4 b5 : Bool} {u : State} (home : ℕ) (s : State)
 (hk : Keeps ⟨b0, b1, b2, b3, b4, b5⟩ u s) :
    Keeps ⟨b0, b1, b2, b3, b4, b5⟩ u (emptyStore home s) := by
  unfold emptyStore
  try dsimp only
  repeat' (first
    | with_reducible assumption | with_reducible apply keeps_flushStore | (intro _) | split | dsimp only [id_eq])

theorem keeps_railsOff {b0 b2 b4 b5 : Bool} {u : State} (d : ℕ) (s : State)
 (hk : Keeps ⟨b0, false, b2, false, b4, b5⟩ u s) :
    Keeps ⟨b0, false, b2, false, b4, b5⟩ u (railsOff d s) := by
  unfold railsOff
  try dsimp only
  repeat' (first
    | with_reducible assumption | with_reducible apply keeps_emptyStore | with_reducible apply keeps_leaveIdle
    | with_reducible apply keeps_loseFabric | with_reducible apply keeps_setCheck | with_reducible apply keeps_setDom
    | fail_if_no_progress with_reducible apply keeps_mk | with_reducible apply keeps_foldl
    | with_reducible apply keeps_foldl_snd | (intro _) | split | dsimp only [id_eq])

theorem keeps_fastOff {b0 b2 b4 b5 : Bool} {u : State} (s : State) (hk : Keeps ⟨b0, false, b2, false, b4, b5⟩ u s) :
    Keeps ⟨b0, false, b2, false, b4, b5⟩ u (fastOff s) := by
  unfold fastOff
  try dsimp only
  repeat' (first
    | with_reducible assumption | with_reducible apply keeps_railsOff | with_reducible apply keeps_settleCommit
    | with_reducible apply keeps_foldl | with_reducible apply keeps_foldl_snd | (intro _) | split | dsimp only [id_eq])

theorem keeps_stopSteps {b0 b1 b2 b3 b4 b5 : Bool} {u : State} (s : State) (hk : Keeps ⟨b0, b1, b2, b3, b4, b5⟩ u s) :
    Keeps ⟨b0, b1, b2, b3, b4, b5⟩ u (stopSteps s) := by
  unfold stopSteps
  try dsimp only
  repeat' (first
    | with_reducible assumption | with_reducible apply keeps_setObj | with_reducible apply keeps_foldl
    | with_reducible apply keeps_foldl_snd | (intro _) | split | dsimp only [id_eq])

theorem keeps_purgeReached {b0 b1 b2 b3 b4 b5 : Bool} {u : State} (s : State) (hk : Keeps ⟨b0, b1, b2, b3, b4, b5⟩ u s) :
    Keeps ⟨b0, b1, b2, b3, b4, b5⟩ u (purgeReached s) := by
  unfold purgeReached
  try dsimp only
  repeat' (first
    | with_reducible assumption | with_reducible apply keeps_setObj | (intro _) | split | dsimp only [id_eq])

theorem keeps_standingEntry {b2 b5 : Bool} {u : State} (p : PkgState) (s : State)
 (hk : Keeps ⟨false, false, b2, false, false, b5⟩ u s) :
    Keeps ⟨false, false, b2, false, false, b5⟩ u (standingEntry p s) := by
  unfold standingEntry
  try dsimp only
  repeat' (first
    | with_reducible assumption | with_reducible apply keeps_appendLog | with_reducible apply keeps_clearQps
    | with_reducible apply keeps_dropWork | with_reducible apply keeps_enterState | with_reducible apply keeps_fastOff
    | with_reducible apply keeps_purgeReached | with_reducible apply keeps_stopSteps
    | fail_if_no_progress with_reducible apply keeps_mk | (intro _) | split | dsimp only [id_eq])

theorem keeps_standing {b2 b5 : Bool} {u : State} (category : ℕ) (cause : ℕ) (unit : ℕ) (die : ℕ) (s : State)
 (hk : Keeps ⟨false, false, b2, false, false, b5⟩ u s) :
    Keeps ⟨false, false, b2, false, false, b5⟩ u (standing category cause unit die s) := by
  unfold standing
  try dsimp only
  repeat' (first
    | with_reducible assumption | with_reducible apply keeps_setObj | with_reducible apply keeps_standingEntry | (intro _)
    | split | dsimp only [id_eq])

theorem keeps_expelPackage {b2 b5 : Bool} {u : State} (s : State) (hk : Keeps ⟨false, false, b2, false, false, b5⟩ u s) :
    Keeps ⟨false, false, b2, false, false, b5⟩ u (expelPackage s) := by
  unfold expelPackage
  try dsimp only
  repeat' (first
    | with_reducible assumption | with_reducible apply keeps_setObj | with_reducible apply keeps_standingEntry | (intro _)
    | split | dsimp only [id_eq])

theorem keeps_doEnterStanding {b2 b5 : Bool} {u : State} (c : Ctx) (s : State)
 (hk : Keeps ⟨false, false, b2, false, false, b5⟩ u s) :
    Keeps ⟨false, false, b2, false, false, b5⟩ u (doEnterStanding c s) := by
  unfold doEnterStanding
  try dsimp only
  repeat' (first
    | with_reducible assumption | with_reducible apply keeps_applied | with_reducible apply keeps_finBad
    | with_reducible apply keeps_standing | (intro _) | split | dsimp only [id_eq])

theorem keeps_execEnterStanding {b2 b5 : Bool} {u : State} (d : DapMsg) (s : State)
 (hk : Keeps ⟨false, false, b2, false, false, b5⟩ u s) :
    ∀ t, execEnterStanding d s = .next t → Keeps ⟨false, false, b2, false, false, b5⟩ u t := by
  intro t e
  unfold execEnterStanding at e
  cases e
  repeat' (first
    | with_reducible assumption | with_reducible apply keeps_dapServe | with_reducible apply keeps_doEnterStanding
    | (intro _) | split | dsimp only [id_eq])

theorem keeps_execRefclkLoss {b2 b5 : Bool} {u : State} (s : State)
 (hk : Keeps ⟨false, false, b2, false, false, b5⟩ u s) :
    ∀ t, execRefclkLoss s = .next t → Keeps ⟨false, false, b2, false, false, b5⟩ u t := by
  intro t e
  unfold execRefclkLoss at e
  cases e
  repeat' (first
    | with_reducible assumption | with_reducible apply keeps_setObj | with_reducible apply keeps_standing | (intro _)
    | split | dsimp only [id_eq])

theorem keeps_execThermalTrip {b2 b5 : Bool} {u : State} (die : ℕ) (s : State)
 (hk : Keeps ⟨false, false, b2, false, false, b5⟩ u s) :
    ∀ t, execThermalTrip die s = .next t → Keeps ⟨false, false, b2, false, false, b5⟩ u t := by
  intro t e
  unfold execThermalTrip at e
  cases e
  repeat' (first
    | with_reducible assumption | with_reducible apply keeps_emit | with_reducible apply keeps_raiseEvent
    | with_reducible apply keeps_standing | fail_if_no_progress with_reducible apply keeps_mk
    | fail_if_no_progress with_reducible apply keeps_mk_custody | (intro _) | split | dsimp only [id_eq])

theorem keeps_doDrainBegin {b1 b2 b3 b5 : Bool} {u : State} (c : Ctx) (s : State)
 (hk : Keeps ⟨false, b1, b2, b3, false, b5⟩ u s) :
    Keeps ⟨false, b1, b2, b3, false, b5⟩ u (doDrainBegin c s) := by
  unfold doDrainBegin
  try dsimp only
  repeat' (first
    | with_reducible assumption | with_reducible apply keeps_applied | with_reducible apply keeps_enterState
    | with_reducible apply keeps_finBad | with_reducible apply keeps_returnRows | (intro _) | split | dsimp only [id_eq])

theorem keeps_execDrainBegin {b1 b2 b3 b5 : Bool} {u : State} (d : DapMsg) (s : State)
 (hk : Keeps ⟨false, b1, b2, b3, false, b5⟩ u s) :
    ∀ t, execDrainBegin d s = .next t → Keeps ⟨false, b1, b2, b3, false, b5⟩ u t := by
  intro t e
  unfold execDrainBegin at e
  cases e
  repeat' (first
    | with_reducible assumption | with_reducible apply keeps_dapServe | with_reducible apply keeps_doDrainBegin
    | (intro _) | split | dsimp only [id_eq])

theorem keeps_takeImage {b0 b1 b2 b3 b4 b5 : Bool} {u : State} (v : Tab ℕ) (s : State)
 (hk : Keeps ⟨b0, b1, b2, b3, b4, b5⟩ u s) :
    Keeps ⟨b0, b1, b2, b3, b4, b5⟩ u (takeImage v s) := by
  unfold takeImage
  try dsimp only
  repeat' (first
    | with_reducible assumption | fail_if_no_progress with_reducible apply keeps_mk | with_reducible apply keeps_foldl
    | with_reducible apply keeps_foldl_snd | (intro _) | split | dsimp only [id_eq])

theorem keeps_takeConfig {b0 b1 b2 b3 b4 b5 : Bool} {u : State} (die : ℕ) (s : State)
 (hk : Keeps ⟨b0, b1, b2, b3, b4, b5⟩ u s) :
    Keeps ⟨b0, b1, b2, b3, b4, b5⟩ u (takeConfig die s) := by
  unfold takeConfig
  try dsimp only
  repeat' (first
    | with_reducible assumption | with_reducible apply keeps_setBlock | with_reducible apply keeps_setReg
    | fail_if_no_progress with_reducible apply keeps_mk | (intro _) | split | dsimp only [id_eq])

theorem keeps_takeAllConfig {b0 b1 b2 b3 b4 b5 : Bool} {u : State} (s : State)
 (hk : Keeps ⟨b0, b1, b2, b3, b4, b5⟩ u s) :
    Keeps ⟨b0, b1, b2, b3, b4, b5⟩ u (takeAllConfig s) := by
  unfold takeAllConfig
  try dsimp only
  repeat' (first
    | with_reducible assumption | with_reducible apply keeps_takeConfig | with_reducible apply keeps_foldl
    | with_reducible apply keeps_foldl_snd | (intro _) | split | dsimp only [id_eq])

theorem keeps_restoreImage {b0 b1 b2 b3 b4 b5 : Bool} {u : State} (s : State) (hk : Keeps ⟨b0, b1, b2, b3, b4, b5⟩ u s) :
    Keeps ⟨b0, b1, b2, b3, b4, b5⟩ u (restoreImage s) := by
  unfold restoreImage
  try dsimp only
  repeat' (first
    | with_reducible assumption | with_reducible apply keeps_raiseEvent | with_reducible apply keeps_setObj
    | with_reducible apply keeps_takeImage | fail_if_no_progress with_reducible apply keeps_mk | (intro _) | split
    | dsimp only [id_eq])

theorem keeps_clearUnits {u : State} (keep : Nat → Bool) (s : State)
 (hk : Keeps ⟨false, false, false, false, false, false⟩ u s) : Keeps ⟨false, false, false, false, false, false⟩ u
 (clearUnits keep s) :=
  have h := keeps_dropWork { s with openReqs := [], qps := [] } (keeps_mk hk)
  { h with mem := fun m => ⟨(hk.mem m).1.filter _, fun c hc => (hk.mem m).2 c (List.mem_filter.mp hc).1⟩
           custody := nofun, memory := nofun, sync := nofun, config := nofun, tables := nofun, maps := nofun }

theorem keeps_clearTrip {b1 b2 b3 b4 b5 : Bool} {u : State} (s : State) (hk : Keeps ⟨false, b1, b2, b3, b4, b5⟩ u s) :
    Keeps ⟨false, b1, b2, b3, b4, b5⟩ u (clearTrip s) := by
  unfold clearTrip
  try dsimp only
  repeat' (first
    | with_reducible assumption | with_reducible apply keeps_emit | fail_if_no_progress with_reducible apply keeps_mk
    | fail_if_no_progress with_reducible apply keeps_mk_custody | (intro _) | split | dsimp only [id_eq])

theorem keeps_takeMeters {b0 b1 b2 b3 b4 b5 : Bool} {u : State} (s : State) (hk : Keeps ⟨b0, b1, b2, b3, b4, b5⟩ u s) :
    Keeps ⟨b0, b1, b2, b3, b4, b5⟩ u (takeMeters s) := by
  unfold takeMeters
  try dsimp only
  repeat' (first
    | with_reducible assumption | with_reducible apply keeps_bump | with_reducible apply keeps_drawFree
    | with_reducible refine keeps_drawFree_eq (by assumption) ?_ | with_reducible apply keeps_foldl
    | with_reducible apply keeps_foldl_snd | (intro _) | split | dsimp only [id_eq])

theorem keeps_triggerReset {b1 b2 b5 : Bool} {u : State} (cause : ℕ) (held : Bool) (s : State)
 (hk : Keeps ⟨false, b1, b2, false, false, b5⟩ u s) :
    Keeps ⟨false, b1, b2, false, false, b5⟩ u (triggerReset cause held s) := by
  unfold triggerReset
  try dsimp only
  repeat' (first
    | with_reducible assumption | with_reducible apply keeps_clearQps | with_reducible apply keeps_closeAllSessions
    | with_reducible apply keeps_dropWork | with_reducible apply keeps_setObj | with_reducible apply keeps_takeMeters
    | fail_if_no_progress with_reducible apply keeps_mk | fail_if_no_progress with_reducible apply keeps_mk_custody
    | (intro _) | split | dsimp only [id_eq])

theorem keeps_resetDone {u : State} (cause : ℕ) (s : State) (hk : Keeps ⟨false, false, false, false, false, false⟩ u s) :
    Keeps ⟨false, false, false, false, false, false⟩ u (resetDone cause s) := by
  unfold resetDone
  try dsimp only
  repeat' (first
    | with_reducible assumption | with_reducible apply keeps_appendLog | with_reducible apply keeps_bump
    | with_reducible apply keeps_clearTrip | with_reducible apply keeps_clearUnits | with_reducible apply keeps_enterState
    | with_reducible apply keeps_setObj | fail_if_no_progress with_reducible apply keeps_mk
    | fail_if_no_progress with_reducible apply keeps_mk_custody | (intro _) | split | dsimp only [id_eq])

theorem keeps_sample {b0 b1 b2 b3 b4 b5 : Bool} {u : State} (x : Straps) (s : State)
 (hk : Keeps ⟨b0, b1, b2, b3, b4, b5⟩ u s) :
    Keeps ⟨b0, b1, b2, b3, b4, b5⟩ u (sample x s) := by
  unfold sample
  try dsimp only
  repeat' (first
    | with_reducible assumption | with_reducible apply keeps_setObj | (intro _) | split | dsimp only [id_eq])

theorem keeps_execPkgResetNAssert {b1 b2 b5 : Bool} {u : State} (s : State)
 (hk : Keeps ⟨false, b1, b2, false, false, b5⟩ u s) :
    ∀ t, execPkgResetNAssert s = .next t → Keeps ⟨false, b1, b2, false, false, b5⟩ u t := by
  intro t e
  unfold execPkgResetNAssert at e
  cases e
  repeat' (first
    | with_reducible assumption | with_reducible apply keeps_triggerReset | (intro _) | split | dsimp only [id_eq])

theorem keeps_execNorFreeRelease {b1 b2 b3 b4 b5 : Bool} {u : State} (s : State)
 (hk : Keeps ⟨false, b1, b2, b3, b4, b5⟩ u s) :
    ∀ t, execNorFreeRelease s = .next t → Keeps ⟨false, b1, b2, b3, b4, b5⟩ u t := by
  intro t e
  unfold execNorFreeRelease at e
  cases e
  repeat' (first
    | with_reducible assumption | with_reducible apply keeps_emit | fail_if_no_progress with_reducible apply keeps_mk
    | fail_if_no_progress with_reducible apply keeps_mk_custody | (intro _) | split | dsimp only [id_eq])

theorem keeps_execPkgResetNRelease {b1 b2 b3 b4 b5 : Bool} {u : State} (straps : Straps) (s : State)
 (hk : Keeps ⟨false, b1, b2, b3, b4, b5⟩ u s) :
    ∀ t, execPkgResetNRelease straps s = .next t → Keeps ⟨false, b1, b2, b3, b4, b5⟩ u t := by
  intro t e
  unfold execPkgResetNRelease at e
  cases e
  repeat' (first
    | with_reducible assumption | with_reducible apply keeps_emit | with_reducible apply keeps_sample
    | fail_if_no_progress with_reducible apply keeps_mk | fail_if_no_progress with_reducible apply keeps_mk_custody
    | (intro _) | split | dsimp only [id_eq])

theorem keeps_doPkgReset {b1 b2 b3 b4 b5 : Bool} {u : State} (c : Ctx) (s : State)
 (hk : Keeps ⟨false, b1, b2, b3, b4, b5⟩ u s) :
    Keeps ⟨false, b1, b2, b3, b4, b5⟩ u (doPkgReset c s) := by
  unfold doPkgReset
  try dsimp only
  repeat' (first
    | with_reducible assumption | with_reducible apply keeps_applied | with_reducible apply keeps_finBad
    | fail_if_no_progress with_reducible apply keeps_mk | fail_if_no_progress with_reducible apply keeps_mk_custody
    | (intro _) | split | dsimp only [id_eq])

theorem keeps_execPkgReset {b1 b2 b3 b4 b5 : Bool} {u : State} (d : DapMsg) (s : State)
 (hk : Keeps ⟨false, b1, b2, b3, b4, b5⟩ u s) :
    ∀ t, execPkgReset d s = .next t → Keeps ⟨false, b1, b2, b3, b4, b5⟩ u t := by
  intro t e
  unfold execPkgReset at e
  cases e
  repeat' (first
    | with_reducible assumption | with_reducible apply keeps_dapServe | with_reducible apply keeps_doPkgReset | (intro _)
    | split | dsimp only [id_eq])

theorem keeps_execPkgResetTrigger {b1 b2 b5 : Bool} {u : State} (s : State)
 (hk : Keeps ⟨false, b1, b2, false, false, b5⟩ u s) :
    ∀ t, execPkgResetTrigger s = .next t → Keeps ⟨false, b1, b2, false, false, b5⟩ u t := by
  intro t e
  unfold execPkgResetTrigger at e
  cases e
  repeat' (first
    | with_reducible assumption | with_reducible apply keeps_triggerReset | (intro _) | split | dsimp only [id_eq])

theorem keeps_execResetShutdownDone {u : State} (s : State) (hk : Keeps ⟨false, false, false, false, false, false⟩ u s) :
    ∀ t, execResetShutdownDone s = .next t → Keeps ⟨false, false, false, false, false, false⟩ u t := by
  intro t e
  unfold execResetShutdownDone at e
  cases e
  repeat' (first
    | with_reducible assumption | with_reducible apply keeps_resetDone | fail_if_no_progress with_reducible apply keeps_mk
    | (intro _) | split | dsimp only [id_eq])

theorem keeps_setInput {b0 b1 b2 b3 b4 b5 : Bool} {u : State} (mv : ℕ) (s : State)
 (hk : Keeps ⟨b0, b1, b2, b3, b4, b5⟩ u s) :
    Keeps ⟨b0, b1, b2, b3, b4, b5⟩ u (setInput mv s) := by
  unfold setInput
  try dsimp only
  repeat' (first
    | with_reducible assumption | with_reducible apply keeps_setObj | with_reducible apply keeps_setReg | (intro _)
    | split | dsimp only [id_eq])

theorem keeps_execInputStable {b1 b2 b3 b4 b5 : Bool} {u : State} (mv : ℕ) (s : State)
 (hk : Keeps ⟨false, b1, b2, b3, b4, b5⟩ u s) :
    ∀ t, execInputStable mv s = .next t → Keeps ⟨false, b1, b2, b3, b4, b5⟩ u t := by
  intro t e
  unfold execInputStable at e
  cases e
  repeat' (first
    | with_reducible assumption | with_reducible apply keeps_setInput | fail_if_no_progress with_reducible apply keeps_mk
    | fail_if_no_progress with_reducible apply keeps_mk_custody | (intro _) | split | dsimp only [id_eq])

theorem keeps_execPackageBusRegulated {b1 b2 b3 b4 b5 : Bool} {u : State} (straps : Straps) (ref : Bool) (s : State)
 (hk : Keeps ⟨false, b1, b2, b3, b4, b5⟩ u s) :
    ∀ t, execPackageBusRegulated straps ref s = .next t → Keeps ⟨false, b1, b2, b3, b4, b5⟩ u t := by
  intro t e
  unfold execPackageBusRegulated at e
  cases e
  repeat' (first
    | with_reducible assumption | with_reducible apply keeps_bump | with_reducible apply keeps_enterState
    | with_reducible apply keeps_sample | with_reducible apply keeps_setObj
    | fail_if_no_progress with_reducible apply keeps_mk | fail_if_no_progress with_reducible apply keeps_mk_custody
    | (intro _) | split | dsimp only [id_eq])

theorem keeps_execInputLowWarning {b0 b1 b2 b3 b4 b5 : Bool} {u : State} (mv : ℕ) (s : State)
 (hk : Keeps ⟨b0, b1, b2, b3, b4, b5⟩ u s) :
    ∀ t, execInputLowWarning mv s = .next t → Keeps ⟨b0, b1, b2, b3, b4, b5⟩ u t := by
  intro t e
  unfold execInputLowWarning at e
  cases e
  repeat' (first
    | with_reducible assumption | with_reducible apply keeps_raiseEvent | with_reducible apply keeps_setInput | (intro _)
    | split | dsimp only [id_eq])

theorem keeps_loseInput {u : State} (s : State) (hk : Keeps ⟨false, false, false, false, false, false⟩ u s) :
    Keeps ⟨false, false, false, false, false, false⟩ u (loseInput s) := by
  unfold loseInput
  try dsimp only
  repeat' (first
    | with_reducible assumption | with_reducible apply keeps_clearTrip | with_reducible apply keeps_clearUnits
    | fail_if_no_progress with_reducible apply keeps_filter_all | fail_if_no_progress with_reducible apply keeps_mk
    | fail_if_no_progress with_reducible apply keeps_mk_custody | fail_if_no_progress with_reducible apply keeps_mk_memory
    | fail_if_no_progress with_reducible apply keeps_mk_all | (intro _) | split | dsimp only [id_eq])

theorem keeps_execInputLoss {u : State} (mv : ℕ) (s : State) (hk : Keeps ⟨false, false, false, false, false, false⟩ u s) :
    ∀ t, execInputLoss mv s = .next t → Keeps ⟨false, false, false, false, false, false⟩ u t := by
  intro t e
  unfold execInputLoss at e
  cases e
  repeat' (first
    | with_reducible assumption | with_reducible apply keeps_loseInput | (intro _) | split | dsimp only [id_eq])

end Sys2Proof.Machine
end

