-- ==== Sys2Proof/Laws/KeepsPackage.lean ====
section
/-! SUPPORT. What the operations keep (Laws/Keeps.lean): those of bring-up, power, reliability, SPDM, custody and the dictionary's objects. -/

set_option maxRecDepth 4000
set_option linter.unusedTactic false
set_option linter.unreachableTactic false

namespace Sys2Proof.Machine

theorem keeps_setFwSlot {b1 b2 b3 b4 b5 : Bool} {u : State} (k : ℕ) (f : FwSlot → FwSlot) (s : State)
 (hk : Keeps ⟨false, b1, b2, b3, b4, b5⟩ u s) :
    Keeps ⟨false, b1, b2, b3, b4, b5⟩ u (setFwSlot k f s) := by
  unfold setFwSlot
  try dsimp only
  repeat' (first
    | with_reducible assumption | fail_if_no_progress with_reducible apply keeps_mk
    | fail_if_no_progress with_reducible apply keeps_mk_custody | (intro _) | split | dsimp only [id_eq])

theorem keeps_logFirmware {b1 b2 b3 b4 b5 : Bool} {u : State} (k : ℕ) (version : ℕ) (cause : ℕ) (s : State)
 (hk : Keeps ⟨false, b1, b2, b3, b4, b5⟩ u s) :
    Keeps ⟨false, b1, b2, b3, b4, b5⟩ u (logFirmware k version cause s) := by
  unfold logFirmware
  try dsimp only
  repeat' (first
    | with_reducible assumption | with_reducible apply keeps_appendLog | (intro _) | split | dsimp only [id_eq])

theorem keeps_runSlot {b1 b2 b3 b4 b5 : Bool} {u : State} (k : ℕ) (s : State)
 (hk : Keeps ⟨false, b1, b2, b3, b4, b5⟩ u s) :
    Keeps ⟨false, b1, b2, b3, b4, b5⟩ u (runSlot k s) := by
  unfold runSlot
  try dsimp only
  repeat' (first
    | with_reducible assumption | with_reducible apply keeps_setFwSlot | with_reducible apply keeps_setObj
    | fail_if_no_progress with_reducible apply keeps_mk | fail_if_no_progress with_reducible apply keeps_mk_custody
    | (intro _) | split | dsimp only [id_eq])

theorem keeps_checkLog {b1 b2 b3 b4 b5 : Bool} {u : State} (broken : Option ℕ) (s : State)
 (hk : Keeps ⟨false, b1, b2, b3, b4, b5⟩ u s) :
    Keeps ⟨false, b1, b2, b3, b4, b5⟩ u (checkLog broken s) := by
  unfold checkLog
  try dsimp only
  repeat' (first
    | with_reducible assumption | with_reducible apply keeps_appendLog | with_reducible apply keeps_checkpoint
    | with_reducible apply keeps_raiseEvent | fail_if_no_progress with_reducible apply keeps_mk | (intro _) | split
    | dsimp only [id_eq])

theorem keeps_boot {b1 b2 b3 b4 b5 : Bool} {u : State} (k : ℕ) (s : State) (hk : Keeps ⟨false, b1, b2, b3, b4, b5⟩ u s) :
    Keeps ⟨false, b1, b2, b3, b4, b5⟩ u (boot k s) := by
  unfold boot
  try dsimp only
  repeat' (first
    | with_reducible assumption | with_reducible apply keeps_appendLog | with_reducible apply keeps_runSlot
    | with_reducible apply keeps_setDom | fail_if_no_progress with_reducible apply keeps_mk | (intro _) | split
    | dsimp only [id_eq])

theorem keeps_doRotVerify {b1 b2 b3 b4 b5 : Bool} {u : State} (fa : FwFound) (fb : FwFound) (broken : Option ℕ)
 (s : State) (hk : Keeps ⟨false, b1, b2, b3, b4, b5⟩ u s) :
    Keeps ⟨false, b1, b2, b3, b4, b5⟩ u (doRotVerify fa fb broken s) := by
  unfold doRotVerify
  try dsimp only
  repeat' (first
    | with_reducible assumption | with_reducible apply keeps_boot | with_reducible apply keeps_checkLog
    | with_reducible apply keeps_logFirmware | with_reducible apply keeps_raiseEvent | with_reducible apply keeps_setDom
    | with_reducible apply keeps_setFwSlot | fail_if_no_progress with_reducible apply keeps_mk | (intro _) | split
    | dsimp only [id_eq])

theorem keeps_execRotVerifyDone {b1 b2 b3 b4 b5 : Bool} {u : State} (slotA : FwFound) (slotB : FwFound)
 (logBreak : Option ℕ) (s : State) (hk : Keeps ⟨false, b1, b2, b3, b4, b5⟩ u s) :
    ∀ t, execRotVerifyDone slotA slotB logBreak s = .next t → Keeps ⟨false, b1, b2, b3, b4, b5⟩ u t := by
  intro t e
  unfold execRotVerifyDone at e
  cases e
  repeat' (first
    | with_reducible assumption | with_reducible apply keeps_doRotVerify | (intro _) | split | dsimp only [id_eq])

theorem keeps_setFar {b0 b1 b2 b3 b4 b5 : Bool} {u : State} (far : ℕ) (readNs : ℕ) (chamoisNs : ℕ) (s : State)
 (hk : Keeps ⟨b0, b1, b2, b3, b4, b5⟩ u s) :
    Keeps ⟨b0, b1, b2, b3, b4, b5⟩ u (setFar far readNs chamoisNs s) := by
  unfold setFar
  try dsimp only
  repeat' (first
    | with_reducible assumption | with_reducible apply keeps_setObj | (intro _) | split | dsimp only [id_eq])

theorem keeps_powerAll {b0 b1 b2 b3 b4 b5 : Bool} {u : State} (s : State) (hk : Keeps ⟨b0, b1, b2, b3, b4, b5⟩ u s) :
    Keeps ⟨b0, b1, b2, b3, b4, b5⟩ u (powerAll s) := by
  unfold powerAll
  try dsimp only
  repeat' (first
    | with_reducible assumption | with_reducible apply keeps_setDom | fail_if_no_progress with_reducible apply keeps_mk
    | with_reducible apply keeps_foldl | with_reducible apply keeps_foldl_snd | (intro _) | split | dsimp only [id_eq])

theorem keeps_replay {b0 b2 b3 b4 b5 : Bool} {u : State} (far : List ℕ) (near : List ℕ) (s : State)
 (hk : Keeps ⟨b0, false, b2, b3, b4, b5⟩ u s) :
    Keeps ⟨b0, false, b2, b3, b4, b5⟩ u (replay far near s) := by
  unfold replay
  try dsimp only
  repeat' (first
    | with_reducible assumption | with_reducible apply keeps_bump | with_reducible apply keeps_placePoisoned
    | fail_if_no_progress with_reducible apply keeps_filter | fail_if_no_progress with_reducible apply keeps_mk
    | fail_if_no_progress with_reducible apply keeps_mk_memory | with_reducible apply keeps_foldl
    | with_reducible apply keeps_foldl_snd | (intro _) | split | dsimp only [id_eq])

theorem keeps_replayMaps {b0 b2 b3 b4 b5 : Bool} {u : State} (s : State) (hk : Keeps ⟨b0, false, b2, b3, b4, b5⟩ u s) :
    Keeps ⟨b0, false, b2, b3, b4, b5⟩ u (replayMaps s) := by
  unfold replayMaps
  try dsimp only
  repeat' (first
    | with_reducible assumption | with_reducible apply keeps_replay | with_reducible apply keeps_setObj | (intro _)
    | split | dsimp only [id_eq])

theorem keeps_mediaKeyed {b1 b2 b3 b4 b5 : Bool} {u : State} (s : State) (hk : Keeps ⟨false, b1, b2, b3, b4, b5⟩ u s) :
    Keeps ⟨false, b1, b2, b3, b4, b5⟩ u (mediaKeyed s) := by
  unfold mediaKeyed
  try dsimp only
  repeat' (first
    | with_reducible assumption | with_reducible apply keeps_drawKey
    | with_reducible refine keeps_drawKey_eq (by assumption) ?_ | fail_if_no_progress with_reducible apply keeps_mk
    | fail_if_no_progress with_reducible apply keeps_mk_custody | (intro _) | split | dsimp only [id_eq])

theorem keeps_discover {b2 b3 b4 b5 : Bool} {u : State} (f : FlashFound) (s : State)
 (hk : Keeps ⟨false, false, b2, b3, b4, b5⟩ u s) :
    Keeps ⟨false, false, b2, b3, b4, b5⟩ u (discover f s) := by
  unfold discover
  try dsimp only
  repeat' (first
    | with_reducible assumption | with_reducible apply keeps_mediaKeyed | with_reducible apply keeps_replayMaps
    | with_reducible apply keeps_setFar | (intro _) | split | dsimp only [id_eq])

theorem keeps_noFlash {b2 b3 b4 b5 : Bool} {u : State} (s : State) (hk : Keeps ⟨false, false, b2, b3, b4, b5⟩ u s) :
    Keeps ⟨false, false, b2, b3, b4, b5⟩ u (noFlash s) := by
  unfold noFlash
  try dsimp only
  repeat' (first
    | with_reducible assumption | with_reducible apply keeps_discover | with_reducible apply keeps_setObj
    | fail_if_no_progress with_reducible apply keeps_mk | fail_if_no_progress with_reducible apply keeps_mk_custody
    | (intro _) | split | dsimp only [id_eq])

theorem keeps_doMgmtReady {b2 b3 b4 b5 : Bool} {u : State} (s : State) (hk : Keeps ⟨false, false, b2, b3, b4, b5⟩ u s) :
    Keeps ⟨false, false, b2, b3, b4, b5⟩ u (doMgmtReady s) := by
  unfold doMgmtReady
  try dsimp only
  repeat' (first
    | with_reducible assumption | with_reducible apply keeps_enterState | with_reducible apply keeps_noFlash
    | with_reducible apply keeps_powerAll | with_reducible apply keeps_restoreImage | with_reducible apply keeps_setObj
    | with_reducible apply keeps_takeAllConfig | fail_if_no_progress with_reducible apply keeps_mk
    | fail_if_no_progress with_reducible apply keeps_mk_custody | with_reducible apply keeps_foldl
    | with_reducible apply keeps_foldl_snd | (intro _) | split | dsimp only [id_eq])

theorem keeps_execMgmtCoreReady {b2 b3 b4 b5 : Bool} {u : State} (s : State)
 (hk : Keeps ⟨false, false, b2, b3, b4, b5⟩ u s) :
    ∀ t, execMgmtCoreReady s = .next t → Keeps ⟨false, false, b2, b3, b4, b5⟩ u t := by
  intro t e
  unfold execMgmtCoreReady at e
  cases e
  repeat' (first
    | with_reducible assumption | with_reducible apply keeps_doMgmtReady | (intro _) | split | dsimp only [id_eq])

theorem keeps_offlineCluster {b1 b2 b4 b5 : Bool} {u : State} (c : ℕ) (s : State)
 (hk : Keeps ⟨false, b1, b2, false, b4, b5⟩ u s) :
    Keeps ⟨false, b1, b2, false, b4, b5⟩ u (offlineCluster c s) := by
  unfold offlineCluster
  try dsimp only
  repeat' (first
    | with_reducible assumption | with_reducible apply keeps_cfgEvent | with_reducible apply keeps_logRepair
    | with_reducible apply keeps_setCluster | fail_if_no_progress with_reducible apply keeps_mk | (intro _) | split
    | dsimp only [id_eq])

theorem keeps_countOffline {b0 b1 b2 b3 b4 b5 : Bool} {u : State} (s : State) (hk : Keeps ⟨b0, b1, b2, b3, b4, b5⟩ u s) :
    Keeps ⟨b0, b1, b2, b3, b4, b5⟩ u (countOffline s) := by
  unfold countOffline
  try dsimp only
  repeat' (first
    | with_reducible assumption | with_reducible apply keeps_setObj | (intro _) | split | dsimp only [id_eq])

theorem keeps_tilesFound {b2 b4 b5 : Bool} {u : State} (cs : List SelfCause) (s : State)
 (hk : Keeps ⟨false, false, b2, false, b4, b5⟩ u s) :
    Keeps ⟨false, false, b2, false, b4, b5⟩ u (tilesFound cs s) := by
  unfold tilesFound
  try dsimp only
  repeat' (first
    | with_reducible assumption | with_reducible apply keeps_countOffline | with_reducible apply keeps_offlineCluster
    | with_reducible apply keeps_substitute | with_reducible apply keeps_foldl | with_reducible apply keeps_foldl_snd
    | (intro _) | split | dsimp only [id_eq])

theorem keeps_zeroNear {b0 b2 b3 b4 b5 : Bool} {u : State} (s : State) (hk : Keeps ⟨b0, false, b2, b3, b4, b5⟩ u s) :
    Keeps ⟨b0, false, b2, b3, b4, b5⟩ u (zeroNear s) := by
  unfold zeroNear
  try dsimp only
  repeat' (first
    | with_reducible assumption | fail_if_no_progress with_reducible apply keeps_filter
    | fail_if_no_progress with_reducible apply keeps_mk | fail_if_no_progress with_reducible apply keeps_mk_memory
    | (intro _) | split | dsimp only [id_eq])

theorem keeps_lostStaged {b0 b2 b3 b4 b5 : Bool} {u : State} (e : ℕ × Extent) (s : State)
 (hk : Keeps ⟨b0, false, b2, b3, b4, b5⟩ u s) :
    Keeps ⟨b0, false, b2, b3, b4, b5⟩ u (lostStaged e s) := by
  unfold lostStaged
  try dsimp only
  repeat' (first
    | with_reducible assumption | with_reducible apply keeps_bump | with_reducible apply keeps_placePoisoned
    | fail_if_no_progress with_reducible apply keeps_mk | (intro _) | split | dsimp only [id_eq])

theorem keeps_hbmTested {b2 b3 b4 b5 : Bool} {u : State} (w1 : WarmCheck) (s : State)
 (hk : Keeps ⟨false, false, b2, b3, b4, b5⟩ u s) :
    Keeps ⟨false, false, b2, b3, b4, b5⟩ u (hbmTested w1 s) := by
  unfold hbmTested
  try dsimp only
  repeat' (first
    | with_reducible assumption | with_reducible apply keeps_foundBad | with_reducible apply keeps_lostStaged
    | with_reducible apply keeps_replayMaps | with_reducible apply keeps_setObj | with_reducible apply keeps_zeroNear
    | fail_if_no_progress with_reducible apply keeps_mk | fail_if_no_progress with_reducible apply keeps_mk_custody
    | with_reducible apply keeps_foldl | with_reducible apply keeps_foldl_snd | (intro _) | split | dsimp only [id_eq])

theorem keeps_tryReady {b1 b2 b3 b4 b5 : Bool} {u : State} (s : State) (hk : Keeps ⟨false, b1, b2, b3, b4, b5⟩ u s) :
    Keeps ⟨false, b1, b2, b3, b4, b5⟩ u (tryReady s) := by
  unfold tryReady
  try dsimp only
  repeat' (first
    | with_reducible assumption | with_reducible apply keeps_enterState | with_reducible apply keeps_purgeReached
    | with_reducible apply keeps_setObj | fail_if_no_progress with_reducible apply keeps_mk
    | fail_if_no_progress with_reducible apply keeps_mk_custody | (intro _) | split | dsimp only [id_eq])

theorem keeps_endStep {b2 b5 : Bool} {u : State} (k : ℕ) (cs : List SelfCause) (flash : Option FlashFound)
 (w1 : WarmCheck) (s : State) (hk : Keeps ⟨false, false, b2, false, false, b5⟩ u s) :
    Keeps ⟨false, false, b2, false, false, b5⟩ u (endStep k cs flash w1 s) := by
  unfold endStep
  try dsimp only
  repeat' (first
    | with_reducible assumption | with_reducible apply keeps_discover | with_reducible apply keeps_hbmTested
    | with_reducible apply keeps_setObj | with_reducible apply keeps_standing | with_reducible apply keeps_tilesFound
    | with_reducible apply keeps_tryReady | fail_if_no_progress with_reducible apply keeps_mk
    | fail_if_no_progress with_reducible apply keeps_mk_custody | (intro _) | split | dsimp only [id_eq])

theorem keeps_execSelftestStepEnd {b2 b5 : Bool} {u : State} (step : ℕ) (causes : List SelfCause)
 (flash : Option FlashFound) (warm : WarmCheck) (s : State) (hk : Keeps ⟨false, false, b2, false, false, b5⟩ u s) :
    ∀ t, execSelftestStepEnd step causes flash warm s = .next t → Keeps ⟨false, false, b2, false, false, b5⟩ u t := by
  intro t e
  unfold execSelftestStepEnd at e
  cases e
  repeat' (first
    | with_reducible assumption | with_reducible apply keeps_endStep | (intro _) | split | dsimp only [id_eq])

theorem keeps_execSelftestStepTimeout {b2 b5 : Bool} {u : State} (step : ℕ) (die : ℕ) (unit : ℕ) (s : State)
 (hk : Keeps ⟨false, false, b2, false, false, b5⟩ u s) :
    ∀ t, execSelftestStepTimeout step die unit s = .next t → Keeps ⟨false, false, b2, false, false, b5⟩ u t := by
  intro t e
  unfold execSelftestStepTimeout at e
  cases e
  repeat' (first
    | with_reducible assumption | with_reducible apply keeps_endStep | (intro _) | split | dsimp only [id_eq])

theorem keeps_doStage {b1 b2 b3 b4 b5 : Bool} {u : State} (c : Ctx) (s : State)
 (hk : Keeps ⟨false, b1, b2, b3, b4, b5⟩ u s) :
    Keeps ⟨false, b1, b2, b3, b4, b5⟩ u (doStage c s) := by
  unfold doStage
  try dsimp only
  repeat' (first
    | with_reducible assumption | with_reducible apply keeps_applied | with_reducible apply keeps_fin
    | with_reducible apply keeps_finBad | with_reducible apply keeps_setFwSlot | with_reducible apply keeps_setObj
    | fail_if_no_progress with_reducible apply keeps_mk | (intro _) | split | dsimp only [id_eq])

theorem keeps_execFwStageData {b1 b2 b3 b4 b5 : Bool} {u : State} (d : DapMsg) (s : State)
 (hk : Keeps ⟨false, b1, b2, b3, b4, b5⟩ u s) :
    ∀ t, execFwStageData d s = .next t → Keeps ⟨false, b1, b2, b3, b4, b5⟩ u t := by
  intro t e
  unfold execFwStageData at e
  cases e
  repeat' (first
    | with_reducible assumption | with_reducible apply keeps_dapServe | with_reducible apply keeps_doStage | (intro _)
    | split | dsimp only [id_eq])

theorem keeps_doStageOffset {b1 b2 b3 b4 b5 : Bool} {u : State} (c : Ctx) (s : State)
 (hk : Keeps ⟨false, b1, b2, b3, b4, b5⟩ u s) :
    Keeps ⟨false, b1, b2, b3, b4, b5⟩ u (doStageOffset c s) := by
  unfold doStageOffset
  try dsimp only
  repeat' (first
    | with_reducible assumption | with_reducible apply keeps_applied | with_reducible apply keeps_finBad
    | with_reducible apply keeps_setObj | (intro _) | split | dsimp only [id_eq])

theorem keeps_doFwVerify {b1 b2 b3 b4 b5 : Bool} {u : State} (c : Ctx) (s : State)
 (hk : Keeps ⟨false, b1, b2, b3, b4, b5⟩ u s) :
    Keeps ⟨false, b1, b2, b3, b4, b5⟩ u (doFwVerify c s) := by
  unfold doFwVerify
  try dsimp only
  repeat' (first
    | with_reducible assumption | with_reducible apply keeps_fin | with_reducible apply keeps_finBad
    | fail_if_no_progress with_reducible apply keeps_mk | fail_if_no_progress with_reducible apply keeps_mk_custody
    | (intro _) | split | dsimp only [id_eq])

theorem keeps_execFwVerify {b1 b2 b3 b4 b5 : Bool} {u : State} (d : DapMsg) (s : State)
 (hk : Keeps ⟨false, b1, b2, b3, b4, b5⟩ u s) :
    ∀ t, execFwVerify d s = .next t → Keeps ⟨false, b1, b2, b3, b4, b5⟩ u t := by
  intro t e
  unfold execFwVerify at e
  cases e
  repeat' (first
    | with_reducible assumption | with_reducible apply keeps_dapServe | with_reducible apply keeps_doFwVerify | (intro _)
    | split | dsimp only [id_eq])

theorem keeps_doFwVerifyDone {b1 b2 b3 b4 b5 : Bool} {u : State} (f : FwFound) (s : State)
 (hk : Keeps ⟨false, b1, b2, b3, b4, b5⟩ u s) :
    Keeps ⟨false, b1, b2, b3, b4, b5⟩ u (doFwVerifyDone f s) := by
  unfold doFwVerifyDone
  try dsimp only
  repeat' (first
    | with_reducible assumption | with_reducible apply keeps_dapFinishKey | with_reducible apply keeps_setFwSlot
    | fail_if_no_progress with_reducible apply keeps_mk | fail_if_no_progress with_reducible apply keeps_mk_custody
    | (intro _) | split | dsimp only [id_eq])

theorem keeps_execFwVerifyDone {b1 b2 b3 b4 b5 : Bool} {u : State} (f : FwFound) (s : State)
 (hk : Keeps ⟨false, b1, b2, b3, b4, b5⟩ u s) :
    ∀ t, execFwVerifyDone f s = .next t → Keeps ⟨false, b1, b2, b3, b4, b5⟩ u t := by
  intro t e
  unfold execFwVerifyDone at e
  cases e
  repeat' (first
    | with_reducible assumption | with_reducible apply keeps_doFwVerifyDone | (intro _) | split | dsimp only [id_eq])

theorem keeps_restart {b1 b2 b3 b4 b5 : Bool} {u : State} (s : State) (hk : Keeps ⟨false, b1, b2, b3, b4, b5⟩ u s) :
    Keeps ⟨false, b1, b2, b3, b4, b5⟩ u (restart s) := by
  unfold restart
  try dsimp only
  repeat' (first
    | with_reducible assumption | with_reducible apply keeps_closeAllSessions
    | fail_if_no_progress with_reducible apply keeps_mk | fail_if_no_progress with_reducible apply keeps_mk_custody
    | (intro _) | split | dsimp only [id_eq])

theorem keeps_doFwHandover {b1 b2 b3 b4 b5 : Bool} {u : State} (c : Ctx) (s : State)
 (hk : Keeps ⟨false, b1, b2, b3, b4, b5⟩ u s) :
    Keeps ⟨false, b1, b2, b3, b4, b5⟩ u (doFwHandover c s) := by
  unfold doFwHandover
  try dsimp only
  repeat' (first
    | with_reducible assumption | with_reducible apply keeps_fin | with_reducible apply keeps_finBad
    | with_reducible apply keeps_finOk | with_reducible apply keeps_guardedEntry | with_reducible apply keeps_restart
    | with_reducible apply keeps_runSlot | with_reducible apply keeps_setFwSlot
    | fail_if_no_progress with_reducible apply keeps_mk | fail_if_no_progress with_reducible apply keeps_mk_custody
    | (intro _) | split | dsimp only [id_eq])

theorem keeps_execFwHandover {b1 b2 b3 b4 b5 : Bool} {u : State} (d : DapMsg) (s : State)
 (hk : Keeps ⟨false, b1, b2, b3, b4, b5⟩ u s) :
    ∀ t, execFwHandover d s = .next t → Keeps ⟨false, b1, b2, b3, b4, b5⟩ u t := by
  intro t e
  unfold execFwHandover at e
  cases e
  repeat' (first
    | with_reducible assumption | with_reducible apply keeps_dapServe | with_reducible apply keeps_doFwHandover
    | (intro _) | split | dsimp only [id_eq])

theorem keeps_doFwAlive {b1 b2 b3 b4 b5 : Bool} {u : State} (s : State) (hk : Keeps ⟨false, b1, b2, b3, b4, b5⟩ u s) :
    Keeps ⟨false, b1, b2, b3, b4, b5⟩ u (doFwAlive s) := by
  unfold doFwAlive
  try dsimp only
  repeat' (first
    | with_reducible assumption | with_reducible apply keeps_logFirmware | with_reducible apply keeps_setFwSlot
    | with_reducible apply keeps_setObj | fail_if_no_progress with_reducible apply keeps_mk
    | fail_if_no_progress with_reducible apply keeps_mk_custody | (intro _) | split | dsimp only [id_eq])

theorem keeps_execFwAlive {b1 b2 b3 b4 b5 : Bool} {u : State} (s : State) (hk : Keeps ⟨false, b1, b2, b3, b4, b5⟩ u s) :
    ∀ t, execFwAlive s = .next t → Keeps ⟨false, b1, b2, b3, b4, b5⟩ u t := by
  intro t e
  unfold execFwAlive at e
  cases e
  repeat' (first
    | with_reducible assumption | with_reducible apply keeps_doFwAlive | (intro _) | split | dsimp only [id_eq])

theorem keeps_doHandoverTimeout {b1 b2 b3 b4 b5 : Bool} {u : State} (s : State)
 (hk : Keeps ⟨false, b1, b2, b3, b4, b5⟩ u s) :
    Keeps ⟨false, b1, b2, b3, b4, b5⟩ u (doHandoverTimeout s) := by
  unfold doHandoverTimeout
  try dsimp only
  repeat' (first
    | with_reducible assumption | with_reducible apply keeps_logFirmware | with_reducible apply keeps_raiseEvent
    | with_reducible apply keeps_runSlot | with_reducible apply keeps_setFwSlot
    | fail_if_no_progress with_reducible apply keeps_mk | fail_if_no_progress with_reducible apply keeps_mk_custody
    | (intro _) | split | dsimp only [id_eq])

theorem keeps_execFwHandoverTimeout {b1 b2 b3 b4 b5 : Bool} {u : State} (s : State)
 (hk : Keeps ⟨false, b1, b2, b3, b4, b5⟩ u s) :
    ∀ t, execFwHandoverTimeout s = .next t → Keeps ⟨false, b1, b2, b3, b4, b5⟩ u t := by
  intro t e
  unfold execFwHandoverTimeout at e
  cases e
  repeat' (first
    | with_reducible assumption | with_reducible apply keeps_doHandoverTimeout | (intro _) | split | dsimp only [id_eq])

theorem keeps_execWatchdogExpiry {b1 b2 b3 b4 b5 : Bool} {u : State} (s : State)
 (hk : Keeps ⟨false, b1, b2, b3, b4, b5⟩ u s) :
    ∀ t, execWatchdogExpiry s = .next t → Keeps ⟨false, b1, b2, b3, b4, b5⟩ u t := by
  intro t e
  unfold execWatchdogExpiry at e
  cases e
  repeat' (first
    | with_reducible assumption | with_reducible apply keeps_restart | (intro _) | split | dsimp only [id_eq])

theorem keeps_doInterval {b0 b1 b2 b3 b4 b5 : Bool} {u : State} (p : ℕ) (ma : ℕ) (mv : ℕ) (tempDc : ℕ) (tempDie : ℕ)
 (s : State) (hk : Keeps ⟨b0, b1, b2, b3, b4, b5⟩ u s) :
    Keeps ⟨b0, b1, b2, b3, b4, b5⟩ u (doInterval p ma mv tempDc tempDie s) := by
  unfold doInterval
  try dsimp only
  repeat' (first
    | with_reducible assumption | with_reducible apply keeps_bump | with_reducible apply keeps_drawFree
    | with_reducible apply keeps_raiseEvent | with_reducible apply keeps_setObj | with_reducible apply keeps_setReg
    | with_reducible refine keeps_drawFree_eq (by assumption) ?_ | fail_if_no_progress with_reducible apply keeps_mk
    | (intro _) | split | dsimp only [id_eq])

theorem keeps_execPowerInterval {b0 b1 b2 b3 b4 b5 : Bool} {u : State} (powerW : ℕ) (inputMa : ℕ) (inputMv : ℕ)
 (tempDc : ℕ) (tempDie : ℕ) (s : State) (hk : Keeps ⟨b0, b1, b2, b3, b4, b5⟩ u s) :
    ∀ t, execPowerInterval powerW inputMa inputMv tempDc tempDie s = .next t → Keeps ⟨b0, b1, b2, b3, b4, b5⟩ u t := by
  intro t e
  unfold execPowerInterval at e
  cases e
  repeat' (first
    | with_reducible assumption | with_reducible apply keeps_doInterval | (intro _) | split | dsimp only [id_eq])

theorem keeps_execDomainIdleEntry {b0 b1 b2 b3 b4 b5 : Bool} {u : State} (dom : ℕ) (s : State)
 (hk : Keeps ⟨b0, b1, b2, b3, b4, b5⟩ u s) :
    ∀ t, execDomainIdleEntry dom s = .next t → Keeps ⟨b0, b1, b2, b3, b4, b5⟩ u t := by
  intro t e
  unfold execDomainIdleEntry at e
  cases e
  repeat' (first
    | with_reducible assumption | with_reducible apply keeps_setDom | fail_if_no_progress with_reducible apply keeps_mk
    | (intro _) | split | dsimp only [id_eq])

theorem keeps_becomeActive {b0 b1 b2 b3 b4 b5 : Bool} {u : State} (d : ℕ) (s : State)
 (hk : Keeps ⟨b0, b1, b2, b3, b4, b5⟩ u s) :
    Keeps ⟨b0, b1, b2, b3, b4, b5⟩ u (becomeActive d s) := by
  unfold becomeActive
  try dsimp only
  repeat' (first
    | with_reducible assumption | with_reducible apply keeps_clearWakes | with_reducible apply keeps_setDom
    | fail_if_no_progress with_reducible apply keeps_mk | (intro _) | split | dsimp only [id_eq])

theorem keeps_execDomainIdleExit {b0 b1 b2 b3 b4 b5 : Bool} {u : State} (dom : ℕ) (s : State)
 (hk : Keeps ⟨b0, b1, b2, b3, b4, b5⟩ u s) :
    ∀ t, execDomainIdleExit dom s = .next t → Keeps ⟨b0, b1, b2, b3, b4, b5⟩ u t := by
  intro t e
  unfold execDomainIdleExit at e
  cases e
  repeat' (first
    | with_reducible assumption | with_reducible apply keeps_becomeActive | (intro _) | split | dsimp only [id_eq])

theorem keeps_execRetainEntry {b0 b1 b2 b3 b4 b5 : Bool} {u : State} (dom : ℕ) (s : State)
 (hk : Keeps ⟨b0, b1, b2, b3, b4, b5⟩ u s) :
    ∀ t, execRetainEntry dom s = .next t → Keeps ⟨b0, b1, b2, b3, b4, b5⟩ u t := by
  intro t e
  unfold execRetainEntry at e
  cases e
  repeat' (first
    | with_reducible assumption | with_reducible apply keeps_leaveIdle | with_reducible apply keeps_setDom
    | with_reducible apply keeps_settleCommit | fail_if_no_progress with_reducible apply keeps_mk | (intro _) | split
    | dsimp only [id_eq])

theorem keeps_doOff {b0 b2 b4 b5 : Bool} {u : State} (d : ℕ) (s : State) (hk : Keeps ⟨b0, false, b2, false, b4, b5⟩ u s) :
    Keeps ⟨b0, false, b2, false, b4, b5⟩ u (doOff d s) := by
  unfold doOff
  try dsimp only
  repeat' (first
    | with_reducible assumption | with_reducible apply keeps_railsOff | with_reducible apply keeps_recallAll
    | with_reducible apply keeps_settleCommit | (intro _) | split | dsimp only [id_eq])

theorem keeps_execOffEntry {b0 b2 b4 b5 : Bool} {u : State} (dom : ℕ) (s : State)
 (hk : Keeps ⟨b0, false, b2, false, b4, b5⟩ u s) :
    ∀ t, execOffEntry dom s = .next t → Keeps ⟨b0, false, b2, false, b4, b5⟩ u t := by
  intro t e
  unfold execOffEntry at e
  cases e
  repeat' (first
    | with_reducible assumption | with_reducible apply keeps_doOff | (intro _) | split | dsimp only [id_eq])

theorem keeps_execWakeRequest {b0 b1 b2 b3 b4 b5 : Bool} {u : State} (dom : ℕ) (s : State)
 (hk : Keeps ⟨b0, b1, b2, b3, b4, b5⟩ u s) :
    ∀ t, execWakeRequest dom s = .next t → Keeps ⟨b0, b1, b2, b3, b4, b5⟩ u t := by
  intro t e
  unfold execWakeRequest at e
  cases e
  repeat' (first
    | with_reducible assumption | with_reducible apply keeps_wake | (intro _) | split | dsimp only [id_eq])

theorem keeps_doWakeComplete {b0 b1 b2 b3 b4 b5 : Bool} {u : State} (d : ℕ) (s : State)
 (hk : Keeps ⟨b0, b1, b2, b3, b4, b5⟩ u s) :
    Keeps ⟨b0, b1, b2, b3, b4, b5⟩ u (doWakeComplete d s) := by
  unfold doWakeComplete
  try dsimp only
  repeat' (first
    | with_reducible assumption | with_reducible apply keeps_recallAll | with_reducible apply keeps_setDom
    | fail_if_no_progress with_reducible apply keeps_mk | (intro _) | split | dsimp only [id_eq])

theorem keeps_execWakeComplete {b0 b1 b2 b3 b4 b5 : Bool} {u : State} (dom : ℕ) (s : State)
 (hk : Keeps ⟨b0, b1, b2, b3, b4, b5⟩ u s) :
    ∀ t, execWakeComplete dom s = .next t → Keeps ⟨b0, b1, b2, b3, b4, b5⟩ u t := by
  intro t e
  unfold execWakeComplete at e
  cases e
  repeat' (first
    | with_reducible assumption | with_reducible apply keeps_doWakeComplete | (intro _) | split | dsimp only [id_eq])

theorem keeps_returned {b0 b1 b2 b3 b4 : Bool} {u : State} (d : ℕ) (s : State)
 (hk : Keeps ⟨b0, b1, b2, b3, b4, false⟩ u s) :
    Keeps ⟨b0, b1, b2, b3, b4, false⟩ u (returned d s) := by
  unfold returned
  try dsimp only
  repeat' (first
    | with_reducible assumption | with_reducible apply keeps_takeConfig
    | fail_if_no_progress with_reducible apply keeps_mk | fail_if_no_progress with_reducible apply keeps_mk_maps
    | with_reducible apply keeps_foldl | with_reducible apply keeps_foldl_snd | (intro _) | split | dsimp only [id_eq])

theorem keeps_recover {b0 b1 b2 b4 b5 : Bool} {u : State} (d : ℕ) (s : State)
 (hk : Keeps ⟨b0, b1, b2, false, b4, b5⟩ u s) :
    Keeps ⟨b0, b1, b2, false, b4, b5⟩ u (recover d s) := by
  unfold recover
  try dsimp only
  repeat' (first
    | with_reducible assumption | with_reducible apply keeps_bump | with_reducible apply keeps_emptyStore
    | with_reducible apply keeps_setDom | fail_if_no_progress with_reducible apply keeps_mk
    | fail_if_no_progress with_reducible apply keeps_mk_config | (intro _) | split | dsimp only [id_eq])

theorem keeps_settleHeldReady {b0 b1 b2 b3 b4 b5 : Bool} {u : State} (s : State)
 (hk : Keeps ⟨b0, b1, b2, b3, b4, b5⟩ u s) :
    Keeps ⟨b0, b1, b2, b3, b4, b5⟩ u (settleHeldReady s) := by
  unfold settleHeldReady
  try dsimp only
  repeat' (first
    | with_reducible assumption | with_reducible apply keeps_dapFinishKey | (intro _) | split | dsimp only [id_eq])

theorem keeps_doChecked {b0 : Bool} {u : State} (d : ℕ) (s : State)
 (hk : Keeps ⟨b0, false, false, false, false, false⟩ u s) :
    Keeps ⟨b0, false, false, false, false, false⟩ u (doChecked d s) := by
  unfold doChecked
  try dsimp only
  repeat' (first
    | with_reducible assumption | with_reducible apply keeps_becomeActive | with_reducible apply keeps_bump
    | with_reducible apply keeps_recover | with_reducible apply keeps_returned | with_reducible apply keeps_runQps
    | with_reducible apply keeps_settleHeldReady | with_reducible apply keeps_settleTiles | (intro _) | split
    | dsimp only [id_eq])

theorem keeps_execGenerationCheckDone {b0 : Bool} {u : State} (dom : ℕ) (s : State)
 (hk : Keeps ⟨b0, false, false, false, false, false⟩ u s) :
    ∀ t, execGenerationCheckDone dom s = .next t → Keeps ⟨b0, false, false, false, false, false⟩ u t := by
  intro t e
  unfold execGenerationCheckDone at e
  cases e
  repeat' (first
    | with_reducible assumption | with_reducible apply keeps_doChecked | (intro _) | split | dsimp only [id_eq])

theorem keeps_holdDie {b1 b2 b3 b4 b5 : Bool} {u : State} (die : ℕ) (s : State)
 (hk : Keeps ⟨false, b1, b2, b3, b4, b5⟩ u s) :
    Keeps ⟨false, b1, b2, b3, b4, b5⟩ u (holdDie die s) := by
  unfold holdDie
  try dsimp only
  repeat' (first
    | with_reducible assumption | with_reducible apply keeps_logRepair | with_reducible apply keeps_maskBit
    | with_reducible apply keeps_raiseEvent | with_reducible apply keeps_setDom
    | fail_if_no_progress with_reducible apply keeps_mk | with_reducible apply keeps_foldl
    | with_reducible apply keeps_foldl_snd | (intro _) | split | dsimp only [id_eq])

theorem keeps_evictCluster {b0 b2 b5 : Bool} {u : State} (c : ℕ) (s : State)
 (hk : Keeps ⟨b0, false, b2, false, false, b5⟩ u s) :
    Keeps ⟨b0, false, b2, false, false, b5⟩ u (evictCluster c s) := by
  unfold evictCluster
  try dsimp only
  repeat' (first
    | with_reducible assumption | with_reducible apply keeps_endLoad | with_reducible apply keeps_failCalls
    | with_reducible apply keeps_releaseCluster | with_reducible apply keeps_setCluster
    | with_reducible apply keeps_unassignRole | fail_if_no_progress with_reducible apply keeps_mk | (intro _) | split
    | dsimp only [id_eq])

theorem keeps_dropAccesses {b0 b1 b2 b3 b4 b5 : Bool} {u : State} (die : ℕ) (s : State)
 (hk : Keeps ⟨b0, b1, b2, b3, b4, b5⟩ u s) :
    Keeps ⟨b0, b1, b2, b3, b4, b5⟩ u (dropAccesses die s) := by
  unfold dropAccesses
  try dsimp only
  repeat' (first
    | with_reducible assumption | fail_if_no_progress with_reducible apply keeps_mk | (intro _) | split
    | dsimp only [id_eq])

theorem keeps_stopMoves {b0 b1 b2 b3 b4 b5 : Bool} {u : State} (s : State) (hk : Keeps ⟨b0, b1, b2, b3, b4, b5⟩ u s) :
    Keeps ⟨b0, b1, b2, b3, b4, b5⟩ u (stopMoves s) := by
  unfold stopMoves
  try dsimp only
  repeat' (first
    | with_reducible assumption | fail_if_no_progress with_reducible apply keeps_mk | (intro _) | split
    | dsimp only [id_eq])

theorem keeps_dieStops {u : State} (die : ℕ) (s : State) (hk : Keeps ⟨false, false, false, false, false, false⟩ u s) :
    Keeps ⟨false, false, false, false, false, false⟩ u (dieStops die s) := by
  unfold dieStops
  try dsimp only
  repeat' (first
    | with_reducible assumption | with_reducible apply keeps_loseInput | with_reducible apply keeps_standing | (intro _)
    | split | dsimp only [id_eq])

theorem keeps_dieFault {u : State} (die : ℕ) (s : State) (hk : Keeps ⟨false, false, false, false, false, false⟩ u s) :
    Keeps ⟨false, false, false, false, false, false⟩ u (dieFault die s) := by
  unfold dieFault
  try dsimp only
  repeat' (first
    | with_reducible assumption | with_reducible apply keeps_dieStops | with_reducible apply keeps_dropAccesses
    | with_reducible apply keeps_dropLink | with_reducible apply keeps_evictCluster | with_reducible apply keeps_holdDie
    | with_reducible apply keeps_railsOff | with_reducible apply keeps_standing | with_reducible apply keeps_stopMoves
    | with_reducible apply keeps_foldl | with_reducible apply keeps_foldl_snd | (intro _) | split | dsimp only [id_eq])

theorem keeps_execDieFault {u : State} (die : ℕ) (s : State) (hk : Keeps ⟨false, false, false, false, false, false⟩ u s) :
    ∀ t, execDieFault die s = .next t → Keeps ⟨false, false, false, false, false, false⟩ u t := by
  intro t e
  unfold execDieFault at e
  cases e
  repeat' (first
    | with_reducible assumption | with_reducible apply keeps_dieFault | with_reducible apply keeps_settleCommit
    | (intro _) | split | dsimp only [id_eq])

theorem keeps_doWakeFailure {u : State} (d : ℕ) (s : State) (hk : Keeps ⟨false, false, false, false, false, false⟩ u s) :
    Keeps ⟨false, false, false, false, false, false⟩ u (doWakeFailure d s) := by
  unfold doWakeFailure
  try dsimp only
  repeat' (first
    | with_reducible assumption | with_reducible apply keeps_bump | with_reducible apply keeps_dieFault
    | with_reducible apply keeps_raiseEvent | with_reducible apply keeps_setDom
    | fail_if_no_progress with_reducible apply keeps_mk | (intro _) | split | dsimp only [id_eq])

theorem keeps_execWakeFailure {u : State} (dom : ℕ) (s : State)
 (hk : Keeps ⟨false, false, false, false, false, false⟩ u s) :
    ∀ t, execWakeFailure dom s = .next t → Keeps ⟨false, false, false, false, false, false⟩ u t := by
  intro t e
  unfold execWakeFailure at e
  cases e
  repeat' (first
    | with_reducible assumption | with_reducible apply keeps_doWakeFailure | (intro _) | split | dsimp only [id_eq])

theorem keeps_execWakeRetry {b0 b1 b2 b3 b4 b5 : Bool} {u : State} (dom : ℕ) (s : State)
 (hk : Keeps ⟨b0, b1, b2, b3, b4, b5⟩ u s) :
    ∀ t, execWakeRetry dom s = .next t → Keeps ⟨b0, b1, b2, b3, b4, b5⟩ u t := by
  intro t e
  unfold execWakeRetry at e
  cases e
  repeat' (first
    | with_reducible assumption | with_reducible apply keeps_setDom | fail_if_no_progress with_reducible apply keeps_mk
    | (intro _) | split | dsimp only [id_eq])

theorem keeps_doDieRetest {b1 b2 b3 b4 b5 : Bool} {u : State} (c : Ctx) (s : State)
 (hk : Keeps ⟨false, b1, b2, b3, b4, b5⟩ u s) :
    Keeps ⟨false, b1, b2, b3, b4, b5⟩ u (doDieRetest c s) := by
  unfold doDieRetest
  try dsimp only
  repeat' (first
    | with_reducible assumption | with_reducible apply keeps_applied | with_reducible apply keeps_fin
    | with_reducible apply keeps_finBad | fail_if_no_progress with_reducible apply keeps_mk | (intro _) | split
    | dsimp only [id_eq])

theorem keeps_execDieRetest {b1 b2 b3 b4 b5 : Bool} {u : State} (d : DapMsg) (s : State)
 (hk : Keeps ⟨false, b1, b2, b3, b4, b5⟩ u s) :
    ∀ t, execDieRetest d s = .next t → Keeps ⟨false, b1, b2, b3, b4, b5⟩ u t := by
  intro t e
  unfold execDieRetest at e
  cases e
  repeat' (first
    | with_reducible assumption | with_reducible apply keeps_dapServe | with_reducible apply keeps_doDieRetest | (intro _)
    | split | dsimp only [id_eq])

theorem keeps_releaseDie {b0 b1 b2 b3 b4 b5 : Bool} {u : State} (die : ℕ) (s : State)
 (hk : Keeps ⟨b0, b1, b2, b3, b4, b5⟩ u s) :
    Keeps ⟨b0, b1, b2, b3, b4, b5⟩ u (releaseDie die s) := by
  unfold releaseDie
  try dsimp only
  repeat' (first
    | with_reducible assumption | with_reducible apply keeps_maskBit | with_reducible apply keeps_setDom
    | with_reducible apply keeps_wake | fail_if_no_progress with_reducible apply keeps_mk
    | with_reducible apply keeps_foldl | with_reducible apply keeps_foldl_snd | (intro _) | split | dsimp only [id_eq])

theorem keeps_doRetestDone {b2 b3 b4 b5 : Bool} {u : State} (causes : List (ℕ × SelfCause)) (nand : Bool)
 (lines : List ℕ) (die : ℕ) (s : State) (hk : Keeps ⟨false, false, b2, b3, b4, b5⟩ u s) :
    Keeps ⟨false, false, b2, b3, b4, b5⟩ u (doRetestDone causes nand lines die s) := by
  unfold doRetestDone
  try dsimp only
  repeat' (first
    | with_reducible assumption | with_reducible apply keeps_foundBad | with_reducible apply keeps_logRepair
    | with_reducible apply keeps_releaseDie | with_reducible apply keeps_setObj
    | fail_if_no_progress with_reducible apply keeps_mk | with_reducible apply keeps_foldl
    | with_reducible apply keeps_foldl_snd | (intro _) | split | dsimp only [id_eq])

theorem keeps_execDieRetestDone {b2 b3 b4 b5 : Bool} {u : State} (causes : List (ℕ × SelfCause)) (nandMatches : Bool)
 (lines : List ℕ) (s : State) (hk : Keeps ⟨false, false, b2, b3, b4, b5⟩ u s) :
    ∀ t, execDieRetestDone causes nandMatches lines s = .next t → Keeps ⟨false, false, b2, b3, b4, b5⟩ u t := by
  intro t e
  unfold execDieRetestDone at e
  cases e
  repeat' (first
    | with_reducible assumption | with_reducible apply keeps_doRetestDone
    | fail_if_no_progress with_reducible apply keeps_mk | (intro _) | split | dsimp only [id_eq])

theorem keeps_raiseTo {b0 b1 b2 b3 b4 b5 : Bool} {u : State} (d : ℕ) (s : State)
 (hk : Keeps ⟨b0, b1, b2, b3, b4, b5⟩ u s) :
    Keeps ⟨b0, b1, b2, b3, b4, b5⟩ u (raiseTo d s) := by
  unfold raiseTo
  try dsimp only
  repeat' (first
    | with_reducible assumption | with_reducible apply keeps_becomeActive | with_reducible apply keeps_wake | (intro _)
    | split | dsimp only [id_eq])

theorem keeps_doHeldReady {b0 b1 b2 b3 b4 b5 : Bool} {u : State} (c : Ctx) (s : State)
 (hk : Keeps ⟨b0, b1, b2, b3, b4, b5⟩ u s) :
    Keeps ⟨b0, b1, b2, b3, b4, b5⟩ u (doHeldReady c s) := by
  unfold doHeldReady
  try dsimp only
  repeat' (first
    | with_reducible assumption | with_reducible apply keeps_fin | with_reducible apply keeps_raiseTo
    | with_reducible apply keeps_setObj | with_reducible apply keeps_settleHeldReady | with_reducible apply keeps_foldl
    | with_reducible apply keeps_foldl_snd | (intro _) | split | dsimp only [id_eq])

theorem keeps_execHeldReadyMaskWrite {b0 b1 b2 b3 b4 b5 : Bool} {u : State} (d : DapMsg) (s : State)
 (hk : Keeps ⟨b0, b1, b2, b3, b4, b5⟩ u s) :
    ∀ t, execHeldReadyMaskWrite d s = .next t → Keeps ⟨b0, b1, b2, b3, b4, b5⟩ u t := by
  intro t e
  unfold execHeldReadyMaskWrite at e
  cases e
  repeat' (first
    | with_reducible assumption | with_reducible apply keeps_dapServe | with_reducible apply keeps_doHeldReady | (intro _)
    | split | dsimp only [id_eq])

theorem keeps_doFloor {b1 b2 b3 b4 b5 : Bool} {u : State} (c : Ctx) (s : State)
 (hk : Keeps ⟨false, b1, b2, b3, b4, b5⟩ u s) :
    Keeps ⟨false, b1, b2, b3, b4, b5⟩ u (doFloor c s) := by
  unfold doFloor
  try dsimp only
  repeat' (first
    | with_reducible assumption | with_reducible apply keeps_applied | with_reducible apply keeps_finBad
    | with_reducible apply keeps_raiseTo | with_reducible apply keeps_setObj | (intro _) | split | dsimp only [id_eq])

theorem keeps_execDomainFloorWrite {b1 b2 b3 b4 b5 : Bool} {u : State} (d : DapMsg) (s : State)
 (hk : Keeps ⟨false, b1, b2, b3, b4, b5⟩ u s) :
    ∀ t, execDomainFloorWrite d s = .next t → Keeps ⟨false, b1, b2, b3, b4, b5⟩ u t := by
  intro t e
  unfold execDomainFloorWrite at e
  cases e
  repeat' (first
    | with_reducible assumption | with_reducible apply keeps_dapServe | with_reducible apply keeps_doFloor | (intro _)
    | split | dsimp only [id_eq])

theorem keeps_doLinkRecal {b1 b2 b3 b4 b5 : Bool} {u : State} (c : Ctx) (s : State)
 (hk : Keeps ⟨false, b1, b2, b3, b4, b5⟩ u s) :
    Keeps ⟨false, b1, b2, b3, b4, b5⟩ u (doLinkRecal c s) := by
  unfold doLinkRecal
  try dsimp only
  repeat' (first
    | with_reducible assumption | with_reducible apply keeps_applied | with_reducible apply keeps_beginRecal
    | with_reducible apply keeps_finBad | (intro _) | split | dsimp only [id_eq])

theorem keeps_execLinkRecal {b1 b2 b3 b4 b5 : Bool} {u : State} (d : DapMsg) (s : State)
 (hk : Keeps ⟨false, b1, b2, b3, b4, b5⟩ u s) :
    ∀ t, execLinkRecal d s = .next t → Keeps ⟨false, b1, b2, b3, b4, b5⟩ u t := by
  intro t e
  unfold execLinkRecal at e
  cases e
  repeat' (first
    | with_reducible assumption | with_reducible apply keeps_dapServe | with_reducible apply keeps_doLinkRecal | (intro _)
    | split | dsimp only [id_eq])

theorem keeps_retireGranule {b1 b2 b3 b4 b5 : Bool} {u : State} (home : ℕ) (s : State)
 (hk : Keeps ⟨false, b1, b2, b3, b4, b5⟩ u s) :
    Keeps ⟨false, b1, b2, b3, b4, b5⟩ u (retireGranule home s) := by
  unfold retireGranule
  try dsimp only
  repeat' (first
    | with_reducible assumption | with_reducible apply keeps_bump | with_reducible apply keeps_logRepair
    | with_reducible apply keeps_raiseEvent | fail_if_no_progress with_reducible apply keeps_mk
    | fail_if_no_progress with_reducible apply keeps_mk_custody | (intro _) | split | dsimp only [id_eq])

theorem keeps_doScrubPass {b2 b3 b4 b5 : Bool} {u : State} (home : ℕ) (corrected : List ℕ) (found : List ℕ) (s : State)
 (hk : Keeps ⟨false, false, b2, b3, b4, b5⟩ u s) :
    Keeps ⟨false, false, b2, b3, b4, b5⟩ u (doScrubPass home corrected found s) := by
  unfold doScrubPass
  try dsimp only
  repeat' (first
    | with_reducible assumption | with_reducible apply keeps_bump | with_reducible apply keeps_handleFound
    | with_reducible apply keeps_retireGranule | fail_if_no_progress with_reducible apply keeps_mk
    | with_reducible apply keeps_foldl | with_reducible apply keeps_foldl_snd | (intro _) | split | dsimp only [id_eq])

theorem keeps_execScrubPassEnd {b2 b3 b4 b5 : Bool} {u : State} (home : ℕ) (corrected : List ℕ) (found : List ℕ)
 (s : State) (hk : Keeps ⟨false, false, b2, b3, b4, b5⟩ u s) :
    ∀ t, execScrubPassEnd home corrected found s = .next t → Keeps ⟨false, false, b2, b3, b4, b5⟩ u t := by
  intro t e
  unfold execScrubPassEnd at e
  cases e
  repeat' (first
    | with_reducible assumption | with_reducible apply keeps_doScrubPass | (intro _) | split | dsimp only [id_eq])

theorem keeps_execRepairSourceTimeout {b0 b2 b3 b4 b5 : Bool} {u : State} (line : ℕ) (s : State)
 (hk : Keeps ⟨b0, false, b2, b3, b4, b5⟩ u s) :
    ∀ t, execRepairSourceTimeout line s = .next t → Keeps ⟨b0, false, b2, b3, b4, b5⟩ u t := by
  intro t e
  unfold execRepairSourceTimeout at e
  cases e
  repeat' (first
    | with_reducible assumption | with_reducible apply keeps_foundBad | fail_if_no_progress with_reducible apply keeps_mk
    | (intro _) | split | dsimp only [id_eq])

theorem keeps_execStragglerReport {b0 b1 b2 b3 b4 b5 : Bool} {u : State} (member : ℕ) (s : State)
 (hk : Keeps ⟨b0, b1, b2, b3, b4, b5⟩ u s) :
    ∀ t, execStragglerReport member s = .next t → Keeps ⟨b0, b1, b2, b3, b4, b5⟩ u t := by
  intro t e
  unfold execStragglerReport at e
  cases e
  repeat' (first
    | with_reducible assumption | with_reducible apply keeps_raiseEvent | (intro _) | split | dsimp only [id_eq])

theorem keeps_setMember {b0 b1 b2 b3 b4 b5 : Bool} {u : State} (m : ℕ) (p : ℕ) (s : State)
 (hk : Keeps ⟨b0, b1, b2, b3, b4, b5⟩ u s) :
    Keeps ⟨b0, b1, b2, b3, b4, b5⟩ u (setMember m p s) := by
  unfold setMember
  try dsimp only
  repeat' (first
    | with_reducible assumption | with_reducible apply keeps_setObj | with_reducible apply keeps_tellMembers | (intro _)
    | split | dsimp only [id_eq])

theorem keeps_sendObjects {b0 b1 b2 b3 b4 b5 : Bool} {u : State} (p : ℕ) (s : State)
 (hk : Keeps ⟨b0, b1, b2, b3, b4, b5⟩ u s) :
    Keeps ⟨b0, b1, b2, b3, b4, b5⟩ u (sendObjects p s) := by
  unfold sendObjects
  try dsimp only
  repeat' (first
    | with_reducible assumption | with_reducible apply keeps_emit | with_reducible apply keeps_foldl
    | with_reducible apply keeps_foldl_snd | (intro _) | split | dsimp only [id_eq])

theorem keeps_sendEntries {b0 b1 b2 b3 b4 b5 : Bool} {u : State} (m : ℕ) (p : ℕ) (s : State)
 (hk : Keeps ⟨b0, b1, b2, b3, b4, b5⟩ u s) :
    Keeps ⟨b0, b1, b2, b3, b4, b5⟩ u (sendEntries m p s) := by
  unfold sendEntries
  try dsimp only
  repeat' (first
    | with_reducible assumption | with_reducible apply keeps_emit | with_reducible apply keeps_foldl
    | with_reducible apply keeps_foldl_snd | (intro _) | split | dsimp only [id_eq])

theorem keeps_rewritePartners {b0 b1 b2 b3 b4 : Bool} {u : State} (old : ℕ) (new : ℕ) (s : State)
 (hk : Keeps ⟨b0, b1, b2, b3, b4, false⟩ u s) :
    Keeps ⟨b0, b1, b2, b3, b4, false⟩ u (rewritePartners old new s) := by
  unfold rewritePartners
  try dsimp only
  repeat' (first
    | with_reducible assumption | with_reducible apply keeps_emit | fail_if_no_progress with_reducible apply keeps_mk
    | fail_if_no_progress with_reducible apply keeps_mk_maps | with_reducible apply keeps_foldl
    | with_reducible apply keeps_foldl_snd | (intro _) | split | dsimp only [id_eq])

theorem keeps_startRebuild {b1 b2 b3 b4 : Bool} {u : State} (m : ℕ) (old : ℕ) (new : ℕ) (s : State)
 (hk : Keeps ⟨false, b1, b2, b3, b4, false⟩ u s) :
    Keeps ⟨false, b1, b2, b3, b4, false⟩ u (startRebuild m old new s) := by
  unfold startRebuild
  try dsimp only
  repeat' (first
    | with_reducible assumption | with_reducible apply keeps_emit | with_reducible apply keeps_rewritePartners
    | with_reducible apply keeps_sendEntries | with_reducible apply keeps_sendObjects
    | with_reducible apply keeps_setMember | with_reducible apply keeps_setObj
    | fail_if_no_progress with_reducible apply keeps_mk | fail_if_no_progress with_reducible apply keeps_mk_custody
    | (intro _) | split | dsimp only [id_eq])

theorem keeps_doDomainChange {b1 b2 b3 b4 : Bool} {u : State} (readyAlone : Bool) (memberEmpty : Bool) (c : Ctx)
 (s : State) (hk : Keeps ⟨false, b1, b2, b3, b4, false⟩ u s) :
    Keeps ⟨false, b1, b2, b3, b4, false⟩ u (doDomainChange readyAlone memberEmpty c s) := by
  unfold doDomainChange
  try dsimp only
  repeat' (first
    | with_reducible assumption | with_reducible apply keeps_drawFree | with_reducible apply keeps_emit
    | with_reducible apply keeps_fin | with_reducible apply keeps_finBad | with_reducible apply keeps_finOk
    | with_reducible apply keeps_nextGeneration | with_reducible apply keeps_sendEntries
    | with_reducible apply keeps_setMember | with_reducible apply keeps_setObj | with_reducible apply keeps_startRebuild
    | with_reducible refine keeps_drawFree_eq (by assumption) ?_ | fail_if_no_progress with_reducible apply keeps_mk
    | fail_if_no_progress with_reducible apply keeps_mk_custody | (intro _) | split | dsimp only [id_eq])

theorem keeps_execDomainChangeRebuild {b1 b2 b3 b4 : Bool} {u : State} (d : DapMsg) (spareReadyAlone : Bool) (s : State)
 (hk : Keeps ⟨false, b1, b2, b3, b4, false⟩ u s) :
    ∀ t, execDomainChangeRebuild d spareReadyAlone s = .next t → Keeps ⟨false, b1, b2, b3, b4, false⟩ u t := by
  intro t e
  unfold execDomainChangeRebuild at e
  cases e
  repeat' (first
    | with_reducible assumption | with_reducible apply keeps_dapServe | with_reducible apply keeps_doDomainChange
    | (intro _) | split | dsimp only [id_eq])

theorem keeps_execDomainChangeReplace {b1 b2 b3 b4 : Bool} {u : State} (d : DapMsg) (newReadyAlone : Bool) (s : State)
 (hk : Keeps ⟨false, b1, b2, b3, b4, false⟩ u s) :
    ∀ t, execDomainChangeReplace d newReadyAlone s = .next t → Keeps ⟨false, b1, b2, b3, b4, false⟩ u t := by
  intro t e
  unfold execDomainChangeReplace at e
  cases e
  repeat' (first
    | with_reducible assumption | with_reducible apply keeps_dapServe | with_reducible apply keeps_doDomainChange
    | (intro _) | split | dsimp only [id_eq])

theorem keeps_execDomainChangeLeave {b1 b2 b3 b4 : Bool} {u : State} (d : DapMsg) (memberEmpty : Bool) (s : State)
 (hk : Keeps ⟨false, b1, b2, b3, b4, false⟩ u s) :
    ∀ t, execDomainChangeLeave d memberEmpty s = .next t → Keeps ⟨false, b1, b2, b3, b4, false⟩ u t := by
  intro t e
  unfold execDomainChangeLeave at e
  cases e
  repeat' (first
    | with_reducible assumption | with_reducible apply keeps_dapServe | with_reducible apply keeps_doDomainChange
    | (intro _) | split | dsimp only [id_eq])

theorem keeps_fillRest {b0 b2 b3 b4 b5 : Bool} {u : State} (s : State) (hk : Keeps ⟨b0, false, b2, b3, b4, b5⟩ u s) :
    Keeps ⟨b0, false, b2, b3, b4, b5⟩ u (fillRest s) := by
  unfold fillRest
  try dsimp only
  repeat' (first
    | with_reducible assumption | with_reducible apply keeps_rebuildLine
    | fail_if_no_progress with_reducible apply keeps_mk | with_reducible apply keeps_foldl
    | with_reducible apply keeps_foldl_snd | (intro _) | split | dsimp only [id_eq])

theorem keeps_doRebuildDone {b2 b3 b4 b5 : Bool} {u : State} (s : State)
 (hk : Keeps ⟨false, false, b2, b3, b4, b5⟩ u s) :
    Keeps ⟨false, false, b2, b3, b4, b5⟩ u (doRebuildDone s) := by
  unfold doRebuildDone
  try dsimp only
  repeat' (first
    | with_reducible assumption | with_reducible apply keeps_fillRest | with_reducible apply keeps_raiseEvent
    | with_reducible apply keeps_setObj | fail_if_no_progress with_reducible apply keeps_mk
    | fail_if_no_progress with_reducible apply keeps_mk_custody | (intro _) | split | dsimp only [id_eq])

theorem keeps_execRebuildFillDone {b2 b3 b4 b5 : Bool} {u : State} (s : State)
 (hk : Keeps ⟨false, false, b2, b3, b4, b5⟩ u s) :
    ∀ t, execRebuildFillDone s = .next t → Keeps ⟨false, false, b2, b3, b4, b5⟩ u t := by
  intro t e
  unfold execRebuildFillDone at e
  cases e
  repeat' (first
    | with_reducible assumption | with_reducible apply keeps_doRebuildDone | (intro _) | split | dsimp only [id_eq])

theorem keeps_sendExtent {b0 b1 b2 b3 b4 b5 : Bool} {u : State} (p : ℕ) (ext : ℕ) (s : State)
 (hk : Keeps ⟨b0, b1, b2, b3, b4, b5⟩ u s) :
    Keeps ⟨b0, b1, b2, b3, b4, b5⟩ u (sendExtent p ext s) := by
  unfold sendExtent
  try dsimp only
  repeat' (first
    | with_reducible assumption | with_reducible apply keeps_send | with_reducible apply keeps_foldl
    | with_reducible apply keeps_foldl_snd | (intro _) | split | dsimp only [id_eq])

theorem keeps_beReplaced {b0 b1 b2 b3 b4 b5 : Bool} {u : State} (p : ℕ) (s : State)
 (hk : Keeps ⟨b0, b1, b2, b3, b4, b5⟩ u s) :
    Keeps ⟨b0, b1, b2, b3, b4, b5⟩ u (beReplaced p s) := by
  unfold beReplaced
  try dsimp only
  repeat' (first
    | with_reducible assumption | with_reducible apply keeps_recallAll | with_reducible apply keeps_sendExtent
    | fail_if_no_progress with_reducible apply keeps_mk | with_reducible apply keeps_foldl
    | with_reducible apply keeps_foldl_snd | (intro _) | split | dsimp only [id_eq])

theorem keeps_doReplaceCommit {b1 b2 b3 b4 b5 : Bool} {u : State} (s : State)
 (hk : Keeps ⟨false, b1, b2, b3, b4, b5⟩ u s) :
    Keeps ⟨false, b1, b2, b3, b4, b5⟩ u (doReplaceCommit s) := by
  unfold doReplaceCommit
  try dsimp only
  repeat' (first
    | with_reducible assumption | with_reducible apply keeps_beReplaced | with_reducible apply keeps_drawFree | with_reducible apply keeps_emit
    | with_reducible apply keeps_nextGeneration | with_reducible apply keeps_raiseEvent
    | with_reducible apply keeps_sendObjects | with_reducible apply keeps_setMember | with_reducible apply keeps_setObj
    | fail_if_no_progress with_reducible apply keeps_mk | fail_if_no_progress with_reducible apply keeps_mk_custody
    | (intro _) | split | dsimp only [id_eq])

theorem keeps_execReplaceCommit {b1 b2 b3 b4 b5 : Bool} {u : State} (s : State)
 (hk : Keeps ⟨false, b1, b2, b3, b4, b5⟩ u s) :
    ∀ t, execReplaceCommit s = .next t → Keeps ⟨false, b1, b2, b3, b4, b5⟩ u t := by
  intro t e
  unfold execReplaceCommit at e
  cases e
  repeat' (first
    | with_reducible assumption | with_reducible apply keeps_doReplaceCommit | (intro _) | split | dsimp only [id_eq])

theorem keeps_removeAgents {b0 b2 b3 b4 b5 : Bool} {u : State} (p : ℕ) (s : State)
 (hk : Keeps ⟨b0, false, b2, b3, b4, b5⟩ u s) :
    Keeps ⟨b0, false, b2, b3, b4, b5⟩ u (removeAgents p s) := by
  unfold removeAgents
  try dsimp only
  repeat' (first
    | with_reducible assumption | with_reducible apply keeps_takeDead | with_reducible apply keeps_tellMembers
    | with_reducible apply keeps_foldl | with_reducible apply keeps_foldl_snd | (intro _) | split | dsimp only [id_eq])

theorem keeps_removeMember {b2 b3 b4 : Bool} {u : State} (m : ℕ) (p : ℕ) (s : State)
 (hk : Keeps ⟨false, false, b2, b3, b4, false⟩ u s) :
    Keeps ⟨false, false, b2, b3, b4, false⟩ u (removeMember m p s) := by
  unfold removeMember
  try dsimp only
  repeat' (first
    | with_reducible assumption | with_reducible apply keeps_degradeTied | with_reducible apply keeps_drawFree
    | with_reducible apply keeps_nextGeneration | with_reducible apply keeps_removeAgents
    | with_reducible apply keeps_setMember | with_reducible apply keeps_startRebuild
    | with_reducible refine keeps_drawFree_eq (by assumption) ?_ | (intro _) | split | dsimp only [id_eq])

theorem keeps_expel {b2 : Bool} {u : State} (p : ℕ) (s : State) (hk : Keeps ⟨false, false, b2, false, false, false⟩ u s) :
    Keeps ⟨false, false, b2, false, false, false⟩ u (expel p s) := by
  unfold expel
  try dsimp only
  repeat' (first
    | with_reducible assumption | with_reducible apply keeps_dissolve | with_reducible apply keeps_expelPackage
    | with_reducible apply keeps_removeMember | fail_if_no_progress with_reducible apply keeps_mk | (intro _) | split
    | dsimp only [id_eq])

theorem keeps_voteRefused {b0 b1 b2 b3 b4 b5 : Bool} {u : State} (c : Ctx) (st : Status) (s : State)
 (hk : Keeps ⟨b0, b1, b2, b3, b4, b5⟩ u s) :
    Keeps ⟨b0, b1, b2, b3, b4, b5⟩ u (voteRefused c st s) := by
  unfold voteRefused
  try dsimp only
  repeat' (first
    | with_reducible assumption | with_reducible apply keeps_bump | with_reducible apply keeps_fin | (intro _) | split
    | dsimp only [id_eq])

theorem keeps_doExpelVote {b2 : Bool} {u : State} (c : Ctx) (s : State)
 (hk : Keeps ⟨false, false, b2, false, false, false⟩ u s) :
    Keeps ⟨false, false, b2, false, false, false⟩ u (doExpelVote c s) := by
  unfold doExpelVote
  try dsimp only
  repeat' (first
    | with_reducible assumption | with_reducible apply keeps_countVotes | with_reducible apply keeps_expel
    | with_reducible apply keeps_finBad | with_reducible apply keeps_finOk | with_reducible apply keeps_voteRefused
    | fail_if_no_progress with_reducible apply keeps_mk | fail_if_no_progress with_reducible apply keeps_mk_custody
    | (intro _) | split | dsimp only [id_eq])

theorem keeps_execExpelVote {b2 : Bool} {u : State} (d : DapMsg) (s : State)
 (hk : Keeps ⟨false, false, b2, false, false, false⟩ u s) :
    ∀ t, execExpelVote d s = .next t → Keeps ⟨false, false, b2, false, false, false⟩ u t := by
  intro t e
  unfold execExpelVote at e
  cases e
  repeat' (first
    | with_reducible assumption | with_reducible apply keeps_dapServe | with_reducible apply keeps_doExpelVote | (intro _)
    | split | dsimp only [id_eq])

theorem keeps_setStageOf {b1 b2 b3 b4 b5 : Bool} {u : State} (p : Port) (n : ℕ) (s : State)
 (hk : Keeps ⟨false, b1, b2, b3, b4, b5⟩ u s) :
    Keeps ⟨false, b1, b2, b3, b4, b5⟩ u (setStageOf p n s) := by
  unfold setStageOf
  try dsimp only
  repeat' (first
    | with_reducible assumption | fail_if_no_progress with_reducible apply keeps_mk
    | fail_if_no_progress with_reducible apply keeps_mk_custody | (intro _) | split | dsimp only [id_eq])

theorem keeps_spdmSend {b0 b1 b2 b3 b4 b5 : Bool} {u : State} (m : SpdmMsg) (session : ℕ) (code : ℕ) (bytes : ℕ)
 (payload : ℕ) (s : State) (hk : Keeps ⟨b0, b1, b2, b3, b4, b5⟩ u s) :
    Keeps ⟨b0, b1, b2, b3, b4, b5⟩ u (spdmSend m session code bytes payload s) := by
  unfold spdmSend
  try dsimp only
  repeat' (first
    | with_reducible assumption | with_reducible apply keeps_emit | (intro _) | split | dsimp only [id_eq])

theorem keeps_spdmError {b0 b1 b2 b3 b4 b5 : Bool} {u : State} (m : SpdmMsg) (code : ℕ) (s : State)
 (hk : Keeps ⟨b0, b1, b2, b3, b4, b5⟩ u s) :
    Keeps ⟨b0, b1, b2, b3, b4, b5⟩ u (spdmError m code s) := by
  unfold spdmError
  try dsimp only
  repeat' (first
    | with_reducible assumption | with_reducible apply keeps_spdmSend | (intro _) | split | dsimp only [id_eq])

theorem keeps_spdmSigned {b0 b1 b2 b3 b4 b5 : Bool} {u : State} (m : SpdmMsg) (code : ℕ) (bytes : ℕ) (payload : ℕ)
 (s : State) (hk : Keeps ⟨b0, b1, b2, b3, b4, b5⟩ u s) :
    Keeps ⟨b0, b1, b2, b3, b4, b5⟩ u (spdmSigned m code bytes payload s) := by
  unfold spdmSigned
  try dsimp only
  repeat' (first
    | with_reducible assumption | with_reducible apply keeps_drawFree | with_reducible apply keeps_spdmSend
    | with_reducible refine keeps_drawFree_eq (by assumption) ?_ | (intro _) | split | dsimp only [id_eq])

theorem keeps_atStage {b0 b1 b2 b3 b4 b5 : Bool} {u : State} (n : ℕ) (m : SpdmMsg) (f : State → State) (s : State)
 (hf : ∀ (w : State), Keeps ⟨b0, b1, b2, b3, b4, b5⟩ u w → Keeps ⟨b0, b1, b2, b3, b4, b5⟩ u (f w))
 (hk : Keeps ⟨b0, b1, b2, b3, b4, b5⟩ u s) :
    Keeps ⟨b0, b1, b2, b3, b4, b5⟩ u (atStage n m f s) := by
  unfold atStage
  try dsimp only
  repeat' (first
    | with_reducible assumption | with_reducible apply keeps_spdmError | with_reducible apply hf | (intro _) | split
    | dsimp only [id_eq])

theorem keeps_execSpdmGetVersion {b1 b2 b3 b4 b5 : Bool} {u : State} (m : SpdmMsg) (s : State)
 (hk : Keeps ⟨false, b1, b2, b3, b4, b5⟩ u s) :
    ∀ t, execSpdmGetVersion m s = .next t → Keeps ⟨false, b1, b2, b3, b4, b5⟩ u t := by
  intro t e
  unfold execSpdmGetVersion at e
  cases e
  repeat' (first
    | with_reducible assumption | with_reducible apply keeps_atStage | with_reducible apply keeps_setStageOf
    | with_reducible apply keeps_spdmSend | (intro _) | split | dsimp only [id_eq])

theorem keeps_execSpdmGetCapabilities {b1 b2 b3 b4 b5 : Bool} {u : State} (m : SpdmMsg) (s : State)
 (hk : Keeps ⟨false, b1, b2, b3, b4, b5⟩ u s) :
    ∀ t, execSpdmGetCapabilities m s = .next t → Keeps ⟨false, b1, b2, b3, b4, b5⟩ u t := by
  intro t e
  unfold execSpdmGetCapabilities at e
  cases e
  repeat' (first
    | with_reducible assumption | with_reducible apply keeps_atStage | with_reducible apply keeps_setStageOf
    | with_reducible apply keeps_spdmSend | (intro _) | split | dsimp only [id_eq])

theorem keeps_execSpdmNegotiateAlgorithms {b1 b2 b3 b4 b5 : Bool} {u : State} (m : SpdmMsg) (s : State)
 (hk : Keeps ⟨false, b1, b2, b3, b4, b5⟩ u s) :
    ∀ t, execSpdmNegotiateAlgorithms m s = .next t → Keeps ⟨false, b1, b2, b3, b4, b5⟩ u t := by
  intro t e
  unfold execSpdmNegotiateAlgorithms at e
  cases e
  repeat' (first
    | with_reducible assumption | with_reducible apply keeps_atStage | with_reducible apply keeps_setStageOf
    | with_reducible apply keeps_spdmSend | (intro _) | split | dsimp only [id_eq])

theorem keeps_execSpdmGetDigests {b0 b1 b2 b3 b4 b5 : Bool} {u : State} (m : SpdmMsg) (s : State)
 (hk : Keeps ⟨b0, b1, b2, b3, b4, b5⟩ u s) :
    ∀ t, execSpdmGetDigests m s = .next t → Keeps ⟨b0, b1, b2, b3, b4, b5⟩ u t := by
  intro t e
  unfold execSpdmGetDigests at e
  cases e
  repeat' (first
    | with_reducible assumption | with_reducible apply keeps_atStage | with_reducible apply keeps_spdmSend | (intro _)
    | split | dsimp only [id_eq])

theorem keeps_doGetCertificate {b0 b1 b2 b3 b4 b5 : Bool} {u : State} (m : SpdmMsg) (s : State)
 (hk : Keeps ⟨b0, b1, b2, b3, b4, b5⟩ u s) :
    Keeps ⟨b0, b1, b2, b3, b4, b5⟩ u (doGetCertificate m s) := by
  unfold doGetCertificate
  try dsimp only
  repeat' (first
    | with_reducible assumption | with_reducible apply keeps_spdmError | with_reducible apply keeps_spdmSend | (intro _)
    | split | dsimp only [id_eq])

theorem keeps_execSpdmGetCertificate {b0 b1 b2 b3 b4 b5 : Bool} {u : State} (m : SpdmMsg) (s : State)
 (hk : Keeps ⟨b0, b1, b2, b3, b4, b5⟩ u s) :
    ∀ t, execSpdmGetCertificate m s = .next t → Keeps ⟨b0, b1, b2, b3, b4, b5⟩ u t := by
  intro t e
  unfold execSpdmGetCertificate at e
  cases e
  repeat' (first
    | with_reducible assumption | with_reducible apply keeps_atStage | with_reducible apply keeps_doGetCertificate
    | (intro _) | split | dsimp only [id_eq])

theorem keeps_doChallenge {b0 b1 b2 b3 b4 b5 : Bool} {u : State} (m : SpdmMsg) (s : State)
 (hk : Keeps ⟨b0, b1, b2, b3, b4, b5⟩ u s) :
    Keeps ⟨b0, b1, b2, b3, b4, b5⟩ u (doChallenge m s) := by
  unfold doChallenge
  try dsimp only
  repeat' (first
    | with_reducible assumption | with_reducible apply keeps_spdmError | with_reducible apply keeps_spdmSigned | (intro _)
    | split | dsimp only [id_eq])

theorem keeps_execSpdmChallenge {b0 b1 b2 b3 b4 b5 : Bool} {u : State} (m : SpdmMsg) (s : State)
 (hk : Keeps ⟨b0, b1, b2, b3, b4, b5⟩ u s) :
    ∀ t, execSpdmChallenge m s = .next t → Keeps ⟨b0, b1, b2, b3, b4, b5⟩ u t := by
  intro t e
  unfold execSpdmChallenge at e
  cases e
  repeat' (first
    | with_reducible assumption | with_reducible apply keeps_atStage | with_reducible apply keeps_doChallenge | (intro _)
    | split | dsimp only [id_eq])

theorem keeps_doGetMeasurements {b0 b1 b2 b3 b4 b5 : Bool} {u : State} (m : SpdmMsg) (s : State)
 (hk : Keeps ⟨b0, b1, b2, b3, b4, b5⟩ u s) :
    Keeps ⟨b0, b1, b2, b3, b4, b5⟩ u (doGetMeasurements m s) := by
  unfold doGetMeasurements
  try dsimp only
  repeat' (first
    | with_reducible assumption | with_reducible apply keeps_spdmError | with_reducible apply keeps_spdmSigned | (intro _)
    | split | dsimp only [id_eq])

theorem keeps_execSpdmGetMeasurements {b0 b1 b2 b3 b4 b5 : Bool} {u : State} (m : SpdmMsg) (s : State)
 (hk : Keeps ⟨b0, b1, b2, b3, b4, b5⟩ u s) :
    ∀ t, execSpdmGetMeasurements m s = .next t → Keeps ⟨b0, b1, b2, b3, b4, b5⟩ u t := by
  intro t e
  unfold execSpdmGetMeasurements at e
  cases e
  repeat' (first
    | with_reducible assumption | with_reducible apply keeps_atStage | with_reducible apply keeps_doGetMeasurements
    | (intro _) | split | dsimp only [id_eq])

theorem keeps_countSpdm {b0 b1 b2 b3 b4 b5 : Bool} {u : State} (s : State) (hk : Keeps ⟨b0, b1, b2, b3, b4, b5⟩ u s) :
    Keeps ⟨b0, b1, b2, b3, b4, b5⟩ u (countSpdm s) := by
  unfold countSpdm
  try dsimp only
  repeat' (first
    | with_reducible assumption | with_reducible apply keeps_setObj | (intro _) | split | dsimp only [id_eq])

theorem keeps_doKeyExchange {b1 b2 b3 b4 b5 : Bool} {u : State} (m : SpdmMsg) (chainKey : Option ℕ) (s : State)
 (hk : Keeps ⟨false, b1, b2, b3, b4, b5⟩ u s) :
    Keeps ⟨false, b1, b2, b3, b4, b5⟩ u (doKeyExchange m chainKey s) := by
  unfold doKeyExchange
  try dsimp only
  repeat' (first
    | with_reducible assumption | with_reducible apply keeps_countSpdm | with_reducible apply keeps_raiseEvent
    | with_reducible apply keeps_spdmError | with_reducible apply keeps_spdmSend
    | fail_if_no_progress with_reducible apply keeps_mk | fail_if_no_progress with_reducible apply keeps_mk_custody
    | (intro _) | split | dsimp only [id_eq])

theorem keeps_execSpdmKeyExchange {b1 b2 b3 b4 b5 : Bool} {u : State} (m : SpdmMsg) (chainKey : Option ℕ) (s : State)
 (hk : Keeps ⟨false, b1, b2, b3, b4, b5⟩ u s) :
    ∀ t, execSpdmKeyExchange m chainKey s = .next t → Keeps ⟨false, b1, b2, b3, b4, b5⟩ u t := by
  intro t e
  unfold execSpdmKeyExchange at e
  cases e
  repeat' (first
    | with_reducible assumption | with_reducible apply keeps_atStage | with_reducible apply keeps_doKeyExchange
    | (intro _) | split | dsimp only [id_eq])

theorem keeps_endSpdm {b1 b2 b3 b4 b5 : Bool} {u : State} (n : ℕ) (s : State)
 (hk : Keeps ⟨false, b1, b2, b3, b4, b5⟩ u s) :
    Keeps ⟨false, b1, b2, b3, b4, b5⟩ u (endSpdm n s) := by
  unfold endSpdm
  try dsimp only
  repeat' (first
    | with_reducible assumption | with_reducible apply keeps_countSpdm | fail_if_no_progress with_reducible apply keeps_mk
    | fail_if_no_progress with_reducible apply keeps_mk_custody | (intro _) | split | dsimp only [id_eq])

theorem keeps_endAllSpdm {b1 b2 b3 b4 b5 : Bool} {u : State} (s : State) (hk : Keeps ⟨false, b1, b2, b3, b4, b5⟩ u s) :
    Keeps ⟨false, b1, b2, b3, b4, b5⟩ u (endAllSpdm s) := by
  unfold endAllSpdm
  try dsimp only
  repeat' (first
    | with_reducible assumption | with_reducible apply keeps_endSpdm | with_reducible apply keeps_foldl
    | with_reducible apply keeps_foldl_snd | (intro _) | split | dsimp only [id_eq])

theorem keeps_inSession {b0 b1 b2 b3 b4 b5 : Bool} {u : State} (m : SpdmMsg) (f : SpdmSession → State → State)
 (s : State) (hf : ∀ a0 (w : State), Keeps ⟨b0, b1, b2, b3, b4, b5⟩ u w → Keeps ⟨b0, b1, b2, b3, b4, b5⟩ u (f a0 w))
 (hk : Keeps ⟨b0, b1, b2, b3, b4, b5⟩ u s) :
    Keeps ⟨b0, b1, b2, b3, b4, b5⟩ u (inSession m f s) := by
  unfold inSession
  try dsimp only
  repeat' (first
    | with_reducible assumption | with_reducible apply keeps_spdmError | with_reducible apply hf
    | fail_if_no_progress with_reducible apply keeps_mk | (intro _) | split | dsimp only [id_eq])

theorem keeps_setSpdm {b1 b2 b3 b4 b5 : Bool} {u : State} (n : ℕ) (x : SpdmSession) (s : State)
 (hk : Keeps ⟨false, b1, b2, b3, b4, b5⟩ u s) :
    Keeps ⟨false, b1, b2, b3, b4, b5⟩ u (setSpdm n x s) := by
  unfold setSpdm
  try dsimp only
  repeat' (first
    | with_reducible assumption | fail_if_no_progress with_reducible apply keeps_mk
    | fail_if_no_progress with_reducible apply keeps_mk_custody | (intro _) | split | dsimp only [id_eq])

theorem keeps_execSpdmFinish {b1 b2 b3 b4 b5 : Bool} {u : State} (m : SpdmMsg) (verified : Bool) (s : State)
 (hk : Keeps ⟨false, b1, b2, b3, b4, b5⟩ u s) :
    ∀ t, execSpdmFinish m verified s = .next t → Keeps ⟨false, b1, b2, b3, b4, b5⟩ u t := by
  intro t e
  unfold execSpdmFinish at e
  cases e
  repeat' (first
    | with_reducible assumption | with_reducible apply keeps_endSpdm | with_reducible apply keeps_inSession
    | with_reducible apply keeps_raiseEvent | with_reducible apply keeps_setSpdm | with_reducible apply keeps_spdmError
    | with_reducible apply keeps_spdmSend | fail_if_no_progress with_reducible apply keeps_mk | (intro _) | split
    | dsimp only [id_eq])

theorem keeps_inEstablished {b0 b1 b2 b3 b4 b5 : Bool} {u : State} (m : SpdmMsg) (f : SpdmSession → State → State)
 (s : State) (hf : ∀ a0 (w : State), Keeps ⟨b0, b1, b2, b3, b4, b5⟩ u w → Keeps ⟨b0, b1, b2, b3, b4, b5⟩ u (f a0 w))
 (hk : Keeps ⟨b0, b1, b2, b3, b4, b5⟩ u s) :
    Keeps ⟨b0, b1, b2, b3, b4, b5⟩ u (inEstablished m f s) := by
  unfold inEstablished
  try dsimp only
  repeat' (first
    | with_reducible assumption | with_reducible apply keeps_inSession | with_reducible apply keeps_spdmError
    | with_reducible apply hf | (intro _) | split | dsimp only [id_eq])

theorem keeps_execSpdmHeartbeat {b0 b1 b2 b3 b4 b5 : Bool} {u : State} (m : SpdmMsg) (s : State)
 (hk : Keeps ⟨b0, b1, b2, b3, b4, b5⟩ u s) :
    ∀ t, execSpdmHeartbeat m s = .next t → Keeps ⟨b0, b1, b2, b3, b4, b5⟩ u t := by
  intro t e
  unfold execSpdmHeartbeat at e
  cases e
  repeat' (first
    | with_reducible assumption | with_reducible apply keeps_inEstablished | with_reducible apply keeps_spdmSend
    | (intro _) | split | dsimp only [id_eq])

theorem keeps_execSpdmKeyUpdate {b1 b2 b3 b4 b5 : Bool} {u : State} (m : SpdmMsg) (s : State)
 (hk : Keeps ⟨false, b1, b2, b3, b4, b5⟩ u s) :
    ∀ t, execSpdmKeyUpdate m s = .next t → Keeps ⟨false, b1, b2, b3, b4, b5⟩ u t := by
  intro t e
  unfold execSpdmKeyUpdate at e
  cases e
  repeat' (first
    | with_reducible assumption | with_reducible apply keeps_inEstablished | with_reducible apply keeps_setSpdm
    | with_reducible apply keeps_spdmSend | fail_if_no_progress with_reducible apply keeps_mk | (intro _) | split
    | dsimp only [id_eq])

theorem keeps_execSpdmEndSession {b1 b2 b3 b4 b5 : Bool} {u : State} (m : SpdmMsg) (s : State)
 (hk : Keeps ⟨false, b1, b2, b3, b4, b5⟩ u s) :
    ∀ t, execSpdmEndSession m s = .next t → Keeps ⟨false, b1, b2, b3, b4, b5⟩ u t := by
  intro t e
  unfold execSpdmEndSession at e
  cases e
  repeat' (first
    | with_reducible assumption | with_reducible apply keeps_endSpdm | with_reducible apply keeps_inEstablished
    | with_reducible apply keeps_spdmSend | (intro _) | split | dsimp only [id_eq])

theorem keeps_execSpdmHeartbeatMissed {b1 b2 b3 b4 b5 : Bool} {u : State} (session : ℕ) (s : State)
 (hk : Keeps ⟨false, b1, b2, b3, b4, b5⟩ u s) :
    ∀ t, execSpdmHeartbeatMissed session s = .next t → Keeps ⟨false, b1, b2, b3, b4, b5⟩ u t := by
  intro t e
  unfold execSpdmHeartbeatMissed at e
  cases e
  repeat' (first
    | with_reducible assumption | with_reducible apply keeps_endSpdm | (intro _) | split | dsimp only [id_eq])

theorem keeps_execSpdmUnsupportedRequest {b0 b1 b2 b3 b4 b5 : Bool} {u : State} (m : SpdmMsg) (code : ℕ) (s : State)
 (hk : Keeps ⟨b0, b1, b2, b3, b4, b5⟩ u s) :
    ∀ t, execSpdmUnsupportedRequest m code s = .next t → Keeps ⟨b0, b1, b2, b3, b4, b5⟩ u t := by
  intro t e
  unfold execSpdmUnsupportedRequest at e
  cases e
  repeat' (first
    | with_reducible assumption | with_reducible apply keeps_spdmError | (intro _) | split | dsimp only [id_eq])

theorem keeps_doOpenManagement {b0 b1 b2 b3 b4 b5 : Bool} {u : State} (m : DapMsg) (s : State)
 (hk : Keeps ⟨b0, b1, b2, b3, b4, b5⟩ u s) :
    Keeps ⟨b0, b1, b2, b3, b4, b5⟩ u (doOpenManagement m s) := by
  unfold doOpenManagement
  try dsimp only
  repeat' (first
    | with_reducible assumption | with_reducible apply keeps_openRefused | with_reducible apply keeps_openReply
    | with_reducible apply keeps_openSession | with_reducible apply keeps_restartReply
    | fail_if_no_progress with_reducible apply keeps_mk | (intro _) | split | dsimp only [id_eq])

theorem keeps_execDapOpenManagement {b0 b1 b2 b3 b4 b5 : Bool} {u : State} (d : DapMsg) (s : State)
 (hk : Keeps ⟨b0, b1, b2, b3, b4, b5⟩ u s) :
    ∀ t, execDapOpenManagement d s = .next t → Keeps ⟨b0, b1, b2, b3, b4, b5⟩ u t := by
  intro t e
  unfold execDapOpenManagement at e
  cases e
  repeat' (first
    | with_reducible assumption | with_reducible apply keeps_doOpenManagement | (intro _) | split | dsimp only [id_eq])

theorem keeps_execMessageDiscard {b0 b1 b2 b3 b4 b5 : Bool} {u : State} (port : Port) (firstByte : ℕ) (s : State)
 (hk : Keeps ⟨b0, b1, b2, b3, b4, b5⟩ u s) :
    ∀ t, execMessageDiscard port firstByte s = .next t → Keeps ⟨b0, b1, b2, b3, b4, b5⟩ u t := by
  intro t e
  unfold execMessageDiscard at e
  cases e
  repeat' (first
    | with_reducible assumption | with_reducible apply keeps_bump | (intro _) | split | dsimp only [id_eq])

theorem keeps_storeImage {b1 b2 b3 b4 b5 : Bool} {u : State} (i : Image) (s : State)
 (hk : Keeps ⟨false, b1, b2, b3, b4, b5⟩ u s) :
    Keeps ⟨false, b1, b2, b3, b4, b5⟩ u (storeImage i s) := by
  unfold storeImage
  try dsimp only
  repeat' (first
    | with_reducible assumption | with_reducible apply keeps_appendLog | fail_if_no_progress with_reducible apply keeps_mk
    | (intro _) | split | dsimp only [id_eq])

theorem keeps_doSaveNow {b0 b1 b2 b3 b4 b5 : Bool} {u : State} (c : Ctx) (s : State)
 (hk : Keeps ⟨b0, b1, b2, b3, b4, b5⟩ u s) :
    Keeps ⟨b0, b1, b2, b3, b4, b5⟩ u (doSaveNow c s) := by
  unfold doSaveNow
  try dsimp only
  repeat' (first
    | with_reducible assumption | with_reducible apply keeps_fin | with_reducible apply keeps_finBad
    | fail_if_no_progress with_reducible apply keeps_mk | (intro _) | split | dsimp only [id_eq])

theorem keeps_execSaveNow {b0 b1 b2 b3 b4 b5 : Bool} {u : State} (d : DapMsg) (s : State)
 (hk : Keeps ⟨b0, b1, b2, b3, b4, b5⟩ u s) :
    ∀ t, execSaveNow d s = .next t → Keeps ⟨b0, b1, b2, b3, b4, b5⟩ u t := by
  intro t e
  unfold execSaveNow at e
  cases e
  repeat' (first
    | with_reducible assumption | with_reducible apply keeps_dapServe | with_reducible apply keeps_doSaveNow | (intro _)
    | split | dsimp only [id_eq])

theorem keeps_execSaveComplete {b1 b2 b3 b4 b5 : Bool} {u : State} (s : State)
 (hk : Keeps ⟨false, b1, b2, b3, b4, b5⟩ u s) :
    ∀ t, execSaveComplete s = .next t → Keeps ⟨false, b1, b2, b3, b4, b5⟩ u t := by
  intro t e
  unfold execSaveComplete at e
  cases e
  repeat' (first
    | with_reducible assumption | with_reducible apply keeps_dapFinishKey | with_reducible apply keeps_storeImage
    | fail_if_no_progress with_reducible apply keeps_mk | (intro _) | split | dsimp only [id_eq])

theorem keeps_toDefaults {b0 b1 b2 b3 b4 b5 : Bool} {u : State} (s : State) (hk : Keeps ⟨b0, b1, b2, b3, b4, b5⟩ u s) :
    Keeps ⟨b0, b1, b2, b3, b4, b5⟩ u (toDefaults s) := by
  unfold toDefaults
  try dsimp only
  repeat' (first
    | with_reducible assumption | with_reducible apply keeps_setObj | with_reducible apply keeps_takeImage | (intro _)
    | split | dsimp only [id_eq])

theorem keeps_doRestoreDefaults {b1 b2 b3 b4 b5 : Bool} {u : State} (c : Ctx) (s : State)
 (hk : Keeps ⟨false, b1, b2, b3, b4, b5⟩ u s) :
    Keeps ⟨false, b1, b2, b3, b4, b5⟩ u (doRestoreDefaults c s) := by
  unfold doRestoreDefaults
  try dsimp only
  repeat' (first
    | with_reducible assumption | with_reducible apply keeps_applied | with_reducible apply keeps_finBad
    | with_reducible apply keeps_takeAllConfig | with_reducible apply keeps_toDefaults | (intro _) | split
    | dsimp only [id_eq])

theorem keeps_execRestoreDefaults {b1 b2 b3 b4 b5 : Bool} {u : State} (d : DapMsg) (s : State)
 (hk : Keeps ⟨false, b1, b2, b3, b4, b5⟩ u s) :
    ∀ t, execRestoreDefaults d s = .next t → Keeps ⟨false, b1, b2, b3, b4, b5⟩ u t := by
  intro t e
  unfold execRestoreDefaults at e
  cases e
  repeat' (first
    | with_reducible assumption | with_reducible apply keeps_dapServe | with_reducible apply keeps_doRestoreDefaults
    | (intro _) | split | dsimp only [id_eq])

theorem keeps_logKey {b1 b2 b3 b4 b5 : Bool} {u : State} (c : Ctx) (slot : ℕ) (s : State)
 (hk : Keeps ⟨false, b1, b2, b3, b4, b5⟩ u s) :
    Keeps ⟨false, b1, b2, b3, b4, b5⟩ u (logKey c slot s) := by
  unfold logKey
  try dsimp only
  repeat' (first
    | with_reducible assumption | with_reducible apply keeps_appendLog | (intro _) | split | dsimp only [id_eq])

theorem keeps_retireSigned {b0 b2 b4 b5 : Bool} {u : State} (slot : ℕ) (s : State)
 (hk : Keeps ⟨b0, false, b2, false, b4, b5⟩ u s) :
    Keeps ⟨b0, false, b2, false, b4, b5⟩ u (retireSigned slot s) := by
  unfold retireSigned
  try dsimp only
  repeat' (first
    | with_reducible assumption | with_reducible apply keeps_retireEntry | with_reducible apply keeps_foldl
    | with_reducible apply keeps_foldl_snd | (intro _) | split | dsimp only [id_eq])

theorem keeps_doImageKey {b2 b4 b5 : Bool} {u : State} (c : Ctx) (s : State)
 (hk : Keeps ⟨false, false, b2, false, b4, b5⟩ u s) :
    Keeps ⟨false, false, b2, false, b4, b5⟩ u (doImageKey c s) := by
  unfold doImageKey
  try dsimp only
  repeat' (first
    | with_reducible assumption | with_reducible apply keeps_appliedWith | with_reducible apply keeps_cfgEvent
    | with_reducible apply keeps_logKey | with_reducible apply keeps_retireSigned | with_reducible apply keeps_setObj
    | (intro _) | split | dsimp only [id_eq])

theorem keeps_execImageKeyEnrol {b2 b4 b5 : Bool} {u : State} (d : DapMsg) (s : State)
 (hk : Keeps ⟨false, false, b2, false, b4, b5⟩ u s) :
    ∀ t, execImageKeyEnrol d s = .next t → Keeps ⟨false, false, b2, false, b4, b5⟩ u t := by
  intro t e
  unfold execImageKeyEnrol at e
  cases e
  repeat' (first
    | with_reducible assumption | with_reducible apply keeps_dapServe | with_reducible apply keeps_doImageKey | (intro _)
    | split | dsimp only [id_eq])

theorem keeps_execImageKeyRevoke {b2 b4 b5 : Bool} {u : State} (d : DapMsg) (s : State)
 (hk : Keeps ⟨false, false, b2, false, b4, b5⟩ u s) :
    ∀ t, execImageKeyRevoke d s = .next t → Keeps ⟨false, false, b2, false, b4, b5⟩ u t := by
  intro t e
  unfold execImageKeyRevoke at e
  cases e
  repeat' (first
    | with_reducible assumption | with_reducible apply keeps_dapServe | with_reducible apply keeps_doImageKey | (intro _)
    | split | dsimp only [id_eq])

theorem keeps_doOwnerKey {b1 b2 b3 b4 b5 : Bool} {u : State} (c : Ctx) (s : State)
 (hk : Keeps ⟨false, b1, b2, b3, b4, b5⟩ u s) :
    Keeps ⟨false, b1, b2, b3, b4, b5⟩ u (doOwnerKey c s) := by
  unfold doOwnerKey
  try dsimp only
  repeat' (first
    | with_reducible assumption | with_reducible apply keeps_appliedWith | with_reducible apply keeps_finBad
    | with_reducible apply keeps_logKey | with_reducible apply keeps_setObj | (intro _) | split | dsimp only [id_eq])

theorem keeps_execOwnerKeyEnrol {b1 b2 b3 b4 b5 : Bool} {u : State} (d : DapMsg) (s : State)
 (hk : Keeps ⟨false, b1, b2, b3, b4, b5⟩ u s) :
    ∀ t, execOwnerKeyEnrol d s = .next t → Keeps ⟨false, b1, b2, b3, b4, b5⟩ u t := by
  intro t e
  unfold execOwnerKeyEnrol at e
  cases e
  repeat' (first
    | with_reducible assumption | with_reducible apply keeps_dapServe | with_reducible apply keeps_doOwnerKey | (intro _)
    | split | dsimp only [id_eq])

theorem keeps_execOwnerKeyRevoke {b1 b2 b3 b4 b5 : Bool} {u : State} (d : DapMsg) (s : State)
 (hk : Keeps ⟨false, b1, b2, b3, b4, b5⟩ u s) :
    ∀ t, execOwnerKeyRevoke d s = .next t → Keeps ⟨false, b1, b2, b3, b4, b5⟩ u t := by
  intro t e
  unfold execOwnerKeyRevoke at e
  cases e
  repeat' (first
    | with_reducible assumption | with_reducible apply keeps_dapServe | with_reducible apply keeps_doOwnerKey | (intro _)
    | split | dsimp only [id_eq])

theorem keeps_doFmKey {b1 b2 b3 b4 b5 : Bool} {u : State} (c : Ctx) (s : State)
 (hk : Keeps ⟨false, b1, b2, b3, b4, b5⟩ u s) :
    Keeps ⟨false, b1, b2, b3, b4, b5⟩ u (doFmKey c s) := by
  unfold doFmKey
  try dsimp only
  repeat' (first
    | with_reducible assumption | with_reducible apply keeps_applied | with_reducible apply keeps_appliedWith
    | with_reducible apply keeps_finBad | with_reducible apply keeps_logKey | with_reducible apply keeps_setObj
    | (intro _) | split | dsimp only [id_eq])

theorem keeps_execFmKeyWrite {b1 b2 b3 b4 b5 : Bool} {u : State} (d : DapMsg) (s : State)
 (hk : Keeps ⟨false, b1, b2, b3, b4, b5⟩ u s) :
    ∀ t, execFmKeyWrite d s = .next t → Keeps ⟨false, b1, b2, b3, b4, b5⟩ u t := by
  intro t e
  unfold execFmKeyWrite at e
  cases e
  repeat' (first
    | with_reducible assumption | with_reducible apply keeps_dapServe | with_reducible apply keeps_doFmKey | (intro _)
    | split | dsimp only [id_eq])

theorem keeps_countKeys {b0 b1 b2 b3 b4 b5 : Bool} {u : State} (s : State) (hk : Keeps ⟨b0, b1, b2, b3, b4, b5⟩ u s) :
    Keeps ⟨b0, b1, b2, b3, b4, b5⟩ u (countKeys s) := by
  unfold countKeys
  try dsimp only
  repeat' (first
    | with_reducible assumption | with_reducible apply keeps_setObj | (intro _) | split | dsimp only [id_eq])

theorem keeps_setKey {b1 b2 b3 b4 b5 : Bool} {u : State} (t : ℕ) (st : ℕ) (s : State)
 (hk : Keeps ⟨false, b1, b2, b3, b4, b5⟩ u s) :
    Keeps ⟨false, b1, b2, b3, b4, b5⟩ u (setKey t st s) := by
  unfold setKey
  try dsimp only
  repeat' (first
    | with_reducible assumption | with_reducible apply keeps_countKeys | fail_if_no_progress with_reducible apply keeps_mk
    | fail_if_no_progress with_reducible apply keeps_mk_custody | (intro _) | split | dsimp only [id_eq])

theorem keeps_logTenantKey {b1 b2 b3 b4 b5 : Bool} {u : State} (c : Ctx) (op : ℕ) (t : ℕ) (s : State)
 (hk : Keeps ⟨false, b1, b2, b3, b4, b5⟩ u s) :
    Keeps ⟨false, b1, b2, b3, b4, b5⟩ u (logTenantKey c op t s) := by
  unfold logTenantKey
  try dsimp only
  repeat' (first
    | with_reducible assumption | with_reducible apply keeps_appendLog | (intro _) | split | dsimp only [id_eq])

theorem keeps_doKeyCommand {b1 b2 b3 b4 b5 : Bool} {u : State} (c : Ctx) (s : State)
 (hk : Keeps ⟨false, b1, b2, b3, b4, b5⟩ u s) :
    Keeps ⟨false, b1, b2, b3, b4, b5⟩ u (doKeyCommand c s) := by
  unfold doKeyCommand
  try dsimp only
  repeat' (first
    | with_reducible assumption | with_reducible apply keeps_applied | with_reducible apply keeps_drawKey
    | with_reducible apply keeps_fin | with_reducible apply keeps_finBad | with_reducible apply keeps_logTenantKey
    | with_reducible apply keeps_setKey | with_reducible refine keeps_drawKey_eq (by assumption) ?_
    | fail_if_no_progress with_reducible apply keeps_mk | fail_if_no_progress with_reducible apply keeps_mk_custody
    | (intro _) | split | dsimp only [id_eq])

theorem keeps_execKeyCreate {b1 b2 b3 b4 b5 : Bool} {u : State} (d : DapMsg) (s : State)
 (hk : Keeps ⟨false, b1, b2, b3, b4, b5⟩ u s) :
    ∀ t, execKeyCreate d s = .next t → Keeps ⟨false, b1, b2, b3, b4, b5⟩ u t := by
  intro t e
  unfold execKeyCreate at e
  cases e
  repeat' (first
    | with_reducible assumption | with_reducible apply keeps_dapServe | with_reducible apply keeps_doKeyCommand
    | (intro _) | split | dsimp only [id_eq])

theorem keeps_execKeyDestroy {b1 b2 b3 b4 b5 : Bool} {u : State} (d : DapMsg) (s : State)
 (hk : Keeps ⟨false, b1, b2, b3, b4, b5⟩ u s) :
    ∀ t, execKeyDestroy d s = .next t → Keeps ⟨false, b1, b2, b3, b4, b5⟩ u t := by
  intro t e
  unfold execKeyDestroy at e
  cases e
  repeat' (first
    | with_reducible assumption | with_reducible apply keeps_dapServe | with_reducible apply keeps_doKeyCommand
    | (intro _) | split | dsimp only [id_eq])

theorem keeps_doKeySwept {b2 b3 b4 b5 : Bool} {u : State} (t : ℕ) (s : State)
 (hk : Keeps ⟨false, false, b2, b3, b4, b5⟩ u s) :
    Keeps ⟨false, false, b2, b3, b4, b5⟩ u (doKeySwept t s) := by
  unfold doKeySwept
  try dsimp only
  repeat' (first
    | with_reducible assumption | with_reducible apply keeps_makeZero | with_reducible apply keeps_setKey
    | with_reducible apply keeps_settlePlacement | with_reducible apply keeps_foldl | with_reducible apply keeps_foldl_snd
    | (intro _) | split | dsimp only [id_eq])

theorem keeps_execKeySweepDone {b2 b3 b4 b5 : Bool} {u : State} (tenant : ℕ) (s : State)
 (hk : Keeps ⟨false, false, b2, b3, b4, b5⟩ u s) :
    ∀ t, execKeySweepDone tenant s = .next t → Keeps ⟨false, false, b2, b3, b4, b5⟩ u t := by
  intro t e
  unfold execKeySweepDone at e
  cases e
  repeat' (first
    | with_reducible assumption | with_reducible apply keeps_doKeySwept | (intro _) | split | dsimp only [id_eq])

theorem keeps_doLogCheckpoint {b1 b2 b3 b4 b5 : Bool} {u : State} (c : Ctx) (s : State)
 (hk : Keeps ⟨false, b1, b2, b3, b4, b5⟩ u s) :
    Keeps ⟨false, b1, b2, b3, b4, b5⟩ u (doLogCheckpoint c s) := by
  unfold doLogCheckpoint
  try dsimp only
  repeat' (first
    | with_reducible assumption | with_reducible apply keeps_applied | with_reducible apply keeps_checkpoint
    | with_reducible apply keeps_fin | with_reducible apply keeps_finBad | (intro _) | split | dsimp only [id_eq])

theorem keeps_execLogCheckpoint {b1 b2 b3 b4 b5 : Bool} {u : State} (d : DapMsg) (s : State)
 (hk : Keeps ⟨false, b1, b2, b3, b4, b5⟩ u s) :
    ∀ t, execLogCheckpoint d s = .next t → Keeps ⟨false, b1, b2, b3, b4, b5⟩ u t := by
  intro t e
  unfold execLogCheckpoint at e
  cases e
  repeat' (first
    | with_reducible assumption | with_reducible apply keeps_dapServe | with_reducible apply keeps_doLogCheckpoint
    | (intro _) | split | dsimp only [id_eq])

theorem keeps_execLifetimeMeterUpdate {b0 b1 b2 b3 b4 b5 : Bool} {u : State} (m : LifeReading) (s : State)
 (hk : Keeps ⟨b0, b1, b2, b3, b4, b5⟩ u s) :
    ∀ t, execLifetimeMeterUpdate m s = .next t → Keeps ⟨b0, b1, b2, b3, b4, b5⟩ u t := by
  intro t e
  unfold execLifetimeMeterUpdate at e
  cases e
  repeat' (first
    | with_reducible assumption | with_reducible apply keeps_bump | with_reducible apply keeps_setObj
    | with_reducible apply keeps_foldl | with_reducible apply keeps_foldl_snd | (intro _) | split | dsimp only [id_eq])

theorem keeps_logMeters {b1 b2 b3 b4 b5 : Bool} {u : State} (s : State) (hk : Keeps ⟨false, b1, b2, b3, b4, b5⟩ u s) :
    Keeps ⟨false, b1, b2, b3, b4, b5⟩ u (logMeters s) := by
  unfold logMeters
  try dsimp only
  repeat' (first
    | with_reducible assumption | with_reducible apply keeps_appendLog | (intro _) | split | dsimp only [id_eq])

theorem keeps_execMeterSnapshot {b1 b2 b3 b4 b5 : Bool} {u : State} (s : State)
 (hk : Keeps ⟨false, b1, b2, b3, b4, b5⟩ u s) :
    ∀ t, execMeterSnapshot s = .next t → Keeps ⟨false, b1, b2, b3, b4, b5⟩ u t := by
  intro t e
  unfold execMeterSnapshot at e
  cases e
  repeat' (first
    | with_reducible assumption | with_reducible apply keeps_logMeters | (intro _) | split | dsimp only [id_eq])

theorem keeps_purgeKeys {b1 b2 b3 b4 b5 : Bool} {u : State} (s : State) (hk : Keeps ⟨false, b1, b2, b3, b4, b5⟩ u s) :
    Keeps ⟨false, b1, b2, b3, b4, b5⟩ u (purgeKeys s) := by
  unfold purgeKeys
  try dsimp only
  repeat' (first
    | with_reducible assumption | with_reducible apply keeps_countKeys | with_reducible apply keeps_drawKey
    | with_reducible refine keeps_drawKey_eq (by assumption) ?_ | fail_if_no_progress with_reducible apply keeps_mk
    | fail_if_no_progress with_reducible apply keeps_mk_custody | (intro _) | split | dsimp only [id_eq])

theorem keeps_purgeMemory {b0 b2 b3 b4 b5 : Bool} {u : State} (s : State) (hk : Keeps ⟨b0, false, b2, b3, b4, b5⟩ u s) :
    Keeps ⟨b0, false, b2, b3, b4, b5⟩ u (purgeMemory s) := by
  unfold purgeMemory
  try dsimp only
  repeat' (first
    | with_reducible assumption | fail_if_no_progress with_reducible apply keeps_filter
    | fail_if_no_progress with_reducible apply keeps_mk | fail_if_no_progress with_reducible apply keeps_mk_memory
    | (intro _) | split | dsimp only [id_eq])

theorem keeps_purgeKey {b2 b4 b5 : Bool} {u : State} (slot : ℕ) (s : State)
 (hk : Keeps ⟨false, false, b2, false, b4, b5⟩ u s) :
    Keeps ⟨false, false, b2, false, b4, b5⟩ u (purgeKey slot s) := by
  unfold purgeKey
  try dsimp only
  repeat' (first
    | with_reducible assumption | with_reducible apply keeps_appendLog | with_reducible apply keeps_cfgEvent
    | with_reducible apply keeps_resetObj | with_reducible apply keeps_retireSigned | (intro _) | split
    | dsimp only [id_eq])

theorem keeps_purgeObjects {b2 b4 b5 : Bool} {u : State} (s : State) (hk : Keeps ⟨false, false, b2, false, b4, b5⟩ u s) :
    Keeps ⟨false, false, b2, false, b4, b5⟩ u (purgeObjects s) := by
  unfold purgeObjects
  try dsimp only
  repeat' (first
    | with_reducible assumption | with_reducible apply keeps_purgeKey | with_reducible apply keeps_setObj
    | with_reducible apply keeps_storeImage | with_reducible apply keeps_toDefaults
    | fail_if_no_progress with_reducible apply keeps_mk | with_reducible apply keeps_foldl
    | with_reducible apply keeps_foldl_snd | (intro _) | split | dsimp only [id_eq])

theorem keeps_purgeAll {b2 b5 : Bool} {u : State} (body : ℕ) (s : State)
 (hk : Keeps ⟨false, false, b2, false, false, b5⟩ u s) :
    Keeps ⟨false, false, b2, false, false, b5⟩ u (purgeAll body s) := by
  unfold purgeAll
  try dsimp only
  repeat' (first
    | with_reducible assumption | with_reducible apply keeps_appendLog | with_reducible apply keeps_clearQps
    | with_reducible apply keeps_dropWork | with_reducible apply keeps_endAllSpdm | with_reducible apply keeps_logMeters
    | with_reducible apply keeps_purgeKeys | with_reducible apply keeps_purgeMemory
    | with_reducible apply keeps_purgeObjects | with_reducible apply keeps_setObj
    | with_reducible apply keeps_triggerReset | fail_if_no_progress with_reducible apply keeps_mk
    | fail_if_no_progress with_reducible apply keeps_mk_custody | (intro _) | split | dsimp only [id_eq])

theorem keeps_doHandover {b2 b5 : Bool} {u : State} (c : Ctx) (s : State)
 (hk : Keeps ⟨false, false, b2, false, false, b5⟩ u s) :
    Keeps ⟨false, false, b2, false, false, b5⟩ u (doHandover c s) := by
  unfold doHandover
  try dsimp only
  repeat' (first
    | with_reducible assumption | with_reducible apply keeps_appendLog | with_reducible apply keeps_applied
    | with_reducible apply keeps_bump | with_reducible apply keeps_fin | with_reducible apply keeps_finBad
    | with_reducible apply keeps_finOk | with_reducible apply keeps_guardedEntry | with_reducible apply keeps_purgeAll
    | with_reducible apply keeps_setObj | fail_if_no_progress with_reducible apply keeps_mk
    | fail_if_no_progress with_reducible apply keeps_mk_custody | (intro _) | split | dsimp only [id_eq])

theorem keeps_execHandover {b2 b5 : Bool} {u : State} (d : DapMsg) (s : State)
 (hk : Keeps ⟨false, false, b2, false, false, b5⟩ u s) :
    ∀ t, execHandover d s = .next t → Keeps ⟨false, false, b2, false, false, b5⟩ u t := by
  intro t e
  unfold execHandover at e
  cases e
  repeat' (first
    | with_reducible assumption | with_reducible apply keeps_dapServe | with_reducible apply keeps_doHandover | (intro _)
    | split | dsimp only [id_eq])

theorem keeps_execHandoverReport {b2 b5 : Bool} {u : State} (d : DapMsg) (s : State)
 (hk : Keeps ⟨false, false, b2, false, false, b5⟩ u s) :
    ∀ t, execHandoverReport d s = .next t → Keeps ⟨false, false, b2, false, false, b5⟩ u t := by
  intro t e
  unfold execHandoverReport at e
  cases e
  repeat' (first
    | with_reducible assumption | with_reducible apply keeps_dapServe | with_reducible apply keeps_doHandover | (intro _)
    | split | dsimp only [id_eq])

theorem keeps_doConditionReport {b1 b2 b3 b4 b5 : Bool} {u : State} (s : State)
 (hk : Keeps ⟨false, b1, b2, b3, b4, b5⟩ u s) :
    Keeps ⟨false, b1, b2, b3, b4, b5⟩ u (doConditionReport s) := by
  unfold doConditionReport
  try dsimp only
  repeat' (first
    | with_reducible assumption | with_reducible apply keeps_appendLog | with_reducible apply keeps_setObj | (intro _)
    | split | dsimp only [id_eq])

theorem keeps_execConditionReportSign {b1 b2 b3 b4 b5 : Bool} {u : State} (s : State)
 (hk : Keeps ⟨false, b1, b2, b3, b4, b5⟩ u s) :
    ∀ t, execConditionReportSign s = .next t → Keeps ⟨false, b1, b2, b3, b4, b5⟩ u t := by
  intro t e
  unfold execConditionReportSign at e
  cases e
  repeat' (first
    | with_reducible assumption | with_reducible apply keeps_doConditionReport | (intro _) | split | dsimp only [id_eq])

theorem keeps_readObj {b0 b1 b2 b3 b4 b5 : Bool} {u : State} (c : Ctx) (s : State)
 (hk : Keeps ⟨b0, b1, b2, b3, b4, b5⟩ u s) :
    Keeps ⟨b0, b1, b2, b3, b4, b5⟩ u (readObj c s) := by
  unfold readObj
  try dsimp only
  repeat' (first
    | with_reducible assumption | with_reducible apply keeps_doBatchRead | with_reducible apply keeps_doRawRead
    | with_reducible apply keeps_doRawRead64 | with_reducible apply keeps_doSyncView | with_reducible apply keeps_drawFree
    | with_reducible apply keeps_finBad | with_reducible apply keeps_finRead | with_reducible apply keeps_readDomain
    | with_reducible refine keeps_drawFree_eq (by assumption) ?_ | fail_if_no_progress with_reducible apply keeps_mk
    | (intro _) | split | dsimp only [id_eq])

theorem keeps_writePlain {b1 b2 b3 b4 b5 : Bool} {u : State} (c : Ctx) (s : State)
 (hk : Keeps ⟨false, b1, b2, b3, b4, b5⟩ u s) :
    Keeps ⟨false, b1, b2, b3, b4, b5⟩ u (writePlain c s) := by
  unfold writePlain
  try dsimp only
  repeat' (first
    | with_reducible assumption | with_reducible apply keeps_applied | with_reducible apply keeps_finBad
    | with_reducible apply keeps_setObj | (intro _) | split | dsimp only [id_eq])

theorem keeps_doDomainObject {b1 b2 b3 b4 b5 : Bool} {u : State} (c : Ctx) (s : State)
 (hk : Keeps ⟨false, b1, b2, b3, b4, b5⟩ u s) :
    Keeps ⟨false, b1, b2, b3, b4, b5⟩ u (doDomainObject c s) := by
  unfold doDomainObject
  try dsimp only
  repeat' (first
    | with_reducible assumption | with_reducible apply keeps_fin | with_reducible apply keeps_writePlain | (intro _)
    | split | dsimp only [id_eq])

theorem keeps_doMemberCount {b1 b2 b3 b4 b5 : Bool} {u : State} (c : Ctx) (s : State)
 (hk : Keeps ⟨false, b1, b2, b3, b4, b5⟩ u s) :
    Keeps ⟨false, b1, b2, b3, b4, b5⟩ u (doMemberCount c s) := by
  unfold doMemberCount
  try dsimp only
  repeat' (first
    | with_reducible assumption | with_reducible apply keeps_doDomainObject | with_reducible apply keeps_fin | (intro _)
    | split | dsimp only [id_eq])

theorem keeps_doPackageNumber {b1 b2 b3 b4 b5 : Bool} {u : State} (c : Ctx) (s : State)
 (hk : Keeps ⟨false, b1, b2, b3, b4, b5⟩ u s) :
    Keeps ⟨false, b1, b2, b3, b4, b5⟩ u (doPackageNumber c s) := by
  unfold doPackageNumber
  try dsimp only
  repeat' (first
    | with_reducible assumption | with_reducible apply keeps_applied | with_reducible apply keeps_fin
    | with_reducible apply keeps_finBad | with_reducible apply keeps_setObj | (intro _) | split | dsimp only [id_eq])

theorem keeps_doPackageRequester {b1 b2 b3 b4 b5 : Bool} {u : State} (c : Ctx) (s : State)
 (hk : Keeps ⟨false, b1, b2, b3, b4, b5⟩ u s) :
    Keeps ⟨false, b1, b2, b3, b4, b5⟩ u (doPackageRequester c s) := by
  unfold doPackageRequester
  try dsimp only
  repeat' (first
    | with_reducible assumption | with_reducible apply keeps_applied | with_reducible apply keeps_fin
    | with_reducible apply keeps_setObj | (intro _) | split | dsimp only [id_eq])

theorem keeps_doPowerLimit {b2 b4 b5 : Bool} {u : State} (c : Ctx) (s : State)
 (hk : Keeps ⟨false, false, b2, false, b4, b5⟩ u s) :
    Keeps ⟨false, false, b2, false, b4, b5⟩ u (doPowerLimit c s) := by
  unfold doPowerLimit
  try dsimp only
  repeat' (first
    | with_reducible assumption | with_reducible apply keeps_applied | with_reducible apply keeps_finBad
    | with_reducible apply keeps_guardedPair | with_reducible apply keeps_setObj | (intro _) | split | dsimp only [id_eq])

theorem keeps_doSleepTime {b1 b2 b3 b4 b5 : Bool} {u : State} (c : Ctx) (s : State)
 (hk : Keeps ⟨false, b1, b2, b3, b4, b5⟩ u s) :
    Keeps ⟨false, b1, b2, b3, b4, b5⟩ u (doSleepTime c s) := by
  unfold doSleepTime
  try dsimp only
  repeat' (first
    | with_reducible assumption | with_reducible apply keeps_applied | with_reducible apply keeps_finBad
    | with_reducible apply keeps_setObj | (intro _) | split | dsimp only [id_eq])

theorem keeps_doUdpPort {b1 b2 b3 b4 b5 : Bool} {u : State} (c : Ctx) (s : State)
 (hk : Keeps ⟨false, b1, b2, b3, b4, b5⟩ u s) :
    Keeps ⟨false, b1, b2, b3, b4, b5⟩ u (doUdpPort c s) := by
  unfold doUdpPort
  try dsimp only
  repeat' (first
    | with_reducible assumption | with_reducible apply keeps_applied | with_reducible apply keeps_finBad
    | with_reducible apply keeps_setObj | (intro _) | split | dsimp only [id_eq])

theorem keeps_doContextBase {b1 b2 b3 b4 b5 : Bool} {u : State} (c : Ctx) (s : State)
 (hk : Keeps ⟨false, b1, b2, b3, b4, b5⟩ u s) :
    Keeps ⟨false, b1, b2, b3, b4, b5⟩ u (doContextBase c s) := by
  unfold doContextBase
  try dsimp only
  repeat' (first
    | with_reducible assumption | with_reducible apply keeps_applied | with_reducible apply keeps_fin
    | with_reducible apply keeps_finBad | with_reducible apply keeps_setObj | (intro _) | split | dsimp only [id_eq])

theorem keeps_doFaultQueue {b1 b2 b3 b4 b5 : Bool} {u : State} (c : Ctx) (s : State)
 (hk : Keeps ⟨false, b1, b2, b3, b4, b5⟩ u s) :
    Keeps ⟨false, b1, b2, b3, b4, b5⟩ u (doFaultQueue c s) := by
  unfold doFaultQueue
  try dsimp only
  repeat' (first
    | with_reducible assumption | with_reducible apply keeps_applied | with_reducible apply keeps_fin
    | with_reducible apply keeps_finBad | with_reducible apply keeps_setObj | (intro _) | split | dsimp only [id_eq])

theorem keeps_doCommand {b0 : Bool} {u : State} (op : ℕ) (c : Ctx) (s : State)
 (hk : Keeps ⟨b0, false, false, false, false, false⟩ u s) :
    Keeps ⟨b0, false, false, false, false, false⟩ u (doCommand op c s) := by
  unfold doCommand
  try dsimp only
  repeat' (first
    | with_reducible assumption | with_reducible apply keeps_performOpcode | (intro _) | split | dsimp only [id_eq])

theorem keeps_freeAnswers {b0 b1 b2 b3 b4 b5 : Bool} {u : State} (s : State) (hk : Keeps ⟨b0, b1, b2, b3, b4, b5⟩ u s) :
    Keeps ⟨b0, b1, b2, b3, b4, b5⟩ u (freeAnswers s).2 := by
  unfold freeAnswers
  try dsimp only
  repeat' (first
    | with_reducible assumption | with_reducible apply keeps_drawFree
    | with_reducible refine keeps_drawFree_eq (by assumption) ?_ | with_reducible apply keeps_foldl
    | with_reducible apply keeps_foldl_snd | (intro _) | split | dsimp only [id_eq])

theorem keeps_freeAnswers_eq {b0 b1 b2 b3 b4 b5 : Bool} {u w : State} {r0 : List MemberAnswer} {s : State}
 (e : freeAnswers s = (r0, w)) (hk : Keeps ⟨b0, b1, b2, b3, b4, b5⟩ u s) :
    Keeps ⟨b0, b1, b2, b3, b4, b5⟩ u w := by
  have := keeps_freeAnswers  s  hk; rwa [e] at this

theorem keeps_doFormFree {b1 b2 b3 b5 : Bool} {u : State} (c : Ctx) (s : State)
 (hk : Keeps ⟨false, b1, b2, b3, false, b5⟩ u s) :
    Keeps ⟨false, b1, b2, b3, false, b5⟩ u (doFormFree c s) := by
  unfold doFormFree
  try dsimp only
  repeat' (first
    | with_reducible assumption | with_reducible apply keeps_doDomainForm | with_reducible apply keeps_freeAnswers
    | with_reducible refine keeps_freeAnswers_eq (by assumption) ?_ | (intro _) | split | dsimp only [id_eq])

theorem keeps_doChangeFree {b1 b2 b3 b4 : Bool} {u : State} (c : Ctx) (s : State)
 (hk : Keeps ⟨false, b1, b2, b3, b4, false⟩ u s) :
    Keeps ⟨false, b1, b2, b3, b4, false⟩ u (doChangeFree c s) := by
  unfold doChangeFree
  try dsimp only
  repeat' (first
    | with_reducible assumption | with_reducible apply keeps_doDomainChange | with_reducible apply keeps_drawFree
    | with_reducible refine keeps_drawFree_eq (by assumption) ?_ | (intro _) | split | dsimp only [id_eq])

theorem keeps_doClear {b1 b2 b3 b4 b5 : Bool} {u : State} (l : List (ℕ × List ℕ)) (c : Ctx) (s : State)
 (hk : Keeps ⟨false, b1, b2, b3, b4, b5⟩ u s) :
    Keeps ⟨false, b1, b2, b3, b4, b5⟩ u (doClear l c s) := by
  unfold doClear
  try dsimp only
  repeat' (first
    | with_reducible assumption | with_reducible apply keeps_clearObjs | with_reducible apply keeps_clearing
    | with_reducible apply keeps_foldl | with_reducible apply keeps_foldl_snd | (intro _) | split | dsimp only [id_eq])

theorem keeps_ownWrite {u : State} {key : Nat} {f : Ctx → State → State} (e : ownWrite key = some f) (c : Ctx) (s : State)
    (hk : Keeps ⟨false, false, false, false, false, false⟩ u s) : Keeps ⟨false, false, false, false, false, false⟩ u (f c s) := by
  unfold ownWrite at e
  repeat' split at e
  all_goals first
    | (simp only [reduceCtorEq] at e)
    | (simp only [Option.some.injEq] at e; subst e; repeat' (first
        | with_reducible assumption | with_reducible apply keeps_doArenaBase | with_reducible apply keeps_doCfgCommit
        | with_reducible apply keeps_doChangeFree | with_reducible apply keeps_doCheckEnable
        | with_reducible apply keeps_doCommand | with_reducible apply keeps_doContextBase
        | with_reducible apply keeps_doDataSource | with_reducible apply keeps_doDieRetest
        | with_reducible apply keeps_doDomainObject | with_reducible apply keeps_doDrainBegin
        | with_reducible apply keeps_doEnterStanding | with_reducible apply keeps_doExpelVote
        | with_reducible apply keeps_doFormFree | with_reducible apply keeps_doFwHandover
        | with_reducible apply keeps_doFwVerify | with_reducible apply keeps_doHandover
        | with_reducible apply keeps_doHeldReady | with_reducible apply keeps_doKeyCommand
        | with_reducible apply keeps_doLinkRecal | with_reducible apply keeps_doLogCheckpoint
        | with_reducible apply keeps_doMasterConfirm | with_reducible apply keeps_doMemberCount
        | with_reducible apply keeps_doMeterAck | with_reducible apply keeps_doObjTableBase
        | with_reducible apply keeps_doPackageNumber | with_reducible apply keeps_doPackageRequester
        | with_reducible apply keeps_doPinLimit | with_reducible apply keeps_doPkgReset
        | with_reducible apply keeps_doPowerLimit | with_reducible apply keeps_doQpEntry | with_reducible apply keeps_doRawDie
        | with_reducible apply keeps_doRawGuarded | with_reducible apply keeps_doRawOffset
        | with_reducible apply keeps_doRawWrite | with_reducible apply keeps_doRawWrite64
        | with_reducible apply keeps_doRegionEntry | with_reducible apply keeps_doRestoreDefaults
        | with_reducible apply keeps_doSaveNow | with_reducible apply keeps_doShadowTableBase
        | with_reducible apply keeps_doStage | with_reducible apply keeps_doStageOffset
        | with_reducible apply keeps_doTrustMode | with_reducible apply keeps_doUdpPort
        | fail_if_no_progress with_reducible apply keeps_mk | (intro _) | split | dsimp only [id_eq]))

theorem keeps_arrayWrite {b2 b4 b5 : Bool} {u : State} {index : Nat} {sub : Nat} {f : Ctx → State → State}
 (e : arrayWrite index sub = some f) (c : Ctx) (s : State)
    (hk : Keeps ⟨false, false, b2, false, b4, b5⟩ u s) : Keeps ⟨false, false, b2, false, b4, b5⟩ u (f c s) := by
  unfold arrayWrite at e
  repeat' split at e
  all_goals first
    | (simp only [reduceCtorEq] at e)
    | (simp only [Option.some.injEq] at e; subst e; repeat' (first
        | with_reducible assumption | with_reducible apply keeps_doAgentEntry | with_reducible apply keeps_doClear
        | with_reducible apply keeps_doDomainObject | with_reducible apply keeps_doFaultQueue
        | with_reducible apply keeps_doFloor | with_reducible apply keeps_doFmKey | with_reducible apply keeps_doHotArea
        | with_reducible apply keeps_doImageKey | with_reducible apply keeps_doOwnerKey
        | with_reducible apply keeps_doSleepTime | (intro _) | split | dsimp only [id_eq]))

theorem keeps_writeObj {u : State} (c : Ctx) (s : State) (hk : Keeps ⟨false, false, false, false, false, false⟩ u s) :
    Keeps ⟨false, false, false, false, false, false⟩ u (writeObj c s) := by
  unfold writeObj
  try dsimp only
  repeat' (first
    | with_reducible assumption | with_reducible apply keeps_doClear | with_reducible apply keeps_writePlain
    | with_reducible refine keeps_arrayWrite (by assumption) _ _ ?_
    | with_reducible refine keeps_ownWrite (by assumption) _ _ ?_ | fail_if_no_progress with_reducible apply keeps_mk
    | (intro _) | split | dsimp only [id_eq])

theorem keeps_execDapRead {b0 b1 b2 b3 b4 b5 : Bool} {u : State} (d : DapMsg) (s : State)
 (hk : Keeps ⟨b0, b1, b2, b3, b4, b5⟩ u s) :
    ∀ t, execDapRead d s = .next t → Keeps ⟨b0, b1, b2, b3, b4, b5⟩ u t := by
  intro t e
  unfold execDapRead at e
  cases e
  repeat' (first
    | with_reducible assumption | with_reducible apply keeps_dapServe | with_reducible apply keeps_readObj | (intro _)
    | split | dsimp only [id_eq])

theorem keeps_execDapWrite {u : State} (d : DapMsg) (s : State)
 (hk : Keeps ⟨false, false, false, false, false, false⟩ u s) :
    ∀ t, execDapWrite d s = .next t → Keeps ⟨false, false, false, false, false, false⟩ u t := by
  intro t e
  unfold execDapWrite at e
  cases e
  repeat' (first
    | with_reducible assumption | with_reducible apply keeps_dapServe | with_reducible apply keeps_writeObj | (intro _)
    | split | dsimp only [id_eq])

theorem keeps_execDapWriteGuarded {u : State} (d : DapMsg) (s : State)
 (hk : Keeps ⟨false, false, false, false, false, false⟩ u s) :
    ∀ t, execDapWriteGuarded d s = .next t → Keeps ⟨false, false, false, false, false, false⟩ u t := by
  intro t e
  unfold execDapWriteGuarded at e
  cases e
  repeat' (first
    | with_reducible assumption | with_reducible apply keeps_dapServe | with_reducible apply keeps_writeObj | (intro _)
    | split | dsimp only [id_eq])

theorem keeps_execDictObjectWrite {u : State} (d : DapMsg) (s : State)
 (hk : Keeps ⟨false, false, false, false, false, false⟩ u s) :
    ∀ t, execDictObjectWrite d s = .next t → Keeps ⟨false, false, false, false, false, false⟩ u t := by
  intro t e
  unfold execDictObjectWrite at e
  cases e
  repeat' (first
    | with_reducible assumption | with_reducible apply keeps_dapServe | with_reducible apply keeps_writeObj | (intro _)
    | split | dsimp only [id_eq])

theorem keeps_execPackageNumberWrite {b1 b2 b3 b4 b5 : Bool} {u : State} (d : DapMsg) (s : State)
 (hk : Keeps ⟨false, b1, b2, b3, b4, b5⟩ u s) :
    ∀ t, execPackageNumberWrite d s = .next t → Keeps ⟨false, b1, b2, b3, b4, b5⟩ u t := by
  intro t e
  unfold execPackageNumberWrite at e
  cases e
  repeat' (first
    | with_reducible assumption | with_reducible apply keeps_dapServe | with_reducible apply keeps_doPackageNumber
    | (intro _) | split | dsimp only [id_eq])

theorem keeps_execArithCountersClear {b1 b2 b3 b4 b5 : Bool} {u : State} (d : DapMsg) (s : State)
 (hk : Keeps ⟨false, b1, b2, b3, b4, b5⟩ u s) :
    ∀ t, execArithCountersClear d s = .next t → Keeps ⟨false, b1, b2, b3, b4, b5⟩ u t := by
  intro t e
  unfold execArithCountersClear at e
  cases e
  repeat' (first
    | with_reducible assumption | with_reducible apply keeps_clearObj | with_reducible apply keeps_clearObjs | (intro _)
    | split | dsimp only [id_eq])

theorem keeps_execXltCountersClear {b1 b2 b3 b4 b5 : Bool} {u : State} (d : DapMsg) (s : State)
 (hk : Keeps ⟨false, b1, b2, b3, b4, b5⟩ u s) :
    ∀ t, execXltCountersClear d s = .next t → Keeps ⟨false, b1, b2, b3, b4, b5⟩ u t := by
  intro t e
  unfold execXltCountersClear at e
  cases e
  repeat' (first
    | with_reducible assumption | with_reducible apply keeps_clearObj | with_reducible apply keeps_clearObjs | (intro _)
    | split | dsimp only [id_eq])

theorem keeps_execDictCountersClear {b1 b2 b3 b4 b5 : Bool} {u : State} (d : DapMsg) (s : State)
 (hk : Keeps ⟨false, b1, b2, b3, b4, b5⟩ u s) :
    ∀ t, execDictCountersClear d s = .next t → Keeps ⟨false, b1, b2, b3, b4, b5⟩ u t := by
  intro t e
  unfold execDictCountersClear at e
  cases e
  repeat' (first
    | with_reducible assumption | with_reducible apply keeps_clearObj | with_reducible apply keeps_clearObjs | (intro _)
    | split | dsimp only [id_eq])

end Sys2Proof.Machine
end

