-- ==== Sys2Proof/Laws/State.lean ====
section
/-! SUPPORT. What each update of the state leaves: one lemma per field and update. -/

namespace Sys2Proof.Machine

/-! ## setObj -/

section
variable (index sub v : Nat) (s : State)

@[simp] theorem setObj_objs : (setObj index sub v s).objs = tset s.objs (okey index sub) v := rfl
@[simp] theorem setObj_pending : (setObj index sub v s).pending = s.pending := rfl
@[simp] theorem setObj_out : (setObj index sub v s).out = s.out := rfl
@[simp] theorem setObj_freeCtr : (setObj index sub v s).freeCtr = s.freeCtr := rfl
@[simp] theorem setObj_variant : (setObj index sub v s).variant = s.variant := rfl
@[simp] theorem setObj_pkg : (setObj index sub v s).pkg = s.pkg := rfl
@[simp] theorem setObj_time : (setObj index sub v s).time = s.time := rfl
@[simp] theorem setObj_mem : (setObj index sub v s).mem = s.mem := rfl
@[simp] theorem setObj_poison : (setObj index sub v s).poison = s.poison := rfl
@[simp] theorem setObj_accCtr : (setObj index sub v s).accCtr = s.accCtr := rfl
@[simp] theorem setObj_reqCtr : (setObj index sub v s).reqCtr = s.reqCtr := rfl
@[simp] theorem setObj_snoopCtr : (setObj index sub v s).snoopCtr = s.snoopCtr := rfl
@[simp] theorem setObj_links : (setObj index sub v s).links = s.links := rfl
@[simp] theorem setObj_pkgBucket : (setObj index sub v s).pkgBucket = s.pkgBucket := rfl
@[simp] theorem setObj_pkgBucketAt : (setObj index sub v s).pkgBucketAt = s.pkgBucketAt := rfl
@[simp] theorem setObj_compTab : (setObj index sub v s).compTab = s.compTab := rfl
@[simp] theorem setObj_comps : (setObj index sub v s).comps = s.comps := rfl
@[simp] theorem setObj_recordSeq : (setObj index sub v s).recordSeq = s.recordSeq := rfl
@[simp] theorem setObj_meterStart : (setObj index sub v s).meterStart = s.meterStart := rfl
@[simp] theorem setObj_regions : (setObj index sub v s).regions = s.regions := rfl
@[simp] theorem setObj_owners : (setObj index sub v s).owners = s.owners := rfl
@[simp] theorem setObj_openReqs : (setObj index sub v s).openReqs = s.openReqs := rfl
@[simp] theorem setObj_dma : (setObj index sub v s).dma = s.dma := rfl
@[simp] theorem setObj_extents : (setObj index sub v s).extents = s.extents := rfl
@[simp] theorem setObj_placed : (setObj index sub v s).placed = s.placed := rfl
@[simp] theorem setObj_shadows : (setObj index sub v s).shadows = s.shadows := rfl
@[simp] theorem setObj_placeQ : (setObj index sub v s).placeQ = s.placeQ := rfl
@[simp] theorem setObj_moves : (setObj index sub v s).moves = s.moves := rfl
@[simp] theorem setObj_stalls : (setObj index sub v s).stalls = s.stalls := rfl
@[simp] theorem setObj_retired : (setObj index sub v s).retired = s.retired := rfl
@[simp] theorem setObj_dir : (setObj index sub v s).dir = s.dir := rfl
@[simp] theorem setObj_snoops : (setObj index sub v s).snoops = s.snoops := rfl
@[simp] theorem setObj_sync : (setObj index sub v s).sync = s.sync := rfl
@[simp] theorem setObj_copies : (setObj index sub v s).copies = s.copies := rfl
@[simp] theorem setObj_deadlock : (setObj index sub v s).deadlock = s.deadlock := rfl
@[simp] theorem setObj_dict : (setObj index sub v s).dict = s.dict := rfl
@[simp] theorem setObj_blocks : (setObj index sub v s).blocks = s.blocks := rfl
@[simp] theorem setObj_regs : (setObj index sub v s).regs = s.regs := rfl
@[simp] theorem setObj_mbx : (setObj index sub v s).mbx = s.mbx := rfl
@[simp] theorem setObj_geyser : (setObj index sub v s).geyser = s.geyser := rfl
@[simp] theorem setObj_doms : (setObj index sub v s).doms = s.doms := rfl
@[simp] theorem setObj_keyGens : (setObj index sub v s).keyGens = s.keyGens := rfl
@[simp] theorem setObj_replaced : (setObj index sub v s).replaced = s.replaced := rfl
@[simp] theorem setObj_misroutes : (setObj index sub v s).misroutes = s.misroutes := rfl
@[simp] theorem setObj_recalls : (setObj index sub v s).recalls = s.recalls := rfl
@[simp] theorem setObj_tiles : (setObj index sub v s).tiles = s.tiles := rfl
@[simp] theorem setObj_notified : (setObj index sub v s).notified = s.notified := rfl
@[simp] theorem setObj_owed : (setObj index sub v s).owed = s.owed := rfl
@[simp] theorem setObj_registry : (setObj index sub v s).registry = s.registry := rfl
@[simp] theorem setObj_reserved : (setObj index sub v s).reserved = s.reserved := rfl
@[simp] theorem setObj_registering : (setObj index sub v s).registering = s.registering := rfl
@[simp] theorem setObj_retiring : (setObj index sub v s).retiring = s.retiring := rfl
@[simp] theorem setObj_loading : (setObj index sub v s).loading = s.loading := rfl
@[simp] theorem setObj_clusters : (setObj index sub v s).clusters = s.clusters := rfl
@[simp] theorem setObj_handles : (setObj index sub v s).handles = s.handles := rfl
@[simp] theorem setObj_calls : (setObj index sub v s).calls = s.calls := rfl
@[simp] theorem setObj_xlt : (setObj index sub v s).xlt = s.xlt := rfl
@[simp] theorem setObj_xltDesc : (setObj index sub v s).xltDesc = s.xltDesc := rfl
@[simp] theorem setObj_walks : (setObj index sub v s).walks = s.walks := rfl
@[simp] theorem setObj_faults : (setObj index sub v s).faults = s.faults := rfl
@[simp] theorem setObj_faultNone : (setObj index sub v s).faultNone = s.faultNone := rfl
@[simp] theorem setObj_faultIds : (setObj index sub v s).faultIds = s.faultIds := rfl
@[simp] theorem setObj_invals : (setObj index sub v s).invals = s.invals := rfl
@[simp] theorem setObj_log : (setObj index sub v s).log = s.log := rfl
@[simp] theorem setObj_lastCheck : (setObj index sub v s).lastCheck = s.lastCheck := rfl
@[simp] theorem setObj_sinceCheck : (setObj index sub v s).sinceCheck = s.sinceCheck := rfl
@[simp] theorem setObj_qps : (setObj index sub v s).qps = s.qps := rfl
@[simp] theorem setObj_paused : (setObj index sub v s).paused = s.paused := rfl
@[simp] theorem setObj_xoff : (setObj index sub v s).xoff = s.xoff := rfl
@[simp] theorem setObj_ethHeld : (setObj index sub v s).ethHeld = s.ethHeld := rfl
@[simp] theorem setObj_selfDone : (setObj index sub v s).selfDone = s.selfDone := rfl
@[simp] theorem setObj_arenas : (setObj index sub v s).arenas = s.arenas := rfl
@[simp] theorem setObj_attends : (setObj index sub v s).attends = s.attends := rfl
@[simp] theorem setObj_commits : (setObj index sub v s).commits = s.commits := rfl
@[simp] theorem setObj_keyStates : (setObj index sub v s).keyStates = s.keyStates := rfl
@[simp] theorem setObj_slots : (setObj index sub v s).slots = s.slots := rfl
@[simp] theorem setObj_streams : (setObj index sub v s).streams = s.streams := rfl
@[simp] theorem setObj_packs : (setObj index sub v s).packs = s.packs := rfl
@[simp] theorem setObj_otables : (setObj index sub v s).otables = s.otables := rfl
@[simp] theorem setObj_oreqs : (setObj index sub v s).oreqs = s.oreqs := rfl
@[simp] theorem setObj_guests : (setObj index sub v s).guests = s.guests := rfl
@[simp] theorem setObj_forwards : (setObj index sub v s).forwards = s.forwards := rfl
@[simp] theorem setObj_shards : (setObj index sub v s).shards = s.shards := rfl
@[simp] theorem setObj_rowOps : (setObj index sub v s).rowOps = s.rowOps := rfl
@[simp] theorem setObj_indexes : (setObj index sub v s).indexes = s.indexes := rfl
@[simp] theorem setObj_sops : (setObj index sub v s).sops = s.sops := rfl
@[simp] theorem setObj_memberRanges : (setObj index sub v s).memberRanges = s.memberRanges := rfl
@[simp] theorem setObj_batches : (setObj index sub v s).batches = s.batches := rfl
@[simp] theorem setObj_batchSeq : (setObj index sub v s).batchSeq = s.batchSeq := rfl
@[simp] theorem setObj_fw : (setObj index sub v s).fw = s.fw := rfl
@[simp] theorem setObj_resetting : (setObj index sub v s).resetting = s.resetting := rfl
@[simp] theorem setObj_inputOn : (setObj index sub v s).inputOn = s.inputOn := rfl
@[simp] theorem setObj_cold : (setObj index sub v s).cold = s.cold := rfl
@[simp] theorem setObj_fullTest : (setObj index sub v s).fullTest = s.fullTest := rfl
@[simp] theorem setObj_thermTrip : (setObj index sub v s).thermTrip = s.thermTrip := rfl
@[simp] theorem setObj_norFree : (setObj index sub v s).norFree = s.norFree := rfl
@[simp] theorem setObj_burstUj : (setObj index sub v s).burstUj = s.burstUj := rfl
@[simp] theorem setObj_retest : (setObj index sub v s).retest = s.retest := rfl
@[simp] theorem setObj_votes : (setObj index sub v s).votes = s.votes := rfl
@[simp] theorem setObj_change : (setObj index sub v s).change = s.change := rfl
@[simp] theorem setObj_purge : (setObj index sub v s).purge = s.purge := rfl
@[simp] theorem setObj_spdm : (setObj index sub v s).spdm = s.spdm := rfl
@[simp] theorem setObj_dissolving : (setObj index sub v s).dissolving = s.dissolving := rfl
@[simp] theorem setObj_store : (setObj index sub v s).store = s.store := rfl
@[simp] theorem setObj_unrebuilt : (setObj index sub v s).unrebuilt = s.unrebuilt := rfl
@[simp] theorem setObj_memberObjects : (setObj index sub v s).memberObjects = s.memberObjects := rfl
@[simp] theorem setObj_tenantKeys : (setObj index sub v s).tenantKeys = s.tenantKeys := rfl
@[simp] theorem setObj_mediaKey : (setObj index sub v s).mediaKey = s.mediaKey := rfl
@[simp] theorem setObj_peeked : (setObj index sub v s).peeked = s.peeked := rfl
@[simp] theorem setObj_formFrom : (setObj index sub v s).formFrom = s.formFrom := rfl

end

/-! ## resetObj -/

section
variable (index sub : Nat) (s : State)

@[simp] theorem resetObj_objs : (resetObj index sub s).objs = terase s.objs (okey index sub) := rfl
@[simp] theorem resetObj_pending : (resetObj index sub s).pending = s.pending := rfl
@[simp] theorem resetObj_out : (resetObj index sub s).out = s.out := rfl
@[simp] theorem resetObj_freeCtr : (resetObj index sub s).freeCtr = s.freeCtr := rfl
@[simp] theorem resetObj_variant : (resetObj index sub s).variant = s.variant := rfl
@[simp] theorem resetObj_pkg : (resetObj index sub s).pkg = s.pkg := rfl
@[simp] theorem resetObj_time : (resetObj index sub s).time = s.time := rfl
@[simp] theorem resetObj_mem : (resetObj index sub s).mem = s.mem := rfl
@[simp] theorem resetObj_poison : (resetObj index sub s).poison = s.poison := rfl
@[simp] theorem resetObj_accCtr : (resetObj index sub s).accCtr = s.accCtr := rfl
@[simp] theorem resetObj_reqCtr : (resetObj index sub s).reqCtr = s.reqCtr := rfl
@[simp] theorem resetObj_snoopCtr : (resetObj index sub s).snoopCtr = s.snoopCtr := rfl
@[simp] theorem resetObj_links : (resetObj index sub s).links = s.links := rfl
@[simp] theorem resetObj_pkgBucket : (resetObj index sub s).pkgBucket = s.pkgBucket := rfl
@[simp] theorem resetObj_pkgBucketAt : (resetObj index sub s).pkgBucketAt = s.pkgBucketAt := rfl
@[simp] theorem resetObj_compTab : (resetObj index sub s).compTab = s.compTab := rfl
@[simp] theorem resetObj_comps : (resetObj index sub s).comps = s.comps := rfl
@[simp] theorem resetObj_recordSeq : (resetObj index sub s).recordSeq = s.recordSeq := rfl
@[simp] theorem resetObj_meterStart : (resetObj index sub s).meterStart = s.meterStart := rfl
@[simp] theorem resetObj_regions : (resetObj index sub s).regions = s.regions := rfl
@[simp] theorem resetObj_owners : (resetObj index sub s).owners = s.owners := rfl
@[simp] theorem resetObj_openReqs : (resetObj index sub s).openReqs = s.openReqs := rfl
@[simp] theorem resetObj_dma : (resetObj index sub s).dma = s.dma := rfl
@[simp] theorem resetObj_extents : (resetObj index sub s).extents = s.extents := rfl
@[simp] theorem resetObj_placed : (resetObj index sub s).placed = s.placed := rfl
@[simp] theorem resetObj_shadows : (resetObj index sub s).shadows = s.shadows := rfl
@[simp] theorem resetObj_placeQ : (resetObj index sub s).placeQ = s.placeQ := rfl
@[simp] theorem resetObj_moves : (resetObj index sub s).moves = s.moves := rfl
@[simp] theorem resetObj_stalls : (resetObj index sub s).stalls = s.stalls := rfl
@[simp] theorem resetObj_retired : (resetObj index sub s).retired = s.retired := rfl
@[simp] theorem resetObj_dir : (resetObj index sub s).dir = s.dir := rfl
@[simp] theorem resetObj_snoops : (resetObj index sub s).snoops = s.snoops := rfl
@[simp] theorem resetObj_sync : (resetObj index sub s).sync = s.sync := rfl
@[simp] theorem resetObj_copies : (resetObj index sub s).copies = s.copies := rfl
@[simp] theorem resetObj_deadlock : (resetObj index sub s).deadlock = s.deadlock := rfl
@[simp] theorem resetObj_dict : (resetObj index sub s).dict = s.dict := rfl
@[simp] theorem resetObj_blocks : (resetObj index sub s).blocks = s.blocks := rfl
@[simp] theorem resetObj_regs : (resetObj index sub s).regs = s.regs := rfl
@[simp] theorem resetObj_mbx : (resetObj index sub s).mbx = s.mbx := rfl
@[simp] theorem resetObj_geyser : (resetObj index sub s).geyser = s.geyser := rfl
@[simp] theorem resetObj_doms : (resetObj index sub s).doms = s.doms := rfl
@[simp] theorem resetObj_keyGens : (resetObj index sub s).keyGens = s.keyGens := rfl
@[simp] theorem resetObj_replaced : (resetObj index sub s).replaced = s.replaced := rfl
@[simp] theorem resetObj_misroutes : (resetObj index sub s).misroutes = s.misroutes := rfl
@[simp] theorem resetObj_recalls : (resetObj index sub s).recalls = s.recalls := rfl
@[simp] theorem resetObj_tiles : (resetObj index sub s).tiles = s.tiles := rfl
@[simp] theorem resetObj_notified : (resetObj index sub s).notified = s.notified := rfl
@[simp] theorem resetObj_owed : (resetObj index sub s).owed = s.owed := rfl
@[simp] theorem resetObj_registry : (resetObj index sub s).registry = s.registry := rfl
@[simp] theorem resetObj_reserved : (resetObj index sub s).reserved = s.reserved := rfl
@[simp] theorem resetObj_registering : (resetObj index sub s).registering = s.registering := rfl
@[simp] theorem resetObj_retiring : (resetObj index sub s).retiring = s.retiring := rfl
@[simp] theorem resetObj_loading : (resetObj index sub s).loading = s.loading := rfl
@[simp] theorem resetObj_clusters : (resetObj index sub s).clusters = s.clusters := rfl
@[simp] theorem resetObj_handles : (resetObj index sub s).handles = s.handles := rfl
@[simp] theorem resetObj_calls : (resetObj index sub s).calls = s.calls := rfl
@[simp] theorem resetObj_xlt : (resetObj index sub s).xlt = s.xlt := rfl
@[simp] theorem resetObj_xltDesc : (resetObj index sub s).xltDesc = s.xltDesc := rfl
@[simp] theorem resetObj_walks : (resetObj index sub s).walks = s.walks := rfl
@[simp] theorem resetObj_faults : (resetObj index sub s).faults = s.faults := rfl
@[simp] theorem resetObj_faultNone : (resetObj index sub s).faultNone = s.faultNone := rfl
@[simp] theorem resetObj_faultIds : (resetObj index sub s).faultIds = s.faultIds := rfl
@[simp] theorem resetObj_invals : (resetObj index sub s).invals = s.invals := rfl
@[simp] theorem resetObj_log : (resetObj index sub s).log = s.log := rfl
@[simp] theorem resetObj_lastCheck : (resetObj index sub s).lastCheck = s.lastCheck := rfl
@[simp] theorem resetObj_sinceCheck : (resetObj index sub s).sinceCheck = s.sinceCheck := rfl
@[simp] theorem resetObj_qps : (resetObj index sub s).qps = s.qps := rfl
@[simp] theorem resetObj_paused : (resetObj index sub s).paused = s.paused := rfl
@[simp] theorem resetObj_xoff : (resetObj index sub s).xoff = s.xoff := rfl
@[simp] theorem resetObj_ethHeld : (resetObj index sub s).ethHeld = s.ethHeld := rfl
@[simp] theorem resetObj_selfDone : (resetObj index sub s).selfDone = s.selfDone := rfl
@[simp] theorem resetObj_arenas : (resetObj index sub s).arenas = s.arenas := rfl
@[simp] theorem resetObj_attends : (resetObj index sub s).attends = s.attends := rfl
@[simp] theorem resetObj_commits : (resetObj index sub s).commits = s.commits := rfl
@[simp] theorem resetObj_keyStates : (resetObj index sub s).keyStates = s.keyStates := rfl
@[simp] theorem resetObj_slots : (resetObj index sub s).slots = s.slots := rfl
@[simp] theorem resetObj_streams : (resetObj index sub s).streams = s.streams := rfl
@[simp] theorem resetObj_packs : (resetObj index sub s).packs = s.packs := rfl
@[simp] theorem resetObj_otables : (resetObj index sub s).otables = s.otables := rfl
@[simp] theorem resetObj_oreqs : (resetObj index sub s).oreqs = s.oreqs := rfl
@[simp] theorem resetObj_guests : (resetObj index sub s).guests = s.guests := rfl
@[simp] theorem resetObj_forwards : (resetObj index sub s).forwards = s.forwards := rfl
@[simp] theorem resetObj_shards : (resetObj index sub s).shards = s.shards := rfl
@[simp] theorem resetObj_rowOps : (resetObj index sub s).rowOps = s.rowOps := rfl
@[simp] theorem resetObj_indexes : (resetObj index sub s).indexes = s.indexes := rfl
@[simp] theorem resetObj_sops : (resetObj index sub s).sops = s.sops := rfl
@[simp] theorem resetObj_memberRanges : (resetObj index sub s).memberRanges = s.memberRanges := rfl
@[simp] theorem resetObj_batches : (resetObj index sub s).batches = s.batches := rfl
@[simp] theorem resetObj_batchSeq : (resetObj index sub s).batchSeq = s.batchSeq := rfl
@[simp] theorem resetObj_fw : (resetObj index sub s).fw = s.fw := rfl
@[simp] theorem resetObj_resetting : (resetObj index sub s).resetting = s.resetting := rfl
@[simp] theorem resetObj_inputOn : (resetObj index sub s).inputOn = s.inputOn := rfl
@[simp] theorem resetObj_cold : (resetObj index sub s).cold = s.cold := rfl
@[simp] theorem resetObj_fullTest : (resetObj index sub s).fullTest = s.fullTest := rfl
@[simp] theorem resetObj_thermTrip : (resetObj index sub s).thermTrip = s.thermTrip := rfl
@[simp] theorem resetObj_norFree : (resetObj index sub s).norFree = s.norFree := rfl
@[simp] theorem resetObj_burstUj : (resetObj index sub s).burstUj = s.burstUj := rfl
@[simp] theorem resetObj_retest : (resetObj index sub s).retest = s.retest := rfl
@[simp] theorem resetObj_votes : (resetObj index sub s).votes = s.votes := rfl
@[simp] theorem resetObj_change : (resetObj index sub s).change = s.change := rfl
@[simp] theorem resetObj_purge : (resetObj index sub s).purge = s.purge := rfl
@[simp] theorem resetObj_spdm : (resetObj index sub s).spdm = s.spdm := rfl
@[simp] theorem resetObj_dissolving : (resetObj index sub s).dissolving = s.dissolving := rfl
@[simp] theorem resetObj_store : (resetObj index sub s).store = s.store := rfl
@[simp] theorem resetObj_unrebuilt : (resetObj index sub s).unrebuilt = s.unrebuilt := rfl
@[simp] theorem resetObj_memberObjects : (resetObj index sub s).memberObjects = s.memberObjects := rfl
@[simp] theorem resetObj_tenantKeys : (resetObj index sub s).tenantKeys = s.tenantKeys := rfl
@[simp] theorem resetObj_mediaKey : (resetObj index sub s).mediaKey = s.mediaKey := rfl
@[simp] theorem resetObj_peeked : (resetObj index sub s).peeked = s.peeked := rfl
@[simp] theorem resetObj_formFrom : (resetObj index sub s).formFrom = s.formFrom := rfl

end

/-! ## emit -/

section
variable (o : Out) (s : State)

@[simp] theorem emit_out : (emit o s).out = o :: s.out := rfl
@[simp] theorem emit_pending : (emit o s).pending = s.pending := rfl
@[simp] theorem emit_freeCtr : (emit o s).freeCtr = s.freeCtr := rfl
@[simp] theorem emit_variant : (emit o s).variant = s.variant := rfl
@[simp] theorem emit_pkg : (emit o s).pkg = s.pkg := rfl
@[simp] theorem emit_time : (emit o s).time = s.time := rfl
@[simp] theorem emit_objs : (emit o s).objs = s.objs := rfl
@[simp] theorem emit_mem : (emit o s).mem = s.mem := rfl
@[simp] theorem emit_poison : (emit o s).poison = s.poison := rfl
@[simp] theorem emit_accCtr : (emit o s).accCtr = s.accCtr := rfl
@[simp] theorem emit_reqCtr : (emit o s).reqCtr = s.reqCtr := rfl
@[simp] theorem emit_snoopCtr : (emit o s).snoopCtr = s.snoopCtr := rfl
@[simp] theorem emit_links : (emit o s).links = s.links := rfl
@[simp] theorem emit_pkgBucket : (emit o s).pkgBucket = s.pkgBucket := rfl
@[simp] theorem emit_pkgBucketAt : (emit o s).pkgBucketAt = s.pkgBucketAt := rfl
@[simp] theorem emit_compTab : (emit o s).compTab = s.compTab := rfl
@[simp] theorem emit_comps : (emit o s).comps = s.comps := rfl
@[simp] theorem emit_recordSeq : (emit o s).recordSeq = s.recordSeq := rfl
@[simp] theorem emit_meterStart : (emit o s).meterStart = s.meterStart := rfl
@[simp] theorem emit_regions : (emit o s).regions = s.regions := rfl
@[simp] theorem emit_owners : (emit o s).owners = s.owners := rfl
@[simp] theorem emit_openReqs : (emit o s).openReqs = s.openReqs := rfl
@[simp] theorem emit_dma : (emit o s).dma = s.dma := rfl
@[simp] theorem emit_extents : (emit o s).extents = s.extents := rfl
@[simp] theorem emit_placed : (emit o s).placed = s.placed := rfl
@[simp] theorem emit_shadows : (emit o s).shadows = s.shadows := rfl
@[simp] theorem emit_placeQ : (emit o s).placeQ = s.placeQ := rfl
@[simp] theorem emit_moves : (emit o s).moves = s.moves := rfl
@[simp] theorem emit_stalls : (emit o s).stalls = s.stalls := rfl
@[simp] theorem emit_retired : (emit o s).retired = s.retired := rfl
@[simp] theorem emit_dir : (emit o s).dir = s.dir := rfl
@[simp] theorem emit_snoops : (emit o s).snoops = s.snoops := rfl
@[simp] theorem emit_sync : (emit o s).sync = s.sync := rfl
@[simp] theorem emit_copies : (emit o s).copies = s.copies := rfl
@[simp] theorem emit_deadlock : (emit o s).deadlock = s.deadlock := rfl
@[simp] theorem emit_dict : (emit o s).dict = s.dict := rfl
@[simp] theorem emit_blocks : (emit o s).blocks = s.blocks := rfl
@[simp] theorem emit_regs : (emit o s).regs = s.regs := rfl
@[simp] theorem emit_mbx : (emit o s).mbx = s.mbx := rfl
@[simp] theorem emit_geyser : (emit o s).geyser = s.geyser := rfl
@[simp] theorem emit_doms : (emit o s).doms = s.doms := rfl
@[simp] theorem emit_keyGens : (emit o s).keyGens = s.keyGens := rfl
@[simp] theorem emit_replaced : (emit o s).replaced = s.replaced := rfl
@[simp] theorem emit_misroutes : (emit o s).misroutes = s.misroutes := rfl
@[simp] theorem emit_recalls : (emit o s).recalls = s.recalls := rfl
@[simp] theorem emit_tiles : (emit o s).tiles = s.tiles := rfl
@[simp] theorem emit_notified : (emit o s).notified = s.notified := rfl
@[simp] theorem emit_owed : (emit o s).owed = s.owed := rfl
@[simp] theorem emit_registry : (emit o s).registry = s.registry := rfl
@[simp] theorem emit_reserved : (emit o s).reserved = s.reserved := rfl
@[simp] theorem emit_registering : (emit o s).registering = s.registering := rfl
@[simp] theorem emit_retiring : (emit o s).retiring = s.retiring := rfl
@[simp] theorem emit_loading : (emit o s).loading = s.loading := rfl
@[simp] theorem emit_clusters : (emit o s).clusters = s.clusters := rfl
@[simp] theorem emit_handles : (emit o s).handles = s.handles := rfl
@[simp] theorem emit_calls : (emit o s).calls = s.calls := rfl
@[simp] theorem emit_xlt : (emit o s).xlt = s.xlt := rfl
@[simp] theorem emit_xltDesc : (emit o s).xltDesc = s.xltDesc := rfl
@[simp] theorem emit_walks : (emit o s).walks = s.walks := rfl
@[simp] theorem emit_faults : (emit o s).faults = s.faults := rfl
@[simp] theorem emit_faultNone : (emit o s).faultNone = s.faultNone := rfl
@[simp] theorem emit_faultIds : (emit o s).faultIds = s.faultIds := rfl
@[simp] theorem emit_invals : (emit o s).invals = s.invals := rfl
@[simp] theorem emit_log : (emit o s).log = s.log := rfl
@[simp] theorem emit_lastCheck : (emit o s).lastCheck = s.lastCheck := rfl
@[simp] theorem emit_sinceCheck : (emit o s).sinceCheck = s.sinceCheck := rfl
@[simp] theorem emit_qps : (emit o s).qps = s.qps := rfl
@[simp] theorem emit_paused : (emit o s).paused = s.paused := rfl
@[simp] theorem emit_xoff : (emit o s).xoff = s.xoff := rfl
@[simp] theorem emit_ethHeld : (emit o s).ethHeld = s.ethHeld := rfl
@[simp] theorem emit_selfDone : (emit o s).selfDone = s.selfDone := rfl
@[simp] theorem emit_arenas : (emit o s).arenas = s.arenas := rfl
@[simp] theorem emit_attends : (emit o s).attends = s.attends := rfl
@[simp] theorem emit_commits : (emit o s).commits = s.commits := rfl
@[simp] theorem emit_keyStates : (emit o s).keyStates = s.keyStates := rfl
@[simp] theorem emit_slots : (emit o s).slots = s.slots := rfl
@[simp] theorem emit_streams : (emit o s).streams = s.streams := rfl
@[simp] theorem emit_packs : (emit o s).packs = s.packs := rfl
@[simp] theorem emit_otables : (emit o s).otables = s.otables := rfl
@[simp] theorem emit_oreqs : (emit o s).oreqs = s.oreqs := rfl
@[simp] theorem emit_guests : (emit o s).guests = s.guests := rfl
@[simp] theorem emit_forwards : (emit o s).forwards = s.forwards := rfl
@[simp] theorem emit_shards : (emit o s).shards = s.shards := rfl
@[simp] theorem emit_rowOps : (emit o s).rowOps = s.rowOps := rfl
@[simp] theorem emit_indexes : (emit o s).indexes = s.indexes := rfl
@[simp] theorem emit_sops : (emit o s).sops = s.sops := rfl
@[simp] theorem emit_memberRanges : (emit o s).memberRanges = s.memberRanges := rfl
@[simp] theorem emit_batches : (emit o s).batches = s.batches := rfl
@[simp] theorem emit_batchSeq : (emit o s).batchSeq = s.batchSeq := rfl
@[simp] theorem emit_fw : (emit o s).fw = s.fw := rfl
@[simp] theorem emit_resetting : (emit o s).resetting = s.resetting := rfl
@[simp] theorem emit_inputOn : (emit o s).inputOn = s.inputOn := rfl
@[simp] theorem emit_cold : (emit o s).cold = s.cold := rfl
@[simp] theorem emit_fullTest : (emit o s).fullTest = s.fullTest := rfl
@[simp] theorem emit_thermTrip : (emit o s).thermTrip = s.thermTrip := rfl
@[simp] theorem emit_norFree : (emit o s).norFree = s.norFree := rfl
@[simp] theorem emit_burstUj : (emit o s).burstUj = s.burstUj := rfl
@[simp] theorem emit_retest : (emit o s).retest = s.retest := rfl
@[simp] theorem emit_votes : (emit o s).votes = s.votes := rfl
@[simp] theorem emit_change : (emit o s).change = s.change := rfl
@[simp] theorem emit_purge : (emit o s).purge = s.purge := rfl
@[simp] theorem emit_spdm : (emit o s).spdm = s.spdm := rfl
@[simp] theorem emit_dissolving : (emit o s).dissolving = s.dissolving := rfl
@[simp] theorem emit_store : (emit o s).store = s.store := rfl
@[simp] theorem emit_unrebuilt : (emit o s).unrebuilt = s.unrebuilt := rfl
@[simp] theorem emit_memberObjects : (emit o s).memberObjects = s.memberObjects := rfl
@[simp] theorem emit_tenantKeys : (emit o s).tenantKeys = s.tenantKeys := rfl
@[simp] theorem emit_mediaKey : (emit o s).mediaKey = s.mediaKey := rfl
@[simp] theorem emit_peeked : (emit o s).peeked = s.peeked := rfl
@[simp] theorem emit_formFrom : (emit o s).formFrom = s.formFrom := rfl

end

/-! ## writeMem -/

section
variable (off n v : Nat) (s : State)

@[simp] theorem writeMem_mem : (writeMem off n v s).mem = writeCells s.mem off (toBytes n v) := rfl
@[simp] theorem writeMem_pending : (writeMem off n v s).pending = s.pending := rfl
@[simp] theorem writeMem_out : (writeMem off n v s).out = s.out := rfl
@[simp] theorem writeMem_freeCtr : (writeMem off n v s).freeCtr = s.freeCtr := rfl
@[simp] theorem writeMem_variant : (writeMem off n v s).variant = s.variant := rfl
@[simp] theorem writeMem_pkg : (writeMem off n v s).pkg = s.pkg := rfl
@[simp] theorem writeMem_time : (writeMem off n v s).time = s.time := rfl
@[simp] theorem writeMem_objs : (writeMem off n v s).objs = s.objs := rfl
@[simp] theorem writeMem_poison : (writeMem off n v s).poison = s.poison := rfl
@[simp] theorem writeMem_accCtr : (writeMem off n v s).accCtr = s.accCtr := rfl
@[simp] theorem writeMem_reqCtr : (writeMem off n v s).reqCtr = s.reqCtr := rfl
@[simp] theorem writeMem_snoopCtr : (writeMem off n v s).snoopCtr = s.snoopCtr := rfl
@[simp] theorem writeMem_links : (writeMem off n v s).links = s.links := rfl
@[simp] theorem writeMem_pkgBucket : (writeMem off n v s).pkgBucket = s.pkgBucket := rfl
@[simp] theorem writeMem_pkgBucketAt : (writeMem off n v s).pkgBucketAt = s.pkgBucketAt := rfl
@[simp] theorem writeMem_compTab : (writeMem off n v s).compTab = s.compTab := rfl
@[simp] theorem writeMem_comps : (writeMem off n v s).comps = s.comps := rfl
@[simp] theorem writeMem_recordSeq : (writeMem off n v s).recordSeq = s.recordSeq := rfl
@[simp] theorem writeMem_meterStart : (writeMem off n v s).meterStart = s.meterStart := rfl
@[simp] theorem writeMem_regions : (writeMem off n v s).regions = s.regions := rfl
@[simp] theorem writeMem_owners : (writeMem off n v s).owners = s.owners := rfl
@[simp] theorem writeMem_openReqs : (writeMem off n v s).openReqs = s.openReqs := rfl
@[simp] theorem writeMem_dma : (writeMem off n v s).dma = s.dma := rfl
@[simp] theorem writeMem_extents : (writeMem off n v s).extents = s.extents := rfl
@[simp] theorem writeMem_placed : (writeMem off n v s).placed = s.placed := rfl
@[simp] theorem writeMem_shadows : (writeMem off n v s).shadows = s.shadows := rfl
@[simp] theorem writeMem_placeQ : (writeMem off n v s).placeQ = s.placeQ := rfl
@[simp] theorem writeMem_moves : (writeMem off n v s).moves = s.moves := rfl
@[simp] theorem writeMem_stalls : (writeMem off n v s).stalls = s.stalls := rfl
@[simp] theorem writeMem_retired : (writeMem off n v s).retired = s.retired := rfl
@[simp] theorem writeMem_dir : (writeMem off n v s).dir = s.dir := rfl
@[simp] theorem writeMem_snoops : (writeMem off n v s).snoops = s.snoops := rfl
@[simp] theorem writeMem_sync : (writeMem off n v s).sync = s.sync := rfl
@[simp] theorem writeMem_copies : (writeMem off n v s).copies = s.copies := rfl
@[simp] theorem writeMem_deadlock : (writeMem off n v s).deadlock = s.deadlock := rfl
@[simp] theorem writeMem_dict : (writeMem off n v s).dict = s.dict := rfl
@[simp] theorem writeMem_blocks : (writeMem off n v s).blocks = s.blocks := rfl
@[simp] theorem writeMem_regs : (writeMem off n v s).regs = s.regs := rfl
@[simp] theorem writeMem_mbx : (writeMem off n v s).mbx = s.mbx := rfl
@[simp] theorem writeMem_geyser : (writeMem off n v s).geyser = s.geyser := rfl
@[simp] theorem writeMem_doms : (writeMem off n v s).doms = s.doms := rfl
@[simp] theorem writeMem_keyGens : (writeMem off n v s).keyGens = s.keyGens := rfl
@[simp] theorem writeMem_replaced : (writeMem off n v s).replaced = s.replaced := rfl
@[simp] theorem writeMem_misroutes : (writeMem off n v s).misroutes = s.misroutes := rfl
@[simp] theorem writeMem_recalls : (writeMem off n v s).recalls = s.recalls := rfl
@[simp] theorem writeMem_tiles : (writeMem off n v s).tiles = s.tiles := rfl
@[simp] theorem writeMem_notified : (writeMem off n v s).notified = s.notified := rfl
@[simp] theorem writeMem_owed : (writeMem off n v s).owed = s.owed := rfl
@[simp] theorem writeMem_registry : (writeMem off n v s).registry = s.registry := rfl
@[simp] theorem writeMem_reserved : (writeMem off n v s).reserved = s.reserved := rfl
@[simp] theorem writeMem_registering : (writeMem off n v s).registering = s.registering := rfl
@[simp] theorem writeMem_retiring : (writeMem off n v s).retiring = s.retiring := rfl
@[simp] theorem writeMem_loading : (writeMem off n v s).loading = s.loading := rfl
@[simp] theorem writeMem_clusters : (writeMem off n v s).clusters = s.clusters := rfl
@[simp] theorem writeMem_handles : (writeMem off n v s).handles = s.handles := rfl
@[simp] theorem writeMem_calls : (writeMem off n v s).calls = s.calls := rfl
@[simp] theorem writeMem_xlt : (writeMem off n v s).xlt = s.xlt := rfl
@[simp] theorem writeMem_xltDesc : (writeMem off n v s).xltDesc = s.xltDesc := rfl
@[simp] theorem writeMem_walks : (writeMem off n v s).walks = s.walks := rfl
@[simp] theorem writeMem_faults : (writeMem off n v s).faults = s.faults := rfl
@[simp] theorem writeMem_faultNone : (writeMem off n v s).faultNone = s.faultNone := rfl
@[simp] theorem writeMem_faultIds : (writeMem off n v s).faultIds = s.faultIds := rfl
@[simp] theorem writeMem_invals : (writeMem off n v s).invals = s.invals := rfl
@[simp] theorem writeMem_log : (writeMem off n v s).log = s.log := rfl
@[simp] theorem writeMem_lastCheck : (writeMem off n v s).lastCheck = s.lastCheck := rfl
@[simp] theorem writeMem_sinceCheck : (writeMem off n v s).sinceCheck = s.sinceCheck := rfl
@[simp] theorem writeMem_qps : (writeMem off n v s).qps = s.qps := rfl
@[simp] theorem writeMem_paused : (writeMem off n v s).paused = s.paused := rfl
@[simp] theorem writeMem_xoff : (writeMem off n v s).xoff = s.xoff := rfl
@[simp] theorem writeMem_ethHeld : (writeMem off n v s).ethHeld = s.ethHeld := rfl
@[simp] theorem writeMem_selfDone : (writeMem off n v s).selfDone = s.selfDone := rfl
@[simp] theorem writeMem_arenas : (writeMem off n v s).arenas = s.arenas := rfl
@[simp] theorem writeMem_attends : (writeMem off n v s).attends = s.attends := rfl
@[simp] theorem writeMem_commits : (writeMem off n v s).commits = s.commits := rfl
@[simp] theorem writeMem_keyStates : (writeMem off n v s).keyStates = s.keyStates := rfl
@[simp] theorem writeMem_slots : (writeMem off n v s).slots = s.slots := rfl
@[simp] theorem writeMem_streams : (writeMem off n v s).streams = s.streams := rfl
@[simp] theorem writeMem_packs : (writeMem off n v s).packs = s.packs := rfl
@[simp] theorem writeMem_otables : (writeMem off n v s).otables = s.otables := rfl
@[simp] theorem writeMem_oreqs : (writeMem off n v s).oreqs = s.oreqs := rfl
@[simp] theorem writeMem_guests : (writeMem off n v s).guests = s.guests := rfl
@[simp] theorem writeMem_forwards : (writeMem off n v s).forwards = s.forwards := rfl
@[simp] theorem writeMem_shards : (writeMem off n v s).shards = s.shards := rfl
@[simp] theorem writeMem_rowOps : (writeMem off n v s).rowOps = s.rowOps := rfl
@[simp] theorem writeMem_indexes : (writeMem off n v s).indexes = s.indexes := rfl
@[simp] theorem writeMem_sops : (writeMem off n v s).sops = s.sops := rfl
@[simp] theorem writeMem_memberRanges : (writeMem off n v s).memberRanges = s.memberRanges := rfl
@[simp] theorem writeMem_batches : (writeMem off n v s).batches = s.batches := rfl
@[simp] theorem writeMem_batchSeq : (writeMem off n v s).batchSeq = s.batchSeq := rfl
@[simp] theorem writeMem_fw : (writeMem off n v s).fw = s.fw := rfl
@[simp] theorem writeMem_resetting : (writeMem off n v s).resetting = s.resetting := rfl
@[simp] theorem writeMem_inputOn : (writeMem off n v s).inputOn = s.inputOn := rfl
@[simp] theorem writeMem_cold : (writeMem off n v s).cold = s.cold := rfl
@[simp] theorem writeMem_fullTest : (writeMem off n v s).fullTest = s.fullTest := rfl
@[simp] theorem writeMem_thermTrip : (writeMem off n v s).thermTrip = s.thermTrip := rfl
@[simp] theorem writeMem_norFree : (writeMem off n v s).norFree = s.norFree := rfl
@[simp] theorem writeMem_burstUj : (writeMem off n v s).burstUj = s.burstUj := rfl
@[simp] theorem writeMem_retest : (writeMem off n v s).retest = s.retest := rfl
@[simp] theorem writeMem_votes : (writeMem off n v s).votes = s.votes := rfl
@[simp] theorem writeMem_change : (writeMem off n v s).change = s.change := rfl
@[simp] theorem writeMem_purge : (writeMem off n v s).purge = s.purge := rfl
@[simp] theorem writeMem_spdm : (writeMem off n v s).spdm = s.spdm := rfl
@[simp] theorem writeMem_dissolving : (writeMem off n v s).dissolving = s.dissolving := rfl
@[simp] theorem writeMem_store : (writeMem off n v s).store = s.store := rfl
@[simp] theorem writeMem_unrebuilt : (writeMem off n v s).unrebuilt = s.unrebuilt := rfl
@[simp] theorem writeMem_memberObjects : (writeMem off n v s).memberObjects = s.memberObjects := rfl
@[simp] theorem writeMem_tenantKeys : (writeMem off n v s).tenantKeys = s.tenantKeys := rfl
@[simp] theorem writeMem_mediaKey : (writeMem off n v s).mediaKey = s.mediaKey := rfl
@[simp] theorem writeMem_peeked : (writeMem off n v s).peeked = s.peeked := rfl
@[simp] theorem writeMem_formFrom : (writeMem off n v s).formFrom = s.formFrom := rfl

end

/-! ## setDom -/

section
variable (d : Nat) (f : Domain → Domain) (s : State)

@[simp] theorem setDom_doms : (setDom d f s).doms = tset s.doms d (f (dom s d)) := rfl
@[simp] theorem setDom_pending : (setDom d f s).pending = s.pending := rfl
@[simp] theorem setDom_out : (setDom d f s).out = s.out := rfl
@[simp] theorem setDom_freeCtr : (setDom d f s).freeCtr = s.freeCtr := rfl
@[simp] theorem setDom_variant : (setDom d f s).variant = s.variant := rfl
@[simp] theorem setDom_pkg : (setDom d f s).pkg = s.pkg := rfl
@[simp] theorem setDom_time : (setDom d f s).time = s.time := rfl
@[simp] theorem setDom_objs : (setDom d f s).objs = s.objs := rfl
@[simp] theorem setDom_mem : (setDom d f s).mem = s.mem := rfl
@[simp] theorem setDom_poison : (setDom d f s).poison = s.poison := rfl
@[simp] theorem setDom_accCtr : (setDom d f s).accCtr = s.accCtr := rfl
@[simp] theorem setDom_reqCtr : (setDom d f s).reqCtr = s.reqCtr := rfl
@[simp] theorem setDom_snoopCtr : (setDom d f s).snoopCtr = s.snoopCtr := rfl
@[simp] theorem setDom_links : (setDom d f s).links = s.links := rfl
@[simp] theorem setDom_pkgBucket : (setDom d f s).pkgBucket = s.pkgBucket := rfl
@[simp] theorem setDom_pkgBucketAt : (setDom d f s).pkgBucketAt = s.pkgBucketAt := rfl
@[simp] theorem setDom_compTab : (setDom d f s).compTab = s.compTab := rfl
@[simp] theorem setDom_comps : (setDom d f s).comps = s.comps := rfl
@[simp] theorem setDom_recordSeq : (setDom d f s).recordSeq = s.recordSeq := rfl
@[simp] theorem setDom_meterStart : (setDom d f s).meterStart = s.meterStart := rfl
@[simp] theorem setDom_regions : (setDom d f s).regions = s.regions := rfl
@[simp] theorem setDom_owners : (setDom d f s).owners = s.owners := rfl
@[simp] theorem setDom_openReqs : (setDom d f s).openReqs = s.openReqs := rfl
@[simp] theorem setDom_dma : (setDom d f s).dma = s.dma := rfl
@[simp] theorem setDom_extents : (setDom d f s).extents = s.extents := rfl
@[simp] theorem setDom_placed : (setDom d f s).placed = s.placed := rfl
@[simp] theorem setDom_shadows : (setDom d f s).shadows = s.shadows := rfl
@[simp] theorem setDom_placeQ : (setDom d f s).placeQ = s.placeQ := rfl
@[simp] theorem setDom_moves : (setDom d f s).moves = s.moves := rfl
@[simp] theorem setDom_stalls : (setDom d f s).stalls = s.stalls := rfl
@[simp] theorem setDom_retired : (setDom d f s).retired = s.retired := rfl
@[simp] theorem setDom_dir : (setDom d f s).dir = s.dir := rfl
@[simp] theorem setDom_snoops : (setDom d f s).snoops = s.snoops := rfl
@[simp] theorem setDom_sync : (setDom d f s).sync = s.sync := rfl
@[simp] theorem setDom_copies : (setDom d f s).copies = s.copies := rfl
@[simp] theorem setDom_deadlock : (setDom d f s).deadlock = s.deadlock := rfl
@[simp] theorem setDom_dict : (setDom d f s).dict = s.dict := rfl
@[simp] theorem setDom_blocks : (setDom d f s).blocks = s.blocks := rfl
@[simp] theorem setDom_regs : (setDom d f s).regs = s.regs := rfl
@[simp] theorem setDom_mbx : (setDom d f s).mbx = s.mbx := rfl
@[simp] theorem setDom_geyser : (setDom d f s).geyser = s.geyser := rfl
@[simp] theorem setDom_keyGens : (setDom d f s).keyGens = s.keyGens := rfl
@[simp] theorem setDom_replaced : (setDom d f s).replaced = s.replaced := rfl
@[simp] theorem setDom_misroutes : (setDom d f s).misroutes = s.misroutes := rfl
@[simp] theorem setDom_recalls : (setDom d f s).recalls = s.recalls := rfl
@[simp] theorem setDom_tiles : (setDom d f s).tiles = s.tiles := rfl
@[simp] theorem setDom_notified : (setDom d f s).notified = s.notified := rfl
@[simp] theorem setDom_owed : (setDom d f s).owed = s.owed := rfl
@[simp] theorem setDom_registry : (setDom d f s).registry = s.registry := rfl
@[simp] theorem setDom_reserved : (setDom d f s).reserved = s.reserved := rfl
@[simp] theorem setDom_registering : (setDom d f s).registering = s.registering := rfl
@[simp] theorem setDom_retiring : (setDom d f s).retiring = s.retiring := rfl
@[simp] theorem setDom_loading : (setDom d f s).loading = s.loading := rfl
@[simp] theorem setDom_clusters : (setDom d f s).clusters = s.clusters := rfl
@[simp] theorem setDom_handles : (setDom d f s).handles = s.handles := rfl
@[simp] theorem setDom_calls : (setDom d f s).calls = s.calls := rfl
@[simp] theorem setDom_xlt : (setDom d f s).xlt = s.xlt := rfl
@[simp] theorem setDom_xltDesc : (setDom d f s).xltDesc = s.xltDesc := rfl
@[simp] theorem setDom_walks : (setDom d f s).walks = s.walks := rfl
@[simp] theorem setDom_faults : (setDom d f s).faults = s.faults := rfl
@[simp] theorem setDom_faultNone : (setDom d f s).faultNone = s.faultNone := rfl
@[simp] theorem setDom_faultIds : (setDom d f s).faultIds = s.faultIds := rfl
@[simp] theorem setDom_invals : (setDom d f s).invals = s.invals := rfl
@[simp] theorem setDom_log : (setDom d f s).log = s.log := rfl
@[simp] theorem setDom_lastCheck : (setDom d f s).lastCheck = s.lastCheck := rfl
@[simp] theorem setDom_sinceCheck : (setDom d f s).sinceCheck = s.sinceCheck := rfl
@[simp] theorem setDom_qps : (setDom d f s).qps = s.qps := rfl
@[simp] theorem setDom_paused : (setDom d f s).paused = s.paused := rfl
@[simp] theorem setDom_xoff : (setDom d f s).xoff = s.xoff := rfl
@[simp] theorem setDom_ethHeld : (setDom d f s).ethHeld = s.ethHeld := rfl
@[simp] theorem setDom_selfDone : (setDom d f s).selfDone = s.selfDone := rfl
@[simp] theorem setDom_arenas : (setDom d f s).arenas = s.arenas := rfl
@[simp] theorem setDom_attends : (setDom d f s).attends = s.attends := rfl
@[simp] theorem setDom_commits : (setDom d f s).commits = s.commits := rfl
@[simp] theorem setDom_keyStates : (setDom d f s).keyStates = s.keyStates := rfl
@[simp] theorem setDom_slots : (setDom d f s).slots = s.slots := rfl
@[simp] theorem setDom_streams : (setDom d f s).streams = s.streams := rfl
@[simp] theorem setDom_packs : (setDom d f s).packs = s.packs := rfl
@[simp] theorem setDom_otables : (setDom d f s).otables = s.otables := rfl
@[simp] theorem setDom_oreqs : (setDom d f s).oreqs = s.oreqs := rfl
@[simp] theorem setDom_guests : (setDom d f s).guests = s.guests := rfl
@[simp] theorem setDom_forwards : (setDom d f s).forwards = s.forwards := rfl
@[simp] theorem setDom_shards : (setDom d f s).shards = s.shards := rfl
@[simp] theorem setDom_rowOps : (setDom d f s).rowOps = s.rowOps := rfl
@[simp] theorem setDom_indexes : (setDom d f s).indexes = s.indexes := rfl
@[simp] theorem setDom_sops : (setDom d f s).sops = s.sops := rfl
@[simp] theorem setDom_memberRanges : (setDom d f s).memberRanges = s.memberRanges := rfl
@[simp] theorem setDom_batches : (setDom d f s).batches = s.batches := rfl
@[simp] theorem setDom_batchSeq : (setDom d f s).batchSeq = s.batchSeq := rfl
@[simp] theorem setDom_fw : (setDom d f s).fw = s.fw := rfl
@[simp] theorem setDom_resetting : (setDom d f s).resetting = s.resetting := rfl
@[simp] theorem setDom_inputOn : (setDom d f s).inputOn = s.inputOn := rfl
@[simp] theorem setDom_cold : (setDom d f s).cold = s.cold := rfl
@[simp] theorem setDom_fullTest : (setDom d f s).fullTest = s.fullTest := rfl
@[simp] theorem setDom_thermTrip : (setDom d f s).thermTrip = s.thermTrip := rfl
@[simp] theorem setDom_norFree : (setDom d f s).norFree = s.norFree := rfl
@[simp] theorem setDom_burstUj : (setDom d f s).burstUj = s.burstUj := rfl
@[simp] theorem setDom_retest : (setDom d f s).retest = s.retest := rfl
@[simp] theorem setDom_votes : (setDom d f s).votes = s.votes := rfl
@[simp] theorem setDom_change : (setDom d f s).change = s.change := rfl
@[simp] theorem setDom_purge : (setDom d f s).purge = s.purge := rfl
@[simp] theorem setDom_spdm : (setDom d f s).spdm = s.spdm := rfl
@[simp] theorem setDom_dissolving : (setDom d f s).dissolving = s.dissolving := rfl
@[simp] theorem setDom_store : (setDom d f s).store = s.store := rfl
@[simp] theorem setDom_unrebuilt : (setDom d f s).unrebuilt = s.unrebuilt := rfl
@[simp] theorem setDom_memberObjects : (setDom d f s).memberObjects = s.memberObjects := rfl
@[simp] theorem setDom_tenantKeys : (setDom d f s).tenantKeys = s.tenantKeys := rfl
@[simp] theorem setDom_mediaKey : (setDom d f s).mediaKey = s.mediaKey := rfl
@[simp] theorem setDom_peeked : (setDom d f s).peeked = s.peeked := rfl
@[simp] theorem setDom_formFrom : (setDom d f s).formFrom = s.formFrom := rfl

end

/-! ## setSync -/

section
variable (n : Nat) (o : SyncObj) (s : State)

@[simp] theorem setSync_sync : (setSync n o s).sync = tset s.sync n o := rfl
@[simp] theorem setSync_pending : (setSync n o s).pending = s.pending := rfl
@[simp] theorem setSync_out : (setSync n o s).out = s.out := rfl
@[simp] theorem setSync_freeCtr : (setSync n o s).freeCtr = s.freeCtr := rfl
@[simp] theorem setSync_variant : (setSync n o s).variant = s.variant := rfl
@[simp] theorem setSync_pkg : (setSync n o s).pkg = s.pkg := rfl
@[simp] theorem setSync_time : (setSync n o s).time = s.time := rfl
@[simp] theorem setSync_objs : (setSync n o s).objs = s.objs := rfl
@[simp] theorem setSync_mem : (setSync n o s).mem = s.mem := rfl
@[simp] theorem setSync_poison : (setSync n o s).poison = s.poison := rfl
@[simp] theorem setSync_accCtr : (setSync n o s).accCtr = s.accCtr := rfl
@[simp] theorem setSync_reqCtr : (setSync n o s).reqCtr = s.reqCtr := rfl
@[simp] theorem setSync_snoopCtr : (setSync n o s).snoopCtr = s.snoopCtr := rfl
@[simp] theorem setSync_links : (setSync n o s).links = s.links := rfl
@[simp] theorem setSync_pkgBucket : (setSync n o s).pkgBucket = s.pkgBucket := rfl
@[simp] theorem setSync_pkgBucketAt : (setSync n o s).pkgBucketAt = s.pkgBucketAt := rfl
@[simp] theorem setSync_compTab : (setSync n o s).compTab = s.compTab := rfl
@[simp] theorem setSync_comps : (setSync n o s).comps = s.comps := rfl
@[simp] theorem setSync_recordSeq : (setSync n o s).recordSeq = s.recordSeq := rfl
@[simp] theorem setSync_meterStart : (setSync n o s).meterStart = s.meterStart := rfl
@[simp] theorem setSync_regions : (setSync n o s).regions = s.regions := rfl
@[simp] theorem setSync_owners : (setSync n o s).owners = s.owners := rfl
@[simp] theorem setSync_openReqs : (setSync n o s).openReqs = s.openReqs := rfl
@[simp] theorem setSync_dma : (setSync n o s).dma = s.dma := rfl
@[simp] theorem setSync_extents : (setSync n o s).extents = s.extents := rfl
@[simp] theorem setSync_placed : (setSync n o s).placed = s.placed := rfl
@[simp] theorem setSync_shadows : (setSync n o s).shadows = s.shadows := rfl
@[simp] theorem setSync_placeQ : (setSync n o s).placeQ = s.placeQ := rfl
@[simp] theorem setSync_moves : (setSync n o s).moves = s.moves := rfl
@[simp] theorem setSync_stalls : (setSync n o s).stalls = s.stalls := rfl
@[simp] theorem setSync_retired : (setSync n o s).retired = s.retired := rfl
@[simp] theorem setSync_dir : (setSync n o s).dir = s.dir := rfl
@[simp] theorem setSync_snoops : (setSync n o s).snoops = s.snoops := rfl
@[simp] theorem setSync_copies : (setSync n o s).copies = s.copies := rfl
@[simp] theorem setSync_deadlock : (setSync n o s).deadlock = s.deadlock := rfl
@[simp] theorem setSync_dict : (setSync n o s).dict = s.dict := rfl
@[simp] theorem setSync_blocks : (setSync n o s).blocks = s.blocks := rfl
@[simp] theorem setSync_regs : (setSync n o s).regs = s.regs := rfl
@[simp] theorem setSync_mbx : (setSync n o s).mbx = s.mbx := rfl
@[simp] theorem setSync_geyser : (setSync n o s).geyser = s.geyser := rfl
@[simp] theorem setSync_doms : (setSync n o s).doms = s.doms := rfl
@[simp] theorem setSync_keyGens : (setSync n o s).keyGens = s.keyGens := rfl
@[simp] theorem setSync_replaced : (setSync n o s).replaced = s.replaced := rfl
@[simp] theorem setSync_misroutes : (setSync n o s).misroutes = s.misroutes := rfl
@[simp] theorem setSync_recalls : (setSync n o s).recalls = s.recalls := rfl
@[simp] theorem setSync_tiles : (setSync n o s).tiles = s.tiles := rfl
@[simp] theorem setSync_notified : (setSync n o s).notified = s.notified := rfl
@[simp] theorem setSync_owed : (setSync n o s).owed = s.owed := rfl
@[simp] theorem setSync_registry : (setSync n o s).registry = s.registry := rfl
@[simp] theorem setSync_reserved : (setSync n o s).reserved = s.reserved := rfl
@[simp] theorem setSync_registering : (setSync n o s).registering = s.registering := rfl
@[simp] theorem setSync_retiring : (setSync n o s).retiring = s.retiring := rfl
@[simp] theorem setSync_loading : (setSync n o s).loading = s.loading := rfl
@[simp] theorem setSync_clusters : (setSync n o s).clusters = s.clusters := rfl
@[simp] theorem setSync_handles : (setSync n o s).handles = s.handles := rfl
@[simp] theorem setSync_calls : (setSync n o s).calls = s.calls := rfl
@[simp] theorem setSync_xlt : (setSync n o s).xlt = s.xlt := rfl
@[simp] theorem setSync_xltDesc : (setSync n o s).xltDesc = s.xltDesc := rfl
@[simp] theorem setSync_walks : (setSync n o s).walks = s.walks := rfl
@[simp] theorem setSync_faults : (setSync n o s).faults = s.faults := rfl
@[simp] theorem setSync_faultNone : (setSync n o s).faultNone = s.faultNone := rfl
@[simp] theorem setSync_faultIds : (setSync n o s).faultIds = s.faultIds := rfl
@[simp] theorem setSync_invals : (setSync n o s).invals = s.invals := rfl
@[simp] theorem setSync_log : (setSync n o s).log = s.log := rfl
@[simp] theorem setSync_lastCheck : (setSync n o s).lastCheck = s.lastCheck := rfl
@[simp] theorem setSync_sinceCheck : (setSync n o s).sinceCheck = s.sinceCheck := rfl
@[simp] theorem setSync_qps : (setSync n o s).qps = s.qps := rfl
@[simp] theorem setSync_paused : (setSync n o s).paused = s.paused := rfl
@[simp] theorem setSync_xoff : (setSync n o s).xoff = s.xoff := rfl
@[simp] theorem setSync_ethHeld : (setSync n o s).ethHeld = s.ethHeld := rfl
@[simp] theorem setSync_selfDone : (setSync n o s).selfDone = s.selfDone := rfl
@[simp] theorem setSync_arenas : (setSync n o s).arenas = s.arenas := rfl
@[simp] theorem setSync_attends : (setSync n o s).attends = s.attends := rfl
@[simp] theorem setSync_commits : (setSync n o s).commits = s.commits := rfl
@[simp] theorem setSync_keyStates : (setSync n o s).keyStates = s.keyStates := rfl
@[simp] theorem setSync_slots : (setSync n o s).slots = s.slots := rfl
@[simp] theorem setSync_streams : (setSync n o s).streams = s.streams := rfl
@[simp] theorem setSync_packs : (setSync n o s).packs = s.packs := rfl
@[simp] theorem setSync_otables : (setSync n o s).otables = s.otables := rfl
@[simp] theorem setSync_oreqs : (setSync n o s).oreqs = s.oreqs := rfl
@[simp] theorem setSync_guests : (setSync n o s).guests = s.guests := rfl
@[simp] theorem setSync_forwards : (setSync n o s).forwards = s.forwards := rfl
@[simp] theorem setSync_shards : (setSync n o s).shards = s.shards := rfl
@[simp] theorem setSync_rowOps : (setSync n o s).rowOps = s.rowOps := rfl
@[simp] theorem setSync_indexes : (setSync n o s).indexes = s.indexes := rfl
@[simp] theorem setSync_sops : (setSync n o s).sops = s.sops := rfl
@[simp] theorem setSync_memberRanges : (setSync n o s).memberRanges = s.memberRanges := rfl
@[simp] theorem setSync_batches : (setSync n o s).batches = s.batches := rfl
@[simp] theorem setSync_batchSeq : (setSync n o s).batchSeq = s.batchSeq := rfl
@[simp] theorem setSync_fw : (setSync n o s).fw = s.fw := rfl
@[simp] theorem setSync_resetting : (setSync n o s).resetting = s.resetting := rfl
@[simp] theorem setSync_inputOn : (setSync n o s).inputOn = s.inputOn := rfl
@[simp] theorem setSync_cold : (setSync n o s).cold = s.cold := rfl
@[simp] theorem setSync_fullTest : (setSync n o s).fullTest = s.fullTest := rfl
@[simp] theorem setSync_thermTrip : (setSync n o s).thermTrip = s.thermTrip := rfl
@[simp] theorem setSync_norFree : (setSync n o s).norFree = s.norFree := rfl
@[simp] theorem setSync_burstUj : (setSync n o s).burstUj = s.burstUj := rfl
@[simp] theorem setSync_retest : (setSync n o s).retest = s.retest := rfl
@[simp] theorem setSync_votes : (setSync n o s).votes = s.votes := rfl
@[simp] theorem setSync_change : (setSync n o s).change = s.change := rfl
@[simp] theorem setSync_purge : (setSync n o s).purge = s.purge := rfl
@[simp] theorem setSync_spdm : (setSync n o s).spdm = s.spdm := rfl
@[simp] theorem setSync_dissolving : (setSync n o s).dissolving = s.dissolving := rfl
@[simp] theorem setSync_store : (setSync n o s).store = s.store := rfl
@[simp] theorem setSync_unrebuilt : (setSync n o s).unrebuilt = s.unrebuilt := rfl
@[simp] theorem setSync_memberObjects : (setSync n o s).memberObjects = s.memberObjects := rfl
@[simp] theorem setSync_tenantKeys : (setSync n o s).tenantKeys = s.tenantKeys := rfl
@[simp] theorem setSync_mediaKey : (setSync n o s).mediaKey = s.mediaKey := rfl
@[simp] theorem setSync_peeked : (setSync n o s).peeked = s.peeked := rfl
@[simp] theorem setSync_formFrom : (setSync n o s).formFrom = s.formFrom := rfl

end

/-! ## setLink -/

section
variable (n : Nat) (f : Link → Link) (s : State)

@[simp] theorem setLink_links : (setLink n f s).links = tset s.links n (f (link s n)) := rfl
@[simp] theorem setLink_pending : (setLink n f s).pending = s.pending := rfl
@[simp] theorem setLink_out : (setLink n f s).out = s.out := rfl
@[simp] theorem setLink_freeCtr : (setLink n f s).freeCtr = s.freeCtr := rfl
@[simp] theorem setLink_variant : (setLink n f s).variant = s.variant := rfl
@[simp] theorem setLink_pkg : (setLink n f s).pkg = s.pkg := rfl
@[simp] theorem setLink_time : (setLink n f s).time = s.time := rfl
@[simp] theorem setLink_objs : (setLink n f s).objs = s.objs := rfl
@[simp] theorem setLink_mem : (setLink n f s).mem = s.mem := rfl
@[simp] theorem setLink_poison : (setLink n f s).poison = s.poison := rfl
@[simp] theorem setLink_accCtr : (setLink n f s).accCtr = s.accCtr := rfl
@[simp] theorem setLink_reqCtr : (setLink n f s).reqCtr = s.reqCtr := rfl
@[simp] theorem setLink_snoopCtr : (setLink n f s).snoopCtr = s.snoopCtr := rfl
@[simp] theorem setLink_pkgBucket : (setLink n f s).pkgBucket = s.pkgBucket := rfl
@[simp] theorem setLink_pkgBucketAt : (setLink n f s).pkgBucketAt = s.pkgBucketAt := rfl
@[simp] theorem setLink_compTab : (setLink n f s).compTab = s.compTab := rfl
@[simp] theorem setLink_comps : (setLink n f s).comps = s.comps := rfl
@[simp] theorem setLink_recordSeq : (setLink n f s).recordSeq = s.recordSeq := rfl
@[simp] theorem setLink_meterStart : (setLink n f s).meterStart = s.meterStart := rfl
@[simp] theorem setLink_regions : (setLink n f s).regions = s.regions := rfl
@[simp] theorem setLink_owners : (setLink n f s).owners = s.owners := rfl
@[simp] theorem setLink_openReqs : (setLink n f s).openReqs = s.openReqs := rfl
@[simp] theorem setLink_dma : (setLink n f s).dma = s.dma := rfl
@[simp] theorem setLink_extents : (setLink n f s).extents = s.extents := rfl
@[simp] theorem setLink_placed : (setLink n f s).placed = s.placed := rfl
@[simp] theorem setLink_shadows : (setLink n f s).shadows = s.shadows := rfl
@[simp] theorem setLink_placeQ : (setLink n f s).placeQ = s.placeQ := rfl
@[simp] theorem setLink_moves : (setLink n f s).moves = s.moves := rfl
@[simp] theorem setLink_stalls : (setLink n f s).stalls = s.stalls := rfl
@[simp] theorem setLink_retired : (setLink n f s).retired = s.retired := rfl
@[simp] theorem setLink_dir : (setLink n f s).dir = s.dir := rfl
@[simp] theorem setLink_snoops : (setLink n f s).snoops = s.snoops := rfl
@[simp] theorem setLink_sync : (setLink n f s).sync = s.sync := rfl
@[simp] theorem setLink_copies : (setLink n f s).copies = s.copies := rfl
@[simp] theorem setLink_deadlock : (setLink n f s).deadlock = s.deadlock := rfl
@[simp] theorem setLink_dict : (setLink n f s).dict = s.dict := rfl
@[simp] theorem setLink_blocks : (setLink n f s).blocks = s.blocks := rfl
@[simp] theorem setLink_regs : (setLink n f s).regs = s.regs := rfl
@[simp] theorem setLink_mbx : (setLink n f s).mbx = s.mbx := rfl
@[simp] theorem setLink_geyser : (setLink n f s).geyser = s.geyser := rfl
@[simp] theorem setLink_doms : (setLink n f s).doms = s.doms := rfl
@[simp] theorem setLink_keyGens : (setLink n f s).keyGens = s.keyGens := rfl
@[simp] theorem setLink_replaced : (setLink n f s).replaced = s.replaced := rfl
@[simp] theorem setLink_misroutes : (setLink n f s).misroutes = s.misroutes := rfl
@[simp] theorem setLink_recalls : (setLink n f s).recalls = s.recalls := rfl
@[simp] theorem setLink_tiles : (setLink n f s).tiles = s.tiles := rfl
@[simp] theorem setLink_notified : (setLink n f s).notified = s.notified := rfl
@[simp] theorem setLink_owed : (setLink n f s).owed = s.owed := rfl
@[simp] theorem setLink_registry : (setLink n f s).registry = s.registry := rfl
@[simp] theorem setLink_reserved : (setLink n f s).reserved = s.reserved := rfl
@[simp] theorem setLink_registering : (setLink n f s).registering = s.registering := rfl
@[simp] theorem setLink_retiring : (setLink n f s).retiring = s.retiring := rfl
@[simp] theorem setLink_loading : (setLink n f s).loading = s.loading := rfl
@[simp] theorem setLink_clusters : (setLink n f s).clusters = s.clusters := rfl
@[simp] theorem setLink_handles : (setLink n f s).handles = s.handles := rfl
@[simp] theorem setLink_calls : (setLink n f s).calls = s.calls := rfl
@[simp] theorem setLink_xlt : (setLink n f s).xlt = s.xlt := rfl
@[simp] theorem setLink_xltDesc : (setLink n f s).xltDesc = s.xltDesc := rfl
@[simp] theorem setLink_walks : (setLink n f s).walks = s.walks := rfl
@[simp] theorem setLink_faults : (setLink n f s).faults = s.faults := rfl
@[simp] theorem setLink_faultNone : (setLink n f s).faultNone = s.faultNone := rfl
@[simp] theorem setLink_faultIds : (setLink n f s).faultIds = s.faultIds := rfl
@[simp] theorem setLink_invals : (setLink n f s).invals = s.invals := rfl
@[simp] theorem setLink_log : (setLink n f s).log = s.log := rfl
@[simp] theorem setLink_lastCheck : (setLink n f s).lastCheck = s.lastCheck := rfl
@[simp] theorem setLink_sinceCheck : (setLink n f s).sinceCheck = s.sinceCheck := rfl
@[simp] theorem setLink_qps : (setLink n f s).qps = s.qps := rfl
@[simp] theorem setLink_paused : (setLink n f s).paused = s.paused := rfl
@[simp] theorem setLink_xoff : (setLink n f s).xoff = s.xoff := rfl
@[simp] theorem setLink_ethHeld : (setLink n f s).ethHeld = s.ethHeld := rfl
@[simp] theorem setLink_selfDone : (setLink n f s).selfDone = s.selfDone := rfl
@[simp] theorem setLink_arenas : (setLink n f s).arenas = s.arenas := rfl
@[simp] theorem setLink_attends : (setLink n f s).attends = s.attends := rfl
@[simp] theorem setLink_commits : (setLink n f s).commits = s.commits := rfl
@[simp] theorem setLink_keyStates : (setLink n f s).keyStates = s.keyStates := rfl
@[simp] theorem setLink_slots : (setLink n f s).slots = s.slots := rfl
@[simp] theorem setLink_streams : (setLink n f s).streams = s.streams := rfl
@[simp] theorem setLink_packs : (setLink n f s).packs = s.packs := rfl
@[simp] theorem setLink_otables : (setLink n f s).otables = s.otables := rfl
@[simp] theorem setLink_oreqs : (setLink n f s).oreqs = s.oreqs := rfl
@[simp] theorem setLink_guests : (setLink n f s).guests = s.guests := rfl
@[simp] theorem setLink_forwards : (setLink n f s).forwards = s.forwards := rfl
@[simp] theorem setLink_shards : (setLink n f s).shards = s.shards := rfl
@[simp] theorem setLink_rowOps : (setLink n f s).rowOps = s.rowOps := rfl
@[simp] theorem setLink_indexes : (setLink n f s).indexes = s.indexes := rfl
@[simp] theorem setLink_sops : (setLink n f s).sops = s.sops := rfl
@[simp] theorem setLink_memberRanges : (setLink n f s).memberRanges = s.memberRanges := rfl
@[simp] theorem setLink_batches : (setLink n f s).batches = s.batches := rfl
@[simp] theorem setLink_batchSeq : (setLink n f s).batchSeq = s.batchSeq := rfl
@[simp] theorem setLink_fw : (setLink n f s).fw = s.fw := rfl
@[simp] theorem setLink_resetting : (setLink n f s).resetting = s.resetting := rfl
@[simp] theorem setLink_inputOn : (setLink n f s).inputOn = s.inputOn := rfl
@[simp] theorem setLink_cold : (setLink n f s).cold = s.cold := rfl
@[simp] theorem setLink_fullTest : (setLink n f s).fullTest = s.fullTest := rfl
@[simp] theorem setLink_thermTrip : (setLink n f s).thermTrip = s.thermTrip := rfl
@[simp] theorem setLink_norFree : (setLink n f s).norFree = s.norFree := rfl
@[simp] theorem setLink_burstUj : (setLink n f s).burstUj = s.burstUj := rfl
@[simp] theorem setLink_retest : (setLink n f s).retest = s.retest := rfl
@[simp] theorem setLink_votes : (setLink n f s).votes = s.votes := rfl
@[simp] theorem setLink_change : (setLink n f s).change = s.change := rfl
@[simp] theorem setLink_purge : (setLink n f s).purge = s.purge := rfl
@[simp] theorem setLink_spdm : (setLink n f s).spdm = s.spdm := rfl
@[simp] theorem setLink_dissolving : (setLink n f s).dissolving = s.dissolving := rfl
@[simp] theorem setLink_store : (setLink n f s).store = s.store := rfl
@[simp] theorem setLink_unrebuilt : (setLink n f s).unrebuilt = s.unrebuilt := rfl
@[simp] theorem setLink_memberObjects : (setLink n f s).memberObjects = s.memberObjects := rfl
@[simp] theorem setLink_tenantKeys : (setLink n f s).tenantKeys = s.tenantKeys := rfl
@[simp] theorem setLink_mediaKey : (setLink n f s).mediaKey = s.mediaKey := rfl
@[simp] theorem setLink_peeked : (setLink n f s).peeked = s.peeked := rfl
@[simp] theorem setLink_formFrom : (setLink n f s).formFrom = s.formFrom := rfl

end

/-! ## setBlock -/

section
variable (die : Nat) (f : Block → Block) (s : State)

@[simp] theorem setBlock_blocks : (setBlock die f s).blocks = tset s.blocks die (f (block s die)) := rfl
@[simp] theorem setBlock_pending : (setBlock die f s).pending = s.pending := rfl
@[simp] theorem setBlock_out : (setBlock die f s).out = s.out := rfl
@[simp] theorem setBlock_freeCtr : (setBlock die f s).freeCtr = s.freeCtr := rfl
@[simp] theorem setBlock_variant : (setBlock die f s).variant = s.variant := rfl
@[simp] theorem setBlock_pkg : (setBlock die f s).pkg = s.pkg := rfl
@[simp] theorem setBlock_time : (setBlock die f s).time = s.time := rfl
@[simp] theorem setBlock_objs : (setBlock die f s).objs = s.objs := rfl
@[simp] theorem setBlock_mem : (setBlock die f s).mem = s.mem := rfl
@[simp] theorem setBlock_poison : (setBlock die f s).poison = s.poison := rfl
@[simp] theorem setBlock_accCtr : (setBlock die f s).accCtr = s.accCtr := rfl
@[simp] theorem setBlock_reqCtr : (setBlock die f s).reqCtr = s.reqCtr := rfl
@[simp] theorem setBlock_snoopCtr : (setBlock die f s).snoopCtr = s.snoopCtr := rfl
@[simp] theorem setBlock_links : (setBlock die f s).links = s.links := rfl
@[simp] theorem setBlock_pkgBucket : (setBlock die f s).pkgBucket = s.pkgBucket := rfl
@[simp] theorem setBlock_pkgBucketAt : (setBlock die f s).pkgBucketAt = s.pkgBucketAt := rfl
@[simp] theorem setBlock_compTab : (setBlock die f s).compTab = s.compTab := rfl
@[simp] theorem setBlock_comps : (setBlock die f s).comps = s.comps := rfl
@[simp] theorem setBlock_recordSeq : (setBlock die f s).recordSeq = s.recordSeq := rfl
@[simp] theorem setBlock_meterStart : (setBlock die f s).meterStart = s.meterStart := rfl
@[simp] theorem setBlock_regions : (setBlock die f s).regions = s.regions := rfl
@[simp] theorem setBlock_owners : (setBlock die f s).owners = s.owners := rfl
@[simp] theorem setBlock_openReqs : (setBlock die f s).openReqs = s.openReqs := rfl
@[simp] theorem setBlock_dma : (setBlock die f s).dma = s.dma := rfl
@[simp] theorem setBlock_extents : (setBlock die f s).extents = s.extents := rfl
@[simp] theorem setBlock_placed : (setBlock die f s).placed = s.placed := rfl
@[simp] theorem setBlock_shadows : (setBlock die f s).shadows = s.shadows := rfl
@[simp] theorem setBlock_placeQ : (setBlock die f s).placeQ = s.placeQ := rfl
@[simp] theorem setBlock_moves : (setBlock die f s).moves = s.moves := rfl
@[simp] theorem setBlock_stalls : (setBlock die f s).stalls = s.stalls := rfl
@[simp] theorem setBlock_retired : (setBlock die f s).retired = s.retired := rfl
@[simp] theorem setBlock_dir : (setBlock die f s).dir = s.dir := rfl
@[simp] theorem setBlock_snoops : (setBlock die f s).snoops = s.snoops := rfl
@[simp] theorem setBlock_sync : (setBlock die f s).sync = s.sync := rfl
@[simp] theorem setBlock_copies : (setBlock die f s).copies = s.copies := rfl
@[simp] theorem setBlock_deadlock : (setBlock die f s).deadlock = s.deadlock := rfl
@[simp] theorem setBlock_dict : (setBlock die f s).dict = s.dict := rfl
@[simp] theorem setBlock_regs : (setBlock die f s).regs = s.regs := rfl
@[simp] theorem setBlock_mbx : (setBlock die f s).mbx = s.mbx := rfl
@[simp] theorem setBlock_geyser : (setBlock die f s).geyser = s.geyser := rfl
@[simp] theorem setBlock_doms : (setBlock die f s).doms = s.doms := rfl
@[simp] theorem setBlock_keyGens : (setBlock die f s).keyGens = s.keyGens := rfl
@[simp] theorem setBlock_replaced : (setBlock die f s).replaced = s.replaced := rfl
@[simp] theorem setBlock_misroutes : (setBlock die f s).misroutes = s.misroutes := rfl
@[simp] theorem setBlock_recalls : (setBlock die f s).recalls = s.recalls := rfl
@[simp] theorem setBlock_tiles : (setBlock die f s).tiles = s.tiles := rfl
@[simp] theorem setBlock_notified : (setBlock die f s).notified = s.notified := rfl
@[simp] theorem setBlock_owed : (setBlock die f s).owed = s.owed := rfl
@[simp] theorem setBlock_registry : (setBlock die f s).registry = s.registry := rfl
@[simp] theorem setBlock_reserved : (setBlock die f s).reserved = s.reserved := rfl
@[simp] theorem setBlock_registering : (setBlock die f s).registering = s.registering := rfl
@[simp] theorem setBlock_retiring : (setBlock die f s).retiring = s.retiring := rfl
@[simp] theorem setBlock_loading : (setBlock die f s).loading = s.loading := rfl
@[simp] theorem setBlock_clusters : (setBlock die f s).clusters = s.clusters := rfl
@[simp] theorem setBlock_handles : (setBlock die f s).handles = s.handles := rfl
@[simp] theorem setBlock_calls : (setBlock die f s).calls = s.calls := rfl
@[simp] theorem setBlock_xlt : (setBlock die f s).xlt = s.xlt := rfl
@[simp] theorem setBlock_xltDesc : (setBlock die f s).xltDesc = s.xltDesc := rfl
@[simp] theorem setBlock_walks : (setBlock die f s).walks = s.walks := rfl
@[simp] theorem setBlock_faults : (setBlock die f s).faults = s.faults := rfl
@[simp] theorem setBlock_faultNone : (setBlock die f s).faultNone = s.faultNone := rfl
@[simp] theorem setBlock_faultIds : (setBlock die f s).faultIds = s.faultIds := rfl
@[simp] theorem setBlock_invals : (setBlock die f s).invals = s.invals := rfl
@[simp] theorem setBlock_log : (setBlock die f s).log = s.log := rfl
@[simp] theorem setBlock_lastCheck : (setBlock die f s).lastCheck = s.lastCheck := rfl
@[simp] theorem setBlock_sinceCheck : (setBlock die f s).sinceCheck = s.sinceCheck := rfl
@[simp] theorem setBlock_qps : (setBlock die f s).qps = s.qps := rfl
@[simp] theorem setBlock_paused : (setBlock die f s).paused = s.paused := rfl
@[simp] theorem setBlock_xoff : (setBlock die f s).xoff = s.xoff := rfl
@[simp] theorem setBlock_ethHeld : (setBlock die f s).ethHeld = s.ethHeld := rfl
@[simp] theorem setBlock_selfDone : (setBlock die f s).selfDone = s.selfDone := rfl
@[simp] theorem setBlock_arenas : (setBlock die f s).arenas = s.arenas := rfl
@[simp] theorem setBlock_attends : (setBlock die f s).attends = s.attends := rfl
@[simp] theorem setBlock_commits : (setBlock die f s).commits = s.commits := rfl
@[simp] theorem setBlock_keyStates : (setBlock die f s).keyStates = s.keyStates := rfl
@[simp] theorem setBlock_slots : (setBlock die f s).slots = s.slots := rfl
@[simp] theorem setBlock_streams : (setBlock die f s).streams = s.streams := rfl
@[simp] theorem setBlock_packs : (setBlock die f s).packs = s.packs := rfl
@[simp] theorem setBlock_otables : (setBlock die f s).otables = s.otables := rfl
@[simp] theorem setBlock_oreqs : (setBlock die f s).oreqs = s.oreqs := rfl
@[simp] theorem setBlock_guests : (setBlock die f s).guests = s.guests := rfl
@[simp] theorem setBlock_forwards : (setBlock die f s).forwards = s.forwards := rfl
@[simp] theorem setBlock_shards : (setBlock die f s).shards = s.shards := rfl
@[simp] theorem setBlock_rowOps : (setBlock die f s).rowOps = s.rowOps := rfl
@[simp] theorem setBlock_indexes : (setBlock die f s).indexes = s.indexes := rfl
@[simp] theorem setBlock_sops : (setBlock die f s).sops = s.sops := rfl
@[simp] theorem setBlock_memberRanges : (setBlock die f s).memberRanges = s.memberRanges := rfl
@[simp] theorem setBlock_batches : (setBlock die f s).batches = s.batches := rfl
@[simp] theorem setBlock_batchSeq : (setBlock die f s).batchSeq = s.batchSeq := rfl
@[simp] theorem setBlock_fw : (setBlock die f s).fw = s.fw := rfl
@[simp] theorem setBlock_resetting : (setBlock die f s).resetting = s.resetting := rfl
@[simp] theorem setBlock_inputOn : (setBlock die f s).inputOn = s.inputOn := rfl
@[simp] theorem setBlock_cold : (setBlock die f s).cold = s.cold := rfl
@[simp] theorem setBlock_fullTest : (setBlock die f s).fullTest = s.fullTest := rfl
@[simp] theorem setBlock_thermTrip : (setBlock die f s).thermTrip = s.thermTrip := rfl
@[simp] theorem setBlock_norFree : (setBlock die f s).norFree = s.norFree := rfl
@[simp] theorem setBlock_burstUj : (setBlock die f s).burstUj = s.burstUj := rfl
@[simp] theorem setBlock_retest : (setBlock die f s).retest = s.retest := rfl
@[simp] theorem setBlock_votes : (setBlock die f s).votes = s.votes := rfl
@[simp] theorem setBlock_change : (setBlock die f s).change = s.change := rfl
@[simp] theorem setBlock_purge : (setBlock die f s).purge = s.purge := rfl
@[simp] theorem setBlock_spdm : (setBlock die f s).spdm = s.spdm := rfl
@[simp] theorem setBlock_dissolving : (setBlock die f s).dissolving = s.dissolving := rfl
@[simp] theorem setBlock_store : (setBlock die f s).store = s.store := rfl
@[simp] theorem setBlock_unrebuilt : (setBlock die f s).unrebuilt = s.unrebuilt := rfl
@[simp] theorem setBlock_memberObjects : (setBlock die f s).memberObjects = s.memberObjects := rfl
@[simp] theorem setBlock_tenantKeys : (setBlock die f s).tenantKeys = s.tenantKeys := rfl
@[simp] theorem setBlock_mediaKey : (setBlock die f s).mediaKey = s.mediaKey := rfl
@[simp] theorem setBlock_peeked : (setBlock die f s).peeked = s.peeked := rfl
@[simp] theorem setBlock_formFrom : (setBlock die f s).formFrom = s.formFrom := rfl

end

/-! ## setBox -/

section
variable (die m : Nat) (x : Mailbox) (s : State)

@[simp] theorem setBox_mbx : (setBox die m x s).mbx = tset s.mbx (16 * die + m) x := rfl
@[simp] theorem setBox_pending : (setBox die m x s).pending = s.pending := rfl
@[simp] theorem setBox_out : (setBox die m x s).out = s.out := rfl
@[simp] theorem setBox_freeCtr : (setBox die m x s).freeCtr = s.freeCtr := rfl
@[simp] theorem setBox_variant : (setBox die m x s).variant = s.variant := rfl
@[simp] theorem setBox_pkg : (setBox die m x s).pkg = s.pkg := rfl
@[simp] theorem setBox_time : (setBox die m x s).time = s.time := rfl
@[simp] theorem setBox_objs : (setBox die m x s).objs = s.objs := rfl
@[simp] theorem setBox_mem : (setBox die m x s).mem = s.mem := rfl
@[simp] theorem setBox_poison : (setBox die m x s).poison = s.poison := rfl
@[simp] theorem setBox_accCtr : (setBox die m x s).accCtr = s.accCtr := rfl
@[simp] theorem setBox_reqCtr : (setBox die m x s).reqCtr = s.reqCtr := rfl
@[simp] theorem setBox_snoopCtr : (setBox die m x s).snoopCtr = s.snoopCtr := rfl
@[simp] theorem setBox_links : (setBox die m x s).links = s.links := rfl
@[simp] theorem setBox_pkgBucket : (setBox die m x s).pkgBucket = s.pkgBucket := rfl
@[simp] theorem setBox_pkgBucketAt : (setBox die m x s).pkgBucketAt = s.pkgBucketAt := rfl
@[simp] theorem setBox_compTab : (setBox die m x s).compTab = s.compTab := rfl
@[simp] theorem setBox_comps : (setBox die m x s).comps = s.comps := rfl
@[simp] theorem setBox_recordSeq : (setBox die m x s).recordSeq = s.recordSeq := rfl
@[simp] theorem setBox_meterStart : (setBox die m x s).meterStart = s.meterStart := rfl
@[simp] theorem setBox_regions : (setBox die m x s).regions = s.regions := rfl
@[simp] theorem setBox_owners : (setBox die m x s).owners = s.owners := rfl
@[simp] theorem setBox_openReqs : (setBox die m x s).openReqs = s.openReqs := rfl
@[simp] theorem setBox_dma : (setBox die m x s).dma = s.dma := rfl
@[simp] theorem setBox_extents : (setBox die m x s).extents = s.extents := rfl
@[simp] theorem setBox_placed : (setBox die m x s).placed = s.placed := rfl
@[simp] theorem setBox_shadows : (setBox die m x s).shadows = s.shadows := rfl
@[simp] theorem setBox_placeQ : (setBox die m x s).placeQ = s.placeQ := rfl
@[simp] theorem setBox_moves : (setBox die m x s).moves = s.moves := rfl
@[simp] theorem setBox_stalls : (setBox die m x s).stalls = s.stalls := rfl
@[simp] theorem setBox_retired : (setBox die m x s).retired = s.retired := rfl
@[simp] theorem setBox_dir : (setBox die m x s).dir = s.dir := rfl
@[simp] theorem setBox_snoops : (setBox die m x s).snoops = s.snoops := rfl
@[simp] theorem setBox_sync : (setBox die m x s).sync = s.sync := rfl
@[simp] theorem setBox_copies : (setBox die m x s).copies = s.copies := rfl
@[simp] theorem setBox_deadlock : (setBox die m x s).deadlock = s.deadlock := rfl
@[simp] theorem setBox_dict : (setBox die m x s).dict = s.dict := rfl
@[simp] theorem setBox_blocks : (setBox die m x s).blocks = s.blocks := rfl
@[simp] theorem setBox_regs : (setBox die m x s).regs = s.regs := rfl
@[simp] theorem setBox_geyser : (setBox die m x s).geyser = s.geyser := rfl
@[simp] theorem setBox_doms : (setBox die m x s).doms = s.doms := rfl
@[simp] theorem setBox_keyGens : (setBox die m x s).keyGens = s.keyGens := rfl
@[simp] theorem setBox_replaced : (setBox die m x s).replaced = s.replaced := rfl
@[simp] theorem setBox_misroutes : (setBox die m x s).misroutes = s.misroutes := rfl
@[simp] theorem setBox_recalls : (setBox die m x s).recalls = s.recalls := rfl
@[simp] theorem setBox_tiles : (setBox die m x s).tiles = s.tiles := rfl
@[simp] theorem setBox_notified : (setBox die m x s).notified = s.notified := rfl
@[simp] theorem setBox_owed : (setBox die m x s).owed = s.owed := rfl
@[simp] theorem setBox_registry : (setBox die m x s).registry = s.registry := rfl
@[simp] theorem setBox_reserved : (setBox die m x s).reserved = s.reserved := rfl
@[simp] theorem setBox_registering : (setBox die m x s).registering = s.registering := rfl
@[simp] theorem setBox_retiring : (setBox die m x s).retiring = s.retiring := rfl
@[simp] theorem setBox_loading : (setBox die m x s).loading = s.loading := rfl
@[simp] theorem setBox_clusters : (setBox die m x s).clusters = s.clusters := rfl
@[simp] theorem setBox_handles : (setBox die m x s).handles = s.handles := rfl
@[simp] theorem setBox_calls : (setBox die m x s).calls = s.calls := rfl
@[simp] theorem setBox_xlt : (setBox die m x s).xlt = s.xlt := rfl
@[simp] theorem setBox_xltDesc : (setBox die m x s).xltDesc = s.xltDesc := rfl
@[simp] theorem setBox_walks : (setBox die m x s).walks = s.walks := rfl
@[simp] theorem setBox_faults : (setBox die m x s).faults = s.faults := rfl
@[simp] theorem setBox_faultNone : (setBox die m x s).faultNone = s.faultNone := rfl
@[simp] theorem setBox_faultIds : (setBox die m x s).faultIds = s.faultIds := rfl
@[simp] theorem setBox_invals : (setBox die m x s).invals = s.invals := rfl
@[simp] theorem setBox_log : (setBox die m x s).log = s.log := rfl
@[simp] theorem setBox_lastCheck : (setBox die m x s).lastCheck = s.lastCheck := rfl
@[simp] theorem setBox_sinceCheck : (setBox die m x s).sinceCheck = s.sinceCheck := rfl
@[simp] theorem setBox_qps : (setBox die m x s).qps = s.qps := rfl
@[simp] theorem setBox_paused : (setBox die m x s).paused = s.paused := rfl
@[simp] theorem setBox_xoff : (setBox die m x s).xoff = s.xoff := rfl
@[simp] theorem setBox_ethHeld : (setBox die m x s).ethHeld = s.ethHeld := rfl
@[simp] theorem setBox_selfDone : (setBox die m x s).selfDone = s.selfDone := rfl
@[simp] theorem setBox_arenas : (setBox die m x s).arenas = s.arenas := rfl
@[simp] theorem setBox_attends : (setBox die m x s).attends = s.attends := rfl
@[simp] theorem setBox_commits : (setBox die m x s).commits = s.commits := rfl
@[simp] theorem setBox_keyStates : (setBox die m x s).keyStates = s.keyStates := rfl
@[simp] theorem setBox_slots : (setBox die m x s).slots = s.slots := rfl
@[simp] theorem setBox_streams : (setBox die m x s).streams = s.streams := rfl
@[simp] theorem setBox_packs : (setBox die m x s).packs = s.packs := rfl
@[simp] theorem setBox_otables : (setBox die m x s).otables = s.otables := rfl
@[simp] theorem setBox_oreqs : (setBox die m x s).oreqs = s.oreqs := rfl
@[simp] theorem setBox_guests : (setBox die m x s).guests = s.guests := rfl
@[simp] theorem setBox_forwards : (setBox die m x s).forwards = s.forwards := rfl
@[simp] theorem setBox_shards : (setBox die m x s).shards = s.shards := rfl
@[simp] theorem setBox_rowOps : (setBox die m x s).rowOps = s.rowOps := rfl
@[simp] theorem setBox_indexes : (setBox die m x s).indexes = s.indexes := rfl
@[simp] theorem setBox_sops : (setBox die m x s).sops = s.sops := rfl
@[simp] theorem setBox_memberRanges : (setBox die m x s).memberRanges = s.memberRanges := rfl
@[simp] theorem setBox_batches : (setBox die m x s).batches = s.batches := rfl
@[simp] theorem setBox_batchSeq : (setBox die m x s).batchSeq = s.batchSeq := rfl
@[simp] theorem setBox_fw : (setBox die m x s).fw = s.fw := rfl
@[simp] theorem setBox_resetting : (setBox die m x s).resetting = s.resetting := rfl
@[simp] theorem setBox_inputOn : (setBox die m x s).inputOn = s.inputOn := rfl
@[simp] theorem setBox_cold : (setBox die m x s).cold = s.cold := rfl
@[simp] theorem setBox_fullTest : (setBox die m x s).fullTest = s.fullTest := rfl
@[simp] theorem setBox_thermTrip : (setBox die m x s).thermTrip = s.thermTrip := rfl
@[simp] theorem setBox_norFree : (setBox die m x s).norFree = s.norFree := rfl
@[simp] theorem setBox_burstUj : (setBox die m x s).burstUj = s.burstUj := rfl
@[simp] theorem setBox_retest : (setBox die m x s).retest = s.retest := rfl
@[simp] theorem setBox_votes : (setBox die m x s).votes = s.votes := rfl
@[simp] theorem setBox_change : (setBox die m x s).change = s.change := rfl
@[simp] theorem setBox_purge : (setBox die m x s).purge = s.purge := rfl
@[simp] theorem setBox_spdm : (setBox die m x s).spdm = s.spdm := rfl
@[simp] theorem setBox_dissolving : (setBox die m x s).dissolving = s.dissolving := rfl
@[simp] theorem setBox_store : (setBox die m x s).store = s.store := rfl
@[simp] theorem setBox_unrebuilt : (setBox die m x s).unrebuilt = s.unrebuilt := rfl
@[simp] theorem setBox_memberObjects : (setBox die m x s).memberObjects = s.memberObjects := rfl
@[simp] theorem setBox_tenantKeys : (setBox die m x s).tenantKeys = s.tenantKeys := rfl
@[simp] theorem setBox_mediaKey : (setBox die m x s).mediaKey = s.mediaKey := rfl
@[simp] theorem setBox_peeked : (setBox die m x s).peeked = s.peeked := rfl
@[simp] theorem setBox_formFrom : (setBox die m x s).formFrom = s.formFrom := rfl

end

/-! ## setQp -/

section
variable (q : Nat) (x : Qp) (s : State)

@[simp] theorem setQp_qps : (setQp q x s).qps = tset s.qps q x := rfl
@[simp] theorem setQp_pending : (setQp q x s).pending = s.pending := rfl
@[simp] theorem setQp_out : (setQp q x s).out = s.out := rfl
@[simp] theorem setQp_freeCtr : (setQp q x s).freeCtr = s.freeCtr := rfl
@[simp] theorem setQp_variant : (setQp q x s).variant = s.variant := rfl
@[simp] theorem setQp_pkg : (setQp q x s).pkg = s.pkg := rfl
@[simp] theorem setQp_time : (setQp q x s).time = s.time := rfl
@[simp] theorem setQp_objs : (setQp q x s).objs = s.objs := rfl
@[simp] theorem setQp_mem : (setQp q x s).mem = s.mem := rfl
@[simp] theorem setQp_poison : (setQp q x s).poison = s.poison := rfl
@[simp] theorem setQp_accCtr : (setQp q x s).accCtr = s.accCtr := rfl
@[simp] theorem setQp_reqCtr : (setQp q x s).reqCtr = s.reqCtr := rfl
@[simp] theorem setQp_snoopCtr : (setQp q x s).snoopCtr = s.snoopCtr := rfl
@[simp] theorem setQp_links : (setQp q x s).links = s.links := rfl
@[simp] theorem setQp_pkgBucket : (setQp q x s).pkgBucket = s.pkgBucket := rfl
@[simp] theorem setQp_pkgBucketAt : (setQp q x s).pkgBucketAt = s.pkgBucketAt := rfl
@[simp] theorem setQp_compTab : (setQp q x s).compTab = s.compTab := rfl
@[simp] theorem setQp_comps : (setQp q x s).comps = s.comps := rfl
@[simp] theorem setQp_recordSeq : (setQp q x s).recordSeq = s.recordSeq := rfl
@[simp] theorem setQp_meterStart : (setQp q x s).meterStart = s.meterStart := rfl
@[simp] theorem setQp_regions : (setQp q x s).regions = s.regions := rfl
@[simp] theorem setQp_owners : (setQp q x s).owners = s.owners := rfl
@[simp] theorem setQp_openReqs : (setQp q x s).openReqs = s.openReqs := rfl
@[simp] theorem setQp_dma : (setQp q x s).dma = s.dma := rfl
@[simp] theorem setQp_extents : (setQp q x s).extents = s.extents := rfl
@[simp] theorem setQp_placed : (setQp q x s).placed = s.placed := rfl
@[simp] theorem setQp_shadows : (setQp q x s).shadows = s.shadows := rfl
@[simp] theorem setQp_placeQ : (setQp q x s).placeQ = s.placeQ := rfl
@[simp] theorem setQp_moves : (setQp q x s).moves = s.moves := rfl
@[simp] theorem setQp_stalls : (setQp q x s).stalls = s.stalls := rfl
@[simp] theorem setQp_retired : (setQp q x s).retired = s.retired := rfl
@[simp] theorem setQp_dir : (setQp q x s).dir = s.dir := rfl
@[simp] theorem setQp_snoops : (setQp q x s).snoops = s.snoops := rfl
@[simp] theorem setQp_sync : (setQp q x s).sync = s.sync := rfl
@[simp] theorem setQp_copies : (setQp q x s).copies = s.copies := rfl
@[simp] theorem setQp_deadlock : (setQp q x s).deadlock = s.deadlock := rfl
@[simp] theorem setQp_dict : (setQp q x s).dict = s.dict := rfl
@[simp] theorem setQp_blocks : (setQp q x s).blocks = s.blocks := rfl
@[simp] theorem setQp_regs : (setQp q x s).regs = s.regs := rfl
@[simp] theorem setQp_mbx : (setQp q x s).mbx = s.mbx := rfl
@[simp] theorem setQp_geyser : (setQp q x s).geyser = s.geyser := rfl
@[simp] theorem setQp_doms : (setQp q x s).doms = s.doms := rfl
@[simp] theorem setQp_keyGens : (setQp q x s).keyGens = s.keyGens := rfl
@[simp] theorem setQp_replaced : (setQp q x s).replaced = s.replaced := rfl
@[simp] theorem setQp_misroutes : (setQp q x s).misroutes = s.misroutes := rfl
@[simp] theorem setQp_recalls : (setQp q x s).recalls = s.recalls := rfl
@[simp] theorem setQp_tiles : (setQp q x s).tiles = s.tiles := rfl
@[simp] theorem setQp_notified : (setQp q x s).notified = s.notified := rfl
@[simp] theorem setQp_owed : (setQp q x s).owed = s.owed := rfl
@[simp] theorem setQp_registry : (setQp q x s).registry = s.registry := rfl
@[simp] theorem setQp_reserved : (setQp q x s).reserved = s.reserved := rfl
@[simp] theorem setQp_registering : (setQp q x s).registering = s.registering := rfl
@[simp] theorem setQp_retiring : (setQp q x s).retiring = s.retiring := rfl
@[simp] theorem setQp_loading : (setQp q x s).loading = s.loading := rfl
@[simp] theorem setQp_clusters : (setQp q x s).clusters = s.clusters := rfl
@[simp] theorem setQp_handles : (setQp q x s).handles = s.handles := rfl
@[simp] theorem setQp_calls : (setQp q x s).calls = s.calls := rfl
@[simp] theorem setQp_xlt : (setQp q x s).xlt = s.xlt := rfl
@[simp] theorem setQp_xltDesc : (setQp q x s).xltDesc = s.xltDesc := rfl
@[simp] theorem setQp_walks : (setQp q x s).walks = s.walks := rfl
@[simp] theorem setQp_faults : (setQp q x s).faults = s.faults := rfl
@[simp] theorem setQp_faultNone : (setQp q x s).faultNone = s.faultNone := rfl
@[simp] theorem setQp_faultIds : (setQp q x s).faultIds = s.faultIds := rfl
@[simp] theorem setQp_invals : (setQp q x s).invals = s.invals := rfl
@[simp] theorem setQp_log : (setQp q x s).log = s.log := rfl
@[simp] theorem setQp_lastCheck : (setQp q x s).lastCheck = s.lastCheck := rfl
@[simp] theorem setQp_sinceCheck : (setQp q x s).sinceCheck = s.sinceCheck := rfl
@[simp] theorem setQp_paused : (setQp q x s).paused = s.paused := rfl
@[simp] theorem setQp_xoff : (setQp q x s).xoff = s.xoff := rfl
@[simp] theorem setQp_ethHeld : (setQp q x s).ethHeld = s.ethHeld := rfl
@[simp] theorem setQp_selfDone : (setQp q x s).selfDone = s.selfDone := rfl
@[simp] theorem setQp_arenas : (setQp q x s).arenas = s.arenas := rfl
@[simp] theorem setQp_attends : (setQp q x s).attends = s.attends := rfl
@[simp] theorem setQp_commits : (setQp q x s).commits = s.commits := rfl
@[simp] theorem setQp_keyStates : (setQp q x s).keyStates = s.keyStates := rfl
@[simp] theorem setQp_slots : (setQp q x s).slots = s.slots := rfl
@[simp] theorem setQp_streams : (setQp q x s).streams = s.streams := rfl
@[simp] theorem setQp_packs : (setQp q x s).packs = s.packs := rfl
@[simp] theorem setQp_otables : (setQp q x s).otables = s.otables := rfl
@[simp] theorem setQp_oreqs : (setQp q x s).oreqs = s.oreqs := rfl
@[simp] theorem setQp_guests : (setQp q x s).guests = s.guests := rfl
@[simp] theorem setQp_forwards : (setQp q x s).forwards = s.forwards := rfl
@[simp] theorem setQp_shards : (setQp q x s).shards = s.shards := rfl
@[simp] theorem setQp_rowOps : (setQp q x s).rowOps = s.rowOps := rfl
@[simp] theorem setQp_indexes : (setQp q x s).indexes = s.indexes := rfl
@[simp] theorem setQp_sops : (setQp q x s).sops = s.sops := rfl
@[simp] theorem setQp_memberRanges : (setQp q x s).memberRanges = s.memberRanges := rfl
@[simp] theorem setQp_batches : (setQp q x s).batches = s.batches := rfl
@[simp] theorem setQp_batchSeq : (setQp q x s).batchSeq = s.batchSeq := rfl
@[simp] theorem setQp_fw : (setQp q x s).fw = s.fw := rfl
@[simp] theorem setQp_resetting : (setQp q x s).resetting = s.resetting := rfl
@[simp] theorem setQp_inputOn : (setQp q x s).inputOn = s.inputOn := rfl
@[simp] theorem setQp_cold : (setQp q x s).cold = s.cold := rfl
@[simp] theorem setQp_fullTest : (setQp q x s).fullTest = s.fullTest := rfl
@[simp] theorem setQp_thermTrip : (setQp q x s).thermTrip = s.thermTrip := rfl
@[simp] theorem setQp_norFree : (setQp q x s).norFree = s.norFree := rfl
@[simp] theorem setQp_burstUj : (setQp q x s).burstUj = s.burstUj := rfl
@[simp] theorem setQp_retest : (setQp q x s).retest = s.retest := rfl
@[simp] theorem setQp_votes : (setQp q x s).votes = s.votes := rfl
@[simp] theorem setQp_change : (setQp q x s).change = s.change := rfl
@[simp] theorem setQp_purge : (setQp q x s).purge = s.purge := rfl
@[simp] theorem setQp_spdm : (setQp q x s).spdm = s.spdm := rfl
@[simp] theorem setQp_dissolving : (setQp q x s).dissolving = s.dissolving := rfl
@[simp] theorem setQp_store : (setQp q x s).store = s.store := rfl
@[simp] theorem setQp_unrebuilt : (setQp q x s).unrebuilt = s.unrebuilt := rfl
@[simp] theorem setQp_memberObjects : (setQp q x s).memberObjects = s.memberObjects := rfl
@[simp] theorem setQp_tenantKeys : (setQp q x s).tenantKeys = s.tenantKeys := rfl
@[simp] theorem setQp_mediaKey : (setQp q x s).mediaKey = s.mediaKey := rfl
@[simp] theorem setQp_peeked : (setQp q x s).peeked = s.peeked := rfl
@[simp] theorem setQp_formFrom : (setQp q x s).formFrom = s.formFrom := rfl

end

/-! ## setReg -/

section
variable (die a v : Nat) (s : State)

@[simp] theorem setReg_regs : (setReg die a v s).regs = tset s.regs (65536 * die + a) v := rfl
@[simp] theorem setReg_pending : (setReg die a v s).pending = s.pending := rfl
@[simp] theorem setReg_out : (setReg die a v s).out = s.out := rfl
@[simp] theorem setReg_freeCtr : (setReg die a v s).freeCtr = s.freeCtr := rfl
@[simp] theorem setReg_variant : (setReg die a v s).variant = s.variant := rfl
@[simp] theorem setReg_pkg : (setReg die a v s).pkg = s.pkg := rfl
@[simp] theorem setReg_time : (setReg die a v s).time = s.time := rfl
@[simp] theorem setReg_objs : (setReg die a v s).objs = s.objs := rfl
@[simp] theorem setReg_mem : (setReg die a v s).mem = s.mem := rfl
@[simp] theorem setReg_poison : (setReg die a v s).poison = s.poison := rfl
@[simp] theorem setReg_accCtr : (setReg die a v s).accCtr = s.accCtr := rfl
@[simp] theorem setReg_reqCtr : (setReg die a v s).reqCtr = s.reqCtr := rfl
@[simp] theorem setReg_snoopCtr : (setReg die a v s).snoopCtr = s.snoopCtr := rfl
@[simp] theorem setReg_links : (setReg die a v s).links = s.links := rfl
@[simp] theorem setReg_pkgBucket : (setReg die a v s).pkgBucket = s.pkgBucket := rfl
@[simp] theorem setReg_pkgBucketAt : (setReg die a v s).pkgBucketAt = s.pkgBucketAt := rfl
@[simp] theorem setReg_compTab : (setReg die a v s).compTab = s.compTab := rfl
@[simp] theorem setReg_comps : (setReg die a v s).comps = s.comps := rfl
@[simp] theorem setReg_recordSeq : (setReg die a v s).recordSeq = s.recordSeq := rfl
@[simp] theorem setReg_meterStart : (setReg die a v s).meterStart = s.meterStart := rfl
@[simp] theorem setReg_regions : (setReg die a v s).regions = s.regions := rfl
@[simp] theorem setReg_owners : (setReg die a v s).owners = s.owners := rfl
@[simp] theorem setReg_openReqs : (setReg die a v s).openReqs = s.openReqs := rfl
@[simp] theorem setReg_dma : (setReg die a v s).dma = s.dma := rfl
@[simp] theorem setReg_extents : (setReg die a v s).extents = s.extents := rfl
@[simp] theorem setReg_placed : (setReg die a v s).placed = s.placed := rfl
@[simp] theorem setReg_shadows : (setReg die a v s).shadows = s.shadows := rfl
@[simp] theorem setReg_placeQ : (setReg die a v s).placeQ = s.placeQ := rfl
@[simp] theorem setReg_moves : (setReg die a v s).moves = s.moves := rfl
@[simp] theorem setReg_stalls : (setReg die a v s).stalls = s.stalls := rfl
@[simp] theorem setReg_retired : (setReg die a v s).retired = s.retired := rfl
@[simp] theorem setReg_dir : (setReg die a v s).dir = s.dir := rfl
@[simp] theorem setReg_snoops : (setReg die a v s).snoops = s.snoops := rfl
@[simp] theorem setReg_sync : (setReg die a v s).sync = s.sync := rfl
@[simp] theorem setReg_copies : (setReg die a v s).copies = s.copies := rfl
@[simp] theorem setReg_deadlock : (setReg die a v s).deadlock = s.deadlock := rfl
@[simp] theorem setReg_dict : (setReg die a v s).dict = s.dict := rfl
@[simp] theorem setReg_blocks : (setReg die a v s).blocks = s.blocks := rfl
@[simp] theorem setReg_mbx : (setReg die a v s).mbx = s.mbx := rfl
@[simp] theorem setReg_geyser : (setReg die a v s).geyser = s.geyser := rfl
@[simp] theorem setReg_doms : (setReg die a v s).doms = s.doms := rfl
@[simp] theorem setReg_keyGens : (setReg die a v s).keyGens = s.keyGens := rfl
@[simp] theorem setReg_replaced : (setReg die a v s).replaced = s.replaced := rfl
@[simp] theorem setReg_misroutes : (setReg die a v s).misroutes = s.misroutes := rfl
@[simp] theorem setReg_recalls : (setReg die a v s).recalls = s.recalls := rfl
@[simp] theorem setReg_tiles : (setReg die a v s).tiles = s.tiles := rfl
@[simp] theorem setReg_notified : (setReg die a v s).notified = s.notified := rfl
@[simp] theorem setReg_owed : (setReg die a v s).owed = s.owed := rfl
@[simp] theorem setReg_registry : (setReg die a v s).registry = s.registry := rfl
@[simp] theorem setReg_reserved : (setReg die a v s).reserved = s.reserved := rfl
@[simp] theorem setReg_registering : (setReg die a v s).registering = s.registering := rfl
@[simp] theorem setReg_retiring : (setReg die a v s).retiring = s.retiring := rfl
@[simp] theorem setReg_loading : (setReg die a v s).loading = s.loading := rfl
@[simp] theorem setReg_clusters : (setReg die a v s).clusters = s.clusters := rfl
@[simp] theorem setReg_handles : (setReg die a v s).handles = s.handles := rfl
@[simp] theorem setReg_calls : (setReg die a v s).calls = s.calls := rfl
@[simp] theorem setReg_xlt : (setReg die a v s).xlt = s.xlt := rfl
@[simp] theorem setReg_xltDesc : (setReg die a v s).xltDesc = s.xltDesc := rfl
@[simp] theorem setReg_walks : (setReg die a v s).walks = s.walks := rfl
@[simp] theorem setReg_faults : (setReg die a v s).faults = s.faults := rfl
@[simp] theorem setReg_faultNone : (setReg die a v s).faultNone = s.faultNone := rfl
@[simp] theorem setReg_faultIds : (setReg die a v s).faultIds = s.faultIds := rfl
@[simp] theorem setReg_invals : (setReg die a v s).invals = s.invals := rfl
@[simp] theorem setReg_log : (setReg die a v s).log = s.log := rfl
@[simp] theorem setReg_lastCheck : (setReg die a v s).lastCheck = s.lastCheck := rfl
@[simp] theorem setReg_sinceCheck : (setReg die a v s).sinceCheck = s.sinceCheck := rfl
@[simp] theorem setReg_qps : (setReg die a v s).qps = s.qps := rfl
@[simp] theorem setReg_paused : (setReg die a v s).paused = s.paused := rfl
@[simp] theorem setReg_xoff : (setReg die a v s).xoff = s.xoff := rfl
@[simp] theorem setReg_ethHeld : (setReg die a v s).ethHeld = s.ethHeld := rfl
@[simp] theorem setReg_selfDone : (setReg die a v s).selfDone = s.selfDone := rfl
@[simp] theorem setReg_arenas : (setReg die a v s).arenas = s.arenas := rfl
@[simp] theorem setReg_attends : (setReg die a v s).attends = s.attends := rfl
@[simp] theorem setReg_commits : (setReg die a v s).commits = s.commits := rfl
@[simp] theorem setReg_keyStates : (setReg die a v s).keyStates = s.keyStates := rfl
@[simp] theorem setReg_slots : (setReg die a v s).slots = s.slots := rfl
@[simp] theorem setReg_streams : (setReg die a v s).streams = s.streams := rfl
@[simp] theorem setReg_packs : (setReg die a v s).packs = s.packs := rfl
@[simp] theorem setReg_otables : (setReg die a v s).otables = s.otables := rfl
@[simp] theorem setReg_oreqs : (setReg die a v s).oreqs = s.oreqs := rfl
@[simp] theorem setReg_guests : (setReg die a v s).guests = s.guests := rfl
@[simp] theorem setReg_forwards : (setReg die a v s).forwards = s.forwards := rfl
@[simp] theorem setReg_shards : (setReg die a v s).shards = s.shards := rfl
@[simp] theorem setReg_rowOps : (setReg die a v s).rowOps = s.rowOps := rfl
@[simp] theorem setReg_indexes : (setReg die a v s).indexes = s.indexes := rfl
@[simp] theorem setReg_sops : (setReg die a v s).sops = s.sops := rfl
@[simp] theorem setReg_memberRanges : (setReg die a v s).memberRanges = s.memberRanges := rfl
@[simp] theorem setReg_batches : (setReg die a v s).batches = s.batches := rfl
@[simp] theorem setReg_batchSeq : (setReg die a v s).batchSeq = s.batchSeq := rfl
@[simp] theorem setReg_fw : (setReg die a v s).fw = s.fw := rfl
@[simp] theorem setReg_resetting : (setReg die a v s).resetting = s.resetting := rfl
@[simp] theorem setReg_inputOn : (setReg die a v s).inputOn = s.inputOn := rfl
@[simp] theorem setReg_cold : (setReg die a v s).cold = s.cold := rfl
@[simp] theorem setReg_fullTest : (setReg die a v s).fullTest = s.fullTest := rfl
@[simp] theorem setReg_thermTrip : (setReg die a v s).thermTrip = s.thermTrip := rfl
@[simp] theorem setReg_norFree : (setReg die a v s).norFree = s.norFree := rfl
@[simp] theorem setReg_burstUj : (setReg die a v s).burstUj = s.burstUj := rfl
@[simp] theorem setReg_retest : (setReg die a v s).retest = s.retest := rfl
@[simp] theorem setReg_votes : (setReg die a v s).votes = s.votes := rfl
@[simp] theorem setReg_change : (setReg die a v s).change = s.change := rfl
@[simp] theorem setReg_purge : (setReg die a v s).purge = s.purge := rfl
@[simp] theorem setReg_spdm : (setReg die a v s).spdm = s.spdm := rfl
@[simp] theorem setReg_dissolving : (setReg die a v s).dissolving = s.dissolving := rfl
@[simp] theorem setReg_store : (setReg die a v s).store = s.store := rfl
@[simp] theorem setReg_unrebuilt : (setReg die a v s).unrebuilt = s.unrebuilt := rfl
@[simp] theorem setReg_memberObjects : (setReg die a v s).memberObjects = s.memberObjects := rfl
@[simp] theorem setReg_tenantKeys : (setReg die a v s).tenantKeys = s.tenantKeys := rfl
@[simp] theorem setReg_mediaKey : (setReg die a v s).mediaKey = s.mediaKey := rfl
@[simp] theorem setReg_peeked : (setReg die a v s).peeked = s.peeked := rfl
@[simp] theorem setReg_formFrom : (setReg die a v s).formFrom = s.formFrom := rfl

end

/-! ## setTile -/

section
variable (t : Nat) (x : Tile) (s : State)

@[simp] theorem setTile_tiles : (setTile t x s).tiles = tset s.tiles t x := rfl
@[simp] theorem setTile_pending : (setTile t x s).pending = s.pending := rfl
@[simp] theorem setTile_out : (setTile t x s).out = s.out := rfl
@[simp] theorem setTile_freeCtr : (setTile t x s).freeCtr = s.freeCtr := rfl
@[simp] theorem setTile_variant : (setTile t x s).variant = s.variant := rfl
@[simp] theorem setTile_pkg : (setTile t x s).pkg = s.pkg := rfl
@[simp] theorem setTile_time : (setTile t x s).time = s.time := rfl
@[simp] theorem setTile_objs : (setTile t x s).objs = s.objs := rfl
@[simp] theorem setTile_mem : (setTile t x s).mem = s.mem := rfl
@[simp] theorem setTile_poison : (setTile t x s).poison = s.poison := rfl
@[simp] theorem setTile_accCtr : (setTile t x s).accCtr = s.accCtr := rfl
@[simp] theorem setTile_reqCtr : (setTile t x s).reqCtr = s.reqCtr := rfl
@[simp] theorem setTile_snoopCtr : (setTile t x s).snoopCtr = s.snoopCtr := rfl
@[simp] theorem setTile_links : (setTile t x s).links = s.links := rfl
@[simp] theorem setTile_pkgBucket : (setTile t x s).pkgBucket = s.pkgBucket := rfl
@[simp] theorem setTile_pkgBucketAt : (setTile t x s).pkgBucketAt = s.pkgBucketAt := rfl
@[simp] theorem setTile_compTab : (setTile t x s).compTab = s.compTab := rfl
@[simp] theorem setTile_comps : (setTile t x s).comps = s.comps := rfl
@[simp] theorem setTile_recordSeq : (setTile t x s).recordSeq = s.recordSeq := rfl
@[simp] theorem setTile_meterStart : (setTile t x s).meterStart = s.meterStart := rfl
@[simp] theorem setTile_regions : (setTile t x s).regions = s.regions := rfl
@[simp] theorem setTile_owners : (setTile t x s).owners = s.owners := rfl
@[simp] theorem setTile_openReqs : (setTile t x s).openReqs = s.openReqs := rfl
@[simp] theorem setTile_dma : (setTile t x s).dma = s.dma := rfl
@[simp] theorem setTile_extents : (setTile t x s).extents = s.extents := rfl
@[simp] theorem setTile_placed : (setTile t x s).placed = s.placed := rfl
@[simp] theorem setTile_shadows : (setTile t x s).shadows = s.shadows := rfl
@[simp] theorem setTile_placeQ : (setTile t x s).placeQ = s.placeQ := rfl
@[simp] theorem setTile_moves : (setTile t x s).moves = s.moves := rfl
@[simp] theorem setTile_stalls : (setTile t x s).stalls = s.stalls := rfl
@[simp] theorem setTile_retired : (setTile t x s).retired = s.retired := rfl
@[simp] theorem setTile_dir : (setTile t x s).dir = s.dir := rfl
@[simp] theorem setTile_snoops : (setTile t x s).snoops = s.snoops := rfl
@[simp] theorem setTile_sync : (setTile t x s).sync = s.sync := rfl
@[simp] theorem setTile_copies : (setTile t x s).copies = s.copies := rfl
@[simp] theorem setTile_deadlock : (setTile t x s).deadlock = s.deadlock := rfl
@[simp] theorem setTile_dict : (setTile t x s).dict = s.dict := rfl
@[simp] theorem setTile_blocks : (setTile t x s).blocks = s.blocks := rfl
@[simp] theorem setTile_regs : (setTile t x s).regs = s.regs := rfl
@[simp] theorem setTile_mbx : (setTile t x s).mbx = s.mbx := rfl
@[simp] theorem setTile_geyser : (setTile t x s).geyser = s.geyser := rfl
@[simp] theorem setTile_doms : (setTile t x s).doms = s.doms := rfl
@[simp] theorem setTile_keyGens : (setTile t x s).keyGens = s.keyGens := rfl
@[simp] theorem setTile_replaced : (setTile t x s).replaced = s.replaced := rfl
@[simp] theorem setTile_misroutes : (setTile t x s).misroutes = s.misroutes := rfl
@[simp] theorem setTile_recalls : (setTile t x s).recalls = s.recalls := rfl
@[simp] theorem setTile_notified : (setTile t x s).notified = s.notified := rfl
@[simp] theorem setTile_owed : (setTile t x s).owed = s.owed := rfl
@[simp] theorem setTile_registry : (setTile t x s).registry = s.registry := rfl
@[simp] theorem setTile_reserved : (setTile t x s).reserved = s.reserved := rfl
@[simp] theorem setTile_registering : (setTile t x s).registering = s.registering := rfl
@[simp] theorem setTile_retiring : (setTile t x s).retiring = s.retiring := rfl
@[simp] theorem setTile_loading : (setTile t x s).loading = s.loading := rfl
@[simp] theorem setTile_clusters : (setTile t x s).clusters = s.clusters := rfl
@[simp] theorem setTile_handles : (setTile t x s).handles = s.handles := rfl
@[simp] theorem setTile_calls : (setTile t x s).calls = s.calls := rfl
@[simp] theorem setTile_xlt : (setTile t x s).xlt = s.xlt := rfl
@[simp] theorem setTile_xltDesc : (setTile t x s).xltDesc = s.xltDesc := rfl
@[simp] theorem setTile_walks : (setTile t x s).walks = s.walks := rfl
@[simp] theorem setTile_faults : (setTile t x s).faults = s.faults := rfl
@[simp] theorem setTile_faultNone : (setTile t x s).faultNone = s.faultNone := rfl
@[simp] theorem setTile_faultIds : (setTile t x s).faultIds = s.faultIds := rfl
@[simp] theorem setTile_invals : (setTile t x s).invals = s.invals := rfl
@[simp] theorem setTile_log : (setTile t x s).log = s.log := rfl
@[simp] theorem setTile_lastCheck : (setTile t x s).lastCheck = s.lastCheck := rfl
@[simp] theorem setTile_sinceCheck : (setTile t x s).sinceCheck = s.sinceCheck := rfl
@[simp] theorem setTile_qps : (setTile t x s).qps = s.qps := rfl
@[simp] theorem setTile_paused : (setTile t x s).paused = s.paused := rfl
@[simp] theorem setTile_xoff : (setTile t x s).xoff = s.xoff := rfl
@[simp] theorem setTile_ethHeld : (setTile t x s).ethHeld = s.ethHeld := rfl
@[simp] theorem setTile_selfDone : (setTile t x s).selfDone = s.selfDone := rfl
@[simp] theorem setTile_arenas : (setTile t x s).arenas = s.arenas := rfl
@[simp] theorem setTile_attends : (setTile t x s).attends = s.attends := rfl
@[simp] theorem setTile_commits : (setTile t x s).commits = s.commits := rfl
@[simp] theorem setTile_keyStates : (setTile t x s).keyStates = s.keyStates := rfl
@[simp] theorem setTile_slots : (setTile t x s).slots = s.slots := rfl
@[simp] theorem setTile_streams : (setTile t x s).streams = s.streams := rfl
@[simp] theorem setTile_packs : (setTile t x s).packs = s.packs := rfl
@[simp] theorem setTile_otables : (setTile t x s).otables = s.otables := rfl
@[simp] theorem setTile_oreqs : (setTile t x s).oreqs = s.oreqs := rfl
@[simp] theorem setTile_guests : (setTile t x s).guests = s.guests := rfl
@[simp] theorem setTile_forwards : (setTile t x s).forwards = s.forwards := rfl
@[simp] theorem setTile_shards : (setTile t x s).shards = s.shards := rfl
@[simp] theorem setTile_rowOps : (setTile t x s).rowOps = s.rowOps := rfl
@[simp] theorem setTile_indexes : (setTile t x s).indexes = s.indexes := rfl
@[simp] theorem setTile_sops : (setTile t x s).sops = s.sops := rfl
@[simp] theorem setTile_memberRanges : (setTile t x s).memberRanges = s.memberRanges := rfl
@[simp] theorem setTile_batches : (setTile t x s).batches = s.batches := rfl
@[simp] theorem setTile_batchSeq : (setTile t x s).batchSeq = s.batchSeq := rfl
@[simp] theorem setTile_fw : (setTile t x s).fw = s.fw := rfl
@[simp] theorem setTile_resetting : (setTile t x s).resetting = s.resetting := rfl
@[simp] theorem setTile_inputOn : (setTile t x s).inputOn = s.inputOn := rfl
@[simp] theorem setTile_cold : (setTile t x s).cold = s.cold := rfl
@[simp] theorem setTile_fullTest : (setTile t x s).fullTest = s.fullTest := rfl
@[simp] theorem setTile_thermTrip : (setTile t x s).thermTrip = s.thermTrip := rfl
@[simp] theorem setTile_norFree : (setTile t x s).norFree = s.norFree := rfl
@[simp] theorem setTile_burstUj : (setTile t x s).burstUj = s.burstUj := rfl
@[simp] theorem setTile_retest : (setTile t x s).retest = s.retest := rfl
@[simp] theorem setTile_votes : (setTile t x s).votes = s.votes := rfl
@[simp] theorem setTile_change : (setTile t x s).change = s.change := rfl
@[simp] theorem setTile_purge : (setTile t x s).purge = s.purge := rfl
@[simp] theorem setTile_spdm : (setTile t x s).spdm = s.spdm := rfl
@[simp] theorem setTile_dissolving : (setTile t x s).dissolving = s.dissolving := rfl
@[simp] theorem setTile_store : (setTile t x s).store = s.store := rfl
@[simp] theorem setTile_unrebuilt : (setTile t x s).unrebuilt = s.unrebuilt := rfl
@[simp] theorem setTile_memberObjects : (setTile t x s).memberObjects = s.memberObjects := rfl
@[simp] theorem setTile_tenantKeys : (setTile t x s).tenantKeys = s.tenantKeys := rfl
@[simp] theorem setTile_mediaKey : (setTile t x s).mediaKey = s.mediaKey := rfl
@[simp] theorem setTile_peeked : (setTile t x s).peeked = s.peeked := rfl
@[simp] theorem setTile_formFrom : (setTile t x s).formFrom = s.formFrom := rfl

end

/-! ## meter -/

section
variable (c : Nat) (f : Comp → Comp) (s : State)

@[simp] theorem meter_comps : (meter c f s).comps = tmod s.comps c f := rfl
@[simp] theorem meter_pending : (meter c f s).pending = s.pending := rfl
@[simp] theorem meter_out : (meter c f s).out = s.out := rfl
@[simp] theorem meter_freeCtr : (meter c f s).freeCtr = s.freeCtr := rfl
@[simp] theorem meter_variant : (meter c f s).variant = s.variant := rfl
@[simp] theorem meter_pkg : (meter c f s).pkg = s.pkg := rfl
@[simp] theorem meter_time : (meter c f s).time = s.time := rfl
@[simp] theorem meter_objs : (meter c f s).objs = s.objs := rfl
@[simp] theorem meter_mem : (meter c f s).mem = s.mem := rfl
@[simp] theorem meter_poison : (meter c f s).poison = s.poison := rfl
@[simp] theorem meter_accCtr : (meter c f s).accCtr = s.accCtr := rfl
@[simp] theorem meter_reqCtr : (meter c f s).reqCtr = s.reqCtr := rfl
@[simp] theorem meter_snoopCtr : (meter c f s).snoopCtr = s.snoopCtr := rfl
@[simp] theorem meter_links : (meter c f s).links = s.links := rfl
@[simp] theorem meter_pkgBucket : (meter c f s).pkgBucket = s.pkgBucket := rfl
@[simp] theorem meter_pkgBucketAt : (meter c f s).pkgBucketAt = s.pkgBucketAt := rfl
@[simp] theorem meter_compTab : (meter c f s).compTab = s.compTab := rfl
@[simp] theorem meter_recordSeq : (meter c f s).recordSeq = s.recordSeq := rfl
@[simp] theorem meter_meterStart : (meter c f s).meterStart = s.meterStart := rfl
@[simp] theorem meter_regions : (meter c f s).regions = s.regions := rfl
@[simp] theorem meter_owners : (meter c f s).owners = s.owners := rfl
@[simp] theorem meter_openReqs : (meter c f s).openReqs = s.openReqs := rfl
@[simp] theorem meter_dma : (meter c f s).dma = s.dma := rfl
@[simp] theorem meter_extents : (meter c f s).extents = s.extents := rfl
@[simp] theorem meter_placed : (meter c f s).placed = s.placed := rfl
@[simp] theorem meter_shadows : (meter c f s).shadows = s.shadows := rfl
@[simp] theorem meter_placeQ : (meter c f s).placeQ = s.placeQ := rfl
@[simp] theorem meter_moves : (meter c f s).moves = s.moves := rfl
@[simp] theorem meter_stalls : (meter c f s).stalls = s.stalls := rfl
@[simp] theorem meter_retired : (meter c f s).retired = s.retired := rfl
@[simp] theorem meter_dir : (meter c f s).dir = s.dir := rfl
@[simp] theorem meter_snoops : (meter c f s).snoops = s.snoops := rfl
@[simp] theorem meter_sync : (meter c f s).sync = s.sync := rfl
@[simp] theorem meter_copies : (meter c f s).copies = s.copies := rfl
@[simp] theorem meter_deadlock : (meter c f s).deadlock = s.deadlock := rfl
@[simp] theorem meter_dict : (meter c f s).dict = s.dict := rfl
@[simp] theorem meter_blocks : (meter c f s).blocks = s.blocks := rfl
@[simp] theorem meter_regs : (meter c f s).regs = s.regs := rfl
@[simp] theorem meter_mbx : (meter c f s).mbx = s.mbx := rfl
@[simp] theorem meter_geyser : (meter c f s).geyser = s.geyser := rfl
@[simp] theorem meter_doms : (meter c f s).doms = s.doms := rfl
@[simp] theorem meter_keyGens : (meter c f s).keyGens = s.keyGens := rfl
@[simp] theorem meter_replaced : (meter c f s).replaced = s.replaced := rfl
@[simp] theorem meter_misroutes : (meter c f s).misroutes = s.misroutes := rfl
@[simp] theorem meter_recalls : (meter c f s).recalls = s.recalls := rfl
@[simp] theorem meter_tiles : (meter c f s).tiles = s.tiles := rfl
@[simp] theorem meter_notified : (meter c f s).notified = s.notified := rfl
@[simp] theorem meter_owed : (meter c f s).owed = s.owed := rfl
@[simp] theorem meter_registry : (meter c f s).registry = s.registry := rfl
@[simp] theorem meter_reserved : (meter c f s).reserved = s.reserved := rfl
@[simp] theorem meter_registering : (meter c f s).registering = s.registering := rfl
@[simp] theorem meter_retiring : (meter c f s).retiring = s.retiring := rfl
@[simp] theorem meter_loading : (meter c f s).loading = s.loading := rfl
@[simp] theorem meter_clusters : (meter c f s).clusters = s.clusters := rfl
@[simp] theorem meter_handles : (meter c f s).handles = s.handles := rfl
@[simp] theorem meter_calls : (meter c f s).calls = s.calls := rfl
@[simp] theorem meter_xlt : (meter c f s).xlt = s.xlt := rfl
@[simp] theorem meter_xltDesc : (meter c f s).xltDesc = s.xltDesc := rfl
@[simp] theorem meter_walks : (meter c f s).walks = s.walks := rfl
@[simp] theorem meter_faults : (meter c f s).faults = s.faults := rfl
@[simp] theorem meter_faultNone : (meter c f s).faultNone = s.faultNone := rfl
@[simp] theorem meter_faultIds : (meter c f s).faultIds = s.faultIds := rfl
@[simp] theorem meter_invals : (meter c f s).invals = s.invals := rfl
@[simp] theorem meter_log : (meter c f s).log = s.log := rfl
@[simp] theorem meter_lastCheck : (meter c f s).lastCheck = s.lastCheck := rfl
@[simp] theorem meter_sinceCheck : (meter c f s).sinceCheck = s.sinceCheck := rfl
@[simp] theorem meter_qps : (meter c f s).qps = s.qps := rfl
@[simp] theorem meter_paused : (meter c f s).paused = s.paused := rfl
@[simp] theorem meter_xoff : (meter c f s).xoff = s.xoff := rfl
@[simp] theorem meter_ethHeld : (meter c f s).ethHeld = s.ethHeld := rfl
@[simp] theorem meter_selfDone : (meter c f s).selfDone = s.selfDone := rfl
@[simp] theorem meter_arenas : (meter c f s).arenas = s.arenas := rfl
@[simp] theorem meter_attends : (meter c f s).attends = s.attends := rfl
@[simp] theorem meter_commits : (meter c f s).commits = s.commits := rfl
@[simp] theorem meter_keyStates : (meter c f s).keyStates = s.keyStates := rfl
@[simp] theorem meter_slots : (meter c f s).slots = s.slots := rfl
@[simp] theorem meter_streams : (meter c f s).streams = s.streams := rfl
@[simp] theorem meter_packs : (meter c f s).packs = s.packs := rfl
@[simp] theorem meter_otables : (meter c f s).otables = s.otables := rfl
@[simp] theorem meter_oreqs : (meter c f s).oreqs = s.oreqs := rfl
@[simp] theorem meter_guests : (meter c f s).guests = s.guests := rfl
@[simp] theorem meter_forwards : (meter c f s).forwards = s.forwards := rfl
@[simp] theorem meter_shards : (meter c f s).shards = s.shards := rfl
@[simp] theorem meter_rowOps : (meter c f s).rowOps = s.rowOps := rfl
@[simp] theorem meter_indexes : (meter c f s).indexes = s.indexes := rfl
@[simp] theorem meter_sops : (meter c f s).sops = s.sops := rfl
@[simp] theorem meter_memberRanges : (meter c f s).memberRanges = s.memberRanges := rfl
@[simp] theorem meter_batches : (meter c f s).batches = s.batches := rfl
@[simp] theorem meter_batchSeq : (meter c f s).batchSeq = s.batchSeq := rfl
@[simp] theorem meter_fw : (meter c f s).fw = s.fw := rfl
@[simp] theorem meter_resetting : (meter c f s).resetting = s.resetting := rfl
@[simp] theorem meter_inputOn : (meter c f s).inputOn = s.inputOn := rfl
@[simp] theorem meter_cold : (meter c f s).cold = s.cold := rfl
@[simp] theorem meter_fullTest : (meter c f s).fullTest = s.fullTest := rfl
@[simp] theorem meter_thermTrip : (meter c f s).thermTrip = s.thermTrip := rfl
@[simp] theorem meter_norFree : (meter c f s).norFree = s.norFree := rfl
@[simp] theorem meter_burstUj : (meter c f s).burstUj = s.burstUj := rfl
@[simp] theorem meter_retest : (meter c f s).retest = s.retest := rfl
@[simp] theorem meter_votes : (meter c f s).votes = s.votes := rfl
@[simp] theorem meter_change : (meter c f s).change = s.change := rfl
@[simp] theorem meter_purge : (meter c f s).purge = s.purge := rfl
@[simp] theorem meter_spdm : (meter c f s).spdm = s.spdm := rfl
@[simp] theorem meter_dissolving : (meter c f s).dissolving = s.dissolving := rfl
@[simp] theorem meter_store : (meter c f s).store = s.store := rfl
@[simp] theorem meter_unrebuilt : (meter c f s).unrebuilt = s.unrebuilt := rfl
@[simp] theorem meter_memberObjects : (meter c f s).memberObjects = s.memberObjects := rfl
@[simp] theorem meter_tenantKeys : (meter c f s).tenantKeys = s.tenantKeys := rfl
@[simp] theorem meter_mediaKey : (meter c f s).mediaKey = s.mediaKey := rfl
@[simp] theorem meter_peeked : (meter c f s).peeked = s.peeked := rfl
@[simp] theorem meter_formFrom : (meter c f s).formFrom = s.formFrom := rfl

end

/-! ## closeReq -/

section
variable (id : Nat) (s : State)

@[simp] theorem closeReq_openReqs : (closeReq id s).openReqs = terase s.openReqs id := rfl
@[simp] theorem closeReq_pending : (closeReq id s).pending = s.pending := rfl
@[simp] theorem closeReq_out : (closeReq id s).out = s.out := rfl
@[simp] theorem closeReq_freeCtr : (closeReq id s).freeCtr = s.freeCtr := rfl
@[simp] theorem closeReq_variant : (closeReq id s).variant = s.variant := rfl
@[simp] theorem closeReq_pkg : (closeReq id s).pkg = s.pkg := rfl
@[simp] theorem closeReq_time : (closeReq id s).time = s.time := rfl
@[simp] theorem closeReq_objs : (closeReq id s).objs = s.objs := rfl
@[simp] theorem closeReq_mem : (closeReq id s).mem = s.mem := rfl
@[simp] theorem closeReq_poison : (closeReq id s).poison = s.poison := rfl
@[simp] theorem closeReq_accCtr : (closeReq id s).accCtr = s.accCtr := rfl
@[simp] theorem closeReq_reqCtr : (closeReq id s).reqCtr = s.reqCtr := rfl
@[simp] theorem closeReq_snoopCtr : (closeReq id s).snoopCtr = s.snoopCtr := rfl
@[simp] theorem closeReq_links : (closeReq id s).links = s.links := rfl
@[simp] theorem closeReq_pkgBucket : (closeReq id s).pkgBucket = s.pkgBucket := rfl
@[simp] theorem closeReq_pkgBucketAt : (closeReq id s).pkgBucketAt = s.pkgBucketAt := rfl
@[simp] theorem closeReq_compTab : (closeReq id s).compTab = s.compTab := rfl
@[simp] theorem closeReq_comps : (closeReq id s).comps = s.comps := rfl
@[simp] theorem closeReq_recordSeq : (closeReq id s).recordSeq = s.recordSeq := rfl
@[simp] theorem closeReq_meterStart : (closeReq id s).meterStart = s.meterStart := rfl
@[simp] theorem closeReq_regions : (closeReq id s).regions = s.regions := rfl
@[simp] theorem closeReq_owners : (closeReq id s).owners = s.owners := rfl
@[simp] theorem closeReq_dma : (closeReq id s).dma = s.dma := rfl
@[simp] theorem closeReq_extents : (closeReq id s).extents = s.extents := rfl
@[simp] theorem closeReq_placed : (closeReq id s).placed = s.placed := rfl
@[simp] theorem closeReq_shadows : (closeReq id s).shadows = s.shadows := rfl
@[simp] theorem closeReq_placeQ : (closeReq id s).placeQ = s.placeQ := rfl
@[simp] theorem closeReq_moves : (closeReq id s).moves = s.moves := rfl
@[simp] theorem closeReq_stalls : (closeReq id s).stalls = s.stalls := rfl
@[simp] theorem closeReq_retired : (closeReq id s).retired = s.retired := rfl
@[simp] theorem closeReq_dir : (closeReq id s).dir = s.dir := rfl
@[simp] theorem closeReq_snoops : (closeReq id s).snoops = s.snoops := rfl
@[simp] theorem closeReq_sync : (closeReq id s).sync = s.sync := rfl
@[simp] theorem closeReq_copies : (closeReq id s).copies = s.copies := rfl
@[simp] theorem closeReq_deadlock : (closeReq id s).deadlock = s.deadlock := rfl
@[simp] theorem closeReq_dict : (closeReq id s).dict = s.dict := rfl
@[simp] theorem closeReq_blocks : (closeReq id s).blocks = s.blocks := rfl
@[simp] theorem closeReq_regs : (closeReq id s).regs = s.regs := rfl
@[simp] theorem closeReq_mbx : (closeReq id s).mbx = s.mbx := rfl
@[simp] theorem closeReq_geyser : (closeReq id s).geyser = s.geyser := rfl
@[simp] theorem closeReq_doms : (closeReq id s).doms = s.doms := rfl
@[simp] theorem closeReq_keyGens : (closeReq id s).keyGens = s.keyGens := rfl
@[simp] theorem closeReq_replaced : (closeReq id s).replaced = s.replaced := rfl
@[simp] theorem closeReq_misroutes : (closeReq id s).misroutes = s.misroutes := rfl
@[simp] theorem closeReq_recalls : (closeReq id s).recalls = s.recalls := rfl
@[simp] theorem closeReq_tiles : (closeReq id s).tiles = s.tiles := rfl
@[simp] theorem closeReq_notified : (closeReq id s).notified = s.notified := rfl
@[simp] theorem closeReq_owed : (closeReq id s).owed = s.owed := rfl
@[simp] theorem closeReq_registry : (closeReq id s).registry = s.registry := rfl
@[simp] theorem closeReq_reserved : (closeReq id s).reserved = s.reserved := rfl
@[simp] theorem closeReq_registering : (closeReq id s).registering = s.registering := rfl
@[simp] theorem closeReq_retiring : (closeReq id s).retiring = s.retiring := rfl
@[simp] theorem closeReq_loading : (closeReq id s).loading = s.loading := rfl
@[simp] theorem closeReq_clusters : (closeReq id s).clusters = s.clusters := rfl
@[simp] theorem closeReq_handles : (closeReq id s).handles = s.handles := rfl
@[simp] theorem closeReq_calls : (closeReq id s).calls = s.calls := rfl
@[simp] theorem closeReq_xlt : (closeReq id s).xlt = s.xlt := rfl
@[simp] theorem closeReq_xltDesc : (closeReq id s).xltDesc = s.xltDesc := rfl
@[simp] theorem closeReq_walks : (closeReq id s).walks = s.walks := rfl
@[simp] theorem closeReq_faults : (closeReq id s).faults = s.faults := rfl
@[simp] theorem closeReq_faultNone : (closeReq id s).faultNone = s.faultNone := rfl
@[simp] theorem closeReq_faultIds : (closeReq id s).faultIds = s.faultIds := rfl
@[simp] theorem closeReq_invals : (closeReq id s).invals = s.invals := rfl
@[simp] theorem closeReq_log : (closeReq id s).log = s.log := rfl
@[simp] theorem closeReq_lastCheck : (closeReq id s).lastCheck = s.lastCheck := rfl
@[simp] theorem closeReq_sinceCheck : (closeReq id s).sinceCheck = s.sinceCheck := rfl
@[simp] theorem closeReq_qps : (closeReq id s).qps = s.qps := rfl
@[simp] theorem closeReq_paused : (closeReq id s).paused = s.paused := rfl
@[simp] theorem closeReq_xoff : (closeReq id s).xoff = s.xoff := rfl
@[simp] theorem closeReq_ethHeld : (closeReq id s).ethHeld = s.ethHeld := rfl
@[simp] theorem closeReq_selfDone : (closeReq id s).selfDone = s.selfDone := rfl
@[simp] theorem closeReq_arenas : (closeReq id s).arenas = s.arenas := rfl
@[simp] theorem closeReq_attends : (closeReq id s).attends = s.attends := rfl
@[simp] theorem closeReq_commits : (closeReq id s).commits = s.commits := rfl
@[simp] theorem closeReq_keyStates : (closeReq id s).keyStates = s.keyStates := rfl
@[simp] theorem closeReq_slots : (closeReq id s).slots = s.slots := rfl
@[simp] theorem closeReq_streams : (closeReq id s).streams = s.streams := rfl
@[simp] theorem closeReq_packs : (closeReq id s).packs = s.packs := rfl
@[simp] theorem closeReq_otables : (closeReq id s).otables = s.otables := rfl
@[simp] theorem closeReq_oreqs : (closeReq id s).oreqs = s.oreqs := rfl
@[simp] theorem closeReq_guests : (closeReq id s).guests = s.guests := rfl
@[simp] theorem closeReq_forwards : (closeReq id s).forwards = s.forwards := rfl
@[simp] theorem closeReq_shards : (closeReq id s).shards = s.shards := rfl
@[simp] theorem closeReq_rowOps : (closeReq id s).rowOps = s.rowOps := rfl
@[simp] theorem closeReq_indexes : (closeReq id s).indexes = s.indexes := rfl
@[simp] theorem closeReq_sops : (closeReq id s).sops = s.sops := rfl
@[simp] theorem closeReq_memberRanges : (closeReq id s).memberRanges = s.memberRanges := rfl
@[simp] theorem closeReq_batches : (closeReq id s).batches = s.batches := rfl
@[simp] theorem closeReq_batchSeq : (closeReq id s).batchSeq = s.batchSeq := rfl
@[simp] theorem closeReq_fw : (closeReq id s).fw = s.fw := rfl
@[simp] theorem closeReq_resetting : (closeReq id s).resetting = s.resetting := rfl
@[simp] theorem closeReq_inputOn : (closeReq id s).inputOn = s.inputOn := rfl
@[simp] theorem closeReq_cold : (closeReq id s).cold = s.cold := rfl
@[simp] theorem closeReq_fullTest : (closeReq id s).fullTest = s.fullTest := rfl
@[simp] theorem closeReq_thermTrip : (closeReq id s).thermTrip = s.thermTrip := rfl
@[simp] theorem closeReq_norFree : (closeReq id s).norFree = s.norFree := rfl
@[simp] theorem closeReq_burstUj : (closeReq id s).burstUj = s.burstUj := rfl
@[simp] theorem closeReq_retest : (closeReq id s).retest = s.retest := rfl
@[simp] theorem closeReq_votes : (closeReq id s).votes = s.votes := rfl
@[simp] theorem closeReq_change : (closeReq id s).change = s.change := rfl
@[simp] theorem closeReq_purge : (closeReq id s).purge = s.purge := rfl
@[simp] theorem closeReq_spdm : (closeReq id s).spdm = s.spdm := rfl
@[simp] theorem closeReq_dissolving : (closeReq id s).dissolving = s.dissolving := rfl
@[simp] theorem closeReq_store : (closeReq id s).store = s.store := rfl
@[simp] theorem closeReq_unrebuilt : (closeReq id s).unrebuilt = s.unrebuilt := rfl
@[simp] theorem closeReq_memberObjects : (closeReq id s).memberObjects = s.memberObjects := rfl
@[simp] theorem closeReq_tenantKeys : (closeReq id s).tenantKeys = s.tenantKeys := rfl
@[simp] theorem closeReq_mediaKey : (closeReq id s).mediaKey = s.mediaKey := rfl
@[simp] theorem closeReq_peeked : (closeReq id s).peeked = s.peeked := rfl
@[simp] theorem closeReq_formFrom : (closeReq id s).formFrom = s.formFrom := rfl

end

/-! ## A counter that advances is an object that is set -/

@[simp] theorem bump_pending (index sub n : Nat) (s : State) : (bump index sub n s).pending = s.pending := rfl
@[simp] theorem bump_out (index sub n : Nat) (s : State) : (bump index sub n s).out = s.out := rfl
@[simp] theorem bump_freeCtr (index sub n : Nat) (s : State) : (bump index sub n s).freeCtr = s.freeCtr := rfl
@[simp] theorem bump_variant (index sub n : Nat) (s : State) : (bump index sub n s).variant = s.variant := rfl
@[simp] theorem bump_pkg (index sub n : Nat) (s : State) : (bump index sub n s).pkg = s.pkg := rfl
@[simp] theorem bump_time (index sub n : Nat) (s : State) : (bump index sub n s).time = s.time := rfl
@[simp] theorem bump_mem (index sub n : Nat) (s : State) : (bump index sub n s).mem = s.mem := rfl
@[simp] theorem bump_poison (index sub n : Nat) (s : State) : (bump index sub n s).poison = s.poison := rfl
@[simp] theorem bump_accCtr (index sub n : Nat) (s : State) : (bump index sub n s).accCtr = s.accCtr := rfl
@[simp] theorem bump_reqCtr (index sub n : Nat) (s : State) : (bump index sub n s).reqCtr = s.reqCtr := rfl
@[simp] theorem bump_snoopCtr (index sub n : Nat) (s : State) : (bump index sub n s).snoopCtr = s.snoopCtr := rfl
@[simp] theorem bump_links (index sub n : Nat) (s : State) : (bump index sub n s).links = s.links := rfl
@[simp] theorem bump_pkgBucket (index sub n : Nat) (s : State) : (bump index sub n s).pkgBucket = s.pkgBucket := rfl
@[simp] theorem bump_pkgBucketAt (index sub n : Nat) (s : State) : (bump index sub n s).pkgBucketAt = s.pkgBucketAt := rfl
@[simp] theorem bump_compTab (index sub n : Nat) (s : State) : (bump index sub n s).compTab = s.compTab := rfl
@[simp] theorem bump_comps (index sub n : Nat) (s : State) : (bump index sub n s).comps = s.comps := rfl
@[simp] theorem bump_recordSeq (index sub n : Nat) (s : State) : (bump index sub n s).recordSeq = s.recordSeq := rfl
@[simp] theorem bump_meterStart (index sub n : Nat) (s : State) : (bump index sub n s).meterStart = s.meterStart := rfl
@[simp] theorem bump_regions (index sub n : Nat) (s : State) : (bump index sub n s).regions = s.regions := rfl
@[simp] theorem bump_owners (index sub n : Nat) (s : State) : (bump index sub n s).owners = s.owners := rfl
@[simp] theorem bump_openReqs (index sub n : Nat) (s : State) : (bump index sub n s).openReqs = s.openReqs := rfl
@[simp] theorem bump_dma (index sub n : Nat) (s : State) : (bump index sub n s).dma = s.dma := rfl
@[simp] theorem bump_extents (index sub n : Nat) (s : State) : (bump index sub n s).extents = s.extents := rfl
@[simp] theorem bump_placed (index sub n : Nat) (s : State) : (bump index sub n s).placed = s.placed := rfl
@[simp] theorem bump_shadows (index sub n : Nat) (s : State) : (bump index sub n s).shadows = s.shadows := rfl
@[simp] theorem bump_placeQ (index sub n : Nat) (s : State) : (bump index sub n s).placeQ = s.placeQ := rfl
@[simp] theorem bump_moves (index sub n : Nat) (s : State) : (bump index sub n s).moves = s.moves := rfl
@[simp] theorem bump_stalls (index sub n : Nat) (s : State) : (bump index sub n s).stalls = s.stalls := rfl
@[simp] theorem bump_retired (index sub n : Nat) (s : State) : (bump index sub n s).retired = s.retired := rfl
@[simp] theorem bump_dir (index sub n : Nat) (s : State) : (bump index sub n s).dir = s.dir := rfl
@[simp] theorem bump_snoops (index sub n : Nat) (s : State) : (bump index sub n s).snoops = s.snoops := rfl
@[simp] theorem bump_sync (index sub n : Nat) (s : State) : (bump index sub n s).sync = s.sync := rfl
@[simp] theorem bump_copies (index sub n : Nat) (s : State) : (bump index sub n s).copies = s.copies := rfl
@[simp] theorem bump_deadlock (index sub n : Nat) (s : State) : (bump index sub n s).deadlock = s.deadlock := rfl
@[simp] theorem bump_dict (index sub n : Nat) (s : State) : (bump index sub n s).dict = s.dict := rfl
@[simp] theorem bump_blocks (index sub n : Nat) (s : State) : (bump index sub n s).blocks = s.blocks := rfl
@[simp] theorem bump_regs (index sub n : Nat) (s : State) : (bump index sub n s).regs = s.regs := rfl
@[simp] theorem bump_mbx (index sub n : Nat) (s : State) : (bump index sub n s).mbx = s.mbx := rfl
@[simp] theorem bump_geyser (index sub n : Nat) (s : State) : (bump index sub n s).geyser = s.geyser := rfl
@[simp] theorem bump_doms (index sub n : Nat) (s : State) : (bump index sub n s).doms = s.doms := rfl
@[simp] theorem bump_keyGens (index sub n : Nat) (s : State) : (bump index sub n s).keyGens = s.keyGens := rfl
@[simp] theorem bump_replaced (index sub n : Nat) (s : State) : (bump index sub n s).replaced = s.replaced := rfl
@[simp] theorem bump_misroutes (index sub n : Nat) (s : State) : (bump index sub n s).misroutes = s.misroutes := rfl
@[simp] theorem bump_recalls (index sub n : Nat) (s : State) : (bump index sub n s).recalls = s.recalls := rfl
@[simp] theorem bump_tiles (index sub n : Nat) (s : State) : (bump index sub n s).tiles = s.tiles := rfl
@[simp] theorem bump_notified (index sub n : Nat) (s : State) : (bump index sub n s).notified = s.notified := rfl
@[simp] theorem bump_owed (index sub n : Nat) (s : State) : (bump index sub n s).owed = s.owed := rfl
@[simp] theorem bump_registry (index sub n : Nat) (s : State) : (bump index sub n s).registry = s.registry := rfl
@[simp] theorem bump_reserved (index sub n : Nat) (s : State) : (bump index sub n s).reserved = s.reserved := rfl
@[simp] theorem bump_registering (index sub n : Nat) (s : State) : (bump index sub n s).registering = s.registering := rfl
@[simp] theorem bump_retiring (index sub n : Nat) (s : State) : (bump index sub n s).retiring = s.retiring := rfl
@[simp] theorem bump_loading (index sub n : Nat) (s : State) : (bump index sub n s).loading = s.loading := rfl
@[simp] theorem bump_clusters (index sub n : Nat) (s : State) : (bump index sub n s).clusters = s.clusters := rfl
@[simp] theorem bump_handles (index sub n : Nat) (s : State) : (bump index sub n s).handles = s.handles := rfl
@[simp] theorem bump_calls (index sub n : Nat) (s : State) : (bump index sub n s).calls = s.calls := rfl
@[simp] theorem bump_xlt (index sub n : Nat) (s : State) : (bump index sub n s).xlt = s.xlt := rfl
@[simp] theorem bump_xltDesc (index sub n : Nat) (s : State) : (bump index sub n s).xltDesc = s.xltDesc := rfl
@[simp] theorem bump_walks (index sub n : Nat) (s : State) : (bump index sub n s).walks = s.walks := rfl
@[simp] theorem bump_faults (index sub n : Nat) (s : State) : (bump index sub n s).faults = s.faults := rfl
@[simp] theorem bump_faultNone (index sub n : Nat) (s : State) : (bump index sub n s).faultNone = s.faultNone := rfl
@[simp] theorem bump_faultIds (index sub n : Nat) (s : State) : (bump index sub n s).faultIds = s.faultIds := rfl
@[simp] theorem bump_invals (index sub n : Nat) (s : State) : (bump index sub n s).invals = s.invals := rfl
@[simp] theorem bump_log (index sub n : Nat) (s : State) : (bump index sub n s).log = s.log := rfl
@[simp] theorem bump_lastCheck (index sub n : Nat) (s : State) : (bump index sub n s).lastCheck = s.lastCheck := rfl
@[simp] theorem bump_sinceCheck (index sub n : Nat) (s : State) : (bump index sub n s).sinceCheck = s.sinceCheck := rfl
@[simp] theorem bump_qps (index sub n : Nat) (s : State) : (bump index sub n s).qps = s.qps := rfl
@[simp] theorem bump_paused (index sub n : Nat) (s : State) : (bump index sub n s).paused = s.paused := rfl
@[simp] theorem bump_xoff (index sub n : Nat) (s : State) : (bump index sub n s).xoff = s.xoff := rfl
@[simp] theorem bump_ethHeld (index sub n : Nat) (s : State) : (bump index sub n s).ethHeld = s.ethHeld := rfl
@[simp] theorem bump_selfDone (index sub n : Nat) (s : State) : (bump index sub n s).selfDone = s.selfDone := rfl
@[simp] theorem bump_arenas (index sub n : Nat) (s : State) : (bump index sub n s).arenas = s.arenas := rfl
@[simp] theorem bump_attends (index sub n : Nat) (s : State) : (bump index sub n s).attends = s.attends := rfl
@[simp] theorem bump_commits (index sub n : Nat) (s : State) : (bump index sub n s).commits = s.commits := rfl
@[simp] theorem bump_keyStates (index sub n : Nat) (s : State) : (bump index sub n s).keyStates = s.keyStates := rfl
@[simp] theorem bump_slots (index sub n : Nat) (s : State) : (bump index sub n s).slots = s.slots := rfl
@[simp] theorem bump_streams (index sub n : Nat) (s : State) : (bump index sub n s).streams = s.streams := rfl
@[simp] theorem bump_packs (index sub n : Nat) (s : State) : (bump index sub n s).packs = s.packs := rfl
@[simp] theorem bump_otables (index sub n : Nat) (s : State) : (bump index sub n s).otables = s.otables := rfl
@[simp] theorem bump_oreqs (index sub n : Nat) (s : State) : (bump index sub n s).oreqs = s.oreqs := rfl
@[simp] theorem bump_guests (index sub n : Nat) (s : State) : (bump index sub n s).guests = s.guests := rfl
@[simp] theorem bump_forwards (index sub n : Nat) (s : State) : (bump index sub n s).forwards = s.forwards := rfl
@[simp] theorem bump_shards (index sub n : Nat) (s : State) : (bump index sub n s).shards = s.shards := rfl
@[simp] theorem bump_rowOps (index sub n : Nat) (s : State) : (bump index sub n s).rowOps = s.rowOps := rfl
@[simp] theorem bump_indexes (index sub n : Nat) (s : State) : (bump index sub n s).indexes = s.indexes := rfl
@[simp] theorem bump_sops (index sub n : Nat) (s : State) : (bump index sub n s).sops = s.sops := rfl
@[simp] theorem bump_memberRanges (index sub n : Nat) (s : State) : (bump index sub n s).memberRanges = s.memberRanges := rfl
@[simp] theorem bump_batches (index sub n : Nat) (s : State) : (bump index sub n s).batches = s.batches := rfl
@[simp] theorem bump_batchSeq (index sub n : Nat) (s : State) : (bump index sub n s).batchSeq = s.batchSeq := rfl
@[simp] theorem bump_fw (index sub n : Nat) (s : State) : (bump index sub n s).fw = s.fw := rfl
@[simp] theorem bump_resetting (index sub n : Nat) (s : State) : (bump index sub n s).resetting = s.resetting := rfl
@[simp] theorem bump_inputOn (index sub n : Nat) (s : State) : (bump index sub n s).inputOn = s.inputOn := rfl
@[simp] theorem bump_cold (index sub n : Nat) (s : State) : (bump index sub n s).cold = s.cold := rfl
@[simp] theorem bump_fullTest (index sub n : Nat) (s : State) : (bump index sub n s).fullTest = s.fullTest := rfl
@[simp] theorem bump_thermTrip (index sub n : Nat) (s : State) : (bump index sub n s).thermTrip = s.thermTrip := rfl
@[simp] theorem bump_norFree (index sub n : Nat) (s : State) : (bump index sub n s).norFree = s.norFree := rfl
@[simp] theorem bump_burstUj (index sub n : Nat) (s : State) : (bump index sub n s).burstUj = s.burstUj := rfl
@[simp] theorem bump_retest (index sub n : Nat) (s : State) : (bump index sub n s).retest = s.retest := rfl
@[simp] theorem bump_votes (index sub n : Nat) (s : State) : (bump index sub n s).votes = s.votes := rfl
@[simp] theorem bump_change (index sub n : Nat) (s : State) : (bump index sub n s).change = s.change := rfl
@[simp] theorem bump_purge (index sub n : Nat) (s : State) : (bump index sub n s).purge = s.purge := rfl
@[simp] theorem bump_spdm (index sub n : Nat) (s : State) : (bump index sub n s).spdm = s.spdm := rfl
@[simp] theorem bump_dissolving (index sub n : Nat) (s : State) : (bump index sub n s).dissolving = s.dissolving := rfl
@[simp] theorem bump_store (index sub n : Nat) (s : State) : (bump index sub n s).store = s.store := rfl
@[simp] theorem bump_unrebuilt (index sub n : Nat) (s : State) : (bump index sub n s).unrebuilt = s.unrebuilt := rfl
@[simp] theorem bump_memberObjects (index sub n : Nat) (s : State) : (bump index sub n s).memberObjects = s.memberObjects := rfl
@[simp] theorem bump_tenantKeys (index sub n : Nat) (s : State) : (bump index sub n s).tenantKeys = s.tenantKeys := rfl
@[simp] theorem bump_mediaKey (index sub n : Nat) (s : State) : (bump index sub n s).mediaKey = s.mediaKey := rfl
@[simp] theorem bump_peeked (index sub n : Nat) (s : State) : (bump index sub n s).peeked = s.peeked := rfl
@[simp] theorem bump_formFrom (index sub n : Nat) (s : State) : (bump index sub n s).formFrom = s.formFrom := rfl

end Sys2Proof.Machine
end

