-- ==== Sys2Proof/Laws/Tables.lean ====
section
/-! SUPPORT. The laws of the tables, of the dictionary's objects and of the memory's cells: what was written is read back, and
nothing else has changed. -/

namespace Sys2Proof.Machine

variable {α : Type}

theorem tget_tset (t : Tab α) (k : Nat) (v : α) (j : Nat) : tget (tset t k v) j = if k = j then some v else tget t j := by
  induction t with
  | nil => simp [tset, tget]
  | cons e r ih =>
    obtain ⟨k', v'⟩ := e
    unfold tset
    split
    · next h => subst h; simp only [tget]
                split <;> rfl
    · split
      · simp only [tget]
      · next h _ =>
        simp only [tget, ih]
        split
        · next h' => subst h'; rw [if_neg (fun e => h e.symm)]
        · rfl

@[simp] theorem tget_tset_self (t : Tab α) (k : Nat) (v : α) : tget (tset t k v) k = some v := by
  rw [tget_tset, if_pos rfl]

theorem tget_tset_of_ne (t : Tab α) (v : α) {k j : Nat} (h : k ≠ j) : tget (tset t k v) j = tget t j := by
  rw [tget_tset, if_neg h]

theorem tget_terase_of_ne (t : Tab α) {k j : Nat} (h : k ≠ j) : tget (terase t k) j = tget t j := by
  induction t with
  | nil => rfl
  | cons e r ih =>
    obtain ⟨k', v'⟩ := e
    unfold terase
    split
    · next h' => subst h'; simp only [tget]; rw [if_neg h]
    · simp only [tget, ih]

theorem tget_tmod_of_ne (t : Tab α) (f : α → α) {k j : Nat} (h : k ≠ j) : tget (tmod t k f) j = tget t j := by
  induction t with
  | nil => rfl
  | cons e r ih =>
    obtain ⟨k', v'⟩ := e
    unfold tmod
    split
    · next h' => subst h'; simp only [tget]; rw [if_neg h, if_neg h]
    · simp only [tget, ih]

@[simp] theorem tget_tmod_self (t : Tab α) (k : Nat) (f : α → α) : tget (tmod t k f) k = (tget t k).map f := by
  induction t with
  | nil => rfl
  | cons e r ih =>
    obtain ⟨k', v'⟩ := e
    unfold tmod
    split
    · next h => subst h; simp only [tget, if_true, Option.map_some]
    · next h => simp only [tget, if_neg h, ih]

/-! ## Objects -/

@[simp] theorem obj_setObj_self (s : State) (index sub v : Nat) : obj (setObj index sub v s) index sub = v := by
  unfold obj
  rw [setObj_objs, tget_tset_self]

theorem obj_setObj_of_ne (s : State) (v : Nat) {index sub index' sub' : Nat} (h : okey index sub ≠ okey index' sub') :
    obj (setObj index sub v s) index' sub' = obj s index' sub' := by
  unfold obj
  rw [setObj_objs, tget_tset_of_ne _ _ h]
  rfl

/-! ## The homes of single units -/

@[simp] theorem dom_setDom_self (s : State) (d : Nat) (f : Domain → Domain) : dom (setDom d f s) d = f (dom s d) := by
  simp [dom, tgetD]

@[simp] theorem link_setLink_self (s : State) (n : Nat) (f : Link → Link) : link (setLink n f s) n = f (link s n) := by
  simp [link, tgetD]

@[simp] theorem syncObj_setSync_self (s : State) (n : Nat) (o : SyncObj) : syncObj (setSync n o s) n = o := by
  simp [syncObj, tgetD]

@[simp] theorem block_setBlock_self (s : State) (n : Nat) (f : Block → Block) : block (setBlock n f s) n = f (block s n) := by
  simp [block, tgetD]

/-! ## Cells -/

theorem readCell_dropCell_of_ne (m : List Host.Cell) {a b : Nat} (h : a ≠ b) : readCell (dropCell m a) b = readCell m b := by
  induction m with
  | nil => rfl
  | cons c r ih =>
    obtain ⟨a', v⟩ := c
    unfold dropCell
    split
    · next h' => subst h'; simp only [readCell]; rw [if_neg h]
    · simp only [readCell, ih]

theorem readCell_putCell (m : List Host.Cell) (a : Nat) (v : Byte) (b : Nat) :
    readCell (putCell m a v) b = if a = b then v else readCell m b := by
  induction m with
  | nil => rfl
  | cons c r ih =>
    obtain ⟨a', v'⟩ := c
    unfold putCell
    split
    · next h => subst h; simp only [readCell]
                split <;> rfl
    · split
      · simp only [readCell]
      · next h _ =>
        simp only [readCell, ih]
        split
        · next h' => subst h'; rw [if_neg (fun e => h e.symm)]
        · rfl

/-- A write leaves every other byte. -/
theorem readCell_writeCell_of_ne (m : List Host.Cell) (v : Byte) {a b : Nat} (h : a ≠ b) :
    readCell (writeCell m a v) b = readCell m b := by
  unfold writeCell
  split
  · exact readCell_dropCell_of_ne m h
  · rw [readCell_putCell, if_neg h]

/-- Where the cells rise, a cell that is dropped is gone. -/
theorem readCell_dropCell_self {m : List Host.Cell} (hm : Memory.wf m) (a : Nat) : readCell (dropCell m a) a = unlisted := by
  induction m with
  | nil => rfl
  | cons c r ih =>
    obtain ⟨a', v⟩ := c
    obtain ⟨h1, h2⟩ := hm
    rw [List.pairwise_cons] at h1
    unfold dropCell
    split
    · next h =>
      subst h
      have : ∀ l : List Host.Cell, (∀ x ∈ l, a' < x.1) → readCell l a' = unlisted := by
        intro l hl
        induction l with
        | nil => rfl
        | cons d q iq =>
          obtain ⟨k, w⟩ := d
          have hk : a' < k := hl _ (List.mem_cons_self ..)
          simp only [readCell]
          rw [if_neg (by omega)]
          exact iq (fun x hx => hl x (List.mem_cons_of_mem _ hx))
      exact this r h1.1
    · next h =>
      simp only [readCell, if_neg h]
      exact ih ⟨h1.2, fun c hc => h2 c (List.mem_cons_of_mem _ hc)⟩

/-- A write is read back. -/
theorem readCell_writeCell_self {m : List Host.Cell} (hm : Memory.wf m) (a : Nat) (v : Byte) :
    readCell (writeCell m a v) a = v := by
  unfold writeCell
  split
  · next h => rw [readCell_dropCell_self hm, h]
  · rw [readCell_putCell, if_pos rfl]

end Sys2Proof.Machine
end

