-- ==== Sys2Proof/Machine/Board.lean ====
section
/-! DEFINITION. The package as its board sees it: which ball stands on which land, which link, port or flash channel it belongs
to, and where the serial NOR keeps what (R606, R607, R609, R614). -/

namespace Sys2Proof.Machine

/-- The balls of a flash channel (R607). -/
inductive FlashBall where
  | dq (i : Nat)
  | dqsT | dqsC | reT | reC | weN | ale | cle | wpN | rbN
  | ceN (i : Nat)
  | gnd
  deriving DecidableEq, Repr

/-- The balls of the package (R606): Adrun and Ethernet lanes with their direction and polarity, flash channels, the input, and
the single signals. -/
inductive Ball where
  | adrun (tx positive : Bool) (lane : Nat)
  | eth (tx positive : Bool) (lane : Nat)
  | flash (channel : Nat) (ball : FlashBall)
  | vin
  | refclk (positive : Bool)
  | i3cScl | i3cSda | pkgResetN | strapMaster
  | strapI3cAddr (k : Nat)
  | thermTripN | norFree | norSck | norCsN | norDqs | norResetN
  | norDq (k : Nat)
  | rsvd (k : Nat)
  | gnd
  deriving DecidableEq, Repr

/-- The block of a flash channel: row 0 to 3, column 1 to 8 (R607). -/
def flashBall (row col : Nat) : FlashBall :=
  match row, col with
  | 0, 1 => .dq 0 | 0, 2 => .dq 1 | 0, 4 => .dq 2 | 0, 5 => .dq 3 | 0, 7 => .dqsT | 0, 8 => .dqsC
  | 1, 1 => .dq 4 | 1, 2 => .dq 5 | 1, 4 => .dq 6 | 1, 5 => .dq 7 | 1, 7 => .reT | 1, 8 => .reC
  | 2, 1 => .weN | 2, 2 => .ale | 2, 3 => .cle | 2, 4 => .wpN | 2, 6 => .rbN
  | 3, 1 => .ceN 0 | 3, 2 => .ceN 1 | 3, 3 => .ceN 2 | 3, 4 => .ceN 3
  | _, _ => .gnd

/-- A ball of a flash channel on a land: a ground land of its block is one of the package's. -/
def flashLand (channel row col : Nat) : Ball :=
  match flashBall row col with
  | .gnd => .gnd
  | b => .flash channel b

/-- The lane pairs of the north and south edge: transmit in the outer two rows, receive in rows 5 and 6 from the edge. -/
def edgeLand (make : Bool → Bool → Nat → Ball) (depth lane : Nat) : Ball :=
  match depth with
  | 1 => make true true lane
  | 2 => make true false lane
  | 5 => make false true lane
  | 6 => make false false lane
  | _ => .gnd

/-- The signals of rows 9 to 12 at the west edge. -/
def signalLand (row col : Nat) : Ball :=
  match row, col with
  | 9, 1 => .refclk true | 9, 2 => .refclk false | 9, 4 => .i3cScl | 9, 5 => .i3cSda | 9, 7 => .pkgResetN | 9, 8 => .strapMaster
  | 10, 1 => .strapI3cAddr 0 | 10, 2 => .strapI3cAddr 1 | 10, 3 => .strapI3cAddr 2 | 10, 5 => .thermTripN | 10, 6 => .norFree
  | 11, 1 => .norSck | 11, 2 => .norCsN | 11, 3 => .norDqs | 11, 4 => .norResetN
  | 12, k + 1 => if k < 8 then .norDq k else .gnd
  | _, _ => .gnd

/-- The ball on a land, row and column from 1 to 96 (R605, R606). -/
def landOf (row col : Nat) : Ball :=
  if row ≤ 6 ∧ 13 ≤ col ∧ col ≤ 76 then edgeLand .adrun row (col - 13)
  else if row ≤ 6 ∧ 80 ≤ col ∧ col ≤ 87 then edgeLand .eth row (col - 80)
  else if 91 ≤ row ∧ row ≤ 96 ∧ 13 ≤ col ∧ col ≤ 76 then edgeLand .adrun (97 - row) (col - 13 + 64)
  else if 13 ≤ row ∧ row ≤ 76 ∧ 1 ≤ col ∧ col ≤ 8 then flashLand ((row - 13) / 4) ((row - 13) % 4) col
  else if 13 ≤ row ∧ row ≤ 76 ∧ 89 ≤ col ∧ col ≤ 96 then flashLand (16 + (row - 13) / 4) ((row - 13) % 4) (97 - col)
  else if 79 ≤ row ∧ row ≤ 84 ∧ 1 ≤ col ∧ col ≤ 16 then .vin
  else if 9 ≤ row ∧ row ≤ 12 ∧ col ≤ 8 then signalLand row col
  else if 93 ≤ row ∧ row ≤ 96 ∧ 89 ≤ col ∧ col ≤ 92 then .rsvd (4 * (row - 93) + (col - 89))
  else .gnd

/-- The link of an Adrun lane, its number within the link, and the quadrant that owns it (R609). -/
abbrev laneLink (lane : Nat) : Nat := lane / 8
abbrev laneOfLink (lane : Nat) : Nat := lane % 8
abbrev laneQuadrant (lane : Nat) : Nat := lane / 32

/-- The flash die that drives a channel (R18, R609). -/
abbrev channelDie (channel : Nat) : Nat := channel / 8

/-- The NOR addresses that the package uses (R614): a byte of firmware slot 0 or 1, of the meter batch area, of the custody log's
unit `u`. -/
def norSlot (slot at_ : Nat) : Nat := slot * 0x800000 + at_
def norBatch (at_ : Nat) : Nat := 0x4000000 + at_
def norUnit (u : Nat) : Nat := 0x10000000 + 128 * u

/-- The device fits the NOR that the board must have (R614): 512 MiB. -/
abbrev norBytes : Nat := 0x20000000

end Sys2Proof.Machine
end

