-- ==== Sys2Proof/Machine/Cipher.lean ====
section
/-! DEFINITION. What the memories of the package hold outside the dies: the ciphertext of lines, their codewords in the stacks,
the units of flash pages (R546, R585, R586). State holds the plaintext, which every command reads and writes; these are views of
it (log entry 64). -/

namespace Sys2Proof.Machine

/-! ## Ciphertext (R585 to R587) -/

/-- The material of a tenant key; key 0xFFF is there from manufacture on, until a purge creates it afresh (log entry 3). -/
def keyMaterial (s : State) (k : Nat) : Nat := tgetD s.tenantKeys k (Config.firstKey % 2 ^ 512)

/-- The key that the extent maps record for an extent. -/
def extentKey (s : State) (ext : Nat) : Nat :=
  match tget s.extents ext with
  | some x => x.key
  | none => 0xFFF

/-- The number of a line as a data unit. -/
def lineUnit (s : State) (line : Nat) : Nat := pkgNo s * 2 ^ 42 + line

/-- The ciphertext of a line, the same in both tiers: of what the near tier holds of it, not of what only the store cache
holds. -/
def lineCipher (s : State) (line : Nat) : Nat :=
  xts (keyMaterial s (extentKey s (line / 32768))) (lineUnit s line) 4 (nearLine s line)

/-- Unit `u` of 4 KiB of a far frame as flash holds it, none before the media key is generated. Which page and which unit of it
that is, the flash translation decides (log entry 64). -/
def flashUnit (s : State) (ext u : Nat) : Option Nat :=
  s.mediaKey.map (fun k =>
    let lines := (List.range 64).foldr (fun i v => lineCipher s (32768 * ext + 64 * u + i) + v * 2 ^ 512) 0
    xts k (Config.flashPage ext u * 16 + Config.flashUnit ext u % 16) 256 lines)

/-! ## The line code (R546) -/

/-- An element of GF(2^16) times α, and a product, with the polynomial x^16 + x^12 + x^3 + x + 1. -/
def codeDouble (a : Nat) : Nat := if 2 ^ 15 ≤ a then (2 * a) ^^^ 0x1100B else 2 * a
def codeMul (a b : Nat) : Nat :=
  (List.range 16).foldr (fun i p => codeDouble p ^^^ (if bit b i then a else 0)) 0

/-- The generator's coefficients below its leading one, highest first: its roots are α to α^4. -/
def codeGenerator : List Nat :=
  ([2, 4, 8, 16].foldl (fun g root =>
    List.zipWith (fun a b => codeMul root a ^^^ b) (1 :: g) (g ++ [0])) [])

/-- The four check symbols of the 33 that come before them; the first symbol has the highest power (DESIGN CHOICE, log entry
64). -/
def codeChecks (symbols : List Nat) : List Nat :=
  symbols.foldl (fun r x => match r with
    | [] => []
    | r3 :: rest => List.zipWith (fun g r => codeMul (x ^^^ r3) g ^^^ r) codeGenerator (rest ++ [0])) [0, 0, 0, 0]

/-- The 37 symbols of a codeword: data, the metadata symbol with the poison bit, checks. -/
def codeword (data : Nat) (bad : Bool) : List Nat :=
  let symbols := (List.range 32).map (fun i => bits data (16 * i + 15) (16 * i)) ++ [b2n bad]
  symbols ++ codeChecks symbols

/-- What a word evaluates to at a power of α: zero at the first four for a codeword. -/
def codeAt (word : List Nat) (root : Nat) : Nat := word.foldl (fun v x => codeMul v root ^^^ x) 0

/-- The codeword of a line in its stack: the code covers the ciphertext, the poison bit stays clear text (R585). -/
def lineWord (s : State) (line : Nat) : List Nat := codeword (lineCipher s line) (poisoned s line)

end Sys2Proof.Machine
end

