-- ==== Sys2Proof/Tests/Slice0.lean ====
section
/-! SUPPORT. The model's own tests: ill-formed commands that are refused, the spec's worked examples, single rules, and for
every statement with hypotheses a state and operands that meet them, clause by clause. -/

namespace Sys2Proof.Tests

set_option maxRecDepth 100000
set_option Elab.async false
set_option linter.unusedVariables false

open Sys2Proof Sys2Proof.Machine

/-! ## States and requests of the tests -/

def wUp : State := { State.reset with
  pkg := .ready
  links := [(0, { Link.idle with st := .up, lanes := 8 })]
  objs := [(0x102006, 0x10000000000), (0x102102, 0x7F00000000), (0x702003, 1), (0x703102, 0)]
  compTab := [(0, ⟨false, 7, 1, 20, 0, 0, 0⟩), (1, ⟨false, 1, 0, 0, 0, 0, 0⟩)]
  comps := [(0, Comp.fresh 3), (1, Comp.fresh 3)]
  doms := (List.range 28).map (fun d => (d, { Domain.off with st := 0 })) }
def wHdr (off len : Nat) : Hdr := ⟨.link 0, 1, 5, 3, 20, 7, 0, 0, off, len, 0⟩

def fld (l : List (Nat × Nat)) : Nat := l.foldl (fun a p => a + p.2 * 2 ^ p.1) 0
def wSyn (o : Option Nat) (v : Nat) : State := { wUp with sync := [(5, { SyncObj.zero with value := v, owner := o })] }

def wMan : Hdr := ⟨.link 0, 1, 5, 3, 0, 1, 0, 0, 0, 0, 0⟩
def wDap : State := { wUp with dict := { wUp.dict with
  i3c := [(0, Session.fresh .implicit 0), (1, Session.fresh (.management 1) 0)], i3cAddr := some 8 } }
def wMsg (g : Bool) (n v : Nat) : DapMsg :=
  ⟨.i3c, 1, 1, 0, 0, 0, 0, n, if g then 2 * n else n, if g then 2 * n else n, 1, 0,
    if g then v + (2 ^ (8 * n) - 1 - v) * 2 ^ (8 * n) else v, true⟩

def wKeys : State := { wUp with objs := [(0x102006, 0x10000000000), (0x102102, 0x7F00000000), (0x703102, 0)] }
def Extent.near1 : Extent := ⟨.near, some 0, false, 0, 0, false, 0⟩
def wCoh : State := { wUp with objs := [(0x102006, 0x10000000000), (0x102102, 0x7F00000000), (0x601002, 2), (0x601007, 2),
  (0x601201, 7 + 2 ^ 32), (0x601202, 9 + 2 ^ 32), (0x702003, 1), (0x703102, 0)], extents := [(0, Extent.near1)] }
def wOwned (o : Nat) : State := { wCoh with dir := [(64, ⟨3, false, [o], 0, 0⟩)] }
def wSnp : State := { wCoh with dir := [(64, ⟨4, false, [1], 0, 0⟩)], snoops := [(snoopKey 7 1, ⟨64, 1, 4, 0, .recalled, true, false, none, 0⟩)] }
def wFlit (seq : Nat) : Flit := ⟨0, seq * 2 ^ 54 + crc32c 240 (seq * 2 ^ 54) * 2 ^ 1920, 2⟩

def wFum : State := { State.reset with pkg := .fumaroleOnly, inputOn := true }
def wSelf (k : Nat) : State := { wUp with pkg := .selfTest, objs := [(0x104100 + k, 2 ^ 28), (0x703102, 0)] }
def wGood : FwFound := ⟨true, true, true, 3, 1, 77⟩
def wFw (run : Nat) : State := { wDap with fw := { wDap.fw with running := some run } }

def wIm : ImageInfo := ⟨0, 0x10000, 256, 0, 5, 1, 1, 0, [(4, 0)]⟩
def wImgB : Nat := fld [(192, 1), (512, 2), (544, 128), (1280, 0xFF)]
def wHd : FnHandle := ⟨.active, wIm, 20, 20, 5, 1, [(0, 3)], []⟩
def wJob : LoadJob := ⟨none, 0, { wIm with bytes := 64 }, false, 20, 0, none, false⟩
def wCl (x : Cluster) : State := { wUp with clusters := [(3, x)] }
def wPc (op body : Nat) : Posted := ⟨⟨op, wHdr 0 0, body, 0, [], false⟩, 0⟩
def wJe : State := writeMem 0x10000 256 wImgB { wUp with registry := [(0, ⟨wIm, 20⟩)], handles := [(0, wHd)] }

def wPl : State := { wUp with placed := [(7, ⟨fld [(64, 0x200000), (128, 2)], 20, 0, false, 1, []⟩)], shadows := [(3, ⟨fld [(112, 9), (160, 2)], 20⟩)] }
def wAcc (n : Nat) (k : AccessKind) : EngineAccess := ⟨8, 0, 20, none, 0x1000, n, k, 5⟩
def wMove (up : Bool) (t : Option Nat) : State := { wUp with moves := [⟨5, up, true, false, t, false, 0⟩], extents := [(5, ⟨if up then .far else .near, none, false, 0, 0, false, 0⟩)] }

def sEntry : Nat := fld [(0, 1), (28, 2)]
def sHead0 : Nat := fld [(0, 0x4D525453), (32, 1), (64, 1), (128, 64), (192, crc32c 8 sEntry)]
def sHead : Nat := sHead0 + crc32c 28 sHead0 * 2 ^ 224
def sBlk : Nat := sEntry + crc32c 1 0xAB * 2 ^ 96 + 0xAB * 2 ^ 128
def wStr : State := writeMem 0x8000 192 (sHead + sEntry * 2 ^ 512 + sBlk * 2 ^ 1024) { wUp with objs := [(0x102006, 0x10000000000), (0x102102, 0x7F00000000), (0x702003, 1), (0x703102, 0), (0x703103, 2 ^ 16)] }
def sBody : Nat := fld [(0, 1), (96, 1), (128, 0x8000), (192, 4096), (256, 2 ^ 48)]
def wPosted (op body : Nat) : Posted := ⟨⟨op, wHdr 0 0, body, 0, [], false⟩, 0⟩

def wDesc : Nat := fld [(0, 1), (8, 1), (16, 1), (24, 1), (32, 3), (36, 3), (40, 1), (48, 1), (64, 1), (96, 1), (192, 0x10000), (256, 0x11000),
  (320, 9), (384, 1), (392, 10), (400, 1)]
def wImg (id : Nat) : ImageInfo := ⟨0, 0, 0, 0, id, 1, 1, 0, []⟩
def wMem : State := writeMem 0x10000 8 (2 ^ 63 + 0x20000) (writeMem 0x11000 8 (2 ^ 63 + 0x30000) (writeMem 0x12000 128 wDesc
  { wUp with objs := [(0x102006, 0x10000000000), (0x102102, 0x7F00000000), (0x501007, 0x12000), (0x702003, 1), (0x703102, 0)] }))
def wAr (slots : NSet) : State := { wMem with
  arenas := [(0, ⟨wDesc, 20, 0, 0, slots, none⟩)]
  handles := [(9, ⟨.active, wImg 0x10010, 20, 20, 1, 1, [(0, 37)], []⟩), (10, ⟨.active, wImg 0x10011, 20, 20, 1, 1, [(0, 38)], []⟩)] }
def wAtt : Nat := fld [(0, 1), (40, 1), (48, 1), (56, 1), (60, 1), (64, 1), (62, 1), (256, 256), (288, 5)]
def wY (st : Nat) (armed : Bool) : Attend := ⟨wPosted 0x10 wAtt, st, 0, 0, 0, false, false, armed, false⟩
def wAtS (st : Nat) (armed : Bool) (v : Nat) : State := { wAr [0] with
  attends := [(4, wY st armed)]
  calls := [(4, ⟨wPosted 0x10 wAtt, 9, [37], [], false, false⟩)]
  sync := [(5, { SyncObj.zero with value := v, owner := some 20 })] }

def wOd : Nat := fld [(0, 1), (12, 1), (16, 32), (64, 4), (112, 0x200000)]
def wTab (st : Nat) : State := writeMem 0x18000 128 wOd { wPl with otables := [(3, ⟨st, 20, 1, 1, [(1, wOd)], []⟩)] }
def wRow (op : Nat) : Nat := fld [(0, op), (8, 3), (20, 2), (37, if op = 2 then 1 else 0), (64, 0x20000), (400, 4096)]
def wTb (sub : Nat) : Nat := fld [(0, 6), (8, 3), (33, sub), (160, 0x18000), (400, 64)]
def wOr (op : Nat) (lists : Option (Nat × Nat)) (retry ended : Bool) : State :=
  { wTab 1 with oreqs := [(4, ⟨wPosted 0x11 (wRow op), 1, lists, retry, 0, 0, 0, 0, 0, [], 0, false, .ok, ended, false, none⟩)] }
def wRef : RowRef := ⟨3, 1, 2, 0⟩
def wTabObjs : Tab Nat := (wTab 1).objs
def wFwd (st pkg : Nat) : State := { wTab 1 with forwards := [⟨wRef, st, pkg, 2, 0x30000, false, 0⟩], objs := tset (tset wTabObjs 0x801103 0x30000) 0x801203 0x10000 }
def wGst (l : Bool) : State := { wTab 1 with guests := [⟨⟨3, 1, 2, 5⟩, 2, 0x30000, wOd, 20, l⟩] }

def wSd : Nat := fld [(0, 1), (188, 1), (200, 2), (208, 16), (228, 1), (232, 10), (240, 4), (304, 2), (336, 8), (368, 0x1000000), (432, 8),
  (464, 0x2000000)]
def wSe : State := writeMem 0x18000 128 wSd { wUp with placed :=
  [(1, ⟨fld [(64, 0x1000000), (128, 5)], 20, 3, false, 0, []⟩), (2, ⟨fld [(64, 0x2000000), (128, 1)], 20, 1, false, 0, []⟩)] }
def wIx (st : Nat) : SIndex := { freshIndex wSd 20 with st := st }
def wCh (x : SIndex) : State := { wSe with indexes := [(0, x)] }
def wQ (op : Nat) : Nat := fld [(0, op)] + (if op = 3 then 0 else fld [(208, 0x20000)]) + (if op = 1 then fld [(144, 1), (160, 1), (176, 1), (304, 0x21000), (384, 4096)] else 0)
def wIo (sub : Nat) : Nat := fld [(0, 4), (20, sub), (208, 0x18000)]
def wOp (op : Nat) (snap : Option (Nat × Nat × Nat × Nat)) : State :=
  { wCh (wIx 1) with sops := [(4, { newOp (wPosted 0x12 (wQ op)) 0 2 with snap := snap })] }

def wVa : EngineAccess := ⟨8, 0, 20, some 3, 0x1000, 8, .load, 5⟩
def wFlt (st : Nat) : FaultRec := ⟨5, st, 1, 0, 0, [⟨wVa, 0, 0, false⟩]⟩
def wFs (st : Nat) : State := { wUp with faults := [(faultKey 2 1, wFlt st)] }
def wInv (scope : Nat) : Nat := fld [(8, scope), (12, 3), (192, if scope = 0 then 2 else 0)]
def wDm : Nat := fld [(0, 1), (128, 4), (176, 64), (256, 0x1000), (320, 0x3000)]
def wDma (st ab : Bool) : State := { wUp with dma := [(4, [⟨7, ⟨0x18, wHdr 0 0, wDm, 0, [], false⟩, 0, st, 0, ab, false⟩])] }

def wWk : State := writeMem 0x20000 8 0x21001 (writeMem 0x21000 8 0xF
  { wUp with walks := [⟨⟨wVa, 0, 0, false⟩, false, 2 ^ 71⟩], xltDesc := [(4096 * 8 + 3, 0x20001 + 20 * 2 ^ 64)] })

def wMv : MvStep := ⟨3, 3, 0, 1, 0, 0, true⟩
def wFeed : Feed := ⟨0, 64, 0, 0, 0, false, 0, false, 0, [1, 2, 3, 4]⟩
def wCfg : TileCfg := ⟨0x0101010101010101, 0, 0x7FF, 0x7FF, 1, 0, 0⟩
def wTa (k : AccessKind) : EngineAccess := ⟨8, 0, 20, none, 0x1000, 8, k, 5⟩
def wTl : State := { wSyn (some 20) 3 with
  clusters := [(0, { Cluster.zero with st := .running, handle := some 9 })]
  handles := [(9, ⟨.active, wImg 0x20, 20, 20, 0, 1, [(0, 0)], []⟩)]
  tiles := [(0, { Tile.zero with cfg := some wCfg })] }

def wObj (l : List (Nat × Nat)) (s : State) : State := { s with objs := l.foldl (fun t e => tset t e.1 e.2) s.objs }
def wMas (st : Nat) : State := wObj [(0x601002, 1), (0x601004, 1), (0x601005, 1), (0x601007, st)] wDap
def wAg (st : Nat) : State := wObj [(0x601201, 7 + st * 2 ^ 32)] (wMas 2)
def wCmd (op : Nat) : DapMsg := wMsg false 32 (fld [(0, op), (32, 5)])
def wDrain (l : Nat) : State := wObj [(0x601101, l)] { wMas 2 with pkg := .draining }

def wQpE : Nat := fld [(0, 1), (8, 4), (32, 7), (125, 3), (128, 7)]
def wEth : State := { wObj [(0x710001, 2), (0x710002, 0), (0x710004, 0xA000001), (0x710005, 0xFE80)] wDap with qps := [(3, { Qp.zero with entry := wQpE, st := 1, expected := 10 })] }
def wRd (n : Nat) : RdmaReq := ⟨0x10003, 10, 0x1000, 0, n⟩
def wSend : State := { wEth with qps := [(3, { Qp.zero with entry := wQpE, st := 1, expected := 10, sends := [⟨5, none, 64, 1, none⟩] })] }
def wDap2 : State := { wEth with qps := [] }

def wSpS : SpdmSession := ⟨.i3c, true, true, 0⟩
def wMe : State := { wDap with spdm := ⟨0, 0, [(9, { wSpS with established := true, attested := true })]⟩ }

def wBk (d : Nat) (b : Block) : State := { wUp with blocks := [(d, b)] }
def wGd : State := wBk 0x1E { Block.zero with guard := some (0x1018, 1) }
def wCk (b : Block) : State := wBk 0 { b with check := .pending }
def wRaw (d o : Nat) : State := wObj [(0xF00001, d), (0xF00002, o)] wDap

def wSm (n p : Nat) : SpdmMsg := ⟨.i3c, n, p, 0, 0⟩
def wSpd (k : Nat) (e : Bool) : State := { wDap with spdm := ⟨k, 0, [(2, { wSpS with established := e })]⟩ }

def wBadH : Hdr := { wHdr 0x1000 1 with reserved := 1 }

/-- What a command's next state satisfies. -/
def leads (c : Instr) (s : State) (p : State → Bool) : Bool :=
  match exec c s with | .next t => p t | _ => false

/-- The descriptor of the table of the Adam example: FP32, ADAM, 256-byte rows, 41,000,000 of them. -/
def wAdam : Nat := fld [(12, 4), (16, 256), (64, 41000000)]

/-- The message of the package_number example, seq 1 after none. -/
def wPn : DapMsg := ⟨.i3c, 0, 1, 0, 0x1021, 1, 0, 2, 4, 4, 1, 0, 0xFD5802A7, false⟩

/-- Mailbox 5 of home die 2 with 31 notices; and with 32, its home held in RETAIN. -/
def wBox31 : State := { wUp with mbx := [(37, { Mailbox.zero with notices := List.replicate 31 (0, 0), headSeq := 0x101 })] }
def wBox32 : State := { wUp with
  mbx := [(37, { Mailbox.zero with notices := List.replicate 32 (0, 0), headSeq := 0x101 })]
  doms := tset wUp.doms 10 { Domain.off with st := 2, held := true } }

/-- The self-test, its steps done. -/
def wTest : State := { wDap with pkg := .selfTest, selfDone := [1, 2, 3, 4, 5, 6] }

/-- A frame that fits. -/
def wFrm : EthFrame := ⟨true, 64, 0, [], 2, false, 0, false, none, 0, false, true⟩

/-! ## What does not fit its fields is not well-formed -/

theorem test_ill_header : ([
    .read { wHdr 0 0 with cls := 4 } [], .read { wHdr 0 0 with tag := 2 ^ 12 } [],
    .read { wHdr 0 0 with epoch := 256 } [], .read { wHdr 0 0 with tenant := 4096 } [],
    .read { wHdr 0 0 with requester := 65536 } [], .read { wHdr 0 0 with key := 2 ^ 32 } [],
    .read { wHdr 0 0 with package := 4096 } [], .read { wHdr 0 0 with offset := 2 ^ 48 } [],
    .read { wHdr 0 0 with length := 128 } [], .read { wHdr 0 0 with via := .link 16 } [],
    .read { wHdr 0 0 with via := .eth 4096 } []] :
    List Instr).all (fun c => !c.wf) = true := by decide +kernel

theorem test_ill_message : ([
    .enterStanding { wMsg false 0 0 with session := 2 ^ 32 }, .enterStanding { wMsg false 0 0 with seq := 65536 },
    .enterStanding { wMsg false 0 0 with actingTenant := 4096 },
    .enterStanding { wMsg false 0 0 with index := 65536 }, .enterStanding { wMsg false 0 0 with sub := 256 },
    .enterStanding { wMsg false 0 0 with segOffset := 2 ^ 32 },
    .enterStanding { wMsg false 0 0 with totalLength := 2 ^ 32 },
    .enterStanding { wMsg false 0 0 with valueLength := 65536 },
    .enterStanding { wMsg false 0 0 with version := 256 }, .enterStanding { wMsg false 0 0 with value := 1 }] :
    List Instr).all (fun c => !c.wf) = true := by decide +kernel

theorem test_ill_engine_access : ([
    .translationWalkEnd { wTa .load with die := 32 }, .translationWalkEnd { wTa .load with tenant := 4096 },
    .translationWalkEnd { wTa .load with address := 2 ^ 60 }, .translationWalkEnd { wTa .load with bytes := 4097 },
    .translationWalkEnd { wTa .load with data := 2 ^ 64 }, .translationWalkEnd { wTa .load with context := some 0 },
    .translationWalkEnd { wTa .load with context := some 4096 }] :
    List Instr).all (fun c => !c.wf) = true := by decide +kernel

theorem test_ill_feed : ([
    .crossLaneReduce 0 false { wFeed with a := 2 ^ 20 }, .crossLaneReduce 0 false { wFeed with b := 2 ^ 20 },
    .crossLaneReduce 0 false { wFeed with k := 8192 }, .crossLaneReduce 0 false { wFeed with entry := 256 },
    .crossLaneReduce 0 false { wFeed with imm := 2 ^ 64 }, .crossLaneReduce 0 false { wFeed with w := 2 ^ 20 },
    .crossLaneReduce 0 false { wFeed with peer := 16 }, .crossLaneReduce 0 false { wFeed with loops := [] },
    .crossLaneReduce 0 false { wFeed with loops := [1, 2, 3, 2 ^ 32] }] :
    List Instr).all (fun c => !c.wf) = true := by decide +kernel

theorem test_ill_matrix_step : ([
    .matrixVectorStep 0 ⟨{ wMv with wfmt := 16 }, wFeed⟩, .matrixVectorStep 0 ⟨{ wMv with vfmt := 16 }, wFeed⟩,
    .matrixVectorStep 0 ⟨{ wMv with entry := 256 }, wFeed⟩, .matrixVectorStep 0 ⟨{ wMv with count := 33 }, wFeed⟩,
    .matrixVectorStep 0 ⟨{ wMv with wscales := 2 ^ 64 }, wFeed⟩,
    .matrixVectorStep 0 ⟨{ wMv with vscale := 256 }, wFeed⟩] :
    List Instr).all (fun c => !c.wf) = true := by decide +kernel

theorem test_ill_spdm_message : ([
    .spdmGetVersion { wSm 0 0 with session := 2 ^ 32 }, .spdmGetVersion { wSm 0 0 with payload := 1 }] :
    List Instr).all (fun c => !c.wf) = true := by decide +kernel

theorem test_ill_rdma_request : ([
    .rdmaRead { wRd 0 with qp := 2 ^ 24 } [], .rdmaRead { wRd 0 with psn := 2 ^ 24 } [],
    .rdmaRead { wRd 0 with address := 2 ^ 64 } [], .rdmaRead { wRd 0 with rkey := 2 ^ 32 } [],
    .rdmaRead { wRd 0 with length := 2 ^ 32 } []] :
    List Instr).all (fun c => !c.wf) = true := by decide +kernel

theorem test_ill_row : ([
    .hotSlotGranted { wRef with slot := 1024 } 0 0 ⟨0, 0, 0⟩, .hotSlotGranted { wRef with home := 4096 } 0 0 ⟨0, 0, 0⟩] :
    List Instr).all (fun c => !c.wf) = true := by decide +kernel

theorem test_ill_flit : ([
    .flitReceive { wFlit 0 with link := 16 }, .flitReceive { wFlit 0 with image := 2 ^ 2048 },
    .flitReceive { wFlit 0 with wrong := 257 }] :
    List Instr).all (fun c => !c.wf) = true := by decide +kernel

theorem test_ill_frame : ([
    .ethFrameReceive { wFrm with priority := 8 }, .ethFrameReceive { wFrm with qp := 2 ^ 24 },
    .ethFrameReceive { wFrm with mac := 2 ^ 48 }, .ethFrameReceive { wFrm with dest := 2 ^ 128 },
    .ethFrameReceive { wFrm with tags := [4096] }, .ethFrameReceive { wFrm with port := some 65536 }] :
    List Instr).all (fun c => !c.wf) = true := by decide +kernel

theorem test_ill_straps : ([
    .packageBusRegulated ⟨true, 8⟩ false] :
    List Instr).all (fun c => !c.wf) = true := by decide +kernel

theorem test_ill_warm_check : ([
    .selftestStepEnd 0 [] none ⟨[2 ^ 42], false⟩] :
    List Instr).all (fun c => !c.wf) = true := by decide +kernel

theorem test_ill_news : ([
    .generationTakeUp 0 ⟨[32], [], [], none⟩, .generationTakeUp 0 ⟨[], [(2 ^ 24, 0)], [], none⟩,
    .generationTakeUp 0 ⟨[], [(0, 2 ^ 64)], [], none⟩, .generationTakeUp 0 ⟨[], [], [(65536, 0)], none⟩,
    .generationTakeUp 0 ⟨[], [], [(0, 4096)], none⟩, .generationTakeUp 0 ⟨[], [], [], some ⟨some 8, [], false⟩⟩,
    .generationTakeUp 0 ⟨[], [], [], some ⟨none, [(65536, 0, [])], false⟩⟩,
    .generationTakeUp 0 ⟨[], [], [], some ⟨none, [(0, 2 ^ 512, [])], false⟩⟩] :
    List Instr).all (fun c => !c.wf) = true := by decide +kernel

theorem test_ill_window_access : ([
    .scratchpadWindowAccess ⟨{ wHdr 0 0 with tag := 4096 }, false, 0⟩] :
    List Instr).all (fun c => !c.wf) = true := by decide +kernel

theorem test_ill_row_input : ([
    .oryxRowOperation 0 ⟨[], ⟨.ok, 0⟩, [], some ⟨{ wRef with slot := 1024 }, 0, 0⟩⟩,
    .oryxRowOperation 0 ⟨[], ⟨.ok, 0⟩, [], some ⟨wRef, 2 ^ 512, 0⟩⟩] :
    List Instr).all (fun c => !c.wf) = true := by decide +kernel

theorem test_ill_hot_slot : ([
    .hotSlotGranted wRef 0 0 ⟨2 ^ 48, 0, 0⟩, .hotSlotGranted wRef 0 0 ⟨0, 2 ^ 1024, 0⟩,
    .hotSlotGranted wRef 0 0 ⟨0, 0, 4096⟩] :
    List Instr).all (fun c => !c.wf) = true := by decide +kernel

theorem test_ill_send_packet : ([
    .roceSendRequest ⟨2 ^ 24, 0⟩ 0 0 (wHdr 0 0) 0 0, .roceSendRequest ⟨0, 2 ^ 24⟩ 0 0 (wHdr 0 0) 0 0] :
    List Instr).all (fun c => !c.wf) = true := by decide +kernel

theorem test_ill_tile_store : ([
    .tilePlainStore ⟨{ wTa .load with tenant := 4096 }, wFeed⟩ .ok,
    .tilePlainStore ⟨wTa .load, { wFeed with a := 2 ^ 20 }⟩ .ok] :
    List Instr).all (fun c => !c.wf) = true := by decide +kernel

theorem test_ill_feed_pads : ([
    .vectorStep 0 .add ⟨2 ^ 20, 0⟩ ⟨0, 0, 0⟩ ⟨false, 0, false, 0, [0, 0, 0, 0]⟩,
    .vectorStep 0 .add ⟨0, 2 ^ 20⟩ ⟨0, 0, 0⟩ ⟨false, 0, false, 0, [0, 0, 0, 0]⟩] :
    List Instr).all (fun c => !c.wf) = true := by decide +kernel

theorem test_ill_feed_own : ([
    .vectorStep 0 .add ⟨0, 0⟩ ⟨8192, 0, 0⟩ ⟨false, 0, false, 0, [0, 0, 0, 0]⟩,
    .vectorStep 0 .add ⟨0, 0⟩ ⟨0, 256, 0⟩ ⟨false, 0, false, 0, [0, 0, 0, 0]⟩,
    .vectorStep 0 .add ⟨0, 0⟩ ⟨0, 0, 2 ^ 64⟩ ⟨false, 0, false, 0, [0, 0, 0, 0]⟩] :
    List Instr).all (fun c => !c.wf) = true := by decide +kernel

theorem test_ill_feed_source : ([
    .conversion 0 0 ⟨⟨2 ^ 20, 0⟩, 0, 0, 0⟩ ⟨false, 0, false, 0, [0, 0, 0, 0]⟩,
    .conversion 0 0 ⟨⟨0, 0⟩, 8192, 0, 0⟩ ⟨false, 0, false, 0, [0, 0, 0, 0]⟩] :
    List Instr).all (fun c => !c.wf) = true := by decide +kernel

theorem test_ill_feed_out : ([
    .vectorStep 0 .add ⟨0, 0⟩ ⟨0, 0, 0⟩ ⟨false, 2 ^ 20, false, 0, [0, 0, 0, 0]⟩,
    .vectorStep 0 .add ⟨0, 0⟩ ⟨0, 0, 0⟩ ⟨false, 0, false, 16, [0, 0, 0, 0]⟩,
    .vectorStep 0 .add ⟨0, 0⟩ ⟨0, 0, 0⟩ ⟨false, 0, false, 0, []⟩] :
    List Instr).all (fun c => !c.wf) = true := by decide +kernel

theorem test_ill_operands_1 : ([
    .selftestStepEnd 7 [] none ⟨[], false⟩, .selftestStepTimeout 7 0 0, .selftestStepTimeout 0 32 0,
    .selftestStepTimeout 0 0 256, .pkgResetNRelease ⟨true, 8⟩, .pkgReset { wMsg false 0 0 with session := 2 ^ 32 },
    .thermalTrip 32, .domainIdleEntry 28, .domainIdleExit 28, .retainEntry 28, .offEntry 28, .wakeRequest 28,
    .wakeComplete 28, .generationCheckDone 28, .clusterReloadAfterWake 8, .wakeFailure 28, .wakeRetry 28,
    .dieFault 32, .dieRetest { wMsg false 0 0 with session := 2 ^ 32 }, .dieRetestDone [] false [2 ^ 42],
    .flitNakReceive 16 0, .flitNakReceive 0 1024, .linkDown 16, .linkTrained 16 0, .linkTrained 0 9,
    .linkRecal { wMsg false 0 0 with session := 2 ^ 32 }, .linkRecalRequest 16, .recalThresholdExceeded 16,
    .linkQuiesced 16, .linkRetrained 16, .linkRecalTimeout 16, .readAcq { wHdr 0 0 with cls := 4 } [],
    .write { wHdr 0 0 with cls := 4 } 0, .write (wHdr 0 0) (2 ^ 32768), .writeRel { wHdr 0 0 with cls := 4 } 0,
    .writeRel (wHdr 0 0) (2 ^ 32768), .flush { wHdr 0 0 with cls := 4 } 0, .flush (wHdr 0 0) (2 ^ 128),
    .atomic { wHdr 0 0 with cls := 4 } 0, .atomic (wHdr 0 0) (2 ^ 256), .publish { wHdr 0 0 with cls := 4 } 0 0,
    .publish (wHdr 0 0) (2 ^ 512) 0, .publish (wHdr 0 0) 0 (2 ^ 32768), .syncAdd { wHdr 0 0 with cls := 4 } 0,
    .syncAdd (wHdr 0 0) (2 ^ 256)] :
    List Instr).all (fun c => !c.wf) = true := by decide +kernel

theorem test_ill_operands_2 : ([
    .syncSet { wHdr 0 0 with cls := 4 } 0, .syncSet (wHdr 0 0) (2 ^ 256), .syncClaim { wHdr 0 0 with cls := 4 } 0,
    .syncClaim (wHdr 0 0) (2 ^ 256), .syncRelease { wHdr 0 0 with cls := 4 } 0, .syncRelease (wHdr 0 0) (2 ^ 256),
    .syncCancel { wHdr 0 0 with cls := 4 } 0, .syncCancel (wHdr 0 0) (2 ^ 256), .wait { wHdr 0 0 with cls := 4 } 0,
    .wait (wHdr 0 0) (2 ^ 512), .doorbell { wHdr 0 0 with cls := 4 } 0, .doorbell (wHdr 0 0) (2 ^ 128),
    .probe { wHdr 0 0 with cls := 4 }, .attend { wHdr 0 0 with cls := 4 } 0, .attend (wHdr 0 0) (2 ^ 32768),
    .append { wHdr 0 0 with cls := 4 } 0, .append (wHdr 0 0) (2 ^ 32768), .commit { wHdr 0 0 with cls := 4 } 0,
    .commit (wHdr 0 0) (2 ^ 32768), .discard { wHdr 0 0 with cls := 4 } 0, .discard (wHdr 0 0) (2 ^ 32768),
    .arenaActivate { wHdr 0 0 with cls := 4 } 0, .arenaActivate (wHdr 0 0) (2 ^ 32768),
    .arenaDeactivate { wHdr 0 0 with cls := 4 } 0, .arenaDeactivate (wHdr 0 0) (2 ^ 32768),
    .gather { wHdr 0 0 with cls := 4 } 0, .gather (wHdr 0 0) (2 ^ 512), .pool { wHdr 0 0 with cls := 4 } 0,
    .pool (wHdr 0 0) (2 ^ 512), .scatter { wHdr 0 0 with cls := 4 } 0, .scatter (wHdr 0 0) (2 ^ 512),
    .update { wHdr 0 0 with cls := 4 } 0, .update (wHdr 0 0) (2 ^ 512), .oryxDelete { wHdr 0 0 with cls := 4 } 0,
    .oryxDelete (wHdr 0 0) (2 ^ 512), .tableActivate { wHdr 0 0 with cls := 4 } 0,
    .tableActivate (wHdr 0 0) (2 ^ 512), .tableReplace { wHdr 0 0 with cls := 4 } 0,
    .tableReplace (wHdr 0 0) (2 ^ 512), .tableDeactivate { wHdr 0 0 with cls := 4 } 0,
    .tableDeactivate (wHdr 0 0) (2 ^ 512), .tableVersionFreed 1024, .hotSlotGranted wRef 4096 0 ⟨0, 0, 0⟩,
    .hotSlotGranted wRef 0 8 ⟨0, 0, 0⟩, .rowCopyAcked { wRef with slot := 1024 }] :
    List Instr).all (fun c => !c.wf) = true := by decide +kernel

theorem test_ill_operands_3 : ([
    .rowCommitAcked { wRef with slot := 1024 }, .rowCommitTimeout { wRef with slot := 1024 },
    .rowReturnAcked { wRef with slot := 1024 } 0, .rowForwardLost { wRef with slot := 1024 },
    .query { wHdr 0 0 with cls := 4 } 0, .query (wHdr 0 0) (2 ^ 32768), .insert { wHdr 0 0 with cls := 4 } 0,
    .insert (wHdr 0 0) (2 ^ 32768), .searchDelete { wHdr 0 0 with cls := 4 } 0, .searchDelete (wHdr 0 0) (2 ^ 32768),
    .indexActivate { wHdr 0 0 with cls := 4 } 0, .indexActivate (wHdr 0 0) (2 ^ 32768),
    .indexDeactivate { wHdr 0 0 with cls := 4 } 0, .indexDeactivate (wHdr 0 0) (2 ^ 32768),
    .indexMerge { wHdr 0 0 with cls := 4 } 0, .indexMerge (wHdr 0 0) (2 ^ 32768),
    .invoke { wHdr 0 0 with cls := 4 } 0, .invoke (wHdr 0 0) (2 ^ 32768), .register { wHdr 0 0 with cls := 4 } 0,
    .register (wHdr 0 0) (2 ^ 512), .configRetire { wHdr 0 0 with cls := 4 } 0, .configRetire (wHdr 0 0) (2 ^ 512),
    .load { wHdr 0 0 with cls := 4 } 0, .load (wHdr 0 0) (2 ^ 512), .unbind { wHdr 0 0 with cls := 4 } 0,
    .unbind (wHdr 0 0) (2 ^ 512), .clusterLoadStart 128, .clusterLoadComplete 128, .clusterLoadFail 128 .poison,
    .clusterDrainComplete 128, .drainOverdue 128, .tileFailure 128 0, .objectActivate { wHdr 0 0 with cls := 4 } 0,
    .objectActivate (wHdr 0 0) (2 ^ 512), .objectDeactivate { wHdr 0 0 with cls := 4 } 0,
    .objectDeactivate (wHdr 0 0) (2 ^ 512), .setPolicy { wHdr 0 0 with cls := 4 } 0, .setPolicy (wHdr 0 0) (2 ^ 512),
    .migrate { wHdr 0 0 with cls := 4 } 0, .migrate (wHdr 0 0) (2 ^ 512),
    .shadowRegister { wHdr 0 0 with cls := 4 } 0, .shadowRegister (wHdr 0 0) (2 ^ 512),
    .shadowRetire { wHdr 0 0 with cls := 4 } 0, .shadowRetire (wHdr 0 0) (2 ^ 512),
    .shadowValidate { wHdr 0 0 with cls := 4 } 0] :
    List Instr).all (fun c => !c.wf) = true := by decide +kernel

theorem test_ill_operands_4 : ([
    .shadowValidate (wHdr 0 0) (2 ^ 512), .promotionStart (2 ^ 27), .promotionCommit (2 ^ 27) [],
    .demotionStart (2 ^ 27), .demotionCommit (2 ^ 27), .stagingProgrammed (2 ^ 27),
    .streamRead { wHdr 0 0 with cls := 4 } 0, .streamRead (wHdr 0 0) (2 ^ 512),
    .tableInstall { wHdr 0 0 with cls := 4 } 0, .tableInstall (wHdr 0 0) (2 ^ 512), .tableInstallBuilt 1024,
    .tableSlotRetire { wHdr 0 0 with cls := 4 } 0, .tableSlotRetire (wHdr 0 0) (2 ^ 512), .slotQueuedZero 1024,
    .invalPages { wHdr 0 0 with cls := 4 } 0, .invalPages (wHdr 0 0) (2 ^ 256),
    .invalContext { wHdr 0 0 with cls := 4 } 0, .invalContext (wHdr 0 0) (2 ^ 256), .faultRecordAcked 16 0 .ok,
    .faultDoorbellResend 16 0, .xltRetry { wHdr 0 0 with cls := 4 } 0, .xltRetry (wHdr 0 0) (2 ^ 64),
    .xltAbort { wHdr 0 0 with cls := 4 } 0, .xltAbort (wHdr 0 0) (2 ^ 64), .dmaCopy { wHdr 0 0 with cls := 4 } 0,
    .dmaCopy (wHdr 0 0) (2 ^ 512), .dmaTransferStart 32, .dmaTransferEnd 32 ⟨.ok, 0⟩ .ok,
    .rdShared { wHdr 0 0 with cls := 4 }, .rdOwn { wHdr 0 0 with cls := 4 }, .upgrade { wHdr 0 0 with cls := 4 },
    .wbDirty { wHdr 0 0 with cls := 4 } 0, .wbDirty (wHdr 0 0) (2 ^ 512), .evictClean { wHdr 0 0 with cls := 4 },
    .snoopResponse 0 32 0 0, .snoopTimeout 0 32, .directoryRecallDone (2 ^ 42),
    .composeSetEntry { wHdr 0 0 with cls := 4 } 0, .composeSetEntry (wHdr 0 0) (2 ^ 256),
    .composeRemoveEntry { wHdr 0 0 with cls := 4 } 0, .composeRemoveEntry (wHdr 0 0) (2 ^ 256),
    .composeAdvance { wHdr 0 0 with cls := 4 } 0, .composeAdvance (wHdr 0 0) (2 ^ 256), .drainWindowClose 4096,
    .entryDrainFree (2 ^ 16)] :
    List Instr).all (fun c => !c.wf) = true := by decide +kernel

theorem test_ill_operands_5 : ([
    .owner { wHdr 0 0 with cls := 4 } 0, .owner (wHdr 0 0) (2 ^ 256), .ownerRecordTakeUp 1024 0,
    .ownerRecordTakeUp 0 (2 ^ 256), .ownerTakeUpTimeout 1024, .remoteCopyExpire 8 0, .remoteCopyExpire 0 (2 ^ 42),
    .scrubPassEnd 8 [] [], .stragglerReport 8, .expelVote { wMsg false 0 0 with session := 2 ^ 32 },
    .domainChangeRebuild { wMsg false 0 0 with session := 2 ^ 32 } false,
    .domainChangeReplace { wMsg false 0 0 with session := 2 ^ 32 } false,
    .domainChangeLeave { wMsg false 0 0 with session := 2 ^ 32 } false,
    .drainBegin { wMsg false 0 0 with session := 2 ^ 32 }, .domainForm { wMsg false 0 0 with session := 2 ^ 32 } [],
    .domainDissolve { wMsg false 0 0 with session := 2 ^ 32 }, .generationTakeUp (2 ^ 32) ⟨[], [], [], none⟩,
    .declareAgentDead { wMsg false 0 0 with session := 2 ^ 32 },
    .agentReactivate { wMsg false 0 0 with session := 2 ^ 32 },
    .agentEntryWrite { wMsg false 0 0 with session := 2 ^ 32 },
    .dataSourceWrite { wMsg false 0 0 with session := 2 ^ 32 },
    .masterConfirmWrite { wMsg false 0 0 with session := 2 ^ 32 }, .arpRequest (2 ^ 128),
    .neighbourSolicitation (2 ^ 128), .icmpEchoRequest (2 ^ 128) false, .pfcFrameReceive 256 0,
    .pfcFrameReceive 0 256, .cnpReceive (2 ^ 24), .cnpRateRecovery (2 ^ 24), .rdmaWrite { wRd 0 with qp := 2 ^ 24 } 0,
    .rdmaWrite (wRd 0) (2 ^ 8388608), .fetchAndAdd { wRd 0 with qp := 2 ^ 24 } 0, .fetchAndAdd (wRd 0) (2 ^ 64),
    .compareAndSwap { wRd 0 with qp := 2 ^ 24 } 0 0, .compareAndSwap (wRd 0) (2 ^ 64) 0,
    .compareAndSwap (wRd 0) 0 (2 ^ 64), .roceSendRequest ⟨0, 0⟩ 0 0 { wHdr 0 0 with cls := 4 } 0 0,
    .roceSendRequest ⟨0, 0⟩ (2 ^ 24) 0 (wHdr 0 0) 0 0, .roceSendRequest ⟨0, 0⟩ 0 256 (wHdr 0 0) 0 0,
    .roceSendRequest ⟨0, 0⟩ 0 0 (wHdr 0 0) (2 ^ 32768) 0, .roceSendRequest ⟨0, 0⟩ 0 0 (wHdr 0 0) 0 (2 ^ 32768),
    .roceAckReceive (2 ^ 24) 0, .roceAckReceive 0 (2 ^ 24), .roceNakReceive (2 ^ 24) 0 false,
    .roceNakReceive 0 (2 ^ 24) false] :
    List Instr).all (fun c => !c.wf) = true := by decide +kernel

theorem test_ill_operands_6 : ([
    .roceAckTimeout (2 ^ 24), .qpEntryWrite { wMsg false 0 0 with session := 2 ^ 32 }, .i3cSetdasa (2 ^ 60),
    .i3cEntdaa (2 ^ 60), .dapOpenTenant { wMsg false 0 0 with session := 2 ^ 32 },
    .dapOpenManagement { wMsg false 0 0 with session := 2 ^ 32 }, .dapClose { wMsg false 0 0 with session := 2 ^ 32 },
    .dapRead { wMsg false 0 0 with session := 2 ^ 32 }, .dapWrite { wMsg false 0 0 with session := 2 ^ 32 },
    .dapWriteGuarded { wMsg false 0 0 with session := 2 ^ 32 },
    .dapSubscribe { wMsg false 0 0 with session := 2 ^ 32 },
    .dapUnsubscribe { wMsg false 0 0 with session := 2 ^ 32 },
    .spdmGetCapabilities { wSm 0 0 with session := 2 ^ 32 },
    .spdmNegotiateAlgorithms { wSm 0 0 with session := 2 ^ 32 }, .spdmGetDigests { wSm 0 0 with session := 2 ^ 32 },
    .spdmGetCertificate { wSm 0 0 with session := 2 ^ 32 }, .spdmChallenge { wSm 0 0 with session := 2 ^ 32 },
    .spdmGetMeasurements { wSm 0 0 with session := 2 ^ 32 }, .spdmKeyExchange { wSm 0 0 with session := 2 ^ 32 } none,
    .spdmFinish { wSm 0 0 with session := 2 ^ 32 } false, .spdmHeartbeat { wSm 0 0 with session := 2 ^ 32 },
    .spdmKeyUpdate { wSm 0 0 with session := 2 ^ 32 }, .spdmEndSession { wSm 0 0 with session := 2 ^ 32 },
    .arithCountersClear { wMsg false 0 0 with session := 2 ^ 32 },
    .attnCountersClear { wMsg false 0 0 with session := 2 ^ 32 },
    .tierCountersClear { wMsg false 0 0 with session := 2 ^ 32 },
    .streamCountersClear { wMsg false 0 0 with session := 2 ^ 32 },
    .oryxCountersClear { wMsg false 0 0 with session := 2 ^ 32 },
    .tableCountersClear { wMsg false 0 0 with session := 2 ^ 32 },
    .searchCountersClear { wMsg false 0 0 with session := 2 ^ 32 },
    .xltCountersClear { wMsg false 0 0 with session := 2 ^ 32 },
    .syncCountersClear { wMsg false 0 0 with session := 2 ^ 32 },
    .ethCountersClear { wMsg false 0 0 with session := 2 ^ 32 },
    .dictCountersClear { wMsg false 0 0 with session := 2 ^ 32 },
    .regCountersClear { wMsg false 0 0 with session := 2 ^ 32 }, .saveNow { wMsg false 0 0 with session := 2 ^ 32 },
    .restoreDefaults { wMsg false 0 0 with session := 2 ^ 32 }, .cfgCommit { wMsg false 0 0 with session := 2 ^ 32 },
    .cfgWalkStart 32, .cfgWalkEnd 32, .cfgPendingOverdue 32, .fwStageData { wMsg false 0 0 with session := 2 ^ 32 },
    .fwVerify { wMsg false 0 0 with session := 2 ^ 32 }, .fwHandover { wMsg false 0 0 with session := 2 ^ 32 },
    .imageKeyEnrol { wMsg false 0 0 with session := 2 ^ 32 }] :
    List Instr).all (fun c => !c.wf) = true := by decide +kernel

theorem test_ill_operands_7 : ([
    .imageKeyRevoke { wMsg false 0 0 with session := 2 ^ 32 },
    .ownerKeyEnrol { wMsg false 0 0 with session := 2 ^ 32 },
    .ownerKeyRevoke { wMsg false 0 0 with session := 2 ^ 32 }, .fmKeyWrite { wMsg false 0 0 with session := 2 ^ 32 },
    .keyCreate { wMsg false 0 0 with session := 2 ^ 32 }, .keyDestroy { wMsg false 0 0 with session := 2 ^ 32 },
    .keySweepDone 4096, .handover { wMsg false 0 0 with session := 2 ^ 32 },
    .handoverReport { wMsg false 0 0 with session := 2 ^ 32 },
    .logCheckpoint { wMsg false 0 0 with session := 2 ^ 32 }, .meterAck { wMsg false 0 0 with session := 2 ^ 32 },
    .meterBatchRead { wMsg false 0 0 with session := 2 ^ 32 },
    .syncViewRead { wMsg false 0 0 with session := 2 ^ 32 },
    .trustModeWrite { wMsg false 0 0 with session := 2 ^ 32 },
    .regionEntryWrite { wMsg false 0 0 with session := 2 ^ 32 },
    .packageNumberWrite { wMsg false 0 0 with session := 2 ^ 32 },
    .heldReadyMaskWrite { wMsg false 0 0 with session := 2 ^ 32 },
    .domainFloorWrite { wMsg false 0 0 with session := 2 ^ 32 },
    .dictObjectWrite { wMsg false 0 0 with session := 2 ^ 32 }, .regWrite 32 0 0, .regWrite 0 (2 ^ 16) 0,
    .regWrite 0 0 (2 ^ 64), .guardedRegWrite 32 0 0, .guardedRegWrite 0 (2 ^ 16) 0, .guardedRegWrite 0 0 (2 ^ 64),
    .complementPortWrite 32 0 0, .complementPortWrite 0 (2 ^ 16) 0, .complementPortWrite 0 0 (2 ^ 64),
    .guardTimeout 32, .regLoRead 32 0, .regLoRead 0 (2 ^ 16), .regHiRead 32 0, .regHiRead 0 (2 ^ 16),
    .regLoWrite 32 0 0, .regLoWrite 0 (2 ^ 16) 0, .regLoWrite 0 0 (2 ^ 64), .regHiWrite 32 0 0,
    .regHiWrite 0 (2 ^ 16) 0, .regHiWrite 0 0 (2 ^ 64), .rawDieWrite { wMsg false 0 0 with session := 2 ^ 32 },
    .rawOffsetWrite { wMsg false 0 0 with session := 2 ^ 32 }, .rawDataRead { wMsg false 0 0 with session := 2 ^ 32 },
    .rawDataWrite { wMsg false 0 0 with session := 2 ^ 32 }, .rawData64Read { wMsg false 0 0 with session := 2 ^ 32 },
    .rawData64Write { wMsg false 0 0 with session := 2 ^ 32 }] :
    List Instr).all (fun c => !c.wf) = true := by decide +kernel

theorem test_ill_operands_8 : ([
    .rawGuardedWrite { wMsg false 0 0 with session := 2 ^ 32 }, .mbxAckWrite 32 0 0, .mbxAckWrite 0 16 0,
    .mbxAckWrite 0 0 (2 ^ 64), .mbxHeadRead { wHdr 0 0 with cls := 4 }, .fabTileSelWrite 32 0,
    .fabTileSelWrite 0 (2 ^ 64), .homeDirProbeWrite 32 0, .homeDirProbeWrite 0 (2 ^ 64),
    .matrixVectorStep 2048 ⟨wMv, wFeed⟩, .vectorStep 2048 .add ⟨0, 0⟩ ⟨0, 0, 0⟩ ⟨false, 0, false, 0, [0, 0, 0, 0]⟩,
    .conversion 0 0 ⟨⟨0, 0⟩, 0, 0, 0⟩ ⟨false, 2 ^ 20, false, 0, [0, 0, 0, 0]⟩,
    .conversion 2048 0 ⟨⟨0, 0⟩, 0, 0, 0⟩ ⟨false, 0, false, 0, [0, 0, 0, 0]⟩,
    .conversion 0 (0xA + 1) ⟨⟨0, 0⟩, 0, 0, 0⟩ ⟨false, 0, false, 0, [0, 0, 0, 0]⟩,
    .specialFunction 0 .exp2 ⟨⟨2 ^ 20, 0⟩, 0, 0, 0⟩ ⟨false, 0, false, 0, [0, 0, 0, 0]⟩,
    .specialFunction 0 .exp2 ⟨⟨0, 0⟩, 0, 0, 0⟩ ⟨false, 2 ^ 20, false, 0, [0, 0, 0, 0]⟩,
    .specialFunction 2048 .exp2 ⟨⟨0, 0⟩, 0, 0, 0⟩ ⟨false, 0, false, 0, [0, 0, 0, 0]⟩,
    .crossLaneReduce 2048 false wFeed, .tilePlainLoad { wTa .load with die := 32 } ⟨.ok, 0⟩,
    .tileAcquireLoad { wTa .load with die := 32 } ⟨.ok, 0⟩, .tileLoadReturn 2048,
    .tileReleaseStore ⟨{ wTa .load with tenant := 4096 }, wFeed⟩ .ok,
    .tileAtomic { wTa .load with die := 32 } 0 ⟨.ok, 0⟩, .tileAtomic (wTa .load) (2 ^ 256) ⟨.ok, 0⟩, .tileFence 2048,
    .tileSignal 2048 0 0, .tileSignal 0 32768 0, .tileSignal 0 0 (2 ^ 64), .tileWait 2048 0 0 0,
    .tileWait 0 32768 0 0, .tileWait 0 0 4 0, .tileWait 0 0 0 (2 ^ 128), .repairSourceTimeout (2 ^ 42),
    .notificationTimeout 32768, .rnrRetryTimer (2 ^ 24), .unknownOpcode { wHdr 0 0 with cls := 4 } 0,
    .unknownOpcode (wHdr 0 0) 256, .messageDiscard .i3c 256,
    .spdmUnsupportedRequest { wSm 0 0 with session := 2 ^ 32 } 0, .spdmUnsupportedRequest (wSm 0 0) 256] :
    List Instr).all (fun c => !c.wf) = true := by decide +kernel

/-- And what fits is (part 1). -/
theorem test_well_formed_1 : ([
    .inputStable 0, .packageBusRegulated ⟨true, 0⟩ false, .inputLowWarning 0, .inputLoss 0,
    .rotVerifyDone wGood wGood none, .mgmtCoreReady, .selftestStepEnd 0 [] none ⟨[], false⟩,
    .selftestStepTimeout 0 0 0, .enterStanding (wMsg false 0 0), .pkgResetNAssert, .pkgResetNRelease ⟨true, 0⟩,
    .pkgReset (wMsg false 0 0), .pkgResetTrigger, .resetShutdownDone, .watchdogExpiry, .refclkLoss,
    .powerInterval 0 0 0 0 0, .thermalTrip 0, .domainIdleEntry 0, .domainIdleExit 0, .retainEntry 0, .offEntry 0,
    .wakeRequest 0, .wakeComplete 0, .generationCheckDone 0, .clusterReloadAfterWake 0, .wakeFailure 0, .wakeRetry 0,
    .dieFault 0, .dieRetest (wMsg false 0 0), .dieRetestDone [] false [], .flitReceive (wFlit 0), .flitNakReceive 0 0,
    .linkDown 0, .linkTrained 0 0, .linkRecal (wMsg false 0 0), .linkRecalRequest 0, .recalThresholdExceeded 0,
    .linkQuiesced 0, .linkRetrained 0, .linkRecalTimeout 0, .read (wHdr 0 0) [], .readAcq (wHdr 0 0) [],
    .write (wHdr 0 0) 0, .writeRel (wHdr 0 0) 0, .flush (wHdr 0 0) 0, .atomic (wHdr 0 0) 0, .publish (wHdr 0 0) 0 0,
    .syncAdd (wHdr 0 0) 0, .syncSet (wHdr 0 0) 0, .syncClaim (wHdr 0 0) 0, .syncRelease (wHdr 0 0) 0,
    .syncCancel (wHdr 0 0) 0, .wait (wHdr 0 0) 0, .doorbell (wHdr 0 0) 0, .probe (wHdr 0 0), .attend (wHdr 0 0) 0,
    .attendDispatch 0 ⟨.ok, 0⟩, .attendBindAfterHold 0, .attendHoldExpired 0, .partialWritten 0 false,
    .mergeSyncReached 0, .mergeTimeout 0, .append (wHdr 0 0) 0, .commit (wHdr 0 0) 0, .commitPublish 0,
    .discard (wHdr 0 0) 0, .arenaActivate (wHdr 0 0) 0, .arenaDeactivate (wHdr 0 0) 0, .gather (wHdr 0 0) 0,
    .pool (wHdr 0 0) 0, .scatter (wHdr 0 0) 0, .update (wHdr 0 0) 0, .oryxDelete (wHdr 0 0) 0,
    .tableActivate (wHdr 0 0) 0, .tableReplace (wHdr 0 0) 0, .tableDeactivate (wHdr 0 0) 0,
    .oryxListRead 0 ⟨.ok, 0⟩ ⟨.ok, 0⟩, .oryxRowOperation 0 ⟨[], ⟨.ok, 0⟩, [], none⟩, .oryxResultHeader 0 .ok,
    .tableVersionFreed 0, .shardWindowEnd [], .hotSlotGranted wRef 0 0 ⟨0, 0, 0⟩, .rowCopyAcked wRef,
    .rowCommitAcked wRef, .rowCommitTimeout wRef, .rowReturnAcked wRef 0, .rowForwardLost wRef, .query (wHdr 0 0) 0,
    .queryDispatch 0 ⟨.ok, 0⟩, .queryComplete 0 ⟨[], .ok⟩, .insert (wHdr 0 0) 0, .sideEntryCommit 0 ⟨.ok, 0⟩ .ok,
    .searchDelete (wHdr 0 0) 0, .indexActivate (wHdr 0 0) 0, .indexDeactivate (wHdr 0 0) 0, .indexDeactivateDone 0,
    .indexMerge (wHdr 0 0) 0, .mergeIdleTimer 0, .mergeBuildStart 0, .mergePublish 0, .mergeAbandon 0,
    .invoke (wHdr 0 0) 0, .callComplete 0 ⟨.ok, 0, [], false⟩, .register (wHdr 0 0) 0, .registerDone 0,
    .configRetire (wHdr 0 0) 0, .configRetireRecord 0, .load (wHdr 0 0) 0, .unbind (wHdr 0 0) 0] :
    List Instr).all (fun c => c.wf) = true := by decide +kernel

/-- And what fits is (part 2). -/
theorem test_well_formed_2 : ([
    .clusterLoadStart 0, .clusterLoadComplete 0, .clusterLoadFail 0 .poison, .clusterDrainComplete 0, .drainOverdue 0,
    .tileFailure 0 0, .objectActivate (wHdr 0 0) 0, .objectDeactivate (wHdr 0 0) 0, .setPolicy (wHdr 0 0) 0,
    .migrate (wHdr 0 0) 0, .shadowRegister (wHdr 0 0) 0, .shadowRetire (wHdr 0 0) 0, .shadowValidate (wHdr 0 0) 0,
    .placementExecute 0 [], .promotionStart 0, .promotionCommit 0 [], .demotionStart 0, .demotionCommit 0,
    .stagingProgrammed 0, .stalledAccessResume 0, .protectionAckTimeout 0, .streamRead (wHdr 0 0) 0,
    .streamMapCheck 0, .streamBlockWrite 0 .ok, .streamReadComplete 0, .tableInstall (wHdr 0 0) 0,
    .tableInstallBuilt 0, .tableSlotRetire (wHdr 0 0) 0, .slotQueuedZero 0, .invalPages (wHdr 0 0) 0,
    .invalContext (wHdr 0 0) 0, .invalTakesEffect 0, .translationWalkEnd (wTa .load), .faultRecordAcked 0 0 .ok,
    .faultDoorbellResend 0 0, .xltRetry (wHdr 0 0) 0, .xltAbort (wHdr 0 0) 0, .dmaCopy (wHdr 0 0) 0,
    .dmaTransferStart 0, .dmaTransferEnd 0 ⟨.ok, 0⟩ .ok, .rdShared (wHdr 0 0), .rdOwn (wHdr 0 0), .upgrade (wHdr 0 0),
    .wbDirty (wHdr 0 0) 0, .evictClean (wHdr 0 0), .snoopResponse 0 0 0 0, .snoopTimeout 0 0, .directoryRecallDone 0,
    .composeSetEntry (wHdr 0 0) 0, .composeRemoveEntry (wHdr 0 0) 0, .composeAdvance (wHdr 0 0) 0,
    .drainWindowClose 0, .entryDrainFree 0, .owner (wHdr 0 0) 0, .ownerRecordTakeUp 0 0, .ownerTakeUpTimeout 0,
    .meterPeriodEnd, .remoteCopyExpire 0 0, .commandSignal 0, .deadlockScan, .scrubPassEnd 0 [] [],
    .stragglerReport 0, .expelVote (wMsg false 0 0), .domainChangeRebuild (wMsg false 0 0) false, .rebuildFillDone,
    .domainChangeReplace (wMsg false 0 0) false, .replaceCommit, .domainChangeLeave (wMsg false 0 0) false,
    .drainBegin (wMsg false 0 0), .domainForm (wMsg false 0 0) [], .domainFormTimeout,
    .domainDissolve (wMsg false 0 0), .generationTakeUp 0 ⟨[], [], [], none⟩, .declareAgentDead (wMsg false 0 0),
    .agentReactivate (wMsg false 0 0), .agentEntryWrite (wMsg false 0 0), .dataSourceWrite (wMsg false 0 0),
    .masterConfirmWrite (wMsg false 0 0), .ethFrameReceive wFrm, .arpRequest 0, .neighbourSolicitation 0,
    .icmpEchoRequest 0 false, .pfcFrameReceive 0 0, .pauseFrameReceive, .cnpReceive 0, .cnpRateRecovery 0, .ethLinkUp,
    .ethLinkDown, .rdmaRead (wRd 0) [], .rdmaWrite (wRd 0) 0, .fetchAndAdd (wRd 0) 0, .compareAndSwap (wRd 0) 0 0,
    .roceSendRequest ⟨0, 0⟩ 0 0 (wHdr 0 0) 0 0, .roceAckReceive 0 0, .roceNakReceive 0 0 false, .roceAckTimeout 0,
    .qpEntryWrite (wMsg false 0 0), .i3cSetdasa 0, .i3cEntdaa 0, .i3cPrivateRead, .dapOpenTenant (wMsg false 0 0),
    .dapOpenManagement (wMsg false 0 0), .dapClose (wMsg false 0 0), .dapRead (wMsg false 0 0),
    .dapWrite (wMsg false 0 0), .dapWriteGuarded (wMsg false 0 0), .dapSubscribe (wMsg false 0 0),
    .dapUnsubscribe (wMsg false 0 0), .dapSessionIdleTimeout .i3c 0, .spdmGetVersion (wSm 0 0)] :
    List Instr).all (fun c => c.wf) = true := by decide +kernel

/-- And what fits is (part 3). -/
theorem test_well_formed_3 : ([
    .spdmGetCapabilities (wSm 0 0), .spdmNegotiateAlgorithms (wSm 0 0), .spdmGetDigests (wSm 0 0),
    .spdmGetCertificate (wSm 0 0), .spdmChallenge (wSm 0 0), .spdmGetMeasurements (wSm 0 0),
    .spdmKeyExchange (wSm 0 0) none, .spdmFinish (wSm 0 0) false, .spdmHeartbeat (wSm 0 0), .spdmKeyUpdate (wSm 0 0),
    .spdmEndSession (wSm 0 0), .spdmHeartbeatMissed 0, .arithCountersClear (wMsg false 0 0),
    .attnCountersClear (wMsg false 0 0), .tierCountersClear (wMsg false 0 0), .streamCountersClear (wMsg false 0 0),
    .oryxCountersClear (wMsg false 0 0), .tableCountersClear (wMsg false 0 0), .searchCountersClear (wMsg false 0 0),
    .xltCountersClear (wMsg false 0 0), .syncCountersClear (wMsg false 0 0), .ethCountersClear (wMsg false 0 0),
    .dictCountersClear (wMsg false 0 0), .regCountersClear (wMsg false 0 0), .saveNow (wMsg false 0 0), .saveComplete,
    .restoreDefaults (wMsg false 0 0), .cfgCommit (wMsg false 0 0), .cfgCommitTimeout, .cfgWalkStart 0, .cfgWalkEnd 0,
    .cfgPendingOverdue 0, .fwStageData (wMsg false 0 0), .fwVerify (wMsg false 0 0), .fwVerifyDone wGood,
    .fwHandover (wMsg false 0 0), .fwAlive, .fwHandoverTimeout, .imageKeyEnrol (wMsg false 0 0),
    .imageKeyRevoke (wMsg false 0 0), .ownerKeyEnrol (wMsg false 0 0), .ownerKeyRevoke (wMsg false 0 0),
    .fmKeyWrite (wMsg false 0 0), .keyCreate (wMsg false 0 0), .keyDestroy (wMsg false 0 0), .keySweepDone 0,
    .handover (wMsg false 0 0), .handoverReport (wMsg false 0 0), .conditionReportSign,
    .logCheckpoint (wMsg false 0 0), .lifetimeMeterUpdate ⟨[]⟩, .meterSnapshot, .meterAck (wMsg false 0 0),
    .meterBatchRead (wMsg false 0 0), .syncViewRead (wMsg false 0 0), .trustModeWrite (wMsg false 0 0),
    .regionEntryWrite (wMsg false 0 0), .packageNumberWrite (wMsg false 0 0), .heldReadyMaskWrite (wMsg false 0 0),
    .domainFloorWrite (wMsg false 0 0), .dictObjectWrite (wMsg false 0 0), .regWrite 0 0 0, .guardedRegWrite 0 0 0,
    .complementPortWrite 0 0 0, .guardTimeout 0, .regLoRead 0 0, .regHiRead 0 0, .regLoWrite 0 0 0, .regHiWrite 0 0 0,
    .rawDieWrite (wMsg false 0 0), .rawOffsetWrite (wMsg false 0 0), .rawDataRead (wMsg false 0 0),
    .rawDataWrite (wMsg false 0 0), .rawData64Read (wMsg false 0 0), .rawData64Write (wMsg false 0 0),
    .rawGuardedWrite (wMsg false 0 0), .mbxAckWrite 0 0 0, .mbxHeadRead (wHdr 0 0), .fabTileSelWrite 0 0,
    .homeDirProbeWrite 0 0, .scratchpadWindowAccess ⟨wHdr 0 0, false, 0⟩, .matrixVectorStep 0 ⟨wMv, wFeed⟩,
    .vectorStep 0 .add ⟨0, 0⟩ ⟨0, 0, 0⟩ ⟨false, 0, false, 0, [0, 0, 0, 0]⟩,
    .conversion 0 0 ⟨⟨0, 0⟩, 0, 0, 0⟩ ⟨false, 0, false, 0, [0, 0, 0, 0]⟩,
    .specialFunction 0 .exp2 ⟨⟨0, 0⟩, 0, 0, 0⟩ ⟨false, 0, false, 0, [0, 0, 0, 0]⟩, .crossLaneReduce 0 false wFeed,
    .tilePlainLoad (wTa .load) ⟨.ok, 0⟩, .tileAcquireLoad (wTa .load) ⟨.ok, 0⟩, .tileLoadReturn 0,
    .tilePlainStore ⟨wTa .load, wFeed⟩ .ok, .tileReleaseStore ⟨wTa .load, wFeed⟩ .ok,
    .tileAtomic (wTa .load) 0 ⟨.ok, 0⟩, .tileFence 0, .tileSignal 0 0 0, .tileWait 0 0 0 0, .repairSourceTimeout 0,
    .notificationTimeout 0, .rnrRetryTimer 0, .listReadReissue 0 ⟨.ok, 0⟩ ⟨.ok, 0⟩, .norFreeRelease,
    .unknownOpcode (wHdr 0 0) 0, .messageDiscard .i3c 0, .spdmUnsupportedRequest (wSm 0 0) 0] :
    List Instr).all (fun c => c.wf) = true := by decide +kernel


/-! ## The spec's worked examples -/

/-- The scratchpad of logical tile 1,234 (worked example of R28's section). -/
theorem test_scratchpad_of_tile_1234 : windowTile 0xFFF04D200000 = some 1234 := by decide

/-- Block offsets and what they reach (examples of R478). -/
theorem test_block_offsets :
    decodeOff 0x1238 = 0x1018 ∧ decodeOff 0x2640 = 0x2240 ∧ decodeOff 0x0F30 = 0x0F00 := by decide

/-- The MXFP4 block of the worked example of R66: 2^24 and a block that comes to 2.25. -/
theorem test_mxfp4_block_keeps_its_sum :
    mvAccumulate false 0x4B800000 (mvBlock 9 9 3 0x555 0x222 0x7E 0x7E) = (0x4B800001, 0) := by decide +kernel

/-- The block of the worked example of R74: 500.0, 3.3 and 0.001 to E4M3 with the scale byte 0x7F; the largest saturates. -/
theorem test_e4m3_block :
    (convBlock 0 5 0 [0x43FA0000, 0x40533333, 0x3A83126F] wUp).1 =
      ([⟨0x7E, flSat, false⟩, ⟨0x45, 0, false⟩, ⟨0x01, 0, false⟩], 0x7F) := by decide +kernel

/-- The sizes of the table of the worked example of R263's section: 2,520 records of 832 bytes to a shard, 16,270 shards, and
the place of row 12,345,678. -/
theorem test_row_of_the_adam_table :
    odRecord wAdam = 832 ∧ odPerShard wAdam = 2520 ∧ odShards wAdam = 16270 ∧
      rowAt wAdam 12345678 = 10274112384 := by decide +kernel

/-- package_number set to 679 in SELF_TEST over the implicit session (worked example of R465): OK, no bytes. -/
theorem test_package_number_set : leads (.packageNumberWrite wPn) wTest (fun t =>
    obj t 0x1021 1 == 679 && (match t.dict.i3cReplies with | r :: _ => r.status == .ok && r.valueLength == 0 | _ => false)) = true := by
  decide +kernel

/-- The same message with its last byte 0xFC: CHECK_FAIL, the number as it was (worked example of R465). -/
theorem test_package_number_bad_complement :
    leads (.packageNumberWrite { wPn with value := 0xFC5802A7 }) wTest (fun t =>
      obj t 0x1021 1 == obj wDap 0x1021 1 &&
        (match t.dict.i3cReplies with | r :: _ => r.status == .checkFail | _ => false)) = true := by decide +kernel

/-- The head slot of mailbox 5 of home die 2, and its doorbell target (worked example of R498's section). -/
theorem test_doorbell_target : pageDie 0xFFF800020140 = some 2 ∧ (0xFFF800020140 - pageBase) % 65536 / 64 = 5 := by decide

/-- Thirty-one notices wait: a DOORBELL is appended, OK, and the mailbox is full (worked example of R498's section). -/
theorem test_doorbell_appended : leads (.doorbell (wHdr 0xFFF800020140 0) 0x33) wBox31 (fun t =>
    (box t 2 5).notices.length == 32 && (match t.out with | .completion c :: _ => c.status == .ok | _ => false)) = true := by
  decide +kernel

/-- To the full mailbox of a home that is held in RETAIN: DEFER with retry_hint 0x00 (the same example). -/
theorem test_doorbell_to_held_home : leads (.doorbell (wHdr 0xFFF800020140 0) 0x33) wBox32 (fun t =>
    (box t 2 5).notices.length == 32 &&
      (match t.out with | .completion c :: _ => c.status == .defer && c.hint == 0 | _ => false)) = true := by decide +kernel

/-! ## Single rules -/

/-- The input at 54 V is accepted, below it is not (R500). -/
theorem test_input_range : inputGood 54000 = true ∧ inputGood 53999 = false ∧ inputGood 80000 = true ∧
    inputGood 80001 = false := by decide

/-- ADD wraps modulo 2^64 and answers the value before (R369). -/
theorem test_sync_add_wraps : leads (.syncAdd (wHdr 0 0) (fld [(0, 5), (24, 1), (64, 2 ^ 64 - 1)])) (wSyn (some 20) 3) (fun t =>
    (syncObj t 5).value == 2 && (match t.out with | .completion c :: _ => c.status == .ok && c.result == 3 | _ => false)) = true := by
  decide +kernel

/-- A CLAIM by the owner itself is UNSUPPORTED (R369). -/
theorem test_sync_claim_of_own_object : leads (.syncClaim (wHdr 0 0) (fld [(0, 5), (24, 3), (64, 9)])) (wSyn (some 20) 3) (fun t =>
    (syncObj t 5).value == 3 && (match t.out with | .completion c :: _ => c.status == .unsupported | _ => false)) = true := by
  decide +kernel

/-- What a WRITE stores is read back, its byte 0 at the lowest address (R6). -/
theorem test_write_then_read : leads (.write (wHdr 0x1000 1) 0x1234) wUp (fun t =>
    readMem t 0x1000 64 == 0x1234 && readMem t 0x1000 1 == 0x34 && readMem t 0xFFF 1 == 0) = true := by decide +kernel

/-- A request with a stale epoch is refused (R41). -/
theorem test_stale_epoch : leads (.read { wHdr 0x1000 1 with epoch := 1 } []) wUp (fun t =>
    match t.out with | .completion c :: _ => c.status == .epochStale | _ => false) = true := by decide +kernel

/-- An undefined opcode is UNSUPPORTED (R362). -/
theorem test_undefined_opcode : leads (.unknownOpcode (wHdr 0 0) 0x7F) wUp (fun t =>
    match t.out with | .completion c :: _ => c.status == .unsupported | _ => false) = true := by decide +kernel

/-- Binary32: 1.5 + 2.5, and the NaN that minimum passes over (R75). -/
theorem test_binary32 : add32 0x3FC00000 0x40200000 = 0x40800000 ∧ min32 0x7FC00000 0x3F800000 = 0x3F800000 := by
  decide +kernel

/-- INT32 accumulation stops at 2^31 - 1 and raises int_sat (R65). -/
theorem test_int32_clamps : accInt32 0x7FFFFFFF ⟨.fin false 1 0, 0⟩ = (0x7FFFFFFF, flInt) := by decide +kernel

/-- The words of the table have no bits, so no word spells a command. -/
theorem test_decode_none : decodeTableWord 32 0 = none := rfl

/-! ## The hypotheses of the statements can be met -/

theorem witness_StepRunsFrontCommand : (
(match step { State.reset with pending := [.inputStable 60000, .mgmtCoreReady] } with | .next _ => true | _ => false)
    : Bool) = true := by decide +kernel

theorem witness_EmptyQueueTicks : (
decide (State.reset.pending = [])
    : Bool) = true := by decide +kernel

theorem witness_StepKeepsSound : (
decide (Memory.wf wUp.mem ∧ wUp.log.length ≤ logCapacity) &&
  (match step { wUp with pending := [.write (wHdr 0x1000 2) 0x1234] } with | .next _ => true | _ => false)
    : Bool) = true := by decide +kernel

theorem witness_LogOnlyGrows : (
(match exec (.write (wHdr 0x1000 2) 0x1234) wUp with | .next _ => true | _ => false)
    : Bool) = true := by decide +kernel

theorem witness_CommandsLeaveGroups : (
!changesCustody (.write (wHdr 0x1000 2) 0x1234) && (match exec (.write
  (wHdr 0x1000 2) 0x1234) wUp with | .next _ => true | _ => false) && !changesMemory (.domainIdleEntry 3) &&
  (match exec (.domainIdleEntry 3) wUp with | .next _ => true | _ => false) && !changesSync (.write
  (wHdr 0x1000 2) 0x1234) && (match exec (.write (wHdr 0x1000 2) 0x1234) wUp with | .next _ => true | _ => false)
  && !changesConfig (.domainIdleEntry 3) && (match exec (.domainIdleEntry 3) wUp with | .next _ => true | _ => false)
  && !changesTables (.domainIdleEntry 3) && (match exec (.domainIdleEntry 3) wUp with | .next _ => true | _ => false)
  && !changesMaps (.domainIdleEntry 3) && (match exec (.domainIdleEntry 3) wUp with | .next _ => true | _ => false)
    : Bool) = true := by decide +kernel

theorem witness_NarrowCommandsFrame : (
dictionaryRow (.saveComplete) && (match exec (.saveComplete) wUp with | .next _ => true | _ => false) && answerRow
  (.icmpEchoRequest 0 0) && (match exec (.icmpEchoRequest 0 0) wEth with | .next _ => true | _ => false) && sessionRow
  (.ethLinkDown) && (match exec (.ethLinkDown) wEth with | .next _ => true | _ => false) && linkRow (.linkDown 0) &&
  (match exec (.linkDown 0) wUp with | .next _ => true | _ => false) && readingRow (.guardTimeout 0x1E) && (match exec
  (.guardTimeout 0x1E) wGd with | .next _ => true | _ => false) && receiverRow (.pauseFrameReceive) && (match exec
  (.pauseFrameReceive) wEth with | .next _ => true | _ => false) && domainTimerRow (.domainIdleEntry 3) && (match exec
  (.domainIdleEntry 3) wUp with | .next _ => true | _ => false)
    : Bool) = true := by decide +kernel

theorem witness_StandingLeftOnlyByReset : (
(let s := { wUp with pkg := .expelled }; let c : Instr := .domainIdleEntry 3; undisturbed s && s.pkg == .expelled
  && decide (c ≠ .inputLoss 0) && (match exec c s with | .next _ => true | _ => false))
    : Bool) = true := by decide +kernel

theorem witness_MemoryRequestsComplete : (
(((fun (s : State) =>
((fun (h : Hdr) =>
((fun (found : List (Nat × Nat)) =>
(match admitted ⟨0x01, h, 0, 0, found, false⟩ (memChecks s h 0) 0 (max 64 (64 * h.length)) s with
| some (rq, t) => decide (0 < h.length) && (
decide (h.offset < pageBase) && (
let ls := (linesOf h.offset (64 * h.length))
let u := (decodeLines found h.offset (64 * h.length) t)
(ls).all (fun l => decide (isFar t (extentOf (64 * l)) = false ∧ isFar u (extentOf
  (64 * l)) = false ∧ tget u.dir l = none ∧ lineBad u l = false)) && (
decide (u.unrebuilt = []) && (
true))))
| _ => false))
([])))
(wHdr 0x1000 2)))
(wUp)))
 && (((fun (s : State) =>
((fun (h : Hdr) =>
((fun (found : List (Nat × Nat)) =>
(match admitted ⟨0x02, h, 0, 0, found, false⟩ (memChecks s h 0) 0 (max 64 (64 * h.length)) s with
| some (rq, t) => decide (0 < h.length) && (
decide (h.offset < pageBase) && (
decide (openWrites t h.requester = []) && (
let ls := (linesOf h.offset (64 * h.length))
let u := (decodeLines found h.offset (64 * h.length) t)
(ls).all (fun l => decide (isFar t (extentOf (64 * l)) = false ∧ isFar u (extentOf
  (64 * l)) = false ∧ tget u.dir l = none ∧ lineBad u l = false)) && (
decide (u.unrebuilt = []) && (
true)))))
| _ => false))
([])))
(wHdr 0x1000 2)))
(wUp)))
 && (((fun (s : State) =>
((fun (h : Hdr) =>
((fun (data : Nat) =>
(match admitted ⟨0x03, h, 0, data, [], false⟩ (memChecks s h 1) (64 * h.length) (max 64 (64 * h.length)) s with
| some (rq, t) => decide (0 < h.length) && (
decide (h.offset < pageBase) && (
decide ((extentsOf h.offset (64 * h.length)).any (isMirror t) = false) && (
decide (farExtents t h.offset (64 * h.length) = []) && (
decide (framesFree t (framesNeeded t h.offset (64 * h.length)) = true) && (
(linesOf h.offset (64 * h.length)).all (fun l => decide (tget t.dir l = none)) && (
decide (t.unrebuilt = []) && (
let u := ((linesOf h.offset (64 * h.length)).foldl (fun u l => dropDir l u) t)
true)))))))
| _ => false))
(0x1234)))
(wHdr 0x1000 2)))
(wUp)))
 && (((fun (s : State) =>
((fun (h : Hdr) =>
((fun (data : Nat) =>
(match admitted ⟨0x04, h, 0, data, [], false⟩ (memChecks s h 1) (64 * h.length) (max 64 (64 * h.length)) s with
| some (rq, t) => decide (0 < h.length) && (
decide (h.offset < pageBase) && (
decide (openWrites t h.requester = []) && (
decide ((extentsOf h.offset (64 * h.length)).any (isMirror t) = false) && (
decide (farExtents t h.offset (64 * h.length) = []) && (
decide (framesFree t (framesNeeded t h.offset (64 * h.length)) = true) && (
(linesOf h.offset (64 * h.length)).all (fun l => decide (tget t.dir l = none)) && (
decide (t.unrebuilt = []) && (
let u := ((linesOf h.offset (64 * h.length)).foldl (fun u l => dropDir l u) t)
true))))))))
| _ => false))
(0x1234)))
(wHdr 0x1000 2)))
(wUp)))
 && (((fun (s : State) =>
((fun (w : WindowAccess) =>
(match windowTile w.hdr.offset with
| some tile => decide (w.write = false) && (
(match admitted (linkReq 0x01 w.hdr 0) (memChecks s w.hdr 0) 0 (max 64 (64 * w.hdr.length)) s with
| some (rq, t) => decide (0 < w.hdr.length) && (
let ls := (linesOf w.hdr.offset (64 * w.hdr.length))
let u := (decodeLines [] w.hdr.offset (64 * w.hdr.length) t)
(ls).all (fun l => decide (isFar t (extentOf (64 * l)) = false ∧ isFar u (extentOf
  (64 * l)) = false ∧ tget u.dir l = none ∧ lineBad u l = false)) && (
decide (u.unrebuilt = []) && (
true)))
| _ => false))
| _ => false))
(⟨wHdr windowBase 1, false, 0⟩)))
(wUp)))
 && (((fun (s : State) =>
((fun (w : WindowAccess) =>
(match windowTile w.hdr.offset with
| some tile => decide (w.write = true) && (
(match admitted ⟨0x03, w.hdr, 0, w.data, [], false⟩ (memChecks s w.hdr 1) (64 * w.hdr.length) (max 64
  (64 * w.hdr.length)) s with
| some (rq, t) => decide (0 < w.hdr.length) && (
decide ((extentsOf w.hdr.offset (64 * w.hdr.length)).any (isMirror t) = false) && (
decide (farExtents t w.hdr.offset (64 * w.hdr.length) = []) && (
decide (framesFree t (framesNeeded t w.hdr.offset (64 * w.hdr.length)) = true) && (
(linesOf w.hdr.offset (64 * w.hdr.length)).all (fun l => decide (tget t.dir l = none)) && (
decide (t.unrebuilt = []) && (
let u := ((linesOf w.hdr.offset (64 * w.hdr.length)).foldl (fun u l => dropDir l u) t)
true))))))
| _ => false))
| _ => false))
(⟨wHdr windowBase 1, true, 0⟩)))
(wUp)))
    : Bool) = true := by decide +kernel

theorem witness_AtomicsComplete : (
(((fun (s : State) =>
((fun (h : Hdr) =>
((fun (body : Nat) =>
(match admitted (linkReq 0x06 h body) (atomicChecks s h body) 32 64 s with
| some (rq, t) => decide (h.offset % atomicWidth body = 0) && (
decide (h.offset < windowBase) && (
decide (isMirror t (extentOf h.offset) = false) && (
decide (farExtents t h.offset (atomicWidth body) = []) && (
decide (framesFree t ((framesNeeded t h.offset (atomicWidth body)).filter (fun e => extState t e == none)) = true) &&
  (
decide (tget t.dir (h.offset / 64) = none) && (
decide (t.unrebuilt = []) && (
decide (anyBad t h.offset (atomicWidth body) = false) && (
let u := (dropDir (h.offset / 64) t)
let old := (readMem t h.offset (atomicWidth body))
true))))))))
| _ => false))
(fld [(136,1),(128,1),(0,7)])))
(wHdr 0x1008 0)))
(wUp)))
 && (((fun (s : State) =>
((fun (h : Hdr) =>
((fun (body : Nat) =>
((fun (data : Nat) =>
(match admitted ⟨0x07, h, body, data, [], false⟩ (publishChecks s h body) (64 + 64 * h.length) (max 64
  (64 * h.length)) s with
| some (rq, t) => decide (openWrites t h.requester = []) && (
decide (h.offset < pageBase) && (
decide (pubVersion body % 8 = 0) && (
decide (pubExpected body % 2 = 0) && (
decide (¬ (h.offset < pubVersion body + 8 ∧ pubVersion body < h.offset + 64 * h.length)) && (
decide (pubVersion body + 8 ≤ memRange t) && (
decide (0 < h.length) && (
decide ((extentsOf h.offset (64 * h.length) ++ [extentOf (pubVersion body)]).any (isMirror t) = false) && (
decide (pubsOn t (pubVersion body) = []) && (
decide (farExtents t h.offset (64 * h.length) = []) && (
decide (farExtents t (pubVersion body) 8 = []) && (
decide (framesFree t ((framesNeeded t h.offset (64 * h.length) ++ framesNeeded t
  (pubVersion body) 8).eraseDups) = true) && (
(pubLines rq).all (fun l => decide (tget t.dir l = none)) && (
decide (t.unrebuilt = []) && (
let u := ((pubLines rq).foldl (fun u l => dropDir l u) t)
decide (anyBad u (pubVersion body) 8 = false) && (
decide (readMem u (pubVersion body) 8 = pubExpected body) && (
let new := ((pubExpected body + 2) % 2 ^ 64)
let w := (storeLines rq h.offset (64 * h.length) data u)
let x := (storeBytes (pubVersion body) 8 new (takeFrames (pubVersion body) 8 w))
let ks := ((copiedObjects x (pubVersion body) 8).foldl sadd (copiedObjects x h.offset (64 * h.length)))
let y := (completeCopied rq .ok new ks (sendCopies rq (pubVersion body) 8 (pubExpected body) new (touch
  (pubVersion body) 8 (setStale [pubVersion body / 64] x))))
true))))))))))))))))
| _ => false))
(0x77)))
(fld [(64,0x8000),(0,0)])))
(wHdr 0x1000 2)))
(wUp)))
    : Bool) = true := by decide +kernel

theorem witness_SlotRequestsComplete : (
(((fun (s : State) =>
((fun (h : Hdr) =>
((fun (body : Nat) =>
((fun (die : Nat) =>
(match admitted (linkReq 0x0A h body) (doorbellChecks body) 16 64 s with
| some (rq, t) => decide (pageDie h.offset = some die) && (
decide (hasBlock die = true) && (
decide (diePresent t die = true) && (
decide ((h.offset - pageBase) % 65536 % 64 = 0) && (
decide ((h.offset - pageBase) % 65536 < 0x400) && (
decide ((box t die ((h.offset - pageBase) % 65536 / 64)).enable = true) && (
decide ((box t die ((h.offset - pageBase) % 65536 / 64)).notices.length < 32) && (
true)))))))
| _ => false))
(8)))
(0x33)))
(wHdr 0xFFF800080000 0)))
(wUp)))
 && (((fun (s : State) =>
((fun (h : Hdr) =>
((fun (body : Nat) =>
(match admitted (linkReq 0x05 h body) (flushChecks body) 16 64 s with
| some (rq, t) => decide (flushStart body % 64 = 0) && (
decide (flushBytes body % 64 = 0) && (
decide (0 < flushBytes body) && (
decide (t.extents.all (fun e => !isFar t e.1) = true) && (
true))))
| _ => false))
(fld [(0,0x1000),(64,0x1000)])))
(wHdr 0 0)))
(wUp)))
 && (((fun (s : State) =>
((fun (h : Hdr) =>
(match admitted (linkReq 0x0B h 0) probeChecks 0 64 s with
| some (rq, t) => decide (openOf t h.requester = []) && (
true)
| _ => false))
(wHdr 0 0)))
(wUp)))
 && (((fun (s : State) =>
((fun (h : Hdr) =>
((fun (op : Nat) =>
decide (accepts s h.via = true) && (
true))
(0x7F)))
(wHdr 0 0)))
(wUp)))
    : Bool) = true := by decide +kernel

theorem witness_SyncOperationsComplete : (
(((fun (s : State) =>
((fun (h : Hdr) =>
((fun (body : Nat) =>
(match admitted (linkReq 0x08 h body) (syncChecks (syncBad 1 body) (syncIndex body)) 32 64 s with
| some (rq, t) => decide ((syncObj t (syncIndex body)).owner = some h.tenant) && (
let o := (syncObj t (syncIndex body))
true)
| _ => false))
(fld [(0,5),(24,1),(64,9)])))
(wHdr 0 0)))
(wSyn (some 20) 3)))
 && (((fun (s : State) =>
((fun (h : Hdr) =>
((fun (body : Nat) =>
(match admitted (linkReq 0x08 h body) (syncChecks (syncBad 2 body) (syncIndex body)) 32 64 s with
| some (rq, t) => decide ((syncObj t (syncIndex body)).owner = some h.tenant) && (
true)
| _ => false))
(fld [(0,5),(24,2),(64,9)])))
(wHdr 0 0)))
(wSyn (some 20) 3)))
 && (((fun (s : State) =>
((fun (h : Hdr) =>
((fun (body : Nat) =>
(match admitted (linkReq 0x08 h body) (syncChecks (syncBad 3 body) (syncIndex body)) 32 64 s with
| some (rq, t) => decide ((syncObj t (syncIndex body)).owner = none) && (
true)
| _ => false))
(fld [(0,5),(24,3),(64,9)])))
(wHdr 0 0)))
(wSyn none 3)))
 && (((fun (s : State) =>
((fun (h : Hdr) =>
((fun (body : Nat) =>
(match admitted (linkReq 0x08 h body) (syncChecks (syncBad 4 body) (syncIndex body)) 32 64 s with
| some (rq, t) => decide ((syncObj t (syncIndex body)).owner = some h.tenant) && (
decide ((syncObj t (syncIndex body)).waiters = []) && (
true))
| _ => false))
(fld [(0,5),(24,4),(64,9)])))
(wHdr 0 0)))
(wSyn (some 20) 3)))
 && (((fun (s : State) =>
((fun (h : Hdr) =>
((fun (body : Nat) =>
(match admitted (linkReq 0x08 h body) (syncChecks (syncBad 5 body) (syncIndex body)) 32 64 s with
| some (rq, t) => decide ((syncObj t (syncIndex body)).owner = some h.tenant) && (
let o := (syncObj t (syncIndex body))
let stay := (o.waiters.filter (fun w => !isWaiter h.requester (syncOperand body) w))
true)
| _ => false))
(fld [(0,5),(24,5),(64,9)])))
(wHdr 0 0)))
(wSyn (some 20) 3)))
 && (((fun (s : State) =>
((fun (h : Hdr) =>
((fun (body : Nat) =>
(match admitted (linkReq 0x09 h body) (syncChecks (waitBad body) (syncIndex body)) 64 64 s with
| some (rq, t) => let o := (syncObj t (syncIndex body))
decide (bits body 347 288 % 64 = 0) && (
decide (o.owner = some h.tenant) && (
decide (condHolds (bits body 25 24) o.value (bits body 447 384) = false) && (
decide (o.waiters.any (isWaiter h.requester (bits body 511 448)) = false) && (
decide (o.waiters.length < 64) && (
let k := (if bits body 29 28 = 1 then WaiterKind.write h.requester (bits body 347 288) (bits body 383 352)
  (bits body 511 448) h.tenant else WaiterKind.doorbell h.requester (bits body 347 288) (bits body 383 352)
  (bits body 511 448) h.tenant)
true)))))
| _ => false))
(fld [(0,5),(24,1),(28,1),(288,0x40),(384,9),(448,7)])))
(wHdr 0 0)))
(wSyn (some 20) 3)))
 && (((fun (s : State) =>
((fun (acc : Nat) =>
(match tget s.owed acc with
| some o => decide (writeStalled s acc = false) && (
decide (o.package = obj s 0x1021 1) && (
decide (awake s (homeDom (o.object % 8)) = true) && (
true)))
| _ => false))
(4)))
({ wSyn (some 20) 3 with owed := [(4, ⟨0, 5, 2, 7, 20⟩)] })))
 && (((fun (s : State) =>
((fun (acc : Nat) =>
(match tget s.owed acc with
| some o => decide (writeStalled s acc = false) && (
decide (o.package ≠ obj s 0x1021 1) && (
true))
| _ => false))
(4)))
({ wUp with owed := [(4, ⟨1, 5, 2, 7, 20⟩)] })))
 && (((fun (s : State) =>
((fun (object : Nat) =>
(match s.notified.find? (fun x => x.1 == object) with
| some e => true
| _ => false))
(5)))
({ wUp with notified := [(5, 3)] })))
    : Bool) = true := by decide +kernel

theorem witness_SyncOfAnotherTenantBlocked : (
(((fun (s : State) =>
((fun (h : Hdr) =>
((fun (owner : Nat) =>
((fun (body : Nat) =>
decide (owner ≠ h.tenant) && (
(match admitted (linkReq 0x08 h body) (syncChecks (syncBad 1 body) (syncIndex body)) 32 64 s with
| some (rq, t) => decide ((syncObj t (syncIndex body)).owner = some owner) && (
true)
| _ => false)))
(fld [(0,5),(24,1),(64,9)])))
(21)))
(wHdr 0 0)))
(wSyn (some 21) 3)))
 && (((fun (s : State) =>
((fun (h : Hdr) =>
((fun (owner : Nat) =>
((fun (body : Nat) =>
decide (owner ≠ h.tenant) && (
(match admitted (linkReq 0x08 h body) (syncChecks (syncBad 2 body) (syncIndex body)) 32 64 s with
| some (rq, t) => decide ((syncObj t (syncIndex body)).owner = some owner) && (
true)
| _ => false)))
(fld [(0,5),(24,2),(64,9)])))
(21)))
(wHdr 0 0)))
(wSyn (some 21) 3)))
 && (((fun (s : State) =>
((fun (h : Hdr) =>
((fun (owner : Nat) =>
((fun (body : Nat) =>
decide (owner ≠ h.tenant) && (
(match admitted (linkReq 0x08 h body) (syncChecks (syncBad 3 body) (syncIndex body)) 32 64 s with
| some (rq, t) => decide ((syncObj t (syncIndex body)).owner = some owner) && (
true)
| _ => false)))
(fld [(0,5),(24,3),(64,9)])))
(21)))
(wHdr 0 0)))
(wSyn (some 21) 3)))
 && (((fun (s : State) =>
((fun (h : Hdr) =>
((fun (owner : Nat) =>
((fun (body : Nat) =>
decide (owner ≠ h.tenant) && (
(match admitted (linkReq 0x08 h body) (syncChecks (syncBad 4 body) (syncIndex body)) 32 64 s with
| some (rq, t) => decide ((syncObj t (syncIndex body)).owner = some owner) && (
true)
| _ => false)))
(fld [(0,5),(24,4),(64,9)])))
(21)))
(wHdr 0 0)))
(wSyn (some 21) 3)))
 && (((fun (s : State) =>
((fun (h : Hdr) =>
((fun (owner : Nat) =>
((fun (body : Nat) =>
decide (owner ≠ h.tenant) && (
(match admitted (linkReq 0x08 h body) (syncChecks (syncBad 5 body) (syncIndex body)) 32 64 s with
| some (rq, t) => decide ((syncObj t (syncIndex body)).owner = some owner) && (
true)
| _ => false)))
(fld [(0,5),(24,5),(64,9)])))
(21)))
(wHdr 0 0)))
(wSyn (some 21) 3)))
    : Bool) = true := by decide +kernel

theorem witness_CacheRequestsComplete : (
(((fun (s : State) =>
((fun (h : Hdr) =>
((fun (a : Nat) =>
let line := (h.offset / 64)
(match admitted (linkReq 0x20 h 0) (cohChecks h 0 s) 0 64 s with
| some (rq, t) => let u := (bump 0x6014 1 1 t)
decide (cohReady h a t = true) && (
decide (cohLine h u = true) && (
decide (u.unrebuilt = []) && (
decide (tget u.dir line = none) && (
(match freeWay u line with
| some way => true
| _ => false)))))
| _ => false))
(0)))
(wHdr 0x1000 1)))
(wCoh)))
 && (((fun (s : State) =>
((fun (h : Hdr) =>
((fun (a : Nat) =>
let line := (h.offset / 64)
(match admitted (linkReq 0x21 h 0) (cohChecks h 0 s) 0 64 s with
| some (rq, t) => let u := (bump 0x6014 1 1 t)
decide (cohReady h a t = true) && (
decide (cohLine h u = true) && (
decide (u.unrebuilt = []) && (
decide (tget u.dir line = none) && (
(match freeWay u line with
| some way => true
| _ => false)))))
| _ => false))
(0)))
(wHdr 0x1000 1)))
(wCoh)))
 && (((fun (s : State) =>
((fun (h : Hdr) =>
((fun (a : Nat) =>
let line := (h.offset / 64)
(match admitted (linkReq 0x22 h 0) (cohChecks h 0 s) 0 64 s with
| some (rq, t) => let u := (bump 0x6014 1 1 t)
decide (cohReady h a t = true) && (
decide (cohLine h u = true) && (
decide (u.unrebuilt = []) && (
decide (tget u.dir line = none) && (
(match freeWay u line with
| some way => true
| _ => false)))))
| _ => false))
(0)))
(wHdr 0x1000 1)))
(wCoh)))
 && (((fun (s : State) =>
((fun (h : Hdr) =>
((fun (data : Nat) =>
decide (0 < h.length) && (
(match admitted ⟨0x23, h, 0, data, [], false⟩ (cohChecks h 1 s) 64 64 s with
| some (rq, t) => (match agentOf t h.requester with
| some a => (match tget t.dir (h.offset / 64) with
| some e => decide (e.ptrs.head? = some a) && (
decide (3 ≤ e.st) && (
decide (isMirror t (extentOf h.offset) = false) && (
decide (t.snoops.find? (fun x => x.2.line == h.offset / 64 && x.2.agent == a) = none) && (
true))))
| _ => false)
| _ => false)
| _ => false)))
(5)))
(wHdr 0x1000 1)))
(wOwned 0)))
 && (((fun (s : State) =>
((fun (h : Hdr) =>
((fun (data : Nat) =>
decide (0 < h.length) && (
(match admitted (linkReq 0x24 h 0) (cohChecks h 0 s) 0 64 s with
| some (rq, t) => (match agentOf t h.requester with
| some a => (match tget t.dir (h.offset / 64) with
| some e => decide (e.ptrs.head? = some a) && (
decide (e.st = 3) && (
true))
| _ => false)
| _ => false)
| _ => false)))
(5)))
(wHdr 0x1000 1)))
(wOwned 0)))
 && (((fun (s : State) =>
((fun (seq : Nat) =>
((fun (agent : Nat) =>
((fun (result : Nat) =>
((fun (data : Nat) =>
(match tget s.snoops (snoopKey seq agent) with
| some x => decide (x.awaitsWb = false) && (
decide (bit result 5 = false) && (
true))
| _ => false))
(5)))
(8)))
(1)))
(7)))
(wSnp)))
 && (((fun (s : State) =>
((fun (seq : Nat) =>
((fun (agent : Nat) =>
((fun (result : Nat) =>
((fun (data : Nat) =>
decide (tget s.snoops (snoopKey seq agent) = none) && (
true))
(0)))
(0)))
(1)))
(8)))
(wSnp)))
 && (((fun (s : State) =>
((fun (seq : Nat) =>
((fun (agent : Nat) =>
(match tget s.snoops (snoopKey seq agent) with
| some x => decide (x.running = true) && (
let u := (bump 0x6014 3 1 (writePoison (64 * x.line) s))
(match tget u.dir x.line with
| some e => decide (e.broadcast = false) && (
decide (e.ptrs = [agent]) && (
decide (agentState (dropDir x.line u) agent = 1) && (
true)))
| _ => false))
| _ => false))
(1)))
(7)))
(wSnp)))
 && (((fun (s : State) =>
((fun (line : Nat) =>
decide (s.recalls.contains line = true) && (
decide (s.snoops.all (fun e => e.2.line != line || e.2.why != .recalled) = true) && (
true)))
(64)))
({ wCoh with recalls := [64] })))
    : Bool) = true := by decide +kernel

theorem witness_OwnedLinesAreSnooped : (
(((fun (s : State) =>
((fun (h : Hdr) =>
((fun (a : Nat) =>
let line := (h.offset / 64)
(match admitted (linkReq 0x20 h 0) (cohChecks h 0 s) 0 64 s with
| some (rq, t) => let u := (bump 0x6014 1 1 t)
decide (cohReady h a t = true) && (
decide (cohLine h u = true) && (
decide (u.unrebuilt = []) && (
(match tget u.dir line with
| some e => decide (3 ≤ e.st) && (
(match e.ptrs.head? with
| some o => decide (o ≠ a) && (
decide (agentState u o ≠ 3) && (
true))
| _ => false))
| _ => false))))
| _ => false))
(0)))
(wHdr 0x1000 1)))
(wOwned 1)))
 && (((fun (s : State) =>
((fun (h : Hdr) =>
((fun (a : Nat) =>
let line := (h.offset / 64)
(match admitted (linkReq 0x21 h 0) (cohChecks h 0 s) 0 64 s with
| some (rq, t) => let u := (bump 0x6014 1 1 t)
decide (cohReady h a t = true) && (
decide (cohLine h u = true) && (
decide (u.unrebuilt = []) && (
(match tget u.dir line with
| some e => decide (3 ≤ e.st) && (
(match e.ptrs.head? with
| some o => decide (o ≠ a) && (
decide (agentState u o ≠ 3) && (
true))
| _ => false))
| _ => false))))
| _ => false))
(0)))
(wHdr 0x1000 1)))
(wOwned 1)))
    : Bool) = true := by decide +kernel

theorem witness_CompositionCommandsComplete : (
(((fun (s : State) =>
((fun (h : Hdr) =>
((fun (body : Nat) =>
((fun (i : Nat) =>
(match admitted (linkReq 0x30 h body) (tableChecks (composeBad 1 body) false) 32 64 s with
| some (rq, t) => decide (fromManager rq t = true) && (
decide (¬ (obj t 0x7020 3 = 1 ∧ composeComp body ≠ 0)) && (
decide (compOf t (composeRequester body) = none) && (
decide (firstFree t.compTab 4096 = some i) && (
decide (entriesOf t (composeComp body) = 0) && (
true)))))
| _ => false))
(2)))
(fld [(0,1),(36,8),(52,4),(60,2),(72,21)])))
(wMan)))
(wKeys)))
 && (((fun (s : State) =>
((fun (h : Hdr) =>
((fun (body : Nat) =>
(match admitted (linkReq 0x30 h body) (tableChecks (composeBad 2 body) false) 32 64 s with
| some (rq, t) => decide (fromManager rq t = true) && (
(match compOf t (composeRequester body) with
| some (i, e) => decide (e.composition = composeComp body) && (
true)
| _ => false))
| _ => false))
(fld [(0,2),(36,7),(60,1)])))
(wMan)))
(wUp)))
 && (((fun (s : State) =>
((fun (h : Hdr) =>
((fun (body : Nat) =>
(match admitted (linkReq 0x30 h body) (tableChecks (composeBad 3 body) false) 32 64 s with
| some (rq, t) => let x := (tgetD t.comps (composeComp body) (Comp.fresh 0))
decide (fromManager rq t = true) && (
decide (entriesOf t (composeComp body) ≠ 0) && (
decide (composeEpoch body = (x.epoch + 1) % 256) && (
decide (x.drainOpen = false) && (
true))))
| _ => false))
(fld [(0,3),(52,4),(60,1)])))
(wMan)))
(wUp)))
 && (((fun (s : State) =>
((fun (c : Nat) =>
true)
(1)))
(wUp)))
 && (((fun (s : State) =>
((fun (h : Hdr) =>
((fun (body : Nat) =>
(match admitted (linkReq 0x31 h body) (tableChecks (ownerBad body) false) 32 64 s with
| some (rq, t) => decide (ownMaster t = true) && (
decide (fromManager rq t = true) && (
decide (ownerBase body % extentBytes = 0) && (
decide (ownerExtents body ≠ 0xFFFFFFFF) && (
decide (ownerExtents body ≠ 0) && (
decide (ownerOverlaps t body = false) && (
decide (tget t.owners.master (ownerIndex body) ≠ some body) && (
decide (ownerPackage body = obj t 0x1021 1) && (
true))))))))
| _ => false))
(fld [(120,3),(136,1),(176,2),(208,2097152)])))
(wMan)))
(wUp)))
 && (((fun (s : State) =>
((fun (record : Nat) =>
((fun (body : Nat) =>
decide (ownerPackage body = obj s 0x1021 1) && (
true))
(fld [(120,3),(136,1),(176,2),(208,2097152)])))
(3)))
(wUp)))
 && (((fun (s : State) =>
((fun (record : Nat) =>
((fun (body : Nat) =>
decide (ownerPackage body ≠ obj s 0x1021 1) && (
decide (tget s.owners.master record = some body) && (
true)))
(fld [(120,3),(136,1),(164,1),(176,2),(208,2097152)])))
(3)))
({ wUp with owners := ⟨[(3, fld [(120,3),(136,1),(164,1),(176,2),(208,2097152)])], [], []⟩ })))
 && (((fun (s : State) =>
((fun (record : Nat) =>
decide (s.owners.taken.contains record = false) && (
true))
(3)))
(wUp)))
    : Bool) = true := by decide +kernel

theorem witness_MetersAndAccessControlComplete : (
(((fun (s : State) =>
decide (s.pkg ≠ .off) && (
let r := (closeMeters (s.comps.map (·.1)) s)
true))
(wUp)))
 && (((fun (s : State) =>
((fun (requester : Nat) =>
(match compOf s requester with
| some (i, e) => decide (e.draining = true) && (
let u := (raiseEvent 0x7030 6 0 (errorQps requester
  (closeTenants requester { s with compTab := terase s.compTab i })))
decide (entriesOf u e.composition = 0) && (
true))
| _ => false))
(7)))
({ wUp with compTab := [(0, ⟨true, 7, 1, 20, 0, 0, 0⟩)] })))
 && (((fun (s : State) =>
((fun (m : DapMsg) =>
((fun (b : Batch) =>
((fun (r : List Batch) =>
(match dapAdmitted dapWrite (toObj m 0xC011 2) s with
| some (c, t) => decide (t.batches = b :: r) && (
decide (c.value = b.seq) && (
true))
| _ => false))
([])))
(⟨5, 64, 1⟩)))
(wMsg false 8 5)))
({ wDap with batches := [⟨5, 64, 1⟩] })))
 && (((fun (s : State) =>
((fun (m : DapMsg) =>
((fun (b : Batch) =>
((fun (r : List Batch) =>
(match dapAdmitted dapRead (toObj m 0xC011 1) s with
| some (c, t) => decide (t.batches = b :: r) && (
(match session t c.port c.id with
| some x => decide (c.segOffset = 0) && (
true)
| _ => false))
| _ => false))
([])))
(⟨5, 64, 1⟩)))
(wMsg false 0 0)))
({ wDap with batches := [⟨5, 64, 1⟩] })))
 && (((fun (s : State) =>
((fun (m : DapMsg) =>
(match dapAdmitted dapWrite (toObj m 0x7020 2) s with
| some (c, t) => decide (regionBad t c.value = false) && (
let u := ({ t with regions := tset t.regions (obj t 0x7020 1) c.value })
true)
| _ => false))
(wMsg false 32 (fld [(0,31),(64,20),(128,0x10000)]))))
(wDap)))
 && (((fun (s : State) =>
((fun (m : DapMsg) =>
(match dapAdmitted dapGuarded (toObj m 0x7020 3) s with
| some (c, t) => decide (c.value = 1) && (
decide (c.actor = 2) && (
decide (obj t 0x7020 3 = 0) && (
decide (t.compTab.any (fun e => e.2.composition != 0) = false) && (
decide (logRoom t 0x20 = true) && (
true)))))
| _ => false))
(wMsg true 1 1)))
({ wDap with objs := [(0x102006, 0x10000000000), (0x102102, 0x7F00000000), (0x702003, 0), (0x703102, 0)], compTab := [] })))
    : Bool) = true := by decide +kernel

theorem witness_LinkCommandsComplete : (
(((fun (s : State) =>
((fun (f : Flit) =>
decide ((link s f.link).st = .up ∨ (link s f.link).st = .quiescing) && (
decide (flitGood f = true) && (
decide (flitSeq f.image = ((link s f.link).lastRecv + 1) % 1024) && (
let u := (if 0 < f.wrong then countCorrected f.link s else s)
let w := (emit (.flitAck f.link (flitSeq f.image)) (setLink f.link (fun l =>
      let l := { l with lastRecv := flitSeq f.image, discarding := false }
      let l := if flitNakBit f.image then l else ackFlits l (flitAckSeq f.image)
      if flitCreditVc f.image < 7 then addCredits l (flitCreditVc f.image) (flitCredits f.image) else l) u))
true))))
(wFlit 0)))
(wUp)))
 && (((fun (s : State) =>
((fun (f : Flit) =>
decide ((link s f.link).st = .up ∨ (link s f.link).st = .quiescing) && (
let u := (if 0 < f.wrong ∧ f.wrong ≤ 6 then countCorrected f.link s else s)
decide ((flitGood f = false ∨ flitSeq f.image ≠ ((link s f.link).lastRecv + 1) % 1024)) && (
true)))
(wFlit 4)))
(wUp)))
 && (((fun (s : State) =>
((fun (n : Nat) =>
((fun (ackSeq : Nat) =>
decide ((link s n).st = .up ∨ (link s n).st = .quiescing) && (
let again := (if (link s n).acked = ackSeq then (link s n).replays + 1 else 1)
let l : Link := ({ link s n with acked := ackSeq, replays := again })
let u := (bump 0x7010 0x12 (unacked l) (setLink n (fun _ => l) s))
true))
(3)))
(0)))
(wUp)))
 && (((fun (s : State) =>
((fun (n : Nat) =>
((fun (lanes : Nat) =>
decide (serving s = true ∨ selfTesting s = true) && (
decide (n < 16) && (
true)))
(8)))
(0)))
(wUp)))
 && (((fun (s : State) =>
((fun (n : Nat) =>
decide ((link s n).st ≠ .down) && (
true))
(0)))
(wUp)))
 && (((fun (s : State) =>
((fun (n : Nat) =>
decide ((link s n).st = .up) && (
decide (recalCount s (some (n / 4)) = 0) && (
decide (recalCount s none < 4) && (
true))))
(0)))
(wUp)))
 && (((fun (s : State) =>
((fun (n : Nat) =>
decide ((link s n).st = .up) && (
decide (obj s 0xA030 2 < (link s n).corrected) && (
let u := (setLink n (fun l => { l with corrected := 0 }) s)
decide ((link u n).st = .up) && (
decide (recalCount u (some (n / 4)) = 0) && (
decide (recalCount u none < 4) && (
true))))))
(0)))
({ wUp with links := [(0, { Link.idle with st := .up, lanes := 8, corrected := 5000000 })] })))
 && (((fun (s : State) =>
((fun (n : Nat) =>
decide ((link s n).st = .quiescing) && (
decide (s.openReqs.all (fun e => e.2.req.hdr.via != .link n) = true) && (
decide (unacked (link s n) = 0) && (
true))))
(0)))
({ wUp with links := [(0, { Link.idle with st := .quiescing, lanes := 8 })] })))
 && (((fun (s : State) =>
((fun (n : Nat) =>
decide ((link s n).st = .recalibrating) && (
true))
(0)))
({ wUp with links := [(0, { Link.idle with st := .recalibrating, lanes := 8 })] })))
 && (((fun (s : State) =>
((fun (n : Nat) =>
decide ((link s n).st = .recalibrating) && (
true))
(0)))
({ wUp with links := [(0, { Link.idle with st := .recalibrating, lanes := 8 })] })))
 && (((fun (s : State) =>
((fun (slice : Nat) =>
((fun (line : Nat) =>
true)
(64)))
(1)))
(wUp)))
    : Bool) = true := by decide +kernel

theorem witness_BringUpCommandsComplete : (
(((fun (s : State) =>
((fun (mv : Nat) =>
decide (s.pkg = .off) && (
decide (54000 ≤ mv) && (
decide (mv ≤ 80000) && (
true))))
(60000)))
(State.reset)))
 && (((fun (s : State) =>
((fun (x : Straps) =>
((fun (ref : Bool) =>
decide (s.pkg = .off) && (
decide (s.inputOn = true) && (
true)))
(true)))
(⟨true, 0⟩)))
({ State.reset with inputOn := true })))
 && (((fun (s : State) =>
((fun (mv : Nat) =>
decide (s.inputOn = true) && (
decide (mv < 56000) && (
true)))
(55000)))
({ wUp with inputOn := true })))
 && (((fun (s : State) =>
((fun (mv : Nat) =>
decide ((mv < 54000 ∨ 80000 < mv)) && (
true))
(0)))
(wUp)))
 && (((fun (s : State) =>
((fun (fa : FwFound) =>
((fun (fb : FwFound) =>
((fun (broken : Option Nat) =>
decide (s.pkg = .fumaroleOnly) && (
decide (undisturbed s = true) && (
decide (s.fw.running = none) && (
let v := (checkLog broken (setDom 1 (fun d => { d with st := 0 }) s))
let u := (setFwSlot 1 (foundSlot v fb) (setFwSlot 0 (foundSlot v fa) v))
let other := (1 - u.fw.marker)
true))))
(none)))
(wGood)))
(wGood)))
(wFum)))
 && (((fun (s : State) =>
decide (s.pkg = .fumaroleOnly) && (
decide (undisturbed s = true) && (
decide (s.fw.running.isSome = true) && (
true))))
({ wFum with fw := { wFum.fw with running := some 0 } })))
 && (((fun (s : State) =>
((fun (k : Nat) =>
((fun (cs : List SelfCause) =>
((fun (flash : Option FlashFound) =>
((fun (w : WarmCheck) =>
decide (mayEnd s k = true) && (
decide (cs.find? (fun c => critical k c.cause) = none) && (
let u := (setObj 0x1041 k (stepWord (if cs.isEmpty then 2 else 3) cs) { s with selfDone := sadd s.selfDone k })
true)))
(⟨[], false⟩)))
(none)))
([])))
(2)))
(wSelf 2)))
 && (((fun (s : State) =>
((fun (k : Nat) =>
((fun (cs : List SelfCause) =>
((fun (c : SelfCause) =>
((fun (flash : Option FlashFound) =>
((fun (w : WarmCheck) =>
decide (mayEnd s k = true) && (
decide (cs.find? (fun c => critical k c.cause) = some c) && (
true)))
(⟨[], false⟩)))
(none)))
(⟨1, 0, 0⟩)))
([⟨1, 0, 0⟩])))
(2)))
(wSelf 2)))
 && (((fun (s : State) =>
((fun (k : Nat) =>
((fun (die : Nat) =>
((fun (unit : Nat) =>
decide (mayEnd s k = true) && (
decide (critical k 0xFE = true) && (
true)))
(1)))
(8)))
(4)))
(wSelf 4)))
    : Bool) = true := by decide +kernel

theorem witness_ResetCompletes : (
(((fun (s : State) =>
decide (s.pkg ≠ .off) && (
true))
(wUp)))
 && (((fun (s : State) =>
decide (s.resetting.held = true) && (
decide (s.norFree = false) && (
true)))
({ wUp with resetting := ⟨none, true, false, 0⟩ })))
 && (((fun (s : State) =>
((fun (x : Straps) =>
decide (s.resetting.held = true) && (
decide (s.norFree = false) && (
true)))
(⟨true, 0⟩)))
({ wUp with resetting := ⟨none, true, false, 0⟩ })))
 && (((fun (s : State) =>
((fun (m : DapMsg) =>
(match dapAdmitted dapGuarded (toObj m 0x1040 1) s with
| some (c, t) => decide (c.value = 1) && (
decide (logRoom t 0x20 = true) && (
true))
| _ => false))
(wMsg true 1 1)))
(wDap)))
 && (((fun (s : State) =>
decide (s.resetting.soon = true) && (
decide (s.resetting.cause = none) && (
decide (s.pkg ≠ .off) && (
true))))
({ wUp with resetting := ⟨none, false, true, 0⟩ })))
 && (((fun (s : State) =>
((fun (cause : Nat) =>
decide (s.resetting.cause = some cause) && (
decide (s.resetting.held = false) && (
true)))
(2)))
({ wUp with resetting := ⟨some 2, false, false, 0⟩ })))
    : Bool) = true := by decide +kernel

theorem witness_StandingCausesComplete : (
(((fun (s : State) =>
decide (s.pkg ≠ .off) && (
decide (fastDoms.any (fun d => decide ((dom (setObj 0x2001 2 0 s) d).st ≤ 1)) = true) && (
true)))
(wUp)))
 && (((fun (s : State) =>
((fun (die : Nat) =>
decide (s.pkg ≠ .off) && (
decide ((raiseEvent 0x2000 8 3 s).thermTrip = false) && (
true)))
(3)))
(wUp)))
 && (((fun (s : State) =>
((fun (m : DapMsg) =>
(match dapAdmitted dapGuarded (toObj m 0x1040 2) s with
| some (c, t) => decide (c.value = 1) && (
decide (logRoom t 0x20 = true) && (
true))
| _ => false))
(wMsg true 1 1)))
(wDap)))
 && (((fun (s : State) =>
((fun (m : DapMsg) =>
(match dapAdmitted dapGuarded (toObj m 0xA060 1) s with
| some (c, t) => decide (c.value = 1) && (
decide (t.pkg = .ready) && (
decide (logRoom t 0x20 = true) && (
true)))
| _ => false))
(wMsg true 1 1)))
(wDap)))
 && (((fun (s : State) =>
decide (dictLive s = true) && (
decide (s.fw.running.isSome = true) && (
decide (s.fw.restarting = false) && (
true))))
(wFw 0)))
    : Bool) = true := by decide +kernel

theorem witness_StandingEntered : (
(((fun (s : State) =>
((fun (die : Nat) =>
decide (serving s = true) && (
true))
(3)))
(wUp)))
    : Bool) = true := by decide +kernel

theorem witness_FirmwareUpdatesComplete : (
(((fun (s : State) =>
((fun (m : DapMsg) =>
(match dapAdmitted dapWrite (toObj m 0x1050 4) s with
| some (c, t) => decide (c.actor = 2) && (
decide (c.bytes = 4096) && (
decide (obj t 0x1050 3 % 4096 = 0) && (
decide (obj t 0x1050 3 ≤ 8384512) && (
decide (t.fw.verifying = false) && (
true)))))
| _ => false))
(wMsg false 4096 5)))
(wFw 0)))
 && (((fun (s : State) =>
((fun (m : DapMsg) =>
(match dapAdmitted dapWrite (toObj m 0x1050 5) s with
| some (c, t) => decide (c.actor = 2) && (
decide (c.value = 1) && (
decide (t.fw.verifying = false) && (
true)))
| _ => false))
(wMsg false 1 1)))
(wFw 0)))
 && (((fun (s : State) =>
((fun (f : FwFound) =>
decide (s.fw.verifying = true) && (
true))
(wGood)))
({ wFw 0 with fw := { (wFw 0).fw with verifying := true } })))
 && (((fun (s : State) =>
((fun (m : DapMsg) =>
((fun (old : Nat) =>
(match dapAdmitted dapGuarded (toObj m 0x1050 6) s with
| some (c, t) => decide (c.actor = 2) && (
decide (c.value ≤ 1) && (
decide (t.fw.running = some old) && (
decide (old ≤ 1) && (
decide (old ≠ c.value) && (
decide ((fwSlot t c.value).st = 2) && (
decide (logRoom t 0x20 = true) && (
true)))))))
| _ => false))
(0)))
(wMsg true 1 1)))
({ wFw 0 with fw := { (wFw 0).fw with b := ⟨2, 4, 1, 7, []⟩, a := ⟨4, 3, 1, 7, []⟩ } })))
 && (((fun (s : State) =>
((fun (k : Nat) =>
((fun (old : Nat) =>
decide (s.fw.restarting = true) && (
decide (s.fw.running = some k) && (
decide (s.fw.trial = some old) && (
true))))
(0)))
(1)))
({ wFw 1 with fw := { (wFw 1).fw with restarting := true, trial := some 0 } })))
 && (((fun (s : State) =>
((fun (k : Nat) =>
((fun (old : Nat) =>
decide (s.fw.restarting = true) && (
decide (s.fw.running = some k) && (
decide (s.fw.trial = some old) && (
decide (k ≤ 1) && (
decide (old ≤ 1) && (
decide (k ≠ old) && (
true)))))))
(0)))
(1)))
({ wFw 1 with fw := { (wFw 1).fw with restarting := true, trial := some 0 } })))
    : Bool) = true := by decide +kernel

theorem witness_PowerCommandsComplete : (
(((fun (s : State) =>
((fun (p : Nat) =>
((fun (ma : Nat) =>
((fun (mv : Nat) =>
((fun (tempDc : Nat) =>
((fun (tempDie : Nat) =>
decide (s.pkg ≠ .off) && (
true))
(3)))
(50)))
(60000)))
(20000)))
(900)))
(wUp)))
 && (((fun (s : State) =>
((fun (d : Nat) =>
decide (managed s d = true) && (
decide ((dom s d).st = 0) && (
decide (1 ≤ floorOf s d) && (
true))))
(16)))
({ wUp with objs := tset wUp.objs 0x211002 3 })))
 && (((fun (s : State) =>
((fun (d : Nat) =>
decide ((dom s d).st = 1) && (
true))
(16)))
({ wUp with doms := (List.range 28).map (fun d => (d, if d = 16 then ({ Domain.off with st := 1 } : Domain) else { Domain.off with st := 0 })) })))
 && (((fun (s : State) =>
((fun (d : Nat) =>
decide (maySleep s d = true) && (
decide ((dom s d).st = 1) && (
decide (2 ≤ floorOf s d) && (
decide (mayRetain s d = true) && (
true)))))
(16)))
({ { wUp with doms := (List.range 28).map (fun d => (d, if d = 16 then ({ Domain.off with st := 1 } : Domain) else { Domain.off with st := 0 })) } with objs := tset wUp.objs 0x211002 3 })))
 && (((fun (s : State) =>
((fun (d : Nat) =>
decide (maySleep s d = true) && (
decide ((dom s d).st = 2) && (
decide ((dom s d).waking = false) && (
decide (3 ≤ floorOf s d) && (
decide (mayRetain s d = true) && (
let u := (if 8 ≤ d ∧ d < 16 then recallAll (some (d - 8)) s else s)
true))))))
(16)))
({ { wUp with doms := (List.range 28).map (fun d => (d, if d = 16 then ({ Domain.off with st := 2 } : Domain) else { Domain.off with st := 0 })) } with objs := tset wUp.objs 0x211002 3 })))
 && (((fun (s : State) =>
((fun (d : Nat) =>
decide (managed s d = true) && (
decide (2 ≤ (dom s d).st) && (
decide ((dom s d).held = false) && (
decide ((dom s d).waking = false) && (
true)))))
(16)))
({ wUp with doms := (List.range 28).map (fun d => (d, if d = 16 then ({ Domain.off with st := 2 } : Domain) else { Domain.off with st := 0 })) })))
 && (((fun (s : State) =>
((fun (d : Nat) =>
decide (canWake s d = true) && (
let u := (setDom d (fun x => { x with checking := true }) s)
true))
(16)))
({ { wUp with doms := (List.range 28).map (fun d => (d, if d = 16 then ({ Domain.off with st := 2, waking := true } : Domain) else { Domain.off with st := 0 })) } with objs := tset wUp.objs 0x200102 1 })))
 && (((fun (s : State) =>
((fun (d : Nat) =>
decide ((dom s d).checking = true) && (
decide ((outdated s d = false ∨ mayOff s d = true ∨ ¬ (8 ≤ d ∧ d < 16))) && (
true)))
(16)))
({ wUp with doms := (List.range 28).map (fun d => (d, if d = 16 then ({ Domain.off with st := 2, waking := true, checking := true } : Domain) else { Domain.off with st := 0 })) })))
 && (((fun (s : State) =>
((fun (d : Nat) =>
decide ((dom s d).waking = true) && (
decide ((dom s d).failed = false) && (
let u := (setDom d (fun x => { x with failed := true, checking := false, failures := x.failures + 1 }) (bump
  (0x2100 + d) 6 1 (raiseEvent 0x2000 8 (4 + d * 2 ^ 8) s)))
true)))
(16)))
({ wUp with doms := (List.range 28).map (fun d => (d, if d = 16 then ({ Domain.off with st := 2, waking := true } : Domain) else { Domain.off with st := 0 })) })))
 && (((fun (s : State) =>
((fun (d : Nat) =>
decide ((dom s d).waking = true) && (
decide ((dom s d).failed = true) && (
true)))
(16)))
({ wUp with doms := (List.range 28).map (fun d => (d, if d = 16 then ({ Domain.off with st := 2, waking := true, failed := true } : Domain) else { Domain.off with st := 0 })) })))
    : Bool) = true := by decide +kernel

theorem witness_HeldDiesAndFloorsComplete : (
(((fun (s : State) =>
((fun (die : Nat) =>
decide (s.pkg ≠ .off) && (
decide (bit (obj s 0xA020 1) die = false) && (
decide (diePresent s die = true) && (
decide (die < 8) && (
decide (2 ≤ (dom s (homeDom die)).st) && (
true))))))
(3)))
({ wUp with doms := (List.range 28).map (fun d => (d, if d = homeDom 3 then { Domain.off with st := 2 } else { Domain.off with st := 0 })) })))
 && (((fun (s : State) =>
((fun (die : Nat) =>
decide (s.pkg ≠ .off) && (
decide (bit (obj s 0xA020 1) die = false) && (
decide (diePresent s die = true) && (
decide (die < 8) && (
decide ((dom s (homeDom die)).st ≤ 1) && (
true))))))
(3)))
(wUp)))
 && (((fun (s : State) =>
((fun (die : Nat) =>
decide (s.pkg ≠ .off) && (
decide (bit (obj s 0xA020 1) die = false) && (
decide (diePresent s die = true) && (
decide (8 ≤ die) && (
decide (die < 16) && (
true))))))
(9)))
(wUp)))
 && (((fun (s : State) =>
((fun (die : Nat) =>
decide (s.pkg ≠ .off) && (
decide (bit (obj s 0xA020 1) die = false) && (
decide (diePresent s die = true) && (
decide (die = 0x18 ∨ die = 0x19) && (
true)))))
(0x18)))
(wUp)))
 && (((fun (s : State) =>
((fun (die : Nat) =>
decide (s.pkg ≠ .off) && (
decide (bit (obj s 0xA020 1) die = false) && (
decide (diePresent s die = true) && (
decide (0x1A ≤ die) && (
decide (die ≤ 0x1D) && (
decide (staging s = 0) && (
true)))))))
(0x1A)))
(wUp)))
 && (((fun (s : State) =>
((fun (m : DapMsg) =>
(match dapAdmitted dapGuarded (toObj m 0xA020 2) s with
| some (c, t) => decide (c.value ≤ 31) && (
decide (bit (obj t 0xA020 1) c.value = true) && (
decide (t.retest = none) && (
decide (logRoom t 0x20 = true) && (
true))))
| _ => false))
(wMsg true 1 3)))
({ wDap with objs := tset wDap.objs 0xA02001 8 })))
 && (((fun (s : State) =>
((fun (die : Nat) =>
((fun (causes : List (Nat × SelfCause)) =>
((fun (nand : Bool) =>
((fun (lines : List Nat) =>
decide (s.retest = some die) && (
let u := (lines.foldl (fun s l => if die < 8 ∧ homeOf s
  (64 * l) = die then foundBad s l else s) { s with retest := none })
let bad := (causes.any (fun c => critical c.1 c.2.cause) || (decide (0x1A ≤ die ∧ die ≤ 0x1D) && !nand))
let w := (stepWord (if bad then 4 else if (causes.map (·.2)).isEmpty then 2 else 3) (causes.map (·.2)))
let v := (logRepair 6 die 0 w (setObj 0xA020 3 w u))
true))
([])))
(true)))
([])))
(3)))
({ wUp with retest := some 3 })))
 && (((fun (s : State) =>
((fun (m : DapMsg) =>
(match dapAdmitted dapWrite (toObj m 0x2011 1) s with
| some (c, t) => decide ((List.range 8).any (fun n => bit c.value n && !heldReady t n && (dom t
  (homeDom n)).held) = false) && (
true)
| _ => false))
(wMsg false 1 3)))
(wDap)))
 && (((fun (s : State) =>
((fun (m : DapMsg) =>
decide (0x2100 ≤ m.index) && (
decide (m.index ≤ 0x211B) && (
(match dapAdmitted dapWrite (toObj m m.index 2) s with
| some (c, t) => decide (c.value ≤ deepest (m.index - 0x2100)) && (
decide (domPresent t (m.index - 0x2100) = true) && (
true))
| _ => false))))
({ wMsg false 1 2 with index := 0x2110 })))
(wDap)))
    : Bool) = true := by decide +kernel

theorem witness_ConfigurationCommandsComplete : (
(((fun (s : State) =>
((fun (h : Hdr) =>
((fun (body : Nat) =>
(match admitted (linkReq 0x14 h body) (postedChecks (cfgBad 1 body) none (cfgImgBytes body == 0xFFFFFFFF || decide
  (4194304 < cfgImgBytes body)) false []) 64 64 s with
| some (rq, t) => decide ((bit body 80 = true → recordAt t (bits body 79 32) 32 = true)) && (
decide (cfgImgBytes body ≠ 0) && (
(match freeEntry t with
| some n => true
| _ => false)))
| _ => false))
(fld [(0, 1), (208, 64)])))
(wHdr 0 0)))
(wUp)))
 && (((fun (s : State) =>
((fun (acc : Nat) =>
(match tget s.registering acc with
| some p => (match tget s.reserved acc with
| some n => decide (farExtents s (cfgImgOffset p.req.body) (cfgImgBytes p.req.body) = []) && (
let found := (registerStatus s (cfgImgOffset p.req.body) (cfgImgBytes p.req.body))
let u := ({ s with reserved := terase s.reserved acc, registering := terase s.registering acc })
true)
| _ => false)
| _ => false))
(1)))
({ wUp with registering := [(1, wPc 0x14 (fld [(0, 1), (208, 64)]))], reserved := [(1, 0)] })))
 && (((fun (s : State) =>
((fun (h : Hdr) =>
((fun (body : Nat) =>
(match admitted (linkReq 0x14 h body) (postedChecks (cfgBad 2 body) none false false []) 64 64 s with
| some (rq, t) => decide ((bit body 80 = true → recordAt t (bits body 79 32) 32 = true)) && (
(match tget t.registry (cfgSlot body) with
| some e => decide (e.tenant = h.tenant) && (
true)
| _ => false))
| _ => false))
(2)))
(wHdr 0 0)))
(wJe)))
 && (((fun (s : State) =>
((fun (acc : Nat) =>
(match tget s.retiring acc with
| some p => decide (loadingFrom s (cfgSlot p.req.body) = false) && (
true)
| _ => false))
(1)))
({ wUp with retiring := [(1, wPc 0x14 2)] })))
 && (((fun (s : State) =>
((fun (h : Hdr) =>
((fun (body : Nat) =>
(match admitted (linkReq 0x14 h body) (postedChecks (cfgBad 3 body) none false (!fabricPresent s
  (cfgCluster body / 16)) []) 64 64 s with
| some (rq, t) => decide (bit body 80 = false) && (
decide (t.pkg ≠ .draining) && (
decide (cfgTenant body = h.tenant) && (
(match tget t.registry (cfgSlot body) with
| some e => decide (e.tenant = h.tenant) && (
decide (cfgContext body ≠ 0) && (
decide (tget t.handles (cfgHandle body) = none) && (
decide (cfgRole body < e.image.roles) && (
decide ((cluster t (cfgCluster body)).st = .empty ∨ (cluster t (cfgCluster body)).st = .running) && (
decide ((cluster t (cfgCluster body)).handle = none) && (
decide (placeByte (readMem t e.image.offset e.image.bytes) (cfgRole body) 16 = 0xFF) && (
true)))))))
| _ => false))))
| _ => false))
(fld [(0, 3), (192, 5), (204, 20)])))
(wHdr 0 0)))
({ wJe with handles := [] })))
 && (((fun (s : State) =>
((fun (h : Hdr) =>
((fun (body : Nat) =>
(match admitted (linkReq 0x14 h body) (postedChecks (cfgBad 4 body) none false false []) 64 64 s with
| some (rq, t) => decide ((bit body 80 = true → recordAt t (bits body 79 32) 32 = true)) && (
(match tget t.handles (cfgHandle body) with
| some x => decide (x.tenant = h.tenant) && (
true)
| _ => false))
| _ => false))
(4)))
(wHdr 0 0)))
(wJe)))
    : Bool) = true := by decide +kernel

theorem witness_ClusterCommandsComplete : (
(((fun (s : State) =>
((fun (c : Nat) =>
((fun (j : LoadJob) =>
decide ((cluster s c).st = .empty) && (
decide ((cluster s c).load = some j) && (
decide (awake s (fabricDom (c / 16)) = true) && (
true))))
(wJob)))
(3)))
(wCl { Cluster.zero with load := some wJob })))
 && (((fun (s : State) =>
((fun (c : Nat) =>
decide ((cluster s c).st = .loading) && (
(match (cluster s c).load with
| some j => decide (j.dropped = false) && (
decide (anyBad s j.image.offset j.image.bytes = false) && (
decide (shake256 j.image.bytes (readMem s j.image.offset j.image.bytes) = j.image.digest) && (
true)))
| _ => false)))
(3)))
(wCl
  { Cluster.zero with st := .loading, load := some { wJob with image := { wIm with bytes := 64, digest := shake256 64 0 } } })))
 && (((fun (s : State) =>
((fun (c : Nat) =>
((fun (why : LoadFault) =>
((fun (st : Status) =>
decide ((cluster s c).st = .loading) && (
(match (cluster s c).load with
| some j => decide (j.dropped = false) && (
(match j.acc with
| some a => (match tget s.loading a with
| some p => decide (st = (if why = .poison then .poison else .checkFail)) && (
true)
| _ => false)
| _ => false))
| _ => false)))
(.poison)))
(.poison)))
(3)))
({ wCl { Cluster.zero with st := .loading, load := some { wJob with acc := some 1 } } with loading := [(1, wPc 0x14 0)] })))
 && (((fun (s : State) =>
((fun (c : Nat) =>
decide ((cluster s c).st = .draining) && (
decide (callsOn s c = []) && (
decide ((cluster s c).handle = none) && (
true))))
(3)))
(wCl { Cluster.zero with st := .draining })))
 && (((fun (s : State) =>
((fun (c : Nat) =>
decide ((cluster s c).st = .draining) && (
decide (callsOn s c = []) && (
(match (cluster s c).handle with
| some h => (match tget s.handles h with
| some y => decide ((tget y.current (cluster s c).role = some c ∨ tget y.staged (cluster s c).role = some c)) && (
true)
| _ => false)
| _ => false))))
(3)))
({ wCl { Cluster.zero with st := .draining, handle := some 0 } with handles := [(0, wHd)] })))
 && (((fun (s : State) =>
((fun (c : Nat) =>
decide ((cluster s c).st = .draining) && (
decide (obj s 0x4020 4 ≠ 0) && (
true)))
(3)))
({ wCl { Cluster.zero with st := .draining } with objs := [(0x402004, 1)] })))
 && (((fun (s : State) =>
((fun (slice : Nat) =>
decide (awake s (fabricDom slice) = true) && (
true))
(0)))
(wUp)))
 && (((fun (s : State) =>
((fun (c : Nat) =>
((fun (j : Nat) =>
decide ((cluster s c).st = .armed) && (
decide ((cluster s c).spares < 2) && (
true)))
(0)))
(3)))
(wCl { Cluster.zero with st := .armed })))
 && (((fun (s : State) =>
((fun (c : Nat) =>
((fun (j : Nat) =>
decide ((cluster s c).st = .running) && (
decide ((cluster s c).spares < 2) && (
true)))
(0)))
(3)))
(wCl { Cluster.zero with st := .running })))
 && (((fun (s : State) =>
((fun (c : Nat) =>
((fun (j : Nat) =>
decide ((cluster s c).st = .loading) && (
(match (cluster s c).load with
| some l => decide ((cluster s c).spares < 2) && (
true)
| _ => false)))
(0)))
(3)))
(wCl { Cluster.zero with st := .loading, load := some wJob })))
 && (((fun (s : State) =>
((fun (c : Nat) =>
((fun (j : Nat) =>
decide ((cluster s c).st = .armed ∨ (cluster s c).st = .running) && (
decide (2 ≤ (cluster s c).spares) && (
decide ((cluster s c).load = none) && (
true))))
(0)))
(3)))
(wCl { Cluster.zero with st := .armed, spares := 2 })))
    : Bool) = true := by decide +kernel

theorem witness_CallsComplete : (
(((fun (s : State) =>
((fun (h : Hdr) =>
((fun (body : Nat) =>
(match admitted (linkReq 0x13 h body) (postedChecks (invBad body) (some 64) (invTooLong s h body) false (handleDoms s
  (invHandle body))) (32 + 16 * invArgs body) (max 64 (32 + 16 * invArgs body)) s with
| some (rq, t) => decide ((bit body 80 = true → recordAt t (bits body 79 32) 32 = true)) && (
decide (invArgs body ≠ 0) && (
(match tget t.handles (invHandle body) with
| some x => decide (x.st = .active ∨ x.st = .staging) && (
decide (reloading t x = false) && (
decide ((List.range (invArgs body)).all (fun i => !(isBuffer (argKind (invArg body i)) && argLen (invArg body i) == 0)
  && (x.image.args[i]?).map (·.1) == some (argKind (invArg body i))) = true) && (
decide ((shapeOf (certifiedId x.image) body).unsupported = false) && (
decide ((shapeOf (certifiedId x.image) body).empty = false) && (
decide (certifiedId x.image ≠ some 0x00010010) && (
decide (certifiedId x.image ≠ some 0x00010041) && (
decide ((callsOf t (invHandle body)).length < 64) && (
true))))))))
| _ => false)))
| _ => false))
(fld [(8, 1), (352, 4)])))
({ wHdr 0 0 with length := 1 })))
({ wJe with handles := [(0, wHd)] })))
 && (((fun (s : State) =>
((fun (acc : Nat) =>
((fun (r : CallResult) =>
(match tget s.calls acc with
| some k => decide (k.posted.req.op = 0x13) && (
decide (tget s.handles k.handle = none) && (
true))
| _ => false))
(⟨.ok, 0, [], false⟩)))
(1)))
({ wUp with calls := [(1, ⟨wPc 0x13 0, 0, [3], [], false, false⟩)] })))
 && (((fun (s : State) =>
((fun (acc : Nat) =>
((fun (r : CallResult) =>
(match tget s.calls acc with
| some k => decide (k.posted.req.op = 0x13) && (
(match tget s.handles k.handle with
| some x => decide (certifiedId x.image ≠ some 0x00010011) && (
decide (certifiedId x.image ≠ some 0x00010041) && (
decide (r.writes = []) && (
true)))
| _ => false))
| _ => false))
(⟨.ok, 0, [], false⟩)))
(1)))
({ wUp with handles := [(0, wHd)], calls := [(1, ⟨wPc 0x13 0, 0, [3], [], false, false⟩)] })))
    : Bool) = true := by decide +kernel

theorem witness_PlacementCommandsComplete : (
(((fun (s : State) =>
((fun (h : Hdr) =>
((fun (body : Nat) =>
decide ((plOp body = 4 ∨ plOp body = 7 → plCount body ≠ 0)) && (
(match admitted (linkReq 0x15 h body) (postedChecks (plBad 1 body) none false false []) 64 64 s with
| some (rq, t) => decide ((bit body 80 = true → recordAt t (bits body 79 32) 32 = true)) && (
decide (drainRefuses t body = false) && (
decide (placeChecks t body h.tenant = none) && (
decide (placeLengths t body = false) && (
decide (t.placeQ.length < 256) && (
let u : State := (complete rq .ok
  (t.accCtr + 1) { t with accCtr := t.accCtr + 1, placeQ := t.placeQ ++ [⟨t.accCtr + 1, rq, t.time, false, []⟩] })
true)))))
| _ => false)))
(fld [(0,1),(160,8)])))
(wHdr 0 0)))
(wPl)))
 && (((fun (s : State) =>
((fun (h : Hdr) =>
((fun (body : Nat) =>
decide ((plOp body = 4 ∨ plOp body = 7 → plCount body ≠ 0)) && (
(match admitted (linkReq 0x15 h body) (postedChecks (plBad 2 body) none false false []) 64 64 s with
| some (rq, t) => decide ((bit body 80 = true → recordAt t (bits body 79 32) 32 = true)) && (
decide (drainRefuses t body = false) && (
decide (placeChecks t body h.tenant = none) && (
decide (placeLengths t body = false) && (
decide (t.placeQ.length < 256) && (
let u : State := (complete rq .ok
  (t.accCtr + 1) { t with accCtr := t.accCtr + 1, placeQ := t.placeQ ++ [⟨t.accCtr + 1, rq, t.time, false, []⟩] })
true)))))
| _ => false)))
(fld [(0,2),(160,7)])))
(wHdr 0 0)))
(wPl)))
 && (((fun (s : State) =>
((fun (h : Hdr) =>
((fun (body : Nat) =>
decide ((plOp body = 4 ∨ plOp body = 7 → plCount body ≠ 0)) && (
(match admitted (linkReq 0x15 h body) (postedChecks (plBad 3 body) none false false []) 64 64 s with
| some (rq, t) => decide ((bit body 80 = true → recordAt t (bits body 79 32) 32 = true)) && (
decide (drainRefuses t body = false) && (
decide (placeChecks t body h.tenant = none) && (
decide (placeLengths t body = false) && (
decide (t.placeQ.length < 256) && (
let u : State := (complete rq .ok
  (t.accCtr + 1) { t with accCtr := t.accCtr + 1, placeQ := t.placeQ ++ [⟨t.accCtr + 1, rq, t.time, false, []⟩] })
true)))))
| _ => false)))
(fld [(0,3),(160,7),(176,1)])))
(wHdr 0 0)))
(wPl)))
 && (((fun (s : State) =>
((fun (h : Hdr) =>
((fun (body : Nat) =>
decide ((plOp body = 4 ∨ plOp body = 7 → plCount body ≠ 0)) && (
(match admitted (linkReq 0x15 h body) (postedChecks (plBad 4 body) none false false []) 64 64 s with
| some (rq, t) => decide ((bit body 80 = true → recordAt t (bits body 79 32) 32 = true)) && (
decide (drainRefuses t body = false) && (
decide (placeChecks t body h.tenant = none) && (
decide (placeLengths t body = false) && (
decide (t.placeQ.length < 256) && (
let u : State := (complete rq .ok
  (t.accCtr + 1) { t with accCtr := t.accCtr + 1, placeQ := t.placeQ ++ [⟨t.accCtr + 1, rq, t.time, false, []⟩] })
true)))))
| _ => false)))
(fld [(0,4),(160,7),(224,1)])))
(wHdr 0 0)))
(wPl)))
 && (((fun (s : State) =>
((fun (h : Hdr) =>
((fun (body : Nat) =>
decide ((plOp body = 4 ∨ plOp body = 7 → plCount body ≠ 0)) && (
(match admitted (linkReq 0x15 h body) (postedChecks (plBad 5 body) none false false []) 64 64 s with
| some (rq, t) => decide ((bit body 80 = true → recordAt t (bits body 79 32) 32 = true)) && (
decide (drainRefuses t body = false) && (
decide (placeChecks t body h.tenant = none) && (
decide (placeLengths t body = false) && (
decide (t.placeQ.length < 256) && (
let u : State := (complete rq .ok
  (t.accCtr + 1) { t with accCtr := t.accCtr + 1, placeQ := t.placeQ ++ [⟨t.accCtr + 1, rq, t.time, false, []⟩] })
true)))))
| _ => false)))
(fld [(0,5),(160,4)])))
(wHdr 0 0)))
(wPl)))
 && (((fun (s : State) =>
((fun (h : Hdr) =>
((fun (body : Nat) =>
decide ((plOp body = 4 ∨ plOp body = 7 → plCount body ≠ 0)) && (
(match admitted (linkReq 0x15 h body) (postedChecks (plBad 6 body) none false false []) 64 64 s with
| some (rq, t) => decide ((bit body 80 = true → recordAt t (bits body 79 32) 32 = true)) && (
decide (drainRefuses t body = false) && (
decide (placeChecks t body h.tenant = none) && (
decide (placeLengths t body = false) && (
decide (t.placeQ.length < 256) && (
let u : State := (complete rq .ok
  (t.accCtr + 1) { t with accCtr := t.accCtr + 1, placeQ := t.placeQ ++ [⟨t.accCtr + 1, rq, t.time, false, []⟩] })
true)))))
| _ => false)))
(fld [(0,6),(160,3)])))
(wHdr 0 0)))
(wPl)))
 && (((fun (s : State) =>
((fun (h : Hdr) =>
((fun (body : Nat) =>
decide ((plOp body = 4 ∨ plOp body = 7 → plCount body ≠ 0)) && (
(match admitted (linkReq 0x15 h body) (postedChecks (plBad 7 body) none false false []) 64 64 s with
| some (rq, t) => decide ((bit body 80 = true → recordAt t (bits body 79 32) 32 = true)) && (
decide (drainRefuses t body = false) && (
decide (placeChecks t body h.tenant = none) && (
decide (placeLengths t body = false) && (
decide (t.placeQ.length < 256) && (
let u : State := (complete rq .ok
  (t.accCtr + 1) { t with accCtr := t.accCtr + 1, placeQ := t.placeQ ++ [⟨t.accCtr + 1, rq, t.time, false, []⟩] })
true)))))
| _ => false)))
(fld [(0,7),(160,3),(224,1)])))
(wHdr 0 0)))
(wPl)))
 && (((fun (s : State) =>
((fun (acc : Nat) =>
((fun (peers : List Nat) =>
((fun (c : PlaceCmd) =>
decide (s.placeQ.find? (fun c => c.acc == acc && !c.executed) = some c) && (
decide (s.placeQ.any (fun x => decide (x.acc < acc) && plNames x.req.body == plNames c.req.body) = false) && (
decide ((plOp c.req.body = 6 → substituting s (plShadow c.req.body) = false)) && (
(match runPlace c.req.body c.req.hdr.tenant peers s with
| (st, u, w) => true
)))))
(⟨4, ⟨0x15, wHdr 0 0, fld [(0,2),(160,7)], 0, [], false⟩, 0, false, []⟩)))
([])))
(4)))
({ wPl with placeQ := [⟨4, ⟨0x15, wHdr 0 0, fld [(0,2),(160,7)], 0, [], false⟩, 0, false, []⟩] })))
 && (((fun (s : State) =>
((fun (b : Nat) =>
((fun (tenant : Nat) =>
((fun (peers : List Nat) =>
decide (placeChecks s b tenant = none) && (
decide (plOp b = 2) && (
true)))
([])))
(20)))
(fld [(0,2),(160,7)])))
(wPl)))
 && (((fun (s : State) =>
((fun (b : Nat) =>
((fun (tenant : Nat) =>
((fun (peers : List Nat) =>
decide (placeChecks s b tenant = none) && (
decide (plOp b = 6) && (
true)))
([])))
(20)))
(fld [(0,6),(160,3)])))
(wPl)))
    : Bool) = true := by decide +kernel

theorem witness_MigrationCompletes : (
(((fun (s : State) =>
((fun (ext : Nat) =>
decide (frameFree s (wantedLayout s ext) = true) && (
(match nextMove s with
| some m => decide (m.extent = ext) && (
decide (m.up = true) && (
decide (m.relayout = false) && (
decide (inFlightMoves s < 16) && (
decide (flashAwake s = true) && (
true)))))
| _ => false)))
(5)))
(wMove true none)))
 && (((fun (s : State) =>
((fun (ext : Nat) =>
((fun (m : Move) =>
decide (s.moves.find? (fun m => m.extent == ext && m.up && m.started.isSome) = some m) && (
decide (m.relayout = false) && (
true)))
(⟨5, true, true, false, some 0, false, 0⟩)))
(5)))
(wMove true (some 0))))
 && (((fun (s : State) =>
((fun (ext : Nat) =>
(match nextMove s with
| some m => decide (m.extent = ext) && (
decide (m.up = false) && (
decide (inFlightMoves s < 16) && (
decide (flashAwake s = true) && (
true))))
| _ => false))
(5)))
(wMove false none)))
 && (((fun (s : State) =>
((fun (ext : Nat) =>
decide (nextMove s = none) && (
decide (evictable s ext = true) && (
decide (inFlightMoves s < 16) && (
decide (flashAwake s = true) && (
true)))))
(1)))
({ wUp with extents := [(1, ⟨.near, some 0, false, 0, 0, false, 0⟩)], objs := tset wUp.objs 0x102006 0x10000000000, placed := [(7, ⟨fld [(64, 0x200000), (128, 2)], 20, 3, false, 0, []⟩)] })))
 && (((fun (s : State) =>
((fun (ext : Nat) =>
decide (extState s ext = some .movingDown) && (
decide (s.openReqs = []) && (
decide (heldLines s ext = []) && (
decide (s.snoops = []) && (
true)))))
(5)))
({ wMove false (some 0) with extents := [(5, ⟨.movingDown, none, false, 0, 0, false, 0⟩)] })))
 && (((fun (s : State) =>
((fun (ext : Nat) =>
decide (flashAwake s = true) && (
decide (undisturbed s = true) && (
true)))
(5)))
(wUp)))
 && (((fun (s : State) =>
((fun (k : Nat) =>
(match tget s.stalls k with
| some x => decide (x.snooped = false) && (
decide (x.bad = true) && (
(x.extent).all (fun e => decide (isFar s e = false)) && (
(x.dom).all (fun d => decide (awake s d = true)) && (
true))))
| _ => false))
(2)))
({ wUp with stalls := [(2, ⟨⟨wAcc 8 .load, 0, 0, false⟩, 0x1000, none, none, false, [], true⟩)] })))
 && (((fun (s : State) =>
((fun (n : Nat) =>
(match tget s.placed n with
| some o => decide (o.unacked ≠ 0) && (
decide (o.degraded = false) && (
true))
| _ => false))
(7)))
({ wPl with placed := [(7, ⟨fld [(64, 0x200000), (128, 2)], 20, 0, false, 1, []⟩)] })))
    : Bool) = true := by decide +kernel

theorem witness_StreamCommandsComplete : (
(((fun (s : State) =>
((fun (h : Hdr) =>
((fun (body : Nat) =>
(match admitted (linkReq 0x16 h body) (postedChecks (stBad 2 body) none false false []) 64 64 s with
| some (rq, t) => decide (stRecordOk t body = true) && (
decide (stOffset body % 64 = 0) && (
decide ((slotAt t (stSlot body)).st = 0) && (
decide ((slotAt t (stSlot body)).gen ≠ 0xFFFFFFFF) && (
decide (stOffset body + 576 ≤ memRange t) && (
true)))))
| _ => false))
(fld [(0,2),(80,2),(128,0x8000)])))
(wHdr 0 0)))
(wUp)))
 && (((fun (s : State) =>
((fun (h : Hdr) =>
((fun (body : Nat) =>
(match admitted (linkReq 0x16 h body) (postedChecks (stBad 3 body) none false false []) 64 64 s with
| some (rq, t) => decide (stRecordOk t body = true) && (
decide ((slotAt t (stSlot body)).st = 2) && (
decide ((slotAt t (stSlot body)).tenant = h.tenant) && (
decide ((slotAt t (stSlot body)).queued = 0) && (
true))))
| _ => false))
(fld [(0,3),(80,2)])))
(wHdr 0 0)))
({ wUp with slots := [(2, ⟨2, 1, 20, 0, none, 0, none⟩)] })))
 && (((fun (s : State) =>
((fun (k : Nat) =>
decide ((slotAt s k).st = 1) && (
(match (slotAt s k).image with
| some v => (match (slotAt s k).job with
| some (acc, p) => true
| _ => false)
| _ => false)))
(2)))
({ wUp with slots := [(2, ⟨1, 1, 20, 0, some 9, 0, some (4, wPosted 0x16 0)⟩)] })))
 && (((fun (s : State) =>
((fun (k : Nat) =>
decide ((slotAt s k).st = 3) && (
decide ((slotAt s k).queued = 0) && (
(match (slotAt s k).job with
| some (acc, p) => true
| _ => false))))
(2)))
({ wUp with slots := [(2, ⟨3, 1, 20, 0, some 9, 0, some (4, wPosted 0x16 0)⟩)] })))
 && (((fun (s : State) =>
((fun (h : Hdr) =>
((fun (body : Nat) =>
(match admitted (linkReq 0x16 h body) (postedChecks (stBad 1 body) none false false
  (if stOffset body + 64 ≤ memRange s then (homesOf s (stOffset body) 64).map homeDom else [])) 64 64 s with
| some (rq, t) => decide (stRecordOk t body = true) && (
decide (stDest body / 2 ^ 48 ≠ pkgNo t) && (
decide (stOffset body % 64 = 0) && (
decide (stDest body % 64 = 0) && (
decide (objectAt t (extentOf (stOffset body)) = none) && (
decide (stCount body ≠ 0xFFFFFFFF) && (
decide (stLength body ≠ 0xFFFFFFFF) && (
decide (4096 * stCount body ≤ stLength body) && (
decide (stOffset body + 64 ≤ memRange t) && (
decide (farExtents t (stOffset body) 64 = []) && (
decide (anyBad t (stOffset body) 64 = false) && (
decide (headStatus t body (readMem t (stOffset body) 64) = .ok) && (
decide (stCount body ≠ 0) && (
decide (t.streams.length < 256) && (
true))))))))))))))
| _ => false))
(sBody)))
(wHdr 0 0)))
(wStr)))
 && (((fun (s : State) =>
((fun (acc : Nat) =>
(match tget s.streams acc with
| some x => decide (x.map = none) && (
decide (x.fail = none) && (
let off := (stOffset x.posted.req.body)
let n := (headCount (readMem s off 64))
let v := (readMem s off (64 + 8 * n))
let q := (unpeek acc (touch off (64 + 8 * n) s))
decide (engineReads s off (64 + 8 * n) = true) && (
decide (mapStatus q x.posted.req.hdr.tenant (v % 2 ^ 512) (v >>> 512) (stCount x.posted.req.body) = none) && (
true))))
| _ => false))
(4)))
({ wStr with streams := [(4, ⟨wPosted 0x16 sBody, none, 0, 0, none⟩)] })))
 && (((fun (s : State) =>
((fun (acc : Nat) =>
(match tget s.streams acc with
| some x => (match x.map with
| some map => decide (x.fail = none) && (
let b := (x.posted.req.body)
let e := (mapEntry map x.next)
let dest := (stDest b + 4096 * x.next)
let q := (unpeek acc (touch x.at_ (span e) s))
decide (x.next < stCount b) && (
decide (enLen e ≠ 0) && (
(match pathLink s dest with
| some k => decide (awake s (quadDom k) = true) && (
decide (engineReads s x.at_ (span e) = true) && (
(match blockBytesOf q e x.next (readMem s x.at_ (span e)) with
| some data => true
| _ => false)))
| _ => false))))
| _ => false)
| _ => false))
(4)))
({ wStr with streams := [(4, ⟨wPosted 0x16 sBody, some sEntry, 0, 0x8080, none⟩)] })))
 && (((fun (s : State) =>
((fun (acc : Nat) =>
(match tget s.streams acc with
| some x => decide (x.map.isSome = true) && (
decide (x.fail = none) && (
decide (stCount x.posted.req.body ≤ x.next) && (
true)))
| _ => false))
(4)))
({ wStr with streams := [(4, ⟨wPosted 0x16 sBody, some sEntry, 1, 0, none⟩)] })))
    : Bool) = true := by decide +kernel

theorem witness_ArenaCommandsComplete : (
(((fun (s : State) =>
((fun (h : Hdr) =>
((fun (body : Nat) =>
(match admitted (linkReq 0x10 h body) (postedChecks (arenaBad body true) (some 64)
  (bits body 95 64 == 0xFFFFFFFF || h.length != 1) false [homeDom (homeOf s (descOffset s (attnArena body)))])
  (64 * h.length) (max 64 (64 * h.length)) s with
| some (rq, t) => decide (tget t.arenas (attnArena body) = none) && (
decide (farExtents t (descOffset t (attnArena body)) 128 = []) && (
decide (anyBad t (descOffset t (attnArena body)) 128 = false) && (
let d := (readMem t (descOffset t (attnArena body)) 128)
decide (arTooLong t d = false) && (
decide (arZero d = false) && (
decide (arBad t d = false) && (
true))))))
| _ => false))
(fld [(0,5),(24,1)])))
(wHdr 0 1)))
(wMem)))
 && (((fun (s : State) =>
((fun (h : Hdr) =>
((fun (body : Nat) =>
(match admitted (linkReq 0x10 h body) (postedChecks (arenaBad body false) (some 64) (false || h.length != 1) false [])
  (64 * h.length) (max 64 (64 * h.length)) s with
| some (rq, t) => (match tget t.arenas (attnArena body) with
| some x => decide (x.tenant = h.tenant) && (
decide (arenaBusy t (attnArena body) = false) && (
true))
| _ => false)
| _ => false))
(fld [(0,5)])))
(wHdr 0 1)))
(wAr [])))
 && (((fun (s : State) =>
((fun (h : Hdr) =>
((fun (body : Nat) =>
(match admitted (linkReq 0x10 h body) (postedChecks (bits body 511 20 != 0 || attnOp body != 4) (some 64)
  (false || h.length != 1) false []) (64 * h.length) (max 64 (64 * h.length)) s with
| some (rq, t) => (match tget t.arenas (attnArena body) with
| some x => decide (x.tenant = h.tenant) && (
decide (x.copying = none) && (
true))
| _ => false)
| _ => false))
(fld [(0,4)])))
(wHdr 0 1)))
(wAr [])))
 && (((fun (s : State) =>
((fun (h : Hdr) =>
((fun (body : Nat) =>
(match admitted (linkReq 0x10 h body) (postedChecks
  (bits body 511 63 != 0 || bits body 55 54 != 0 || bit body 47 || bits body 23 20 != 0 || attnOp body != 2) (some 64)
  (appendTooLong s body || (match appendLen s body with | some n => h.length != n | none => false)) false
  (appendDoms s body)) (64 * h.length) (max 64 (64 * h.length)) s with
| some (rq, t) => (match tget t.arenas (attnArena body) with
| some x => decide (x.tenant = h.tenant) && (
decide ((apRows body).isEmpty = false) && (
decide (appendWritten x body = false) && (
decide (appendWaits t x body = false) && (
decide ((appendPages t x.desc body).contains none = false) && (
decide (farPage t x.desc (appendPages t x.desc body) = none) && (
decide ((appendRows rq x t).1 = .ok) && (
true)))))))
| _ => false)
| _ => false))
(fld [(0,2),(40,1),(56,1),(512,77)])))
(wHdr 0 3)))
(wAr [])))
 && (((fun (s : State) =>
((fun (h : Hdr) =>
((fun (body : Nat) =>
(match admitted (linkReq 0x10 h body) (postedChecks
  (bits body 511 384 != 0 || bits body 319 304 != 0 || bits body 287 96 != 0 || bits body 63 39 != 0 || bits body 31
  20 != 0 || attnOp body != 3 || (decide (coCount body ≤ 64) && bits body 1023 (512 + 8 * coCount body) != 0))
  (some 64) (decide (64 < coCount body) || h.length != 2) false []) (64 * h.length) (max 64 (64 * h.length)) s with
| some (rq, t) => (match tget t.arenas (attnArena body) with
| some x => decide (x.tenant = h.tenant) && (
decide (coCount body ≠ 0) && (
decide (coBase body + coCount body ≤ (coBase body / arStripe x.desc + 1) * arStripe x.desc) && (
decide ((layerHeads x.desc).any (fun lg => (List.range (coCount body)).any (fun i => (posPage t x.desc lg.1 lg.2
  (coBase body + i)).isNone)) = false) && (
decide (coBase body = x.nextPos) && (
decide ((coSlots body).all (fun k => decide (k < 64)) = true) && (
decide ((coSlots body).eraseDups.length = coCount body) && (
decide ((layerHeads x.desc).any (fun lg => (coSlots body).any (fun k => !(x.slots.contains
  (slotKey lg.1 lg.2 k)))) = false) && (
decide (x.copying = none) && (
let y : Arena :=
  ({ x with copying := some (t.accCtr + 1, t.time + 1000 + ceilDiv (commitBytes x.desc (coCount body)) 100) })
true)))))))))
| _ => false)
| _ => false))
(fld [(0,3),(32,1)])))
(wHdr 0 2)))
(wAr [0])))
 && (((fun (s : State) =>
((fun (acc : Nat) =>
(match tget s.commits acc with
| some p => (match tget s.arenas (attnArena p.req.body) with
| some x => decide (commitFar s x.desc p.req.body = []) && (
decide (bit p.req.body 303 = false) && (
true))
| _ => false)
| _ => false))
(4)))
({ wAr [0] with commits := [(4, wPosted 0x10 (fld [(0,3),(32,1)]))] })))
    : Bool) = true := by decide +kernel

theorem witness_AttentionCommandsComplete : (
(((fun (s : State) =>
((fun (h : Hdr) =>
((fun (body : Nat) =>
(match admitted (linkReq 0x10 h body) (postedChecks (attendBad body) (some 64) (attendTooLong s body ||
  (match attendLen s body with | some n => h.length != n | none => false)) false (attendDoms s body)) (64 * h.length)
  (max 64 (64 * h.length)) s with
| some (rq, t) => (match tget t.arenas (attnArena body) with
| some x => decide (atHeads body ≠ 0) && (
decide (atPos body ≠ 0) && (
decide (attendRefused t x.desc body = false) && (
decide (x.tenant = h.tenant) && (
decide ((attendHandles x.desc body).any (fun h => (tget t.handles h).isNone) = false) && (
decide (attendNotReady t (attendHandles x.desc body) = none) && (
decide (attendFull t (attendHandles x.desc body) = false) && (
true)))))))
| _ => false)
| _ => false))
(fld [(0, 1), (40, 1), (48, 1), (56, 1), (60, 1), (64, 1), (256, 256)])))
(wHdr 0 3)))
(wAr [0])))
 && (((fun (s : State) =>
((fun (acc : Nat) =>
((fun (q : Remote) =>
(match tget s.attends acc with
| some y => (match tget s.arenas (attnArena y.posted.req.body) with
| some x => decide (y.st = 0) && (
decide (atInline y.posted.req.body = true) && (
let b := (y.posted.req.body)
let z : Attend :=
  ({ y with armed := mergesHere x.desc b, queries := bits b (8 * (queriesAt b + queryBytes x.desc b) - 1) (8 * queriesAt b) })
true))
| _ => false)
| _ => false))
(⟨.ok, 0⟩)))
(4)))
(wAtS 0 false 0)))
 && (((fun (s : State) =>
((fun (acc : Nat) =>
(match tget s.attends acc with
| some y => (match tget s.arenas (attnArena y.posted.req.body) with
| some x => decide (y.st = 1) && (
decide (mustHold x y.posted.req.body = false) && (
true))
| _ => false)
| _ => false))
(4)))
({ wAtS 1 false 0 with attends := [(4, ⟨wPosted 0x10 (wAtt - 2 ^ 64), 1, 0, 0, 0, false, false, false, false⟩)] })))
 && (((fun (s : State) =>
((fun (acc : Nat) =>
(match tget s.attends acc with
| some y => (match tget s.arenas (attnArena y.posted.req.body) with
| some x => decide (y.st = 1) && (
true)
| _ => false)
| _ => false))
(4)))
(wAtS 1 false 0)))
 && (((fun (s : State) =>
((fun (acc : Nat) =>
(match tget s.attends acc with
| some y => (match tget s.arenas (attnArena y.posted.req.body) with
| some x => decide (y.st = 2) && (
decide (y.written = false) && (
decide (y.unread = false) && (
decide (y.failed = false) && (
decide ((commandRows s x.desc y).all (fun r => !(rowState s r).far) = true) && (
let b := (y.posted.req.body)
decide (farOut s (partialAt x.desc b) (blockSize x.desc (records x.desc b)) = []) && (
let ls := (commandLines x.desc y (commandRows s x.desc y))
let q := (poisonDead ls s)
decide (peekWait acc ls q = none) && (
true)))))))
| _ => false)
| _ => false))
(4)))
(wAtS 2 false 0)))
 && (((fun (s : State) =>
((fun (acc : Nat) =>
(match tget s.attends acc with
| some y => (match tget s.arenas (attnArena y.posted.req.body) with
| some x => decide (y.st = 2) && (
decide (y.written = false) && (
decide (y.unread = false) && (
true)))
| _ => false)
| _ => false))
(4)))
(wAtS 2 false 0)))
 && (((fun (s : State) =>
((fun (acc : Nat) =>
(match tget s.attends acc with
| some y => (match tget s.arenas (attnArena y.posted.req.body) with
| some x => decide (y.armed = true) && (
let b := (y.posted.req.body)
let span := (atStride b * arMembers x.desc)
decide (arMembers x.desc ≤ (syncObj s (atSync b)).value) && (
decide (farExtents s (blockAt b 0) span = []) && (
decide (farOut s (atOut b) (blockSize x.desc (records x.desc b)) = []) && (
let ls := (linesOf (blockAt b 0) span)
let q := (poisonDead ls s)
decide (peekWait acc ls q = none) && (
true)))))
| _ => false)
| _ => false))
(4)))
(wAtS 2 true 1)))
 && (((fun (s : State) =>
((fun (acc : Nat) =>
(match tget s.attends acc with
| some y => (match tget s.arenas (attnArena y.posted.req.body) with
| some x => decide (y.armed = true) && (
let b := (y.posted.req.body)
decide ((syncObj s (atSync b)).value < arMembers x.desc) && (
true))
| _ => false)
| _ => false))
(4)))
(wAtS 2 true 0)))
    : Bool) = true := by decide +kernel

theorem witness_TableCommandsComplete : (
(((fun (s : State) =>
((fun (h : Hdr) =>
((fun (body : Nat) =>
let k := (orTable body)
(match admitted (linkReq 0x11 h body) (postedChecks (orBad body) none false false [homeDom
  (orTable body % 8)]) 64 64 s with
| some (rq, t) => let x : OReq := (⟨⟨rq, t.time⟩,
  (otable t k).current, none, false, 0, 0, 0, 0, 0, [], 0, false, .ok, false, false, none⟩)
let u : State := (complete rq .ok
  (t.accCtr + 1) { t with accCtr := t.accCtr + 1, oreqs := tset t.oreqs (t.accCtr + 1) x })
decide (((otable t k).st = 1 ∨ (otable t k).st = 2)) && (
decide ((otable t k).tenant = h.tenant) && (
decide (orCount body ≠ 0) && (
decide (orCount body ≤ 4096) && (
decide (orBags body ≤ 4096) && (
decide (orLength body ≠ 0xFFFFFFFF) && (
decide (orBytes t body ≤ orLength body) && (
decide (oryxInFlight t < 1024) && (
decide (orCodes 1 body = false) && (
true)))))))))
| _ => false))
(wRow 1)))
(wHdr 0 0)))
(wTab 1)))
 && (((fun (s : State) =>
((fun (h : Hdr) =>
((fun (body : Nat) =>
let k := (orTable body)
(match admitted (linkReq 0x11 h body) (postedChecks (orBad body) none false false [homeDom
  (orTable body % 8)]) 64 64 s with
| some (rq, t) => let x : OReq := (⟨⟨rq, t.time⟩,
  (otable t k).current, none, false, 0, 0, 0, 0, 0, [], 0, false, .ok, false, false, none⟩)
let u : State := (complete rq .ok
  (t.accCtr + 1) { t with accCtr := t.accCtr + 1, oreqs := tset t.oreqs (t.accCtr + 1) x })
decide (((otable t k).st = 1 ∨ (otable t k).st = 2)) && (
decide ((otable t k).tenant = h.tenant) && (
decide (orCount body ≠ 0) && (
decide (orCount body ≤ 4096) && (
decide (orBags body ≤ 4096) && (
decide (orLength body ≠ 0xFFFFFFFF) && (
decide (orBytes t body ≤ orLength body) && (
decide (oryxInFlight t < 1024) && (
decide (orCodes 2 body = false) && (
decide (orBags body ≠ 0) && (
true))))))))))
| _ => false))
(wRow 2)))
(wHdr 0 0)))
(wTab 1)))
 && (((fun (s : State) =>
((fun (h : Hdr) =>
((fun (body : Nat) =>
let k := (orTable body)
(match admitted (linkReq 0x11 h body) (postedChecks (orBad body) none false false [homeDom
  (orTable body % 8)]) 64 64 s with
| some (rq, t) => let x : OReq := (⟨⟨rq, t.time⟩,
  (otable t k).current, none, false, 0, 0, 0, 0, 0, [], 0, false, .ok, false, false, none⟩)
let u : State := (complete rq .ok
  (t.accCtr + 1) { t with accCtr := t.accCtr + 1, oreqs := tset t.oreqs (t.accCtr + 1) x })
decide (((otable t k).st = 1 ∨ (otable t k).st = 2)) && (
decide ((otable t k).tenant = h.tenant) && (
decide (orCount body ≠ 0) && (
decide (orCount body ≤ 4096) && (
decide (orBags body ≤ 4096) && (
decide (orLength body ≠ 0xFFFFFFFF) && (
decide (orBytes t body ≤ orLength body) && (
decide (oryxInFlight t < 1024) && (
decide (orCodes 3 body = false) && (
true)))))))))
| _ => false))
(wRow 3)))
(wHdr 0 0)))
(wTab 1)))
 && (((fun (s : State) =>
((fun (h : Hdr) =>
((fun (body : Nat) =>
let k := (orTable body)
(match admitted (linkReq 0x11 h body) (postedChecks (orBad body) none false false [homeDom
  (orTable body % 8)]) 64 64 s with
| some (rq, t) => let x : OReq := (⟨⟨rq, t.time⟩,
  (otable t k).current, none, false, 0, 0, 0, 0, 0, [], 0, false, .ok, false, false, none⟩)
let u : State := (complete rq .ok
  (t.accCtr + 1) { t with accCtr := t.accCtr + 1, oreqs := tset t.oreqs (t.accCtr + 1) x })
decide (((otable t k).st = 1 ∨ (otable t k).st = 2)) && (
decide ((otable t k).tenant = h.tenant) && (
decide (orCount body ≠ 0) && (
decide (orCount body ≤ 4096) && (
decide (orBags body ≤ 4096) && (
decide (orLength body ≠ 0xFFFFFFFF) && (
decide (orBytes t body ≤ orLength body) && (
decide (oryxInFlight t < 1024) && (
decide (orCodes 4 body = false) && (
decide (odOpt (odOf t k (otable t k).current) ≠ 0) && (
true))))))))))
| _ => false))
(wRow 4)))
(wHdr 0 0)))
(wTab 1)))
 && (((fun (s : State) =>
((fun (h : Hdr) =>
((fun (body : Nat) =>
let k := (orTable body)
(match admitted (linkReq 0x11 h body) (postedChecks (orBad body) none false false [homeDom
  (orTable body % 8)]) 64 64 s with
| some (rq, t) => let x : OReq := (⟨⟨rq, t.time⟩,
  (otable t k).current, none, false, 0, 0, 0, 0, 0, [], 0, false, .ok, false, false, none⟩)
let u : State := (complete rq .ok
  (t.accCtr + 1) { t with accCtr := t.accCtr + 1, oreqs := tset t.oreqs (t.accCtr + 1) x })
decide (((otable t k).st = 1 ∨ (otable t k).st = 2)) && (
decide ((otable t k).tenant = h.tenant) && (
decide (orCount body ≠ 0) && (
decide (orCount body ≤ 4096) && (
decide (orBags body ≤ 4096) && (
decide (orLength body ≠ 0xFFFFFFFF) && (
decide (orBytes t body ≤ orLength body) && (
decide (oryxInFlight t < 1024) && (
decide (orCodes 5 body = false) && (
true)))))))))
| _ => false))
(wRow 5)))
(wHdr 0 0)))
(wTab 1)))
 && (((fun (s : State) =>
((fun (h : Hdr) =>
((fun (body : Nat) =>
(match admitted (linkReq 0x11 h body) (postedChecks (orBad body) none false false [homeDom
  (orTable body % 8)]) 64 64 s with
| some (rq, t) => decide (orCodes 6 body = false) && (
decide (orSub body = 0) && (
decide ((otable t (orTable body)).st = 0) && (
decide (orLength body ≠ 0xFFFFFFFF) && (
decide (64 ≤ orLength body) && (
decide (bits body 207 160 + 128 ≤ memRange t) && (
decide (oryxInFlight t < 1024) && (
let d := (readMem t (bits body 207 160) 128)
decide (anyBad t (bits body 207 160) 128 = false) && (
decide (odStatus t d rq.hdr.tenant = .ok) && (
decide (odRowBytes d ≠ 0) && (
decide (odRows d ≠ 0) && (
let acc := (t.accCtr + 1)
let w : State := (complete rq .ok acc { t with accCtr := acc })
let v := ((otable t (orTable body)).last + 1)
true)))))))))))
| _ => false))
(wTb 0)))
(wHdr 0 0)))
(wTab 0)))
 && (((fun (s : State) =>
((fun (h : Hdr) =>
((fun (body : Nat) =>
(match admitted (linkReq 0x11 h body) (postedChecks (orBad body) none false false [homeDom
  (orTable body % 8)]) 64 64 s with
| some (rq, t) => decide (orCodes 6 body = false) && (
decide (orSub body = 1) && (
decide ((otable t (orTable body)).st = 1) && (
decide ((otable t (orTable body)).tenant = h.tenant) && (
decide (orLength body ≠ 0xFFFFFFFF) && (
decide (64 ≤ orLength body) && (
decide (bits body 207 160 + 128 ≤ memRange t) && (
decide (oryxInFlight t < 1024) && (
let d := (readMem t (bits body 207 160) 128)
decide (anyBad t (bits body 207 160) 128 = false) && (
decide (odStatus t d rq.hdr.tenant = .ok) && (
decide (odRowBytes d ≠ 0) && (
decide (odRows d ≠ 0) && (
let acc := (t.accCtr + 1)
let w : State := (complete rq .ok acc { t with accCtr := acc })
let v := ((otable t (orTable body)).last + 1)
true))))))))))))
| _ => false))
(wTb 1)))
(wHdr 0 0)))
(wTab 1)))
 && (((fun (s : State) =>
((fun (h : Hdr) =>
((fun (body : Nat) =>
(match admitted (linkReq 0x11 h body) (postedChecks (orBad body) none false false [homeDom
  (orTable body % 8)]) 64 64 s with
| some (rq, t) => decide (orCodes 6 body = false) && (
decide (orSub body = 2) && (
decide (((otable t (orTable body)).st = 1 ∨ (otable t (orTable body)).st = 2)) && (
decide ((otable t (orTable body)).tenant = h.tenant) && (
decide (orLength body ≠ 0xFFFFFFFF) && (
decide (64 ≤ orLength body) && (
decide (oryxInFlight t < 1024) && (
let acc := (t.accCtr + 1)
let w : State := (complete rq .ok acc { t with accCtr := acc })
true)))))))
| _ => false))
(wTb 2)))
(wHdr 0 0)))
(wTab 1)))
 && (((fun (s : State) =>
((fun (k : Nat) =>
decide (((otable s k).st = 2 ∨ (otable s k).st = 3)) && (
decide (s.forwards = []) && (
decide ((retiringOf (otable s k)).all (fun v => decide (versionBound s k v = 0)) = true) && (
true))))
(3)))
(wTab 3)))
    : Bool) = true := by decide +kernel

theorem witness_RowCommandsComplete : (
(((fun (s : State) =>
((fun (acc : Nat) =>
((fun (idx : Remote) =>
((fun (bags : Remote) =>
(match tget s.oreqs acc with
| some x => decide (x.ended = false) && (
decide (x.lists = none) && (
let b := (x.posted.req.body)
let off := (orIndex b % 2 ^ 48)
decide (orOp b ≠ 2) && (
decide (orIndex b / 2 ^ 48 = pkgNo s) && (
decide (obj s 0x7020 3 = 1) && (
decide (engineReads s off (4 * orCount b) = true) && (
let u : State := (setOreq acc (fun x => { x with lists := some (readMem s off (4 * orCount b), 0) }) (unpeek acc
  (touch off (4 * orCount b) (setOreq acc (fun x => { x with retry := false }) s))))
decide (x.retry = false) && (
true)))))))
| _ => false))
(⟨.ok, 0⟩)))
(⟨.ok, 0⟩)))
(4)))
(wOr 1 none false false)))
 && (((fun (s : State) =>
((fun (acc : Nat) =>
((fun (idx : Remote) =>
((fun (bags : Remote) =>
(match tget s.oreqs acc with
| some x => decide (x.ended = false) && (
decide (x.lists = none) && (
let b := (x.posted.req.body)
let off := (orIndex b % 2 ^ 48)
decide (orOp b ≠ 2) && (
decide (orIndex b / 2 ^ 48 = pkgNo s) && (
decide (obj s 0x7020 3 = 1) && (
decide (engineReads s off (4 * orCount b) = true) && (
let u : State := (setOreq acc (fun x => { x with lists := some (readMem s off (4 * orCount b), 0) }) (unpeek acc
  (touch off (4 * orCount b) (setOreq acc (fun x => { x with retry := false }) s))))
decide (x.retry = true) && (
true)))))))
| _ => false))
(⟨.ok, 0⟩)))
(⟨.ok, 0⟩)))
(4)))
(wOr 1 none true false)))
 && (((fun (s : State) =>
((fun (acc : Nat) =>
((fun (idx : Nat) =>
((fun (data : List Remote) =>
((fun (answer : Remote) =>
((fun (acks : List Status) =>
(match tget s.oreqs acc with
| some x => decide (x.ended = false) && (
decide (x.lists = some (idx, 0)) && (
let b := (x.posted.req.body)
let d := (odOf s (orTable b) x.version)
let r := (rowOf x x.done)
decide ((orOp b = 1 ∨ orOp b = 5)) && (
decide (tableBehind s acc (orTable b) = false) && (
decide (r.row < odRows d) && (
decide (forwardOf s r = none) && (
decide (recordWait acc (rowAt d r.row) (odRecord d) s = none) && (
true)))))))
| _ => false))
([])))
(⟨.ok, 0⟩)))
([])))
(1 + 2 * 2 ^ 32)))
(4)))
(wOr 1 (some (1 + 2 * 2 ^ 32, 0)) false false)))
 && (((fun (s : State) =>
((fun (acc : Nat) =>
((fun (data : List Remote) =>
((fun (answer : Remote) =>
((fun (acks : List Status) =>
(match tget s.oreqs acc with
| some x => decide (x.ended = false) && (
(match x.lists with
| some l => let b := (x.posted.req.body)
let d := (odOf s (orTable b) x.version)
decide ((orOp b = 1 ∨ orOp b = 5)) && (
decide (tableBehind s acc (orTable b) = false) && (
decide (odRows d ≤ (rowOf x x.done).row) && (
true)))
| _ => false))
| _ => false))
([])))
(⟨.ok, 0⟩)))
([])))
(4)))
(wOr 1 (some (100, 0)) false false)))
 && (((fun (s : State) =>
((fun (acc : Nat) =>
((fun (data : List Remote) =>
((fun (answer : Remote) =>
((fun (acks : List Status) =>
((fun (c : RowCall) =>
(match guestOf s c.row with
| some g => decide (g.locked = true) && (
decide (recordWait (rowId c.row) g.at_ (odRecord g.desc) s = none) && (
true))
| _ => false))
(⟨⟨3, 1, 2, 5⟩, wRow 1, 0⟩)))
([])))
(⟨.ok, 0⟩)))
([])))
(4)))
(wGst true)))
 && (((fun (s : State) =>
((fun (acc : Nat) =>
((fun (ack : Status) =>
(match tget s.oreqs acc with
| some x => decide (x.ended = true) && (
decide (writeStalled s acc = false) && (
true))
| _ => false))
(.ok)))
(4)))
(wOr 1 (some (100, 0)) false true)))
 && (((fun (s : State) =>
((fun (utils : List EngineLoad) =>
decide (obj s 0x8010 6 = 0) && (
true))
([])))
({ wUp with objs := tset wUp.objs 0x801006 0 })))
 && (((fun (s : State) =>
((fun (r : RowRef) =>
((fun (off : Nat) =>
((fun (desc : Nat) =>
((fun (tenant : Nat) =>
decide (r.home = pkgNo s) && (
(match forwardOf s r with
| some f => decide (f.st = 0) && (
let d := (odOf s r.slot r.version)
decide ((f.pkg = pkgNo s → hotSlotOk s r f.slice off (odRecord d) = true)) && (
decide (recordWait (rowId r) (rowAt d r.row) (odRecord d) s = none) && (
true)))
| _ => false)))
(20)))
(0)))
(0x30000)))
(wRef)))
(wFwd 0 0)))
 && (((fun (s : State) =>
((fun (r : RowRef) =>
((fun (slice : Nat) =>
((fun (off : Nat) =>
((fun (desc : Nat) =>
((fun (tenant : Nat) =>
decide (r.home ≠ pkgNo s) && (
decide (guestOf s r = none) && (
decide (hotSlotOk s r slice off (odRecord desc) = true) && (
true))))
(20)))
(wOd)))
(0x30000)))
(2)))
(⟨3, 1, 2, 5⟩)))
({ wFwd 0 0 with forwards := [] })))
 && (((fun (s : State) =>
((fun (r : RowRef) =>
(match forwardOf s r with
| some f => decide (f.st = 1) && (
decide (f.dirty = false) && (
decide (f.pkg = pkgNo s) && (
true)))
| _ => false))
(wRef)))
(wFwd 1 0)))
 && (((fun (s : State) =>
((fun (r : RowRef) =>
(match forwardOf s r with
| some f => decide (f.st = 2) && (
true)
| _ => false))
(wRef)))
(wFwd 2 0)))
 && (((fun (s : State) =>
((fun (r : RowRef) =>
(match forwardOf s r with
| some f => decide (f.st = 2) && (
true)
| _ => false))
(wRef)))
(wFwd 2 0)))
 && (((fun (s : State) =>
((fun (r : RowRef) =>
((fun (record : Nat) =>
(match forwardOf s r with
| some f => decide (f.st = 4) && (
decide (f.pkg = pkgNo s) && (
let d := (odOf s r.slot r.version)
let mem := (view (rowId r) s)
decide (returnWait r f d s = none) && (
true)))
| _ => false))
(0)))
(wRef)))
(wFwd 4 0)))
 && (((fun (s : State) =>
((fun (r : RowRef) =>
(match forwardOf s r with
| some f => decide ((f.st = 3 ∨ f.st = 4)) && (
true)
| _ => false))
(wRef)))
(wFwd 3 1)))
    : Bool) = true := by decide +kernel

theorem witness_IndexCommandsComplete : (
(((fun (s : State) =>
((fun (h : Hdr) =>
((fun (body : Nat) =>
let n := (seIndex body)
let dies := (((List.range 4).filter (flashPresent s)).map flashDom)
(match admitted (linkReq 0x12 h body) (postedChecks (seBad h.length body) (some 64) (h.length == 0 || (1 != 1
  && h.length != 1) || (1 == 1 && decide (h.length < 3))) dies.isEmpty dies) (64 * h.length) (max 64
  (64 * h.length)) s with
| some (rq, t) => let x := (sindex t n)
decide (x.st ≠ 0) && (
decide (x.st ≠ 4) && (
decide (x.tenant = h.tenant) && (
decide (seCodes 1 body = false) && (
decide (queryTooLong h.length body = false) && (
decide (queryEmpty body = false) && (
decide ((t.sops.filter (fun e => seOp e.2.posted.req.body == 1)).length < 1024) && (
true)))))))
| _ => false))
(wQ 1)))
(wHdr 0 3)))
(wCh (wIx 1))))
 && (((fun (s : State) =>
((fun (h : Hdr) =>
((fun (body : Nat) =>
let n := (seIndex body)
let dies := (((List.range 4).filter (flashPresent s)).map flashDom)
(match admitted (linkReq 0x12 h body) (postedChecks (seBad h.length body) (some 64) (h.length == 0 || (2 != 1
  && h.length != 1) || (2 == 1 && decide (h.length < 3))) dies.isEmpty dies) (64 * h.length) (max 64
  (64 * h.length)) s with
| some (rq, t) => let x := (sindex t n)
decide (x.st ≠ 0) && (
decide (x.st ≠ 4) && (
decide (x.tenant = h.tenant) && (
decide (seCodes 2 body = false) && (
(match lowestFree x with
| some k => decide (ringFull t n = false) && (
true)
| _ => false)))))
| _ => false))
(wQ 2)))
(wHdr 0 1)))
(wCh (wIx 1))))
 && (((fun (s : State) =>
((fun (h : Hdr) =>
((fun (body : Nat) =>
let n := (seIndex body)
let dies := (((List.range 4).filter (flashPresent s)).map flashDom)
(match admitted (linkReq 0x12 h body) (postedChecks (seBad h.length body) (some 64) (h.length == 0 || (3 != 1
  && h.length != 1) || (3 == 1 && decide (h.length < 3))) dies.isEmpty dies) (64 * h.length) (max 64
  (64 * h.length)) s with
| some (rq, t) => let x := (sindex t n)
decide (x.st ≠ 0) && (
decide (x.st ≠ 4) && (
decide (x.tenant = h.tenant) && (
decide (seCodes 3 body = false) && (
decide (seVector body < sdMax x.desc) && (
decide ((slotState x (seVector body) = 0 ∨ slotState x (seVector body) = 2)) && (
decide (ringFull t n = false) && (
true)))))))
| _ => false))
(wQ 3)))
(wHdr 0 1)))
(wCh (wIx 1))))
 && (((fun (s : State) =>
((fun (h : Hdr) =>
((fun (body : Nat) =>
let dies := (((List.range 4).filter (flashPresent s)).map flashDom)
let n := (seIndex body)
(match admitted (linkReq 0x12 h body) (postedChecks (seBad h.length body) (some 64) (h.length == 0 || (4 != 1
  && h.length != 1) || (4 == 1 && decide (h.length < 3))) dies.isEmpty dies) (64 * h.length) (max 64
  (64 * h.length)) s with
| some (rq, t) => let acc := (t.accCtr + 1)
let w : State := (complete rq .ok acc { t with accCtr := acc })
let d := (readMem t (bits body 255 208) 128)
decide (seCodes 4 body = false) && (
decide (seSub body = 0) && (
decide ((sindex t n).st = 0) && (
decide (bits body 255 208 + 128 ≤ memRange t) && (
decide (anyBad t (bits body 255 208) 128 = false) && (
decide (sdStatus t d rq.hdr.tenant = .ok) && (
decide (sdEmpty d = false) && (
decide (sdResume d = false) && (
true))))))))
| _ => false))
(wIo 0)))
(wHdr 0 1)))
(wSe)))
 && (((fun (s : State) =>
((fun (h : Hdr) =>
((fun (body : Nat) =>
let dies := (((List.range 4).filter (flashPresent s)).map flashDom)
let n := (seIndex body)
(match admitted (linkReq 0x12 h body) (postedChecks (seBad h.length body) (some 64) (h.length == 0 || (4 != 1
  && h.length != 1) || (4 == 1 && decide (h.length < 3))) dies.isEmpty dies) (64 * h.length) (max 64
  (64 * h.length)) s with
| some (rq, t) => let acc := (t.accCtr + 1)
let w : State := (complete rq .ok acc { t with accCtr := acc })
let d := (readMem t (bits body 255 208) 128)
decide (seCodes 4 body = false) && (
decide (seSub body = 2) && (
decide ((sindex t n).st = 1) && (
decide ((sindex t n).tenant = h.tenant) && (
true))))
| _ => false))
(wIo 2)))
(wHdr 0 1)))
(wCh (wIx 1))))
 && (((fun (s : State) =>
((fun (h : Hdr) =>
((fun (body : Nat) =>
let dies := (((List.range 4).filter (flashPresent s)).map flashDom)
let n := (seIndex body)
(match admitted (linkReq 0x12 h body) (postedChecks (seBad h.length body) (some 64) (h.length == 0 || (4 != 1
  && h.length != 1) || (4 == 1 && decide (h.length < 3))) dies.isEmpty dies) (64 * h.length) (max 64
  (64 * h.length)) s with
| some (rq, t) => let acc := (t.accCtr + 1)
let w : State := (complete rq .ok acc { t with accCtr := acc })
let d := (readMem t (bits body 255 208) 128)
decide (seCodes 4 body = false) && (
decide (seSub body = 1) && (
decide ((sindex t n).st ≠ 0) && (
decide ((sindex t n).st ≠ 4) && (
decide ((sindex t n).tenant = h.tenant) && (
decide ((sindex t n).mergeJob = none) && (
true))))))
| _ => false))
(wIo 1)))
(wHdr 0 1)))
(wCh (wIx 1))))
 && (((fun (s : State) =>
((fun (n : Nat) =>
decide ((sindex s n).st = 4) && (
decide (opsOf s n = []) && (
(match (sindex s n).job with
| some (acc, p) => true
| _ => false))))
(0)))
(wCh { wIx 4 with job := some (4, wPosted 0x12 (wIo 1)) })))
    : Bool) = true := by decide +kernel

theorem witness_SearchCommandsComplete : (
(((fun (s : State) =>
((fun (acc : Nat) =>
((fun (q : Remote) =>
(match tget s.sops acc with
| some o => decide (o.snap = none) && (
let b := (o.posted.req.body)
let x := (sindex s (seIndex b))
let off := (seIn b % 2 ^ 48)
let len := (sketchPad x.desc + 4 * sdDim x.desc)
decide (seOp b = 1) && (
decide (coordinated s acc < 32) && (
decide ((List.range 4).filter (fun f => flashPresent s f && !awake s (flashDom f)) = []) && (
decide (seIn b / 2 ^ 48 = pkgNo s) && (
decide (obj s 0x7020 3 = 1) && (
decide (engineReads s off len = true) && (
let v := (readMem s off len)
let q₀ := (unpeek acc (touch off len s))
let ls := (walkLines x.desc (3 + x.gen % 2) x.merged x.tail (queryWalk acc b x v q₀).1)
let q₁ := (poisonDead ls q₀)
decide (homesWait (queryId acc) ls q₁ = none) && (
true))))))))
| _ => false))
(⟨.ok, 0⟩)))
(4)))
(wOp 1 none)))
 && (((fun (s : State) =>
((fun (acc : Nat) =>
((fun (acks : List Status) =>
((fun (ack : Status) =>
(match tget s.sops acc with
| some o => (match o.snap with
| some (g, m, tl, seq) => decide (seOp o.posted.req.body = 1) && (
decide (usable o.status = true) && (
let d := ((sindex s (seIndex o.posted.req.body)).desc)
let ls := ((o.cands.map (fun c => linesOf (candOrig d c) (origBytes d) ++ linesOf (candAttr d c) 64)).flatten)
let q := (poisonDead ls s)
decide (homesWait (queryId acc) ls q = none) && (
true)))
| _ => false)
| _ => false))
(.ok)))
([])))
(4)))
(wOp 1 (some (0, 0, 0, 1)))))
 && (((fun (s : State) =>
((fun (acc : Nat) =>
((fun (data : Remote) =>
((fun (ack : Status) =>
(match tget s.sops acc with
| some o => let b := (o.posted.req.body)
let n := (seIndex b)
let out : SOut := ({ SOut.of .ok 0 with seq := (sindex s n).nextSeq, vector := o.slot })
decide (seOp b = 3) && (
true)
| _ => false))
(.ok)))
(⟨.ok, 0⟩)))
(4)))
(wOp 3 none)))
 && (((fun (s : State) =>
((fun (acc : Nat) =>
((fun (data : Remote) =>
((fun (ack : Status) =>
(match tget s.sops acc with
| some o => let b := (o.posted.req.body)
let n := (seIndex b)
let x := (sindex s n)
let off := (seIn b % 2 ^ 48)
let out : SOut := ({ SOut.of .ok 0 with seq := x.nextSeq, vector := o.slot })
decide (seOp b = 2) && (
decide (seIn b / 2 ^ 48 = pkgNo s) && (
decide (obj s 0x7020 3 = 1) && (
decide (engineReads s off (bodyBytes x.desc) = true) && (
true))))
| _ => false))
(.ok)))
(⟨.ok, 0⟩)))
(4)))
(wOp 2 none)))
 && (((fun (s : State) =>
((fun (n : Nat) =>
decide ((sindex s n).st = 1) && (
decide (obj s 0x9010 5 ≠ 0) && (
decide ((sindex s n).tail ≠ (sindex s n).merged) && (
true))))
(0)))
(wCh { wIx 1 with tail := 1 })))
 && (((fun (s : State) =>
((fun (n : Nat) =>
decide ((sindex s n).st = 2) && (
decide (queriesBound s n (((sindex s n).gen + 2 ^ 32 - 1) % 2 ^ 32) = false) && (
decide ((s.indexes.filter (fun e => e.2.st == 3)).length < 2) && (
let x := (sindex s n)
true))))
(0)))
(wCh { wIx 2 with tail := 1 })))
 && (((fun (s : State) =>
((fun (n : Nat) =>
decide ((sindex s n).st = 3) && (
(match (sindex s n).snap with
| some (tl, seq, p) => decide (graphReadable s (sindex s n) = true) && (
let ls := (ownedLines s (sindex s n).desc)
let q := (poisonDead ls s)
decide (homesWait (2 ^ 72 + n) ls q = none) && (
true))
| _ => false)))
(0)))
(wCh { wIx 3 with snap := some (0, 1, 0) })))
 && (((fun (s : State) =>
((fun (n : Nat) =>
decide ((sindex s n).st = 3) && (
decide (graphReadable s (sindex s n) = false) && (
decide ((sindex s n).mergeJob = none) && (
true))))
(0)))
({ wCh (wIx 3) with poison := (List.range 5).map (fun k => elemAt wSd (3 + k % 2) 0 / 64) })))
    : Bool) = true := by decide +kernel

theorem witness_TranslationCommandsComplete : (
(((fun (s : State) =>
((fun (h : Hdr) =>
((fun (body : Nat) =>
decide (invContext body ≠ 0) && (
decide (invCount body ≠ 0xFFFFFFFF) && (
decide (invPage body + invCount body ≤ 2 ^ 36) && (
(match admitted (linkReq 0x17 h body) { postedChecks (invalBad 0 body) none false false [] with names := .anyPackage }
  32 64 s with
| some (rq, t) => let u : State := (complete rq .ok (t.accCtr + 1)
  (dropXlt body
  { t with accCtr := t.accCtr + 1, invals := tset t.invals (t.accCtr + 1) ⟨⟨rq, t.time⟩, invStalls t body⟩ }))
decide ((bit (descMem t (invContext body)) 0 = true → descTenant (descMem t (invContext body)) = h.tenant)) && (
decide (invScope body = 0) && (
decide (invCount body ≠ 0) && (
true)))
| _ => false)))))
(wInv 0)))
(wHdr 0 0)))
(wUp)))
 && (((fun (s : State) =>
((fun (h : Hdr) =>
((fun (body : Nat) =>
decide (invContext body ≠ 0) && (
decide (invCount body ≠ 0xFFFFFFFF) && (
decide (invPage body + invCount body ≤ 2 ^ 36) && (
(match admitted (linkReq 0x17 h body) { postedChecks (invalBad 1 body) none false false [] with names := .anyPackage }
  32 64 s with
| some (rq, t) => let u : State := (complete rq .ok (t.accCtr + 1)
  (dropXlt body
  { t with accCtr := t.accCtr + 1, invals := tset t.invals (t.accCtr + 1) ⟨⟨rq, t.time⟩, invStalls t body⟩ }))
decide ((bit (descMem t (invContext body)) 0 = true → descTenant (descMem t (invContext body)) = h.tenant)) && (
decide (invScope body = 1) && (
decide (invPage body = 0) && (
decide (invCount body = 0) && (
true))))
| _ => false)))))
(wInv 1)))
(wHdr 0 0)))
(wUp)))
 && (((fun (s : State) =>
((fun (acc : Nat) =>
(match tget s.invals acc with
| some x => decide (x.waits.all (fun k => (tget s.stalls k).isNone) = true) && (
decide (bit x.posted.req.body 39 = true) && (
decide (bits x.posted.req.body 51 40 = pkgNo s) && (
true)))
| _ => false))
(4)))
({ wUp with invals := [(4, ⟨wPosted 0x17 (wInv 0 + 2 ^ 39), []⟩)] })))
 && (((fun (s : State) =>
((fun (a : EngineAccess) =>
(match (walksOf s a.die).find? (fun x => x.who.access == a) with
| some w => decide (w.stale = true) && (
true)
| _ => false))
(wVa)))
({ wUp with walks := [⟨⟨wVa, 0, 0, false⟩, true, 2 ^ 71⟩] })))
 && (((fun (s : State) =>
((fun (q : Nat) =>
((fun (seq : Nat) =>
(match tget s.faults (faultKey q seq) with
| some f => decide (f.stage = 1) && (
true)
| _ => false))
(1)))
(2)))
(wFs 1)))
 && (((fun (s : State) =>
((fun (q : Nat) =>
((fun (seq : Nat) =>
(match tget s.faults (faultKey q seq) with
| some f => decide (f.stage = 2) && (
true)
| _ => false))
(1)))
(2)))
(wFs 2)))
 && (((fun (s : State) =>
((fun (h : Hdr) =>
((fun (value : Nat) =>
((fun (act : Nat) =>
((fun (die : Nat) =>
let v := (setBits value 29 28 act)
(match admitted ⟨0x03, h, 0, v, [], false⟩ (memChecks s h 1) (64 * h.length) (max 64 (64 * h.length)) s with
| some (rq, t) => decide (h.length ≠ 0) && (
decide (pageDie h.offset = some die) && (
decide (die < 16) && (
decide ((h.offset - pageBase) % 65536 = 0xF00) && (
decide (v < 2 ^ 32) && (
decide (bits v 29 28 = act) && (
(match namedFault t die (bits v 15 0) with
| some (k, f) => (match firstOf f with
| some i => decide (i.access.context.getD 0 = bits v 27 16) && (
decide (i.access.tenant = h.tenant) && (
let u := (releaseHeld (k / 2 ^ 32) { t with faults := terase t.faults k })
decide (act = 1) && (
true)))
| _ => false)
| _ => false)))))))
| _ => false))
(8)))
(1)))
(fld [(0, 5), (16, 3)])))
(wHdr (pageBase + 8 * 65536 + 0xF00) 1)))
(wFs 2)))
 && (((fun (s : State) =>
((fun (h : Hdr) =>
((fun (value : Nat) =>
((fun (act : Nat) =>
((fun (die : Nat) =>
let v := (setBits value 29 28 act)
(match admitted ⟨0x03, h, 0, v, [], false⟩ (memChecks s h 1) (64 * h.length) (max 64 (64 * h.length)) s with
| some (rq, t) => decide (h.length ≠ 0) && (
decide (pageDie h.offset = some die) && (
decide (die < 16) && (
decide ((h.offset - pageBase) % 65536 = 0xF00) && (
decide (v < 2 ^ 32) && (
decide (bits v 29 28 = act) && (
(match namedFault t die (bits v 15 0) with
| some (k, f) => (match firstOf f with
| some i => decide (i.access.context.getD 0 = bits v 27 16) && (
decide (i.access.tenant = h.tenant) && (
let u := (releaseHeld (k / 2 ^ 32) { t with faults := terase t.faults k })
decide (act = 2) && (
true)))
| _ => false)
| _ => false)))))))
| _ => false))
(8)))
(2)))
(fld [(0, 5), (16, 3)])))
(wHdr (pageBase + 8 * 65536 + 0xF00) 1)))
(wFs 2)))
    : Bool) = true := by decide +kernel

theorem witness_TranslationCommandsComplete_walk :
    let w : Walk := ⟨⟨wVa, 0, 0, false⟩, false, 2 ^ 71⟩
    (walksOf wWk wVa.die).find? (fun x => x.who.access == wVa) = some w ∧ w.stale = false ∧
    walk (drawFree wWk).2 w.id wVa (wVa.context.getD 0) ((drawFree wWk).1 % 2 == 0) =
      .to 0x1000 [⟨8, 3, 1, 0, 0xF⟩, ⟨8, 3, 0, 0, 0x21001⟩] := by
  have h : ∀ b, walk (drawFree wWk).2 (2 ^ 71) wVa (wVa.context.getD 0) b =
      .to 0x1000 [⟨8, 3, 1, 0, 0xF⟩, ⟨8, 3, 0, 0, 0x21001⟩] := by decide +kernel
  exact ⟨by decide +kernel, rfl, h _⟩

theorem witness_DmaCompletes : (
(((fun (s : State) =>
((fun (h : Hdr) =>
((fun (body : Nat) =>
(match admitted (linkReq 0x18 h body) (dmaChecks s body) 64 64 s with
| some (rq, t) => decide (dmSrcDomain body = false) && (
decide (dmDstDomain body = false) && (
decide (dmaRefused t body = none) && (
decide (dmLength body ≠ 0) && (
decide ((channelOf t (pickChannel t body)).length < 16) && (
let c := (pickChannel t body)
true)))))
| _ => false))
(wDm)))
(wHdr 0 0)))
(wUp)))
 && (((fun (s : State) =>
((fun (c : Nat) =>
((fun (d : Dma) =>
((fun (q : List Dma) =>
decide (channelOf s c = d :: q) && (
true))
([])))
(⟨7, ⟨0x18, wHdr 0 0, wDm, 0, [], false⟩, 0, false, 0, false, false⟩)))
(4)))
(wDma false false)))
 && (((fun (s : State) =>
((fun (c : Nat) =>
((fun (d : Dma) =>
((fun (q : List Dma) =>
((fun (r : Remote) =>
((fun (ack : Status) =>
decide (channelOf s c = d :: q) && (
decide (d.started = true) && (
decide (dmaStalled s c = false) && (
decide (d.aborted = false) && (
(match runPieces c d (sourceRanges s c d) r ack (piecesFrom s d d.done (dmLength d.req.body / 64)) d.done s with
| (p, some st, u) => true
| _ => false))))))
(.ok)))
(⟨.ok, 0⟩)))
([])))
(⟨7, ⟨0x18, wHdr 0 0, wDm, 0, [], false⟩, 0, true, 0, false, false⟩)))
(4)))
(wDma true false)))
 && (((fun (s : State) =>
((fun (c : Nat) =>
((fun (r : Remote) =>
((fun (ack : Status) =>
((fun (d : Dma) =>
((fun (q : List Dma) =>
decide (channelOf s c = d :: q) && (
decide (d.started = true) && (
decide (dmaStalled s c = false) && (
decide (d.aborted = true) && (
true)))))
([])))
(⟨7, ⟨0x18, wHdr 0 0, wDm, 0, [], false⟩, 0, true, 0, true, false⟩)))
(.ok)))
(⟨.ok, 0⟩)))
(4)))
(wDma true true)))
    : Bool) = true := by decide +kernel

theorem witness_TileArithmeticCompletes : (
(((fun (s : State) =>
((fun (t : Nat) =>
((fun (f : Feed) =>
((fun (m : MvStep) =>
decide (tileIssues s t = true) && (
decide ((tile s t).held = []) && (
let after := (fun (u : UnitStep) => unitStep t u f s)
let done := (fun (u : UnitStep) => setTile t { tile (after u) t with held := [] } (after u))
decide (unitReady s t (.matrixVector m) f = true) && (
true))))
(wMv)))
(wFeed)))
(0)))
(wTl)))
 && (((fun (s : State) =>
((fun (t : Nat) =>
((fun (f : Feed) =>
((fun (op : VecOp) =>
decide (tileIssues s t = true) && (
decide ((tile s t).held = []) && (
let after := (fun (u : UnitStep) => unitStep t u f s)
let done := (fun (u : UnitStep) => setTile t { tile (after u) t with held := [] } (after u))
decide (unitReady s t (.vector op) f = true) && (
true))))
(.add)))
(wFeed)))
(0)))
(wTl)))
 && (((fun (s : State) =>
((fun (t : Nat) =>
((fun (f : Feed) =>
((fun (target : Nat) =>
decide (tileIssues s t = true) && (
decide ((tile s t).held = []) && (
let after := (fun (u : UnitStep) => unitStep t u f s)
let done := (fun (u : UnitStep) => setTile t { tile (after u) t with held := [] } (after u))
decide (unitReady s t (.convert target) f = true) && (
true))))
(3)))
(wFeed)))
(0)))
(wTl)))
 && (((fun (s : State) =>
((fun (t : Nat) =>
((fun (f : Feed) =>
((fun (fn : SpecialFn) =>
decide (tileIssues s t = true) && (
decide ((tile s t).held = []) && (
let after := (fun (u : UnitStep) => unitStep t u f s)
let done := (fun (u : UnitStep) => setTile t { tile (after u) t with held := [] } (after u))
decide (unitReady s t (.special fn) f = true) && (
true))))
(.recip)))
(wFeed)))
(0)))
(wTl)))
 && (((fun (s : State) =>
((fun (t : Nat) =>
((fun (f : Feed) =>
((fun (maximum : Bool) =>
decide (tileIssues s t = true) && (
decide ((tile s t).held = []) && (
let after := (fun (u : UnitStep) => unitStep t u f s)
let done := (fun (u : UnitStep) => setTile t { tile (after u) t with held := [] } (after u))
decide (unitReady s t (.reduce maximum) f = true) && (
true))))
(false)))
(wFeed)))
(0)))
(wTl)))
 && (((fun (s : State) =>
((fun (t : Nat) =>
((fun (f : Feed) =>
((fun (u : UnitStep) =>
decide ((unitSinks u).all (fun k => operand t k f s != Operand.idle && !(operand t k f s).bad) = true) && (
decide (f.write = false) && (
decide (f.send = false) && (
true))))
(.vector .add)))
(wFeed)))
(0)))
(wTl)))
 && (((fun (s : State) =>
((fun (t : Nat) =>
((fun (m : MvStep) =>
((fun (w : Operand) =>
((fun (v : Operand) =>
((fun (c : TileCfg) =>
decide ((tile s t).cfg = some c) && (
true))
(wCfg)))
(.idle)))
(.idle)))
(wMv)))
(0)))
(wTl)))
 && (((fun (s : State) =>
((fun (t : Nat) =>
((fun (f : Feed) =>
((fun (op : VecOp) =>
((fun (x : Nat) =>
((fun (y : Nat) =>
((fun (z : Nat) =>
decide (operand t 2 f s = .data x false) && (
decide (operand t 3 f s = .data y false) && (
decide (operand t 4 f s = .data z false) && (
decide ((op = .fma ∨ op = .select)) && (
true)))))
(0)))
(0)))
(0)))
(.fma)))
(wFeed)))
(0)))
(wTl)))
 && (((fun (s : State) =>
((fun (t : Nat) =>
((fun (f : Feed) =>
((fun (target : Nat) =>
((fun (x : Nat) =>
decide (operand t 2 f s = .data x false) && (
true))
(0)))
(3)))
(wFeed)))
(0)))
(wTl)))
    : Bool) = true := by decide +kernel

theorem witness_TileAccessCommandsComplete : (
(((fun (s : State) =>
((fun (f : Feed) =>
((fun (ack : Status) =>
((fun (r : Remote) =>
((fun (a : EngineAccess) =>
decide (isTile a = true) && (
decide (tileIssues s (unitOf a) = true) && (
decide ((tile s (unitOf a)).held = []) && (
let t := (unitOf a)
let own := (fun (k : AccessKind) => asKind k (ownAccess s a))
let done := (fun (u : State) => setTile t { tile u t with held := [] } u)
decide (loadFree s (own .load) = true) && (
true)))))
(wTa .load)))
(⟨.ok, 0⟩)))
(.ok)))
(wFeed)))
(wTl)))
 && (((fun (s : State) =>
((fun (f : Feed) =>
((fun (ack : Status) =>
((fun (r : Remote) =>
((fun (a : EngineAccess) =>
decide (isTile a = true) && (
decide (tileIssues s (unitOf a) = true) && (
decide ((tile s (unitOf a)).held = []) && (
let t := (unitOf a)
let own := (fun (k : AccessKind) => asKind k (ownAccess s a))
let done := (fun (u : State) => setTile t { tile u t with held := [] } u)
decide (loadFree s (own .acquireLoad) = true) && (
true)))))
(wTa .load)))
(⟨.ok, 0⟩)))
(.ok)))
(wFeed)))
(wTl)))
 && (((fun (s : State) =>
((fun (f : Feed) =>
((fun (ack : Status) =>
((fun (a : EngineAccess) =>
((fun (v : Nat) =>
decide (isTile a = true) && (
decide (tileIssues s (unitOf a) = true) && (
decide ((tile s (unitOf a)).held = []) && (
let t := (unitOf a)
let own := (fun (k : AccessKind) => asKind k (ownAccess s a))
let done := (fun (u : State) => setTile t { tile u t with held := [] } u)
decide (accessFree s (own .store) = true) && (
decide (operand t 6 f s = .data v false) && (
true))))))
(0)))
(wTa .store)))
(.ok)))
(wFeed)))
(wTl)))
 && (((fun (s : State) =>
((fun (f : Feed) =>
((fun (r : Remote) =>
((fun (a : EngineAccess) =>
((fun (body : Nat) =>
decide (isTile a = true) && (
decide (tileIssues s (unitOf a) = true) && (
decide ((tile s (unitOf a)).held = []) && (
let t := (unitOf a)
let own := (fun (k : AccessKind) => asKind k (ownAccess s a))
let done := (fun (u : State) => setTile t { tile u t with held := [] } u)
decide (atomicBad body = false) && (
let b : EngineAccess := ({ own .atomic with bytes := atomicWidth body })
decide (loadFree s b = true) && (
true))))))
(fld [(136, 1), (128, 1), (0, 7)])))
(wTa .atomic)))
(⟨.ok, 0⟩)))
(wFeed)))
(wTl)))
 && (((fun (s : State) =>
((fun (i : Issued) =>
((fun (r : Option Remote) =>
decide (i.access.context = none) && (
decide (i.access.address / 2 ^ 48 = pkgNo s) && (
let n := (i.access.address % 2 ^ 48)
decide (i.access.kind ≠ .atomic) && (
decide (homeReady s n i.access.bytes = true) && (
decide (poisonDead (linesOf n i.access.bytes) s = s) && (
decide ((isLoad i.access.kind = true → readSnoops s (linesOf n i.access.bytes) = [])) && (
true)))))))
(none)))
(⟨wTa .load, 0, 0, false⟩)))
(wTl)))
 && (((fun (s : State) =>
((fun (t : Nat) =>
((fun (v : Nat) =>
((fun (l : TileLoad) =>
((fun (ls : List TileLoad) =>
decide ((tile s t).loads = l :: ls) && (
decide (l.data = some v) && (
decide (l.bad = false) && (
decide (sinksFree s t 2 = true) && (
decide ((tile s t).held = []) && (
true))))))
([])))
(⟨0x1000, 8, false, some 7, false⟩)))
(7)))
(0)))
({ wTl with tiles := [(0, { Tile.zero with cfg := some { wCfg with routes := 4 }, loads := [⟨0x1000, 8, false, some 7, false⟩] })] })))
 && (((fun (s : State) =>
((fun (t : Nat) =>
decide (tileIssues s t = true) && (
decide (pendingOf s t = []) && (
decide ((tile s t).held = []) && (
let done := (fun (u : State) => setTile t { tile u t with held := [] } u)
true))))
(0)))
(wTl)))
 && (((fun (s : State) =>
((fun (t : Nat) =>
((fun (a : EngineAccess) =>
((fun (f : Feed) =>
((fun (ack : Status) =>
((fun (v : Nat) =>
decide (tileIssues s t = true) && (
decide (pendingOf s t = []) && (
decide ((tile s t).held = []) && (
let done := (fun (u : State) => setTile t { tile u t with held := [] } u)
decide (isTile a = true) && (
decide (unitOf a = t) && (
decide (operand t 6 f s = .data v false) && (
true)))))))
(0)))
(.ok)))
(wFeed)))
(wTa .store)))
(0)))
(wTl)))
 && (((fun (s : State) =>
((fun (t : Nat) =>
((fun (n : Nat) =>
((fun (operand : Nat) =>
((fun (ten : Nat) =>
decide (tileIssues s t = true) && (
decide (pendingOf s t = []) && (
decide ((tile s t).held = []) && (
let done := (fun (u : State) => setTile t { tile u t with held := [] } u)
decide (awake s (homeDom (n % 8)) = true) && (
decide (tileTenant s t = some ten) && (
decide ((syncObj s n).owner = some ten) && (
true)))))))
(20)))
(4)))
(5)))
(0)))
(wTl)))
 && (((fun (s : State) =>
((fun (t : Nat) =>
((fun (n : Nat) =>
((fun (cond : Nat) =>
((fun (target : Nat) =>
((fun (ten : Nat) =>
decide (tileIssues s t = true) && (
decide (pendingOf s t = []) && (
decide ((tile s t).held = []) && (
let done := (fun (u : State) => setTile t { tile u t with held := [] } u)
decide (awake s (homeDom (n % 8)) = true) && (
decide (tileTenant s t = some ten) && (
decide ((syncObj s n).owner = some ten) && (
decide (condHolds cond (syncObj s n).value target = true) && (
true))))))))
(20)))
(3)))
(1)))
(5)))
(0)))
(wTl)))
 && (((fun (s : State) =>
((fun (t : Nat) =>
((fun (n : Nat) =>
((fun (cond : Nat) =>
((fun (target : Nat) =>
((fun (ten : Nat) =>
decide (tileIssues s t = true) && (
decide (pendingOf s t = []) && (
decide ((tile s t).held = []) && (
let done := (fun (u : State) => setTile t { tile u t with held := [] } u)
decide (awake s (homeDom (n % 8)) = true) && (
decide (tileTenant s t = some ten) && (
decide ((syncObj s n).owner = some ten) && (
decide (condHolds cond (syncObj s n).value target = false) && (
decide ((syncObj s n).waiters.length < 64) && (
true)))))))))
(20)))
(9)))
(1)))
(5)))
(0)))
(wTl)))
    : Bool) = true := by decide +kernel

theorem witness_DomainMembershipComplete : (
(((fun (s : State) =>
((fun (m : DapMsg) =>
((fun (answers : List MemberAnswer) =>
(match dapAdmitted dapWrite (toObj m 0x6010 0xA) s with
| some (c, t) => decide (isMaster t = true) && (
decide (t.pkg ≠ .expelled) && (
decide (c.value = 1) && (
decide (obj t 0x6010 2 ≠ 0) && (
let was := (if obj t 0x6010 7 = 1 then t.formFrom else obj t 0x6010 7)
let u := (tellMembers 3 0 1 (drawRanges
  (setObj 0x6010 7 1 { t with memberRanges := [], dissolving := false, formFrom := was })))
decide (allAnswered u answers = true) && (
decide (obj u 0x6011 (obj u 0x6010 3 + 1) = pkgNo u) && (
decide (cascadeOk u = true) && (
(answers).all (fun a => decide (obj u 0x6010 2 ≤ a.index ∨ a.listed = true ∧ a.digest = domainDigest u)) && (
true))))))))
| _ => false))
([])))
(wMsg false 1 1)))
(wObj [(0x601101, 0)] (wMas 0))))
 && (((fun (s : State) =>
decide (obj s 0x6010 7 = 1) && (
decide (formWaits s = true) && (
true)))
({ wMas 1 with dict := { (wMas 1).dict with i3c := [(1, { Session.fresh (.management 1) 0 with busy := some (okey 0x6010 0xA) })] } })))
 && (((fun (s : State) =>
((fun (m : DapMsg) =>
(match dapAdmitted dapWrite (toObj m 0x6010 0xA) s with
| some (c, t) => decide (isMaster t = true) && (
decide (t.pkg ≠ .expelled) && (
decide (c.value = 0) && (
true)))
| _ => false))
(wMsg false 1 0)))
(wMas 2)))
 && (((fun (s : State) =>
((fun (g : Nat) =>
((fun (news : DomainNews) =>
decide (obj s 0x6010 7 ≠ 0) && (
decide (s.pkg ≠ .expelled) && (
true)))
(⟨[], [], [], none⟩)))
(4)))
(wMas 2)))
 && (((fun (s : State) =>
((fun (g : Nat) =>
((fun (m : Nat) =>
((fun (news : DomainNews) =>
decide (obj s 0x6010 7 = 0) && (
decide (s.pkg = .ready) && (
decide (undisturbed s = true) && (
(match news.join with
| some j => decide (j.index = some m) && (
true)
| _ => false)))))
(⟨[], [], [], some ⟨some 1, [], false⟩⟩)))
(1)))
(4)))
(wMas 0)))
 && (((fun (s : State) =>
((fun (g : Nat) =>
((fun (news : DomainNews) =>
decide (s.pkg = .expelled) && (
true))
(⟨[], [], [], none⟩)))
(4)))
({ wMas 2 with pkg := .expelled })))
 && (((fun (s : State) =>
((fun (m : DapMsg) =>
(match dapAdmitted dapGuarded (toObj m 0x6010 5) s with
| some (c, t) => decide (t.pkg ≠ .expelled) && (
decide (¬ (c.value = 1 ∧ obj t 0x6010 4 = 0)) && (
decide (logRoom t 0x20 = true) && (
true)))
| _ => false))
(wMsg true 1 0)))
(wMas 0)))
 && (((fun (s : State) =>
((fun (m : DapMsg) =>
(match dapAdmitted dapWrite (toObj m 0x6010 6) s with
| some (c, t) => decide (c.value ≤ 1) && (
decide (t.pkg ≠ .expelled) && (
decide (obj t 0x6010 7 ≠ 2) && (
true)))
| _ => false))
(wMsg false 1 1)))
(wMas 0)))
 && (((fun (s : State) =>
((fun (m : DapMsg) =>
(match dapAdmitted dapWrite (toObj m 0x6010 6) s with
| some (c, t) => decide (c.value ≤ 1) && (
decide (t.pkg ≠ .expelled) && (
decide (obj t 0x6010 7 = 2) && (
decide (isMaster t = true) && (
decide (obj t 0x6010 6 ≠ c.value) && (
true)))))
| _ => false))
(wMsg false 1 1)))
(wMas 2)))
 && (((fun (s : State) =>
((fun (m : DapMsg) =>
(match dapAdmitted dapGuarded (toObj m 0x6012 m.sub) s with
| some (c, t) => let a := (c.sub - 1)
decide (t.pkg ≠ .expelled) && (
decide (bits c.value 63 34 = 0) && (
decide (bits c.value 31 28 = 0) && (
decide (logRoom t 0x20 = true) && (
decide (obj t 0x6010 7 ≠ 2) && (
decide (bits c.value 33 32 < 2) && (
true))))))
| _ => false))
({ wMsg true 8 (9 + 2 ^ 32) with sub := 1 })))
(wMas 0)))
 && (((fun (s : State) =>
((fun (m : DapMsg) =>
(match dapAdmitted dapGuarded (toObj m 0x6012 m.sub) s with
| some (c, t) => let a := (c.sub - 1)
decide (t.pkg ≠ .expelled) && (
decide (bits c.value 63 34 = 0) && (
decide (bits c.value 31 28 = 0) && (
decide (logRoom t 0x20 = true) && (
decide (obj t 0x6010 7 = 2) && (
decide (isMaster t = true) && (
decide (bits c.value 31 0 = bits (agentEntry t a) 31 0) && (
decide (bits c.value 33 32 = 3) && (
decide ((agentState t a = 1 ∨ agentState t a = 2)) && (
true)))))))))
| _ => false))
({ wMsg true 8 (7 + 3 * 2 ^ 32) with sub := 1 })))
(wAg 1)))
 && (((fun (s : State) =>
((fun (m : DapMsg) =>
(match dapAdmitted dapGuarded (toObj m 0x6012 m.sub) s with
| some (c, t) => let a := (c.sub - 1)
decide (t.pkg ≠ .expelled) && (
decide (bits c.value 63 34 = 0) && (
decide (bits c.value 31 28 = 0) && (
decide (logRoom t 0x20 = true) && (
decide (obj t 0x6010 7 = 2) && (
decide (isMaster t = true) && (
decide (bits c.value 31 0 = bits (agentEntry t a) 31 0) && (
decide (bits c.value 33 32 = 1) && (
decide (agentState t a = 2) && (
true)))))))))
| _ => false))
({ wMsg true 8 (7 + 2 ^ 32) with sub := 1 })))
(wAg 2)))
    : Bool) = true := by decide +kernel

theorem witness_DomainChangesComplete : (
(((fun (s : State) =>
((fun (member : Nat) =>
decide (isMaster s = true) && (
decide (obj s 0x6010 7 ≠ 0) && (
decide (member < obj s 0x6010 2) && (
true))))
(0)))
(wMas 2)))
 && (((fun (s : State) =>
((fun (d : DapMsg) =>
(match dapAdmitted dapWrite (toObj d 0xA050 2) s with
| some (c, t) => let f := (Config.free t.freeCtr)
let u : State := ({ t with freeCtr := t.freeCtr + 1 })
let m := (bits c.value 18 16)
let p := (bits c.value 43 32)
let listed := (obj t 0x6011 (m + 1))
let draining := (if m = obj t 0x6010 3 then decide (t.pkg = .draining) else f % 2 == 1)
decide (c.actor = 2) && (
decide (bits c.value 255 44 = 0) && (
decide (bits c.value 31 19 = 0) && (
decide (bits c.value 15 8 = 0) && (
decide (formed t = true) && (
decide (isMaster t = true) && (
decide (m < obj t 0x6010 2) && (
decide (t.change = none) && (
decide (bits c.value 7 0 = 1) && (
decide (listed = vacantMember) && (
true))))))))))
| _ => false))
(wCmd 1)))
(wObj [(0x601101, vacantMember)] (wMas 2))))
 && (((fun (s : State) =>
((fun (d : DapMsg) =>
(match dapAdmitted dapWrite (toObj d 0xA050 2) s with
| some (c, t) => let f := (Config.free t.freeCtr)
let u : State := ({ t with freeCtr := t.freeCtr + 1 })
let m := (bits c.value 18 16)
let p := (bits c.value 43 32)
let listed := (obj t 0x6011 (m + 1))
let draining := (if m = obj t 0x6010 3 then decide (t.pkg = .draining) else f % 2 == 1)
decide (c.actor = 2) && (
decide (bits c.value 255 44 = 0) && (
decide (bits c.value 31 19 = 0) && (
decide (bits c.value 15 8 = 0) && (
decide (formed t = true) && (
decide (isMaster t = true) && (
decide (m < obj t 0x6010 2) && (
decide (t.change = none) && (
decide (bits c.value 7 0 = 2) && (
decide (listed ≠ vacantMember) && (
decide (draining = true) && (
true)))))))))))
| _ => false))
(wCmd 2)))
(wDrain 0)))
 && (((fun (s : State) =>
((fun (d : DapMsg) =>
(match dapAdmitted dapWrite (toObj d 0xA050 2) s with
| some (c, t) => let f := (Config.free t.freeCtr)
let u : State := ({ t with freeCtr := t.freeCtr + 1 })
let m := (bits c.value 18 16)
let p := (bits c.value 43 32)
let listed := (obj t 0x6011 (m + 1))
let draining := (if m = obj t 0x6010 3 then decide (t.pkg = .draining) else f % 2 == 1)
decide (c.actor = 2) && (
decide (bits c.value 255 44 = 0) && (
decide (bits c.value 31 19 = 0) && (
decide (bits c.value 15 8 = 0) && (
decide (formed t = true) && (
decide (isMaster t = true) && (
decide (m < obj t 0x6010 2) && (
decide (t.change = none) && (
decide (bits c.value 7 0 = 3) && (
decide (listed ≠ vacantMember) && (
decide (draining = true) && (
true)))))))))))
| _ => false))
(wCmd 3)))
(wDrain 0)))
 && (((fun (s : State) =>
((fun (m : Nat) =>
((fun (p : Nat) =>
decide (s.change = some ⟨1, m, p⟩) && (
decide (s.unrebuilt = []) && (
true)))
(5)))
(0)))
({ wMas 2 with change := some ⟨1, 0, 5⟩ })))
 && (((fun (s : State) =>
decide (s.change = none) && (
decide (s.unrebuilt ≠ []) && (
true)))
({ wMas 2 with unrebuilt := [(5, [1])] })))
 && (((fun (s : State) =>
((fun (m : Nat) =>
((fun (p : Nat) =>
decide (s.change = some ⟨2, m, p⟩) && (
decide (m ≠ obj s 0x6010 3) && (
true)))
(5)))
(1)))
({ wMas 2 with change := some ⟨2, 1, 5⟩ })))
 && (((fun (s : State) =>
decide (s.change = none) && (
decide (s.pkg = .draining) && (
decide (obj s 0x6010 7 = 2) && (
decide (isMaster s = false) && (
true)))))
(wObj [(0x601005, 0)] { wMas 2 with pkg := .draining })))
 && (((fun (s : State) =>
((fun (m : DapMsg) =>
(match dapAdmitted dapWrite (toObj m 0xA041 1) s with
| some (c, t) => let x := ((voteTarget c.value, voteManager c.value))
let u := (finOk c (countVotes { t with votes := t.votes ++ [x] }))
decide (c.actor = 2) && (
decide (voteForm c.value = true) && (
decide (voteTargetOk t x.1 = true) && (
true)))
| _ => false))
(wMsg false 3392 (fld [(0, 0x45544F56), (32, 1), (64, 1)]))))
(wMas 2)))
    : Bool) = true := by decide +kernel

theorem witness_WatchersComplete : (
(((fun (s : State) =>
decide (obj s 0x6020 5 ≠ 0) && (
true))
(wObj [(0x602005, 100)] wTl)))
 && (((fun (s : State) =>
((fun (home : Nat) =>
decide (s.pkg ≠ .off) && (
decide (home < 8) && (
decide (awake s (homeDom home) = true) && (
true))))
(3)))
(wUp)))
 && (((fun (s : State) =>
((fun (line : Nat) =>
decide (s.pkg ≠ .off) && (
decide (poisoned s line = false) && (
(match objectAt s (extentOf (64 * line)) with
| some (n, o) => decide (entryProt o.entry ≠ 0) && (
decide (o.degraded = false) && (
true))
| _ => false))))
(0x8000)))
({ wUp with placed := [(7, ⟨fld [(64, 0x200000), (128, 2), (16, 1)], 20, 0, false, 0, []⟩)], extents := [(1, Extent.near1)] })))
 && (((fun (s : State) =>
((fun (m : DapMsg) =>
(match dapAdmitted dapRead (toObj m 0x6021 2) s with
| some (c, t) => decide ((c.actor = 3 → (syncObj t (obj t 0x6021 1)).owner = some c.tenant)) && (
true)
| _ => false))
(wMsg false 0 0)))
(wDap)))
    : Bool) = true := by decide +kernel

theorem witness_FramesComplete : (
(((fun (s : State) =>
((fun (f : EthFrame) =>
decide (ethLive s = true) && (
decide (frameDropped s f = true) && (
true)))
(⟨true, 64, 0, [1], 2, false, 0xA000001, false, none, 0, false, true⟩)))
(wEth)))
 && (((fun (s : State) =>
((fun (f : EthFrame) =>
decide (ethLive s = true) && (
decide (frameDropped s f = false) && (
decide (f.port ≠ some 4791) && (
true))))
(⟨true, 64, 0, [], 2, false, 0xA000001, false, none, 0, false, true⟩)))
(wEth)))
 && (((fun (s : State) =>
((fun (f : EthFrame) =>
((fun (q : Nat) =>
decide (ethLive s = true) && (
decide (frameDropped s f = false) && (
decide (q < 4096) && (
decide (f.port = some 4791) && (
decide (f.qp = 0x10000 + q) && (
decide ((qp s q).st ≠ 1) && (
true)))))))
(3)))
(⟨true, 64, 0, [], 2, false, 0xA000001, false, some 4791, 0x10003, false, true⟩)))
(wDap2)))
 && (((fun (s : State) =>
((fun (f : EthFrame) =>
((fun (q : Nat) =>
decide (ethLive s = true) && (
decide (frameDropped s f = false) && (
decide (q < 4096) && (
decide (f.port = some 4791) && (
decide (f.qp = 0x10000 + q) && (
decide ((qp s q).st = 1) && (
decide (f.ce = false) && (
true))))))))
(3)))
(⟨true, 64, 0, [], 2, false, 0xA000001, false, some 4791, 0x10003, false, true⟩)))
(wEth)))
 && (((fun (s : State) =>
((fun (f : EthFrame) =>
((fun (q : Nat) =>
decide (ethLive s = true) && (
decide (frameDropped s f = false) && (
decide (q < 4096) && (
decide (f.port = some 4791) && (
decide (f.qp = 0x10000 + q) && (
decide ((qp s q).st = 1) && (
decide (f.ce = true) && (
true))))))))
(3)))
(⟨true, 64, 0, [], 2, false, 0xA000001, false, some 4791, 0x10003, true, true⟩)))
(wEth)))
 && (((fun (s : State) =>
decide (ethLive s = true) && (
true))
(wEth)))
 && (((fun (s : State) =>
((fun (xoff : Nat) =>
((fun (xon : Nat) =>
decide (ethLive s = true) && (
true))
(2)))
(1)))
(wObj [(0x71000A, 3)] wEth)))
 && (((fun (s : State) =>
((fun (target : Nat) =>
decide (ethLive s = true) && (
decide (target ≠ 0) && (
decide (target = obj s 0x7100 4) && (
true))))
(0xA000001)))
(wEth)))
 && (((fun (s : State) =>
((fun (target : Nat) =>
decide (ethLive s = true) && (
decide (target ≠ 0) && (
decide (target = obj s 0x7100 5) && (
true))))
(0xFE80)))
(wEth)))
 && (((fun (s : State) =>
((fun (target : Nat) =>
decide (ethLive s = true) && (
decide (target ≠ 0) && (
decide (target = obj s 0x7100 4) && (
true))))
(0xA000001)))
(wEth)))
 && (((fun (s : State) =>
((fun (target : Nat) =>
decide (ethLive s = true) && (
decide (target ≠ 0) && (
decide (target = obj s 0x7100 5) && (
true))))
(0xFE80)))
(wEth)))
 && (((fun (s : State) =>
((fun (q : Nat) =>
decide (q < 4096) && (
decide ((qp s q).st = 1) && (
decide (ethLive s = true) && (
true))))
(3)))
(wEth)))
 && (((fun (s : State) =>
((fun (q : Nat) =>
decide (q < 4096) && (
decide ((qp s q).st = 1) && (
true)))
(3)))
(wEth)))
 && (((fun (s : State) =>
decide (dictLive s = true) && (
decide (obj s 0x7100 1 ≠ 2) && (
true)))
(wDap)))
 && (((fun (s : State) =>
decide (obj s 0x7100 1 ≠ 0) && (
true))
(wEth)))
    : Bool) = true := by decide +kernel

theorem witness_RdmaCommandsComplete : (
(((fun (s : State) =>
((fun (q : Nat) =>
((fun (r : RdmaReq) =>
((fun (found : List (Nat × Nat)) =>
decide (ethLive s = true) && (
decide (q < 4096) && (
decide (r.qp = 0x10000 + q) && (
decide ((qp s q).st = 1) && (
decide ((qp s q).queue = []) && (
decide (qpBusy s q = false) && (
decide ((qp s q).expected = r.psn) && (
decide (r.psn < 2 ^ 24) && (
let x := (qp s q)
let taken : EthOp → Nat → State := (fun op n => setQp q { x with queue := [], expected := (x.expected + n) % 2 ^ 24 }
  (setQp q { x with queue := [op], expected := (x.expected + n) % 2 ^ 24 } s))
let packets := (packetsOf x.entry (if r.length ≤ 0x40000000 then r.length else 0))
(match runRead q r found 0 (taken (.read r found 0) packets) with
| (none, u) => true
| _ => false))))))))))
([])))
(wRd 64)))
(3)))
(wEth)))
 && (((fun (s : State) =>
((fun (q : Nat) =>
((fun (r : RdmaReq) =>
((fun (data : Nat) =>
decide (ethLive s = true) && (
decide (q < 4096) && (
decide (r.qp = 0x10000 + q) && (
decide ((qp s q).st = 1) && (
decide ((qp s q).queue = []) && (
decide (qpBusy s q = false) && (
decide ((qp s q).expected = r.psn) && (
decide (r.psn < 2 ^ 24) && (
let x := (qp s q)
let taken : EthOp → Nat → State := (fun op n => setQp q { x with queue := [], expected := (x.expected + n) % 2 ^ 24 }
  (setQp q { x with queue := [op], expected := (x.expected + n) % 2 ^ 24 } s))
let packets := (packetsOf x.entry (if r.length ≤ 0x40000000 then r.length else 0))
let held := (if r.length ≤ 0x40000000 then data % 2 ^ (8 * r.length) else 0)
(match runWrite q r held (taken (.write r held) packets) with
| (none, u) => true
| _ => false))))))))))
(7)))
(wRd 64)))
(3)))
(wEth)))
 && (((fun (s : State) =>
((fun (q : Nat) =>
((fun (r : RdmaReq) =>
((fun (operand : Nat) =>
decide (ethLive s = true) && (
decide (q < 4096) && (
decide (r.qp = 0x10000 + q) && (
decide ((qp s q).st = 1) && (
decide ((qp s q).queue = []) && (
decide (qpBusy s q = false) && (
decide ((qp s q).expected = r.psn) && (
decide (r.psn < 2 ^ 24) && (
let x := (qp s q)
let taken : EthOp → Nat → State := (fun op n => setQp q { x with queue := [], expected := (x.expected + n) % 2 ^ 24 }
  (setQp q { x with queue := [op], expected := (x.expected + n) % 2 ^ 24 } s))
let packets := (packetsOf x.entry (if r.length ≤ 0x40000000 then r.length else 0))
decide (operand < 2 ^ 64) && (
let body := (operand + 2 ^ 128 + 2 ^ 136)
(match runAtomic q r body (taken (.atomic r body) 1) with
| (none, u) => true
| _ => false)))))))))))
(5)))
(wRd 8)))
(3)))
(wEth)))
 && (((fun (s : State) =>
((fun (q : Nat) =>
((fun (r : RdmaReq) =>
((fun (operand : Nat) =>
((fun (compare : Nat) =>
decide (ethLive s = true) && (
decide (q < 4096) && (
decide (r.qp = 0x10000 + q) && (
decide ((qp s q).st = 1) && (
decide ((qp s q).queue = []) && (
decide (qpBusy s q = false) && (
decide ((qp s q).expected = r.psn) && (
decide (r.psn < 2 ^ 24) && (
let x := (qp s q)
let taken : EthOp → Nat → State := (fun op n => setQp q { x with queue := [], expected := (x.expected + n) % 2 ^ 24 }
  (setQp q { x with queue := [op], expected := (x.expected + n) % 2 ^ 24 } s))
let packets := (packetsOf x.entry (if r.length ≤ 0x40000000 then r.length else 0))
decide (operand < 2 ^ 64) && (
decide (compare < 2 ^ 64) && (
let body := (operand + compare * 2 ^ 64 + 2 ^ 128 + 6 * 2 ^ 136)
(match runAtomic q r body (taken (.atomic r body) 1) with
| (none, u) => true
| _ => false))))))))))))
(6)))
(5)))
(wRd 8)))
(3)))
(wEth)))
 && (((fun (s : State) =>
((fun (q : Nat) =>
((fun (psn : Nat) =>
((fun (opcode : Nat) =>
((fun (body : Nat) =>
((fun (data : Nat) =>
((fun (h : Hdr) =>
((fun (bytes : Nat) =>
decide (ethLive s = true) && (
decide (q < 4096) && (
decide ((qp s q).st = 1) && (
decide (psn < 2 ^ 24) && (
decide ((qp s q).expected = psn) && (
decide (4184 < bytes) && (
true)))))))
(5000)))
(wHdr 0x1000 1)))
(0)))
(0)))
(1)))
(10)))
(3)))
(wEth)))
 && (((fun (s : State) =>
((fun (q : Nat) =>
((fun (psn : Nat) =>
((fun (opcode : Nat) =>
((fun (body : Nat) =>
((fun (data : Nat) =>
((fun (h : Hdr) =>
((fun (bytes : Nat) =>
decide (ethLive s = true) && (
decide (q < 4096) && (
decide ((qp s q).st = 1) && (
decide (psn < 2 ^ 24) && (
decide ((qp s q).expected = psn) && (
decide (bytes ≤ 4184) && (
decide (64 ≤ sendsOpen s q) && (
true))))))))
(24)))
(wHdr 0x1000 1)))
(0)))
(0)))
(1)))
(10)))
(3)))
({ wEth with openReqs := (List.range 64).map (fun i => (i, (⟨⟨1, ⟨.eth 3, 1, 5, 3, 20, 7, 0, 0, 0, 1, 0⟩, 0, 0, [], false⟩, [], none, none, [], false, [], none, []⟩ : OpenReq))) })))
 && (((fun (s : State) =>
((fun (q : Nat) =>
((fun (psn : Nat) =>
((fun (opcode : Nat) =>
((fun (body : Nat) =>
((fun (data : Nat) =>
((fun (h : Hdr) =>
((fun (bytes : Nat) =>
decide (ethLive s = true) && (
decide (q < 4096) && (
decide ((qp s q).st = 1) && (
decide (psn < 2 ^ 24) && (
decide ((qp s q).expected = psn) && (
decide (bytes ≤ 4184) && (
decide (sendsOpen s q < 64) && (
true))))))))
(24)))
(wHdr 0x1000 1)))
(0)))
(0)))
(1)))
(10)))
(3)))
(wEth)))
 && (((fun (s : State) =>
((fun (q : Nat) =>
((fun (psn : Nat) =>
((fun (opcode : Nat) =>
((fun (body : Nat) =>
((fun (data : Nat) =>
((fun (h : Hdr) =>
((fun (bytes : Nat) =>
((fun (back : Nat) =>
decide (ethLive s = true) && (
decide (q < 4096) && (
decide ((qp s q).st = 1) && (
decide (psn < 2 ^ 24) && (
decide (0 < back) && (
decide (back ≤ 2 ^ 23) && (
decide ((qp s q).expected = (psn + back) % 2 ^ 24) && (
true))))))))
(1)))
(24)))
(wHdr 0x1000 1)))
(0)))
(0)))
(1)))
(9)))
(3)))
(wEth)))
 && (((fun (s : State) =>
((fun (q : Nat) =>
((fun (psn : Nat) =>
decide (ethLive s = true) && (
decide (q < 4096) && (
decide ((qp s q).st = 1) && (
let gone := (fun (r : RSend) => decide ((psn + 2 ^ 24 - lastPsn (qp s q).entry r) % 2 ^ 24 < 2 ^ 23))
decide (((qp s q).sends.filter gone).isEmpty = false) && (
true)))))
(5)))
(3)))
(wSend)))
 && (((fun (s : State) =>
((fun (q : Nat) =>
((fun (psn : Nat) =>
decide (ethLive s = true) && (
decide (q < 4096) && (
decide ((qp s q).st = 1) && (
true))))
(9)))
(3)))
(wEth)))
 && (((fun (s : State) =>
((fun (q : Nat) =>
decide (q < 4096) && (
decide ((qp s q).st = 1) && (
decide ((qp s q).sends.isEmpty = false) && (
decide ((qp s q).retries < bits (qp s q).entry 127 125) && (
true)))))
(3)))
(wSend)))
 && (((fun (s : State) =>
((fun (q : Nat) =>
decide (q < 4096) && (
decide ((qp s q).st = 1) && (
decide ((qp s q).sends.isEmpty = false) && (
decide (bits (qp s q).entry 127 125 ≤ (qp s q).retries) && (
true)))))
(3)))
(setQp 3 { qp wSend 3 with retries := 3 } wSend)))
 && (((fun (s : State) =>
((fun (q : Nat) =>
decide (q < 4096) && (
decide ((qp s q).st = 1) && (
decide ((qp s q).sends.isEmpty = false) && (
decide (bits (qp s q).entry 130 128 = 7) && (
true)))))
(3)))
(wSend)))
 && (((fun (s : State) =>
((fun (d : DapMsg) =>
(match dapAdmitted dapWrite (toObj d 0x7110 2) s with
| some (c, t) => decide (serving t = true) && (
let q := (obj t 0x7110 1)
decide (qpRefused t q c.value = false) && (
decide (bits c.value 1 0 = 1) && (
decide (bit c.value 388 = false) && (
true))))
| _ => false))
(wMsg false 64 (fld [(0, 1), (8, 4), (32, 7), (388, 0)]))))
(wObj [(0x711001, 5)] wDap)))
    : Bool) = true := by decide +kernel

theorem witness_SessionsComplete : (
(((fun (s : State) =>
((fun (m : DapMsg) =>
decide (dapArrives s .eth = true) && (
decide (m.port = .eth) && (
decide (s.fw.restarting = false) && (
decide (openBad m 6 = none) && (
decide (serving s = true) && (
(match compOf s (bits m.value 15 0) with
| some e => decide (e.2.draining = false) && (
decide (e.2.tenant ≠ 0xFFF) && (
decide (keyOk s (bits m.value 47 16) e.2.tenant 3 [] = true) && (
decide (sessionsOpen s < 32) && (
(match freeSession s with
| some k => true
| _ => false)))))
| _ => false)))))))
({ wMsg false 6 (7 + 3 * 2 ^ 16) with port := .eth, session := 0 })))
({ wObj [(0x710001, 2)] wDap with regions := [(3, fld [(4, 1), (64, 20), (3, 1)])] })))
 && (((fun (s : State) =>
((fun (m : DapMsg) =>
decide (dapArrives s m.port = true) && (
decide (s.fw.restarting = false) && (
decide (openBad m 4 = none) && (
decide (managementOk s (bits m.value 31 0) = true) && (
decide (sessionsOpen s < 32) && (
(match freeSession s with
| some k => true
| _ => false)))))))
({ wMsg false 4 9 with session := 0 })))
(wMe)))
 && (((fun (s : State) =>
((fun (m : DapMsg) =>
((fun (x : Session) =>
decide (dapInOrder m x s = true) && (
decide (m.reserved = 0) && (
decide (m.version = 1) && (
decide (x.kind ≠ .implicit) && (
decide (m.valueLength = m.count) && (
decide (m.valueLength ≤ 8160) && (
true)))))))
(Session.fresh (.management 1) 0)))
(wMsg false 0 0)))
(wDap)))
 && (((fun (s : State) =>
((fun (p : Port) =>
((fun (n : Nat) =>
decide (¬ (p = .i3c ∧ n = 0)) && (
true))
(1)))
(.i3c)))
(wDap)))
 && (((fun (s : State) =>
((fun (address : Nat) =>
decide (dictLive s = true) && (
true))
(9)))
(wDap)))
 && (((fun (s : State) =>
((fun (r : DapReply) =>
((fun (rs : List DapReply) =>
decide (dictLive s = true) && (
decide (s.dict.i3cReplies = r :: rs) && (
true)))
([])))
(⟨.i3c, 1, 1, 0, 0, .ok, 0, 0, 0, 0, 0⟩)))
({ wDap with dict := { wDap.dict with i3cReplies := [⟨.i3c, 1, 1, 0, 0, .ok, 0, 0, 0, 0, 0⟩] } })))
 && (((fun (s : State) =>
((fun (m : DapMsg) =>
((fun (x : Session) =>
(match dapAdmitted dapSubscribe m s with
| some (c, t) => decide (session t c.port c.id = some x) && (
decide (x.subs.contains (okey c.index c.sub) = false) && (
decide (x.subs.length < 16) && (
true)))
| _ => false))
({ Session.fresh (.management 1) 0 with lastSeq := 1, busy := some (okey 0xA060 2) })))
({ wMsg false 0 0 with index := 0xA060, sub := 2 })))
(wDap)))
 && (((fun (s : State) =>
((fun (m : DapMsg) =>
((fun (x : Session) =>
(match dapAdmitted dapUnsubscribe m s with
| some (c, t) => decide (session t c.port c.id = some x) && (
true)
| _ => false))
({ Session.fresh (.management 1) 0 with lastSeq := 1, busy := some (okey 0xA060 2) })))
({ wMsg false 0 0 with index := 0xA060, sub := 2 })))
(wDap)))
 && (((fun (s : State) =>
((fun (p : Port) =>
((fun (b : Nat) =>
decide (dapArrives s p = true) && (
decide (b ≠ 1) && (
decide (b ≠ 5) && (
decide (b ≠ 6) && (
true)))))
(3)))
(.i3c)))
(wDap)))
    : Bool) = true := by decide +kernel

theorem witness_DictionaryCommandsComplete : (
(((fun (s : State) =>
((fun (m : DapMsg) =>
(match dapAdmitted dapRead m s with
| some (c, t) => true
| _ => false))
({ wMsg false 0 0 with index := 0x1010, sub := 1 })))
(wDap)))
 && (((fun (s : State) =>
((fun (m : DapMsg) =>
(match dapAdmitted dapWrite m s with
| some (c, t) => decide (arrayWrite c.index c.sub = none) && (
decide (clearedBy (okey c.index c.sub) = none) && (
decide (ownWrite (okey c.index c.sub) = none) && (
decide ((rangeFor (okey c.index c.sub)).1 ≤ c.value) && (
decide (c.value ≤ (rangeFor (okey c.index c.sub)).2) && (
decide (packageField (okey c.index c.sub) c.value = true) && (
true))))))
| _ => false))
({ wMsg false 4 77 with index := 0x1030, sub := 3 })))
(wDap)))
 && (((fun (s : State) =>
((fun (m : DapMsg) =>
(match dapAdmitted dapGuarded m s with
| some (c, t) => decide (arrayWrite c.index c.sub = none) && (
decide (clearedBy (okey c.index c.sub) = none) && (
decide (ownWrite (okey c.index c.sub) = none) && (
decide ((rangeFor (okey c.index c.sub)).1 ≤ c.value) && (
decide (c.value ≤ (rangeFor (okey c.index c.sub)).2) && (
decide (packageField (okey c.index c.sub) c.value = true) && (
decide (logRoom t 0x20 = true) && (
true)))))))
| _ => false))
({ wMsg true 2 5 with index := 0xA050, sub := 1 })))
(wDap)))
 && (((fun (s : State) =>
((fun (m : DapMsg) =>
(match dapAdmitted dapGuarded (toObj m 0x1021 1) s with
| some (c, t) => decide (t.pkg ≠ .ready) && (
decide (t.pkg ≠ .draining) && (
decide (bits c.value 15 12 = 0) && (
decide (logRoom t 0x20 = true) && (
true))))
| _ => false))
(wMsg true 2 5)))
({ wDap with pkg := .selfTest, selfDone := [1, 2, 3, 4, 5, 6] })))
 && (((fun (s : State) =>
((fun (m : DapMsg) =>
(match dapAdmitted dapWrite (toObj m 0x1011 1) s with
| some (c, t) => decide (c.value = 1) && (
decide (t.dict.saving = none) && (
decide (logRoom t 0x60 = true) && (
true)))
| _ => false))
(wMsg false 1 1)))
(wDap)))
 && (((fun (s : State) =>
(match s.dict.saving with
| some i => true
| _ => false))
({ wDap with dict := { wDap.dict with saving := some (capture wDap) } })))
 && (((fun (s : State) =>
((fun (m : DapMsg) =>
(match dapAdmitted dapWrite (toObj m 0x1011 2) s with
| some (c, t) => decide (c.value = 1) && (
true)
| _ => false))
(wMsg false 1 1)))
(wDap)))
 && (((fun (s : State) =>
((fun (m : DapMsg) =>
(match dapAdmitted dapWrite (toObj m 0xA030 1) s with
| some (c, t) => decide (c.value < 16) && (
true)
| _ => false))
(wMsg false 1 0)))
(wDap)))
 && (((fun (s : State) =>
((fun (m : DapMsg) =>
(match dapAdmitted dapWrite (toObj m 0xF010 2) s with
| some (c, t) => decide (c.value = 1) && (
true)
| _ => false))
(wMsg false 1 1)))
(wDap)))
 && (((fun (s : State) =>
decide (commitOver s = false) && (
true))
(setCheck 8 .adopt wDap)))
    : Bool) = true := by decide +kernel

theorem witness_CountersCleared : (
(((fun (s : State) =>
((fun (m : DapMsg) =>
(match dapAdmitted dapWrite (toObj m 0x1030 9) s with
| some (c, t) => decide (c.value = 1) && (
true)
| _ => false))
(wMsg false 1 1)))
(wDap)))
 && (((fun (s : State) =>
((fun (m : DapMsg) =>
(match dapAdmitted dapWrite (toObj m 0x3011 8) s with
| some (c, t) => decide (c.value = 1) && (
true)
| _ => false))
(wMsg false 1 1)))
(wDap)))
 && (((fun (s : State) =>
((fun (m : DapMsg) =>
(match dapAdmitted dapWrite (toObj m 0x3020 9) s with
| some (c, t) => decide (c.value = 1) && (
true)
| _ => false))
(wMsg false 1 1)))
(wDap)))
 && (((fun (s : State) =>
((fun (m : DapMsg) =>
(match dapAdmitted dapWrite (toObj m 0x4010 7) s with
| some (c, t) => decide (c.value = 1) && (
true)
| _ => false))
(wMsg false 1 1)))
(wDap)))
 && (((fun (s : State) =>
((fun (m : DapMsg) =>
(match dapAdmitted dapWrite (toObj m 0x5011 10) s with
| some (c, t) => decide (c.value = 1) && (
true)
| _ => false))
(wMsg false 1 1)))
(wDap)))
 && (((fun (s : State) =>
((fun (m : DapMsg) =>
(match dapAdmitted dapWrite (toObj m 0x6020 0xD) s with
| some (c, t) => decide (c.value = 1) && (
true)
| _ => false))
(wMsg false 1 1)))
(wDap)))
 && (((fun (s : State) =>
((fun (m : DapMsg) =>
(match dapAdmitted dapWrite (toObj m 0x7043 7) s with
| some (c, t) => decide (c.value = 1) && (
true)
| _ => false))
(wMsg false 1 1)))
(wDap)))
 && (((fun (s : State) =>
((fun (m : DapMsg) =>
(match dapAdmitted dapWrite (toObj m 0x7101 9) s with
| some (c, t) => decide (c.value = 1) && (
true)
| _ => false))
(wMsg false 1 1)))
(wDap)))
 && (((fun (s : State) =>
((fun (m : DapMsg) =>
(match dapAdmitted dapWrite (toObj m 0x8013 8) s with
| some (c, t) => decide (c.value = 1) && (
true)
| _ => false))
(wMsg false 1 1)))
(wDap)))
 && (((fun (s : State) =>
((fun (m : DapMsg) =>
(match dapAdmitted dapWrite (toObj m m.index 8) s with
| some (c, t) => decide (c.value = 1) && (
decide (0x8100 ≤ m.index) && (
decide (m.index ≤ 0x84FF) && (
true)))
| _ => false))
({ wMsg false 1 1 with index := 0x8105 })))
(wDap)))
 && (((fun (s : State) =>
((fun (m : DapMsg) =>
(match dapAdmitted dapWrite (toObj m 0x9011 8) s with
| some (c, t) => decide (c.value = 1) && (
true)
| _ => false))
(wMsg false 1 1)))
(wDap)))
 && (((fun (s : State) =>
((fun (m : DapMsg) =>
(match dapAdmitted dapWrite (toObj m 0xF012 5) s with
| some (c, t) => decide (c.value = 1) && (
true)
| _ => false))
(wMsg false 1 1)))
(wDap)))
    : Bool) = true := by decide +kernel

theorem witness_RegisterCommandsComplete : (
(((fun (s : State) =>
((fun (die : Nat) =>
((fun (off : Nat) =>
((fun (v : Nat) =>
decide (pagesServe s die = true) && (
decide ((block s die).guard = none) && (
let a := (decodeOff off)
let low := (lowerOf a)
decide (4096 ≤ a) && (
decide (isPort die a = false) && (
decide (isGuarded die a = false) && (
decide (inPair die low = false) && (
true)))))))
(5)))
(0x2004)))
(0)))
(wUp)))
 && (((fun (s : State) =>
((fun (die : Nat) =>
((fun (off : Nat) =>
((fun (v : Nat) =>
decide (pagesServe s die = true) && (
decide ((block s die).guard = none) && (
let a := (decodeOff off)
let low := (lowerOf a)
decide (4096 ≤ a) && (
decide (isPort die a = false) && (
decide (isGuarded die a = true) && (
true))))))
(1)))
(0x1018)))
(0)))
(wUp)))
 && (((fun (s : State) =>
((fun (die : Nat) =>
((fun (off : Nat) =>
((fun (v : Nat) =>
decide (pagesServe s die = true) && (
decide ((block s die).guard = none) && (
let a := (decodeOff off)
let low := (lowerOf a)
decide (4096 ≤ a) && (
decide (isPort die a = true) && (
true)))))
(1)))
(0x1818)))
(0)))
(wUp)))
 && (((fun (s : State) =>
((fun (die : Nat) =>
((fun (off : Nat) =>
((fun (v : Nat) =>
decide (pagesServe s die = true) && (
decide ((block s die).guard = none) && (
let a := (decodeOff off)
let low := (lowerOf a)
decide (4096 ≤ a) && (
decide (isPort die a = false) && (
decide (isGuarded die a = false) && (
decide (isLo die low = true) && (
true)))))))
(1)))
(0x3008)))
(9)))
(wUp)))
 && (((fun (s : State) =>
((fun (die : Nat) =>
((fun (off : Nat) =>
((fun (v : Nat) =>
((fun (w : Nat) =>
decide (pagesServe s die = true) && (
decide ((block s die).guard = none) && (
let a := (decodeOff off)
let low := (lowerOf a)
decide (4096 ≤ a) && (
decide (isPort die a = false) && (
decide (isGuarded die a = false) && (
decide (isLo die low = false) && (
decide (4 ≤ low) && (
decide (isLo die (low - 4) = true) && (
decide ((block s die).writeShadow = some (low - 4, w)) && (
true))))))))))
(7)))
(1)))
(0x300C)))
(9)))
(wBk 9 { Block.zero with writeShadow := some (0x3008, 7) })))
 && (((fun (s : State) =>
((fun (die : Nat) =>
((fun (off : Nat) =>
((fun (v : Nat) =>
decide (pagesServe s die = true) && (
(match (block s die).guard with
| some (g, w) => decide (4096 ≤ decodeOff off) && (
decide (isPort die (decodeOff off) = true) && (
decide (lowerOf (decodeOff off) = g) && (
decide (v % 2 ^ 32 = notWord w) && (
decide (guardedTakes g w = true) && (
true)))))
| _ => false)))
(notWord 1)))
(0x1818)))
(0x1E)))
(wGd)))
 && (((fun (s : State) =>
((fun (die : Nat) =>
((fun (off : Nat) =>
((fun (v : Nat) =>
decide (pagesServe s die = true) && (
(match (block s die).guard with
| some (g, w) => decide (4096 ≤ decodeOff off) && (
decide (isPort die (decodeOff off) = true) && (
decide (lowerOf (decodeOff off) = g) && (
decide (v % 2 ^ 32 ≠ notWord w) && (
true))))
| _ => false)))
(5)))
(0x1818)))
(0x1E)))
(wGd)))
 && (((fun (s : State) =>
((fun (die : Nat) =>
decide ((block s die).guard.isSome = true) && (
true))
(0x1E)))
(wGd)))
 && (((fun (s : State) =>
((fun (die : Nat) =>
((fun (m : Nat) =>
((fun (v : Nat) =>
decide (m < 16) && (
decide (hasBlock die = true) && (
decide (diePresent s die = true) && (
decide (s.pkg ≠ .off) && (
decide (v = (box s die m).headSeq) && (
decide (v < 65536) && (
decide ((box s die m).notices.isEmpty = false) && (
decide (boundQp s die m = none) && (
true)))))))))
(2)))
(3)))
(0x1A)))
({ wUp with mbx := [(0x1A3, { Mailbox.zero with headSeq := 2, notices := [(5, 6)] })] })))
 && (((fun (s : State) =>
((fun (die : Nat) =>
((fun (v : Nat) =>
decide (pagesServe s die = true) && (
decide ((block s die).guard = none) && (
decide (v < 2 ^ 32) && (
decide (8 ≤ die) && (
decide (die < 16) && (
true))))))
(5)))
(8)))
(wUp)))
 && (((fun (s : State) =>
((fun (die : Nat) =>
((fun (v : Nat) =>
decide (pagesServe s die = true) && (
decide ((block s die).guard = none) && (
decide (v < 2 ^ 32) && (
decide (die < 8) && (
true)))))
(5)))
(0)))
(wUp)))
 && (((fun (s : State) =>
((fun (die : Nat) =>
((fun (off : Nat) =>
decide (pagesServe s die = true) && (
decide (s.pkg ≠ .off) && (
decide (4096 ≤ decodeOff off) && (
let a := (decodeOff off)
let low := (lowerOf a)
decide (isLo die low = true) && (
true)))))
(0x3008)))
(9)))
(wUp)))
 && (((fun (s : State) =>
((fun (die : Nat) =>
((fun (off : Nat) =>
((fun (w : Nat) =>
decide (pagesServe s die = true) && (
decide (s.pkg ≠ .off) && (
decide (4096 ≤ decodeOff off) && (
let a := (decodeOff off)
let low := (lowerOf a)
decide (isLo die low = false) && (
decide (4 ≤ low) && (
decide (isLo die (low - 4) = true) && (
decide ((block s die).readShadow = some (low - 4, w)) && (
true))))))))
(7)))
(0x300C)))
(9)))
(wBk 9 { Block.zero with readShadow := some (0x3008, 7) })))
 && (((fun (s : State) =>
((fun (h : Hdr) =>
((fun (v : Nat) =>
(match admitted (linkReq 0x01 h 0) (memChecks s h 0) 0 (max 64 (64 * h.length)) s with
| some (rq, t) => decide (h.length ≠ 0) && (
decide (pageBase ≤ h.offset) && (
decide (pageRead t h.offset = some v) && (
true)))
| _ => false))
(0)))
(wHdr (pageBase + 0x400) 1)))
(wUp)))
 && (((fun (s : State) =>
((fun (die : Nat) =>
decide (pagesServe s die = true) && (
decide ((block s die).walkEnable = true) && (
true)))
(0)))
(wBk 0 { Block.zero with walkEnable := true })))
 && (((fun (s : State) =>
((fun (die : Nat) =>
decide ((block s die).walking = true) && (
decide (pagesServe s die = true) && (
decide ((block s die).check = .pending) && (
true))))
(0)))
(wCk { Block.zero with walking := true })))
 && (((fun (s : State) =>
((fun (die : Nat) =>
decide ((block s die).check = .pending) && (
decide ((block s die).overdue = false) && (
true)))
(0)))
(wCk Block.zero)))
    : Bool) = true := by decide +kernel

theorem witness_RawWindowCompletes : (
(((fun (s : State) =>
((fun (m : DapMsg) =>
(match dapAdmitted dapWrite (toObj m 0xF000 1) s with
| some (c, t) => let d := (rawDie t)
let o := (rawOffset t)
decide (hasBlock c.value = true) && (
decide (c.value ≤ 31) && (
decide (diePresent t c.value = true) && (
true)))
| _ => false))
(wMsg false 1 8)))
(wDap)))
 && (((fun (s : State) =>
((fun (m : DapMsg) =>
(match dapAdmitted dapWrite (toObj m 0xF000 2) s with
| some (c, t) => let d := (rawDie t)
let o := (rawOffset t)
decide (c.value % 4 = 0) && (
true)
| _ => false))
(wMsg false 2 0x1000)))
(wDap)))
 && (((fun (s : State) =>
((fun (m : DapMsg) =>
(match dapAdmitted dapRead (toObj m 0xF000 3) s with
| some (c, t) => let d := (rawDie t)
let o := (rawOffset t)
decide ((¬ (4096 ≤ decodeOff o ∧ 2 ≤ (dom t (dieDom d)).st))) && (
true)
| _ => false))
(wMsg false 0 0)))
(wRaw 0 0x2000)))
 && (((fun (s : State) =>
((fun (m : DapMsg) =>
(match dapAdmitted dapWrite (toObj m 0xF000 3) s with
| some (c, t) => let d := (rawDie t)
let o := (rawOffset t)
decide ((¬ (4096 ≤ decodeOff o ∧ 2 ≤ (dom t (dieDom d)).st))) && (
true)
| _ => false))
(wMsg false 4 5)))
(wRaw 0 0x2000)))
 && (((fun (s : State) =>
((fun (m : DapMsg) =>
(match dapAdmitted dapRead (toObj m 0xF000 4) s with
| some (c, t) => let d := (rawDie t)
let o := (rawOffset t)
decide ((¬ (4096 ≤ decodeOff o ∧ 2 ≤ (dom t (dieDom d)).st))) && (
decide (o % 8 = 0) && (
true))
| _ => false))
(wMsg false 0 0)))
(wRaw 0 0x2000)))
 && (((fun (s : State) =>
((fun (m : DapMsg) =>
(match dapAdmitted dapWrite (toObj m 0xF000 4) s with
| some (c, t) => let d := (rawDie t)
let o := (rawOffset t)
decide ((¬ (4096 ≤ decodeOff o ∧ 2 ≤ (dom t (dieDom d)).st))) && (
decide (o % 8 = 0) && (
true))
| _ => false))
(wMsg false 8 5)))
(wRaw 0 0x2000)))
 && (((fun (s : State) =>
((fun (m : DapMsg) =>
(match dapAdmitted dapGuarded (toObj m 0xF000 5) s with
| some (c, t) => let d := (rawDie t)
let o := (rawOffset t)
decide ((¬ (4096 ≤ decodeOff o ∧ 2 ≤ (dom t (dieDom d)).st))) && (
decide (isGuarded d (decodeOff o) = true) && (
decide (4096 ≤ decodeOff o) && (
decide (guardedTakes (decodeOff o) c.value = true) && (
decide (logRoom t 0x20 = true) && (
true)))))
| _ => false))
(wMsg true 4 1)))
(wRaw 0 0x1018)))
    : Bool) = true := by decide +kernel

theorem witness_KeyAndCustodyCommandsComplete : (
(((fun (s : State) =>
((fun (m : DapMsg) =>
(match dapAdmitted dapGuarded (toObj m 0x4023 m.sub) s with
| some (c, t) => decide (logRoom t 0x21 = true) && (
decide (c.value ≠ 0) && (
true))
| _ => false))
({ wMsg true (1952) (7) with sub := 3 })))
(wDap)))
 && (((fun (s : State) =>
((fun (m : DapMsg) =>
(match dapAdmitted dapGuarded (toObj m 0x4023 m.sub) s with
| some (c, t) => decide (logRoom t 0x21 = true) && (
decide (c.value = 0) && (
true))
| _ => false))
({ wMsg true (1952) (0) with sub := 3 })))
({ wDap with registry := [(0, ⟨{ wIm with keySlot := 2 }, 20⟩)] })))
 && (((fun (s : State) =>
((fun (m : DapMsg) =>
(match dapAdmitted dapGuarded (toObj m 0xB020 m.sub) s with
| some (c, t) => decide (logRoom t 0x21 = true) && (
decide (c.actor = 2) && (
decide (c.value ≠ 0) && (
decide (obj t 0xB020 c.sub = 0) && (
true))))
| _ => false))
({ wMsg true (1952) (7) with sub := 3 })))
(wDap)))
 && (((fun (s : State) =>
((fun (m : DapMsg) =>
(match dapAdmitted dapGuarded (toObj m 0xB020 m.sub) s with
| some (c, t) => decide (logRoom t 0x21 = true) && (
decide (c.actor = 2) && (
decide (c.value = 0) && (
decide (¬ (obj t 0xB020 c.sub ≠ 0 ∧ ownerKeys t = 1)) && (
true))))
| _ => false))
({ wMsg true (1952) (0) with sub := 3 })))
(wObj [(0xB02001, 1), (0xB02002, 5), (0xB02003, 6)] wDap)))
 && (((fun (s : State) =>
((fun (m : DapMsg) =>
(match dapAdmitted dapGuarded (toObj m 0xA040 m.sub) s with
| some (c, t) => decide (logRoom t 0x21 = true) && (
decide (c.sub ≠ 1) && (
true))
| _ => false))
({ wMsg true (1952) (7) with sub := 3 })))
(wDap)))
 && (((fun (s : State) =>
((fun (m : DapMsg) =>
(match dapAdmitted dapGuarded (toObj m 0xB030 3) s with
| some (c, t) => let k := (bits c.value 11 0)
decide (bits c.value 27 12 = 0) && (
decide (logNext t + 1 + logReserve < logCapacity) && (
decide (bits c.value 31 28 = 1) && (
decide (keyState t k = 0) && (
true))))
| _ => false))
(wMsg true 4 0x10000014)))
({ wDap with keyGens := [(20, 4)] })))
 && (((fun (s : State) =>
((fun (m : DapMsg) =>
(match dapAdmitted dapGuarded (toObj m 0xB030 3) s with
| some (c, t) => let k := (bits c.value 11 0)
decide (bits c.value 27 12 = 0) && (
decide (logNext t + 1 + logReserve < logCapacity) && (
decide (bits c.value 31 28 = 2) && (
decide (keyState t k = 1) && (
decide (keyInUse t k = false) && (
true)))))
| _ => false))
(wMsg true 4 0x20000019)))
({ wDap with keyStates := [(25, 1)] })))
 && (((fun (s : State) =>
((fun (k : Nat) =>
decide (keyState s k = 2) && (
true))
(25)))
({ wUp with keyStates := [(25, 2)] })))
 && (((fun (s : State) =>
((fun (m : DapMsg) =>
(match dapAdmitted dapWrite (toObj m 0xB040 4) s with
| some (c, t) => decide (c.value = 1) && (
decide (logNext t + 27 ≤ logCapacity) && (
true))
| _ => false))
(wMsg false 1 1)))
(wDap)))
 && (((fun (s : State) =>
((fun (k : Nat) =>
((fun (v : Nat) =>
decide (s.pkg ≠ .off) && (
decide (1 ≤ k) && (
decide (k ≤ 5) && (
true))))
(5)))
(1)))
(wUp)))
 && (((fun (s : State) =>
decide (s.pkg ≠ .off) && (
true))
(wUp)))
 && (((fun (s : State) =>
((fun (m : DapMsg) =>
(match dapAdmitted dapGuarded (toObj m 0xB070 1) s with
| some (c, t) => decide (c.actor = 2) && (
decide (bits c.value 255 192 = 0) && (
decide (bits c.value 63 8 = 0) && (
decide ((obj t 0xB070 2 = 0 ∨ obj t 0xB070 2 = 4)) && (
decide (t.dict.saving = none) && (
decide (firmwareBusy t = false) && (
decide (bits c.value 7 0 = 1) && (
decide (purgeAllowed t = true) && (
decide (logRoom t 0x41 = true) && (
true)))))))))
| _ => false))
(wMsg true 32 (fld [(0, 1), (64, 99)]))))
({ wDap with compTab := [], comps := [] })))
 && (((fun (s : State) =>
((fun (m : DapMsg) =>
(match dapAdmitted dapGuarded (toObj m 0xB070 1) s with
| some (c, t) => decide (c.actor = 2) && (
decide (bits c.value 255 192 = 0) && (
decide (bits c.value 63 8 = 0) && (
decide ((obj t 0xB070 2 = 0 ∨ obj t 0xB070 2 = 4)) && (
decide (t.dict.saving = none) && (
decide (firmwareBusy t = false) && (
decide (bits c.value 7 0 = 2) && (
decide (logRoom t 0x20 = true) && (
true))))))))
| _ => false))
(wMsg true 32 (fld [(0, 2), (64, 99)]))))
(wDap)))
 && (((fun (s : State) =>
decide (obj s 0xB070 2 = 3) && (
decide (serving s = true) && (
true)))
(wObj [(0xB07002, 3)] wUp)))
    : Bool) = true := by decide +kernel

theorem witness_SpdmCompletes : (
(((fun (s : State) =>
((fun (m : SpdmMsg) =>
decide (spdmArrives s m.port = true) && (
true))
(wSm 2 0)))
(wSpd 0 true)))
 && (((fun (s : State) =>
((fun (m : SpdmMsg) =>
decide (spdmArrives s m.port = true) && (
decide (1 ≤ stage s m.port) && (
true)))
(wSm 2 0)))
(wSpd 1 true)))
 && (((fun (s : State) =>
((fun (m : SpdmMsg) =>
decide (spdmArrives s m.port = true) && (
decide (2 ≤ stage s m.port) && (
true)))
(wSm 2 0)))
(wSpd 2 true)))
 && (((fun (s : State) =>
((fun (m : SpdmMsg) =>
decide (spdmArrives s m.port = true) && (
decide (3 ≤ stage s m.port) && (
true)))
(wSm 2 0)))
(wSpd 3 true)))
 && (((fun (s : State) =>
((fun (m : SpdmMsg) =>
decide (spdmArrives s m.port = true) && (
decide (3 ≤ stage s m.port) && (
decide (certSlot m = 0) && (
true))))
(wSm 2 0)))
(wSpd 3 true)))
 && (((fun (s : State) =>
((fun (m : SpdmMsg) =>
decide (spdmArrives s m.port = true) && (
decide (3 ≤ stage s m.port) && (
decide (bits m.param 7 0 = 0) && (
true))))
(wSm 2 0)))
(wSpd 3 true)))
 && (((fun (s : State) =>
((fun (m : SpdmMsg) =>
decide (spdmArrives s m.port = true) && (
decide (3 ≤ stage s m.port) && (
decide (bits m.param 7 0 = 0xFF) && (
true))))
(wSm 2 0xFF)))
(wSpd 3 true)))
 && (((fun (s : State) =>
((fun (m : SpdmMsg) =>
((fun (key : Option Nat) =>
decide (spdmArrives s m.port = true) && (
decide (3 ≤ stage s m.port) && (
decide (bits m.param 7 0 = 0) && (
decide (chainAccepted s key = true) && (
(match ((List.range 8).map (· + 1)).find? (fun k => (tget s.spdm.sessions k).isNone) with
| some n => true
| _ => false))))))
(none)))
(wSm 2 0)))
(wSpd 3 true)))
 && (((fun (s : State) =>
((fun (m : SpdmMsg) =>
((fun (code : Nat) =>
decide (spdmArrives s m.port = true) && (
decide (spdmSupported code = false) && (
true)))
(0)))
(wSm 2 0)))
(wSpd 3 true)))
 && (((fun (s : State) =>
((fun (m : SpdmMsg) =>
decide (spdmArrives s m.port = true) && (
(match tget s.spdm.sessions m.session with
| some x => decide (x.port = m.port) && (
decide (x.established = false) && (
true))
| _ => false)))
(wSm 2 0)))
(wSpd 3 false)))
 && (((fun (s : State) =>
((fun (m : SpdmMsg) =>
decide (spdmArrives s m.port = true) && (
(match tget s.spdm.sessions m.session with
| some x => decide (x.port = m.port) && (
decide (x.established = true) && (
true))
| _ => false)))
(wSm 2 0)))
(wSpd 3 true)))
 && (((fun (s : State) =>
((fun (n : Nat) =>
decide ((tget s.spdm.sessions n).isSome = true) && (
true))
(2)))
(wSpd 3 true)))
    : Bool) = true := by decide +kernel

theorem witness_RequestsRefused : (
(((fun (s : State) =>
((fun (h : Hdr) =>
((fun (body : Nat) =>
((fun (data : Nat) =>
(match refused (linkReq 0x01 h 0) (memChecks s h 0) 0 (max 64 (64 * h.length)) s with
| some u => true
| _ => false))
(5)))
(0)))
(wBadH)))
(wUp)))
 && (((fun (s : State) =>
((fun (h : Hdr) =>
((fun (body : Nat) =>
((fun (data : Nat) =>
(match refused (linkReq 0x02 h 0) (memChecks s h 0) 0 (max 64 (64 * h.length)) s with
| some u => true
| _ => false))
(5)))
(0)))
(wBadH)))
(wUp)))
 && (((fun (s : State) =>
((fun (h : Hdr) =>
((fun (body : Nat) =>
((fun (data : Nat) =>
(match refused ⟨0x03, h, 0, data, [], false⟩ (memChecks s h 1) (64 * h.length) (max 64 (64 * h.length)) s with
| some u => true
| _ => false))
(5)))
(0)))
(wBadH)))
(wUp)))
 && (((fun (s : State) =>
((fun (h : Hdr) =>
((fun (body : Nat) =>
((fun (data : Nat) =>
(match refused ⟨0x04, h, 0, data, [], false⟩ (memChecks s h 1) (64 * h.length) (max 64 (64 * h.length)) s with
| some u => true
| _ => false))
(5)))
(0)))
(wBadH)))
(wUp)))
 && (((fun (s : State) =>
((fun (h : Hdr) =>
((fun (body : Nat) =>
((fun (data : Nat) =>
(match refused (linkReq 0x06 h body) (atomicChecks s h body) 32 64 s with
| some u => true
| _ => false))
(5)))
(0)))
(wBadH)))
(wUp)))
 && (((fun (s : State) =>
((fun (h : Hdr) =>
((fun (body : Nat) =>
((fun (data : Nat) =>
(match refused ⟨0x07, h, body, data, [], false⟩ (publishChecks s h body) (64 + 64 * h.length) (max 64
  (64 * h.length)) s with
| some u => true
| _ => false))
(5)))
(0)))
(wBadH)))
(wUp)))
 && (((fun (s : State) =>
((fun (h : Hdr) =>
((fun (body : Nat) =>
((fun (data : Nat) =>
(match refused (linkReq 0x0A h body) (doorbellChecks body) 16 64 s with
| some u => true
| _ => false))
(5)))
(0)))
(wBadH)))
(wUp)))
 && (((fun (s : State) =>
((fun (h : Hdr) =>
((fun (body : Nat) =>
((fun (data : Nat) =>
(match refused (linkReq 0x05 h body) (flushChecks body) 16 64 s with
| some u => true
| _ => false))
(5)))
(0)))
(wBadH)))
(wUp)))
 && (((fun (s : State) =>
((fun (h : Hdr) =>
((fun (body : Nat) =>
((fun (data : Nat) =>
(match refused (linkReq 0x0B h 0) probeChecks 0 64 s with
| some u => true
| _ => false))
(5)))
(0)))
(wBadH)))
(wUp)))
 && (((fun (s : State) =>
((fun (h : Hdr) =>
((fun (body : Nat) =>
((fun (data : Nat) =>
(match refused (linkReq 0x08 h body) (syncChecks (syncBad 1 body) (syncIndex body)) 32 64 s with
| some u => true
| _ => false))
(5)))
(0)))
(wBadH)))
(wUp)))
 && (((fun (s : State) =>
((fun (h : Hdr) =>
((fun (body : Nat) =>
((fun (data : Nat) =>
(match refused (linkReq 0x08 h body) (syncChecks (syncBad 2 body) (syncIndex body)) 32 64 s with
| some u => true
| _ => false))
(5)))
(0)))
(wBadH)))
(wUp)))
 && (((fun (s : State) =>
((fun (h : Hdr) =>
((fun (body : Nat) =>
((fun (data : Nat) =>
(match refused (linkReq 0x08 h body) (syncChecks (syncBad 3 body) (syncIndex body)) 32 64 s with
| some u => true
| _ => false))
(5)))
(0)))
(wBadH)))
(wUp)))
 && (((fun (s : State) =>
((fun (h : Hdr) =>
((fun (body : Nat) =>
((fun (data : Nat) =>
(match refused (linkReq 0x08 h body) (syncChecks (syncBad 4 body) (syncIndex body)) 32 64 s with
| some u => true
| _ => false))
(5)))
(0)))
(wBadH)))
(wUp)))
 && (((fun (s : State) =>
((fun (h : Hdr) =>
((fun (body : Nat) =>
((fun (data : Nat) =>
(match refused (linkReq 0x08 h body) (syncChecks (syncBad 5 body) (syncIndex body)) 32 64 s with
| some u => true
| _ => false))
(5)))
(0)))
(wBadH)))
(wUp)))
 && (((fun (s : State) =>
((fun (h : Hdr) =>
((fun (body : Nat) =>
((fun (data : Nat) =>
(match refused (linkReq 0x09 h body) (syncChecks (waitBad body) (syncIndex body)) 64 64 s with
| some u => true
| _ => false))
(5)))
(0)))
(wBadH)))
(wUp)))
 && (((fun (s : State) =>
((fun (h : Hdr) =>
((fun (body : Nat) =>
((fun (data : Nat) =>
(match refused (linkReq 0x20 h 0) (cohChecks h 0 s) 0 64 s with
| some u => true
| _ => false))
(5)))
(0)))
(wBadH)))
(wUp)))
 && (((fun (s : State) =>
((fun (h : Hdr) =>
((fun (body : Nat) =>
((fun (data : Nat) =>
(match refused (linkReq 0x21 h 0) (cohChecks h 0 s) 0 64 s with
| some u => true
| _ => false))
(5)))
(0)))
(wBadH)))
(wUp)))
 && (((fun (s : State) =>
((fun (h : Hdr) =>
((fun (body : Nat) =>
((fun (data : Nat) =>
(match refused (linkReq 0x22 h 0) (cohChecks h 0 s) 0 64 s with
| some u => true
| _ => false))
(5)))
(0)))
(wBadH)))
(wUp)))
 && (((fun (s : State) =>
((fun (h : Hdr) =>
((fun (body : Nat) =>
((fun (data : Nat) =>
(match refused ⟨0x23, h, 0, data, [], false⟩ (cohChecks h 1 s) 64 64 s with
| some u => true
| _ => false))
(5)))
(0)))
(wBadH)))
(wUp)))
 && (((fun (s : State) =>
((fun (h : Hdr) =>
((fun (body : Nat) =>
((fun (data : Nat) =>
(match refused (linkReq 0x24 h 0) (cohChecks h 0 s) 0 64 s with
| some u => true
| _ => false))
(5)))
(0)))
(wBadH)))
(wUp)))
 && (((fun (s : State) =>
((fun (h : Hdr) =>
((fun (body : Nat) =>
((fun (data : Nat) =>
(match refused (linkReq 0x30 h body) (tableChecks (composeBad 1 body) false) 32 64 s with
| some u => true
| _ => false))
(5)))
(0)))
(wBadH)))
(wUp)))
 && (((fun (s : State) =>
((fun (h : Hdr) =>
((fun (body : Nat) =>
((fun (data : Nat) =>
(match refused (linkReq 0x30 h body) (tableChecks (composeBad 2 body) false) 32 64 s with
| some u => true
| _ => false))
(5)))
(0)))
(wBadH)))
(wUp)))
 && (((fun (s : State) =>
((fun (h : Hdr) =>
((fun (body : Nat) =>
((fun (data : Nat) =>
(match refused (linkReq 0x30 h body) (tableChecks (composeBad 3 body) false) 32 64 s with
| some u => true
| _ => false))
(5)))
(0)))
(wBadH)))
(wUp)))
 && (((fun (s : State) =>
((fun (h : Hdr) =>
((fun (body : Nat) =>
((fun (data : Nat) =>
(match refused (linkReq 0x31 h body) (tableChecks (ownerBad body) false) 32 64 s with
| some u => true
| _ => false))
(5)))
(0)))
(wBadH)))
(wUp)))
 && (((fun (s : State) =>
((fun (h : Hdr) =>
((fun (body : Nat) =>
((fun (data : Nat) =>
(match refused (linkReq 0x14 h body) (postedChecks (cfgBad 1 body) none (cfgImgBytes body == 0xFFFFFFFF || decide
  (4194304 < cfgImgBytes body)) false []) 64 64 s with
| some u => true
| _ => false))
(5)))
(0)))
(wBadH)))
(wUp)))
 && (((fun (s : State) =>
((fun (h : Hdr) =>
((fun (body : Nat) =>
((fun (data : Nat) =>
(match refused (linkReq 0x14 h body) (postedChecks (cfgBad 2 body) none false false []) 64 64 s with
| some u => true
| _ => false))
(5)))
(0)))
(wBadH)))
(wUp)))
 && (((fun (s : State) =>
((fun (h : Hdr) =>
((fun (body : Nat) =>
((fun (data : Nat) =>
(match refused (linkReq 0x14 h body) (postedChecks (cfgBad 3 body) none false (!fabricPresent s
  (cfgCluster body / 16)) []) 64 64 s with
| some u => true
| _ => false))
(5)))
(0)))
(wBadH)))
(wUp)))
 && (((fun (s : State) =>
((fun (h : Hdr) =>
((fun (body : Nat) =>
((fun (data : Nat) =>
(match refused (linkReq 0x14 h body) (postedChecks (cfgBad 4 body) none false false []) 64 64 s with
| some u => true
| _ => false))
(5)))
(0)))
(wBadH)))
(wUp)))
 && (((fun (s : State) =>
((fun (h : Hdr) =>
((fun (body : Nat) =>
((fun (data : Nat) =>
(match refused (linkReq 0x13 h body) (postedChecks (invBad body) (some 64) (invTooLong s h body) false (handleDoms s
  (invHandle body))) (32 + 16 * invArgs body) (max 64 (32 + 16 * invArgs body)) s with
| some u => true
| _ => false))
(5)))
(0)))
(wBadH)))
(wUp)))
 && (((fun (s : State) =>
((fun (h : Hdr) =>
((fun (body : Nat) =>
((fun (data : Nat) =>
(match refused (linkReq 0x16 h body) (postedChecks (stBad 2 body) none false false []) 64 64 s with
| some u => true
| _ => false))
(5)))
(0)))
(wBadH)))
(wUp)))
 && (((fun (s : State) =>
((fun (h : Hdr) =>
((fun (body : Nat) =>
((fun (data : Nat) =>
(match refused (linkReq 0x16 h body) (postedChecks (stBad 3 body) none false false []) 64 64 s with
| some u => true
| _ => false))
(5)))
(0)))
(wBadH)))
(wUp)))
 && (((fun (s : State) =>
((fun (h : Hdr) =>
((fun (body : Nat) =>
((fun (data : Nat) =>
(match refused (linkReq 0x10 h body) (postedChecks (arenaBad body true) (some 64)
  (bits body 95 64 == 0xFFFFFFFF || h.length != 1) false [homeDom (homeOf s (descOffset s (attnArena body)))])
  (64 * h.length) (max 64 (64 * h.length)) s with
| some u => true
| _ => false))
(5)))
(0)))
(wBadH)))
(wUp)))
 && (((fun (s : State) =>
((fun (h : Hdr) =>
((fun (body : Nat) =>
((fun (data : Nat) =>
(match refused (linkReq 0x10 h body) (postedChecks (arenaBad body false) (some 64) (false || h.length != 1) false [])
  (64 * h.length) (max 64 (64 * h.length)) s with
| some u => true
| _ => false))
(5)))
(0)))
(wBadH)))
(wUp)))
 && (((fun (s : State) =>
((fun (h : Hdr) =>
((fun (body : Nat) =>
((fun (data : Nat) =>
(match refused (linkReq 0x10 h body) (postedChecks (bits body 511 20 != 0 || attnOp body != 4) (some 64)
  (false || h.length != 1) false []) (64 * h.length) (max 64 (64 * h.length)) s with
| some u => true
| _ => false))
(5)))
(0)))
(wBadH)))
(wUp)))
 && (((fun (s : State) =>
((fun (h : Hdr) =>
((fun (body : Nat) =>
((fun (data : Nat) =>
(match refused (linkReq 0x11 h body) (postedChecks (orBad body) none false false [homeDom
  (orTable body % 8)]) 64 64 s with
| some u => true
| _ => false))
(5)))
(0)))
(wBadH)))
(wUp)))
 && (((fun (s : State) =>
((fun (h : Hdr) =>
((fun (body : Nat) =>
((fun (data : Nat) =>
(match refused (linkReq 0x18 h body) (dmaChecks s body) 64 64 s with
| some u => true
| _ => false))
(5)))
(0)))
(wBadH)))
(wUp)))
    : Bool) = true := by decide +kernel

theorem witness_WriteStoresItsBytes : (
(((fun (s : State) =>
((fun (op : Nat) =>
((fun (h : Hdr) =>
((fun (data : Nat) =>
(match admitted ⟨op, h, 0, data, [], false⟩ (memChecks s h 1) (64 * h.length) (max 64 (64 * h.length)) s with
| some (rq, t) => decide (0 < h.length) && (
decide (h.offset < pageBase) && (
decide ((op = 0x03 ∨ (op = 0x04 ∧ openWrites t h.requester = []))) && (
decide ((extentsOf h.offset (64 * h.length)).any (isMirror t) = false) && (
decide (farExtents t h.offset (64 * h.length) = []) && (
decide (framesFree t (framesNeeded t h.offset (64 * h.length)) = true) && (
decide ((linesOf h.offset (64 * h.length)).all (fun l => (tget t.dir l).isNone) = true) && (
decide (t.unrebuilt = []) && (
true))))))))
| _ => false))
(0x1234)))
(wHdr 0x1000 1)))
(3)))
(wUp)))
    : Bool) = true := by decide +kernel

theorem witness_SyncObjectOperations : (
(((fun (s : State) =>
((fun (h : Hdr) =>
((fun (body : Nat) =>
let n := (syncIndex body)
(match admitted (linkReq 0x08 h body) (syncChecks (syncBad 1 body) n) 32 64 s with
| some (rq, t) => let o := (syncObj t n)
let counted := (fun v =>
      let p := syncObj v n
      p.count = satInc 64 o.count 1 ∧ p.lastRequester = h.requester ∧ p.lastTenant = h.tenant ∧ p.lastKind = 1 ∧
        p.lastUnit = 0 ∧ p.lastTime = s.time % 2 ^ 64)
decide (o.owner = some h.tenant) && (
true)
| _ => false))
(fld [(0,5),(24,1),(64,9)])))
(wHdr 0 0)))
(wSyn (some 20) 3)))
 && (((fun (s : State) =>
((fun (h : Hdr) =>
((fun (body : Nat) =>
let n := (syncIndex body)
(match admitted (linkReq 0x08 h body) (syncChecks (syncBad 2 body) n) 32 64 s with
| some (rq, t) => let o := (syncObj t n)
let counted := (fun v =>
      let p := syncObj v n
      p.count = satInc 64 o.count 1 ∧ p.lastRequester = h.requester ∧ p.lastTenant = h.tenant ∧ p.lastKind = 1 ∧
        p.lastUnit = 0 ∧ p.lastTime = s.time % 2 ^ 64)
decide (o.owner = some h.tenant) && (
true)
| _ => false))
(fld [(0,5),(24,2),(64,9)])))
(wHdr 0 0)))
(wSyn (some 20) 3)))
 && (((fun (s : State) =>
((fun (h : Hdr) =>
((fun (body : Nat) =>
let n := (syncIndex body)
(match admitted (linkReq 0x08 h body) (syncChecks (syncBad 3 body) n) 32 64 s with
| some (rq, t) => let o := (syncObj t n)
let counted := (fun v =>
      let p := syncObj v n
      p.count = satInc 64 o.count 1 ∧ p.lastRequester = h.requester ∧ p.lastTenant = h.tenant ∧ p.lastKind = 1 ∧
        p.lastUnit = 0 ∧ p.lastTime = s.time % 2 ^ 64)
decide (o.owner = none) && (
true)
| _ => false))
(fld [(0,5),(24,3),(64,9)])))
(wHdr 0 0)))
(wSyn none 3)))
 && (((fun (s : State) =>
((fun (h : Hdr) =>
((fun (k : Nat) =>
((fun (body : Nat) =>
let n := (syncIndex body)
(match admitted (linkReq 0x08 h body) (syncChecks (syncBad 3 body) n) 32 64 s with
| some (rq, t) => let o := (syncObj t n)
let counted := (fun v =>
      let p := syncObj v n
      p.count = satInc 64 o.count 1 ∧ p.lastRequester = h.requester ∧ p.lastTenant = h.tenant ∧ p.lastKind = 1 ∧
        p.lastUnit = 0 ∧ p.lastTime = s.time % 2 ^ 64)
decide (o.owner = some k) && (
true)
| _ => false))
(fld [(0,5),(24,3),(64,9)])))
(21)))
(wHdr 0 0)))
(wSyn (some 21) 3)))
 && (((fun (s : State) =>
((fun (h : Hdr) =>
((fun (body : Nat) =>
let n := (syncIndex body)
(match admitted (linkReq 0x08 h body) (syncChecks (syncBad 4 body) n) 32 64 s with
| some (rq, t) => let o := (syncObj t n)
let counted := (fun v =>
      let p := syncObj v n
      p.count = satInc 64 o.count 1 ∧ p.lastRequester = h.requester ∧ p.lastTenant = h.tenant ∧ p.lastKind = 1 ∧
        p.lastUnit = 0 ∧ p.lastTime = s.time % 2 ^ 64)
decide (o.owner = some h.tenant) && (
decide (o.waiters.isEmpty = false) && (
true))
| _ => false))
(fld [(0,5),(24,4),(64,9)])))
(wHdr 0 0)))
({ wUp with sync := [(5, { SyncObj.zero with value := 3, owner := some 20, waiters := [⟨.write 7 0x40 0 9 20, 1, 0, 0⟩, ⟨.write 8 0x40 0 9 20, 1, 0, 0⟩] })] })))
 && (((fun (s : State) =>
((fun (h : Hdr) =>
((fun (body : Nat) =>
let n := (syncIndex body)
(match admitted (linkReq 0x08 h body) (syncChecks (syncBad 4 body) n) 32 64 s with
| some (rq, t) => let o := (syncObj t n)
let counted := (fun v =>
      let p := syncObj v n
      p.count = satInc 64 o.count 1 ∧ p.lastRequester = h.requester ∧ p.lastTenant = h.tenant ∧ p.lastKind = 1 ∧
        p.lastUnit = 0 ∧ p.lastTime = s.time % 2 ^ 64)
decide (o.owner = some h.tenant) && (
decide (o.waiters.isEmpty = true) && (
true))
| _ => false))
(fld [(0,5),(24,4),(64,9)])))
(wHdr 0 0)))
(wSyn (some 20) 3)))
 && (((fun (s : State) =>
((fun (h : Hdr) =>
((fun (body : Nat) =>
let n := (syncIndex body)
(match admitted (linkReq 0x08 h body) (syncChecks (syncBad 5 body) n) 32 64 s with
| some (rq, t) => let o := (syncObj t n)
let counted := (fun v =>
      let p := syncObj v n
      p.count = satInc 64 o.count 1 ∧ p.lastRequester = h.requester ∧ p.lastTenant = h.tenant ∧ p.lastKind = 1 ∧
        p.lastUnit = 0 ∧ p.lastTime = s.time % 2 ^ 64)
decide (o.owner = some h.tenant) && (
true)
| _ => false))
(fld [(0,5),(24,5),(64,9)])))
(wHdr 0 0)))
({ wUp with sync := [(5, { SyncObj.zero with value := 3, owner := some 20, waiters := [⟨.write 7 0x40 0 9 20, 1, 0, 0⟩, ⟨.write 8 0x40 0 9 20, 1, 0, 0⟩] })] })))
    : Bool) = true := by decide +kernel

theorem witness_PackageNumberRefused : (
(((fun (s : State) =>
((fun (m : DapMsg) =>
(match dapAdmitted dapGuarded (toObj m 0x1021 1) s with
| some (c, t) => decide ((t.pkg = .ready ∨ t.pkg = .draining)) && (
true)
| _ => false))
({ wMsg true 2 (5) with sub := 1, index := 0x1021 })))
({ wDap with pkg := .ready })))
 && (((fun (s : State) =>
((fun (m : DapMsg) =>
(match dapAdmitted dapGuarded (toObj m 0x1021 1) s with
| some (c, t) => decide (t.pkg ≠ .ready) && (
decide (t.pkg ≠ .draining) && (
decide (bits c.value 15 12 ≠ 0) && (
true)))
| _ => false))
({ wMsg true 2 (0x8005) with sub := 1, index := 0x1021 })))
({ wDap with pkg := .standing })))
    : Bool) = true := by decide +kernel

theorem witness_ImagesLoadedByTheirTenants : (
(((fun (s : State) =>
((fun (h : Hdr) =>
((fun (body : Nat) =>
(match admitted (linkReq 0x14 h body) (postedChecks (cfgBad 3 body) none false (!fabricPresent s
  (cfgCluster body / 16)) []) 64 64 s with
| some (rq, t) => decide (bit body 80 = false) && (
decide (t.pkg ≠ .draining) && (
decide (cfgTenant body = h.tenant) && (
(match tget t.registry (cfgSlot body) with
| some e => decide (e.image.keySlot ≠ 0) && (
decide (e.tenant ≠ h.tenant) && (
true))
| _ => false))))
| _ => false))
(fld [(0, 3), (192, 5), (204, 20)])))
(wHdr 0 0)))
({ wJe with handles := [], registry := [(0, ⟨{ wIm with keySlot := 1 }, 21⟩)] })))
 && (((fun (s : State) =>
((fun (h : Hdr) =>
((fun (body : Nat) =>
(match admitted (linkReq 0x14 h body) (postedChecks (cfgBad 3 body) none false (!fabricPresent s
  (cfgCluster body / 16)) []) 64 64 s with
| some (rq, t) => decide (bit body 80 = false) && (
decide (t.pkg ≠ .draining) && (
decide (cfgTenant body = h.tenant) && (
(match tget t.registry (cfgSlot body) with
| some e => decide ((e.image.keySlot = 0 ∨ e.tenant = h.tenant)) && (
decide (cfgContext body ≠ 0) && (
decide (tget t.handles (cfgHandle body) = none) && (
decide (cfgRole body < e.image.roles) && (
decide ((cluster t (cfgCluster body)).st = .empty) && (
decide ((cluster t (cfgCluster body)).handle = none) && (
decide (placeByte (readMem t e.image.offset e.image.bytes) (cfgRole body) 16 = 0xFF) && (
true)))))))
| _ => false))))
| _ => false))
(fld [(0, 3), (192, 5), (204, 20)])))
(wHdr 0 0)))
({ wJe with handles := [], registry := [(0, ⟨{ wIm with keySlot := 1 }, 20⟩)] })))
    : Bool) = true := by decide +kernel

theorem witness_DiscardEmptiesSlots : (
(((fun (s : State) =>
((fun (h : Hdr) =>
((fun (body : Nat) =>
(match admitted (linkReq 0x10 h body) (postedChecks (bits body 511 20 != 0 || attnOp body != 4) (some 64)
  (false || h.length != 1) false []) (64 * h.length) (max 64 (64 * h.length)) s with
| some (rq, t) => (match tget t.arenas (attnArena body) with
| some x => decide (x.tenant = h.tenant) && (
decide (x.copying = none) && (
true))
| _ => false)
| _ => false))
(fld [(0, 4)])))
(wHdr 0 1)))
(wAr [1])))
 && (((fun (s : State) =>
((fun (h : Hdr) =>
((fun (body : Nat) =>
(match admitted (linkReq 0x10 h body) (postedChecks (bits body 511 20 != 0 || attnOp body != 4) (some 64)
  (false || h.length != 1) false []) (64 * h.length) (max 64 (64 * h.length)) s with
| some (rq, t) => (match tget t.arenas (attnArena body) with
| some x => decide (x.tenant = h.tenant) && (
decide (x.copying.isSome = true) && (
true))
| _ => false)
| _ => false))
(fld [(0, 4)])))
(wHdr 0 1)))
({ wAr [1] with arenas := (wAr [1]).arenas.map (fun e => (e.1, { e.2 with copying := some (4, 9) })) })))
    : Bool) = true := by decide +kernel

theorem witness_CallsPerHandle : (
(((fun (s : State) =>
((fun (h : Hdr) =>
((fun (body : Nat) =>
(match admitted (linkReq 0x13 h body) (postedChecks (invBad body) (some 64) (invTooLong s h body) false (handleDoms s
  (invHandle body))) (32 + 16 * invArgs body) (max 64 (32 + 16 * invArgs body)) s with
| some (rq, t) => decide ((bit body 80 = true → recordAt t (bits body 79 32) 32 = true)) && (
decide (invArgs body ≠ 0) && (
(match tget t.handles (invHandle body) with
| some x => decide (x.st = .active ∨ x.st = .staging) && (
decide (reloading t x = false) && (
decide ((List.range (invArgs body)).all (fun i => !(isBuffer (argKind (invArg body i)) && argLen (invArg body i) == 0)
  && (x.image.args[i]?).map (·.1) == some (argKind (invArg body i))) = true) && (
decide ((shapeOf (certifiedId x.image) body).unsupported = false) && (
decide ((shapeOf (certifiedId x.image) body).empty = false) && (
decide (certifiedId x.image ≠ some 0x00010010) && (
decide (packRefused t (invHandle body) body h.tenant = none) && (
decide (64 ≤ (callsOf t (invHandle body)).length) && (
true))))))))
| _ => false)))
| _ => false))
(fld [(8, 1), (352, 4)])))
({ wHdr 0 0 with length := 1 })))
({ wJe with calls := (List.range 64).map (fun k => (k, ⟨wPc 0x13 0, 0, [3], [], false, false⟩)) })))
    : Bool) = true := by decide +kernel

end Sys2Proof.Tests
end

/-! # What every command leaves as it was -/

namespace Sys2Proof.Machine

/-- What a command leaves: the groups of whose lists (Sys2Proof/Safety.lean) it is not. -/
def leftBy (c : Instr) : Left :=
  ⟨!changesCustody c, !changesMemory c, !changesSync c, !changesConfig c, !changesTables c, !changesMaps c⟩

/-- Each command keeps what every operation keeps and the groups that it leaves: the law of its effect (Laws/KeepsMemory to
KeepsPackage), one arm per row of the opcode table as in `exec`. -/
theorem exec_keeps {c : Instr} {s t : State} (e : exec c s = .next t) : Keeps (leftBy c) s t := by
  have r := Keeps.refl (k := leftBy c) s
  cases c with
  | inputStable => exact keeps_execInputStable _ _ r t e
  | packageBusRegulated => exact keeps_execPackageBusRegulated _ _ _ r t e
  | inputLowWarning => exact keeps_execInputLowWarning _ _ r t e
  | inputLoss => exact keeps_execInputLoss _ _ r t e
  | rotVerifyDone => exact keeps_execRotVerifyDone _ _ _ _ r t e
  | mgmtCoreReady => exact keeps_execMgmtCoreReady _ r t e
  | selftestStepEnd => exact keeps_execSelftestStepEnd _ _ _ _ _ r t e
  | selftestStepTimeout => exact keeps_execSelftestStepTimeout _ _ _ _ r t e
  | enterStanding => exact keeps_execEnterStanding _ _ r t e
  | pkgResetNAssert => exact keeps_execPkgResetNAssert _ r t e
  | pkgResetNRelease => exact keeps_execPkgResetNRelease _ _ r t e
  | pkgReset => exact keeps_execPkgReset _ _ r t e
  | pkgResetTrigger => exact keeps_execPkgResetTrigger _ r t e
  | resetShutdownDone => exact keeps_execResetShutdownDone _ r t e
  | watchdogExpiry => exact keeps_execWatchdogExpiry _ r t e
  | refclkLoss => exact keeps_execRefclkLoss _ r t e
  | powerInterval => exact keeps_execPowerInterval _ _ _ _ _ _ r t e
  | thermalTrip => exact keeps_execThermalTrip _ _ r t e
  | domainIdleEntry => exact keeps_execDomainIdleEntry _ _ r t e
  | domainIdleExit => exact keeps_execDomainIdleExit _ _ r t e
  | retainEntry => exact keeps_execRetainEntry _ _ r t e
  | offEntry => exact keeps_execOffEntry _ _ r t e
  | wakeRequest => exact keeps_execWakeRequest _ _ r t e
  | wakeComplete => exact keeps_execWakeComplete _ _ r t e
  | generationCheckDone => exact keeps_execGenerationCheckDone _ _ r t e
  | clusterReloadAfterWake => exact keeps_execClusterReloadAfterWake _ _ r t e
  | wakeFailure => exact keeps_execWakeFailure _ _ r t e
  | wakeRetry => exact keeps_execWakeRetry _ _ r t e
  | dieFault => exact keeps_execDieFault _ _ r t e
  | dieRetest => exact keeps_execDieRetest _ _ r t e
  | dieRetestDone => exact keeps_execDieRetestDone _ _ _ _ r t e
  | flitReceive => exact keeps_execFlitReceive _ _ r t e
  | flitNakReceive => exact keeps_execFlitNakReceive _ _ _ r t e
  | linkDown => exact keeps_execLinkDown _ _ r t e
  | linkTrained => exact keeps_execLinkTrained _ _ _ r t e
  | linkRecal => exact keeps_execLinkRecal _ _ r t e
  | linkRecalRequest => exact keeps_execLinkRecalRequest _ _ r t e
  | recalThresholdExceeded => exact keeps_execRecalThresholdExceeded _ _ r t e
  | linkQuiesced => exact keeps_execLinkQuiesced _ _ r t e
  | linkRetrained => exact keeps_execLinkRetrained _ _ r t e
  | linkRecalTimeout => exact keeps_execLinkRecalTimeout _ _ r t e
  | read => exact keeps_execRead _ _ _ r t e
  | readAcq => exact keeps_execReadAcq _ _ _ r t e
  | write => exact keeps_execWrite _ _ _ r t e
  | writeRel => exact keeps_execWriteRel _ _ _ r t e
  | flush => exact keeps_execFlush _ _ _ r t e
  | atomic => exact keeps_execAtomic _ _ _ r t e
  | publish => exact keeps_execPublish _ _ _ _ r t e
  | syncAdd => exact keeps_execSyncAdd _ _ _ r t e
  | syncSet => exact keeps_execSyncSet _ _ _ r t e
  | syncClaim => exact keeps_execSyncClaim _ _ _ r t e
  | syncRelease => exact keeps_execSyncRelease _ _ _ r t e
  | syncCancel => exact keeps_execSyncCancel _ _ _ r t e
  | wait => exact keeps_execWait _ _ _ r t e
  | doorbell => exact keeps_execDoorbell _ _ _ r t e
  | probe => exact keeps_execProbe _ _ r t e
  | attend => exact keeps_execAttend _ _ _ r t e
  | attendDispatch => exact keeps_execAttendDispatch _ _ _ r t e
  | attendBindAfterHold => exact keeps_execAttendBindAfterHold _ _ r t e
  | attendHoldExpired => exact keeps_execAttendHoldExpired _ _ r t e
  | partialWritten => exact keeps_execPartialWritten _ _ _ r t e
  | mergeSyncReached => exact keeps_execMergeSyncReached _ _ r t e
  | mergeTimeout => exact keeps_execMergeTimeout _ _ r t e
  | append => exact keeps_execAppend _ _ _ r t e
  | commit => exact keeps_execCommit _ _ _ r t e
  | commitPublish => exact keeps_execCommitPublish _ _ r t e
  | discard => exact keeps_execDiscard _ _ _ r t e
  | arenaActivate => exact keeps_execArenaActivate _ _ _ r t e
  | arenaDeactivate => exact keeps_execArenaDeactivate _ _ _ r t e
  | gather => exact keeps_execGather _ _ _ r t e
  | pool => exact keeps_execPool _ _ _ r t e
  | scatter => exact keeps_execScatter _ _ _ r t e
  | update => exact keeps_execUpdate _ _ _ r t e
  | oryxDelete => exact keeps_execOryxDelete _ _ _ r t e
  | tableActivate => exact keeps_execTableActivate _ _ _ r t e
  | tableReplace => exact keeps_execTableReplace _ _ _ r t e
  | tableDeactivate => exact keeps_execTableDeactivate _ _ _ r t e
  | oryxListRead => exact keeps_execOryxListRead _ _ _ _ r t e
  | oryxRowOperation => exact keeps_execOryxRowOperation _ _ _ r t e
  | oryxResultHeader => exact keeps_execOryxResultHeader _ _ _ r t e
  | tableVersionFreed => exact keeps_execTableVersionFreed _ _ r t e
  | shardWindowEnd => exact keeps_execShardWindowEnd _ _ r t e
  | hotSlotGranted => exact keeps_execHotSlotGranted _ _ _ _ _ r t e
  | rowCopyAcked => exact keeps_execRowCopyAcked _ _ r t e
  | rowCommitAcked => exact keeps_execRowCommitAcked _ _ r t e
  | rowCommitTimeout => exact keeps_execRowCommitTimeout _ _ r t e
  | rowReturnAcked => exact keeps_execRowReturnAcked _ _ _ r t e
  | rowForwardLost => exact keeps_execRowForwardLost _ _ r t e
  | query => exact keeps_execQuery _ _ _ r t e
  | queryDispatch => exact keeps_execQueryDispatch _ _ _ r t e
  | queryComplete => exact keeps_execQueryComplete _ _ _ r t e
  | insert => exact keeps_execInsert _ _ _ r t e
  | sideEntryCommit => exact keeps_execSideEntryCommit _ _ _ _ r t e
  | searchDelete => exact keeps_execSearchDelete _ _ _ r t e
  | indexActivate => exact keeps_execIndexActivate _ _ _ r t e
  | indexDeactivate => exact keeps_execIndexDeactivate _ _ _ r t e
  | indexDeactivateDone => exact keeps_execIndexDeactivateDone _ _ r t e
  | indexMerge => exact keeps_execIndexMerge _ _ _ r t e
  | mergeIdleTimer => exact keeps_execMergeIdleTimer _ _ r t e
  | mergeBuildStart => exact keeps_execMergeBuildStart _ _ r t e
  | mergePublish => exact keeps_execMergePublish _ _ r t e
  | mergeAbandon => exact keeps_execMergeAbandon _ _ r t e
  | invoke => exact keeps_execInvoke _ _ _ r t e
  | callComplete => exact keeps_execCallComplete _ _ _ r t e
  | register => exact keeps_execRegister _ _ _ r t e
  | registerDone => exact keeps_execRegisterDone _ _ r t e
  | configRetire => exact keeps_execConfigRetire _ _ _ r t e
  | configRetireRecord => exact keeps_execConfigRetireRecord _ _ r t e
  | load => exact keeps_execLoad _ _ _ r t e
  | unbind => exact keeps_execUnbind _ _ _ r t e
  | clusterLoadStart => exact keeps_execClusterLoadStart _ _ r t e
  | clusterLoadComplete => exact keeps_execClusterLoadComplete _ _ r t e
  | clusterLoadFail => exact keeps_execClusterLoadFail _ _ _ r t e
  | clusterDrainComplete => exact keeps_execClusterDrainComplete _ _ r t e
  | drainOverdue => exact keeps_execDrainOverdue _ _ r t e
  | tileFailure => exact keeps_execTileFailure _ _ _ r t e
  | objectActivate => exact keeps_execObjectActivate _ _ _ r t e
  | objectDeactivate => exact keeps_execObjectDeactivate _ _ _ r t e
  | setPolicy => exact keeps_execSetPolicy _ _ _ r t e
  | migrate => exact keeps_execMigrate _ _ _ r t e
  | shadowRegister => exact keeps_execShadowRegister _ _ _ r t e
  | shadowRetire => exact keeps_execShadowRetire _ _ _ r t e
  | shadowValidate => exact keeps_execShadowValidate _ _ _ r t e
  | placementExecute => exact keeps_execPlacementExecute _ _ _ r t e
  | promotionStart => exact keeps_execPromotionStart _ _ r t e
  | promotionCommit => exact keeps_execPromotionCommit _ _ _ r t e
  | demotionStart => exact keeps_execDemotionStart _ _ r t e
  | demotionCommit => exact keeps_execDemotionCommit _ _ r t e
  | stagingProgrammed => exact keeps_execStagingProgrammed _ _ r t e
  | stalledAccessResume => exact keeps_execStalledAccessResume _ _ r t e
  | protectionAckTimeout => exact keeps_execProtectionAckTimeout _ _ r t e
  | streamRead => exact keeps_execStreamRead _ _ _ r t e
  | streamMapCheck => exact keeps_execStreamMapCheck _ _ r t e
  | streamBlockWrite => exact keeps_execStreamBlockWrite _ _ _ r t e
  | streamReadComplete => exact keeps_execStreamReadComplete _ _ r t e
  | tableInstall => exact keeps_execTableInstall _ _ _ r t e
  | tableInstallBuilt => exact keeps_execTableInstallBuilt _ _ r t e
  | tableSlotRetire => exact keeps_execTableSlotRetire _ _ _ r t e
  | slotQueuedZero => exact keeps_execSlotQueuedZero _ _ r t e
  | invalPages => exact keeps_execInvalPages _ _ _ r t e
  | invalContext => exact keeps_execInvalContext _ _ _ r t e
  | invalTakesEffect => exact keeps_execInvalTakesEffect _ _ r t e
  | translationWalkEnd => exact keeps_execTranslationWalkEnd _ _ r t e
  | faultRecordAcked => exact keeps_execFaultRecordAcked _ _ _ _ r t e
  | faultDoorbellResend => exact keeps_execFaultDoorbellResend _ _ _ r t e
  | xltRetry => exact keeps_execXltRetry _ _ _ r t e
  | xltAbort => exact keeps_execXltAbort _ _ _ r t e
  | dmaCopy => exact keeps_execDmaCopy _ _ _ r t e
  | dmaTransferStart => exact keeps_execDmaTransferStart _ _ r t e
  | dmaTransferEnd => exact keeps_execDmaTransferEnd _ _ _ _ r t e
  | rdShared => exact keeps_execRdShared _ _ r t e
  | rdOwn => exact keeps_execRdOwn _ _ r t e
  | upgrade => exact keeps_execUpgrade _ _ r t e
  | wbDirty => exact keeps_execWbDirty _ _ _ r t e
  | evictClean => exact keeps_execEvictClean _ _ r t e
  | snoopResponse => exact keeps_execSnoopResponse _ _ _ _ _ r t e
  | snoopTimeout => exact keeps_execSnoopTimeout _ _ _ r t e
  | directoryRecallDone => exact keeps_execDirectoryRecallDone _ _ r t e
  | composeSetEntry => exact keeps_execComposeSetEntry _ _ _ r t e
  | composeRemoveEntry => exact keeps_execComposeRemoveEntry _ _ _ r t e
  | composeAdvance => exact keeps_execComposeAdvance _ _ _ r t e
  | drainWindowClose => exact keeps_execDrainWindowClose _ _ r t e
  | entryDrainFree => exact keeps_execEntryDrainFree _ _ r t e
  | owner => exact keeps_execOwner _ _ _ r t e
  | ownerRecordTakeUp => exact keeps_execOwnerRecordTakeUp _ _ _ r t e
  | ownerTakeUpTimeout => exact keeps_execOwnerTakeUpTimeout _ _ r t e
  | meterPeriodEnd => exact keeps_execMeterPeriodEnd _ r t e
  | remoteCopyExpire => exact keeps_execRemoteCopyExpire _ _ _ r t e
  | commandSignal => exact keeps_execCommandSignal _ _ r t e
  | deadlockScan => exact keeps_execDeadlockScan _ r t e
  | scrubPassEnd => exact keeps_execScrubPassEnd _ _ _ _ r t e
  | stragglerReport => exact keeps_execStragglerReport _ _ r t e
  | expelVote => exact keeps_execExpelVote _ _ r t e
  | domainChangeRebuild => exact keeps_execDomainChangeRebuild _ _ _ r t e
  | rebuildFillDone => exact keeps_execRebuildFillDone _ r t e
  | domainChangeReplace => exact keeps_execDomainChangeReplace _ _ _ r t e
  | replaceCommit => exact keeps_execReplaceCommit _ r t e
  | domainChangeLeave => exact keeps_execDomainChangeLeave _ _ _ r t e
  | drainBegin => exact keeps_execDrainBegin _ _ r t e
  | domainForm => exact keeps_execDomainForm _ _ _ r t e
  | domainFormTimeout => exact keeps_execDomainFormTimeout _ r t e
  | domainDissolve => exact keeps_execDomainDissolve _ _ r t e
  | generationTakeUp => exact keeps_execGenerationTakeUp _ _ _ r t e
  | declareAgentDead => exact keeps_execDeclareAgentDead _ _ r t e
  | agentReactivate => exact keeps_execAgentReactivate _ _ r t e
  | agentEntryWrite => exact keeps_execAgentEntryWrite _ _ r t e
  | dataSourceWrite => exact keeps_execDataSourceWrite _ _ r t e
  | masterConfirmWrite => exact keeps_execMasterConfirmWrite _ _ r t e
  | ethFrameReceive => exact keeps_execEthFrameReceive _ _ r t e
  | arpRequest => exact keeps_execArpRequest _ _ r t e
  | neighbourSolicitation => exact keeps_execNeighbourSolicitation _ _ r t e
  | icmpEchoRequest => exact keeps_execIcmpEchoRequest _ _ _ r t e
  | pfcFrameReceive => exact keeps_execPfcFrameReceive _ _ _ r t e
  | pauseFrameReceive => exact keeps_execPauseFrameReceive _ r t e
  | cnpReceive => exact keeps_execCnpReceive _ _ r t e
  | cnpRateRecovery => exact keeps_execCnpRateRecovery _ _ r t e
  | ethLinkUp => exact keeps_execEthLinkUp _ r t e
  | ethLinkDown => exact keeps_execEthLinkDown _ r t e
  | rdmaRead => exact keeps_execRdmaRead _ _ _ r t e
  | rdmaWrite => exact keeps_execRdmaWrite _ _ _ r t e
  | fetchAndAdd => exact keeps_execFetchAndAdd _ _ _ r t e
  | compareAndSwap => exact keeps_execCompareAndSwap _ _ _ _ r t e
  | roceSendRequest => exact keeps_execRoceSendRequest _ _ _ _ _ _ _ r t e
  | roceAckReceive => exact keeps_execRoceAckReceive _ _ _ r t e
  | roceNakReceive => exact keeps_execRoceNakReceive _ _ _ _ r t e
  | roceAckTimeout => exact keeps_execRoceAckTimeout _ _ r t e
  | qpEntryWrite => exact keeps_execQpEntryWrite _ _ r t e
  | i3cSetdasa => exact keeps_execI3cSetdasa _ _ r t e
  | i3cEntdaa => exact keeps_execI3cEntdaa _ _ r t e
  | i3cPrivateRead => exact keeps_execI3cPrivateRead _ r t e
  | dapOpenTenant => exact keeps_execDapOpenTenant _ _ r t e
  | dapOpenManagement => exact keeps_execDapOpenManagement _ _ r t e
  | dapClose => exact keeps_execDapClose _ _ r t e
  | dapRead => exact keeps_execDapRead _ _ r t e
  | dapWrite => exact keeps_execDapWrite _ _ r t e
  | dapWriteGuarded => exact keeps_execDapWriteGuarded _ _ r t e
  | dapSubscribe => exact keeps_execDapSubscribe _ _ r t e
  | dapUnsubscribe => exact keeps_execDapUnsubscribe _ _ r t e
  | dapSessionIdleTimeout => exact keeps_execDapSessionIdleTimeout _ _ _ r t e
  | spdmGetVersion => exact keeps_execSpdmGetVersion _ _ r t e
  | spdmGetCapabilities => exact keeps_execSpdmGetCapabilities _ _ r t e
  | spdmNegotiateAlgorithms => exact keeps_execSpdmNegotiateAlgorithms _ _ r t e
  | spdmGetDigests => exact keeps_execSpdmGetDigests _ _ r t e
  | spdmGetCertificate => exact keeps_execSpdmGetCertificate _ _ r t e
  | spdmChallenge => exact keeps_execSpdmChallenge _ _ r t e
  | spdmGetMeasurements => exact keeps_execSpdmGetMeasurements _ _ r t e
  | spdmKeyExchange => exact keeps_execSpdmKeyExchange _ _ _ r t e
  | spdmFinish => exact keeps_execSpdmFinish _ _ _ r t e
  | spdmHeartbeat => exact keeps_execSpdmHeartbeat _ _ r t e
  | spdmKeyUpdate => exact keeps_execSpdmKeyUpdate _ _ r t e
  | spdmEndSession => exact keeps_execSpdmEndSession _ _ r t e
  | spdmHeartbeatMissed => exact keeps_execSpdmHeartbeatMissed _ _ r t e
  | arithCountersClear => exact keeps_execArithCountersClear _ _ r t e
  | attnCountersClear => exact keeps_execAttnCountersClear _ _ r t e
  | tierCountersClear => exact keeps_execTierCountersClear _ _ r t e
  | streamCountersClear => exact keeps_execStreamCountersClear _ _ r t e
  | oryxCountersClear => exact keeps_execOryxCountersClear _ _ r t e
  | tableCountersClear => exact keeps_execTableCountersClear _ _ r t e
  | searchCountersClear => exact keeps_execSearchCountersClear _ _ r t e
  | xltCountersClear => exact keeps_execXltCountersClear _ _ r t e
  | syncCountersClear => exact keeps_execSyncCountersClear _ _ r t e
  | ethCountersClear => exact keeps_execEthCountersClear _ _ r t e
  | dictCountersClear => exact keeps_execDictCountersClear _ _ r t e
  | regCountersClear => exact keeps_execRegCountersClear _ _ r t e
  | saveNow => exact keeps_execSaveNow _ _ r t e
  | saveComplete => exact keeps_execSaveComplete _ r t e
  | restoreDefaults => exact keeps_execRestoreDefaults _ _ r t e
  | cfgCommit => exact keeps_execCfgCommit _ _ r t e
  | cfgCommitTimeout => exact keeps_execCfgCommitTimeout _ r t e
  | cfgWalkStart => exact keeps_execCfgWalkStart _ _ r t e
  | cfgWalkEnd => exact keeps_execCfgWalkEnd _ _ r t e
  | cfgPendingOverdue => exact keeps_execCfgPendingOverdue _ _ r t e
  | fwStageData => exact keeps_execFwStageData _ _ r t e
  | fwVerify => exact keeps_execFwVerify _ _ r t e
  | fwVerifyDone => exact keeps_execFwVerifyDone _ _ r t e
  | fwHandover => exact keeps_execFwHandover _ _ r t e
  | fwAlive => exact keeps_execFwAlive _ r t e
  | fwHandoverTimeout => exact keeps_execFwHandoverTimeout _ r t e
  | imageKeyEnrol => exact keeps_execImageKeyEnrol _ _ r t e
  | imageKeyRevoke => exact keeps_execImageKeyRevoke _ _ r t e
  | ownerKeyEnrol => exact keeps_execOwnerKeyEnrol _ _ r t e
  | ownerKeyRevoke => exact keeps_execOwnerKeyRevoke _ _ r t e
  | fmKeyWrite => exact keeps_execFmKeyWrite _ _ r t e
  | keyCreate => exact keeps_execKeyCreate _ _ r t e
  | keyDestroy => exact keeps_execKeyDestroy _ _ r t e
  | keySweepDone => exact keeps_execKeySweepDone _ _ r t e
  | handover => exact keeps_execHandover _ _ r t e
  | handoverReport => exact keeps_execHandoverReport _ _ r t e
  | conditionReportSign => exact keeps_execConditionReportSign _ r t e
  | logCheckpoint => exact keeps_execLogCheckpoint _ _ r t e
  | lifetimeMeterUpdate => exact keeps_execLifetimeMeterUpdate _ _ r t e
  | meterSnapshot => exact keeps_execMeterSnapshot _ r t e
  | meterAck => exact keeps_execMeterAck _ _ r t e
  | meterBatchRead => exact keeps_execMeterBatchRead _ _ r t e
  | syncViewRead => exact keeps_execSyncViewRead _ _ r t e
  | trustModeWrite => exact keeps_execTrustModeWrite _ _ r t e
  | regionEntryWrite => exact keeps_execRegionEntryWrite _ _ r t e
  | packageNumberWrite => exact keeps_execPackageNumberWrite _ _ r t e
  | heldReadyMaskWrite => exact keeps_execHeldReadyMaskWrite _ _ r t e
  | domainFloorWrite => exact keeps_execDomainFloorWrite _ _ r t e
  | dictObjectWrite => exact keeps_execDictObjectWrite _ _ r t e
  | regWrite => exact keeps_execRegWrite _ _ _ _ r t e
  | guardedRegWrite => exact keeps_execGuardedRegWrite _ _ _ _ r t e
  | complementPortWrite => exact keeps_execComplementPortWrite _ _ _ _ r t e
  | guardTimeout => exact keeps_execGuardTimeout _ _ r t e
  | regLoRead => exact keeps_execRegLoRead _ _ _ r t e
  | regHiRead => exact keeps_execRegHiRead _ _ _ r t e
  | regLoWrite => exact keeps_execRegLoWrite _ _ _ _ r t e
  | regHiWrite => exact keeps_execRegHiWrite _ _ _ _ r t e
  | rawDieWrite => exact keeps_execRawDieWrite _ _ r t e
  | rawOffsetWrite => exact keeps_execRawOffsetWrite _ _ r t e
  | rawDataRead => exact keeps_execRawDataRead _ _ r t e
  | rawDataWrite => exact keeps_execRawDataWrite _ _ r t e
  | rawData64Read => exact keeps_execRawData64Read _ _ r t e
  | rawData64Write => exact keeps_execRawData64Write _ _ r t e
  | rawGuardedWrite => exact keeps_execRawGuardedWrite _ _ r t e
  | mbxAckWrite => exact keeps_execMbxAckWrite _ _ _ _ r t e
  | mbxHeadRead => exact keeps_execMbxHeadRead _ _ r t e
  | fabTileSelWrite => exact keeps_execFabTileSelWrite _ _ _ r t e
  | homeDirProbeWrite => exact keeps_execHomeDirProbeWrite _ _ _ r t e
  | scratchpadWindowAccess => exact keeps_execScratchpadWindowAccess _ _ r t e
  | matrixVectorStep => exact keeps_execMatrixVectorStep _ _ _ r t e
  | vectorStep => exact keeps_execVectorStep _ _ _ _ _ _ r t e
  | conversion => exact keeps_execConversion _ _ _ _ _ r t e
  | specialFunction => exact keeps_execSpecialFunction _ _ _ _ _ r t e
  | crossLaneReduce => exact keeps_execCrossLaneReduce _ _ _ _ r t e
  | tilePlainLoad => exact keeps_execTilePlainLoad _ _ _ r t e
  | tileAcquireLoad => exact keeps_execTileAcquireLoad _ _ _ r t e
  | tileLoadReturn => exact keeps_execTileLoadReturn _ _ r t e
  | tilePlainStore => exact keeps_execTilePlainStore _ _ _ r t e
  | tileReleaseStore => exact keeps_execTileReleaseStore _ _ _ r t e
  | tileAtomic => exact keeps_execTileAtomic _ _ _ _ r t e
  | tileFence => exact keeps_execTileFence _ _ r t e
  | tileSignal => exact keeps_execTileSignal _ _ _ _ r t e
  | tileWait => exact keeps_execTileWait _ _ _ _ _ r t e
  | repairSourceTimeout => exact keeps_execRepairSourceTimeout _ _ r t e
  | notificationTimeout => exact keeps_execNotificationTimeout _ _ r t e
  | rnrRetryTimer => exact keeps_execRnrRetryTimer _ _ r t e
  | listReadReissue => exact keeps_execListReadReissue _ _ _ _ r t e
  | norFreeRelease => exact keeps_execNorFreeRelease _ r t e
  | unknownOpcode => exact keeps_execUnknownOpcode _ _ _ r t e
  | messageDiscard => exact keeps_execMessageDiscard _ _ _ r t e
  | spdmUnsupportedRequest => exact keeps_execSpdmUnsupportedRequest _ _ _ r t e

/-- Settles O6: memory as it is read is the cells of the memory, so a command that leaves these leaves every read. -/
theorem commandsLeaveGroups : Obligations.CommandsLeaveGroups := by
  intro c s t e
  have h := exec_keeps e
  refine ⟨fun q => h.custody ?_, fun q => ?_, fun q => h.sync ?_, fun q => h.config ?_, fun q => h.tables ?_,
    fun q => h.maps ?_⟩
  case refine_2 =>
    have hm : MemorySame s t := h.memory (by simp [leftBy, q])
    exact ⟨hm, fun a n => by rw [readMem, readMem, hm.1]⟩
  all_goals simp [leftBy, q]

end Sys2Proof.Machine

/-! # STANDING and EXPELLED are left only by a reset or the loss of the input -/

namespace Sys2Proof.Machine

/-! ## The package state that an operation leaves

Few operations change the package state. For the others: one lemma each, for `simp`. -/

theorem Keeps.pkg_eq {s t : State} (h : Keeps ⟨true, false, false, false, false, false⟩ s t) : t.pkg = s.pkg :=
  (h.custody rfl).1

theorem Keeps.resetting_eq {s t : State} (h : Keeps ⟨true, false, false, false, false, false⟩ s t) :
    t.resetting = s.resetting := by
  obtain ⟨-, -, -, -, -, -, -, -, -, -, -, -, -, -, -, -, hr, -⟩ := h.custody rfl
  exact hr

@[simp] theorem pkg_ite (p : Prop) [Decidable p] (s t : State) :
    (if p then s else t).pkg = if p then s.pkg else t.pkg :=
  apply_ite State.pkg p s t

@[simp] theorem pkg_foldl {α : Type} {f : State → α → State} (hf : ∀ w a, (f w a).pkg = w.pkg) (l : List α)
    (s : State) : (l.foldl f s).pkg = s.pkg :=
  List.foldlRecOn (motive := fun t => t.pkg = s.pkg) l f rfl fun w h a _ => (hf w a).trans h

section
variable (s : State)

/-! ### Operations that leave the whole group of the custody fields -/

@[simp] theorem drawFree_pkg : (drawFree s).2.pkg = s.pkg := rfl
@[simp] theorem drawKey_pkg : (drawKey s).2.pkg = s.pkg := rfl
@[simp] theorem raiseEvent_pkg (index sub cause : Nat) : (raiseEvent index sub cause s).pkg = s.pkg :=
  (keeps_raiseEvent _ _ _ _ (.refl s)).pkg_eq
theorem raiseEvent_resetting (index sub cause : Nat) : (raiseEvent index sub cause s).resetting = s.resetting :=
  (keeps_raiseEvent _ _ _ _ (.refl s)).resetting_eq
@[simp] theorem fin_pkg (c : Ctx) (st : Status) (hint : Nat) : (fin c st hint s).pkg = s.pkg :=
  (keeps_fin _ _ _ _ (.refl s)).pkg_eq
@[simp] theorem finOk_pkg (c : Ctx) : (finOk c s).pkg = s.pkg := fin_pkg ..
@[simp] theorem finBad_pkg (c : Ctx) : (finBad c s).pkg = s.pkg := fin_pkg ..
@[simp] theorem wake_pkg (d : Nat) : (wake d s).pkg = s.pkg := (keeps_wake _ _ (.refl s)).pkg_eq
@[simp] theorem setSession_pkg (p : Port) (id : Nat) (x : Session) : (setSession p id x s).pkg = s.pkg :=
  (keeps_setSession _ _ _ _ (.refl s)).pkg_eq
@[simp] theorem setStage_pkg (p : Port) (id : Nat) (x : Option (Nat × Nat × Nat × Nat)) :
    (setStage p id x s).pkg = s.pkg :=
  (keeps_setStage _ _ _ _ (.refl s)).pkg_eq
@[simp] theorem guardFailed_pkg (c : Ctx) : (guardFailed c s).pkg = s.pkg := (keeps_guardFailed _ _ (.refl s)).pkg_eq
@[simp] theorem dapEcho_pkg (r : DapReply) : (dapEcho r s).pkg = s.pkg := (keeps_dapEcho _ _ (.refl s)).pkg_eq
@[simp] theorem dapRefuseSeq_pkg (m : DapMsg) (last : Nat) : (dapRefuseSeq m last s).pkg = s.pkg :=
  (keeps_dapRefuseSeq _ _ _ (.refl s)).pkg_eq
@[simp] theorem clearObjs_pkg (index : Nat) (subs : List Nat) : (clearObjs index subs s).pkg = s.pkg :=
  (keeps_clearObjs _ _ _ (.refl s)).pkg_eq
@[simp] theorem dapFinishKey_pkg (key : Nat) (st : Status) (hint : Nat) : (dapFinishKey key st hint s).pkg = s.pkg :=
  (keeps_dapFinishKey _ _ _ _ (.refl s)).pkg_eq
@[simp] theorem countQps_pkg : (countQps s).pkg = s.pkg := (keeps_countQps _ (.refl s)).pkg_eq
@[simp] theorem foundBad_pkg (line : Nat) : (foundBad s line).pkg = s.pkg := (keeps_foundBad _ _ (.refl s)).pkg_eq
@[simp] theorem setAgentState_pkg (a v : Nat) : (setAgentState a v s).pkg = s.pkg :=
  (keeps_setAgentState _ _ _ (.refl s)).pkg_eq
@[simp] theorem tellMembers_pkg (what item value : Nat) : (tellMembers what item value s).pkg = s.pkg :=
  (keeps_tellMembers _ _ _ _ (.refl s)).pkg_eq
@[simp] theorem sendNotices_pkg (q m : Nat) (ns : List (Nat × Nat)) : (sendNotices q m ns s).pkg = s.pkg :=
  (keeps_sendNotices _ _ _ _ (.refl s)).pkg_eq
@[simp] theorem handleFound_pkg (line : Nat) : (handleFound line s).pkg = s.pkg :=
  (keeps_handleFound _ _ (.refl s)).pkg_eq
@[simp] theorem closeTenants_pkg (requester : Nat) : (closeTenants requester s).pkg = s.pkg :=
  (keeps_closeTenants _ _ (.refl s)).pkg_eq
@[simp] theorem closeAllSessions_pkg : (closeAllSessions s).pkg = s.pkg := (keeps_closeAllSessions _ (.refl s)).pkg_eq
@[simp] theorem setCluster_pkg (c : Nat) (f : Cluster → Cluster) : (setCluster c f s).pkg = s.pkg :=
  (keeps_setCluster _ _ _ (.refl s)).pkg_eq
@[simp] theorem cfgEvent_pkg : (cfgEvent s).pkg = s.pkg := (keeps_cfgEvent _ (.refl s)).pkg_eq
@[simp] theorem clearTiles_pkg (c : Nat) : (clearTiles c s).pkg = s.pkg := (keeps_clearTiles _ _ (.refl s)).pkg_eq
@[simp] theorem endLoad_pkg (j : LoadJob) (c : Nat) (st : Status) : (endLoad j c st s).pkg = s.pkg :=
  (keeps_endLoad _ _ _ _ (.refl s)).pkg_eq
@[simp] theorem unassignRole_pkg (c : Nat) : (unassignRole c s).pkg = s.pkg := (keeps_unassignRole _ _ (.refl s)).pkg_eq
@[simp] theorem reloadCluster_pkg (c : Nat) : (reloadCluster c s).pkg = s.pkg :=
  (keeps_reloadCluster _ _ (.refl s)).pkg_eq
@[simp] theorem failCalls_pkg (c : Nat) : (failCalls c s).pkg = s.pkg := (keeps_failCalls _ _ (.refl s)).pkg_eq
@[simp] theorem maskBit_pkg (index sub n : Nat) (v : Bool) : (maskBit index sub n v s).pkg = s.pkg :=
  (keeps_maskBit _ _ _ _ _ (.refl s)).pkg_eq
@[simp] theorem settleCommit_pkg : (settleCommit s).pkg = s.pkg := (keeps_settleCommit _ (.refl s)).pkg_eq
@[simp] theorem doCfgCommit_pkg (c : Ctx) : (doCfgCommit c s).pkg = s.pkg := (keeps_doCfgCommit _ _ (.refl s)).pkg_eq
@[simp] theorem blockWrite_pkg (die off v : Nat) : (blockWrite die off v s).pkg = s.pkg :=
  (keeps_blockWrite _ _ _ _ (.refl s)).pkg_eq
@[simp] theorem guardedPair_pkg (die off v : Nat) : (guardedPair die off v s).pkg = s.pkg :=
  (keeps_guardedPair _ _ _ _ (.refl s)).pkg_eq
@[simp] theorem makeZero_pkg (ext : Nat) : (makeZero ext s).pkg = s.pkg := (keeps_makeZero _ _ (.refl s)).pkg_eq
@[simp] theorem settlePlacement_pkg : (settlePlacement s).pkg = s.pkg := (keeps_settlePlacement _ (.refl s)).pkg_eq
@[simp] theorem beginRecal_pkg (n : Nat) : (beginRecal n s).pkg = s.pkg := (keeps_beginRecal _ _ (.refl s)).pkg_eq
@[simp] theorem dropLink_pkg (n : Nat) : (dropLink n s).pkg = s.pkg := (keeps_dropLink _ _ (.refl s)).pkg_eq
@[simp] theorem drawRanges_pkg : (drawRanges s).pkg = s.pkg := (keeps_drawRanges _ (.refl s)).pkg_eq
@[simp] theorem countBatches_pkg : (countBatches s).pkg = s.pkg := (keeps_countBatches _ (.refl s)).pkg_eq
@[simp] theorem errorQps_pkg (requester : Nat) : (errorQps requester s).pkg = s.pkg :=
  (keeps_errorQps _ _ (.refl s)).pkg_eq
@[simp] theorem countVotes_pkg : (countVotes s).pkg = s.pkg := (keeps_countVotes _ (.refl s)).pkg_eq
@[simp] theorem dissolve_pkg : (dissolve s).pkg = s.pkg := (keeps_dissolve _ (.refl s)).pkg_eq
@[simp] theorem takeDead_pkg (a : Nat) : (takeDead a s).pkg = s.pkg := (keeps_takeDead _ _ (.refl s)).pkg_eq
@[simp] theorem degradeTied_pkg (p : Nat) : (degradeTied p s).pkg = s.pkg := (keeps_degradeTied _ _ (.refl s)).pkg_eq
@[simp] theorem takeObjects_pkg (joins : Bool) (os : List (Nat × Nat)) : (takeObjects joins os s).pkg = s.pkg :=
  (keeps_takeObjects _ _ _ (.refl s)).pkg_eq
@[simp] theorem takePartners_pkg (ps : List (Nat × Nat)) : (takePartners ps s).pkg = s.pkg :=
  (keeps_takePartners _ _ (.refl s)).pkg_eq
@[simp] theorem joinObject_pkg (rebuild : Bool) (e : Nat × Nat × List Nat) : (joinObject rebuild e s).pkg = s.pkg :=
  (keeps_joinObject _ _ _ (.refl s)).pkg_eq
@[simp] theorem runQp_pkg (q n : Nat) : (runQp q n s).pkg = s.pkg := (keeps_runQp _ _ _ (.refl s)).pkg_eq
@[simp] theorem dropWork_pkg : (dropWork s).pkg = s.pkg := (keeps_dropWork _ (.refl s)).pkg_eq
@[simp] theorem clearQps_pkg : (clearQps s).pkg = s.pkg := (keeps_clearQps _ (.refl s)).pkg_eq
@[simp] theorem railsOff_pkg (d : Nat) : (railsOff d s).pkg = s.pkg := (keeps_railsOff _ _ (.refl s)).pkg_eq
@[simp] theorem stopSteps_pkg : (stopSteps s).pkg = s.pkg := (keeps_stopSteps _ (.refl s)).pkg_eq
@[simp] theorem purgeReached_pkg : (purgeReached s).pkg = s.pkg := (keeps_purgeReached _ (.refl s)).pkg_eq
@[simp] theorem takeAllConfig_pkg : (takeAllConfig s).pkg = s.pkg := (keeps_takeAllConfig _ (.refl s)).pkg_eq
@[simp] theorem takeMeters_pkg : (takeMeters s).pkg = s.pkg := (keeps_takeMeters _ (.refl s)).pkg_eq
@[simp] theorem sample_pkg (x : Straps) : (sample x s).pkg = s.pkg := (keeps_sample _ _ (.refl s)).pkg_eq
@[simp] theorem setInput_pkg (mv : Nat) : (setInput mv s).pkg = s.pkg := (keeps_setInput _ _ (.refl s)).pkg_eq
@[simp] theorem evictCluster_pkg (c : Nat) : (evictCluster c s).pkg = s.pkg := (keeps_evictCluster _ _ (.refl s)).pkg_eq
@[simp] theorem dropAccesses_pkg (die : Nat) : (dropAccesses die s).pkg = s.pkg :=
  (keeps_dropAccesses _ _ (.refl s)).pkg_eq
@[simp] theorem stopMoves_pkg : (stopMoves s).pkg = s.pkg := (keeps_stopMoves _ (.refl s)).pkg_eq
@[simp] theorem releaseDie_pkg (die : Nat) : (releaseDie die s).pkg = s.pkg := (keeps_releaseDie _ _ (.refl s)).pkg_eq
@[simp] theorem raiseTo_pkg (d : Nat) : (raiseTo d s).pkg = s.pkg := (keeps_raiseTo _ _ (.refl s)).pkg_eq
@[simp] theorem doHeldReady_pkg (c : Ctx) : (doHeldReady c s).pkg = s.pkg := (keeps_doHeldReady _ _ (.refl s)).pkg_eq
@[simp] theorem setMember_pkg (m p : Nat) : (setMember m p s).pkg = s.pkg := (keeps_setMember _ _ _ (.refl s)).pkg_eq
@[simp] theorem sendObjects_pkg (p : Nat) : (sendObjects p s).pkg = s.pkg := (keeps_sendObjects _ _ (.refl s)).pkg_eq
@[simp] theorem sendEntries_pkg (m p : Nat) : (sendEntries m p s).pkg = s.pkg :=
  (keeps_sendEntries _ _ _ (.refl s)).pkg_eq
@[simp] theorem rewritePartners_pkg (old new : Nat) : (rewritePartners old new s).pkg = s.pkg :=
  (keeps_rewritePartners _ _ _ (.refl s)).pkg_eq
@[simp] theorem fillRest_pkg : (fillRest s).pkg = s.pkg := (keeps_fillRest _ (.refl s)).pkg_eq
@[simp] theorem beReplaced_pkg (p : Nat) : (beReplaced p s).pkg = s.pkg := (keeps_beReplaced _ _ (.refl s)).pkg_eq
@[simp] theorem removeAgents_pkg (p : Nat) : (removeAgents p s).pkg = s.pkg := (keeps_removeAgents _ _ (.refl s)).pkg_eq
@[simp] theorem voteRefused_pkg (c : Ctx) (st : Status) : (voteRefused c st s).pkg = s.pkg :=
  (keeps_voteRefused _ _ _ (.refl s)).pkg_eq
@[simp] theorem spdmSend_pkg (m : SpdmMsg) (session code bytes payload : Nat) :
    (spdmSend m session code bytes payload s).pkg = s.pkg :=
  (keeps_spdmSend _ _ _ _ _ _ (.refl s)).pkg_eq
@[simp] theorem spdmError_pkg (m : SpdmMsg) (code : Nat) : (spdmError m code s).pkg = s.pkg :=
  (keeps_spdmError _ _ _ (.refl s)).pkg_eq
@[simp] theorem countSpdm_pkg : (countSpdm s).pkg = s.pkg := (keeps_countSpdm _ (.refl s)).pkg_eq
@[simp] theorem doSaveNow_pkg (c : Ctx) : (doSaveNow c s).pkg = s.pkg := (keeps_doSaveNow _ _ (.refl s)).pkg_eq
@[simp] theorem toDefaults_pkg : (toDefaults s).pkg = s.pkg := (keeps_toDefaults _ (.refl s)).pkg_eq
@[simp] theorem retireSigned_pkg (slot : Nat) : (retireSigned slot s).pkg = s.pkg :=
  (keeps_retireSigned _ _ (.refl s)).pkg_eq
@[simp] theorem countKeys_pkg : (countKeys s).pkg = s.pkg := (keeps_countKeys _ (.refl s)).pkg_eq
@[simp] theorem purgeMemory_pkg : (purgeMemory s).pkg = s.pkg := (keeps_purgeMemory _ (.refl s)).pkg_eq
@[simp] theorem doCommand_pkg (op : Nat) (c : Ctx) : (doCommand op c s).pkg = s.pkg :=
  (keeps_doCommand _ _ _ (.refl s)).pkg_eq
@[simp] theorem freeAnswers_pkg : (freeAnswers s).2.pkg = s.pkg := (keeps_freeAnswers _ (.refl s)).pkg_eq

/-! ### The package state itself, and the custody log -/

@[simp] theorem enterState_pkg (p : PkgState) : (enterState p s).pkg = p := raiseEvent_pkg ..
@[simp] theorem logUnit_pkg (u : Nat) : (logUnit u s).pkg = s.pkg := by simp [logUnit]
@[simp] theorem checkpoint_pkg : (checkpoint s).pkg = s.pkg := by simp [checkpoint]
@[simp] theorem appendLog_pkg (ty actor tenant payload : Nat) : (appendLog ty actor tenant payload s).pkg = s.pkg := by
  simp [appendLog]
@[simp] theorem guardedEntry_pkg (c : Ctx) : (guardedEntry c s).pkg = s.pkg := appendLog_pkg ..
@[simp] theorem logRepair_pkg (kind die unit result : Nat) : (logRepair kind die unit result s).pkg = s.pkg :=
  appendLog_pkg ..

end

/-! ### Writes that take effect, and the sessions of SPDM -/

@[simp] theorem applied_pkg (c : Ctx) (f : State → State) (s : State) : (applied c f s).pkg =
    if c.op = dapGuarded then if logRoom s 0x20 then (f s).pkg else s.pkg else (f s).pkg := by
  simp [applied]
@[simp] theorem appliedWith_pkg (c : Ctx) (ty : Nat) (f : State → State) (s : State) :
    (appliedWith c ty f s).pkg = if logRoom s ty then (f s).pkg else s.pkg := by
  simp [appliedWith]
@[simp] theorem clearing_pkg (c : Ctx) (f : State → State) (s : State) : (clearing c f s).pkg =
    if c.value = 1 then (applied c f s).pkg else s.pkg := by
  simp [clearing]
theorem atStage_pkg {f : State → State} (hf : ∀ w, (f w).pkg = w.pkg) (n : Nat) (m : SpdmMsg) (s : State) :
    (atStage n m f s).pkg = s.pkg := by
  simp [atStage, hf]
theorem inSession_pkg {f : SpdmSession → State → State} (hf : ∀ x w, (f x w).pkg = w.pkg) (m : SpdmMsg) (s : State) :
    (inSession m f s).pkg = s.pkg := by
  unfold inSession
  split
  · rfl
  · split <;> simp [hf]
theorem inEstablished_pkg {f : SpdmSession → State → State} (hf : ∀ x w, (f x w).pkg = w.pkg) (m : SpdmMsg)
    (s : State) : (inEstablished m f s).pkg = s.pkg :=
  inSession_pkg (fun x w => by simp [hf]) m s

section
variable (s : State)

/-! ### Operations that change the custody fields, but not the package state -/

/-! #### Tiles, the raw window and the check of configurations -/

@[simp] theorem substitute_pkg (c j : Nat) : (substitute c j s).pkg = s.pkg := by simp [substitute]
@[simp] theorem doTileFailure_pkg (c j : Nat) : (doTileFailure c j s).pkg = s.pkg := by
  unfold doTileFailure
  dsimp only
  split
  · rfl
  · split
    · split <;> simp
    · split <;> simp
@[simp] theorem doRawDie_pkg (c : Ctx) : (doRawDie c s).pkg = s.pkg := by simp [doRawDie]
@[simp] theorem doRawOffset_pkg (c : Ctx) : (doRawOffset c s).pkg = s.pkg := by simp [doRawOffset]
@[simp] theorem doRawWrite_pkg (c : Ctx) : (doRawWrite c s).pkg = s.pkg := by simp [doRawWrite, rawAccess]
@[simp] theorem doRawWrite64_pkg (c : Ctx) : (doRawWrite64 c s).pkg = s.pkg := by simp [doRawWrite64, rawAccess]
@[simp] theorem doRawGuarded_pkg (c : Ctx) : (doRawGuarded c s).pkg = s.pkg := by simp [doRawGuarded, rawAccess]
@[simp] theorem doCheckEnable_pkg (c : Ctx) : (doCheckEnable c s).pkg = s.pkg := by simp [doCheckEnable]

/-! #### Bases and limits -/

@[simp] theorem doArenaBase_pkg (c : Ctx) : (doArenaBase c s).pkg = s.pkg := by simp [doArenaBase]
@[simp] theorem doObjTableBase_pkg (c : Ctx) : (doObjTableBase c s).pkg = s.pkg := by simp [doObjTableBase]
@[simp] theorem doShadowTableBase_pkg (c : Ctx) : (doShadowTableBase c s).pkg = s.pkg := by simp [doShadowTableBase]
@[simp] theorem doPinLimit_pkg (c : Ctx) : (doPinLimit c s).pkg = s.pkg := by simp [doPinLimit]
@[simp] theorem doHotArea_pkg (c : Ctx) : (doHotArea c s).pkg = s.pkg := by simp [doHotArea]

/-! #### Meters -/

@[simp] theorem closeMeters_pkg (cs : List Nat) : (closeMeters cs s).2.pkg = s.pkg := by
  unfold closeMeters
  refine List.foldlRecOn (motive := fun (a : List Nat × State) => a.2.pkg = s.pkg) cs _ rfl fun a h c _ => ?_
  dsimp only
  split <;> exact h
@[simp] theorem makeRoom_pkg (n k : Nat) : (makeRoom n k s).pkg = s.pkg := by
  induction k generalizing s with
  | zero => rfl
  | succ k ih =>
    unfold makeRoom
    split
    · rfl
    · simp [ih]
@[simp] theorem keepRecords_pkg (records : List Nat) : (keepRecords records s).pkg = s.pkg := by
  simp [keepRecords]
@[simp] theorem doMeterPeriod_pkg : (doMeterPeriod s).pkg = s.pkg := by
  unfold doMeterPeriod
  exact (keepRecords_pkg ..).trans (closeMeters_pkg ..)
@[simp] theorem doMeterAck_pkg (c : Ctx) : (doMeterAck c s).pkg = s.pkg := by
  unfold doMeterAck
  split <;> simp
@[simp] theorem doEntryFree_pkg (requester : Nat) : (doEntryFree requester s).pkg = s.pkg := by
  unfold doEntryFree
  split
  · rfl
  · simp

/-! #### Regions, the domain and its agents -/

@[simp] theorem doRegionEntry_pkg (c : Ctx) : (doRegionEntry c s).pkg = s.pkg := by simp [doRegionEntry]
@[simp] theorem doTrustMode_pkg (c : Ctx) : (doTrustMode c s).pkg = s.pkg := by simp [doTrustMode]
@[simp] theorem takeUp_pkg (g : Nat) : (takeUp g s).pkg = s.pkg := by simp [takeUp]
@[simp] theorem nextGeneration_pkg : (nextGeneration s).pkg = s.pkg := by simp [nextGeneration]
@[simp] theorem doForm_pkg (answers : List MemberAnswer) (c : Ctx) : (doForm answers c s).pkg = s.pkg := by simp [doForm]
@[simp] theorem doDomainForm_pkg (answers : List MemberAnswer) (c : Ctx) : (doDomainForm answers c s).pkg = s.pkg := by
  simp [doDomainForm]
@[simp] theorem declareDead_pkg (a : Nat) : (declareDead a s).pkg = s.pkg := by simp [declareDead]
@[simp] theorem joinDomain_pkg (g : Nat) (news : DomainNews) (j : Joining) : (joinDomain g news j s).pkg = s.pkg := by
  unfold joinDomain
  split <;> simp
@[simp] theorem doAgentEntry_pkg (c : Ctx) : (doAgentEntry c s).pkg = s.pkg := by simp [doAgentEntry]
@[simp] theorem doDataSource_pkg (c : Ctx) : (doDataSource c s).pkg = s.pkg := by simp [doDataSource]
@[simp] theorem doMasterConfirm_pkg (c : Ctx) : (doMasterConfirm c s).pkg = s.pkg := by simp [doMasterConfirm]
@[simp] theorem doQpEntry_pkg (c : Ctx) : (doQpEntry c s).pkg = s.pkg := by simp [doQpEntry]

/-! #### Reset and firmware -/

@[simp] theorem triggerReset_pkg (cause : Nat) (held : Bool) : (triggerReset cause held s).pkg = s.pkg := by
  simp [triggerReset]
@[simp] theorem doPkgReset_pkg (c : Ctx) : (doPkgReset c s).pkg = s.pkg := by simp [doPkgReset]
@[simp] theorem setFwSlot_pkg (k : Nat) (f : FwSlot → FwSlot) : (setFwSlot k f s).pkg = s.pkg := by simp [setFwSlot]
@[simp] theorem logFirmware_pkg (k version cause : Nat) : (logFirmware k version cause s).pkg = s.pkg := appendLog_pkg ..
@[simp] theorem runSlot_pkg (k : Nat) : (runSlot k s).pkg = s.pkg := by simp [runSlot]
@[simp] theorem checkLog_pkg (broken : Option Nat) : (checkLog broken s).pkg = s.pkg := by
  unfold checkLog
  split <;> simp
@[simp] theorem boot_pkg (k : Nat) : (boot k s).pkg = s.pkg := by simp [boot]
@[simp] theorem doRotVerify_pkg (fa fb : FwFound) (broken : Option Nat) : (doRotVerify fa fb broken s).pkg = s.pkg := by
  simp [doRotVerify]
@[simp] theorem doStage_pkg (c : Ctx) : (doStage c s).pkg = s.pkg := by simp [doStage]
@[simp] theorem doStageOffset_pkg (c : Ctx) : (doStageOffset c s).pkg = s.pkg := by simp [doStageOffset]
@[simp] theorem doFwVerify_pkg (c : Ctx) : (doFwVerify c s).pkg = s.pkg := by simp [doFwVerify]
@[simp] theorem doFwVerifyDone_pkg (f : FwFound) : (doFwVerifyDone f s).pkg = s.pkg := by simp [doFwVerifyDone]
@[simp] theorem restart_pkg : (restart s).pkg = s.pkg := by simp [restart]
@[simp] theorem doFwHandover_pkg (c : Ctx) : (doFwHandover c s).pkg = s.pkg := by
  unfold doFwHandover
  dsimp only
  split
  · simp
  · split
    · simp
    · split <;> simp
@[simp] theorem doFwAlive_pkg : (doFwAlive s).pkg = s.pkg := by
  unfold doFwAlive
  split <;> simp
@[simp] theorem doHandoverTimeout_pkg : (doHandoverTimeout s).pkg = s.pkg := by
  unfold doHandoverTimeout
  split <;> simp

/-! #### Dies, links and members -/

@[simp] theorem holdDie_pkg (die : Nat) : (holdDie die s).pkg = s.pkg := by
  simp only [holdDie, logRepair_pkg, raiseEvent_pkg, maskBit_pkg]
  exact pkg_foldl (fun w d => setDom_pkg d _ w) _ s
@[simp] theorem doDieRetest_pkg (c : Ctx) : (doDieRetest c s).pkg = s.pkg := by simp [doDieRetest]
@[simp] theorem doRetestDone_pkg (causes : List (Nat × SelfCause)) (nand : Bool) (lines : List Nat) (die : Nat) :
    (doRetestDone causes nand lines die s).pkg = s.pkg := by
  simp [doRetestDone]
@[simp] theorem doFloor_pkg (c : Ctx) : (doFloor c s).pkg = s.pkg := by simp [doFloor]
@[simp] theorem doLinkRecal_pkg (c : Ctx) : (doLinkRecal c s).pkg = s.pkg := by simp [doLinkRecal]
@[simp] theorem retireGranule_pkg (home : Nat) : (retireGranule home s).pkg = s.pkg := by simp [retireGranule]
@[simp] theorem doScrubPass_pkg (home : Nat) (corrected found : List Nat) :
    (doScrubPass home corrected found s).pkg = s.pkg := by
  simp [doScrubPass]
@[simp] theorem startRebuild_pkg (m old new : Nat) : (startRebuild m old new s).pkg = s.pkg := by simp [startRebuild]
@[simp] theorem doDomainChange_pkg (readyAlone memberEmpty : Bool) (c : Ctx) :
    (doDomainChange readyAlone memberEmpty c s).pkg = s.pkg := by
  simp [doDomainChange]
@[simp] theorem doRebuildDone_pkg : (doRebuildDone s).pkg = s.pkg := by
  unfold doRebuildDone
  dsimp only
  split <;> simp
@[simp] theorem doReplaceCommit_pkg : (doReplaceCommit s).pkg = s.pkg := by
  unfold doReplaceCommit
  split <;> simp
@[simp] theorem removeMember_pkg (m p : Nat) : (removeMember m p s).pkg = s.pkg := by simp [removeMember]

/-! #### SPDM sessions -/

@[simp] theorem setStageOf_pkg (p : Port) (n : Nat) : (setStageOf p n s).pkg = s.pkg := by
  cases p <;> rfl
@[simp] theorem doKeyExchange_pkg (m : SpdmMsg) (chainKey : Option Nat) : (doKeyExchange m chainKey s).pkg = s.pkg := by
  unfold doKeyExchange
  split
  · simp
  · split
    · simp
    · split <;> simp
@[simp] theorem endSpdm_pkg (n : Nat) : (endSpdm n s).pkg = s.pkg := by simp [endSpdm]
@[simp] theorem endAllSpdm_pkg : (endAllSpdm s).pkg = s.pkg := by simp [endAllSpdm]
@[simp] theorem setSpdm_pkg (n : Nat) (x : SpdmSession) : (setSpdm n x s).pkg = s.pkg := by simp [setSpdm]

/-! #### Saved values, keys and the handover -/

@[simp] theorem storeImage_pkg (i : Image) : (storeImage i s).pkg = s.pkg := appendLog_pkg ..
@[simp] theorem doRestoreDefaults_pkg (c : Ctx) : (doRestoreDefaults c s).pkg = s.pkg := by simp [doRestoreDefaults]
@[simp] theorem logKey_pkg (c : Ctx) (slot : Nat) : (logKey c slot s).pkg = s.pkg := appendLog_pkg ..
@[simp] theorem doImageKey_pkg (c : Ctx) : (doImageKey c s).pkg = s.pkg := by simp [doImageKey]
@[simp] theorem doOwnerKey_pkg (c : Ctx) : (doOwnerKey c s).pkg = s.pkg := by simp [doOwnerKey]
@[simp] theorem doFmKey_pkg (c : Ctx) : (doFmKey c s).pkg = s.pkg := by simp [doFmKey]
@[simp] theorem setKey_pkg (t st : Nat) : (setKey t st s).pkg = s.pkg := by simp [setKey]
@[simp] theorem logTenantKey_pkg (c : Ctx) (op t : Nat) : (logTenantKey c op t s).pkg = s.pkg := appendLog_pkg ..
@[simp] theorem doKeyCommand_pkg (c : Ctx) : (doKeyCommand c s).pkg = s.pkg := by simp [doKeyCommand]
@[simp] theorem doKeySwept_pkg (t : Nat) : (doKeySwept t s).pkg = s.pkg := by simp [doKeySwept]
@[simp] theorem doLogCheckpoint_pkg (c : Ctx) : (doLogCheckpoint c s).pkg = s.pkg := by simp [doLogCheckpoint]
@[simp] theorem logMeters_pkg : (logMeters s).pkg = s.pkg := appendLog_pkg ..
@[simp] theorem purgeKeys_pkg : (purgeKeys s).pkg = s.pkg := countKeys_pkg _
@[simp] theorem purgeKey_pkg (slot : Nat) : (purgeKey slot s).pkg = s.pkg := by simp [purgeKey]
@[simp] theorem purgeObjects_pkg : (purgeObjects s).pkg = s.pkg := by simp [purgeObjects]
@[simp] theorem purgeAll_pkg (body : Nat) : (purgeAll body s).pkg = s.pkg := by simp [purgeAll]
@[simp] theorem doHandover_pkg (c : Ctx) : (doHandover c s).pkg = s.pkg := by simp [doHandover]
@[simp] theorem doConditionReport_pkg : (doConditionReport s).pkg = s.pkg := by
  unfold doConditionReport
  split
  · exact appendLog_pkg ..
  · rfl

/-! #### Writes that only check -/

@[simp] theorem writePlain_pkg (c : Ctx) : (writePlain c s).pkg = s.pkg := by simp [writePlain]
@[simp] theorem doDomainObject_pkg (c : Ctx) : (doDomainObject c s).pkg = s.pkg := by simp [doDomainObject]
@[simp] theorem doMemberCount_pkg (c : Ctx) : (doMemberCount c s).pkg = s.pkg := by simp [doMemberCount]
@[simp] theorem doPackageNumber_pkg (c : Ctx) : (doPackageNumber c s).pkg = s.pkg := by simp [doPackageNumber]
@[simp] theorem doPackageRequester_pkg (c : Ctx) : (doPackageRequester c s).pkg = s.pkg := by simp [doPackageRequester]
@[simp] theorem doPowerLimit_pkg (c : Ctx) : (doPowerLimit c s).pkg = s.pkg := by simp [doPowerLimit]
@[simp] theorem doSleepTime_pkg (c : Ctx) : (doSleepTime c s).pkg = s.pkg := by simp [doSleepTime]
@[simp] theorem doUdpPort_pkg (c : Ctx) : (doUdpPort c s).pkg = s.pkg := by simp [doUdpPort]
@[simp] theorem doContextBase_pkg (c : Ctx) : (doContextBase c s).pkg = s.pkg := by simp [doContextBase]
@[simp] theorem doFaultQueue_pkg (c : Ctx) : (doFaultQueue c s).pkg = s.pkg := by simp [doFaultQueue]
@[simp] theorem doFormFree_pkg (c : Ctx) : (doFormFree c s).pkg = s.pkg := by simp [doFormFree]
@[simp] theorem doChangeFree_pkg (c : Ctx) : (doChangeFree c s).pkg = s.pkg := by simp [doChangeFree]
@[simp] theorem doClear_pkg (l : List (Nat × List Nat)) (c : Ctx) : (doClear l c s).pkg = s.pkg := by simp [doClear]

end

/-! ## STANDING and EXPELLED stay -/

/-- From `s` to `t`, STANDING stays or becomes EXPELLED, and EXPELLED stays (R17). -/
def StandingKept (s t : State) : Prop :=
  ((s.pkg = .standing ∨ s.pkg = .expelled) → (t.pkg = .standing ∨ t.pkg = .expelled)) ∧
    (s.pkg = .expelled → t.pkg = .expelled)

namespace StandingKept
variable {s t w : State}

theorem of_pkg (h : t.pkg = s.pkg) : StandingKept s t := by
  rw [StandingKept, h]
  exact ⟨id, id⟩

theorem of_expelled (h : t.pkg = .expelled) : StandingKept s t := ⟨fun _ => .inr h, fun _ => h⟩

/-- A package in another state has nothing to keep. -/
theorem of_elsewhere (h : s.pkg ≠ .standing) (h' : s.pkg ≠ .expelled) : StandingKept s t :=
  ⟨fun k => (k.elim h h').elim, fun k => (h' k).elim⟩

theorem trans (h : StandingKept s w) (k : StandingKept w t) : StandingKept s t := ⟨k.1 ∘ h.1, k.2 ∘ h.2⟩

theorem of_pkg_left (h : w.pkg = s.pkg) (k : StandingKept w t) : StandingKept s t := (of_pkg h).trans k

theorem of_pkg_right (k : StandingKept s w) (h : t.pkg = w.pkg) : StandingKept s t := k.trans (of_pkg h)

theorem of_serves (h : serving s ∨ selfTesting s) : StandingKept s t := by
  apply of_elsewhere <;>
  · intro e
    simp [serving, selfTesting, e] at h

theorem ite {p : Prop} [Decidable p] (h : StandingKept s w) (k : StandingKept s t) :
    StandingKept s (if p then w else t) := by
  split
  · exact h
  · exact k

theorem when {p : Prop} [Decidable p] (h : p → StandingKept s t) : StandingKept s (if p then t else s) := by
  split
  · exact h ‹_›
  · exact of_pkg rfl

theorem of_next (k : StandingKept s w) (e : (Host.Outcome.next w : Host.Outcome State Fault Refusal) = .next t) :
    StandingKept s t := by
  cases e
  exact k

theorem of_mayEnd {k : Nat} (h : mayEnd s k = true) : StandingKept s t := by
  simp only [mayEnd, Bool.and_eq_true] at h
  exact of_serves (.inr h.1.1)

/-- A check whose refusal leaves the package state. -/
theorem guard {p : Prop} [Decidable p] (h : w.pkg = s.pkg) (k : StandingKept s t) : StandingKept s (if p then w else t) :=
  ite (of_pkg h) k

end StandingKept

/-! ### The requests of the dictionary -/

section
variable {act : Ctx → State → State} (hact : ∀ w c, StandingKept w (act c w))
include hact

theorem readValue_kept (m : DapMsg) (c : Ctx) (r : ObjRow) (s : State) : StandingKept s (readValue m c r act s) := by
  unfold readValue
  exact .guard (by simp) (hact _ _)

theorem writeValue_kept (op : Nat) (m : DapMsg) (c : Ctx) (r : ObjRow) (s : State) :
    StandingKept s (writeValue op m c r act s) := by
  unfold writeValue
  dsimp only
  exact .guard (by simp) <| .guard (by simp) <| .guard (by simp) <| .guard (by simp) <| .guard (by simp) <|
    .guard (by simp) <| .guard (by simp) (hact _ _)

theorem writeSegment_kept (op : Nat) (m : DapMsg) (c : Ctx) (r : ObjRow) (s : State) :
    StandingKept s (writeSegment op m c r act s) := by
  unfold writeSegment
  dsimp only
  refine .guard (by simp) <| .guard (by simp) <| .guard (by simp) <| .guard (by simp) <| .guard (by simp) ?_
  split
  · exact .of_pkg (by simp)
  · exact .guard (by simp) <| .ite (.of_pkg_left (setStage_pkg ..) (hact _ _)) (.of_pkg (by simp))

theorem dapSteps_kept (op : Nat) (m : DapMsg) (k : SessKind) (s : State) : StandingKept s (dapSteps op m k act s) := by
  have hact' (w : State) (c : Ctx) : StandingKept w (if absentObject w c.index c.sub then finBad c w else act c w) :=
    .guard (by simp) (hact w c)
  unfold dapSteps
  dsimp only
  refine .guard (by simp) <| .guard (by simp) ?_
  split
  · exact .of_pkg (by simp)
  · refine .guard (by simp) <| .guard (by simp) ?_
    split
    · split <;> exact .of_pkg (by simp)
    · exact .ite (readValue_kept hact ..) <| .ite (hact ..) <| .ite (writeSegment_kept hact' ..) (writeValue_kept hact' ..)

/-- A request of the dictionary keeps STANDING and EXPELLED where the act that the checks lead to keeps them. -/
theorem dapServe_kept (op : Nat) (m : DapMsg) (s : State) : StandingKept s (dapServe op m act s) := by
  unfold dapServe
  refine .guard rfl <| .guard (by simp [restartReply]) ?_
  split
  · exact .of_pkg (by simp)
  · dsimp only
    refine .guard (by simp) <| .ite ?_ <|
      .ite (.of_pkg_left (setSession_pkg ..) (dapSteps_kept hact ..)) (.of_pkg (by simp))
    split <;> exact .of_pkg (by simp)

end

theorem dapServe_pkg_kept {act : Ctx → State → State} (hact : ∀ w c, (act c w).pkg = w.pkg) (op : Nat) (m : DapMsg)
    (s : State) :    StandingKept s (dapServe op m act s) :=
  dapServe_kept (fun w c => .of_pkg (hact w c)) op m s

/-! ### The operations that change the package state -/

theorem standingEntry_pkg (p : PkgState) (s : State) : (standingEntry p s).pkg = p := by simp [standingEntry]

theorem standing_kept (category cause unit die : Nat) (s : State) :
    StandingKept s (standing category cause unit die s) := by
  unfold standing
  split
  · exact .of_serves ‹_›
  · exact .of_pkg rfl

theorem expelPackage_kept (s : State) : StandingKept s (expelPackage s) := by
  unfold expelPackage
  split
  · exact .of_expelled (standingEntry_pkg ..)
  · exact .of_pkg rfl

theorem applied_kept {f : State → State} {s : State} (hf : StandingKept s (f s)) (c : Ctx) :
    StandingKept s (applied c f s) := by
  unfold applied
  exact .ite (.ite (hf.of_pkg_right (by simp)) (.of_pkg (by simp))) (hf.of_pkg_right (by simp))

theorem doEnterStanding_kept (s : State) (c : Ctx) : StandingKept s (doEnterStanding c s) := by
  unfold doEnterStanding
  exact .guard (by simp) (applied_kept (standing_kept ..) c)

theorem doDrainBegin_kept (s : State) (c : Ctx) : StandingKept s (doDrainBegin c s) := by
  unfold doDrainBegin
  split
  · exact .of_pkg (by simp)
  · rename_i h
    have hp : s.pkg = .ready := by simpa using (not_or.mp h).2
    exact .of_elsewhere (by simp [hp]) (by simp [hp])

theorem expel_kept (p : Nat) (s : State) : StandingKept s (expel p s) := by
  unfold expel
  split
  · exact expelPackage_kept s
  · split
    · split <;> exact .of_pkg (by simp)
    · exact .of_pkg (by simp)

theorem doExpelVote_kept (s : State) (c : Ctx) : StandingKept s (doExpelVote c s) := by
  unfold doExpelVote
  dsimp only
  exact .guard (by simp) <| .guard (by simp) <| .guard (by simp) <| .guard (by simp) <|
    .ite (.of_pkg_left (by simp) (expel_kept ..)) (.of_pkg (by simp))

theorem dieStops_kept {s : State} (h : undisturbed s = true) (die : Nat) : StandingKept s (dieStops die s) := by
  unfold dieStops
  split
  · exact .of_serves ‹_›
  · split
    · rename_i hd
      have hp : s.pkg = .fumaroleOnly := hd.resolve_right (by simp [h])
      exact .of_elsewhere (by simp [hp]) (by simp [hp])
    · exact .of_pkg rfl

theorem dieFault_kept {s : State} (h : undisturbed s = true) (die : Nat) : StandingKept s (dieFault die s) := by
  unfold dieFault
  dsimp only
  exact .guard rfl <| .ite (.guard (by simp) (standing_kept ..)) <| .guard (by simp) <| .guard (by simp) <|
    .ite (.ite (standing_kept ..) (.of_pkg (by simp))) <| .ite (dieStops_kept h die) (.of_pkg rfl)

theorem doWakeFailure_kept {s : State} (h : undisturbed s = true) (d : Nat) : StandingKept s (doWakeFailure d s) := by
  unfold doWakeFailure
  dsimp only
  refine .ite (.of_pkg_left (by simp) (dieFault_kept ?_ _)) (.of_pkg (by simp))
  simpa [undisturbed, raiseEvent_resetting] using h

/-- The write of an object with an action of its own leaves the package state, but for the three that can put the package in
STANDING, DRAINING or EXPELLED. -/
theorem ownWrite_cases {key : Nat} {f : Ctx → State → State} (h : ownWrite key = some f) :
    f = doEnterStanding ∨ f = doDrainBegin ∨ f = doExpelVote ∨ ∀ w c, (f c w).pkg = w.pkg := by
  unfold ownWrite at h
  split at h
  case h_54 => nomatch h
  all_goals
    obtain rfl := Option.some.inj h
    simp

theorem arrayWrite_pkg {index sub : Nat} {f : Ctx → State → State} (h : arrayWrite index sub = some f) (w : State)
    (c : Ctx) : (f c w).pkg = w.pkg := by
  unfold arrayWrite at h
  split_ifs at h <;> obtain rfl := Option.some.inj h <;> simp

theorem writeObj_kept (s : State) (c : Ctx) : StandingKept s (writeObj c s) := by
  unfold writeObj
  split
  · exact .of_pkg (arrayWrite_pkg ‹_› s c)
  · split
    · exact .of_pkg (by simp)
    · split
      · obtain rfl | rfl | rfl | hf := ownWrite_cases ‹_›
        · exact doEnterStanding_kept s c
        · exact doDrainBegin_kept s c
        · exact doExpelVote_kept s c
        · exact .of_pkg (hf s c)
      · exact .of_pkg (by simp)

/-- A write that clears counters changes no more than these. -/
theorem clearObj_kept {f : State → State} (hf : ∀ w, (f w).pkg = w.pkg) (d : DapMsg) (index sub : Nat) (s : State) :
    StandingKept s (clearObj d index sub f s) :=
  dapServe_pkg_kept (fun w c => by simp [hf]) ..

/-! ## Every command -/

/-- Where the command leaves the custody fields, the package state is one of them; the others go arm by arm. -/
theorem exec_keeps_standing {c : Instr} {s t : State} (e : exec c s = .next t) (h : undisturbed s = true)
    (hc : ∀ mv, c ≠ .inputLoss mv) : StandingKept s t := by
  cases hm : changesCustody c with
  | false => exact .of_pkg ((exec_keeps e).custody (by simp [leftBy, hm])).1
  | true =>
    cases c with
    | inputStable | rotVerifyDone | pkgResetNRelease | pkgResetTrigger | watchdogExpiry | spdmHeartbeatMissed
    | fwVerifyDone | fwAlive | fwHandoverTimeout | norFreeRelease => exact .of_next (.when fun _ => .of_pkg (by simp)) e
    | packageBusRegulated | mgmtCoreReady =>
      exact .of_next (.when fun g => .of_elsewhere (by simp [g.1]) (by simp [g.1])) e
    | inputLoss mv => exact absurd rfl (hc mv)
    | selftestStepEnd | selftestStepTimeout => exact .of_next (.when fun g => .of_mayEnd g) e
    | enterStanding => exact .of_next (dapServe_kept doEnterStanding_kept ..) e
    | pkgResetNAssert | meterPeriodEnd | meterSnapshot => exact .of_next (.guard rfl (.of_pkg (by simp))) e
    | pkgReset | dieRetest | linkRecal | domainChangeRebuild | domainChangeReplace | domainChangeLeave
    | domainForm | domainDissolve | declareAgentDead | agentReactivate | agentEntryWrite | dataSourceWrite
    | masterConfirmWrite | qpEntryWrite | restoreDefaults | fwStageData | fwVerify | fwHandover | imageKeyEnrol
    | imageKeyRevoke | ownerKeyEnrol | ownerKeyRevoke | fmKeyWrite | keyCreate | keyDestroy | handover
    | handoverReport | logCheckpoint | meterAck | trustModeWrite | regionEntryWrite | packageNumberWrite
    | domainFloorWrite | rawDieWrite | rawOffsetWrite | rawDataWrite | rawData64Write | rawGuardedWrite =>
      exact .of_next (dapServe_pkg_kept (by simp) ..) e
    | resetShutdownDone =>
      have hn : s.resetting.cause = none := by simpa [undisturbed] using h
      refine .of_next ?_ e
      rw [hn]
      exact .of_pkg rfl
    | refclkLoss => exact .of_next (.guard rfl (.ite (.of_pkg_left (by simp) (standing_kept ..)) (.of_pkg (by simp)))) e
    | thermalTrip => exact .of_next (.guard rfl (.of_pkg_left (by simp) (standing_kept ..))) e
    | wakeFailure => exact .of_next (.when fun _ => doWakeFailure_kept h _) e
    | dieFault => exact .of_next ((dieFault_kept h _).of_pkg_right (settleCommit_pkg _)) e
    | dieRetestDone | saveComplete =>
      refine .of_next ?_ e
      split <;> exact .of_pkg (by simp)
    | tileFailure | entryDrainFree | scrubPassEnd | rebuildFillDone | replaceCommit | keySweepDone
    | conditionReportSign => exact .of_next (.of_pkg (by simp)) e
    | expelVote => exact .of_next (dapServe_kept doExpelVote_kept ..) e
    | drainBegin => exact .of_next (dapServe_kept doDrainBegin_kept ..) e
    | generationTakeUp =>
      refine .of_next (.guard rfl <| .ite ?_ (.of_pkg (by simp))) e
      split <;> exact .of_pkg (by simp)
    | dapWrite | dapWriteGuarded | dictObjectWrite => exact .of_next (dapServe_kept writeObj_kept ..) e
    | spdmGetVersion | spdmGetCapabilities | spdmNegotiateAlgorithms | spdmKeyExchange =>
      exact .of_next (.of_pkg (atStage_pkg (by simp) ..)) e
    | spdmFinish => exact .of_next (.of_pkg (inSession_pkg (by simp) ..)) e
    | spdmKeyUpdate | spdmEndSession => exact .of_next (.of_pkg (inEstablished_pkg (by simp) ..)) e
    | arithCountersClear | attnCountersClear | tierCountersClear | streamCountersClear | oryxCountersClear
    | tableCountersClear | searchCountersClear | xltCountersClear | syncCountersClear | ethCountersClear
    | dictCountersClear | regCountersClear => exact .of_next (clearObj_kept (by simp) ..) e
    | _ => nomatch hm

/-- Settles O8: what changes the package state is guarded so that it does not start in STANDING or EXPELLED, but for an
expulsion, the end of a reset that is under way, and the loss of the input. -/
theorem standingLeftOnlyByReset : Obligations.StandingLeftOnlyByReset :=
  fun _ _ _ e h hc => exec_keeps_standing e h hc

end Sys2Proof.Machine

/-! # Requests that R41 refuses change nothing -/

namespace Sys2Proof.Machine

/-- What leaves every group changes nothing of them. -/
theorem Keeps.unchanged {s t : State} (h : Keeps ⟨true, true, true, true, true, true⟩ s t) : Unchanged s t :=
  ⟨h.custody rfl, h.memory rfl, h.sync rfl, h.config rfl, h.tables rfl, h.maps rfl⟩

section
variable {rq : Req} {c : Checks} {n charge : Nat} {s u : State}

/-- What a refusal is: the request is taken and charged, and completes with the first check that it fails; it is counted to its
composition unless step 1 or 2 refuses it, or its epoch is stale (R41, R409, R421). -/
theorem refused_cases (h : refused rq c n charge s = some u) :
    accepts s rq.hdr.via = true ∧ ∃ rq' w r, chargeC0 rq charge s = (rq', w) ∧ check rq' c w = some r ∧
      u = refuse rq' r (if (early rq' c w).isSome ∨ r.status = .epochStale then w else meterIn rq' n w) := by
  unfold refused at h
  dsimp only at h
  split at h
  case h_1 r hr =>
    rw [Option.ite_none_right_eq_some, Option.some.injEq] at h
    obtain ⟨ha, hu⟩ := h
    exact ⟨ha, _, _, r, rfl, hr, hu.symm⟩
  case h_2 => cases h

/-- A request that R41 refuses ends with its refusal, whatever its act is. -/
theorem serve_refused (act : Req → State → State) (h : refused rq c n charge s = some u) :
    serve rq c n charge act s = u := by
  obtain ⟨ha, rq', w, r, hc, hr, rfl⟩ := refused_cases h
  unfold serve
  rw [if_pos ha, hc]
  dsimp only
  rw [hr]

/-- A refusal charges, counts, wakes and answers (R409, R421, R26, R11), and does nothing else. -/
theorem refused_keeps {k : Left} (h : refused rq c n charge s = some u) : Keeps k s u := by
  obtain ⟨-, rq', w, r, hc, -, rfl⟩ := refused_cases h
  have hw : Keeps k s w := by
    have charged : Keeps k s (chargeC0 rq charge s).2 := keeps_chargeC0 _ _ _ (.refl s)
    rwa [hc] at charged
  apply keeps_refuse
  split
  · exact hw
  · exact keeps_meterIn _ _ _ hw

/-- A command that serves a request which R41 refuses completes with the refusal and changes nothing of the groups. -/
theorem refused_completes (act : Req → State → State) (h : refused rq c n charge s = some u) :
    (.next (serve rq c n charge act s) : Host.Outcome State Fault Refusal) = .next u ∧ Unchanged s u :=
  ⟨congrArg _ (serve_refused act h), (refused_keeps h).unchanged⟩

/-- The same of a command after which a domain that is being dissolved may be ALONE (R322). -/
theorem refused_completes_settled (act : Req → State → State) (h : refused rq c n charge s = some u) :
    (.next (settleDissolve (serve rq c n charge act s)) : Host.Outcome State Fault Refusal) = .next (settleDissolve u) ∧
      Unchanged s (settleDissolve u) :=
  ⟨by rw [serve_refused act h], (keeps_settleDissolve _ (refused_keeps h)).unchanged⟩

end

/-- A command of Oryx that R41 refuses completes with the refusal: the codes of its operation are looked at only
afterwards (R246). -/
theorem serveOryx_refused {op : Nat} {bad : Nat → Bool} {act : Req → State → State} {h : Hdr} {body : Nat} {s u : State}
    (hr : refused (linkReq 0x11 h body) (postedChecks (orBad body) none false false [homeDom (orTable body % 8)]) 64 64 s =
      some u) : serveOryx op bad h body act s = u :=
  serve_refused _ hr

/-- Settles O54: each of these commands serves its request with an act of its own, which R41's refusal keeps from being
performed. -/
theorem requestsRefused : Obligations.RequestsRefused := fun _ _ _ _ _ =>
  ⟨refused_completes startRead, refused_completes orderedStart, refused_completes doWrite, refused_completes orderedStart,
    refused_completes startAtomic, refused_completes orderedStart, refused_completes doDoorbell, refused_completes doFlush,
    refused_completes doProbe,
    refused_completes doSyncAdd, refused_completes doSyncSet, refused_completes doSyncClaim,
    refused_completes doSyncRelease, refused_completes doSyncCancel, refused_completes doWait,
    refused_completes _, refused_completes _, refused_completes _,
    refused_completes_settled _, refused_completes_settled _,
    refused_completes doComposeSetEntry, refused_completes doComposeRemoveEntry, refused_completes doComposeAdvance,
    refused_completes doOwner,
    refused_completes doRegister, refused_completes doRetire, refused_completes doLoad, refused_completes doUnbind,
    refused_completes doInvoke,
    refused_completes doInstall, refused_completes doSlotRetire,
    refused_completes doArenaActivate, refused_completes doArenaDeactivate, refused_completes doDiscard,
    fun hr => ⟨congrArg _ (serveOryx_refused hr), congrArg _ (serveOryx_refused hr), congrArg _ (serveOryx_refused hr),
      congrArg _ (serveOryx_refused hr), congrArg _ (serveOryx_refused hr), congrArg _ (serveOryx_refused hr),
      congrArg _ (serveOryx_refused hr), congrArg _ (serveOryx_refused hr), (refused_keeps hr).unchanged⟩,
    refused_completes doDma⟩

end Sys2Proof.Machine

/-! # When a write of package_number is refused -/

namespace Sys2Proof.Machine

/-! ## A request of the dictionary leaves the objects until its act -/

section
variable (s : State) (index sub : Nat)

@[simp] theorem obj_setSession (p : Port) (id : Nat) (x : Session) : obj (setSession p id x s) index sub = obj s index sub := by
  cases p <;> rfl

@[simp] theorem obj_setStage (p : Port) (id : Nat) (x : Option (Nat × Nat × Nat × Nat)) :
    obj (setStage p id x s) index sub = obj s index sub := by
  unfold setStage
  split
  · exact obj_setSession ..
  · rfl

@[simp] theorem obj_dapTaken (op : Nat) (m : DapMsg) (x : Session) : obj (dapTaken op m x s) index sub = obj s index sub :=
  obj_setSession ..

@[simp] theorem obj_ethOut (priority : Nat) (o : Out) : obj (ethOut priority o s) index sub = obj s index sub := by
  unfold ethOut
  split <;> rfl

@[simp] theorem obj_dapReply (p : Port) (id : Nat) (r : DapReply) : obj (dapReply p id r s) index sub = obj s index sub := by
  unfold dapReply
  cases session s p id with
  | none =>
    cases p with
    | i3c => rfl
    | eth => exact obj_ethOut ..
  | some x =>
    cases p with
    | i3c => rfl
    | eth => exact (obj_ethOut ..).trans (obj_setSession ..)

@[simp] theorem obj_fin (c : Ctx) (st : Status) (hint : Nat) : obj (fin c st hint s) index sub = obj s index sub := by
  unfold fin dapFinish
  split
  · rfl
  · split
    · rfl
    · exact obj_dapReply ..

end

/-- A request of the dictionary is performed in the state in which its session has taken it, with its staged segments gone
where it writes a DOMAIN (R457, R467). -/
theorem dapAdmitted_state {op : Nat} {m : DapMsg} {s t : State} {c : Ctx} (h : dapAdmitted op m s = some (c, t)) :
    ∃ x, t = dapTaken op m x s ∨ t = setStage m.port m.session none (dapTaken op m x s) := by
  unfold dapAdmitted at h
  split at h
  case h_1 x _ _ _ =>
    refine ⟨x, ?_⟩
    dsimp only at h
    rw [Option.ite_none_right_eq_some] at h
    obtain ⟨-, h⟩ := h
    split at h
    · rw [Option.ite_none_right_eq_some] at h
      obtain ⟨-, h⟩ := h
      cases h
      exact .inl rfl
    · split at h
      · cases h
        exact .inl rfl
      · rw [Option.ite_none_left_eq_some] at h
        obtain ⟨-, h⟩ := h
        split at h
        all_goals
          rw [Option.map_eq_some_iff] at h
          obtain ⟨_, -, h⟩ := h
          cases h
        · exact .inr rfl
        · exact .inl rfl
  case h_2 => cases h

theorem dapAdmitted_obj {op : Nat} {m : DapMsg} {s t : State} {c : Ctx} (h : dapAdmitted op m s = some (c, t))
    (index sub : Nat) : obj t index sub = obj s index sub := by
  obtain ⟨x, rfl | rfl⟩ := dapAdmitted_state h <;> simp

/-- A write of package_number that the dictionary lets through is performed by `doPackageNumber`. -/
theorem exec_packageNumberWrite {m : DapMsg} {s t : State} {c : Ctx}
    (h : dapAdmitted dapGuarded (toObj m 0x1021 1) s = some (c, t)) :
    exec (.packageNumberWrite m) s = .next (doPackageNumber c t) :=
  congrArg _ (dapServe_admitted h)

theorem doPackageNumber_serving {c : Ctx} {s : State} (h : s.pkg = .ready ∨ s.pkg = .draining) :
    doPackageNumber c s = fin c .defer 0 s :=
  if_pos h

theorem doPackageNumber_reserved {c : Ctx} {s : State} (hr : s.pkg ≠ .ready) (hd : s.pkg ≠ .draining)
    (hb : bits c.value 15 12 ≠ 0) : doPackageNumber c s = fin c .unsupported 0 s :=
  (if_neg (not_or.mpr ⟨hr, hd⟩)).trans (if_pos hb)

/-- Settles O57: the write ends with its refusal, and neither the request's session nor its answer touches an object. -/
theorem packageNumberRefused : Obligations.PackageNumberRefused := by
  intro m s t c h
  have left (st : Status) : obj (fin c st 0 t) 0x1021 1 = obj s 0x1021 1 := (obj_fin ..).trans (dapAdmitted_obj h ..)
  rw [exec_packageNumberWrite h]
  refine ⟨fun hp => ⟨?_, left .defer⟩, fun hr hd hb => ⟨?_, left .unsupported⟩⟩
  · rw [doPackageNumber_serving hp]
  · rw [doPackageNumber_reserved hr hd hb]

end Sys2Proof.Machine

/-! # The commands that clear counters -/

namespace Sys2Proof.Machine

/-- A write of 1 to a command object that clears counters clears them and answers OK. -/
theorem clearObj_admitted {m : DapMsg} {index sub : Nat} {s t : State} {c : Ctx} (f : State → State)
    (h : dapAdmitted dapWrite (toObj m index sub) s = some (c, t)) (hv : c.value = 1) :
    clearObj m index sub f s = finOk c (f t) := by
  obtain ⟨hop, -⟩ := dapAdmitted_ctx h
  have unguarded : c.op ≠ dapGuarded := by rw [hop]; decide
  calc clearObj m index sub f s
      = clearing c f t := dapServe_admitted h
    _ = applied c f t := if_pos hv
    _ = finOk c (f t) := if_neg unguarded

/-- Settles O49: each of these commands is a write of 1 to its own object, with the counters that its rule names. -/
theorem countersCleared : Obligations.CountersCleared := by
  intro m s t c hv
  have cleared {index sub : Nat} (f : State → State) (h : dapAdmitted dapWrite (toObj m index sub) s = some (c, t)) :
      (.next (clearObj m index sub f s) : Host.Outcome State Fault Refusal) = .next (finOk c (f t)) :=
    congrArg _ (clearObj_admitted f h hv)
  refine ⟨cleared _, cleared _, cleared _, cleared _, cleared _, cleared _, cleared _, cleared _, cleared _,
    fun h lo hi => ?_, cleared _, cleared _⟩
  have slot : (if 0x8100 ≤ m.index ∧ m.index ≤ 0x84FF then m.index else 0x8100) = m.index := if_pos ⟨lo, hi⟩
  change Host.Outcome.next (clearObj m _ 8 (clearObjs _ [4, 5, 7]) s) = _
  rw [slot]
  exact cleared _ h

end Sys2Proof.Machine

/-! # Register commands -/

namespace Sys2Proof.Machine

/-! ## The decoder's writes (R478, R483) -/

section
variable {die off : Nat} {s : State}

/-- A write to pages 0x1 to 0xF while no guarded write is held is unarmed at a port, held at a guarded register, and performed
anywhere else. -/
theorem blockWrite_unheld (v : Nat) (hp : pagesServe s die = true) (hg : (block s die).guard = none)
    (ha : 4096 ≤ decodeOff off) :
    blockWrite die off v s =
      if isPort die (decodeOff off) then discard die 3 s
      else if isGuarded die (decodeOff off) then
        setBlock die (fun b => { b with guard := some (lowerOf (decodeOff off), v % 2 ^ 32) }) s
      else performWrite die (decodeOff off) (v % 2 ^ 32) s := by
  simp [blockWrite, hp, hg, Nat.not_lt.mpr ha]

/-- Nothing holds back a write to a location that is neither guarded nor a port. -/
theorem blockWrite_open (v : Nat) (hp : pagesServe s die = true) (hg : (block s die).guard = none)
    (ha : 4096 ≤ decodeOff off) (hport : isPort die (decodeOff off) = false)
    (hguarded : isGuarded die (decodeOff off) = false) :
    blockWrite die off v s = performWrite die (decodeOff off) (v % 2 ^ 32) s := by
  rw [blockWrite_unheld v hp hg ha, hport, hguarded, if_neg Bool.false_ne_true, if_neg Bool.false_ne_true]

/-- A write to the port of the register whose write is held applies it with its complement, and discards it with another
value. -/
theorem blockWrite_port_held (v : Nat) {g w : Nat} (hp : pagesServe s die = true)
    (hg : (block s die).guard = some (g, w)) (ha : 4096 ≤ decodeOff off) (hport : isPort die (decodeOff off) = true)
    (hlow : lowerOf (decodeOff off) = g) :
    blockWrite die off v s =
      if v % 2 ^ 32 = notWord w ∧ guardedTakes g w then
        applyGuarded die g w (setBlock die (fun b => { b with guard := none }) s)
      else discard die 1 s := by
  simp [blockWrite, hp, hg, hport, hlow, Nat.not_lt.mpr ha]

/-- A write to page 0x0 passes by the guard. -/
theorem blockWrite_pageZero (v : Nat) (hb : hasBlock die = true) (hd : diePresent s die = true) (hp : s.pkg ≠ .off)
    (ha : decodeOff off < 4096) : blockWrite die off v s = performWrite die (decodeOff off) (v % 2 ^ 32) s := by
  simp [blockWrite, ha, hb, hd, hp]

/-- A block's change depends on the block as it stands alone. -/
theorem setBlock_congr {f g : Block → Block} (h : f (block s die) = g (block s die)) :
    setBlock die f s = setBlock die g s := by
  rw [setBlock, setBlock, h]

end

section
variable {die a : Nat} (v : Nat) (s : State)

theorem performWrite_unit (ha : 4096 ≤ a) (h : inPair die (lowerOf a) = false) :
    performWrite die a v s = writeUnit die a v s := by
  simp [performWrite, Nat.not_lt.mpr ha, h]

/-- The low word of a pair loads the write shadow (R482, log entry 20). -/
theorem performWrite_lo (ha : 4096 ≤ a) (h : isLo die (lowerOf a) = true) :
    performWrite die a v s = setBlock die (fun b => { b with writeShadow := some (lowerOf a, v) }) s := by
  simp [performWrite, writePair, inPair, Nat.not_lt.mpr ha, h]

/-- The high word takes the shadow of its own low word away. -/
theorem performWrite_hi {s : State} {w : Nat} (ha : 4096 ≤ a) (hlo : isLo die (lowerOf a) = false) (h4 : 4 ≤ lowerOf a)
    (hpair : isLo die (lowerOf a - 4) = true) (hs : (block s die).writeShadow = some (lowerOf a - 4, w)) :
    performWrite die a v s = setBlock die (fun b => { b with writeShadow := none }) s := by
  have own : lowerOf a - 4 + 4 = lowerOf a := Nat.sub_add_cancel h4
  rw [performWrite, if_neg (Nat.not_lt.mpr ha)]
  simp only [inPair, hlo, h4, hpair, decide_true, Bool.and_self, Bool.or_true, if_true, writePair, Bool.false_eq_true, if_false]
  exact setBlock_congr (by simp only [hs, own, if_true])

end

/-! ## Registers of single units -/

/-- The acknowledgement word of a mailbox decodes to itself. -/
theorem decodeOff_mbxAck {m : Nat} (hm : m < 16) : decodeOff (0x800 + 64 * m) = 0x800 + 64 * m := by
  decide +revert

/-- In page 0x0 the low words are those of the mailboxes' heads (R492). -/
theorem isLo_pageZero (die : Nat) {a : Nat} (h : a < 4096) :
    isLo die a = (decide (0x400 ≤ a ∧ a < 0x800) && a % 64 == 0) := by
  obtain ⟨h2000, h3008, h4008, h5000⟩ : a ≠ 0x2000 ∧ a ≠ 0x3008 ∧ a ≠ 0x4008 ∧ a ≠ 0x5000 := by omega
  simp [isLo, beq_false_of_ne h2000, beq_false_of_ne h3008, beq_false_of_ne h4008, beq_false_of_ne h5000]

/-- The acknowledgement words belong to no pair. -/
theorem inPair_mbxAck (die : Nat) {m : Nat} (hm : m < 16) : inPair die (0x800 + 64 * m) = false := by
  have above : isLo die (0x800 + 64 * m) = false := by
    rw [isLo_pageZero die (by omega), decide_eq_false (by omega), Bool.false_and]
  have between : isLo die (0x800 + 64 * m - 4) = false := by
    rw [isLo_pageZero die (by omega), beq_false_of_ne (by omega), Bool.and_false]
  rw [inPair, above, between, Bool.and_false, Bool.or_false]

theorem performWrite_mbxAck {die m : Nat} (v : Nat) (s : State) (hm : m < 16) :
    performWrite die (0x800 + 64 * m) v s = (mbxAck die m v s).2 := by
  have page : 0x800 + 64 * m < 4096 := by omega
  have number : (0x800 + 64 * m) / 64 % 16 = m := by omega
  have word : (0x800 + 64 * m) % 64 = 0 := by omega
  have area : 0x800 ≤ 0x800 + 64 * m ∧ 0x800 + 64 * m < 0xC00 := by omega
  simp only [performWrite, if_pos page, inPair_mbxAck die hm, Bool.false_eq_true, if_false, writeUnit, if_pos area, number,
    word]

/-- An acknowledgement of the head takes its notice (R496). -/
theorem mbxAck_head {die m v : Nat} {s : State} (hv : v % 65536 = (box s die m).headSeq)
    (hn : (box s die m).notices.isEmpty = false) (hq : boundQp s die m = none) :
    mbxAck die m v s = (true, popNotice die m s) := by
  simp [mbxAck, hv, hn, hq]

/-- The tile selector takes eight bits (R87, R90). -/
theorem performWrite_tileSel {die : Nat} (v : Nat) (s : State) (lo : 8 ≤ die) (hi : die < 16) :
    performWrite die 0x3000 v s = setReg die 0x3000 (v % 256) s := by
  have low : lowerOf 0x3000 = 0x3000 := by decide
  have single : inPair die 0x3000 = false := by simp [inPair, isLo]
  rw [performWrite_unit v s (by decide) (low ▸ single)]
  simp [writeUnit, low, lo, hi]

/-- The directory probe takes seventeen bits (R352). -/
theorem performWrite_dirProbe {die : Nat} (v : Nat) (s : State) (h : die < 8) :
    performWrite die 0x4000 v s = setReg die 0x4000 (v % 2 ^ 17) s := by
  have low : lowerOf 0x4000 = 0x4000 := by decide
  have single : inPair die 0x4000 = false := by simp [inPair, isLo]
  rw [performWrite_unit v s (by decide) (low ▸ single)]
  simp [writeUnit, low, h]

/-! ## Reads by the management core (R481) -/

section
variable {die off : Nat} {s : State}

theorem firmwareRead_serves (hp : pagesServe s die = true) (hs : s.pkg ≠ .off) :
    firmwareRead die off s = emit (.regRead die off (readWord die off s).1) (readWord die off s).2 := by
  have here := hp
  simp only [pagesServe, Bool.and_eq_true] at here
  obtain ⟨⟨hb, hd⟩, -⟩ := here
  simp [firmwareRead, hb, hd, hs, hp]

/-- The low word answers what is live, and latches the high one. -/
theorem readWord_lo (ha : 4096 ≤ decodeOff off) (hlo : isLo die (lowerOf (decodeOff off)) = true) :
    readWord die off s = (liveWord s die (decodeOff off), setBlock die (fun b => { b with
      readShadow := some (lowerOf (decodeOff off), liveWord s die (lowerOf (decodeOff off) + 4)) }) s) := by
  simp [readWord, Nat.not_lt.mpr ha, hlo]

/-- The high word answers what its low word latched. -/
theorem readWord_hi {w : Nat} (ha : 4096 ≤ decodeOff off) (hlo : isLo die (lowerOf (decodeOff off)) = false)
    (h4 : 4 ≤ lowerOf (decodeOff off)) (hpair : isLo die (lowerOf (decodeOff off) - 4) = true)
    (hs : (block s die).readShadow = some (lowerOf (decodeOff off) - 4, w)) :
    readWord die off s = (w, setBlock die (fun b => { b with readShadow := none }) s) := by
  simp [readWord, Nat.not_lt.mpr ha, hlo, h4, hpair, hs]

end

/-- A read of a head slot answers what it holds (R497). -/
theorem startRead_page {rq : Req} {s : State} {v : Nat} (hl : rq.hdr.length ≠ 0) (hp : pageBase ≤ rq.hdr.offset)
    (hv : pageRead s rq.hdr.offset = some v) : startRead rq s = completeWith rq .ok 0 0 1 v none s := by
  simp only [startRead, if_neg (show 64 * rq.hdr.length ≠ 0 by omega), if_pos hp, hv]

/-- The walk of a die whose configuration changed ends with its code, and no judgement (R487). -/
theorem doWalkEnd_pending {die : Nat} {s : State} (hw : (block s die).walking = true) (hp : pagesServe s die = true)
    (hc : (block s die).check = .pending) :
    doWalkEnd die s = settleCommit (setBlock die (fun b =>
      { b with walking := false, crc := cfgCrc s die, walks := (b.walks + 1) % 65536 }) s) := by
  simp [doWalkEnd, hw, hp, hc]

/-- Settles O50: an access to a serving block by what its location is, and the commands of single units. That a word of a pair
goes to the write shadow while the registers keep their values is the model's deduction (log entry 20). -/
theorem registerCommandsComplete : Obligations.RegisterCommandsComplete := by
  refine ⟨?writes, ?port, ?timeout, ?ack, ?units, ?reads, ?head, ?start, ?stop, ?overdue⟩
  case writes =>
    intro die off v s hp hg a low ha
    refine ⟨fun hport hguarded hpair => ?_, fun hport hguarded => ?_, fun hport => ?_, fun hport hguarded hlo => ?_,
      fun w hport hguarded hlo h4 hpair hs => ?_⟩
    · exact congrArg _ ((blockWrite_open v hp hg ha hport hguarded).trans (performWrite_unit _ s ha hpair))
    · exact congrArg _ ((blockWrite_unheld v hp hg ha).trans (by rw [if_neg (by simp [a, hport]), if_pos hguarded]))
    · exact congrArg _ ((blockWrite_unheld v hp hg ha).trans (if_pos hport))
    · exact congrArg _ ((blockWrite_open v hp hg ha hport hguarded).trans (performWrite_lo _ s ha hlo))
    · exact congrArg _ ((blockWrite_open v hp hg ha hport hguarded).trans (performWrite_hi _ ha hlo h4 hpair hs))
  case port =>
    intro die off v g w s hp hg ha hport hlow
    have held := blockWrite_port_held v hp hg ha hport hlow
    exact ⟨fun hv ht => congrArg _ (held.trans (if_pos ⟨hv, ht⟩)),
      fun hv => congrArg _ (held.trans (if_neg fun h => hv h.1))⟩
  case timeout => exact fun die s h => congrArg _ (if_pos h)
  case ack =>
    intro die m v s hm hb hd hpkg hv hlt hn hq
    have at_ := decodeOff_mbxAck hm
    have seq : v % 2 ^ 32 % 65536 = (box s die m).headSeq := by omega
    refine congrArg _ ((blockWrite_pageZero v hb hd hpkg (by rw [at_]; omega)).trans ?_)
    rw [at_, performWrite_mbxAck _ s hm, mbxAck_head seq hn hq]
  case units =>
    intro die v s hp hg hv
    have whole : v % 2 ^ 32 = v := Nat.mod_eq_of_lt hv
    have sel : decodeOff 0x3000 = 0x3000 := by decide
    have probe : decodeOff 0x4000 = 0x4000 := by decide
    refine ⟨fun lo hi => congrArg Host.Outcome.next ?_, fun h => congrArg Host.Outcome.next ?_⟩
    · rw [blockWrite_open v hp hg (by rw [sel]; decide) (by simp [sel, isPort, isUpper, bit]) (by simp [sel, isGuarded]),
        whole, sel, performWrite_tileSel v s lo hi]
    · rw [blockWrite_open v hp hg (by rw [probe]; decide) (by simp [probe, isPort, isUpper, bit])
        (by simp [probe, isGuarded]), whole, probe, performWrite_dirProbe v s h]
  case reads =>
    intro die off s hp hs ha a low
    have read := firmwareRead_serves (off := off) hp hs
    refine ⟨fun hlo => congrArg Host.Outcome.next ?_, fun w hlo h4 hpair hw => congrArg Host.Outcome.next ?_⟩
    · rw [read, readWord_lo ha hlo]
    · rw [read, readWord_hi ha hlo h4 hpair hw]
  case head =>
    intro h v s t rq hr hl hp hv
    have hdr : rq.hdr = h := by rw [admitted_req hr]; rfl
    subst hdr
    refine congrArg _ ((if_pos hp).trans ?_)
    exact (serve_admitted hr).trans (startRead_page hl hp hv)
  case start => exact fun die s hp hw => congrArg _ (if_pos ⟨hp, hw⟩)
  case stop => exact fun die s hw hp hc => congrArg _ (doWalkEnd_pending hw hp hc)
  case overdue => exact fun die s hc ho => congrArg _ (if_pos ⟨hc, by simp [ho]⟩)

end Sys2Proof.Machine

/-! # The steps of a tile -/

namespace Sys2Proof.Machine

/-! ## A tile's record -/

@[simp] theorem tgetD_tset_self {α : Type} (l : Tab α) (k : Nat) (v d : α) : tgetD (tset l k v) k d = v := by
  rw [tgetD, tget_tset_self, Option.getD_some]

theorem tgetD_tset_of_ne {α : Type} (l : Tab α) (v d : α) {k j : Nat} (h : k ≠ j) :
    tgetD (tset l k v) j d = tgetD l j d := by
  rw [tgetD, tget_tset_of_ne l v h, tgetD]

@[simp] theorem tile_setTile_self (t : Nat) (x : Tile) (s : State) : tile (setTile t x s) t = x := tgetD_tset_self ..

/-- A tile's access carries the tenant and the context of its cluster's handle, and is as it was otherwise (R109, R293). -/
theorem ownAccess_eq (s : State) (a : EngineAccess) :
    ∃ tenant context, ownAccess s a = { a with tenant := tenant, context := context } := by
  unfold ownAccess
  split
  · split
    · split
      · exact ⟨_, _, rfl⟩
      · exact ⟨_, _, rfl⟩
    · exact ⟨_, _, rfl⟩
  · exact ⟨_, _, rfl⟩

theorem unitOf_asKind_ownAccess (k : AccessKind) (s : State) (a : EngineAccess) :
    unitOf (asKind k (ownAccess s a)) = unitOf a := by
  obtain ⟨_, _, h⟩ := ownAccess_eq s a
  rw [h]
  rfl

theorem bytes_asKind_ownAccess (k : AccessKind) (s : State) (a : EngineAccess) :
    (asKind k (ownAccess s a)).bytes = a.bytes := by
  obtain ⟨_, _, h⟩ := ownAccess_eq s a
  rw [h]
  rfl

/-! ## A step that issues at once (R50) -/

section
variable {t : Nat} {s : State}

theorem tileActive_of_issues (h : tileIssues s t = true) : tileActive s t = true := by
  simp only [tileIssues, Bool.and_eq_true] at h
  obtain ⟨⟨⟨active, -⟩, -⟩, -⟩ := h
  exact active

/-- A step that a tile's sequencer comes to, stalled before none, is done at once where it issues. -/
theorem tileStep_issues {op : SeqOp} {u : State} (hi : tileIssues s t = true) (hh : (tile s t).held = [])
    (h : tryStep t op s = (true, u)) : tileStep t op s = setTile t { tile u t with held := [] } u := by
  simp [tileStep, tileActive_of_issues hi, hh, runSteps, h]

theorem tryStep_unit {u : UnitStep} {f : Feed} (hi : tileIssues s t = true) (hr : unitReady s t u f = true) :
    tryStep t (.unit u f) s = (true, unitStep t u f s) := by
  simp [tryStep, hi, hr]

theorem tryStep_load {a : EngineAccess} {r : Remote} (hi : tileIssues s t = true) (hf : loadFree s a = true) :
    tryStep t (.load a r) s = (true, issueLoad a 0 r s) := by
  simp [tryStep, hi, hf]

theorem tryStep_atomic {a : EngineAccess} {body : Nat} {r : Remote} (hi : tileIssues s t = true)
    (hf : loadFree s a = true) : tryStep t (.atomic a body r) s = (true, issueLoad a body r s) := by
  simp [tryStep, hi, hf]

theorem tryStep_store {a : EngineAccess} {f : Feed} {ack : Status} {v : Nat} {bad : Bool} (hi : tileIssues s t = true)
    (hf : accessFree s a = true) (ho : operand t 6 f s = .data v bad) :
    tryStep t (.store a f ack) s = (true, issueStore a f ack s) := by
  simp [tryStep, hi, hf, ho]

/-! Steps that order after a tile's earlier accesses, when none is out (R356, R374). -/

theorem tryStep_release {a : EngineAccess} {f : Feed} {ack : Status} {v : Nat} {bad : Bool} (hi : tileIssues s t = true)
    (hq : pendingOf s t = []) (ho : operand t 6 f s = .data v bad) :
    tryStep t (.release a f ack) s = (true, issueStore a f ack s) := by
  simp [tryStep, hi, hq, ho]

theorem tryStep_fence (hi : tileIssues s t = true) (hq : pendingOf s t = []) :
    tryStep t .fence s = (true, setTile t { tile s t with acquired := s.freeCtr } s) := by
  simp [tryStep, hi, hq]

theorem tryStep_signal {n operand : Nat} (hi : tileIssues s t = true) (hq : pendingOf s t = [])
    (ha : awake s (homeDom (n % 8)) = true) :
    tryStep t (.signal n operand) s = (true, tileSignalNow t n operand s) := by
  simp [tryStep, hi, hq, ha]

theorem tryStep_wait {n cond target : Nat} (hi : tileIssues s t = true) (hq : pendingOf s t = [])
    (ha : awake s (homeDom (n % 8)) = true) :
    tryStep t (.wait n cond target) s = tileWaitNow t n cond target s := by
  simp [tryStep, hi, hq, ha]

/-- The tile of an access comes to it. -/
theorem tileAccess_issues {a : EngineAccess} {op : EngineAccess → SeqOp} {u : State} (ht : isTile a = true)
    (hi : tileIssues s (unitOf a) = true) (hh : (tile s (unitOf a)).held = [])
    (h : tryStep (unitOf a) (op (ownAccess s a)) s = (true, u)) :
    tileAccess a op s = setTile (unitOf a) { tile u (unitOf a) with held := [] } u :=
  (if_pos ht).trans (tileStep_issues hi hh h)

/-- A store is issued with the data at the store queue, which is then free (R49). -/
theorem issueStore_data {a : EngineAccess} {f : Feed} {v n : Nat} (ack : Status) (ht : unitOf a = t) (hn : a.bytes = n)
    (ho : operand t 6 f s = .data v false) :
    issueStore a f ack s = issue ⟨{ a with data := v % 2 ^ (8 * n) }, 0, 0, false⟩ (some ⟨ack, 0⟩)
      (setTile t { tile s t with latches := terase (tile s t).latches 6 } s) := by
  subst ht hn
  simp [issueStore, ho]

/-! ## SIGNAL and WAIT on an object of the tile's tenant (R374) -/

theorem tileSignalNow_own {n operand ten : Nat} (ht : tileTenant s t = some ten) (ho : (syncObj s n).owner = some ten) :
    tileSignalNow t n operand s =
      applySignal n (((syncObj s n).value + operand) % 2 ^ 64) (some ten) operand ⟨0, ten, 2, t⟩ s := by
  simp [tileSignalNow, ht, ho]

theorem tileWaitNow_holds {n cond target ten : Nat} (ht : tileTenant s t = some ten)
    (ho : (syncObj s n).owner = some ten) (hc : condHolds cond (syncObj s n).value target = true) :
    tileWaitNow t n cond target s = (true, setTile t { tile s t with acquired := s.freeCtr } s) := by
  simp [tileWaitNow, ht, ho, hc]

theorem tileWaitNow_registers {n cond target ten : Nat} (ht : tileTenant s t = some ten)
    (ho : (syncObj s n).owner = some ten) (hc : condHolds cond (syncObj s n).value target = false)
    (hw : (syncObj s n).waiters.length < 64) :
    tileWaitNow t n cond target s = (true,
      let w := bump 0x6020 0xA 1 (setSync n { syncObj s n with
        waiters := (syncObj s n).waiters ++ [⟨.tile t, cond, target, s.time⟩] } s)
      setTile t { tile w t with waiting := some n } w) := by
  simp [tileWaitNow, ht, ho, hc, Nat.not_le.mpr hw]

/-! ## The oldest load's data is presented (R50, R82) -/

theorem presentLoad_back {l : TileLoad} {ls : List TileLoad} {v : Nat} (hl : (tile s t).loads = l :: ls)
    (hv : l.data = some v) (hb : l.bad = false) (hs : sinksFree s t 2 = true) :
    presentLoad t s = deliver t 2 v false (setTile t { tile s t with loads := ls } s) := by
  simp [presentLoad, hl, hv, hb, hs]

@[simp] theorem deliver_held (t i v : Nat) (bad : Bool) (s : State) :
    (tile (deliver t i v bad s) t).held = (tile s t).held := by
  unfold deliver
  split
  · rw [tile_setTile_self]
  · rfl

theorem settleTile_unstalled (h : (tile s t).held = []) : settleTile t s = setTile t { tile s t with held := [] } s := by
  rw [settleTile, h, runSteps]

end

/-! ## An access of this package's near memory (R195) -/

/-- An access to this package, near and at awake homes, that no agent has to be asked for, is performed. -/
theorem accessHere_ready {i : Issued} {address off : Nat} {s : State} (ha : address % 2 ^ 48 = off)
    (hk : i.access.kind ≠ .atomic) (hr : homeReady s off i.access.bytes = true)
    (hd : poisonDead (linesOf off i.access.bytes) s = s)
    (hs : isLoad i.access.kind = true → readSnoops s (linesOf off i.access.bytes) = []) :
    accessHere i address s = performHere i off [] s := by
  simp only [homeReady, Bool.and_eq_true, Bool.not_eq_true', decide_eq_true_eq, Option.isNone_iff_eq_none,
    List.isEmpty_iff] at hr
  obtain ⟨⟨⟨⟨inside, fits⟩, below⟩, awake⟩, near⟩ := hr
  have alone : (if isLoad i.access.kind then readSnoops s (linesOf off i.access.bytes) else []) = [] := ite_eq_right_iff.mpr hs
  rw [accessHere, ha]
  simp only [hk, inside, Nat.not_lt.mpr fits, Nat.not_le.mpr below, false_and, or_false, Bool.false_eq_true, if_false, awake,
    near, List.head?_nil, hd, alone, List.isEmpty_nil, if_true]

/-- Settles O41: each command is a step that issues, the access of an engine that is performed at its home, or the oldest load's
return. That SIGNAL adds its operand (log entry 54, deduced) and that an acquire is stamped with the number of free values drawn
(log entry 72) are the model's choices. -/
theorem tileAccessCommandsComplete : Obligations.TileAccessCommandsComplete := by
  refine ⟨?accesses, ?performed, ?back, ?ordered⟩
  case accesses =>
    intro a f r ack s ht hi hh t own done
    refine ⟨fun hf => congrArg Host.Outcome.next ?_, fun hf => congrArg Host.Outcome.next ?_,
      fun v hf ho => congrArg Host.Outcome.next ?_, fun body hb => ?_⟩
    · exact tileAccess_issues ht hi hh (tryStep_load hi hf)
    · exact tileAccess_issues ht hi hh (tryStep_load hi hf)
    · rw [tileAccess_issues ht hi hh (tryStep_store hi hf ho),
        issueStore_data ack (unitOf_asKind_ownAccess ..) (bytes_asKind_ownAccess ..) ho]
    · intro b hf
      have fine : atomicBad body ≠ true := by simp [hb]
      exact congrArg Host.Outcome.next ((if_neg fine).trans (tileAccess_issues ht hi hh (tryStep_atomic hi hf)))
  case performed =>
    intro i r s hc hp n hk hr hd hs
    have flat : issue i r s = accessAt i i.access.address 0 r s := by rw [issue, hc]
    rw [flat, accessAt, if_pos hp]
    exact accessHere_ready rfl hk hr hd hs
  case back =>
    intro t v l ls s hl hv hb hs hh
    refine congrArg Host.Outcome.next ?_
    rw [presentLoad_back hl hv hb hs]
    exact settleTile_unstalled (by simp [hh])
  case ordered =>
    intro t s hi hq hh done
    refine ⟨congrArg Host.Outcome.next ?_, fun a f ack v ha hu ho => congrArg Host.Outcome.next ?_,
      fun n operand ten hw ht ho => congrArg Host.Outcome.next ?_, fun n cond target ten hw ht ho =>
        ⟨fun hc => congrArg Host.Outcome.next ?_, fun hc hl => congrArg Host.Outcome.next ?_⟩⟩
    · exact tileStep_issues hi hh (tryStep_fence hi hq)
    · subst hu
      rw [tileAccess_issues ha hi hh (tryStep_release hi hq ho),
        issueStore_data ack (unitOf_asKind_ownAccess ..) (bytes_asKind_ownAccess ..) ho]
    · rw [tileStep_issues hi hh (tryStep_signal hi hq hw), tileSignalNow_own ht ho]
    · exact tileStep_issues hi hh ((tryStep_wait hi hq hw).trans (tileWaitNow_holds ht ho hc))
    · exact tileStep_issues hi hh ((tryStep_wait hi hq hw).trans (tileWaitNow_registers ht ho hc hl))

/-! ## What a unit's step gives (R50, R57 to R78) -/

section
variable {t : Nat} {s : State}

/-- With nothing to move out, the outputs take nothing (R49). -/
theorem moveOut_idle {f : Feed} (hw : f.write = false) (hs : f.send = false) : moveOut t f s = s := by
  simp [moveOut, hw, hs]

/-- With good data at every operand sink, a step that moves nothing out does what its unit does, takes what waited at its
sinks, and sets the loop counters (R50). -/
theorem unitStep_data {u : UnitStep} {f : Feed}
    (hd : (unitSinks u).all (fun k => operand t k f s != Operand.idle && !(operand t k f s).bad) = true)
    (hw : f.write = false) (hs : f.send = false) :
    unitStep t u f s = setTile t { tile (doUnit t u f s) t with
      latches := (tile (doUnit t u f s) t).latches.filter (fun e => !(unitSinks u).contains e.1),
      loops := (List.range 4).map (fun i => (f.loops.getD i 0) % 2 ^ 32) } (doUnit t u f s) := by
  simp only [List.all_eq_true, Bool.and_eq_true, bne_iff_ne, Bool.not_eq_true'] at hd
  have given : (unitSinks u).any (fun k => operand t k f s == Operand.idle) = false := by
    simpa [List.any_eq_false] using fun k hk => (hd k hk).1
  have good : (unitSinks u).any (fun k => (operand t k f s).bad) = false := by
    simpa [List.any_eq_false] using fun k hk => (hd k hk).2
  simp only [unitStep, given, good, Bool.false_eq_true, if_false, moveOut_idle hw hs, List.getD_eq_getElem?_getD]

/-- The accumulator entry of a row lane, and what it and the flags take from the lane's block (R57 to R66; that the lane's entry
is `entry + l` is the model's choice, log entry 53). -/
def laneEntry (m : MvStep) (l : Nat) : Nat := (m.entry + l) % 256
@[inherit_doc laneEntry]
def laneSum (t : Nat) (m : MvStep) (wv vv l : Nat) (s : State) : Nat × Nat :=
  mvAccumulate (m.wfmt == 0xA && bit (tileControl s t) 11)
    (if m.clear then 0 else tgetD (tile s t).accs (laneEntry m l) 0)
    (mvBlock m.wfmt m.vfmt m.count (wv / 2 ^ (32 * codeBits m.wfmt * l)) vv (bits m.wscales (8 * l + 7) (8 * l))
      (m.vscale % 256))

theorem mvLane_accs (t : Nat) (m : MvStep) (wv vv l : Nat) (bad : Bool) (s : State) :
    (tile (mvLane t m wv vv l bad s) t).accs = tset (tile s t).accs (laneEntry m l) (laneSum t m wv vv l s).1 :=
  congrArg Tile.accs (tile_setTile_self t _ s)

theorem mvLane_flags (t : Nat) (m : MvStep) (wv vv l : Nat) (bad : Bool) (s : State) :
    (tile (mvLane t m wv vv l bad s) t).flags = (tile s t).flags ||| (laneSum t m wv vv l s).2 :=
  congrArg Tile.flags (tile_setTile_self t _ s)

/-- A format outside its operand's mask, or two that do not pair, fail the call (R94). -/
theorem doMatrixVector_masked {m : MvStep} {c : TileCfg} (w v : Operand) (hc : (tile s t).cfg = some c)
    (h : (bit c.matrixFormats m.wfmt && bit c.vectorFormats m.vfmt && mvPair m.wfmt m.vfmt) = false) :
    doMatrixVector t m w v s = setTile t { tile s t with failed := true, flags := (tile s t).flags ||| flInvalid } s := by
  simp only [Bool.and_eq_false_iff] at h
  simp only [doMatrixVector, hc, Bool.not_eq_true', ← or_assoc, h, if_true]

theorem doMatrixVector_paired {m : MvStep} {c : TileCfg} (w v : Operand) (hc : (tile s t).cfg = some c)
    (h : (bit c.matrixFormats m.wfmt && bit c.vectorFormats m.vfmt && mvPair m.wfmt m.vfmt) = true) :
    doMatrixVector t m w v s = (List.range (mvLanes m.wfmt m.vfmt)).foldl (fun s l =>
      mvLane t m w.value v.value l (w.bad || v.bad) s) s := by
  simp only [Bool.and_eq_true] at h
  obtain ⟨⟨hm, hv⟩, hp⟩ := h
  simp [doMatrixVector, hc, hm, hv, hp]

/-- A vector step of three operands with good data gives each lane's result (R75). -/
theorem doUnit_vector {op : VecOp} {f : Feed} {x y z : Nat} (hx : operand t 2 f s = .data x false)
    (hy : operand t 3 f s = .data y false) (hz : operand t 4 f s = .data z false) (ho : unitSinks (.vector op) = [2, 3, 4]) :
    doUnit t (.vector op) f s = setVec t 32 ((List.range 32).map (fun i =>
      vecLane op ((lanesOf x).getD i 0) ((lanesOf y).getD i 0) ((lanesOf z).getD i 0))) 0 false s := by
  simp [doUnit, doVector, ho, hx, hy, hz, Operand.value, Operand.bad]

theorem doUnit_reduce {f : Feed} {x : Nat} (maximum : Bool) (hx : operand t 2 f s = .data x false) :
    doUnit t (.reduce maximum) f s = setVec t 32 (tree maximum (lanesOf x)) 0 false s := by
  simp only [doUnit, doReduce, hx, Operand.value, Operand.bad]

/-- A conversion to a format without a block scale converts the lanes one by one (R68). -/
theorem doUnit_convert {target : Nat} {f : Feed} {x : Nat} (hx : operand t 2 f s = .data x false)
    (ht : isMx target = false) : doUnit t (.convert target) f s = (
      let r := convList t target (tileControl s t) ((lanesOf x).map fp32.decode) s
      bump 0x4010 4 (r.1.filter (fun c => c.flags / flSat % 2 == 1)).length
        (setVec t (codeBits target) (r.1.map (fun c => (c.code, c.flags))) 0 false r.2)) := by
  simp only [doUnit, doConvert, hx, ht, Bool.false_eq_true, if_false, Operand.value, Operand.bad]

end

/-- Settles O40: each command is a unit's step that issues, and what the unit does is said per unit. That a step comes
with its operands, its loop counters and what it writes and sends (log entry 53), and the test of `select` (log entry 75,
deduced), are the model's choices. -/
theorem tileArithmeticCompletes : Obligations.TileArithmeticCompletes := by
  refine ⟨?issues, ?taken, ?lanes, ?formats, ?vector, ?single⟩
  case issues =>
    intro t f s hi hh after done
    have issued {u : UnitStep} (hr : unitReady s t u f = true) :
        (.next (tileStep t (.unit u f) s) : Host.Outcome State Fault Refusal) = .next (done u) :=
      congrArg _ (tileStep_issues hi hh (tryStep_unit hi hr))
    exact ⟨fun m => issued, fun op => issued, fun target => issued, fun fn => issued, fun maximum => issued⟩
  case taken => exact fun t u f s => unitStep_data
  case lanes =>
    intro t m wv vv l bad s e b r u
    have accs : (tile u t).accs = tset (tile s t).accs e r.1 := mvLane_accs t m wv vv l bad s
    refine ⟨?_, mvLane_flags t m wv vv l bad s, fun x hx => ?_⟩
    · rw [accs, tgetD_tset_self]
    · rw [accs, tgetD_tset_of_ne _ _ _ hx.symm]
  case formats => exact fun t m c w v s hc => ⟨doMatrixVector_masked w v hc, doMatrixVector_paired w v hc⟩
  case vector =>
    intro t op f s x y z hx hy hz ho
    exact doUnit_vector hx hy hz (by rcases ho with rfl | rfl <;> rfl)
  case single =>
    exact fun t target f s x hx => ⟨fun maximum => doUnit_reduce maximum hx, doUnit_convert hx⟩

end Sys2Proof.Machine

/-! # Configuration commands and calls -/

namespace Sys2Proof.Machine

/-! ## A command that R41 lets through -/

/-- What R41 lets through keeps its header and its body. -/
theorem admitted_hdr_body {op body n charge : Nat} {h : Hdr} {c : Checks} {s t : State} {rq : Req}
    (e : admitted (linkReq op h body) c n charge s = some (rq, t)) : h = rq.hdr ∧ body = rq.body := by
  rw [admitted_req e]
  exact ⟨rfl, rfl⟩

/-- A command that serves a request which R41 lets through completes with its act. -/
theorem admitted_completes {rq r : Req} {c : Checks} {n charge : Nat} {s t u : State} {act : Req → State → State}
    (h : admitted rq c n charge s = some (r, t)) (hu : act r t = u) :
    (.next (serve rq c n charge act s) : Host.Outcome State Fault Refusal) = .next u :=
  congrArg _ ((serve_admitted h).trans hu)

/-- A command that asks for no record, or for one where a record may stand, is not refused for it (R116, R128). -/
theorem record_allowed {b : Nat} {s : State} (h : bit b 80 = true → recordAt s (bits b 79 32) 32 = true) :
    ¬ (bit b 80 = true ∧ (!recordAt s (bits b 79 32) 32) = true) := by
  rintro ⟨asked, refused⟩
  simp [h asked] at refused

/-! ## The registry (R103, R105, R114) -/

/-- An accepted command answers its acceptance identifier with its handle (R113). -/
theorem acceptCfg_eq (rq : Req) (handle : Nat) (act : Nat → State → State) (s : State) :
    acceptCfg rq handle act s = act (s.accCtr + 1)
      (complete rq .ok ((s.accCtr + 1) * 256 + handle) { s with accCtr := s.accCtr + 1 }) := rfl

section
variable {rq : Req} {s : State}

theorem doRegister_accepted {n : Nat} (hr : bit rq.body 80 = true → recordAt s (bits rq.body 79 32) 32 = true)
    (hb : cfgImgBytes rq.body ≠ 0) (hf : freeEntry s = some n) :
    doRegister rq s = (let u := complete rq .ok ((s.accCtr + 1) * 256) { s with accCtr := s.accCtr + 1 };
      { u with reserved := tset u.reserved (s.accCtr + 1) n,
               registering := tset u.registering (s.accCtr + 1) ⟨rq, u.time⟩ }) := by
  simp only [doRegister, if_neg (record_allowed hr), if_neg hb, hf, acceptCfg_eq, Nat.add_zero]

theorem doRetire_accepted {e : RegEntry} (hr : bit rq.body 80 = true → recordAt s (bits rq.body 79 32) 32 = true)
    (he : tget s.registry (cfgSlot rq.body) = some e) (ht : e.tenant = rq.hdr.tenant) :
    doRetire rq s = (let u := complete rq .ok ((s.accCtr + 1) * 256) { s with accCtr := s.accCtr + 1 };
      retireEntry (cfgSlot rq.body) { u with retiring := tset u.retiring (s.accCtr + 1) ⟨rq, u.time⟩ }) := by
  simp only [doRetire, if_neg (record_allowed hr), he, ht, ne_eq, not_true_eq_false, if_false, acceptCfg_eq, Nat.add_zero]

end

/-- A registration whose image is near ends with what it finds (R621). -/
theorem doRegisterDone_near {acc n : Nat} {p : Posted} {s : State} (hp : tget s.registering acc = some p)
    (hn : tget s.reserved acc = some n)
    (hf : farExtents s (cfgImgOffset p.req.body) (cfgImgBytes p.req.body) = []) :
    doRegisterDone acc s = (
      let found := registerStatus s (cfgImgOffset p.req.body) (cfgImgBytes p.req.body)
      let u := { s with reserved := terase s.reserved acc, registering := terase s.registering acc }
      if found = .ok then
        endCfg p acc .ok n 0 0 (countRegistry { u with
          registry := tset u.registry n ⟨imageInfo u acc (cfgImgOffset p.req.body)
            (imgBytes (readMem u (cfgImgOffset p.req.body) (cfgImgBytes p.req.body))), p.req.hdr.tenant⟩ })
      else endCfg p acc found 0xFF 0 0 u) := by
  simp only [doRegisterDone, hp, hn, hf, List.isEmpty_nil, Bool.not_true, Bool.false_eq_true, false_and, if_false]

theorem doRetireRecord_unloaded {acc : Nat} {p : Posted} {s : State} (hp : tget s.retiring acc = some p)
    (hl : loadingFrom s (cfgSlot p.req.body) = false) :
    doRetireRecord acc s = endCfg p acc .ok (cfgSlot p.req.body) 0 0 { s with retiring := terase s.retiring acc } := by
  simp only [doRetireRecord, hp, hl, Bool.false_eq_true, if_false]

/-! ## LOAD and UNBIND (R104, R115, R118) -/

section
variable {rq : Req} {e : RegEntry} {s : State} (hr : bit rq.body 80 = false) (hp : s.pkg ≠ .draining)
  (ht : cfgTenant rq.body = rq.hdr.tenant) (he : tget s.registry (cfgSlot rq.body) = some e)
include hr hp ht he

/-- An image that another tenant registered, not under key slot 0, is not loaded (R104). -/
theorem doLoad_of_other_tenant (hk : e.image.keySlot ≠ 0) (hn : e.tenant ≠ rq.hdr.tenant) :
    doLoad rq s = complete rq .tenantBlocked 0 s := by
  simp [doLoad, hr, hp, ht, he, hk, hn]

/-- A LOAD of an image that its tenant may load, for a role of the image on an unbound handle, into a cluster that is free and
where the image may stand, is accepted (R115, R118). -/
theorem doLoad_unbound_accepted (hown : e.image.keySlot = 0 ∨ e.tenant = rq.hdr.tenant) (hc : cfgContext rq.body ≠ 0)
    (hh : tget s.handles (cfgHandle rq.body) = none) (hrole : cfgRole rq.body < e.image.roles)
    (hst : (cluster s (cfgCluster rq.body)).st = .empty ∨ (cluster s (cfgCluster rq.body)).st = .running)
    (hfree : (cluster s (cfgCluster rq.body)).handle = none)
    (hplace : placeByte (readMem s e.image.offset e.image.bytes) (cfgRole rq.body) 16 = 0xFF) :
    doLoad rq s = acceptLoad rq e (s.accCtr + 1)
      (complete rq .ok ((s.accCtr + 1) * 256 + cfgHandle rq.body) { s with accCtr := s.accCtr + 1 }) := by
  have own : ¬ (e.image.keySlot ≠ 0 ∧ e.tenant ≠ rq.hdr.tenant) := by
    rintro ⟨hk, hn⟩
    exact hown.elim hk hn
  have ready : ¬ ((cluster s (cfgCluster rq.body)).st = .draining ∨ (cluster s (cfgCluster rq.body)).st = .loading ∨
      (cluster s (cfgCluster rq.body)).st = .armed) := by
    rcases hst with hst | hst <;> simp [hst]
  have online : (cluster s (cfgCluster rq.body)).st ≠ .offline := by
    rcases hst with hst | hst <;> simp [hst]
  simp only [doLoad, hr, hp, ht, he, own, hc, hh, hfree, hplace, ready, online, Nat.not_le.mpr hrole, ne_eq, not_true_eq_false,
    Bool.false_eq_true, false_and, or_self, if_false, acceptCfg_eq]

end

theorem doUnbind_own {rq : Req} {x : FnHandle} {s : State}
    (hr : bit rq.body 80 = true → recordAt s (bits rq.body 79 32) 32 = true)
    (hx : tget s.handles (cfgHandle rq.body) = some x) (ht : x.tenant = rq.hdr.tenant) :
    doUnbind rq s = (
      let u := complete rq .ok ((s.accCtr + 1) * 256 + cfgHandle rq.body) { s with accCtr := s.accCtr + 1 }
      let v := (x.current ++ x.staged).foldl (fun v k => unassign k.2 v)
        { u with handles := terase u.handles (cfgHandle rq.body) }
      endCfg ⟨rq, v.time⟩ (s.accCtr + 1) .ok 0xFF (cfgHandle rq.body) 0 v) := by
  simp only [doUnbind, if_neg (record_allowed hr), hx, ht, ne_eq, not_true_eq_false, if_false, acceptCfg_eq]

/-- Settles O26: each request is served by its act, whose checks at step 12 the conditions pass; each end finds its command.
That UNBIND writes its record at once is the model's choice (log entry 17, deduced). -/
theorem configurationCommandsComplete : Obligations.ConfigurationCommandsComplete := by
  refine ⟨?register, ?registerDone, ?retire, ?retireRecord, ?load, ?unbind⟩
  case register =>
    intro h body n s t rq ha hr hb hf
    obtain ⟨rfl, rfl⟩ := admitted_hdr_body ha
    exact admitted_completes ha (doRegister_accepted hr hb hf)
  case registerDone => exact fun acc n p s hp hn hf => congrArg Host.Outcome.next (doRegisterDone_near hp hn hf)
  case retire =>
    intro h body e s t rq ha hr he ht
    obtain ⟨rfl, rfl⟩ := admitted_hdr_body ha
    exact admitted_completes ha (doRetire_accepted hr he ht)
  case retireRecord => exact fun acc p s hp hl => congrArg Host.Outcome.next (doRetireRecord_unloaded hp hl)
  case load =>
    intro h body e s t rq ha hr hp ht he hown hc hh hrole hst hfree hplace
    obtain ⟨rfl, rfl⟩ := admitted_hdr_body ha
    exact admitted_completes ha (doLoad_unbound_accepted hr hp ht he (.inr hown) hc hh hrole hst hfree hplace)
  case unbind =>
    intro h body x s t rq ha hr hx ht
    obtain ⟨rfl, rfl⟩ := admitted_hdr_body ha
    exact admitted_completes ha (doUnbind_own hr hx ht)

/-- Settles O58: the tenant that registered the entry decides unless its image is signed under key slot 0. -/
theorem imagesLoadedByTheirTenants : Obligations.ImagesLoadedByTheirTenants := by
  intro h body e s t rq ha hr hp ht he
  obtain ⟨rfl, rfl⟩ := admitted_hdr_body ha
  refine ⟨fun hk hn => ?_, fun hown hc hh hrole hst hfree hplace => ?_⟩
  · exact admitted_completes ha (doLoad_of_other_tenant hr hp ht he hk hn)
  · exact admitted_completes ha (doLoad_unbound_accepted hr hp ht he hown hc hh hrole (.inl hst) hfree hplace)

/-! ## INVOKE (R119, R121, R126, R127) -/

/-- A call that R126 finds in order is dispatched: it takes an acceptance identifier, and is in flight (R121). -/
def startCall (rq : Req) (x : FnHandle) (s : State) : State :=
  pinPack (s.accCtr + 1) x rq.body (addCall rq (s.accCtr + 1) (invHandle rq.body) x
    (complete rq .ok (s.accCtr + 1) { s with accCtr := s.accCtr + 1 }))

/-- Where the image is not PACK_STREAM, no slot counts the call (R234). -/
theorem startCall_unpacked {rq : Req} {x : FnHandle} {s : State} (h : certifiedId x.image ≠ some 0x00010041) :
    startCall rq x s = addCall rq (s.accCtr + 1) (invHandle rq.body) x
      (complete rq .ok (s.accCtr + 1) { s with accCtr := s.accCtr + 1 }) :=
  if_pos h

/-- The slot of a table refuses calls on PACK_STREAM alone (R234). -/
theorem packRefused_unpacked {s : State} {h b tenant : Nat} {x : FnHandle} (hx : tget s.handles h = some x)
    (hi : certifiedId x.image ≠ some 0x00010041) : packRefused s h b tenant = none := by
  simp only [packRefused, hx, if_pos hi]

/-- An INVOKE with arguments of the interface's kinds, no buffer empty, and a shape that its function takes, is answered as its
handle stands (R126). -/
theorem doInvoke_wellFormed {rq : Req} {x : FnHandle} {s : State}
    (hr : bit rq.body 80 = true → recordAt s (bits rq.body 79 32) 32 = true) (hn : invArgs rq.body ≠ 0)
    (hx : tget s.handles (invHandle rq.body) = some x)
    (hargs : (List.range (invArgs rq.body)).all (fun i =>
      !(isBuffer (argKind (invArg rq.body i)) && argLen (invArg rq.body i) == 0) &&
        (x.image.args[i]?).map (·.1) == some (argKind (invArg rq.body i))) = true)
    (hu : (shapeOf (certifiedId x.image) rq.body).unsupported = false)
    (hs : (shapeOf (certifiedId x.image) rq.body).empty = false) (hd : certifiedId x.image ≠ some 0x00010010)
    (hk : packRefused s (invHandle rq.body) rq.body rq.hdr.tenant = none) :
    doInvoke rq s = withHandle rq (invHandle rq.body) (startCall rq) s := by
  simp only [List.all_eq_true, Bool.and_eq_true, Bool.not_eq_true', beq_iff_eq] at hargs
  have full : ((List.range (invArgs rq.body)).map (invArg rq.body)).any (fun a => isBuffer (argKind a) && argLen a == 0) =
      false := by
    simpa [List.any_eq_false] using fun i hi => (hargs i (List.mem_range.mpr hi)).1
  have kinds : (List.range (invArgs rq.body)).any (fun i =>
      ((x.image.args[i]?).map (·.1)) != some (argKind (invArg rq.body i))) = false := by
    simpa [List.any_eq_false] using fun i hi => (hargs i (List.mem_range.mpr hi)).2
  simp only [doInvoke, if_neg (record_allowed hr), hx, hn, full, kinds, hu, hs, hk, beq_eq_false_iff_ne.mpr hd, Bool.or_self,
    Bool.false_eq_true, or_self, if_false]
  rfl

section
variable {rq : Req} {h : Nat} {x : FnHandle} {s : State} (act : FnHandle → State → State)
  (hx : tget s.handles h = some x) (ho : x.st = .active ∨ x.st = .staging) (hl : reloading s x = false)
include hx ho hl

/-- A handle that is open, none of whose clusters the device reloads, takes up to 64 calls at a time (R119, R127). -/
theorem withHandle_open : withHandle rq h act s =
    if 64 ≤ (callsOf s h).length then deferReq rq 1 (bump 0x4020 7 1 s) else act x s := by
  have serves : ¬ (x.st = .assembling ∨ x.st = .rebinding ∨ reloading s x = true) := by
    rcases ho with ho | ho <;> simp [ho, hl]
  simp only [withHandle, hx, if_neg serves]

end

/-- Settles O60: the handle is open, so that only its open calls stand against the call. -/
theorem callsPerHandle : Obligations.CallsPerHandle := by
  intro h body x s t rq ha hr hn hx ho hl hargs hu hs hd hk hc
  obtain ⟨rfl, rfl⟩ := admitted_hdr_body ha
  refine admitted_completes ha ?_
  rw [doInvoke_wellFormed hr hn hx hargs hu hs hd hk, withHandle_open _ hx ho hl, if_pos hc]

/-! ## The end of a call (R128, R129) -/

section
variable {acc : Nat} {k : Call} {r : CallResult} {s : State} (hk : tget s.calls acc = some k)
  (hop : k.posted.req.op = 0x13)
include hk hop

theorem doCallComplete_unbound (hh : tget s.handles k.handle = none) : doCallComplete acc r s = finishCall acc k r s := by
  simp only [doCallComplete, hk, hop, hh, ne_eq, not_true_eq_false, if_false]

/-- What no certified merge or packing computes is its image's own result. -/
theorem doCallComplete_own {x : FnHandle} (hh : tget s.handles k.handle = some x)
    (hm : certifiedId x.image ≠ some 0x00010011) (hp : certifiedId x.image ≠ some 0x00010041) :
    doCallComplete acc r s = finishCall acc k r s := by
  simp only [doCallComplete, hk, hop, hh, hm, hp, ne_eq, not_true_eq_false, if_false]

end

/-- A call that writes nothing waits for nothing, and no write of it is refused. -/
theorem finishCall_unwritten {acc : Nat} {k : Call} {r : CallResult} {s : State} (hw : r.writes = []) :
    finishCall acc k r s = endCall acc k (callStatus s k false r) r.result (freeTiles k s) := by
  simp [finishCall, farWrites, hw]

/-- Settles O28: the call's image is neither a certified merge nor PACK_STREAM. That the result's operands come with the end of
the call is the model's choice (log entry 113, deduced). -/
theorem callsComplete : Obligations.CallsComplete := by
  refine ⟨?invoke, ?unbound, ?bound⟩
  case invoke =>
    intro h body x s t rq ha hr hn hx ho hl hargs hu hs hd hp hc
    obtain ⟨rfl, rfl⟩ := admitted_hdr_body ha
    refine admitted_completes ha ?_
    rw [doInvoke_wellFormed hr hn hx hargs hu hs hd (packRefused_unpacked hx hp), withHandle_open _ hx ho hl,
      if_neg (Nat.not_le.mpr hc), startCall_unpacked hp]
  case unbound => exact fun acc k r s hk hop hh => congrArg Host.Outcome.next (doCallComplete_unbound hk hop hh)
  case bound =>
    exact fun acc k x r s hk hop hh hm hp hw =>
      congrArg Host.Outcome.next ((doCallComplete_own hk hop hh hm hp).trans (finishCall_unwritten hw))

end Sys2Proof.Machine

/-! # Clusters -/

namespace Sys2Proof.Machine

/-! ## A cluster's pending load (R117, R118) -/

@[simp] theorem clearTiles_loading (c : Nat) (s : State) : (clearTiles c s).loading = s.loading := by
  unfold clearTiles
  exact List.foldlRecOn (motive := fun (t : State) => t.loading = s.loading) _ _ rfl fun _ h _ _ => h

section
variable {c : Nat} {j : LoadJob} {s : State}

/-- On an awake die a pending load begins with empty stores (R117). -/
theorem startLoad_awake (hl : (cluster s c).load = some j) (ha : awake s (fabricDom (c / 16)) = true) :
    startLoad c s = clearTiles c (setCluster c (fun x =>
      { x with st := .loading, load := some { j with started := some s.time } }) s) := by
  simp only [startLoad, hl, if_pos ha]

/-- The end of a LOAD that does not succeed: it is counted, and its record says why (R116, R131). -/
theorem endLoad_failed {a : Nat} {p : Posted} {st : Status} (ha : j.acc = some a) (hp : tget s.loading a = some p)
    (hst : st ≠ .ok) :
    endLoad j c st s = (let v := bump 0x4020 6 1 s
      endCfg p a st j.slot (cfgHandle p.req.body) c
        (setCluster c (fun x => { x with lastStatus := statusCode st }) { v with loading := terase v.loading a })) := by
  simp only [endLoad, ha, hp, if_neg hst]

/-- A failed LOAD that nothing replaced leaves its cluster EMPTY for its handle's role (R117). -/
theorem failLoad_posted {a : Nat} {p : Posted} {st : Status} (hl : (cluster s c).load = some j) (hd : j.dropped = false)
    (ha : j.acc = some a) (hp : tget s.loading a = some p) (hst : st ≠ .ok) :
    failLoad c st s = (
      let v := bump 0x4020 6 1 (clearTiles c (setCluster c (fun x =>
        { x with st := .empty, info := none, copy := 0, load := none }) s))
      endCfg p a st j.slot (cfgHandle p.req.body) c
        (setCluster c (fun x => { x with lastStatus := statusCode st }) { v with loading := terase v.loading a })) := by
  have waits (f : Cluster → Cluster) : tget (clearTiles c (setCluster c f s)).loading a = some p := by
    rw [clearTiles_loading]
    exact hp
  simp only [failLoad, hl, hd, ha, Option.isNone_some, Bool.false_eq_true, if_false, endLoad_failed ha (waits _) hst]

/-- A load whose image reads well and has the registered digest arms its cluster (R112, R117). -/
theorem doLoadComplete_good (hst : (cluster s c).st = .loading) (hl : (cluster s c).load = some j)
    (hd : j.dropped = false) (hb : anyBad s j.image.offset j.image.bytes = false)
    (hi : shake256 j.image.bytes (readMem s j.image.offset j.image.bytes) = j.image.digest) :
    doLoadComplete c s = (
      let img := readMem s j.image.offset j.image.bytes
      let u := if zeroes (cluster s c) j then zeroPads c s else s
      let v := setCluster c (fun y => { y with
          st := .armed, info := some j.image, copy := img, slot := j.slot, load := none, lastTenant := some j.tenant,
          reload := false })
        (configureTiles c j.role img u)
      let w := endLoad j c .ok v
      ((cluster s c).handle.map (fun h => if j.acc.isNone then resumeCluster h c w else tryOpen h w)).getD w) := by
  simp only [doLoadComplete, hst, hl, hb, hi, hd, ne_eq, not_true_eq_false, Bool.false_eq_true, if_false]
  cases (cluster s c).handle <;> rfl

end

/-! ## A drained cluster (R117) -/

section
variable {c : Nat} {s : State} (hst : (cluster s c).st = .draining) (hn : callsOn s c = [])
include hst hn

theorem doDrained_unreserved (hh : (cluster s c).handle = none) : doDrained c s = releaseCluster c s := by
  simp [doDrained, hst, hn, hh]

theorem doDrained_reserved {h : Nat} {y : FnHandle} (hh : (cluster s c).handle = some h) (hy : tget s.handles h = some y)
    (hr : tget y.current (cluster s c).role = some c ∨ tget y.staged (cluster s c).role = some c) :
    doDrained c s = startLoad c (clearTiles c (setCluster c (fun x =>
      { x with st := .empty, info := none, copy := 0 }) s)) := by
  simp [doDrained, hst, hn, hh, hy, hr]

end

/-! ## A failing tile (R21, R556) -/

section
variable {c : Nat} {s : State} (j : Nat)

theorem doTileFailure_armed (hst : (cluster s c).st = .armed) (hsp : (cluster s c).spares < 2) :
    doTileFailure c j s = reloadCluster c (substitute c j s) := by
  simp [doTileFailure, hst, hsp]

theorem doTileFailure_running (hst : (cluster s c).st = .running) (hsp : (cluster s c).spares < 2) :
    doTileFailure c j s = reloadCluster c (failCalls c (substitute c j s)) := by
  simp [doTileFailure, hst, hsp]

theorem doTileFailure_loading {l : LoadJob} (hst : (cluster s c).st = .loading) (hl : (cluster s c).load = some l)
    (hsp : (cluster s c).spares < 2) :
    doTileFailure c j s = (let u := substitute c j s
      setCluster c (fun y => { y with load := some { l with started := some u.time } }) u) := by
  simp [doTileFailure, hst, hl, hsp]

/-- Without a spare an ARMED or RUNNING cluster goes out of service. -/
theorem doTileFailure_spareless (hst : (cluster s c).st = .armed ∨ (cluster s c).st = .running)
    (hsp : 2 ≤ (cluster s c).spares) (hl : (cluster s c).load = none) :
    doTileFailure c j s = (
      let u := cfgEvent (unassignRole c (failCalls c s))
      let v := clearTiles c (setCluster c (fun y => { y with
        st := .offline, handle := none, staged := false, info := none, copy := 0, load := none, reload := false }) u)
      setObj 0xB060 2 (obj v 0xB060 2 + 1) v) := by
  have works : ¬ ((cluster s c).st = .empty ∨ (cluster s c).st = .offline) := by
    rcases hst with hst | hst <;> simp [hst]
  simp only [doTileFailure, if_neg works, Nat.not_lt.mpr hsp, hl, if_false]

end

/-- Settles O27: what each cluster event does in the cluster state that it is for. -/
theorem clusterCommandsComplete : Obligations.ClusterCommandsComplete := by
  refine ⟨?start, ?complete, ?fail, ?released, ?reserved, ?overdue, ?reload, ?armed, ?running, ?loading, ?spareless⟩
  case start =>
    intro c j s hst hl ha
    refine congrArg Host.Outcome.next ?_
    rw [if_pos hst, startLoad_awake hl ha]
  case complete => exact fun c j s hst hl hd hb hi => congrArg Host.Outcome.next (doLoadComplete_good hst hl hd hb hi)
  case fail =>
    intro c a j p why st s hst hl hd ha hp hwhy
    subst hwhy
    refine congrArg Host.Outcome.next ?_
    rw [if_pos hst]
    cases why <;> exact failLoad_posted hl hd ha hp (by decide)
  case released => exact fun c s hst hn hh => congrArg Host.Outcome.next (doDrained_unreserved hst hn hh)
  case reserved => exact fun c h y s hst hn hh hy hr => congrArg Host.Outcome.next (doDrained_reserved hst hn hh hy hr)
  case overdue => exact fun c s hst ho => congrArg Host.Outcome.next (if_pos ⟨hst, ho⟩)
  case reload => exact fun slice s ha => congrArg Host.Outcome.next (if_pos ha)
  case armed => exact fun c j s hst hsp => congrArg Host.Outcome.next (doTileFailure_armed j hst hsp)
  case running => exact fun c j s hst hsp => congrArg Host.Outcome.next (doTileFailure_running j hst hsp)
  case loading => exact fun c j l s hst hl hsp => congrArg Host.Outcome.next (doTileFailure_loading j hst hl hsp)
  case spareless => exact fun c j s hst hsp hl => congrArg Host.Outcome.next (doTileFailure_spareless j hst hsp hl)

end Sys2Proof.Machine

/-! # Keys and custody -/

namespace Sys2Proof.Machine

/-! ## A write that the dictionary lets through, and its record (R465, R594) -/

/-- A command that serves a dictionary request which R462 lets through completes with its act. -/
theorem dapAdmitted_completes {op : Nat} {m : DapMsg} {s t u : State} {c : Ctx} {act : Ctx → State → State}
    (h : dapAdmitted op m s = some (c, t)) (hu : act c t = u) :
    (.next (dapServe op m act s) : Host.Outcome State Fault Refusal) = .next u :=
  congrArg _ ((dapServe_admitted h).trans hu)

theorem dapAdmitted_op {op : Nat} {m : DapMsg} {s t : State} {c : Ctx} (h : dapAdmitted op m s = some (c, t)) :
    c.op = op :=
  (dapAdmitted_ctx h).1

section
variable {c : Ctx} {s : State} (f : State → State)

/-- A guarded write takes effect with its record where the log has room for it. -/
theorem applied_guarded (hop : c.op = dapGuarded) (hr : logRoom s 0x20 = true) :
    applied c f s = finOk c (guardedEntry c (f s)) :=
  (if_pos hop).trans (if_pos hr)

theorem applied_unguarded (hop : c.op ≠ dapGuarded) : applied c f s = finOk c (f s) :=
  if_neg hop

theorem appliedWith_room {ty : Nat} (hr : logRoom s ty = true) : appliedWith c ty f s = finOk c (f s) :=
  if_pos hr

end

/-- Where the log has room for an entry beside its reserve and one unit more, it has room for any. -/
theorem logRoom_of_spare {s : State} (ty : Nat) (h : logNext s + 1 + logReserve < logCapacity) : logRoom s ty = true := by
  unfold logRoom
  split
  · exact decide_eq_true (by omega)
  · exact decide_eq_true (by omega)

/-! ## Keys of images, owners and fabric managers (R101, R102, R564, R583) -/

section
variable {c : Ctx} {s : State} (hr : logRoom s 0x21 = true)
include hr

theorem doImageKey_enrolled (hv : c.value ≠ 0) :
    doImageKey c s = finOk c (logKey c (c.sub - 1) (setObj 0x4023 c.sub c.value s)) := by
  simp only [doImageKey, appliedWith_room _ hr, if_neg hv]

theorem doImageKey_revoked (hv : c.value = 0) :
    doImageKey c s = finOk c (cfgEvent (retireSigned (c.sub - 1) (logKey c (c.sub - 1) (setObj 0x4023 c.sub 0 s)))) := by
  simp only [doImageKey, appliedWith_room _ hr, hv, if_true]

theorem doOwnerKey_enrolled (ha : c.actor = 2) (hv : c.value ≠ 0) (he : obj s 0xB020 c.sub = 0) :
    doOwnerKey c s = finOk c (logKey c (c.sub - 2) (setObj 0xB020 1 1 (setObj 0xB020 c.sub c.value s))) := by
  simp [doOwnerKey, appliedWith_room _ hr, ha, hv, he]

/-- An owner key is revoked where it is not the last one (R583). -/
theorem doOwnerKey_revoked (ha : c.actor = 2) (hv : c.value = 0) (hl : ¬ (obj s 0xB020 c.sub ≠ 0 ∧ ownerKeys s = 1)) :
    doOwnerKey c s = finOk c (logKey c (c.sub - 2) (setObj 0xB020 c.sub 0 s)) := by
  simp only [doOwnerKey, appliedWith_room _ hr, ha, hv, bne_iff_ne, if_neg hl, ne_eq, not_true_eq_false, if_false, if_true]

theorem doFmKey_written (hs : c.sub ≠ 1) :
    doFmKey c s = finOk c (logKey c (c.sub - 2) (setObj 0xA040 c.sub c.value s)) := by
  simp only [doFmKey, appliedWith_room _ hr, if_neg hs]

end

/-! ## Tenant keys (R587 to R589) -/

section
variable {c : Ctx} {s : State} (hop : c.op = dapGuarded) (hb : bits c.value 27 12 = 0)
  (hl : logNext s + 1 + logReserve < logCapacity)
include hop hb hl

/-- The key of a slot that holds none is drawn afresh, and is ACTIVE at its next generation (R587, R589). -/
theorem doKeyCommand_create (ho : bits c.value 31 28 = 1) (hk : keyState s (bits c.value 11 0) = 0) :
    doKeyCommand c s = finOk c (guardedEntry c (logTenantKey c 1 (bits c.value 11 0) (setKey (bits c.value 11 0) 1
      { (drawKey s).2 with
        tenantKeys := tset (drawKey s).2.tenantKeys (bits c.value 11 0) (drawKey s).1
        keyGens := tset (drawKey s).2.keyGens (bits c.value 11 0)
          ((keyGeneration (drawKey s).2 (bits c.value 11 0) + 1) % 2 ^ 16) }))) := by
  simp [doKeyCommand, hb, ho, hk, if_neg (Nat.not_le.mpr hl), applied_guarded _ hop (logRoom_of_spare 0x20 hl)]

/-- An ACTIVE key that nothing uses is zeroised, and waits for its sweep (R589). -/
theorem doKeyCommand_destroy (ho : bits c.value 31 28 = 2) (hk : keyState s (bits c.value 11 0) = 1)
    (hu : keyInUse s (bits c.value 11 0) = false) :
    doKeyCommand c s = finOk c (guardedEntry c (logTenantKey c 2 (bits c.value 11 0) (setKey (bits c.value 11 0) 2
      { s with tenantKeys := terase s.tenantKeys (bits c.value 11 0) }))) := by
  simp [doKeyCommand, hb, ho, hk, hu, if_neg (Nat.not_le.mpr hl), applied_guarded _ hop (logRoom_of_spare 0x20 hl)]

end

/-! ## The log, the handover and the condition report (R592, R598, R599, R601) -/

section
variable {c : Ctx} {s : State}

theorem doLogCheckpoint_room (hop : c.op ≠ dapGuarded) (hv : c.value = 1) (hl : logNext s + 27 ≤ logCapacity) :
    doLogCheckpoint c s = finOk c (checkpoint s) := by
  simp only [doLogCheckpoint, hv, if_neg (Nat.not_lt.mpr hl), applied_unguarded _ hop, ne_eq, not_true_eq_false, if_false]

section
variable (ha : c.actor = 2) (hh : bits c.value 255 192 = 0) (hm : bits c.value 63 8 = 0)
  (hst : obj s 0xB070 2 = 0 ∨ obj s 0xB070 2 = 4) (hs : s.dict.saving = none) (hf : firmwareBusy s = false)
include ha hh hm hst hs hf

/-- A HANDOVER of a package that may be purged is recorded and answered, and purges it (R598, R599). -/
theorem doHandover_purges (ho : bits c.value 7 0 = 1) (hp : purgeAllowed s = true) (hr : logRoom s 0x41 = true) :
    doHandover c s = purgeAll c.value (finOk c (setObj 0xB070 2 1 (bump 0xB070 3 1
      (appendLog 0x41 c.actor c.tenant c.value (guardedEntry c s))))) := by
  have idle : ¬ (obj s 0xB070 2 ≠ 0 ∧ obj s 0xB070 2 ≠ 4) := by omega
  simp [doHandover, ha, hh, hm, ho, idle, hs, hf, hp, hr]

theorem doHandover_reports (hop : c.op = dapGuarded) (ho : bits c.value 7 0 = 2) (hr : logRoom s 0x20 = true) :
    doHandover c s = finOk c (guardedEntry c (setObj 0xB070 2 3 { s with purge := ⟨c.value, 0x10, 0⟩ })) := by
  have idle : ¬ (obj s 0xB070 2 ≠ 0 ∧ obj s 0xB070 2 ≠ 4) := by omega
  simp [doHandover, ha, hh, hm, ho, idle, hs, hf, applied_guarded _ hop hr]

end

/-- A report that is asked for is signed once the package serves (R601). -/
theorem doConditionReport_serving (ho : obj s 0xB070 2 = 3) (hs : serving s = true) :
    doConditionReport s = (
      let digest := shake256 192 (conditionHead s) % 2 ^ 512
      let report := joinBytes [(192, conditionHead s), (3328, sigBlock 0xFE (obj s 0xB010 1) digest)]
      setObj 0xB070 2 4 (appendLog 0x42 0 0 digest (setObj 0xB070 4 report s))) :=
  if_pos ⟨ho, .inl hs⟩

end

/-- Settles O52: each command is a write to its own object, the end of a sweep, or a report of its own. That a tenant key's
command asks for room for two entries and its sweep leaves every extent ZERO (log entry 106), and that HANDOVER goes on without
its GUARDED_WRITE entry where the reserve alone is left (log entry 107), are the model's choices, both deduced. -/
theorem keyAndCustodyCommandsComplete : Obligations.KeyAndCustodyCommandsComplete := by
  refine ⟨?image, ?owner, ?manager, ?tenant, ?swept, ?checkpoint, ?meters, ?snapshot, ?handover, ?report⟩
  case image =>
    intro m s t c h hr
    exact ⟨fun hv => dapAdmitted_completes h (doImageKey_enrolled hr hv),
      fun hv => dapAdmitted_completes h (doImageKey_revoked hr hv)⟩
  case owner =>
    intro m s t c h hr ha
    exact ⟨fun hv he => dapAdmitted_completes h (doOwnerKey_enrolled hr ha hv he),
      fun hv hl => dapAdmitted_completes h (doOwnerKey_revoked hr ha hv hl)⟩
  case manager => exact fun m s t c h hr hs => dapAdmitted_completes h (doFmKey_written hr hs)
  case tenant =>
    intro m s t c h k hb hl
    have hop := dapAdmitted_op h
    exact ⟨fun ho hk => dapAdmitted_completes h (doKeyCommand_create hop hb hl ho hk),
      fun ho hk hu => dapAdmitted_completes h (doKeyCommand_destroy hop hb hl ho hk hu)⟩
  case swept => exact fun k s hk => congrArg Host.Outcome.next (if_pos hk)
  case checkpoint =>
    intro m s t c h hv hl
    have unguarded : c.op ≠ dapGuarded := by rw [dapAdmitted_op h]; decide
    exact dapAdmitted_completes h (doLogCheckpoint_room unguarded hv hl)
  case meters =>
    intro k v s hp lo hi
    refine congrArg Host.Outcome.next ((if_neg hp).trans ?_)
    exact if_pos ⟨lo, hi⟩
  case snapshot => exact fun s hp => congrArg Host.Outcome.next (if_neg hp)
  case handover =>
    intro m s t c h ha hh hm hst hs hf
    exact ⟨fun ho hp hr => dapAdmitted_completes h (doHandover_purges ha hh hm hst hs hf ho hp hr),
      fun ho hr => dapAdmitted_completes h (doHandover_reports ha hh hm hst hs hf (dapAdmitted_op h) ho hr)⟩
  case report => exact fun s ho hs => congrArg Host.Outcome.next (doConditionReport_serving ho hs)

end Sys2Proof.Machine

/-! # Arenas and attention -/

namespace Sys2Proof.Machine

/-! ## ARENA and DISCARD (R135, R140, R144, R145) -/

/-- An operation of the tenant that activated the arena goes on with the arena. -/
theorem withArena_own {rq : Req} {x : Arena} {s : State} (act : Arena → State → State)
    (hx : tget s.arenas (attnArena rq.body) = some x) (ht : x.tenant = rq.hdr.tenant) : withArena rq act s = act x s := by
  simp only [withArena, hx, ht, ne_eq, not_true_eq_false, if_false]

/-- A near and good descriptor in order activates an arena that is not active, at the position its body names (R135, R140). -/
theorem doArenaActivate_valid {rq : Req} {s : State} {off d : Nat} (hx : tget s.arenas (attnArena rq.body) = none)
    (ho : descOffset s (attnArena rq.body) = off) (hf : farExtents s off 128 = []) (hb : anyBad s off 128 = false)
    (hd : readMem s off 128 = d) (hl : arTooLong s d = false) (hz : arZero d = false) (hv : arBad s d = false) :
    doArenaActivate rq s = complete rq .ok 0 (countArenas { s with
      arenas := tset s.arenas (attnArena rq.body) ⟨d, rq.hdr.tenant, nextOwn d (bits rq.body 95 64), 0, [], none⟩ }) := by
  simp only [doArenaActivate, hx, ho, hf, hb, hd, hl, hz, hv, Option.isSome_none, List.isEmpty_nil, Bool.not_true,
    Bool.false_eq_true, if_false]

section
variable {rq : Req} {x : Arena} {s : State} (hx : tget s.arenas (attnArena rq.body) = some x)
  (ht : x.tenant = rq.hdr.tenant)
include hx ht

theorem doArenaDeactivate_idle (hi : arenaBusy s (attnArena rq.body) = false) :
    doArenaDeactivate rq s =
      complete rq .ok 0 (countArenas { s with arenas := terase s.arenas (attnArena rq.body) }) := by
  simp only [doArenaDeactivate, withArena_own _ hx ht, hi, Bool.false_eq_true, if_false]

theorem doDiscard_settled (hc : x.copying = none) :
    doDiscard rq s = complete rq .ok 0 { s with arenas := tset s.arenas (attnArena rq.body) (advanceGen x) } := by
  simp only [doDiscard, withArena_own _ hx ht, hc, Option.isSome_none, Bool.false_eq_true, if_false]

/-- While a COMMIT copies the slots, they are not emptied (R145). -/
theorem doDiscard_copying (hc : x.copying.isSome = true) : doDiscard rq s = deferReq rq (copyHint s x) s := by
  simp only [doDiscard, withArena_own _ hx ht, hc, if_true]

/-! ## APPEND and COMMIT (R147, R149, R150) -/

/-- An APPEND to slots that are empty and not held, of pending pages that are near, stores its rows (R147). -/
theorem doAppend_stored (hr : (apRows rq.body).isEmpty = false) (hw : appendWritten x rq.body = false)
    (hb : appendWaits s x rq.body = false) (hp : (appendPages s x.desc rq.body).contains none = false)
    (hf : farPage s x.desc (appendPages s x.desc rq.body) = none) :
    doAppend rq s = complete rq (appendRows rq x s).1 0 (appendRows rq x s).2 := by
  simp only [doAppend, withArena_own _ hx ht, hr, hw, hb, hp, hf, Bool.false_eq_true, if_false]

/-- A COMMIT of distinct written slots at next_pos, within one stripe whose pages are mapped, begins to copy (R149). -/
theorem doCommit_accepted (hn : coCount rq.body ≠ 0)
    (hs : coBase rq.body + coCount rq.body ≤ (coBase rq.body / arStripe x.desc + 1) * arStripe x.desc)
    (hm : (layerHeads x.desc).any (fun lg => (List.range (coCount rq.body)).any (fun i =>
      (posPage s x.desc lg.1 lg.2 (coBase rq.body + i)).isNone)) = false)
    (hb : coBase rq.body = x.nextPos) (hk : (coSlots rq.body).all (fun k => decide (k < 64)) = true)
    (hd : (coSlots rq.body).eraseDups.length = coCount rq.body)
    (hw : (layerHeads x.desc).any (fun lg =>
      (coSlots rq.body).any (fun k => !(x.slots.contains (slotKey lg.1 lg.2 k)))) = false)
    (hc : x.copying = none) :
    doCommit rq s = (
      let y : Arena := { x with
        copying := some (s.accCtr + 1, s.time + 1000 + ceilDiv (commitBytes x.desc (coCount rq.body)) 100) }
      complete rq .ok (s.accCtr + 1) { s with
        accCtr := s.accCtr + 1, arenas := tset s.arenas (attnArena rq.body) y,
        commits := tset s.commits (s.accCtr + 1) ⟨rq, s.time⟩ }) := by
  have slots : (coSlots rq.body).any (fun k => decide (64 ≤ k)) = false := by
    simpa [List.any_eq_false] using hk
  simp only [doCommit, withArena_own _ hx ht, if_neg hn, Nat.not_lt.mpr hs, hm, eq_true hb, slots, hd, hw, hc, ne_eq,
    not_true_eq_false, Option.isSome_none, Bool.false_eq_true, or_self, if_false, nextAcc]

end

/-- A COMMIT whose extents are near, and which asks for no signal, ends with its rows copied and its slots emptied (R150). -/
theorem doCommitPublish_unsignalled {acc : Nat} {p : Posted} {x : Arena} {s : State} (hp : tget s.commits acc = some p)
    (hx : tget s.arenas (attnArena p.req.body) = some x) (hf : commitFar s x.desc p.req.body = [])
    (hs : bit p.req.body 303 = false) :
    doCommitPublish acc s = (
      let u := commitCopies p.req x.desc s
      bump 0x5011 4 (coCount p.req.body) { u with
        arenas := tset u.arenas (attnArena p.req.body) { advanceGen x with
          nextPos := nextOwn x.desc (x.nextPos + coCount p.req.body), copying := none },
        commits := terase u.commits acc }) := by
  simp only [doCommitPublish, hp, hx, hf, hs, List.isEmpty_nil, Bool.not_true, Bool.false_eq_true, if_false]

/-- Settles O32: each request is served by its act, all but the activation on an arena of the request's tenant; the end of a
COMMIT finds its request and its arena. -/
theorem arenaCommandsComplete : Obligations.ArenaCommandsComplete := by
  refine ⟨?activate, ?deactivate, ?discard, ?append, ?commit, ?publish⟩
  case activate =>
    intro h body s t rq ha hx hf hb d hl hz hv
    obtain ⟨rfl, rfl⟩ := admitted_hdr_body ha
    exact admitted_completes ha (doArenaActivate_valid hx rfl hf hb rfl hl hz hv)
  case deactivate =>
    intro h body x s t rq ha hx ht hi
    obtain ⟨rfl, rfl⟩ := admitted_hdr_body ha
    exact admitted_completes ha (doArenaDeactivate_idle hx ht hi)
  case discard =>
    intro h body x s t rq ha hx ht hc
    obtain ⟨rfl, rfl⟩ := admitted_hdr_body ha
    exact admitted_completes ha (doDiscard_settled hx ht hc)
  case append =>
    intro h body x s t rq ha hx ht hr hw hb hp hf hok
    obtain ⟨rfl, rfl⟩ := admitted_hdr_body ha
    refine admitted_completes ha ?_
    rw [doAppend_stored hx ht hr hw hb hp hf, hok]
  case commit =>
    intro h body x s t rq ha hx ht hn hs hm hb hk hd hw hc
    obtain ⟨rfl, rfl⟩ := admitted_hdr_body ha
    exact admitted_completes ha (doCommit_accepted hx ht hn hs hm hb hk hd hw hc)
  case publish =>
    exact fun acc p x s hp hx hf hs => congrArg Host.Outcome.next (doCommitPublish_unsignalled hp hx hf hs)

/-- Settles O59: the copy of a COMMIT alone decides whether the slots are emptied. -/
theorem discardEmptiesSlots : Obligations.DiscardEmptiesSlots := by
  intro h body x s t rq ha hx ht
  obtain ⟨rfl, rfl⟩ := admitted_hdr_body ha
  refine ⟨fun hc => ?_, fun hc => admitted_completes ha (doDiscard_copying hx ht hc)⟩
  exact ⟨_, admitted_completes ha (doDiscard_settled hx ht hc), tget_tset_self ..⟩

/-! ## ATTEND: acceptance, dispatch and hold (R155 to R157) -/

/-- An ATTEND with heads and positions, in order, of the arena's tenant, on handles that are bound and can take a call, is
accepted (R155). -/
theorem doAttend_accepted {rq : Req} {x : Arena} {s : State} (hx : tget s.arenas (attnArena rq.body) = some x)
    (hh : atHeads rq.body ≠ 0) (hp : atPos rq.body ≠ 0) (hr : attendRefused s x.desc rq.body = false)
    (ht : x.tenant = rq.hdr.tenant) (hb : (attendHandles x.desc rq.body).any (fun h => (tget s.handles h).isNone) = false)
    (hn : attendNotReady s (attendHandles x.desc rq.body) = none)
    (hf : attendFull s (attendHandles x.desc rq.body) = false) :
    doAttend rq s = acceptAttend rq (attendHandles x.desc rq.body) s := by
  simp only [doAttend, hx, hh, hp, hr, ht, hb, hn, hf, ne_eq, not_true_eq_false, Bool.false_eq_true, or_self, if_false]

/-- Inline queries are taken from the body (R157). -/
theorem doAttendDispatch_inline {acc : Nat} {q : Remote} {y : Attend} {x : Arena} {s : State}
    (hy : tget s.attends acc = some y) (hx : tget s.arenas (attnArena y.posted.req.body) = some x) (hst : y.st = 0)
    (hq : atInline y.posted.req.body = true) :
    doAttendDispatch acc q s = (
      let b := y.posted.req.body
      bindAttend acc { y with
        armed := mergesHere x.desc b,
        queries := bits b (8 * (queriesAt b + queryBytes x.desc b) - 1) (8 * queriesAt b) } x s) := by
  simp only [doAttendDispatch, hy, hx, hst, hq, ne_eq, not_true_eq_false, if_false, if_true]

/-- An ATTEND that nothing holds binds to the arena as it stands (R157). -/
theorem bindAttend_free {acc : Nat} {y : Attend} {x : Arena} {s : State} (hm : mustHold x y.posted.req.body = false) :
    bindAttend acc y x s = { s with
      attends := tset s.attends acc { y with st := 2, nextPos := x.nextPos, gen := x.gen } } := by
  simp only [bindAttend, hm, Bool.false_eq_true, if_false]

theorem withHeld_held {acc : Nat} {y : Attend} {x : Arena} {s : State} (act : Attend → Arena → State → State)
    (hy : tget s.attends acc = some y) (hx : tget s.arenas (attnArena y.posted.req.body) = some x) (hst : y.st = 1) :
    withHeld acc act s = act y x s := by
  simp only [withHeld, hy, hx, hst, if_true]

/-! ## The partial (R158 to R162) -/

section
variable {acc : Nat} {y : Attend} {x : Arena} {s : State} (hy : tget s.attends acc = some y)
  (hx : tget s.arenas (attnArena y.posted.req.body) = some x) (hst : y.st = 2) (hw : y.written = false)
  (hu : y.unread = false)
include hy hx hst hw hu

/-- A failure of a tile, or one of its own, makes the partial say INTERNAL (R162). -/
theorem doPartialWritten_failed {failed : Bool} (hf : failed = true ∨ y.failed = true) :
    doPartialWritten acc failed s = headerOnly acc y x.desc .internal 0 s := by
  simp only [doPartialWritten, hy, hx, hst, hw, hu, hf, ne_eq, not_true_eq_false, Bool.false_eq_true, or_self, if_false,
    if_true]

/-- Rows that can be read, for a partial whose place is near, are combined once no owner of their lines is asked (R161). -/
theorem doPartialWritten_read {ls : List Nat} {q : State} (hf : y.failed = false)
    (hr : (commandRows s x.desc y).all (fun r => !(rowState s r).far) = true)
    (ho : farOut s (partialAt x.desc y.posted.req.body) (blockSize x.desc (records x.desc y.posted.req.body)) = [])
    (hl : commandLines x.desc y (commandRows s x.desc y) = ls) (hq : poisonDead ls s = q) (hp : peekWait acc ls q = none) :
    doPartialWritten acc false s =
      writePartial acc y x.desc (commandRows q x.desc y) (unpeek acc (settleLines acc q)) := by
  have near : (commandRows s x.desc y).filter (fun r => (rowState s r).far) = [] := by
    simpa [List.filter_eq_nil_iff] using hr
  simp only [doPartialWritten, hy, hx, hst, hw, hu, hf, near, ho, hl, hq, hp, ne_eq, not_true_eq_false, Bool.false_eq_true,
    or_self, List.isEmpty_nil, Bool.not_true, if_false]

end

/-! ## The merge (R164 to R166) -/

theorem withMerge_armed {acc : Nat} {y : Attend} {x : Arena} {s : State} (act : Attend → Nat → State → State)
    (hy : tget s.attends acc = some y) (hx : tget s.arenas (attnArena y.posted.req.body) = some x) (ha : y.armed = true) :
    withMerge acc act s = act y x.desc s := by
  simp only [withMerge, hy, hx, ha, if_true]

/-- Once merge_sync counts every member, blocks that are near and that no owner is asked for are combined (R164). -/
theorem doMerge_reached {acc d : Nat} {y : Attend} {s q : State} {ls : List Nat}
    (hm : arMembers d ≤ (syncObj s (atSync y.posted.req.body)).value)
    (hf : farExtents s (blockAt y.posted.req.body 0) (atStride y.posted.req.body * arMembers d) = [])
    (ho : farOut s (atOut y.posted.req.body) (blockSize d (records d y.posted.req.body)) = [])
    (hl : linesOf (blockAt y.posted.req.body 0) (atStride y.posted.req.body * arMembers d) = ls)
    (hq : poisonDead ls s = q) (hp : peekWait acc ls q = none) :
    doMerge acc y d s = mergePartials acc y d (unpeek acc (settleLines acc q)) := by
  simp only [doMerge, Nat.not_lt.mpr hm, hf, ho, hl, hq, hp, List.isEmpty_nil, Bool.not_true, Bool.false_eq_true, if_false]

/-- Settles O33: an ATTEND is served by its act; each later step finds the ATTEND, in the state that it is for, and its arena.
How a partial's rows are divided into chunks, and whose tiles hold their flags, is the model's choice (log entries 76 and 77). -/
theorem attentionCommandsComplete : Obligations.AttentionCommandsComplete := by
  refine ⟨?attend, ?dispatch, ?bind, ?expired, ?read, ?failed, ?reached, ?timeout⟩
  case attend =>
    intro h body x s t rq ha hx hh hp hr ht hb hn hf
    obtain ⟨rfl, rfl⟩ := admitted_hdr_body ha
    exact admitted_completes ha (doAttend_accepted hx hh hp hr ht hb hn hf)
  case dispatch => exact fun acc q y x s hy hx hst hq => congrArg Host.Outcome.next (doAttendDispatch_inline hy hx hst hq)
  case bind =>
    intro acc y x s hy hx hst hm
    refine congrArg Host.Outcome.next ((withHeld_held _ hy hx hst).trans ?_)
    rw [hm, if_neg Bool.false_ne_true, bindAttend_free hm]
  case expired => exact fun acc y x s hy hx hst => congrArg Host.Outcome.next (withHeld_held _ hy hx hst)
  case read =>
    exact fun acc y x s hy hx hst hw hu hf hr ho hp =>
      congrArg Host.Outcome.next (doPartialWritten_read hy hx hst hw hu hf hr ho rfl rfl hp)
  case failed =>
    exact fun acc y x s hy hx hst hw hu => congrArg Host.Outcome.next (doPartialWritten_failed hy hx hst hw hu (.inl rfl))
  case reached =>
    exact fun acc y x s hy hx ha hm hf ho hp =>
      congrArg Host.Outcome.next ((withMerge_armed _ hy hx ha).trans (doMerge_reached hm hf ho rfl rfl hp))
  case timeout =>
    exact fun acc y x s hy hx ha hm =>
      congrArg Host.Outcome.next ((withMerge_armed _ hy hx ha).trans (if_neg (Nat.not_le.mpr hm)))

end Sys2Proof.Machine

/-! # Memory requests -/

namespace Sys2Proof.Machine

/-! ## A request without a cache, over lines that no agent holds (R335, R349, R570) -/

section
variable {s : State} {ls : List Nat} (hu : s.unrebuilt = []) (hd : ∀ l ∈ ls, tget s.dir l = none)

include hd in
theorem readSnoops_unheld : readSnoops s ls = [] := by
  refine List.filterMap_eq_nil_iff.mpr fun l hl => ?_
  rw [hd l hl]

include hd in
theorem writeSnoops_unheld : writeSnoops s ls = [] := by
  rw [writeSnoops]
  induction ls with
  | nil => rfl
  | cons l ls ih => rw [List.foldr_cons, hd l List.mem_cons_self, ih fun x hx => hd x (List.mem_cons_of_mem _ hx)]

include hu hd in
/-- With nothing to rebuild and no owner that could be dead, lines are accessed as they stand. -/
theorem poisonDead_unheld : poisonDead ls s = s := by
  rw [poisonDead, rebuildLines, hu, if_pos List.isEmpty_nil]
  clear hu
  induction ls with
  | nil => rfl
  | cons l ls ih =>
    rw [List.foldl_cons, hd l List.mem_cons_self]
    exact ih fun x hx => hd x (List.mem_cons_of_mem _ hx)

include hu hd in
/-- Where nobody is asked, the request goes on; a write frees the lines' entries (R335). -/
theorem withSnoops_unheld (rq : Req) (write : Bool) (act : State → State) :
    withSnoops rq ls write act s = act (if write then ls.foldl (fun s l => dropDir l s) s else s) := by
  have alone : (if write then writeSnoops s ls else readSnoops s ls) = [] := by
    rw [writeSnoops_unheld hd, readSnoops_unheld hd, ite_self]
  simp only [withSnoops, poisonDead_unheld hu hd, alone, List.isEmpty_nil, if_true]

end

/-! ## Reads (R193, R361) -/

section
variable {rq : Req} {s : State}

/-- The home's answer to a read of near and good lines. -/
theorem finishRead_near (hf : ∀ l ∈ linesOf rq.hdr.offset (64 * rq.hdr.length), isFar s (extentOf (64 * l)) = false)
    (hb : ∀ l ∈ linesOf rq.hdr.offset (64 * rq.hdr.length), lineBad s l = false) :
    finishRead rq [] false s = completeWith rq .ok 0 0 rq.hdr.length
      (linesData s [] (linesOf rq.hdr.offset (64 * rq.hdr.length))) none
      (touch rq.hdr.offset (64 * rq.hdr.length) s) := by
  have near : (linesOf rq.hdr.offset (64 * rq.hdr.length)).filter (fun l => !isFar s (extentOf (64 * l))) =
      linesOf rq.hdr.offset (64 * rq.hdr.length) := List.filter_eq_self.mpr fun l hl => by simp [hf l hl]
  have good : (linesOf rq.hdr.offset (64 * rq.hdr.length)).any (lineBad s) = false := by simpa using hb
  simp only [finishRead, near, good, Bool.false_eq_true, or_self, if_false, lt_self_iff_false]

/-- A read of near lines decodes them, asks no owner, and answers what the homes hold then. -/
theorem startRead_near {u : State} (hl : 0 < rq.hdr.length) (hp : rq.hdr.offset < pageBase)
    (hu : decodeLines rq.found rq.hdr.offset (64 * rq.hdr.length) s = u)
    (h : ∀ l ∈ linesOf rq.hdr.offset (64 * rq.hdr.length), isFar s (extentOf (64 * l)) = false ∧
      isFar u (extentOf (64 * l)) = false ∧ tget u.dir l = none ∧ lineBad u l = false)
    (hr : u.unrebuilt = []) :
    startRead rq s = completeWith rq .ok 0 0 rq.hdr.length
      (linesData u [] (linesOf rq.hdr.offset (64 * rq.hdr.length))) none
      (touch rq.hdr.offset (64 * rq.hdr.length) u) := by
  have nonempty : 64 * rq.hdr.length ≠ 0 := by omega
  have noFar : (linesOf rq.hdr.offset (64 * rq.hdr.length)).filter (fun l => isFar s (extentOf (64 * l))) = [] :=
    List.filter_eq_nil_iff.mpr fun l hl => by simp [(h l hl).1]
  have near : (linesOf rq.hdr.offset (64 * rq.hdr.length)).filter (fun l => !isFar u (extentOf (64 * l))) =
      linesOf rq.hdr.offset (64 * rq.hdr.length) := List.filter_eq_self.mpr fun l hl => by simp [(h l hl).2.1]
  rw [startRead, if_neg nonempty, if_neg (Nat.not_le.mpr hp)]
  simp only [noFar, List.isEmpty_nil, if_true, hu, near]
  rw [withSnoops_unheld hr fun l hl => (h l hl).2.2.1]
  exact finishRead_near (fun l hl => (h l hl).2.1) fun l hl => (h l hl).2.2.2

/-! ## Writes (R184, R206, R360, R361) -/

/-- A write of near lines that no cache holds, outside the copies of protected objects, with its frames free, is performed. -/
theorem startWrite_near (hl : 0 < rq.hdr.length) (hp : rq.hdr.offset < pageBase)
    (hm : (extentsOf rq.hdr.offset (64 * rq.hdr.length)).any (isMirror s) = false)
    (hf : farExtents s rq.hdr.offset (64 * rq.hdr.length) = [])
    (hfree : framesFree s (framesNeeded s rq.hdr.offset (64 * rq.hdr.length)) = true)
    (hd : ∀ l ∈ linesOf rq.hdr.offset (64 * rq.hdr.length), tget s.dir l = none) (hu : s.unrebuilt = []) :
    startWrite rq s =
      finishWrite rq ((linesOf rq.hdr.offset (64 * rq.hdr.length)).foldl (fun u l => dropDir l u) s) := by
  have nonempty : 64 * rq.hdr.length ≠ 0 := by omega
  rw [startWrite, if_neg nonempty, if_neg (Nat.not_le.mpr hp)]
  simp only [hm, hf, hfree, Bool.false_eq_true, false_and, List.isEmpty_nil, Bool.not_true, if_false]
  rw [withSnoops_unheld hu hd, if_pos rfl]

theorem doWrite_below (hp : rq.hdr.offset < pageBase) : doWrite rq s = startWrite rq s :=
  if_neg fun h => Nat.not_le.mpr hp h.1

/-- An ordered request starts at once where its requester has no write open. -/
theorem orderedStart_first (h : openWrites s rq.hdr.requester = []) : orderedStart rq s = startOp rq s := by
  simp only [orderedStart, h, List.isEmpty_nil, if_true]

end

/-! ## The requests of the links, and of the windows (R52, R388) -/

/-- What R41 lets through is the request that came, but for the mark of its demotion. -/
theorem admitted_fields {op body data n charge : Nat} {h : Hdr} {found : List (Nat × Nat)} {demoted : Bool} {c : Checks}
    {s t : State} {rq : Req} (e : admitted ⟨op, h, body, data, found, demoted⟩ c n charge s = some (rq, t)) :
    rq.op = op ∧ h = rq.hdr ∧ data = rq.data ∧ found = rq.found := by
  rw [admitted_req e]
  exact ⟨rfl, rfl, rfl, rfl⟩

theorem windowTile_below {off tile : Nat} (h : windowTile off = some tile) : off < pageBase := by
  rw [windowTile, Option.ite_none_right_eq_some] at h
  obtain ⟨⟨-, below⟩, -⟩ := h
  exact below.trans (by decide)

/-- A write of a window is a WRITE, a read of it a READ. -/
theorem execScratchpadWindowAccess_eq {w : WindowAccess} {s : State} {tile : Nat} (h : windowTile w.hdr.offset = some tile) :
    execScratchpadWindowAccess w s = if w.write then execWrite w.hdr w.data s else execRead w.hdr [] s := by
  simp only [execScratchpadWindowAccess, h, Option.isNone_some, Bool.false_eq_true, if_false, execWrite, execRead]
  split <;> rfl

/-- A READ of near, good lines that no agent owns. -/
theorem execRead_near {h : Hdr} {found : List (Nat × Nat)} {s t : State} {rq : Req}
    (ha : admitted ⟨0x01, h, 0, 0, found, false⟩ (memChecks s h 0) 0 (max 64 (64 * h.length)) s = some (rq, t))
    (hl : 0 < h.length) (hp : h.offset < pageBase) :
    let ls := linesOf h.offset (64 * h.length)
    let u := decodeLines found h.offset (64 * h.length) t
    (∀ l ∈ ls, isFar t (extentOf (64 * l)) = false ∧ isFar u (extentOf (64 * l)) = false ∧ tget u.dir l = none ∧
      lineBad u l = false) → u.unrebuilt = [] →
    execRead h found s =
      .next (completeWith rq .ok 0 0 h.length (linesData u [] ls) none (touch h.offset (64 * h.length) u)) := by
  intro ls u near hu
  obtain ⟨-, rfl, -, rfl⟩ := admitted_fields ha
  exact admitted_completes ha (startRead_near hl hp rfl near hu)

/-- A WRITE of near lines that no cache holds. -/
theorem execWrite_near {h : Hdr} {data : Nat} {s t : State} {rq : Req}
    (ha : admitted ⟨0x03, h, 0, data, [], false⟩ (memChecks s h 1) (64 * h.length) (max 64 (64 * h.length)) s = some (rq, t))
    (hl : 0 < h.length) (hp : h.offset < pageBase) (hm : (extentsOf h.offset (64 * h.length)).any (isMirror t) = false)
    (hf : farExtents t h.offset (64 * h.length) = [])
    (hfree : framesFree t (framesNeeded t h.offset (64 * h.length)) = true)
    (hd : ∀ l ∈ linesOf h.offset (64 * h.length), tget t.dir l = none) (hu : t.unrebuilt = []) :
    execWrite h data s =
      .next (finishWrite rq ((linesOf h.offset (64 * h.length)).foldl (fun u l => dropDir l u) t)) := by
  obtain ⟨-, rfl, -, -⟩ := admitted_fields ha
  exact admitted_completes ha ((doWrite_below hp).trans (startWrite_near hl hp hm hf hfree hd hu))

/-- A WRITE_REL of near lines that no cache holds, its requester's earlier writes performed. -/
theorem execWriteRel_near {h : Hdr} {data : Nat} {s t : State} {rq : Req}
    (ha : admitted ⟨0x04, h, 0, data, [], false⟩ (memChecks s h 1) (64 * h.length) (max 64 (64 * h.length)) s = some (rq, t))
    (hl : 0 < h.length) (hp : h.offset < pageBase) (hw : openWrites t h.requester = [])
    (hm : (extentsOf h.offset (64 * h.length)).any (isMirror t) = false)
    (hf : farExtents t h.offset (64 * h.length) = [])
    (hfree : framesFree t (framesNeeded t h.offset (64 * h.length)) = true)
    (hd : ∀ l ∈ linesOf h.offset (64 * h.length), tget t.dir l = none) (hu : t.unrebuilt = []) :
    execWriteRel h data s =
      .next (finishWrite rq ((linesOf h.offset (64 * h.length)).foldl (fun u l => dropDir l u) t)) := by
  obtain ⟨op, rfl, -, -⟩ := admitted_fields ha
  have starts : startOp rq t = startWrite rq t := by simp only [startOp, op]
  exact admitted_completes ha (((orderedStart_first hw).trans starts).trans (startWrite_near hl hp hm hf hfree hd hu))

/-- Settles O9: a read or a write that no directory entry stands in the way of is performed at the homes; one that is ordered
finds no earlier write, and one of a window is the same request. -/
theorem memoryRequestsComplete : Obligations.MemoryRequestsComplete := by
  refine ⟨?read, ?readAcq, ?write, ?writeRel, ?windowRead, ?windowWrite⟩
  case read => exact fun h found s t rq ha hl hp => execRead_near ha hl hp
  case readAcq =>
    intro h found s t rq ha hl hp hw ls u near hu
    obtain ⟨op, rfl, -, rfl⟩ := admitted_fields ha
    have starts : startOp rq t = startRead rq t := by simp only [startOp, op]
    exact admitted_completes ha (((orderedStart_first hw).trans starts).trans (startRead_near hl hp rfl near hu))
  case write =>
    intro h data s t rq ha hl hp hm hf hfree hd hu
    refine (execWrite_near ha hl hp hm hf hfree hd hu).trans ?_
    obtain ⟨-, rfl, rfl, -⟩ := admitted_fields ha
    rfl
  case writeRel =>
    intro h data s t rq ha hl hp hw hm hf hfree hd hu
    refine (execWriteRel_near ha hl hp hw hm hf hfree hd hu).trans ?_
    obtain ⟨-, rfl, rfl, -⟩ := admitted_fields ha
    rfl
  case windowRead =>
    intro w s t rq tile hw hr ha hl ls u near hu
    refine (execScratchpadWindowAccess_eq hw).trans ?_
    rw [hr, if_neg Bool.false_ne_true]
    exact execRead_near ha hl (windowTile_below hw) near hu
  case windowWrite =>
    intro w s t rq tile hw hr ha hl hm hf hfree hd hu
    refine (execScratchpadWindowAccess_eq hw).trans ?_
    rw [hr, if_pos rfl, execWrite_near ha hl (windowTile_below hw) hm hf hfree hd hu]
    obtain ⟨-, h, d, -⟩ := admitted_fields ha
    rw [h, d]
    rfl

end Sys2Proof.Machine

/-! # What a write stores -/

namespace Sys2Proof.Machine

/-! ## Bytes of memory -/

theorem readMem_byte (s : State) (a : Nat) : readMem s a 1 = (readCell s.mem a).toNat := by
  simp [readMem, readCells]

/-- In canonical memory, the bytes of a number are read back, and no other has changed (R6). -/
theorem readCell_writeCells_toBytes {m : List Host.Cell} (hm : Memory.wf m) (n off v a : Nat) :
    readCell (writeCells m off (toBytes n v)) a =
      if off ≤ a ∧ a < off + n then BitVec.ofNat 8 (v / 2 ^ (8 * (a - off))) else readCell m a := by
  induction n generalizing m off v with
  | zero => rw [if_neg (by omega)]; rfl
  | succ n ih =>
    rw [toBytes, writeCells, ih (writeCell_wf _ _ hm)]
    rcases Nat.lt_trichotomy a off with h | rfl | h
    · rw [if_neg (by omega), if_neg (by omega), readCell_writeCell_of_ne _ _ (by omega)]
    · rw [if_neg (by omega), if_pos (by omega), readCell_writeCell_self hm, Nat.sub_self, Nat.mul_zero, Nat.pow_zero,
        Nat.div_one]
    · by_cases hi : a < off + (n + 1)
      · have shift : 8 * (a - off) = 8 + 8 * (a - (off + 1)) := by omega
        rw [if_pos (by omega), if_pos (by omega), Nat.div_div_eq_div_mul, shift, Nat.pow_add]
      · rw [if_neg (by omega), if_neg (by omega), readCell_writeCell_of_ne _ _ (by omega)]

/-! ## What a store leaves (R170, R184) -/

section
variable (s : State)

theorem storeRoom_placed (line : Nat) : (storeRoom line s).placed = s.placed := by
  unfold storeRoom
  split
  · rfl
  · dsimp only
    split
    · rfl
    · split <;> rfl

theorem storeWrite_placed (line : Nat) : (storeWrite line s).placed = s.placed := by
  unfold storeWrite
  split
  · split
    · rfl
    · split <;> rfl
  · split
    · rfl
    · exact storeRoom_placed s line

theorem storeBytes_placed (off n v : Nat) : (storeBytes off n v s).placed = s.placed :=
  List.foldlRecOn (motive := fun u : State => u.placed = s.placed) (linesOf off n) _ rfl
    fun u h l _ => (storeWrite_placed u l).trans h

theorem storeBytes_shadows (off n v : Nat) : (storeBytes off n v s).shadows = s.shadows :=
  ((keeps_storeBytes off n v s (.refl s) : Keeps ⟨true, false, true, true, true, true⟩ s _).maps rfl).1

/-- A store puts the bytes of its number into memory. -/
theorem storeBytes_mem (off n v : Nat) : (storeBytes off n v s).mem = writeCells s.mem off (toBytes n v) := by
  have cached : ((linesOf off n).foldl (fun s l => storeWrite l s) s).mem = s.mem :=
    ((keeps_foldl _ (fun w l => keeps_storeWrite l w) _ s (.refl s) : Keeps ⟨true, true, true, true, true, true⟩ s _).memory
      rfl).1
  exact congrArg (writeCells · off (toBytes n v)) cached

/-- Taking frames changes no object, no shadow and no byte. -/
theorem takeFrames_leaves (off n : Nat) :
    (takeFrames off n s).placed = s.placed ∧ (takeFrames off n s).shadows = s.shadows ∧
      (takeFrames off n s).mem = s.mem := by
  refine List.foldlRecOn (motive := fun u : State => u.placed = s.placed ∧ u.shadows = s.shadows ∧ u.mem = s.mem)
    (framesNeeded s off n) _ ⟨rfl, rfl, rfl⟩ fun u h e _ => ?_
  split <;> exact h

end

/-! ## Stale bits (R202) -/

section
variable {s u : State} (hp : u.placed = s.placed) (hs : u.shadows = s.shadows)

include hp hs in
theorem shadowAt_congr (off : Nat) : shadowAt u off = shadowAt s off := by
  simp only [shadowAt, objectAt, hp, hs]

include hp in
theorem staleAt_congr (d unit : Nat) : staleAt u d unit = staleAt s d unit := by
  simp only [staleAt, shBase, hp]

include hp hs in
theorem staleBytes_congr (off n : Nat) : staleBytes u off n = staleBytes s off n := by
  simp only [staleBytes, shadowAt_congr hp hs, staleAt_congr hp]

end

/-- Setting the stale bits of what a write touches changes the bytes that hold them, and no other. -/
theorem readCell_setStale {s : State} {off n a : Nat} (ha : a ∉ staleBytes s off n) :
    readCell (setStale (linesOf off n) s).mem a = readCell s.mem a := by
  refine (List.foldlRecOn (motive := fun u : State => u.placed = s.placed ∧ u.shadows = s.shadows ∧
    readCell u.mem a = readCell s.mem a) (linesOf off n) _ ⟨rfl, rfl, rfl⟩ fun u ⟨hp, hs, hm⟩ l hl => ?_).2.2
  rw [shadowAt_congr hp hs]
  split
  · exact ⟨hp, hs, hm⟩
  · next sh unit h =>
    have other : staleAt u sh.desc unit ≠ a := fun e =>
      ha (List.mem_filterMap.mpr ⟨l, hl, by rw [h, ← e, staleAt_congr hp]; rfl⟩)
    dsimp only
    split
    · exact ⟨hp, hs, hm⟩
    · refine ⟨(storeBytes_placed ..).trans hp, (storeBytes_shadows ..).trans hs, Eq.trans ?_ hm⟩
      rw [storeBytes_mem, toBytes, toBytes, writeCells, writeCells, readCell_writeCell_of_ne _ _ other]

/-! ## A write of whole lines (R202, R360) -/

/-- In canonical memory, a performed write stores its data byte for byte, and changes no other byte but those of stale bits. -/
theorem readMem_finishWrite {rq : Req} {s : State} (hm : Memory.wf s.mem) {a : Nat}
    (ha : a ∉ staleBytes s rq.hdr.offset (64 * rq.hdr.length)) :
    readMem (finishWrite rq s) a 1 = if rq.hdr.offset ≤ a ∧ a < rq.hdr.offset + 64 * rq.hdr.length then
        rq.data / 2 ^ (8 * (a - rq.hdr.offset)) % 256
      else readMem s a 1 := by
  rw [finishWrite]
  generalize rq.hdr.offset = off at *
  generalize 64 * rq.hdr.length = n at *
  obtain ⟨placed, shadows, mem⟩ := takeFrames_leaves s off n
  have completed (ks : NSet) (w : State) : (completeCopied rq .ok 0 ks w).mem = w.mem :=
    ((keeps_completeCopied rq .ok 0 ks w (.refl w) : Keeps ⟨true, true, true, true, true, true⟩ w _).memory rfl).1
  have sent (old : Nat) (w : State) : (sendCopies rq off n old rq.data (touch off n w)).mem = w.mem :=
    ((keeps_sendCopies rq off n old rq.data _ (keeps_touch off n w (.refl w)) :
      Keeps ⟨true, true, true, true, true, true⟩ w _).memory rfl).1
  have stored : (cleanLines (linesOf off n) (storeBytes off n rq.data (takeFrames off n s))).mem =
      writeCells s.mem off (toBytes n rq.data) := by
    rw [← mem]
    exact storeBytes_mem ..
  rw [← staleBytes_congr (u := cleanLines (linesOf off n) (storeBytes off n rq.data (takeFrames off n s)))
    ((storeBytes_placed _ off n rq.data).trans placed) ((storeBytes_shadows _ off n rq.data).trans shadows)] at ha
  rw [readMem_byte, readMem_byte, completed, storeLines, sent, readCell_setStale ha, stored,
    readCell_writeCells_toBytes hm]
  split
  · exact BitVec.toNat_ofNat ..
  · rfl

/-! ## A write into memory that is not in canonical form -/

/-- A package that serves requests in sender-trusted mode, and whose memory lists the byte at 0x1000 twice: not in canonical
form. -/
def doubledByte : State := { State.reset with
  pkg := .ready
  links := [(0, { Link.idle with st := .up, lanes := 8 })]
  objs := [(0x102006, 0x10000000000), (0x102102, 0x7F00000000), (0x702003, 1), (0x703102, 0)]
  compTab := [(0, ⟨false, 7, 1, 20, 0, 0, 0⟩)]
  comps := [(1, Comp.fresh 3)]
  doms := (List.range 28).map (fun d => (d, { Domain.off with st := 0 }))
  mem := [(0x1000, 1), (0x1000, 1)] }

/-- A request for the line at 0x1000. -/
def doubledHdr : Hdr := ⟨.link 0, 1, 5, 3, 20, 7, 0, 0, 0x1000, 1, 0⟩

/-- The WRITE of a line of zeros, as it was counted. -/
def zeroWrite : Req := ⟨0x03, doubledHdr, 0, 0, [], false⟩

/-- R41 lets the WRITE through. -/
theorem zeroWrite_admitted : admitted zeroWrite (memChecks doubledByte doubledHdr 1) 64 64 doubledByte =
    some (zeroWrite, meterIn zeroWrite 64 doubledByte) := by decide +kernel

/-- The byte still reads as 1 afterwards: a zero drops the first cell of its address alone. -/
theorem zeroWrite_leaves_byte : readMem (serveWrite 0x03 doubledHdr 0 doWrite doubledByte) 0x1000 1 = 1 := by decide +kernel

/-- Refutes O55: the statement does not ask for a sound state. In a memory that lists a byte twice, a WRITE of zeros takes one
cell away and the other is read. In canonical memory, and so in every state that the steps reach, a write stores its bytes and
leaves the others: `readMem_finishWrite`. -/
theorem not_writeStoresItsBytes : ¬ Obligations.WriteStoresItsBytes := by
  intro h
  obtain ⟨v, run, stored⟩ := h 0x03 doubledHdr 0 doubledByte _ _ zeroWrite_admitted (by decide) (by decide) (.inl rfl)
    (by decide +kernel) (by decide +kernel) (by decide +kernel) (by decide +kernel) rfl
  obtain rfl : serveWrite 0x03 doubledHdr 0 doWrite doubledByte = v := Host.Outcome.next.inj run
  have zero := stored 0x1000 (by decide +kernel)
  rw [zeroWrite_leaves_byte] at zero
  exact absurd zero (by decide)

end Sys2Proof.Machine

/-! # Placement and migration -/

namespace Sys2Proof.Machine

/-! ## Placement commands (R179 to R185, R204) -/

/-- A placement command that passes the checks of R181 joins the queue, and answers its acceptance identifier. -/
theorem doPlace_accepted {rq : Req} {s : State} (hr : bit rq.body 80 = true → recordAt s (bits rq.body 79 32) 32 = true)
    (hd : drainRefuses s rq.body = false) (hc : placeChecks s rq.body rq.hdr.tenant = none)
    (hl : placeLengths s rq.body = false) (hn : plOp rq.body = 4 ∨ plOp rq.body = 7 → plCount rq.body ≠ 0)
    (hq : s.placeQ.length < 256) :
    doPlace rq s = complete rq .ok (s.accCtr + 1) { s with
      accCtr := s.accCtr + 1, placeQ := s.placeQ ++ [⟨s.accCtr + 1, rq, s.time, false, []⟩] } := by
  have named : ¬ ((plOp rq.body = 4 ∨ plOp rq.body = 7) ∧ plCount rq.body = 0) := fun h => hn h.1 h.2
  simp only [doPlace, record_allowed hr, hd, hc, hl, named, Nat.not_le.mpr hq, nextAcc, Bool.false_eq_true, or_self, if_false]

/-- The command that is first on its object or shadow executes, a SHADOW_RETIRE once no substitution is in flight. -/
theorem doPlacementExecute_first {acc : Nat} {peers : List Nat} {c : PlaceCmd} {s u : State} {st : Status} {w : NSet}
    (hc : s.placeQ.find? (fun c => c.acc == acc && !c.executed) = some c)
    (hq : s.placeQ.any (fun x => decide (x.acc < acc) && plNames x.req.body == plNames c.req.body) = false)
    (hs : plOp c.req.body = 6 → substituting s (plShadow c.req.body) = false)
    (hrun : runPlace c.req.body c.req.hdr.tenant peers s = (st, u, w)) :
    doPlacementExecute acc peers s = if st = .ok then settlePlacement { u with placeQ := u.placeQ.map (fun x =>
        if x.acc = acc then { x with executed := true, waits := w } else x) }
      else settlePlacement (endPlace c st u) := by
  have unused : ¬ (plOp c.req.body = 6 ∧ substituting s (plShadow c.req.body) = true) := fun h => by simp [hs h.1] at h
  simp only [doPlacementExecute, hc, hq, unused, Bool.false_eq_true, or_self, if_false, hrun]

section
variable {b tenant : Nat} {peers : List Nat} {s : State} (hc : placeChecks s b tenant = none)
include hc

theorem runPlace_deactivate (ho : plOp b = 2) :
    runPlace b tenant peers s = (.ok, copyEntry (plObject b) 0 { s with placed := terase s.placed (plObject b) }, []) := by
  simp only [runPlace, hc, ho]

theorem runPlace_shadowRetire (ho : plOp b = 6) :
    runPlace b tenant peers s = (.ok, { s with shadows := terase s.shadows (plShadow b) }, []) := by
  simp only [runPlace, hc, ho]

end

/-- Settles O29: the seven commands are served by one act, and executed by one. That commands on different objects do not wait
for each other is the model's choice (log entry 50, deduced). -/
theorem placementCommandsComplete : Obligations.PlacementCommandsComplete := by
  refine ⟨?accepted, ?executed, ?deactivate, ?retire⟩
  case accepted =>
    intro h body s t rq hr hd hc hl hn hq taken u
    have accepted {op : Nat} (ha : taken op) : Host.Outcome.next (servePlace op h body s) =
        (.next u : Host.Outcome State Fault Refusal) := by
      obtain ⟨rfl, rfl⟩ := admitted_hdr_body ha
      exact admitted_completes ha (doPlace_accepted hr hd hc hl hn hq)
    exact ⟨accepted, accepted, accepted, accepted, accepted, accepted, accepted⟩
  case executed => exact fun acc peers c s u st w hc hq hs hrun => congrArg _ (doPlacementExecute_first hc hq hs hrun)
  case deactivate => exact fun b tenant peers s hc ho => runPlace_deactivate hc ho
  case retire => exact fun b tenant peers s hc ho => runPlace_shadowRetire hc ho

/-! ## Promotions (R187, R190) -/

section
variable {ext : Nat} {m : Move} {s : State}

/-- Nothing waits for granules that are free. -/
theorem granuleWait_free (h : frameFree s (wantedLayout s ext) = true) : granuleWait ext s = s := by
  unfold granuleWait
  split
  · simp [h]
  · rfl

theorem doPromotionStart_next (hfree : frameFree s (wantedLayout s ext) = true) (hn : nextMove s = some m)
    (he : m.extent = ext) (hup : m.up = true) (hr : m.relayout = false) (hfl : inFlightMoves s < 16)
    (ha : flashAwake s = true) : doPromotionStart ext s =
      let u := modMove ext true (fun m => { m with started := some s.time }) s
      { u with extents := tmod u.extents ext (fun x => { x with st := .movingUp, slice := wantedLayout s ext }) } := by
  simp only [doPromotionStart, granuleWait_free hfree, hn, he, hup, hr, ha, Nat.not_le.mpr hfl, ne_eq, not_true_eq_false,
    Bool.not_true, Bool.false_eq_true, and_false, or_self, if_false]

/-- A promotion whose lines could all be read. -/
theorem doPromotionCommit_readable (hm : s.moves.find? (fun m => m.extent == ext && m.up && m.started.isSome) = some m)
    (hr : m.relayout = false) : doPromotionCommit ext [] s = settlePlacement (bump 0x3011 5 1 { s with
      moves := s.moves.filter (fun x => x.extent != ext || !x.up),
      extents := tmod s.extents ext (fun x => { x with st := .near, staged := false, accessed := true, idle := 0 }) }) := by
  simp only [doPromotionCommit, hm, hr, Bool.false_eq_true, if_false, List.filter_nil, List.foldl_nil, List.isEmpty_nil,
    if_true]

/-! ## Demotions (R188, R191) -/

theorem doDemotionStart_next (hn : nextMove s = some m) (he : m.extent = ext) (hup : m.up = false)
    (hfl : inFlightMoves s < 16) (ha : flashAwake s = true) : doDemotionStart ext s =
      let u := modMove ext false (fun m => { m with started := some s.time }) s
      { u with extents := tmod u.extents ext (fun x => { x with st := .movingDown }) } := by
  simp only [doDemotionStart, Nat.not_le.mpr hfl, hn, he, hup, ha, beq_self_eq_true, Bool.not_false, Bool.and_self,
    Bool.not_true, Bool.false_and, Bool.false_eq_true, if_false, if_true]

theorem doDemotionStart_evicts (hn : nextMove s = none) (he : evictable s ext = true) (hfl : inFlightMoves s < 16)
    (ha : flashAwake s = true) : doDemotionStart ext s =
      let u := sweep s
      { u with moves := u.moves ++ [⟨ext, false, false, false, some u.time, false, 0⟩],
               extents := tmod u.extents ext (fun x => { x with st := .movingDown }) } := by
  simp only [doDemotionStart, Nat.not_le.mpr hfl, hn, he, ha, Bool.not_true, Bool.and_false, Bool.false_eq_true, if_false]

/-- A demotion that no open request, directory entry or snoop holds up. -/
theorem doDemotionCommit_unheld (hx : extState s ext = some .movingDown) (ho : s.openReqs = []) (hh : heldLines s ext = [])
    (hs : s.snoops = []) : doDemotionCommit ext s =
      settlePlacement (bump 0x3011 6 1 { flushStore (fun l => l / 32768 == ext) s with
        moves := s.moves.filter (fun m => m.extent != ext || m.up),
        extents := tmod s.extents ext (fun x => { x with st := .far, staged := true }) }) := by
  simp only [doDemotionCommit, hx, ho, hh, hs, ne_eq, not_true_eq_false, List.any_nil, Bool.false_eq_true, or_self, if_false,
    List.foldl_nil, List.isEmpty_nil, Bool.not_false, and_self, if_true]

end

/-! ## What waited for the engine (R195, R208) -/

/-- A stalled access for which all has come, poisoned on its way, is done. -/
theorem resumeStall_bad {k : Nat} {x : Stall} {s : State} (hx : tget s.stalls k = some x) (hs : x.snooped = false)
    (hb : x.bad = true) (he : ∀ e ∈ x.extent, isFar s e = false) (hd : ∀ d ∈ x.dom, awake s d = true) :
    resumeStall k s = accessDone x.who 0 true { s with stalls := terase s.stalls k } := by
  rw [resumeStall, hx]
  dsimp only
  rw [if_pos ?ready, if_pos hb]
  case ready =>
    rw [hs, Bool.not_false, Bool.and_true, Bool.and_eq_true]
    constructor
    · split
      · next e h => rw [he e h, Bool.not_false]
      · rfl
    · split
      · next d h => exact hd d h
      · rfl

theorem doProtectionTimeout_unacked {n : Nat} {o : PObject} {s : State} (ho : tget s.placed n = some o)
    (hu : o.unacked ≠ 0) (hd : o.degraded = false) : doProtectionTimeout n s =
      settle (copiesDone n (raiseEvent 0x3010 8 0 (bump 0x3011 7 o.unacked
        { s with placed := tset s.placed n { o with degraded := true, unacked := 0 } }))) := by
  simp only [doProtectionTimeout, ho, hu, hd, Bool.false_eq_true, or_self, if_false]

/-- Settles O30: each command finds the move, the extent, the stall or the object that it is for. That the clock hand passes over
all NEAR extents at an eviction is the model's choice (log entry 61). -/
theorem migrationCompletes : Obligations.MigrationCompletes := by
  refine ⟨?start, ?commit, ?demote, ?evict, ?far, ?programmed, ?resume, ?timeout⟩
  case start =>
    exact fun ext m s hfree hn he hup hr hfl ha => congrArg _ (doPromotionStart_next hfree hn he hup hr hfl ha)
  case commit => exact fun ext m s hm hr => congrArg _ (doPromotionCommit_readable hm hr)
  case demote => exact fun ext m s hn he hup hfl ha => congrArg _ (doDemotionStart_next hn he hup hfl ha)
  case evict => exact fun ext s hn he hfl ha => congrArg _ (doDemotionStart_evicts hn he hfl ha)
  case far => exact fun ext s hx ho hh hs => congrArg _ (doDemotionCommit_unheld hx ho hh hs)
  case programmed => exact fun ext s ha hu => congrArg _ (if_pos ⟨ha, hu⟩)
  case resume => exact fun k x s hx hs hb he hd => by rw [← resumeStall_bad hx hs hb he hd]; rfl
  case timeout => exact fun n o s ho hu hd => congrArg _ (doProtectionTimeout_unacked ho hu hd)

end Sys2Proof.Machine

/-! # Compressed streams -/

namespace Sys2Proof.Machine

/-! ## Tables and their slots (R221 to R223) -/

/-- A stream command other than a READ reads no home at its acceptance: R41 lets it through on its fields alone. -/
theorem serveStream_admitted {op : Nat} {h : Hdr} {body : Nat} {s t u : State} {rq : Req} {act : Req → State → State}
    (hop : op ≠ 1) (ha : admitted (linkReq 0x16 h body) (postedChecks (stBad op body) none false false []) 64 64 s = some (rq, t))
    (hu : act rq t = u) : serveStream op h body act s = u := by
  simp only [serveStream, hop, false_and, if_false]
  exact (serve_admitted ha).trans hu

theorem serveStream_read_admitted {h : Hdr} {body : Nat} {s t u : State} {rq : Req} {act : Req → State → State}
    (ha : admitted (linkReq 0x16 h body) (postedChecks (stBad 1 body) none false false
      (if stOffset body + 64 ≤ memRange s then (homesOf s (stOffset body) 64).map homeDom else [])) 64 64 s = some (rq, t))
    (hu : act rq t = u) : serveStream 1 h body act s = u := by
  simp only [serveStream, true_and]
  exact (serve_admitted ha).trans hu

section
variable {rq : Req} {s : State} (hr : stRecordOk s rq.body = true)
include hr

theorem doInstall_free (ho : stOffset rq.body % 64 = 0) (hst : (slotAt s (stSlot rq.body)).st = 0)
    (hg : (slotAt s (stSlot rq.body)).gen ≠ 0xFFFFFFFF) (hm : stOffset rq.body + 576 ≤ memRange s) :
    doInstall rq s = (
      let u := complete rq .ok (s.accCtr + 1) { s with accCtr := s.accCtr + 1 }
      readImage (stSlot rq.body) (setSlot (stSlot rq.body) (fun x => { x with
        st := 1, tenant := rq.hdr.tenant, image := none, queued := 0, job := some (s.accCtr + 1, ⟨rq, s.time⟩) }) u)) := by
  simp only [doInstall, hr, ho, hst, hg, Nat.not_lt.mpr hm, nextAcc, ne_eq, not_true_eq_false, Bool.not_true,
    Bool.false_eq_true, or_self, if_false]

theorem doSlotRetire_idle (hst : (slotAt s (stSlot rq.body)).st = 2)
    (ht : (slotAt s (stSlot rq.body)).tenant = rq.hdr.tenant) (hq : (slotAt s (stSlot rq.body)).queued = 0) :
    doSlotRetire rq s = (
      let u := complete rq .ok (s.accCtr + 1) { s with accCtr := s.accCtr + 1 }
      endStream ⟨rq, s.time⟩ (s.accCtr + 1) .ok (stSlot rq.body) 0 0
        (setSlot (stSlot rq.body) (fun x => { x with st := 0, image := none }) u)) := by
  simp only [doSlotRetire, hr, hst, ht, hq, nextAcc, ne_eq, not_true_eq_false, Bool.not_true, Bool.false_eq_true, or_self,
    if_false, if_true]

end

section
variable {k : Nat} {s : State}

/-- An image is read once. -/
theorem readImage_read (h : (slotAt s k).image.isSome = true) : readImage k s = s := by
  unfold readImage
  dsimp only
  split
  · rfl
  · exact if_pos (.inr h)

variable {acc : Nat} {p : Posted} (hj : (slotAt s k).job = some (acc, p))
include hj

theorem doInstallBuilt_read {v : Nat} (hst : (slotAt s k).st = 1) (hi : (slotAt s k).image = some v) :
    doInstallBuilt k s = endStream p acc .ok k ((slotAt s k).gen + 1) 0
      (setSlot k (fun t => { t with st := 2, gen := t.gen + 1, crc := imgCrc v, queued := 0, job := none }) s) := by
  have read : readImage k s = s := readImage_read (by rw [hi, Option.isSome_some])
  simp only [doInstallBuilt, read, hi, hj, hst, ne_eq, not_true_eq_false, if_false]

theorem doQueuedZero_retiring (hst : (slotAt s k).st = 3) (hq : (slotAt s k).queued = 0) :
    doQueuedZero k s = endStream p acc .ok k 0 0
      (setSlot k (fun t => { t with st := 0, image := none, job := none }) s) := by
  simp only [doQueuedZero, hj, hst, hq, ne_eq, not_true_eq_false, or_self, if_false]

end

/-! ## Stream READs (R228 to R231) -/

/-- A READ outside all objects whose lengths agree, with a near and good head, takes its place among the READs in flight (R228). -/
theorem doStreamRead_accepted {rq : Req} {s : State} (hr : stRecordOk s rq.body = true)
    (hp : stDest rq.body / 2 ^ 48 ≠ pkgNo s) (ho : stOffset rq.body % 64 = 0) (hd : stDest rq.body % 64 = 0)
    (hobj : objectAt s (extentOf (stOffset rq.body)) = none) (hc : stCount rq.body ≠ 0xFFFFFFFF)
    (hl : stLength rq.body ≠ 0xFFFFFFFF) (hcl : 4096 * stCount rq.body ≤ stLength rq.body)
    (hm : stOffset rq.body + 64 ≤ memRange s) (hf : farExtents s (stOffset rq.body) 64 = [])
    (hb : anyBad s (stOffset rq.body) 64 = false) (hh : headStatus s rq.body (readMem s (stOffset rq.body) 64) = .ok)
    (hn : stCount rq.body ≠ 0) (hs : s.streams.length < 256) :
    doStreamRead rq s = complete rq .ok (s.accCtr + 1) { s with
      accCtr := s.accCtr + 1, streams := tset s.streams (s.accCtr + 1) ⟨⟨rq, s.time⟩, none, 0, 0, none⟩ } := by
  simp only [doStreamRead, hr, hp, ho, hd, hobj, hc, hl, Nat.not_lt.mpr hcl, Nat.not_lt.mpr hm, hf, hb, hh, hn,
    Nat.not_le.mpr hs, nextAcc, ne_eq, not_true_eq_false, Bool.not_true, Bool.false_eq_true, and_false, or_self, if_false,
    List.isEmpty_nil]

section
variable {acc : Nat} {x : StreamRead} {s : State} (hx : tget s.streams acc = some x) (hf : x.fail = none)
include hx hf

/-- A map that is read and good pins the slots of the READ's blocks (R229). -/
theorem doMapCheck_good {n v : Nat} {q : State} (hm : x.map = none)
    (hn : headCount (readMem s (stOffset x.posted.req.body) 64) = n)
    (hr : fetchHere acc (stOffset x.posted.req.body) (64 + 8 * n) s = .got .ok v q)
    (good : mapStatus q x.posted.req.hdr.tenant (v % 2 ^ 512) (v >>> 512) (stCount x.posted.req.body) = none) :
    doMapCheck acc s =
      setStream acc (fun y => { y with map := some (v >>> 512), at_ := stOffset x.posted.req.body + blocksAt n })
        (pinBlocks (v >>> 512) 0 (stCount x.posted.req.body) true q) := by
  simp only [doMapCheck, hx, hm, hf, hn, hr, good, Option.isSome_none, Bool.false_eq_true, or_self, if_false]

/-- A block that is read and decoded leaves over the link of its path, is acknowledged and counted (R230, R406). -/
theorem doBlockWrite_acknowledged {map e k dest v data : Nat} {q : State} (hm : x.map = some map)
    (left : x.next < stCount x.posted.req.body) (he : mapEntry map x.next = e) (full : enLen e ≠ 0)
    (hd : stDest x.posted.req.body + 4096 * x.next = dest) (path : pathLink s dest = some k)
    (up : awake s (quadDom k) = true) (hr : fetchHere acc x.at_ (span e) s = .got .ok v q)
    (decoded : blockBytesOf q e x.next v = some data) :
    doBlockWrite acc .ok s = (
      let u := emit (.streamWrite k dest 4096 data (stKey x.posted.req.body) x.posted.req.hdr.tenant x.posted.req.hdr.cls)
        (sendFlits k x.posted.req.hdr.cls 4120 (meterOut x.posted.req.hdr.requester 4096 q))
      bump 0x7043 3 4096 (bump 0x7043 2 1 (setStream acc (fun x => { x with next := x.next + 1, at_ := x.at_ + span e })
        (pinBlocks map x.next 1 false u)))) := by
  simp only [doBlockWrite, hx, hm, hf, Nat.not_le.mpr left, he, full, hd, path, up, hr, decoded, Bool.not_true,
    Bool.false_eq_true, ne_eq, not_true_eq_false, if_false]

theorem doStreamComplete_over (hm : x.map.isSome = true) (hn : stCount x.posted.req.body ≤ x.next) :
    doStreamComplete acc s = endStream x.posted acc .ok 0 0 x.next { s with streams := terase s.streams acc } := by
  simp only [doStreamComplete, hx, hf, hm, hn, and_self, if_true]

end

/-- Settles O31: INSTALL, RETIRE and READ are served by their acts, whose checks at step 12 the conditions pass; the later steps
find the slot or the READ as the command left it, and what they read at the homes. -/
theorem streamCommandsComplete : Obligations.StreamCommandsComplete := by
  refine ⟨?install, ?retire, ?built, ?queuedZero, ?read, ?mapCheck, ?blockWrite, ?complete⟩
  case install =>
    intro h body s t rq ha hr ho hst hg hm
    obtain ⟨rfl, rfl⟩ := admitted_hdr_body ha
    exact congrArg _ (serveStream_admitted (by decide) ha (doInstall_free hr ho hst hg hm))
  case retire =>
    intro h body s t rq ha hr hst ht hq
    obtain ⟨rfl, rfl⟩ := admitted_hdr_body ha
    exact congrArg _ (serveStream_admitted (by decide) ha (doSlotRetire_idle hr hst ht hq))
  case built => exact fun k v acc p s hst hi hj => congrArg _ (doInstallBuilt_read hj hst hi)
  case queuedZero => exact fun k acc p s hst hq hj => congrArg _ (doQueuedZero_retiring hj hst hq)
  case read =>
    intro h body s t rq ha hr hp ho hd hobj hc hl hcl hm hf hb hh hn hs
    obtain ⟨rfl, rfl⟩ := admitted_hdr_body ha
    exact congrArg _ (serveStream_read_admitted ha (doStreamRead_accepted hr hp ho hd hobj hc hl hcl hm hf hb hh hn hs))
  case mapCheck =>
    exact fun acc x s hx hm hf here good => congrArg _ (doMapCheck_good hx hf hm rfl (fetchHere_ready acc here) good)
  case blockWrite =>
    exact fun acc map k data x s hx hm hf left full path up here decoded => congrArg _
      (doBlockWrite_acknowledged hx hf hm left rfl full rfl path up (fetchHere_ready acc here) decoded)
  case complete => exact fun acc x s hx hm hf hn => congrArg _ (doStreamComplete_over hx hf hm hn)

end Sys2Proof.Machine

/-! # Embedding tables -/

namespace Sys2Proof.Machine

/-! ## Requests on a table's rows (R241, R245, R246) -/

/-- The codes of an operation name it (R245). -/
theorem orOp_of_codes {op b : Nat} (h : orCodes op b = false) : orOp b = op := by
  simp only [orCodes, Bool.or_eq_false_iff, bne_eq_false_iff_eq] at h
  exact h.1.1

/-- A command of Oryx that R41 lets through, with the codes of its operation, is served by its act. -/
theorem serveOryx_admitted {op : Nat} {bad : Nat → Bool} {h : Hdr} {body : Nat} {s t u : State} {rq : Req}
    {act : Req → State → State}
    (ha : admitted (linkReq 0x11 h body) (postedChecks (orBad body) none false false [homeDom (orTable body % 8)]) 64 64 s =
      some (rq, t))
    (hc : orCodes op body = false) (hb : bad body = false) (hu : act rq t = u) : serveOryx op bad h body act s = u :=
  (serve_admitted ha).trans (by simpa only [hc, hb, Bool.or_self, Bool.false_eq_true, if_false] using hu)

/-- Rows of an active table of the tenant, few enough and with room for what the request writes, are accepted: the request is
bound to the table's current version. -/
theorem doRows_accepted {rq : Req} {s : State}
    (hst : (otable s (orTable rq.body)).st = 1 ∨ (otable s (orTable rq.body)).st = 2)
    (ht : (otable s (orTable rq.body)).tenant = rq.hdr.tenant) (hn : orCount rq.body ≠ 0) (hc : orCount rq.body ≤ 4096)
    (hb : orBags rq.body ≤ 4096) (hl : orLength rq.body ≠ 0xFFFFFFFF) (hlen : orBytes s rq.body ≤ orLength rq.body)
    (hf : oryxInFlight s < 1024)
    (ho : orOp rq.body = 4 → odOpt (odOf s (orTable rq.body) (otable s (orTable rq.body)).current) ≠ 0)
    (hbags : orOp rq.body = 2 → orBags rq.body ≠ 0) :
    doRows rq s = complete rq .ok (s.accCtr + 1) { s with
      accCtr := s.accCtr + 1,
      oreqs := tset s.oreqs (s.accCtr + 1) ⟨⟨rq, s.time⟩, (otable s (orTable rq.body)).current, none, false, 0, 0, 0, 0, 0, [],
        0, false, .ok, false, false, none⟩ } := by
  have updatable : ¬ (orOp rq.body = 4 ∧ odOpt (odOf s (orTable rq.body) (otable s (orTable rq.body)).current) = 0) :=
    fun h => ho h.1 h.2
  have bagged : ¬ (orOp rq.body = 2 ∧ orBags rq.body = 0) := fun h => hbags h.1 h.2
  simp only [doRows, hst, updatable, ht, countOver, Nat.not_lt.mpr hc, Nat.not_lt.mpr hb, hl, Nat.not_lt.mpr hlen, hn, bagged,
    Nat.not_le.mpr hf, nextAcc, ne_eq, not_true_eq_false, decide_false, Bool.false_eq_true, or_self, if_false]

/-! ## TABLE operations (R240, R241) -/

section
variable {rq : Req} {s : State} (hl : orLength rq.body ≠ 0xFFFFFFFF) (hlen : 64 ≤ orLength rq.body)
  (hf : oryxInFlight s < 1024)
include hl hlen hf

theorem doTable_deactivate (ho : orSub rq.body = 2)
    (hst : (otable s (orTable rq.body)).st = 1 ∨ (otable s (orTable rq.body)).st = 2)
    (ht : (otable s (orTable rq.body)).tenant = rq.hdr.tenant) :
    doTable rq s = (
      let w := complete rq .ok (s.accCtr + 1) { s with accCtr := s.accCtr + 1 }
      ((otable s (orTable rq.body)).versions.map (·.1)).foldl (fun s v => returnVersion (orTable rq.body) v s)
        (setOtable (orTable rq.body) (fun t => { t with st := 3, jobs := t.jobs ++ [(s.accCtr + 1, ⟨rq, w.time⟩)] }) w)) := by
  have active : ¬ ((otable s (orTable rq.body)).st = 0 ∨ (otable s (orTable rq.body)).st = 3) := by omega
  simp only [doTable, ho, active, ht, hl, Nat.not_lt.mpr hlen, Nat.not_le.mpr hf, nextAcc, ne_eq, not_true_eq_false,
    OfNat.ofNat_ne_zero, OfNat.ofNat_ne_one, and_false, false_and, or_self, if_false, if_true]

variable (hm : bits rq.body 207 160 + 128 ≤ memRange s) (hb : anyBad s (bits rq.body 207 160) 128 = false)
  (hd : odStatus s (readMem s (bits rq.body 207 160) 128) rq.hdr.tenant = .ok)
  (hw : odRowBytes (readMem s (bits rq.body 207 160) 128) ≠ 0) (hr : odRows (readMem s (bits rq.body 207 160) 128) ≠ 0)
include hm hb hd hw hr

/-- A valid descriptor starts the next version of an inactive slot, whose header is to be written. -/
theorem doTable_activate (ho : orSub rq.body = 0) (hst : (otable s (orTable rq.body)).st = 0) :
    doTable rq s = (
      let w := complete rq .ok (s.accCtr + 1) { s with accCtr := s.accCtr + 1 }
      let v := (otable s (orTable rq.body)).last + 1
      endTable ⟨rq, w.time⟩ (s.accCtr + 1) .ok v (setOtable (orTable rq.body) (fun t =>
        { t with st := 1, tenant := rq.hdr.tenant, last := v, current := v,
                 versions := tset t.versions v (readMem s (bits rq.body 207 160) 128) }) w)) := by
  simp only [doTable, ho, hst, hl, Nat.not_lt.mpr hlen, Nat.not_le.mpr hf, Nat.not_lt.mpr hm, hb, hd, hw, hr, nextAcc, ne_eq,
    not_true_eq_false, Bool.false_eq_true, zero_ne_one, OfNat.zero_ne_ofNat, and_false, false_and, or_self, if_false, if_true]

/-- A valid descriptor starts a further version of an active slot, whose header waits for the version before it. -/
theorem doTable_replace (ho : orSub rq.body = 1) (hst : (otable s (orTable rq.body)).st = 1)
    (ht : (otable s (orTable rq.body)).tenant = rq.hdr.tenant) :
    doTable rq s = (
      let w := complete rq .ok (s.accCtr + 1) { s with accCtr := s.accCtr + 1 }
      let v := (otable s (orTable rq.body)).last + 1
      setOtable (orTable rq.body) (fun t => { t with jobs := t.jobs ++ [(s.accCtr + 1, ⟨rq, w.time⟩)] })
        (setOtable (orTable rq.body) (fun t =>
          { t with st := 2, tenant := rq.hdr.tenant, last := v, current := v,
                   versions := tset t.versions v (readMem s (bits rq.body 207 160) 128) }) w)) := by
  simp only [doTable, ho, hst, ht, hl, Nat.not_lt.mpr hlen, Nat.not_le.mpr hf, Nat.not_lt.mpr hm, hb, hd, hw, hr, nextAcc, ne_eq,
    not_true_eq_false, Bool.false_eq_true, one_ne_zero, OfNat.one_ne_ofNat, and_false, or_self, if_false]

end

/-! ## A version without requests or forwarded rows (R243) -/

@[simp] theorem otable_setOtable_self (s : State) (k : Nat) (f : OTable → OTable) :
    otable (setOtable k f s) k = f (otable s k) := by
  simp [otable, setOtable, tgetD]

/-- A header to be written leaves the slots, so each of the operations that waited ends with the slot's current version. -/
theorem endTables_current {k : Nat} {jobs : List (Nat × Posted)} {s : State} :
    jobs.foldl (fun s j => endTable j.2 j.1 .ok (otable s k).current s) s =
      jobs.foldl (fun s' j => endTable j.2 j.1 .ok (otable s k).current s') s := by
  induction jobs generalizing s with
  | nil => rfl
  | cons j jobs ih => exact ih

/-- Where no row is forwarded, none starts to return. -/
theorem returnVersions_unforwarded {k : Nat} {s : State} (hf : s.forwards = []) (vs : List Nat) :
    vs.foldl (fun s v => returnVersion k v s) s = s := by
  refine List.foldl_fixed' (fun v => ?_) vs
  cases s
  cases hf
  rfl

theorem doVersionFreed_unforwarded {k : Nat} {s : State} (hst : (otable s k).st = 2 ∨ (otable s k).st = 3)
    (hf : s.forwards = []) (hv : (retiringOf (otable s k)).all (fun v => decide (versionBound s k v = 0)) = true) :
    doVersionFreed k s = (
      let u := (retiringOf (otable s k)).foldl (fun s v => returnVersion k v s) s
      oryxEvent ((otable s k).jobs.foldl (fun s j => endTable j.2 j.1 .ok (otable s k).current s)
        (setOtable k (fun t => { t with
          st := if t.st = 3 then 0 else 1, versions := t.versions.filter (fun e => !(retiringOf (otable s k)).contains e.1),
          jobs := [] })
          { u with forwards := u.forwards.filter (fun f =>
            !(f.row.slot == k && (retiringOf (otable s k)).contains f.row.version)) }))) := by
  have bound : ¬ (¬ ((otable s k).st = 2 ∨ (otable s k).st = 3) ∨
      (retiringOf (otable s k)).any (fun v => decide (0 < versionBound s k v)) = true) := by
    simpa [hst] using hv
  rw [doVersionFreed]
  dsimp only
  rw [returnVersions_unforwarded hf, if_neg bound, if_neg (by rw [hf]; exact Bool.false_ne_true), endTables_current,
    otable_setOtable_self]
  rfl

/-- Settles O34: each request is served by its act, whose checks at step 12 the conditions pass. That a descriptor is read at the
acceptance, whatever its tier, is the model's choice (log entry 79). -/
theorem tableCommandsComplete : Obligations.TableCommandsComplete := by
  refine ⟨?rows, ?activate, ?replace, ?deactivate, ?freed⟩
  case rows =>
    intro h body s t rq k x u ha hst ht hn hc hb hl hlen hf
    obtain ⟨rfl, rfl⟩ := admitted_hdr_body ha
    have accepted {op : Nat} (codes : orCodes op rq.body = false) (ho : op = 4 → odOpt (odOf t k (otable t k).current) ≠ 0)
        (hbags : op = 2 → orBags rq.body ≠ 0) :
        (.next (serveOryx op (fun _ => false) rq.hdr rq.body doRows s) : Host.Outcome State Fault Refusal) = .next u := by
      obtain rfl := orOp_of_codes codes
      exact congrArg _ (serveOryx_admitted ha codes rfl (doRows_accepted hst ht hn hc hb hl hlen hf ho hbags))
    exact ⟨fun c => accepted c nofun nofun, fun c hbags => accepted c nofun fun _ => hbags, fun c => accepted c nofun nofun,
      fun c ho => accepted c (fun _ => ho) nofun, fun c => accepted c nofun nofun⟩
  case activate =>
    intro h body s t rq ha codes ho hst hl hlen hm hf d hb hd hw hr
    obtain ⟨rfl, rfl⟩ := admitted_hdr_body ha
    exact congrArg _ (serveOryx_admitted ha codes (by rw [ho, bne_self_eq_false])
      (doTable_activate hl hlen hf hm hb hd hw hr ho hst))
  case replace =>
    intro h body s t rq ha codes ho hst ht hl hlen hm hf d hb hd hw hr
    obtain ⟨rfl, rfl⟩ := admitted_hdr_body ha
    exact congrArg _ (serveOryx_admitted ha codes (by rw [ho, bne_self_eq_false])
      (doTable_replace hl hlen hf hm hb hd hw hr ho hst ht))
  case deactivate =>
    intro h body s t rq ha codes ho hst ht hl hlen hf
    obtain ⟨rfl, rfl⟩ := admitted_hdr_body ha
    exact congrArg _ (serveOryx_admitted ha codes (by rw [ho, bne_self_eq_false]) (doTable_deactivate hl hlen hf ho hst ht))
  case freed => exact fun k s hst hf hv => congrArg _ (doVersionFreed_unforwarded hst hf hv)

/-! ## Lists (R247) -/

/-- An engine that is not checked reads a range of this package that is ready at once (R195). -/
theorem fetch_unchecked {id address n key : Nat} {rq : Req} {r : Remote} {s : State} (hp : address / 2 ^ 48 = pkgNo s)
    (hk : obj s 0x7020 3 = 1) (hr : engineReads s (address % 2 ^ 48) n = true) :
    fetch id rq address n key r s =
      .got .ok (readMem s (address % 2 ^ 48) n) (unpeek id (touch (address % 2 ^ 48) n s)) := by
  rw [fetch, if_pos hp, if_pos (.inl hk), fetchHere_ready id hr]

/-- A request without bags has its lists once its index list is read. -/
theorem readLists_indices {acc : Nat} {idx bags : Remote} {x : OReq} {s : State}
    (ho : orOp x.posted.req.body ≠ 2) (hp : orIndex x.posted.req.body / 2 ^ 48 = pkgNo s) (hk : obj s 0x7020 3 = 1)
    (hr : engineReads s (orIndex x.posted.req.body % 2 ^ 48) (4 * orCount x.posted.req.body) = true) :
    readLists acc idx bags x s = (
      let off := orIndex x.posted.req.body % 2 ^ 48
      let n := 4 * orCount x.posted.req.body
      setOreq acc (fun x => { x with lists := some (readMem s off n, 0) })
        (unpeek acc (touch off n (setOreq acc (fun x => { x with retry := false }) s)))) := by
  have fetched := fetch_unchecked (id := acc) (key := orIndexKey x.posted.req.body) (rq := x.posted.req) (r := idx)
    (s := setOreq acc (fun x => { x with retry := false }) s) hp hk hr
  rw [readLists]
  dsimp only
  rw [fetched]
  dsimp only
  rw [if_neg (by decide), if_pos ho]
  rfl

theorem doListRead_unread {acc : Nat} {again : Bool} {idx bags : Remote} {x : OReq} {s : State}
    (hx : tget s.oreqs acc = some x) (he : x.ended = false) (hl : x.lists = none) (hr : x.retry = again) :
    doListRead acc again idx bags s = readLists acc idx bags x s := by
  simp only [doListRead, hx, he, hl, hr, ne_eq, not_true_eq_false, Option.isSome_none, Bool.false_eq_true, or_self, if_false]

/-! ## Row operations (R250, R257) -/

section
variable {acc : Nat} {x : OReq} {s : State}

/-- GATHER and DELETE bring no data for an entry. -/
theorem entryData_none {d idx : Nat} {data : List Remote} (ho : orOp x.posted.req.body = 1 ∨ orOp x.posted.req.body = 5) :
    entryData acc x d idx data s = .got .ok 0 s := by
  rw [entryData]
  exact if_pos (by omega)

/-- The next entry of a GATHER or a DELETE whose turn has come: an index out of range is dropped, a row is looked up. -/
theorem nextRow_without_data {d : Nat} {l : Nat × Nat} {data : List Remote} {answer : Remote} {acks : List Status}
    (hx : tget s.oreqs acc = some x) (he : x.ended = false) (hl : x.lists = some l)
    (ho : orOp x.posted.req.body = 1 ∨ orOp x.posted.req.body = 5)
    (hb : tableBehind s acc (orTable x.posted.req.body) = false)
    (hd : odOf s (orTable x.posted.req.body) x.version = d) :
    nextRow acc data answer acks s =
      if odRows d ≤ (rowOf x x.done).row then finishEntry acc d x.done .range 0 false acks s
      else placeRow acc x d l.1 0 answer acks s := by
  have unbagged : orOp x.posted.req.body ≠ 2 := by omega
  simp only [nextRow, hx, he, hl, hb, hd, unbagged, entryData_none ho, Option.isNone_some, Bool.false_eq_true, or_self,
    if_false]

/-- A row that no move concerns is operated on at its natural place, once its record can be accessed. -/
theorem placeRow_unmoved {d idx v : Nat} {answer : Remote} {acks : List Status}
    (ho : orOp x.posted.req.body ≠ 4) (hf : forwardOf s (rowOf x x.done) = none)
    (hw : recordWait acc (rowAt d (rowOf x x.done).row) (odRecord d) s = none) :
    placeRow acc x d idx v answer acks s = (
      let r := rowOf x x.done
      let o := rowHere acc x.posted.req d v (rowAt d r.row) false (countRow (homeOf s (rowAt d r.row)) d r s)
      finishEntry acc d x.done o.1.out o.1.row false acks (if o.1.wrote then markDirty r o.2 else o.2)) := by
  have first : laterEqual x.posted.req.body idx x.done = false := by
    rw [laterEqual, beq_false_of_ne ho, Bool.false_and, Bool.false_and]
  simp only [placeRow, placeOf, hf, hw, first]

end

/-- A row that this package holds the lock of is operated on here, and its home is answered with what stood there (R261). -/
theorem serveGuest_locked {c : RowCall} {g : HotGuest} {s : State} (hg : guestOf s c.row = some g) (hl : g.locked = true)
    (hw : recordWait (rowId c.row) g.at_ (odRecord g.desc) s = none) :
    serveGuest c s = (
      let was := readMem (view (rowId c.row) s) g.at_ (16 + odRowBytes g.desc)
      let o := rowHere (rowId c.row) { rowReq g.tenant with body := c.body } g.desc c.value g.at_ false s
      emit (.member c.row.home msgRowAnswer (c.row.slot * 2 ^ 32 + c.row.row)
        (statusCode (if o.1.out = .poison then .poison else .ok) + was * 256)) o.2) := by
  simp only [serveGuest, hg, hl, hw, Bool.not_true, Bool.false_eq_true, if_false]

theorem doResultHeader_ended {acc : Nat} {ack : Status} {x : OReq} {s : State} (hx : tget s.oreqs acc = some x)
    (he : x.ended = true) (hw : writeStalled s acc = false) :
    doResultHeader acc ack s = writeHeader x.posted.req acc (oryxHeader { s with oreqs := terase s.oreqs acc }
      x.posted.req.body x.version x.status x.done x.droppedRange x.droppedDeleted x.forwarded) x.refused ack
      { s with oreqs := terase s.oreqs acc } := by
  simp only [doResultHeader, hx, he, hw, Bool.not_true, Bool.false_eq_true, or_self, if_false]

/-! ## Row migration (R260, R261) -/

/-- With migration disabled, the end of a shard window starts no move. -/
theorem doShardWindowEnd_disabled {utils : List EngineLoad} {s : State} (h : obj s 0x8010 6 = 0) :
    doShardWindowEnd utils s = { s with
      shards := [],
      forwards := (s.forwards.map (fun f => if f.st = 3 ∧ (f.ops < obj s 0x8010 5 ∨
        utils.any (fun u => u.draining && u.pkg == f.pkg)) then { f with st := 4 } else f)).map
        (fun f => { f with ops := 0 }) } := by
  unfold obj at h
  simp only [doShardWindowEnd, obj, h, if_true]

/-- A slot of a hot area that this package has free is granted to a row of another package (R261, R263). -/
theorem doHotSlot_guest {r : RowRef} {slice off desc tenant : Nat} {s : State} (hh : r.home ≠ pkgNo s)
    (hg : guestOf s r = none) (ho : hotSlotOk s r slice off (odRecord desc) = true) :
    doHotSlot r (pkgNo s) slice off desc tenant s = emit (.member r.home msgSlot (r.slot * 2 ^ 32 + r.row) off)
      { s with guests := s.guests ++ [⟨r, slice, off, desc, tenant, false⟩] } := by
  simp only [doHotSlot, hh, hg, ho, Option.isNone_none, and_self, if_false, if_true]

section
variable {r : RowRef} {f : Forward} {s : State} (hf : forwardOf s r = some f)
include hf

/-- A granted slot, free where it lies in this package, takes the record's copy. -/
theorem doHotSlot_copied {off desc tenant d : Nat} (hh : r.home = pkgNo s) (hst : f.st = 0)
    (hd : odOf s r.slot r.version = d) (ho : f.pkg = pkgNo s → hotSlotOk s r f.slice off (odRecord d) = true)
    (hw : recordWait (rowId r) (rowAt d r.row) (odRecord d) s = none) :
    doHotSlot r f.pkg f.slice off desc tenant s =
      copyRow { f with at_ := off } (modForward r (fun f => { f with st := 1, at_ := off, dirty := false }) s) := by
  have free : ¬ (f.pkg = pkgNo s ∧ (!hotSlotOk s r f.slice off (odRecord d)) = true) := by
    rintro ⟨here, taken⟩
    simp [ho here] at taken
  simp only [doHotSlot, hh, hotSlotHere, hf, hd, hst, hw, free, ne_eq, not_true_eq_false, or_self, if_false, if_true]

theorem doRowCopyAcked_here (hst : f.st = 1) (hd : f.dirty = false) (hp : f.pkg = pkgNo s) :
    doRowCopyAcked r s = modForward r (fun f => { f with st := 2 }) s := by
  simp only [doRowCopyAcked, hf, hst, hd, ne_eq, not_true_eq_false, Bool.false_eq_true, if_false]
  exact if_pos hp

theorem doRowCommitAcked_committed (hst : f.st = 2) :
    doRowCommitAcked r s = bump 0x8013 3 1 (modForward r (fun f => { f with st := 3 })
      (setObj (0x8100 + r.slot) 6 (obj s (0x8100 + r.slot) 6 + 1) s)) := by
  simp only [doRowCommitAcked, hf, hst, ne_eq, not_true_eq_false, if_false]

theorem execRowCommitTimeout_committing (hst : f.st = 2) :
    execRowCommitTimeout r s = .next (bump 0x8013 5 1 (dropForward r s)) := by
  simp only [execRowCommitTimeout, hf, hst, if_true]

theorem execRowForwardLost_forwarded (hst : f.st = 3 ∨ f.st = 4) : execRowForwardLost r s =
    .next (bump 0x8013 6 1 (oryxEvent (uncountForward r (modForward r (fun f => { f with st := 5 }) s)))) := by
  simp only [execRowForwardLost, hf, hst, if_true]

/-- A row that comes back from this package's hot area is copied to its natural place, once both places can be accessed. -/
theorem doRowReturned_here {d record : Nat} (hst : f.st = 4) (hp : f.pkg = pkgNo s) (hd : odOf s r.slot r.version = d)
    (hw : returnWait r f d s = none) :
    doRowReturned r record s = (
      let mem := view (rowId r) s
      bump 0x8013 4 1 (uncountForward r (dropForward r
        (engineStore 0 (rowReq (otable s r.slot).tenant) (rowAt d r.row) (odRecord d) (readMem mem f.at_ (odRecord d))
          (anyBad mem f.at_ (odRecord d)) (unpeek (rowId r) s)).2))) := by
  have here : f.pkg = pkgNo (unpeek (rowId r) s) := hp
  simp only [doRowReturned, hf, hst, hd, hw, here, ne_eq, not_true_eq_false, if_false, if_true]

end

/-- Settles O35: each command finds the request, the row's move or the guest that it is for. The codes of the members' messages
and the layout of an answer are the model's choice (log entries 33 and 83). -/
theorem rowCommandsComplete : Obligations.RowCommandsComplete := by
  refine ⟨?lists, ?row, ?range, ?guest, ?header, ?window, ?granted, ?grants, ?copied, ?committed, ?timeout, ?returned, ?lost⟩
  case lists =>
    intro acc idx bags x s hx he hl b off ho hp hk hr u
    have read {again : Bool} (h : x.retry = again) : Host.Outcome.next (doListRead acc again idx bags s) =
        (.next u : Host.Outcome State Fault Refusal) :=
      congrArg _ ((doListRead_unread hx he hl h).trans (readLists_indices ho hp hk hr))
    exact ⟨read, read⟩
  case row =>
    exact fun acc idx data answer acks x s hx he hl ho hb hr hf hw => congrArg Host.Outcome.next
      ((nextRow_without_data hx he hl ho hb rfl).trans
        ((if_neg (Nat.not_le.mpr hr)).trans (placeRow_unmoved (by omega) hf hw)))
  case range =>
    exact fun acc l data answer acks x s hx he hl ho hb hr => congrArg Host.Outcome.next
      ((nextRow_without_data hx he hl ho hb rfl).trans (if_pos hr))
  case guest => exact fun acc data answer acks c g s hg hl hw => congrArg Host.Outcome.next (serveGuest_locked hg hl hw)
  case header => exact fun acc ack x s hx he hw => congrArg _ (doResultHeader_ended hx he hw)
  case window => exact fun utils s h => congrArg _ (doShardWindowEnd_disabled h)
  case granted => exact fun r f off desc tenant s hh hf hst ho hw => congrArg _ (doHotSlot_copied hf hh hst rfl ho hw)
  case grants => exact fun r slice off desc tenant s hh hg ho => congrArg _ (doHotSlot_guest hh hg ho)
  case copied => exact fun r f s hf hst hd hp => congrArg _ (doRowCopyAcked_here hf hst hd hp)
  case committed => exact fun r f s hf hst => congrArg _ (doRowCommitAcked_committed hf hst)
  case timeout => exact fun r f s hf hst => execRowCommitTimeout_committing hf hst
  case returned => exact fun r f record s hf hst hp hw => congrArg _ (doRowReturned_here hf hst hp rfl hw)
  case lost => exact fun r f s hf hst => execRowForwardLost_forwarded hf hst

end Sys2Proof.Machine

/-! # Approximate search -/

namespace Sys2Proof.Machine

/-! ## SEARCH commands of an index (R278, R287) -/

/-- A command of Chamois that R41 lets through, with the codes of its operation, is served by its act. -/
theorem serveSearch_admitted {op : Nat} {bad : Nat → Bool} {h : Hdr} {body : Nat} {s t u : State} {rq : Req}
    {act : Req → State → State}
    (ha : let dies := ((List.range 4).filter (flashPresent s)).map flashDom
      admitted (linkReq 0x12 h body) (postedChecks (seBad h.length body) (some 64)
        (h.length == 0 || (op != 1 && h.length != 1) || (op == 1 && decide (h.length < 3))) dies.isEmpty dies)
        (64 * h.length) (max 64 (64 * h.length)) s = some (rq, t))
    (hc : seCodes op body = false) (hb : bad body = false) (hu : act rq t = u) : serveSearch op bad h body act s = u :=
  (serve_admitted (act := fun rq s => if seCodes op body || bad body then complete rq .unsupported 0 s else act rq s) ha).trans
    (by simpa only [hc, hb, Bool.or_self, Bool.false_eq_true, if_false] using hu)

section
variable {rq : Req} {s : State} (h0 : (sindex s (seIndex rq.body)).st ≠ 0) (h4 : (sindex s (seIndex rq.body)).st ≠ 4)
  (ht : (sindex s (seIndex rq.body)).tenant = rq.hdr.tenant)
include h0 h4 ht

/-- An operation on an index of its tenant that is neither INACTIVE nor DEACTIVATING is acted on. -/
theorem withIndex_owned (act : SIndex → State → State) : withIndex rq act s = act (sindex s (seIndex rq.body)) s := by
  simp only [withIndex, h0, h4, ht, or_self, ne_eq, not_true_eq_false, if_false]

/-- A query of allowed lengths that asks for something is accepted where the package has room for it. -/
theorem doQuery_accepted (hl : queryTooLong rq.hdr.length rq.body = false) (he : queryEmpty rq.body = false)
    (hn : (s.sops.filter (fun e => seOp e.2.posted.req.body == 1)).length < 1024) :
    doQuery rq s = complete rq .ok (s.accCtr + 1) { s with
      accCtr := s.accCtr + 1, sops := tset s.sops (s.accCtr + 1) (newOp ⟨rq, s.time⟩ 0 0) } := by
  rw [doQuery, withIndex_owned h0 h4 ht]
  simp only [hl, he, Nat.not_le.mpr hn, nextAcc, Bool.false_eq_true, if_false]

/-- An insert takes the lowest free slot, and a position, where the ring has one. -/
theorem doInsert_reserved {k : Nat} (hk : lowestFree (sindex s (seIndex rq.body)) = some k)
    (hr : ringFull s (seIndex rq.body) = false) :
    doInsert rq s =
      reserve rq k (setIndex (seIndex rq.body) (fun x => { x with slots := tset x.slots k 1 }) s) := by
  rw [doInsert, withIndex_owned h0 h4 ht]
  simp only [hk, hr, Bool.false_eq_true, if_false]

/-- A delete of a slot that holds a vector takes a position, where the ring has one. -/
theorem doSearchDelete_reserved (hv : seVector rq.body < sdMax (sindex s (seIndex rq.body)).desc)
    (hs : slotState (sindex s (seIndex rq.body)) (seVector rq.body) = 0 ∨
      slotState (sindex s (seIndex rq.body)) (seVector rq.body) = 2)
    (hr : ringFull s (seIndex rq.body) = false) : doSearchDelete rq s = reserve rq (seVector rq.body) s := by
  have settles : ¬ (slotState (sindex s (seIndex rq.body)) (seVector rq.body) = 1 ∨ ringFull s (seIndex rq.body) = true) := by
    rw [hr, or_iff_left Bool.false_ne_true]; omega
  have holds : ¬ (sdMax (sindex s (seIndex rq.body)).desc ≤ seVector rq.body ∨
      slotState (sindex s (seIndex rq.body)) (seVector rq.body) = 4 ∨
      slotState (sindex s (seIndex rq.body)) (seVector rq.body) = 3) := by omega
  rw [doSearchDelete, withIndex_owned h0 h4 ht]
  exact (if_neg settles).trans (if_neg holds)

/-- DEACTIVATE begins the end of an index for which no MERGE waits. -/
theorem doIndex_deactivate (ho : seSub rq.body = 1) (hm : (sindex s (seIndex rq.body)).mergeJob = none) :
    doIndex rq s = setIndex (seIndex rq.body)
      (fun x => { x with st := 4, snap := none, mergeJob := none, job := some (s.accCtr + 1, ⟨rq, s.time⟩) })
      (complete rq .ok (s.accCtr + 1) { s with accCtr := s.accCtr + 1 }) := by
  simp only [doIndex, ho, one_ne_zero, if_false, withIndex_owned h0 h4 ht, hm, nextAcc, OfNat.one_ne_ofNat, false_and]

end

/-! ## INDEX operations (R269, R272, R288) -/

section
variable {rq : Req} {s : State}

/-- MERGE puts an ACTIVE index of its tenant in line. -/
theorem doIndex_merge (ho : seSub rq.body = 2) (hst : (sindex s (seIndex rq.body)).st = 1)
    (ht : (sindex s (seIndex rq.body)).tenant = rq.hdr.tenant) :
    doIndex rq s = setIndex (seIndex rq.body) (fun x => { x with st := 2, mergeJob := some (s.accCtr + 1, ⟨rq, s.time⟩) })
      (complete rq .ok (s.accCtr + 1) { s with accCtr := s.accCtr + 1 }) := by
  have owned := withIndex_owned (by omega) (by omega) ht
  simp only [doIndex, ho, OfNat.ofNat_ne_zero, if_false, owned, hst, ne_eq, not_true_eq_false, and_false, nextAcc, if_true]

/-- ACTIVATE of an INACTIVE slot with a valid descriptor that is not to resume starts the index fresh. -/
theorem doIndex_activate {d : Nat} (ho : seSub rq.body = 0) (hst : (sindex s (seIndex rq.body)).st = 0)
    (hm : bits rq.body 255 208 + 128 ≤ memRange s) (hb : anyBad s (bits rq.body 255 208) 128 = false)
    (hd : readMem s (bits rq.body 255 208) 128 = d) (hok : sdStatus s d rq.hdr.tenant = .ok) (he : sdEmpty d = false)
    (hr : sdResume d = false) :
    doIndex rq s = (
      let w := complete rq .ok (s.accCtr + 1) { s with accCtr := s.accCtr + 1 }
      let u := setIndex (seIndex rq.body) (fun _ => freshIndex d rq.hdr.tenant) w
      endSearch ⟨rq, w.time⟩ (s.accCtr + 1) (SOut.of .ok (sindex u (seIndex rq.body)).gen) .ok
        (writeState (seIndex rq.body) u)) := by
  simp only [doIndex, ho, hst, Nat.not_lt.mpr hm, hb, hd, hok, he, hr, nextAcc, ne_eq, not_true_eq_false, Bool.false_eq_true,
    and_false, if_false, if_true, List.foldl_nil]

/-- The end of a DEACTIVATING index on which no operation is left. -/
theorem doDeactivateDone_idle {n acc : Nat} {p : Posted} (hst : (sindex s n).st = 4) (hn : opsOf s n = [])
    (hj : (sindex s n).job = some (acc, p)) :
    doDeactivateDone n s = endSearch p acc (SOut.of .ok (sindex s n).gen) .ok
      (setIndex n (fun x => { x with st := 0, job := none }) (writeState n s)) := by
  simp only [doDeactivateDone, hst, hn, hj, ne_eq, not_true_eq_false, List.isEmpty_nil, Bool.not_true, Bool.false_eq_true,
    or_self, if_false]

end

/-- Settles O36: each command is served by its act, whose checks at step 12 the conditions pass. -/
theorem indexCommandsComplete : Obligations.IndexCommandsComplete := by
  refine ⟨?operations, ?index, ?ended⟩
  case operations =>
    intro h body s t rq n x dies taken h0 h4 ht
    refine ⟨fun ha hc hl he hn => ?query, fun k ha hc hk hr => ?insert, fun ha hc hv hs hr => ?delete⟩
    all_goals obtain ⟨rfl, rfl⟩ := admitted_hdr_body ha
    case query => exact congrArg _ (serveSearch_admitted ha hc rfl (doQuery_accepted h0 h4 ht hl he hn))
    case insert => exact congrArg _ (serveSearch_admitted ha hc rfl (doInsert_reserved h0 h4 ht hk hr))
    case delete => exact congrArg _ (serveSearch_admitted ha hc rfl (doSearchDelete_reserved h0 h4 ht hv hs hr))
  case index =>
    intro h body s t rq dies n acc w d ha hc
    obtain ⟨rfl, rfl⟩ := admitted_hdr_body ha
    have served {k : Nat} {u : State} (ho : seSub rq.body = k) (hu : doIndex rq t = u) :
        (.next (serveSearch 4 (fun b => seSub b != k) rq.hdr rq.body doIndex s) : Host.Outcome State Fault Refusal) = .next u :=
      congrArg _ (serveSearch_admitted ha hc (by rw [ho, bne_self_eq_false]) hu)
    refine ⟨fun ho hst hm hb hok he hr => ?activate, fun ho hst ht => ?merge, fun ho h0 h4 ht hm => ?deactivate⟩
    case activate => exact served ho (doIndex_activate ho hst hm hb rfl hok he hr)
    case merge => exact served ho (doIndex_merge ho hst ht)
    case deactivate => exact served ho (doIndex_deactivate h0 h4 ht ho hm)
  case ended => exact fun n acc p s hst hn hj => congrArg _ (doDeactivateDone_idle hst hn hj)

/-! ## Queries (R273, R280 to R284) -/

/-- A query whose data lies near in this package is walked once the homes of what it reads answer. -/
theorem doQueryDispatch_here {acc : Nat} {q : Remote} {o : SOp} {b : Nat} {x : SIndex} {s : State}
    (ho : tget s.sops acc = some o) (hsnap : o.snap = none) (hb : o.posted.req.body = b) (hx : sindex s (seIndex b) = x)
    (hop : seOp b = 1) (hc : coordinated s acc < 32)
    (hd : (List.range 4).filter (fun f => flashPresent s f && !awake s (flashDom f)) = []) (hp : seIn b / 2 ^ 48 = pkgNo s)
    (hk : obj s 0x7020 3 = 1) (hr : engineReads s (seIn b % 2 ^ 48) (sketchPad x.desc + 4 * sdDim x.desc) = true) :
    doQueryDispatch acc q s = (
      let off := seIn b % 2 ^ 48
      let len := sketchPad x.desc + 4 * sdDim x.desc
      walkQuery acc b x (readMem s off len) .ok (unpeek acc (touch off len s))) := by
  have fetched := fetch_unchecked (id := acc) (key := seInKey b) (rq := o.posted.req) (r := q) hp hk hr
  simp only [doQueryDispatch, ho, hsnap, hb, hx, hop, Nat.not_le.mpr hc, hd, fetched, usable, ne_eq, not_true_eq_false,
    Option.isSome_none, Bool.false_eq_true, or_self, if_false, List.isEmpty_nil, Bool.not_true, beq_self_eq_true, Bool.true_or]

/-- A dispatched query whose data could be read is answered once the homes of its candidates answer. -/
theorem doQueryComplete_answered {acc g m tl seq : Nat} {acks : List Status} {ack : Status} {o : SOp} {ls : List Nat}
    {s : State} (ho : tget s.sops acc = some o) (hsnap : o.snap = some (g, m, tl, seq)) (hop : seOp o.posted.req.body = 1)
    (hu : usable o.status = true)
    (hls : (o.cands.map (fun c => linesOf (candOrig (sindex s (seIndex o.posted.req.body)).desc c)
        (origBytes (sindex s (seIndex o.posted.req.body)).desc) ++
      linesOf (candAttr (sindex s (seIndex o.posted.req.body)).desc c) 64)).flatten = ls)
    (hw : homesWait (queryId acc) ls (poisonDead ls s) = none) :
    doQueryComplete acc acks ack s = (
      let q := poisonDead ls s
      answerQuery acc o g seq acks ack (bump 0x9011 1 1 { q with sops := terase q.sops acc })) := by
  simp only [doQueryComplete, ho, hsnap, hop, hu, hls, throughHomes_ready hw, ne_eq, not_true_eq_false, Bool.not_true,
    Bool.false_eq_true, if_false]

/-! ## Commits (R274, R287) -/

section
variable {acc : Nat} {data : Remote} {ack : Status} {o : SOp} {n : Nat} {s : State} (ho : tget s.sops acc = some o)
  (hn : seIndex o.posted.req.body = n)
include ho hn

/-- A delete is committed with a header alone, and its slot is deleted. -/
theorem doSideCommit_delete (hop : seOp o.posted.req.body = 3) :
    doSideCommit acc data ack s = (
      let u := bump 0x9011 4 1 (setIndex n (fun x => { x with slots := tset x.slots o.slot 3 }) (commitEntry n o.pos o.slot 2 s))
      endSearch o.posted acc { SOut.of .ok 0 with seq := (sindex s n).nextSeq, vector := o.slot } ack
        { u with sops := terase u.sops acc }) := by
  simp only [doSideCommit, ho, hn, hop, if_true]

/-- An insert whose body lies near in this package is committed with that body, and its slot is inserted. -/
theorem doSideCommit_insert_here {x : SIndex} (hx : sindex s n = x) (hop : seOp o.posted.req.body = 2)
    (hp : seIn o.posted.req.body / 2 ^ 48 = pkgNo s) (hk : obj s 0x7020 3 = 1)
    (hr : engineReads s (seIn o.posted.req.body % 2 ^ 48) (bodyBytes x.desc) = true) :
    doSideCommit acc data ack s = (
      let off := seIn o.posted.req.body % 2 ^ 48
      let w := (engineWrite (searchReq x.tenant) (sideAt x.desc o.pos + 64) (bodyBytes x.desc)
        (readMem s off (bodyBytes x.desc)) (unpeek acc (touch off (bodyBytes x.desc) s))).2
      let u := bump 0x9011 3 1 (setIndex n (fun x => { x with slots := tset x.slots o.slot 2 }) (commitEntry n o.pos o.slot 1 w))
      endSearch o.posted acc { SOut.of .ok 0 with seq := x.nextSeq, vector := o.slot } ack
        { u with sops := terase u.sops acc }) := by
  have fetched := fetch_unchecked (id := acc) (key := seInKey o.posted.req.body) (rq := o.posted.req) (r := data) hp hk hr
  simp only [doSideCommit, ho, hn, hx, hop, fetched, usable, Nat.reduceEqDiff, if_false, if_true,
    beq_self_eq_true, Bool.true_or, Bool.not_true, Bool.false_eq_true]

end

/-! ## Merges (R288, R289) -/

section
variable {n : Nat} {s : State}

/-- An ACTIVE index with side entries whose idle time is enabled waits to merge. -/
theorem execMergeIdleTimer_waits (hst : (sindex s n).st = 1) (hi : obj s 0x9010 5 ≠ 0)
    (ht : (sindex s n).tail ≠ (sindex s n).merged) :
    execMergeIdleTimer n s = .next (setIndex n (fun x => { x with st := 2 }) s) :=
  congrArg _ (if_pos ⟨hst, hi, ht⟩)

/-- A merge's snapshot reaches the first position that is not settled, or the tail. -/
theorem doBuildStart_snapshot (hst : (sindex s n).st = 2)
    (hq : queriesBound s n (((sindex s n).gen + 2 ^ 32 - 1) % 2 ^ 32) = false)
    (hm : (s.indexes.filter (fun e => e.2.st == 3)).length < 2) :
    doBuildStart n s = (
      let x := sindex s n
      let p := ((positions x.merged x.tail).find? (fun p => !settled s x.desc x.nextSeq p)).getD x.tail
      setIndex n (fun x => { x with st := 3, snap := some (x.tail, x.nextSeq, p) }) s) := by
  simp only [doBuildStart, hst, hq, Nat.not_le.mpr hm, ne_eq, not_true_eq_false, Bool.false_eq_true, or_self, if_false]

/-- A merge of a readable graph is published once the owners of its lines have answered. -/
theorem doMergePublish_readable {tl seq p : Nat} {ls : List Nat} (hst : (sindex s n).st = 3)
    (hsnap : (sindex s n).snap = some (tl, seq, p)) (hg : graphReadable s (sindex s n) = true)
    (hls : ownedLines s (sindex s n).desc = ls) (hw : homesWait (2 ^ 72 + n) ls (poisonDead ls s) = none) :
    doMergePublish n s =
      publishMerge n (sindex s n) seq p (unpeek (2 ^ 72 + n) (settleLines (2 ^ 72 + n) (poisonDead ls s))) := by
  simp only [doMergePublish, hsnap, hst, hg, hls, throughHomes_ready hw, ne_eq, not_true_eq_false, Bool.not_true,
    Bool.false_eq_true, or_self, if_false]

/-- A merge whose graph cannot be read, and that no command asked for, leaves the index ACTIVE. -/
theorem doMergeAbandon_unreadable (hst : (sindex s n).st = 3) (hg : graphReadable s (sindex s n) = false)
    (hj : (sindex s n).mergeJob = none) :
    doMergeAbandon n s =
      searchEvent (bump 0x9011 6 1 (setIndex n (fun x => { x with st := 1, snap := none, mergeJob := none }) s)) := by
  simp only [doMergeAbandon, hst, hg, hj, ne_eq, not_true_eq_false, Bool.false_eq_true, or_self, if_false]

end

/-- Settles O37: each command finds the operation or the index that it is for, and what it reads is near or answered for. The
order in which the walk and the side scan offer candidates is the model's choice (log entry 25). -/
theorem searchCommandsComplete : Obligations.SearchCommandsComplete := by
  refine ⟨?dispatch, ?complete, ?delete, ?insert, ?idle, ?build, ?publish, ?abandon⟩
  case dispatch =>
    intro acc q o s ho hsnap b x off len hop hc hd hp hk hr v q₀ ls q₁ hw
    exact congrArg Host.Outcome.next
      ((doQueryDispatch_here ho hsnap rfl rfl hop hc hd hp hk hr).trans (throughHomes_ready hw))
  case complete =>
    exact fun acc g m tl seq acks ack o s ho hsnap hop hu hw =>
      congrArg _ (doQueryComplete_answered ho hsnap hop hu rfl hw)
  case delete => exact fun acc data ack o s ho hop => congrArg _ (doSideCommit_delete ho rfl hop)
  case insert =>
    exact fun acc data ack o s ho hop hp hk hr => congrArg _ (doSideCommit_insert_here ho rfl rfl hop hp hk hr)
  case idle => exact fun n s hst hi ht => execMergeIdleTimer_waits hst hi ht
  case build => exact fun n s hst hq hm => congrArg _ (doBuildStart_snapshot hst hq hm)
  case publish => exact fun n tl seq p s hst hsnap hg hw => congrArg _ (doMergePublish_readable hst hsnap hg rfl hw)
  case abandon => exact fun n s hst hg hj => congrArg _ (doMergeAbandon_unreadable hst hg hj)

end Sys2Proof.Machine

/-! # Address translation -/

namespace Sys2Proof.Machine

/-! ## Invalidation (R305 to R309) -/

/-- An INVAL of a context of its tenant, of pages of it or of all of it, takes an identifier and drops what the caches hold. -/
theorem doInval_accepted {rq : Req} {s : State} (hc : invContext rq.body ≠ 0)
    (ht : bit (descMem s (invContext rq.body)) 0 = true → descTenant (descMem s (invContext rq.body)) = rq.hdr.tenant)
    (hn : invCount rq.body ≠ 0xFFFFFFFF) (hr : invPage rq.body + invCount rq.body ≤ 2 ^ 36)
    (named : (invScope rq.body = 0 ∧ invCount rq.body ≠ 0) ∨
      (invScope rq.body = 1 ∧ invPage rq.body = 0 ∧ invCount rq.body = 0)) :
    doInval rq s = complete rq .ok (s.accCtr + 1) (dropXlt rq.body { s with
      accCtr := s.accCtr + 1, invals := tset s.invals (s.accCtr + 1) ⟨⟨rq, s.time⟩, invStalls s rq.body⟩ }) := by
  have supported : ¬ (invContext rq.body = 0 ∨ 2 ≤ invScope rq.body ∨
      (invScope rq.body = 1 ∧ (invPage rq.body ≠ 0 ∨ invCount rq.body ≠ 0))) := by omega
  have owned : ¬ (bit (descMem s (invContext rq.body)) 0 = true ∧
      descTenant (descMem s (invContext rq.body)) ≠ rq.hdr.tenant) := fun e => e.2 (ht e.1)
  have inRange : ¬ (invCount rq.body = 0xFFFFFFFF ∨ 2 ^ 36 < invPage rq.body + invCount rq.body) := by omega
  have nonempty : ¬ (invScope rq.body = 0 ∧ invCount rq.body = 0) := by omega
  exact (if_neg supported).trans ((if_neg owned).trans ((if_neg inRange).trans (if_neg nonempty)))

/-- A counter that advances leaves the other objects as they are. -/
theorem obj_bump_of_ne {s : State} {n index sub index' sub' : Nat} (h : okey index sub ≠ okey index' sub') :
    obj (bump index sub n s) index' sub' = obj s index' sub' := obj_setObj_of_ne s _ h

/-- An invalidation with a signal of this package owes it once no stalled access that it met is left. -/
theorem execInvalTakesEffect_owes {acc : Nat} {x : Inval} {s : State} (hx : tget s.invals acc = some x)
    (hw : x.waits.all (fun k => (tget s.stalls k).isNone) = true) (hs : bit x.posted.req.body 39 = true)
    (hp : bits x.posted.req.body 51 40 = pkgNo s) :
    execInvalTakesEffect acc s = .next (oweSignal acc (bits x.posted.req.body 38 24) (bits x.posted.req.body 127 64)
      x.posted.req (bump 0x3020 6 1 { s with invals := terase s.invals acc })) := by
  have performed : ¬ (x.waits.any (fun k => (tget s.stalls k).isSome) = true) := by
    simpa only [List.any_eq_true, List.all_eq_true, not_exists, not_and, Bool.not_eq_true, Option.isSome_eq_false_iff]
      using hw
  have here : bits x.posted.req.body 51 40 = pkgNo (bump 0x3020 6 1 { s with invals := terase s.invals acc }) :=
    hp.trans (obj_bump_of_ne (by decide)).symm
  simp only [execInvalTakesEffect, hx, performed, hs, here, Bool.not_true, Bool.false_eq_true, if_false, if_true]

/-! ## Walks (R300, R303, R308) -/

section
variable {a : EngineAccess} {w : Walk} {s : State} (hw : (walksOf s a.die).find? (fun x => x.who.access == a) = some w)
include hw

/-- A walk that an invalidation met begins again from the root and fills no cache (R308). -/
theorem execTranslationWalkEnd_stale (hs : w.stale = true) :
    execTranslationWalkEnd a s =
      .next (settleTiles (startWalk w.who (unpeek w.id { s with walks := s.walks.erase w }))) := by
  simp only [execTranslationWalkEnd, endWalk, hw, hs, if_true]

/-- A walk that reached an address fills the caches with what it read, and its access goes on there. -/
theorem execTranslationWalkEnd_to {c address : Nat} {used : List XltEntry} (hs : w.stale = false)
    (hc : a.context.getD 0 = c)
    (ht : walk (drawFree s).2 w.id a c ((drawFree s).1 % 2 == 0) = .to address used) :
    execTranslationWalkEnd a s = .next (settleTiles (
      let r := drawFree s
      let u := fillCaches a c used (unpeek w.id { r.2 with walks := r.2.walks.erase w })
      accessAt w.who address (descKey (descFor u a.die c)) none u)) := by
  simp only [execTranslationWalkEnd, endWalk, hw, hs, hc, ht, Bool.false_eq_true, if_false]

end

/-! ## Fault records (R313, R498) -/

section
variable {q seq : Nat} {f : FaultRec} {s : State} (hf : tget s.faults (faultKey q seq) = some f)
include hf

theorem execFaultRecordAcked_written (hs : f.stage = 1) :
    execFaultRecordAcked q seq .ok s =
      .next (faultDoorbell q seq { s with faults := tset s.faults (faultKey q seq) { f with stage := 2 } }) := by
  simp only [execFaultRecordAcked, hf, hs, and_self, if_true]

theorem execFaultDoorbellResend_awaiting (hs : f.stage = 2) :
    execFaultDoorbellResend q seq s = .next (faultDoorbell q seq s) := by
  simp only [execFaultDoorbellResend, hf, hs, if_true]

end

/-! ## Service of a record (R314, R315) -/

/-- What a service does with the accesses of its record: 1 walks them again, 2 aborts them. -/
def serviceAccesses (action : Nat) (f : FaultRec) (s : State) : State :=
  if action = 1 then f.joined.foldl (fun s j => startWalk { j with replays := min (j.replays + 1) 255 } s) s
  else f.joined.foldl (fun s j => abortAccess j s) s

/-- A service of a record of the writer's tenant, by either action, takes the record away and serves its accesses. -/
theorem xltService_named {die v act k : Nat} {f : FaultRec} {i : Issued} {s : State} (ha : bits v 29 28 = act)
    (h12 : act = 1 ∨ act = 2) (hk : namedFault s die (bits v 15 0) = some (k, f)) (hi : firstOf f = some i)
    (hc : i.access.context.getD 0 = bits v 27 16) :
    xltService die v (some i.access.tenant) s =
      (.ok, serviceAccesses act f (releaseHeld (k / 2 ^ 32) { s with faults := terase s.faults k })) := by
  have known : ¬ (act = 0 ∨ act = 3) := by omega
  simp only [xltService, ha, known, hk, hi, hc, ne_eq, not_true_eq_false, and_false, if_false, serviceAccesses]
  split <;> rfl

/-- A write of XLT_SERVICE in the page of a die with a walker is a service (R314). -/
theorem pageWrite_service {off v tenant die : Nat} {s : State} (hd : pageDie off = some die) (h16 : die < 16)
    (ho : (off - pageBase) % 65536 = 0xF00) (hv : v < 2 ^ 32) :
    pageWrite off v tenant s = xltService die v (some tenant) s := by
  have narrow : ¬ v / 2 ^ 32 ≠ 0 := fun wide => wide (Nat.div_eq_of_lt hv)
  have notAck : ¬ (0x800 ≤ (off - pageBase) % 65536 ∧ (off - pageBase) % 65536 < 0xC00 ∧
      (off - pageBase) % 65536 % 64 = 0) := by omega
  simp only [pageWrite, hd]
  exact (if_neg narrow).trans ((if_neg notAck).trans (if_pos ⟨ho, h16⟩))

theorem pageBase_le_of_pageDie {off die : Nat} (h : pageDie off = some die) : pageBase ≤ off := by
  rw [pageDie, Option.ite_none_right_eq_some] at h
  exact h.1.1

/-- A WRITE of a line of a die page is answered with the status of the page's write (R497). -/
theorem doWrite_page {rq : Req} {s u : State} {st : Status} (hp : pageBase ≤ rq.hdr.offset) (hl : rq.hdr.length ≠ 0)
    (hd : rq.data < 2 ^ 512) (hw : pageWrite rq.hdr.offset rq.data rq.hdr.tenant s = (st, u)) :
    doWrite rq s = complete rq st 0 u := by
  simp only [doWrite, hp, hl, ne_eq, not_false_eq_true, and_self, if_true, Nat.mod_eq_of_lt hd, hw]

/-- A WRITE of XLT_SERVICE that R41 lets through serves the record that it names, if its tenant is the writer's. -/
theorem execWrite_service {h : Hdr} {v die k act : Nat} {f : FaultRec} {i : Issued} {s t : State} {rq : Req}
    (ha : admitted ⟨0x03, h, 0, v, [], false⟩ (memChecks s h 1) (64 * h.length) (max 64 (64 * h.length)) s = some (rq, t))
    (hl : h.length ≠ 0) (hd : pageDie h.offset = some die) (h16 : die < 16) (ho : (h.offset - pageBase) % 65536 = 0xF00)
    (hv : v < 2 ^ 32) (hact : bits v 29 28 = act) (h12 : act = 1 ∨ act = 2)
    (hk : namedFault t die (bits v 15 0) = some (k, f)) (hi : firstOf f = some i)
    (hc : i.access.context.getD 0 = bits v 27 16) (ht : i.access.tenant = h.tenant) :
    execWrite h v s = .next (complete rq .ok 0
      (serviceAccesses act f (releaseHeld (k / 2 ^ 32) { t with faults := terase t.faults k }))) := by
  obtain ⟨-, rfl, rfl, -⟩ := admitted_fields ha
  have served := (pageWrite_service hd h16 ho hv).trans (ht ▸ xltService_named hact h12 hk hi hc)
  exact admitted_completes ha
    (doWrite_page (pageBase_le_of_pageDie hd) hl (hv.trans (pow_lt_pow_right₀ one_lt_two (by decide))) served)

/-- Settles O38: an INVAL is served by its act, whose checks the conditions pass; each later step finds the invalidation, the
walk or the record that it is for; RETRY and ABORT are one write of XLT_SERVICE, with two ways to serve a record's accesses. -/
theorem translationCommandsComplete : Obligations.TranslationCommandsComplete := by
  refine ⟨?inval, ?takesEffect, ?stale, ?walked, ?acked, ?resend, ?service⟩
  case inval =>
    intro h body s t rq u taken hc ht hn hr
    refine ⟨fun ha h0 hz => ?pages, fun ha h1 hp hz => ?context⟩
    all_goals obtain ⟨rfl, rfl⟩ := admitted_hdr_body ha
    case pages => exact admitted_completes ha (doInval_accepted hc ht hn hr (.inl ⟨h0, hz⟩))
    case context => exact admitted_completes ha (doInval_accepted hc ht hn hr (.inr ⟨h1, hp, hz⟩))
  case takesEffect => exact fun acc x s hx hw hs hp => execInvalTakesEffect_owes hx hw hs hp
  case stale => exact fun a w s hw hs => execTranslationWalkEnd_stale hw hs
  case walked =>
    intro a w address used s hw hs c r ht
    exact execTranslationWalkEnd_to hw hs rfl ht
  case acked => exact fun q seq f s hf hs => execFaultRecordAcked_written hf hs
  case resend => exact fun q seq f s hf hs => execFaultDoorbellResend_awaiting hf hs
  case service =>
    intro h value die k act f i s t rq v ha hl hd h16 ho hv hact hk hi hc ht u
    have served := fun h12 => execWrite_service ha hl hd h16 ho hv hact h12 hk hi hc ht
    constructor
    case left => rintro rfl; exact served (.inl rfl)
    case right => rintro rfl; exact served (.inr rfl)

end Sys2Proof.Machine

/-! # Coherence -/

namespace Sys2Proof.Machine

/-! ## Caching reads (R320, R326, R333, R335) -/

section
variable {h : Hdr} {a : Nat} {s : State}

/-- What a caching read needs of its agent, one condition at a time (R320, R335, R348, R349). -/
theorem cohReady_iff : cohReady h a s = true ↔
    0 < h.length ∧ agentOf s h.requester = some a ∧ agentState s a = 1 ∧ formed s = true ∧ h.offset < windowBase := by
  simp only [cohReady, Bool.and_eq_true, decide_eq_true_eq, beq_iff_eq, and_assoc]

theorem cohLine_iff : cohLine h s = true ↔
    extState s (extentOf h.offset) = some .near ∧ lineBad s (h.offset / 64) = false := by
  simp only [cohLine, Bool.and_eq_true, Bool.not_eq_true', beq_iff_eq]

/-- An extent that holds a frame is not served from the far tier (R190). -/
theorem isFar_near {ext : Nat} (hn : extState s ext = some .near) : isFar s ext = false := by
  rw [isFar, hn]
  rfl

end

section
variable {rq : Req} {a : Nat} {s u : State} (hr : cohReady rq.hdr a s = true) (hu : bump 0x6014 1 1 s = u)
  (hl : cohLine rq.hdr u = true)

include hr hu hl in
/-- A caching read of an ACTIVE agent, of a near and good line that has an entry or a free way for one, reaches the
directory as it stands. -/
theorem cachingRead_ready {owns : Bool} {act : Nat → State → State} (hp : poisonDead [rq.hdr.offset / 64] u = u)
    (hway : tget u.dir (rq.hdr.offset / 64) = none → ∃ way, freeWay u (rq.hdr.offset / 64) = some way) :
    cachingRead rq owns act s = act a u := by
  obtain ⟨-, hagent, hactive, hformed, hbelow⟩ := cohReady_iff.mp hr
  obtain ⟨hnear, hgood⟩ := cohLine_iff.mp hl
  have served : ¬ (agentState s a = 3 ∨ (!formed s) = true ∨ windowBase ≤ rq.hdr.offset) := by
    simp [hactive, hformed, Nat.not_le.mpr hbelow]
  have notSuspect : ¬ agentState s a = 2 := by simp [hactive]
  simp only [cachingRead, hagent, if_neg served, if_neg notSuspect, hu, hp, isFar_near hnear, hnear, hgood,
    Option.some.injEq, reduceCtorEq, Bool.false_eq_true, and_false, false_and, if_false]
  cases hdir : tget u.dir (rq.hdr.offset / 64) with
  | some e => rfl
  | none =>
    obtain ⟨way, hfree⟩ := hway hdir
    rw [hfree]

section
variable {way : Nat} (hb : u.unrebuilt = []) (hd : tget u.dir (rq.hdr.offset / 64) = none)
  (hw : freeWay u (rq.hdr.offset / 64) = some way)

include hr hu hl hb hd hw in
/-- A caching read of a line that no cache holds finds no entry, and a way for its own. -/
theorem cachingRead_unheld {owns : Bool} {act : Nat → State → State} : cachingRead rq owns act s = act a u :=
  cachingRead_ready hr hu hl (poisonDead_unheld hb (List.forall_mem_singleton.mpr hd)) fun _ => ⟨way, hw⟩

include hr hu hl hb hd hw in
/-- RD_SHARED of a line that no cache holds is granted E (R335). -/
theorem doRdShared_unheld : doRdShared rq s =
    finalGrant rq (rq.hdr.offset / 64) 3 1 (setDir (rq.hdr.offset / 64) ⟨3, false, [a], way, u.snoopCtr⟩ u) := by
  simp only [doRdShared, cachingRead_unheld hr hu hl hb hd hw, hd, newEntry, hw, Option.getD_some]

include hr hu hl hb hd hw in
/-- RD_OWN and UPGRADE of a line that no cache holds are granted M (R332, R335). -/
theorem doRdOwn_unheld (upgrade : Bool) : doRdOwn upgrade rq s =
    finalGrant rq (rq.hdr.offset / 64) 4 1 (setDir (rq.hdr.offset / 64) ⟨4, false, [a], way, u.snoopCtr⟩ u) := by
  simp only [doRdOwn, cachingRead_unheld hr hu hl hb hd hw, hd, newEntry, hw, Option.getD_some]

end

section
variable {o : Nat} {e : DirEntry} (hb : u.unrebuilt = []) (hd : tget u.dir (rq.hdr.offset / 64) = some e)
  (hst : 3 ≤ e.st) (ho : e.ptrs.head? = some o) (hne : o ≠ a) (halive : agentState u o ≠ 3)

/-- With nothing to rebuild and its owner not DEAD, an owned line is accessed as it stands (R349, R570). -/
theorem poisonDead_owned {line : Nat} (hb : u.unrebuilt = []) (hd : tget u.dir line = some e)
    (ho : e.ptrs.head? = some o) (halive : agentState u o ≠ 3) : poisonDead [line] u = u := by
  simp only [poisonDead, rebuildLines, hb, List.isEmpty_nil, if_true, List.foldl_cons, List.foldl_nil, hd, ho, halive,
    and_false, if_false]

include hr hu hl hb hd ho halive in
/-- A caching read of an owned line finds its owner's entry. -/
theorem cachingRead_owned {owns : Bool} {act : Nat → State → State} : cachingRead rq owns act s = act a u :=
  cachingRead_ready hr hu hl (poisonDead_owned hb hd ho halive) fun hnone => by cases hd.symm.trans hnone

include hr hu hl hb hd hst ho hne halive in
/-- RD_SHARED of a line that another agent owns asks the owner to share it (R328, R335). -/
theorem doRdShared_owned : doRdShared rq s = complete rq .ok (cohResult 2 o (u.snoopCtr % 65536) 0)
    (setDir (rq.hdr.offset / 64) (addPtr { e with st := 2 } a false)
      (sendSnoop (u.snoopCtr % 65536) (rq.hdr.offset / 64) o 2 (.agent rq.hdr 1) rq.hdr.requester rq.hdr.tag 1
        { u with snoopCtr := u.snoopCtr + 1 })) := by
  simp only [doRdShared, cachingRead_owned hr hu hl hb hd ho halive, hd, if_pos hst, ho, if_neg hne, nextTxn]

include hr hu hl hb hd hst ho hne halive in
/-- RD_OWN of a line that another agent owns asks the owner to hand it on (R328, R335). -/
theorem doRdOwn_owned (upgrade : Bool) : doRdOwn upgrade rq s = complete rq .ok (cohResult 2 o (u.snoopCtr % 65536) 0)
    (setDir (rq.hdr.offset / 64) { e with st := 4, broadcast := false, ptrs := [a] }
      (sendSnoop (u.snoopCtr % 65536) (rq.hdr.offset / 64) o 4 (.agent rq.hdr 4) rq.hdr.requester rq.hdr.tag 4
        { u with snoopCtr := u.snoopCtr + 1 })) := by
  have another : (e.ptrs.head?).filter (fun x => x != a) = some o := by simp [ho, hne]
  simp only [doRdOwn, cachingRead_owned hr hu hl hb hd ho halive, hd, if_pos hst, another, nextTxn]

end

end

/-- A coherent command of a line that R41 lets through is performed by its act. -/
theorem serveCoh_admitted {op data perm n : Nat} {h : Hdr} {act : Req → State → State} {s t : State} {rq : Req}
    (ha : admitted ⟨op, h, 0, data, [], false⟩ (cohChecks h perm s) n 64 s = some (rq, t))
    (hn : n = if op = 0x23 then 64 else 0) (hl : 0 < h.length) : serveCoh op h data perm act s = act rq t := by
  subst hn
  obtain ⟨-, rfl, -, -⟩ := admitted_fields ha
  exact (serve_admitted ha).trans (if_neg hl.ne')

/-- What a command leaves, a dissolution that waits for the directory settles (R322). -/
theorem next_settleDissolve {u v : State} (h : u = v) :
    (.next (settleDissolve u) : Host.Outcome State Fault Refusal) = .next (settleDissolve v) :=
  congrArg _ (congrArg _ h)

/-! ## Lines that their owner gives back (R335, R342) -/

section
variable {rq : Req} {a : Nat} {e : DirEntry} {s : State} (hagent : agentOf s rq.hdr.requester = some a)
  (hd : tget s.dir (rq.hdr.offset / 64) = some e) (ho : e.ptrs.head? = some a)

include hagent hd ho in
/-- WB_DIRTY of a line's owner, with no snoop of the agent in flight, writes the line and frees its entry. -/
theorem doWbDirty_owner (hst : 3 ≤ e.st) (hm : isMirror s (extentOf rq.hdr.offset) = false)
    (hs : s.snoops.find? (fun x => x.2.line == rq.hdr.offset / 64 && x.2.agent == a) = none) :
    doWbDirty rq s = completeCopied rq .ok 0 (copiedObjects s (64 * (rq.hdr.offset / 64)) 64)
      (dropDir (rq.hdr.offset / 64) (writeHome rq (rq.hdr.offset / 64) (rq.data % 2 ^ 512) s)) := by
  have mine : (decide (3 ≤ e.st) && e.ptrs.head? == some a) = true := by simp [hst, ho]
  simp only [doWbDirty, hm, Bool.false_eq_true, false_and, if_false, hagent, hd, hs, mine, if_true]

include hagent hd ho in
/-- EVICT_CLEAN of the owner of an E line frees its entry. -/
theorem doEvictClean_owner (hst : e.st = 3) : doEvictClean rq s = complete rq .ok 0 (dropDir (rq.hdr.offset / 64) s) := by
  simp only [doEvictClean, hagent, hd, hst, ho, and_self, if_true]

end

/-! ## Snoop answers, and snoops without one (R328, R342, R347) -/

section
variable {seq agent : Nat} {x : Snoop} {s : State}

theorem doSnoopResponse_late {result data : Nat} (h : tget s.snoops (snoopKey seq agent) = none) :
    doSnoopResponse seq agent result data s = bump 0x6014 9 1 s := by
  simp only [doSnoopResponse, h]

/-- An answer that no writeback has to bring data for ends its snoop. -/
theorem doSnoopResponse_answers {result data : Nat} (h : tget s.snoops (snoopKey seq agent) = some x)
    (hw : x.awaitsWb = false) (hr : bit result 5 = false) : doSnoopResponse seq agent result data s =
      snoopDone (snoopKey seq agent) x (if bit result 3 then some (data % 2 ^ 512) else none) (bit result 4) false s := by
  simp only [doSnoopResponse, h, hw, hr, Bool.false_eq_true, if_false]

/-- A running snoop of a line's only holder, without its answer, frees the line and suspects the agent. -/
theorem doSnoopTimeout_onlyHolder {e : DirEntry} {u : State} (h : tget s.snoops (snoopKey seq agent) = some x)
    (hrun : x.running = true) (hu : bump 0x6014 3 1 (writePoison (64 * x.line) s) = u)
    (hd : tget u.dir x.line = some e) (hb : e.broadcast = false) (hp : e.ptrs = [agent])
    (ha : agentState (dropDir x.line u) agent = 1) :
    doSnoopTimeout seq agent s = snoopDone (snoopKey seq agent) x none false true
      (raiseEvent 0x6010 0xB 0 (tellMembers 1 agent 2 (setAgentState agent 2 (dropDir x.line u)))) := by
  have noneLeft : e.ptrs.filter (fun p => p != agent) = [] := by simp [hp]
  simp only [doSnoopTimeout, h, hrun, Bool.not_true, Bool.false_eq_true, if_false, hu, hd, noneLeft, List.isEmpty_nil, hb,
    Bool.not_false, and_self, if_true, ha]

end

/-- Settles O14: a caching read reaches the directory, which has no entry of the line and a way for one; what an owner gives
back is its own by the entry; each of the other commands finds the snoop or the recall that it is for, or none. -/
theorem cacheRequestsComplete : Obligations.CacheRequestsComplete := by
  refine ⟨?reads, ?givenBack, ?answered, ?late, ?timeout, ?recalled⟩
  case reads =>
    intro h a way s t rq u line hready hline hb hd hw
    have hl : 0 < h.length := (cohReady_iff.mp hready).1
    refine ⟨fun ha => ?shared, fun ha => ?own, fun ha => ?upgrade⟩
    all_goals obtain ⟨rfl, -⟩ := admitted_hdr_body ha
    case shared => exact congrArg _ ((serveCoh_admitted ha rfl hl).trans (doRdShared_unheld hready rfl hline hb hd hw))
    case own => exact congrArg _ ((serveCoh_admitted ha rfl hl).trans (doRdOwn_unheld hready rfl hline hb hd hw false))
    case upgrade => exact congrArg _ ((serveCoh_admitted ha rfl hl).trans (doRdOwn_unheld hready rfl hline hb hd hw true))
  case givenBack =>
    intro h data a e s t rq hl hagent hd ho
    refine ⟨fun ha hst hm hs => ?dirty, fun ha hst => ?clean⟩
    case dirty =>
      obtain ⟨-, rfl, rfl, -⟩ := admitted_fields ha
      exact next_settleDissolve ((serveCoh_admitted ha rfl hl).trans (doWbDirty_owner hagent hd ho hst hm hs))
    case clean =>
      obtain ⟨rfl, -⟩ := admitted_hdr_body ha
      exact next_settleDissolve ((serveCoh_admitted ha rfl hl).trans (doEvictClean_owner hagent hd ho hst))
  case answered => exact fun seq agent result data x s h hw hr => next_settleDissolve (doSnoopResponse_answers h hw hr)
  case late => exact fun seq agent result data s h => next_settleDissolve (doSnoopResponse_late h)
  case timeout =>
    exact fun seq agent x e s h hrun hd hb hp ha => next_settleDissolve (doSnoopTimeout_onlyHolder h hrun rfl hd hb hp ha)
  case recalled => exact fun line s hr hs => next_settleDissolve (if_pos ⟨hr, hs⟩)

/-- Settles O15: a caching read reaches the directory, whose entry names another agent as the line's owner. -/
theorem ownedLinesAreSnooped : Obligations.OwnedLinesAreSnooped := by
  intro h a o e s t rq u line hready hline hb hd hst ho hne halive
  have hl : 0 < h.length := (cohReady_iff.mp hready).1
  refine ⟨fun ha => ?shared, fun ha => ?own⟩
  all_goals obtain ⟨rfl, -⟩ := admitted_hdr_body ha
  case shared =>
    exact congrArg _ ((serveCoh_admitted ha rfl hl).trans (doRdShared_owned hready rfl hline hb hd hst ho hne halive))
  case own =>
    exact congrArg _ ((serveCoh_admitted ha rfl hl).trans (doRdOwn_owned hready rfl hline hb hd hst ho hne halive false))

end Sys2Proof.Machine

/-! # The domain's members and agents -/

namespace Sys2Proof.Machine

/-- A package that its domain did not expel is not barred from it (R16). -/
theorem barred_eq_false {s : State} (h : s.pkg ≠ .expelled) : barred s = false := beq_eq_false_iff_ne.mpr h

/-! ## Formation and dissolution (R11, R322) -/

section
variable {answers : List MemberAnswer} {c : Ctx} {s : State}

/-- A formation that every member answers with the master's digest completes, at the next generation. -/
theorem doForm_answered {u : State} (hn : obj s 0x6010 2 ≠ 0)
    (hu : tellMembers 3 0 1 (drawRanges (setObj 0x6010 7 1 { s with
      memberRanges := [], dissolving := false
      formFrom := if obj s 0x6010 7 = 1 then s.formFrom else obj s 0x6010 7 })) = u)
    (hall : allAnswered u answers = true) (hown : obj u 0x6011 (obj u 0x6010 3 + 1) = pkgNo u) (hcas : cascadeOk u = true)
    (hdig : ∀ a ∈ answers, obj u 0x6010 2 ≤ a.index ∨ a.listed = true ∧ a.digest = domainDigest u) :
    doForm answers c s = finOk c (tellMembers 3 0 2 (setObj 0x6010 7 2 (nextGeneration u))) := by
  have digests : answers.all (fun a => decide (obj u 0x6010 2 ≤ a.index) || (a.listed && a.digest == domainDigest u)) =
      true := by simpa using hdig
  simp only [doForm, if_neg hn, hu, hall, hown, hcas, digests, Bool.not_true, Bool.false_eq_true, if_false, beq_self_eq_true,
    Bool.and_self, if_true]

section
variable (hm : isMaster s = true) (hx : s.pkg ≠ .expelled)

include hm hx in
/-- The master may write 0 or 1 to domain_form. -/
theorem domainForm_allowed (hv : c.value ≤ 1) : ¬ ((!isMaster s) = true ∨ 1 < c.value ∨ barred s = true) := by
  simp [hm, hv, barred_eq_false hx]

include hm hx in
theorem doDomainForm_one (hv : c.value = 1) : doDomainForm answers c s = doForm answers c s :=
  (if_neg (domainForm_allowed hm hx hv.le)).trans (if_pos hv)

include hm hx in
theorem doDomainForm_zero (hv : c.value = 0) : doDomainForm answers c s = dissolve (tellMembers 3 0 0 s) :=
  (if_neg (domainForm_allowed hm hx (by omega))).trans (if_neg (by omega))

end

end

/-! ## What a member takes up (R16, R323, R569) -/

section
variable {g : Nat} {news : DomainNews} {s : State}

theorem execGenerationTakeUp_barred (h : s.pkg = .expelled) : execGenerationTakeUp g news s = .next s :=
  congrArg _ (if_pos (beq_iff_eq.mpr h))

/-- A member takes up the generation and what else changed. -/
theorem execGenerationTakeUp_member (hd : obj s 0x6010 7 ≠ 0) (hx : s.pkg ≠ .expelled) :
    execGenerationTakeUp g news s = .next (takePartners news.partners (takeObjects false news.objects
      (news.dead.foldl (fun s a => takeDead a s) (countVotes (takeUp g { s with memberRanges := [] }))))) := by
  simp only [execGenerationTakeUp, barred_eq_false hx, Bool.false_eq_true, if_false, if_neg hd]

/-- A READY package that is ALONE, and that nothing keeps from it, joins. -/
theorem execGenerationTakeUp_joins {j : Joining} (hd : obj s 0x6010 7 = 0) (hp : s.pkg = .ready)
    (hq : undisturbed s = true) (hj : news.join = some j) :
    execGenerationTakeUp g news s = .next (joinDomain g news j s) := by
  have notExpelled : s.pkg ≠ .expelled := by simp [hp]
  simp only [execGenerationTakeUp, barred_eq_false notExpelled, Bool.false_eq_true, if_false, if_pos hd, hj, hp, hq, and_self,
    if_true]

/-- A package that joins at an index is that member from then on. -/
theorem joinDomain_index {j : Joining} {m : Nat} (hi : j.index = some m) : joinDomain g news j s =
    countVotes (takeUp g { j.entries.foldl (fun s e => joinObject j.rebuild e s)
      (takeObjects true news.objects (setObj 0x6010 3 m (setObj 0x6010 7 2 s))) with memberRanges := [] }) := by
  simp only [joinDomain, hi, Option.isSome_some, if_true]

end

/-! ## Writes of the domain's objects (R321, R323, R324) -/

section
variable {c : Ctx} {s : State} (hx : s.pkg ≠ .expelled)

include hx in
theorem doMasterConfirm_allowed (hv : ¬ (c.value = 1 ∧ obj s 0x6010 4 = 0)) :
    doMasterConfirm c s = applied c (setObj 0x6010 5 c.value) s :=
  if_neg (by simpa only [barred_eq_false hx, Bool.false_eq_true, or_false] using hv)

section
variable (hv : c.value ≤ 1)

include hx hv in
/-- data_source takes a value that is defined, at a package that its domain did not expel. -/
theorem dataSource_allowed : ¬ (1 < c.value ∨ barred s = true) := by
  simp [hv, barred_eq_false hx]

include hx hv in
theorem doDataSource_unformed (hd : obj s 0x6010 7 ≠ 2) : doDataSource c s = applied c (setObj 0x6010 6 c.value) s :=
  (if_neg (dataSource_allowed hx hv)).trans (if_pos hd)

include hx hv in
/-- In a FORMED domain the master changes data_source at a new generation. -/
theorem doDataSource_master (hd : obj s 0x6010 7 = 2) (hm : isMaster s = true) (hne : obj s 0x6010 6 ≠ c.value) :
    doDataSource c s =
      applied c (fun s => tellMembers 9 0 c.value (nextGeneration (setObj 0x6010 6 c.value s))) s := by
  simp only [doDataSource, if_neg (dataSource_allowed hx hv), hd, ne_eq, not_true_eq_false, if_false, hm, Bool.not_true,
    Bool.false_eq_true, if_neg hne]

end

/-! ## Agents (R324, R348, R349, R351) -/

section
variable (hhi : bits c.value 63 34 = 0) (hlo : bits c.value 31 28 = 0)

include hx hhi hlo in
/-- An agent entry whose reserved fields are zero is not refused for its form. -/
theorem agentEntry_allowed : ¬ (bits c.value 63 34 ≠ 0 ∨ bits c.value 31 28 ≠ 0 ∨ barred s = true) := by
  simp [hhi, hlo, barred_eq_false hx]

include hx hhi hlo in
theorem doAgentEntry_unformed (hd : obj s 0x6010 7 ≠ 2) (hst : bits c.value 33 32 < 2) :
    doAgentEntry c s = applied c (setObj 0x6012 c.sub c.value) s :=
  (if_neg (agentEntry_allowed hx hhi hlo)).trans ((if_pos hd).trans (if_neg (Nat.not_le.mpr hst)))

section
variable (hd : obj s 0x6010 7 = 2) (hm : isMaster s = true)
  (hsame : bits c.value 31 0 = bits (agentEntry s (c.sub - 1)) 31 0)

include hx hhi hlo hd hm hsame in
/-- In a FORMED domain its master declares an ACTIVE or SUSPECT agent dead. -/
theorem doAgentEntry_dead (hst : bits c.value 33 32 = 3)
    (hlive : agentState s (c.sub - 1) = 1 ∨ agentState s (c.sub - 1) = 2) :
    doAgentEntry c s = applied c (declareDead (c.sub - 1)) s := by
  simp only [doAgentEntry, if_neg (agentEntry_allowed hx hhi hlo), hd, hsame, hm, ne_eq, not_true_eq_false, if_false,
    Bool.not_true, Bool.false_eq_true, hst, hlive, and_self, if_true]

include hx hhi hlo hd hm hsame in
/-- In a FORMED domain its master makes a SUSPECT agent ACTIVE again. -/
theorem doAgentEntry_reactivated (hst : bits c.value 33 32 = 1) (hsuspect : agentState s (c.sub - 1) = 2) :
    doAgentEntry c s =
      applied c (fun s => tellMembers 1 (c.sub - 1) 1 (setAgentState (c.sub - 1) 1 s)) s := by
  simp only [doAgentEntry, if_neg (agentEntry_allowed hx hhi hlo), hd, hsame, hm, ne_eq, not_true_eq_false, if_false,
    Bool.not_true, Bool.false_eq_true, hst, Nat.reduceEqDiff, false_and, hsuspect, and_self, if_true]

end

end

end

/-- Settles O42: each command is a write to its own object that the conditions pass, the end of a formation that waits, or what
the master sends with a generation. That a timeout restores the state from before the formation, that a declaration takes
effect at once, that a package joins without an ACTIVATE of its own, and the codes of the members' messages are the model's
choices (log entries 91, 88, 30 and 33). -/
theorem domainMembershipComplete : Obligations.DomainMembershipComplete := by
  refine ⟨?form, ?timeout, ?dissolve, ?member, ?joins, ?expelled, ?confirm, ?source, ?agent⟩
  case form =>
    exact fun m answers s t c ha hm hx hv hn hall hown hcas hdig =>
      dapAdmitted_completes ha ((doDomainForm_one hm hx hv).trans (doForm_answered hn rfl hall hown hcas hdig))
  case timeout => exact fun s hf hw => congrArg _ (if_pos ⟨hf, hw⟩)
  case dissolve => exact fun m s t c ha hm hx hv => dapAdmitted_completes ha (doDomainForm_zero hm hx hv)
  case member => exact fun g news s hd hx => execGenerationTakeUp_member hd hx
  case joins =>
    exact fun g m news j s hd hp hq hj hi =>
      (execGenerationTakeUp_joins hd hp hq hj).trans (congrArg _ (joinDomain_index hi))
  case expelled => exact fun g news s hx => execGenerationTakeUp_barred hx
  case confirm =>
    exact fun m s t c ha hx hv hr =>
      dapAdmitted_completes ha ((doMasterConfirm_allowed hx hv).trans (applied_guarded _ (dapAdmitted_op ha) hr))
  case source =>
    intro m s t c ha hv hx
    have unguarded : c.op ≠ dapGuarded := by simp [dapAdmitted_op ha]
    refine ⟨fun hd => ?unformed, fun hd hm hne => ?formed⟩
    case unformed =>
      exact dapAdmitted_completes ha ((doDataSource_unformed hx hv hd).trans (applied_unguarded _ unguarded))
    case formed =>
      exact dapAdmitted_completes ha ((doDataSource_master hx hv hd hm hne).trans (applied_unguarded _ unguarded))
  case agent =>
    intro m s t c ha a hx hhi hlo hr
    have recorded := fun f => applied_guarded f (dapAdmitted_op ha) hr
    refine ⟨fun hd hst => ?unformed, fun hd hm hsame => ⟨fun hst hlive => ?dead, fun hst hsuspect => ?reactivated⟩⟩
    case unformed => exact dapAdmitted_completes ha ((doAgentEntry_unformed hx hhi hlo hd hst).trans (recorded _))
    case dead => exact dapAdmitted_completes ha ((doAgentEntry_dead hx hhi hlo hd hm hsame hst hlive).trans (recorded _))
    case reactivated =>
      exact dapAdmitted_completes ha ((doAgentEntry_reactivated hx hhi hlo hd hm hsame hst hsuspect).trans (recorded _))

end Sys2Proof.Machine

/-! # The step, and what every step keeps -/

namespace Sys2Proof.Machine

theorem step_of_front {c : Instr} {rest : List Instr} {s : State} (h : s.pending = c :: rest) :
    step s = exec c { s with pending := rest } := by
  rw [step, h]

theorem step_of_empty {s : State} (h : s.pending = []) : step s = .next (tick s) := by
  rw [step, h]

/-- Settles O5: of what every command keeps, the log, the variant, the output and the queue. -/
theorem logOnlyGrows : Obligations.LogOnlyGrows := fun _ _ _ e =>
  have kept := exec_keeps e
  ⟨kept.log, kept.variant, kept.out, kept.pending⟩

theorem Keeps.sound {k : Left} {s t : State} (h : Keeps k s t) (sound : Sound s) : Sound t :=
  ⟨h.mem sound.1, h.cap sound.2⟩

/-- Settles O4: a step is a cycle, or a command on the state with the queue's rest, which is as sound. -/
theorem stepKeepsSound : Obligations.StepKeepsSound := by
  intro s t sound e
  cases hq : s.pending with
  | nil =>
    rw [step_of_empty hq] at e
    cases e
    exact (keeps_tick (b0 := false) s (.refl s)).sound sound
  | cons c rest =>
    rw [step_of_front hq] at e
    exact (exec_keeps e).sound sound

/-- Settles O1: no command touches the queue. -/
theorem stepRunsFrontCommand : Obligations.StepRunsFrontCommand := fun _ _ _ =>
  ⟨rfl, fun _ e => (exec_keeps e).pending⟩

/-- Refutes O3: `sessionsOpen` leaves the implicit session out, so before the input it counts no session, not one. -/
theorem not_resetIsSound : ¬ Obligations.ResetIsSound := by
  rintro ⟨-, -, -, -, one, -⟩
  have none_open : sessionsOpen State.reset = 0 := rfl
  exact absurd (none_open.symm.trans one) (by decide)

end Sys2Proof.Machine

/-! # What events, answers and completions leave -/

namespace Sys2Proof.Machine

/-- A view of the state that shows nothing of what answers and notifications of the dictionary write (R459, R470). -/
structure ReplyBlind {α : Type} (p : State → α) : Prop where
  dict (s : State) (x : Dict) : p { s with dict := x } = p s
  out (s : State) (x : List Out) : p { s with out := x } = p s
  ethHeld (s : State) (x : List (Nat × Out)) : p { s with ethHeld := x } = p s

/-- A view that shows nothing of objects either. -/
structure AnswerBlind {α : Type} (p : State → α) : Prop extends ReplyBlind p where
  objs (s : State) (x : Tab Nat) : p { s with objs := x } = p s

/-- A view that shows nothing of what completions write, the fabric's counters and the port's among it (R39, R384, R421,
R437). -/
structure CompletionBlind {α : Type} (p : State → α) : Prop extends ReplyBlind p where
  fabricObj {index : Nat} (h : index / 0x1000 = 7) (sub v : Nat) (s : State) : p (setObj index sub v s) = p s
  freeCtr (s : State) (x : Nat) : p { s with freeCtr := x } = p s
  links (s : State) (x : Tab Link) : p { s with links := x } = p s
  comps (s : State) (x : Tab Comp) : p { s with comps := x } = p s
  qps (s : State) (x : Tab Qp) : p { s with qps := x } = p s

/-- A view that shows nothing of what an entry of the custody log writes (R591 to R594). -/
structure RecordBlind {α : Type} (p : State → α) : Prop extends ReplyBlind p where
  logObj {sub : Nat} (h : sub < 8) (v : Nat) (s : State) : p (setObj 0xB040 sub v s) = p s
  log (s : State) (x : List Nat) : p { s with log := x } = p s
  lastCheck (s : State) (x : Nat) : p { s with lastCheck := x } = p s
  sinceCheck (s : State) (x : Nat) : p { s with sinceCheck := x } = p s

/-- A fold of operations that each leave a view leaves it. -/
theorem foldl_view {α β : Type} {p : State → α} {f : State → β → State} (hf : ∀ s b, p (f s b) = p s) (l : List β)
    (s : State) : p (l.foldl f s) = p s :=
  List.foldlRecOn (motive := fun t => p t = p s) l f rfl fun t h b _ => (hf t b).trans h

/-- Where both branches leave a view, a choice leaves it. -/
theorem ite_view {α : Type} {p : State → α} {c : Prop} [Decidable c] {s t u : State} (ht : p t = p s) (hu : p u = p s) :
    p (if c then t else u) = p s := by
  split
  · exact ht
  · exact hu

namespace ReplyBlind

variable {α : Type} {p : State → α} (hp : ReplyBlind p)
include hp

theorem emit (o : Out) (s : State) : p (emit o s) = p s := hp.out ..

theorem setSession (q : Port) (id : Nat) (x : Session) (s : State) : p (setSession q id x s) = p s := by
  cases q <;> exact hp.dict ..

theorem ethOut (priority : Nat) (o : Out) (s : State) : p (ethOut priority o s) = p s := by
  unfold Machine.ethOut
  split
  · exact hp.ethHeld ..
  · exact hp.emit ..

theorem notifySession (q : Port) (key record : Nat) (s : State) (e : Nat × Session) :
    p (notifySession q key record s e) = p s := by
  unfold Machine.notifySession
  split
  · cases q with
    | eth => exact (hp.ethOut ..).trans (hp.setSession ..)
    | i3c =>
      dsimp only
      split
      · exact hp.setSession ..
      · exact (hp.emit ..).trans ((hp.dict ..).trans (hp.setSession ..))
  · rfl

/-- An event that a view sees is its record alone. -/
theorem raiseEvent_record (index sub cause : Nat) (s : State) :
    ∃ v, p (raiseEvent index sub cause s) = p (setObj index sub v s) :=
  ⟨_, (foldl_view (fun s e => hp.notifySession _ _ _ s e) _ _).trans
    (foldl_view (fun s e => hp.notifySession _ _ _ s e) _ _)⟩

theorem dapReply (q : Port) (id : Nat) (r : DapReply) (s : State) : p (dapReply q id r s) = p s := by
  have answered : p (match session s q id with
      | some x => Machine.setSession q id { x with last := some r, busy := none } s
      | none => s) = p s := by
    split
    · exact hp.setSession ..
    · rfl
  cases q with
  | eth => exact (hp.ethOut ..).trans answered
  | i3c => exact (hp.emit ..).trans ((hp.dict ..).trans answered)

theorem dapFinish (q : Port) (id : Nat) (st : Status) (hint n v : Nat) (s : State) :
    p (dapFinish q id st hint n v s) = p s := by
  unfold Machine.dapFinish
  split
  · rfl
  · split
    · rfl
    · exact hp.dapReply ..

theorem finOk (c : Ctx) (s : State) : p (finOk c s) = p s := hp.dapFinish ..

theorem dapFinishKey (key : Nat) (st : Status) (hint : Nat) (s : State) : p (dapFinishKey key st hint s) = p s :=
  (foldl_view (fun _ _ => ite_view (hp.dapFinish ..) rfl) _ _).trans
    (foldl_view (fun _ _ => ite_view (hp.dapFinish ..) rfl) _ _)

theorem settleCommit (s : State) : p (settleCommit s) = p s := ite_view (hp.dapFinishKey ..) rfl

end ReplyBlind

namespace AnswerBlind

variable {α : Type} {p : State → α} (hp : AnswerBlind p)
include hp

theorem setObj (index sub v : Nat) (s : State) : p (setObj index sub v s) = p s := hp.objs ..
theorem bump (index sub n : Nat) (s : State) : p (bump index sub n s) = p s := hp.setObj ..

theorem raiseEvent (index sub cause : Nat) (s : State) : p (raiseEvent index sub cause s) = p s := by
  obtain ⟨v, e⟩ := hp.raiseEvent_record index sub cause s
  exact e.trans (hp.setObj ..)

end AnswerBlind

namespace RecordBlind

variable {α : Type} {p : State → α} (hp : RecordBlind p)
include hp

theorem logUnit (u : Nat) (s : State) : p (logUnit u s) = p s := by
  have programmed (v : Nat) : p (Machine.setObj 0xB040 1 v { s with log := u :: s.log }) = p s :=
    (hp.logObj (by decide) v _).trans (hp.log ..)
  obtain ⟨v, e⟩ := hp.raiseEvent_record 0xB040 7 2 (Machine.setObj 0xB040 1 (logNext s + 1) { s with log := u :: s.log })
  exact ite_view ((e.trans (hp.logObj (by decide) v _)).trans (programmed _)) (programmed _)

theorem checkpoint (s : State) : p (checkpoint s) = p s := by
  have begun : p { s with lastCheck := logNext s, sinceCheck := 0 } = p s :=
    (hp.sinceCheck { s with lastCheck := logNext s } 0).trans (hp.lastCheck s _)
  exact ite_view ((foldl_view (fun _ _ => hp.logUnit _ _) _ _).trans ((hp.logUnit ..).trans begun))
    (hp.logObj (by decide) _ s)

theorem appendLog (ty actor tenant payload : Nat) (s : State) : p (appendLog ty actor tenant payload s) = p s := by
  have entered := (hp.logUnit (logEntry s ty actor tenant payload) _).trans (hp.sinceCheck s (s.sinceCheck + 1))
  exact ite_view (ite_view ((hp.checkpoint _).trans entered) entered) (hp.logObj (by decide) _ s)

theorem guardedEntry (c : Ctx) (s : State) : p (guardedEntry c s) = p s := hp.appendLog ..

end RecordBlind

namespace CompletionBlind

variable {α : Type} {p : State → α} (hp : CompletionBlind p)
include hp

theorem counter {index : Nat} (h : index / 0x1000 = 7) (sub n : Nat) (s : State) : p (bump index sub n s) = p s :=
  hp.fabricObj h ..

theorem event {index : Nat} (h : index / 0x1000 = 7) (sub cause : Nat) (s : State) : p (raiseEvent index sub cause s) = p s := by
  obtain ⟨v, e⟩ := hp.raiseEvent_record index sub cause s
  exact e.trans (hp.fabricObj h ..)

theorem setQp (q : Nat) (x : Qp) (s : State) : p (setQp q x s) = p s := hp.qps ..
theorem qpOut (q : Nat) (o : Out) (s : State) : p (qpOut q o s) = p s := hp.ethOut ..

theorem meterOut (requester n : Nat) (s : State) : p (meterOut requester n s) = p s := by
  unfold Machine.meterOut
  split
  · rfl
  · exact hp.comps ..

theorem qpError (q st : Nat) (s : State) : p (qpError q st s) = p s :=
  (hp.event (by decide) ..).trans ((hp.fabricObj (by decide) ..).trans ((hp.counter (by decide) ..).trans (hp.setQp ..)))

theorem qpSend (q : Nat) (imm : Option Nat) (bytes data : Nat) (notice : Option Nat) (s : State) :
    p (qpSend q imm bytes data notice s) = p s := by
  unfold Machine.qpSend
  dsimp only
  split
  · exact (hp.qpOut ..).trans (hp.setQp ..)
  · rfl

theorem rdmaAnswer (q psn : Nat) (st : Status) (bytes data : Nat) (s : State) :
    p (rdmaAnswer q psn st bytes data s) = p s := by
  unfold Machine.rdmaAnswer
  split
  · rfl
  · split
    · exact (hp.qpOut ..).trans (hp.meterOut ..)
    · exact (hp.qpError ..).trans ((hp.counter (by decide) ..).trans (hp.qpOut ..))

theorem completeWith (rq : Req) (st : Status) (result hint len data : Nat) (load : Option Nat) (s : State) :
    p (completeWith rq st result hint len data load s) = p s := by
  have counted : p (match st with
      | .keyDenied => Machine.bump 0x7020 4 1 s
      | .epochStale => Machine.bump 0x7030 5 1 s
      | .notOwner => Machine.bump 0x7032 4 1 s
      | _ => s) = p s := by
    split
    · exact hp.counter (by decide) ..
    · exact hp.counter (by decide) ..
    · exact hp.counter (by decide) ..
    · rfl
  have drawn (n : Nat) := (hp.freeCtr _ n).trans counted
  unfold Machine.completeWith
  cases rq.hdr.via with
  | dap q id => exact hp.dapFinish ..
  | eth q =>
    exact ite_view ((hp.rdmaAnswer ..).trans (drawn _)) (ite_view ((hp.rdmaAnswer ..).trans (drawn _))
      (ite_view ((hp.rdmaAnswer ..).trans ((hp.setQp ..).trans (drawn _)))
        (ite_view ((hp.qpSend ..).trans ((hp.emit ..).trans ((hp.meterOut ..).trans (drawn _)))) (drawn _))))
  | link n => exact ite_view ((hp.emit ..).trans ((hp.links ..).trans ((hp.meterOut ..).trans (drawn _)))) (drawn _)

theorem complete (rq : Req) (st : Status) (result : Nat) (s : State) : p (complete rq st result s) = p s :=
  hp.completeWith ..

end CompletionBlind

theorem completionBlind_notified : CompletionBlind State.notified := by
  refine ⟨⟨?_, ?_, ?_⟩, ?_, ?_, ?_, ?_, ?_⟩ <;> (intros; rfl)

theorem replyBlind_obj (index sub : Nat) : ReplyBlind (fun s => obj s index sub) := by
  refine ⟨?_, ?_, ?_⟩ <;> (intros; rfl)

theorem recordBlind_obj {index : Nat} (h : index ≠ 0xB040) {sub : Nat} (hs : sub < 256) :
    RecordBlind (fun s => obj s index sub) := by
  refine ⟨replyBlind_obj .., fun hk v s => obj_setObj_of_ne s v ?_, ?_, ?_, ?_⟩
  · unfold okey; omega
  all_goals intros; rfl

/-- An event leaves the objects but its own as they are. -/
theorem obj_raiseEvent_of_ne {index sub index' sub' : Nat} (h : okey index sub ≠ okey index' sub') (cause : Nat) (s : State) :
    obj (raiseEvent index sub cause s) index' sub' = obj s index' sub' := by
  obtain ⟨v, e⟩ := (replyBlind_obj index' sub').raiseEvent_record index sub cause s
  exact e.trans (obj_setObj_of_ne s v h)

end Sys2Proof.Machine

/-! # Synchronisation objects -/

namespace Sys2Proof.Machine

/-! ## A SYNC or a WAIT that R41 lets through -/

theorem Keeps.syncObj_eq {b0 b1 b3 b4 b5 : Bool} {s t : State} (h : Keeps ⟨b0, b1, true, b3, b4, b5⟩ s t) (n : Nat) :
    syncObj t n = syncObj s n := by
  rw [syncObj, syncObj, show t.sync = s.sync from h.sync rfl]

section
variable {rq : Req} {s : State}

theorem doSyncAdd_owned (ho : (syncObj s (syncIndex rq.body)).owner = some rq.hdr.tenant) :
    doSyncAdd rq s = complete rq .ok (syncObj s (syncIndex rq.body)).value (applySignal (syncIndex rq.body)
      (((syncObj s (syncIndex rq.body)).value + syncOperand rq.body) % 2 ^ 64) (some rq.hdr.tenant) (syncOperand rq.body)
      (linkSignaller rq) s) := by
  simp only [doSyncAdd, ho, if_true]

theorem doSyncSet_owned (ho : (syncObj s (syncIndex rq.body)).owner = some rq.hdr.tenant) :
    doSyncSet rq s = complete rq .ok (syncObj s (syncIndex rq.body)).value (applySignal (syncIndex rq.body)
      (syncOperand rq.body) (some rq.hdr.tenant) (syncOperand rq.body) (linkSignaller rq) s) := by
  simp only [doSyncSet, ho, if_true]

theorem doSyncClaim_unowned (ho : (syncObj s (syncIndex rq.body)).owner = none) :
    doSyncClaim rq s = complete rq .ok (syncObj s (syncIndex rq.body)).value (applySignal (syncIndex rq.body)
      (syncOperand rq.body) (some rq.hdr.tenant) (syncOperand rq.body) (linkSignaller rq) s) := by
  simp only [doSyncClaim, ho]

theorem doSyncClaim_own (ho : (syncObj s (syncIndex rq.body)).owner = some rq.hdr.tenant) :
    doSyncClaim rq s = complete rq .unsupported 0 s := by
  simp only [doSyncClaim, ho, if_true]

theorem doSyncRelease_unwaited (ho : (syncObj s (syncIndex rq.body)).owner = some rq.hdr.tenant)
    (hw : (syncObj s (syncIndex rq.body)).waiters.isEmpty = true) :
    doSyncRelease rq s = complete rq .ok (syncObj s (syncIndex rq.body)).value (applySignal (syncIndex rq.body)
      0 none (syncOperand rq.body) (linkSignaller rq) s) := by
  simp only [doSyncRelease, ho, hw, if_true]

theorem doSyncRelease_waited (ho : (syncObj s (syncIndex rq.body)).owner = some rq.hdr.tenant)
    (hw : (syncObj s (syncIndex rq.body)).waiters.isEmpty = false) :
    doSyncRelease rq s = complete rq .unsupported 0 s := by
  simp only [doSyncRelease, ho, hw, if_true, Bool.false_eq_true, if_false]

theorem doSyncCancel_owned (ho : (syncObj s (syncIndex rq.body)).owner = some rq.hdr.tenant) :
    let o := syncObj s (syncIndex rq.body)
    let stay := o.waiters.filter (fun w => !isWaiter rq.hdr.requester (syncOperand rq.body) w)
    doSyncCancel rq s = complete rq .ok (o.waiters.length - stay.length)
      (setSync (syncIndex rq.body) { o with waiters := stay } s) := by
  simp only [doSyncCancel, ho, if_true]

/-- WAIT of the owner whose condition does not hold yet, with room for its waiter (R371). -/
theorem doWait_registers (ha : bits rq.body 347 288 % 64 = 0)
    (ho : (syncObj s (syncIndex rq.body)).owner = some rq.hdr.tenant)
    (hc : condHolds (bits rq.body 25 24) (syncObj s (syncIndex rq.body)).value (bits rq.body 447 384) = false)
    (hw : (syncObj s (syncIndex rq.body)).waiters.any (isWaiter rq.hdr.requester (bits rq.body 511 448)) = false)
    (hl : (syncObj s (syncIndex rq.body)).waiters.length < 64) :
    let o := syncObj s (syncIndex rq.body)
    let k := if bits rq.body 29 28 = 1 then WaiterKind.write rq.hdr.requester (bits rq.body 347 288)
        (bits rq.body 383 352) (bits rq.body 511 448) rq.hdr.tenant
      else WaiterKind.doorbell rq.hdr.requester (bits rq.body 347 288) (bits rq.body 383 352) (bits rq.body 511 448)
        rq.hdr.tenant
    doWait rq s = complete rq .ok o.value (bump 0x6020 0xA 1 (setSync (syncIndex rq.body)
      { o with waiters := o.waiters ++ [⟨k, bits rq.body 25 24, bits rq.body 447 384, s.time⟩] } s)) := by
  simp only [doWait, ha, ho, hc, hw, if_neg (Nat.not_le.mpr hl), ne_eq, not_true_eq_false, Bool.false_eq_true, if_false]

section
variable {k : Nat} (ho : (syncObj s (syncIndex rq.body)).owner = some k) (hk : k ≠ rq.hdr.tenant)
include ho hk

theorem doSyncAdd_blocked : doSyncAdd rq s = blocked rq s := by simp only [doSyncAdd, ho, Option.some.injEq, if_neg hk]
theorem doSyncSet_blocked : doSyncSet rq s = blocked rq s := by simp only [doSyncSet, ho, Option.some.injEq, if_neg hk]
theorem doSyncClaim_blocked : doSyncClaim rq s = blocked rq s := by simp only [doSyncClaim, ho, if_neg hk]
theorem doSyncRelease_blocked : doSyncRelease rq s = blocked rq s := by
  simp only [doSyncRelease, ho, Option.some.injEq, if_neg hk]
theorem doSyncCancel_blocked : doSyncCancel rq s = blocked rq s := by
  simp only [doSyncCancel, ho, Option.some.injEq, if_neg hk]

end

/-! ## The signal that a command owes (R161, R376) -/

theorem execCommandSignal_here {acc : Nat} {o : OwedSignal} (hq : tget s.owed acc = some o)
    (hs : writeStalled s acc = false) (hp : o.package = obj s 0x1021 1) (ha : awake s (homeDom (o.object % 8)) = true) :
    execCommandSignal acc s = .next (commandSignal o.object o.operand o.requester o.tenant acc
      { s with owed := terase s.owed acc }) := by
  have settles : settleOwed acc o s =
      commandSignal o.object o.operand o.requester o.tenant acc { s with owed := terase s.owed acc } := if_pos hp
  simp only [execCommandSignal, hq, hs, ha, or_true, Bool.false_eq_true, if_false, if_true, settles]

theorem execCommandSignal_remote {acc : Nat} {o : OwedSignal} (hq : tget s.owed acc = some o)
    (hs : writeStalled s acc = false) (hp : o.package ≠ obj s 0x1021 1) :
    execCommandSignal acc s = .next (send 1 56 (o.package * 2 ^ 48)
      (.remoteSignal o.package o.object o.operand o.tenant) { s with owed := terase s.owed acc }) := by
  have settles : settleOwed acc o s = send 1 56 (o.package * 2 ^ 48)
      (.remoteSignal o.package o.object o.operand o.tenant) { s with owed := terase s.owed acc } := if_neg hp
  simp only [execCommandSignal, hq, hs, ne_eq, hp, not_false_eq_true, true_or, Bool.false_eq_true, if_false, if_true,
    settles]

/-- Settles O12: each operation by what its object holds. That a remote signal travels in class C1 is the model's choice (log
entry 92). -/
theorem syncOperationsComplete : Obligations.SyncOperationsComplete := by
  refine ⟨?add, ?set, ?claim, ?release, ?cancel, ?wait, ?here, ?remote, ?notification⟩
  case add =>
    intro h body s t rq e ho
    obtain ⟨rfl, rfl⟩ := admitted_hdr_body e
    exact admitted_completes e (doSyncAdd_owned ho)
  case set =>
    intro h body s t rq e ho
    obtain ⟨rfl, rfl⟩ := admitted_hdr_body e
    exact admitted_completes e (doSyncSet_owned ho)
  case claim =>
    intro h body s t rq e ho
    obtain ⟨rfl, rfl⟩ := admitted_hdr_body e
    exact admitted_completes e (doSyncClaim_unowned ho)
  case release =>
    intro h body s t rq e ho hw
    obtain ⟨rfl, rfl⟩ := admitted_hdr_body e
    exact admitted_completes e (doSyncRelease_unwaited ho (List.isEmpty_iff.mpr hw))
  case cancel =>
    intro h body s t rq e ho
    obtain ⟨rfl, rfl⟩ := admitted_hdr_body e
    exact admitted_completes e (doSyncCancel_owned ho)
  case wait =>
    intro h body s t rq e o ha ho hc hw hl
    obtain ⟨rfl, rfl⟩ := admitted_hdr_body e
    exact admitted_completes e (doWait_registers ha ho hc hw hl)
  case here => exact fun acc o s hq hs hp ha => execCommandSignal_here hq hs hp ha
  case remote => exact fun acc o s hq hs hp => execCommandSignal_remote hq hs hp
  case notification =>
    intro object e s he
    change execNotificationTimeout object s = _
    rw [execNotificationTimeout, he]
    rfl

end

/-- Settles O13: every operation looks at the owner first. -/
theorem syncOfAnotherTenantBlocked : Obligations.SyncOfAnotherTenantBlocked := by
  intro h body owner s t rq ho hne
  refine ⟨fun e => ?_, fun e => ?_, fun e => ?_, fun e => ?_, fun e => ?_⟩ <;> obtain ⟨rfl, rfl⟩ := admitted_hdr_body e
  · exact admitted_completes e (doSyncAdd_blocked ho hne)
  · exact admitted_completes e (doSyncSet_blocked ho hne)
  · exact admitted_completes e (doSyncClaim_blocked ho hne)
  · exact admitted_completes e (doSyncRelease_blocked ho hne)
  · exact admitted_completes e (doSyncCancel_blocked ho hne)

/-! ## What a signal leaves in its object (R369, R372) -/

/-- The satisfied waiters leave the object; their notifications touch no object. -/
theorem syncObj_wakeWaiters (n : Nat) (s : State) : syncObj (wakeWaiters n s) n = { syncObj s n with
    waiters := ((syncObj s n).waiters.partition (fun w => condHolds w.cond (syncObj s n).value w.target)).2 } := by
  have stays (value : Nat) (ws : List Waiter) (t : State) :
      syncObj (ws.foldl (fun s w => notify n value w s) t) n = syncObj t n :=
    (keeps_foldl (k := ⟨true, false, true, true, true, true⟩) (fun s w => notify n value w s)
      (fun w a h => keeps_notify n value a w h) ws t (.refl t)).syncObj_eq n
  simp only [wakeWaiters, stays, syncObj_setSync_self]

@[simp] theorem syncObj_bump (index sub k n : Nat) (s : State) : syncObj (bump index sub k s) n = syncObj s n :=
  (keeps_bump (b0 := true) (b1 := true) (b2 := true) (b3 := true) (b4 := true) (b5 := true) index sub k s
    (.refl s)).syncObj_eq n

@[simp] theorem syncObj_complete (rq : Req) (st : Status) (result n : Nat) (s : State) :
    syncObj (complete rq st result s) n = syncObj s n :=
  (keeps_complete (b0 := true) (b1 := true) (b2 := true) (b3 := true) (b4 := true) (b5 := true) rq st result s
    (.refl s)).syncObj_eq n

/-- The object of a signal: its new value and owner, the signaller, the count and the time, without the waiters that the value
satisfies. -/
theorem syncObj_applySignal (n value : Nat) (owner : Option Nat) (operand : Nat) (g : Signaller) (s : State) :
    ∃ ws, syncObj (applySignal n value owner operand g s) n =
      { value := value, owner := owner, waiters := ws, count := satInc 64 (syncObj s n).count 1,
        lastTime := s.time % 2 ^ 64, lastOperand := operand, lastRequester := g.requester, lastTenant := g.tenant,
        lastKind := g.kind, lastUnit := g.unit, recent := true } := by
  rw [applySignal, syncObj_wakeWaiters, syncObj_bump, syncObj_setSync_self]
  exact ⟨_, rfl⟩

/-! ## The time that a request takes -/

theorem chargeC0_time (rq : Req) (n : Nat) (s : State) : (chargeC0 rq n s).2.time = s.time := by
  unfold chargeC0
  cases rq.hdr.via with
  | dap p id => rfl
  | link k =>
    dsimp only
    split
    · split <;> rfl
    · rfl
  | eth q =>
    dsimp only
    split
    · split <;> rfl
    · rfl

theorem meterIn_time (rq : Req) (n : Nat) (s : State) : (meterIn rq n s).time = s.time := by
  unfold meterIn
  split <;> rfl

theorem chargeBw_time (rq : Req) (n : Nat) (s : State) : (chargeBw rq n s).2.time = s.time := by
  unfold chargeBw
  split
  · rfl
  · split
    · rfl
    · split
      · rfl
      · dsimp only
        split <;> rfl

/-- Charging, checking and counting a request take no time. -/
theorem admitted_time {rq r : Req} {c : Checks} {n charge : Nat} {s t : State}
    (h : admitted rq c n charge s = some (r, t)) : t.time = s.time := by
  unfold admitted at h
  rw [Option.ite_none_right_eq_some] at h
  obtain ⟨-, h⟩ := h
  cases h
  rw [chargeBw_time, meterIn_time, chargeC0_time]

/-- Settles O56: what a signal leaves in its object stays through the completion; CANCEL removes waiters alone. -/
theorem syncObjectOperations : Obligations.SyncObjectOperations := by
  intro h body s t rq n o sent counted
  have now {k : Nat} (e : sent k) : t.time = s.time := admitted_time e
  have same {k : Nat} (e : sent k) : h = rq.hdr ∧ body = rq.body := admitted_hdr_body e
  have signal {k : Nat} (e : sent k) (value operand result : Nat) (owner : Option Nat) :
      let v := complete rq .ok result (applySignal n value owner operand (linkSignaller rq) t)
      counted v ∧ (syncObj v n).value = value ∧ (syncObj v n).owner = owner := by
    obtain ⟨ws, hv⟩ := syncObj_applySignal n value owner operand (linkSignaller rq) t
    simp only [linkSignaller] at hv
    simp only [counted, syncObj_complete, linkSignaller, hv, now e, (same e).1, o, and_self]
  refine ⟨fun e ho => ?add, fun e ho => ?set, fun e ho => ?claim, fun k e ho => ?owned, fun e ho hw => ?waited,
    fun e ho hw => ?release, fun e ho => ?cancel⟩
  case add =>
    obtain ⟨hc, hv, hn⟩ := signal e ((o.value + syncOperand body) % 2 ^ 64) (syncOperand body) o.value (some h.tenant)
    obtain ⟨rfl, rfl⟩ := same e
    exact ⟨_, admitted_completes e (doSyncAdd_owned ho), hc, hv, hn.trans ho.symm⟩
  case set =>
    obtain ⟨hc, hv, hn⟩ := signal e (syncOperand body) (syncOperand body) o.value (some h.tenant)
    obtain ⟨rfl, rfl⟩ := same e
    exact ⟨_, admitted_completes e (doSyncSet_owned ho), hc, hv, hn.trans ho.symm⟩
  case claim =>
    obtain ⟨hc, hv, hn⟩ := signal e (syncOperand body) (syncOperand body) o.value (some h.tenant)
    obtain ⟨rfl, rfl⟩ := same e
    exact ⟨_, admitted_completes e (doSyncClaim_unowned ho), hc, hv, hn⟩
  case owned =>
    obtain ⟨rfl, rfl⟩ := same e
    by_cases hk : k = rq.hdr.tenant
    · subst hk
      have left : syncObj (complete rq .unsupported 0 t) n = o := syncObj_complete ..
      exact ⟨_, by rw [left, ho], by rw [left], fun hne => absurd rfl hne, fun _ => rfl,
        admitted_completes e (doSyncClaim_own ho)⟩
    · have left : syncObj (blocked rq t) n = o :=
        (keeps_blocked (b0 := true) (b1 := true) (b2 := true) (b3 := true) (b4 := true) (b5 := true) rq t
          (.refl t)).syncObj_eq n
      exact ⟨blocked rq t, by rw [left, ho], by rw [left], fun _ => rfl, fun he => absurd he hk,
        admitted_completes e (doSyncClaim_blocked ho hk)⟩
  case waited =>
    obtain ⟨rfl, rfl⟩ := same e
    exact admitted_completes e (doSyncRelease_waited ho hw)
  case release =>
    obtain ⟨hc, hv, hn⟩ := signal e 0 (syncOperand body) o.value none
    obtain ⟨rfl, rfl⟩ := same e
    exact ⟨_, admitted_completes e (doSyncRelease_unwaited ho hw), hc, hv, hn⟩
  case cancel =>
    obtain ⟨rfl, rfl⟩ := same e
    refine ⟨_, admitted_completes e (doSyncCancel_owned ho), ?_, ?_⟩
    · rw [syncObj_complete, syncObj_setSync_self]
    · exact completionBlind_notified.complete ..

end Sys2Proof.Machine

/-! # Requests of the slots -/

namespace Sys2Proof.Machine

section
variable {rq : Req} {s : State}

/-- A doorbell of an enabled mailbox with room posts its notice (R493). -/
theorem doorbellAt_room {off ptr tag die : Nat} (hd : pageDie off = some die) (hb : hasBlock die = true)
    (hp : diePresent s die = true) (ha : (off - pageBase) % 65536 % 64 = 0) (hs : (off - pageBase) % 65536 < 0x400)
    (he : (box s die ((off - pageBase) % 65536 / 64)).enable = true)
    (hl : (box s die ((off - pageBase) % 65536 / 64)).notices.length < 32) :
    doorbellAt off ptr tag s = ((.ok, 0), postNotice die ((off - pageBase) % 65536 / 64) ptr tag s) := by
  have slot : ¬ ((!hasBlock die) = true ∨ (!diePresent s die) = true ∨ (off - pageBase) % 65536 % 64 ≠ 0 ∨
      0x400 ≤ (off - pageBase) % 65536) := by
    simp only [hb, hp, ha, Nat.not_le.mpr hs, Bool.not_true, Bool.false_eq_true, ne_eq, not_true_eq_false, or_self,
      not_false_eq_true]
  simp only [doorbellAt, hd, if_neg slot, he, if_neg (Nat.not_le.mpr hl), Bool.not_true, Bool.false_eq_true, if_false]

/-- A FLUSH of a package without far extents drops the remote copies of its range (R396). -/
theorem doFlush_near (ha : flushStart rq.body % 64 = 0) (hn : flushBytes rq.body % 64 = 0) (h0 : 0 < flushBytes rq.body)
    (hf : s.extents.all (fun e => !isFar s e.1) = true) :
    doFlush rq s = complete rq .ok 0 { s with copies := s.copies.filter (fun c =>
      !(decide (flushStart rq.body ≤ c.address) && decide (c.address < flushStart rq.body + flushBytes rq.body))) } := by
  have near : s.extents.filter (fun e => isFar s e.1 && flushStart rq.body / 2 ^ 48 == obj s 0x1021 1 &&
      decide (flushStart rq.body % 2 ^ 48 < (e.1 + 1) * extentBytes ∧
        e.1 * extentBytes < flushStart rq.body % 2 ^ 48 + flushBytes rq.body)) = [] := by
    refine List.filter_eq_nil_iff.mpr fun e he => ?_
    have := List.all_eq_true.mp hf e he
    simp only [Bool.not_eq_true'] at this
    simp only [this, Bool.false_and, Bool.false_eq_true, not_false_eq_true]
  simp only [doFlush, ha, hn, ne_eq, not_true_eq_false, or_self, if_false, Nat.pos_iff_ne_zero.mp h0, near, List.map_nil,
    List.isEmpty_nil, if_true]

theorem doProbe_idle (h : openOf s rq.hdr.requester = []) : doProbe rq s = complete rq .ok 0 s := by
  simp only [doProbe, h, List.isEmpty_nil, if_true]

/-- A request whose fields the first check refuses is charged, counted to no composition, and answered UNSUPPORTED (R41). -/
theorem serve_badField {c : Checks} {n charge : Nat} {act : Req → State → State} (hv : accepts s rq.hdr.via = true)
    (hc : c.badField = true) :
    serve rq c n charge act s = complete (chargeC0 rq charge s).1 .unsupported 0 (chargeC0 rq charge s).2 := by
  have first (r : Req) : step1 r c = some (.plain .unsupported) := by simp only [step1, hc, true_or, or_true, if_true]
  have bad (r : Req) (t : State) : check r c t = some (.plain .unsupported) := by simp only [check, first, orElse]
  have uncounted (r : Req) (t : State) : (early r c t).isSome = true := by
    simp only [early, first, orElse, Option.isSome_some]
  simp only [serve, hv, if_true, bad, uncounted, true_or]
  rfl

end

/-- Settles O11: each request by the state of what it names. -/
theorem slotRequestsComplete : Obligations.SlotRequestsComplete := by
  refine ⟨?doorbell, ?flush, ?probe, ?unknown⟩
  case doorbell =>
    intro h body s t rq die e hd hb hp ha hs he hl
    obtain ⟨rfl, rfl⟩ := admitted_hdr_body e
    refine admitted_completes e ?_
    simp only [doDoorbell, doorbellAt_room hd hb hp ha hs he hl]
    rfl
  case flush =>
    intro h body s t rq e ha hn h0 hf
    obtain ⟨rfl, rfl⟩ := admitted_hdr_body e
    exact admitted_completes e (doFlush_near ha hn h0 hf)
  case probe =>
    intro h s t rq e ho
    obtain ⟨rfl, -⟩ := admitted_hdr_body e
    exact admitted_completes e (doProbe_idle ho)
  case unknown => exact fun h op s hv => congrArg Host.Outcome.next (serve_badField hv rfl)

end Sys2Proof.Machine

/-! # Watchers -/

namespace Sys2Proof.Machine

theorem doScrubPass_clean {home : Nat} {s : State} (hp : s.pkg ≠ .off) (hh : home < 8)
    (ha : awake s (homeDom home) = true) : doScrubPass home [] [] s = bump 0xA010 1 0 (bump 0xA010 6 1 { s with
      regs := tset s.regs (65536 * home + 0x5008) ((tgetD s.regs (65536 * home + 0x5008) 0 + 1) % 65536) }) := by
  have number : home % 8 = home := Nat.mod_eq_of_lt hh
  have serves : ¬ (s.pkg = .off ∨ (!awake s (homeDom home)) = true) := by simp [hp, ha]
  simp only [doScrubPass, number, if_neg serves]
  rfl

theorem doSyncView_allowed {c : Ctx} {s : State}
    (h : c.actor = 3 → (syncObj s (obj s 0x6021 1)).owner = some c.tenant) :
    doSyncView c s = readDomain c (syncView s (obj s 0x6021 1)).1 (syncView s (obj s 0x6021 1)).2 s :=
  if_neg fun hn => hn.2 (h hn.1)

theorem execRepairSourceTimeout_protected {line n : Nat} {o : PObject} {s : State} (hp : s.pkg ≠ .off)
    (hg : poisoned s line = false) (ho : objectAt s (extentOf (64 * line)) = some (n, o)) (he : entryProt o.entry ≠ 0)
    (hd : o.degraded = false) : execRepairSourceTimeout line s = .next (foundBad s line) := by
  have good : ¬ (s.pkg = .off ∨ poisoned s line = true) := by simp [hp, hg]
  simp only [execRepairSourceTimeout, if_neg good, ho, he, hd, ne_eq, not_false_eq_true, Bool.not_false, and_self, if_true]

/-- Settles O44: a scan, a pass, a repair and a read, each by its own rule. -/
theorem watchersComplete : Obligations.WatchersComplete := by
  refine ⟨?scan, ?pass, ?repair, ?view⟩
  case scan => exact fun s h => congrArg Host.Outcome.next (if_neg h)
  case pass => exact fun home s hp hh ha => congrArg Host.Outcome.next (doScrubPass_clean hp hh ha)
  case repair => exact fun line n o s hp hg ho he hd => execRepairSourceTimeout_protected hp hg ho he hd
  case view => exact fun m s t c e h => dapAdmitted_completes e (doSyncView_allowed h)

end Sys2Proof.Machine

/-! # Composition, ownership and metering -/

namespace Sys2Proof.Machine

/-! ## COMPOSE (R413, R414) -/

section
variable {rq : Req} {s : State} (hm : fromManager rq s = true)
include hm

/-- SET_ENTRY of a new requester into a composition without entries starts the composition. -/
theorem doComposeSetEntry_first {i : Nat} (ht : ¬ (obj s 0x7020 3 = 1 ∧ composeComp rq.body ≠ 0))
    (hn : compOf s (composeRequester rq.body) = none) (hf : firstFree s.compTab 4096 = some i)
    (h0 : entriesOf s (composeComp rq.body) = 0) :
    doComposeSetEntry rq s = complete rq .ok 0 { s with
      compTab := tset s.compTab i ⟨false, composeRequester rq.body, composeComp rq.body, composeTenant rq.body,
        composeLimit rq.body, bwSize (composeLimit rq.body), s.time⟩
      comps := tset s.comps (composeComp rq.body) (Comp.fresh (composeEpoch rq.body)) } := by
  simp only [doComposeSetEntry, hm, ht, hn, hf, h0, Bool.not_true, Bool.false_eq_true, or_self, if_false, if_true]

theorem doComposeRemoveEntry_own {i : Nat} {e : CompEntry} (he : compOf s (composeRequester rq.body) = some (i, e))
    (hc : e.composition = composeComp rq.body) :
    doComposeRemoveEntry rq s =
      complete rq .ok 0 { s with compTab := tset s.compTab i { e with draining := true } } := by
  simp only [doComposeRemoveEntry, hm, he, hc, Bool.not_true, Bool.false_eq_true, if_false, ne_eq, not_true_eq_false]

/-- ADVANCE to the next epoch, with no window open, opens one of 20 µs. -/
theorem doComposeAdvance_next (h0 : entriesOf s (composeComp rq.body) ≠ 0) :
    let x := tgetD s.comps (composeComp rq.body) (Comp.fresh 0)
    composeEpoch rq.body = (x.epoch + 1) % 256 → x.drainOpen = false →
    doComposeAdvance rq s = complete rq .ok 0 (raiseEvent 0x7030 6 0 { s with
      comps := tset s.comps (composeComp rq.body)
        { x with epoch := composeEpoch rq.body, prev := x.epoch, drainOpen := true, drainEnd := s.time + 20000 } }) := by
  intro x he hd
  have late : ¬ (composeEpoch rq.body ≠ (x.epoch + 1) % 256) := not_not.mpr he
  simp only [doComposeAdvance, hm, h0, Bool.not_true, Bool.false_eq_true, or_self, if_false]
  rw [if_neg late, if_neg (Bool.eq_false_iff.mp hd)]

/-- An OWNER at the master that names this package, of extents that no other record claims, is taken up at once (R418). -/
theorem doOwner_here (ha : ownMaster s = true) (hb : ownerBase rq.body % extentBytes = 0)
    (hl : ownerExtents rq.body ≠ 0xFFFFFFFF) (h0 : ownerExtents rq.body ≠ 0) (ho : ownerOverlaps s rq.body = false)
    (hn : tget s.owners.master (ownerIndex rq.body) ≠ some rq.body) (hp : ownerPackage rq.body = obj s 0x1021 1) :
    doOwner rq s = complete rq .ok 0 { s with owners := ⟨putOwner s.owners.master rq.body,
      sadd s.owners.taken (ownerIndex rq.body), putOwner s.owners.here rq.body⟩ } := by
  simp only [doOwner, hm, ha, hb, hl, h0, ho, hn, hp, Bool.not_true, Bool.false_eq_true, or_self, if_false, ne_eq,
    not_true_eq_false, false_and, if_true]

end

/-- Settles O16: each command by the tables that it finds. -/
theorem compositionCommandsComplete : Obligations.CompositionCommandsComplete := by
  refine ⟨?set, ?remove, ?advance, fun _ _ => rfl, ?owner, ?here, ?elsewhere, ?timeout⟩
  case set =>
    intro h body i s t rq e hm ht hn hf h0
    obtain ⟨rfl, rfl⟩ := admitted_hdr_body e
    exact admitted_completes e (doComposeSetEntry_first hm ht hn hf h0)
  case remove =>
    intro h body i x s t rq e hm hx hc
    obtain ⟨rfl, rfl⟩ := admitted_hdr_body e
    exact admitted_completes e (doComposeRemoveEntry_own hm hx hc)
  case advance =>
    intro h body s t rq e x hm h0 he hd
    obtain ⟨rfl, rfl⟩ := admitted_hdr_body e
    exact admitted_completes e (doComposeAdvance_next hm h0 he hd)
  case owner =>
    intro h body s t rq e ha hm hb hl h0 ho hn hp
    obtain ⟨rfl, rfl⟩ := admitted_hdr_body e
    exact admitted_completes e (doOwner_here hm ha hb hl h0 ho hn hp)
  case here => exact fun record body s hp => congrArg Host.Outcome.next (if_pos hp)
  case elsewhere =>
    exact fun record body s hp hr => congrArg Host.Outcome.next ((if_neg hp).trans (if_pos (.inl hr)))
  case timeout => exact fun record s h => congrArg Host.Outcome.next (if_neg (Bool.eq_false_iff.mp h))

/-! ## Meters, batches and access control (R400, R403, R404, R422, R602, R603) -/

section
variable {c : Ctx} {s : State}

/-- A draining entry that is its composition's last: it is freed, and the composition's record closes. -/
theorem doEntryFree_last {requester i : Nat} {e : CompEntry} (he : compOf s requester = some (i, e))
    (hd : e.draining = true) :
    let u := raiseEvent 0x7030 6 0 (errorQps requester (closeTenants requester { s with compTab := terase s.compTab i }))
    entriesOf u e.composition = 0 →
    doEntryFree requester s = keepRecords (closeMeters [e.composition] u).1 (closeMeters [e.composition] u).2 := by
  intro u hn
  have last : ¬ (entriesOf u e.composition ≠ 0) := not_not.mpr hn
  simp only [doEntryFree, he, hd, Bool.not_true, Bool.false_eq_true, if_false]
  exact if_neg last

section
variable {b : Batch} {r : List Batch} (hb : s.batches = b :: r)
include hb

theorem doMeterAck_oldest (hop : c.op ≠ dapGuarded) (hv : c.value = b.seq) :
    doMeterAck c s = finOk c (setObj 0xC011 3 r.length { s with batches := r }) := by
  simp only [doMeterAck, hb, hv, if_true, applied_unguarded _ hop]
  rfl

theorem doBatchRead_first {x : Session} (hx : session s c.port c.id = some x) (ho : c.segOffset = 0) :
    doBatchRead c s = readPart c b.bytes b.value
      (setSession c.port c.id { x with snap := some (okey 0xC011 1, b.seq, 0) } s) := by
  simp only [doBatchRead, hx, hb, ho, ne_eq, not_true_eq_false, false_and, if_false]

end

theorem doRegionEntry_allowed (hop : c.op ≠ dapGuarded) (hv : regionBad s c.value = false) :
    let u := { s with regions := tset s.regions (obj s 0x7020 1) c.value }
    doRegionEntry c s = finOk c (setObj 0x7020 5 (u.regions.filter (fun e => bit e.2 4)).length u) := by
  simp only [doRegionEntry, hv, Bool.false_eq_true, if_false, applied_unguarded _ hop]

/-- An attested session sets sender-trusted mode while composition 0 alone has entries; the change is logged. -/
theorem doTrustMode_set (hop : c.op = dapGuarded) (hv : c.value = 1) (ha : c.actor = 2) (h0 : obj s 0x7020 3 = 0)
    (hc : s.compTab.any (fun e => e.2.composition != 0) = false) (hr : logRoom s 0x20 = true) :
    doTrustMode c s =
      finOk c (guardedEntry c (appendLog 0x22 c.actor c.tenant 1 (setObj 0x7020 3 1 s))) := by
  simp only [doTrustMode, hv, ha, hc, h0, applied_guarded _ hop hr, lt_self_iff_false, one_ne_zero, ne_eq,
    not_true_eq_false, Bool.false_eq_true, if_false, zero_ne_one]

end

/-- Settles O17: each command by what the tables and the batches hold. That the record which closes with a composition's last
entry makes a batch of its own is the model's choice (log entry 87). -/
theorem metersAndAccessControlComplete : Obligations.MetersAndAccessControlComplete := by
  have unguarded {d : DapMsg} {s t : State} {c : Ctx} {op : Nat} (e : dapAdmitted op d s = some (c, t))
      (hop : op ≠ dapGuarded) : c.op ≠ dapGuarded := by rwa [dapAdmitted_op e]
  refine ⟨?period, ?free, ?ack, ?batch, ?region, ?trust⟩
  case period => exact fun s hp => congrArg Host.Outcome.next (if_neg hp)
  case free =>
    intro requester i e s he hd u hn
    exact congrArg Host.Outcome.next (doEntryFree_last he hd hn)
  case ack => exact fun m b r s t c e hb hv => dapAdmitted_completes e (doMeterAck_oldest hb (unguarded e (by decide)) hv)
  case batch => exact fun m b r x s t c e hb hx ho => dapAdmitted_completes e (doBatchRead_first hb hx ho)
  case region => exact fun m s t c e hv => dapAdmitted_completes e (doRegionEntry_allowed (unguarded e (by decide)) hv)
  case trust =>
    exact fun m s t c e hv ha h0 hc hr => dapAdmitted_completes e (doTrustMode_set (dapAdmitted_op e) hv ha h0 hc hr)

end Sys2Proof.Machine

/-! # Atomics -/

namespace Sys2Proof.Machine

/-! ## ATOMIC (R390, R391) -/

section
variable {rq : Req} {s : State}

/-- An ATOMIC of near memory that no cache holds is performed. -/
theorem startAtomic_near (ha : rq.hdr.offset % atomicWidth rq.body = 0) (hw : rq.hdr.offset < windowBase)
    (hm : isMirror s (extentOf rq.hdr.offset) = false) (hf : farExtents s rq.hdr.offset (atomicWidth rq.body) = [])
    (hfree : framesFree s ((framesNeeded s rq.hdr.offset (atomicWidth rq.body)).filter
      (fun e => extState s e == none)) = true)
    (hd : tget s.dir (rq.hdr.offset / 64) = none) (hu : s.unrebuilt = []) :
    startAtomic rq s = finishAtomic rq (dropDir (rq.hdr.offset / 64) s) := by
  have held : ∀ l ∈ [rq.hdr.offset / 64], tget s.dir l = none := by simpa using hd
  simp only [startAtomic, ha, hm, hf, hfree, Nat.not_le.mpr hw, ne_eq, not_true_eq_false, or_self, Bool.false_eq_true,
    false_and, List.isEmpty_nil, Bool.not_true, if_false]
  rw [withSnoops_unheld hu held, if_pos rfl]
  rfl

theorem anyBad_dropDir (l off n : Nat) : anyBad (dropDir l s) off n = anyBad s off n := rfl

/-- What an ATOMIC of good memory answers, and stores. -/
theorem finishAtomic_good (hb : anyBad s rq.hdr.offset (atomicWidth rq.body) = false) :
    let old := readMem s rq.hdr.offset (atomicWidth rq.body)
    finishAtomic rq s = match atomicNew rq.body old with
      | none => complete rq .ok old s
      | some v =>
        let w := storeBytes rq.hdr.offset (atomicWidth rq.body) v (takeFrames rq.hdr.offset (atomicWidth rq.body) s)
        completeCopied rq .ok old (copiedObjects w rq.hdr.offset (atomicWidth rq.body))
          (sendCopies rq rq.hdr.offset (atomicWidth rq.body) old v
            (touch rq.hdr.offset (atomicWidth rq.body) (setStale [rq.hdr.offset / 64] w))) :=
  if_neg (Bool.eq_false_iff.mp hb)

/-! ## PUBLISH (R392 to R394) -/

/-- A PUBLISH whose version word is good and holds the expected value stores its data, and then the next version. -/
theorem finishPublish_expected (hb : anyBad s (pubVersion rq.body) 8 = false)
    (hv : readMem s (pubVersion rq.body) 8 = pubExpected rq.body) :
    let new := (pubExpected rq.body + 2) % 2 ^ 64
    let w := storeLines rq rq.hdr.offset (64 * rq.hdr.length) rq.data s
    let x := storeBytes (pubVersion rq.body) 8 new (takeFrames (pubVersion rq.body) 8 w)
    let ks := (copiedObjects x (pubVersion rq.body) 8).foldl sadd (copiedObjects x rq.hdr.offset (64 * rq.hdr.length))
    finishPublish rq s = completeCopied rq .ok new ks (sendCopies rq (pubVersion rq.body) 8 (pubExpected rq.body) new
      (touch (pubVersion rq.body) 8 (setStale [pubVersion rq.body / 64] x))) := by
  simp only [finishPublish, hb, hv, Bool.false_eq_true, if_false, ne_eq, not_true_eq_false]

/-- A PUBLISH of near memory that no cache holds, alone on its version word, is performed. -/
theorem startPublish_near (hp : rq.hdr.offset < pageBase) (ha : pubVersion rq.body % 8 = 0)
    (he : pubExpected rq.body % 2 = 0)
    (hd : ¬ (rq.hdr.offset < pubVersion rq.body + 8 ∧ pubVersion rq.body < rq.hdr.offset + 64 * rq.hdr.length))
    (hr : pubVersion rq.body + 8 ≤ memRange s) (hl : 0 < rq.hdr.length)
    (hm : (extentsOf rq.hdr.offset (64 * rq.hdr.length) ++ [extentOf (pubVersion rq.body)]).any (isMirror s) = false)
    (hon : pubsOn s (pubVersion rq.body) = []) (hf : farExtents s rq.hdr.offset (64 * rq.hdr.length) = [])
    (hg : farExtents s (pubVersion rq.body) 8 = [])
    (hfree : framesFree s ((framesNeeded s rq.hdr.offset (64 * rq.hdr.length) ++
      framesNeeded s (pubVersion rq.body) 8).eraseDups) = true)
    (hdir : ∀ l ∈ pubLines rq, tget s.dir l = none) (hu : s.unrebuilt = []) :
    let y := finishPublish rq ((pubLines rq).foldl (fun u l => dropDir l u) s)
    startPublish rq s =
      { y with openReqs := tmod y.openReqs s.reqCtr (fun o => { o with word := some (pubVersion rq.body) }) } := by
  have wellFormed : ¬ (pageBase ≤ rq.hdr.offset ∨ pubVersion rq.body % 8 ≠ 0 ∨ pubExpected rq.body % 2 = 1 ∨
      (rq.hdr.offset < pubVersion rq.body + 8 ∧ pubVersion rq.body < rq.hdr.offset + 64 * rq.hdr.length) ∨
      memRange s < pubVersion rq.body + 8) := by omega
  have nonempty : 64 * rq.hdr.length ≠ 0 := by omega
  have near : (farExtents s rq.hdr.offset (64 * rq.hdr.length) ++ farExtents s (pubVersion rq.body) 8).eraseDups.isEmpty
      = true := by rw [hf, hg]; rfl
  simp only [startPublish, if_neg wellFormed, if_neg nonempty, hm, hon, Bool.false_eq_true, false_and, if_false,
    List.length_nil, List.isEmpty_nil, if_true, runPublish, near, hfree, Bool.not_true, withSnoops_unheld hu hdir]
  rfl

end

/-- Settles O10: an ATOMIC and a PUBLISH that no directory entry stands in the way of are performed at the homes. -/
theorem atomicsComplete : Obligations.AtomicsComplete := by
  refine ⟨?atomic, ?publish⟩
  case atomic =>
    intro h body s t rq e ha hw hm hf hfree hd hu hb
    obtain ⟨rfl, rfl⟩ := admitted_hdr_body e
    refine admitted_completes e ((startAtomic_near ha hw hm hf hfree hd hu).trans ?_)
    exact finishAtomic_good ((anyBad_dropDir ..).trans hb)
  case publish =>
    intro h body data s t rq e ho hp ha he hd hr hl hm hon hf hg hfree hdir hu u hb hv
    obtain ⟨op, rfl, rfl, -⟩ := admitted_fields e
    obtain rfl : body = rq.body := by rw [admitted_req e]
    have starts : startOp rq t = startPublish rq t := by simp only [startOp, op]
    refine admitted_completes e (((orderedStart_first ho).trans starts).trans
      ((startPublish_near hp ha he hd hr hl hm hon hf hg hfree hdir hu).trans ?_))
    rw [finishPublish_expected hb hv]

end Sys2Proof.Machine

/-! # Links -/

namespace Sys2Proof.Machine

/-! ## Flits (R383, R384, R386) -/

theorem not_down_of_serves {l : Link} (h : l.st = .up ∨ l.st = .quiescing) : ¬ (l.st ≠ .up ∧ l.st ≠ .quiescing) :=
  fun hn => h.elim hn.1 hn.2

/-- A good flit in order: its acknowledgement and credits are taken, and it is acknowledged. -/
theorem doFlitReceive_inOrder {f : Flit} {s : State} (hl : (link s f.link).st = .up ∨ (link s f.link).st = .quiescing)
    (hg : flitGood f = true) (hq : flitSeq f.image = ((link s f.link).lastRecv + 1) % 1024) :
    let u := if 0 < f.wrong then countCorrected f.link s else s
    let w := emit (.flitAck f.link (flitSeq f.image)) (setLink f.link (fun l =>
      let l := { l with lastRecv := flitSeq f.image, discarding := false }
      let l := if flitNakBit f.image then l else ackFlits l (flitAckSeq f.image)
      if flitCreditVc f.image < 7 then addCredits l (flitCreditVc f.image) (flitCredits f.image) else l) u)
    doFlitReceive f s =
      if flitVc f.image = 7 ∧ flitCreditVc f.image = 7 ∧ flitCredits f.image = 0xFF then beginRecal f.link w else w := by
  have corrected : f.wrong ≤ 6 := by
    simp only [flitGood, Bool.and_eq_true, decide_eq_true_eq] at hg
    exact hg.1
  have taken : ¬ ((!flitGood f) = true ∨ flitSeq f.image ≠ ((link s f.link).lastRecv + 1) % 1024) := by simp [hg, hq]
  simp only [doFlitReceive, if_neg (not_down_of_serves hl), corrected, and_true, if_neg taken]

/-- A flit that fails its check, or comes out of order, is answered with a nak and discarded. -/
theorem doFlitReceive_discards {f : Flit} {s : State} (hl : (link s f.link).st = .up ∨ (link s f.link).st = .quiescing)
    (hd : flitGood f = false ∨ flitSeq f.image ≠ ((link s f.link).lastRecv + 1) % 1024) :
    doFlitReceive f s = emit (.flitNak f.link (link s f.link).lastRecv) (setLink f.link
      (fun l => { l with discarding := true }) (if 0 < f.wrong ∧ f.wrong ≤ 6 then countCorrected f.link s else s)) := by
  have discarded : (!flitGood f) = true ∨ flitSeq f.image ≠ ((link s f.link).lastRecv + 1) % 1024 := by simpa using hd
  simp only [doFlitReceive, if_neg (not_down_of_serves hl), if_pos discarded]

theorem doFlitNakReceive_serves {n ackSeq : Nat} {s : State} (hl : (link s n).st = .up ∨ (link s n).st = .quiescing) :
    let again := if (link s n).acked = ackSeq then (link s n).replays + 1 else 1
    let l : Link := { link s n with acked := ackSeq, replays := again }
    let u := bump 0x7010 0x12 (unacked l) (setLink n (fun _ => l) s)
    doFlitNakReceive n ackSeq s = if 8 ≤ again then dropLink n u else emit (.flitReplay n ((ackSeq + 1) % 1024)) u :=
  if_neg (not_down_of_serves hl)

/-! ## Recalibration (R561, R562) -/

/-- A link that is UP begins its recalibration while its quadrant has none, and the package fewer than four. -/
theorem beginRecal_room {n : Nat} {s : State} (hl : (link s n).st = .up) (hq : recalCount s (some (n / 4)) = 0)
    (hp : recalCount s none < 4) : beginRecal n s = emit (.recalRequest n)
      (setLink n (fun l => cutWhenQuiet { l with st := .quiescing, recalWaits := false }) s) := by
  have room : ¬ (1 ≤ recalCount s (some (n / 4)) ∨ 4 ≤ recalCount s none) := by omega
  simp only [beginRecal, hl, if_neg room, ne_eq, not_true_eq_false, if_false]

/-- Settles O18: each command by the state of its link. That a nak's flit leaves the acknowledgement aside is the model's
choice (log entry 93). -/
theorem linkCommandsComplete : Obligations.LinkCommandsComplete := by
  refine ⟨?flit, ?discard, ?nak, ?trained, ?down, ?request, ?threshold, ?quiesced, ?retrained, ?timeout, fun _ _ _ => rfl⟩
  case flit => exact fun f s hl hg hq => congrArg Host.Outcome.next (doFlitReceive_inOrder hl hg hq)
  case discard =>
    intro f s hl u hd
    exact congrArg Host.Outcome.next (doFlitReceive_discards hl hd)
  case nak => exact fun n ackSeq s hl => congrArg Host.Outcome.next (doFlitNakReceive_serves hl)
  case trained => exact fun n lanes s hs hn => congrArg Host.Outcome.next (if_pos ⟨hs, hn⟩)
  case down => exact fun n s hl => congrArg Host.Outcome.next (if_neg hl)
  case request => exact fun n s hl hq hp => congrArg Host.Outcome.next (beginRecal_room hl hq hp)
  case threshold =>
    intro n s _ hc u hu hq hp
    exact congrArg Host.Outcome.next ((if_pos hc).trans (beginRecal_room hu hq hp))
  case quiesced => exact fun n s hl ho hu => congrArg Host.Outcome.next (if_pos ⟨hl, ho, hu⟩)
  case retrained => exact fun n s hl => congrArg Host.Outcome.next (if_pos hl)
  case timeout => exact fun n s hl => congrArg Host.Outcome.next (if_pos hl)

end Sys2Proof.Machine

/-! # DMA -/

namespace Sys2Proof.Machine

/-- COPY between fabric addresses is queued on its channel (R398). -/
theorem doDma_queued {rq : Req} {s : State} (hs : dmSrcDomain rq.body = false) (hd : dmDstDomain rq.body = false)
    (hr : dmaRefused s rq.body = none) (h0 : dmLength rq.body ≠ 0)
    (hl : (channelOf s (pickChannel s rq.body)).length < 16) :
    let c := pickChannel s rq.body
    doDma rq s = complete rq .ok (s.accCtr + 1) { s with
      accCtr := s.accCtr + 1, dma := tset s.dma c (channelOf s c ++ [⟨s.accCtr + 1, rq, s.time, false, 0, false, false⟩]) } := by
  simp only [doDma, hs, hd, Bool.or_self, Bool.false_and, Bool.false_eq_true, if_false, hr, h0, if_neg (Nat.not_le.mpr hl)]
  rfl

section
variable {c : Nat} {d : Dma} {q : List Dma} {s : State} (hq : channelOf s c = d :: q)
include hq

theorem setHead_first (x : Dma) : setHead c x s = { s with dma := tset s.dma c (x :: q) } := by
  rw [setHead, hq]
  rfl

theorem execDmaTransferStart_first :
    execDmaTransferStart c s = .next { s with dma := tset s.dma c ({ d with started := true } :: q) } := by
  rw [execDmaTransferStart, hq]
  exact congrArg _ (setHead_first hq _)

section
variable {r : Remote} {ack : Status} (hs : d.started = true) (hw : dmaStalled s c = false)
include hs hw

/-- A transfer whose pieces end it. -/
theorem doTransferEnd_over {p : Nat} {st : Status} {u : State} (ha : d.aborted = false)
    (hp : runPieces c d (sourceRanges s c d) r ack (piecesFrom s d d.done (dmLength d.req.body / 64)) d.done s
      = (p, some st, u)) : doTransferEnd c r ack s = endDma c d p st u := by
  simp only [doTransferEnd, hq, hs, hw, ha, hp, Bool.not_true, Bool.false_eq_true, or_self, if_false]

theorem doTransferEnd_aborted (ha : d.aborted = true) : doTransferEnd c r ack s = endDma c d d.done .poison s := by
  simp only [doTransferEnd, hq, hs, hw, ha, Bool.not_true, Bool.false_eq_true, or_self, if_false, if_true]

end

end

/-- Settles O39: a command, a start and an end by what stands on the channel. Where the pieces of a transfer end, and that the
first failing one ends it, are the model's choices (log entry 32). -/
theorem dmaCompletes : Obligations.DmaCompletes := by
  refine ⟨?copy, ?start, ?ended, ?aborted⟩
  case copy =>
    intro h body s t rq e hs hd hr h0 hl
    obtain ⟨rfl, rfl⟩ := admitted_hdr_body e
    exact admitted_completes e (doDma_queued hs hd hr h0 hl)
  case start => exact fun c d q s hq => execDmaTransferStart_first hq
  case ended =>
    exact fun c p d q r ack st s u hq hs hw ha hp => congrArg Host.Outcome.next (doTransferEnd_over hq hs hw ha hp)
  case aborted => exact fun c d q r ack s hq hs hw ha => congrArg Host.Outcome.next (doTransferEnd_aborted hq hs hw ha)

end Sys2Proof.Machine

/-! # The Ethernet port -/

namespace Sys2Proof.Machine

/-! ## Frames and flow control (R427 to R429, R441, R442) -/

theorem entryOf_number {q : Nat} (h : q < 4096) : entryOf (0x10000 + q) = some q := by
  have range : 0x10000 ≤ 0x10000 + q ∧ 0x10000 + q < 0x11000 := by omega
  rw [entryOf, if_pos range, Nat.add_sub_cancel_left]

section
variable {s : State} (hl : ethLive s = true)
include hl

theorem onReady_ready {q : Nat} {act : Nat → State → State} (hq : q < 4096) (hr : (qp s q).st = 1) :
    onReady (0x10000 + q) act s = act q s := by
  simp only [onReady, hl, entryOf_number hq, hr, Bool.not_true, Bool.false_eq_true, if_false, if_true]

theorem doFrame_dropped {f : EthFrame} (hd : frameDropped s f = true) : doFrame f s = bump 0x7101 2 1 s := by
  simp only [doFrame, hl, hd, Bool.not_true, Bool.false_eq_true, if_false, if_true]
  rfl

section
variable {f : EthFrame} (hd : frameDropped s f = false)
include hd

theorem doFrame_other (hp : f.port ≠ some 4791) : doFrame f s = bump 0x7101 1 1 s := by
  simp only [doFrame, hl, hd, hp, Bool.not_true, Bool.false_eq_true, if_false]

/-- A RoCEv2 packet by the state of its queue pair. -/
theorem doFrame_roce {q : Nat} (hq : q < 4096) (hp : f.port = some 4791) (hf : f.qp = 0x10000 + q) :
    doFrame f s = if (qp s q).st = 1 then (if f.ce then markSeen q (bump 0x7101 1 1 s) else bump 0x7101 1 1 s)
      else bump 0x7101 3 1 (bump 0x7101 1 1 s) := by
  simp only [doFrame, hl, hd, hp, hf, entryOf_number hq, Bool.not_true, Bool.false_eq_true, if_false, if_true]
  rfl

end

theorem ethAnswer_own {proto target addr : Nat} (h0 : target ≠ 0) (ht : target = addr) :
    ethAnswer proto target addr s = emit (.ethReply proto target) s :=
  if_pos ⟨hl, ht, ht ▸ h0⟩

end

theorem bit_eq_testBit (x n : Nat) : bit x n = x.testBit n := by
  rw [Nat.testBit_eq_decide_div_mod_eq, bit, Nat.shiftRight_eq_div_pow]
  rfl

/-- The bits of a mask that is built from its lowest bit up. -/
theorem bit_mask (g : Nat → Bool) (n i : Nat) :
    let p := (List.range n).foldl (fun p i => if g i then p + 2 ^ i else p) 0
    p < 2 ^ n ∧ (i < n → bit p i = g i) := by
  induction n with
  | zero => exact ⟨Nat.one_pos, fun h => absurd h (Nat.not_lt_zero i)⟩
  | succ n ih =>
    obtain ⟨below, bits⟩ := ih
    simp only [List.range_succ, List.foldl_append, List.foldl_cons, List.foldl_nil]
    generalize (List.range n).foldl (fun p i => if g i then p + 2 ^ i else p) 0 = p at below bits
    cases hg : g n with
    | false =>
      refine ⟨lt_of_lt_of_le below (Nat.pow_le_pow_right Nat.two_pos n.le_succ), fun hi => ?_⟩
      obtain hi | rfl := Nat.lt_succ_iff_lt_or_eq.mp hi
      · exact bits hi
      · exact (bit_eq_testBit ..).trans ((Nat.testBit_lt_two_pow below).trans hg.symm)
    | true =>
      have sum : p + 2 ^ n = 2 ^ n + p := Nat.add_comm ..
      simp only [if_true, sum, bit_eq_testBit] at bits ⊢
      refine ⟨by rw [Nat.pow_succ]; omega, fun hi => ?_⟩
      obtain hi | rfl := Nat.lt_succ_iff_lt_or_eq.mp hi
      · exact (Nat.testBit_two_pow_add_gt hi p).trans (bits hi)
      · rw [Nat.testBit_two_pow_add_eq, Nat.testBit_lt_two_pow below, hg]; rfl

/-- Settles O45: each frame by the port's and the queue pair's state. What counts as dropped is the model's choice (log entry
34). -/
theorem framesComplete : Obligations.FramesComplete := by
  refine ⟨?frame, ?pause, ?pfc, ?answer, ?rate, ?up, ?down⟩
  case frame =>
    intro f s hl
    refine ⟨fun hd => congrArg Host.Outcome.next (doFrame_dropped hl hd), fun hd =>
      ⟨fun hp => congrArg Host.Outcome.next (doFrame_other hl hd hp), fun q hq hp hf => ?_⟩⟩
    have roce := doFrame_roce hl hd hq hp hf
    refine ⟨fun hr => congrArg Host.Outcome.next (roce.trans (if_neg hr)), fun hr hc => ?_, fun hr hc => ?_⟩
    · exact congrArg Host.Outcome.next ((roce.trans (if_pos hr)).trans (if_neg (Bool.eq_false_iff.mp hc)))
    · exact congrArg Host.Outcome.next ((roce.trans (if_pos hr)).trans (if_pos hc))
  case pause => exact fun s hl => congrArg Host.Outcome.next (if_pos hl)
  case pfc =>
    exact fun xoff xon s hl => ⟨_, congrArg Host.Outcome.next (if_pos hl), fun i hi => (bit_mask _ 8 i).2 hi⟩
  case answer =>
    intro target s hl h0
    exact ⟨fun ht => congrArg Host.Outcome.next (ethAnswer_own hl h0 ht),
      fun ht => congrArg Host.Outcome.next (ethAnswer_own hl h0 ht),
      fun ht => congrArg Host.Outcome.next (ethAnswer_own hl h0 ht),
      fun ht => congrArg Host.Outcome.next (ethAnswer_own hl h0 ht)⟩
  case rate =>
    intro q s hq hr
    refine ⟨fun hl => congrArg Host.Outcome.next (onReady_ready hl hq hr), ?_⟩
    change execCnpRateRecovery (0x10000 + q) s = _
    simp only [execCnpRateRecovery, entryOf_number hq, hr, if_true]
  case up => exact fun s hl h2 => congrArg Host.Outcome.next (if_pos ⟨hl, h2⟩)
  case down => exact fun s h0 => congrArg Host.Outcome.next (if_pos h0)

/-! ## Queue pairs (R431 to R440) -/

theorem psnOrder_expected (psn : Nat) : psnOrder psn psn = 0 := by
  have here : (psn + 2 ^ 24 - psn % 2 ^ 24) % 2 ^ 24 = 0 := by omega
  simp only [psnOrder, here, if_true]

/-- A number that lies up to half the range behind the expected one is a duplicate's. -/
theorem psnOrder_behind {psn back : Nat} (hp : psn < 2 ^ 24) (h0 : 0 < back) (hb : back ≤ 2 ^ 23) :
    psnOrder ((psn + back) % 2 ^ 24) psn = 1 := by
  have behind : ((psn + back) % 2 ^ 24 + 2 ^ 24 - psn % 2 ^ 24) % 2 ^ 24 = back := by omega
  simp only [psnOrder, behind, Nat.pos_iff_ne_zero.mp h0, if_false, hb, if_true]

@[simp] theorem qp_setQp_self (q : Nat) (x : Qp) (s : State) : qp (setQp q x s) q = x := tgetD_tset_self ..

theorem runQp_alone {q : Nat} {op : EthOp} {s u : State} (hr : (qp s q).st = 1) (hq : (qp s q).queue = [op])
    (hb : qpBusy s q = false) (hu : runOp q op (setQp q { qp s q with queue := [] } s) = (none, u)) : runQp q 1 s = u := by
  simp only [runQp, hq]
  rw [if_neg (not_not.mpr hr), if_neg (Bool.eq_false_iff.mp hb), hu]

/-- An operation that comes alone on a READY queue pair, and can go on, runs at once (R436). -/
theorem enqueue_alone {q n : Nat} {op : EthOp} {s u : State} (hr : (qp s q).st = 1) (hq : (qp s q).queue = [])
    (hb : qpBusy s q = false)
    (hu : runOp q op (setQp q { qp s q with queue := [], expected := ((qp s q).expected + n) % 2 ^ 24 }
      (setQp q { qp s q with queue := [op], expected := ((qp s q).expected + n) % 2 ^ 24 } s)) = (none, u)) :
    enqueue q op n s = flow u := by
  have run : runQp q 1 (setQp q { qp s q with
      queue := [op], expected := ((qp s q).expected + n) % 2 ^ 24 } s) = u :=
    runQp_alone (by rw [qp_setQp_self]; exact hr) (by rw [qp_setQp_self]) hb (by rw [qp_setQp_self]; exact hu)
  rw [enqueue, hq]
  exact congrArg flow run

/-- An operation with the expected number on a READY queue pair takes its place. -/
theorem memoryOp_expected {r : RdmaReq} {op : EthOp} {packets : Nat → Nat} {again : Nat → State → State} {q : Nat}
    {s : State} (hl : ethLive s = true) (hq : q < 4096) (hn : r.qp = 0x10000 + q) (hr : (qp s q).st = 1)
    (he : (qp s q).expected = r.psn) :
    memoryOp r op packets again s = enqueue q op (packets (qp s q).entry) s := by
  rw [memoryOp, hn, onReady_ready hl hq hr]
  simp only [he, psnOrder_expected]

section
variable {q psn bytes opcode body data : Nat} {h : Hdr} {s : State}

theorem doSendRequest_expected (hl : ethLive s = true) (hq : q < 4096) (hr : (qp s q).st = 1)
    (he : (qp s q).expected = psn) :
    doSendRequest (0x10000 + q) psn bytes opcode h body data s = takeSend q psn bytes opcode h body data s := by
  rw [doSendRequest, onReady_ready hl hq hr]
  simp only [he, psnOrder_expected]

theorem doSendRequest_duplicate {back : Nat} (hl : ethLive s = true) (hq : q < 4096) (hr : (qp s q).st = 1)
    (hp : psn < 2 ^ 24) (h0 : 0 < back) (hb : back ≤ 2 ^ 23) (he : (qp s q).expected = (psn + back) % 2 ^ 24) :
    doSendRequest (0x10000 + q) psn bytes opcode h body data s = ackMessage q psn bytes s := by
  rw [doSendRequest, onReady_ready hl hq hr]
  simp only [he, psnOrder_behind hp h0 hb]

theorem takeSend_tooLong (hb : 4184 < bytes) : takeSend q psn bytes opcode h body data s = nakQp q psn .badLength s :=
  if_pos hb

theorem takeSend_full (hb : bytes ≤ 4184) (ho : 64 ≤ sendsOpen s q) : takeSend q psn bytes opcode h body data s =
    bump 0x7101 5 1 (qpOut q (.rdmaNak q psn (0x20 + obj s 0x7100 0xC)) s) :=
  (if_neg (Nat.not_lt.mpr hb)).trans (if_pos ho)

theorem takeSend_room (hb : bytes ≤ 4184) (ho : sendsOpen s q < 64) : takeSend q psn bytes opcode h body data s =
    enqueue q (.send psn bytes opcode h body data) (packetsOf (qp s q).entry bytes) (ackMessage q psn bytes s) :=
  (if_neg (Nat.not_lt.mpr hb)).trans (if_neg (Nat.not_le.mpr ho))

end

section
variable {q : Nat} {s : State} (hq : q < 4096) (hr : (qp s q).st = 1) (hn : (qp s q).sends.isEmpty = false)
include hq hr hn

theorem execRoceAckTimeout_ready : execRoceAckTimeout (0x10000 + q) s =
    .next (if (qp s q).retries < bits (qp s q).entry 127 125
      then resend q (setQp q { qp s q with retries := (qp s q).retries + 1 } s) else qpError q (qp s q).lastStatus s) := by
  simp only [execRoceAckTimeout, entryOf_number hq, hr, if_true, retrySend, hn, Bool.false_eq_true, if_false]

theorem execRnrRetryTimer_endless (h7 : bits (qp s q).entry 130 128 = 7) : execRnrRetryTimer (0x10000 + q) s =
    .next (resend q (setQp q { qp s q with rnr := (qp s q).rnr + 1 } s)) := by
  simp only [execRnrRetryTimer, entryOf_number hq, hr, hn, h7, ne_eq, not_true_eq_false, Bool.false_eq_true, or_self,
    if_false, true_or, if_true]

end

theorem doQpEntry_ready {c : Ctx} {s : State} (hop : c.op ≠ dapGuarded) (hs : serving s = true)
    (hv : qpRefused s (obj s 0x7110 1) c.value = false) (h1 : bits c.value 1 0 = 1) (hm : bit c.value 388 = false) :
    doQpEntry c s = finOk c (countQps (setQp (obj s 0x7110 1) { Qp.zero with
      entry := c.value, st := 1, expected := bits c.value 119 96, send := bits c.value 87 64 } s)) := by
  simp only [doQpEntry, hs, hv, h1, hm, Bool.not_true, Bool.false_eq_true, if_false, if_true, applied_unguarded _ hop]

/-- Settles O46: each packet by its number, each event by what the queue pair holds. The codes of a NAK are the model's choice
(log entry 19). -/
theorem rdmaCommandsComplete : Obligations.RdmaCommandsComplete := by
  refine ⟨?oneSided, ?send, ?ack, ?nak, ?timers, ?entry⟩
  case oneSided =>
    intro r q s hl hq hn hr h0 hb he hp x taken packets
    have taken_up (op : EthOp) (pk : Nat → Nat) (again : Nat → State → State) {u : State}
        (hu : runOp q op (taken op (pk x.entry)) = (none, u)) : memoryOp r op pk again s = flow u :=
      (memoryOp_expected hl hq hn hr he).trans (enqueue_alone hr h0 hb hu)
    refine ⟨fun found u hu => congrArg Host.Outcome.next (taken_up _ _ _ hu), ?write, ?add, ?swap⟩
    case write =>
      intro data u held hu
      exact congrArg Host.Outcome.next (taken_up _ _ _ hu)
    case add =>
      intro operand u ho body hu
      change Host.Outcome.next (memoryOp ..) = _
      rw [Nat.mod_eq_of_lt ho, one_mul]
      exact congrArg Host.Outcome.next (taken_up _ (fun _ => 1) _ hu)
    case swap =>
      intro compare operand u ho hc body hu
      change Host.Outcome.next (memoryOp ..) = _
      rw [Nat.mod_eq_of_lt ho, Nat.mod_eq_of_lt hc]
      exact congrArg Host.Outcome.next (taken_up _ (fun _ => 1) _ hu)
  case send =>
    intro q psn bytes opcode body data h s hl hq hr hp
    refine ⟨fun he => ?_, fun back h0 hb he =>
      congrArg Host.Outcome.next (doSendRequest_duplicate hl hq hr hp h0 hb he)⟩
    have inOrder := doSendRequest_expected (bytes := bytes) (opcode := opcode) (body := body) (data := data) (h := h)
      hl hq hr he
    exact ⟨fun hb => congrArg Host.Outcome.next (inOrder.trans (takeSend_tooLong hb)),
      fun hb ho => congrArg Host.Outcome.next (inOrder.trans (takeSend_full hb ho)),
      fun hb ho => congrArg Host.Outcome.next (inOrder.trans (takeSend_room hb ho))⟩
  case ack =>
    intro q psn s hl hq hr gone hne
    refine congrArg Host.Outcome.next ((onReady_ready hl hq hr).trans ?_)
    exact if_neg (Bool.eq_false_iff.mp hne)
  case nak =>
    exact fun q psn s hl hq hr =>
      ⟨congrArg Host.Outcome.next (onReady_ready hl hq hr), congrArg Host.Outcome.next (onReady_ready hl hq hr)⟩
  case timers =>
    intro q s hq hr hn
    have timeout := execRoceAckTimeout_ready hq hr hn
    exact ⟨fun ht => timeout.trans (congrArg _ (if_pos ht)),
      fun ht => timeout.trans (congrArg _ (if_neg (Nat.not_lt.mpr ht))), fun h7 => execRnrRetryTimer_endless hq hr hn h7⟩
  case entry =>
    intro d s t c e hs n hv h1 hm
    have unguarded : c.op ≠ dapGuarded := by rw [dapAdmitted_op e]; decide
    exact dapAdmitted_completes e (doQpEntry_ready unguarded hs hv h1 hm)

end Sys2Proof.Machine

/-! # The access port and the dictionary -/

namespace Sys2Proof.Machine

/-- A request is no guarded write. -/
theorem dapAdmitted_unguarded {d : DapMsg} {s t : State} {c : Ctx} {op : Nat} (e : dapAdmitted op d s = some (c, t))
    (hop : op ≠ dapGuarded) : c.op ≠ dapGuarded := by
  rwa [dapAdmitted_op e]

/-! ## Sessions (R454, R455, R461, R470, R580) -/

theorem openSession_free {m : DapMsg} {k : SessKind} {n : Nat} {s : State} (hs : sessionsOpen s < 32)
    (hn : freeSession s = some n) :
    openSession m k s = openReply m n .ok (setSession m.port n (Session.fresh k s.time) s) := by
  simp only [openSession, Nat.not_le.mpr hs, hn, if_false]

section
variable {m : DapMsg} {s : State} (ha : dapArrives s m.port = true) (hr : s.fw.restarting = false)
include ha hr

theorem doOpenTenant_authorised {e : Nat × CompEntry} (hp : m.port = .eth) (hb : openBad m 6 = none)
    (hs : serving s = true) (he : compOf s (bits m.value 15 0) = some e) (hd : e.2.draining = false)
    (ht : e.2.tenant ≠ 0xFFF) (hk : keyOk s (bits m.value 47 16) e.2.tenant 3 [] = true) :
    doOpenTenant m s = openSession m (.tenant (bits m.value 15 0) e.2.tenant) s := by
  have wired : m.port ≠ .i3c := by rw [hp]; decide
  simp only [doOpenTenant, ha, hr, hb, hs, he, hd, ht, hk, wired, Bool.not_true, Bool.false_eq_true, or_self, if_false]

theorem doOpenManagement_attested (hb : openBad m 4 = none) (hk : managementOk s (bits m.value 31 0) = true) :
    doOpenManagement m s = openSession m (.management (bits m.value 31 0)) s := by
  simp only [doOpenManagement, ha, hr, hb, hk, Bool.not_true, Bool.false_eq_true, if_false, if_true]

end

/-- A CLOSE in its sequence, of a session that was opened, answers and ends it. -/
theorem doClose_inOrder {m : DapMsg} {x : Session} {s : State} (ho : dapInOrder m x s = true) (h0 : m.reserved = 0)
    (h1 : m.version = 1) (hk : x.kind ≠ .implicit) (hc : m.valueLength = m.count) (hl : m.valueLength ≤ 8160) :
    doClose m s = closeSession m.port m.session (dapFinish m.port m.session .ok 0 0 0 (setSession m.port m.session
      { x with lastSeq := m.seq, lastUse := s.time, busy := some (okey m.index m.sub), stage := none } s)) := by
  simp only [dapInOrder, Bool.and_eq_true, Bool.not_eq_true', beq_iff_eq, bne_iff_ne, ne_eq] at ho
  obtain ⟨⟨⟨⟨⟨⟨ha, hr⟩, hx⟩, secured⟩, hq⟩, idle⟩, fresh⟩ := ho
  have bounded : ¬ 8160 < m.count := by omega
  unfold doClose
  rw [if_neg (by simp [ha]), if_neg (by simp [hr]), hx]
  dsimp only
  rw [if_neg, if_neg fresh, if_pos ⟨hq, idle⟩]
  · simp only [h0, h1, hk, hc, bounded, ne_eq, not_true_eq_false, or_self, if_false]
  · revert secured; cases x.kind <;> simp

section
variable {c : Ctx} {x : Session} {s : State} (hx : session s c.port c.id = some x)
include hx

theorem doSubscribe_room (hn : x.subs.contains (okey c.index c.sub) = false) (hl : x.subs.length < 16) :
    doSubscribe c s = finOk c (setSession c.port c.id { x with subs := sadd x.subs (okey c.index c.sub) } s) := by
  simp only [doSubscribe, hx, hn, Nat.not_le.mpr hl, Bool.false_eq_true, if_false]

theorem doUnsubscribe_session :
    doUnsubscribe c s = finOk c (setSession c.port c.id { x with subs := sdel x.subs (okey c.index c.sub) } s) := by
  simp only [doUnsubscribe, hx]

end

/-- Settles O47: each message by the session that it opens, uses or ends. That an OPEN takes the lowest free number is the
model's choice (log entry 74). -/
theorem sessionsComplete : Obligations.SessionsComplete := by
  refine ⟨?tenant, ?management, ?close, ?idle, ?address, ?oldest, ?subscriptions, ?discard⟩
  case tenant =>
    intro m k e s ha hp hr hb hs he hd ht hk hn hf
    have wired : dapArrives s m.port = true := hp ▸ ha
    refine congrArg Host.Outcome.next ((doOpenTenant_authorised wired hr hp hb hs he hd ht hk).trans ?_)
    rw [openSession_free hn hf, hp]
  case management =>
    intro m k s ha hr hb hk hn hf
    exact congrArg Host.Outcome.next ((doOpenManagement_attested ha hr hb hk).trans (openSession_free hn hf))
  case close => exact fun m x s ho h0 h1 hk hc hl => congrArg Host.Outcome.next (doClose_inOrder ho h0 h1 hk hc hl)
  case idle => exact fun p n s hp => congrArg Host.Outcome.next (if_neg hp)
  case address =>
    exact fun address s hl => ⟨congrArg Host.Outcome.next (if_pos hl), congrArg Host.Outcome.next (if_pos hl)⟩
  case oldest =>
    intro r rs s hl hq
    refine congrArg Host.Outcome.next ((if_pos hl).trans ?_)
    simp only [doPrivateRead, hq]
  case subscriptions =>
    exact fun m x s t c hx => ⟨fun e hn hl => dapAdmitted_completes e (doSubscribe_room hx hn hl),
      fun e => dapAdmitted_completes e (doUnsubscribe_session hx)⟩
  case discard => exact fun p b s ha h1 h5 h6 => congrArg Host.Outcome.next (if_pos ⟨ha, h1, h5, h6⟩)

/-! ## Objects (R448, R464 to R466, R471, R472, R488, R561) -/

section
variable {c : Ctx} {s : State}

theorem writeObj_plain (ha : arrayWrite c.index c.sub = none) (hc : clearedBy (okey c.index c.sub) = none)
    (ho : ownWrite (okey c.index c.sub) = none) : writeObj c s = writePlain c s := by
  simp only [writeObj, ha, hc, ho]

theorem writePlain_inRange (hlo : (rangeFor (okey c.index c.sub)).1 ≤ c.value)
    (hhi : c.value ≤ (rangeFor (okey c.index c.sub)).2) (hp : packageField (okey c.index c.sub) c.value = true) :
    writePlain c s = applied c (setObj c.index c.sub c.value) s := by
  have inRange : ¬ (c.value < (rangeFor (okey c.index c.sub)).1 ∨ (rangeFor (okey c.index c.sub)).2 < c.value
      ∨ (!packageField (okey c.index c.sub) c.value) = true) := by
    rw [hp]
    rintro (h | h | h)
    · exact Nat.not_lt.mpr hlo h
    · exact Nat.not_lt.mpr hhi h
    · exact absurd h (by decide)
  exact if_neg inRange

theorem doPackageNumber_unserved (hr : s.pkg ≠ .ready) (hd : s.pkg ≠ .draining) (h0 : bits c.value 15 12 = 0) :
    doPackageNumber c s = applied c (setObj 0x1021 1 c.value) s := by
  simp only [doPackageNumber, hr, hd, h0, or_self, ne_eq, not_true_eq_false, if_false]

theorem doSaveNow_idle (h1 : c.value = 1) (hi : s.dict.saving = none) (hr : logRoom s 0x60 = true) :
    doSaveNow c s = { s with dict := { s.dict with saving := some (capture s) } } := by
  simp only [doSaveNow, h1, hi, hr, ne_eq, not_true_eq_false, Option.isSome_none, Bool.false_eq_true, Bool.not_true, if_false]

end

/-- Settles O48: each command by the object that it names. -/
theorem dictionaryCommandsComplete : Obligations.DictionaryCommandsComplete := by
  refine ⟨fun m s t c e => dapAdmitted_completes e rfl, ?plain, ?number, ?save, ?saved, ?restore, ?recal, ?commit, ?late⟩
  case plain =>
    intro m s t c ha hc ho hlo hhi hp
    have inRange : writeObj c t = applied c (setObj c.index c.sub c.value) t :=
      (writeObj_plain ha hc ho).trans (writePlain_inRange hlo hhi hp)
    refine ⟨fun e => ?_, fun e hr => dapAdmitted_completes e (inRange.trans (applied_guarded _ (dapAdmitted_op e) hr))⟩
    have unguarded := inRange.trans (applied_unguarded _ (dapAdmitted_unguarded e (by decide)))
    exact ⟨dapAdmitted_completes e unguarded, dapAdmitted_completes e unguarded⟩
  case number =>
    exact fun m s t c e hr hd h0 room => dapAdmitted_completes e
      ((doPackageNumber_unserved hr hd h0).trans (applied_guarded _ (dapAdmitted_op e) room))
  case save => exact fun m s t c e h1 hi hr => dapAdmitted_completes e (doSaveNow_idle h1 hi hr)
  case saved =>
    intro i s hi
    change Host.Outcome.next (match s.dict.saving with | some i => _ | none => s) = _
    rw [hi]
  case restore =>
    exact fun m s t c e h1 => dapAdmitted_completes e
      ((if_neg (not_not.mpr h1)).trans (applied_unguarded _ (dapAdmitted_unguarded e (by decide))))
  case recal =>
    exact fun m s t c e hn => dapAdmitted_completes e
      ((if_neg (Nat.not_le.mpr hn)).trans (applied_unguarded _ (dapAdmitted_unguarded e (by decide))))
  case commit => exact fun m s t c e h1 => dapAdmitted_completes e (if_neg (not_not.mpr h1))
  case late => exact fun s ho => congrArg Host.Outcome.next (if_neg (Bool.eq_false_iff.mp ho))

/-! ## The raw window (R489, R490) -/

section
variable {c : Ctx} {s : State}

theorem doRawDie_present (hb : hasBlock c.value = true) (hl : c.value ≤ 31) (hp : diePresent s c.value = true) :
    doRawDie c s = applied c (setObj 0xF000 1 c.value) s := by
  simp only [doRawDie, hb, Nat.not_lt.mpr hl, hp, Bool.not_true, Bool.false_eq_true, or_self, if_false]

/-- A read of a word leaves what the window has selected. -/
theorem readWord_window (die off : Nat) {k : Nat} (hk : k < 256) :
    obj (readWord die off s).2 0xF000 k = obj s 0xF000 k := by
  have other : okey 0xF012 2 ≠ okey 0xF000 k := by unfold okey; omega
  have missed (u : State) : obj (bump 0xF012 2 1 u) 0xF000 k = obj u 0xF000 k := obj_bump_of_ne other
  unfold readWord
  dsimp only
  generalize (if decodeOff off < 4096 then decodeOff off else lowerOf (decodeOff off)) = low
  split
  · rfl
  split
  · split
    · split
      · rfl
      · exact missed _
    · exact missed _
  split
  · rfl
  · rfl

section
variable (up : ¬ (4096 ≤ decodeOff (rawOffset s) ∧ 2 ≤ (dom s (dieDom (rawDie s))).st))
include up

theorem rawAccess_up (act : State → State) : rawAccess c act s = act s := if_neg up

theorem doRawRead64_aligned (h8 : rawOffset s % 8 = 0) : doRawRead64 c s =
    let lo := readWord (rawDie s) (rawOffset s) s
    let hi := readWord (rawDie s) (rawOffset s + 4) lo.2
    finRead c 8 (lo.1 + hi.1 * 2 ^ 32) hi.2 := by
  have die : rawDie (readWord (rawDie s) (rawOffset s) s).2 = rawDie s := readWord_window _ _ (by decide)
  have offset : rawOffset (readWord (rawDie s) (rawOffset s) s).2 = rawOffset s := readWord_window _ _ (by decide)
  refine (if_neg (not_not.mpr h8)).trans ((rawAccess_up up _).trans ?_)
  dsimp only
  rw [die, offset]

theorem doRawWrite64_aligned (h8 : rawOffset s % 8 = 0) (hop : c.op ≠ dapGuarded) : doRawWrite64 c s =
    finOk c (blockWrite (rawDie s) (rawOffset s + 4) (c.value / 2 ^ 32)
      (blockWrite (rawDie s) (rawOffset s) (c.value % 2 ^ 32) s)) :=
  (if_neg (not_not.mpr h8)).trans ((rawAccess_up up _).trans (applied_unguarded _ hop))

theorem doRawGuarded_taken (hg : isGuarded (rawDie s) (decodeOff (rawOffset s)) = true)
    (hp : 4096 ≤ decodeOff (rawOffset s)) (ht : guardedTakes (decodeOff (rawOffset s)) c.value = true) :
    doRawGuarded c s = applied c (guardedPair (rawDie s) (rawOffset s) c.value) s := by
  simp only [doRawGuarded, hg, Nat.not_lt.mpr hp, ht, rawAccess_up up, Bool.not_true, Bool.false_eq_true, or_self, if_false,
    if_true]

end

end

/-- Settles O51: each access by what the window has selected. -/
theorem rawWindowCompletes : Obligations.RawWindowCompletes := by
  intro m s t c sent d o up
  refine ⟨?die, ?offset, ?read, ?write, ?readPair, ?writePair, ?guarded⟩
  case die =>
    exact fun e hb hl hp => dapAdmitted_completes e
      ((doRawDie_present hb hl hp).trans (applied_unguarded _ (dapAdmitted_unguarded e (by decide))))
  case offset =>
    exact fun e h4 => dapAdmitted_completes e
      ((if_neg (not_not.mpr h4)).trans (applied_unguarded _ (dapAdmitted_unguarded e (by decide))))
  case read => exact fun e hu => dapAdmitted_completes e (rawAccess_up hu _)
  case write =>
    exact fun e hu => dapAdmitted_completes e
      ((rawAccess_up hu _).trans (applied_unguarded _ (dapAdmitted_unguarded e (by decide))))
  case readPair => exact fun e hu h8 => dapAdmitted_completes e (doRawRead64_aligned hu h8)
  case writePair =>
    exact fun e hu h8 => dapAdmitted_completes e (doRawWrite64_aligned hu h8 (dapAdmitted_unguarded e (by decide)))
  case guarded =>
    exact fun e hu hg hp ht hr => dapAdmitted_completes e
      ((doRawGuarded_taken hu hg hp ht).trans (applied_guarded _ (dapAdmitted_op e) hr))

/-! ## The SPDM responder (R579 to R584) -/

section
variable {m : SpdmMsg} {s : State} (ha : spdmArrives s m.port = true)
include ha

theorem atStage_reached {n : Nat} (hn : n ≤ stage s m.port) (f : State → State) : atStage n m f s = f s := by
  simp only [atStage, ha, Nat.not_lt.mpr hn, Bool.not_true, Bool.false_eq_true, if_false]

section
variable {x : SpdmSession} (hx : tget s.spdm.sessions m.session = some x) (hp : x.port = m.port)
include hx hp

theorem inSession_own (f : SpdmSession → State → State) : inSession m f s = f x s := by
  simp only [inSession, ha, hx, hp, Bool.not_true, Bool.false_eq_true, if_false, if_true]

theorem inEstablished_own (he : x.established = true) (f : SpdmSession → State → State) : inEstablished m f s = f x s :=
  (inSession_own ha hx hp _).trans (if_pos he)

end

end

theorem doKeyExchange_accepted {m : SpdmMsg} {key : Option Nat} {n : Nat} {s : State} (h0 : bits m.param 7 0 = 0)
    (hc : chainAccepted s key = true)
    (hn : ((List.range 8).map (· + 1)).find? (fun k => (tget s.spdm.sessions k).isNone) = some n) :
    doKeyExchange m key s = spdmSend m n 0x64 0 0 (countSpdm { s with
      spdm := { s.spdm with sessions := tset s.spdm.sessions n ⟨m.port, false, true, 0⟩ } }) := by
  simp only [doKeyExchange, h0, hc, hn, ne_eq, not_true_eq_false, Bool.not_true, Bool.false_eq_true, if_false]

/-- Settles O53: each request by the stage of its connection or by its session. The responses, the errors and their fields are
the model's choice (log entry 46). -/
theorem spdmCompletes : Obligations.SpdmCompletes := by
  refine ⟨?connection, ?session, fun n s hn => congrArg Host.Outcome.next (if_pos hn)⟩
  case connection =>
    intro m s ha
    have at_ {n : Nat} (hn : n ≤ stage s m.port) (f : State → State) :
        (.next (atStage n m f s) : Host.Outcome State Fault Refusal) = .next (f s) :=
      congrArg Host.Outcome.next (atStage_reached ha hn f)
    refine ⟨at_ (Nat.zero_le _) _, fun h1 => at_ h1 _, fun h2 => at_ h2 _, fun h3 => ⟨at_ h3 _, fun h0 => ?certificate,
      fun h0 => ?challenge, fun hf => ?measurements, fun n key h0 hc hn => ?exchange⟩, fun code hc => ?other⟩
    case certificate => exact (at_ h3 _).trans (congrArg Host.Outcome.next (if_neg (not_not.mpr h0)))
    case challenge => exact (at_ h3 _).trans (congrArg Host.Outcome.next (if_neg (not_not.mpr h0)))
    case measurements =>
      refine (at_ h3 _).trans (congrArg Host.Outcome.next ?_)
      simp only [doGetMeasurements, hf, OfNat.ofNat_ne_zero, if_false, if_true]
    case exchange => exact (at_ h3 _).trans (congrArg Host.Outcome.next (doKeyExchange_accepted h0 hc hn))
    case other => exact congrArg Host.Outcome.next (if_pos ⟨ha, by rw [hc]; rfl⟩)
  case session =>
    intro m x s ha hx hp
    refine ⟨fun he => ?_, fun he => ⟨congrArg Host.Outcome.next (inEstablished_own ha hx hp he _),
      congrArg Host.Outcome.next (inEstablished_own ha hx hp he _),
      congrArg Host.Outcome.next (inEstablished_own ha hx hp he _)⟩⟩
    refine congrArg Host.Outcome.next ((inSession_own ha hx hp _).trans ?_)
    simp only [he, Bool.false_eq_true, if_false, if_true]

end Sys2Proof.Machine

/-! # What stops the package -/

namespace Sys2Proof.Machine

/-! ## Domains that go off (R503, R505, R534) -/

/-- A view that shows nothing of what is lost with a domain's rails beside the domain's own state (R117, R483, R504). -/
structure RailsBlind {α : Type} (p : State → α) : Prop extends ReplyBlind p where
  checkObj {index : Nat} (h : index / 0x1000 = 15) (sub v : Nat) (s : State) : p (setObj index sub v s) = p s
  blocks (s : State) (x : Tab Block) : p { s with blocks := x } = p s
  copies (s : State) (x : List RemoteCopy) : p { s with copies := x } = p s
  fabric (s : State) (x : Tab Tile) (y : List Host.Cell) (z : List Nat) (w : Tab Cluster) :
    p { s with tiles := x, mem := y, poison := z, clusters := w } = p s
  store (s : State) (x : Tab StoreLine) : p { s with store := x } = p s

/-- A domain's rails are removed, its own state aside. -/
def railsCut (d : Nat) (s : State) : State :=
  let s := leaveIdle d s
  let s := (domDies d).foldl (fun s x => if (block s x).check = .clean then setCheck x .reload s else s) s
  if 16 ≤ d ∧ d < 24 then loseFabric (d - 16) s else if 8 ≤ d ∧ d < 16 then emptyStore (d - 8) s else s

theorem railsOff_eq (d : Nat) (s : State) : railsOff d s = setDom d (fun x =>
    { x with st := 3, waking := false, wakeReq := false, failed := false, checking := false }) (railsCut d s) := rfl

namespace RailsBlind

variable {α : Type} {p : State → α} (hp : RailsBlind p)
include hp

theorem setBlock (die : Nat) (f : Block → Block) (s : State) : p (setBlock die f s) = p s := hp.blocks ..

theorem dropGuard (die : Nat) (s : State) : p (dropGuard die s) = p s := by
  have dropped : p (if (block s die).guard.isSome then discard die 2 s else s) = p s :=
    ite_view ((hp.checkObj (by decide) ..).trans (hp.setBlock ..)) rfl
  exact (hp.blocks _ _).trans dropped

theorem leaveIdle (d : Nat) (s : State) : p (leaveIdle d s) = p s := by
  have dropped : p ((domDies d).foldl (fun s x => Machine.dropGuard x s) s) = p s :=
    foldl_view (fun _ _ => hp.dropGuard _ _) _ _
  exact ite_view ((hp.copies ..).trans dropped) dropped

theorem setCheck (die : Nat) (c : CfgCheck) (s : State) : p (setCheck die c s) = p s :=
  (hp.checkObj (by decide) ..).trans (hp.setBlock ..)

theorem railsCut (d : Nat) (s : State) : p (railsCut d s) = p s := by
  have left : p ((domDies d).foldl (fun s x => if (block s x).check = .clean then Machine.setCheck x .reload s else s)
      (Machine.leaveIdle d s)) = p s :=
    (foldl_view (fun _ _ => ite_view (hp.setCheck ..) rfl) _ _).trans (hp.leaveIdle ..)
  exact ite_view ((hp.fabric ..).trans left) (ite_view ((hp.store ..).trans left) left)

theorem railsOff (hd : ∀ (s : State) (x : Tab Domain), p { s with doms := x } = p s) (d : Nat) (s : State) :
    p (railsOff d s) = p s :=
  (hd ..).trans (hp.railsCut ..)

theorem fastOff (hd : ∀ (s : State) (x : Tab Domain), p { s with doms := x } = p s) (s : State) : p (fastOff s) = p s :=
  (hp.settleCommit ..).trans (foldl_view (fun _ _ => hp.railsOff hd _ _) _ _)

end RailsBlind

theorem railsBlind_doms : RailsBlind State.doms := by
  refine ⟨⟨?_, ?_, ?_⟩, ?_, ?_, ?_, ?_, ?_⟩ <;> (intros; rfl)

theorem dom_railsOff_self (d : Nat) (s : State) : (dom (railsOff d s) d).st = 3 := by
  rw [railsOff_eq, dom_setDom_self]

theorem dom_railsOff_of_ne {d k : Nat} (h : d ≠ k) (s : State) : dom (railsOff d s) k = dom s k := by
  have kept : dom (railsCut d s) k = dom s k := congrArg (tgetD · k Domain.off) (railsBlind_doms.railsCut d s)
  exact (tgetD_tset_of_ne _ _ _ h).trans kept

/-- A domain whose rails are among those that go is OFF afterwards, and one that was OFF stays so. -/
theorem dom_foldl_railsOff (l : List Nat) (s : State) {k : Nat} (h : k ∈ l ∨ (dom s k).st = 3) :
    (dom (l.foldl (fun s d => railsOff d s) s) k).st = 3 := by
  induction l generalizing s with
  | nil => exact h.resolve_left List.not_mem_nil
  | cons d l ih =>
    refine ih _ ?_
    by_cases hd : d = k
    · exact .inr (hd ▸ dom_railsOff_self d s)
    · rw [dom_railsOff_of_ne hd]
      exact h.imp_left fun hk => (List.mem_cons.mp hk).resolve_left (Ne.symm hd)

theorem dom_fastOff {k : Nat} (h4 : 4 ≤ k) (h27 : k ≤ 27) (s : State) : (dom (fastOff s) k).st = 3 := by
  have fast : k ∈ fastDoms := List.mem_map.mpr ⟨k - 4, List.mem_range.mpr (by omega), by omega⟩
  have settled : (fastOff s).doms = (fastDoms.foldl (fun s d => railsOff d s) s).doms :=
    railsBlind_doms.settleCommit _
  exact (congrArg (fun t => (tgetD t k Domain.off).st) settled).trans (dom_foldl_railsOff _ _ (.inl fast))

/-! ## The entry into STANDING (R530, R534) -/

/-- A view that shows nothing of what the entry into a state writes after the domains went off. -/
structure EntryBlind {α : Type} (p : State → α) : Prop extends RecordBlind p where
  pkg (s : State) (x : PkgState) : p { s with pkg := x } = p s
  entryObj {index sub : Nat} (h : index = 0x1010 ∧ (sub = 2 ∨ sub = 5) ∨ index = 0xB070) (v : Nat) (s : State) :
    p (setObj index sub v s) = p s

namespace EntryBlind

variable {α : Type} {p : State → α} (hp : EntryBlind p)
include hp

theorem enterState (k : PkgState) (s : State) : p (enterState k s) = p s := by
  obtain ⟨v, e⟩ := hp.raiseEvent_record 0x1010 5 (pkgCode k) (setObj 0x1010 2 s.time { s with pkg := k })
  exact e.trans ((hp.entryObj (by decide) ..).trans ((hp.entryObj (by decide) ..).trans (hp.pkg ..)))

theorem purgeReached (s : State) : p (purgeReached s) = p s := ite_view (hp.entryObj (by decide) ..) rfl

theorem standingEntry (k : PkgState) (s : State) :
    p (standingEntry k s) = p (fastOff (clearQps { dropWork (stopSteps s) with links := [] })) :=
  (hp.appendLog ..).trans (ite_view ((hp.purgeReached ..).trans (hp.enterState ..)) (hp.enterState ..))

end EntryBlind

/-- Discarding the open requests is invisible where their completions and the tables of them are. -/
theorem CompletionBlind.discardOpen {α : Type} {p : State → α} (hp : CompletionBlind p)
    (hs : ∀ (s : State) (x : Tab OpenReq) (y : Tab Snoop), p { s with openReqs := x, snoops := y } = p s) (s : State) :
    p (discardOpen s) = p s :=
  (hs ..).trans ((foldl_view (fun _ _ => foldl_view (fun _ _ => hp.complete ..) _ _) _ _).trans
    (foldl_view (fun _ _ => ite_view rfl (hp.complete ..)) _ _))

/-- A view that the entry into a state leaves as discarding what is open leaves it. -/
structure StandingBlind {α : Type} (p : State → α) : Prop where
  rails : RailsBlind p
  entry : EntryBlind p
  doms (s : State) (x : Tab Domain) : p { s with doms := x } = p s

theorem StandingBlind.standingEntry {α : Type} {p : State → α} (hp : StandingBlind p) (k : PkgState) (s : State) :
    p (standingEntry k s) = p (clearQps { dropWork (stopSteps s) with links := [] }) :=
  (hp.entry.standingEntry ..).trans (hp.rails.fastOff hp.doms _)

theorem standingBlind_thermTrip : StandingBlind State.thermTrip := by
  refine ⟨⟨⟨?_, ?_, ?_⟩, ?_, ?_, ?_, ?_, ?_⟩, ⟨⟨⟨?_, ?_, ?_⟩, ?_, ?_, ?_, ?_⟩, ?_, ?_⟩, ?_⟩ <;> (intros; rfl)

theorem standingBlind_links : StandingBlind State.links := by
  refine ⟨⟨⟨?_, ?_, ?_⟩, ?_, ?_, ?_, ?_, ?_⟩, ⟨⟨⟨?_, ?_, ?_⟩, ?_, ?_, ?_, ?_⟩, ?_, ?_⟩, ?_⟩ <;> (intros; rfl)

theorem standingBlind_openReqs : StandingBlind State.openReqs := by
  refine ⟨⟨⟨?_, ?_, ?_⟩, ?_, ?_, ?_, ?_, ?_⟩, ⟨⟨⟨?_, ?_, ?_⟩, ?_, ?_, ?_, ?_⟩, ?_, ?_⟩, ?_⟩ <;> (intros; rfl)

/-- failure_code and failure_die are written by the cause alone. -/
theorem standingBlind_failure {sub : Nat} (h : sub = 3 ∨ sub = 4) : StandingBlind (fun s => obj s 0x1010 sub) := by
  refine ⟨⟨replyBlind_obj .., fun hi k v s => obj_setObj_of_ne s v ?_, ?_, ?_, ?_, ?_⟩,
    ⟨recordBlind_obj (by decide) (by omega), ?_, fun hi v s => obj_setObj_of_ne s v ?_⟩, ?_⟩
  case refine_1 => unfold okey; omega
  case refine_7 => unfold okey; omega
  all_goals intros; rfl

theorem completionBlind_failure {sub : Nat} (h : sub < 256) : CompletionBlind (fun s => obj s 0x1010 sub) := by
  refine ⟨replyBlind_obj .., fun hi k v s => obj_setObj_of_ne s v ?_, ?_, ?_, ?_, ?_⟩
  · unfold okey; omega
  all_goals intros; rfl

theorem completionBlind_thermTrip : CompletionBlind State.thermTrip := by
  refine ⟨⟨?_, ?_, ?_⟩, ?_, ?_, ?_, ?_, ?_⟩ <;> (intros; rfl)

theorem obj_stopSteps {sub : Nat} (h : sub < 256) (s : State) : obj (stopSteps s) 0x1010 sub = obj s 0x1010 sub := by
  have other (i : Nat) : okey 0x1041 (i + 1) ≠ okey 0x1010 sub := by unfold okey; omega
  exact foldl_view (p := fun s => obj s 0x1010 sub)
    (fun _ i => ite_view (p := fun s => obj s 0x1010 sub) (obj_setObj_of_ne _ _ (other i)) rfl) _ _

theorem obj_clearQps {sub : Nat} (h : sub < 256) (s : State) : obj (clearQps s) 0x1010 sub = obj s 0x1010 sub := by
  have other : okey 0x7110 4 ≠ okey 0x1010 sub := by unfold okey; omega
  exact obj_setObj_of_ne _ _ other

theorem obj_dropWork (index sub : Nat) (s : State) : obj (dropWork s) index sub = obj (discardOpen s) index sub := rfl

theorem links_clearQps (s : State) : (clearQps s).links = s.links := rfl
theorem openReqs_clearQps (s : State) : (clearQps s).openReqs = s.openReqs := rfl
theorem thermTrip_clearQps (s : State) : (clearQps s).thermTrip = s.thermTrip := rfl

theorem openReqs_dropWork (s : State) : (dropWork s).openReqs = [] := rfl

theorem thermTrip_dropWork (s : State) : (dropWork s).thermTrip = s.thermTrip :=
  completionBlind_thermTrip.discardOpen (fun _ _ _ => rfl) s

theorem obj_standingEntry (k : PkgState) (s : State) {sub : Nat} (h : sub = 3 ∨ sub = 4) :
    obj (standingEntry k s) 0x1010 sub = obj s 0x1010 sub := by
  have small : sub < 256 := by omega
  have entry : obj (standingEntry k s) 0x1010 sub = obj (clearQps { dropWork (stopSteps s) with links := [] }) 0x1010 sub :=
    (standingBlind_failure h).standingEntry k s
  have dropped : obj { dropWork (stopSteps s) with links := [] } 0x1010 sub = obj (dropWork (stopSteps s)) 0x1010 sub := rfl
  have discarded : obj (discardOpen (stopSteps s)) 0x1010 sub = obj (stopSteps s) 0x1010 sub :=
    (completionBlind_failure small).discardOpen (fun _ _ _ => rfl) _
  rw [entry, obj_clearQps small, dropped, obj_dropWork, discarded, obj_stopSteps small]

/-- What the entry leaves: nothing open, no link, every fast domain OFF, and the cause where it was recorded. -/
theorem standingEntry_left (k : PkgState) (s : State) :
    let t := standingEntry k s
    t.links = [] ∧ t.openReqs = [] ∧ t.thermTrip = s.thermTrip ∧ (∀ sub, sub = 3 ∨ sub = 4 → obj t 0x1010 sub = obj s 0x1010 sub) ∧
      ∀ d, 4 ≤ d → d ≤ 27 → (dom t d).st = 3 := by
  refine ⟨?links, ?opened, ?trip, fun sub h => ?failure,
    fun d h4 h27 => ?domains⟩
  case links => exact (standingBlind_links.standingEntry k s).trans (links_clearQps _)
  case opened =>
    exact ((standingBlind_openReqs.standingEntry k s).trans (openReqs_clearQps _)).trans (openReqs_dropWork (stopSteps s))
  case trip =>
    have stopped : (stopSteps s).thermTrip = s.thermTrip :=
      foldl_view (p := State.thermTrip) (fun _ _ => by split <;> rfl) _ _
    exact (standingBlind_thermTrip.standingEntry ..).trans ((thermTrip_clearQps _).trans ((thermTrip_dropWork (stopSteps s)).trans stopped))
  case failure => exact obj_standingEntry k s h
  case domains =>
    have entry : EntryBlind (fun s => (dom s d).st) := by
      refine ⟨⟨⟨?_, ?_, ?_⟩, ?_, ?_, ?_, ?_⟩, ?_, ?_⟩ <;> (intros; rfl)
    exact (entry.standingEntry k s).trans (dom_fastOff h4 h27 _)

theorem standing_serving {s : State} (h : serving s = true) (category cause unit die : Nat) :
    standing category cause unit die s = standingEntry .standing (setObj 0x1010 4 (die % 256)
      (setObj 0x1010 3 (category * 2 ^ 24 + cause % 256 * 2 ^ 16 + unit % 256) s)) :=
  if_pos (.inl h)

theorem serving_not_off {s : State} (h : serving s = true) : s.pkg ≠ .off := by
  intro off
  simp [serving, off] at h

theorem serving_raiseEvent (index sub cause : Nat) (s : State) : serving (raiseEvent index sub cause s) = serving s :=
  AnswerBlind.raiseEvent (p := serving) (by refine ⟨⟨?_, ?_, ?_⟩, ?_⟩ <;> (intros; rfl)) ..

/-- The thermal event and THERM_TRIP_N (R519, R613). -/
def tripped (s : State) : State :=
  let s := raiseEvent 0x2000 8 3 s
  if s.thermTrip then s else emit (.pin 0 false) { s with thermTrip := true }

theorem thermTrip_tripped (s : State) : (tripped s).thermTrip = true := by
  unfold tripped
  dsimp only
  split
  · assumption
  · rfl

theorem serving_tripped (s : State) : serving (tripped s) = serving s := by
  refine Eq.trans ?_ (serving_raiseEvent 0x2000 8 3 s)
  unfold tripped
  dsimp only
  split
  · rfl
  · rfl

/-- Settles O22: the trip is a critical cause of a package that serves. -/
theorem standingEntered : Obligations.StandingEntered := by
  intro die s hs
  have live : serving (tripped s) = true := (serving_tripped s).trans hs
  refine ⟨standing runtime 1 0 die (tripped s), congrArg Host.Outcome.next (if_neg (serving_not_off hs)), ?_⟩
  rw [standing_serving live]
  obtain ⟨links, opened, trip, failure, domains⟩ := standingEntry_left .standing (setObj 0x1010 4 (die % 256)
    (setObj 0x1010 3 (runtime * 2 ^ 24 + 1 % 256 * 2 ^ 16 + 0 % 256) (tripped s)))
  refine ⟨standingEntry_pkg .., trip.trans (thermTrip_tripped s), links, opened, ?code, ?place, domains⟩
  case code => exact (failure 3 (.inl rfl)).trans ((obj_setObj_of_ne _ _ (by decide)).trans (obj_setObj_self ..))
  case place => exact (failure 4 (.inr rfl)).trans (obj_setObj_self ..)

/-! ## The causes (R515, R519, R530, R545, R573, R613, R618) -/

/-- Settles O21: each cause by its guard. That a commanded entry names no die is the model's choice (log entry 36). -/
theorem standingCausesComplete : Obligations.StandingCausesComplete := by
  refine ⟨?reference, ?trip, ?command, ?drain, fun s hd hr hf => congrArg Host.Outcome.next (if_pos ⟨hd, hr, by rw [hf]; rfl⟩)⟩
  case reference => exact fun s h0 hf => congrArg Host.Outcome.next ((if_neg h0).trans (if_pos hf))
  case trip =>
    intro die s h0 ht
    have first : (if (raiseEvent 0x2000 8 3 s).thermTrip then raiseEvent 0x2000 8 3 s
        else emit (.pin 0 false) { raiseEvent 0x2000 8 3 s with thermTrip := true })
        = emit (.pin 0 false) { raiseEvent 0x2000 8 3 s with thermTrip := true } := if_neg (Bool.eq_false_iff.mp ht)
    exact congrArg Host.Outcome.next ((if_neg h0).trans (congrArg (standing runtime 1 0 die) first))
  case command =>
    exact fun m s t c e h1 hr => dapAdmitted_completes e
      ((if_neg (not_not.mpr h1)).trans (applied_guarded _ (dapAdmitted_op e) hr))
  case drain =>
    intro m s t c e h1 hp hr
    have taken : ¬ (c.value ≠ 1 ∨ t.pkg ≠ .ready) := not_or.mpr ⟨not_not.mpr h1, not_not.mpr hp⟩
    exact dapAdmitted_completes e ((if_neg taken).trans (applied_guarded _ (dapAdmitted_op e) hr))

end Sys2Proof.Machine

/-! # Reset, firmware and bring-up -/

namespace Sys2Proof.Machine

/-- Settles O20: each command by what holds the reset. That the reset's record is the BOOT entry of the start that follows is the
model's choice (log entry 18). -/
theorem resetCompletes : Obligations.ResetCompletes := by
  refine ⟨?pin, ?free, ?release, ?command, ?trigger, ?done⟩
  case pin => exact fun s h0 => congrArg Host.Outcome.next (if_neg h0)
  case free => exact fun s hh hn => congrArg Host.Outcome.next (if_pos ⟨hh, by rw [hn]; rfl⟩)
  case release =>
    intro x s hh hn
    refine congrArg Host.Outcome.next ((if_pos hh).trans ?_)
    simp only [hn, Bool.false_eq_true, if_false]
  case command =>
    exact fun m s t c e h1 hr => dapAdmitted_completes e
      ((if_neg (not_not.mpr h1)).trans (applied_guarded _ (dapAdmitted_op e) hr))
  case trigger =>
    intro s hs hc h0
    have undisturbed_s : undisturbed s = true := by rw [undisturbed, hc]; rfl
    exact congrArg Host.Outcome.next (if_pos ⟨hs, undisturbed_s, h0⟩)
  case done =>
    intro cause s hc hh
    change Host.Outcome.next (match s.resetting.cause with
      | some c => if s.resetting.held then s else resetDone c s
      | none => s) = _
    rw [hc]
    exact congrArg Host.Outcome.next (if_neg (Bool.eq_false_iff.mp hh))

/-! ## Firmware (R525, R540 to R543) -/

theorem answerBlind_fw : AnswerBlind State.fw := by
  refine ⟨⟨?_, ?_, ?_⟩, ?_⟩ <;> (intros; rfl)

theorem recordBlind_fw : RecordBlind State.fw := by
  refine ⟨⟨?_, ?_, ?_⟩, ?_, ?_, ?_, ?_⟩ <;> (intros; rfl)

theorem fwSlot_of_fw {s t : State} (h : t.fw = s.fw) (k : Nat) : fwSlot t k = fwSlot s k := by
  rw [fwSlot, fwSlot, h]

theorem fwSlot_setFwSlot_self (k : Nat) (f : FwSlot → FwSlot) (s : State) :
    fwSlot (setFwSlot k f s) k = f (fwSlot s k) := by
  unfold fwSlot setFwSlot
  split
  · rfl
  · rfl

theorem fwSlot_setFwSlot_of_ne {j k : Nat} (hj : j ≤ 1) (hk : k ≤ 1) (h : j ≠ k) (f : FwSlot → FwSlot) (s : State) :
    fwSlot (setFwSlot j f s) k = fwSlot s k := by
  unfold fwSlot setFwSlot
  obtain ⟨rfl, rfl⟩ | ⟨rfl, rfl⟩ : j = 0 ∧ k = 1 ∨ j = 1 ∧ k = 0 := by omega
  · rfl
  · rfl

/-- Marking a slot leaves the firmware's own fields. -/
theorem setFwSlot_fields (k : Nat) (f : FwSlot → FwSlot) (s : State) :
    let u := (setFwSlot k f s).fw
    u.running = s.fw.running ∧ u.marker = s.fw.marker ∧ u.trial = s.fw.trial ∧ u.restarting = s.fw.restarting := by
  unfold setFwSlot
  split
  · exact ⟨rfl, rfl, rfl, rfl⟩
  · exact ⟨rfl, rfl, rfl, rfl⟩

section
variable {c : Ctx} {s : State} (ha : c.actor = 2)
include ha

theorem doStage_idle (hop : c.op ≠ dapGuarded) (hb : c.bytes = 4096) (h0 : obj s 0x1050 3 % 4096 = 0)
    (hl : obj s 0x1050 3 ≤ 8384512) (hv : s.fw.verifying = false) :
    doStage c s = finOk c (setObj 0x1050 3 (obj s 0x1050 3 + 4096) (setFwSlot (otherSlot s)
      (fun x => { x with st := 1, staged := tset x.staged (obj s 0x1050 3 / 4096) c.value }) s)) := by
  simp only [doStage, ha, hb, h0, Nat.not_lt.mpr hl, hv, ne_eq, not_true_eq_false, or_self, Bool.false_eq_true, if_false,
    applied_unguarded _ hop]

theorem doFwVerify_idle (h1 : c.value = 1) (hv : s.fw.verifying = false) :
    doFwVerify c s = { s with fw := { s.fw with verifying := true } } := by
  simp only [doFwVerify, ha, h1, hv, ne_eq, not_true_eq_false, or_self, Bool.false_eq_true, if_false]

end

theorem running_runSlot (k : Nat) (s : State) : (runSlot k s).fw.running = some k :=
  (setFwSlot_fields k (fun x => { x with st := 4 }) { s with fw := { s.fw with running := some k } }).1

theorem st_runSlot_self (k : Nat) (s : State) : (fwSlot (runSlot k s) k).st = 4 :=
  congrArg FwSlot.st
    (fwSlot_setFwSlot_self k (fun x => { x with st := 4 }) { s with fw := { s.fw with running := some k } })

theorem fwSlot_runSlot_of_ne {j k : Nat} (hj : j ≤ 1) (hk : k ≤ 1) (h : j ≠ k) (s : State) :
    fwSlot (runSlot j s) k = fwSlot s k :=
  fwSlot_setFwSlot_of_ne hj hk h (fun x => { x with st := 4 }) { s with fw := { s.fw with running := some j } }

/-- A verification marks its slot by its status. -/
theorem st_doFwVerifyDone (f : FwFound) (s : State) : (fwSlot (doFwVerifyDone f s) (otherSlot s)).st =
    if verifyStatus s (fwSlot s (otherSlot s)) f = .ok then 2 else 3 := by
  unfold doFwVerifyDone
  dsimp only
  rw [fwSlot_of_fw (answerBlind_fw.dapFinishKey ..)]
  exact congrArg FwSlot.st (fwSlot_setFwSlot_self ..)

/-- What a handover leaves of the firmware. -/
def handedOver (old new : Nat) (s : State) : State :=
  setFwSlot new (fun x => { x with st := 5 })
    (let u := runSlot new (setFwSlot old (fun x => { x with st := 2 }) s)
     { u with fw := { u.fw with marker := new, trial := some old } })

theorem doFwHandover_verified {c : Ctx} {s : State} {old : Nat} (ha : c.actor = 2) (h1 : c.value ≤ 1)
    (hr : s.fw.running = some old) (hn : old ≠ c.value) (hv : (fwSlot s c.value).st = 2) (room : logRoom s 0x20 = true) :
    doFwHandover c s = restart (handedOver old c.value (finOk c (guardedEntry c s))) := by
  have other : ¬ (some old = some c.value) := fun h => hn (Option.some.inj h)
  simp only [doFwHandover, ha, Nat.not_lt.mpr h1, hr, other, hv, room, ne_eq, not_true_eq_false, or_self, Bool.not_true,
    Bool.false_eq_true, if_false]
  rfl

/-- After the restart the new slot runs on trial, and the other one is VERIFIED. -/
theorem handedOver_fields {old new : Nat} (ho : old ≤ 1) (hn : new ≤ 1) (h : old ≠ new) (s : State) :
    let u := restart (handedOver old new s)
    u.fw.restarting = true ∧ u.fw.running = some new ∧ u.fw.marker = new ∧ u.fw.trial = some old ∧
      (fwSlot u new).st = 5 ∧ (fwSlot u old).st = 2 := by
  have slots (k : Nat) : fwSlot (restart (handedOver old new s)) k = fwSlot (handedOver old new s) k := rfl
  obtain ⟨running, marker, trial, -⟩ := setFwSlot_fields new (fun x => { x with st := 5 })
    (let u := runSlot new (setFwSlot old (fun x => { x with st := 2 }) s)
     { u with fw := { u.fw with marker := new, trial := some old } })
  refine ⟨rfl, running.trans (running_runSlot ..), marker, trial, ?new, ?old⟩
  case new => exact (congrArg FwSlot.st ((slots new).trans (fwSlot_setFwSlot_self ..)))
  case old =>
    have ran : fwSlot (handedOver old new s) old = fwSlot (runSlot new (setFwSlot old (fun x => { x with st := 2 }) s)) old :=
      fwSlot_setFwSlot_of_ne hn ho h.symm ..
    rw [slots, ran, fwSlot_runSlot_of_ne hn ho h.symm, fwSlot_setFwSlot_self]

section
variable {k old : Nat} {s : State} (hk : s.fw.running = some k) (ho : s.fw.trial = some old)
include hk ho

/-- The slot on trial is committed. -/
theorem doFwAlive_trial : let u := doFwAlive s
    u.fw.restarting = false ∧ u.fw.trial = none ∧ u.fw.running = some k ∧ (fwSlot u k).st = 4 := by
  let begun : State := { s with fw := { s.fw with running := some k, restarting := false, trial := none } }
  have shown : (doFwAlive s).fw = (setFwSlot k (fun x => { x with st := 4 }) begun).fw := by
    simp only [doFwAlive, hk, ho, Option.isSome_some, if_true]
    exact recordBlind_fw.appendLog ..
  obtain ⟨running, -, trial, restarting⟩ := setFwSlot_fields k (fun x => { x with st := 4 }) begun
  intro u
  rw [shown, fwSlot_of_fw shown]
  exact ⟨restarting, trial, running, congrArg FwSlot.st (fwSlot_setFwSlot_self ..)⟩

/-- The slot on trial fails, and the one before it runs again. -/
theorem doHandoverTimeout_trial (h1 : k ≤ 1) (h1' : old ≤ 1) (hn : k ≠ old) : let u := doHandoverTimeout s
    u.fw.running = some old ∧ u.fw.marker = old ∧ u.fw.trial = none ∧ (fwSlot u k).st = 3 ∧ (fwSlot u old).st = 4 := by
  let failed := setFwSlot k (fun x => { x with st := 3 }) s
  let back : State := { failed with fw := { failed.fw with marker := old, trial := none } }
  have shown : (doHandoverTimeout s).fw = (runSlot old back).fw := by
    simp only [doHandoverTimeout, hk, ho]
    exact (recordBlind_fw.appendLog ..).trans (answerBlind_fw.raiseEvent ..)
  have slot : fwSlot (runSlot old back) k = fwSlot failed k := fwSlot_runSlot_of_ne h1' h1 hn.symm back
  obtain ⟨-, marker, trial, -⟩ := setFwSlot_fields old (fun x => { x with st := 4 })
    { back with fw := { back.fw with running := some old } }
  intro u
  rw [shown, fwSlot_of_fw shown, fwSlot_of_fw shown, slot]
  exact ⟨running_runSlot .., marker, trial, congrArg FwSlot.st (fwSlot_setFwSlot_self ..), st_runSlot_self ..⟩

end

/-- Settles O23: each step by what the slots hold. That the slot which ran before is VERIFIED during the trial is the model's
choice (log entry 101). -/
theorem firmwareUpdatesComplete : Obligations.FirmwareUpdatesComplete := by
  refine ⟨?stage, ?verify, ?verified, ?handover, ?alive, ?timeout⟩
  case stage =>
    exact fun m s t c e ha hb h0 hl hv => dapAdmitted_completes e
      (doStage_idle ha (dapAdmitted_unguarded e (by decide)) hb h0 hl hv)
  case verify => exact fun m s t c e ha h1 hv => dapAdmitted_completes e (doFwVerify_idle ha h1 hv)
  case verified =>
    intro f s hv
    refine ⟨_, congrArg Host.Outcome.next (if_pos hv), ?_, ?_⟩
    · exact congrArg Firmware.verifying (answerBlind_fw.dapFinishKey ..)
    · exact st_doFwVerifyDone f s
  case handover =>
    intro m old s t c e ha h1 hr ho hn hv room
    refine ⟨_, dapAdmitted_completes e (doFwHandover_verified ha h1 hr hn hv room), ?_⟩
    exact handedOver_fields ho h1 hn _
  case alive =>
    intro k old s hr hk ho
    exact ⟨_, congrArg Host.Outcome.next (if_pos hr), doFwAlive_trial hk ho⟩
  case timeout =>
    intro k old s hr hk ho h1 h1' hn
    exact ⟨_, congrArg Host.Outcome.next (if_pos hr), doHandoverTimeout_trial hk ho h1 h1' hn⟩

/-! ## Bring-up (R500, R524 to R533, R553, R554, R612) -/

/-- A view that shows nothing of what flash discovery leaves, and of the steps' results at most those beside FLASH (R532,
R554, R586). -/
structure DiscoveryBlind {α : Type} (p : State → α) : Prop extends ReplyBlind p where
  otherObj {index sub : Nat} (h : index ≠ 0x1041 ∨ sub = 5) (hs : sub < 256) (v : Nat) (s : State) :
    p (setObj index sub v s) = p s
  tier (s : State) (x : Tab Extent) (y : List Host.Cell) (z : List Nat) :
    p { s with extents := x, mem := y, poison := z } = p s
  mediaKey (s : State) (x : Option Nat) : p { s with mediaKey := x } = p s
  freeCtr (s : State) (x : Nat) : p { s with freeCtr := x } = p s
  selfDone (s : State) (x : NSet) : p { s with selfDone := x } = p s

namespace DiscoveryBlind

variable {α : Type} {p : State → α} (hp : DiscoveryBlind p)
include hp

theorem event {index sub : Nat} (h : index ≠ 0x1041 ∨ sub = 5) (hs : sub < 256) (cause : Nat) (s : State) :
    p (raiseEvent index sub cause s) = p s := by
  obtain ⟨v, e⟩ := hp.raiseEvent_record index sub cause s
  exact e.trans (hp.otherObj h hs ..)

theorem placePoisoned (ext : Nat) (s : State) : p (placePoisoned ext s) = p s := by
  have put (x : Tab Extent) : p (poisonExtent ext [] { s with extents := x }) = p s :=
    hp.tier s x s.mem _
  exact ite_view (put _) (ite_view ((hp.event (.inl (by decide)) (by decide) ..).trans (put _))
    ((hp.event (.inl (by decide)) (by decide) ..).trans (hp.tier s _ s.mem s.poison)))

theorem replay (far near : List Nat) (s : State) : p (replay far near s) = p s :=
  (foldl_view (fun _ _ => (hp.otherObj (.inl (by decide)) (by decide) ..).trans (hp.placePoisoned ..)) _ _).trans
    (hp.tier s _ _ _)

theorem replayMaps (s : State) : p (replayMaps s) = p s :=
  ite_view ((hp.otherObj (.inl (by decide)) (by decide) ..).trans (hp.replay ..))
    ((hp.otherObj (.inl (by decide)) (by decide) ..).trans (hp.replay ..))

theorem setFar (far readNs chamoisNs : Nat) (s : State) : p (setFar far readNs chamoisNs s) = p s := by
  have shown {index sub : Nat} (h : index ≠ 0x1041) (hs : sub < 256) := hp.otherObj (.inl h) hs (index := index)
  exact (shown (by decide) (by decide) ..).trans ((shown (by decide) (by decide) ..).trans
    ((shown (by decide) (by decide) ..).trans ((shown (by decide) (by decide) ..).trans (shown (by decide) (by decide) ..))))

theorem mediaKeyed (s : State) : p (mediaKeyed s) = p s := 
  ite_view rfl ((hp.mediaKey (drawKey s).2 _).trans (hp.freeCtr s _))

theorem discover (f : FlashFound) (s : State) : p (discover f s) = p s := by
  have sized : p (if f.farBytes / extentBytes * extentBytes = 0 then Machine.setFar 0 0 0 s
      else Machine.setFar (f.farBytes / extentBytes * extentBytes) f.farReadNs f.chamoisReadNs (Machine.mediaKeyed s)) = p s :=
    ite_view (hp.setFar ..) ((hp.setFar ..).trans (hp.mediaKeyed s))
  exact ite_view ((hp.replayMaps _).trans sized) sized

theorem noFlash (s : State) : p (noFlash s) = p s :=
  (hp.discover ..).trans ((hp.otherObj (.inr rfl) (by decide) ..).trans (hp.selfDone ..))

end DiscoveryBlind

theorem discoveryBlind_fw : DiscoveryBlind State.fw := by
  refine ⟨⟨?_, ?_, ?_⟩, ?_, ?_, ?_, ?_, ?_⟩ <;> (intros; rfl)

theorem discoveryBlind_pkg : DiscoveryBlind State.pkg := by
  refine ⟨⟨?_, ?_, ?_⟩, ?_, ?_, ?_, ?_, ?_⟩ <;> (intros; rfl)

theorem discoveryBlind_stepOutcome {k : Nat} (hk : k < 256) (h5 : k ≠ 5) : DiscoveryBlind (stepOutcome · k) := by
  refine ⟨⟨?_, ?_, ?_⟩, fun h hs v s => congrArg (bits · 31 28) (obj_setObj_of_ne s v ?_), ?_, ?_, ?_, ?_⟩
  case refine_4 => unfold okey; omega
  all_goals intros; rfl

/-- The state in which the steps begin (R524). -/
def stepsBegun (s : State) : State :=
  let s := takeAllConfig (restoreImage { s with selfDone := [] })
  let s := powerAll { s with fullTest := obj s 0x1040 3 == 1 }
  ((List.range 6).map (· + 1)).foldl (fun s k => setObj 0x1041 k (stepWord stRunning []) s) s

theorem doMgmtReady_eq (s : State) : doMgmtReady s =
    let u := enterState .selfTest (stepsBegun s)
    if obj u 0x1020 2 = 0 then noFlash u else u := rfl

theorem fw_takeConfig (die : Nat) (s : State) : (takeConfig die s).fw = s.fw := by
  unfold takeConfig
  dsimp only
  split
  · rfl
  · rfl

theorem fw_stepsBegun (s : State) : (stepsBegun s).fw = s.fw := by
  have restored (s : State) : (restoreImage s).fw = s.fw := by
    unfold restoreImage
    split
    · exact answerBlind_fw.raiseEvent ..
    · exact ite_view (p := State.fw) rfl (answerBlind_fw.raiseEvent ..)
  have configured (s : State) : (takeAllConfig s).fw = s.fw :=
    foldl_view (p := State.fw) (fun s d => by
      split
      · exact fw_takeConfig d s
      · rfl) _ _
  have powered (s : State) : (powerAll s).fw = s.fw :=
    foldl_view (p := State.fw) (fun _ _ => by split <;> rfl) _ _
  have set (l : List Nat) (s : State) : (l.foldl (fun s k => setObj 0x1041 k (stepWord stRunning []) s) s).fw = s.fw :=
    foldl_view (p := State.fw) (f := fun s k => setObj 0x1041 k (stepWord stRunning []) s) (fun _ _ => rfl) l s
  simp only [stepsBegun, set, powered, configured, restored]

/-- Each step has begun. -/
theorem stepOutcome_stepsBegun {k : Nat} (h1 : 1 ≤ k) (h6 : k ≤ 6) (s : State) : stepOutcome (stepsBegun s) k = stRunning := by
  have set (l : List Nat) (hl : ∀ j ∈ l, j < 256) (s : State)
      (h : k ∈ l ∨ obj s 0x1041 k = stepWord stRunning []) :
      obj (l.foldl (fun s k => setObj 0x1041 k (stepWord stRunning []) s) s) 0x1041 k = stepWord stRunning [] := by
    induction l generalizing s with
    | nil => exact h.resolve_left List.not_mem_nil
    | cons j l ih =>
      refine ih (fun i hi => hl i (List.mem_cons_of_mem j hi)) _ ?_
      by_cases hj : j = k
      · exact .inr (hj ▸ obj_setObj_self ..)
      · have small := hl j List.mem_cons_self
        have other : okey 0x1041 j ≠ okey 0x1041 k := by unfold okey; omega
        rw [obj_setObj_of_ne _ _ other]
        exact h.imp_left fun hk => (List.mem_cons.mp hk).resolve_left (Ne.symm hj)
  have running : bits (stepWord stRunning []) 31 28 = stRunning := by decide
  have listed : k ∈ (List.range 6).map (· + 1) := List.mem_map.mpr ⟨k - 1, List.mem_range.mpr (by omega), by omega⟩
  exact (congrArg (bits · 31 28) (set _ (by decide) _ (.inl listed))).trans running

/-- SELF_TEST is entered with the steps running, and with FLASH over on a package without flash dies. -/
theorem doMgmtReady_begins (s : State) :
    let t := doMgmtReady s
    t.pkg = .selfTest ∧ t.fw = s.fw ∧ ∀ k ∈ [1, 2, 3, 4, 6], stepOutcome t k = stRunning := by
  have kept {α : Type} {p : State → α} (hp : DiscoveryBlind p) :
      p (doMgmtReady s) = p (enterState .selfTest (stepsBegun s)) := ite_view (hp.noFlash _) rfl
  refine ⟨(kept discoveryBlind_pkg).trans (enterState_pkg ..), ?fw, fun k hk => ?steps⟩
  case fw => exact (kept discoveryBlind_fw).trans ((answerBlind_fw.raiseEvent ..).trans (fw_stepsBegun s))
  case steps =>
    obtain ⟨h1, h6, h5⟩ : 1 ≤ k ∧ k ≤ 6 ∧ k ≠ 5 := by
      simp only [List.mem_cons, List.not_mem_nil, or_false] at hk; omega
    have entered : stepOutcome (enterState .selfTest (stepsBegun s)) k = stepOutcome (stepsBegun s) k := by
      have event : obj (enterState .selfTest (stepsBegun s)) 0x1041 k
          = obj (setObj 0x1010 2 (stepsBegun s).time { stepsBegun s with pkg := .selfTest }) 0x1041 k :=
        obj_raiseEvent_of_ne (by unfold okey; omega) ..
      exact congrArg (bits · 31 28) (event.trans (obj_setObj_of_ne _ _ (by unfold okey; omega)))
    exact (kept (discoveryBlind_stepOutcome (by omega) h5)).trans (entered.trans (stepOutcome_stepsBegun h1 h6 s))

/-- What the loss of the input leaves. -/
theorem loseInput_left (s : State) :
    let t := loseInput s
    t.pkg = .off ∧ t.inputOn = false ∧ t.links = [] ∧ t.openReqs = [] ∧ t.log = s.log := by
  have released {α : Type} {p : State → α} (ho : ∀ (s : State) (x : List Out) (y : Bool),
      p { s with out := x, thermTrip := y } = p s) (u : State) : p (clearTrip u) = p u := ite_view (ho u _ _) rfl
  refine ⟨rfl, rfl, ?_, ?_, ?_⟩
  · exact released (p := State.links) (fun _ _ _ => rfl) (clearUnits custodyKey s)
  · exact released (p := State.openReqs) (fun _ _ _ => rfl) (clearUnits custodyKey s)
  · exact released (p := State.log) (fun _ _ _ => rfl) (clearUnits custodyKey s)

/-- What a step leaves on its dies, by its number. -/
theorem endStep_passed {k : Nat} {cs : List SelfCause} (hc : cs.find? (fun c => critical k c.cause) = none)
    (flash : Option FlashFound) (w : WarmCheck) (s : State) :
    let u := setObj 0x1041 k (stepWord (if cs.isEmpty then 2 else 3) cs) { s with selfDone := sadd s.selfDone k }
    endStep k cs flash w s = tryReady (
      if k = 2 then hbmTested w u else if k = 4 then tilesFound cs u
      else if k = 5 then discover (flash.getD ⟨0, 0, 0⟩) u else u) := by
  simp only [endStep, hc]
  refine congrArg tryReady ?_
  generalize setObj 0x1041 k (stepWord (if cs.isEmpty then 2 else 3) cs) { s with selfDone := sadd s.selfDone k } = u
  split
  · exact (if_pos rfl).symm
  · exact ((if_neg (by decide)).trans (if_pos rfl)).symm
  · exact ((if_neg (by decide)).trans ((if_neg (by decide)).trans (if_pos rfl))).symm
  · rename_i h2 h4 h5
    rw [if_neg h2, if_neg h4, if_neg h5]

/-- Settles O19: each event by the state of the package that it is for. That the steps all begin at the entry into SELF_TEST is the
model's choice (log entry 94), and so is that what the root of trust finds in a slot is what the slot shows (log entry 38). -/
theorem bringUpCommandsComplete : Obligations.BringUpCommandsComplete := by
  refine ⟨?stable, ?bus, ?low, ?loss, ?boot, ?ready, ?ended, ?stopped, ?late⟩
  case stable =>
    exact fun mv s hp hlo hhi => congrArg Host.Outcome.next (if_pos ⟨hp, decide_eq_true ⟨hlo, hhi⟩⟩)
  case bus => exact fun x ref s hp hi => congrArg Host.Outcome.next (if_pos ⟨hp, hi⟩)
  case low => exact fun mv s hi hm => congrArg Host.Outcome.next (if_pos ⟨hi, hm⟩)
  case loss =>
    intro mv s hm
    have bad : ¬ inputGood mv = true := by rw [inputGood, decide_eq_true_eq]; omega
    exact ⟨_, congrArg Host.Outcome.next (if_neg bad), loseInput_left s⟩
  case boot =>
    exact fun fa fb broken s hp hu hr => congrArg Host.Outcome.next (if_pos ⟨hp, hu, by rw [hr]; rfl⟩)
  case ready =>
    exact fun s hp hu hr => ⟨_, congrArg Host.Outcome.next (if_pos ⟨hp, hu, hr⟩), doMgmtReady_begins s⟩
  case ended => exact fun k cs flash w s hk hc => congrArg Host.Outcome.next ((if_pos hk).trans (endStep_passed hc flash w s))
  case stopped =>
    intro k cs c flash w s hk hc
    refine congrArg Host.Outcome.next ((if_pos hk).trans ?_)
    simp only [endStep, hc]
  case late =>
    intro k die unit s hk hc
    refine congrArg Host.Outcome.next ((if_pos hk).trans ?_)
    simp only [endStep, List.find?_cons, hc]

end Sys2Proof.Machine

/-! # Power domains and held dies -/

namespace Sys2Proof.Machine

/-! ## The power interval (R517, R518, R521) -/

theorem obj_setObj (index sub v index' sub' : Nat) (s : State) : obj (setObj index sub v s) index' sub' =
    if okey index sub = okey index' sub' then v else obj s index' sub' := by
  split
  · rename_i h
    rw [obj, setObj, ← h, tget_tset_self]
  · exact obj_setObj_of_ne s v ‹_›

/-- The measurements of an interval (R521, R523), and the throttle level that follows. -/
def measured (p ma mv tempDc tempDie level : Nat) (s : State) : State :=
  let s := setObj 0x2000 6 level (setObj 0x2000 5 (s.burstUj / 1000) (setObj 0x2000 3 p (setObj 0x2000 2 ma
    (setObj 0x2000 1 mv s))))
  let s := setObj 0x2002 2 tempDie (setObj 0x2002 1 tempDc s)
  let s := setReg 0x1F 0x2008 (mv / 10 % 65536 + ma / 10 % 65536 * 65536) s
  setReg 0x1F 0x200C (level + b2n (s.burstUj == 0) * 16 + p % 65536 * 65536) s

/-- The burst store after an interval, and the time that the throttle has acted. -/
def metered (p : Nat) (s : State) : State :=
  let u := { s with burstUj := burstNext s.burstUj p (obj s 0x2000 4) }
  (drawFree (if obj s 0x2000 6 = 0 then u else bump 0x2000 7 10 u)).2

/-- What is open about the next level. -/
def levelDraw (p : Nat) (s : State) : Nat :=
  let u := { s with burstUj := burstNext s.burstUj p (obj s 0x2000 4) }
  (drawFree (if obj s 0x2000 6 = 0 then u else bump 0x2000 7 10 u)).1

theorem doInterval_eq (p ma mv tempDc tempDie : Nat) (s : State) : doInterval p ma mv tempDc tempDie s =
    let level := throttleNext (throttleActs (metered p s) p ma tempDc) (obj s 0x2000 6) (levelDraw p s)
    let u := measured p ma mv tempDc tempDie level (metered p s)
    if obj s 0x2000 6 = 0 ∧ level ≠ 0 then raiseEvent 0x2000 8 2 u else u := rfl

/-- The store after an interval is what the power and the limit give. -/
theorem metered_burstUj (p : Nat) (s : State) : (metered p s).burstUj = burstNext s.burstUj p (obj s 0x2000 4) := by
  unfold metered
  dsimp only
  split
  · rfl
  · rfl

theorem obj_metered {index sub : Nat} (h : okey 0x2000 7 ≠ okey index sub) (p : Nat) (s : State) :
    obj (metered p s) index sub = obj s index sub := by
  unfold metered
  dsimp only
  split
  · rfl
  · exact obj_setObj_of_ne _ _ h

theorem throttleActs_metered (p ma tempDc : Nat) (s : State) : throttleActs (metered p s) p ma tempDc =
    throttleActs { s with burstUj := burstNext s.burstUj p (obj s 0x2000 4) } p ma tempDc := by
  rw [throttleActs, metered_burstUj, obj_metered (by decide), obj_metered (by decide)]
  rfl

/-- The level steps up while the throttle acts. -/
theorem throttleNext_acting (n f : Nat) : throttleNext true n f = min 15 (n + 1) := rfl

/-- Otherwise it falls by at most one. -/
theorem throttleNext_resting (n f : Nat) : n - 1 ≤ throttleNext false n f ∧ throttleNext false n f ≤ n := by
  have drawn : throttleNext false n f = n - f % 2 := rfl
  omega

/-- The objects of a measurement. -/
theorem measured_shows (p ma mv tempDc tempDie level : Nat) (s : State) :
    let t := measured p ma mv tempDc tempDie level s
    t.burstUj = s.burstUj ∧ obj t 0x2000 1 = mv ∧ obj t 0x2000 2 = ma ∧ obj t 0x2000 3 = p ∧
      obj t 0x2000 5 = s.burstUj / 1000 ∧ obj t 0x2002 1 = tempDc ∧ obj t 0x2002 2 = tempDie ∧ obj t 0x2000 6 = level := by
  have registers (die a v : Nat) (u : State) (index sub : Nat) : obj (setReg die a v u) index sub = obj u index sub := rfl
  have store (index sub v : Nat) (u : State) : (setObj index sub v u).burstUj = u.burstUj := rfl
  have power (die a v : Nat) (u : State) : (setReg die a v u).burstUj = u.burstUj := rfl
  simp only [measured, registers, store, power, obj_setObj, okey, Nat.reduceMul, Nat.reduceAdd, Nat.reduceEqDiff, if_true, if_false,
    and_self]

/-- What an interval shows: the store, the measurements and the level. -/
theorem doInterval_shows (p ma mv tempDc tempDie : Nat) (s : State) :
    let t := doInterval p ma mv tempDc tempDie s
    t.burstUj = burstNext s.burstUj p (obj s 0x2000 4) ∧ obj t 0x2000 1 = mv ∧ obj t 0x2000 2 = ma ∧ obj t 0x2000 3 = p ∧
      obj t 0x2000 5 = t.burstUj / 1000 ∧ obj t 0x2002 1 = tempDc ∧ obj t 0x2002 2 = tempDie ∧
      obj t 0x2000 6 = throttleNext (throttleActs { s with burstUj := t.burstUj } p ma tempDc) (obj s 0x2000 6)
        (levelDraw p s) := by
  have power : AnswerBlind State.burstUj := by
    refine ⟨⟨?_, ?_, ?_⟩, ?_⟩ <;> (intros; rfl)
  rw [doInterval_eq, throttleActs_metered]
  dsimp only
  generalize hl : throttleNext (throttleActs { s with burstUj := burstNext s.burstUj p (obj s 0x2000 4) } p ma tempDc)
    (obj s 0x2000 6) (levelDraw p s) = level
  obtain ⟨store, voltage, current, watts, burst, celsius, die, stepped⟩ :=
    measured_shows p ma mv tempDc tempDie level (metered p s)
  rw [metered_burstUj] at store burst
  generalize measured p ma mv tempDc tempDie level (metered p s) = u at *
  have kept : (if obj s 0x2000 6 = 0 ∧ level ≠ 0 then raiseEvent 0x2000 8 2 u else u).burstUj = u.burstUj :=
    ite_view (p := State.burstUj) (power.raiseEvent ..) rfl
  have shown {index sub : Nat} (h : okey 0x2000 8 ≠ okey index sub) :
      obj (if obj s 0x2000 6 = 0 ∧ level ≠ 0 then raiseEvent 0x2000 8 2 u else u) index sub = obj u index sub :=
    ite_view (p := (obj · index sub)) (obj_raiseEvent_of_ne h ..) rfl
  rw [kept, shown (by decide), shown (by decide), shown (by decide), shown (by decide), shown (by decide),
    shown (by decide), shown (by decide), store, hl]
  exact ⟨rfl, voltage, current, watts, burst, celsius, die, stepped⟩

/-! ## Sleep and waking (R504 to R511, R557, R560) -/

/-- A request raises the wake of a domain that sleeps and is neither held nor waking. -/
theorem wake_asleep {d : Nat} {s : State} (h2 : 2 ≤ (dom s d).st) (hh : (dom s d).held = false)
    (hw : (dom s d).waking = false) :
    wake d s = setDom d (fun x => { x with wakeReq := true, waking := true, wakeAt := s.time }) s := by
  have asleep : ¬ (dom s d).st ≤ 1 := by omega
  rw [wake, if_neg asleep]
  simp only [setDom, hh, hw, Bool.or_self, Bool.not_false, Bool.or_true, Bool.false_eq_true, if_false]

/-- Settles O24: each event by its guard. By how much the throttle level falls is open (log entry 39). -/
theorem powerCommandsComplete : Obligations.PowerCommandsComplete := by
  refine ⟨?interval, ?idle, ?active, ?retain, ?off, ?wake, ?woken, ?checked, ?failed, ?retried⟩
  case interval =>
    intro p ma mv tempDc tempDie s h0
    obtain ⟨store, voltage, current, power, burst, celsius, die, level⟩ := doInterval_shows p ma mv tempDc tempDie s
    refine ⟨_, congrArg Host.Outcome.next (if_neg h0), store, voltage, current, power, burst, celsius, die,
      fun acts => ?_, fun rests => ?_⟩
    · rw [level, acts]; exact throttleNext_acting ..
    · rw [level, rests]; exact throttleNext_resting ..
  case idle => exact fun d s hm h0 hf => congrArg Host.Outcome.next (if_pos ⟨hm, h0, hf⟩)
  case active => exact fun d s h1 => congrArg Host.Outcome.next (if_pos h1)
  case retain => exact fun d s hm h1 hf hr => congrArg Host.Outcome.next (if_pos ⟨hm, h1, hf, hr⟩)
  case off =>
    exact fun d s hm h2 hw hf hr => congrArg Host.Outcome.next (if_pos ⟨hm, h2, by rw [hw]; rfl, hf, hr⟩)
  case wake =>
    exact fun d s hm h2 hh hw => congrArg Host.Outcome.next ((if_pos hm).trans (wake_asleep h2 hh hw))
  case woken => exact fun d s hc => congrArg Host.Outcome.next (if_pos hc)
  case checked =>
    intro d s hc hg
    refine congrArg Host.Outcome.next (if_pos ⟨hc, ?_⟩)
    obtain h | h | h := hg
    · exact .inl (by rw [h]; rfl)
    · exact .inr (.inl h)
    · exact .inr (.inr (by rw [decide_eq_false h]; rfl))
  case failed => exact fun d s hw hf => congrArg Host.Outcome.next (if_pos ⟨hw, by rw [hf]; rfl⟩)
  case retried => exact fun d s hw hf => congrArg Host.Outcome.next (if_pos ⟨hw, hf⟩)

/-! ## Held dies and floors (R512, R522, R557, R559) -/

section
variable {die : Nat} {s : State} (h0 : s.pkg ≠ .off) (hb : bit (obj s 0xA020 1) die = false) (hp : diePresent s die = true)
include h0 hb hp

theorem dieFault_home (h8 : die < 8) : dieFault die s =
    if 2 ≤ (dom s (homeDom die)).st then holdDie die s else standing runtime 4 0 die s := by
  simp only [dieFault, h0, hb, hp, h8, Bool.not_true, Bool.false_eq_true, or_self, if_false, if_true]

theorem dieFault_fabric (h8 : 8 ≤ die) (h16 : die < 16) : dieFault die s = holdDie die (railsOff (fabricDom (die - 8))
    (dropAccesses die ((List.range 16).foldl (fun s k => evictCluster (16 * (die - 8) + k) s) s))) := by
  simp only [dieFault, h0, hb, hp, Nat.not_lt.mpr h8, h16, Bool.not_true, Bool.false_eq_true, or_self, if_false, if_true]

theorem dieFault_io (hd : die = 0x18 ∨ die = 0x19) : dieFault die s = holdDie die ((heldDoms die).foldl
    (fun s d => railsOff d s) ((s.links.filter (fun e => (heldDoms die).contains (quadDom e.1) && e.2.st != .down)).foldl
      (fun s e => dropLink e.1 s) s)) := by
  have h8 : ¬ die < 8 := by omega
  have h16 : ¬ die < 16 := by omega
  simp only [dieFault, h0, hb, hp, h8, h16, hd, Bool.not_true, Bool.false_eq_true, or_self, if_false, if_true]

theorem dieFault_flash (hlo : 0x1A ≤ die) (hhi : die ≤ 0x1D) (hs : staging s = 0) :
    dieFault die s = holdDie die (railsOff (flashDom (die - 0x1A)) (stopMoves s)) := by
  have h8 : ¬ die < 8 := by omega
  have h16 : ¬ die < 16 := by omega
  have io : ¬ (die = 0x18 ∨ die = 0x19) := by omega
  simp only [dieFault, h0, hb, hp, h8, h16, io, hlo, hhi, hs, Bool.not_true, Bool.false_eq_true, or_self, and_self, ne_eq,
    not_true_eq_false, if_false, if_true]

end

section
variable {c : Ctx} {s : State}

theorem doDieRetest_held (hv : c.value ≤ 31) (hb : bit (obj s 0xA020 1) c.value = true) (hr : s.retest = none) :
    doDieRetest c s = applied c (fun s => { s with retest := some c.value }) s := by
  simp only [doDieRetest, Nat.not_lt.mpr hv, hb, hr, Bool.not_true, Bool.false_eq_true, or_self, Option.isSome_none, if_false]

theorem doFloor_possible (hv : c.value ≤ deepest (c.index - 0x2100)) (hp : domPresent s (c.index - 0x2100) = true) :
    doFloor c s = applied c (fun s => raiseTo (c.index - 0x2100) (setObj c.index 2 c.value s)) s := by
  simp only [doFloor, Nat.not_lt.mpr hv, hp, Bool.not_true, Bool.false_eq_true, or_self, if_false]

end

/-- Settles O25: each fault by its die, each write by what it finds. That held_ready_mask is taken at its acceptance is the model's
choice (log entry 103). -/
theorem heldDiesAndFloorsComplete : Obligations.HeldDiesAndFloorsComplete := by
  refine ⟨?fault, ?retest, ?retested, ?mask, ?floor⟩
  case fault =>
    intro die s h0 hb hp
    have settled {u : State} (h : dieFault die s = u) : exec (.dieFault die) s = .next (settleCommit u) :=
      congrArg (fun u => Host.Outcome.next (settleCommit u)) h
    refine ⟨fun h8 h2 => settled ((dieFault_home h0 hb hp h8).trans (if_pos h2)),
      fun h8 h1 => settled ((dieFault_home h0 hb hp h8).trans (if_neg (by omega))),
      fun h8 h16 => settled (dieFault_fabric h0 hb hp h8 h16), fun hd => settled (dieFault_io h0 hb hp hd),
      fun hlo hhi hs => settled (dieFault_flash h0 hb hp hlo hhi hs)⟩
  case retest =>
    exact fun m s t c e hv hb hr room => dapAdmitted_completes e
      ((doDieRetest_held hv hb hr).trans (applied_guarded _ (dapAdmitted_op e) room))
  case retested =>
    intro die causes nand lines s hr
    change Host.Outcome.next (match s.retest with
      | some die => doRetestDone causes nand lines die s
      | none => s) = _
    rw [hr]
    rfl
  case mask =>
    exact fun m s t c e hn => dapAdmitted_completes e (if_neg (Bool.eq_false_iff.mp hn))
  case floor =>
    intro m s t c hlo hhi e hv hp
    obtain ⟨-, -, -, named, -⟩ := dapAdmitted_ctx e
    have named : c.index = m.index := named
    change Host.Outcome.next (dapServe dapWrite (toObj m (if 0x2100 ≤ m.index ∧ m.index ≤ 0x211B then m.index else 0x2100) 2)
      doFloor s) = _
    rw [if_pos ⟨hlo, hhi⟩]
    rw [← named] at hv hp e ⊢
    exact dapAdmitted_completes e
      ((doFloor_possible hv hp).trans (applied_unguarded _ (dapAdmitted_unguarded e (by decide))))

end Sys2Proof.Machine

/-! # Domain changes -/

namespace Sys2Proof.Machine

/-! ## Changes at the master (R569, R572 to R575) -/

section
variable {c : Ctx} {s : State} (ha : c.actor = 2) (h1 : bits c.value 255 44 = 0) (h2 : bits c.value 31 19 = 0)
  (h3 : bits c.value 15 8 = 0) (hf : formed s = true) (hm : isMaster s = true)
  (hl : bits c.value 18 16 < obj s 0x6010 2) (hc : s.change = none)
include ha h1 h2 h3 hf hm hl hc

/-- A change in form is taken by its operation and by what it finds at its place. -/
theorem doDomainChange_taken (ready empty : Bool) :
    let f := Config.free s.freeCtr
    let u : State := { s with freeCtr := s.freeCtr + 1 }
    let m := bits c.value 18 16
    let p := bits c.value 43 32
    let listed := obj s 0x6011 (m + 1)
    let draining := if m = obj s 0x6010 3 then decide (s.pkg = .draining) else f % 2 == 1
    doDomainChange ready empty c s =
      if bits c.value 7 0 = 1 then
        if listed = vacantMember ∧ ready then finOk c (startRebuild m vacantMember p u) else finBad c u
      else if bits c.value 7 0 = 2 then
        if listed ≠ vacantMember ∧ draining ∧ ready then
          let v := drawFree (sendEntries m p u)
          let left := if m = obj v.2 0x6010 3 then v.2.extents.length * extentBytes else v.1 % 2 ^ 64
          finOk c (setObj 0xA050 4 left { v.2 with change := some ⟨2, m, p⟩ })
        else finBad c u
      else if bits c.value 7 0 = 3 then
        if listed ≠ vacantMember ∧ draining ∧ empty then
          let v := emit (.member listed 3 0 0) (nextGeneration (setMember m vacantMember u))
          finOk c (if m = obj v 0x6010 3 then setObj 0x6010 7 0 v else v)
        else finBad c u
      else finBad c u := by
  have inForm : ¬ (c.actor ≠ 2 ∨ bits c.value 255 44 ≠ 0 ∨ bits c.value 31 19 ≠ 0 ∨ bits c.value 15 8 ≠ 0 ∨
      (!formed s) = true ∨ (!isMaster s) = true ∨ obj s 0x6010 2 ≤ bits c.value 18 16) := by
    rw [ha, h1, h2, h3, hf, hm]
    simpa using hl
  have idle : ¬ (s.change.isSome = true) := by rw [hc]; decide
  exact (if_neg inForm).trans (if_neg idle)

end

/-- Filling what is left unrebuilt starts and ends no change of the domain. -/
theorem change_fillRest (s : State) : (fillRest s).change = s.change := by
  have filled : Keeps ⟨true, false, true, true, true, true⟩ s ((s.unrebuilt.map (·.1)).foldl (fun s e =>
      (List.range 32768).foldl (fun s i => rebuildLine (32768 * e + i) s) s) s) :=
    keeps_foldl _ (fun w e hw => keeps_foldl _ (fun w i => keeps_rebuildLine (32768 * e + i) w) _ w hw) _ s (.refl s)
  obtain ⟨-, -, -, -, -, -, -, -, -, change, -⟩ := filled.custody rfl
  exact ite_view (p := State.change) rfl change

theorem doRebuildDone_master {m p : Nat} {s : State} (hc : s.change = some ⟨1, m, p⟩) (hu : s.unrebuilt = []) :
    doRebuildDone s = raiseEvent 0xA060 2 5 (setObj 0xA050 4 0 { s with
      change := none
      placed := s.placed.map (fun e => (e.1, if tiedTo p e.2 then { e.2 with degraded := false } else e.2)) }) := by
  have none_left : fillRest s = s := if_pos (by rw [hu]; rfl)
  rw [doRebuildDone, none_left]
  simp only [hc, if_true]

theorem doRebuildDone_filled {s : State} (hc : s.change = none) (hu : s.unrebuilt ≠ []) : doRebuildDone s =
    let u := (s.unrebuilt.map (·.1)).foldl (fun s e =>
      (List.range 32768).foldl (fun s i => rebuildLine (32768 * e + i) s) s) s
    { u with unrebuilt := [], placed := u.placed.map (fun e => (e.1, { e.2 with degraded := false })) } := by
  have unchanged : (fillRest s).change = none := (change_fillRest s).trans hc
  have some_left : ¬ s.unrebuilt.isEmpty = true := by rwa [List.isEmpty_iff]
  simp only [doRebuildDone, unchanged]
  exact if_neg some_left

theorem doReplaceCommit_master {m p : Nat} {s : State} (hc : s.change = some ⟨2, m, p⟩) (hm : m ≠ obj s 0x6010 3) :
    doReplaceCommit s = raiseEvent 0xA060 2 6 (setObj 0xA050 4 0 (nextGeneration
      (emit (.member p 12 0 m) (sendObjects p (setMember m p { s with change := none }))))) := by
  simp only [doReplaceCommit, hc, hm, if_true, if_false]

theorem doReplaceCommit_replaced {s : State} (hc : s.change = none) (hp : s.pkg = .draining) (hf : obj s 0x6010 7 = 2)
    (hm : isMaster s = false) :
    doReplaceCommit s = beReplaced (Config.free s.freeCtr % 4096) { s with freeCtr := s.freeCtr + 1 } := by
  have replaced : s.pkg = .draining ∧ obj s 0x6010 7 = 2 ∧ (!isMaster s) = true := ⟨hp, hf, by rw [hm]; rfl⟩
  unfold doReplaceCommit
  split
  · rename_i x h
    exact absurd (h.symm.trans hc) (Option.some_ne_none x)
  · exact if_pos replaced

/-! ## Votes (R564 to R567) -/

/-- A vote in form is answered by its signature, by what is held and by the quorum. -/
theorem doExpelVote_inForm {c : Ctx} {s : State} (ha : c.actor = 2) (hv : voteForm c.value = true)
    (ht : voteTargetOk s (voteTarget c.value) = true) :
    let x := (voteTarget c.value, voteManager c.value)
    let u := finOk c (countVotes { s with votes := s.votes ++ [x] })
    doExpelVote c s =
      if voteVerifies s c.value = false then fin c .checkFail 0 (bump 0xA041 3 1 s)
      else if s.votes.contains x then finOk c s
      else if (u.votes.filter (fun y => y.1 == x.1)).length = quorum u then expel x.1 u
      else u := by
  simp only [doExpelVote, ha, hv, ht, ne_eq, not_true_eq_false, Bool.not_true, Bool.false_eq_true, or_self, if_false,
    Bool.not_eq_true', voteRefused]

/-- Settles O43: each change by what the master finds. A commit that copies at once, the generation's counts, what is open about a
draining member, the value of a vacant place and the messages' codes are the model's choice (log entries 66, 42, 43, 44 and 33). -/
theorem domainChangesComplete : Obligations.DomainChangesComplete := by
  refine ⟨fun member s hm h0 hl => congrArg Host.Outcome.next (if_pos ⟨hm, h0, hl⟩), ?change,
    fun m p s hc hu => congrArg Host.Outcome.next (doRebuildDone_master hc hu),
    fun s hc hu => congrArg Host.Outcome.next (doRebuildDone_filled hc hu),
    fun m p s hc hm => congrArg Host.Outcome.next (doReplaceCommit_master hc hm),
    fun s hc hp hf hm => congrArg Host.Outcome.next (doReplaceCommit_replaced hc hp hf hm),
    fun m s t c e ha hv ht => dapAdmitted_completes e (doExpelVote_inForm ha hv ht)⟩
  case change =>
    intro d s t c e f u m p listed draining ha h1 h2 h3 hf hm hl hc
    have taken := doDomainChange_taken ha h1 h2 h3 hf hm hl hc
    refine ⟨fun op hv => ?rebuild, fun op hv hd => ?replace, fun op hv hd => ?leave⟩
    case rebuild =>
      exact dapAdmitted_completes e ((taken true false).trans ((if_pos op).trans (if_pos ⟨hv, rfl⟩)))
    case replace =>
      have op1 : bits c.value 7 0 ≠ 1 := by rw [op]; decide
      exact dapAdmitted_completes e
        ((taken true false).trans ((if_neg op1).trans ((if_pos op).trans (if_pos ⟨hv, hd, rfl⟩))))
    case leave =>
      have op1 : bits c.value 7 0 ≠ 1 := by rw [op]; decide
      have op2 : bits c.value 7 0 ≠ 2 := by rw [op]; decide
      exact dapAdmitted_completes e
        ((taken false true).trans ((if_neg op1).trans ((if_neg op2).trans ((if_pos op).trans (if_pos ⟨hv, hd, rfl⟩)))))

end Sys2Proof.Machine

/-! # Frames of narrow commands -/

namespace Sys2Proof.Machine

/-! ## What a request of the dictionary can change (R456 to R470) -/

/-- A view that shows nothing of what serving a request of the dictionary writes beside its act. -/
structure DictionaryBlind {α : Type} (p : State → α) : Prop extends AnswerBlind p where
  doms (s : State) (x : Tab Domain) : p { s with doms := x } = p s

namespace ReplyBlind

variable {α : Type} {p : State → α} (hp : ReplyBlind p)
include hp

theorem dapEcho (r : DapReply) (s : State) :
    p (dapEcho r s) = p s := by
  unfold Machine.dapEcho
  split
  · exact hp.emit ..
  · exact (hp.emit ..).trans (hp.dict ..)

theorem fin (c : Ctx) (st : Status) (hint : Nat) (s : State) :
    p (fin c st hint s) = p s := hp.dapFinish ..

theorem finBad (c : Ctx) (s : State) : p (finBad c s) = p s :=
  hp.dapFinish ..

theorem setStage (q : Port) (id : Nat)
    (x : Option (Nat × Nat × Nat × Nat)) (s : State) : p (setStage q id x s) = p s := by
  unfold Machine.setStage
  split
  · exact hp.setSession ..
  · rfl

end ReplyBlind

namespace DictionaryBlind

variable {α : Type} {p : State → α} (hp : DictionaryBlind p)
include hp

theorem setDom (d : Nat) (f : Domain → Domain) (s : State) : p (setDom d f s) = p s := hp.doms ..

theorem wake (d : Nat) (s : State) : p (wake d s) = p s := ite_view rfl (hp.setDom ..)

theorem guardFailed (c : Ctx) (s : State) : p (guardFailed c s) = p s :=
  (hp.fin ..).trans ((hp.raiseEvent ..).trans ((hp.bump ..).trans (hp.setStage ..)))

theorem dapRefuseSeq (m : DapMsg) (last : Nat) (s : State) : p (dapRefuseSeq m last s) = p s :=
  (hp.dapEcho ..).trans (hp.bump ..)

section
variable {act : Ctx → State → State} (hact : ∀ c s, p (act c s) = p s)
include hact

theorem readValue (m : DapMsg) (c : Ctx) (r : ObjRow) (s : State) : p (readValue m c r act s) = p s :=
  ite_view (hp.finBad ..) (hact ..)

theorem writeValue (op : Nat) (m : DapMsg) (c : Ctx) (r : ObjRow) (s : State) : p (writeValue op m c r act s) = p s :=
  ite_view (hp.finBad ..) <| ite_view (hp.fin ..) <| ite_view (hp.finOk ..) <| ite_view (hp.finBad ..) <|
    ite_view (hp.fin ..) <| ite_view (hp.guardFailed ..) <| ite_view (hp.finBad ..) (hact ..)

theorem writeSegment (op : Nat) (m : DapMsg) (c : Ctx) (r : ObjRow) (s : State) : p (writeSegment op m c r act s) = p s := by
  have dropped : p (Machine.setStage c.port c.id none s) = p s := hp.setStage ..
  refine ite_view ((hp.fin ..).trans dropped) <| ite_view ((hp.finOk ..).trans dropped) <|
    ite_view ((hp.finBad ..).trans dropped) <| ite_view ((hp.fin ..).trans dropped) <| ite_view (hp.guardFailed ..) ?_
  dsimp only
  split
  · exact (hp.finBad ..).trans dropped
  · exact ite_view ((hp.fin ..).trans dropped) <| ite_view ((hact ..).trans dropped)
      ((hp.fin ..).trans (hp.setStage ..))

theorem dapSteps (op : Nat) (m : DapMsg) (k : SessKind) (s : State) : p (dapSteps op m k act s) = p s := by
  have present (c : Ctx) (s : State) : p (if absentObject s c.index c.sub then Machine.finBad c s else act c s) = p s :=
    ite_view (hp.finBad ..) (hact ..)
  refine ite_view ((hp.finBad ..).trans (hp.bump ..)) <| ite_view ((hp.fin ..).trans (hp.bump ..)) ?_
  split
  · exact hp.finBad ..
  · refine ite_view (hp.fin ..) <| ite_view (hp.finBad ..) ?_
    split
    · refine (hp.fin ..).trans ?_
      split
      · exact hp.wake ..
      · rfl
    · exact ite_view (hp.readValue hact ..) <| ite_view (hact ..) <|
        ite_view (hp.writeSegment present ..) (hp.writeValue present ..)

/-- A request changes what its act changes, and otherwise the dictionary's own alone. -/
theorem dapServe (op : Nat) (m : DapMsg) (s : State) : p (dapServe op m act s) = p s := by
  refine ite_view rfl <| ite_view (hp.dapEcho ..) ?_
  split
  · exact hp.dapRefuseSeq ..
  · refine ite_view (hp.dapRefuseSeq ..) <| ite_view ?_ <|
      ite_view ((hp.dapSteps hact ..).trans (hp.setSession ..)) (hp.dapRefuseSeq ..)
    split
    · exact hp.dapEcho ..
    · exact hp.dapEcho ..
    · exact hp.dapRefuseSeq ..

end

end DictionaryBlind


/-! ## Writes that clear counters or take a key -/

/-- A view that shows nothing of what a write of the dictionary with its custody entries writes. -/
structure KeyBlind {α : Type} (p : State → α) : Prop extends DictionaryBlind p, RecordBlind p where
  keyStates (s : State) (x : Tab Nat) : p { s with keyStates := x } = p s
  tenantKeys (s : State) (x y : Tab Nat) : p { s with tenantKeys := x, keyGens := y } = p s
  freeCtr (s : State) (x : Nat) : p { s with freeCtr := x } = p s

namespace KeyBlind

variable {α : Type} {p : State → α} (hp : KeyBlind p)
include hp

theorem applied {f : State → State} (hf : ∀ s, p (f s) = p s) (c : Ctx) (s : State) : p (applied c f s) = p s :=
  ite_view (ite_view ((hp.finOk ..).trans ((hp.guardedEntry ..).trans (hf s))) (hp.fin ..)) ((hp.finOk ..).trans (hf s))

theorem appliedWith {f : State → State} (hf : ∀ s, p (f s) = p s) (c : Ctx) (ty : Nat) (s : State) :
    p (appliedWith c ty f s) = p s :=
  ite_view ((hp.finOk ..).trans (hf s)) (hp.fin ..)

theorem clearObjs (index : Nat) (subs : List Nat) (s : State) : p (clearObjs index subs s) = p s :=
  foldl_view (fun _ _ => hp.setObj ..) _ _

theorem clearing {f : State → State} (hf : ∀ s, p (f s) = p s) (c : Ctx) (s : State) : p (clearing c f s) = p s :=
  ite_view (hp.applied hf c s) (hp.finBad ..)

theorem clearObj {f : State → State} (hf : ∀ s, p (f s) = p s) (d : DapMsg) (index sub : Nat) (s : State) :
    p (clearObj d index sub f s) = p s :=
  hp.dapServe (fun c s => hp.clearing hf c s) _ _ _

theorem logKey (c : Ctx) (slot : Nat) (s : State) : p (logKey c slot s) = p s := hp.appendLog ..

theorem setKey (t st : Nat) (s : State) : p (setKey t st s) = p s := (hp.setObj ..).trans (hp.keyStates ..)

theorem doOwnerKey (c : Ctx) (s : State) : p (doOwnerKey c s) = p s := by
  refine ite_view (hp.finBad ..) <| ite_view (ite_view (hp.finBad ..) (hp.appliedWith (fun s => ?_) ..)) <|
    ite_view (hp.finBad ..) (hp.appliedWith (fun s => ?_) ..)
  · exact (hp.logKey ..).trans (hp.setObj ..)
  · exact (hp.logKey ..).trans ((hp.setObj ..).trans (hp.setObj ..))

theorem doFmKey (c : Ctx) (s : State) : p (doFmKey c s) = p s :=
  ite_view (ite_view (hp.applied (fun _ => hp.setObj ..) ..) (hp.finBad ..))
    (hp.appliedWith (fun _ => (hp.logKey ..).trans (hp.setObj ..)) ..)

theorem doKeyCommand (c : Ctx) (s : State) : p (doKeyCommand c s) = p s := by
  refine ite_view (hp.finBad ..) <| ite_view (hp.fin ..) <| ite_view ?create ?destroy
  case create =>
    refine ite_view (hp.finBad ..) <| ite_view (hp.fin ..) (hp.applied (fun s => ?_) ..)
    exact (hp.appendLog ..).trans ((hp.setKey ..).trans
      ((hp.tenantKeys (drawKey s).2 _ _).trans (hp.freeCtr s _)))
  case destroy =>
    exact ite_view (hp.finBad ..) <| ite_view (hp.fin ..)
      (hp.applied (fun s => (hp.appendLog ..).trans ((hp.setKey ..).trans (hp.tenantKeys s _ s.keyGens))) ..)

theorem doTrustMode (c : Ctx) (s : State) : p (doTrustMode c s) = p s := by
  have set (s : State) : p (if obj s 0x7020 3 = c.value then s
      else appendLog 0x22 c.actor c.tenant c.value (Machine.setObj 0x7020 3 c.value s)) = p s :=
    ite_view rfl ((hp.appendLog ..).trans (hp.setObj ..))
  exact ite_view (hp.finBad ..) <| ite_view (hp.applied set ..) <| ite_view (hp.finBad ..) <|
    ite_view (hp.fin ..) (hp.applied set ..)

end KeyBlind

/-- What a command leaves is what it has computed. -/
theorem view_of_next {α : Type} {p : State → α} {s t u : State} (h : p u = p s)
    (e : (Host.Outcome.next u : Host.Outcome State Fault Refusal) = .next t) : p t = p s := by
  cases e
  exact h

theorem dictionaryRow_view {α : Type} {p : State → α} (hp : KeyBlind p) {c : Instr} {s t : State}
    (h : dictionaryRow c = true) (e : exec c s = .next t) : p t = p s := by
  have cleared {d : DapMsg} {index sub : Nat} {f : State → State} (hf : ∀ s, p (f s) = p s)
      (e : (Host.Outcome.next (clearObj d index sub f s) : Host.Outcome State Fault Refusal) = .next t) : p t = p s :=
    view_of_next (hp.clearObj hf ..) e
  have served {op : Nat} {m : DapMsg} {act : Ctx → State → State} (hact : ∀ c s, p (act c s) = p s)
      (e : (Host.Outcome.next (dapServe op m act s) : Host.Outcome State Fault Refusal) = .next t) : p t = p s :=
    view_of_next (hp.dapServe hact ..) e
  have counters (index : Nat) (subs : List Nat) (s : State) : p (clearObjs index subs s) = p s := hp.clearObjs ..
  cases c with
  | arithCountersClear | attnCountersClear | tierCountersClear | streamCountersClear | oryxCountersClear
  | tableCountersClear | searchCountersClear | xltCountersClear | syncCountersClear | dictCountersClear
  | regCountersClear => exact cleared (counters _ _) e
  | ethCountersClear => exact cleared (fun s => (hp.setObj ..).trans (counters _ _ s)) e
  | masterConfirmWrite => exact served (fun c s => ite_view (hp.finBad ..) (hp.applied (fun _ => hp.setObj ..) ..)) e
  | packageNumberWrite =>
    exact served (fun c s => ite_view (hp.fin ..) <| ite_view (hp.finBad ..) (hp.applied (fun _ => hp.setObj ..) ..)) e
  | rawDieWrite | rawOffsetWrite =>
    exact served (fun c s => ite_view (hp.finBad ..) (hp.applied (fun _ => hp.setObj ..) ..)) e
  | ownerKeyEnrol | ownerKeyRevoke => exact served hp.doOwnerKey e
  | fmKeyWrite => exact served hp.doFmKey e
  | logCheckpoint =>
    exact served (fun c s => ite_view (hp.finBad ..) <| ite_view (hp.fin ..) (hp.applied hp.checkpoint ..)) e
  | trustModeWrite => exact served hp.doTrustMode e
  | keyCreate | keyDestroy => exact served hp.doKeyCommand e
  | saveComplete =>
    refine view_of_next ?_ e
    split
    · exact (hp.dapFinishKey ..).trans ((hp.appendLog ..).trans ((hp.dict ..).trans (hp.dict ..)))
    · rfl
  | conditionReportSign =>
    exact view_of_next (ite_view ((hp.setObj ..).trans ((hp.appendLog ..).trans (hp.setObj ..))) rfl) e
  | meterSnapshot => exact view_of_next (ite_view rfl (hp.appendLog ..)) e
  | _ => cases h

/-! ## Answers, sessions and links -/

/-- A view that shows nothing of what leaves, nor of what is drawn. -/
structure SendBlind {α : Type} (p : State → α) : Prop where
  out (s : State) (x : List Out) : p { s with out := x } = p s
  freeCtr (s : State) (x : Nat) : p { s with freeCtr := x } = p s

section
variable {α : Type} {p : State → α} (ho : ∀ (s : State) (x : List Out), p { s with out := x } = p s)
include ho

theorem spdmSend_view (m : SpdmMsg) (session code bytes payload : Nat) (s : State) :
    p (spdmSend m session code bytes payload s) = p s := ho ..

theorem atStage_view {f : State → State} (hf : ∀ s, p (f s) = p s) (n : Nat) (m : SpdmMsg) (s : State) :
    p (atStage n m f s) = p s :=
  ite_view rfl <| ite_view (spdmSend_view ho ..) (hf s)

theorem inSession_view {f : SpdmSession → State → State} (hf : ∀ x s, p (f x s) = p s) (m : SpdmMsg) (s : State) :
    p (inSession m f s) = p s := by
  refine ite_view rfl ?_
  split
  · exact ite_view (hf ..) (spdmSend_view ho ..)
  · exact spdmSend_view ho ..

theorem inEstablished_view {f : SpdmSession → State → State} (hf : ∀ x s, p (f x s) = p s) (m : SpdmMsg) (s : State) :
    p (inEstablished m f s) = p s :=
  inSession_view ho (fun x s => ite_view (hf x s) (spdmSend_view ho ..)) m s

end

theorem SendBlind.spdmSigned {α : Type} {p : State → α} (hp : SendBlind p) (m : SpdmMsg) (code bytes payload : Nat)
    (s : State) : p (spdmSigned m code bytes payload s) = p s :=
  (hp.out ..).trans (hp.freeCtr ..)

theorem answerRow_view {α : Type} {p : State → α} (hp : SendBlind p) {c : Instr} {s t : State}
    (h : answerRow c = true) (e : exec c s = .next t) : p t = p s := by
  have sent := spdmSend_view (p := p) hp.out
  cases c with
  | arpRequest | neighbourSolicitation => exact view_of_next (ite_view (hp.out ..) rfl) e
  | icmpEchoRequest => exact view_of_next (ite_view (ite_view (hp.out ..) rfl) (ite_view (hp.out ..) rfl)) e
  | spdmGetDigests => exact view_of_next (atStage_view hp.out (fun _ => sent ..) ..) e
  | spdmGetCertificate =>
    exact view_of_next (atStage_view hp.out (fun _ => ite_view (sent ..) <| ite_view (sent ..) (sent ..)) ..) e
  | spdmHeartbeat => exact view_of_next (inEstablished_view hp.out (fun _ _ => sent ..) ..) e
  | spdmUnsupportedRequest => exact view_of_next (ite_view (sent ..) rfl) e
  | spdmChallenge => exact view_of_next (atStage_view hp.out (fun _ => ite_view (sent ..) (hp.spdmSigned ..)) ..) e
  | spdmGetMeasurements =>
    exact view_of_next (atStage_view hp.out (fun _ => ite_view (hp.spdmSigned ..) <| ite_view (hp.spdmSigned ..) <|
      ite_view (hp.spdmSigned ..) (sent ..)) ..) e
  | _ => cases h

/-- A view that shows nothing of the sessions, the dictionary's and SPDM's. -/
structure SessionBlind {α : Type} (p : State → α) : Prop extends DictionaryBlind p where
  spdm (s : State) (x : Spdm) : p { s with spdm := x } = p s

namespace ReplyBlind

variable {α : Type} {p : State → α} (hp : ReplyBlind p)
include hp

theorem openSession (m : DapMsg) (k : SessKind) (s : State) :
    p (openSession m k s) = p s := by
  refine ite_view (hp.dapEcho ..) ?_
  split
  · exact hp.dapEcho ..
  · exact (hp.dapEcho ..).trans (hp.setSession ..)

theorem closeSession (q : Port) (id : Nat) (s : State) :
    p (closeSession q id s) = p s := by
  cases q <;> exact hp.dict ..

theorem readPart (c : Ctx) (n v : Nat) (s : State) :
    p (readPart c n v s) = p s := by
  unfold Machine.readPart
  split
  · rfl
  · exact ite_view (hp.fin ..) (hp.dapReply ..)

theorem readDomain (c : Ctx) (n v : Nat) (s : State) :
    p (readDomain c n v s) = p s := by
  unfold Machine.readDomain
  split
  · rfl
  · refine ite_view (hp.readPart ..) <| ite_view ((hp.readPart ..).trans (hp.setSession ..)) ?_
    split
    · exact ite_view (hp.readPart ..) (hp.readPart ..)
    · exact hp.readPart ..

theorem doSyncView (c : Ctx) (s : State) :
    p (doSyncView c s) = p s := ite_view (hp.fin ..) (hp.readDomain ..)

theorem doBatchRead (c : Ctx) (s : State) :
    p (doBatchRead c s) = p s := by
  unfold Machine.doBatchRead
  split
  · rfl
  · dsimp only
    split
    · exact ite_view (hp.readPart ..) (hp.fin ..)
    · exact ite_view (hp.fin ..) ((hp.readPart ..).trans (hp.setSession ..))

theorem doPrivateRead (s : State) : p (doPrivateRead s) = p s := by
  unfold Machine.doPrivateRead
  split
  · exact (hp.emit ..).trans (hp.dict ..)
  · unfold i3cNotify
    split
    · rfl
    · dsimp only
      split
      · exact hp.dict ..
      · split
        · exact hp.dict ..
        · exact (hp.emit ..).trans ((hp.setSession ..).trans (hp.dict ..))

end ReplyBlind

namespace SessionBlind

variable {α : Type} {p : State → α} (hp : SessionBlind p)
include hp

theorem doOpenTenant (m : DapMsg) (s : State) : p (doOpenTenant m s) = p s := by
  refine ite_view rfl <| ite_view (hp.dapEcho ..) ?_
  split
  · exact (hp.dapEcho ..).trans (hp.bump ..)
  · refine ite_view (hp.dapEcho ..) <| ite_view (hp.dapEcho ..) ?_
    dsimp only
    split
    · exact hp.dapEcho ..
    · exact ite_view (hp.dapEcho ..) (hp.openSession ..)

theorem doOpenManagement (m : DapMsg) (s : State) : p (doOpenManagement m s) = p s := by
  refine ite_view rfl <| ite_view (hp.dapEcho ..) ?_
  split
  · exact (hp.dapEcho ..).trans (hp.bump ..)
  · exact ite_view (hp.openSession ..) (hp.dapEcho ..)

theorem doClose (m : DapMsg) (s : State) : p (doClose m s) = p s := by
  refine ite_view rfl <| ite_view (hp.dapEcho ..) ?_
  split
  · exact hp.dapRefuseSeq ..
  · refine ite_view (hp.dapRefuseSeq ..) <| ite_view ?again <| ite_view ?next (hp.dapRefuseSeq ..)
    case again =>
      split
      · exact hp.dapEcho ..
      · exact hp.dapEcho ..
      · exact hp.dapRefuseSeq ..
    case next =>
      refine ite_view ((hp.dapFinish ..).trans (ite_view (hp.setSession ..) ((hp.bump ..).trans (hp.setSession ..)))) <|
        ite_view ((hp.dapFinish ..).trans ((hp.bump ..).trans (hp.setSession ..))) ?_
      exact (hp.closeSession ..).trans ((hp.dapFinish ..).trans (hp.setSession ..))

theorem doSubscribe (c : Ctx) (s : State) : p (doSubscribe c s) = p s := by
  unfold Machine.doSubscribe
  split
  · rfl
  · exact ite_view (hp.finOk ..) <| ite_view (hp.fin ..) ((hp.finOk ..).trans (hp.setSession ..))

theorem doUnsubscribe (c : Ctx) (s : State) : p (doUnsubscribe c s) = p s := by
  unfold Machine.doUnsubscribe
  split
  · rfl
  · exact (hp.finOk ..).trans (hp.setSession ..)

theorem doSaveNow (c : Ctx) (s : State) : p (doSaveNow c s) = p s :=
  ite_view (hp.finBad ..) <| ite_view (hp.fin ..) <| ite_view (hp.fin ..) (hp.dict ..)

theorem setStageOf (q : Port) (n : Nat) (s : State) : p (setStageOf q n s) = p s := by
  cases q <;> exact hp.spdm ..

theorem endSpdm (n : Nat) (s : State) : p (endSpdm n s) = p s := by
  have ended (x : Dict) (y : Spdm) : p { s with spdm := y, dict := x } = p s :=
    (hp.spdm { s with dict := x } y).trans (hp.dict s x)
  exact (hp.setObj ..).trans (ended ..)

theorem setSpdm (n : Nat) (x : SpdmSession) (s : State) : p (setSpdm n x s) = p s := hp.spdm ..

theorem doKeyExchange (m : SpdmMsg) (key : Option Nat) (s : State) : p (doKeyExchange m key s) = p s := by
  refine ite_view (spdmSend_view hp.out ..) <| ite_view ((spdmSend_view hp.out ..).trans (hp.raiseEvent ..)) ?_
  split
  · exact spdmSend_view hp.out ..
  · exact (spdmSend_view hp.out ..).trans ((hp.setObj ..).trans (hp.spdm ..))

end SessionBlind

theorem sessionRow_view {α : Type} {p : State → α} (hp : SessionBlind p) {c : Instr} {s t : State}
    (h : sessionRow c = true) (e : exec c s = .next t) : p t = p s := by
  have sent := spdmSend_view (p := p) hp.out
  cases c with
  | drainOverdue | stragglerReport => exact view_of_next (ite_view (hp.raiseEvent ..) rfl) e
  | ethLinkDown => exact view_of_next (ite_view ((hp.raiseEvent ..).trans (hp.setObj ..)) rfl) e
  | ethLinkUp => exact view_of_next (ite_view ((hp.raiseEvent ..).trans ((hp.setObj ..).trans (hp.setDom ..))) rfl) e
  | dapOpenTenant => exact view_of_next (hp.doOpenTenant ..) e
  | dapOpenManagement => exact view_of_next (hp.doOpenManagement ..) e
  | dapClose => exact view_of_next (hp.doClose ..) e
  | dapSubscribe => exact view_of_next (hp.dapServe hp.doSubscribe ..) e
  | dapUnsubscribe => exact view_of_next (hp.dapServe hp.doUnsubscribe ..) e
  | saveNow => exact view_of_next (hp.dapServe hp.doSaveNow ..) e
  | meterBatchRead => exact view_of_next (hp.dapServe hp.doBatchRead ..) e
  | syncViewRead => exact view_of_next (hp.dapServe hp.doSyncView ..) e
  | domainFormTimeout =>
    have told (u : State) : p (tellMembers 3 0 s.formFrom u) = p u := foldl_view (fun _ _ => hp.emit ..) _ _
    exact view_of_next (ite_view ((hp.dapFinishKey ..).trans ((told _).trans (hp.setObj ..))) rfl) e
  | cfgCommitTimeout => exact view_of_next (ite_view rfl (hp.dapFinishKey ..)) e
  | i3cPrivateRead => exact view_of_next (ite_view (hp.doPrivateRead _) rfl) e
  | i3cSetdasa | i3cEntdaa => exact view_of_next (ite_view (hp.dict ..) rfl) e
  | dapSessionIdleTimeout => exact view_of_next (ite_view rfl (hp.closeSession ..)) e
  | spdmGetVersion | spdmGetCapabilities | spdmNegotiateAlgorithms =>
    exact view_of_next (atStage_view hp.out (fun _ => (sent ..).trans (hp.setStageOf ..)) ..) e
  | spdmKeyExchange => exact view_of_next (atStage_view hp.out (fun _ => hp.doKeyExchange ..) ..) e
  | spdmFinish =>
    exact view_of_next (inSession_view hp.out (fun _ _ => ite_view (sent ..) <|
      ite_view ((sent ..).trans (hp.setSpdm ..))
        ((sent ..).trans ((hp.endSpdm ..).trans (hp.raiseEvent ..)))) ..) e
  | spdmKeyUpdate => exact view_of_next (inEstablished_view hp.out (fun _ _ => (sent ..).trans (hp.setSpdm ..)) ..) e
  | spdmEndSession => exact view_of_next (inEstablished_view hp.out (fun _ _ => (sent ..).trans (hp.endSpdm ..)) ..) e
  | spdmHeartbeatMissed => exact view_of_next (ite_view (hp.endSpdm ..) rfl) e
  | _ => cases h

/-- A view that shows nothing of what an event of a link writes (R384 to R386, R561, R562). -/
structure LinkBlind {α : Type} (p : State → α) : Prop extends DictionaryBlind p where
  links (s : State) (x : Tab Link) : p { s with links := x } = p s
  openReqs (s : State) (x : Tab OpenReq) : p { s with openReqs := x } = p s

namespace LinkBlind

variable {α : Type} {p : State → α} (hp : LinkBlind p)
include hp

theorem setLink (n : Nat) (f : Link → Link) (s : State) : p (setLink n f s) = p s := hp.links ..

theorem beginRecal (n : Nat) (s : State) : p (beginRecal n s) = p s :=
  ite_view rfl <| ite_view (hp.setLink ..) ((hp.emit ..).trans (hp.setLink ..))

theorem nextRecal (s : State) : p (nextRecal s) = p s := foldl_view (fun _ _ => ite_view (hp.beginRecal ..) rfl) _ _

theorem dropLink (n : Nat) (s : State) : p (dropLink n s) = p s :=
  (hp.nextRecal _).trans ((hp.bump ..).trans ((hp.openReqs ..).trans (hp.setLink ..)))

theorem doFlitReceive (f : Flit) (s : State) : p (doFlitReceive f s) = p s := by
  have counted : p (if 0 < f.wrong ∧ f.wrong ≤ 6 then countCorrected f.link s else s) = p s :=
    ite_view ((hp.bump ..).trans (hp.setLink ..)) rfl
  have taken (g : Link → Link) :=
    (hp.emit (.flitAck f.link (flitSeq f.image)) _).trans ((hp.setLink f.link g _).trans counted)
  exact ite_view rfl <| ite_view ((hp.emit ..).trans ((hp.setLink ..).trans counted))
    (ite_view ((hp.beginRecal ..).trans (taken _)) (taken _))

theorem doFlitNakReceive (n ackSeq : Nat) (s : State) : p (doFlitNakReceive n ackSeq s) = p s := by
  have acked (l : Link) (k : Nat) := (hp.bump 0x7010 0x12 k _).trans (hp.setLink n (fun _ => l) s)
  exact ite_view rfl <| ite_view ((hp.dropLink ..).trans (acked _ _)) ((hp.emit ..).trans (acked _ _))

theorem trainLink (n lanes : Nat) (s : State) : p (trainLink n lanes s) = p s := hp.setLink ..

end LinkBlind

theorem linkRow_view {α : Type} {p : State → α} (hp : LinkBlind p) {c : Instr} {s t : State}
    (h : linkRow c = true) (e : exec c s = .next t) : p t = p s := by
  cases c with
  | flitReceive => exact view_of_next (hp.doFlitReceive ..) e
  | flitNakReceive => exact view_of_next (hp.doFlitNakReceive ..) e
  | linkDown => exact view_of_next (ite_view rfl (hp.dropLink ..)) e
  | linkRetrained =>
    exact view_of_next (ite_view ((hp.nextRecal _).trans ((hp.bump ..).trans (hp.trainLink ..))) rfl) e
  | linkRecalRequest => exact view_of_next (hp.beginRecal ..) e
  | recalThresholdExceeded => exact view_of_next (ite_view ((hp.beginRecal ..).trans (hp.setLink ..)) rfl) e
  | linkTrained => exact view_of_next (ite_view ((hp.trainLink ..).trans (hp.setDom ..)) rfl) e
  | linkQuiesced => exact view_of_next (ite_view (hp.setLink ..) rfl) e
  | linkRecalTimeout => exact view_of_next (ite_view ((hp.raiseEvent ..).trans (hp.dropLink ..)) rfl) e
  | _ => cases h

/-! ## Reads, the receiver and the domains' timers -/

/-- A view that shows nothing of what a read of the dictionary or of a register writes (R466 to R468, R481, R489). -/
structure ReadingBlind {α : Type} (p : State → α) : Prop extends DictionaryBlind p where
  blocks (s : State) (x : Tab Block) : p { s with blocks := x } = p s
  freeCtr (s : State) (x : Nat) : p { s with freeCtr := x } = p s

namespace ReadingBlind

variable {α : Type} {p : State → α} (hp : ReadingBlind p)
include hp

theorem setBlock (die : Nat) (f : Block → Block) (s : State) : p (setBlock die f s) = p s := hp.blocks ..

theorem discard (die reason : Nat) (s : State) : p (discard die reason s) = p s := (hp.bump ..).trans (hp.setBlock ..)

theorem readWord (die off : Nat) (s : State) : p (readWord die off s).2 = p s := by
  have missed (f : Block → Block) : p (Machine.bump 0xF012 2 1 (Machine.setBlock die f s)) = p s :=
    (hp.bump ..).trans (hp.setBlock ..)
  unfold Machine.readWord
  dsimp only
  generalize (if decodeOff off < 4096 then decodeOff off else lowerOf (decodeOff off)) = low
  split
  · exact hp.blocks ..
  split
  · split
    · split
      · exact hp.blocks ..
      · exact missed _
    · exact missed _
  split
  · exact hp.freeCtr ..
  · rfl

theorem rawAccess {act : State → State} (hact : ∀ s, p (act s) = p s) (c : Ctx) (s : State) :
    p (rawAccess c act s) = p s :=
  ite_view ((hp.fin ..).trans (hp.wake ..)) (hact s)

theorem doRawRead (c : Ctx) (s : State) : p (doRawRead c s) = p s :=
  hp.rawAccess (fun _ => (hp.dapFinish ..).trans (hp.readWord ..)) c s

theorem doRawRead64 (c : Ctx) (s : State) : p (doRawRead64 c s) = p s :=
  ite_view (hp.finBad ..)
    (hp.rawAccess (fun _ => (hp.dapFinish ..).trans ((hp.readWord ..).trans (hp.readWord ..))) c s)

theorem firmwareRead (die offset : Nat) (s : State) : p (firmwareRead die offset s) = p s :=
  ite_view rfl ((hp.emit ..).trans (hp.readWord ..))

theorem readObj (c : Ctx) (s : State) : p (readObj c s) = p s := by
  unfold Machine.readObj
  split
  · exact hp.finBad ..
  · refine ite_view (hp.dapFinish ..) ?_
    split
    · exact hp.doSyncView ..
    · exact hp.doBatchRead ..
    · exact hp.doRawRead ..
    · exact hp.doRawRead64 ..
    · exact hp.readDomain ..
    · exact hp.readDomain ..
    · exact hp.readDomain ..
    · exact (hp.readDomain ..).trans (hp.freeCtr ..)
    · split
      · exact hp.readDomain ..
      · exact hp.dapFinish ..
      · exact hp.dapFinish ..

theorem setCheck (die : Nat) (c : CfgCheck) (s : State) : p (setCheck die c s) = p s :=
  (hp.setObj ..).trans (hp.setBlock ..)

theorem doCfgCommit (c : Ctx) (s : State) : p (doCfgCommit c s) = p s :=
  ite_view (hp.finBad ..) ((hp.settleCommit _).trans (foldl_view (fun _ _ => ite_view (hp.setCheck ..) rfl) _ _))

end ReadingBlind

theorem readingRow_view {α : Type} {p : State → α} (hp : ReadingBlind p) {c : Instr} {s t : State}
    (h : readingRow c = true) (e : exec c s = .next t) : p t = p s := by
  cases c with
  | dapRead => exact view_of_next (hp.dapServe hp.readObj ..) e
  | rawDataRead => exact view_of_next (hp.dapServe hp.doRawRead ..) e
  | rawData64Read => exact view_of_next (hp.dapServe hp.doRawRead64 ..) e
  | regLoRead | regHiRead => exact view_of_next (hp.firmwareRead ..) e
  | cfgCommit => exact view_of_next (hp.dapServe hp.doCfgCommit ..) e
  | cfgPendingOverdue => exact view_of_next (ite_view ((hp.raiseEvent ..).trans (hp.setBlock ..)) rfl) e
  | cfgWalkStart => exact view_of_next (ite_view (hp.setBlock ..) rfl) e
  | guardTimeout => exact view_of_next (ite_view (hp.discard ..) rfl) e
  | _ => cases h

/-- A view that shows nothing of what the Ethernet port receives or times (R427 to R431, R441). -/
structure ReceiverBlind {α : Type} (p : State → α) : Prop extends AnswerBlind p where
  mbx (s : State) (x : Tab Mailbox) : p { s with mbx := x } = p s
  qps (s : State) (x : Tab Qp) : p { s with qps := x } = p s
  paused (s : State) (x : Nat) : p { s with paused := x } = p s

namespace ReceiverBlind

variable {α : Type} {p : State → α} (hp : ReceiverBlind p)
include hp

theorem setQp (q : Nat) (x : Qp) (s : State) : p (setQp q x s) = p s := hp.qps ..
theorem qpOut (q : Nat) (o : Out) (s : State) : p (qpOut q o s) = p s := hp.ethOut ..

theorem qpError (q st : Nat) (s : State) : p (qpError q st s) = p s :=
  (hp.raiseEvent ..).trans ((hp.setObj ..).trans ((hp.bump ..).trans (hp.setQp ..)))

theorem resend (q : Nat) (s : State) : p (resend q s) = p s := foldl_view (fun _ _ => hp.qpOut ..) _ _

theorem retrySend (q : Nat) (s : State) : p (retrySend q s) = p s :=
  ite_view rfl <| ite_view ((hp.resend ..).trans (hp.setQp ..)) (hp.qpError ..)

theorem popNotice (die m : Nat) (s : State) : p (popNotice die m s) = p s := hp.mbx ..

theorem doAck (q psn : Nat) (s : State) : p (doAck q psn s) = p s := by
  refine ite_view rfl ((foldl_view (fun s r => ?_) _ _).trans (hp.setQp ..))
  split
  · exact hp.popNotice ..
  · rfl

theorem onReady {act : Nat → State → State} (hact : ∀ q s, p (act q s) = p s) (n : Nat) (s : State) :
    p (onReady n act s) = p s := by
  refine ite_view rfl ?_
  split
  · exact ite_view (hact ..) (hp.bump ..)
  · exact hp.bump ..

theorem markSeen (q : Nat) (s : State) : p (markSeen q s) = p s :=
  ite_view ((hp.bump ..).trans ((hp.qpOut ..).trans (hp.setQp ..))) rfl

theorem doFrame (f : EthFrame) (s : State) : p (doFrame f s) = p s := by
  have counted : p (bump 0x7101 1 1 s) = p s := hp.bump ..
  refine ite_view rfl <| ite_view (hp.bump ..) <| ite_view ?_ counted
  split
  · exact ite_view (ite_view ((hp.markSeen ..).trans counted) counted) ((hp.bump ..).trans counted)
  · exact (hp.bump ..).trans counted

theorem releaseFrames (s : State) : p (releaseFrames s) = p s :=
  (foldl_view (fun _ _ => hp.emit ..) _ _).trans (hp.ethHeld ..)

end ReceiverBlind

theorem receiverRow_view {α : Type} {p : State → α} (hp : ReceiverBlind p) {c : Instr} {s t : State}
    (h : receiverRow c = true) (e : exec c s = .next t) : p t = p s := by
  cases c with
  | ethFrameReceive => exact view_of_next (hp.doFrame ..) e
  | pfcFrameReceive => exact view_of_next (ite_view ((hp.releaseFrames _).trans (hp.paused ..)) rfl) e
  | pauseFrameReceive => exact view_of_next (ite_view (hp.bump ..) rfl) e
  | cnpReceive => exact view_of_next (hp.onReady (fun _ _ => hp.setQp ..) ..) e
  | cnpRateRecovery =>
    refine view_of_next ?_ e
    split
    · exact ite_view (hp.setQp ..) rfl
    · rfl
  | roceAckReceive => exact view_of_next (hp.onReady (fun _ _ => hp.doAck ..) ..) e
  | roceNakReceive =>
    exact view_of_next (hp.onReady (fun _ _ => ite_view (hp.doAck ..) ((hp.retrySend ..).trans (hp.doAck ..))) ..) e
  | roceAckTimeout =>
    refine view_of_next ?_ e
    split
    · exact ite_view (hp.retrySend ..) rfl
    · rfl
  | rnrRetryTimer =>
    refine view_of_next ?_ e
    split
    · exact ite_view rfl <| ite_view ((hp.resend ..).trans (hp.setQp ..)) (hp.qpError ..)
    · rfl
  | messageDiscard => exact view_of_next (ite_view (hp.bump ..) rfl) e
  | _ => cases h

theorem domainTimerRow_view {α : Type} {p : State → α}
    (hd : ∀ (s : State) (x : Tab Domain), p { s with doms := x } = p s)
    (hm : ∀ (s : State) (x : Tab Mailbox), p { s with mbx := x } = p s) {c : Instr} {s t : State}
    (h : domainTimerRow c = true) (e : exec c s = .next t) : p t = p s := by
  have set (d : Nat) (f : Domain → Domain) : p (setDom d f s) = p s := hd ..
  cases c with
  | domainIdleEntry => exact view_of_next (ite_view (set ..) rfl) e
  | domainIdleExit => exact view_of_next (ite_view ((hm ..).trans (set ..)) rfl) e
  | wakeRequest => exact view_of_next (ite_view (ite_view rfl (set ..)) rfl) e
  | wakeRetry => exact view_of_next (ite_view (set ..) rfl) e
  | _ => cases h

/-! ## The frames -/

/-- A state without what a family of commands can change. -/
def outsideDictionary (s : State) : State :=
  { s with dict := State.reset.dict, doms := [], objs := [], out := [], log := [], lastCheck := 0, sinceCheck := 0,
           keyGens := [], keyStates := [], tenantKeys := [], freeCtr := 0, ethHeld := [] }
def outsideAnswer (s : State) : State := { s with out := [], freeCtr := 0 }
def outsideSession (s : State) : State :=
  { s with dict := State.reset.dict, doms := [], objs := [], out := [], spdm := ⟨0, 0, []⟩, ethHeld := [] }
def outsideLink (s : State) : State :=
  { s with dict := State.reset.dict, doms := [], links := [], objs := [], out := [], openReqs := [], ethHeld := [] }
def outsideReading (s : State) : State :=
  { s with blocks := [], dict := State.reset.dict, doms := [], freeCtr := 0, objs := [], out := [], ethHeld := [] }
def outsideReceiver (s : State) : State :=
  { s with dict := State.reset.dict, mbx := [], objs := [], out := [], qps := [], paused := 0, ethHeld := [] }
def outsideTimer (s : State) : State := { s with doms := [], mbx := [] }

theorem keyBlind_outsideDictionary : KeyBlind outsideDictionary := by
  refine ⟨⟨⟨⟨?_, ?_, ?_⟩, ?_⟩, ?_⟩, ?_, ?_, ?_, ?_, ?_, ?_, ?_⟩ <;> (intros; rfl)

theorem sendBlind_outsideAnswer : SendBlind outsideAnswer := ⟨fun _ _ => rfl, fun _ _ => rfl⟩

theorem sessionBlind_outsideSession : SessionBlind outsideSession := by
  refine ⟨⟨⟨⟨?_, ?_, ?_⟩, ?_⟩, ?_⟩, ?_⟩ <;> (intros; rfl)

theorem linkBlind_outsideLink : LinkBlind outsideLink := by
  refine ⟨⟨⟨⟨?_, ?_, ?_⟩, ?_⟩, ?_⟩, ?_, ?_⟩ <;> (intros; rfl)

theorem readingBlind_outsideReading : ReadingBlind outsideReading := by
  refine ⟨⟨⟨⟨?_, ?_, ?_⟩, ?_⟩, ?_⟩, ?_, ?_⟩ <;> (intros; rfl)

theorem receiverBlind_outsideReceiver : ReceiverBlind outsideReceiver := by
  refine ⟨⟨⟨?_, ?_, ?_⟩, ?_⟩, ?_, ?_, ?_⟩ <;> (intros; rfl)

/-- Settles O7: each family leaves the state without what it can change. -/
theorem narrowCommandsFrame : Obligations.NarrowCommandsFrame := by
  intro c s t e
  refine ⟨fun h => ?dictionary, fun h => ?answer, fun h => ?session, fun h => ?link, fun h => ?reading, fun h => ?receiver,
    fun h => ?timer⟩
  case dictionary =>
    have same := dictionaryRow_view keyBlind_outsideDictionary h e
    exact congrArg (fun u : State => { u with
      dict := t.dict, doms := t.doms, objs := t.objs, out := t.out, log := t.log, lastCheck := t.lastCheck,
      sinceCheck := t.sinceCheck, keyGens := t.keyGens, keyStates := t.keyStates, tenantKeys := t.tenantKeys,
      freeCtr := t.freeCtr, ethHeld := t.ethHeld }) same
  case answer =>
    have same := answerRow_view sendBlind_outsideAnswer h e
    exact congrArg (fun u : State => { u with out := t.out, freeCtr := t.freeCtr }) same
  case session =>
    have same := sessionRow_view sessionBlind_outsideSession h e
    exact congrArg (fun u : State => { u with
      dict := t.dict, doms := t.doms, objs := t.objs, out := t.out, spdm := t.spdm, ethHeld := t.ethHeld }) same
  case link =>
    have same := linkRow_view linkBlind_outsideLink h e
    exact congrArg (fun u : State => { u with
      dict := t.dict, doms := t.doms, links := t.links, objs := t.objs, out := t.out, openReqs := t.openReqs,
      ethHeld := t.ethHeld }) same
  case reading =>
    have same := readingRow_view readingBlind_outsideReading h e
    exact congrArg (fun u : State => { u with
      blocks := t.blocks, dict := t.dict, doms := t.doms, freeCtr := t.freeCtr, objs := t.objs, out := t.out,
      ethHeld := t.ethHeld }) same
  case receiver =>
    have same := receiverRow_view receiverBlind_outsideReceiver h e
    exact congrArg (fun u : State => { u with
      dict := t.dict, mbx := t.mbx, objs := t.objs, out := t.out, qps := t.qps, paused := t.paused,
      ethHeld := t.ethHeld }) same
  case timer =>
    have same := domainTimerRow_view (p := outsideTimer) (fun _ _ => rfl) (fun _ _ => rfl) h e
    exact congrArg (fun u : State => { u with doms := t.doms, mbx := t.mbx }) same

end Sys2Proof.Machine

/-! # The time counter in a cycle

Nothing that a cycle does writes the time counter, apart from its own advance (R520): one lemma for each operation that a
cycle reaches, in the order of the definitions. The lemmas of plain updates are proved by `(rfl)`, so that `simp` rewrites
with them and a fold of them is discharged by `time_foldl`. -/

namespace Sys2Proof.Machine

/-! ## Rules for views, choices and folds -/

theorem answerBlind_time : AnswerBlind State.time where
  dict _ _ := rfl
  out _ _ := rfl
  ethHeld _ _ := rfl
  objs _ _ := rfl

theorem completionBlind_time : CompletionBlind State.time where
  dict _ _ := rfl
  out _ _ := rfl
  ethHeld _ _ := rfl
  fabricObj _ _ _ _ := rfl
  freeCtr _ _ := rfl
  links _ _ := rfl
  comps _ _ := rfl
  qps _ _ := rfl

@[simp] theorem time_ite {c : Prop} [Decidable c] (s t : State) :
    (if c then s else t).time = if c then s.time else t.time := apply_ite State.time ..

theorem time_of_eq {α : Type} {p : α × State} {a : α} {t : State} (e : p = (a, t)) : t.time = p.2.time := by rw [e]

@[simp] theorem time_foldl {α : Type} {f : State → α → State} (h : ∀ t a, (f t a).time = t.time) (l : List α)
    (s : State) : (l.foldl f s).time = s.time := foldl_view h l s

theorem time_foldl_snd {α β : Type} {f : β × State → α → β × State} (h : ∀ p a, (f p a).2.time = p.2.time) (l : List α)
    (p : β × State) : (l.foldl f p).2.time = p.2.time :=
  List.foldlRecOn (motive := fun q => q.2.time = p.2.time) l f rfl fun q e a _ => (h q a).trans e

/-! ## Answers, events and completions -/

@[simp] theorem time_setSession (p : Port) (id : Nat) (x : Session) (s : State) :
    (setSession p id x s).time = s.time := answerBlind_time.setSession ..

@[simp] theorem time_emit (o : Out) (s : State) : (emit o s).time = s.time := answerBlind_time.emit ..

@[simp] theorem time_ethOut (priority : Nat) (o : Out) (s : State) :
    (ethOut priority o s).time = s.time := answerBlind_time.ethOut ..

@[simp] theorem time_dapReply (p : Port) (id : Nat) (r : DapReply) (s : State) :
    (dapReply p id r s).time = s.time := answerBlind_time.dapReply ..

@[simp] theorem time_dapFinish (p : Port) (id : Nat) (st : Status) (hint n v : Nat) (s : State) :
    (dapFinish p id st hint n v s).time = s.time := answerBlind_time.dapFinish ..

@[simp] theorem time_setObj (index sub v : Nat) (s : State) :
    (setObj index sub v s).time = s.time := answerBlind_time.setObj ..

@[simp] theorem time_bump (index sub n : Nat) (s : State) :
    (bump index sub n s).time = s.time := answerBlind_time.bump ..

@[simp] theorem time_drawFree (s : State) : (drawFree s).2.time = s.time := (rfl)

@[simp] theorem time_qpOut (q : Nat) (o : Out) (s : State) :
    (qpOut q o s).time = s.time := completionBlind_time.qpOut ..

@[simp] theorem time_meter (c : Nat) (f : Comp → Comp) (s : State) : (meter c f s).time = s.time := (rfl)

@[simp] theorem time_meterOut (requester n : Nat) (s : State) :
    (meterOut requester n s).time = s.time := completionBlind_time.meterOut ..

@[simp] theorem time_notifySession (p : Port) (key record : Nat) (s : State) (e : Nat × Session) :
    (notifySession p key record s e).time = s.time := answerBlind_time.notifySession ..

@[simp] theorem time_raiseEvent (index sub cause : Nat) (s : State) :
    (raiseEvent index sub cause s).time = s.time := answerBlind_time.raiseEvent ..

@[simp] theorem time_countQps (s : State) : (countQps s).time = s.time := (rfl)

@[simp] theorem time_setQp (q : Nat) (x : Qp) (s : State) : (setQp q x s).time = s.time := completionBlind_time.setQp ..

@[simp] theorem time_qpError (q st : Nat) (s : State) :
    (qpError q st s).time = s.time := completionBlind_time.qpError ..

@[simp] theorem time_rdmaAnswer (q psn : Nat) (st : Status) (bytes data : Nat) (s : State) :
    (rdmaAnswer q psn st bytes data s).time = s.time := completionBlind_time.rdmaAnswer ..

@[simp] theorem time_qpSend (q : Nat) (imm : Option Nat) (bytes data : Nat) (notice : Option Nat) (s : State) :
    (qpSend q imm bytes data notice s).time = s.time := completionBlind_time.qpSend ..

@[simp] theorem time_sendFlits (n vc bytes : Nat) (s : State) : (sendFlits n vc bytes s).time = s.time := (rfl)

@[simp] theorem time_completeWith (rq : Req) (st : Status) (result hint len data : Nat) (load : Option Nat)
    (s : State) : (completeWith rq st result hint len data load s).time = s.time := completionBlind_time.completeWith ..

@[simp] theorem time_complete (rq : Req) (st : Status) (result : Nat) (s : State) :
    (complete rq st result s).time = s.time := completionBlind_time.complete ..

/-! ## Tiers, messages and the lines of a home -/

@[simp] theorem time_queueDemand (ext : Nat) (s : State) : (queueDemand ext s).2.time = s.time := by
  unfold queueDemand
  repeat' split
  all_goals simp

@[simp] theorem time_setDom (d : Nat) (f : Domain → Domain) (s : State) : (setDom d f s).time = s.time := (rfl)

@[simp] theorem time_wake (d : Nat) (s : State) : (wake d s).time = s.time := by simp [wake]

@[simp] theorem time_queueAll (exts : List Nat) (s : State) :
    (queueAll exts s).2.time = s.time := by simp [queueAll, time_foldl_snd]

@[simp] theorem time_deferReq (rq : Req) (hint : Nat) (s : State) :
    (deferReq rq hint s).time = s.time := by simp [deferReq]

@[simp] theorem time_farDeferAll (rq : Req) (exts : List Nat) (s : State) :
    (farDeferAll rq exts s).time = s.time := by simp [farDeferAll]

@[simp] theorem time_farDefer (rq : Req) (off n : Nat) (s : State) :
    (farDefer rq off n s).time = s.time := by simp [farDefer]

@[simp] theorem time_makeNear (ext : Nat) (s : State) : (makeNear ext s).time = s.time := (rfl)

@[simp] theorem time_noFrame (rq : Req) (s : State) : (noFrame rq s).time = s.time := by simp [noFrame]

@[simp] theorem time_sendTo (q vc bytes address : Nat) (o : Out) (s : State) :
    (sendTo q vc bytes address o s).time = s.time := by
  unfold sendTo
  split <;> simp

@[simp] theorem time_send (vc bytes address : Nat) (o : Out) (s : State) :
    (send vc bytes address o s).time = s.time := by simp [send]

/-- Reading a row leaves every view that the messages it sends leave. -/
theorem readRow_view {α : Type} {p : State → α}
    (hp : ∀ (vc bytes address : Nat) (x : Out) (s : State), p (send vc bytes address x s) = p s) (o : PObject)
    (row at_ : Nat) (s : State) : p (readRow o row at_ s) = p s := by
  unfold readRow
  dsimp only
  refine ite_view ((hp ..).trans ?_) ?_
  all_goals
    refine ite_view ((hp ..).trans ?_) ?_
    all_goals exact foldl_view (fun _ _ => hp ..) ..

@[simp] theorem time_readRow (o : PObject) (row at_ : Nat) (s : State) :
    (readRow o row at_ s).time = s.time := readRow_view time_send ..

@[simp] theorem time_readSources (o : PObject) (line : Nat) (s : State) :
    (readSources o line s).time = s.time := by simp [readSources]

theorem time_sourcesOf (line : Nat) (s : State) (t : State) (e : sourcesOf line s = some t) : t.time = s.time := by
  unfold sourcesOf at e
  split at e
  · cases e
    exact time_readSources ..
  · obtain ⟨o, -, rfl⟩ := Option.map_eq_some_iff.mp e
    exact time_readRow ..

@[simp] theorem time_cleanLines (lines : List Nat) (s : State) : (cleanLines lines s).time = s.time := (rfl)

@[simp] theorem time_storeRoom (line : Nat) (s : State) : (storeRoom line s).time = s.time := by
  unfold storeRoom
  dsimp only
  repeat' split
  all_goals simp [drawFree]

@[simp] theorem time_storeWrite (line : Nat) (s : State) : (storeWrite line s).time = s.time := by
  unfold storeWrite
  split <;> simp

@[simp] theorem time_writeMem (off n v : Nat) (s : State) : (writeMem off n v s).time = s.time := (rfl)

@[simp] theorem time_storeBytes (off n v : Nat) (s : State) :
    (storeBytes off n v s).time = s.time := by simp [storeBytes]

@[simp] theorem time_rebuildLine (line : Nat) (s : State) : (rebuildLine line s).time = s.time := by
  unfold rebuildLine
  split
  · rfl
  · split
    · rfl
    · split
      · rfl
      next t e => simpa [drawFree] using time_sourcesOf _ _ _ e

@[simp] theorem time_rebuildLines (lines : List Nat) (s : State) :
    (rebuildLines lines s).time = s.time := by simp [rebuildLines]

@[simp] theorem time_poisonExtent (ext : Nat) (keep : List Nat) (s : State) :
    (poisonExtent ext keep s).time = s.time := (rfl)

@[simp] theorem time_placeLost (ext : Nat) (near : Bool) (s : State) :
    (placeLost ext near s).time = s.time := by simp [placeLost]

@[simp] theorem time_placePoisoned (ext : Nat) (s : State) :
    (placePoisoned ext s).time = s.time := by simp [placePoisoned]

@[simp] theorem time_poisonLine (s : State) (line : Nat) : (poisonLine s line).time = s.time := (rfl)

@[simp] theorem time_writePoison (off : Nat) (s : State) : (writePoison off s).time = s.time := by
  unfold writePoison
  repeat' split
  all_goals simp

@[simp] theorem time_dropDir (line : Nat) (s : State) : (dropDir line s).time = s.time := (rfl)

@[simp] theorem time_poisonDead (lines : List Nat) (s : State) : (poisonDead lines s).time = s.time := by
  refine (time_foldl (fun t l => ?_) ..).trans (time_rebuildLines ..)
  repeat' split
  all_goals simp

@[simp] theorem time_hold (o : OpenReq) (s : State) : (hold o s).time = s.time := (rfl)

@[simp] theorem time_nextTxn (s : State) : (nextTxn s).2.time = s.time := (rfl)

@[simp] theorem time_sendSnoop (txn line a kind : Nat) (why : SnoopWhy) (target tag grant : Nat) (s : State) :
    (sendSnoop txn line a kind why target tag grant s).time = s.time := by simp [sendSnoop]

@[simp] theorem time_sendSnoops (txn line kind : Nat) (why : SnoopWhy) (as ptrs : List Nat) (s : State) :
    (sendSnoops txn line kind why as ptrs s).time = s.time := by
  refine time_foldl (fun t a => ?_) ..
  split <;> simp

@[simp] theorem time_withSnoops (rq : Req) (lines : List Nat) (write : Bool) (act : State → State) (s : State)
    (hact : ∀ t, (act t).time = t.time) : (withSnoops rq lines write act s).time = s.time := by
  have dropped (t : State) : (if write then lines.foldl (fun s l => dropDir l s) t else t).time = t.time := by simp
  unfold withSnoops
  extract_lets t need id w x
  refine ite_view ((hact _).trans ((dropped _).trans (time_poisonDead ..))) (ite_view ?_ ((dropped _).trans ?_))
  · exact (time_deferReq ..).trans ((time_bump ..).trans (time_poisonDead ..))
  · refine (time_foldl (fun t l => ?_) ..).trans (time_poisonDead ..)
    dsimp only [nextTxn]
    split
    · rfl
    · simp

@[simp] theorem time_completeCopied (rq : Req) (st : Status) (result : Nat) (objects : NSet) (s : State) :
    (completeCopied rq st result objects s).time = s.time := by simp [completeCopied]

@[simp] theorem time_takeFrames (off n : Nat) (s : State) : (takeFrames off n s).time = s.time := by
  refine time_foldl (fun t e => ?_) ..
  repeat' split
  all_goals simp

@[simp] theorem time_sendUnit (rq : Req) (o : PObject) (off n old v : Nat) (s : State) :
    (sendUnit rq o off n old v s).time = s.time := by simp [sendUnit]

@[simp] theorem time_sendCopies (rq : Req) (off n old v : Nat) (s : State) :
    (sendCopies rq off n old v s).time = s.time := by
  have counted (ks : List Nat) : (ks.foldl (fun (s : State) k =>
      { s with placed := tmod s.placed k (fun o => { o with unacked := o.unacked + 1 }) }) s).time = s.time := by simp
  unfold sendCopies
  dsimp only
  split
  · rfl
  · refine (time_foldl (fun t p => ?_) ..).trans (counted _)
    repeat' split
    all_goals simp

@[simp] theorem time_storeRead (line : Nat) (s : State) : (storeRead line s).time = s.time := by simp [storeRead]

@[simp] theorem time_touch (off n : Nat) (s : State) : (touch off n s).time = s.time := by simp [touch]

@[simp] theorem time_setStale (lines : List Nat) (s : State) : (setStale lines s).time = s.time := by
  refine time_foldl (fun t e => ?_) ..
  dsimp only
  repeat' split
  all_goals simp

@[simp] theorem time_storeLines (rq : Req) (off n v : Nat) (s : State) :
    (storeLines rq off n v s).time = s.time := by simp [storeLines]

@[simp] theorem time_finishWrite (rq : Req) (s : State) : (finishWrite rq s).time = s.time := by simp [finishWrite]

@[simp] theorem time_startWrite (rq : Req) (s : State) : (startWrite rq s).time = s.time := by simp [startWrite]

@[simp] theorem time_finishPublish (rq : Req) (s : State) :
    (finishPublish rq s).time = s.time := by simp [finishPublish]

@[simp] theorem time_runPublish (rq : Req) (s : State) : (runPublish rq s).time = s.time := by simp [runPublish]

@[simp] theorem time_startPublish (rq : Req) (s : State) : (startPublish rq s).time = s.time := by simp [startPublish]

@[simp] theorem time_recordUe (line : Nat) (s : State) : (recordUe line s).time = s.time := (rfl)

@[simp] theorem time_foundBad (s : State) (line : Nat) : (foundBad s line).time = s.time := by simp [foundBad]

@[simp] theorem time_handleFound (line : Nat) (s : State) : (handleFound line s).time = s.time := by
  unfold handleFound
  repeat' split
  all_goals simp

@[simp] theorem time_decodeLines (found : Tab Nat) (off n : Nat) (s : State) :
    (decodeLines found off n s).time = s.time := by simp [decodeLines]

@[simp] theorem time_finishRead (rq : Req) (fresh : Tab Nat) (bad : Bool) (s : State) :
    (finishRead rq fresh bad s).time = s.time := by simp [finishRead]

@[simp] theorem time_startRead (rq : Req) (s : State) : (startRead rq s).time = s.time := by
  unfold startRead
  dsimp only
  repeat' split
  all_goals simp

@[simp] theorem time_startOp (rq : Req) (s : State) : (startOp rq s).time = s.time := by
  unfold startOp
  split <;> simp

@[simp] theorem time_closeReq (id : Nat) (s : State) : (closeReq id s).time = s.time := (rfl)

@[simp] theorem time_settleOnce (s : State) : (settleOnce s).time = s.time := by
  refine time_foldl (fun t e => ?_) ..
  dsimp only
  repeat' split
  all_goals simp

@[simp] theorem time_settle (s : State) : (settle s).time = s.time := by simp [settle]

@[simp] theorem time_copiesDone (k : Nat) (s : State) : (copiesDone k s).time = s.time := by
  refine time_foldl (fun t e => ?_) ..
  dsimp only
  repeat' split
  all_goals simp

@[simp] theorem time_takeAcks (s : State) : (takeAcks s).time = s.time := by simp [takeAcks]

/-! ## Tiles -/

@[simp] theorem time_setTile (t : Nat) (x : Tile) (s : State) : (setTile t x s).time = s.time := (rfl)

@[simp] theorem time_mvLane (t : Nat) (m : MvStep) (wv vv l : Nat) (bad : Bool) (s : State) :
    (mvLane t m wv vv l bad s).time = s.time := (rfl)

@[simp] theorem time_doMatrixVector (t : Nat) (m : MvStep) (w v : Operand) (s : State) :
    (doMatrixVector t m w v s).time = s.time := by
  unfold doMatrixVector
  split
  · rfl
  · split
    · rfl
    · simp

@[simp] theorem time_setVec (t w : Nat) (r : List (Nat × Nat)) (scale : Nat) (bad : Bool) (s : State) :
    (setVec t w r scale bad s).time = s.time := (rfl)

@[simp] theorem time_doVector (t : Nat) (op : VecOp) (a b c : Operand) (s : State) :
    (doVector t op a b c s).time = s.time := (rfl)

@[simp] theorem time_drawR (t l : Nat) (s : State) : (drawR t l s).2.time = s.time := by
  unfold drawR
  dsimp only
  split <;> simp [drawFree]

@[simp] theorem time_roundOf (t l control : Nat) (s : State) : (roundOf t l control s).2.time = s.time := by
  unfold roundOf
  split <;> simp

@[simp] theorem time_convOne (t l target control : Nat) (v : Fv) (s : State) :
    (convOne t l target control v s).2.time = s.time := by
  unfold convOne
  dsimp only
  repeat' split
  all_goals simp

@[simp] theorem time_convList (t target control : Nat) (vs : List Fv) (s : State) :
    (convList t target control vs s).2.time = s.time := by simp [convList, time_foldl_snd]

@[simp] theorem time_convBlock (t target control : Nat) (vs : List Nat) (s : State) :
    (convBlock t target control vs s).2.time = s.time := by
  unfold convBlock
  dsimp only
  split <;> simp

@[simp] theorem time_doConvert (t target : Nat) (a : Operand) (s : State) : (doConvert t target a s).time = s.time := by
  unfold doConvert
  split <;> simp

@[simp] theorem time_doSpecial (t : Nat) (fn : SpecialFn) (a b : Operand) (s : State) :
    (doSpecial t fn a b s).time = s.time := (rfl)

@[simp] theorem time_doReduce (t : Nat) (maximum : Bool) (a : Operand) (s : State) :
    (doReduce t maximum a s).time = s.time := (rfl)

@[simp] theorem time_doUnit (t : Nat) (u : UnitStep) (f : Feed) (s : State) : (doUnit t u f s).time = s.time := by
  unfold doUnit
  split <;> simp

@[simp] theorem time_nextStall (s : State) : (nextStall s).2.time = s.time := (rfl)

@[simp] theorem time_stallWrite (unit : Nat) (rq : Req) (off n v : Nat) (bad : Bool) (ext dom : Option Nat)
    (s : State) :
    (stallWrite unit rq off n v bad ext dom s).time = s.time := (rfl)

@[simp] theorem time_engineFar (exts : List Nat) (s : State) : (engineFar exts s).time = s.time := by simp [engineFar]

@[simp] theorem time_invalidateHolders (lines : List Nat) (s : State) : (invalidateHolders lines s).time = s.time := by
  refine time_foldl (fun t e => ?_) ..
  dsimp only
  repeat' split
  all_goals simp [nextTxn]

@[simp] theorem time_engineStore (unit : Nat) (rq : Req) (off n v : Nat) (bad : Bool) (s : State) :
    (engineStore unit rq off n v bad s).2.time = s.time := by
  unfold engineStore
  dsimp only
  repeat' split
  all_goals simp

@[simp] theorem time_deliver (t i v : Nat) (bad : Bool) (s : State) : (deliver t i v bad s).time = s.time := by
  unfold deliver
  split <;> simp

@[simp] theorem time_moveOut (t : Nat) (f : Feed) (s : State) : (moveOut t f s).time = s.time := by
  unfold moveOut
  dsimp only
  repeat' split
  all_goals simp

@[simp] theorem time_markCall (t : Nat) (subst bad : Bool) (s : State) : (markCall t subst bad s).time = s.time := by
  unfold markCall
  split <;> simp

@[simp] theorem time_unitStep (t : Nat) (u : UnitStep) (f : Feed) (s : State) :
    (unitStep t u f s).time = s.time := by simp [unitStep]

@[simp] theorem time_fillLoad (a : EngineAccess) (v : Nat) (bad : Bool) (s : State) :
    (fillLoad a v bad s).time = s.time := (rfl)

@[simp] theorem time_accessDone (i : Issued) (v : Nat) (bad : Bool) (s : State) :
    (accessDone i v bad s).time = s.time := by simp [accessDone]

@[simp] theorem time_engineWrite (rq : Req) (off n v : Nat) (s : State) :
    (engineWrite rq off n v s).2.time = s.time := by simp [engineWrite]

@[simp] theorem time_performHere (i : Issued) (off : Nat) (fresh : Tab Nat) (s : State) :
    (performHere i off fresh s).time = s.time := by
  unfold performHere
  dsimp only
  repeat' split
  all_goals simp

@[simp] theorem time_snoopFor (i : Issued) (address : Nat) (lines : List Nat) (write : Bool)
    (need : List (Nat × Nat)) (s : State) :
    (snoopFor i address lines write need s).time = s.time := by
  unfold snoopFor
  dsimp only [nextStall, nextTxn]
  have dropped (t : State) : (if write then lines.foldl (fun s l => dropDir l s) t else t).time = t.time := by simp
  refine (dropped _).trans ((time_foldl (fun t l => ?_) ..).trans rfl)
  split
  · rfl
  · simp

@[simp] theorem time_accessHere (i : Issued) (address : Nat) (s : State) : (accessHere i address s).time = s.time := by
  unfold accessHere
  dsimp only
  repeat' split
  all_goals simp [nextStall]

@[simp] theorem time_fillCopy (a : EngineAccess) (address v : Nat) (s : State) :
    (fillCopy a address v s).time = s.time := by simp [fillCopy, drawFree]

@[simp] theorem time_accessAt (i : Issued) (address key : Nat) (r : Option Remote) (s : State) :
    (accessAt i address key r s).time = s.time := by
  unfold accessAt
  dsimp only
  repeat' split
  all_goals simp [drawFree]

@[simp] theorem time_startWalk (i : Issued) (s : State) : (startWalk i s).time = s.time := (rfl)

@[simp] theorem time_issue (i : Issued) (r : Option Remote) (s : State) : (issue i r s).time = s.time := by
  unfold issue
  dsimp only
  repeat' split
  all_goals simp [drawFree]

@[simp] theorem time_issueLoad (a : EngineAccess) (body : Nat) (r : Remote) (s : State) :
    (issueLoad a body r s).time = s.time := by simp [issueLoad]

@[simp] theorem time_issueStore (a : EngineAccess) (f : Feed) (ack : Status) (s : State) :
    (issueStore a f ack s).time = s.time := by
  unfold issueStore
  dsimp only
  split <;> simp

@[simp] theorem time_resumeTile (t : Nat) (s : State) : (resumeTile t s).time = s.time := (rfl)

@[simp] theorem time_fabricStore (unit : Nat) (rq : Req) (address n v key : Nat) (s : State) :
    (fabricStore unit rq address n v key s).2.time = s.time := by
  unfold fabricStore
  repeat' split
  all_goals simp

@[simp] theorem time_fabricWrite (rq : Req) (address n v key : Nat) (s : State) :
    (fabricWrite rq address n v key s).2.time = s.time := by simp [fabricWrite]

@[simp] theorem time_notifyFailed (s : State) : (notifyFailed s).time = s.time := by simp [notifyFailed]

@[simp] theorem time_setBox (die m : Nat) (x : Mailbox) (s : State) : (setBox die m x s).time = s.time := (rfl)

@[simp] theorem time_geyserWake (die m : Nat) (s : State) : (geyserWake die m s).time = s.time := by simp [geyserWake]

@[simp] theorem time_sendNotices (q m : Nat) (ns : List (Nat × Nat)) (s : State) :
    (sendNotices q m ns s).time = s.time := by simp [sendNotices]

@[simp] theorem time_postNotice (die m ptr tag : Nat) (s : State) : (postNotice die m ptr tag s).time = s.time := by
  unfold postNotice
  dsimp only
  split <;> simp

@[simp] theorem time_doorbellAt (off ptr tag : Nat) (s : State) : (doorbellAt off ptr tag s).2.time = s.time := by
  unfold doorbellAt
  dsimp only
  repeat' split
  all_goals simp

@[simp] theorem time_sendDoorbell (address key ptr tag tenant : Nat) (s : State) :
    (sendDoorbell address key ptr tag tenant s).2.time = s.time := by
  unfold sendDoorbell
  dsimp only
  repeat' split
  all_goals simp

@[simp] theorem time_notify (n value : Nat) (w : Waiter) (s : State) : (notify n value w s).time = s.time := by
  unfold notify
  split
  · exact time_resumeTile ..
  · rfl
  · split
    next t e => exact (time_of_eq e).trans (time_fabricWrite ..)
    next t _ e => exact (time_notifyFailed _).trans ((time_of_eq e).trans (time_fabricWrite ..))
  · split
    next t e => exact (time_of_eq e).trans (time_sendDoorbell ..)
    next t _ e => exact (time_notifyFailed _).trans ((time_of_eq e).trans (time_sendDoorbell ..))

@[simp] theorem time_setSync (n : Nat) (o : SyncObj) (s : State) : (setSync n o s).time = s.time := (rfl)

@[simp] theorem time_wakeWaiters (n : Nat) (s : State) : (wakeWaiters n s).time = s.time := by simp [wakeWaiters]

@[simp] theorem time_applySignal (n value : Nat) (owner : Option Nat) (operand : Nat) (g : Signaller) (s : State) :
    (applySignal n value owner operand g s).time = s.time := by simp [applySignal]

@[simp] theorem time_tileUnservable (t : Nat) (s : State) :
    (tileUnservable t s).time = s.time := by simp [tileUnservable]

@[simp] theorem time_tileSignalNow (t n operand : Nat) (s : State) : (tileSignalNow t n operand s).time = s.time := by
  unfold tileSignalNow
  split <;> simp

@[simp] theorem time_tileWaitNow (t n cond target : Nat) (s : State) :
    (tileWaitNow t n cond target s).2.time = s.time := by
  unfold tileWaitNow
  dsimp only
  repeat' split
  all_goals simp

@[simp] theorem time_tryStep (t : Nat) (op : SeqOp) (s : State) : (tryStep t op s).2.time = s.time := by
  unfold tryStep
  dsimp only
  repeat' split
  all_goals simp

theorem time_runSteps (t : Nat) (ops : List SeqOp) (s : State) : (runSteps t ops s).time = s.time := by
  induction ops generalizing s with
  | nil => rfl
  | cons op ops ih =>
    exact ite_view ((ih _).trans (time_tryStep ..)) ((time_setTile ..).trans (time_tryStep ..))

@[simp] theorem time_settleTile (t : Nat) (s : State) : (settleTile t s).time = s.time := time_runSteps ..

@[simp] theorem time_settleTiles (s : State) : (settleTiles s).time = s.time := by simp [settleTiles]

/-! ## The cycle itself -/

@[simp] theorem time_countService (s : State) : (countService s).time = s.time := by
  refine time_foldl (fun t e => ?_) ..
  repeat' split
  all_goals simp

@[simp] theorem time_flowOf (p : Nat) (s : State) : (flowOf p s).time = s.time := by simp [flowOf]

@[simp] theorem time_flow (s : State) : (flow s).time = s.time := by simp [flow]

/-! ## Requests that a queue pair carries -/

@[simp] theorem time_chargeC0 (rq : Req) (n : Nat) (s : State) : (chargeC0 rq n s).2.time = s.time := by
  unfold chargeC0
  dsimp only
  repeat' split
  all_goals simp

@[simp] theorem time_meterIn (rq : Req) (n : Nat) (s : State) : (meterIn rq n s).time = s.time := by
  unfold meterIn
  split <;> simp

@[simp] theorem time_refuse (rq : Req) (r : Refused) (s : State) : (refuse rq r s).time = s.time := by
  unfold refuse
  repeat' split
  all_goals simp

@[simp] theorem time_chargeBw (rq : Req) (n : Nat) (s : State) : (chargeBw rq n s).2.time = s.time := by
  unfold chargeBw
  dsimp only
  repeat' split
  all_goals simp

@[simp] theorem time_serve (rq : Req) (c : Checks) (n charge : Nat) (act : Req → State → State) (s : State)
    (hact : ∀ x t, (act x t).time = t.time) : (serve rq c n charge act s).time = s.time := by
  unfold serve
  split
  · split
    next rq' t e =>
    have charged := (time_of_eq e).trans (time_chargeC0 ..)
    split
    · exact (time_refuse ..).trans ((ite_view rfl (time_meterIn ..)).trans charged)
    · dsimp only
      have metered := (time_meterIn rq' n t).trans charged
      split
      next e => exact (time_completeWith ..).trans ((time_of_eq e).trans ((time_chargeBw ..).trans metered))
      next e => exact (hact ..).trans ((time_of_eq e).trans ((time_chargeBw ..).trans metered))
  · rfl

@[simp] theorem time_serveRead (op : Nat) (h : Hdr) (found : List (Nat × Nat)) (act : Req → State → State)
    (s : State) (hact : ∀ x t, (act x t).time = t.time) :
    (serveRead op h found act s).time = s.time := by simp [serveRead, hact]

@[simp] theorem time_orderedStart (rq : Req) (s : State) : (orderedStart rq s).time = s.time := by simp [orderedStart]

@[simp] theorem time_serveWrite (op : Nat) (h : Hdr) (data : Nat) (act : Req → State → State) (s : State)
    (hact : ∀ x t, (act x t).time = t.time) : (serveWrite op h data act s).time = s.time := by simp [serveWrite, hact]

@[simp] theorem time_popNotice (die m : Nat) (s : State) : (popNotice die m s).time = s.time := (rfl)

@[simp] theorem time_mbxAck (die m value : Nat) (s : State) : (mbxAck die m value s).2.time = s.time := by
  unfold mbxAck
  dsimp only
  split <;> simp

@[simp] theorem time_countFaults (q : Nat) (s : State) : (countFaults q s).time = s.time := (rfl)

@[simp] theorem time_writeFault (q seq : Nat) (f : FaultRec) (s : State) : (writeFault q seq f s).time = s.time := by
  unfold writeFault
  split <;> simp

@[simp] theorem time_tryFault (q seq : Nat) (f : FaultRec) (s : State) :
    (tryFault q seq f s).time = s.time := by simp [tryFault]

@[simp] theorem time_releaseHeld (q : Nat) (s : State) : (releaseHeld q s).time = s.time := by simp [releaseHeld]

@[simp] theorem time_abortAccess (i : Issued) (s : State) : (abortAccess i s).time = s.time := by simp [abortAccess]

@[simp] theorem time_xltService (die value : Nat) (tenant : Option Nat) (s : State) :
    (xltService die value tenant s).2.time = s.time := by
  unfold xltService
  dsimp only
  repeat' split
  all_goals simp

@[simp] theorem time_pageWrite (off v tenant : Nat) (s : State) : (pageWrite off v tenant s).2.time = s.time := by
  unfold pageWrite
  dsimp only
  repeat' split
  all_goals simp

@[simp] theorem time_doWrite (rq : Req) (s : State) : (doWrite rq s).time = s.time := by simp [doWrite]

@[simp] theorem time_doFlush (rq : Req) (s : State) : (doFlush rq s).time = s.time := by simp [doFlush]

@[simp] theorem time_finishAtomic (rq : Req) (s : State) : (finishAtomic rq s).time = s.time := by
  unfold finishAtomic
  dsimp only
  repeat' split
  all_goals simp

@[simp] theorem time_startAtomic (rq : Req) (s : State) : (startAtomic rq s).time = s.time := by simp [startAtomic]

@[simp] theorem time_serveSync (op : Nat) (h : Hdr) (body : Nat) (act : Req → State → State) (s : State)
    (hact : ∀ x t, (act x t).time = t.time) : (serveSync op h body act s).time = s.time := by simp [serveSync, hact]

@[simp] theorem time_blocked (rq : Req) (s : State) : (blocked rq s).time = s.time := by simp [blocked]

@[simp] theorem time_doSyncSet (rq : Req) (s : State) : (doSyncSet rq s).time = s.time := by simp [doSyncSet]

@[simp] theorem time_doSyncClaim (rq : Req) (s : State) : (doSyncClaim rq s).time = s.time := by
  unfold doSyncClaim
  dsimp only
  split <;> simp

@[simp] theorem time_doSyncRelease (rq : Req) (s : State) :
    (doSyncRelease rq s).time = s.time := by simp [doSyncRelease]

@[simp] theorem time_doSyncCancel (rq : Req) (s : State) : (doSyncCancel rq s).time = s.time := by simp [doSyncCancel]

@[simp] theorem time_doSyncAdd (rq : Req) (s : State) : (doSyncAdd rq s).time = s.time := by simp [doSyncAdd]

@[simp] theorem time_doWait (rq : Req) (s : State) : (doWait rq s).time = s.time := by simp [doWait]

@[simp] theorem time_doDoorbell (rq : Req) (s : State) : (doDoorbell rq s).time = s.time := by simp [doDoorbell]

@[simp] theorem time_doProbe (rq : Req) (s : State) : (doProbe rq s).time = s.time := by simp [doProbe]

@[simp] theorem time_serveAttn (h : Hdr) (body : Nat) (bad : Bool) (len : Option Nat) (badBody : Bool)
    (targets : List Nat) (act : Req → State → State) (s : State) (hact : ∀ x t, (act x t).time = t.time) :
    (serveAttn h body bad len badBody targets act s).time = s.time := by simp [serveAttn, hact]

@[simp] theorem time_withArena (rq : Req) (act : Arena → State → State) (s : State) (hact : ∀ x t,
    (act x t).time = t.time) :
    (withArena rq act s).time = s.time := by
  unfold withArena
  split <;> simp [hact]

theorem time_andThen (a : Status × State) (f : State → Status × State) (hf : ∀ t, (f t).2.time = t.time) :
    (andThen a f).2.time = a.2.time := by
  unfold andThen
  split
  · exact hf _
  · rfl

@[simp] theorem time_appendRow (rq : Req) (d page i n k : Nat) (s : State) :
    (appendRow rq d page i n k s).2.time = s.time := by
  refine time_foldl_snd (fun a j => ?_) ..
  split
  · exact time_andThen _ _ fun t => time_engineWrite ..
  · rfl

@[simp] theorem time_appendRows (rq : Req) (x : Arena) (s : State) : (appendRows rq x s).2.time = s.time := by
  have rows (l : List Nat) : (l.foldl (fun (a : Status × State) k =>
      match (apRows rq.body)[k]? with
      | some (i, g) => (match pendPage s x.desc (apLayer rq.body) g with
        | some page => andThen a (appendRow rq x.desc page i (apRows rq.body).length k)
        | none => a)
      | none => a) (.ok, s)).2.time = s.time := by
    refine time_foldl_snd (fun a k => ?_) ..
    split
    · split
      · exact time_andThen _ _ fun t => time_appendRow ..
      · rfl
    · rfl
  unfold appendRows
  dsimp only
  split
  · exact (time_bump ..).trans (rows _)
  · exact ite_view (time_raiseEvent ..) rfl

@[simp] theorem time_doAppend (rq : Req) (s : State) : (doAppend rq s).time = s.time := by
  refine time_withArena _ _ _ fun x t => ?_
  dsimp only
  repeat' split
  all_goals simp

@[simp] theorem time_nextAcc (s : State) : (nextAcc s).2.time = s.time := (rfl)

@[simp] theorem time_doCommit (rq : Req) (s : State) : (doCommit rq s).time = s.time := by simp [doCommit, nextAcc]

@[simp] theorem time_doDiscard (rq : Req) (s : State) : (doDiscard rq s).time = s.time := by simp [doDiscard]

@[simp] theorem time_countArenas (s : State) : (countArenas s).time = s.time := (rfl)

@[simp] theorem time_doArenaActivate (rq : Req) (s : State) :
    (doArenaActivate rq s).time = s.time := by simp [doArenaActivate]

@[simp] theorem time_doArenaDeactivate (rq : Req) (s : State) :
    (doArenaDeactivate rq s).time = s.time := by simp [doArenaDeactivate]

@[simp] theorem time_acceptAttend (rq : Req) (hs : List Nat) (s : State) :
    (acceptAttend rq hs s).time = s.time := by simp [acceptAttend, nextAcc]

@[simp] theorem time_doAttend (rq : Req) (s : State) : (doAttend rq s).time = s.time := by
  unfold doAttend
  dsimp only
  repeat' split
  all_goals simp

@[simp] theorem time_serveOryx (op : Nat) (bad : Nat → Bool) (h : Hdr) (body : Nat) (act : Req → State → State)
    (s : State) (hact : ∀ x t, (act x t).time = t.time) :
    (serveOryx op bad h body act s).time = s.time := by simp [serveOryx, hact]

@[simp] theorem time_doRows (rq : Req) (s : State) : (doRows rq s).time = s.time := by simp [doRows, nextAcc]

@[simp] theorem time_returnVersion (k v : Nat) (s : State) : (returnVersion k v s).time = s.time := (rfl)

@[simp] theorem time_setOtable (k : Nat) (f : OTable → OTable) (s : State) : (setOtable k f s).time = s.time := (rfl)

@[simp] theorem time_endTable (p : Posted) (acc : Nat) (st : Status) (version : Nat) (s : State) :
    (endTable p acc st version s).time = s.time := (rfl)

@[simp] theorem time_doTable (rq : Req) (s : State) : (doTable rq s).time = s.time := by simp [doTable, nextAcc]

@[simp] theorem time_serveSearch (op : Nat) (bad : Nat → Bool) (h : Hdr) (body : Nat) (act : Req → State → State)
    (s : State) (hact : ∀ x t, (act x t).time = t.time) :
    (serveSearch op bad h body act s).time = s.time := by simp [serveSearch, hact]

@[simp] theorem time_withIndex (rq : Req) (act : SIndex → State → State) (s : State) (hact : ∀ x t,
    (act x t).time = t.time) :
    (withIndex rq act s).time = s.time := by simp [withIndex, hact]

@[simp] theorem time_setIndex (n : Nat) (f : SIndex → SIndex) (s : State) : (setIndex n f s).time = s.time := (rfl)

@[simp] theorem time_fillTrigger (n : Nat) (s : State) : (fillTrigger n s).time = s.time := by simp [fillTrigger]

@[simp] theorem time_reserve (rq : Req) (slot : Nat) (s : State) :
    (reserve rq slot s).time = s.time := by simp [reserve, nextAcc]

@[simp] theorem time_doInsert (rq : Req) (s : State) : (doInsert rq s).time = s.time := by
  refine time_withIndex _ _ _ fun x t => ?_
  repeat' split
  all_goals simp

@[simp] theorem time_commandSignal (n operand requester tenant acc : Nat) (s : State) :
    (commandSignal n operand requester tenant acc s).time = s.time := by simp [commandSignal]

@[simp] theorem time_settleOwed (acc : Nat) (o : OwedSignal) (s : State) :
    (settleOwed acc o s).time = s.time := by simp [settleOwed]

@[simp] theorem time_oweSignal (acc n operand : Nat) (rq : Req) (s : State) :
    (oweSignal acc n operand rq s).time = s.time := (rfl)

@[simp] theorem time_oweRemote (acc package n operand : Nat) (rq : Req) (s : State) :
    (oweRemote acc package n operand rq s).time = s.time := (rfl)

@[simp] theorem time_attnSignal (acc package n operand : Nat) (rq : Req) (s : State) :
    (attnSignal acc package n operand rq s).time = s.time := by
  unfold attnSignal
  split <;> simp

@[simp] theorem time_endSearch (p : Posted) (acc : Nat) (o : SOut) (ack : Status) (s : State) :
    (endSearch p acc o ack s).time = s.time := by simp [endSearch]

@[simp] theorem time_doSearchDelete (rq : Req) (s : State) :
    (doSearchDelete rq s).time = s.time := by simp [doSearchDelete, nextAcc]

@[simp] theorem time_commitEntry (n pos slot kind : Nat) (s : State) :
    (commitEntry n pos slot kind s).time = s.time := by simp [commitEntry]

@[simp] theorem time_writeState (n : Nat) (s : State) : (writeState n s).time = s.time := by simp [writeState]

@[simp] theorem time_doIndex (rq : Req) (s : State) : (doIndex rq s).time = s.time := by
  unfold doIndex
  extract_lets b n
  split
  · dsimp only
    repeat' split
    all_goals simp [nextAcc]
  · refine time_withIndex _ _ _ fun x t => ?_
    dsimp only [nextAcc]
    repeat' split
    all_goals simp

@[simp] theorem time_doQuery (rq : Req) (s : State) : (doQuery rq s).time = s.time := by simp [doQuery, nextAcc]

@[simp] theorem time_withHandle (rq : Req) (h : Nat) (act : FnHandle → State → State) (s : State) (hact : ∀ x t,
    (act x t).time = t.time) :
    (withHandle rq h act s).time = s.time := by
  unfold withHandle
  split <;> simp [hact]

@[simp] theorem time_setSlot (k : Nat) (f : TableSlot → TableSlot) (s : State) : (setSlot k f s).time = s.time := (rfl)

@[simp] theorem time_pinPack (acc : Nat) (x : FnHandle) (b : Nat) (s : State) :
    (pinPack acc x b s).time = s.time := by simp [pinPack]

@[simp] theorem time_addCall (rq : Req) (acc h : Nat) (x : FnHandle) (s : State) :
    (addCall rq acc h x s).time = s.time := (rfl)

@[simp] theorem time_doInvoke (rq : Req) (s : State) : (doInvoke rq s).time = s.time := by
  unfold doInvoke
  dsimp only
  repeat' split
  all_goals simp [nextAcc]

@[simp] theorem time_serveCfg (op : Nat) (h : Hdr) (body : Nat) (act : Req → State → State) (s : State)
    (hact : ∀ x t, (act x t).time = t.time) : (serveCfg op h body act s).time = s.time := by simp [serveCfg, hact]

@[simp] theorem time_acceptCfg (rq : Req) (handle : Nat) (act : Nat → State → State) (s : State) (hact : ∀ x t,
    (act x t).time = t.time) :
    (acceptCfg rq handle act s).time = s.time := by simp [acceptCfg, nextAcc, hact]

@[simp] theorem time_countRegistry (s : State) : (countRegistry s).time = s.time := (rfl)

@[simp] theorem time_setCluster (c : Nat) (f : Cluster → Cluster) (s : State) :
    (setCluster c f s).time = s.time := (rfl)

@[simp] theorem time_writeRecord (acc : Nat) (rq : Req) (off n v : Nat) (s : State) :
    (writeRecord acc rq off n v s).time = s.time := by simp [writeRecord]

@[simp] theorem time_endPosted (rq : Req) (acc : Nat) (rec : Bool) (recOff n v : Nat) (sig : Bool)
    (object value : Nat) (s : State) :
    (endPosted rq acc rec recOff n v sig object value s).time = s.time := by simp [endPosted]

@[simp] theorem time_endCfg (p : Posted) (acc : Nat) (st : Status) (slot handle cl : Nat) (s : State) :
    (endCfg p acc st slot handle cl s).time = s.time := by simp [endCfg]

@[simp] theorem time_endLoad (j : LoadJob) (c : Nat) (st : Status) (s : State) : (endLoad j c st s).time = s.time := by
  unfold endLoad
  repeat' split
  all_goals simp

@[simp] theorem time_dropLoad (c : Nat) (s : State) : (dropLoad c s).time = s.time := by
  unfold dropLoad
  split <;> simp

@[simp] theorem time_retireEntry (n : Nat) (s : State) : (retireEntry n s).time = s.time := by simp [retireEntry]

@[simp] theorem time_doRetire (rq : Req) (s : State) : (doRetire rq s).time = s.time := by
  unfold doRetire
  dsimp only
  repeat' split
  all_goals simp

@[simp] theorem time_clearTiles (c : Nat) (s : State) :
    (clearTiles c s).time = s.time := time_foldl (fun _ _ => time_setTile ..) ..

@[simp] theorem time_startLoad (c : Nat) (s : State) : (startLoad c s).time = s.time := by
  unfold startLoad
  split <;> simp

@[simp] theorem time_assign (acc c : Nat) (e : RegEntry) (staged : Bool) (b tenant : Nat) (s : State) :
    (assign acc c e staged b tenant s).time = s.time := by simp [assign]

@[simp] theorem time_drainCluster (c : Nat) (s : State) : (drainCluster c s).time = s.time := (rfl)

@[simp] theorem time_releaseCluster (c : Nat) (s : State) :
    (releaseCluster c s).time = s.time := by simp [releaseCluster]

@[simp] theorem time_unassign (c : Nat) (s : State) : (unassign c s).time = s.time := by
  unfold unassign
  dsimp only
  split <;> simp

@[simp] theorem time_acceptLoad (rq : Req) (e : RegEntry) (acc : Nat) (s : State) :
    (acceptLoad rq e acc s).time = s.time := by
  unfold acceptLoad
  dsimp only
  repeat' split
  all_goals simp

@[simp] theorem time_doLoad (rq : Req) (s : State) : (doLoad rq s).time = s.time := by
  unfold doLoad
  dsimp only
  repeat' split
  all_goals simp

@[simp] theorem time_doUnbind (rq : Req) (s : State) : (doUnbind rq s).time = s.time := by
  unfold doUnbind
  dsimp only
  repeat' split
  all_goals simp

@[simp] theorem time_doRegister (rq : Req) (s : State) : (doRegister rq s).time = s.time := by
  unfold doRegister
  repeat' split
  all_goals simp

@[simp] theorem time_doPlace (rq : Req) (s : State) : (doPlace rq s).time = s.time := by
  unfold doPlace
  dsimp only
  repeat' split
  all_goals simp [nextAcc]

@[simp] theorem time_servePlace (op : Nat) (h : Hdr) (body : Nat) (s : State) :
    (servePlace op h body s).time = s.time := by simp [servePlace]

@[simp] theorem time_serveStream (op : Nat) (h : Hdr) (body : Nat) (act : Req → State → State) (s : State)
    (hact : ∀ x t, (act x t).time = t.time) : (serveStream op h body act s).time = s.time := by simp [serveStream, hact]

@[simp] theorem time_endStream (p : Posted) (acc : Nat) (st : Status) (slot gen done : Nat) (s : State) :
    (endStream p acc st slot gen done s).time = s.time := by simp [endStream]

theorem time_peekWait (id : Nat) (lines : List Nat) (s t : State) (e : peekWait id lines s = some t) :
    t.time = s.time := by
  unfold peekWait at e
  dsimp only at e
  split at e
  · cases e
  · cases e
    simp [nextTxn]

@[simp] theorem time_view (id : Nat) (s : State) : (view id s).time = s.time := by simp [view]

@[simp] theorem time_unpeek (id : Nat) (s : State) : (unpeek id s).time = s.time := (rfl)

/-- The state that a fetch leaves, whether it goes on or waits. -/
def Fetched.left : Fetched → State
  | .wait s => s
  | .got _ _ s => s

theorem time_fetchHere (id off n : Nat) (s : State) : (fetchHere id off n s).left.time = s.time := by
  unfold fetchHere
  split
  · rfl
  extract_lets asleep far ls t
  split
  · simp [Fetched.left]
  split
  · simp [Fetched.left]
  split
  next w e => exact (time_peekWait _ _ _ _ e).trans (time_poisonDead ..)
  · split <;> simp [Fetched.left, t]

theorem time_fetchHere_of_eq {id off n : Nat} {s : State} {r : Fetched} (e : fetchHere id off n s = r) :
    r.left.time = s.time :=
  e ▸ time_fetchHere ..

@[simp] theorem time_readImage (k : Nat) (s : State) : (readImage k s).time = s.time := by
  unfold readImage
  extract_lets t
  split
  · rfl
  · split
    · rfl
    · extract_lets fail
      have failed (st : Status) (w : State) : (fail st w).time = w.time := by simp [fail]
      split
      next e => exact time_fetchHere_of_eq e
      next w e =>
        have read := time_fetchHere_of_eq e
        exact ite_view ((time_setSlot ..).trans read) ((failed ..).trans read)
      next e => exact (failed ..).trans (time_fetchHere_of_eq e)

@[simp] theorem time_doInstall (rq : Req) (s : State) : (doInstall rq s).time = s.time := by simp [doInstall, nextAcc]

@[simp] theorem time_doSlotRetire (rq : Req) (s : State) :
    (doSlotRetire rq s).time = s.time := by simp [doSlotRetire, nextAcc]

@[simp] theorem time_refuseStream (rq : Req) (st : Status) (s : State) :
    (refuseStream rq st s).time = s.time := by simp [refuseStream]

@[simp] theorem time_doStreamRead (rq : Req) (s : State) : (doStreamRead rq s).time = s.time := by
  unfold doStreamRead
  dsimp only
  repeat' split
  all_goals simp [nextAcc]

@[simp] theorem time_serveInval (scope : Nat) (h : Hdr) (body : Nat) (act : Req → State → State) (s : State)
    (hact : ∀ x t, (act x t).time = t.time) : (serveInval scope h body act s).time = s.time := by simp [serveInval, hact]

@[simp] theorem time_dropXlt (b : Nat) (s : State) : (dropXlt b s).time = s.time := (rfl)

@[simp] theorem time_doInval (rq : Req) (s : State) : (doInval rq s).time = s.time := by simp [doInval, nextAcc]

@[simp] theorem time_drawRanges (s : State) : (drawRanges s).time = s.time := by simp [drawRanges, drawFree]

@[simp] theorem time_doDma (rq : Req) (s : State) : (doDma rq s).time = s.time := by
  unfold doDma
  dsimp only
  split <;> simp [nextAcc]

@[simp] theorem time_serveCoh (op : Nat) (h : Hdr) (data perm : Nat) (act : Req → State → State) (s : State)
    (hact : ∀ x t, (act x t).time = t.time) : (serveCoh op h data perm act s).time = s.time := by simp [serveCoh, hact]

@[simp] theorem time_recallLine (line : Nat) (s : State) : (recallLine line s).time = s.time := by
  unfold recallLine
  split <;> simp [nextTxn]

@[simp] theorem time_cachingRead (rq : Req) (owns : Bool) (act : Nat → State → State) (s : State)
    (hact : ∀ x t, (act x t).time = t.time) : (cachingRead rq owns act s).time = s.time := by
  unfold cachingRead
  dsimp only
  repeat' split
  all_goals simp [hact]

@[simp] theorem time_startTimers (line a : Nat) (s : State) : (startTimers line a s).time = s.time := (rfl)

@[simp] theorem time_acknowledge (line : Nat) (h : Hdr) (s : State) : (acknowledge line h s).time = s.time := by
  unfold acknowledge
  split <;> simp

@[simp] theorem time_finalGrant (rq : Req) (line grant len : Nat) (s : State) :
    (finalGrant rq line grant len s).time = s.time := by simp [finalGrant]

@[simp] theorem time_setDir (line : Nat) (e : DirEntry) (s : State) : (setDir line e s).time = s.time := (rfl)

@[simp] theorem time_doRdShared (rq : Req) (s : State) : (doRdShared rq s).time = s.time := by
  refine time_cachingRead _ _ _ _ fun a t => ?_
  dsimp only
  repeat' split
  all_goals simp [nextTxn]

@[simp] theorem time_doRdOwn (upgrade : Bool) (rq : Req) (s : State) : (doRdOwn upgrade rq s).time = s.time := by
  refine time_cachingRead _ _ _ _ fun a t => ?_
  dsimp only
  repeat' split
  all_goals simp [nextTxn]

@[simp] theorem time_dapFinishKey (key : Nat) (st : Status) (hint : Nat) (s : State) :
    (dapFinishKey key st hint s).time = s.time := answerBlind_time.dapFinishKey ..

@[simp] theorem time_settleDissolve (s : State) : (settleDissolve s).time = s.time := by simp [settleDissolve]

@[simp] theorem time_writeLine (line v : Nat) (s : State) : (writeLine line v s).time = s.time := by simp [writeLine]

@[simp] theorem time_writeHome (rq : Req) (line v : Nat) (s : State) :
    (writeHome rq line v s).time = s.time := by simp [writeHome]

@[simp] theorem time_keepId (id fresh : Nat) (s : State) : (keepId id fresh s).time = s.time := by
  unfold keepId
  split <;> simp

@[simp] theorem time_finishRdmaRead (rq : Req) (fresh : Tab Nat) (bad : Bool) (s : State) :
    (finishRdmaRead rq fresh bad s).time = s.time := by simp [finishRdmaRead]

@[simp] theorem time_finishRdmaWrite (rq : Req) (s : State) :
    (finishRdmaWrite rq s).time = s.time := by simp [finishRdmaWrite]

@[simp] theorem time_finishOp (o : OpenReq) (s : State) : (finishOp o s).time = s.time := by
  unfold finishOp
  repeat' split
  all_goals simp

@[simp] theorem time_finishOpen (id : Nat) (s : State) : (finishOpen id s).time = s.time := by
  unfold finishOpen
  split <;> simp

@[simp] theorem time_snoopGone (id key : Nat) (fresh : Option (Nat × Nat)) (bad : Bool) (s : State) :
    (snoopGone id key fresh bad s).time = s.time := by
  unfold snoopGone
  dsimp only
  split <;> simp

@[simp] theorem time_mergeLine (x : Snoop) (v : Nat) (s : State) :
    (mergeLine x v s).time = s.time := by simp [mergeLine]

@[simp] theorem time_sendGrant (h : Hdr) (txn grant len line : Nat) (bad : Bool) (s : State) :
    (sendGrant h txn grant len line bad s).time = s.time := by
  unfold sendGrant
  split <;> simp

@[simp] theorem time_snoopDone (key : Nat) (x : Snoop) (data : Option Nat) (forwarded bad : Bool) (s : State) :
    (snoopDone key x data forwarded bad s).time = s.time := by
  unfold snoopDone
  repeat' split
  all_goals simp

@[simp] theorem time_doWbDirty (rq : Req) (s : State) : (doWbDirty rq s).time = s.time := by
  unfold doWbDirty
  dsimp only
  repeat' split
  all_goals simp

@[simp] theorem time_doEvictClean (rq : Req) (s : State) : (doEvictClean rq s).time = s.time := by
  unfold doEvictClean
  dsimp only
  split <;> simp

@[simp] theorem time_doComposeRemoveEntry (rq : Req) (s : State) : (doComposeRemoveEntry rq s).time = s.time := by
  unfold doComposeRemoveEntry
  dsimp only
  repeat' split
  all_goals simp

@[simp] theorem time_doComposeAdvance (rq : Req) (s : State) :
    (doComposeAdvance rq s).time = s.time := by simp [doComposeAdvance]

@[simp] theorem time_doComposeSetEntry (rq : Req) (s : State) : (doComposeSetEntry rq s).time = s.time := by
  unfold doComposeSetEntry
  dsimp only
  repeat' split
  all_goals simp

@[simp] theorem time_doOwner (rq : Req) (s : State) : (doOwner rq s).time = s.time := by simp [doOwner]

@[simp] theorem time_performSync (h : Hdr) (body : Nat) (s : State) :
    (after s (performSync h body s)).time = s.time := by
  unfold performSync
  split <;> simp [after, execSyncAdd, execSyncClaim, execSyncCancel, execSyncSet, execSyncRelease]

@[simp] theorem time_performAttn (h : Hdr) (body : Nat) (s : State) :
    (after s (performAttn h body s)).time = s.time := by
  unfold performAttn
  repeat' split
  all_goals simp [after, execAttend, execDiscard, execArenaDeactivate, execCommit, execArenaActivate, execAppend]

@[simp] theorem time_performOryx (h : Hdr) (body : Nat) (s : State) :
    (after s (performOryx h body s)).time = s.time := by
  unfold performOryx
  repeat' split
  all_goals simp [after, execTableDeactivate, execPool, execOryxDelete, execScatter, execTableReplace, execUpdate,
    execTableActivate, execGather]

@[simp] theorem time_performSearch (h : Hdr) (body : Nat) (s : State) :
    (after s (performSearch h body s)).time = s.time := by
  unfold performSearch
  repeat' split
  all_goals simp [after, execQuery, execInsert, execIndexActivate, execIndexMerge, execIndexDeactivate, execSearchDelete]

@[simp] theorem time_performCfg (h : Hdr) (body : Nat) (s : State) : (after s (performCfg h body s)).time = s.time := by
  unfold performCfg
  split <;> simp [after, execRegister, execLoad, execUnbind, execConfigRetire]

@[simp] theorem time_performPlace (h : Hdr) (body : Nat) (s : State) :
    (after s (performPlace h body s)).time = s.time := by
  unfold performPlace
  split <;> simp [after, execMigrate, execSetPolicy, execShadowValidate, execShadowRegister, execObjectActivate,
    execShadowRetire, execObjectDeactivate]

@[simp] theorem time_performStream (h : Hdr) (body : Nat) (s : State) :
    (after s (performStream h body s)).time = s.time := by
  unfold performStream
  split <;> simp [after, execStreamRead, execTableInstall, execTableSlotRetire]

@[simp] theorem time_performCompose (h : Hdr) (body : Nat) (s : State) :
    (after s (performCompose h body s)).time = s.time := by
  unfold performCompose
  split <;> simp [after, execComposeRemoveEntry, execComposeSetEntry, execComposeAdvance]

@[simp] theorem time_performOpcode (op : Nat) (h : Hdr) (body data : Nat) (s : State) :
    (performOpcode op h body data s).time = s.time := by
  unfold performOpcode
  split
  case h_8 => exact time_performSync ..
  case h_12 => exact time_performAttn ..
  case h_13 => exact time_performOryx ..
  case h_14 => exact time_performSearch ..
  case h_16 => exact time_performCfg ..
  case h_17 => exact time_performPlace ..
  case h_18 => exact time_performStream ..
  case h_19 => split <;> simp [after, execInvalContext, execInvalPages]
  case h_26 => exact time_performCompose ..
  all_goals simp [after, execDoorbell, execInvoke, execRead, execReadAcq, execUpgrade, execEvictClean, execProbe,
    execUnknownOpcode, execAtomic, execWriteRel, execWrite, execOwner, execWait, execRdShared, execDmaCopy, execRdOwn,
    execPublish, execFlush, execWbDirty]

@[simp] theorem time_runSend (q opcode : Nat) (h : Hdr) (body data : Nat) (s : State) :
    (runSend q opcode h body data s).time = s.time := by simp [runSend]

/-! ## One-sided operations -/

theorem time_rdmaCharge (rq : Req) (n : Nat) (s t : State) (e : rdmaCharge rq n s = some t) :
    t.time = s.time := by
  unfold rdmaCharge at e
  dsimp only at e
  repeat' split at e
  all_goals cases e
  all_goals simp

@[simp] theorem time_runRead (q : Nat) (r : RdmaReq) (found : List (Nat × Nat)) (at_ : Nat) (s : State) :
    (runRead q r found at_ s).2.time = s.time := by
  unfold runRead
  extract_lets n rq off k wakeUp ls
  split
  · exact time_complete ..
  split
  · exact time_complete ..
  split
  · split <;> simp
  split
  · exact time_complete ..
  have woken (t : State) : (wakeUp t).time = t.time := by simp [wakeUp]
  split
  · exact woken _
  split
  · rfl
  split
  · rfl
  next t e =>
    have charged : t.time = s.time := by
      split at e
      · exact time_rdmaCharge _ _ _ _ e
      · rw [Option.some.inj e]
    dsimp only
    split <;> simp [woken, charged]

theorem time_rdmaWaits (off n : Nat) (write : List Nat) (s t : State) (e : rdmaWaits off n write s = some t) :
    t.time = s.time := by
  unfold rdmaWaits at e
  dsimp only at e
  repeat' split at e
  all_goals cases e
  all_goals simp

@[simp] theorem time_runWrite (q : Nat) (r : RdmaReq) (data : Nat) (s : State) :
    (runWrite q r data s).2.time = s.time := by
  unfold runWrite
  extract_lets n rq off
  split
  · exact time_complete ..
  split
  · exact time_complete ..
  split
  · simp
  split
  · exact time_complete ..
  split
  next t e => exact time_rdmaWaits _ _ _ _ _ e
  split
  · exact time_noFrame ..
  split
  · rfl
  next t e => simp [time_rdmaCharge _ _ _ _ e]

@[simp] theorem time_runAtomic (q : Nat) (r : RdmaReq) (body : Nat) (s : State) :
    (runAtomic q r body s).2.time = s.time := by
  unfold runAtomic
  extract_lets rq off
  split
  · exact time_complete ..
  split
  · exact time_complete ..
  split
  · exact time_complete ..
  split
  next t e => exact time_rdmaWaits _ _ _ _ _ e
  split
  · exact time_noFrame ..
  split
  · rfl
  next t e => simp [time_rdmaCharge _ _ _ _ e]

@[simp] theorem time_runOp (q : Nat) (op : EthOp) (s : State) : (runOp q op s).2.time = s.time := by
  unfold runOp
  split <;> simp

theorem time_runQp (q n : Nat) (s : State) : (runQp q n s).time = s.time := by
  induction n generalizing s with
  | zero => rfl
  | succ n ih =>
    unfold runQp
    split
    · rfl
    split
    · refine (ih _).trans ?_
      split <;> simp
    split
    · rfl
    split
    next t e => exact (ih _).trans ((time_of_eq e).trans ((time_runOp ..).trans (time_setQp ..)))
    next t e =>
      have run := (time_of_eq e).trans ((time_runOp ..).trans (time_setQp ..))
      exact ite_view ((time_setQp ..).trans run) run

@[simp] theorem time_runQps (s : State) :
    (runQps s).time = s.time := (time_flow _).trans (time_foldl (fun _ _ => time_runQp ..) ..)

/-- A cycle with the input present advances the counter by 20 ns, and counts service where a microsecond ends. -/
theorem time_idle {s : State} (on : s.pkg ≠ .off) : (idle s).time = (s.time + 20) % 2 ^ 64 := by
  unfold idle
  rw [if_neg on]
  exact ite_view (p := State.time) (s := advance 20 s) rfl (time_countService _)

theorem time_tick (s : State) : (tick s).time = if s.pkg = .off then s.time else (s.time + 20) % 2 ^ 64 := by
  unfold tick
  split
  · rfl
  next on =>
    have work : (takeAcks (settleTiles (idle s))).time = (s.time + 20) % 2 ^ 64 :=
      (time_takeAcks _).trans ((time_settleTiles _).trans (time_idle on))
    exact (ite_view rfl (time_runQps _)).trans work

/-- Settles O2: nothing but the cycle's own advance writes the time counter, and a cycle keeps what every command keeps. -/
theorem emptyQueueTicks : Obligations.EmptyQueueTicks := by
  intro s empty
  have kept := keeps_tick (b0 := true) s (.refl s)
  exact ⟨tick s, step_of_empty empty, kept.pending.trans empty, time_tick s, kept.custody rfl, kept.out⟩

end Sys2Proof.Machine
